-- ==== Sys2Proof/Word.lean ====
section
/-! DEFINITION. The word types of the model and their plainest arithmetic (spec/00_scope.md R8: bit 0 is the
least significant bit, multi-byte values are little-endian). -/

namespace Sys2Proof

/-- A byte. -/
abbrev Byte := BitVec 8

/-- A register word: every register is 32 bits wide (00_scope.md, "Registers"). -/
abbrev W32 := BitVec 32

/-- A 64-byte line of memory, the unit CXL.mem moves (02_host_ports.md R53). -/
abbrev Line := BitVec 512

/-- A 256-bit secret, digest or nonce (16_security.md). -/
abbrev W256 := BitVec 256

end Sys2Proof
end

