-- ==== Sys2Proof/Syntax.lean ====
section
/-! DEFINITION. Syntax.lean: the commands of the block, one constructor per row of spec/opcode_table.json in the
table's order. A command's operands are what the row's event brings with it; what the block itself knows is read from
the state. -/

namespace Sys2Proof

/-- A register access: the head it comes through and whether it is IDE-protected, or the sideband endpoint
(15_registers.md R430, R437; 16_security.md R448). -/
structure Access where
  /-- head the access arrives at, 0 to 7. -/
  head : Nat
  /-- R448: in MLD operation, the LD whose function the access targets; 0 otherwise. -/
  ld : Nat := 0
  /-- the request came on a stream in the secure IDE state (R448). -/
  ide : Bool := false
  /-- the access comes from the sideband endpoint (R343). -/
  sideband : Bool := false
  deriving DecidableEq, Repr

/-- A Porter command: the ring it was placed in and its CID (14_command_rings.md R413). -/
structure PortCmd where
  /-- ring 0 to 63. -/
  ring : Nat
  /-- command identifier. -/
  cid : Nat
  deriving DecidableEq, Repr

/-- How far the programs of a running Parameter Store commit had come (17_guestbook_parameter_store.md R493). -/
inductive CommitCut where
  | beforeMarkerA | betweenCopies | done
  deriving DecidableEq, Repr

/-- A submission descriptor as its bytes give it (14_command_rings.md R413). -/
structure DescWord where
  /-- bytes 0 and 1. -/
  opcode : Nat
  /-- bytes 2 and 3. -/
  cid : Nat
  /-- byte 4. -/
  flags : Nat
  /-- bytes 5 to 7. -/
  rsv : Nat
  /-- bytes 8 to 63, packed under R414. -/
  params : BitVec 448
  deriving DecidableEq, Repr

/-- What the array reads of one line met (08_integrity.md R250, R251): by read, the symbols in error with the value
XORed into each; a read not listed met none. The first is the read itself, then the ladder's re-reads in order. -/
structure LineErr where
  /-- line 0 to 67. -/
  line : Nat
  /-- symbol position 0 to 71 and value, per read. -/
  reads : List (List (Nat × Nat)) := []
  /-- dies flagged by the margin report. -/
  flags : Nat := 0
  deriving DecidableEq, Repr

/-- Upsets a lookup meets (05_front_store.md R163 to R166, 07_translation.md R203, R208). -/
structure Upset where
  /-- bits flipped in the tag word of a way of the set. -/
  tagWay : Nat := 0
  /-- those bits; 0 is none. -/
  tagBits : Nat := 0
  /-- the rewritten tag word fails again. -/
  hard : Bool := false
  /-- symbols in error in the frame's line. -/
  lineSyms : Nat := 0
  /-- symbols in error in the way's metadata line. -/
  metaSyms : Nat := 0
  /-- the STC entry fails parity. -/
  stc : Bool := false
  /-- the map line is uncorrectable. -/
  map : Bool := false
  /-- R203: the map word is read with STATE 0b111. -/
  mapCode : Bool := false
  /-- 06_medium.md R182: the program on the read's plane is still in its data-in. -/
  dataIn : Bool := false
  deriving DecidableEq, Repr

/-- What the training of one rank of a channel found (06_medium.md R189, R194 to R196). -/
structure TrainRank where
  /-- R196: dies that failed a step, one bit per die. -/
  failed : Nat := 0
  /-- R178: READ_ID pages 0 and 1 of dies 0 to 8. -/
  ids : List (Nat × Nat) := []
  /-- R195: cells misread, by calibration page chosen, by reference, by offset from −24 to +24 in steps of 2. -/
  sweeps : List (List (List Nat)) := []
  deriving DecidableEq, Repr

/-- A Caravan frame as a head receives it, its payload decrypted (09_caravan.md R289 to R291). -/
structure CarFrame where
  /-- head it arrives at. -/
  head : Nat
  /-- R289: the write had the size and alignment of a frame. -/
  whole : Bool := true
  /-- R291: the tag verifies. -/
  tagOk : Bool := true
  /-- GROUP. -/
  group : Nat
  /-- SRC. -/
  src : Nat
  /-- DST. -/
  dst : Nat
  /-- FLAGS RESENT. -/
  resent : Bool := false
  /-- FLAGS LAST. -/
  last : Bool := true
  /-- FLAGS QROLE. -/
  isQ : Bool := false
  /-- FRAG. -/
  frag : Nat := 0
  /-- SEQ. -/
  seq : Nat
  /-- STRIPE. -/
  stripe : Nat := 0
  /-- JPOS. -/
  jpos : Nat := 0
  /-- MEMBER. -/
  member : Nat := 0
  /-- STATUS. -/
  status : Nat := 0
  /-- LINE_MASK. -/
  mask : Nat := 0
  /-- payload. -/
  lines : List Line := []
  deriving DecidableEq, Repr

/-- 16_security.md R449: a firmware image: the fields of its header, and what the checks of R450 find in the rest of it. -/
structure FwImage where
  /-- bytes 0–3. -/
  magic : Nat := 0x4B435A46
  /-- byte 4. -/
  format : Nat := 1
  /-- byte 5: bit 0 RAISE_FLOOR (R452). -/
  flags : Nat := 0
  /-- bytes 6–7: SVN. -/
  svn : Nat := 0
  /-- bytes 8–11: VERSION. -/
  version : Nat := 0x00010000
  /-- bytes 12–15: LENGTH. -/
  length : Nat := 4096
  /-- byte 16: KEY_SLOT. -/
  keySlot : Nat := 0
  /-- byte 17: SECTIONS. -/
  sections : Nat := 1
  /-- bytes 18–63 and 516–1,023 are 0. -/
  zeroed : Bool := true
  /-- SHAKE256 of PUBKEY, bytes 64–131. -/
  pubHash : BitVec 256 := 0
  /-- SIGNATURE verifies over bytes 0 to 1,023. -/
  sigOk : Bool := true
  /-- bit i: the digest of section i differs from its entry of SECTION_TABLE. -/
  badSections : Nat := 0
  /-- SHAKE256 of bytes 0 to 1,023 (R457). -/
  digest : BitVec 256 := 0
  deriving DecidableEq, Repr

/-- A CXL.mem request as a head receives it (02_host_ports.md R53). -/
structure MemReq where
  /-- receiving head. -/
  head : Nat
  /-- R75. -/
  tag : Nat
  /-- LD-ID. -/
  ld : Nat
  /-- host physical address. -/
  hpa : Nat
  /-- R54: MetaField is set. -/
  metaField : Bool := false
  /-- R62: the flit passed its IDE check. -/
  ideOk : Bool := true
  /-- upsets met at the owning tile. -/
  upset : Upset := {}
  /-- R86: latency in ns when the response leaves in this step. -/
  latNs : Nat := 0
  /-- R82: the plane and GDDR7 are otherwise idle. -/
  idle : Bool := false
  deriving DecidableEq, Repr


/-- 03_transactions.md R96: the PCIe Completion Timeout ranges that Device Control 2 selects. -/
inductive CtoRange where
  | default | a1 | a2 | b1 | b2 | c1 | c2 | d1 | d2
  deriving DecidableEq, Repr

/-- The commands: one per row of spec/opcode_table.json. Each docstring gives the row's mnemonic, its rule and summary. -/
inductive Instr where
  /-- ISLAND_POWER_ON (R313): VAUX rises within its limits; the always-on island leaves reset, samples straps, restores the Guestbook and Parameter Store, and the package enters Standby. -/
  | islandPowerOn (straps : Nat) (badCirc badPerm : List Nat)
  /-- VAUX_LOSS (R313): VAUX is lost and the package goes to Off. -/
  | vauxLoss (cut : CommitCut)
  /-- ON_REQUEST (R314): An on request is recognised; it starts Bring-up when the conditions hold or stays latched. -/
  | onRequest (source : Nat)
  /-- ON_REQUEST_LATCHED_START (R314): A latched on request starts Bring-up once FAULT is clear and 100 ms have passed since the rails went down. -/
  | onRequestLatchedStart
  /-- SLOT_UP_DELAY_EXPIRE (R338): A slot's UP_DELAY expires and its SEQ_EN_x is driven high. -/
  | slotUpDelayExpire (us : Nat)
  /-- SLOT_QUALIFIED (R337): PG_x has been high for 8 samples and the STAB window, qualifying the slot and advancing the sequence. -/
  | slotQualified (stableUs : Nat)
  /-- SLOT_PG_TIMEOUT (R337): PG_TMAX expires before qualification; the slot fails with KIND TIMEOUT. -/
  | slotPgTimeout (us : Nat)
  /-- RAIL_FAILURE (R341): A rail failure takes the rails down fast, latches PWR_FAULT and enters Standby without a flush. -/
  | railFailure (slot : Nat)
  /-- SLOT_DOWN_DELAY_EXPIRE (R340): A slot's DOWN_DELAY, or the 10 µs fast gap, expires and the next slot is taken low; power-down ends with the last slot. -/
  | slotDownDelayExpire (us : Nat)
  /-- PWR_FAULT_CLEAR (R343): A privileged W1C write or sideband FAULT_CLEAR clears FAULT and records GB_PWR_FAULT_CLEAR. -/
  | pwrFaultClear (acc : Access)
  /-- POWER_BUTTON_SHORT (R345): A short press of PWRBTN_N is acted on at its release by mode. -/
  | powerButtonShort
  /-- POWER_BUTTON_LONG (R345): A press held for LONG_PRESS starts Hold-up with CAUSE 0b010, applies the cap, or is an off request. -/
  | powerButtonLong (heldMs : Nat) (old : Bool)
  /-- MRST (R346): MRST_N is recognised after 1 µs low and causes a warm reset, is latched or ignored by mode. -/
  | mrst
  /-- PWRFAIL_INPUT_LOSS (R347): PWRFAIL_N low for 1 µs counts as input loss and enters shed stage 3. -/
  | pwrfailInputLoss
  /-- SENSE_SAMPLE (R348): VIN_SENSE and HOLD_SENSE are sampled every 1 µs and shed-stage entry conditions are judged. -/
  | senseSample (vin hold : Nat)
  /-- SHED_STAGE_LEAVE (R359): The 50 ms window of stage 1 or 2 ends with VIN above threshold plus hysteresis and the stage's actions are undone. -/
  | shedStageLeave (stage : Nat)
  /-- SHED_STAGE4_ENTER (R358): Step H4 has ended on every tile; stage 4 runs steps H5 to H8. -/
  | shedStage4Enter (elapsedMs : Nat)
  /-- MEASURED_LIMIT_RECOMPUTE (R351): The measured dirty limit is recomputed every 1 ms, or every 10 µs in shed stage 2. -/
  | measuredLimitRecompute
  /-- HOLDUP_TEST_START (R353): A due or requested hold-up test starts, inhibiting the charger and taking V0. -/
  | holdupTestStart (rise v0 v1 : Nat)
  /-- HOLDUP_TEST_FALL (R354): The fall reaches HOLD_DV or HOLD_TMAX passes; the load is removed and the outcome decided. -/
  | holdupTestFall (dtNs fall : Nat)
  /-- HOLD_CHG_WAIT_EXPIRE (R353): At Bring-up the bank is not settled within HOLD_CHG_MAX and the test ends FAILED. -/
  | holdChgWaitExpire (sec : Nat)
  /-- HOLDUP_TEST (R361): Command that runs a hold-up test and reports capacitance, ESR, usable energy and limit. -/
  | holdupTest (pc : PortCmd) (rise v0 v1 : Nat)
  /-- SET_SHED_LEVELS (R361): Command that sets the VIN shed thresholds and hysteresis, optionally persisting them. -/
  | setShedLevels (pc : PortCmd) (warn1 warn2 pfail hyst : Nat) (persist : Bool)
  /-- POWER_OFF_REQUEST (R361): Command that starts the graceful Hold-up with CAUSE 0b001. -/
  | powerOffRequest (pc : PortCmd) (noGrace : Bool)
  /-- OFF_GRACE_EXPIRE (R540): OFF_GRACE ends; CXL.mem is refused and Hold-up starts if the checkpoint has also ended. -/
  | offGraceExpire (ms : Nat)
  /-- SHUTDOWN_CHECKPOINT_DONE (R540): The shutdown checkpoint of every tile ends; Hold-up starts if OFF_GRACE has also ended. -/
  | shutdownCheckpointDone
  /-- SHUTDOWN_DEADLINE_EXPIRE (R540): One second after the trigger Hold-up starts however far the checkpoint has come. -/
  | shutdownDeadlineExpire
  /-- HOLDUP_ENTRY (R322): Hold-up is entered: trackers, allocation, fills and schedule stop and the flush begins on every tile. -/
  | holdupEntry (cause : Nat)
  /-- HOLDUP_COMPLETE (R324): The Parameter Store commit of step H7 ends; stage 4 is reached and the rails go down or Bring-up follows. -/
  | holdupComplete (elapsedMs : Nat)
  /-- HOLDUP_CAP_EXPIRE (R326): The force-off cap of (0.9 × u) ÷ p_h expires and the package acts as at the program reserve. -/
  | holdupCapExpire (sinceMs : Nat)
  /-- WARM_RESET (R315): A warm reset runs the flush, wipes tile memories and restarts Bring-up at step 2 without taking the rails down. -/
  | warmReset (cause : Nat)
  /-- PLL_LOCK (R367): A PLL stays locked for 1,024 reference cycles and its domain may leave reset. -/
  | pllLock (tile pll : Nat)
  /-- PLL_LOCK_TIMEOUT (R367): A PLL fails to lock within 500 µs and is restarted once or counts as a tile self-test failure. -/
  | pllLockTimeout (tile pll : Nat)
  /-- TILE_SELF_TEST_DONE (R316): Built-in self-test of the tiles ends and the primary is chosen. -/
  | tileSelfTestDone (failed : Nat) (badWays : List (Nat × Nat))
  /-- CHANNEL_TRAINING_DONE (R194): A media channel finishes training and drift calibration and goes up or fails. -/
  | channelTrainingDone (tile ch step cs : Nat) (ranks : List TrainRank) (temp : Option Int)
  /-- SECTION_LOAD_CHECK (R450): A later firmware section is checked at load; a failure marks the slot BAD and starts a warm reset. -/
  | sectionLoadCheck (ok : Bool)
  /-- BOOT_WATCHDOG_EXPIRE (R451): Step 13 is not reached within 300 s and the boot ROM starts a warm reset. -/
  | bootWatchdogExpire
  /-- GDDR7_TRAINING_DONE (R167): GDDR7 is trained and the front-store and service regions zero-filled. -/
  | gddr7TrainingDone (tile : Nat) (fail : Bool) (gbits : List Nat)
  /-- MAP_RESTORE_DONE (R237): A tile finishes restoring its map from checkpoint and journal. -/
  | mapRestoreDone (tile : Nat) (lost conflict clearFails keysBad : List Nat) (trngOk : Bool)
  /-- BRINGUP_COMPLETE (R317): Every condition holds at step 13; SHUTDOWN_STATE is committed and the mode is chosen. -/
  | bringupComplete (elapsedMs : Nat)
  /-- GET_MODE (R334): Command that returns the mode, causes, primary, failed and Sealed tiles. -/
  | getMode (pc : PortCmd)
  /-- SET_MODE (R334): Command that moves to Service, back to operation or restarts. -/
  | setMode (pc : PortCmd) (target : Nat)
  /-- SERVICE_DRAIN_COMPLETE (R319): No tracker entry holds a CXL.mem request and the mode becomes Service. -/
  | serviceDrainComplete (windowUs : Nat)
  /-- HEARTBEAT_SEND (R275): Every tile sends a heartbeat every 100 µs in the SYNC class. -/
  | heartbeatSend (tile : Nat) (answers : Bool)
  /-- HEARTBEAT_MISS (R275): Three consecutive heartbeats are missed and the tile is declared failed. -/
  | heartbeatMiss (tile : Nat) (answers : Bool)
  /-- PRIMARY_FAILOVER (R327): Tile 1 takes over as primary from its mirrored island state. -/
  | primaryFailover (cause : Nat) (answers : Bool)
  /-- TILE_REJOIN (R279): A previously failed tile checks its segments against reconstruction and resyncs its parity. -/
  | tileRejoin (errs : List LineErr) (ms : Nat)
  /-- MESH_LINK_FAIL (R19): A mesh link fails, is fenced and announced, and routes are recomputed. -/
  | meshLinkFail (tile port : Nat) (answers : Bool)
  /-- MESH_MESSAGE_DELIVER (R76): A mesh message arrives at a tile and is forwarded or consumed. -/
  | meshMessageDeliver (tile port cls : Nat) (upset : Upset) (latNs : Nat) (idle : Bool)
  /-- LINK_TRAINING_DONE (R31): A head's link training ends, setting speed, width, CXL and degradation flags. -/
  | linkTrainingDone (head speed width : Nat) (flit cxl mldPartner : Bool) (ldCount : Nat) (reversed : Bool) (polarity : Nat) (upperFail : Bool) (recoveries replays : Nat)
  /-- RETRAIN (R69): RETRAIN written with 1 retrains the link with the current limits. -/
  | retrain (acc : Access) (tile : Nat)
  /-- HEAD_RESET (R60): PERST_N, hot reset or a link down resets the head's link and transaction layer. -/
  | headReset (head kind : Nat)
  /-- CXL_RESET (R61): CXL Reset of a head. -/
  | cxlReset (head : Nat)
  /-- FUNCTION_LEVEL_RESET (R61): A function-level reset affects CXL.io state only. -/
  | functionLevelReset (head : Nat)
  /-- MEM_RD (R53): MemRd of one 64-byte line is received and served. -/
  | memRd (m : MemReq)
  /-- MEM_RD_DATA (R53): MemRdData of one line is received and served. -/
  | memRdData (m : MemReq)
  /-- MEM_SPEC_RD (R53): MemSpecRd is dropped in the ingress buffer. -/
  | memSpecRd (m : MemReq)
  /-- MEM_INV (R53): MemInv is completed with Cmp and no action. -/
  | memInv (m : MemReq)
  /-- MEM_INV_NT (R53): MemInvNT is completed with Cmp and no action. -/
  | memInvNt (m : MemReq)
  /-- MEM_WR (R53): MemWr of one line is stored in the front store and completed. -/
  | memWr (m : MemReq) (data : Line) (poison : Bool)
  /-- MEM_WR_PTL (R53): MemWrPtl of the enabled bytes is merged into a frame and completed. -/
  | memWrPtl (m : MemReq) (data : Line) (be : Nat) (poison : Bool)
  /-- UNSUPPORTED_M2S (R53): Any other M2S opcode is treated as an unsupported request. -/
  | unsupportedM2s (m : MemReq)
  /-- DIRTY_WAIT_RELEASE (R89): Commits free dirty space or a way and a waiting write proceeds. -/
  | dirtyWaitRelease (tile latNs : Nat)
  /-- HAZARD_ADMIT (R77): Hazard entries free and waiting sources are admitted round-robin. -/
  | hazardAdmit (tile latNs : Nat)
  /-- TRACKER_CREDIT_RELEASE (R73): A tracker entry frees and a held credit can be returned. -/
  | trackerCreditRelease (head latNs : Nat)
  /-- S2M_CREDIT_GRANT (R74): The host grants S2M credits and waiting responses leave. -/
  | s2mCreditGrant (head : Nat) (ndr drs : Option Nat) (latNs : Nat)
  /-- TRACKER_TIMEOUT (R93): A tracker entry's timer expires; a read returns poison or a write is dropped. -/
  | trackerTimeout (head id latNs : Nat)
  /-- LAT_CLR (R99): LAT_CLR written with 1 clears TXN_LAT_MAX and TXN_LAT_OVER. -/
  | latClr (acc : Access) (tile : Nat)
  /-- QOS_WINDOW_END (R68): A 1 µs QoS window ends and per-LD bandwidth and average DevLoad are updated. -/
  | qosWindowEnd (head : Nat)
  /-- GPF_PHASE1 (R58): GPF Phase 1 is acknowledged at once. -/
  | gpfPhase1 (head : Nat)
  /-- GPF_PHASE2 (R58): GPF Phase 2 is received; writes received before it are completed. -/
  | gpfPhase2 (head : Nat)
  /-- GPF_PHASE2_ACK (R58): All earlier writes are complete and Phase 2 is acknowledged. -/
  | gpfPhase2Ack (head : Nat)
  /-- HDM_DECODER_COMMIT (R51): A decoder commit is checked and the decoder committed or refused. -/
  | hdmDecoderCommit (head ld idx iw ig base size skip target : Nat) (lock : Bool)
  /-- OUTBOUND_COMPLETION_TIMEOUT (R96): A Cazar-issued non-posted request's completion timer expires. -/
  | outboundCompletionTimeout (ring : Nat) (cid : Option Nat) (us : Nat)
  /-- TUNNEL_MANAGEMENT_COMMAND (R41): FM API Tunnel Management Command handled as the target. -/
  | tunnelManagementCommand (head target : Nat)
  /-- GET_LD_INFO (R41): FM API Get LD Info. -/
  | getLdInfo (head : Nat)
  /-- GET_LD_ALLOCATIONS (R41): FM API Get LD Allocations. -/
  | getLdAllocations (head target start limit : Nat)
  /-- SET_LD_ALLOCATIONS (R42): FM API Set LD Allocations allocates or takes static blocks. -/
  | setLdAllocations (head target start : Nat) (sizes : List Nat) (trngOk : Bool)
  /-- GET_QOS_CONTROL (R41): FM API Get QoS Control. -/
  | getQosControl (head : Nat)
  /-- SET_QOS_CONTROL (R41): FM API Set QoS Control. -/
  | setQosControl (head : Nat) (fields : List Nat)
  /-- GET_QOS_STATUS (R68): FM API Get QoS Status returns average DevLoad. -/
  | getQosStatus (head : Nat)
  /-- GET_QOS_ALLOCATED_BW (R41): FM API Get QoS Allocated BW. -/
  | getQosAllocatedBw (head start n : Nat)
  /-- SET_QOS_ALLOCATED_BW (R68): FM API Set QoS Allocated BW. -/
  | setQosAllocatedBw (head start : Nat) (fractions : List Nat)
  /-- GET_QOS_BW_LIMIT (R41): FM API Get QoS BW Limit. -/
  | getQosBwLimit (head start n : Nat)
  /-- SET_QOS_BW_LIMIT (R68): FM API Set QoS BW Limit. -/
  | setQosBwLimit (head start : Nat) (fractions : List Nat)
  /-- GET_MULTI_HEADED_INFO (R41): FM API Get Multi-Headed Info. -/
  | getMultiHeadedInfo (head : Nat)
  /-- GET_HEAD_INFO (R41): FM API Get Head Info. -/
  | getHeadInfo (head start n : Nat)
  /-- GET_DCD_INFO (R41): FM API Get DCD Info. -/
  | getDcdInfo (head : Nat)
  /-- GET_HOST_DC_REGION_CONFIGURATION (R41): FM API Get Host DC Region Configuration. -/
  | getHostDcRegionConfiguration (head target ld start n : Nat)
  /-- SET_DC_REGION_CONFIGURATION (R46): FM API Set DC Region Configuration, including sharable marking. -/
  | setDcRegionConfiguration (head target ld region base len blockSize : Nat) (share : Bool)
  /-- GET_DCD_EXTENT_LISTS (R41): FM API Get DCD Extent Lists. -/
  | getDcdExtentLists (head target ld start n : Nat)
  /-- INITIATE_DYNAMIC_CAPACITY_ADD (R45): FM API add of dynamic capacity under the add policies and limits. -/
  | initiateDynamicCapacityAdd (head target ld region policy len start : Nat) (trngOk : Bool)
  /-- INITIATE_DYNAMIC_CAPACITY_RELEASE (R47): FM API forced release of an extent. -/
  | initiateDynamicCapacityRelease (head target ld region start len : Nat) (forced : Bool)
  /-- EXTENT_RELEASE_DONE (R47): Transactions to a released extent finish and its blocks are invalidated, discarded and freed. -/
  | extentReleaseDone (ld region start : Nat)
  /-- WAITING_ADD_RESUME (R48): A releasing block becomes free and a waiting add completes. -/
  | waitingAddResume (trngOk : Bool)
  /-- GET_EVENT_RECORDS (R65): Mailbox Get Event Records. -/
  | getEventRecords (head ld log : Nat)
  /-- CLEAR_EVENT_RECORDS (R65): Mailbox Clear Event Records. -/
  | clearEventRecords (head ld log n : Nat) (all : Bool)
  /-- GET_EVENT_INTERRUPT_POLICY (R65): Mailbox Get Event Interrupt Policy. -/
  | getEventInterruptPolicy (head ld : Nat)
  /-- SET_EVENT_INTERRUPT_POLICY (R65): Mailbox Set Event Interrupt Policy. -/
  | setEventInterruptPolicy (head ld : Nat) (policies : List Nat)
  /-- GET_FW_INFO (R65): Mailbox Get FW Info. -/
  | getFwInfo (head ld : Nat)
  /-- TRANSFER_FW (R65): Mailbox Transfer FW passes image data to the staging path. -/
  | transferFw (head ld action offset len : Nat) (img : FwImage)
  /-- ACTIVATE_FW (R454): Mailbox Activate FW sets PENDING for the next Bring-up from Standby. -/
  | activateFw (head ld action : Nat)
  /-- GET_TIMESTAMP (R65): Mailbox Get Timestamp. -/
  | getTimestamp (head ld : Nat)
  /-- SET_TIMESTAMP (R65): Mailbox Set Timestamp. -/
  | setTimestamp (head ld ns : Nat)
  /-- GET_SUPPORTED_LOGS (R65): Mailbox Get Supported Logs. -/
  | getSupportedLogs (head ld : Nat)
  /-- GET_LOG (R65): Mailbox Get Log of the CEL. -/
  | getLog (head ld : Nat) (cel : Bool) (start n : Nat)
  /-- IDENTIFY_MEMORY_DEVICE (R65): Mailbox Identify Memory Device. -/
  | identifyMemoryDevice (head ld : Nat)
  /-- GET_PARTITION_INFO (R65): Mailbox Get Partition Info. -/
  | getPartitionInfo (head ld : Nat)
  /-- SET_PARTITION_INFO (R65): Mailbox Set Partition Info returns Unsupported. -/
  | setPartitionInfo (head ld : Nat)
  /-- GET_HEALTH_INFO (R59): Mailbox Get Health Info, including the Dirty Shutdown Count. -/
  | getHealthInfo (head ld : Nat)
  /-- GET_ALERT_CONFIGURATION (R65): Mailbox Get Alert Configuration. -/
  | getAlertConfiguration (head ld : Nat)
  /-- SET_ALERT_CONFIGURATION (R65): Mailbox Set Alert Configuration. -/
  | setAlertConfiguration (head ld : Nat) (alerts : List Nat)
  /-- GET_SHUTDOWN_STATE (R59): Mailbox Get Shutdown State. -/
  | getShutdownState (head ld : Nat)
  /-- SET_SHUTDOWN_STATE (R59): Mailbox Set Shutdown State. -/
  | setShutdownState (head ld value : Nat)
  /-- GET_POISON_LIST (R57): Mailbox Get Poison List of up to 256 records. -/
  | getPoisonList (head ld first len : Nat)
  /-- INJECT_POISON (R57): Mailbox Inject Poison marks one line. -/
  | injectPoison (head ld dpa : Nat)
  /-- CLEAR_POISON (R57): Mailbox Clear Poison writes the supplied line. -/
  | clearPoison (head ld dpa : Nat) (data : Line)
  /-- GET_SCAN_MEDIA_CAPABILITIES (R65): Mailbox Get Scan Media Capabilities. -/
  | getScanMediaCapabilities (head ld first len : Nat)
  /-- SCAN_MEDIA (R57): Mailbox Scan Media starts a background scan in SCRUB sectors. -/
  | scanMedia (head ld first len : Nat)
  /-- GET_SCAN_MEDIA_RESULTS (R57): Mailbox Get Scan Media Results. -/
  | getScanMediaResults (head ld : Nat)
  /-- SANITIZE (R66): Mailbox Sanitize replaces the LD key, discards and overwrites its pages. -/
  | sanitize (head ld : Nat) (trngOk : Bool)
  /-- SECURE_ERASE (R66): Mailbox Secure Erase replaces the LD key and discards its segments. -/
  | secureErase (head ld : Nat) (trngOk : Bool)
  /-- GET_DYNAMIC_CAPACITY_CONFIGURATION (R65): Mailbox Get Dynamic Capacity Configuration. -/
  | getDynamicCapacityConfiguration (head ld start n : Nat)
  /-- GET_DYNAMIC_CAPACITY_EXTENT_LIST (R65): Mailbox Get Dynamic Capacity Extent List. -/
  | getDynamicCapacityExtentList (head ld start n : Nat)
  /-- ADD_DYNAMIC_CAPACITY_RESPONSE (R65): Mailbox Add Dynamic Capacity Response from the host. -/
  | addDynamicCapacityResponse (head ld : Nat) (accepted : List (Nat × Nat))
  /-- RELEASE_DYNAMIC_CAPACITY (R47): Mailbox Release Dynamic Capacity of an extent. -/
  | releaseDynamicCapacity (head ld : Nat) (extents : List (Nat × Nat))
  /-- DOE_DISCOVERY (R63): DOE Discovery request. -/
  | doeDiscovery (head index : Nat)
  /-- CDAT_TABLE_ACCESS (R64): DOE request that reads the CDAT table. -/
  | cdatTableAccess (head ld : Nat)
  /-- NEGOTIATE_ALGORITHMS (R63): SPDM NEGOTIATE_ALGORITHMS offering the XMSS^MT key. -/
  | negotiateAlgorithms (head : Nat) (xmss : Bool)
  /-- CHALLENGE (R63): SPDM CHALLENGE, signed by the device key or refused. -/
  | challenge (head : Nat) (nonce : W256)
  /-- GET_MEASUREMENTS (R457): SPDM GET_MEASUREMENTS returns measurement blocks, signed when asked. -/
  | getMeasurements (head index : Nat) (signed : Bool) (nonce : W256)
  /-- KEY_EXCHANGE (R63): SPDM KEY_EXCHANGE sets up a secured session. -/
  | keyExchange (head : Nat) (nonce : W256)
  /-- PSK_EXCHANGE (R466): SPDM PSK_EXCHANGE is not supported. -/
  | pskExchange (head : Nat)
  /-- KEY_IMPORT (R465): Vendor SPDM KEY_IMPORT stores a 32-byte secret and returns a handle. -/
  | keyImport (head : Nat) (secret : W256)
  /-- KEY_DELETE (R465): Vendor SPDM KEY_DELETE removes an imported secret. -/
  | keyDelete (head handle : Nat)
  /-- IDE_KM_QUERY (R466): IDE_KM QUERY. -/
  | ideKmQuery (head : Nat)
  /-- KEY_PROG (R466): IDE_KM KEY_PROG programs an idle key set. -/
  | keyProg (head stream set dir : Nat) (io : Option (Nat × Bool))
  /-- K_SET_GO (R466): IDE_KM K_SET_GO starts a key set. -/
  | kSetGo (head stream set dir : Nat) (io : Option (Nat × Bool))
  /-- K_SET_STOP (R466): IDE_KM K_SET_STOP stops a key set. -/
  | kSetStop (head stream set dir : Nat)
  /-- IDE_KEY_SWITCH (R466): The first flit under a new key set is recognised and the old set stops. -/
  | ideKeySwitch (head stream : Nat)
  /-- PHASE_IN_MARK (R104): A PHASE_IN pulse is classified at its falling edge and used by the lock loop. -/
  | phaseInMark (widthNs angle sinceNs : Nat)
  /-- MARK_WINDOW_EXPIRE (R106): An expected mark does not arrive within its window and counts as missed. -/
  | markWindowExpire (trim : Bool)
  /-- HOLDOVER_LIMIT_EXPIRE (R112): 2^HOLD_EXP turns in HOLDOVER pass and the state becomes FREE. -/
  | holdoverLimitExpire
  /-- FABRIC_PHASE_MESSAGE (R107): A 32-byte fabric phase message is checked and acts as a turn mark. -/
  | fabricPhaseMessage (head : Nat) (whole ptm : Bool) (bytes : List Byte) (nowNs angle sinceNs : Nat)
  /-- TURN_WRAP (R101): A local or tile angle wraps from 65,535 to 0 and the turn number increments. -/
  | turnWrap (tile : Option Nat)
  /-- SECTOR_START (R115): A schedule entry's sector starts on a tile and its class may work within budget. -/
  | sectorStart (tile entry : Nat)
  /-- SECTOR_END (R119): A sector ends; no new operation starts and running operations end as given. -/
  | sectorEnd (tile entry windowUs : Nat)
  /-- SCHEDULE_ACTIVATION (R125): An armed schedule and profile are applied at tile angle 0 of the activation turn. -/
  | scheduleActivation (tile : Nat)
  /-- BELFRY_SET_REF (R129): Command that sets the phase source, period, offsets, domain and turn. -/
  | belfrySetRef (pc : PortCmd) (source period offset stagger domain turnSet : Nat) (turnSetValid persist : Bool)
  /-- BELFRY_LOAD_SCHEDULE (R130): Command that checks and arms a schedule and profile for tiles. -/
  | belfryLoadSchedule (pc : PortCmd) (tileMask addr : Nat) (buf : List Byte) (actTurn : Nat) (actNext persist : Bool)
  /-- BELFRY_GET_STATUS (R131): Command that returns Belfry phase and schedule status. -/
  | belfryGetStatus (pc : PortCmd) (tile : Nat)
  /-- BELFRY_TURN_LO_READ (R102): A read of BELFRY_TURN_LO captures TURN_HI and the local angle. -/
  | belfryTurnLoRead (acc : Access)
  /-- TRIM_START (R128): A write of TRIM_SRC starts a trim of the internal oscillator. -/
  | trimStart (acc : Access) (data : W32)
  /-- TRIM_MEASUREMENT_DONE (R128): A trim measurement ends and TRIM_CODE is adjusted. -/
  | trimMeasurementDone (count : Nat)
  /-- IOSC_TRIM_HOURLY (R365): At the first wrap of each hour of age-clock time a trim against the crystal starts. -/
  | ioscTrimHourly
  /-- COMMIT_CHOOSE (R150): The commit engine chooses a dirty frame and starts its fill or program. -/
  | commitChoose (tile bad : Nat)
  /-- EPOCH_ADVANCE (R149): Every 1 ms the current epoch advances unless the next epoch still holds dirty frames. -/
  | epochAdvance (tile : Nat)
  /-- LINE_FILL_DONE (R143): A line fill ends and the frame returns to Dirty or Locked. -/
  | lineFillDone (tile frame : Nat) (errs : List LineErr) (latNs : Nat)
  /-- COMMIT_FILL_DONE (R151): A commit fill ends; the frame goes to Writing-back and its program starts. -/
  | commitFillDone (tile frame : Nat) (errs : List LineErr) (bad latNs : Nat)
  /-- FRAME_COMMIT_COMPLETE (R143): A frame reaches step 5 of the commit and becomes Clean, Dirty or Locked. -/
  | frameCommitComplete (tile frame latNs : Nat)
  /-- SEGMENT_LOCK_RELEASE (R144): A segment lock is released and a waiting fill, commit or maintenance operation proceeds. -/
  | segmentLockRelease (tile seg latNs : Nat)
  /-- FS_FLUSH_ALL (R154): Command that commits every frame counting as dirty. -/
  | fsFlushAll (pc : PortCmd)
  /-- FS_FLUSH_RANGE (R154): Command that commits dirty frames of a range. -/
  | fsFlushRange (pc : PortCmd) (ld : Nat) (pkg : Bool) (start length : Nat)
  /-- FS_INVALIDATE_RANGE (R155): Command that commits and invalidates the frames of a range. -/
  | fsInvalidateRange (pc : PortCmd) (ld : Nat) (pkg : Bool) (start length : Nat)
  /-- FS_DISABLE (R157): Command that drains and disables the Front Store. -/
  | fsDisable (pc : PortCmd)
  /-- FS_DRAIN_COMPLETE (R157): A draining tile has no frame left dirty from recognition and becomes DISABLED. -/
  | fsDrainComplete (tile : Nat)
  /-- FS_ENABLE (R159): Command that re-enables the Front Store, applying WAYS_NEXT. -/
  | fsEnable (pc : PortCmd)
  /-- FS_WAYS_APPLY (R159): A tile holds no transient frame and applies the new way count. -/
  | fsWaysApply (tile : Nat)
  /-- FS_SET_WAYS (R162): Command that sets WAYS_NEXT. -/
  | fsSetWays (pc : PortCmd) (ways : Nat) (persist : Bool)
  /-- FS_SET_DIRTY_LIMIT (R161): Command that sets the dirty-limit cap per tile. -/
  | fsSetDirtyLimit (pc : PortCmd) (tileMask cap : Nat) (persist : Bool)
  /-- TAG_SCAN (R163): The background scan checks tag words using idle lookup cycles. -/
  | tagScan (tile frame : Nat) (upset : Upset)
  /-- CA_COMMAND_REJECT (R176): ALERT_N signals a rejected command, which is resent; three in a row cause a CA retrain. -/
  | caCommandReject (tile ch : Nat)
  /-- READ_RETRAIN (R198): The temperature estimate moves by RETRAIN_DT and read training reruns rank by rank. -/
  | readRetrain (tile ch : Nat)
  /-- STATUS_POLL (R184): The channel issues STATUS to a rank on its polling interval. -/
  | statusPoll (tile ch rank : Nat)
  /-- STATUS_REPLY (R177): A STATUS reply is received and program, clear and suspend states updated. -/
  | statusReply (tile ch rank : Nat) (replies : List Nat)
  /-- PROGRAM_DONE (R184): A page program's DONE is recognised; a failure retires the block and reissues. -/
  | programDone (tile loc : Nat) (ok : Bool)
  /-- CLEAR_DONE (R220): A block clear's DONE is recognised and the block becomes FREE, RESERVE or retired. -/
  | clearDone (tile loc : Nat) (ok : Bool)
  /-- OP_ACTIVE_TIMEOUT (R184): A program or clear exceeds its active-time limit and counts as failed. -/
  | opActiveTimeout (tile loc : Nat) (clear : Bool)
  /-- SUSPEND_COMPLETE (R185): BUSY_N is released and the awaited READ_LINE is issued. -/
  | suspendComplete (tile ch : Nat)
  /-- SUSPEND_LIMIT_EXPIRE (R185): The suspend limit expires and the awaited READ_LINE is issued. -/
  | suspendLimitExpire (tile id : Nat)
  /-- RESUME_ISSUE (R186): No host-serving read waits for a plane and RESUME is issued. -/
  | resumeIssue (tile loc suspUs : Nat)
  /-- MEDIA_READ_DATA (R181): A READ_LINE's last beat arrives; the line is decoded through the ladder and returned. -/
  | mediaReadData (tile id : Nat) (err : LineErr) (others : List LineErr) (latNs : Nat)
  /-- CALIBRATION_PAGE_WRITE (R195): A calibration page is written at the end of Bring-up and every 24 hours of age-clock time. -/
  | calibrationPageWrite (tile ch rank : Nat)
  /-- GDDR7_DEVICE_FAULT (R242): A GDDR7 device fault starts a full map rebuild. -/
  | gddr7DeviceFault (tile : Nat)
  /-- MAP_REBUILD_STEP (R242): The background rebuild rebuilds the next map line; the last ends the rebuild. -/
  | mapRebuildStep (tile lines ms : Nat)
  /-- GC_BATCH_START (R216): GC chooses a victim on an active plane and starts a copy batch. -/
  | gcBatchStart (tile plane : Nat)
  /-- COPY_PAGE (R217): A batch reads a valid page, corrects it and programs it to the target frontier. -/
  | copyPage (tile src : Nat) (errs : List LineErr)
  /-- COPY_BATCH_END (R218): The last page of a batch is programmed and MOVE records applied or copies dropped. -/
  | copyBatchEnd (tile src : Nat)
  /-- WEAR_MOVE_START (R221): The clear spread exceeds its limit and a wear-move batch starts. -/
  | wearMoveStart (tile : Nat)
  /-- BLOCK_CLEAR_START (R220): A PENDING block's clear is started in a CLEAR sector or under urgency. -/
  | blockClearStart (tile block : Nat)
  /-- JOURNAL_PAGE_PROGRAM (R233): A journal page is programmed when 512 records gather or a record must become durable. -/
  | journalPageProgram (tile : Nat)
  /-- JOURNAL_TIMER_EXPIRE (R233): 1 ms passes since a journal page's first record and the page is programmed. -/
  | journalTimerExpire (tile : Nat)
  /-- CHECKPOINT_CAPTURE (R235): The checkpoint writer captures the next map page and programs copies A and B. -/
  | checkpointCapture (tile : Nat)
  /-- DISCARD_RANGE (R227): Command that discards the segments of a range. -/
  | discardRange (pc : PortCmd) (ld : Nat) (pkg : Bool) (start length : Nat)
  /-- SECURE_DISCARD_RANGE (R228): Command that discards a range and clears every block holding its pages. -/
  | secureDiscardRange (pc : PortCmd) (ld : Nat) (pkg : Bool) (start length : Nat)
  /-- GET_WEAR (R245): Command that writes the wear report of a tile. -/
  | getWear (pc : PortCmd) (tile buf : Nat)
  /-- RETIRE_BLOCK (R244): Command that moves a block's valid pages out and retires it. -/
  | retireBlock (pc : PortCmd) (tile channel page : Nat)
  /-- SET_WEAR_LIMIT (R244): Command that sets the wear and spread limits. -/
  | setWearLimit (pc : PortCmd) (limit10k spreadK : Nat) (persist : Bool)
  /-- MAP_CHECKPOINT (R244): Command that completes when every index has copies captured after recognition. -/
  | mapCheckpoint (pc : PortCmd) (tileMask : Nat)
  /-- FENCED_RANK_WALK (R280): Translation walks the map setting segments of a fenced rank LOST or POISONED. -/
  | fencedRankWalk (tile ch rank upTo : Nat)
  /-- SCRUB_VISIT (R260): The scrubber reads and decodes one page in a SCRUB sector. -/
  | scrubVisit (tile ch : Nat) (errs : List LineErr)
  /-- REFRESH_EXECUTE (R263): A queued page is rewritten as a one-page copy batch in a REFRESH sector. -/
  | refreshExecute (tile : Nat)
  /-- LOST_REPAIR (R280): A LOST segment is reconstructed and reprogrammed. -/
  | lostRepair (tile ms : Nat)
  /-- INJECT_ERROR (R265): Command that arms an error injection on a media, GDDR7, tag, STC or map target. -/
  | injectError (pc : PortCmd) (tile target ch page line frame seg count : Nat) (readNow : Bool) (errs : List LineErr)
  /-- SCRUB_CTL (R283): Command that sets scrubbing and refresh thresholds. -/
  | scrubCtl (pc : PortCmd) (mask : Nat) (enable restart : Bool) (sym off shift : Nat) (persist : Bool)
  /-- GET_ERROR_STATS (R283): Command that writes the error statistics report. -/
  | getErrorStats (pc : PortCmd) (tile buf : Nat) (clear : Bool)
  /-- CUPOLA_CONFIG (R282): Command that sets the number of enabled Cupola regions. -/
  | cupolaConfig (pc : PortCmd) (regions : Nat) (persist : Bool)
  /-- CUPOLA_REBUILD (R283): Command that starts repair, resync or stops the work. -/
  | cupolaRebuild (pc : PortCmd) (kind ms : Nat)
  /-- CUPOLA_DELTA_RECEIVE (R271): The parity tile applies a delta into its slot or holds it and answers. -/
  | cupolaDeltaReceive (tile : Nat) (errs : List LineErr)
  /-- CUPOLA_BUSY_TIMER (R271): A held delta is answered BUSY every 500 µs. -/
  | cupolaBusyTimer (tile : Nat)
  /-- CUPOLA_ACK_RECEIVE (R272): APPLIED, DUPLICATE or BUSY arrives for a delta; commit proceeds or waits again. -/
  | cupolaAckReceive (tile : Nat)
  /-- CUPOLA_ACK_TIMEOUT (R272): The acknowledgement wait expires and the parity tile is declared failed. -/
  | cupolaAckTimeout (tile seg : Nat) (answers : Bool) (waitMs totalMs : Nat)
  /-- CUPOLA_SLOT_FLUSH (R273): A slot is folded into its parity page and committed. -/
  | cupolaSlotFlush (tile : Nat) (errs : List LineErr)
  /-- CUPOLA_RESYNC_STRIPE (R281): A stripe's parity is recomputed from its members. -/
  | cupolaResyncStripe (ms : Nat)
  /-- CARAVAN_FRAME_DELTA (R293): A DELTA frame is received and applied into a slot or answered BUSY. -/
  | caravanFrameDelta (f : CarFrame)
  /-- CARAVAN_FRAME_ACK (R292): An ACK frame is received for a delta message. -/
  | caravanFrameAck (f : CarFrame)
  /-- CARAVAN_FRAME_SETTLE (R295): A SETTLE frame settles slot entries. -/
  | caravanFrameSettle (f : CarFrame)
  /-- CARAVAN_FRAME_READ_REQ (R303): A READ_REQ frame is answered with member or parity lines. -/
  | caravanFrameReadReq (f : CarFrame) (errs : List LineErr)
  /-- CARAVAN_FRAME_READ_RSP (R303): A READ_RSP frame supplies lines for reconstruction or resync. -/
  | caravanFrameReadRsp (f : CarFrame) (latNs : Nat)
  /-- CARAVAN_FRAME_HELLO (R302): A HELLO frame makes the peer ACTIVE and restarts the SEQ count. -/
  | caravanFrameHello (f : CarFrame)
  /-- CARAVAN_FRAME_DEPART (R301): A DEPART frame sets the sender DEPARTED. -/
  | caravanFrameDepart (f : CarFrame)
  /-- CARAVAN_FRAME_STALE_MAP (R302): A STALE_MAP frame names row groups to resync. -/
  | caravanFrameStaleMap (f : CarFrame)
  /-- CARAVAN_FRAME_ALLOC (R302): An ALLOC frame carries a peer's LD allocations. -/
  | caravanFrameAlloc (f : CarFrame)
  /-- CARAVAN_FRAME_REPLACE (R305): A REPLACE frame sets the old member REPLACED and redirects traffic. -/
  | caravanFrameReplace (f : CarFrame)
  /-- CARAVAN_FRAME_LEAVE (R309): A LEAVE frame sets the leaving member FAILED. -/
  | caravanFrameLeave (f : CarFrame)
  /-- CARAVAN_RESEND_TIMER (R294): An unanswered frame is resent after 250 µs. -/
  | caravanResendTimer (peer seq : Nat)
  /-- CARAVAN_ACK_TIMEOUT (R294): The Caravan wait expires and the holder becomes FAILED. -/
  | caravanAckTimeout (peer seq waitMs totalMs : Nat)
  /-- CARAVAN_BUSY_TIMER (R293): A held delta is answered BUSY every 500 µs. -/
  | caravanBusyTimer (tile : Nat)
  /-- SETTLE_SEND (R295): Gathered SETTLE entries are sent at 28 entries or after 100 µs. -/
  | settleSend
  /-- CARAVAN_SLOT_FLUSH (R295): A fully settled Caravan slot is folded into its parity page. -/
  | caravanSlotFlush (tile : Nat) (errs : List LineErr)
  /-- HOLD_WAIT_EXPIRE (R301): A Hold-up commit's Caravan wait expires and it proceeds or stops. -/
  | holdWaitExpire (tile seg us : Nat)
  /-- HELLO_SEND (R302): Once a CAR_HEADS link is up the package sends HELLO to every peer. -/
  | helloSend (peer : Nat)
  /-- CARAVAN_RESYNC_STRIPE (R302): A stale stripe is locked, read and its parity recommitted. -/
  | caravanResyncStripe (ms : Nat)
  /-- STRIPE_LOCK_EXPIRE (R302): A resync lock of 1 ms expires and the stripe is unlocked and left stale. -/
  | stripeLockExpire
  /-- CARAVAN_REBUILD_STEP (R306): A spare rebuilds the next row of its range. -/
  | caravanRebuildStep (ms ns : Nat)
  /-- CARAVAN_JOIN (R309): Command that joins a Caravan group. -/
  | caravanJoin (pc : PortCmd) (group : Nat) (code : Bool) (n member : Nat) (spare : Bool) (base blocks heads handle buf : Nat) (table : List (List Nat))
  /-- CARAVAN_LEAVE (R309): Command that leaves a Caravan group. -/
  | caravanLeave (pc : PortCmd) (dissolve : Bool) (ms : Nat)
  /-- CARAVAN_STATUS (R309): Command that returns group membership and state. -/
  | caravanStatus (pc : PortCmd)
  /-- CARAVAN_REBUILD (R305): Command that replaces a member, resyncs or stops work. -/
  | caravanRebuild (pc : PortCmd) (kind target ms : Nat)
  /-- CLOCK_SOURCE_STABLE (R366): A source is judged stable after 10 windows; a return may follow. `windows` are the edges of the source in its
  last IOSC windows. -/
  | clockSourceStable (source : Nat) (windows : List Nat)
  /-- XTAL_STABLE_TIMEOUT (R366): The crystal is not stable within 50 ms of VAUX and AON stays on the IOSC. -/
  | xtalStableTimeout
  /-- CLOCK_SOURCE_FAIL (R368): A monitor judges a source failed or a PLL loses lock; COAST or SWITCH follows. `meas` is the IOSC cycles without
  an edge (cause 1) or the edges in one window (cause 2). -/
  | clockSourceFail (source cause tile pll meas : Nat)
  /-- CLOCK_SWITCH_FORCE (R372): No old-clock edge arrives within 64 IOSC cycles and the switch is forced. -/
  | clockSwitchForce (tile domain : Nat)
  /-- PHY_RETRAIN_DONE (R371): GDDR7 or a mesh link finishes retraining after a clock move and waiting traffic proceeds. -/
  | phyRetrainDone (tile : Nat) (port : Option Nat)
  /-- CLK_RETURN (R373): RETURN written with 1 moves every domain back to a stable source. -/
  | clkReturn (acc : Access)
  /-- CLK_GATE_REQUEST (R374): A gate bit written with 1 requests a block's clock gate. -/
  | clkGateRequest (acc : Access) (tile : Nat) (data : W32)
  /-- CLK_GATE_IDLE_ACK (R374): The block's idle acknowledgement arrives and the gate closes. -/
  | clkGateIdleAck (tile block : Nat)
  /-- CLK_GATE_TIMEOUT (R374): No idle acknowledgement within 4,096 cycles; the request is abandoned. -/
  | clkGateTimeout (tile block : Nat)
  /-- CLK_TILE_RESET (R379): A keyed write resets one tile or is refused. -/
  | clkTileReset (acc : Access) (key tile : Nat)
  /-- TILE_RESET_STEP_DONE (R379): A tile reset step ends and the next begins, up to map restore. -/
  | tileResetStepDone (tile : Nat) (fail : Bool) (lost conflict clearFails : List Nat)
  /-- CDC_HANDSHAKE_TIMEOUT (R382): A crossing handshake is not acknowledged within 4,096 cycles. -/
  | cdcHandshakeTimeout (tile crossing : Nat)
  /-- THERMAL_CONVERSION_DONE (R389): A sensor conversion ends and feeds estimates, limits, rates and fans. -/
  | thermalConversionDone (sensor : Nat) (reading : Option Int) (nowMs : Nat)
  /-- RISE_WATCH_TIMER (R394): 10 ms since the last conversion of a watched sensor requests another. -/
  | riseWatchTimer (sensor : Nat)
  /-- THERMAL_GUARD_EXPIRE (R388): A sensor group has had no conversion for GUARD × 100 ms and a round is requested. -/
  | thermalGuardExpire (tile group chans ms : Nat)
  /-- THERMAL_TRIP (R393): The trip comparator fires and acts as a confirmed SHUT. -/
  | thermalTrip (tile : Nat)
  /-- FAN_LOOP_UPDATE (R395): Every 100 ms each fan's duty is recomputed from its curves. -/
  | fanLoopUpdate (nowMs : Nat) (rpms : List Nat)
  /-- FAN_STALL (R396): A fan below STALL_RPM for 3 s is FAILED and others run at full duty. -/
  | fanStall (fan rpm : Nat)
  /-- FAN_RECOVER (R396): A failed fan above STALL_RPM for 3 s recovers. -/
  | fanRecover (fan rpm : Nat)
  /-- TEMP_MEASURE (R403): Command that requests conversions and returns maxima. -/
  | tempMeasure (pc : PortCmd) (tileMask groups chans : Nat)
  /-- SET_RISE_LIMITS (R403): Command that sets a group's WARN, CRIT, SHUT and RISE. -/
  | setRiseLimits (pc : PortCmd) (group warn crit shut rise : Nat) (persist : Bool)
  /-- FAN_CONFIG (R403): Command that loads a fan record. -/
  | fanConfig (pc : PortCmd) (fan bufAddr : Nat) (persist : Bool) (buf : List Byte)
  /-- I3C_ENTDAA (R398): I3C ENTDAA assigns the endpoint's dynamic address. -/
  | i3cEntdaa (addr : Nat)
  /-- I3C_SETDASA (R398): I3C SETDASA assigns the dynamic address from the static address. -/
  | i3cSetdasa (static addr : Nat)
  /-- SET_ENDPOINT_ID (R399): MCTP control Set Endpoint ID. -/
  | setEndpointId (eid : Nat)
  /-- GET_ENDPOINT_ID (R399): MCTP control Get Endpoint ID. -/
  | getEndpointId
  /-- GET_ENDPOINT_UUID (R399): MCTP control Get Endpoint UUID. -/
  | getEndpointUuid
  /-- GET_MCTP_VERSION_SUPPORT (R399): MCTP control Get MCTP Version Support. -/
  | getMctpVersionSupport (type : Nat)
  /-- GET_MESSAGE_TYPE_SUPPORT (R399): MCTP control Get Message Type Support. -/
  | getMessageTypeSupport
  /-- GETTID (R399): PLDM GetTID. -/
  | gettid
  /-- GETPLDMVERSION (R399): PLDM GetPLDMVersion. -/
  | getpldmversion (type : Nat)
  /-- GETPLDMTYPES (R399): PLDM GetPLDMTypes. -/
  | getpldmtypes
  /-- GETPLDMCOMMANDS (R399): PLDM GetPLDMCommands. -/
  | getpldmcommands (type : Nat)
  /-- GETSENSORREADING (R400): PLDM GetSensorReading returns the last value or requests a conversion on rearm. -/
  | getsensorreading (sensor : Nat) (rearm : Bool) (nowMs : Nat)
  /-- GETPDR (R399): PLDM GetPDR. -/
  | getpdr (handle : Nat)
  /-- GETPDRREPOSITORYINFO (R399): PLDM GetPDRRepositoryInfo. -/
  | getpdrrepositoryinfo
  /-- POWER_ON (R399): Vendor sideband POWER_ON is an on request. -/
  | powerOn
  /-- POWER_OFF (R399): Vendor sideband POWER_OFF starts Hold-up with CAUSE 0b001. -/
  | powerOff
  /-- FAULT_CLEAR (R343): Vendor sideband FAULT_CLEAR clears FAULT. -/
  | faultClear
  /-- GET_STATE (R399): Vendor sideband GET_STATE returns mode, power and thermal status. -/
  | getState
  /-- ALERT_READ (R399): Vendor sideband ALERT_READ. -/
  | alertRead
  /-- ALERT_CLEAR (R402): Vendor sideband ALERT_CLEAR clears alert bits like a W1C write. -/
  | alertClear (bits : W32)
  /-- DB_SQ_TAIL (R411): A write of DB_SQ_TAIL makes descriptors fetchable or puts the ring in ERROR. -/
  | dbSqTail (acc : Access) (ring value : Nat)
  /-- DB_CQ_HEAD (R411): A write of DB_CQ_HEAD releases completion entries or puts the ring in ERROR. -/
  | dbCqHead (acc : Access) (ring value : Nat)
  /-- RING_ENABLE (R410): ENABLE written with 1 resets the ring positions and makes it RUNNING. -/
  | ringEnable (acc : Access) (ring : Nat)
  /-- RING_DISABLE (R410): ENABLE written with 0 makes a RUNNING ring DISABLING. -/
  | ringDisable (acc : Access) (ring : Nat)
  /-- RING_DISABLED (R410): A DISABLING ring has no command left in flight and becomes DISABLED. -/
  | ringDisabled (ring : Nat)
  /-- DESCRIPTOR_FETCH_DONE (R412): Fetched descriptor data arrives and SQ_HEAD advances, or the fetch fails into ERROR. -/
  | descriptorFetchDone (ring : Nat) (descs : List DescWord) (fail : Bool)
  /-- COMMAND_START (R417): A fetched command starts, is checked and begins execution. -/
  | commandStart
  /-- COMMAND_COMPLETE (R415): A command ends and its completion entry is written. -/
  | commandComplete (pc : PortCmd)
  /-- COMMAND_BOUND_EXPIRE (R419): A command's execution bound expires and TIMEOUT is written while work continues. -/
  | commandBoundExpire (pc : PortCmd) (us : Nat)
  /-- BUFFER_READ_FAIL (R420): A command's host buffer read fails and the command ends without applying it. -/
  | bufferReadFail (pc : PortCmd) (timeout : Bool)
  /-- COAL_TIME_EXPIRE (R424): COAL_TIME passes since the first counted completion and the interrupt is sent. -/
  | coalTimeExpire (ring us : Nat)
  /-- NOP (R427): Command that does nothing and completes. -/
  | nop (pc : PortCmd)
  /-- IDENTIFY_EXT (R428): Command that writes the identity report. -/
  | identifyExt (pc : PortCmd) (bufAddr : Nat)
  /-- GET_HEALTH (R427): Command that returns package health. -/
  | getHealth (pc : PortCmd)
  /-- FW_STAGE (R453): Command that stages a firmware chunk and verifies on FINAL. -/
  | fwStage (pc : PortCmd) (offset len buf : Nat) (final : Bool) (img : FwImage) (flashOk : Bool)
  /-- FW_ACTIVATE (R454): Command that activates a verified staged image by a warm reset. -/
  | fwActivate (pc : PortCmd)
  /-- ATTEST_QUOTE (R458): Command that signs a quote of selected measurements. -/
  | attestQuote (pc : PortCmd) (buf mask : Nat) (nonce : W256)
  /-- SIGNING_TOKEN_REFILL (R460): The signing bucket refills at 32 tokens per second and a waiting request may sign. -/
  | signingTokenRefill
  /-- LIFECYCLE_SET (R468): Command that requests a life-cycle change. -/
  | lifecycleSet (pc : PortCmd) (target bufAddr : Nat) (buf : List Byte) (sigOk : Bool)
  /-- DEBUG_UNLOCK (R471): Command that grants debug scopes named by a token. -/
  | debugUnlock (pc : PortCmd) (scope bufAddr : Nat) (buf : List Byte) (sigOk : Bool)
  /-- SEC_CHALLENGE_READ (R469): A read of SEC_CHALLENGE0 draws a new challenge. -/
  | secChallengeRead (acc : Access)
  /-- GB_READ (R482): Command that reads Guestbook records from a cursor. -/
  | gbRead (pc : PortCmd) (area : Bool) (count cursor bufAddr : Nat)
  /-- GB_CLEAR (R483): Command that makes an area's records unreadable. -/
  | gbClear (pc : PortCmd) (area : Bool) (bufAddr : Nat) (buf : List Byte)
  /-- PARAM_READ (R486): Command that reads a Parameter Store element. -/
  | paramRead (pc : PortCmd) (id offset len bufAddr : Nat)
  /-- PARAM_WRITE (R486): Command that writes a Parameter Store element into the pending set. -/
  | paramWrite (pc : PortCmd) (id len bufAddr : Nat) (buf : List Byte)
  /-- PARAM_COMMIT (R489): Command that commits the pending set. -/
  | paramCommit (pc : PortCmd)
  /-- PARAM_UNLOCK (R495): Command that unlocks the store with the password. -/
  | paramUnlock (pc : PortCmd) (bufAddr : Nat) (buf : List Byte)
  /-- PERF_CONFIG (R508): Command that configures a performance counter. -/
  | perfConfig (pc : PortCmd) (tile counter event mode : Nat) (chain user enable : Bool)
  /-- PERF_SNAPSHOT (R509): Command that captures all counters of tiles. -/
  | perfSnapshot (pc : PortCmd) (tileMask bufAddr : Nat)
  /-- REGISTER_WRITE (R439): A write to a register with no row of its own is checked and applied. -/
  | registerWrite (acc : Access) (off size be data : Nat)
  /-- PAIRED_LO_READ (R11): A read of a _LO register captures the matching _HI bits. -/
  | pairedLoRead (acc : Access) (off size copies : Nat)
  /-- REGISTER_ACCESS_TIMEOUT (R434): A register access ends after 2 ms with STALL_TIMEOUT. -/
  | registerAccessTimeout (acc : Access) (off : Nat) (read : Bool) (cause : Nat)
  /-- CONFIG_PARITY_SCAN (R441): The background scan checks every protected register at least every 1 ms. -/
  | configParityScan (off copies : Nat)
  /-- GUESTBOOK_FLASH_WRITE (R479): A group of up to eight records is written to boot flash. -/
  | guestbookFlashWrite (fail : Bool)
  /-- GUESTBOOK_WRITE_TIMER (R479): 100 ms pass since the oldest waiting record and a write starts. -/
  | guestbookWriteTimer (fail : Bool)
  /-- RATE_TOKEN_REFILL (R478): A code's bucket gains one token every REFILL seconds. -/
  | rateTokenRefill (code sec : Nat)
  /-- OPERATING_TIME_TICK (R476): Operating time counts one whole second while VAUX is present. -/
  | operatingTimeTick
  /-- AGE_CLOCK_HOURLY (R481): Every hour of operating time a GB_AGE_CLOCK record is written. -/
  | ageClockHourly
  /-- GB_CURSOR_WRITE (R482): A write of GB_CURSOR starts loading records into the window. -/
  | gbCursorWrite (acc : Access) (cursor : W32)
  /-- GB_WINDOW_LOADED (R482): The window load ends and READY is set. -/
  | gbWindowLoaded
  /-- GB_STATUS_READ (R482): A read of GB_STATUS returns and clears DROPPED. -/
  | gbStatusRead (acc : Access)
  /-- PARAM_STORE_COMMIT (R489): A gathered commit programs the pending set into copy A then copy B. -/
  | paramStoreCommit
  /-- PARAM_STORE_COMMIT_DONE (R489): The marker of copy B is programmed and the commit's callers complete. -/
  | paramStoreCommitDone (failCopy : Option Nat)
  /-- FLASH_ERASE_DONE (R490): A boot-flash sector or page erase finishes and a waiting commit proceeds. -/
  | flashEraseDone (failCopy : Option Nat)
  /-- PERF_COUNTER_CLR (R499): CLR written with 1 zeroes a counter. -/
  | perfCounterClr (acc : Access) (tile counter : Nat) (data : W32)
  /-- PERF_WIN_CTL_WRITE (R507): A write to PERF_WIN_CTL closes the window early and sets its mode. -/
  | perfWinCtlWrite (acc : Access) (window us : Nat) (data : W32)
  /-- PERF_WINDOW_PERIOD_EXPIRE (R507): A FIXED window's period expires; it closes, loads counts and reopens. -/
  | perfWindowPeriodExpire (window ms : Nat)
  /-- SAMPLER_READ (R503): The firmware sampler reads its counters once per second. -/
  | samplerRead
  /-- MRST_N_RELEASE (R346): MRST_N returns high and a Bring-up held at step 2 after a warm reset proceeds. -/
  | mrstNRelease
  /-- PERST_N_RELEASE (R316): A head's PERST_N rises; its reference clock is judged under R366 and its link training starts. -/
  | perstNRelease (head : Nat)
  /-- CARAVAN_HELLO_TIMEOUT (R309): A peer has not answered HELLO within 1 s and is set DEPARTED or FAILED. -/
  | caravanHelloTimeout (peer : Nat)
  /-- CARAVAN_READ_TIMEOUT (R303): A READ_REQ answer does not arrive within CAR_ACK_MS and the reconstruction fails with poison. -/
  | caravanReadTimeout (stripe latNs waitMs : Nat)
  /-- GET_CERTIFICATE (R456): SPDM GET_CERTIFICATE returns the Krytlith chain as certificate slot 0. -/
  | getCertificate (head slot : Nat)
  /-- GET_VERSION (R63): SPDM version negotiation answers 1.2 and accepts 1.1. -/
  | getVersion (head version : Nat)
  /-- CONFIGURATION_REQUEST (R316): A configuration request to a head is answered with Configuration Request Retry Status before step 8 and normally after. -/
  | configurationRequest (head : Nat) (io : Option (Nat × Bool)) (cto : Option CtoRange)
  /-- UNSUPPORTED_SIDEBAND_MESSAGE (R399): A sideband message of another type is dropped, and another command gets its type's unsupported-command completion. -/
  | unsupportedSidebandMessage (type cmd : Nat)
  /-- UNSUPPORTED_MAILBOX_COMMAND (R65): A mailbox command outside the supported sets returns Unsupported. -/
  | unsupportedMailboxCommand (head ld opcode : Nat)
  /-- UNSUPPORTED_FM_API_COMMAND (R41): An FM API command outside the supported table returns Unsupported. -/
  | unsupportedFmApiCommand (head opcode : Nat)
  deriving DecidableEq, Repr

end Sys2Proof
end

