-- ==== Sys2Proof/Decode.lean ====
section
/-! DEFINITION. Decode.lean: the command a word spells. The rows of spec/opcode_table.json give no bits (this block has
no instruction words: its commands are events, requests, frames and register accesses), so no word spells one. -/

namespace Sys2Proof

/-- The command the table's bits spell in a word of `nbits` bits: none, since no row of the table gives bits. -/
def decodeTableWord (_nbits _w : Nat) : Option Instr := none

end Sys2Proof
end

