-- ==== Sys2Proof/Config.lean ====
section
/-! DEFINITION. Config.lean: what the spec leaves open. Each constant is opaque: nothing in Lean can evaluate it, so a
statement about it holds for every value. The assumption log names each (notes/assumptions). -/

namespace Sys2Proof.Config

/-- A value the spec does not state, a fresh one for each count of `State.free` (notes/assumptions/3.md). -/
opaque freeValue : Nat → Nat

/-- Random bits of the true random number generator, by draw (16_security.md R463; notes/assumptions/4.md). -/
opaque trng : Nat → BitVec 512

/-- 16_security.md R461: AES-256-XTS of one 64-byte line under a key and a tweak, as a permutation of lines
(notes/assumptions/5.md). -/
opaque xts : BitVec 512 → Nat → Equiv.Perm (BitVec 512)

/-- 06_medium.md R195: a line of the pseudo-random pattern of a calibration page, by locator, age stamp and line, which the spec does
not give (notes/assumptions/135.md). -/
opaque calPattern : Nat → Nat → Nat → BitVec 512

/-- 16_security.md: SHAKE256 with 256 bits of output over a byte string (notes/assumptions/5.md). -/
opaque shake256 : List (BitVec 8) → BitVec 256

/-- 16_security.md R465: the first 64 bytes of SHAKE256 over a byte string (notes/assumptions/5.md). -/
opaque shake512 : List (BitVec 8) → BitVec 512

/-- 16_security.md R447: AES-256 key wrap of RFC 3394 of a key under a wrapping key (notes/assumptions/5.md). -/
opaque keyWrap : List (BitVec 8) → List (BitVec 8) → List (BitVec 8)

/-- 16_security.md R456: the certificate chain that Krytlith issued for the device key (notes/assumptions/5.md). -/
opaque certChain : List (BitVec 8)

/-- 16_security.md: an XMSS^MT signature over a message, by key, leaf index and message (notes/assumptions/5.md). -/
opaque sign : Nat → Nat → List (BitVec 8) → List (BitVec 8)

/-- 16_security.md: AES-256-GCM tag over a message, by key and invocation (notes/assumptions/5.md). -/
opaque gcmTag : BitVec 256 → Nat → List (BitVec 8) → BitVec 128

/-- 16_security.md R457: the boot ROM's bytes, which measurement 1 digests (notes/assumptions/5.md). -/
opaque bootRom : List (BitVec 8)

/-- 13_thermal_sled.md R399: the UUID that Get Endpoint UUID returns, which the spec does not give (notes/assumptions/24.md). -/
opaque endpointUuid : BitVec 128

/-- 13_thermal_sled.md R399: versions of a message type or PLDM type, which the spec does not give (notes/assumptions/24.md). -/
opaque sidebandVersion : Nat → Nat

/-- 13_thermal_sled.md R399: the terminus ID that GetTID returns, which the spec does not give (notes/assumptions/24.md). -/
opaque terminusId : Nat

end Sys2Proof.Config
end

