-- ==== Sys2Proof/Machine/Assoc.lean ====
section
/-! DEFINITION. Machine/Assoc.lean: sparse tables as sorted association lists in one canonical form, bit fields of
registers, saturating counters and byte strings. -/

namespace Sys2Proof.Machine

/-- The entry of key `k`, if the table lists one. -/
def aget {α : Type} (k : Nat) : List (Nat × α) → Option α
  | [] => none
  | (j, v) :: l => if j = k then some v else aget k l

/-- `aget` with a value for keys the table does not list. -/
def agetD {α : Type} (k : Nat) (d : α) (l : List (Nat × α)) : α := (aget k l).getD d

/-- Insert or replace the entry of `k`, keeping the keys strictly rising. -/
def aput {α : Type} (k : Nat) (v : α) : List (Nat × α) → List (Nat × α)
  | [] => [(k, v)]
  | (j, w) :: l =>
    if k < j then (k, v) :: (j, w) :: l
    else if k = j then (k, v) :: l
    else (j, w) :: aput k v l

/-- Remove the entry of `k`. -/
def adel {α : Type} (k : Nat) (l : List (Nat × α)) : List (Nat × α) := l.filter (fun p => p.1 != k)

/-- Write `v` at `k` in a table whose unlisted keys read as `d`: the value `d` removes the entry, so that equal
tables are equal lists. -/
def aputD {α : Type} [DecidableEq α] (d : α) (k : Nat) (v : α) (l : List (Nat × α)) : List (Nat × α) :=
  if v = d then adel k l else aput k v l

/-- Change the entry of `k` when there is one. -/
def amod {α : Type} (k : Nat) (f : α → α) (l : List (Nat × α)) : List (Nat × α) :=
  l.map (fun p => if p.1 = k then (p.1, f p.2) else p)

/-- Whether the table lists `k`. -/
def ahas {α : Type} (k : Nat) (l : List (Nat × α)) : Bool := (aget k l).isSome

/-- Remove every entry whose key satisfies `p`. -/
def adelWhere {α : Type} (p : Nat → Bool) (l : List (Nat × α)) : List (Nat × α) := l.filter (fun e => !p e.1)

/-- The keys are strictly rising. -/
def asorted {α : Type} : List (Nat × α) → Bool
  | [] => true
  | [_] => true
  | a :: b :: l => decide (a.1 < b.1) && asorted (b :: l)

/-- Bits `hi` down to `lo` of a register word, as a number. -/
def fieldOf (w : W32) (hi lo : Nat) : Nat := (w.toNat / 2 ^ lo) % 2 ^ (hi + 1 - lo)

/-- The mask with bits `hi` down to `lo` set. -/
def fieldMask (hi lo : Nat) : W32 := BitVec.ofNat 32 ((2 ^ (hi + 1 - lo) - 1) * 2 ^ lo)

/-- `w` with bits `hi` down to `lo` replaced by the low bits of `v`. -/
def withField (w : W32) (hi lo : Nat) (v : Nat) : W32 :=
  (w &&& ~~~ fieldMask hi lo) ||| (BitVec.ofNat 32 (v * 2 ^ lo) &&& fieldMask hi lo)

/-- Bit `b` of a number. -/
def bitOf (n b : Nat) : Bool := n / 2 ^ b % 2 == 1

/-- 0 or 1. -/
def b2n (b : Bool) : Nat := if b then 1 else 0

/-- A number with bit `b` set. -/
def setBit (n b : Nat) : Nat := n ||| 2 ^ b

/-- A number with bit `b` cleared. -/
def clearBit (n b : Nat) : Nat := if bitOf n b then n - 2 ^ b else n

/-- A number with bit `b` as given. -/
def putBit (n b : Nat) (v : Bool) : Nat := if v then setBit n b else clearBit n b

/-- The number of set bits among bits 0 to `k − 1`. -/
def popCount (n : Nat) : Nat → Nat
  | 0 => 0
  | k + 1 => b2n (bitOf n k) + popCount n k

/-- The mask whose bit `i` is `f i`, for i below `k`. -/
def maskOf (k : Nat) (f : Nat → Bool) : Nat := (List.range k).foldl (fun m i => putBit m i (f i)) 0

/-- A counter that saturates at `top`. -/
def satAdd (top n d : Nat) : Nat := min top (n + d)

/-- `n` as `k` little-endian bytes (R8). -/
def leBytes : Nat → Nat → List Byte
  | 0, _ => []
  | k + 1, n => BitVec.ofNat 8 n :: leBytes k (n / 256)

/-- The number that little-endian bytes spell (R8). -/
def leNat : List Byte → Nat
  | [] => 0
  | b :: l => b.toNat + 256 * leNat l

/-- Bytes `off` to `off + n − 1` as a little-endian number; bytes past the end read 0. -/
def leAt (l : List Byte) (off n : Nat) : Nat := leNat ((l.drop off).take n)

/-- `n` zero bytes. -/
def zeros (n : Nat) : List Byte := List.replicate n 0

/-- A list of bytes cut or zero-filled to `n` bytes. -/
def padTo (n : Nat) (l : List Byte) : List Byte := (l ++ zeros n).take n

/-- Apply `f` to entry `i` of a list. -/
def lmod {α : Type} (i : Nat) (f : α → α) (l : List α) : List α :=
  l.mapIdx (fun j x => if j = i then f x else x)

/-- Entry `i` of a fixed number of like things; the default outside them. -/
def vget {α : Type} {n : Nat} (i : Nat) (d : α) (v : Vector α n) : α := v.toList.getD i d

/-- Apply `f` to entry `i` of a fixed number of like things. -/
def vmod {α : Type} {n : Nat} (i : Nat) (f : α → α) (v : Vector α n) : Vector α n :=
  ⟨⟨lmod i f v.toList⟩, by simp [lmod]⟩

/-- Apply `f` to every entry, with its number. -/
def vmapI {α : Type} {n : Nat} (f : Nat → α → α) (v : Vector α n) : Vector α n :=
  ⟨⟨v.toList.mapIdx f⟩, by simp⟩

/-- Apply `f` to every entry. -/
def vmap {α : Type} {n : Nat} (f : α → α) (v : Vector α n) : Vector α n := vmapI (fun _ => f) v

/-- Whether every element of `l` is below the number given. -/
def allBelow (n : Nat) (l : List Nat) : Bool := l.all (fun x => decide (x < n))

/-- The least element of a list, or the default for an empty list. -/
def leastOr (d : Nat) : List Nat → Nat
  | [] => d
  | x :: l => l.foldl min x

/-- The greatest element of a list, or 0. -/
def greatest (l : List Nat) : Nat := l.foldl max 0

/-- The sum of a list. -/
def total (l : List Nat) : Nat := l.foldl (· + ·) 0

end Sys2Proof.Machine
end

