-- ==== Sys2Proof/Machine/Codes.lean ====
section
/-! DEFINITION. Machine/Codes.lean: the Guestbook codes (17_guestbook_parameter_store.md R484), the completion statuses
(14_command_rings.md R416), and the parameters of the Parameter Store (R487) with their defaults. -/

namespace Sys2Proof.Machine

namespace Gb

/-- R484: GB_AGE_CLOCK. -/
def AGE_CLOCK : Nat := 0x0001
/-- R484: GB_MODE_CHANGE. -/
def MODE_CHANGE : Nat := 0x0002
/-- R484: GB_BRINGUP_DONE. -/
def BRINGUP_DONE : Nat := 0x0003
/-- R484: GB_BRINGUP_FAIL (P). -/
def BRINGUP_FAIL : Nat := 0x0004
/-- R484: GB_HOLDUP_ENTER (P). -/
def HOLDUP_ENTER : Nat := 0x0005
/-- R484: GB_HOLDUP_DONE. -/
def HOLDUP_DONE : Nat := 0x0006
/-- R484: GB_HOLDUP_CUT (P). -/
def HOLDUP_CUT : Nat := 0x0007
/-- R484: GB_PRIMARY_FAILOVER (P). -/
def PRIMARY_FAILOVER : Nat := 0x0008
/-- R484: GB_NO_PRIMARY (P). -/
def NO_PRIMARY : Nat := 0x0009
/-- R484: GB_SEALED_WRITE. -/
def SEALED_WRITE : Nat := 0x000A
/-- R484: GB_POP_MISMATCH (P). -/
def POP_MISMATCH : Nat := 0x000B
/-- R484: GB_COPY_CONFLICT (P). -/
def COPY_CONFLICT : Nat := 0x000C
/-- R484: GB_LINK_SLOW. -/
def LINK_SLOW : Nat := 0x1001
/-- R484: GB_LINK_DEGRADED. -/
def LINK_DEGRADED : Nat := 0x1002
/-- R484: GB_HEAD_BOND_FAIL. -/
def HEAD_BOND_FAIL : Nat := 0x1003
/-- R484: GB_LINK_DOWN. -/
def LINK_DOWN : Nat := 0x1004
/-- R484: GB_MEM_REFUSED. -/
def MEM_REFUSED : Nat := 0x1005
/-- R484: GB_DC_UNBACKED. -/
def DC_UNBACKED : Nat := 0x1006
/-- R484: GB_POISON_RX. -/
def POISON_RX : Nat := 0x1007
/-- R484: GB_IDE_FAIL (P). -/
def IDE_FAIL : Nat := 0x1008
/-- R484: GB_CXL_EVT_OVERFLOW. -/
def CXL_EVT_OVERFLOW : Nat := 0x1009
/-- R484: GB_MESH_LINK_DOWN (P). -/
def MESH_LINK_DOWN : Nat := 0x2001
/-- R484: GB_HAZARD_FULL. -/
def HAZARD_FULL : Nat := 0x2002
/-- R484: GB_LAT_OVER. -/
def LAT_OVER : Nat := 0x2003
/-- R484: GB_DIRTY_LIMIT_HIT. -/
def DIRTY_LIMIT_HIT : Nat := 0x2004
/-- R484: GB_TXN_TIMEOUT. -/
def TXN_TIMEOUT : Nat := 0x2005
/-- R484: GB_FS_TAG_PARITY. -/
def FS_TAG_PARITY : Nat := 0x3001
/-- R484: GB_FS_WAY_WITHDRAWN (P). -/
def FS_WAY_WITHDRAWN : Nat := 0x3002
/-- R484: GB_FS_LINE_UNCORR. -/
def FS_LINE_UNCORR : Nat := 0x3003
/-- R484: GB_FS_DIRTY_LOST (P). -/
def FS_DIRTY_LOST : Nat := 0x3004
/-- R484: GB_FS_SET_FULL. -/
def FS_SET_FULL : Nat := 0x3005
/-- R484: GB_FS_INVAL_PARTIAL. -/
def FS_INVAL_PARTIAL : Nat := 0x3006
/-- R484: GB_FS_DISABLED. -/
def FS_DISABLED : Nat := 0x3007
/-- R484: GB_FS_ENABLED. -/
def FS_ENABLED : Nat := 0x3008
/-- R484: GB_FS_LIMIT_CAP. -/
def FS_LIMIT_CAP : Nat := 0x3009
/-- R484: GB_XL_STC_PARITY. -/
def XL_STC_PARITY : Nat := 0x4001
/-- R484: GB_XL_MAP_UNCORR. -/
def XL_MAP_UNCORR : Nat := 0x4002
/-- R484: GB_XL_REBUILD_START. -/
def XL_REBUILD_START : Nat := 0x4003
/-- R484: GB_XL_REBUILD_DONE. -/
def XL_REBUILD_DONE : Nat := 0x4004
/-- R484: GB_XL_BLOCK_RETIRE. -/
def XL_BLOCK_RETIRE : Nat := 0x4005
/-- R484: GB_XL_WEAR_RETIRE. -/
def XL_WEAR_RETIRE : Nat := 0x4006
/-- R484: GB_XL_COPY_RESTART. -/
def XL_COPY_RESTART : Nat := 0x4007
/-- R484: GB_XL_SPARE_10 (P). -/
def XL_SPARE_10 : Nat := 0x4008
/-- R484: GB_XL_SPARE_3 (P). -/
def XL_SPARE_3 : Nat := 0x4009
/-- R484: GB_XL_SPARE_1 (P). -/
def XL_SPARE_1 : Nat := 0x400A
/-- R484: GB_XL_SPARE_OUT (P). -/
def XL_SPARE_OUT : Nat := 0x400B
/-- R484: GB_XL_SPREAD_HIGH. -/
def XL_SPREAD_HIGH : Nat := 0x400C
/-- R484: GB_XL_JNL_FULL. -/
def XL_JNL_FULL : Nat := 0x400D
/-- R484: GB_XL_CKPT_LOST (P). -/
def XL_CKPT_LOST : Nat := 0x400E
/-- R484: GB_XL_RECOVERED. -/
def XL_RECOVERED : Nat := 0x400F
/-- R484: GB_XL_FORMAT (P). -/
def XL_FORMAT : Nat := 0x4010
/-- R484: GB_MED_PROG_FAIL. -/
def MED_PROG_FAIL : Nat := 0x5001
/-- R484: GB_MED_CLEAR_FAIL. -/
def MED_CLEAR_FAIL : Nat := 0x5002
/-- R484: GB_MED_DIE_FAIL (P). -/
def MED_DIE_FAIL : Nat := 0x5003
/-- R484: GB_MED_CH_FAIL (P). -/
def MED_CH_FAIL : Nat := 0x5004
/-- R484: GB_MED_CA_CRC. -/
def MED_CA_CRC : Nat := 0x5005
/-- R484: GB_MED_RETRAIN. -/
def MED_RETRAIN : Nat := 0x5006
/-- R484: GB_MED_CAL_DEFAULT. -/
def MED_CAL_DEFAULT : Nat := 0x5007
/-- R484: GB_MED_AGE_ADVANCE (P). -/
def MED_AGE_ADVANCE : Nat := 0x5008
/-- R484: GB_MED_TEMP_STALE. -/
def MED_TEMP_STALE : Nat := 0x5009
/-- R484: GB_MED_OP_STRETCH. -/
def MED_OP_STRETCH : Nat := 0x500A
/-- R484: GB_INT_CORR_THRESH. -/
def INT_CORR_THRESH : Nat := 0x6001
/-- R484: GB_INT_LADDER. -/
def INT_LADDER : Nat := 0x6002
/-- R484: GB_INT_UNCORR (P). -/
def INT_UNCORR : Nat := 0x6003
/-- R484: GB_INT_HDR_INVALID. -/
def INT_HDR_INVALID : Nat := 0x6004
/-- R484: GB_INT_REFRESH_DROP. -/
def INT_REFRESH_DROP : Nat := 0x6005
/-- R484: GB_INT_INJECT. -/
def INT_INJECT : Nat := 0x6006
/-- R484: GB_CUP_TILE_FAILED (P). -/
def CUP_TILE_FAILED : Nat := 0x7001
/-- R484: GB_CUP_TILE_LOST (P). -/
def CUP_TILE_LOST : Nat := 0x7002
/-- R484: GB_CUP_SLOT_FULL. -/
def CUP_SLOT_FULL : Nat := 0x7003
/-- R484: GB_CUP_PARITY_UNCORR. -/
def CUP_PARITY_UNCORR : Nat := 0x7004
/-- R484: GB_CUP_RESYNC_POISON. -/
def CUP_RESYNC_POISON : Nat := 0x7005
/-- R484: GB_CUP_REBUILD_START. -/
def CUP_REBUILD_START : Nat := 0x7006
/-- R484: GB_CUP_REBUILD_DONE. -/
def CUP_REBUILD_DONE : Nat := 0x7007
/-- R484: GB_CUP_REJOIN (P). -/
def CUP_REJOIN : Nat := 0x7008
/-- R484: GB_CUP_CONFIG (P). -/
def CUP_CONFIG : Nat := 0x7009
/-- R484: GB_CAR_JOIN (P). -/
def CAR_JOIN : Nat := 0x8001
/-- R484: GB_CAR_LEAVE (P). -/
def CAR_LEAVE : Nat := 0x8002
/-- R484: GB_CAR_PEER_STATE (P). -/
def CAR_PEER_STATE : Nat := 0x8003
/-- R484: GB_CAR_AUTH_FAIL. -/
def CAR_AUTH_FAIL : Nat := 0x8004
/-- R484: GB_CAR_SLOT_FULL. -/
def CAR_SLOT_FULL : Nat := 0x8005
/-- R484: GB_CAR_VERIFY. -/
def CAR_VERIFY : Nat := 0x8006
/-- R484: GB_CAR_RESYNC_START. -/
def CAR_RESYNC_START : Nat := 0x8007
/-- R484: GB_CAR_RESYNC_DONE. -/
def CAR_RESYNC_DONE : Nat := 0x8008
/-- R484: GB_CAR_REBUILD_START. -/
def CAR_REBUILD_START : Nat := 0x8009
/-- R484: GB_CAR_REBUILD_DONE. -/
def CAR_REBUILD_DONE : Nat := 0x800A
/-- R484: GB_CAR_REPLACED (P). -/
def CAR_REPLACED : Nat := 0x800B
/-- R484: GB_BELFRY_LOCK. -/
def BELFRY_LOCK : Nat := 0x9001
/-- R484: GB_BELFRY_HOLDOVER. -/
def BELFRY_HOLDOVER : Nat := 0x9002
/-- R484: GB_BELFRY_FREE. -/
def BELFRY_FREE : Nat := 0x9003
/-- R484: GB_BELFRY_STEP. -/
def BELFRY_STEP : Nat := 0x9004
/-- R484: GB_BELFRY_MARK_ERR. -/
def BELFRY_MARK_ERR : Nat := 0x9005
/-- R484: GB_BELFRY_REF_RANGE. -/
def BELFRY_REF_RANGE : Nat := 0x9006
/-- R484: GB_BELFRY_MSG_ERR. -/
def BELFRY_MSG_ERR : Nat := 0x9007
/-- R484: GB_BELFRY_OVERRIDE. -/
def BELFRY_OVERRIDE : Nat := 0x9008
/-- R484: GB_BELFRY_SCHED_LOAD. -/
def BELFRY_SCHED_LOAD : Nat := 0x9009
/-- R484: GB_TRIM_RANGE. -/
def TRIM_RANGE : Nat := 0x900A
/-- R484: GB_PG_FAIL (P). -/
def PG_FAIL : Nat := 0xA001
/-- R484: GB_PWR_ON_HELD. -/
def PWR_ON_HELD : Nat := 0xA002
/-- R484: GB_PWR_FAULT_CLEAR (P). -/
def PWR_FAULT_CLEAR : Nat := 0xA003
/-- R484: GB_BTN_LONG (P). -/
def BTN_LONG : Nat := 0xA004
/-- R484: GB_MRST. -/
def MRST : Nat := 0xA005
/-- R484: GB_SHED_STAGE. -/
def SHED_STAGE : Nat := 0xA006
/-- R484: GB_HOLDUP_TEST. -/
def HOLDUP_TEST : Nat := 0xA007
/-- R484: GB_HOLDUP_FAIL (P). -/
def HOLDUP_FAIL : Nat := 0xA008
/-- R484: GB_HOLDUP_DEFER. -/
def HOLDUP_DEFER : Nat := 0xA009
/-- R484: GB_HOLDUP_POWER_HIGH (P). -/
def HOLDUP_POWER_HIGH : Nat := 0xA00A
/-- R484: GB_CLK_SRC_FAIL (P). -/
def CLK_SRC_FAIL : Nat := 0xB001
/-- R484: GB_CLK_COAST. -/
def CLK_COAST : Nat := 0xB002
/-- R484: GB_CLK_SWITCH. -/
def CLK_SWITCH : Nat := 0xB003
/-- R484: GB_CLK_FORCED_SWITCH. -/
def CLK_FORCED_SWITCH : Nat := 0xB004
/-- R484: GB_CLK_RETURN. -/
def CLK_RETURN : Nat := 0xB005
/-- R484: GB_CLK_GATE_TIMEOUT. -/
def CLK_GATE_TIMEOUT : Nat := 0xB006
/-- R484: GB_CDC_TIMEOUT. -/
def CDC_TIMEOUT : Nat := 0xB007
/-- R484: GB_TILE_RESET. -/
def TILE_RESET : Nat := 0xB008
/-- R484: GB_THERM_WARN. -/
def THERM_WARN : Nat := 0xC001
/-- R484: GB_THERM_CRIT (P). -/
def THERM_CRIT : Nat := 0xC002
/-- R484: GB_THERM_SHUT (P). -/
def THERM_SHUT : Nat := 0xC003
/-- R484: GB_THERM_TRIP (P). -/
def THERM_TRIP : Nat := 0xC004
/-- R484: GB_THERM_RISE. -/
def THERM_RISE : Nat := 0xC005
/-- R484: GB_THERM_SENSOR. -/
def THERM_SENSOR : Nat := 0xC006
/-- R484: GB_FAN_FAIL (P). -/
def FAN_FAIL : Nat := 0xC007
/-- R484: GB_FAN_RECOVER. -/
def FAN_RECOVER : Nat := 0xC008
/-- R484: GB_FW_REFUSED (P). -/
def FW_REFUSED : Nat := 0xD001
/-- R484: GB_FW_FALLBACK (P). -/
def FW_FALLBACK : Nat := 0xD002
/-- R484: GB_FW_FLOOR (P). -/
def FW_FLOOR : Nat := 0xD003
/-- R484: GB_ATTEST_EXHAUSTED (P). -/
def ATTEST_EXHAUSTED : Nat := 0xD004
/-- R484: GB_SEC_KEY_LOST (P). -/
def SEC_KEY_LOST : Nat := 0xD005
/-- R484: GB_SEC_TRNG (P). -/
def SEC_TRNG : Nat := 0xD006
/-- R484: GB_SEC_LOCKOUT (P). -/
def SEC_LOCKOUT : Nat := 0xD007
/-- R484: GB_LC_CHANGE (P). -/
def LC_CHANGE : Nat := 0xD008
/-- R484: GB_DEBUG_GRANT (P). -/
def DEBUG_GRANT : Nat := 0xD009
/-- R484: GB_PORTER_RING_FAULT. -/
def PORTER_RING_FAULT : Nat := 0xE001
/-- R484: GB_PORTER_RING_RESET. -/
def PORTER_RING_RESET : Nat := 0xE002
/-- R484: GB_PORTER_LATE. -/
def PORTER_LATE : Nat := 0xE003
/-- R484: GB_PORTER_ABORT. -/
def PORTER_ABORT : Nat := 0xE004
/-- R484: GB_PORTER_EVT_LOST. -/
def PORTER_EVT_LOST : Nat := 0xE005
/-- R484: GB_REG_ACCESS. -/
def REG_ACCESS : Nat := 0xE011
/-- R484: GB_REG_STALL. -/
def REG_STALL : Nat := 0xE012
/-- R484: GB_REG_PARITY. -/
def REG_PARITY : Nat := 0xE013
/-- R484: GB_REG_PARITY_LOST (P). -/
def REG_PARITY_LOST : Nat := 0xE014
/-- R484: GB_REG_PRIV_FILTER. -/
def REG_PRIV_FILTER : Nat := 0xE015
/-- R484: GB_GB_CLEARED (P). -/
def GB_CLEARED : Nat := 0xF001
/-- R484: GB_GB_PERM_FULL (P). -/
def GB_PERM_FULL : Nat := 0xF002
/-- R484: GB_GB_DROPPED. -/
def GB_DROPPED : Nat := 0xF003
/-- R484: GB_GB_CHECK. -/
def GB_CHECK : Nat := 0xF004
/-- R484: GB_PARAM_TORN. -/
def PARAM_TORN : Nat := 0xF005
/-- R484: GB_PARAM_FLASH (P). -/
def PARAM_FLASH : Nat := 0xF006
/-- R484: GB_PARAM_LOCKOUT (P). -/
def PARAM_LOCKOUT : Nat := 0xF007
/-- R484: GB_PARAM_UNLOCK. -/
def PARAM_UNLOCK : Nat := 0xF008
/-- R484: GB_PARAM_ENERGY. -/
def PARAM_ENERGY : Nat := 0xF009

end Gb

/-- R484: codes marked (P). -/
def gbPermCodes : List Nat :=
  [Gb.BRINGUP_FAIL, Gb.HOLDUP_ENTER, Gb.HOLDUP_CUT, Gb.PRIMARY_FAILOVER, Gb.NO_PRIMARY, Gb.POP_MISMATCH, Gb.COPY_CONFLICT, Gb.IDE_FAIL]
  ++ [Gb.MESH_LINK_DOWN, Gb.FS_WAY_WITHDRAWN, Gb.FS_DIRTY_LOST, Gb.XL_SPARE_10, Gb.XL_SPARE_3, Gb.XL_SPARE_1, Gb.XL_SPARE_OUT, Gb.XL_CKPT_LOST]
  ++ [Gb.XL_FORMAT, Gb.MED_DIE_FAIL, Gb.MED_CH_FAIL, Gb.MED_AGE_ADVANCE, Gb.INT_UNCORR, Gb.CUP_TILE_FAILED, Gb.CUP_TILE_LOST, Gb.CUP_REJOIN]
  ++ [Gb.CUP_CONFIG, Gb.CAR_JOIN, Gb.CAR_LEAVE, Gb.CAR_PEER_STATE, Gb.CAR_REPLACED, Gb.PG_FAIL, Gb.PWR_FAULT_CLEAR, Gb.BTN_LONG]
  ++ [Gb.HOLDUP_FAIL, Gb.HOLDUP_POWER_HIGH, Gb.CLK_SRC_FAIL, Gb.THERM_CRIT, Gb.THERM_SHUT, Gb.THERM_TRIP, Gb.FAN_FAIL, Gb.FW_REFUSED]
  ++ [Gb.FW_FALLBACK, Gb.FW_FLOOR, Gb.ATTEST_EXHAUSTED, Gb.SEC_KEY_LOST, Gb.SEC_TRNG, Gb.SEC_LOCKOUT, Gb.LC_CHANGE, Gb.DEBUG_GRANT]
  ++ [Gb.REG_PARITY_LOST, Gb.GB_CLEARED, Gb.GB_PERM_FULL, Gb.PARAM_FLASH, Gb.PARAM_LOCKOUT]

/-- 14_command_rings.md R416: completion statuses. -/
inductive Status where
  | success | invalidOpcode | invalidField | wrongMode | notPrivileged | notAuthorised | resourceBusy
  | mediaError | energyLow | aborted | timeout | partialDone
  deriving DecidableEq, Repr

/-- R416: the code of a status. -/
def Status.code : Status → Nat
  | .success => 0 | .invalidOpcode => 1 | .invalidField => 2 | .wrongMode => 3 | .notPrivileged => 4
  | .notAuthorised => 5 | .resourceBusy => 6 | .mediaError => 7 | .energyLow => 8 | .aborted => 9
  | .timeout => 10 | .partialDone => 11

/-- R486: parameter classes. -/
inductive ParamClass where
  | device | owner | stateOnly | hidden
  deriving DecidableEq, Repr

/-- R487: one row of the parameter table. -/
structure ParamInfo where
  /-- parameter number, bits 15:8 of PARAM_ID. -/
  num : Nat
  /-- number of elements. -/
  count : Nat
  /-- bytes of an element. -/
  size : Nat
  /-- R486: class. -/
  cls : ParamClass
  /-- R495: the password protects it. -/
  lock : Bool
  deriving DecidableEq, Repr

namespace Param

/-- R487: PARAM_ID of element 0 of MODE_FLAGS. -/
def MODE_FLAGS : Nat := 0x0100
/-- R487: PARAM_ID of element 0 of PWR_FLAGS. -/
def PWR_FLAGS : Nat := 0x0200
/-- R487: PARAM_ID of element 0 of SEQ_TABLE. -/
def SEQ_TABLE : Nat := 0x0300
/-- R487: PARAM_ID of element 0 of HOLD_PARAMS. -/
def HOLD_PARAMS : Nat := 0x0400
/-- R487: PARAM_ID of element 0 of SHED_LEVELS. -/
def SHED_LEVELS : Nat := 0x0500
/-- R487: PARAM_ID of element 0 of CLK_POLICY. -/
def CLK_POLICY : Nat := 0x0600
/-- R487: PARAM_ID of element 0 of THERM_PARAMS. -/
def THERM_PARAMS : Nat := 0x0700
/-- R487: PARAM_ID of element 0 of THERM_LIMITS. -/
def THERM_LIMITS : Nat := 0x0800
/-- R487: PARAM_ID of element 0 of FAN_RECORDS. -/
def FAN_RECORDS : Nat := 0x0900
/-- R487: PARAM_ID of element 0 of GPIO_SEL. -/
def GPIO_SEL : Nat := 0x0A00
/-- R487: PARAM_ID of element 0 of HOST_BOND. -/
def HOST_BOND : Nat := 0x0B00
/-- R487: PARAM_ID of element 0 of HOST_CLOCKING. -/
def HOST_CLOCKING : Nat := 0x0C00
/-- R487: PARAM_ID of element 0 of PRIV_CTL. -/
def PRIV_CTL : Nat := 0x0D00
/-- R487: PARAM_ID of element 0 of BELFRY_REF. -/
def BELFRY_REF : Nat := 0x1000
/-- R487: PARAM_ID of element 0 of BELFRY_SCHED. -/
def BELFRY_SCHED : Nat := 0x1100
/-- R487: PARAM_ID of element 0 of FS_WAYS. -/
def FS_WAYS : Nat := 0x1200
/-- R487: PARAM_ID of element 0 of FS_CAP. -/
def FS_CAP : Nat := 0x1300
/-- R487: PARAM_ID of element 0 of WEAR_LIMITS. -/
def WEAR_LIMITS : Nat := 0x1400
/-- R487: PARAM_ID of element 0 of INT_SETTINGS. -/
def INT_SETTINGS : Nat := 0x1500
/-- R487: PARAM_ID of element 0 of CUPOLA_REGIONS. -/
def CUPOLA_REGIONS : Nat := 0x1600
/-- R487: PARAM_ID of element 0 of LD_ALLOC. -/
def LD_ALLOC : Nat := 0x1700
/-- R487: PARAM_ID of element 0 of DC_REGIONS. -/
def DC_REGIONS : Nat := 0x1800
/-- R487: PARAM_ID of element 0 of DC_SHARE. -/
def DC_SHARE : Nat := 0x1900
/-- R487: PARAM_ID of element 0 of MEDIA_KEYS. -/
def MEDIA_KEYS : Nat := 0x2000
/-- R487: PARAM_ID of element 0 of IMPORTED_KEYS. -/
def IMPORTED_KEYS : Nat := 0x2100
/-- R487: PARAM_ID of element 0 of OWNER_AUTH. -/
def OWNER_AUTH : Nat := 0x2200
/-- R487: PARAM_ID of element 0 of PARAM_AUTH. -/
def PARAM_AUTH : Nat := 0x2300
/-- R487: PARAM_ID of element 0 of LC. -/
def LC : Nat := 0x2400
/-- R487: PARAM_ID of element 0 of AUTH_FAILS. -/
def AUTH_FAILS : Nat := 0x2500
/-- R487: PARAM_ID of element 0 of FW_BOOT. -/
def FW_BOOT : Nat := 0x2600
/-- R487: PARAM_ID of element 0 of ATTEST. -/
def ATTEST : Nat := 0x2700
/-- R487: PARAM_ID of element 0 of SHUTDOWN_STATE. -/
def SHUTDOWN_STATE : Nat := 0x2800
/-- R487: PARAM_ID of element 0 of POWER_CYCLES. -/
def POWER_CYCLES : Nat := 0x2900
/-- R487: PARAM_ID of element 0 of HOLDUP_REPORT. -/
def HOLDUP_REPORT : Nat := 0x2A00
/-- R487: PARAM_ID of element 0 of CUP_FAILED. -/
def CUP_FAILED : Nat := 0x2B00
/-- R487: PARAM_ID of element 0 of CAR_GROUP. -/
def CAR_GROUP : Nat := 0x3000
/-- R487: PARAM_ID of element 0 of CAR_STALE. -/
def CAR_STALE : Nat := 0x3100
/-- R487: PARAM_ID of element 0 of CAR_BOOT. -/
def CAR_BOOT : Nat := 0x3200

end Param

/-- R487: the parameter table, first half. -/
def paramTableA : List ParamInfo :=
  [⟨0x01, 1, 2, .owner, true⟩,
   ⟨0x02, 1, 2, .owner, true⟩,
   ⟨0x03, 16, 4, .device, true⟩,
   ⟨0x04, 1, 24, .device, true⟩,
   ⟨0x05, 1, 8, .device, true⟩,
   ⟨0x06, 1, 2, .device, true⟩,
   ⟨0x07, 1, 8, .device, true⟩,
   ⟨0x08, 3, 4, .device, true⟩,
   ⟨0x09, 4, 32, .device, true⟩,
   ⟨0x0A, 1, 1, .device, true⟩,
   ⟨0x0B, 1, 1, .device, true⟩,
   ⟨0x0C, 8, 1, .device, true⟩,
   ⟨0x0D, 1, 2, .owner, true⟩,
   ⟨0x10, 1, 20, .owner, false⟩,
   ⟨0x11, 8, 1088, .owner, false⟩,
   ⟨0x12, 1, 1, .owner, false⟩,
   ⟨0x13, 8, 4, .owner, false⟩,
   ⟨0x14, 1, 4, .owner, false⟩,
   ⟨0x15, 1, 4, .owner, false⟩]

/-- R487: the parameter table, second half. -/
def paramTableB : List ParamInfo :=
  [⟨0x16, 1, 1, .owner, false⟩,
   ⟨0x17, 224, 1024, .owner, false⟩,
   ⟨0x18, 128, 64, .owner, false⟩,
   ⟨0x19, 64, 1024, .owner, false⟩,
   ⟨0x20, 255, 80, .hidden, false⟩,
   ⟨0x21, 4, 48, .hidden, false⟩,
   ⟨0x22, 1, 32, .hidden, false⟩,
   ⟨0x23, 1, 32, .hidden, false⟩,
   ⟨0x24, 1, 8, .stateOnly, false⟩,
   ⟨0x25, 1, 2, .stateOnly, false⟩,
   ⟨0x26, 1, 4, .stateOnly, false⟩,
   ⟨0x27, 1, 16, .stateOnly, false⟩,
   ⟨0x28, 1, 8, .stateOnly, false⟩,
   ⟨0x29, 1, 4, .stateOnly, false⟩,
   ⟨0x2A, 1, 4, .stateOnly, false⟩,
   ⟨0x2B, 1, 1, .stateOnly, false⟩,
   ⟨0x30, 1, 768, .stateOnly, false⟩,
   ⟨0x31, 20, 512, .stateOnly, false⟩,
   ⟨0x32, 1, 4, .stateOnly, false⟩]

/-- R487: the row of a PARAM_ID whose element exists. -/
def paramInfo? (id : Nat) : Option ParamInfo :=
  match (paramTableA ++ paramTableB).find? (fun p => p.num == id / 256) with
  | none => none
  | some p => if id % 256 < p.count then some p else none

end Sys2Proof.Machine
end

