-- ==== Sys2Proof/Machine/StCore.lean ====
section
/-! DEFINITION. Machine/StCore.lean: the package data a part is built with, the register file, the Guestbook and the
Parameter Store as plain data. Each field's docstring gives the spec's file and rule and, after "reset:", where its
reset value comes from. -/

namespace Sys2Proof.Machine

/-- 10_modes.md R311: the eight operating modes. -/
inductive Mode where
  | off | standby | bringup | serve | degraded | sealed | holdup | service
  deriving DecidableEq, Repr

/-- 10_modes.md R311: the mode's code, as MODE of MODE_STATUS gives it. -/
def Mode.code : Mode → Nat
  | .off => 0 | .standby => 1 | .bringup => 2 | .serve => 3
  | .degraded => 4 | .sealed => 5 | .holdup => 6 | .service => 7

/-- What a part is built and fused with; no command changes it, but for the fuse words of 16_security.md. -/
structure Pop where
  /-- 00_scope.md R1, family table: tiles in the package, 2, 4 or 8. reset: DESIGN CHOICE 8 -/
  tiles : Nat := 8
  /-- 00_scope.md R4: ranks per channel, 1, 2 or 4. reset: DESIGN CHOICE 4 -/
  ranks : Nat := 4
  /-- 00_scope.md R5: 24 Gb GDDR7 devices in place of 32 Gb. reset: DESIGN CHOICE false -/
  density24 : Bool := false
  /-- 15_registers.md R443: KRY_REV, fused. reset: DESIGN CHOICE 0x02000100, the example of the Identity section -/
  krev : W32 := 0x02000100
  /-- 14_command_rings.md R428: SERIAL, the 128-bit device serial number. reset: DESIGN CHOICE 0 -/
  serial : BitVec 128 := 0
  /-- 04_belfry.md BELFRY_TRIM_STATUS: the factory TRIM_CODE. reset: DESIGN CHOICE 256 -/
  trimFactory : Nat := 256
  deriving DecidableEq, Repr

/-- 15_registers.md R445: the BAR2 register file. Registers whose home is typed state elsewhere are computed from it
(`regView`) and are not stored here. -/
structure RegFile where
  /-- 15_registers.md R445: value of each register by BAR2 offset; an unlisted register holds the reset value of the register table. reset: the table's -/
  vals : List (Nat × W32) := []
  /-- 00_scope.md R11: _HI values written and waiting for their _LO write, by offset of the _HI register. reset: none -/
  heldHi : List (Nat × W32) := []
  /-- 00_scope.md R11, 18_performance_counters.md R505: _HI values captured by a _LO read; key offset, or offset + 2^20 × (head + 1) on the user page. reset: none -/
  capHi : List (Nat × W32) := []
  /-- 15_registers.md R442: values at the end of the last Bring-up. reset: the table's -/
  snapshot : List (Nat × W32) := []
  deriving DecidableEq, Repr

/-- 17_guestbook_parameter_store.md R475: one Guestbook record. CHECK is computed from the rest (`gbCheck`). -/
structure GbRecord where
  /-- R475 CODE. -/
  code : Nat
  /-- R475 SOURCE: tile 0 to 7, or 15 for the package. -/
  source : Nat
  /-- R475 PERM: a copy also goes to the permanent area. -/
  perm : Bool := false
  /-- R475 SUPPRESSED. -/
  suppressed : Bool := false
  /-- R475 LOST_BEFORE. -/
  lostBefore : Bool := false
  /-- R475 OP_TIME in s. -/
  opTime : Nat := 0
  /-- R475 CYCLES. -/
  cycles : Nat := 0
  /-- R475 REPEAT. -/
  rep : Nat := 0
  /-- R475 DATA: words 0 to 3. -/
  data : List W32 := []
  /-- R479: the record's number in the circulating area. -/
  num : Nat := 0
  /-- R479: the record's number in the permanent area, when PERM is set. -/
  permNum : Nat := 0
  deriving DecidableEq, Repr

/-- 17_guestbook_parameter_store.md R479, R480: one 32-byte slot of a flash area that was programmed. -/
structure GbSlot where
  /-- R482: record number. -/
  num : Nat
  /-- R475: the record. -/
  entry : GbRecord
  /-- R479: CHECK is right. -/
  good : Bool := true
  deriving DecidableEq, Repr

/-- 17_guestbook_parameter_store.md: the Guestbook. -/
structure Guestbook where
  /-- R479: the buffer in the island's SRAM, oldest first, at most 512. reset: empty -/
  buf : List GbRecord := []
  /-- R478 DROPPED, saturates at 255. reset: 0 -/
  dropped : Nat := 0
  /-- R478: an occurrence was dropped since the last record stored. reset: false -/
  lostBefore : Bool := false
  /-- R479 BAD_COUNT, saturates at 255. reset: 0 -/
  badCount : Nat := 0
  /-- R477 PERM_FULL. reset: false -/
  permFull : Bool := false
  /-- R479: GB_GB_CHECK was recorded in this Bring-up. reset: false -/
  checkReported : Bool := false
  /-- R480: circulating area by slot position, sector × 127 + slot. reset: DESIGN CHOICE an erased flash -/
  circ : List (Nat × GbSlot) := []
  /-- R480: permanent area by slot position. reset: DESIGN CHOICE an erased flash -/
  permArea : List (Nat × GbSlot) := []
  /-- R479: next record number of the circulating area. reset: DESIGN CHOICE 1 -/
  circNext : Nat := 1
  /-- R479: next record number of the permanent area. reset: DESIGN CHOICE 1 -/
  permNext : Nat := 1
  /-- R480: slot position of the next write in the circulating area. reset: 0 -/
  circPos : Nat := 0
  /-- R480: slot position of the next write in the permanent area. reset: 0 -/
  permPos : Nat := 0
  /-- R483 GB_OLDEST of the circulating area: numbers below it are unreadable. reset: DESIGN CHOICE 1 -/
  circOldest : Nat := 1
  /-- R483 GB_OLDEST of the permanent area. reset: DESIGN CHOICE 1 -/
  permOldest : Nat := 1
  /-- R480: erased sectors used by step H6 whose erases are owed at the next island reset. reset: 0 -/
  erasesOwed : Nat := 0
  /-- R478: tokens taken from the bucket of a code; unlisted means none. reset: none -/
  taken : List (Nat × Nat) := []
  /-- R478: REFILL in s as it was when a code last took a token; unlisted means none taken. reset: none -/
  refill : List (Nat × Nat) := []
  /-- R478: suppressed count of a code. reset: none -/
  suppressed : List (Nat × Nat) := []
  /-- R478: DROPPED left 0 and GB_GB_DROPPED waits for room in the buffer. reset: false -/
  dropDue : Bool := false
  /-- R476: operating time in s, 36 bits. reset: 0 -/
  opTime : Nat := 0
  /-- R481, 06_medium.md R193: age clock in ms. reset: 0 -/
  ageMs : Nat := 0
  /-- R482: the register window's records. reset: none -/
  window : List GbRecord := []
  /-- R482 READY. reset: false -/
  winReady : Bool := false
  /-- R482 SKIPPED. reset: false -/
  winSkipped : Bool := false
  /-- R482 GB_WIN_NEXT. reset: 0 -/
  winNext : Nat := 0
  /-- R482: a window load runs from this cursor. reset: none -/
  winLoad : Option Nat := none
  deriving DecidableEq, Repr

/-- 17_guestbook_parameter_store.md R489: who waits for a commit to end. -/
inductive PsCaller where
  /-- a Porter command: ring, CID -/
  | porter (ring cid : Nat)
  /-- the count of AUTH_FAILS or PARAM_FAILS must be committed before the answer (16_security.md R469, R495) -/
  | authAnswer (ring cid : Nat)
  /-- the reservation of 16_security.md R459 -/
  | leafReserve
  /-- SHUTDOWN_STATE at step 13 (10_modes.md R317) -/
  | shutdownState
  /-- step H7 (10_modes.md R324) -/
  | holdup
  /-- a step of a key replacement (16_security.md R464), by key slot -/
  | keyStep (slot : Nat)
  /-- a Porter command after whose commit and completion a restart is prepared (16_security.md R454, R470) -/
  | restart (ring cid : Nat)
  /-- an FM API answer that waits for the commit (16_security.md R463) -/
  | fmapi (head op ret : Nat) (fields : List Nat)
  /-- a mailbox answer that waits for the commit (16_security.md R454) -/
  | mailbox (head ld op ret : Nat) (fields : List Nat)
  /-- a class S or other internal commit with no one waiting for its end -/
  | internal
  deriving DecidableEq, Repr

/-- 17_guestbook_parameter_store.md R489: a commit that runs or waits. -/
structure PsCommit where
  /-- R489: SEQ of the commit. -/
  seq : Nat
  /-- R489: the elements it takes, by PARAM_ID. -/
  els : List (Nat × List Byte)
  /-- R489: who completes when it ends. -/
  callers : List PsCaller
  /-- R494: the commit is being retried in the next page. -/
  retried : Bool := false
  deriving DecidableEq, Repr

/-- 17_guestbook_parameter_store.md R485, R490: one copy of the Parameter Store. -/
structure PsCopy where
  /-- R492: effective SEQ. reset: 0 -/
  seq : Nat := 0
  /-- R492: newest committed value of each stored element, by PARAM_ID. reset: DESIGN CHOICE nothing stored -/
  els : List (Nat × List Byte) := []
  /-- R490: page being written, 0 to 255. reset: 0 -/
  page : Nat := 0
  /-- R485: bytes used in that page, header included. reset: 32 -/
  used : Nat := 32
  /-- R490: page holding an element's newest record. reset: none -/
  recPage : List (Nat × Nat) := []
  /-- R485: generation of the page being written. reset: 0 -/
  gen : Nat := 0
  /-- R493: SEQ of torn commits standing in the copy. reset: none -/
  torn : List Nat := []
  deriving DecidableEq, Repr

/-- 17_guestbook_parameter_store.md: the Parameter Store. -/
structure ParamStore where
  /-- R485: copy A. reset: empty -/
  copyA : PsCopy := {}
  /-- R485: copy B. reset: empty -/
  copyB : PsCopy := {}
  /-- R492: copy B was chosen. reset: false -/
  copySel : Bool := false
  /-- R492: value in force of each stored element. reset: DESIGN CHOICE nothing stored -/
  els : List (Nat × List Byte) := []
  /-- R489: the pending set. reset: empty -/
  pendingSet : List (Nat × List Byte) := []
  /-- R489: callers of the next commit; nonempty means a commit is wanted. reset: none -/
  waiters : List PsCaller := []
  /-- R491: callers of PERSIST options whose commit is held in shed stage 2. reset: none -/
  held : List PsCaller := []
  /-- R489: the commit that runs. reset: none -/
  running : Option PsCommit := none
  /-- R489: SEQ of the last commit started. reset: 0 -/
  lastSeq : Nat := 0
  /-- R489: PARAM_WRITE elements waiting for the commit that makes room: ring, CID, element, bytes. reset: none -/
  roomWait : List (PsCaller × Nat × List Byte) := []
  /-- R490: the erase of the page ahead has not finished. reset: false -/
  eraseBusy : Bool := false
  /-- R490: carry-forward and erase owed to the next Bring-up after step H7. reset: false -/
  carryOwed : Bool := false
  /-- R495: the password unlocked the store. reset: false -/
  unlocked : Bool := false
  deriving DecidableEq, Repr

end Sys2Proof.Machine
end

