-- ==== Sys2Proof/Machine/RegTable.lean ====
section
/-! DEFINITION. Machine/RegTable.lean: the registers of BAR2 as the spec's register map and field tables give them
(15_registers.md R445 and each chapter's "Registers" section): offsets, access masks, reset values and privilege
classes. A row stands for every register of an array; `regKey` maps an offset to its row. -/

namespace Sys2Proof.Machine

/-- 00_scope.md R9: access kinds of a register as a whole; `mix` is "per field". -/
inductive Acc where
  | ro | rw | rwm | w1c | wo | mix
  deriving DecidableEq, Repr

/-- 15_registers.md R437: privilege classes. -/
inductive PrivClass where
  | openAll | w | rw | ring
  deriving DecidableEq, Repr

/-- One row of the register table. -/
structure RegDef where
  /-- R445: offset of the register, or of the first of its array. -/
  key : Nat
  /-- R9: access. -/
  acc : Acc
  /-- R445: reset value. -/
  reset : W32
  /-- R9: bits a write can change (RW and RWM fields). -/
  wmask : W32
  /-- R9: bits a written 1 clears. -/
  w1c : W32
  /-- R436: bits among `wmask` that clear themselves. -/
  selfClear : W32
  /-- R437: privilege class. -/
  priv : PrivClass
  /-- R441: bits that parity protects. -/
  prot : W32
  deriving DecidableEq, Repr

namespace Reg

/-- 15_registers.md: KRY_IDENT, offset 0x0. -/
def KRY_IDENT : Nat := 0x0
/-- 15_registers.md: KRY_REV, offset 0x4. -/
def KRY_REV : Nat := 0x4
/-- 15_registers.md: REG_ERR_STATUS, offset 0x8. -/
def REG_ERR_STATUS : Nat := 0x8
/-- 15_registers.md: REG_ERR_ADDR, offset 0xC. -/
def REG_ERR_ADDR : Nat := 0xC
/-- 10_modes.md: MODE_STATUS, offset 0x10. -/
def MODE_STATUS : Nat := 0x10
/-- 10_modes.md: MODE_CAUSE, offset 0x14. -/
def MODE_CAUSE : Nat := 0x14
/-- 10_modes.md: MODE_CTL, offset 0x18. -/
def MODE_CTL : Nat := 0x18
/-- 10_modes.md: BRINGUP_STATUS, offset 0x1C. -/
def BRINGUP_STATUS : Nat := 0x1C
/-- 01_architecture.md: CFG_STATUS, offset 0x20. -/
def CFG_STATUS : Nat := 0x20
/-- 10_modes.md: HOLDUP_REPORT, offset 0x24. -/
def HOLDUP_REPORT : Nat := 0x24
/-- 14_command_rings.md: RING_SQ_BASE_LO, ring offset 0x0. -/
def RING_SQ_BASE_LO (r : Nat) : Nat := 0x1000 + r * 0x30 + 0x0
/-- 14_command_rings.md: RING_SQ_BASE_HI, ring offset 0x4. -/
def RING_SQ_BASE_HI (r : Nat) : Nat := 0x1000 + r * 0x30 + 0x4
/-- 14_command_rings.md: RING_CQ_BASE_LO, ring offset 0x8. -/
def RING_CQ_BASE_LO (r : Nat) : Nat := 0x1000 + r * 0x30 + 0x8
/-- 14_command_rings.md: RING_CQ_BASE_HI, ring offset 0xC. -/
def RING_CQ_BASE_HI (r : Nat) : Nat := 0x1000 + r * 0x30 + 0xC
/-- 14_command_rings.md: RING_CFG, ring offset 0x10. -/
def RING_CFG (r : Nat) : Nat := 0x1000 + r * 0x30 + 0x10
/-- 14_command_rings.md: RING_CTL, ring offset 0x14. -/
def RING_CTL (r : Nat) : Nat := 0x1000 + r * 0x30 + 0x14
/-- 14_command_rings.md: RING_MOD, ring offset 0x18. -/
def RING_MOD (r : Nat) : Nat := 0x1000 + r * 0x30 + 0x18
/-- 14_command_rings.md: RING_STATUS, ring offset 0x1C. -/
def RING_STATUS (r : Nat) : Nat := 0x1000 + r * 0x30 + 0x1C
/-- 14_command_rings.md: RING_CQ_POS, ring offset 0x20. -/
def RING_CQ_POS (r : Nat) : Nat := 0x1000 + r * 0x30 + 0x20
/-- 14_command_rings.md: RING_ERR, ring offset 0x24. -/
def RING_ERR (r : Nat) : Nat := 0x1000 + r * 0x30 + 0x24
/-- 14_command_rings.md: RING_EVT, ring offset 0x28. -/
def RING_EVT (r : Nat) : Nat := 0x1000 + r * 0x30 + 0x28
/-- 14_command_rings.md: PORTER_STATUS, offset 0x1C00. -/
def PORTER_STATUS : Nat := 0x1C00
/-- 14_command_rings.md: DB_SQ_TAIL of ring r. -/
def DB_SQ_TAIL (r : Nat) : Nat := 0x2000 + 8 * r
/-- 14_command_rings.md: DB_CQ_HEAD of ring r. -/
def DB_CQ_HEAD (r : Nat) : Nat := 0x2004 + 8 * r
/-- 05_front_store.md: FS_CTL, offset 0x4000. -/
def FS_CTL : Nat := 0x4000
/-- 05_front_store.md: FS_STATUS, offset 0x4004. -/
def FS_STATUS : Nat := 0x4004
/-- 05_front_store.md: FS_GEOMETRY, offset 0x4008. -/
def FS_GEOMETRY : Nat := 0x4008
/-- 07_translation.md: XL_CTL, offset 0x5000. -/
def XL_CTL : Nat := 0x5000
/-- 07_translation.md: XL_WEAR_LIMITS, offset 0x5004. -/
def XL_WEAR_LIMITS : Nat := 0x5004
/-- 08_integrity.md: INT_CTL, offset 0x6000. -/
def INT_CTL : Nat := 0x6000
/-- 08_integrity.md: FLIP_MASK0, offset 0x6004. -/
def FLIP_MASK0 : Nat := 0x6004
/-- 08_integrity.md: FLIP_MASK1, offset 0x6008. -/
def FLIP_MASK1 : Nat := 0x6008
/-- 08_integrity.md: FLIP_MASK2, offset 0x600C. -/
def FLIP_MASK2 : Nat := 0x600C
/-- 04_belfry.md: BELFRY_CTL, offset 0x7000. -/
def BELFRY_CTL : Nat := 0x7000
/-- 04_belfry.md: BELFRY_STATUS, offset 0x7004. -/
def BELFRY_STATUS : Nat := 0x7004
/-- 04_belfry.md: BELFRY_ANGLE, offset 0x7008. -/
def BELFRY_ANGLE : Nat := 0x7008
/-- 04_belfry.md: BELFRY_TURN_LO, offset 0x700C. -/
def BELFRY_TURN_LO : Nat := 0x700C
/-- 04_belfry.md: BELFRY_TURN_HI, offset 0x7010. -/
def BELFRY_TURN_HI : Nat := 0x7010
/-- 04_belfry.md: BELFRY_PERIOD, offset 0x7014. -/
def BELFRY_PERIOD : Nat := 0x7014
/-- 04_belfry.md: BELFRY_OFFSET, offset 0x7018. -/
def BELFRY_OFFSET : Nat := 0x7018
/-- 04_belfry.md: BELFRY_ERR_STATUS, offset 0x701C. -/
def BELFRY_ERR_STATUS : Nat := 0x701C
/-- 04_belfry.md: BELFRY_TRIM_CTL, offset 0x7020. -/
def BELFRY_TRIM_CTL : Nat := 0x7020
/-- 04_belfry.md: BELFRY_TRIM_STATUS, offset 0x7024. -/
def BELFRY_TRIM_STATUS : Nat := 0x7024
/-- 04_belfry.md: FABRIC_WINDOW, offset 0x7800. -/
def FABRIC_WINDOW : Nat := 0x7800
/-- 08_integrity.md: CUP_CTL, offset 0x8000. -/
def CUP_CTL : Nat := 0x8000
/-- 08_integrity.md: CUP_STATUS, offset 0x8004. -/
def CUP_STATUS : Nat := 0x8004
/-- 08_integrity.md: CUP_REBUILD_LEFT, offset 0x8008. -/
def CUP_REBUILD_LEFT : Nat := 0x8008
/-- 09_caravan.md: CAR_CTL, offset 0x8100. -/
def CAR_CTL : Nat := 0x8100
/-- 09_caravan.md: CAR_STATUS, offset 0x8104. -/
def CAR_STATUS : Nat := 0x8104
/-- 09_caravan.md: CAR_RANGE, offset 0x8108. -/
def CAR_RANGE : Nat := 0x8108
/-- 09_caravan.md: CAR_PEER_ABSENT, offset 0x810C. -/
def CAR_PEER_ABSENT : Nat := 0x810C
/-- 09_caravan.md: CAR_PEER_FAILED, offset 0x8110. -/
def CAR_PEER_FAILED : Nat := 0x8110
/-- 09_caravan.md: CAR_WORK_LEFT, offset 0x8114. -/
def CAR_WORK_LEFT : Nat := 0x8114
/-- 09_caravan.md: CAR_HEADS, offset 0x8118. -/
def CAR_HEADS : Nat := 0x8118
/-- 09_caravan.md: CARAVAN_WINDOW, offset 0x8800. -/
def CARAVAN_WINDOW : Nat := 0x8800
/-- 11_power.md: PWR_CTL, offset 0x9000. -/
def PWR_CTL : Nat := 0x9000
/-- 11_power.md: PWR_STATUS, offset 0x9004. -/
def PWR_STATUS : Nat := 0x9004
/-- 11_power.md: PWR_FAULT, offset 0x9008. -/
def PWR_FAULT : Nat := 0x9008
/-- 11_power.md: VIN_STATUS, offset 0x900C. -/
def VIN_STATUS : Nat := 0x900C
/-- 11_power.md: SHED_LEVELS0, offset 0x9010. -/
def SHED_LEVELS0 : Nat := 0x9010
/-- 11_power.md: SHED_LEVELS1, offset 0x9014. -/
def SHED_LEVELS1 : Nat := 0x9014
/-- 11_power.md: HOLD_RESULT, offset 0x9018. -/
def HOLD_RESULT : Nat := 0x9018
/-- 11_power.md: HOLD_ENERGY, offset 0x901C. -/
def HOLD_ENERGY : Nat := 0x901C
/-- 11_power.md: HOLD_LIMIT, offset 0x9020. -/
def HOLD_LIMIT : Nat := 0x9020
/-- 11_power.md: PWR_ERR_STATUS, offset 0x9024. -/
def PWR_ERR_STATUS : Nat := 0x9024
/-- 11_power.md: SEQ_SLOT, offset 0x9040. -/
def SEQ_SLOT : Nat := 0x9040
/-- 12_clocks_resets.md: CLK_CTL, offset 0xA000. -/
def CLK_CTL : Nat := 0xA000
/-- 12_clocks_resets.md: CLK_STATUS, offset 0xA004. -/
def CLK_STATUS : Nat := 0xA004
/-- 12_clocks_resets.md: CLK_ERR_STATUS, offset 0xA008. -/
def CLK_ERR_STATUS : Nat := 0xA008
/-- 12_clocks_resets.md: CLK_TILE_RESET, offset 0xA00C. -/
def CLK_TILE_RESET : Nat := 0xA00C
/-- 12_clocks_resets.md: CLK_IOSC, offset 0xA010. -/
def CLK_IOSC : Nat := 0xA010
/-- 13_thermal_sled.md: THM_CTL, offset 0xB000. -/
def THM_CTL : Nat := 0xB000
/-- 13_thermal_sled.md: THM_STATUS, offset 0xB004. -/
def THM_STATUS : Nat := 0xB004
/-- 13_thermal_sled.md: THM_ALERT, offset 0xB008. -/
def THM_ALERT : Nat := 0xB008
/-- 13_thermal_sled.md: THM_ALERT_MASK, offset 0xB00C. -/
def THM_ALERT_MASK : Nat := 0xB00C
/-- 13_thermal_sled.md: THM_LIMITS_TILE, offset 0xB010. -/
def THM_LIMITS_TILE : Nat := 0xB010
/-- 13_thermal_sled.md: THM_LIMITS_MEDIA, offset 0xB014. -/
def THM_LIMITS_MEDIA : Nat := 0xB014
/-- 13_thermal_sled.md: THM_LIMITS_SLED, offset 0xB018. -/
def THM_LIMITS_SLED : Nat := 0xB018
/-- 13_thermal_sled.md: THM_SLED0, offset 0xB020. -/
def THM_SLED0 : Nat := 0xB020
/-- 13_thermal_sled.md: FAN_STATUS0, offset 0xB030. -/
def FAN_STATUS0 : Nat := 0xB030
/-- 13_thermal_sled.md: THM_GPIO_CTL, offset 0xB040. -/
def THM_GPIO_CTL : Nat := 0xB040
/-- 16_security.md: SEC_STATUS, offset 0xC000. -/
def SEC_STATUS : Nat := 0xC000
/-- 16_security.md: SEC_PRIV_CTL, offset 0xC004. -/
def SEC_PRIV_CTL : Nat := 0xC004
/-- 16_security.md: SEC_CHALLENGE0, offset 0xC010. -/
def SEC_CHALLENGE0 : Nat := 0xC010
/-- 16_security.md: ATTEST_NEXT_LO, offset 0xC030. -/
def ATTEST_NEXT_LO : Nat := 0xC030
/-- 16_security.md: ATTEST_NEXT_HI, offset 0xC034. -/
def ATTEST_NEXT_HI : Nat := 0xC034
/-- 16_security.md: ATTEST_RESV_LO, offset 0xC038. -/
def ATTEST_RESV_LO : Nat := 0xC038
/-- 16_security.md: ATTEST_RESV_HI, offset 0xC03C. -/
def ATTEST_RESV_HI : Nat := 0xC03C
/-- 16_security.md: KEY_STATUS, offset 0xC040. -/
def KEY_STATUS : Nat := 0xC040
/-- 16_security.md: SEC_ERR_STATUS, offset 0xC044. -/
def SEC_ERR_STATUS : Nat := 0xC044
/-- 17_guestbook_parameter_store.md: GB_CTL, offset 0xD000. -/
def GB_CTL : Nat := 0xD000
/-- 17_guestbook_parameter_store.md: GB_CURSOR, offset 0xD004. -/
def GB_CURSOR : Nat := 0xD004
/-- 17_guestbook_parameter_store.md: GB_WIN_STATUS, offset 0xD008. -/
def GB_WIN_STATUS : Nat := 0xD008
/-- 17_guestbook_parameter_store.md: GB_WIN_NEXT, offset 0xD00C. -/
def GB_WIN_NEXT : Nat := 0xD00C
/-- 17_guestbook_parameter_store.md: GB_NEWEST, offset 0xD010. -/
def GB_NEWEST : Nat := 0xD010
/-- 17_guestbook_parameter_store.md: GB_OLDEST, offset 0xD014. -/
def GB_OLDEST : Nat := 0xD014
/-- 17_guestbook_parameter_store.md: GB_STATUS, offset 0xD018. -/
def GB_STATUS : Nat := 0xD018
/-- 17_guestbook_parameter_store.md: GB_ERR_STATUS, offset 0xD01C. -/
def GB_ERR_STATUS : Nat := 0xD01C
/-- 17_guestbook_parameter_store.md: GB_WINDOW, offset 0xD400. -/
def GB_WINDOW : Nat := 0xD400
/-- 17_guestbook_parameter_store.md: PS_STATUS, offset 0xD800. -/
def PS_STATUS : Nat := 0xD800
/-- 17_guestbook_parameter_store.md: PS_SEQ, offset 0xD804. -/
def PS_SEQ : Nat := 0xD804
/-- 17_guestbook_parameter_store.md: PS_LIVE, offset 0xD808. -/
def PS_LIVE : Nat := 0xD808
/-- 17_guestbook_parameter_store.md: PS_ERR_STATUS, offset 0xD80C. -/
def PS_ERR_STATUS : Nat := 0xD80C
/-- 18_performance_counters.md: PERF_SEL, offset 0xE000. -/
def PERF_SEL : Nat := 0xE000
/-- 18_performance_counters.md: PERF_OVF0, offset 0xE800. -/
def PERF_OVF0 : Nat := 0xE800
/-- 18_performance_counters.md: PERF_OVF1, offset 0xE804. -/
def PERF_OVF1 : Nat := 0xE804
/-- 18_performance_counters.md: PERF_WIN_CTL, offset 0xE900. -/
def PERF_WIN_CTL : Nat := 0xE900
/-- 18_performance_counters.md: PERF_WIN_STATUS, offset 0xE904. -/
def PERF_WIN_STATUS : Nat := 0xE904
/-- 18_performance_counters.md: PERF_BW_RD, offset 0xEA00. -/
def PERF_BW_RD : Nat := 0xEA00
/-- 18_performance_counters.md: PERF_BW_WR, offset 0xEA04. -/
def PERF_BW_WR : Nat := 0xEA04
/-- 02_host_ports.md: HEAD_LINK_CTL, tile-local offset 0x0. -/
def HEAD_LINK_CTL (t : Nat) : Nat := 0x10000 + t * 0x2000 + 0x0
/-- 02_host_ports.md: HEAD_LINK_STATUS, tile-local offset 0x4. -/
def HEAD_LINK_STATUS (t : Nat) : Nat := 0x10000 + t * 0x2000 + 0x4
/-- 02_host_ports.md: HEAD_ERR_STATUS, tile-local offset 0x8. -/
def HEAD_ERR_STATUS (t : Nat) : Nat := 0x10000 + t * 0x2000 + 0x8
/-- 02_host_ports.md: HEAD_LINK_COUNT, tile-local offset 0xC. -/
def HEAD_LINK_COUNT (t : Nat) : Nat := 0x10000 + t * 0x2000 + 0xC
/-- 03_transactions.md: TXN_CTL, tile-local offset 0x100. -/
def TXN_CTL (t : Nat) : Nat := 0x10000 + t * 0x2000 + 0x100
/-- 03_transactions.md: TXN_STATUS, tile-local offset 0x104. -/
def TXN_STATUS (t : Nat) : Nat := 0x10000 + t * 0x2000 + 0x104
/-- 03_transactions.md: TXN_HAZARD, tile-local offset 0x108. -/
def TXN_HAZARD (t : Nat) : Nat := 0x10000 + t * 0x2000 + 0x108
/-- 03_transactions.md: TXN_ERR_STATUS, tile-local offset 0x10C. -/
def TXN_ERR_STATUS (t : Nat) : Nat := 0x10000 + t * 0x2000 + 0x10C
/-- 03_transactions.md: TXN_LAT_MAX, tile-local offset 0x110. -/
def TXN_LAT_MAX (t : Nat) : Nat := 0x10000 + t * 0x2000 + 0x110
/-- 03_transactions.md: TXN_LAT_OVER, tile-local offset 0x114. -/
def TXN_LAT_OVER (t : Nat) : Nat := 0x10000 + t * 0x2000 + 0x114
/-- 05_front_store.md: FS_TILE_STATUS, tile-local offset 0x200. -/
def FS_TILE_STATUS (t : Nat) : Nat := 0x10000 + t * 0x2000 + 0x200
/-- 05_front_store.md: FS_DIRTY_LIMIT, tile-local offset 0x204. -/
def FS_DIRTY_LIMIT (t : Nat) : Nat := 0x10000 + t * 0x2000 + 0x204
/-- 05_front_store.md: FS_LIMIT_CAP, tile-local offset 0x208. -/
def FS_LIMIT_CAP (t : Nat) : Nat := 0x10000 + t * 0x2000 + 0x208
/-- 05_front_store.md: FS_ERR_STATUS, tile-local offset 0x20C. -/
def FS_ERR_STATUS (t : Nat) : Nat := 0x10000 + t * 0x2000 + 0x20C
/-- 05_front_store.md: FS_ERR_FRAME, tile-local offset 0x210. -/
def FS_ERR_FRAME (t : Nat) : Nat := 0x10000 + t * 0x2000 + 0x210
/-- 05_front_store.md: FS_WITHDRAWN, tile-local offset 0x214. -/
def FS_WITHDRAWN (t : Nat) : Nat := 0x10000 + t * 0x2000 + 0x214
/-- 07_translation.md: XL_TILE_STATUS, tile-local offset 0x300. -/
def XL_TILE_STATUS (t : Nat) : Nat := 0x10000 + t * 0x2000 + 0x300
/-- 07_translation.md: XL_SPARE, tile-local offset 0x304. -/
def XL_SPARE (t : Nat) : Nat := 0x10000 + t * 0x2000 + 0x304
/-- 07_translation.md: XL_SPARE_INIT, tile-local offset 0x308. -/
def XL_SPARE_INIT (t : Nat) : Nat := 0x10000 + t * 0x2000 + 0x308
/-- 07_translation.md: XL_RETIRED, tile-local offset 0x30C. -/
def XL_RETIRED (t : Nat) : Nat := 0x10000 + t * 0x2000 + 0x30C
/-- 07_translation.md: XL_JNL_POS_LO, tile-local offset 0x310. -/
def XL_JNL_POS_LO (t : Nat) : Nat := 0x10000 + t * 0x2000 + 0x310
/-- 07_translation.md: XL_JNL_POS_HI, tile-local offset 0x314. -/
def XL_JNL_POS_HI (t : Nat) : Nat := 0x10000 + t * 0x2000 + 0x314
/-- 07_translation.md: XL_JNL_FILL, tile-local offset 0x318. -/
def XL_JNL_FILL (t : Nat) : Nat := 0x10000 + t * 0x2000 + 0x318
/-- 07_translation.md: XL_REBUILD, tile-local offset 0x31C. -/
def XL_REBUILD (t : Nat) : Nat := 0x10000 + t * 0x2000 + 0x31C
/-- 07_translation.md: XL_ERR_STATUS, tile-local offset 0x320. -/
def XL_ERR_STATUS (t : Nat) : Nat := 0x10000 + t * 0x2000 + 0x320
/-- 07_translation.md: XL_ERR_LOCATOR, tile-local offset 0x324. -/
def XL_ERR_LOCATOR (t : Nat) : Nat := 0x10000 + t * 0x2000 + 0x324
/-- 04_belfry.md: BELFRY_TILE_STATUS, tile-local offset 0x400. -/
def BELFRY_TILE_STATUS (t : Nat) : Nat := 0x10000 + t * 0x2000 + 0x400
/-- 04_belfry.md: BELFRY_ACTIVE0, tile-local offset 0x404. -/
def BELFRY_ACTIVE0 (t : Nat) : Nat := 0x10000 + t * 0x2000 + 0x404
/-- 04_belfry.md: BELFRY_ACTIVE1, tile-local offset 0x408. -/
def BELFRY_ACTIVE1 (t : Nat) : Nat := 0x10000 + t * 0x2000 + 0x408
/-- 06_medium.md: MED_CH_STATUS, tile-local offset 0x600. -/
def MED_CH_STATUS (t : Nat) : Nat := 0x10000 + t * 0x2000 + 0x600
/-- 06_medium.md: MED_CH_ERR_STATUS, tile-local offset 0x604. -/
def MED_CH_ERR_STATUS (t : Nat) : Nat := 0x10000 + t * 0x2000 + 0x604
/-- 06_medium.md: MED_CH_COUNT, tile-local offset 0x608. -/
def MED_CH_COUNT (t : Nat) : Nat := 0x10000 + t * 0x2000 + 0x608
/-- 06_medium.md: MED_CH_CAL, tile-local offset 0x60C. -/
def MED_CH_CAL (t : Nat) : Nat := 0x10000 + t * 0x2000 + 0x60C
/-- 06_medium.md: MED_CTL, tile-local offset 0x680. -/
def MED_CTL (t : Nat) : Nat := 0x10000 + t * 0x2000 + 0x680
/-- 08_integrity.md: INT_ERR_STATUS, tile-local offset 0x700. -/
def INT_ERR_STATUS (t : Nat) : Nat := 0x10000 + t * 0x2000 + 0x700
/-- 08_integrity.md: INT_SCRUB, tile-local offset 0x704. -/
def INT_SCRUB (t : Nat) : Nat := 0x10000 + t * 0x2000 + 0x704
/-- 08_integrity.md: INT_REFRESH, tile-local offset 0x708. -/
def INT_REFRESH (t : Nat) : Nat := 0x10000 + t * 0x2000 + 0x708
/-- 08_integrity.md: CUP_TILE_STATUS, tile-local offset 0x780. -/
def CUP_TILE_STATUS (t : Nat) : Nat := 0x10000 + t * 0x2000 + 0x780
/-- 08_integrity.md: CUP_ERR_STATUS, tile-local offset 0x784. -/
def CUP_ERR_STATUS (t : Nat) : Nat := 0x10000 + t * 0x2000 + 0x784
/-- 09_caravan.md: CAR_TILE_STATUS, tile-local offset 0x790. -/
def CAR_TILE_STATUS (t : Nat) : Nat := 0x10000 + t * 0x2000 + 0x790
/-- 09_caravan.md: CAR_ERR_STATUS, tile-local offset 0x794. -/
def CAR_ERR_STATUS (t : Nat) : Nat := 0x10000 + t * 0x2000 + 0x794
/-- 04_belfry.md: BELFRY_SCHED_RB, tile-local offset 0x800. -/
def BELFRY_SCHED_RB (t : Nat) : Nat := 0x10000 + t * 0x2000 + 0x800
/-- 04_belfry.md: BELFRY_PROFILE_RB, tile-local offset 0xC00. -/
def BELFRY_PROFILE_RB (t : Nat) : Nat := 0x10000 + t * 0x2000 + 0xC00
/-- 12_clocks_resets.md: CLK_TILE_STATUS, tile-local offset 0xD00. -/
def CLK_TILE_STATUS (t : Nat) : Nat := 0x10000 + t * 0x2000 + 0xD00
/-- 12_clocks_resets.md: CLK_GATE_CTL, tile-local offset 0xD04. -/
def CLK_GATE_CTL (t : Nat) : Nat := 0x10000 + t * 0x2000 + 0xD04
/-- 12_clocks_resets.md: CLK_TILE_ERR_STATUS, tile-local offset 0xD08. -/
def CLK_TILE_ERR_STATUS (t : Nat) : Nat := 0x10000 + t * 0x2000 + 0xD08
/-- 13_thermal_sled.md: THM_DIODE0, tile-local offset 0xE00. -/
def THM_DIODE0 (t : Nat) : Nat := 0x10000 + t * 0x2000 + 0xE00
/-- 13_thermal_sled.md: THM_DIODE1, tile-local offset 0xE04. -/
def THM_DIODE1 (t : Nat) : Nat := 0x10000 + t * 0x2000 + 0xE04
/-- 13_thermal_sled.md: THM_REMOTE, tile-local offset 0xE08. -/
def THM_REMOTE (t : Nat) : Nat := 0x10000 + t * 0x2000 + 0xE08
/-- 13_thermal_sled.md: THM_MEDIA, tile-local offset 0xE10. -/
def THM_MEDIA (t : Nat) : Nat := 0x10000 + t * 0x2000 + 0xE10
/-- 13_thermal_sled.md: THM_TILE_ERR_STATUS, tile-local offset 0xE30. -/
def THM_TILE_ERR_STATUS (t : Nat) : Nat := 0x10000 + t * 0x2000 + 0xE30
/-- 18_performance_counters.md: PERF_CNT_LO, tile-local offset 0x1000. -/
def PERF_CNT_LO (t : Nat) : Nat := 0x10000 + t * 0x2000 + 0x1000
/-- 18_performance_counters.md: PERF_CNT_HI, tile-local offset 0x1004. -/
def PERF_CNT_HI (t : Nat) : Nat := 0x10000 + t * 0x2000 + 0x1004

end Reg

/-- 15_registers.md R445: rows 0 to 29 of the register table, by offset. -/
def regRows0 : List RegDef := [
  ⟨0x0, .ro, 0x0, 0x0, 0x0, 0x0, .openAll, 0x0⟩,
  ⟨0x4, .ro, 0x0, 0x0, 0x0, 0x0, .openAll, 0x0⟩,
  ⟨0x8, .w1c, 0x0, 0x0, 0x1F, 0x0, .w, 0x0⟩,
  ⟨0xC, .ro, 0x0, 0x0, 0x0, 0x0, .openAll, 0x0⟩,
  ⟨0x10, .ro, 0x40000000, 0x0, 0x0, 0x0, .openAll, 0x0⟩,
  ⟨0x14, .ro, 0x0, 0x0, 0x0, 0x0, .openAll, 0x0⟩,
  ⟨0x18, .rwm, 0xA04, 0xFF07, 0x0, 0x0, .w, 0xFF07⟩,
  ⟨0x1C, .ro, 0x0, 0x0, 0x0, 0x0, .openAll, 0x0⟩,
  ⟨0x20, .mix, 0x0, 0x0, 0x3, 0x0, .w, 0x0⟩,
  ⟨0x24, .ro, 0x0, 0x0, 0x0, 0x0, .openAll, 0x0⟩,
  ⟨0x1000, .rw, 0x0, 0xFFFFF000, 0x0, 0x0, .ring, 0xFFFFF000⟩,
  ⟨0x1004, .rw, 0x0, 0xFFFFFFFF, 0x0, 0x0, .ring, 0xFFFFFFFF⟩,
  ⟨0x1008, .rw, 0x0, 0xFFFFF000, 0x0, 0x0, .ring, 0xFFFFF000⟩,
  ⟨0x100C, .rw, 0x0, 0xFFFFFFFF, 0x0, 0x0, .ring, 0xFFFFFFFF⟩,
  ⟨0x1010, .rw, 0x0, 0xC03F1F1F, 0x0, 0x0, .ring, 0xC03F1F1F⟩,
  ⟨0x1014, .rwm, 0x0, 0x1, 0x0, 0x0, .ring, 0x1⟩,
  ⟨0x1018, .rw, 0x0, 0xFFFF00FF, 0x0, 0x0, .ring, 0xFFFF00FF⟩,
  ⟨0x101C, .ro, 0x0, 0x0, 0x0, 0x0, .ring, 0x0⟩,
  ⟨0x1020, .ro, 0x80000000, 0x0, 0x0, 0x0, .ring, 0x0⟩,
  ⟨0x1024, .mix, 0x0, 0x0, 0x1, 0x0, .ring, 0x0⟩,
  ⟨0x1028, .mix, 0x0, 0xFFFF, 0x0, 0x0, .ring, 0xFFFF⟩,
  ⟨0x1C00, .ro, 0x0, 0x0, 0x0, 0x0, .openAll, 0x0⟩,
  ⟨0x2000, .rw, 0x0, 0xFFFF, 0x0, 0x0, .ring, 0xFFFF⟩,
  ⟨0x2004, .rw, 0x0, 0xFFFF, 0x0, 0x0, .ring, 0xFFFF⟩,
  ⟨0x4000, .rwm, 0x11, 0x7D, 0x0, 0x0, .w, 0x7D⟩,
  ⟨0x4004, .ro, 0xA, 0x0, 0x0, 0x0, .openAll, 0xFFFFFFFF⟩,
  ⟨0x4008, .ro, 0x0, 0x0, 0x0, 0x0, .openAll, 0x0⟩,
  ⟨0x5000, .rwm, 0x643, 0xFFF, 0x0, 0x0, .w, 0xFFF⟩,
  ⟨0x5004, .ro, 0x6403E8, 0x0, 0x0, 0x0, .openAll, 0xFFFFFFFF⟩,
  ⟨0x6000, .rwm, 0xB470, 0xFF7F, 0x0, 0x0, .w, 0xFF7F⟩]

/-- 15_registers.md R445: rows 30 to 59 of the register table, by offset. -/
def regRows1 : List RegDef := [
  ⟨0x6004, .rw, 0x0, 0xFFFFFFFF, 0x0, 0x0, .w, 0xFFFFFFFF⟩,
  ⟨0x6008, .rw, 0x0, 0xFFFFFFFF, 0x0, 0x0, .w, 0xFFFFFFFF⟩,
  ⟨0x600C, .rw, 0x0, 0xFFFF, 0x0, 0x0, .w, 0xFFFF⟩,
  ⟨0x7000, .rwm, 0xC000, 0xFFFF, 0x0, 0x0, .w, 0xFFFF⟩,
  ⟨0x7004, .ro, 0x8000000, 0x0, 0x0, 0x0, .openAll, 0x0⟩,
  ⟨0x7008, .ro, 0x0, 0x0, 0x0, 0x0, .openAll, 0x0⟩,
  ⟨0x700C, .ro, 0x0, 0x0, 0x0, 0x0, .openAll, 0x0⟩,
  ⟨0x7010, .ro, 0x0, 0x0, 0x0, 0x0, .openAll, 0x0⟩,
  ⟨0x7014, .ro, 0x2710, 0x0, 0x0, 0x0, .openAll, 0xFFFFFFFF⟩,
  ⟨0x7018, .ro, 0x0, 0x0, 0x0, 0x0, .openAll, 0xFFFFFFFF⟩,
  ⟨0x701C, .w1c, 0x0, 0x0, 0x7FF, 0x0, .w, 0x0⟩,
  ⟨0x7020, .rwm, 0x4000, 0xFC00, 0x0, 0x0, .w, 0xFC00⟩,
  ⟨0x7024, .ro, 0x0, 0x0, 0x0, 0x0, .openAll, 0x0⟩,
  ⟨0x7800, .wo, 0x0, 0x0, 0x0, 0x0, .openAll, 0x0⟩,
  ⟨0x8000, .rwm, 0x2, 0xF, 0x0, 0x0, .w, 0xF⟩,
  ⟨0x8004, .ro, 0x0, 0x0, 0x0, 0x0, .openAll, 0x0⟩,
  ⟨0x8008, .ro, 0x0, 0x0, 0x0, 0x0, .openAll, 0x0⟩,
  ⟨0x8100, .rwm, 0x3840, 0xFFF0, 0x0, 0x0, .w, 0xFFF0⟩,
  ⟨0x8104, .ro, 0x0, 0x0, 0x0, 0x0, .openAll, 0x0⟩,
  ⟨0x8108, .ro, 0x0, 0x0, 0x0, 0x0, .openAll, 0x0⟩,
  ⟨0x810C, .ro, 0x0, 0x0, 0x0, 0x0, .openAll, 0x0⟩,
  ⟨0x8110, .ro, 0x0, 0x0, 0x0, 0x0, .openAll, 0x0⟩,
  ⟨0x8114, .ro, 0x0, 0x0, 0x0, 0x0, .openAll, 0x0⟩,
  ⟨0x8118, .ro, 0x0, 0x0, 0x0, 0x0, .openAll, 0x0⟩,
  ⟨0x8800, .wo, 0x0, 0x0, 0x0, 0x0, .openAll, 0x0⟩,
  ⟨0x9000, .rwm, 0x400, 0xF00, 0x0, 0x0, .w, 0xF00⟩,
  ⟨0x9004, .ro, 0x0, 0x0, 0x0, 0x0, .openAll, 0x0⟩,
  ⟨0x9008, .mix, 0x0, 0x0, 0x1, 0x0, .w, 0x0⟩,
  ⟨0x900C, .ro, 0x0, 0x0, 0x0, 0x0, .openAll, 0x0⟩,
  ⟨0x9010, .ro, 0x11301068, 0x0, 0x0, 0x0, .openAll, 0xFFFFFFFF⟩]

/-- 15_registers.md R445: rows 60 to 93 of the register table, by offset. -/
def regRows2 : List RegDef := [
  ⟨0x9014, .ro, 0xFA00032, 0x0, 0x0, 0x0, .openAll, 0xFFFFFFFF⟩,
  ⟨0x9018, .ro, 0xFF, 0x0, 0x0, 0x0, .openAll, 0x0⟩,
  ⟨0x901C, .ro, 0x0, 0x0, 0x0, 0x0, .openAll, 0x0⟩,
  ⟨0x9020, .ro, 0x0, 0x0, 0x0, 0x0, .openAll, 0x0⟩,
  ⟨0x9024, .w1c, 0x0, 0x0, 0x7F, 0x0, .w, 0x0⟩,
  ⟨0x9040, .ro, 0x0, 0x0, 0x0, 0x0, .openAll, 0xFFFFFFFF⟩,
  ⟨0xA000, .rwm, 0x7, 0xF, 0x0, 0x8, .w, 0x7⟩,
  ⟨0xA004, .ro, 0x0, 0x0, 0x0, 0x0, .openAll, 0x0⟩,
  ⟨0xA008, .w1c, 0x0, 0x0, 0x1F, 0x0, .w, 0x0⟩,
  ⟨0xA00C, .wo, 0x0, 0x0, 0x0, 0x0, .rw, 0x0⟩,
  ⟨0xA010, .ro, 0x0, 0x0, 0x0, 0x0, .openAll, 0x0⟩,
  ⟨0xB000, .rwm, 0x581, 0xFF1, 0x0, 0x0, .w, 0xFF1⟩,
  ⟨0xB004, .ro, 0x0, 0x0, 0x0, 0x0, .openAll, 0x0⟩,
  ⟨0xB008, .w1c, 0x0, 0x0, 0x1FF, 0x0, .w, 0x0⟩,
  ⟨0xB00C, .rw, 0x1FF, 0x1FF, 0x0, 0x0, .w, 0x1FF⟩,
  ⟨0xB010, .ro, 0x7D766964, 0x0, 0x0, 0x0, .openAll, 0xFFFFFFFF⟩,
  ⟨0xB014, .ro, 0x5A50461E, 0x0, 0x0, 0x0, .openAll, 0xFFFFFFFF⟩,
  ⟨0xB018, .ro, 0x4B413714, 0x0, 0x0, 0x0, .openAll, 0xFFFFFFFF⟩,
  ⟨0xB020, .ro, 0x80008000, 0x0, 0x0, 0x0, .openAll, 0x0⟩,
  ⟨0xB030, .ro, 0x0, 0x0, 0x0, 0x0, .openAll, 0x0⟩,
  ⟨0xB040, .rwm, 0x0, 0xF, 0x0, 0x0, .w, 0xF⟩,
  ⟨0xC000, .ro, 0x0, 0x0, 0x0, 0x0, .rw, 0x0⟩,
  ⟨0xC004, .rwm, 0xFF, 0x1FF, 0x0, 0x0, .rw, 0x1FF⟩,
  ⟨0xC010, .ro, 0x0, 0x0, 0x0, 0x0, .rw, 0x0⟩,
  ⟨0xC030, .ro, 0x0, 0x0, 0x0, 0x0, .rw, 0x0⟩,
  ⟨0xC034, .ro, 0x0, 0x0, 0x0, 0x0, .rw, 0x0⟩,
  ⟨0xC038, .ro, 0x0, 0x0, 0x0, 0x0, .rw, 0x0⟩,
  ⟨0xC03C, .ro, 0x0, 0x0, 0x0, 0x0, .rw, 0x0⟩,
  ⟨0xC040, .ro, 0x0, 0x0, 0x0, 0x0, .rw, 0x0⟩,
  ⟨0xC044, .w1c, 0x0, 0x0, 0xFF, 0x0, .rw, 0x0⟩,
  ⟨0xD000, .rwm, 0x8100, 0xFF01, 0x0, 0x0, .w, 0xFF01⟩,
  ⟨0xD004, .rw, 0x0, 0xFFFFFFFF, 0x0, 0x0, .w, 0xFFFFFFFF⟩,
  ⟨0xD008, .ro, 0x0, 0x0, 0x0, 0x0, .w, 0x0⟩,
  ⟨0xD00C, .ro, 0x0, 0x0, 0x0, 0x0, .w, 0x0⟩]

/-- 15_registers.md R445: rows 94 to 123 of the register table, by offset. -/
def regRows3 : List RegDef := [
  ⟨0xD010, .ro, 0x0, 0x0, 0x0, 0x0, .w, 0x0⟩,
  ⟨0xD014, .ro, 0x0, 0x0, 0x0, 0x0, .w, 0x0⟩,
  ⟨0xD018, .ro, 0x0, 0x0, 0x0, 0x0, .w, 0x0⟩,
  ⟨0xD01C, .w1c, 0x0, 0x0, 0x7, 0x0, .w, 0x0⟩,
  ⟨0xD400, .ro, 0x0, 0x0, 0x0, 0x0, .w, 0x0⟩,
  ⟨0xD800, .ro, 0x0, 0x0, 0x0, 0x0, .rw, 0x0⟩,
  ⟨0xD804, .ro, 0x0, 0x0, 0x0, 0x0, .rw, 0x0⟩,
  ⟨0xD808, .ro, 0x0, 0x0, 0x0, 0x0, .rw, 0x0⟩,
  ⟨0xD80C, .w1c, 0x0, 0x0, 0x1F, 0x0, .rw, 0x0⟩,
  ⟨0xE000, .rw, 0x0, 0xFC00FFFF, 0x0, 0x4000000, .w, 0xF800FFFF⟩,
  ⟨0xE800, .w1c, 0x0, 0x0, 0xFFFFFFFF, 0x0, .w, 0x0⟩,
  ⟨0xE804, .w1c, 0x0, 0x0, 0xFFFFFFFF, 0x0, .w, 0x0⟩,
  ⟨0xE900, .rwm, 0x0, 0xC3FF, 0x0, 0x0, .w, 0xC3FF⟩,
  ⟨0xE904, .ro, 0x0, 0x0, 0x0, 0x0, .w, 0x0⟩,
  ⟨0xEA00, .ro, 0x0, 0x0, 0x0, 0x0, .w, 0x0⟩,
  ⟨0xEA04, .ro, 0x0, 0x0, 0x0, 0x0, .w, 0x0⟩,
  ⟨0x10000, .rwm, 0x0, 0x1DF, 0x0, 0x100, .w, 0xDF⟩,
  ⟨0x10004, .ro, 0x0, 0x0, 0x0, 0x0, .openAll, 0x0⟩,
  ⟨0x10008, .w1c, 0x0, 0x0, 0x1FF, 0x0, .w, 0x0⟩,
  ⟨0x1000C, .ro, 0x0, 0x0, 0x0, 0x0, .openAll, 0x0⟩,
  ⟨0x10100, .rwm, 0x540, 0xFF1, 0x0, 0x1, .w, 0xFF0⟩,
  ⟨0x10104, .ro, 0x0, 0x0, 0x0, 0x0, .openAll, 0x0⟩,
  ⟨0x10108, .ro, 0x0, 0x0, 0x0, 0x0, .openAll, 0x0⟩,
  ⟨0x1010C, .w1c, 0x0, 0x0, 0x3F, 0x0, .w, 0x0⟩,
  ⟨0x10110, .ro, 0x0, 0x0, 0x0, 0x0, .openAll, 0x0⟩,
  ⟨0x10114, .ro, 0x0, 0x0, 0x0, 0x0, .openAll, 0x0⟩,
  ⟨0x10200, .ro, 0x0, 0x0, 0x0, 0x0, .openAll, 0x0⟩,
  ⟨0x10204, .ro, 0x0, 0x0, 0x0, 0x0, .openAll, 0x0⟩,
  ⟨0x10208, .ro, 0x100000, 0x0, 0x0, 0x0, .openAll, 0xFFFFFFFF⟩,
  ⟨0x1020C, .w1c, 0x0, 0x0, 0x3F, 0x0, .w, 0x0⟩]

/-- 15_registers.md R445: rows 124 to 153 of the register table, by offset. -/
def regRows4 : List RegDef := [
  ⟨0x10210, .ro, 0x0, 0x0, 0x0, 0x0, .openAll, 0x0⟩,
  ⟨0x10214, .ro, 0x0, 0x0, 0x0, 0x0, .openAll, 0x0⟩,
  ⟨0x10300, .ro, 0x0, 0x0, 0x0, 0x0, .openAll, 0x0⟩,
  ⟨0x10304, .ro, 0x0, 0x0, 0x0, 0x0, .openAll, 0x0⟩,
  ⟨0x10308, .ro, 0x0, 0x0, 0x0, 0x0, .openAll, 0x0⟩,
  ⟨0x1030C, .ro, 0x0, 0x0, 0x0, 0x0, .openAll, 0x0⟩,
  ⟨0x10310, .ro, 0x0, 0x0, 0x0, 0x0, .openAll, 0x0⟩,
  ⟨0x10314, .ro, 0x0, 0x0, 0x0, 0x0, .openAll, 0x0⟩,
  ⟨0x10318, .ro, 0x0, 0x0, 0x0, 0x0, .openAll, 0x0⟩,
  ⟨0x1031C, .ro, 0x0, 0x0, 0x0, 0x0, .openAll, 0x0⟩,
  ⟨0x10320, .w1c, 0x0, 0x0, 0x3FF, 0x0, .w, 0x0⟩,
  ⟨0x10324, .ro, 0x0, 0x0, 0x0, 0x0, .openAll, 0x0⟩,
  ⟨0x10400, .ro, 0x0, 0x0, 0x0, 0x0, .openAll, 0x0⟩,
  ⟨0x10404, .ro, 0x0, 0x0, 0x0, 0x0, .openAll, 0x0⟩,
  ⟨0x10408, .ro, 0x0, 0x0, 0x0, 0x0, .openAll, 0x0⟩,
  ⟨0x10600, .ro, 0x0, 0x0, 0x0, 0x0, .openAll, 0x0⟩,
  ⟨0x10604, .w1c, 0x0, 0x0, 0x1FF, 0x0, .w, 0x0⟩,
  ⟨0x10608, .ro, 0x0, 0x0, 0x0, 0x0, .openAll, 0x0⟩,
  ⟨0x1060C, .ro, 0x0, 0x0, 0x0, 0x0, .openAll, 0x0⟩,
  ⟨0x10680, .rwm, 0x4ACC, 0xFFFF, 0x0, 0x0, .w, 0xFFFF⟩,
  ⟨0x10700, .w1c, 0x0, 0x0, 0x3F, 0x0, .w, 0x0⟩,
  ⟨0x10704, .ro, 0x0, 0x0, 0x0, 0x0, .openAll, 0x0⟩,
  ⟨0x10708, .ro, 0x0, 0x0, 0x0, 0x0, .openAll, 0x0⟩,
  ⟨0x10780, .ro, 0x0, 0x0, 0x0, 0x0, .openAll, 0x0⟩,
  ⟨0x10784, .w1c, 0x0, 0x0, 0xF, 0x0, .w, 0x0⟩,
  ⟨0x10790, .ro, 0x0, 0x0, 0x0, 0x0, .openAll, 0x0⟩,
  ⟨0x10794, .w1c, 0x0, 0x0, 0x3F, 0x0, .w, 0x0⟩,
  ⟨0x10800, .ro, 0x0, 0x0, 0x0, 0x0, .openAll, 0xFFFFFFFF⟩,
  ⟨0x10C00, .ro, 0x0, 0x0, 0x0, 0x0, .openAll, 0xFFFFFFFF⟩,
  ⟨0x10D00, .ro, 0x0, 0x0, 0x0, 0x0, .openAll, 0x0⟩]

/-- 15_registers.md R445: rows 154 to 162 of the register table, by offset. -/
def regRows5 : List RegDef := [
  ⟨0x10D04, .rwm, 0x0, 0x1F, 0x0, 0x0, .w, 0x1F⟩,
  ⟨0x10D08, .w1c, 0x0, 0x0, 0xF, 0x0, .w, 0x0⟩,
  ⟨0x10E00, .ro, 0x80008000, 0x0, 0x0, 0x0, .openAll, 0x0⟩,
  ⟨0x10E04, .ro, 0x80008000, 0x0, 0x0, 0x0, .openAll, 0x0⟩,
  ⟨0x10E08, .ro, 0x80008000, 0x0, 0x0, 0x0, .openAll, 0x0⟩,
  ⟨0x10E10, .ro, 0x80008000, 0x0, 0x0, 0x0, .openAll, 0x0⟩,
  ⟨0x10E30, .w1c, 0x0, 0x0, 0xF, 0x0, .w, 0x0⟩,
  ⟨0x11000, .ro, 0x0, 0x0, 0x0, 0x0, .openAll, 0x0⟩,
  ⟨0x11004, .ro, 0x0, 0x0, 0x0, 0x0, .openAll, 0x0⟩]

/-- 15_registers.md R445: the register table. -/
def regTable : List RegDef :=
  regRows0 ++ regRows1 ++ regRows2 ++ regRows3 ++ regRows4 ++ regRows5

/-- 15_registers.md R430, R445: the table row that an offset belongs to; `none` for an offset no register has. `tiles`
is the number of tiles of the part: the tile-local block of an absent tile names no register. -/
def regKey (tiles off : Nat) : Option Nat :=
  if off % 4 ≠ 0 then none
  else if 0x20000 ≤ off then none
  else if 0x10000 ≤ off then
    let t := (off - 0x10000) / 0x2000
    let l := (off - 0x10000) % 0x2000
    if tiles ≤ t then none
    else if 0x600 ≤ l ∧ l < 0x680 then some (0x10600 + l % 0x10)
    else if 0xE10 ≤ l ∧ l < 0xE30 then some 0x10E10
    else if 0x800 ≤ l ∧ l < 0xC00 then some 0x10800
    else if 0xC00 ≤ l ∧ l < 0xC40 then some 0x10C00
    else if 0x1000 ≤ l ∧ l < 0x1200 then some (0x11000 + l % 8)
    else if 0x1200 ≤ l then none
    else some (0x10000 + l)
  else if 0x1000 ≤ off ∧ off < 0x1C00 then
    let o := (off - 0x1000) % 0x30
    if o = 0x2C then none else some (0x1000 + o)
  else if 0x2000 ≤ off ∧ off < 0x2200 then some (0x2000 + off % 8)
  else if 0x2200 ≤ off ∧ off < 0x3000 then none
  else if 0x9040 ≤ off ∧ off < 0x9080 then some 0x9040
  else if 0xB020 ≤ off ∧ off < 0xB030 then some 0xB020
  else if 0xB030 ≤ off ∧ off < 0xB040 then some 0xB030
  else if 0xC010 ≤ off ∧ off < 0xC030 then some 0xC010
  else if 0xD400 ≤ off ∧ off < 0xD800 then some 0xD400
  else if 0x7800 ≤ off ∧ off < 0x7820 then some 0x7800
  else if 0x8800 ≤ off ∧ off < 0x9000 then some 0x8800
  else if 0xE000 ≤ off ∧ off < 0xE800 then if (off - 0xE000) / 0x100 < tiles then some 0xE000 else none
  else if 0xE800 ≤ off ∧ off < 0xE840 then if (off - 0xE800) / 8 < tiles then some (0xE800 + off % 8) else none
  else if 0xE840 ≤ off ∧ off < 0xE900 then none
  else if 0xE900 ≤ off ∧ off < 0xE980 then some (0xE900 + off % 8)
  else if 0xEA00 ≤ off ∧ off < 0xEE00 then if (off - 0xEA00) % 0x40 / 8 < tiles then some (0xEA00 + off % 8) else none
  else some off

/-- The row of an offset, when the part has that register. -/
def regDef? (tiles off : Nat) : Option RegDef :=
  match regKey tiles off with
  | none => none
  | some k => regTable.find? (fun d => d.key == k)

/-- 15_registers.md R445: the reset value of the register at an offset; 0 where there is none. The offset is not
checked against the tiles present. -/
def regReset (off : Nat) : W32 :=
  match regDef? 8 off with
  | some d => d.reset
  | none => 0

end Sys2Proof.Machine
end

