-- ==== Sys2Proof/Machine/StPorter.lean ====
section
/-! DEFINITION. Machine/StPorter.lean: Porter's rings (14_command_rings.md) and the outputs of the block as plain data. -/

namespace Sys2Proof.Machine

/-- 14_command_rings.md R413: a submission descriptor. -/
structure Desc where
  /-- R413 OPCODE. -/
  opcode : Nat
  /-- R413 CID. -/
  cid : Nat
  /-- R413 FLAGS, 8 bits. -/
  flags : Nat
  /-- R413: bytes 5 to 7. -/
  rsv : Nat
  /-- R413: PARAMS, packed under R414. -/
  params : BitVec 448
  deriving DecidableEq, Repr

/-- 14_command_rings.md R415, R416: how a command ended. -/
structure CmdResult where
  /-- R416 STATUS. -/
  status : Nat
  /-- R416 DETAIL. -/
  detail : Nat := 0
  /-- R414: results in table order, each a width in bits and a value. -/
  results : List (Nat × Nat) := []
  deriving DecidableEq, Repr

/-- 14_command_rings.md R418: a command that executes. -/
structure Exec where
  /-- R413 CID. -/
  cid : Nat
  /-- R413 OPCODE. -/
  opcode : Nat
  /-- R424 IMM. -/
  imm : Bool := false
  /-- R417 FENCE. -/
  fence : Bool := false
  /-- R413 PARAMS. -/
  params : BitVec 448 := 0
  /-- R415: how it ended, once it has. -/
  result : Option CmdResult := none
  /-- R419: its bound expired and TIMEOUT was written. -/
  late : Bool := false
  /-- R408, R420: its completion is discarded. -/
  discard : Bool := false
  deriving DecidableEq, Repr

/-- 14_command_rings.md R410: states of a ring. -/
inductive RingState where
  | disabled | running | disabling | error
  deriving DecidableEq, Repr

/-- RING_STATUS STATE. -/
def RingState.code : RingState → Nat
  | .disabled => 0 | .running => 1 | .disabling => 2 | .error => 3

/-- 14_command_rings.md R405: one of the 64 rings. -/
structure Ring where
  /-- RING_STATUS STATE. reset: DISABLED -/
  state : RingState := .disabled
  /-- R407: owning head. reset: 0 -/
  head : Nat := 0
  /-- RING_STATUS SQ_HEAD. reset: 0 -/
  sqHead : Nat := 0
  /-- DB_SQ_TAIL. reset: 0 -/
  sqTail : Nat := 0
  /-- RING_CQ_POS CQ_TAIL. reset: 0 -/
  cqTail : Nat := 0
  /-- DB_CQ_HEAD. reset: 0 -/
  cqHead : Nat := 0
  /-- RING_CQ_POS PHASE. reset: 1 -/
  phase : Bool := true
  /-- R418: descriptors fetched and not started, in SQ order. reset: none -/
  fetched : List Desc := []
  /-- R418: commands that execute, at most 16. reset: none -/
  execs : List Exec := []
  /-- R424: completions written since the last interrupt. reset: 0 -/
  coalCount : Nat := 0
  /-- R424: COAL_TIME as it was at the last completion. reset: 0 -/
  coalTime : Nat := 0
  /-- R425: entries written to an event ring since it was enabled. reset: 0 -/
  evtSeq : Nat := 0
  /-- R425: events were lost since the last entry written. reset: false -/
  evtLost : Bool := false
  deriving DecidableEq, Repr

/-- 14_command_rings.md: Porter. -/
structure Porter where
  /-- R405: rings 0 to 63. reset: R406 every ring DISABLED -/
  rings : Vector Ring 64 := Vector.replicate 64 {}
  /-- R418: the ring served last. reset: 63, so that ring 0 comes first -/
  lastServed : Nat := 63
  deriving DecidableEq, Repr

/-- 02_host_ports.md R53: what a head answers to a CXL.mem request. -/
structure S2M where
  /-- R71: the request's tag. -/
  tag : Nat
  /-- R53: data of MemData, none for Cmp. -/
  data : Option Line := none
  /-- R56: the data is poisoned. -/
  poison : Bool := false
  /-- R54: MetaValue "invalid", which the response to a request with MetaField set carries. -/
  metaInvalid : Bool := false
  /-- 03_transactions.md R87: DevLoad. -/
  devLoad : Nat := 0
  deriving DecidableEq, Repr

/-- 06_medium.md R172, CA command encodings: a command on the CA bus of a media channel. -/
inductive CaCmd where
  /-- READ_LINE: plane, first line, block, page, number of lines, offsets A, B and C -/
  | readLine (plane line block page count : Nat) (offA offB offC : Int)
  /-- PROGRAM_PAGE: plane, START, block, page -/
  | program (plane : Nat) (start : Bool) (block page : Nat)
  /-- CLEAR_BLOCK: plane, block -/
  | clear (plane block : Nat)
  /-- SUSPEND: plane -/
  | suspend (plane : Nat)
  /-- RESUME: plane, KIND (true for a program) -/
  | resume (plane : Nat) (program : Bool)
  /-- STATUS -/
  | status
  /-- SET_REF: DIE_MASK, base levels A, B and C -/
  | setRef (dies : Nat) (baseA baseB baseC : Int)
  /-- CALIBRATE: SUBOP -/
  | calibrate (sub : Nat)
  /-- READ_ID: PAGE_SEL -/
  | readId (page : Nat)
  deriving DecidableEq, Repr

/-- Everything the block puts on its interfaces; newest last in `State.outbox`. -/
inductive Out where
  /-- 15_registers.md R431: completion of a register read -/
  | regData (head off : Nat) (data : W32)
  /-- 02_host_ports.md R53: a CXL.mem response of a head -/
  | s2m (head : Nat) (r : S2M)
  /-- 02_host_ports.md R58: a GPF phase is acknowledged, 1 or 2 -/
  | gpfAck (head phase : Nat) (error : Bool)
  /-- 14_command_rings.md R415, R425: a write of the bytes given to host memory by a head as bus master -/
  | hostWrite (head addr : Nat) (bytes : List Byte)
  /-- 14_command_rings.md R412: a read of host memory by a head as bus master -/
  | hostRead (head addr len : Nat)
  /-- 14_command_rings.md R423: an MSI-X message of a head, by table entry -/
  | msix (head entry : Nat)
  /-- 02_host_ports.md R65: mailbox completion of an LD: opcode, return code, fields in the order of the row's docstring -/
  | mailbox (head ld op ret : Nat) (fields : List Nat)
  /-- 02_host_ports.md R41: FM API response: opcode, return code, fields -/
  | fmapi (head op ret : Nat) (fields : List Nat)
  /-- 02_host_ports.md R63: DOE, SPDM and IDE_KM responses: message code, error code (0 none), fields -/
  | doe (head code err : Nat) (fields : List Nat)
  /-- 10_modes.md R316 step 8: answer to a configuration request; true is Configuration Request Retry Status, and a normal answer gives the
  values of `State.cfgView` -/
  | cfgResponse (head : Nat) (retry : Bool) (view : List Nat)
  /-- 13_thermal_sled.md R399: sideband answer: MCTP message type, command, completion code, fields -/
  | sideband (type cmd code : Nat) (fields : List Nat)
  /-- 13_thermal_sled.md R402: an in-band interrupt on the I3C bus -/
  | ibi (alerts : Nat)
  /-- 01_architecture.md R18: a message of a traffic class (0 SYNC, 1 MEM, 2 PAR, 3 MGMT) from a tile to a tile: kind and fields -/
  | mesh (src dst cls kind : Nat) (fields : List Nat)
  /-- 09_caravan.md R288: a Caravan frame to a peer: frame type and fields, data lines -/
  | caravan (peer type : Nat) (fields : List Nat) (lines : List Line)
  /-- 06_medium.md R176: a packet on the CA bus of a media channel: tile, channel, rank whose chip select is low, the 16-bit words -/
  | media (tile ch rank : Nat) (words : List Nat)
  /-- 06_medium.md R182: the data-in of a program: coded lines 0 to 67 of its page -/
  | mediaIn (tile ch rank : Nat) (lines : List (List Byte))
  /-- 02_host_ports.md R67: a CXL event record of an LD's log was added and its interrupt is due -/
  | cxlEvent (head ld log : Nat)
  deriving DecidableEq, Repr

end Sys2Proof.Machine
end

