-- ==== Sys2Proof/Machine/StPower.lean ====
section
/-! DEFINITION. Machine/StPower.lean: the operating mode, Bring-up and Hold-up (10_modes.md) and the power manager
(11_power.md) as plain data. -/

namespace Sys2Proof.Machine

/-- 10_modes.md R540: the steps between an off or restart trigger and the entry into Hold-up. -/
structure ShutdownPrep where
  /-- R323: CAUSE of the trigger, 1 or 4. -/
  cause : Nat
  /-- R540: OFF_GRACE has ended. -/
  graceDone : Bool
  /-- R540: the checkpoint of every tile has ended. -/
  ckptDone : Bool := false
  /-- R335: OFF_GRACE in ms as it was when the trigger was recognised. -/
  graceMs : Nat := 0
  deriving DecidableEq, Repr

/-- 10_modes.md R324: where the Hold-up flush stands. -/
inductive HoldStep where
  | none | flush | slots | stage4 | commit | railsDown
  deriving DecidableEq, Repr

/-- 10_modes.md: the mode of the package, Bring-up and Hold-up. -/
structure ModeState where
  /-- R311: the operating mode. reset: R311 Off, no supply -/
  mode : Mode := .off
  /-- MODE_STATUS PREV_MODE: mode before the last change. reset: MODE_STATUS 0b000 -/
  prev : Nat := 0
  /-- MODE_STATUS PRIMARY. reset: 0 -/
  primary : Nat := 0
  /-- R327 FAILOVER. reset: 0 -/
  failover : Bool := false
  /-- R317 DIRTY_SHUTDOWN. reset: 0 -/
  dirtyShutdown : Bool := false
  /-- R319 DRAINING: ring and CID of the SET_MODE that waits. reset: none -/
  drain : Option (Nat × Nat) := none
  /-- R312: Degraded causes that hold, bit n is cause n. reset: 0 -/
  causes : Nat := 0
  /-- R312, R275: failed tiles, one bit per tile. reset: 0 -/
  failed : Nat := 0
  /-- R231: Sealed tiles, one bit per tile. reset: 0 -/
  sealed : Nat := 0
  /-- R316 STEP: last step of Bring-up completed. reset: 0 -/
  step : Nat := 0
  /-- R316: steps completed of those that run in parallel, bit n is step n. reset: 0 -/
  stepsDone : Nat := 0
  /-- R318 FAIL_CAUSE. reset: 0 -/
  failCause : Nat := 0
  /-- BRINGUP_STATUS ELAPSED_MS. reset: 0 -/
  elapsedMs : Nat := 0
  /-- R317: SHUTDOWN_STATE with CLEAN = 0 was committed in this run. reset: false -/
  cleanCommitted : Bool := false
  /-- R317: a failure that R318 ends in Service. reset: none -/
  serviceFail : Bool := false
  /-- HOLDUP_REPORT in force. reset: 0 -/
  report : W32 := 0
  /-- R323: CAUSE of the running Hold-up. reset: 0 -/
  cause : Nat := 0
  /-- R324: where the flush stands. reset: none -/
  holdStep : HoldStep := .none
  /-- R331: the cap of R326 applies to the running Hold-up. reset: false -/
  capApplies : Bool := false
  /-- R326: the cap in ms, counted from entry. reset: 0 -/
  capMs : Nat := 0
  /-- R324: frames committed by the running flush. reset: 0 -/
  flushed : Nat := 0
  /-- R540: an off or restart trigger is in preparation. reset: none -/
  prep : Option ShutdownPrep := none
  /-- R331: a warm reset is latched. reset: false -/
  warmLatched : Bool := false
  /-- R346: MRST_N is low. reset: false -/
  mrstLow : Bool := false
  /-- R346: a Bring-up waits at step 2 for MRST_N. reset: false -/
  mrstHold : Bool := false
  /-- R317: CLEAN of the previous SHUTDOWN_STATE was 0 at this Bring-up. reset: false -/
  prevUnclean : Bool := false
  /-- R275: consecutive heartbeats missed, by tile. reset: none -/
  missed : List (Nat × Nat) := []
  /-- R19: fenced mesh links, keyed 8 × lower tile + port. reset: none -/
  fenced : List (Nat × Bool) := []
  /-- 12_clocks_resets.md R376, R377: the main resets of the tiles are released. reset: false -/
  resetsReleased : Bool := false
  /-- R193: VAUX has risen since the age clock was last compared with the medium. reset: false -/
  fromOff : Bool := false
  /-- R316: heads whose PERST_N is high. reset: DESIGN CHOICE 0xFF, every PERST_N high -/
  perstHigh : Nat := 0xFF
  deriving DecidableEq, Repr

/-- 11_power.md PWR_STATUS SEQ_STATE. -/
inductive SeqState where
  | down | up1 | up | normalDown | fastDown
  deriving DecidableEq, Repr

/-- PWR_STATUS: the code of SEQ_STATE. -/
def SeqState.code : SeqState → Nat
  | .down => 0 | .up1 => 1 | .up => 2 | .normalDown => 3 | .fastDown => 4

/-- 11_power.md R353, R354: where a hold-up test stands. -/
structure HoldTest where
  /-- R354: V0 in 0.5 mV. -/
  v0 : Nat
  /-- R354: V1 in 0.5 mV. -/
  v1 : Nat
  /-- R361: the command that asked for the test, ring and CID. -/
  asked : Option (Nat × Nat)
  deriving DecidableEq, Repr

/-- 11_power.md: the power manager. -/
structure PowerState where
  /-- 10_modes.md R313: VAUX is within its limits. reset: false, Off -/
  vaux : Bool := false
  /-- R336: settings of slots A to P in force, as SEQ_SLOT_x. reset: SEQ_SLOT_x 0 -/
  slots : List W32 := List.replicate 16 0
  /-- R338: SEQ_EN_x pins, bit 0 is A. reset: 0 -/
  seqEn : Nat := 0
  /-- PWR_STATUS PG_QUAL. reset: 0 -/
  pgQual : Nat := 0
  /-- PWR_STATUS SEQ_STATE. reset: down -/
  seq : SeqState := .down
  /-- PWR_STATUS SLOT. reset: 0 -/
  slot : Nat := 0
  /-- R338: UP_DELAY of the slot in progress runs. reset: false -/
  upDelay : Bool := false
  /-- R314: source of a latched on request, 0 to 3 (R539). reset: none -/
  onLatched : Option Nat := none
  /-- R342: an off request is latched. reset: false -/
  offLatched : Bool := false
  /-- R314: 100 ms have passed since the rails went down. reset: true -/
  rested : Bool := true
  /-- PWR_FAULT FAULT. reset: 0 -/
  fault : Bool := false
  /-- PWR_FAULT FAULT_SLOT. reset: 0 -/
  faultSlot : Nat := 0
  /-- PWR_FAULT KIND. reset: 0 -/
  faultKind : Nat := 0
  /-- R345: a long press was acted on and its release is ignored. reset: false -/
  longHeld : Bool := false
  /-- R362: LONG_PRESS as it was before PWR_CTL was last written; a press that had begun keeps it. reset: none -/
  longOld : Option Nat := none
  /-- R358: shed stage, 0 to 4. reset: 0 -/
  stage : Nat := 0
  /-- R358: consecutive samples below VIN_WARN1. reset: 0 -/
  below1 : Nat := 0
  /-- R358: consecutive samples below VIN_WARN2. reset: 0 -/
  below2 : Nat := 0
  /-- R358: consecutive samples below VIN_PFAIL. reset: 0 -/
  belowP : Nat := 0
  /-- R359: stage 1 holds. reset: false -/
  hold1 : Bool := false
  /-- R359: stage 2 holds. reset: false -/
  hold2 : Bool := false
  /-- R348: mean VIN in 10 mV. reset: 0 -/
  vin : Nat := 0
  /-- R348: mean bank voltage in 10 mV. reset: 0 -/
  holdV : Nat := 0
  /-- R351: v_b in 0.5 mV. reset: 0 -/
  vb : Nat := 0
  /-- R348: the last 100 codes of VIN_SENSE, newest first. reset: none -/
  vinRun : List Nat := []
  /-- R348: the last 100 codes of HOLD_SENSE, newest first. reset: none -/
  holdRun : List Nat := []
  /-- R348: samples taken, one a µs. reset: 0 -/
  samples : Nat := 0
  /-- R351: the last sample that was taken while HOLD_TEST was high. reset: none -/
  loadAt : Option Nat := none
  /-- R351: of the samples of the last 100 ms that count for v_b, those below every later one, newest first: number and code. reset: none -/
  lows : List (Nat × Nat) := []
  /-- R359: consecutive samples at or above VIN_WARN1 + VIN_HYST. reset: 0 -/
  above1 : Nat := 0
  /-- R359: consecutive samples at or above VIN_WARN2 + VIN_HYST. reset: 0 -/
  above2 : Nat := 0
  /-- 10_modes.md R314: consecutive samples at or above VIN_PFAIL + VIN_HYST. reset: 0 -/
  aboveP : Nat := 0
  /-- R336, R361: shed levels in force, SHED_LEVELS0 then 1. reset: 0x11301068, 0x0FA00032 -/
  levels : W32 × W32 := (0x11301068, 0x0FA00032)
  /-- R351: c_bank of the last VALID test since VAUX rose, in nF; 0 means none. reset: 0 -/
  cBank : Nat := 0
  /-- HOLD_RESULT ESR in 0.25 mΩ. reset: 0 -/
  esr : Nat := 0
  /-- HOLD_RESULT AGE_H. reset: 255 -/
  testAgeH : Nat := 255
  /-- R351: outcome of the tests of this Bring-up: 0 none, 1 valid, 2 failed. reset: 0 -/
  measured : Nat := 0
  /-- R352: usable energy u in J. reset: 0 -/
  usable : Nat := 0
  /-- R352: e_rsv in 0.1 J. reset: 0 -/
  reserve : Nat := 0
  /-- R352: HOLD_LIMIT LIMIT. reset: 0 -/
  holdLimit : Nat := 0
  /-- R353: the running test. reset: none -/
  test : Option HoldTest := none
  /-- R353: a test is due. reset: false -/
  testDue : Bool := false
  /-- R355: hours since GB_HOLDUP_DEFER was recorded; 24 or more let it be recorded again. reset: DESIGN CHOICE 24 -/
  deferAge : Nat := 24
  /-- R353: the wait of step 10 for a settled bank runs. reset: false -/
  chgWait : Bool := false
  /-- R354 HOLD_TEST pin. reset: false -/
  holdTestPin : Bool := false
  /-- R354 HOLD_CHG_INH pin. reset: false -/
  holdChgInh : Bool := false
  /-- R357: bank voltage at entry into Hold-up in 10 mV. reset: 0 -/
  entryV : Nat := 0
  /-- R357: power drawn in the last Hold-up in W. reset: 0 -/
  drawnW : Nat := 0
  deriving DecidableEq, Repr

end Sys2Proof.Machine
end

