-- ==== Sys2Proof/Machine/StBelfry.lean ====
section
/-! DEFINITION. Machine/StBelfry.lean: Belfry (04_belfry.md) and the performance counters (18_performance_counters.md)
as plain data. -/

namespace Sys2Proof.Machine

/-- 04_belfry.md, Belfry states table. -/
inductive BelState where
  | free | acquire | locked | holdover
  deriving DecidableEq, Repr

/-- BELFRY_STATUS STATE. -/
def BelState.code : BelState → Nat
  | .free => 0 | .acquire => 1 | .locked => 2 | .holdover => 3

/-- R111: a slew of the reference angle that is being applied. -/
structure Slew where
  /-- e / 4 in units of the accumulator, 2^-32 tick. -/
  amount : Int
  /-- ticks of the 1,024 over which it is applied that are still to come. -/
  left : Nat
  deriving DecidableEq, Repr

/-- 04_belfry.md: phase tracking of the package. -/
structure Belfry where
  /-- R109 STATE. reset: BELFRY_STATUS 0b00, FREE -/
  state : BelState := .free
  /-- R103 SOURCE: 0 NONE, 1 PHASE_IN, 2 FABRIC. reset: 0 -/
  source : Nat := 0
  /-- R100: the 48-bit phase accumulator, whose bits 47:32 are the reference angle, as of the last command that gave it. reset: 0 -/
  refAngle : Nat := 0
  /-- R111: slews that are being applied, oldest first. reset: none -/
  slews : List Slew := []
  /-- R101: local turn number, 36 bits. reset: 0 -/
  turn : Nat := 0
  /-- R100 TURN_PERIOD in µs. reset: BELFRY_PERIOD 10,000 -/
  period : Nat := 10000
  /-- R129: period that takes effect at the next local turn start. reset: none -/
  periodNext : Option Nat := none
  /-- R101 PHASE_OFFSET. reset: BELFRY_OFFSET 0 -/
  offset : Nat := 0
  /-- R101 TILE_STAGGER. reset: BELFRY_OFFSET 0 -/
  stagger : Nat := 0
  /-- R108 DOMAIN. reset: 0 -/
  domain : Nat := 0
  /-- R110: TURN_SET waiting for the next PHASE_IN turn mark. reset: none -/
  turnSet : Option Nat := none
  /-- R110: the acquisition waits for the turn mark that steps the angle. reset: false -/
  stepWait : Bool := false
  /-- R111: frequency estimate relative to the crystal. reset: R112 nominal, 1 -/
  freq : Rat := 1
  /-- BELFRY_STATUS PHASE_ERR: error of the last mark in ticks. reset: 0 -/
  phaseErr : Int := 0
  /-- R111: consecutive marks with an error within 4 ticks. reset: 0 -/
  lockCount : Nat := 0
  /-- R106: consecutive outliers. reset: 0 -/
  outliers : Nat := 0
  /-- R106: consecutive missed marks. reset: 0 -/
  missed : Nat := 0
  /-- R111: ns since the last turn mark that the loop used, at its last mark. reset: 0 -/
  sinceTurnNs : Nat := 0
  /-- R111: length of the turn before, in ns; none where its two marks were not used. reset: none -/
  prevTurnNs : Option Nat := none
  /-- R111: the period measured last over two turns was out of range. reset: false -/
  rangeBad : Bool := false
  /-- R108: turns that messages used have named, with their START_NS, oldest first. reset: none -/
  msgUsed : List (Nat × Nat) := []
  /-- R131 HOLD_TURNS. reset: 0 -/
  holdTurns : Nat := 0
  /-- R102 ANGLE_SNAP. reset: 0 -/
  angleSnap : Nat := 0
  /-- R102: BELFRY_TURN_HI as captured. reset: 0 -/
  turnHiSnap : Nat := 0
  /-- BELFRY_TRIM_STATUS TRIM_DONE. reset: 0 -/
  trimDone : Bool := false
  /-- BELFRY_TRIM_STATUS TRIM_BUSY. reset: 0 -/
  trimBusy : Bool := false
  /-- BELFRY_TRIM_STATUS DEV in 0.01 %. reset: 0 -/
  trimDev : Int := 0
  /-- BELFRY_TRIM_STATUS TRIM_CODE. reset: the factory value, Pop.trimFactory -/
  trimCode : Nat := 256
  /-- R128: next step of the search; 4 down to 0, none when the search is over. reset: none -/
  trimStep : Option Nat := none
  /-- R128: the last measurement of the search runs. reset: false -/
  trimFinal : Bool := false
  /-- R128: PHASE_IN turn marks in a row since the measurement that runs started. reset: 0 -/
  trimMarks : Nat := 0
  deriving DecidableEq, Repr

/-- 04_belfry.md R114: a schedule entry as its words give it. -/
structure SchedEntry where
  /-- word 0 START. -/
  start : Nat := 0
  /-- word 0 END. -/
  stop : Nat := 0
  /-- word 1 VALID. -/
  valid : Bool := false
  /-- word 1 CLASS. -/
  cls : Nat := 0
  /-- word 1 bits 26:24, must be 0. -/
  rsv1 : Nat := 0
  /-- word 1 CHAN_MASK. -/
  chans : Nat := 0
  /-- word 1 TURN_EXP. -/
  turnExp : Nat := 0
  /-- word 1 TURN_OFFSET. -/
  turnOff : Nat := 0
  /-- word 2 BUDGET. -/
  budget : Nat := 0
  /-- word 3 bits 31:8, must be 0. -/
  rsv3 : Nat := 0
  /-- word 3 ARG. -/
  arg : Nat := 0
  deriving DecidableEq, Repr

/-- 04_belfry.md R125: a load that is armed on a tile. -/
structure ArmedLoad where
  /-- R114: the 64 entries. -/
  entries : List SchedEntry
  /-- R122: the 32 profile entries. -/
  profile : List Nat
  /-- R125: tile turn of activation. -/
  turn : Nat
  /-- R125: activate at the next turn start. -/
  atNext : Bool
  /-- R125: the turn of activation has started. -/
  due : Bool := false
  /-- R125: the command that armed it and still runs: ring, CID. -/
  owner : Option (Nat × Nat)
  deriving DecidableEq, Repr

/-- 04_belfry.md: schedule and write-power profile of a tile. -/
structure BelTile where
  /-- R114: the schedule in force, 64 entries; empty before step 12. reset: R445 reads 0 -/
  sched : List SchedEntry := []
  /-- R122: the profile in force, 32 entries; empty before step 12. reset: R123 reads 0 -/
  profile : List Nat := []
  /-- R125: the armed load. reset: none -/
  armed : Option ArmedLoad := none
  /-- R20: the tile's copy of Belfry's tick count, 16 bits. reset: 0 -/
  tick : Nat := 0
  /-- R101: tile turn number. reset: 0 -/
  turn : Nat := 0
  /-- BELFRY_ACTIVE: entries whose sector runs, bit i is entry i. reset: 0 -/
  active : Nat := 0
  /-- R113: entries that have run in this tile turn. reset: 0 -/
  ran : Nat := 0
  /-- R117: budget that the sector an entry started last has spent, by 16 × entry + channel, channel 8 for a pooled budget. reset: none -/
  spent : List (Nat × Nat) := []
  /-- R120 OVERRIDE_CNT. reset: 0 -/
  overrides : Nat := 0
  /-- R120: an override was counted in this tile turn. reset: false -/
  overrideTurn : Bool := false
  /-- R131 SCHED_TURN. reset: 0 -/
  schedTurn : Nat := 0
  deriving DecidableEq, Repr

/-- 18_performance_counters.md R507: one bandwidth window. -/
structure PerfWin where
  /-- R507: heads whose window is open, one bit per head. reset: 0 -/
  openHeads : Nat := 0
  /-- R506: RD_LINES counted so far, by head. reset: none -/
  rd : List (Nat × Nat) := []
  /-- R506: WR_LINES counted so far, by head. reset: none -/
  wr : List (Nat × Nat) := []
  /-- PERF_BW_RD as loaded at the last close, by head. reset: none -/
  rdLast : List (Nat × Nat) := []
  /-- PERF_BW_WR as loaded at the last close, by head. reset: none -/
  wrLast : List (Nat × Nat) := []
  /-- PERF_WIN_STATUS SHORT. reset: 0 -/
  short : Bool := false
  /-- PERF_WIN_STATUS SEQ. reset: 0 -/
  seq : Nat := 0
  /-- PERF_WIN_STATUS DURATION_US. reset: 0 -/
  duration : Nat := 0
  deriving DecidableEq, Repr

end Sys2Proof.Machine
end

