-- ==== Sys2Proof/Machine/StClock.lean ====
section
/-! DEFINITION. Machine/StClock.lean: clocks and resets (12_clocks_resets.md), temperature, fans and the sideband
endpoint (13_thermal_sled.md) as plain data. -/

namespace Sys2Proof.Machine

/-- 12_clocks_resets.md: clock sources of the package. -/
structure Clocks where
  /-- CLK_STATUS XTAL_STATE: 0 not judged, 1 stable, 2 failed. reset: 0 -/
  xtal : Nat := 0
  /-- R373: the failed crystal was judged stable again. reset: false -/
  xtalBack : Bool := false
  /-- CLK_STATUS REFCLK_FAIL, one bit per head. reset: 0 -/
  refFail : Nat := 0
  /-- R366: reference clocks judged stable, one bit per head. reset: 0 -/
  refStable : Nat := 0
  /-- R373: failed reference clocks judged stable again, one bit per head. reset: 0 -/
  refBack : Nat := 0
  /-- R366: the crystal's 50 ms after VAUX run. reset: false -/
  xtalWait : Bool := false
  /-- CLK_IOSC FREQ_KHZ. reset: 0 -/
  ioscKhz : Nat := 0
  /-- R371: non-maskable events raised to management processors, one bit per tile. reset: 0 -/
  nmi : Nat := 0
  deriving DecidableEq, Repr

/-- 12_clocks_resets.md: clock domains, PLLs, gates and the reset of one tile. Domain bits run 0 AON, 1 PHASE, 2 SYS,
3 MGMT, 4 MEDIA, 5 GDDR, 6 MESH, 7 HEAD; PLL bits 0 AON, 1 SYS, 2 MEDIA, 3 GDDR, 4 MESH, 5 HEAD, 6 backup. -/
structure ClkTile where
  /-- CLK_TILE_STATUS ON_BACKUP. reset: 0 -/
  onBackup : Nat := 0
  /-- CLK_TILE_STATUS COAST_DOM. reset: 0 -/
  coast : Nat := 0
  /-- CLK_TILE_STATUS PLL_LOCKED. reset: 0 -/
  pllLocked : Nat := 0
  /-- R367: PLLs restarted once. reset: 0 -/
  pllRetried : Nat := 0
  /-- CLK_TILE_STATUS GATED. reset: 0 -/
  gated : Nat := 0
  /-- R374: gate requests waiting for their idle acknowledgement. reset: 0 -/
  gateWait : Nat := 0
  /-- R371: GDDR7 retrains after a clock move and its accesses wait. reset: false -/
  gddrRetrain : Bool := false
  /-- R371: mesh ports that retrain after a clock move, one bit per port. reset: 0 -/
  meshRetrain : Nat := 0
  /-- R372: domains whose move awaits an edge of the old clock, one bit per domain. reset: 0 -/
  edgeWait : Nat := 0
  /-- R379: step of the tile reset that runs, 1 to 7. reset: none -/
  resetStep : Option Nat := none
  /-- R379: the tile reset was accepted for a failed tile, which stays failed. reset: false -/
  resetFailed : Bool := false
  /-- R379: keys of the mesh links that the tile reset fenced. reset: none -/
  resetKeys : List Nat := []
  /-- R379: entry into Hold-up ended the tile reset, and the flush leaves the tile out. reset: false -/
  resetCut : Bool := false
  /-- R382: crossings whose value is marked as not delivered. reset: none -/
  cdcLost : List Nat := []
  deriving DecidableEq, Repr

/-- 13_thermal_sled.md: one temperature sensor. -/
structure Sensor where
  /-- R386: newest reading not faulted, in 1/8 °C. reset: R445 reads 0 -/
  value : Int := 0
  /-- R386 FAULT: the last conversion was faulted, or none was made. reset: R445 1 -/
  fault : Bool := true
  /-- R400: time of the newest reading in ms. reset: 0 -/
  atMs : Nat := 0
  /-- R394: readings of the last 2,000 ms, newest first: time and value. reset: none -/
  hist : List (Nat × Int) := []
  /-- R390: WARN is crossed. reset: false -/
  warn : Bool := false
  /-- R390: CRIT is crossed. reset: false -/
  crit : Bool := false
  /-- R390: consecutive readings at or below WARN − HYST. reset: 0 -/
  warnLow : Nat := 0
  /-- R390: consecutive readings at or below CRIT − HYST. reset: 0 -/
  critLow : Nat := 0
  /-- R392: a reading at or above SHUT awaits its second conversion. reset: false -/
  shutWait : Bool := false
  /-- R394: the rise watch runs, with the consecutive rates at or below RISE. reset: none -/
  rise : Option Nat := none
  /-- R388: priority of the queued request, 1 to 5. reset: none -/
  request : Option Nat := none
  deriving DecidableEq, Repr

/-- 13_thermal_sled.md R395: one fan channel. -/
structure Fan where
  /-- R396: ENABLE. reset: default fan record 1 -/
  enable : Bool := true
  /-- R396: TACH_EN. reset: default fan record 1 -/
  tachEn : Bool := true
  /-- R395: TACH_PPR. reset: default fan record 2 -/
  ppr : Nat := 2
  /-- R395: GROUP_MASK, bit 0 TILE, 1 MEDIA, 2 SLED. reset: default fan record 7 -/
  groups : Nat := 7
  /-- R395: MIN_DUTY. reset: default fan record 77 -/
  minDuty : Nat := 77
  /-- R396: STALL_RPM. reset: default fan record 500 -/
  stallRpm : Nat := 500
  /-- R395: curves of TILE, MEDIA, SLED, four points (°C, duty) each. reset: default fan record -/
  curves : List (List (Int × Nat)) :=
    [[(60, 77), (75, 115), (90, 179), (105, 255)], [(40, 77), (50, 115), (60, 179), (70, 255)],
     [(30, 77), (38, 115), (46, 179), (55, 255)]]
  /-- R395: duty in 1/255. reset: FAN_STATUS 0 -/
  duty : Nat := 0
  /-- FAN_STATUS RPM. reset: 0 -/
  rpm : Nat := 0
  /-- R396 FAILED. reset: false -/
  failed : Bool := false
  /-- FAN_STATUS OVERRIDE. reset: 0 -/
  override : Bool := false
  /-- R395 failsafe. reset: false -/
  failsafe : Bool := false
  deriving DecidableEq, Repr

/-- 13_thermal_sled.md R403: a TEMP_MEASURE that waits for its conversions. -/
structure TempJob where
  /-- ring of the command. -/
  ring : Nat
  /-- CID of the command. -/
  cid : Nat
  /-- sensors it still waits for. -/
  left : List Nat
  /-- sensors it named. -/
  named : List Nat
  /-- R389: conversions that ran when the command was recognised, and do not serve it. -/
  skip : List Nat := []
  /-- FAULTS so far. -/
  faults : Nat := 0
  deriving DecidableEq, Repr

/-- 13_thermal_sled.md: temperature, fans, the sideband endpoint and the alert line. Sensor ids: tile t has on-die
diodes 64t to 64t + 3, remote diodes 64t + 4 and 64t + 5, thermistor k of channel c 64t + 8 + 2c + k; the sled
thermistors are 512 to 519. -/
structure Thermal where
  /-- R384: sensors by id; an unlisted sensor has not been converted. reset: none converted -/
  sensors : List (Nat × Sensor) := []
  /-- R395: fans 0 to 3. reset: default fan record -/
  fans : Vector Fan 4 := Vector.replicate 4 {}
  /-- R403: TEMP_MEASURE commands that wait. reset: none -/
  jobs : List TempJob := []
  /-- R389: the conversion that each converter runs, with its priority: tiles 0 to 7, 15 the active island. reset: none -/
  converting : List (Nat × (Nat × Nat)) := []
  /-- R400: sensor reads with rearm that wait: PLDM sensor id, the thermal sensors it reads, and the conversions of them that ran before. reset:
  none -/
  rearm : List (Nat × (List Nat × List Nat)) := []
  /-- R402: (THM_ALERT AND THM_ALERT_MASK) is not 0, so BMC_ALERT_N is low. reset: false -/
  alertLow : Bool := false
  /-- R398: dynamic address. reset: none assigned -/
  dynAddr : Option Nat := none
  /-- R520: static address 0x30 + I3C_SA. reset: DESIGN CHOICE 0x30, straps low -/
  staticAddr : Nat := 0x30
  /-- R520: XTAL_BYP strap. reset: DESIGN CHOICE false, strap low -/
  xtalByp : Bool := false
  /-- R399: endpoint ID; 0 is unassigned. reset: 0 -/
  eid : Nat := 0
  deriving DecidableEq, Repr

end Sys2Proof.Machine
end

