-- ==== Sys2Proof/Machine/StData.lean ====
section
/-! DEFINITION. Machine/StData.lean: requests, mesh messages, frames, pages, map entries, commits and copy batches: the
data that the tiles of 01_architecture.md work on, as plain data. -/

namespace Sys2Proof.Machine

/-- 02_host_ports.md R53: kinds of CXL.mem request; MemInv and MemInvNT (`inv`) are completed at the head. -/
inductive ReqKind where
  | rd | wr | ptl | inv
  deriving DecidableEq, Repr

/-- 02_host_ports.md R49, R53, R55: what a request is found to be when its head receives it. -/
inductive ReqWay where
  /-- an access to a line -/
  | line
  /-- R55, R66: refused -/
  | refuse
  /-- R49, R52: no decoder or extent backs it: cause of its record, and the address recorded -/
  | unbacked (cause addr : Nat)
  deriving DecidableEq, Repr

/-- 03_transactions.md R72: a request as its tracker entry holds it. -/
structure Req where
  /-- the model's own: number of the tracker entry. -/
  id : Nat
  /-- R71: receiving head. -/
  head : Nat
  /-- R75: tag. -/
  tag : Nat
  /-- R72: LD. -/
  ld : Nat
  /-- R72: package DPA of the line. -/
  dpa : Nat
  /-- R72: owning tile. -/
  owner : Nat
  /-- R72: type. -/
  kind : ReqKind
  /-- R53: write data; it passes to the owning tile with the request. -/
  data : Line := 0
  /-- R72: byte enables. -/
  be : Nat := 2 ^ 64 - 1
  /-- R56: the write data is poisoned. -/
  poison : Bool := false
  /-- R49, R53, R55: what it was found to be. -/
  way : ReqWay := .line
  /-- R54: its MetaField was set. -/
  metaField : Bool := false
  /-- R81: the request waited, so that no bound applies to it. -/
  waited : Bool := false
  /-- R98: TIMEOUT_MS at allocation. -/
  timeoutMs : Nat := 5
  /-- R82, R86: row of the bounds table that the read's path gives it, from 1. -/
  cse : Nat := 0
  /-- R82: its bound in ns. -/
  bound : Nat := 0
  /-- 05_front_store.md R163: ns by which its bound is longer. -/
  extraNs : Nat := 0
  deriving DecidableEq, Repr

/-- 08_integrity.md R270: a Cupola delta message. -/
structure Delta where
  /-- R270: tile that sends it. -/
  src : Nat
  /-- R270 PARITY_LOCAL. -/
  parLocal : Nat
  /-- R270 MEMBER. -/
  member : Nat
  /-- R270 JPOS. -/
  jpos : Nat
  /-- R270 RESENT. -/
  resent : Bool
  /-- R270 LINE_MASK and DATA: old XOR new by line. -/
  lines : List (Nat × Line)
  /-- local segment of the member, which the answer names. -/
  seg : Nat
  deriving DecidableEq, Repr

/-- 08_integrity.md R271: answers to a delta. -/
inductive AckKind where
  | applied | duplicate | busy
  deriving DecidableEq, Repr

/-- 01_architecture.md R18: what a mesh message carries. -/
inductive MsgBody where
  /-- MEM: a host request -/
  | memReq (r : Req)
  /-- MEM: the answer to a host request: data of a read, poison -/
  | memRsp (id : Nat) (data : Option Line) (poison : Bool)
  /-- PAR: a parity delta -/
  | delta (d : Delta)
  /-- PAR: the answer to a delta, for a member segment -/
  | ack (kind : AckKind) (seg : Nat)
  /-- SYNC: a heartbeat -/
  | heartbeat
  /-- SYNC: Belfry's tick count (R20), the accumulator as it stood at the primary -/
  | tick (acc : Nat)
  /-- SYNC: a shed stage (R358) -/
  | stage (n : Nat)
  /-- SYNC: the fence of a mesh link (R19), by tile and port -/
  | fence (tile port : Nat)
  /-- SYNC: the primary announces that a tile has failed (08_integrity.md R275) -/
  | failed (tile : Nat)
  /-- MGMT: a message between management processors (R15) -/
  | mgmt
  deriving DecidableEq, Repr

/-- 01_architecture.md R18: a mesh message. -/
structure Msg where
  /-- source tile. -/
  src : Nat
  /-- destination tile. -/
  dst : Nat
  /-- content. -/
  body : MsgBody
  /-- 03_transactions.md R76: it was sent on a route that the fence of a link has changed. -/
  old : Bool := false
  deriving DecidableEq, Repr

/-- 03_transactions.md R77, R78, R89: where a recognised request stands. -/
inductive HazSt where
  /-- waits for an earlier request to the same line -/
  | line
  /-- a read of the medium or of a reconstruction runs -/
  | media
  /-- a write waits at the dirty limit (R147) -/
  | dirty
  /-- a write waits for a way of its set (R146) -/
  | way
  /-- a write waits for the commit of its frame (R148); for the next one when it was stored while a commit ran -/
  | through (again : Bool)
  /-- a MemWrPtl waits for its line fill (R142) -/
  | fill
  deriving DecidableEq, Repr

/-- 03_transactions.md R77: a hazard table entry. -/
structure Haz where
  /-- the request. -/
  req : Req
  /-- local segment. -/
  seg : Nat
  /-- line of the segment. -/
  line : Nat
  /-- R78: source it came from: 0 local head, 1 to 3 mesh ports. -/
  src : Nat
  /-- where it stands. -/
  st : HazSt
  deriving DecidableEq, Repr

/-- 05_front_store.md R140: frame states. -/
inductive FState where
  | invalid | filling | clean | dirty | writing | locked
  deriving DecidableEq, Repr

/-- R140: STATE codes. -/
def FState.code : FState → Nat
  | .invalid => 0 | .filling => 1 | .clean => 2 | .dirty => 3 | .writing => 4 | .locked => 5

/-- 05_front_store.md R134, R135, R139: a frame with its tag and metadata line. -/
structure Frame where
  /-- R140: state. -/
  st : FState
  /-- R135 SEGMENT. -/
  seg : Nat
  /-- R135 VALID. -/
  valid : Nat := 0
  /-- R135 DIRTY. -/
  dirty : Nat := 0
  /-- R135 POISON. -/
  poison : Nat := 0
  /-- R135 EPOCH. -/
  epoch : Nat := 0
  /-- R134: the lines; an unlisted line holds zeros. -/
  lines : List (Nat × Line) := []
  /-- R151: the fill that runs covers these lines. -/
  fillMask : Nat := 0
  /-- R143 rows 7 and 10: the fill is a commit fill. -/
  commitFill : Bool := false
  deriving DecidableEq, Repr

/-- 07_translation.md R202: map states. -/
inductive MapSt where
  | never | mapped | discarded | poisoned | frontOnly | relocating | lost
  deriving DecidableEq, Repr

/-- R202: STATE codes. -/
def MapSt.code : MapSt → Nat
  | .never => 0 | .mapped => 1 | .discarded => 2 | .poisoned => 3 | .frontOnly => 4 | .relocating => 5 | .lost => 6

/-- 07_translation.md R201: a map entry. -/
structure MapEnt where
  /-- R202 STATE. -/
  st : MapSt := .never
  /-- R201 LOCATOR. -/
  loc : Nat := 0
  deriving DecidableEq, Repr

/-- 08_integrity.md R253: kinds of page. -/
inductive PageKind where
  | host | copy | journal | checkpoint | btab | calibration
  deriving DecidableEq, Repr

/-- 08_integrity.md R253: KIND codes. -/
def PageKind.code : PageKind → Nat
  | .host => 1 | .copy => 2 | .journal => 3 | .checkpoint => 4 | .btab => 5 | .calibration => 6

/-- 08_integrity.md R253, R255: a programmed page: its header fields and its data lines as they stand on the medium
after decoding (encrypted, or the poison pattern). CRC and parity lines are computed from the rest. -/
structure Page where
  /-- R253 KIND. -/
  kind : PageKind
  /-- R253 SUBJECT. -/
  subject : Nat := 0
  /-- R253 JPOS. -/
  jpos : Nat := 0
  /-- R253 AGE in ms. -/
  age : Nat := 0
  /-- R253 TEMP in °C. -/
  temp : Int := 0
  /-- R253 KEY_INDEX. -/
  key : Nat := 0
  /-- R253 COUNT. -/
  count : Nat := 0
  /-- R253 COPY_B. -/
  copyB : Bool := false
  /-- R253 MEMBER_JPOS, by member. -/
  members : List (Nat × Nat) := []
  /-- R170: data lines 0 to 63; empty on metadata pages, whose content the tile keeps elsewhere. -/
  lines : List Line := []
  /-- R183: the header was programmed. -/
  hdr : Bool := true
  /-- R265 MEDIA_PROGRAM: symbols programmed flipped: line, positions and value as R264 gives. -/
  flips : List (Nat × Nat × Nat) := []
  deriving DecidableEq, Repr

/-- 07_translation.md R209: block states: FREE, RESERVE, NEXT (`named`), OPEN, FULL, COPYING, PENDING, RETIRING, RETIRED, META
(`ring`). -/
inductive BlkSt where
  | free | reserve | named | opened | full | copying | pending | retiring | retired | ring
  deriving DecidableEq, Repr

/-- R209: STATE codes. -/
def BlkSt.code : BlkSt → Nat
  | .free => 0 | .reserve => 1 | .named => 2 | .opened => 3 | .full => 4
  | .copying => 5 | .pending => 6 | .retiring => 7 | .retired => 8 | .ring => 9

/-- 07_translation.md, block table entry; VALID is counted from the map (`validPages`). -/
structure Blk where
  /-- R209 STATE. -/
  st : BlkSt := .free
  /-- FRONTIER: 0 HOST, 1 GC, 2 COLD, 3 metadata. -/
  frontier : Nat := 0
  /-- CLEARS. -/
  clears : Nat := 0
  /-- R212: pages programmed or started, in ascending order. -/
  used : Nat := 0
  /-- R220: position after the last record that made one of its pages invalid. -/
  invAt : Nat := 0
  /-- R214: its SETTLE record is durable. -/
  settled : Bool := false
  /-- R214: position of its RESERVE record. -/
  resAt : Nat := 0
  /-- R539: cause of its retirement. -/
  cause : Nat := 0
  deriving DecidableEq, Repr

/-- 07_translation.md R212: a frontier of a plane. -/
structure Front where
  /-- the OPEN block. -/
  cur : Option Nat := none
  /-- the block that is NEXT, or whose RESERVE record is not durable yet. -/
  next : Option Nat := none
  deriving DecidableEq, Repr

/-- 07_translation.md R232: a journal record. -/
inductive JRec where
  | commit (seg : Nat) (e : MapEnt)
  | move (seg : Nat) (e : MapEnt)
  | discard (seg : Nat)
  | poison (seg : Nat)
  | lost (seg : Nat) (e : MapEnt)
  /-- action 0 RESERVE, 1 SETTLE, 2 RETIRE, 3 CLEARED; frontier; block -/
  | block (action frontier blk : Nat)
  /-- copy B; block table; page index; capture position; locator of the page -/
  | ckpt (copyB btab : Bool) (idx pos loc : Nat)
  /-- kind 0 FORMAT, 1 CLEAN_STOP, 2 RECOVERED, 3 SEALED -/
  | mark (kind : Nat)
  /-- kind 4 STALE: member index, row group -/
  | stale (peer group : Nat)
  deriving DecidableEq, Repr

/-- What a page program is for. -/
inductive Job where
  /-- 01_architecture.md R24: the commit of a frame -/
  | host (frame : Nat)
  /-- 07_translation.md R217: a copy for the batch of a source block -/
  | copy (src seg old : Nat)
  /-- 08_integrity.md R280: repair of a LOST segment -/
  | repair (seg : Nat)
  /-- 08_integrity.md R279: a segment reprogrammed in a rejoin -/
  | rejoin (seg : Nat)
  /-- 07_translation.md R233: a journal page, by its first position -/
  | journal (first : Nat)
  /-- 07_translation.md R235: a checkpoint page -/
  | ckpt (copyB btab : Bool) (idx pos : Nat)
  /-- 06_medium.md R195: a calibration page -/
  | calib (rank : Nat)
  /-- 08_integrity.md R273: the parity page of a Cupola slot, by parity local -/
  | cup (loc : Nat)
  /-- 09_caravan.md R295: the parity page of a Caravan slot, by local segment -/
  | car (seg : Nat)
  /-- 09_caravan.md R302: the parity page of a resynced Caravan stripe -/
  | carResync (seg : Nat)
  /-- 08_integrity.md R281: the parity page of a resynced Cupola stripe -/
  | cupResync (loc : Nat)
  /-- 07_translation.md R205: no program: a segment becomes DISCARDED, or POISONED, once its delta is acknowledged -/
  | drop (poison : Bool)
  /-- 07_translation.md R220: a block clear -/
  | clear
  deriving DecidableEq, Repr

/-- 06_medium.md R181, R188: a program or clear in flight. -/
structure MedOp where
  /-- locator of the page, or of page 0 of the block. -/
  loc : Nat
  /-- what it is for. -/
  job : Job
  /-- the page that is programmed. -/
  page : Option Page := none
  /-- R185: suspended. -/
  susp : Bool := false
  /-- R186: suspensions so far. -/
  susps : Nat := 0
  /-- R186: µs spent suspended for host-serving reads. -/
  suspUs : Nat := 0
  /-- R186: OP_STRETCHED was set for it. -/
  stretched : Bool := false
  deriving DecidableEq, Repr

/-- 06_medium.md R185: where a host-serving read of the medium stands. -/
inductive RdSt where
  | plane | suspend | array
  deriving DecidableEq, Repr

/-- 06_medium.md R181: a READ_LINE that waits or runs for a host read. -/
structure MedRead where
  /-- the request. -/
  id : Nat
  /-- locator of the page. -/
  loc : Nat
  /-- line. -/
  line : Nat
  /-- where it stands. -/
  st : RdSt
  /-- R190: offsets A, B, C of the command. -/
  offs : Int × Int × Int := (0, 0, 0)
  deriving DecidableEq, Repr

/-- 01_architecture.md R24: the steps of a commit. -/
inductive CommitStep where
  /-- step 1: the page is being programmed, or waits for a plane -/
  | program
  /-- 09_caravan.md R306: before step 2, the old content of a LOST segment is read from peers -/
  | old
  /-- step 2: the Cupola acknowledgement is awaited -/
  | cupola
  /-- step 3: Caravan acknowledgements are awaited, by peer -/
  | caravan (peers : List Nat)
  /-- step 4: the record waits for journal space (R234) -/
  | journal
  /-- step 4 is complete -/
  | done
  deriving DecidableEq, Repr

/-- 01_architecture.md R24: a commit that runs. -/
structure Commit where
  /-- what it commits. -/
  job : Job
  /-- local segment. -/
  seg : Nat
  /-- the new page. -/
  page : Page
  /-- its locator, once a plane took it. -/
  loc : Option Nat := none
  /-- step. -/
  step : CommitStep := .program
  /-- R270, R292: old XOR new by line. -/
  delta : List (Nat × Line) := []
  /-- 09_caravan.md R301: it stopped after step 2 in Hold-up. -/
  stopped : Bool := false
  /-- 05_front_store.md R165, R166: its segment was lost while it runs, and becomes POISONED when it ends. -/
  poison : Bool := false
  deriving DecidableEq, Repr

/-- 07_translation.md R217: a copy batch. -/
structure Batch where
  /-- source block; a one-page refresh names its page's block. -/
  src : Nat
  /-- R213: its plane number. -/
  plane : Nat
  /-- target frontier: 1 GC, 2 COLD. -/
  target : Nat
  /-- segments still to copy, with the page each is at. -/
  left : List (Nat × Nat)
  /-- segments copied: segment, source page, copy. -/
  copied : List (Nat × Nat × Nat) := []
  /-- a page is being programmed. -/
  busy : Bool := false
  /-- R263: a one-page refresh, which leaves its block's state alone. -/
  refresh : Bool := false
  /-- R265: line, positions and value that MEDIA_PROGRAM flips in the copy. -/
  flips : List (Nat × Nat × Nat) := []
  deriving DecidableEq, Repr

end Sys2Proof.Machine
end

