-- ==== Sys2Proof/Machine/StFront.lean ====
section
/-! DEFINITION. Machine/StFront.lean: transactions (03_transactions.md), the Front Store (05_front_store.md) and the media
channels (06_medium.md) of one tile as plain data. -/

namespace Sys2Proof.Machine

/-- 03_transactions.md: tracker and hazard table of a tile. -/
structure Txn where
  /-- R71: requests that hold a tracker entry. reset: none -/
  tracker : List Req := []
  /-- R73: requests in the ingress buffer that wait for an entry. reset: none -/
  ingress : List Req := []
  /-- R74: responses that wait for S2M credits: tag, data, poison. reset: none -/
  outQ : List (Req × Option Line × Bool) := []
  /-- R77: hazard table, in the order of recognition. reset: none -/
  haz : List Haz := []
  /-- R77: requests that wait for a hazard entry, with their source. reset: none -/
  hazWait : List (Nat × Req) := []
  /-- R77: source admitted last, 0 local head, 1 to 3 mesh ports. reset: 3, so that the local head comes first -/
  lastSrc : Nat := 3
  /-- R88: the tile throttles moderately. reset: false -/
  throttle : Bool := false
  /-- R77: segment locks held by maintenance operations. reset: none -/
  locks : List Nat := []
  deriving DecidableEq, Repr

/-- 05_front_store.md R157: state of a tile's Front Store. -/
inductive FsMode where
  | enabled | draining | disabled
  deriving DecidableEq, Repr

/-- 05_front_store.md: the Front Store of a tile. -/
structure FrontStore where
  /-- R137: frames by number; an unlisted frame is Invalid. reset: R167 every frame Invalid -/
  frames : List (Nat × Frame) := []
  /-- R139: pseudo-LRU bits by set. reset: R167 clear -/
  plru : List (Nat × Nat) := []
  /-- R149: current epoch. reset: R167 0 -/
  epoch : Nat := 0
  /-- R157: state. reset: R167 enabled -/
  mode : FsMode := .enabled
  /-- R157: frames still to drain. reset: none -/
  drain : List Nat := []
  /-- R157 DRAINED. reset: 0 -/
  drained : Nat := 0
  /-- R157 THROUGH. reset: 0 -/
  through : Nat := 0
  /-- R161: cap in frames. reset: FS_LIMIT_CAP 0x10_0000 -/
  cap : Nat := 0x100000
  /-- R147: measured limit of the tile as the power manager computed it last. reset: R167 0 -/
  measured : Nat := 0
  /-- R164: withdrawn frames. reset: none -/
  withdrawn : List Nat := []
  /-- R164: frames with a hard fault that are committed before their way is withdrawn. reset: none -/
  withdrawWait : List Nat := []
  /-- R168 step 1: frames that were Writing-back on entry into Hold-up and have not completed. reset: none -/
  step1 : List Nat := []
  /-- R164: the seventeenth hard fault; write-through until the next Bring-up. reset: false -/
  forced : Bool := false
  /-- R265: bits flipped in stored tag words, by frame. reset: none -/
  tagFlips : List (Nat × Nat) := []
  /-- R265: symbols flipped in stored lines, by 65 × frame + line, line 64 for the metadata line. reset: none -/
  lineFlips : List (Nat × Nat) := []
  /-- R89: a write waited and no write-free moment has come since. reset: false -/
  waitOn : Bool := false
  /-- R167: GDDR7 is trained and zero-filled. reset: false -/
  ready : Bool := false
  /-- R159: the tile waits to apply WAYS_NEXT. reset: false -/
  waysWait : Bool := false
  deriving DecidableEq, Repr

/-- 06_medium.md R189: drift table of a rank. -/
structure Drift where
  /-- R189: D_A, D_B, D_C in 1/16 step per doubling. -/
  d : List Nat
  /-- R189: C_A, C_B, C_C in 1/16 step per °C. -/
  c : List Int
  deriving DecidableEq, Repr

/-- 06_medium.md: one media channel. -/
structure Channel where
  /-- MED_CH_STATUS CH_STATE: 0 untrained, 1 training, 2 up, 3 failed. reset: 0b00 -/
  st : Nat := 0
  /-- R196: ranks in service, one bit per rank. reset: 0 -/
  ranks : Nat := 0
  /-- R196: fenced ranks. reset: 0 -/
  fenced : Nat := 0
  /-- R196: failed dies by rank, one bit per die. reset: none -/
  dead : List (Nat × Nat) := []
  /-- R197: consecutive wrong SIGNATUREs, by 9 × rank + die. reset: none -/
  sigBad : List (Nat × Nat) := []
  /-- R188: programs and clears in flight. reset: none -/
  ops : List MedOp := []
  /-- R181: host-serving reads, in the order of issue. reset: none -/
  reads : List MedRead := []
  /-- R176: the command issued last, with its rank: the one that a rejection rejects. reset: none -/
  last : Option (Nat × CaCmd) := none
  /-- R176: consecutive rejections of that command. reset: 0 -/
  rejects : Nat := 0
  /-- R178: READ_ID pages 0 and 1 of each die, by 9 × rank + die. reset: none before training -/
  ids : List (Nat × Nat × Nat) := []
  /-- R175: base level in force on each die, the same for its three references, by 9 × rank + die. reset: none before training -/
  bases : List (Nat × Int) := []
  /-- R177: the last STATUS reply of each die, by 9 × rank + die. reset: none -/
  status : List (Nat × Nat) := []
  /-- R177, R184: DONE (bits 3:0) and PLANE_FAIL (bits 7:4) that a die has reported of operations not yet ended, by 9 × rank + die. reset: none -/
  doneSeen : List (Nat × Nat) := []
  /-- R198: reads wait for a CA retrain. reset: false -/
  caWait : Bool := false
  /-- R189: drift tables set by drift calibration, by rank; before it, the factory values of `ids`. reset: none before training -/
  drift : List (Nat × Drift) := []
  /-- R195: ranks on factory coefficients, one bit per rank. reset: 0 -/
  factory : Nat := 0
  /-- MED_CH_CAL CAL_PAGES. reset: 0 -/
  calPages : Nat := 0
  /-- R191: temperature estimate in °C and the time of its conversion in ms. reset: none -/
  temp : Option (Int × Nat) := none
  /-- R191: a stale read was made since the last fresh estimate. reset: false -/
  staleSeen : Bool := false
  /-- R198: estimate at the last read training. reset: none -/
  trainTemp : Option Int := none
  /-- R195: calibration blocks by rank: the active one and the other. reset: none -/
  calBlocks : List (Nat × Nat × Nat) := []
  /-- R195: pages written in the active calibration block of a rank. reset: none -/
  calUsed : List (Nat × Nat) := []
  /-- R195: ranks whose calibration page of this Bring-up was written, one bit per rank. reset: 0 -/
  calBoot : Nat := 0
  /-- R195: by rank, the age clock in ms up to which the pages of every 24 hours were written. reset: none -/
  calAt : List (Nat × Nat) := []
  /-- R193: by rank with a successful fit, the time in ms that fits the ages of its calibration pages best. reset: none -/
  gains : List (Nat × Nat) := []
  /-- R260: locator visited last. reset: none -/
  scrubAt : Option Nat := none
  deriving DecidableEq, Repr

/-- 06_medium.md: the media of a tile. -/
structure Media where
  /-- channels 0 to 7. reset: untrained -/
  chans : Vector Channel 8 := Vector.replicate 8 {}
  /-- R170: programmed pages by locator; an unlisted page is cleared. reset: DESIGN CHOICE every page cleared -/
  pages : List (Nat × Page) := []
  /-- R260: pages of Scan Media ranges still to visit: locator, 16 × head + LD. reset: none -/
  scan : List (Nat × Nat) := []
  deriving DecidableEq, Repr

end Sys2Proof.Machine
end

