-- ==== Sys2Proof/Machine/StXlate.lean ====
section
/-! DEFINITION. Machine/StXlate.lean: Translation (07_translation.md), the integrity engine and Cupola
(08_integrity.md) and the tile part of Caravan (09_caravan.md) as plain data. -/

namespace Sys2Proof.Machine

/-- 07_translation.md R233: a journal page that is being programmed. -/
structure JPage where
  /-- position of its first record. -/
  first : Nat
  /-- records it holds. -/
  count : Nat
  /-- its DONE was recognised. -/
  done : Bool := false
  deriving DecidableEq, Repr

/-- 07_translation.md R206: an STC set: the tags of its 8 ways and its pseudo-LRU bits. R207 keeps every entry equal to
the map's. -/
structure StcSet where
  /-- tag of each way that holds an entry. -/
  ways : List (Option Nat) := List.replicate 8 none
  /-- pseudo-LRU bits. -/
  plru : Nat := 0
  deriving DecidableEq, Repr

/-- 07_translation.md R211, R224: where a ring goes on: its block by order in the ring, and the page of that block. -/
structure RingPos where
  /-- block of the ring. -/
  blk : Nat := 0
  /-- page of the block. -/
  page : Nat := 0
  deriving DecidableEq, Repr

/-- 07_translation.md R235, R236: the checkpoint pages in force for an index: those that the newest durable CKPT records of its copies name. -/
structure CkptEnt where
  /-- capture position of copy A. -/
  posA : Nat := 0
  /-- capture position of copy B. -/
  posB : Nat := 0
  /-- locator of copy A. -/
  locA : Nat := 0
  /-- locator of copy B. -/
  locB : Nat := 0
  deriving DecidableEq, Repr

/-- 07_translation.md: Translation of a tile. -/
structure Xlate where
  /-- R201: map entries by local segment; an unlisted one is NEVER. reset: DESIGN CHOICE an unformatted medium -/
  map : List (Nat × MapEnt) := []
  /-- R237: what checkpoint and journal give each segment at a restore: its entry, and the position of its newest durable record, 0 where a
  checkpoint page alone gives it. reset: none -/
  durable : List (Nat × MapEnt × Nat) := []
  /-- R206: STC sets. reset: empty -/
  stc : List (Nat × StcSet) := []
  /-- R265: STC entries flipped, by segment. reset: none -/
  stcFlips : List (Nat × Nat) := []
  /-- R264, R265: patterns flipped into stored map lines, by line. reset: none -/
  mapFlips : List (Nat × Nat) := []
  /-- MAP_STATE: 0 not restored, 1 restored, 2 rebuilding. reset: 0b00 -/
  mapState : Nat := 0
  /-- R242: next line of a full rebuild. reset: none -/
  rebuildAt : Option Nat := none
  /-- R243: lines fetched on demand ahead of it. reset: none -/
  fetched : List Nat := []
  /-- R242: ms since the rebuild started. reset: 0 -/
  rebuildMs : Nat := 0
  /-- R209: blocks by number (bits 28:8 of a locator) that differ from the layout of `blkDefault`. reset: none -/
  blocks : List (Nat × Blk) := []
  /-- R212: frontiers, by 3 × plane number + frontier. reset: none -/
  fronts : List (Nat × Front) := []
  /-- R213: plane number used last. reset: 0 -/
  lastPlane : Nat := 0
  /-- R210 SPARE. reset: XL_SPARE 0 -/
  spare : Nat := 0
  /-- R210 SPARE_0; 0 means that the tile was never formatted. reset: XL_SPARE_INIT 0 -/
  spare0 : Nat := 0
  /-- R241: the journal holds a page with a valid header. reset: DESIGN CHOICE false, new media -/
  formatted : Bool := false
  /-- R232: journal append position. reset: 0 -/
  jpos : Nat := 0
  /-- R233: position up to which pages have been started. reset: 0 -/
  jsent : Nat := 0
  /-- R233: position after the last durable record. reset: 0 -/
  jdur : Nat := 0
  /-- R232: records from `jdur` on, oldest first. reset: none -/
  jtail : List JRec := []
  /-- R233: pages being programmed, oldest first. reset: none -/
  jpages : List JPage := []
  /-- R233: a record in staging must become durable at once. reset: false -/
  jurgent : Bool := false
  /-- R237: the newest durable record is a MARK with kind CLEAN_STOP. reset: false -/
  cleanStop : Bool := false
  /-- R235: pages the checkpoint writer has captured; the next index is this number modulo the indices of a round. reset: 0 -/
  ckptNo : Nat := 0
  /-- R211: where the rings go on: 0 map copy A, 1 map copy B, 2 block table copy A, 3 block table copy B, 4 journal. reset: at their first page -/
  rings : List (Nat × RingPos) := []
  /-- R224: blocks that took the place of failed ring blocks, by ring block. reset: none -/
  ringSub : List (Nat × Nat) := []
  /-- R213: programs of metadata pages that wait for their plane, oldest first. reset: none -/
  metaWait : List MedOp := []
  /-- R241: a format has written a full checkpoint; it is in force for the indices that `ckpt` does not list. reset: false -/
  ckptFull : Bool := false
  /-- R235: checkpoint pages in force, by index of the writer's round (map pages, then block-table pages). reset: none -/
  ckpt : List (Nat × CkptEnt) := []
  /-- R234: STALE records whose bit was not committed in CAR_STALE when they were appended: position, peer, row group. reset: none -/
  stalePos : List (Nat × Nat × Nat) := []
  /-- R217: batches that run. reset: none -/
  batches : List Batch := []
  /-- R216: planes whose GC is active. reset: none -/
  gcActive : List Nat := []
  /-- R24: commits that run. reset: none -/
  commits : List Commit := []
  /-- 05_front_store.md R165, R166: segments whose commit ended and that become POISONED next. reset: none -/
  poisonWait : List Nat := []
  /-- R221: GB_XL_SPREAD_HIGH was recorded and the spread has not fallen back. reset: false -/
  spreadHigh : Bool := false
  /-- R229: the level of the last warning, 0 to 4. reset: 0 -/
  spareLevel : Nat := 0
  /-- R245: pages programmed, and host segments committed, for WAF. reset: 0 -/
  progs : Nat := 0
  /-- R245: host segments committed. reset: 0 -/
  hostSegs : Nat := 0
  /-- R280: fenced ranks to walk, channel × 4 + rank, with the next local. reset: none -/
  walks : List (Nat × Nat) := []
  /-- R229: emergency compaction waits for, or holds, the bulk-copy window. reset: 0 none, 1 waits, 2 holds -/
  compaction : Nat := 0
  deriving DecidableEq, Repr

/-- 08_integrity.md R262: a refresh queue entry. -/
structure Refresh where
  /-- the page. -/
  loc : Nat
  /-- 0 normal, 1 high, 2 urgent. -/
  prio : Nat
  /-- write age in ms when it was queued. -/
  age : Nat
  /-- R259: it waits after a success at step 3. -/
  step3 : Bool := false
  deriving DecidableEq, Repr

/-- 08_integrity.md R265: an armed injection. -/
structure Inject where
  /-- false MEDIA_READ, true MARGIN. -/
  margin : Bool
  /-- locator. -/
  loc : Nat
  /-- line. -/
  line : Nat
  /-- R264: positions and flip value. -/
  mask : Nat
  /-- R264 FLIP_VALUE. -/
  value : Nat
  /-- counts left. -/
  left : Nat
  deriving DecidableEq, Repr

/-- 08_integrity.md: the integrity engine of a tile. -/
structure Integ where
  /-- R263: the refresh queue, oldest first. reset: empty -/
  queue : List Refresh := []
  /-- R265: armed injections. reset: none -/
  armed : List Inject := []
  /-- R283: words of GET_ERROR_STATS by word number; LOST is counted. reset: 0 -/
  stats : List (Nat × Nat) := []
  /-- R261: marginal pages of this pass. reset: 0 -/
  marginal : Nat := 0
  /-- R261: the threshold was reported in this pass. reset: false -/
  reported : Bool := false
  /-- INT_SCRUB PASS_CNT. reset: 0 -/
  passes : Nat := 0
  /-- R260: channels whose visit order wrapped in this pass. reset: 0 -/
  wrapped : Nat := 0
  deriving DecidableEq, Repr

/-- 08_integrity.md R271, R276: a Cupola slot. -/
structure Slot where
  /-- R271: pending deltas by line. -/
  lines : List (Nat × Line) := []
  /-- R271: JPOS applied by member. -/
  jpos : List (Nat × Nat) := []
  /-- R276: lines written since adoption, with their poison. -/
  adopted : List (Nat × Line × Bool) := []
  /-- R276: the slot holds adopted lines of this local segment of the failed tile. -/
  adoptSeg : Option Nat := none
  /-- R271: order in which slots were taken. -/
  seq : Nat := 0
  /-- R273: the slot is being flushed. -/
  flushing : Bool := false
  deriving DecidableEq, Repr

/-- 08_integrity.md: Cupola on one tile. -/
structure CupTile where
  /-- R271: slots by parity local, oldest first within one local. reset: none -/
  slots : List (Nat × Slot) := []
  /-- R271: order number of the next slot. reset: 0 -/
  seq : Nat := 0
  /-- R271: deltas held for want of a slot. reset: none -/
  held : List Delta := []
  /-- R18: PAR messages that arrived, oldest first. reset: none -/
  inbox : List Msg := []
  /-- R270, R272: deltas sent and not answered, by member segment: parity tile, and ACK_MS as it was when the delta was sent. reset: none -/
  sent : List (Nat × Nat × Nat) := []
  deriving DecidableEq, Repr

/-- 09_caravan.md R293: a Caravan slot. -/
structure CarSlot where
  /-- local segment of the parity. -/
  seg : Nat
  /-- stripe number. -/
  stripe : Nat
  /-- the slot holds Q. -/
  isQ : Bool
  /-- pending deltas by line. -/
  lines : List (Nat × Line) := []
  /-- R293: unsettled entries: member, JPOS. -/
  entries : List (Nat × Nat) := []
  /-- R293: settled entries: member, JPOS. -/
  settledE : List (Nat × Nat) := []
  /-- R295: the slot is being flushed. -/
  flushing : Bool := false
  deriving DecidableEq, Repr

/-- 09_caravan.md R289: a delta of a peer that is held. -/
structure CarHeld where
  /-- sending member index. -/
  peer : Nat
  /-- SEQ of its message. -/
  seq : Nat
  /-- stripe. -/
  stripe : Nat
  /-- addressed to the Q holder. -/
  isQ : Bool
  /-- data member index m. -/
  member : Nat
  /-- JPOS. -/
  jpos : Nat
  /-- lines. -/
  lines : List (Nat × Line)
  /-- new lines of a resent delta. -/
  new : List (Nat × Line) := []
  deriving DecidableEq, Repr

/-- 09_caravan.md: Caravan on one tile. -/
structure CarTile where
  /-- R293: slots, oldest first. reset: none -/
  slots : List CarSlot := []
  /-- R293: deltas held. reset: none -/
  held : List CarHeld := []
  deriving DecidableEq, Repr

end Sys2Proof.Machine
end

