-- ==== Sys2Proof/Machine/StHost.lean ====
section
/-! DEFINITION. Machine/StHost.lean: heads, logical devices and capacity (02_host_ports.md), Cupola and Caravan of the
package (08_integrity.md, 09_caravan.md) as plain data. -/

namespace Sys2Proof.Machine

/-- 02_host_ports.md R62, 16_security.md R466: an IDE stream of a head; stream 0 is CXL.mem, 1 to 4 are selective. -/
structure IdeStream where
  /-- R466: key sets programmed, bit 2 × set + direction (0 receive, 1 transmit). reset: none -/
  sets : Nat := 0
  /-- R466: key set in use per direction, receive then transmit. reset: none -/
  rx : Option Nat := none
  /-- key set in use for transmission. reset: none -/
  tx : Option Nat := none
  /-- R466: the new receive set, accepted beside the old one until its first flit. reset: none -/
  rxNew : Option Nat := none
  /-- R62: the stream is in the insecure state after a failed check. reset: false -/
  insecure : Bool := false
  deriving DecidableEq, Repr

/-- 14_command_rings.md R420, 03_transactions.md R96: a non-posted request a head has sent. -/
structure Outbound where
  /-- ring it serves. -/
  ring : Nat
  /-- CID of the command whose buffer it reads; none for a descriptor fetch. -/
  cid : Option Nat
  /-- descriptors asked for. -/
  count : Nat := 0
  deriving DecidableEq, Repr

/-- 02_host_ports.md: a head. -/
structure Head where
  /-- HEAD_LINK_STATUS LINK_UP. reset: 0 -/
  up : Bool := false
  /-- R69: link training runs. reset: false -/
  training : Bool := false
  /-- R69: HEAD_LINK_CTL bits 7:0 as they stood when the training that runs started. reset: 0 -/
  trainCtl : Nat := 0
  /-- CUR_SPEED. reset: 0 -/
  speed : Nat := 0
  /-- CUR_WIDTH. reset: 0 -/
  width : Nat := 0
  /-- FLIT256. reset: 0 -/
  flit256 : Bool := false
  /-- CXL. reset: 0 -/
  cxl : Bool := false
  /-- MLD. reset: 0 -/
  mld : Bool := false
  /-- LD_COUNT. reset: 0 -/
  ldCount : Nat := 0
  /-- BONDED. reset: 0 -/
  bonded : Bool := false
  /-- BOND_UPPER. reset: 0 -/
  upper : Bool := false
  /-- LANE_REVERSED. reset: 0 -/
  reversed : Bool := false
  /-- POLARITY_INV. reset: 0 -/
  polarity : Nat := 0
  /-- R308: Bus Master Enable. reset: DESIGN CHOICE true, set by the fabric -/
  busMaster : Bool := true
  /-- R96: upper limit of the Completion Timeout range in µs. reset: R96 50,000, the default range -/
  ctoUs : Nat := 50000
  /-- R74: S2M NDR credits; none is infinite. reset: none granted, 0 -/
  ndr : Option Nat := some 0
  /-- R74: S2M DRS credits. reset: none granted, 0 -/
  drs : Option Nat := some 0
  /-- R73: Req credits the host holds. reset: 0 before link initialisation -/
  reqCredits : Nat := 0
  /-- R73: RwD credits the host holds. reset: 0 before link initialisation -/
  rwdCredits : Nat := 0
  /-- R88: RwD credits that wait to be returned at the paced rate. reset: 0 -/
  rwdPaced : Nat := 0
  /-- R58: writes that hold back the acknowledgement of GPF Phase 2. reset: none -/
  gpf : Option (List Nat) := none
  /-- R62: IDE streams 0 to 4. reset: no keys -/
  ide : Vector IdeStream 5 := Vector.replicate 5 {}
  /-- R63: SPDM version negotiated, 0x11 or 0x12. reset: none -/
  spdm : Nat := 0
  /-- R63: the requester selected the XMSS^MT key. reset: false -/
  spdmAlg : Bool := false
  /-- R466: a session set up by KEY_EXCHANGE stands. reset: false -/
  session : Bool := false
  /-- R96: non-posted requests in flight. reset: none -/
  outbound : List Outbound := []
  /-- R41: QoS Control of the head: backpressure, congestion and telemetry fields as written. reset: DESIGN CHOICE zeros -/
  qosCtl : List Nat := List.replicate 7 0
  /-- R68: average DevLoad of the last window, in 1/256. reset: 0 -/
  devLoadAvg : Nat := 0
  /-- R87: DevLoad values placed in responses of the running window: count and sum. reset: 0 -/
  devLoadAcc : Nat × Nat := (0, 0)
  deriving DecidableEq, Repr

/-- 02_host_ports.md R50, R51: an HDM decoder. -/
structure Hdm where
  /-- HPA base in units of 256 MiB. -/
  base : Nat := 0
  /-- HPA size in units of 256 MiB. -/
  size : Nat := 0
  /-- log2 of the ways. -/
  ways : Nat := 0
  /-- log2 of the granularity in bytes. -/
  gran : Nat := 8
  /-- DPA Skip in units of 256 MiB. -/
  skip : Nat := 0
  /-- target position. -/
  target : Nat := 0
  /-- Committed. -/
  committed : Bool := false
  /-- Error Not Committed. -/
  error : Bool := false
  /-- Lock On Commit. -/
  locked : Bool := false
  deriving DecidableEq, Repr

/-- 02_host_ports.md R67: a CXL event record: 0 General Media, 1 Memory Module, 2 Dynamic Capacity; its cause by row of
the event table; a DPA or other detail. -/
structure EvtRec where
  /-- record. -/
  kind : Nat
  /-- cause. -/
  cause : Nat
  /-- DPA, level or extent. -/
  info : Nat
  deriving DecidableEq, Repr

/-- 02_host_ports.md R65: an event log of an LD. -/
structure EvtLog where
  /-- records, oldest first, at most 64. -/
  recs : List EvtRec := []
  /-- R67: the overflow flag is set. -/
  overflow : Bool := false
  /-- R67: records not stored. -/
  lost : Nat := 0
  /-- interrupt settings. -/
  policy : Nat := 0
  deriving DecidableEq, Repr

/-- 02_host_ports.md R57, R65: background operations of an LD. -/
inductive Background where
  /-- Scan Media: pages of its range -/
  | scan (pages : Nat)
  /-- Secure Erase, Sanitize: R464 step, 1 to 3, and the segments that wait -/
  | erase (sanitize : Bool) (step slot : Nat)
  deriving DecidableEq, Repr

/-- 02_host_ports.md: a logical device, by 16 × head + LD. -/
structure LDev where
  /-- R50: its HDM decoders. reset: none committed -/
  hdm : Vector Hdm 8 := Vector.replicate 8 {}
  /-- R65: logs Informational, Warning, Failure, Fatal. reset: empty -/
  logs : Vector EvtLog 4 := Vector.replicate 4 {}
  /-- R65: timestamp as set, in ns, and the operating time at the setting. reset: 0 -/
  timestamp : Nat × Nat := (0, 0)
  /-- R65: alert configuration as written. reset: DESIGN CHOICE zeros -/
  alerts : List Nat := List.replicate 8 0
  /-- R59: shutdown state as set by the host. reset: DESIGN CHOICE 0, clean -/
  shutdown : Nat := 0
  /-- R57: DPAs of lines found by the last Scan Media. reset: none -/
  scanFound : List Nat := []
  /-- R65: the background operation. reset: none -/
  bg : Option Background := none
  /-- R65: opcode and return code of the background operation that ended last; 0 none. reset: none -/
  bgLast : Nat × Nat := (0, 0)
  /-- R66: CXL.mem of the LD is refused while an erase runs. reset: false -/
  refused : Bool := false
  /-- R461: its key slot; 0 none. reset: 0 -/
  key : Nat := 0
  /-- R68: Allocated BW in 1/256. reset: DESIGN CHOICE 0 -/
  bwAlloc : Nat := 0
  /-- R68: BW Limit in 1/256; 0 is none. reset: DESIGN CHOICE 0 -/
  bwLimit : Nat := 0
  /-- R68: lines moved in the running window. reset: 0 -/
  bwUsed : Nat := 0
  deriving DecidableEq, Repr

/-- 02_host_ports.md, 17_guestbook_parameter_store.md R488: an entry of the LD block table; an unlisted block is free. -/
structure BlockEnt where
  /-- LD_ALLOC KIND: 1 held by one LD, 2 sharable, 3 releasing. -/
  kind : Nat
  /-- 16 × head + LD. -/
  ld : Nat := 0
  /-- DC region 0 to 7, 15 static. -/
  region : Nat := 15
  /-- LD block. -/
  ldBlk : Nat := 0
  deriving DecidableEq, Repr

/-- R488: a DC_SHARE entry. -/
structure Share where
  /-- package block. -/
  blk : Nat
  /-- 16 × head + LD. -/
  ld : Nat
  /-- DC region of the holder. -/
  region : Nat
  /-- LD block of the holder. -/
  ldBlk : Nat
  /-- R66: the holder has run Secure Erase or Sanitize since it obtained the block. -/
  erased : Bool := false
  deriving DecidableEq, Repr

/-- R488: a DC region. -/
structure Region where
  /-- base in blocks. -/
  base : Nat := 0
  /-- length in blocks. -/
  len : Nat := 0
  /-- configured. -/
  conf : Bool := false
  /-- R46: sharable. -/
  share : Bool := false
  /-- R461: key slot of a sharable region. -/
  key : Nat := 0
  deriving DecidableEq, Repr

/-- 02_host_ports.md R44: an extent an LD holds. -/
structure Extent where
  /-- 16 × head + LD. -/
  ld : Nat
  /-- DC region. -/
  region : Nat
  /-- first LD block. -/
  start : Nat
  /-- blocks. -/
  len : Nat
  /-- R65: the host accepted it with Add Dynamic Capacity Response. -/
  accepted : Bool := true
  deriving DecidableEq, Repr

/-- 02_host_ports.md R47: a release in progress. -/
structure Release where
  /-- 16 × head + LD. -/
  ld : Nat
  /-- DC region, 15 static. -/
  region : Nat
  /-- first LD block. -/
  start : Nat
  /-- package blocks, in LD order. -/
  blks : List Nat
  /-- the fabric manager forced it. -/
  forced : Bool
  deriving DecidableEq, Repr

/-- 02_host_ports.md R48: an add that waits for releasing blocks. -/
structure WaitAdd where
  /-- 16 × head + LD. -/
  ld : Nat
  /-- DC region. -/
  region : Nat
  /-- add policy: 0 Free, 1 Contiguous, 2 Prescriptive, 3 Enable Shared Access. -/
  policy : Nat
  /-- blocks asked for. -/
  len : Nat
  /-- first package block of a Prescriptive or shared add. -/
  start : Nat
  /-- head through which the fabric manager asked. -/
  via : Nat
  deriving DecidableEq, Repr

/-- 02_host_ports.md: capacity and logical devices of the package. -/
structure Capacity where
  /-- LD block table, by package block. reset: every block free -/
  table : List (Nat × BlockEnt) := []
  /-- R488: DC_SHARE entries. reset: none -/
  shares : List Share := []
  /-- R488: regions by 8 × (16 × head + LD) + region. reset: none -/
  regions : List (Nat × Region) := []
  /-- R44: extents. reset: none -/
  extents : List Extent := []
  /-- R47: releases in progress. reset: none -/
  releases : List Release := []
  /-- R48: adds that wait, in order. reset: none -/
  waiting : List WaitAdd := []
  /-- LDs by 16 × head + LD; an unlisted LD is as a fresh one. reset: none -/
  lds : List (Nat × LDev) := []
  deriving DecidableEq, Repr

/-- 08_integrity.md: Cupola of the package. -/
structure Cupola where
  /-- R267 G. reset: CUP_STATUS 0 -/
  regions : Nat := 0
  /-- R281: stripes awaiting resync from this linear number (q × tiles + p) on. reset: none -/
  unsyncedFrom : Option Nat := none
  /-- R269, R276: single stripes that are unsynced, as q × tiles + p. reset: none -/
  unsynced : List Nat := []
  /-- CUP_STATUS WORK: 0 none, 1 repair, 2 resync, 3 rejoin. reset: 0 -/
  work : Nat := 0
  /-- R279: a tile that rejoins, with its next local; then its parity is resynced. reset: none -/
  rejoin : Option (Nat × Nat) := none
  /-- R279: segments programmed by the rejoin. reset: 0 -/
  rejoined : Nat := 0
  /-- R27 class 4: owner of the bulk-copy window of each tile: 1 Cupola rebuild, 2 Caravan rebuild, 3 emergency compaction; unlisted is
  none. reset: none -/
  windows : List (Nat × Nat) := []
  deriving DecidableEq, Repr

/-- 09_caravan.md: member states. -/
inductive PeerSt where
  | active | departed | failed | replaced
  deriving DecidableEq, Repr

/-- Member state codes. -/
def PeerSt.code : PeerSt → Nat
  | .active => 0 | .departed => 1 | .failed => 2 | .replaced => 3

/-- 09_caravan.md R290, R297, R299: a peer. -/
structure Peer where
  /-- member index. -/
  idx : Nat
  /-- R309: pool identifier. -/
  pool : Nat := 0
  /-- R289: its BAR2 bases. -/
  bars : List Nat := []
  /-- R289: the base used: 0 or 1. -/
  bar : Nat := 0
  /-- R297: state. -/
  st : PeerSt := .departed
  /-- R465: boot count of its latest HELLO. -/
  boot : Nat := 0
  /-- R291: next SEQ sent to it. -/
  seqTx : Nat := 0
  /-- R291: messages of it that are complete: SEQ and the status answered. -/
  seen : List (Nat × Nat) := []
  /-- R299: row groups stale for it. -/
  stale : List Nat := []
  /-- R300: row groups whose stale bit is durable. -/
  staleDur : List Nat := []
  /-- R302: HELLO was sent and not answered. -/
  helloWait : Bool := false
  /-- R302: a HELLO is to be sent to it. -/
  helloDue : Bool := false
  /-- R302: that HELLO answers one of its own. -/
  helloAns : Bool := false
  /-- R305: a spare takes its index and rebuilds. -/
  spare : Bool := false
  /-- R305: a spare took its index. -/
  taken : Bool := false
  /-- R307: bases of the package that held the index before. -/
  oldBars : List Nat := []
  /-- R307: that package is to be told that it is REPLACED. -/
  helloOld : Bool := false
  /-- R302: SEQ of the STALE_MAP it sent. -/
  mapSeq : Option Nat := none
  /-- R302: ALLOC entries of its last message. -/
  alloc : List (List Nat) := []
  /-- R290: fragments of messages that are not whole yet: SEQ, fragment, last fragment, lines. -/
  parts : List (Nat × Nat × Bool × List Line) := []
  deriving DecidableEq, Repr

/-- 09_caravan.md R294: a message that is not answered. -/
structure CarMsg where
  /-- receiver. -/
  peer : Nat
  /-- SEQ. -/
  seq : Nat
  /-- frame type. -/
  type : Nat
  /-- stripe. -/
  stripe : Nat
  /-- addressed to the Q holder. -/
  isQ : Bool := false
  /-- R289 RESENT. -/
  resent : Bool := false
  /-- data member index m. -/
  member : Nat := 0
  /-- JPOS. -/
  jpos : Nat := 0
  /-- lines. -/
  lines : List (Nat × Line) := []
  /-- tile and local segment of the commit it serves. -/
  tile : Nat := 0
  /-- local segment. -/
  seg : Nat := 0
  /-- R310: CAR_ACK_MS as it was when the message was sent. -/
  ackMs : Nat := 3
  deriving DecidableEq, Repr

/-- 09_caravan.md R303: what a reconstruction or resync read is for. -/
inductive CarUse where
  /-- a host read: tile, request -/
  | host (tile id line : Nat)
  /-- R296: verification of a resent delta -/
  | verify (d : CarHeld)
  /-- R280, R306: repair of a LOST segment -/
  | repair (tile seg : Nat)
  /-- 05_front_store.md R151: lines that a fill of a frame takes from peers -/
  | fill (tile frame : Nat)
  /-- R306: old content of a LOST segment for a commit's delta -/
  | old (tile seg : Nat)
  /-- R302: resync of a stripe whose parity this package holds -/
  | resync (tile seg : Nat)
  deriving DecidableEq, Repr

/-- 09_caravan.md R290 READ_RSP: what a member answered. -/
structure CarAnswer where
  /-- member index. -/
  peer : Nat
  /-- lines of its mapped page. -/
  lines : List (Nat × Line)
  /-- JPOS of its new page, while a commit stands between steps 1 and 4. -/
  newPos : Option Nat := none
  /-- lines of the new page. -/
  newLines : List (Nat × Line) := []
  deriving DecidableEq, Repr

/-- 09_caravan.md R303: reads of peers in progress. -/
structure CarRead where
  /-- what it is for. -/
  use : CarUse
  /-- stripe. -/
  stripe : Nat
  /-- lines asked for. -/
  mask : Nat
  /-- peers still to answer, with the SEQ of each request. -/
  left : List (Nat × Nat)
  /-- answers: peer, mapped lines, JPOS of a new page and its lines. -/
  got : List CarAnswer := []
  /-- ledger of the holder: member index, JPOS. -/
  ledger : List (Nat × Nat) := []
  /-- parity lines of P and Q as answered. -/
  parity : List (Bool × List (Nat × Line)) := []
  /-- R310: CAR_ACK_MS as it was when READ_REQ was sent. -/
  ackMs : Nat := 3
  deriving DecidableEq, Repr

/-- 09_caravan.md: Caravan of the package. -/
structure Caravan where
  /-- CAR_STATUS IN_GROUP. reset: 0 -/
  inGroup : Bool := false
  /-- GROUP. reset: 0 -/
  group : Nat := 0
  /-- R285 CODE: RS. reset: 0 -/
  rs : Bool := false
  /-- N. reset: 0 -/
  n : Nat := 0
  /-- MEMBER. reset: 0 -/
  member : Nat := 0
  /-- ROLE: 0 member, 1 spare, 2 replacing. reset: 0 -/
  role : Nat := 0
  /-- R286 BASE. reset: 0 -/
  base : Nat := 0
  /-- R286 E. reset: 0 -/
  blocks : Nat := 0
  /-- R290 CAR_HEADS. reset: 0 -/
  heads : Nat := 0
  /-- R465: handle of the group secret. reset: 0 -/
  handle : Nat := 0
  /-- peers. reset: none -/
  peers : List Peer := []
  /-- R294: messages not answered. reset: none -/
  msgs : List CarMsg := []
  /-- R303: reads in progress. reset: none -/
  reads : List CarRead := []
  /-- R295: SETTLE entries gathered: peer, stripe, JPOS, member, role. reset: none -/
  settle : List (Nat × Nat × Nat × Nat × Nat) := []
  /-- WORK: 0 none, 1 resync, 2 rebuild. reset: 0 -/
  work : Nat := 0
  /-- R309: the work was stopped. reset: false -/
  stopped : Bool := false
  /-- R302: row groups to resync. reset: none -/
  resync : List Nat := []
  /-- R302: stripe that is locked. reset: none -/
  lock : Option Nat := none
  /-- R302: next stripe of the first row group; R306: next stripe to rebuild. reset: 0 -/
  resyncNext : Nat := 0
  /-- R305: index the spare takes. reset: 0 -/
  target : Nat := 0
  /-- R305: this package took its index from a member. reset: false -/
  took : Bool := false
  /-- R296: deltas being verified. reset: none -/
  verify : List CarHeld := []
  /-- R309: CARAVAN_JOIN that waits for HELLO answers: ring, CID. reset: none -/
  join : Option (Nat × Nat) := none
  deriving DecidableEq, Repr

/-- 05_front_store.md R154, R155, 07_translation.md R227: a range command that waits for segments. -/
structure RangeJob where
  /-- ring of the command. -/
  ring : Nat
  /-- CID. -/
  cid : Nat
  /-- 0 flush, 1 invalidate, 2 discard, 3 secure discard, 4 release of blocks, 5 erase of a key replacement (its CID is the
  new slot), 6 the same with overwriting. -/
  kind : Nat
  /-- segments that wait: tile, segment, and a count: commits needed (0; none yet where the command has not reached it), commits seen (1), acted
  on (others). -/
  left : List (Nat × Nat × Nat)
  /-- frames or segments of the range when it started. -/
  size : Nat := 0
  /-- journal positions that must become durable: tile, position. -/
  durable : List (Nat × Nat) := []
  /-- COMMITTED or DISCARDED. -/
  a : Nat := 0
  /-- INVALIDATED or CLEARED. -/
  b : Nat := 0
  /-- RETAINED, by tile. -/
  kept : List (Nat × Nat) := []
  /-- 05_front_store.md R155: the frame retained last, by tile. -/
  keptFrame : List (Nat × Nat) := []
  /-- 05_front_store.md R144: it takes its segments one at a time. -/
  inTurn : Bool := true
  /-- package segments of the range: first and count. -/
  spans : List (Nat × Nat) := []
  /-- 07_translation.md R228: the scan was made. -/
  scanned : Bool := false
  /-- 07_translation.md R228: blocks still to clear: tile, block. -/
  blks : List (Nat × Nat) := []
  deriving DecidableEq, Repr

/-- Front Store and Translation of the package. -/
structure Jobs where
  /-- FS_STATUS WAYS. reset: 0b10 -/
  ways : Nat := 2
  /-- FS_STATUS WAYS_NEXT. reset: 0b10 -/
  waysNext : Nat := 2
  /-- range commands that run. reset: none -/
  ranges : List RangeJob := []
  /-- R157: the FS_DISABLE that drains: ring, CID. reset: none -/
  fsDisable : Option (Nat × Nat) := none
  /-- R159: the FS_ENABLE that waits for WAYS_NEXT: ring, CID. reset: none -/
  fsEnable : Option (Nat × Nat) := none
  /-- R244: MAP_CHECKPOINT that runs: ring, CID, positions to reach by tile, pages so far. reset: none -/
  ckpt : Option (Nat × Nat × List (Nat × Nat) × Nat) := none
  /-- 10_modes.md R540: the shutdown checkpoint runs, with positions to reach by tile. reset: none -/
  shutdownCkpt : List (Nat × Nat) := []
  /-- R244: RETIRE_BLOCK commands that move pages: ring, CID, tile, block, pages. reset: none -/
  retire : List (Nat × Nat × Nat × Nat × Nat) := []
  /-- SPDM_KM and other numbers: next number of a tracker entry. reset: 0 -/
  nextId : Nat := 0
  /-- 01_architecture.md R18: messages on the mesh by 16 × tile + 4 × port + class, on their way to that tile and port. reset: none -/
  links : List (Nat × List Msg) := []
  /-- 03_transactions.md R76: new MEM messages that their source tile holds back, oldest first. reset: none -/
  heldBack : List Msg := []
  /-- 01_architecture.md R18: messages of other classes that a port has carried since PAR and since MGMT were served while one of theirs
  waited, by 4 × tile + port: (PAR, MGMT). reset: none -/
  shares : List (Nat × Nat × Nat) := []
  deriving DecidableEq, Repr

end Sys2Proof.Machine
end

