-- ==== Sys2Proof/Machine/StSec.lean ====
section
/-! DEFINITION. Machine/StSec.lean: security and life cycle (16_security.md) as plain data. -/

namespace Sys2Proof.Machine

/-- 16_security.md R446: the fuses that commands can blow. -/
structure Fuses where
  /-- DEVICE_SECRET. reset: DESIGN CHOICE 0, a factory value no command reads -/
  secret : BitVec 256 := 0
  /-- VKEY_HASH0 to VKEY_HASH3: SHAKE256 of the Krytlith public keys. reset: DESIGN CHOICE 0, a factory value -/
  vkeys : List (BitVec 256) := [0, 0, 0, 0]
  /-- VKEY_REVOKE. reset: DESIGN CHOICE 0, no key revoked -/
  revoke : Nat := 0
  /-- SVN_FUSE: bits blown. reset: DESIGN CHOICE 0 -/
  svn : Nat := 0
  /-- OWNER_GEN: bits blown. reset: DESIGN CHOICE 0 -/
  gen : Nat := 0
  /-- TERMINAL. reset: DESIGN CHOICE false -/
  terminal : Bool := false
  deriving DecidableEq, Repr

/-- 16_security.md R449, R453: what the model keeps of an image slot: the header fields and the findings of R450. -/
structure FwSlot where
  /-- R453: bytes staged so far; an image at boot is whole. reset: DESIGN CHOICE 0 -/
  staged : Nat := 0
  /-- R453: the slot was marked invalid and received no FINAL since. reset: DESIGN CHOICE false -/
  partialImg : Bool := false
  /-- R449: the image. reset: DESIGN CHOICE one that verifies, SVN 0, VERSION 0x00010000 -/
  img : FwImage := {}
  /-- R453 VERDICT: 0 none, 1 verified, 2 signature, 3 rollback. reset: 0 -/
  verdict : Nat := 0
  deriving DecidableEq, Repr

/-- 16_security.md R460: who waits for a signature. -/
inductive Signer where
  /-- ATTEST_QUOTE: ring, CID, NONCE, MEAS_MASK, BUF_ADDR -/
  | quote (ring cid : Nat) (nonce : BitVec 256) (mask buf : Nat)
  /-- SPDM: head and response code: 1 CHALLENGE, 2 MEASUREMENTS, 3 KEY_EXCHANGE, with the measurement index and the requester's nonce -/
  | spdm (head code idx : Nat) (nonce : BitVec 256)
  deriving DecidableEq, Repr

/-- 16_security.md R464: a key replacement. -/
structure Replace where
  /-- slot replaced. -/
  old : Nat
  /-- new slot. -/
  new : Nat
  /-- step, 1 to 3. -/
  step : Nat
  /-- 16 × head + LD of the LD that asked. -/
  ld : Nat
  /-- Sanitize. -/
  sanitize : Bool
  /-- R464: region keys replaced with it: old and new slot. -/
  regs : List (Nat × Nat) := []
  deriving DecidableEq, Repr

/-- 16_security.md: the security engine. -/
structure Security where
  /-- R467 LC_STATE. reset: SEC_STATUS 0 -/
  lc : Nat := 0
  /-- R470: target, wipe and OWNER_GEN count of LC_PENDING. reset: none -/
  lcPending : Option (Nat × Nat × Nat) := none
  /-- R455 ROM_ONLY. reset: 0 -/
  romOnly : Bool := false
  /-- RUN_SLOT. reset: 0 -/
  runSlot : Nat := 0
  /-- R451: an image runs. reset: false -/
  booted : Bool := false
  /-- R449: image slots A and B. -/
  slots : List FwSlot := [{}, {}]
  /-- R427, R453: a mailbox Transfer FW runs: head, LD. reset: none -/
  staging : Option (Nat × Nat) := none
  /-- R461: media keys loaded, by slot. reset: none -/
  keys : List (Nat × BitVec 512) := []
  /-- R463: keys as MEDIA_KEYS holds them, with their owners: 0 LD, 1 region; code. reset: none -/
  stored : List (Nat × BitVec 512 × Nat × Nat) := []
  /-- R463: `stored` as the boot flash holds it after the last commit of MEDIA_KEYS elements. reset: none -/
  durKeys : List (Nat × BitVec 512 × Nat × Nat) := []
  /-- R465: `secrets` as the boot flash holds them after the last commit of IMPORTED_KEYS elements. reset: none -/
  durSecrets : List (Nat × BitVec 256) := []
  /-- R464: replacements that run. reset: none -/
  replacing : List Replace := []
  /-- KEYS_LOADED. reset: 0 -/
  loaded : Bool := false
  /-- KEYS_WITHDRAWN. reset: 0 -/
  withdrawn : Bool := false
  /-- R465: imported secrets by handle. reset: none -/
  secrets : List (Nat × BitVec 256) := []
  /-- R471 GRANTED. reset: 0 -/
  granted : Nat := 0
  /-- R469: the challenge. reset: 0 -/
  challenge : BitVec 256 := 0
  /-- R469: a challenge was drawn and not consumed. reset: false -/
  challengeOk : Bool := false
  /-- R459 NEXT. reset: ATTEST_NEXT 0 -/
  next : Nat := 0
  /-- R459 ATTEST_RESERVED as committed. reset: ATTEST_RESV 0 -/
  reserved : Nat := 0
  /-- R459: the commit of a reservation runs. reset: false -/
  reserving : Bool := false
  /-- R460: tokens of the signing bucket. reset: DESIGN CHOICE 256, a full bucket -/
  tokens : Nat := 256
  /-- R459: requests that wait to sign, in order. reset: none -/
  signers : List Signer := []
  deriving DecidableEq, Repr

end Sys2Proof.Machine
end

