-- ==== Sys2Proof/Machine/StTile.lean ====
section
/-! DEFINITION. Machine/StTile.lean: one controller tile (01_architecture.md, Levels) as plain data. -/

namespace Sys2Proof.Machine

/-- 01_architecture.md: a tile. -/
structure Tile where
  /-- 04_belfry.md: schedule and profile of the tile. -/
  bel : BelTile := {}
  /-- 18_performance_counters.md R497: counters 0 to 63, 36 bits; unlisted is 0. reset: 0 -/
  cnt : List (Nat × Nat) := []
  /-- 12_clocks_resets.md: clocks and resets of the tile. -/
  clk : ClkTile := {}
  /-- 02_host_ports.md: its head. -/
  head : Head := {}
  /-- 03_transactions.md: tracker and hazard table. -/
  txn : Txn := {}
  /-- 05_front_store.md: Front Store. -/
  fs : FrontStore := {}
  /-- 06_medium.md: media channels. -/
  med : Media := {}
  /-- 07_translation.md: Translation. -/
  xl : Xlate := {}
  /-- 08_integrity.md: integrity engine. -/
  int : Integ := {}
  /-- 08_integrity.md: Cupola. -/
  cup : CupTile := {}
  /-- 09_caravan.md: Caravan. -/
  car : CarTile := {}
  deriving DecidableEq, Repr

end Sys2Proof.Machine
end

