-- ==== Sys2Proof/Machine/State.lean ====
section
/-! DEFINITION. Machine/State.lean: the state of the block, its faults and refusals, and the state after reset. -/

namespace Sys2Proof.Machine

/-- Why a step stops where the spec gives no effect. -/
inductive Fault where
  /-- VAUX is lost during Hold-up (11_power.md, 10_modes.md R325: "falls outside the specification (R30)"); raised by
  VAUX_LOSS. Safe: the model stops where the spec guarantees nothing. -/
  | vauxLostInHoldup
  /-- The SCAN_EN strap is high (19_pins_electrical.md R520: "manufacturing test; outside the specification (R30)");
  raised by ISLAND_POWER_ON. Safe: the model stops where the spec guarantees nothing. -/
  | scanEnabled
  deriving DecidableEq, Repr

/-- Why a command is turned away by the model. -/
inductive Refusal where
  /-- The command has no meaning yet; raised by the arms of Dispatch.lean only. Safe. -/
  | notModelled (mnemonic : String)
  deriving DecidableEq, Repr

/-- The state of the block. -/
structure State where
  /-- The commands that wait, first in, first out. reset: the model's queue, empty -/
  pending : List Instr := []
  /-- The model's own: how many free values have been drawn (`Config.freeValue`). reset: DESIGN CHOICE 0 -/
  free : Nat := 0
  /-- The model's own: draws made from the random number generator (`Config.trng`). reset: DESIGN CHOICE 0 -/
  draws : Nat := 0
  /-- What the block has put on its interfaces, oldest first. reset: nothing -/
  outbox : List Out := []
  /-- 00_scope.md: what the part is built with. -/
  pop : Pop := {}
  /-- 15_registers.md: the register file. -/
  reg : RegFile := {}
  /-- 17_guestbook_parameter_store.md: the Guestbook. -/
  gb : Guestbook := {}
  /-- 17_guestbook_parameter_store.md: the Parameter Store. -/
  ps : ParamStore := {}
  /-- 10_modes.md: modes, Bring-up, Hold-up. -/
  md : ModeState := {}
  /-- 11_power.md: the power manager. -/
  pw : PowerState := {}
  /-- 14_command_rings.md: Porter. -/
  porter : Porter := {}
  /-- 04_belfry.md: phase tracking. -/
  bel : Belfry := {}
  /-- 18_performance_counters.md: windows 0 to 15. reset: closed -/
  wins : Vector PerfWin 16 := Vector.replicate 16 {}
  /-- 12_clocks_resets.md: clock sources. -/
  clk : Clocks := {}
  /-- 13_thermal_sled.md: temperature, fans, endpoint. -/
  thm : Thermal := {}
  /-- 02_host_ports.md: capacity and logical devices. -/
  cap : Capacity := {}
  /-- 08_integrity.md: Cupola of the package. -/
  cup : Cupola := {}
  /-- 09_caravan.md: Caravan of the package. -/
  car : Caravan := {}
  /-- 16_security.md R446: fuses. -/
  fuse : Fuses := {}
  /-- 16_security.md: the security engine. -/
  sec : Security := {}
  /-- Range commands, mesh links and numbers of the package. -/
  jobs : Jobs := {}
  /-- 01_architecture.md: tiles 0 to 7; those at and above `pop.tiles` are absent. -/
  tiles : Vector Tile 8 := Vector.replicate 8 {}
  deriving DecidableEq, Repr

/-- Run a command's effect. No command changes the queue, what the package was built with, or the fuses; those that
blow a fuse use `runFuse`. -/
def State.run (s : State) (f : State → State) : Host.Outcome State Fault Refusal :=
  .next { f s with pending := s.pending, pop := s.pop, fuse := s.fuse }

/-- Run the effect of a command that may blow fuses (16_security.md R452, R470). -/
def State.runFuse (s : State) (f : State → State) : Host.Outcome State Fault Refusal :=
  .next { f s with pending := s.pending, pop := s.pop }

/-- The machine right after reset: Off, no supply, nothing commanded (10_modes.md R311). -/
def State.reset : State := {}

end Sys2Proof.Machine
end

