-- ==== Sys2Proof/Machine/Ops.lean ====
section
/-! DEFINITION. Machine/Ops.lean: the named operations every family uses: registers, free values, outputs, checksums,
Porter's completion and event entries, Guestbook records. -/

namespace Sys2Proof.Machine

open Sys2Proof

/-! ### Outputs, free values, random bits -/

/-- Put an item on an interface. -/
def State.emit (s : State) (o : Out) : State := { s with outbox := s.outbox ++ [o] }

/-- The free value of this moment, for something the spec leaves open. -/
def State.freeNow (s : State) : Nat := Config.freeValue s.free

/-- Move on to the next free value. -/
def State.bumpFree (s : State) : State := { s with free := s.free + 1 }

/-- 16_security.md R463: the random bits of this moment. -/
def State.randNow (s : State) : BitVec 512 := Config.trng s.draws

/-- Move on to the next draw of the random number generator. -/
def State.bumpRand (s : State) : State := { s with draws := s.draws + 1 }

/-! ### Tiles and rings -/

/-- Tile `t`; an absent index reads as a tile in its reset state. -/
def State.tile (s : State) (t : Nat) : Tile := vget t {} s.tiles

/-- Change tile `t`. -/
def State.modTile (s : State) (t : Nat) (f : Tile → Tile) : State := { s with tiles := vmod t f s.tiles }

/-- Change the mode state. -/
def State.modMd (s : State) (f : ModeState → ModeState) : State := { s with md := f s.md }

/-- Change the power manager. -/
def State.modPw (s : State) (f : PowerState → PowerState) : State := { s with pw := f s.pw }

/-- Change the Guestbook. -/
def State.modGb (s : State) (f : Guestbook → Guestbook) : State := { s with gb := f s.gb }

/-- Change the Parameter Store. -/
def State.modPs (s : State) (f : ParamStore → ParamStore) : State := { s with ps := f s.ps }

/-- Change Belfry's package state. -/
def State.modBel (s : State) (f : Belfry → Belfry) : State := { s with bel := f s.bel }

/-- Change the temperature and sled state. -/
def State.modThm (s : State) (f : Thermal → Thermal) : State := { s with thm := f s.thm }

/-- Change the schedule of tile `t`. -/
def State.modBelT (s : State) (t : Nat) (f : BelTile → BelTile) : State :=
  s.modTile t (fun x => { x with bel := f x.bel })

/-- Change the clocks of tile `t`. -/
def State.modClkT (s : State) (t : Nat) (f : ClkTile → ClkTile) : State :=
  s.modTile t (fun x => { x with clk := f x.clk })

/-- Ring `r`; a number outside 0 to 63 reads as a DISABLED ring. -/
def State.ring (s : State) (r : Nat) : Ring := vget r {} s.porter.rings

/-- Change ring `r`. -/
def State.modRing (s : State) (r : Nat) (f : Ring → Ring) : State :=
  { s with porter := { s.porter with rings := vmod r f s.porter.rings } }

/-- Tiles the part has. -/
def State.present (s : State) : List Nat := List.range s.pop.tiles

/-- 10_modes.md R312, R275: tile `t` is present and not failed. -/
def State.alive (s : State) (t : Nat) : Bool := decide (t < s.pop.tiles) && !bitOf s.md.failed t

/-- Tiles present and not failed. -/
def State.aliveTiles (s : State) : List Nat := s.present.filter s.alive

/-- 01_architecture.md R21: k is 1, 2 or 3 on a CZ2, CZ4 or CZ8. -/
def State.kBits (s : State) : Nat := if s.pop.tiles = 2 then 1 else if s.pop.tiles = 4 then 2 else 3

/-! ### Registers (15_registers.md) -/

/-- The value a register holds. -/
def State.getReg (s : State) (off : Nat) : W32 := agetD off (regReset off) s.reg.vals

/-- Give a register a value; the reset value removes its entry, so that equal files are equal lists. -/
def State.setReg (s : State) (off : Nat) (v : W32) : State :=
  { s with reg := { s.reg with vals := aputD (regReset off) off v s.reg.vals } }

/-- A field of a register. -/
def State.fld (s : State) (off hi lo : Nat) : Nat := fieldOf (s.getReg off) hi lo

/-- Set a field of a register. -/
def State.setFld (s : State) (off hi lo v : Nat) : State := s.setReg off (withField (s.getReg off) hi lo v)

/-- A single bit of a register. -/
def State.regBit (s : State) (off b : Nat) : Bool := s.fld off b b == 1

/-- Add to a saturating counter field of a register. -/
def State.addFld (s : State) (off hi lo d : Nat) : State :=
  s.setFld off hi lo (satAdd (2 ^ (hi + 1 - lo) - 1) (s.fld off hi lo) d)

/-- 15_registers.md R376, R406: give every register from `lo` to below `hi` its reset value. -/
def State.resetRegs (s : State) (lo hi : Nat) : State :=
  { s with reg := { s.reg with vals := adelWhere (fun k => decide (lo ≤ k ∧ k < hi)) s.reg.vals } }

/-! ### Checksums (17_guestbook_parameter_store.md R475, R485) -/

/-- R475: one bit step of the CRC-16 with polynomial 0x1021. -/
def crc16Step (c : BitVec 16) : BitVec 16 := if c.msb then (c <<< 1) ^^^ 0x1021#16 else c <<< 1

/-- R475: one byte of the CRC-16. -/
def crc16Byte (c : BitVec 16) (b : Byte) : BitVec 16 :=
  (List.range 8).foldl (fun x _ => crc16Step x) (c ^^^ (b.setWidth 16 <<< 8))

/-- R475: CRC-16, initial value 0xFFFF, no reflection, no final XOR. -/
def crc16 (l : List Byte) : BitVec 16 := l.foldl crc16Byte 0xFFFF#16

/-- R485: one bit step of CRC-32C (reflected polynomial 0x82F63B78, PRESUMED from the name CRC-32C). -/
def crc32cStep (c : W32) : W32 := if c.getLsbD 0 then (c >>> 1) ^^^ 0x82F63B78#32 else c >>> 1

/-- One byte of CRC-32C. -/
def crc32cByte (c : W32) (b : Byte) : W32 :=
  (List.range 8).foldl (fun x _ => crc32cStep x) (c ^^^ b.setWidth 32)

/-- CRC-32C: initial value and final XOR 0xFFFFFFFF. -/
def crc32c (l : List Byte) : W32 := (l.foldl crc32cByte 0xFFFFFFFF#32) ^^^ 0xFFFFFFFF#32

/-! ### Guestbook record form (R475) -/

/-- R475: bytes 0 to 29 of a record, with VALID taken as 1. -/
def gbBody (r : GbRecord) : List Byte :=
  leBytes 2 r.code ++ leBytes 1 r.source
    ++ leBytes 1 (0x80 + 0x40 * b2n r.perm + 0x20 * b2n r.suppressed + 0x10 * b2n r.lostBefore)
    ++ leBytes 5 (r.opTime % 2 ^ 36) ++ leBytes 3 r.cycles ++ leBytes 2 r.rep
    ++ padTo 16 ((r.data.map (fun w => leBytes 4 w.toNat)).flatten)

/-- R475 CHECK. -/
def gbCheck (r : GbRecord) : BitVec 16 := crc16 (gbBody r)

/-- R475: the 32 bytes of a record as read, before the inversion of R479. -/
def gbBytes (r : GbRecord) : List Byte := gbBody r ++ leBytes 2 (gbCheck r).toNat

/-- R475: the data words of a record: an item wider than 32 bits takes two, low word first. -/
def gbWords (items : List Nat) : List W32 := (items.map (BitVec.ofNat 32)).take 4

/-- R475: two words of a wide item. -/
def gbWide (n : Nat) : List Nat := [n % 2 ^ 32, n / 2 ^ 32]

/-! ### Belfry's clock as events read it (04_belfry.md R101) -/

/-- R101: local angle, 16 bits. -/
def State.localAngle (s : State) : Nat := (s.bel.refAngle / 2 ^ 32 + 65536 - s.bel.offset % 65536) % 65536

/-- R101, R20: tile angle of tile `t`, from the tile's copy of the tick count. -/
def State.tileAngle (s : State) (t : Nat) : Nat :=
  ((s.tile t).bel.tick + 2 * 65536 - s.bel.offset % 65536 - (t * s.bel.stagger) % 65536) % 65536

/-! ### Porter: completion and event entries (14_command_rings.md) -/

/-- R405: an EXP field below 4 acts as 4, above 16 as 16. -/
def expEff (e : Nat) : Nat := if e < 4 then 4 else if 16 < e then 16 else e

/-- R405: entries of a ring's SQ. -/
def State.sqSize (s : State) (r : Nat) : Nat := 2 ^ expEff (s.fld (Reg.RING_CFG r) 4 0)

/-- R405: entries of a ring's CQ. -/
def State.cqSize (s : State) (r : Nat) : Nat := 2 ^ expEff (s.fld (Reg.RING_CFG r) 12 8)

/-- R405: whether the ring is an event ring. -/
def State.isEvtRing (s : State) (r : Nat) : Bool := s.regBit (Reg.RING_CFG r) 31

/-- R405: CQ base. -/
def State.cqBase (s : State) (r : Nat) : Nat :=
  (s.getReg (Reg.RING_CQ_BASE_HI r)).toNat * 2 ^ 32 + (s.getReg (Reg.RING_CQ_BASE_LO r)).toNat

/-- R405: SQ base. -/
def State.sqBase (s : State) (r : Nat) : Nat :=
  (s.getReg (Reg.RING_SQ_BASE_HI r)).toNat * 2 ^ 32 + (s.getReg (Reg.RING_SQ_BASE_LO r)).toNat

/-- RING_STATUS INFLIGHT: commands fetched and not completed. -/
def Ring.inflight (g : Ring) : Nat := g.fetched.length + (g.execs.filter (fun e => !e.late && !e.discard)).length

/-- R412: free CQ entries. -/
def State.cqFree (s : State) (r : Nat) : Nat :=
  let g := s.ring r
  let n := s.cqSize r
  n - 1 - (g.cqTail + n - g.cqHead) % n - g.inflight

/-- R415: write the 64 bytes of the next CQ entry, results first, and advance CQ_TAIL and the phase. -/
def State.cqWrite (s : State) (r : Nat) (head8 : List Byte) (rest : List Byte) : State :=
  let g := s.ring r
  let a := s.cqBase r + 64 * g.cqTail
  let s1 := (s.emit (.hostWrite g.head (a + 8) (padTo 56 rest))).emit (.hostWrite g.head a (padTo 8 head8))
  s1.modRing r (fun g =>
    if g.cqTail + 1 = s.cqSize r then { g with cqTail := 0, phase := !g.phase } else { g with cqTail := g.cqTail + 1 })

/-- R423, R424: send the ring's MSI-X message and start counting again. -/
def State.ringMsix (s : State) (r : Nat) : State :=
  let g := s.ring r
  (s.emit (.msix g.head (16 + s.fld (Reg.RING_CFG r) 21 16))).modRing r (fun g => { g with coalCount := 0 })

/-- R424: count a completion written; `now` says that it demands its interrupt at once. -/
def State.ringCount (s : State) (r : Nat) (now : Bool) : State :=
  let s1 := s.modRing r (fun g => { g with coalCount := g.coalCount + 1, coalTime := s.fld (Reg.RING_MOD r) 31 16 })
  let n := s.fld (Reg.RING_MOD r) 7 0
  if now || decide (n ≤ (s1.ring r).coalCount) || s.fld (Reg.RING_MOD r) 31 16 == 0 then s1.ringMsix r else s1

/-- R426 "operating": Serve, Degraded, Sealed and Service. From a rail failure until Standby the tiles are held in reset
(12_clocks_resets.md R376) and nothing operates. -/
def ModeState.operating (m : ModeState) : Bool :=
  m.resetsReleased && (m.mode == .serve || m.mode == .degraded || m.mode == .sealed || m.mode == .service)

/-- R406: rings run from step 8 of Bring-up until entry into Hold-up. -/
def ModeState.ringsRun (m : ModeState) : Bool := m.operating || (m.mode == .bringup && bitOf m.stepsDone 8)

/-- R425, R406: the rings that receive a record of code `code`. -/
def State.evtRings (s : State) (code : Nat) : List Nat :=
  if !s.md.ringsRun then [] else (List.range 64).filter (fun r =>
    (s.ring r).state == .running && s.isEvtRing r && bitOf (s.fld (Reg.RING_EVT r) 15 0) (code / 4096))

/-- R425: write an event entry for a record, or count it lost. The answer says whether the loss is the first since an
entry was written. -/
def State.evtWrite (s : State) (g : GbRecord) (r : Nat) : State × Bool :=
  let k := s.ring r
  if s.cqFree r = 0 then
    ((s.addFld (Reg.RING_EVT r) 31 16 1).modRing r (fun x => { x with evtLost := true }), !k.evtLost)
  else
    let h := leBytes 2 (k.evtSeq % 65536) ++ [0] ++ leBytes 1 (b2n k.phase + 2 * b2n k.evtLost) ++ zeros 4
    let b := gbBytes g ++ leBytes 5 s.bel.turn ++ [0] ++ leBytes 2 s.localAngle
    (((s.cqWrite r h b).modRing r (fun x => { x with evtSeq := x.evtSeq + 1, evtLost := false })).ringCount r false,
      false)

/-! ### Guestbook: recording an event (17_guestbook_parameter_store.md R478) -/

/-- R478: BURST; 0 acts as 1. -/
def State.gbBurst (s : State) : Nat := max 1 (s.fld Reg.GB_CTL 15 12)

/-- R478 case 1: an unwritten record with the same CODE and SOURCE. -/
def gbMatch (code src : Nat) (r : GbRecord) : Bool := r.code == code && r.source == src

/-- R478 case 1: count an occurrence in the newest matching record. -/
def gbBumpLast (code src : Nat) : List GbRecord → List GbRecord
  | [] => []
  | r :: l =>
    if l.any (gbMatch code src) then r :: gbBumpLast code src l
    else if gbMatch code src r then { r with rep := satAdd 0xFFFF r.rep 1 } :: l
    else r :: l

/-- R477: records the permanent area holds, the buffered ones included. -/
def Guestbook.permCount (g : Guestbook) : Nat := g.permPos + (g.buf.filter (·.perm)).length

/-- R476: POWER_CYCLES in force: pending, being committed, or committed; its default is 0. -/
def ParamStore.raw? (p : ParamStore) (id : Nat) : Option (List Byte) :=
  match aget id p.pendingSet with
  | some v => some v
  | none =>
    match p.running.bind (fun c => aget id c.els) with
    | some v => some v
    | none => aget id p.els

/-- R476: POWER_CYCLES. -/
def State.powerCycles (s : State) : Nat := leNat ((s.ps.raw? Param.POWER_CYCLES).getD [])

/-- R477, R478 case 4: store a new record, without the event rings. -/
def State.gbStore (s : State) (code src : Nat) (items : List Nat) : State × GbRecord :=
  let g := s.gb
  let sup := agetD code 0 g.suppressed
  let isP := gbPermCodes.contains code
  let toPerm := isP && decide (g.permCount < 8128) && !(code == Gb.GB_PERM_FULL && g.permFull)
  let r : GbRecord :=
    { code := code, source := src, perm := toPerm, suppressed := decide (0 < sup), lostBefore := g.lostBefore,
      opTime := g.opTime, cycles := s.powerCycles % 2 ^ 24, rep := min 0xFFFF sup, data := gbWords items,
      num := g.circNext, permNum := if toPerm then g.permNext else 0 }
  let tk := if isP || code == Gb.AGE_CLOCK then g.taken else aput code (agetD code 0 g.taken + 1) g.taken
  (s.modGb (fun g =>
    { g with buf := g.buf ++ [r], lostBefore := false, circNext := g.circNext + 1,
             permNext := if toPerm then g.permNext + 1 else g.permNext,
             taken := tk, refill := (if isP || code == Gb.AGE_CLOCK then g.refill else aput code (max 1 (s.fld Reg.GB_CTL 11 8)) g.refill), suppressed := adel code g.suppressed }), r)

/-- R478, R425, R477: an event is recognised. `rep` says that its source reports a repeat. The first argument bounds the
records that recording itself raises (GB_GB_PERM_FULL, GB_PORTER_EVT_LOST). -/
def State.gbEventN : Nat → State → Nat → Nat → List Nat → Bool → State
  | 0, s, _, _, _, _ => s
  | n + 1, s, code, src, items, rep =>
    let full := decide (512 ≤ s.gb.buf.length)
    if (rep || full) && s.gb.buf.any (gbMatch code src) then
      s.modGb (fun g => { g with buf := gbBumpLast code src g.buf })
    else if full then
      (s.modGb (fun g => { g with dropDue := g.dropDue || g.dropped == 0, dropped := satAdd 255 g.dropped 1, lostBefore := true })).setFld
        Reg.GB_ERR_STATUS 0 0 1
    else if !(gbPermCodes.contains code) && code != Gb.AGE_CLOCK
        && decide (s.gbBurst ≤ agetD code 0 s.gb.taken) then
      s.modGb (fun g => { g with suppressed := aput code (agetD code 0 g.suppressed + 1) g.suppressed })
    else
      let refused := gbPermCodes.contains code && decide (8128 ≤ s.gb.permCount) && !s.gb.permFull
      let (s1, r) := s.gbStore code src items
      let s2 := (s1.evtRings code).foldl
        (fun a k =>
          let (b, first) := State.evtWrite a r k
          if first then
            State.gbEventN n b Gb.PORTER_EVT_LOST 15 [k, b.fld (Reg.RING_EVT k) 31 16] false
          else b) s1
      if refused then
        State.gbEventN n (s2.modGb (fun g => { g with permFull := true })) Gb.GB_PERM_FULL 15 [8128] false
      else s2

/-- R478: an event is recognised and recorded with its data items. Source 15 is the package. -/
def State.event (s : State) (code src : Nat) (items : List Nat) : State := s.gbEventN 4 code src items false

/-- R70, R99, R132, R169, R200, R246, R284, R310, R362, R383, R404, R429, R444, R473, R496: latch bit `b` of a W1C
register and record the event; when the bit is already set, the event counts as a repeat. -/
def State.latch (s : State) (off b : Nat) (code src : Nat) (items : List Nat) : State :=
  (s.setFld off b b 1).gbEventN 4 code src items (s.regBit off b)

/-- Latch a bit whose event has no Guestbook record. -/
def State.latchOnly (s : State) (off b : Nat) : State := s.setFld off b b 1

/-! ### Porter: commands (14_command_rings.md R417, R415) -/

/-- R414: results placed in table order; a field of 32 bits or more starts at the next multiple of 32. -/
def packAt (pos : Nat) : List (Nat × Nat) → Nat
  | [] => 0
  | (w, v) :: l =>
    let p := if 32 ≤ w then (pos + 31) / 32 * 32 else pos
    (v % 2 ^ w) * 2 ^ p + packAt (p + w) l

/-- R414: the 448 bits of results. -/
def packFields (l : List (Nat × Nat)) : BitVec 448 := BitVec.ofNat 448 (packAt 0 l)

/-- R414: the number of bits that fields take. -/
def packLen (pos : Nat) : List Nat → Nat
  | [] => pos
  | w :: l => packLen ((if 32 ≤ w then (pos + 31) / 32 * 32 else pos) + w) l

/-- R426: Serve, Degraded and Service. -/
def ModeState.sdService (m : ModeState) : Bool := m.mode == .serve || m.mode == .degraded || m.mode == .service

/-- R426: Service only. -/
def ModeState.inService (m : ModeState) : Bool := m.mode == .service

/-- R426: Bring-up from step 8, and operating. -/
def ModeState.ringOrOperating (m : ModeState) : Bool := m.ringsRun

/-- R418: the command that executes under a CID, if the ring has one. -/
def State.exec? (s : State) (pc : PortCmd) : Option Exec := (s.ring pc.ring).execs.find? (fun e => e.cid == pc.cid)

/-- R417: make the command an executing one when COMMAND_START has not done so. -/
def State.ensureExec (s : State) (pc : PortCmd) (opcode : Nat) : State :=
  if (s.ring pc.ring).execs.any (fun e => e.cid == pc.cid && e.opcode == opcode && e.result.isNone) then s
  else s.modRing pc.ring (fun g => { g with execs := g.execs ++ [{ cid := pc.cid, opcode := opcode }] })

/-- Set the result of the first command with CID `c` that has none. -/
def setResult (c : Nat) (r : CmdResult) : List Exec → List Exec
  | [] => []
  | e :: l => if e.cid = c ∧ e.result = none then { e with result := some r } :: l else e :: setResult c r l

/-- R415: the command ends with a result; COMMAND_COMPLETE writes its entry. -/
def State.finish (s : State) (pc : PortCmd) (r : CmdResult) : State :=
  s.modRing pc.ring (fun g => { g with execs := setResult pc.cid r g.execs })

/-- R416: end with SUCCESS. -/
def State.ok (s : State) (pc : PortCmd) (results : List (Nat × Nat)) : State :=
  s.finish pc { status := Status.success.code, results := results }

/-- R416: end with another status. -/
def State.fail (s : State) (pc : PortCmd) (st : Status) (detail : Nat) : State :=
  s.finish pc { status := st.code, detail := detail }

/-- R409: the ring is privileged. -/
def State.ringPriv (s : State) (r : Nat) : Bool := s.regBit (Reg.RING_CFG r) 30

/-- 16_security.md R455: the opcodes that ROM-only Service accepts: NOP, IDENTIFY_EXT, GET_MODE, GB_READ, FW_STAGE, FW_ACTIVATE. -/
def romOps : List Nat := [0x0000, 0x0001, 0x0002, 0x0A00, 0x0900, 0x0901]

/-- R417: run a Porter command. Nothing runs outside R406's modes; then the ring's privilege, then the mode is checked,
and `body` does the rest. -/
def State.porterRun (s : State) (pc : PortCmd) (opcode : Nat) (priv : Bool) (modeOk : Bool)
    (body : State → State) : State :=
  if s.md.ringsRun then
    let s1 := s.ensureExec pc opcode
    if priv && !s.ringPriv pc.ring then s1.fail pc .notPrivileged 0
    else if !modeOk || (s.sec.romOnly && !romOps.contains opcode) then s1.fail pc .wrongMode s.md.mode.code
    else body s1
  else s

/-- R416: INVALID_FIELD for the first parameter whose check fails; the index counts from 0 in table order. -/
def firstBad (i : Nat) : List Bool → Option Nat
  | [] => none
  | b :: l => if b then firstBad (i + 1) l else some i

/-- R417: check the parameters in table order, then go on. -/
def State.checkFields (s : State) (pc : PortCmd) (oks : List Bool) (body : State → State) : State :=
  match firstBad 0 oks with
  | some i => s.fail pc .invalidField i
  | none => body s

/-- R427: a buffer address must be aligned to 64 bytes. -/
def aligned64 (a : Nat) : Bool := a % 64 == 0

/-! ### Alerts (13_thermal_sled.md R402) -/

/-- R402: BMC_ALERT_N is low while (THM_ALERT AND THM_ALERT_MASK) is not 0; on the rising edge of that condition, with
IBI_EN at 1, the endpoint raises an in-band interrupt. -/
def State.alertLine (s : State) : State :=
  let v := (s.getReg Reg.THM_ALERT &&& s.getReg Reg.THM_ALERT_MASK) &&& 0x1FF#32
  let now := v != 0
  let s1 := s.modThm (fun x => { x with alertLow := now })
  if now && !s.thm.alertLow && s.regBit Reg.THM_CTL 0 then s1.emit (.ibi v.toNat) else s1

/-- R402: latch alert bit `b`. -/
def State.alert (s : State) (b : Nat) : State := (s.latchOnly Reg.THM_ALERT b).alertLine

/-! ### Modes (10_modes.md R311 to R313) -/

/-- R335: the mode changes in the cycle in which its cause is recognised; GB_MODE_CHANGE is recorded and alert MODE set. -/
def State.setMode (s : State) (m : Mode) : State :=
  if s.md.mode = m then s
  else
    ((s.modMd (fun d => { d with mode := m, prev := d.mode.code })).event Gb.MODE_CHANGE 15
      [s.md.mode.code, m.code, s.md.causes]).alert 8

/-- R312: the mode that the conditions call for. -/
def ModeState.target (m : ModeState) : Mode :=
  if m.causes ≠ 0 then .degraded else if m.sealed ≠ 0 then .sealed else .serve

/-- R312: the package is in Serve, Degraded or Sealed, with its tiles out of reset. -/
def ModeState.inService3 (m : ModeState) : Bool := m.resetsReleased && (m.mode == .serve || m.mode == .degraded || m.mode == .sealed)

end Sys2Proof.Machine
end

