-- ==== Sys2Proof/Machine/Operands.lean ====
section
/-! DEFINITION. Machine/Operands.lean: the forms in which commands and stored elements carry their values: schedules and
write-power profiles, fan records, power levels, the Parameter Store's elements and their defaults. -/

namespace Sys2Proof.Machine

open Sys2Proof

/-! ### Schedules and profiles (04_belfry.md R114, R122) -/

/-- R114: an entry from its 16 bytes. -/
def schedEntryOf (b : List Byte) : SchedEntry :=
  let w0 := leAt b 0 4
  let w1 := leAt b 4 4
  let w3 := leAt b 12 4
  { start := w0 % 65536, stop := w0 / 65536, valid := bitOf w1 31, cls := w1 / 2 ^ 27 % 16, rsv1 := w1 / 2 ^ 24 % 8,
    chans := w1 / 2 ^ 16 % 256, turnExp := w1 / 2 ^ 12 % 16, turnOff := w1 % 4096, budget := leAt b 8 4,
    rsv3 := w3 / 256, arg := w3 % 256 }

/-- R114: the 16 bytes of an entry. -/
def schedEntryBytes (e : SchedEntry) : List Byte :=
  leBytes 4 (e.stop * 65536 + e.start)
    ++ leBytes 4 (b2n e.valid * 2 ^ 31 + e.cls * 2 ^ 27 + e.rsv1 * 2 ^ 24 + e.chans * 2 ^ 16 + e.turnExp * 2 ^ 12 + e.turnOff)
    ++ leBytes 4 e.budget ++ leBytes 4 (e.rsv3 * 256 + e.arg)

/-- R130: the 64 entries of a 1,088-byte buffer. -/
def schedOf (b : List Byte) : List SchedEntry := (List.range 64).map (fun i => schedEntryOf (b.drop (16 * i)))

/-- R130: the 32 profile entries of a 1,088-byte buffer. -/
def profileOf (b : List Byte) : List Nat := (List.range 32).map (fun i => leAt b (1024 + 2 * i) 2)

/-- R130: the 1,088 bytes of a schedule and profile. -/
def schedBytes (es : List SchedEntry) (ps : List Nat) : List Byte :=
  (es.map schedEntryBytes).flatten ++ (ps.map (leBytes 2)).flatten

/-- R124: a valid entry of the default schedule. -/
def defEntry (cls start stop budget arg : Nat) : SchedEntry :=
  { start := start, stop := stop, valid := true, cls := cls, chans := 0xFF, budget := budget, arg := arg }

/-- R124: the default schedule. -/
def defaultSched : List SchedEntry :=
  [defEntry 1 0 15360 16 0, defEntry 2 0 15360 64 0, defEntry 5 0 0 1024 0, defEntry 4 16384 31744 32 0,
   defEntry 3 16384 63488 256 0, defEntry 6 32768 48128 128 3, defEntry 7 49152 51200 1 7,
   defEntry 8 52224 53248 0 0, defEntry 9 0 0 0 0] ++ List.replicate 55 ({} : SchedEntry)

/-- R124: the default profile: PROG_MAX 12; CLEAR_MAX 12 in entries 0 to 7 and 0 in the others. -/
def defaultProfile : List Nat := (List.range 32).map (fun i => 12 * 2048 + (if i < 8 then 12 * 64 else 0))

/-- R117: the class works on channels. -/
def clsOnChannels (c : Nat) : Bool := decide (1 ≤ c ∧ c ≤ 7)

/-- R115: the sector of an entry covers tile angle `a`. -/
def SchedEntry.covers (e : SchedEntry) (a : Nat) : Bool :=
  if e.start = e.stop then true
  else if e.start < e.stop then decide (e.start ≤ a ∧ a < e.stop)
  else decide (e.start ≤ a ∨ a < e.stop)

/-- R114: the entry is active in tile turn `t`. -/
def SchedEntry.activeIn (e : SchedEntry) (t : Nat) : Bool := e.valid && t % 2 ^ e.turnExp == e.turnOff

/-- R116: the sectors of two entries share an angle. -/
def SchedEntry.meets (a b : SchedEntry) : Bool := a.covers b.start || b.covers a.start

/-- R116: the turns in which two entries are active meet. -/
def SchedEntry.turnsMeet (a b : SchedEntry) : Bool :=
  let m := min a.turnExp b.turnExp
  a.turnOff % 2 ^ m == b.turnOff % 2 ^ m

/-- R116: an entry alone keeps the rules. -/
def SchedEntry.formOk (e : SchedEntry) : Bool :=
  !e.valid || (decide (1 ≤ e.cls ∧ e.cls ≤ 9) && decide (e.turnExp ≤ 12) && decide (e.turnOff < 2 ^ e.turnExp)
    && e.rsv1 == 0 && e.rsv3 == 0 && (!clsOnChannels e.cls || e.chans != 0))

/-- R116: two valid entries of one class overlap in sector, channel and active turn. -/
def SchedEntry.clash (a b : SchedEntry) : Bool :=
  a.valid && b.valid && a.cls == b.cls && clsOnChannels a.cls && (a.chans &&& b.chans) != 0 && a.meets b
    && a.turnsMeet b

/-- R116: entry `i` breaks no rule, alone or against the entries before it. -/
def schedEntryOk (es : List SchedEntry) (i : Nat) : Bool :=
  let e := es.getD i {}
  e.formOk && (List.range i).all (fun j => !(es.getD j {}).clash e)

/-- R116: the index of the first entry that breaks a rule: 0 to 63 schedule, 64 + i profile. -/
def schedBad? (es : List SchedEntry) (ps : List Nat) : Option Nat :=
  match (List.range 64).find? (fun i => !schedEntryOk es i) with
  | some i => some i
  | none => ((List.range 32).find? (fun i => ps.getD i 0 % 64 != 0)).map (· + 64)

/-! ### Fan records (13_thermal_sled.md R395, R396; 17_guestbook_parameter_store.md R488) -/

/-- A signed byte. -/
def signed8 (n : Nat) : Int := if n % 256 < 128 then (n % 256 : Nat) else ((n % 256 : Nat) : Int) - 256

/-- R488: a curve of four points from 8 bytes. -/
def curveOf (b : List Byte) : List (Int × Nat) :=
  (List.range 4).map (fun i => (signed8 (leAt b (2 * i) 1), leAt b (2 * i + 1) 1))

/-- R395: temperatures ascend and duties do not decrease. -/
def curveOk : List (Int × Nat) → Bool
  | a :: b :: l => decide (a.1 < b.1 ∧ a.2 ≤ b.2) && curveOk (b :: l)
  | _ => true

/-- R488: a fan record laid over what a fan holds. -/
def fanOf (f : Fan) (b : List Byte) : Fan :=
  let fl := leAt b 0 1
  { f with enable := bitOf fl 0, tachEn := bitOf fl 1, failed := f.failed && bitOf fl 1, ppr := fl / 4 % 4 + 1, groups := leAt b 1 1 % 8,
           minDuty := leAt b 2 1, stallRpm := leAt b 4 2,
           curves := [curveOf (b.drop 8), curveOf (b.drop 16), curveOf (b.drop 24)] }

/-- R488: must-be-0 bits of a fan record are 0 and its curves are in order. -/
def fanRecordOk (b : List Byte) : Bool :=
  leAt b 0 1 / 16 == 0 && leAt b 1 1 / 8 == 0 && leAt b 3 1 == 0 && leAt b 6 2 == 0
    && (fanOf {} b).curves.all curveOk

/-- R488: the 8 bytes of a curve. -/
def curveBytes (c : List (Int × Nat)) : List Byte :=
  (c.map (fun p => [BitVec.ofInt 8 p.1, BitVec.ofNat 8 p.2])).flatten

/-- R488: the 32 bytes of a fan record. -/
def fanBytes (f : Fan) : List Byte :=
  leBytes 1 (b2n f.enable + 2 * b2n f.tachEn + 4 * (f.ppr - 1)) ++ leBytes 1 f.groups ++ leBytes 1 f.minDuty ++ [0]
    ++ leBytes 2 f.stallRpm ++ zeros 2 ++ (f.curves.map curveBytes).flatten

/-! ### Defaults of the parameters (17_guestbook_parameter_store.md R487) -/

/-- 11_power.md R344: a slot of SEQ_TABLE from EN, UP_DELAY in 100 µs, PG_TMAX in ms, STAB in 8 µs, DOWN_DELAY in ms. -/
def seqSlot (en up tmax stab down : Nat) : W32 :=
  BitVec.ofNat 32 (en * 2 ^ 31 + up * 2 ^ 23 + tmax * 2 ^ 15 + stab * 2 ^ 4 + down)

/-- 11_power.md R344: the default SEQ_TABLE, slots A to P. -/
def defaultSlots : List W32 :=
  [seqSlot 1 0 50 125 1, seqSlot 1 10 20 25 1] ++ List.replicate 11 (seqSlot 1 5 10 25 1)
    ++ [seqSlot 1 10 10 25 1, seqSlot 0 0 1 2 0, seqSlot 0 0 1 2 0]

/-- 11_power.md R349: default HOLD_POWER of the member. -/
def defaultHoldPower (tiles : Nat) : Nat := if tiles = 2 then 250 else if tiles = 4 then 450 else 900

/-- 11_power.md R349: the default HOLD_PARAMS. -/
def defaultHoldParams (tiles : Nat) : List Byte :=
  leBytes 2 (defaultHoldPower tiles) ++ leBytes 1 90 ++ leBytes 1 80 ++ leBytes 2 1200 ++ leBytes 2 2000 ++ leBytes 2 100
    ++ leBytes 2 1800 ++ leBytes 2 1000 ++ leBytes 1 10 ++ [0] ++ leBytes 2 64 ++ leBytes 2 64 ++ zeros 4

/-- 00_scope.md R5: frames per tile. -/
def framesOf (p : Pop) : Nat := if p.density24 then 524288 else 1048576

/-- R487: the default of an element, by PARAM_ID. -/
def paramDefault (p : Pop) (id : Nat) : List Byte :=
  let size := ((paramInfo? id).map (·.size)).getD 0
  let n := id / 256
  let i := id % 256
  if n = 0x01 then leBytes 2 0x0A04
  else if n = 0x02 then leBytes 2 0x0400
  else if n = 0x03 then leBytes 4 (defaultSlots.getD i 0).toNat
  else if n = 0x04 then defaultHoldParams p.tiles
  else if n = 0x05 then leBytes 4 0x11301068 ++ leBytes 4 0x0FA00032
  else if n = 0x06 then leBytes 2 7
  else if n = 0x07 then leBytes 2 1000 ++ leBytes 2 3435 ++ leBytes 2 1000 ++ leBytes 2 1008
  else if n = 0x08 then leBytes 4 (if i = 0 then 0x7D766964 else if i = 1 then 0x5A50461E else 0x4B413714)
  else if n = 0x09 then fanBytes {}
  else if n = 0x0D then leBytes 2 0x00FF
  else if n = 0x10 then leBytes 4 10000 ++ zeros 16
  else if n = 0x11 then schedBytes defaultSched defaultProfile
  else if n = 0x12 then leBytes 1 2
  else if n = 0x13 then leBytes 4 (framesOf p)
  else if n = 0x14 then leBytes 4 0x006403E8
  else if n = 0x15 then leBytes 4 0xB470
  else if n = 0x19 then ((List.range 128).map (fun _ => leBytes 2 0xFFFF ++ zeros 6)).flatten
  else if n = 0x24 then leBytes 1 2 ++ zeros 7
  else if n = 0x28 then leBytes 4 1 ++ zeros 4
  else zeros size

/-! ### The Parameter Store's values (R485 to R491) -/

/-- R489: the value PARAM_READ returns: pending (a change of the Cazar's own that waits for room included), being committed,
committed, or the default. -/
def State.psGet (s : State) (id : Nat) : List Byte :=
  match s.ps.roomWait.reverse.find? (fun e => e.1 == .internal && e.2.1 == id) with
  | some e => e.2.2
  | none => (s.ps.raw? id).getD (paramDefault s.pop id)

/-- R487, R489: whether the value read is committed. -/
def State.psCommitted (s : State) (id : Nat) : Bool :=
  (aget id s.ps.pendingSet).isNone && ((s.ps.running.bind (fun c => aget id c.els)).isNone)

/-- R485: bytes of a record: 20 plus the value padded to a multiple of 4. -/
def recordSize (v : List Byte) : Nat := 20 + (v.length + 3) / 4 * 4

/-- R485: bytes of a set of records. -/
def setSize (l : List (Nat × List Byte)) : Nat := total (l.map (fun p => recordSize p.2))

/-- R485: bytes of a commit marker. -/
def markerSize : Nat := 28

/-- R489: put a value into the pending set; true when it fits within 2,048 bytes. -/
def State.psFits (s : State) (id : Nat) (v : List Byte) : Bool :=
  decide (setSize (aput id v s.ps.pendingSet) ≤ 2048)

/-- R489: ask for a commit of the pending set. While values wait for room, the request stands behind them, as an entry with
PARAM_ID 0. -/
def State.psRequest (s : State) (c : PsCaller) : State :=
  s.modPs (fun p => if p.roomWait.isEmpty then { p with waiters := p.waiters ++ [c] } else { p with roomWait := p.roomWait ++ [(c, 0, [])] })

/-- R489: store a value. One that would pass 2,048 bytes starts a commit of the set and waits for it; `c` then completes
when the value is stored. The answer says whether the value was stored at once. -/
def State.psStore (s : State) (id : Nat) (v : List Byte) (c : PsCaller) : State × Bool :=
  if s.psFits id v && s.ps.roomWait.isEmpty then (s.modPs (fun p => { p with pendingSet := aput id v p.pendingSet }), true)
  else
    (s.modPs (fun p => { p with roomWait := p.roomWait ++ [(c, id, v)], waiters := p.waiters ++ [.internal] }), false)

/-- R489: a change of a stored value that no command waits for. -/
def State.psPut (s : State) (id : Nat) (v : List Byte) : State := (s.psStore id v .internal).1

/-- R491: outside Hold-up and in shed stage 2 or higher, requests are refused or held for want of energy. -/
def State.energyLow (s : State) : Bool := s.md.mode != .holdup && decide (2 ≤ s.pw.stage)

/-- R489, R491: a PERSIST option: the value is stored and its commit asked for; in shed stage 2 the commit is held. The
command completes with the commit. -/
def State.psPersist (s : State) (pc : PortCmd) (vals : List (Nat × List Byte)) : State :=
  let s1 := vals.foldl (fun a p => a.psPut p.1 p.2) s
  if s1.energyLow then s1.modPs (fun p => { p with held := p.held ++ [.porter pc.ring pc.cid] })
  else s1.psRequest (.porter pc.ring pc.cid)

/-- Whether a Porter command waits for a commit to end. -/
def State.awaitsCommit (s : State) (pc : PortCmd) : Bool :=
  let c := PsCaller.porter pc.ring pc.cid
  s.ps.waiters.contains c || s.ps.held.contains c || ((s.ps.running.map (fun r => r.callers.contains c)).getD false)
    || s.ps.roomWait.any (fun e => e.1 == c)

/-- R541: AUTH_FAILS of 16_security.md R469. -/
def State.authFails (s : State) : Nat := leAt (s.psGet Param.AUTH_FAILS) 0 1

/-- R541, R495: PARAM_FAILS. -/
def State.paramFails (s : State) : Nat := leAt (s.psGet Param.AUTH_FAILS) 1 1

/-- 11_power.md R349: a field of HOLD_PARAMS. -/
def State.holdParam (s : State) (off n : Nat) : Nat := leAt (s.psGet Param.HOLD_PARAMS) off n

/-- Parameter Store bytes of 32-bit words. -/
def wordBytes (l : List Nat) : List Byte := (l.map (leBytes 4)).flatten

end Sys2Proof.Machine
end

