-- ==== Sys2Proof/Machine/PerfOps.lean ====
section
/-! DEFINITION. Machine/PerfOps.lean: performance counters and bandwidth windows as the other families drive them
(18_performance_counters.md R497 to R507), and the owned resources of 01_architecture.md R27. -/

namespace Sys2Proof.Machine

open Sys2Proof

/-- PERF_SEL of counter `n` of tile `t`. -/
def selReg (t n : Nat) : Nat := Reg.PERF_SEL + 0x100 * t + 4 * n

/-- R501: events whose kind is condition. -/
def isCondition (no : Nat) : Bool :=
  [0x08, 0x09, 0x0A, 0x0B, 0x22, 0x60, 0x61].contains no

/-- R501: the qualifier is one the table allows. -/
def qualOk (no q : Nat) : Bool :=
  if no = 0x10 then q % 8 != 0 && q / 16 != 0 && q / 8 % 2 == 0
  else if no = 0x30 ∨ no = 0x31 ∨ no = 0x32 ∨ no = 0x33 then q != 0
  else if no = 0x40 then decide (1 ≤ q ∧ q ≤ 5)
  else if no = 0x50 then decide (1 ≤ q ∧ q ≤ 3)
  else if no = 0x60 then decide (q < 64)
  else q == 0

/-- R501: event numbers of the table. -/
def knownEvent (no : Nat) : Bool :=
  [0x01, 0x02, 0x03, 0x04, 0x05, 0x06, 0x07, 0x08, 0x09, 0x0A, 0x0B].contains no
    || [0x10, 0x20, 0x21, 0x22, 0x30, 0x31, 0x32, 0x33, 0x34, 0x35, 0x36].contains no
    || [0x40, 0x41, 0x42, 0x50, 0x60, 0x61].contains no

/-- R498, R501, R502: a configuration that counts. -/
def perfCfgOk (n ev mode : Nat) (chain : Bool) : Bool :=
  if chain then n % 2 == 1 && ev == 0 && mode == 0
  else knownEvent (ev / 256) && qualOk (ev / 256) (ev % 256)
    && ((mode == 0 && ev / 256 != 0x61) || (mode == 1 && isCondition (ev / 256)))

/-- 11_power.md R360, R331: the stage whose actions apply: in Bring-up they apply from step 13. -/
def State.stageActs (s : State) : Nat := if s.md.mode == .bringup then 0 else s.pw.stage

/-- R503: counters 56 to 63 belong to the firmware sampler from step 8. -/
def State.samplerOwns (s : State) (n : Nat) : Bool :=
  decide (56 ≤ n ∧ n < 64) && (s.md.mode != .bringup || bitOf s.md.stepsDone 8)

/-- R503: PERF_SEL of a counter as it stands: the sampler's counters are disabled while shed stage 1 stops the sampler. -/
def State.selWord (s : State) (t n : Nat) : W32 :=
  if s.samplerOwns n && s.stageActs != 0 then s.getReg (selReg t n) &&& 0x7FFFFFFF#32 else s.getReg (selReg t n)

/-- R502: the counter is enabled and its configuration counts. -/
def State.counts (s : State) (t n : Nat) : Bool :=
  let w := s.selWord t n
  fieldOf w 31 31 == 1 && perfCfgOk n (fieldOf w 15 0) (fieldOf w 28 27) (fieldOf w 29 29 == 1)

/-- R499: the overflow bit of a counter. -/
def State.perfOvf (s : State) (t n : Nat) : State :=
  s.latchOnly ((if n < 32 then Reg.PERF_OVF0 else Reg.PERF_OVF1) + 8 * t) (n % 32)

/-- The value of a counter. -/
def State.cntVal (s : State) (t n : Nat) : Nat := agetD n 0 (s.tile t).cnt

/-- Give a counter a value. -/
def State.setCnt (s : State) (t n v : Nat) : State := s.modTile t (fun x => { x with cnt := aputD 0 n v x.cnt })

/-- R499, R502: add to a counter; a wrap sets its overflow bit and feeds the counter chained above it. -/
def State.cntAdd : Nat → State → Nat → Nat → Nat → State
  | 0, s, _, _, _ => s
  | k + 1, s, t, n, d =>
    let v := s.cntVal t n + d
    let s1 := s.setCnt t n (v % 2 ^ 36)
    if v < 2 ^ 36 then s1
    else
      let s2 := s1.perfOvf t n
      if n % 2 = 0 && s2.counts t (n + 1) && s2.regBit (selReg t (n + 1)) 29 then State.cntAdd k s2 t (n + 1) 1 else s2

/-- R501: whether a counter's EVENT selects an occurrence with qualifier mask `q` (0 where the table gives none). -/
def evMatches (w : W32) (no q : Nat) : Bool :=
  fieldOf w 15 8 == no && (q == 0 || (fieldOf w 7 0 &&& q) != 0)

/-- R498: `d` occurrences of an event (or a condition becoming true) are counted by the enabled EDGE counters of tile
`t`. Nothing is counted from step H1 on (R497) nor while the block is gated (R500). `q` is the mask or number the
qualifier must meet. -/
def State.perfEvent (s : State) (t no q d : Nat) : State :=
  if s.md.mode == .holdup || bitOf (s.tile t).clk.gated 0 then s
  else
    (List.range 64).foldl
      (fun a n =>
        let w := a.getReg (selReg t n)
        if a.counts t n && fieldOf w 28 27 == 0 && fieldOf w 29 29 == 0
            && (if no = 0x40 ∨ no = 0x60 then fieldOf w 15 8 == no && fieldOf w 7 0 == q else evMatches w no q)
        then State.cntAdd 2 a t n d else a) s

/-- R498: a counter in LEVEL mode advances with the SYS clock, which the model does not have: what it has counted by
the time it is read is a free value (notes/assumptions/3.md). -/
def State.settleLevel (s : State) (t : Nat) : State :=
  (List.range 64).foldl
    (fun a n =>
      if a.counts t n && a.fld (selReg t n) 28 27 == 1 && a.md.mode != .holdup then
        (a.setCnt t n (a.freeNow % 2 ^ 36)).bumpFree
      else a) s

/-! ### Bandwidth windows (R506, R507) -/

/-- Change window `w`. -/
def State.modWin (s : State) (w : Nat) (f : PerfWin → PerfWin) : State := { s with wins := vmod w f s.wins }

/-- PERF_WIN_CTL of window `w`. -/
def winCtl (w : Nat) : Nat := Reg.PERF_WIN_CTL + 8 * w

/-- R507: MODE of window `w`. -/
def State.winMode (s : State) (w : Nat) : Nat := s.fld (winCtl w) 15 14

/-- R506: a read response line or a write completion of head `h` is counted by every window open for it. -/
def State.winCount (s : State) (h : Nat) (write : Bool) : State :=
  { s with wins := vmap (fun p =>
      if bitOf p.openHeads h then
        if write then { p with wr := aput h (satAdd 0xFFFFFFFF (agetD h 0 p.wr) 1) p.wr }
        else { p with rd := aput h (satAdd 0xFFFFFFFF (agetD h 0 p.rd) 1) p.rd }
      else p) s.wins }

/-- R507: window `w` opens for the heads given. -/
def State.winOpen (s : State) (w heads : Nat) : State :=
  s.modWin w (fun p =>
    { p with openHeads := p.openHeads ||| heads, rd := adelWhere (bitOf heads) p.rd, wr := adelWhere (bitOf heads) p.wr })

/-- R507: window `w` closes for the heads given: the counts, the duration and SEQ are loaded in one cycle. -/
def State.winClose (s : State) (w heads us : Nat) (short : Bool) : State :=
  s.modWin w (fun p =>
    if (p.openHeads &&& heads) = 0 then p
    else
      { p with openHeads := p.openHeads - (p.openHeads &&& heads), rdLast := p.rd, wrLast := p.wr,
               rd := adelWhere (bitOf heads) p.rd, wr := adelWhere (bitOf heads) p.wr,
               short := short, seq := (p.seq + 1) % 256, duration := min 0xFFFFF us })

/-- R507: windows of a mode that are open close early, for every head. -/
def State.winCloseAll (s : State) (p : Nat → Bool) (us : Nat) : State :=
  (List.range 16).foldl (fun a w => if p (a.winMode w) then a.winClose w 0xFF us true else a) s

/-! ### Owned resources (01_architecture.md R27, R29) -/

/-- R27: refuse a claim made through a register: CFG_CONFLICT, with the resource named. -/
def State.cfgConflict (s : State) (cls tile idx : Nat) : State :=
  (((s.latchOnly Reg.CFG_STATUS 0).setFld Reg.CFG_STATUS 18 16 tile).setFld Reg.CFG_STATUS 15 12 cls).setFld
    Reg.CFG_STATUS 11 4 idx

/-- R440: a gated write was ignored. -/
def State.cfgIgnored (s : State) : State := s.latchOnly Reg.CFG_STATUS 1

/-- R27 class 1: PHASE_IN is owned by Belfry. -/
def State.phaseByBelfry (s : State) : Bool := s.bel.source == 1

/-- R27 class 1: PHASE_IN is owned by trimming. -/
def State.phaseByTrim (s : State) : Bool := s.fld Reg.BELFRY_TRIM_CTL 15 14 == 2

end Sys2Proof.Machine
end

