-- ==== Sys2Proof/Machine/BelfryOps.lean ====
section
/-! DEFINITION. Machine/BelfryOps.lean: Belfry's shared operations (04_belfry.md): sectors, angles, limits, budgets and
overrides, the lock loop. -/

namespace Sys2Proof.Machine

open Sys2Proof

/-! ### Requests for temperature conversions (13_thermal_sled.md R388, R389) -/

/-- R388: sensors of a measurement round of tile `t`: `groups` has bit 0 for TILE, 1 for MEDIA of the channels given, 2 for
SLED. -/
def roundSensors (t groups chans : Nat) : List Nat :=
  (if bitOf groups 0 then (List.range 6).map (64 * t + ·) else [])
    ++ (if bitOf groups 1 then ((List.range 16).filter (fun k => bitOf chans (k / 2))).map (64 * t + 8 + ·) else [])
    ++ (if bitOf groups 2 then (List.range 8).map (512 + ·) else [])

/-- R384: group of a sensor: 0 TILE, 1 MEDIA, 2 SLED. -/
def sensorGroup (id : Nat) : Nat := if 512 ≤ id then 2 else if id % 64 < 6 then 0 else 1

/-- R404: number of a sensor within its group: diodes and remote diodes 0 to 5, thermistor k of channel c 2c + k, sled 0 to 7. -/
def sensorNo (id : Nat) : Nat := if 512 ≤ id then id - 512 else if id % 64 < 6 then id % 64 else id % 64 - 8

/-- The tile of a sensor as events name it; 15 for the sled. -/
def sensorTile (id : Nat) : Nat := if 512 ≤ id then 15 else id / 64

/-- R384: a sensor of the part. -/
def State.sensorExists (s : State) (id : Nat) : Bool :=
  decide (512 ≤ id ∧ id < 520) || (decide (id < 512) && s.alive (id / 64) && (decide (id % 64 < 6) || decide (8 ≤ id % 64 ∧ id % 64 < 24)))

/-- A sensor by id. -/
def State.sensor (s : State) (id : Nat) : Sensor := agetD id {} s.thm.sensors

/-- Change a sensor. -/
def State.modSensor (s : State) (id : Nat) (f : Sensor → Sensor) : State :=
  s.modThm (fun x => { x with sensors := aput id (f (agetD id {} x.sensors)) x.sensors })

/-- R389: a conversion of the sensor, requested at a priority, may run now: none in Off, or in Standby for TILE and MEDIA; in Hold-up only TILE
conversions that the guard (3) or the second conversion of R392 asks for. -/
def State.convAllowed (s : State) (id prio : Nat) : Bool :=
  s.sensorExists id &&
    match s.md.mode with
    | .off => false
    | .holdup => sensorGroup id == 0 && (prio == 3 || (s.sensor id).shutWait)
    | .standby => sensorGroup id == 2
    | _ => sensorGroup id == 2 || s.md.resetsReleased

/-- R389: the request a converter takes next: the one of the highest priority; of several the sensor of the lowest number
(notes/assumptions/150.md). -/
def State.convNext (s : State) (c : Nat) : Option (Nat × Nat) :=
  s.thm.sensors.foldl (fun (b : Option (Nat × Nat)) e =>
    match e.2.request with
    | some p =>
      if sensorTile e.1 == c && s.convAllowed e.1 p then
        match b with
        | some (i, q) => if p < q ∨ (p = q ∧ e.1 < i) then some (e.1, p) else b
        | none => some (e.1, p)
      else b
    | none => b) none

/-- R389: an idle converter starts its next conversion. -/
def State.convStart (s : State) (c : Nat) : State :=
  if (aget c s.thm.converting).isSome then s
  else match s.convNext c with
    | none => s
    | some (id, p) => (s.modSensor id (fun k => { k with request := none })).modThm (fun x => { x with converting := aput c (id, p) x.converting })

/-- R389: the sensor is being converted. -/
def State.converts (s : State) (id : Nat) : Bool := match aget (sensorTile id) s.thm.converting with | some (i, _) => i == id | none => false

/-- R389: requests are queued; one for a sensor that is queued already merges with it and takes the higher priority. Idle converters start. -/
def State.requestConv (s : State) (ids : List Nat) (prio : Nat) : State :=
  let s1 := s.modThm (fun x => { x with sensors := ids.foldl (fun l i =>
    let k : Sensor := agetD i {} l
    aput i { k with request := some (match k.request with | some p => min p prio | none => prio) } l) x.sensors })
  (List.range 16).foldl (fun a c => if ids.any (fun i => sensorTile i == c) then a.convStart c else a) s1

/-! ### Sectors (R115 to R123) -/

/-- R121: the schedule runs in Serve, Degraded and Sealed. -/
def State.schedRuns (s : State) : Bool := s.md.inService3

/-- R121: a class may work on a tile: Sealed tiles and shed stages idle some classes. Class numbers as in R117. -/
def State.classRuns (s : State) (t cls : Nat) : Bool :=
  s.schedRuns && !(bitOf s.md.sealed t && [1, 2, 4, 5, 6].contains cls)
    && !(decide (1 ≤ s.pw.stage) && [3, 2, 4, 9].contains cls)
    && !(decide (2 ≤ s.pw.stage) && [1, 5].contains cls)

/-- Entry `i` of tile `t`. -/
def State.schedEntry (s : State) (t i : Nat) : SchedEntry := (s.tile t).bel.sched.getD i {}

/-- R115: entry `i` runs a sector on tile `t`. -/
def State.sectorOn (s : State) (t i : Nat) : Bool := bitOf (s.tile t).bel.active i

/-- R117: an active entry of the class covers channel `c` of tile `t` with budget left. Channel 8 stands for a pooled or
channel-free budget. -/
def State.sectorBudget (s : State) (t cls c : Nat) : Option Nat :=
  (List.range 64).find? (fun i =>
    let e := s.schedEntry t i
    let cap := if cls = 6 then e.budget * popCount e.chans 8 else e.budget
    s.sectorOn t i && e.cls == cls && (c == 8 || bitOf e.chans c) && s.classRuns t cls
      && decide (agetD (16 * i + (if cls = 6 then 8 else c)) 0 (s.tile t).bel.spent < cap))

/-- R117: spend one unit of an entry's budget on a channel. -/
def State.spend (s : State) (t i c : Nat) : State :=
  let k := 16 * i + (if (s.schedEntry t i).cls = 6 then 8 else c)
  s.modBelT t (fun b => { b with spent := aput k (agetD k 0 b.spent + 1) b.spent })

/-- R120: urgent work outside its sector: the first in a tile turn counts the turn and is recorded. -/
def State.override (s : State) (t cls : Nat) : State :=
  if (s.tile t).bel.overrideTurn then s
  else
    (s.modBelT t (fun b => { b with overrideTurn := true, overrides := satAdd 0xFFFF b.overrides 1 })).latch
      Reg.BELFRY_ERR_STATUS 9 Gb.BELFRY_OVERRIDE t [t, cls]

/-- R122: the profile entry that covers the tile's angle; none before step 12 and in Hold-up. -/
def State.profileNow (s : State) (t : Nat) : Option Nat :=
  if s.md.mode == .holdup then none else (s.tile t).bel.profile[s.tileAngle t / 2048]?

/-- R122: PROG_MAX with the reductions of the shed stages; none where no profile applies. -/
def State.progMaxProfile (s : State) (t : Nat) : Option Nat :=
  (s.profileNow t).map (fun p =>
    let m := min 16 (p / 2048 % 32)
    let r := if s.pw.stage = 1 then m * 3 / 4 else if s.pw.stage = 2 then m / 2 else m
    if m = 0 then 0 else max 1 r)

/-- R122: CLEAR_MAX; none where no profile applies. -/
def State.clearMaxProfile (s : State) (t : Nat) : Option Nat :=
  (s.profileNow t).map (fun p => min 16 (p / 64 % 32))

/-! ### Angles (R101, R113) -/

/-- R113: a move from `a` to `b` is forward; half a turn counts as forward. -/
def fwdMove (a b : Nat) : Bool := decide ((b + 65536 - a) % 65536 ≤ 32768)

/-- R111: `d` ticks have passed: what is left of a slew. -/
def Slew.pass (d : Nat) (l : Slew) : Slew := { l with left := l.left - d }

/-- R100, R20: the accumulator stands at `a`, and with it the copies that the tiles hold of the tick count. -/
def State.setRefAngle (s : State) (a : Nat) : State :=
  let s1 := s.modBel (fun b =>
    { b with refAngle := a % 2 ^ 48,
             slews := (b.slews.map (Slew.pass ((a + 2 ^ 48 - b.refAngle % 2 ^ 48) % 2 ^ 48 / 2 ^ 32))).filter (fun l => decide (0 < l.left)) })
  s1.aliveTiles.foldl (fun x t => x.modBelT t (fun b => { b with tick := a % 2 ^ 48 / 2 ^ 32 })) s1

/-- R101: time has brought the angle of tile `t` to `a`; the reference and the other angles stand with it as their offsets say. -/
def State.setTileAngle (s : State) (t a : Nat) : State := s.setRefAngle ((a + t * s.bel.stagger + s.bel.offset) * 2 ^ 32)

/-- R113: how far a sector running at `a` is from its end. -/
def SchedEntry.toEnd (e : SchedEntry) (a : Nat) : Nat := (e.stop + 2 * 65536 - 1 - a) % 65536 + 1

/-- Ticks since the start of a sector running at `a`. -/
def SchedEntry.sinceStart (e : SchedEntry) (a : Nat) : Nat := (a + 65536 - e.start) % 65536

/-- R113: a move from `a` to `b` leaves a sector that runs: forward across its end, or backward across its start. -/
def SchedEntry.leftBy (e : SchedEntry) (a b : Nat) : Bool :=
  if fwdMove a b then decide (e.toEnd a ≤ (b + 65536 - a) % 65536) else decide (e.sinceStart a < (a + 65536 - b) % 65536)

/-! ### The lock loop (R106, R111) -/

/-- Difference of two 32-bit angles with 16 fraction bits, as a signed number. -/
def angleDiff (expected at_ : Nat) : Int :=
  let d : Nat := (expected + 2 ^ 32 - at_ % 2 ^ 32) % 2 ^ 32
  if d < 2 ^ 31 then (d : Int) else (d : Int) - 2 ^ 32

/-- R111: ticks of a time in ns at a turn period in µs. -/
def ticksOf (ns period : Nat) : Rat := (ns * 65536 : Nat) / ((period * 1000 : Nat) : Rat)

/-- R111: the period measured over two turns differs from TURN_PERIOD by more than 500 ppm. -/
def offRange (twoTurnsNs period : Nat) : Bool :=
  let want := 2 * period * 1000
  decide (500 * want < (if want ≤ twoTurnsNs then twoTurnsNs - want else want - twoTurnsNs) * 1000000)

/-- BELFRY_STATUS PHASE_ERR: signed ticks, rounded down (notes/assumptions/130.md), saturating at ±32,767. -/
def phaseErrOf (e : Int) : Int :=
  let t := e / 65536
  if 32767 < t then 32767 else if t < -32767 then -32767 else t

/-- R131 FREQ_ERR: the estimate relative to the crystal in 0.01 ppm. -/
def Belfry.freqErr (b : Belfry) : Int := ((b.freq - 1) * 100000000).floor

end Sys2Proof.Machine
end

