-- ==== Sys2Proof/Machine/GeoOps.lean ====
section
/-! DEFINITION. Machine/GeoOps.lean: where things lie: the tile interleave, mesh routes, frames and sets, locators, planes
and blocks, Cupola stripes and Caravan rows; and access to the tiles' data-path state. -/

namespace Sys2Proof.Machine

open Sys2Proof

/-! ### Access to tile state -/

/-- Change the tracker and hazard table of tile `t`. -/
def State.modTxn (s : State) (t : Nat) (f : Txn → Txn) : State := s.modTile t (fun x => { x with txn := f x.txn })

/-- Change the Front Store of tile `t`. -/
def State.modFs (s : State) (t : Nat) (f : FrontStore → FrontStore) : State := s.modTile t (fun x => { x with fs := f x.fs })

/-- Change the media of tile `t`. -/
def State.modMed (s : State) (t : Nat) (f : Media → Media) : State := s.modTile t (fun x => { x with med := f x.med })

/-- Change channel `c` of tile `t`. -/
def State.modCh (s : State) (t c : Nat) (f : Channel → Channel) : State :=
  s.modMed t (fun m => { m with chans := vmod c f m.chans })

/-- Change Translation of tile `t`. -/
def State.modXl (s : State) (t : Nat) (f : Xlate → Xlate) : State := s.modTile t (fun x => { x with xl := f x.xl })

/-- Change the integrity engine of tile `t`. -/
def State.modInt (s : State) (t : Nat) (f : Integ → Integ) : State := s.modTile t (fun x => { x with int := f x.int })

/-- Change Cupola on tile `t`. -/
def State.modCupT (s : State) (t : Nat) (f : CupTile → CupTile) : State := s.modTile t (fun x => { x with cup := f x.cup })

/-- Change Caravan on tile `t`. -/
def State.modCarT (s : State) (t : Nat) (f : CarTile → CarTile) : State := s.modTile t (fun x => { x with car := f x.car })

/-- Change head `h`. -/
def State.modHead (s : State) (h : Nat) (f : Head → Head) : State := s.modTile h (fun x => { x with head := f x.head })

/-- Change Caravan of the package. -/
def State.modCar (s : State) (f : Caravan → Caravan) : State := { s with car := f s.car }

/-- Change Cupola of the package. -/
def State.modCup (s : State) (f : Cupola → Cupola) : State := { s with cup := f s.cup }

/-- Change capacity. -/
def State.modCap (s : State) (f : Capacity → Capacity) : State := { s with cap := f s.cap }

/-- Change the security engine. -/
def State.modSec (s : State) (f : Security → Security) : State := { s with sec := f s.sec }

/-- Change the package's jobs. -/
def State.modJobs (s : State) (f : Jobs → Jobs) : State := { s with jobs := f s.jobs }

/-- Head `h`. -/
def State.head (s : State) (h : Nat) : Head := (s.tile h).head

/-- Channel `c` of tile `t`. -/
def State.chan (s : State) (t c : Nat) : Channel := vget c {} (s.tile t).med.chans

/-- Distinct elements of a list. -/
def distinct (l : List Nat) : List Nat := l.foldl (fun acc x => if acc.contains x then acc else acc ++ [x]) []

/-! ### Interleave (01_architecture.md R21) -/

/-- R21: XOR of the `k`-bit fields of a 32-bit segment number, over `n` fields. -/
def foldFields (k : Nat) : Nat → Nat → Nat
  | 0, _ => 0
  | n + 1, x => (x % 2 ^ k) ^^^ foldFields k n (x / 2 ^ k)

/-- R21: fold(s). -/
def foldSeg (k x : Nat) : Nat := foldFields k ((32 + k - 1) / k) (x % 2 ^ 32)

/-- R21: owning tile of package segment `x`. -/
def State.segTile (s : State) (x : Nat) : Nat := foldSeg s.kBits x

/-- R21: local segment number of package segment `x`. -/
def State.segLocal (s : State) (x : Nat) : Nat := x % 2 ^ 32 / 2 ^ s.kBits

/-- R21: package segment of local segment `l` of tile `t`. -/
def State.segOf (s : State) (t l : Nat) : Nat :=
  let k := s.kBits
  (l * 2 ^ k) ||| (t ^^^ foldSeg k (l * 2 ^ k))

/-! ### Mesh routes (R16, R17, R19) -/

/-- R16: the tile that port `d` of tile `t` leads to; on a CZ2 the three ports are one link. -/
def State.portTo (s : State) (t d : Nat) : Nat :=
  if s.pop.tiles = 2 then 1 - t else if s.pop.tiles = 4 then t ^^^ (d + 1) else t ^^^ (2 ^ d)

/-- R19: the key of the link at port `d` of tile `t`, the same from both ends; the ganged ports of a CZ2 are one link. -/
def State.linkKey (s : State) (t d : Nat) : Nat := 8 * min t (s.portTo t d) + (if s.pop.tiles = 2 then 0 else d)

/-- R19: the link at port `d` of tile `t` works. -/
def State.linkUp (s : State) (t d : Nat) : Bool := !(agetD (s.linkKey t d) false s.md.fenced)

/-- R16: ports that are links of their own. -/
def State.ports (s : State) : List Nat := if s.pop.tiles = 2 then [0] else [0, 1, 2]

/-- R19: tiles reached from those given in one more hop over working links. -/
def State.spread (s : State) (l : List Nat) : List Nat :=
  s.present.filter (fun t => l.contains t || (s.ports.any (fun d => s.linkUp t d && l.contains (s.portTo t d))))

/-- R19: hops from `t` to `dst` over working links; none when no route reaches it. -/
def State.hops (s : State) (t dst : Nat) : Option Nat :=
  (List.range 8).find? (fun n => ((List.range n).foldl (fun l _ => s.spread l) [dst]).contains t)

/-- R17: the port a message leaves on while every link works. -/
def State.homePort (s : State) (t dst : Nat) : Nat :=
  let x := t ^^^ dst
  if s.pop.tiles = 2 then 0 else if s.pop.tiles = 4 then x - 1
  else if bitOf x 0 then 0 else if bitOf x 1 then 1 else 2

/-- R17, R19: the port tile `t` forwards a message for `dst` on. -/
def State.routePort (s : State) (t dst : Nat) : Option Nat :=
  match s.hops t dst with
  | none => none
  | some n =>
    let ok := s.ports.filter (fun d => s.linkUp t d &&
      (match s.hops (s.portTo t d) dst with | some m => decide (m < n) | none => false))
    if ok.contains (s.homePort t dst) then some (s.homePort t dst) else ok.head?

/-- R18: traffic classes of message bodies. -/
def MsgBody.cls : MsgBody → Nat
  | .heartbeat | .tick _ | .stage _ | .fence .. | .failed _ => 0
  | .memReq _ | .memRsp .. => 1
  | .delta _ | .ack .. => 2
  | .mgmt => 3

/-- 18_performance_counters.md R501: flits sent on a port in a class are counted; how many flits a message takes is a
free value (notes/assumptions/3.md). -/
def State.perfMesh (s : State) (t port cls : Nat) : State :=
  let picks (n : Nat) : Bool :=
    let w := s.getReg (selReg t n)
    s.counts t n && fieldOf w 29 29 == 0 && fieldOf w 15 8 == 0x10 && bitOf (fieldOf w 2 0) port && bitOf (fieldOf w 7 4) cls
  let l := (List.range 64).filter picks
  if l.isEmpty || s.md.mode == .holdup then s
  else (l.foldl (fun a n => State.cntAdd 2 a t n (s.freeNow % 2 ^ 36)) s).bumpFree

/-- R17, R18: put a message on the link that tile `t` forwards it on; on each link and class messages stay in order. Where no working
route leads to its destination it is lost (R19, R275). -/
def State.meshPut (s : State) (t : Nat) (m : Msg) : State :=
  match s.routePort t m.dst with
  | none => s
  | some d =>
    let k := 16 * s.portTo t d + 4 * d + m.body.cls
    (s.modJobs (fun j => { j with links := aput k (agetD k [] j.links ++ [m]) j.links })).perfMesh t d m.body.cls

/-- R76: two MEM messages go from the same tile to the same tile. -/
def Msg.samePair (a b : Msg) : Bool := a.src == b.src && a.dst == b.dst && a.body.cls == 1 && b.body.cls == 1

/-- R76: a new message must wait at its source: messages of its pair are still on a route that has changed, or wait themselves. -/
def State.holdsBack (s : State) (m : Msg) : Bool :=
  s.jobs.heldBack.any (Msg.samePair m) || s.jobs.links.any (fun e => e.2.any (fun x => x.old && m.samePair x))

/-- R17, R18, R76: tile `t` sends or forwards a message; a new one of a pair whose route has changed is held back. -/
def State.meshSend (s : State) (t : Nat) (m : Msg) : State :=
  if t = m.src && s.holdsBack m then s.modJobs (fun j => { j with heldBack := j.heldBack ++ [m] }) else s.meshPut t m

/-- R76: held-back messages leave, oldest first, once every message of their pair has left the old route. -/
def State.releaseHeld (s : State) : State :=
  s.jobs.heldBack.foldl (fun a m => a.meshSend m.src m) (s.modJobs (fun j => { j with heldBack := [] }))

/-- R17, R19: the links by which a message of tile `t` reaches `dst`, as link keys. -/
def State.route (s : State) (dst : Nat) : Nat → Nat → List Nat
  | 0, _ => []
  | n + 1, t => if t = dst then [] else match s.routePort t dst with
    | none => []
    | some d => s.linkKey t d :: State.route s dst n (s.portTo t d)

/-- R18: a SYNC message of the primary to every other tile. -/
def State.syncAll (s : State) (b : MsgBody) : State :=
  (s.aliveTiles.filter (· != s.md.primary)).foldl (fun a t => a.meshSend s.md.primary { src := s.md.primary, dst := t, body := b }) s

/-! ### Media geometry (06_medium.md R170, 07_translation.md R209 to R213, R230) -/

/-- R170: channel of a locator. -/
def locCh (l : Nat) : Nat := l / 2 ^ 26 % 8

/-- R170: rank of a locator. -/
def locRank (l : Nat) : Nat := l / 2 ^ 24 % 4

/-- R170: plane of a locator. -/
def locPlane (l : Nat) : Nat := l / 2 ^ 22 % 4

/-- Block number (bits 28:8) of a locator. -/
def locBlk (l : Nat) : Nat := l / 256

/-- R213: plane number of a locator. -/
def planeNo (l : Nat) : Nat := locCh l + 8 * (locPlane l + 4 * locRank l)

/-- R213: planes of a tile. -/
def State.planes (s : State) : Nat := 32 * s.pop.ranks

/-- R170: number of the first block of plane number `p`. -/
def planeBase (p : Nat) : Nat := (p % 8) * 2 ^ 18 + (p / 32) * 2 ^ 16 + (p / 8 % 4) * 2 ^ 14

/-- Blocks of a plane. -/
def planeBlocks (p : Nat) : List Nat := (List.range 16384).map (planeBase p + ·)

/-- Channel of a block. -/
def blkCh (b : Nat) : Nat := locCh (b * 256)

/-- Rank of a block. -/
def blkRank (b : Nat) : Nat := locRank (b * 256)

/-- Plane number of a block. -/
def blkPlane (b : Nat) : Nat := planeNo (b * 256)

/-- 07_translation.md, The segment map: local segments of a tile. -/
def State.segs (s : State) : Nat := 117440512 * s.pop.ranks

/-- R211 M: metadata blocks of a tile. -/
def State.metaBlocks (s : State) : Nat := 1808 * s.pop.ranks + 130 + 16 * s.pop.ranks

/-- R230: Hold-up reserve of one plane. -/
def State.reservePer (s : State) : Nat := (framesOf s.pop / 256 + 64 + s.planes - 1) / s.planes

/-- R211: metadata blocks on plane number `p`: an even share of the rings, the journal block share of its channel, and the
calibration blocks of plane 0 of each rank (layout: notes/assumptions/14.md). -/
def State.metaPer (s : State) (p : Nat) : Nat :=
  let rings := 1808 * s.pop.ranks / s.planes + (if p < 1808 * s.pop.ranks % s.planes then 1 else 0)
  let c := p % 8
  let jb := if c < 2 then 17 else 16
  let perCh := 4 * s.pop.ranks
  let j := jb / perCh + (if p / 8 < jb % perCh then 1 else 0)
  let cal := if p / 8 % 4 = 0 then 2 else 0
  rings + j + cal

/-- 06_medium.md R195: on plane 0 of a rank blocks 0 and 1 hold calibration pages and 2 to 15 are ordinary blocks, so
that the rings start at block 16; on the other planes they start at block 0. -/
def ringBase (p : Nat) : Nat := if p / 8 % 4 = 0 then 16 else 0

/-- First block of plane number `p` after its rings. -/
def State.metaEnd (s : State) (p : Nat) : Nat := s.metaPer p + (if p / 8 % 4 = 0 then 14 else 0)

/-- R211, R230: a block as the format lays it out: metadata, then the reserve, then FREE blocks of each plane. -/
def State.blkDefault (s : State) (b : Nat) : Blk :=
  let i := b % 16384
  let p := blkPlane b
  if ringBase p = 16 ∧ 2 ≤ i ∧ i < 16 then {}
  else if i < s.metaEnd p then { st := .ring, frontier := 3 } else if i < s.metaEnd p + s.reservePer then { st := .reserve } else {}

/-- A block of a tile. -/
def State.blk (s : State) (t b : Nat) : Blk := agetD b (s.blkDefault b) (s.tile t).xl.blocks

/-- Change a block. -/
def State.modBlk (s : State) (t b : Nat) (f : Blk → Blk) : State :=
  let v := f (s.blk t b)
  let d := s.blkDefault b
  s.modXl t (fun x => { x with blocks := aputD d b v x.blocks })

/-- The listed blocks of a plane, and those that no entry lists stand as `blkDefault` gives. -/
def State.listedOn (s : State) (t p : Nat) : List (Nat × Blk) :=
  (s.tile t).xl.blocks.filter (fun e => blkPlane e.1 == p)

/-- Blocks of a plane in a state. -/
def State.countSt (s : State) (t p : Nat) (st : BlkSt) : Nat :=
  let l := s.listedOn t p
  let dflt := match st with
    | .free => 16384 - s.metaPer p - s.reservePer
    | .reserve => s.reservePer
    | .ring => s.metaPer p
    | _ => 0
  dflt - (l.filter (fun e => (s.blkDefault e.1).st == st)).length + (l.filter (fun e => e.2.st == st)).length

/-- R216: free(q). -/
def State.freeOn (s : State) (t p : Nat) : Nat := s.countSt t p .free

/-- Block numbers of a plane in a state but for those given, ascending: those listed, and the first one that no entry lists. -/
def State.candidatesBut (s : State) (t p : Nat) (st : BlkSt) (but : List Nat) : List Nat :=
  let l := s.listedOn t p
  let listed := (l.filter (fun e => e.2.st == st && !but.contains e.1)).map (·.1)
  let lo := match st with
    | .free => s.metaEnd p + s.reservePer
    | .reserve => s.metaEnd p
    | _ => 16384
  let hi := match st with | .free => 16384 | .reserve => s.metaEnd p + s.reservePer | _ => 16384
  let low := if st == .free && ringBase p == 16 then (List.range 14).map (fun i => planeBase p + 2 + i) else []
  let fresh := (low ++ (List.range (l.length + but.length + 1)).map (fun i => planeBase p + lo + i)).find?
    (fun b => decide (b < planeBase p + hi) && !(ahas b (s.tile t).xl.blocks) && !but.contains b)
  match fresh with
  | some b => b :: listed
  | none => listed

/-- Block numbers of a plane in a state, ascending: those listed, and the first one that no entry lists. -/
def State.candidates (s : State) (t p : Nat) (st : BlkSt) : List Nat := s.candidatesBut t p st []

/-- The element with the least (or greatest) key; ties go to the lower number. -/
def pickBy (most : Bool) (key : Nat → Nat) : List Nat → Option Nat
  | [] => none
  | a :: l =>
    some (l.foldl (fun m x =>
      let better := if most then decide (key m < key x) else decide (key x < key m)
      if better then x else if key x = key m ∧ x < m then x else m) a)

/-! ### Frames and sets (05_front_store.md R137, R138) -/

/-- R137: ways for a WAYS code. -/
def waysOf (c : Nat) : Nat := 2 ^ (c % 4 + 1)

/-- R137: ways in force. -/
def State.ways (s : State) : Nat := waysOf s.jobs.ways

/-- R138: S = log2(number of sets). -/
def State.setBits (s : State) : Nat := Nat.log2 (framesOf s.pop / s.ways)

/-- R138: set(l). -/
def State.setOf (s : State) (l : Nat) : Nat := foldFields s.setBits ((29 + s.setBits - 1) / s.setBits) (l % 2 ^ 29)

/-- R138: tag(l). -/
def State.tagOf (s : State) (l : Nat) : Nat := l % 2 ^ 29 / 2 ^ s.setBits

/-- R138: segment(set, tag). -/
def State.segOfTag (s : State) (set tag : Nat) : Nat :=
  let b := s.setBits
  (tag * 2 ^ b) ||| (set ^^^ foldFields b ((29 + b - 1) / b) (tag * 2 ^ b % 2 ^ 29))

/-- R137: frame numbers of a set. -/
def State.setFrames (s : State) (set : Nat) : List Nat := (List.range s.ways).map (set * s.ways + ·)

/-! ### Pseudo-LRU trees (R139, R145, 07_translation.md R206) -/

/-- Point the bits of `way`'s path away from it: node 1 is the root, bit n − 1 belongs to node n, and a 1 points to the
upper half. -/
def plruTouch (levels : Nat) (bits way : Nat) : Nat :=
  ((List.range levels).foldl (fun (p : Nat × Nat) i =>
    let up := bitOf way (levels - 1 - i)
    (putBit p.1 (p.2 - 1) (!up), 2 * p.2 + b2n up)) (bits, 1)).1

/-- Walk the tree to a way that `ok` allows; a subtree that holds none is passed over. -/
def plruPick (ok : Nat → Bool) (bits : Nat) : Nat → Nat → Nat → Option Nat
  | 0, _, base => if ok base then some base else none
  | k + 1, node, base =>
    let up := bitOf bits (node - 1)
    let lo := plruPick ok bits k (2 * node) base
    let hi := plruPick ok bits k (2 * node + 1) (base + 2 ^ k)
    match if up then hi else lo with
    | some w => some w
    | none => if up then lo else hi

/-! ### Cupola stripes (08_integrity.md R267, R268) -/

/-- R267 P. -/
def State.cupP (s : State) : Nat := s.segs / s.pop.tiles

/-- R267 R: parity segments of a tile. -/
def State.cupR (s : State) : Nat := s.cup.regions * s.cupP / 16

/-- R267: the stripe (parity tile, q, m) of local `l` of tile `t`; none where no enabled region covers it. -/
def State.stripeOf (s : State) (t l : Nat) : Option (Nat × Nat × Nat) :=
  let n := s.pop.tiles
  let k := n - 1
  if l < k * s.cupR then
    let m := l % k
    some ((t + 2 * n - m - 1) % n, l / k, m)
  else none

/-- R267: local of the parity of stripe q. -/
def State.parLocal (s : State) (q : Nat) : Nat := s.segs - s.cupR + q

/-- R267: local `l` is a parity segment. -/
def State.isParity (s : State) (l : Nat) : Bool := decide (s.segs - s.cupR ≤ l ∧ l < s.segs)

/-- R267: member m of stripe (p, q): tile and local. -/
def State.memberOf (s : State) (p q m : Nat) : Nat × Nat :=
  ((p + 1 + m) % s.pop.tiles, (s.pop.tiles - 1) * q + m)

/-- R22: segments a tile exports. -/
def State.exported (s : State) : Nat := s.segs - s.cupR

/-- 02_host_ports.md: blocks of 256 MiB the package exports. -/
def State.pkgBlocks (s : State) : Nat := s.exported * s.pop.tiles / 65536

/-! ### Caravan rows (09_caravan.md R286, R287) -/

/-- Row of a package block in the range, when there is one. -/
def State.carRow (s : State) (blk : Nat) : Option Nat :=
  if s.car.inGroup && decide (s.car.base ≤ blk ∧ blk < s.car.base + s.car.blocks) then some (blk - s.car.base) else none

/-- R286: member that holds P of row b. -/
def Caravan.pOf (c : Caravan) (b : Nat) : Nat := b % c.n

/-- R286: member that holds Q of row b. -/
def Caravan.qOf (c : Caravan) (b : Nat) : Nat := (b + 1) % c.n

/-- R285 r. -/
def Caravan.r (c : Caravan) : Nat := if c.rs then 2 else 1

/-- R285 k. -/
def Caravan.k (c : Caravan) : Nat := c.n - c.r

/-- R286: data member index of member `i` in row b; none when it holds parity there. -/
def Caravan.dataIdx (c : Caravan) (b i : Nat) : Option Nat :=
  let m := (i + 2 * c.n - (b % c.n) - c.r) % c.n
  if m < c.k then some m else none

/-- The index this package acts under: its own, or the one it takes (R305). -/
def Caravan.self (c : Caravan) : Nat := if c.role = 2 then c.target else c.member

/-- R287: package block `blk` holds P or Q of this package. -/
def State.carHeld (s : State) (blk : Nat) : Bool :=
  match s.carRow blk with
  | some b => (s.car.dataIdx b s.car.self).isNone && (s.car.role != 1)
  | none => false

/-- R286: stripe number of a package segment in the range. -/
def State.carStripe (s : State) (seg : Nat) : Option Nat := (s.carRow (seg / 65536)).map (fun b => b * 65536 + seg % 65536)

/-- R286: package segment of a stripe. -/
def State.carSeg (s : State) (stripe : Nat) : Nat := s.car.base * 65536 + stripe

/-- R299: row group of a row. -/
def Caravan.group' (c : Caravan) (b : Nat) : Nat := b * 4096 / c.blocks

/-- A peer by index. -/
def State.peer (s : State) (i : Nat) : Option Peer := s.car.peers.find? (fun p => p.idx == i)

/-- Change a peer. -/
def State.modPeer (s : State) (i : Nat) (f : Peer → Peer) : State :=
  s.modCar (fun c => { c with peers := c.peers.map (fun p => if p.idx = i then f p else p) })

/-- Galois field of 08_integrity.md R247: multiplication by α. -/
def gfAlpha (b : BitVec 8) : BitVec 8 := if b.msb then (b <<< 1) ^^^ 0x1D#8 else b <<< 1

/-- Multiplication of two field elements, bit by bit. -/
def gfMul (a b : BitVec 8) : BitVec 8 :=
  ((List.range 8).foldl (fun (p : BitVec 8 × BitVec 8) i =>
    (if b.getLsbD i then p.1 ^^^ p.2 else p.1, gfAlpha p.2)) (0#8, a)).1

/-- α to a power. -/
def gfPow : Nat → BitVec 8
  | 0 => 1#8
  | n + 1 => gfAlpha (gfPow n)

/-- The inverse: a to the 254th power. -/
def gfInv (a : BitVec 8) : BitVec 8 := (List.range 254).foldl (fun p _ => gfMul p a) 1#8

/-- Byte `j` of a line. -/
def lineByte (l : Line) (j : Nat) : BitVec 8 := l.extractLsb' (8 * j) 8

/-- A line from its 64 bytes. -/
def lineOf (f : Nat → BitVec 8) : Line :=
  (List.range 64).foldl (fun l j => l ||| ((f j).setWidth 512 <<< (8 * j))) 0

/-- R288: a line times a field element, byte by byte. -/
def lineScale (a : BitVec 8) (l : Line) : Line := if a = 1#8 then l else lineOf (fun j => gfMul a (lineByte l j))

/-! ### Register words that several chapters read -/

/-- A register word from its fields: top bit, low bit, value. -/
def regWord (l : List (Nat × Nat × Nat)) : W32 := l.foldl (fun w f => withField w f.1 f.2.1 f.2.2) 0

/-- 15_registers.md KRY_IDENT: VENDOR, PART and TILES. -/
def State.kryIdent (s : State) : W32 := regWord [(31, 16, 0x0B71), (15, 4, 0x0C2), (3, 0, s.pop.tiles)]

/-- 09_caravan.md CAR_STATUS. -/
def State.carStatus (s : State) : W32 :=
  let c := s.car
  regWord [(31, 31, b2n c.inGroup), (30, 30, b2n c.rs), (29, 25, c.n), (24, 20, c.member), (19, 18, c.role), (17, 16, c.work), (11, 0, c.group)]

end Sys2Proof.Machine
end

