-- ==== Sys2Proof/Machine/MedOps.lean ====
section
/-! DEFINITION. Machine/MedOps.lean: shared operations of the media channels and the integrity engine (06_medium.md,
08_integrity.md): drift offsets, the retry ladder, program and clear limits, statistics and the refresh queue. -/

namespace Sys2Proof.Machine

open Sys2Proof

/-! ### CA packets (06_medium.md R175, R176) -/

/-- R176: CRC-8 of bits: polynomial 0x07, initial value 0. -/
def crc8 (bits : List Bool) : Nat :=
  bits.foldl (fun r b => Nat.xor (2 * r % 256) (if bitOf r 7 = b then 0 else 7)) 0

/-- The low `n` bits of a number, most significant first. -/
def bitsDown (n w : Nat) : List Bool := (List.range n).map (fun i => bitOf w (n - 1 - i))

/-- A signed 8-bit field. -/
def byteField (x : Int) : Nat := (x % 256).toNat

/-- R176, CA command encodings: the words of a packet with the CRC field 0. -/
def CaCmd.body : CaCmd → List Nat
  | .readLine p l b g n oa ob oc =>
    [0x01 * 1024 + p * 256 + l, b * 4, g * 256 + (n - 1), byteField oa * 256 + byteField ob, byteField oc * 256]
  | .program p st b g => [0x02 * 1024 + p * 256 + b2n st * 128, b * 4, g * 256, 0]
  | .clear p b => [0x03 * 1024 + p * 256, b * 4, 0]
  | .suspend p => [0x04 * 1024 + p * 256, 0]
  | .resume p k => [0x05 * 1024 + p * 256 + b2n k * 128, 0]
  | .status => [0x06 * 1024, 0]
  | .setRef d a b c => [0x07 * 1024 + d, byteField a * 256 + byteField b, byteField c * 256]
  | .calibrate n => [0x08 * 1024 + n, 0]
  | .readId n => [0x09 * 1024 + n, 0]

/-- R176: the words of a packet: bits 7:0 of the last hold the CRC of all bits before them, most significant first
(notes/assumptions/136.md). -/
def CaCmd.words (c : CaCmd) : List Nat :=
  let w := c.body
  let last := w.getLastD 0
  w.dropLast ++ [last + crc8 ((w.dropLast.map (bitsDown 16)).flatten ++ bitsDown 8 (last / 256))]

/-- R176: bits 15:10 of word 0. -/
def CaCmd.opcode (c : CaCmd) : Nat := c.body.headD 0 / 1024

/-- A packet goes out on the CA bus of a channel. -/
def State.caSend (s : State) (t c rank : Nat) (cmd : CaCmd) : State := s.emit (.media t c rank cmd.words)

/-- R176, MED_CH_COUNT: a command is issued to a rank; it is the one that a rejection rejects. Each SUSPEND is counted. -/
def State.caIssue (s : State) (t c rank : Nat) (cmd : CaCmd) : State :=
  let s1 := (s.modCh t c (fun k => { k with last := some (rank, cmd), rejects := 0 })).caSend t c rank cmd
  match cmd with
  | .suspend _ => (s1.addFld (Reg.MED_CH_COUNT t + 0x10 * c) 31 16 1).perfEvent t 0x33 (2 ^ c) 1
  | _ => s1

/-- A READ_LINE of `n` lines of the page at a locator. -/
def readCmd (loc line n : Nat) (offs : List Int) : CaCmd :=
  .readLine (locPlane loc) line (loc / 256 % 2 ^ 14) (loc % 256) n (offs.getD 0 0) (offs.getD 1 0) (offs.getD 2 0)

/-! ### Factory parameters (06_medium.md R178, R189) -/

/-- R178: bits `lo` to `lo` + 7 of a READ_ID page, as a signed number. -/
def signedByte (w lo : Nat) : Int := (BitVec.ofNat 8 (w / 2 ^ lo)).toInt

/-- R178: the drift table of READ_ID page 1. -/
def factoryDrift (w : Nat) : Drift :=
  { d := [w % 256, w / 2 ^ 8 % 256, w / 2 ^ 16 % 256], c := [signedByte w 24, signedByte w 32, signedByte w 40] }

/-- R178: D_TOL of READ_ID page 1. -/
def factoryTol (w : Nat) : Nat := w / 2 ^ 48 % 256

/-- R178: BASE_TRIM of READ_ID page 1. -/
def baseTrim (w : Nat) : Int := signedByte w 56

/-- R178, R6: the identity page of an FXM64: vendor code 0x0B71 and device code 0x0064. -/
def isFxm64 (w : Nat) : Bool := w % 2 ^ 16 == 0x0B71 && w / 2 ^ 16 % 2 ^ 16 == 0x0064

/-- R178: die revision of the identity page. -/
def dieRev (w : Nat) : Nat := w / 2 ^ 32 % 256

/-- R189: the factory drift table of a rank: that of die 0, or of the lowest die that answered where die 0 did not
(notes/assumptions/137.md). -/
def Channel.factoryWord (k : Channel) (r : Nat) : Nat :=
  (((List.range 9).filterMap (fun d => aget (9 * r + d) k.ids)).headD (0, 0)).2

/-- R189: the drift table in force on a rank. -/
def Channel.driftOf (k : Channel) (r : Nat) : Drift := agetD r (factoryDrift (k.factoryWord r)) k.drift

/-! ### Drift model (06_medium.md R190, R191) -/

/-- The greatest r below 2^n with r^10 ≤ x, bit by bit from bit n − 1. -/
def root10 (x : Nat) : Nat → Nat → Nat
  | 0, r => r
  | n + 1, r => root10 x n (if (r + 2 ^ n) ^ 10 ≤ x then r + 2 ^ n else r)

/-- R190: accel(T) for a whole degree: 2^((T − 55)/10) in 1/256, rounded to nearest, halves upward, at least 1. -/
def accel (t : Int) : Nat :=
  if t < -35 then 1 else max 1 ((root10 (2 ^ (t + 35).toNat) 24 0 + 1) / 2)

/-- R190: d16 for a write age in ms and an acceleration: round(16 × log2(1 + t f / 4096)). -/
def driftDoublings (ageMs f : Nat) : Nat := (Nat.log2 ((4096 + ageMs * f) ^ 32) - 384 + 1) / 2

/-- R190: divide by `d`, rounding halves away from zero. -/
def roundAway (x : Int) (d : Nat) : Int :=
  let q : Int := ((2 * x.natAbs + d) / (2 * d) : Nat)
  if x < 0 then -q else q

/-- R190: an offset before clamping. -/
def driftRaw (d : Nat) (c : Int) (d16 : Nat) (tNow : Int) : Int :=
  roundAway ((d * d16 : Nat) + 16 * (c * (tNow - 55))) 256

/-- R190: clamp to ±127. -/
def clamp127 (x : Int) : Int := if 127 < x then 127 else if x < -127 then -127 else x

/-- R190: the offsets of a READ_LINE at a temperature. -/
def driftOffs (dr : Drift) (ageMs : Nat) (temp tNow : Int) : List Int :=
  let f := accel (if temp < tNow then tNow else temp)
  let d16 := driftDoublings ageMs f
  (List.range 3).map (fun k => driftRaw (dr.d.getD k 0) (dr.c.getD k 0) d16 tNow)

/-- R191 TEMP_AGE in ms. -/
def State.tempAge (s : State) (t : Nat) : Nat := 100 * max 1 (s.fld (Reg.MED_CTL t) 13 8)

/-- The age clock in ms, 36 bits (R14, R190). -/
def State.ageClock (s : State) : Nat := s.gb.ageMs % 2 ^ 36

/-- R191: tile diode estimate in °C: the warmest on-die diode of the tile not faulted. -/
def State.diodeTemp (s : State) (t : Nat) : Option (Int × Nat) :=
  ((List.range 4).filterMap (fun k =>
    match aget (64 * t + k) s.thm.sensors with
    | some x => if x.fault then none else some ((x.value + 4) / 8, x.atMs)
    | none => none)).foldl (fun (b : Option (Int × Nat)) e => match b with
      | none => some e
      | some x => if x.1 < e.1 then some e else some x) none

/-- R191: the estimate a read uses: °C, half width, stale. -/
def State.chTemp (s : State) (t c : Nat) : Int × Int × Bool :=
  let lim := s.tempAge t
  let now := s.gb.ageMs
  let widen (at_ : Nat) : Int × Bool :=
    if now - at_ ≤ lim then (0, false)
    else (min 40 (2 + ((now - at_ - lim) / 1000 : Nat)), true)
  match (s.chan t c).temp with
  | some (x, at_) => let (w, st) := widen at_; (x, w, st)
  | none =>
    match s.diodeTemp t with
    | some (x, at_) => let (w, st) := widen at_; (x, if st then w else 2, true)
    | none => (55, 40, true)

/-- R192: the write temperature of a page started now. -/
def State.writeTemp (s : State) (t c : Nat) : Int := let (x, w, _) := s.chTemp t c; x + w

/-- R190, R191: offsets for a page, and whether one was clamped. Under a widened estimate each of the two offsets is computed with its
clamp, and half a step of their mean rounds away from zero (notes/assumptions/138.md). -/
def State.readOffs (s : State) (t loc : Nat) (p : Page) : List Int × Bool :=
  let c := locCh loc
  let dr := (s.chan t c).driftOf (locRank loc)
  let age := (s.ageClock + 2 ^ 36 - p.age % 2 ^ 36) % 2 ^ 36
  let (x, w, _) := s.chTemp t c
  let lo := driftOffs dr age p.temp (x - w)
  let hi := driftOffs dr age p.temp (x + w)
  ((List.zip lo hi).map (fun ab => if w = 0 then clamp127 ab.1 else roundAway (clamp127 ab.1 + clamp127 ab.2) 2),
    (lo ++ hi).any (fun o => decide (127 < o ∨ o < -127)))

/-! ### Statistics and the refresh queue (08_integrity.md R262, R263, R283) -/

/-- R283: count in a word of GET_ERROR_STATS. -/
def State.stat (s : State) (t w n : Nat) : State :=
  s.modInt t (fun x => { x with stats := aputD 0 w (satAdd 0xFFFFFFFF (agetD w 0 x.stats) n) x.stats })

/-- R254, R262: the map names a page: it holds the current copy of a segment. -/
def State.holdsCurrent (s : State) (t loc : Nat) : Bool :=
  match aget loc (s.tile t).med.pages with
  | none => false
  | some p => (p.kind == .host || p.kind == .copy) && (match aget p.subject (s.tile t).xl.map with
      | some e => e.loc == loc && (e.st == .mapped || e.st == .relocating)
      | none => false)

/-- R262, R263: queue a page that holds a current copy for refresh, with displacement of the newest entry of a lower priority when the queue
is full. -/
def State.refresh (s : State) (t loc prio age : Nat) (step3 : Bool) : State :=
  let q := (s.tile t).int.queue
  if !s.holdsCurrent t loc then s
  else if q.any (fun r => r.loc == loc) then
    s.modInt t (fun x => { x with queue := x.queue.map (fun r =>
      if r.loc = loc then { r with prio := max r.prio prio, step3 := r.step3 || step3 } else r) })
  else if q.length < 65536 then
    (s.modInt t (fun x => { x with queue := x.queue ++ [({ loc := loc, prio := prio, age := age, step3 := step3 } : Refresh)] })).stat t 10 1
  else
    let prioAt (i : Nat) : Nat := ((q[i]?).map (·.prio)).getD 3
    let victim := ((List.range q.length).filter (fun i => decide (prioAt i < prio))).getLast?
    let s1 := match victim with
      | some j =>
        (s.modInt t (fun x => { x with queue := x.queue.eraseIdx j ++ [({ loc := loc, prio := prio, age := age, step3 := step3 } : Refresh)] })).stat t 10 1
      | none => s
    (s1.stat t 12 1).latch (Reg.INT_ERR_STATUS t) 4 Gb.INT_REFRESH_DROP t [t, match victim with | some j => prioAt j | none => prio]

/-! ### The line code and the ladder (08_integrity.md R250, R251, R256 to R258) -/

/-- R250: symbols in error outside the dies of a mask; symbol i lies on die i div 8. -/
def errsOut (dies : Nat) (e : List (Nat × Nat)) : List (Nat × Nat) :=
  e.filter (fun p => p.2 % 256 != 0 && !bitOf dies (p.1 / 8))

/-- R250: 2e + f ≤ 8 with the dies of the mask erased. -/
def decodes (dies : Nat) (e : List (Nat × Nat)) : Bool :=
  decide (2 * (errsOut dies e).length + 8 * popCount dies 9 ≤ 8)

/-- R257 step 2: two reads combined; symbols that differ are erased, or the second is decoded alone when more than 8
differ. -/
def pairDecodes (dead : Nat) (a b : List (Nat × Nat)) : Bool :=
  let differ := (List.range 72).filter (fun i => !bitOf dead (i / 8) && agetD i 0 a != agetD i 0 b)
  if 8 < differ.length then decodes dead b
  else decide (2 * ((errsOut dead b).filter (fun p => !differ.contains p.1)).length + differ.length + 8 * popCount dead 9 ≤ 8)

/-- R264: the pattern XORed onto a symbol target: FLIP_VALUE at each selected position, eight bits a symbol. -/
def flipPat (mask value : Nat) : Nat := total (((List.range 72).filter (bitOf mask)).map (fun i => value % 256 * 2 ^ (8 * i)))

/-- R264: symbols that a pattern changes. -/
def patSyms (p : Nat) : Nat := ((List.range 72).filter (fun i => p / 2 ^ (8 * i) % 256 != 0)).length

/-- XOR an injected flip onto a read (R266). -/
def flipErr (flips e : List (Nat × Nat)) : List (Nat × Nat) :=
  flips.foldl (fun l f => aputD 0 f.1 (agetD f.1 0 l ^^^ f.2) l) e

/-- Further re-reads of a maintenance read (R258): each alone, then with the one before. -/
def furtherReads (dead : Nat) (prev : List (Nat × Nat)) (n : Nat) :
    List (List (Nat × Nat)) → Option (Nat × Nat)
  | [] => none
  | r :: l =>
    if decodes dead r || pairDecodes dead prev r then some ((errsOut dead r).length, n + 1) else furtherReads dead r (n + 1) l

/-- R257, R258: the ladder of one line up to the re-reads: the step (0, 1 or 2) at which it decodes, symbols corrected,
reads used. None when every one fails. -/
def ladder (dead flags : Nat) (reads : List (List (Nat × Nat))) (maint : Bool) : Option (Nat × Nat) × Nat :=
  let r0 := reads.getD 0 []
  let r1 := reads.getD 1 []
  let fl := (List.range 9).filter (fun d => bitOf flags d && !bitOf dead d)
  if decodes dead r0 then (some (0, (errsOut dead r0).length), 1)
  else if fl.length = 1 && decodes (setBit dead (fl.headD 0)) r0 then (some (1, (errsOut dead r0).length), 1)
  else if pairDecodes dead r0 r1 then (some (2, (errsOut dead r1).length), 2)
  else if maint then
    match furtherReads dead r1 2 ((List.range 6).map (fun i => reads.getD (i + 2) [])) with
    | some (c, n) => (some (2, c), n)
    | none => (none, 8)
  else (none, 2)

/-- R256: what reading a page gives: the greatest step needed, lines that stay uncorrectable, symbols corrected. -/
structure PageOut where
  /-- 0 to 3. -/
  step : Nat := 0
  /-- lines that no step up to the outer code recovers. -/
  bad : List Nat := []
  /-- lines that needed step 1 or later. -/
  weak : List Nat := []
  /-- symbols corrected. -/
  corr : Nat := 0
  /-- the greatest number corrected in one line. -/
  most : Nat := 0
  deriving DecidableEq, Repr

/-- R256, R258: a page-mode read with the errors given, through the maintenance ladder. -/
def pageRead (dead : Nat) (errs : List LineErr) : PageOut :=
  let rs := errs.map (fun e => (e.line, (ladder dead e.flags e.reads true).1))
  let fails := (rs.filter (fun r => r.2.isNone)).map (·.1)
  let oks := rs.filterMap (fun r => r.2.map (fun x => (r.1, x)))
  let base := greatest (oks.map (fun o => o.2.1))
  { step := if fails.isEmpty then base else 3,
    bad := if fails.length ≤ 3 then [] else fails,
    weak := fails ++ (oks.filter (fun o => decide (1 ≤ o.2.1))).map (·.1),
    corr := total (oks.map (fun o => o.2.2)),
    most := greatest (oks.map (fun o => o.2.2)) }

/-- R257: RETRY_SHIFT in steps: units of two; 0 acts as 1. -/
def State.retryShift (s : State) : Nat := 2 * max 1 (s.fld Reg.INT_CTL 11 8)

/-- R257, R258: steps by which re-read `i` of a line is offset from the model's prediction: step 2, then the six of a maintenance read. -/
def State.rereadStep (s : State) (i : Nat) : Int := ([(0 : Int), s.retryShift, 4, -4, 12, -8, 16, 24]).getD i 0

/-- R257, R258: the READ_LINEs of the re-reads of a line, `used` array reads in all. -/
def State.rereads (s : State) (t loc line used : Nat) (offs : List Int) : State :=
  (List.range (used - 1)).foldl (fun a i => a.caIssue t (locCh loc) (locRank loc)
    (readCmd loc line 1 (offs.map (fun o => clamp127 (o + s.rereadStep (i + 1)))))) s

/-- R190: the offsets of a read of a page. -/
def State.pageOffs (s : State) (t loc : Nat) : List Int × Bool :=
  match aget loc (s.tile t).med.pages with | some p => s.readOffs t loc p | none => ([0, 0, 0], false)

/-- R250: dies marked failed on the rank of a locator. -/
def State.deadDies (s : State) (t loc : Nat) : Nat := agetD (locRank loc) 0 (s.chan t (locCh loc)).dead

/-- R261, T3: REFRESH_SYM; 0 acts as 1. -/
def State.refreshSym (s : State) : Nat := max 1 (s.fld Reg.INT_CTL 14 12)

/-- Write age of a page in ms. -/
def State.pageAge (s : State) (p : Page) : Nat := (s.ageClock + 2 ^ 36 - p.age % 2 ^ 36) % 2 ^ 36

/-- R250, R262: count corrected symbols of a read and queue its page by T1 to T4. -/
def State.readOutcome (s : State) (t loc : Nat) (o : PageOut) (clamped : Bool) : State :=
  let p := aget loc (s.tile t).med.pages
  let age := (p.map s.pageAge).getD 0
  let s1 := if o.corr = 0 then s else ((s.stat t 0 o.corr).stat t (16 + locCh loc) o.corr).perfEvent t 0x41 0 o.corr
  let s2 := if o.step = 1 then s1.stat t 1 1 else if o.step = 2 then s1.stat t 2 1
    else if o.step = 3 && o.bad.isEmpty then s1.stat t 3 1 else s1
  let s3 := if 2 ≤ o.step && o.bad.isEmpty then
      s2.latch (Reg.INT_ERR_STATUS t) 1 Gb.INT_LADDER t [t, locCh loc, o.step] else s2
  let s4 := if 3 ≤ o.step then s3.refresh t loc 2 age true
    else if 1 ≤ o.step || decide (s.refreshSym ≤ o.most) || clamped then s3.refresh t loc 1 age false else s3
  if clamped then s4.latchOnly (Reg.MED_CH_ERR_STATUS t + 0x10 * locCh loc) 5 else s4

/-! ### Program and clear limits (R122, R188) -/

/-- R188 ENV_PROG: 0 acts as 1, 13 to 15 as 12. -/
def State.envProg (s : State) (t : Nat) : Nat := max 1 (min 12 (s.fld (Reg.MED_CTL t) 7 4))

/-- R188 ENV_CLEAR. -/
def State.envClear (s : State) (t : Nat) : Nat := max 1 (min 12 (s.fld (Reg.MED_CTL t) 3 0))

/-- Programs in flight on a channel. -/
def Channel.progs (c : Channel) : List MedOp := c.ops.filter (fun o => o.job != .clear)

/-- Clears in progress on a channel. -/
def Channel.clearing (c : Channel) : List MedOp := c.ops.filter (fun o => o.job == .clear)

/-- R390: a CRIT limit that holds on channel `c` of tile `t`: a diode of the tile, a thermistor of the channel, or a sled
thermistor. -/
def State.thermCrit (s : State) (t c : Nat) : Bool :=
  s.thm.sensors.any (fun e => e.2.crit && (decide (512 ≤ e.1)
    || (e.1 / 64 == t && (decide (e.1 % 64 < 8) || (e.1 % 64 - 8) / 2 == c))))

/-- R394: a rise watch of a thermistor of channel `c` of tile `t` runs. -/
def State.riseOn (s : State) (t c : Nat) : Bool :=
  s.thm.sensors.any (fun e => e.2.rise.isSome && decide (e.1 < 512) && e.1 / 64 == t && decide (8 ≤ e.1 % 64) && (e.1 % 64 - 8) / 2 == c)

/-- R122, R188, 13_thermal_sled.md R390, R391, R394: programs allowed on channel `c`; the lowest limit wins. -/
def State.progLimit (s : State) (t c : Nat) : Nat :=
  let l := match s.progMaxProfile t with | some m => min m (s.envProg t) | none => s.envProg t
  let l1 := if s.riseOn t c then min l (max 1 (l / 2)) else l
  if s.thermCrit t c then min l1 2 else l1

/-- R188, R390: clears that the envelope and the thermal limits allow on channel `c`, suspended ones included. -/
def State.clearCap (s : State) (t c : Nat) : Nat := if s.thermCrit t c then min (s.envClear t) 1 else s.envClear t

/-- R122, R188, R390: clears allowed on channel `c`, suspended ones included; the lowest limit wins. -/
def State.clearLimit (s : State) (t c : Nat) : Nat :=
  match s.clearMaxProfile t with | some m => min m (s.clearCap t c) | none => s.clearCap t c

/-- Operations on the plane of a locator. -/
def State.planeOps (s : State) (t loc : Nat) : List MedOp :=
  (s.chan t (locCh loc)).ops.filter (fun o => planeNo o.loc == planeNo loc)

/-- R179, R181, R185: a read that serves no host can be issued to the plane of a locator: no host-serving read waits there or is in its array
phase, and no program or clear runs. -/
def State.mediaFree (s : State) (t loc : Nat) : Bool :=
  let k := s.chan t (locCh loc)
  !k.caWait && !(k.reads.any (fun q => planeNo q.loc == planeNo loc)) && (s.planeOps t loc).all (·.susp)

/-- R179, R187: a program can start on plane number `p`. A plane may hold a suspended clear, but no program, no running clear and no
host-serving read, which goes first. -/
def State.planeFree (s : State) (t p : Nat) : Bool :=
  let c := s.chan t (p % 8)
  let ops := s.planeOps t (planeBase p * 256)
  let rd := c.reads.any (fun r => planeNo r.loc == p)
  c.st == 2 && !c.caWait && bitOf c.ranks (p / 32) && !(ops.any (fun o => o.job != .clear || !o.susp)) && !rd
    && decide (c.progs.length < s.progLimit t (p % 8))

/-- Whether the rank of a locator is fenced. -/
def State.fencedLoc (s : State) (t loc : Nat) : Bool := bitOf (s.chan t (locCh loc)).fenced (locRank loc)

/-- R184, R196: DEAD_DIES of ranks in service. -/
def Channel.deadCount (c : Channel) : Nat := total (c.dead.map (fun p => if bitOf c.ranks p.1 then popCount p.2 9 else 0))

end Sys2Proof.Machine
end

