-- ==== Sys2Proof/Machine/DriftCal.lean ====
section
/-! DEFINITION. Machine/DriftCal.lean: drift calibration of a rank (06_medium.md R193, R195): the calibration pages that are found and chosen,
the offsets that the sweeps find best, the fit of D_A, D_B and D_C, its tests, and the time without power that fits best. -/

namespace Sys2Proof.Machine

open Sys2Proof

/-- R195: blocks 0 to 15 of plane 0 of the rank of channel `c`. -/
def calHomes (c r : Nat) : List Nat := (List.range 16).map (fun i => planeBase (c + 32 * r) + i)

/-- R195: calibration blocks: those of the sixteen whose page 0 has a valid header with KIND CALIBRATION. -/
def State.calFound (s : State) (t c r : Nat) : List Nat :=
  (calHomes c r).filter (fun b => match aget (b * 256) (s.tile t).med.pages with
    | some p => p.kind == .calibration && p.hdr
    | none => false)

/-- Pages of a calibration block, with their ages in ms. -/
def State.calPagesOf (s : State) (t b : Nat) : List (Nat × Nat) :=
  ((s.tile t).med.pages.filter (fun e => locBlk e.1 == b && e.2.kind == .calibration && e.2.hdr)).map (fun e => (e.1, s.pageAge e.2))

/-- R195: the calibration pages of a rank, with their ages. -/
def State.calPagesAll (s : State) (t c r : Nat) : List (Nat × Nat) := ((s.calFound t c r).map (s.calPagesOf t)).flatten

/-- The page whose age lies nearest `a`; the first of several. -/
def nearestAge (a : Nat) : List (Nat × Nat) → Option (Nat × Nat)
  | [] => none
  | e :: l => some (l.foldl (fun m x => if (x.2 - a) + (a - x.2) < (m.2 - a) + (a - m.2) then x else m) e)

/-- R195 step 1: up to 16 pages, whose ages lie nearest 2^19 to 2^34 ms (notes/assumptions/140.md). -/
def calChoose (l : List (Nat × Nat)) : List (Nat × Nat) :=
  (List.range 16).foldl (fun acc j => match nearestAge (2 ^ (19 + j)) l with
    | some e => if acc.contains e then acc else acc ++ [e]
    | none => acc) []

/-- R195 step 2: offset `j` of a sweep about a prediction, as READ_LINE carries it. -/
def sweepOff (pred : Int) (j : Nat) : Int := clamp127 (pred - 24 + 2 * j)

/-- R195 step 3: the first of the 25 offsets with the fewest cells misread. -/
def sweepBest (counts : List Nat) : Nat :=
  (List.range 25).foldl (fun b j => if counts.getD j 0 < counts.getD b 0 then j else b) 0

/-- R190: d16 and the temperature now less 55 °C, for a page read now whose age is taken as `age`. -/
def calPoint (age : Nat) (temp tNow : Int) : Nat := driftDoublings age (accel (if temp < tNow then tNow else temp))

/-- R195 step 4: least squares over the points (d16, best offset) for one reference with C held: the coefficient, rounded to nearest, in
1/16 step per doubling. -/
def fitD (c dT : Int) (pts : List (Nat × Int)) : Int :=
  let den := total (pts.map (fun p => p.1 ^ 2))
  let num := pts.foldl (fun a p => a + (p.1 : Int) * (256 * p.2 - 16 * (c * dT))) 0
  if den = 0 then 0 else roundAway num den

/-- R195: the sum of the squared distances of the points from the fit, in (1/256 step)². -/
def fitErr (d c dT : Int) (pts : List (Nat × Int)) : Nat :=
  (pts.foldl (fun a p => a + (256 * p.2 - (d * (p.1 : Int) + 16 * (c * dT))) ^ 2) 0).toNat

/-- What the calibration of a rank gives. -/
structure CalFit where
  /-- D_A, D_B, D_C fitted. -/
  d : List Int
  /-- squared distances by reference, in (1/256 step)². -/
  err : List Nat
  deriving DecidableEq, Repr

/-- R195 steps 3 and 4: the fit, with `plus` ms added to the age of every page (R193). -/
def calFit (k : Drift) (tNow : Int) (plus : Nat) (pages : List (Nat × Int)) (best : List (List Int)) : CalFit :=
  let dT := tNow - 55
  let pts (r : Nat) : List (Nat × Int) := (List.zip pages best).map (fun e => (calPoint (e.1.1 + plus) e.1.2 tNow, e.2.getD r 0))
  let ds := (List.range 3).map (fun r => fitD (k.c.getD r 0) dT (pts r))
  { d := ds, err := (List.range 3).map (fun r => fitErr (ds.getD r 0) (k.c.getD r 0) dT (pts r)) }

/-- R195: the fit succeeds: at least 4 pages span at least 8 doublings of age, the residual, taken as the root of the mean square, is at most
4 steps for each reference, and each coefficient lies within D_TOL of its factory value (notes/assumptions/140.md). -/
def calOk (k : Drift) (tol : Nat) (pages : List (Nat × Int)) (f : CalFit) : Bool :=
  let ages := pages.map (·.1)
  decide (4 ≤ pages.length) && decide (256 * max 1 (leastOr 0 ages) ≤ greatest ages)
    && f.err.all (fun e => decide (e ≤ pages.length * 1024 ^ 2))
    && (List.range 3).all (fun r =>
      let d := f.d.getD r 0
      decide (0 ≤ d ∧ d < 256 ∧ (d - (k.d.getD r 0 : Int)).natAbs ≤ tol))

/-- R193: the values that the estimate may take: 0 and 2^10 to 2^34 ms. -/
def calGains : List Nat := 0 :: (List.range 25).map (fun j => 2 ^ (10 + j))

/-- R193: the value that gives the least fit residual; the least of several. -/
def calGain (k : Drift) (tNow : Int) (pages : List (Nat × Int)) (best : List (List Int)) : Nat :=
  let cost (g : Nat) : Nat := total (calFit k tNow g pages best).err
  (calGains.foldl (fun (m : Nat × Nat) g => let c := cost g; if c < m.2 then (g, c) else m) (0, cost 0)).1

/-- R195: drift calibration of rank `r` of a channel at `tNow`: the pages chosen with age and write temperature, the offsets swept and
kept, and, when the fit succeeds, the fitted table with the time of R193. `sweeps` is the count of cells misread by page, reference and
offset. -/
structure CalOut where
  /-- pages chosen, by locator. -/
  pages : List Nat
  /-- offsets predicted for each, by reference. -/
  preds : List (List Int)
  /-- calibration pages present on the rank. -/
  present : Nat
  /-- the table and the time, none when the rank keeps its factory coefficients. -/
  fit : Option (Drift × Nat)
  deriving DecidableEq, Repr

/-- R195, R193: calibrate a rank. -/
def State.calibrate (s : State) (t c r : Nat) (tNow : Int) (sweeps : List (List (List Nat))) : CalOut :=
  let word := (s.chan t c).factoryWord r
  let k := factoryDrift word
  let all := s.calPagesAll t c r
  let chosen := calChoose all
  let info := chosen.map (fun e => (e.2, ((aget e.1 (s.tile t).med.pages).map (·.temp)).getD 0))
  let preds := info.map (fun e => (driftOffs k e.1 e.2 tNow).map clamp127)
  let best := (preds.zipIdx).map (fun e => (List.range 3).map (fun x =>
    sweepOff (e.1.getD x 0) (sweepBest ((sweeps.getD e.2 []).getD x []))))
  let f := calFit k tNow 0 info best
  { pages := chosen.map (·.1), preds := preds, present := all.length,
    fit := if calOk k (factoryTol word) info f then some ({ d := f.d.map Int.toNat, c := k.c }, calGain k tNow info best) else none }

/-- R195: calibration blocks of a rank as its headers show them: the one with the newest page is active; of two new blocks the
default places of Translation (notes/assumptions/140.md). The answer gives the active one, the other one, and the pages in the active one. -/
def State.calPlaces (s : State) (t c r : Nat) : Nat × Nat × Nat :=
  let base := planeBase (c + 32 * r)
  let newest (b : Nat) : Nat := leastOr (2 ^ 36) ((s.calPagesOf t b).map (·.2))
  let n (b : Nat) : Nat := (s.calPagesOf t b).length
  match s.calFound t c r with
  | [] => (base, base + 1, 0)
  | [b] => (b, if b = base then base + 1 else base, n b)
  | a :: b :: _ => if newest b < newest a then (b, a, n b) else (a, b, n a)

/-! ### The packets of training (R194) -/

/-- R194 steps 2 to 7 on rank `r`, and the reads of step 9, up to the step `last`: CALIBRATE ZQ and CA_LOOP, READ_ID of both pages,
CALIBRATE RD_PATTERN and WR_LOOP, SET_REF for each die from its BASE_TRIM, the headers of the sixteen blocks, and the sweeps. -/
def trainCmds (last c r : Nat) (ids : List (Nat × Nat)) (o : CalOut) : List CaCmd :=
  let upTo (n : Nat) (l : List CaCmd) : List CaCmd := if n ≤ last then l else []
  upTo 2 [.calibrate 0] ++ upTo 3 [.calibrate 1] ++ upTo 4 [.readId 0, .readId 1] ++ upTo 5 [.calibrate 2] ++ upTo 6 [.calibrate 3]
    ++ upTo 7 ((List.range 9).map (fun d => let b := baseTrim (ids.getD d (0, 0)).2; .setRef (2 ^ d) b b b))
    ++ upTo 9 ((calHomes c r).map (fun b => readCmd (b * 256) 64 1 [0, 0, 0])
      ++ ((List.zip o.pages o.preds).map (fun e => (List.range 25).map (fun j => readCmd e.1 0 68 (e.2.map (fun p => sweepOff p j))))).flatten)

end Sys2Proof.Machine
end

