-- ==== Sys2Proof/Machine/LineCode.lean ====
section
/-! DEFINITION. Machine/LineCode.lean: the codes that lines carry and the arrangements in which they are stored: RS(72,64), the media
placement, the header line, the outer code RS(68,65), journal records and map entries as bits (08_integrity.md R247 to R255,
07_translation.md R201, R232, R235). -/

namespace Sys2Proof.Machine

open Sys2Proof

/-! ### Reed–Solomon check symbols over GF(2^8) (R247, R255) -/

/-- A polynomial, coefficient of x^0 first, times (x − r). -/
def polyRoot (l : List Byte) (r : Byte) : List Byte :=
  List.zipWith (· ^^^ ·) (0 :: l) (l.map (fun c => gfMul c r) ++ [0])

/-- R247, R255: the generator with `n` roots α^0 to α^(n − 1), coefficient of x^0 first. -/
def rsGen (n : Nat) : List Byte := (List.range n).foldl (fun g i => polyRoot g (gfPow i)) [1]

/-- R247: the check symbols p_0 to p_(n − 1) of information symbols, u_0 first: the remainder by the generator `g` of degree `n`. -/
def rsChecks (n : Nat) (g info : List Byte) : List Byte :=
  info.foldr (fun u r =>
    let f := u ^^^ r.getLastD 0
    List.zipWith (· ^^^ ·) (0 :: r.dropLast) ((g.take n).map (fun c => gfMul c f))) (List.replicate n 0)

/-- R247: the 72 symbols of a line code word: u_0 to u_63, p_0 to p_7. -/
def lineCode (u : List Byte) : List Byte := u ++ rsChecks 8 (rsGen 8) u

/-! ### Arrangements (R248, R249) -/

/-- R249: a line as GDDR7 stores it: byte j of the line is symbol u_j. -/
def gddrSymbols (x : Line) : List Byte := lineCode ((List.range 64).map (lineByte x))

/-- R248: the nibble that die `d` carries in beat `j` of a line's information bytes. -/
def dieNibble (x : Line) (d j : Nat) : BitVec 4 := (lineByte x (4 * j + d / 2)).extractLsb' (4 * (d % 2)) 4

/-- R248: a line as the medium stores it: symbols 8 d to 8 d + 7 lie on die d. -/
def mediaSymbols (x : Line) : List Byte :=
  lineCode ((List.range 64).map (fun i => dieNibble x (i / 8) (2 * (i % 8) + 1) ++ dieNibble x (i / 8) (2 * (i % 8))))

/-- R248: the nibble of die `d` in beat `j` of a coded line; die 8 carries the check symbols. -/
def beatNibble (symbols : List Byte) (d j : Nat) : BitVec 4 := (symbols.getD (8 * d + j / 2) 0).extractLsb' (4 * (j % 2)) 4

/-! ### The header line (R253) -/

/-- R253: bytes 0 to 59 of the header line. -/
def Page.headerBody (p : Page) : List Byte :=
  leBytes 2 0x5C3A ++ leBytes 1 0x01 ++ leBytes 1 (p.kind.code + 128 * b2n p.copyB) ++ leBytes 4 p.subject ++ leBytes 5 (p.jpos % 2 ^ 36)
    ++ leBytes 5 (p.age % 2 ^ 36) ++ [BitVec.ofInt 8 p.temp] ++ leBytes 1 p.key ++ leBytes 2 p.count ++ leBytes 2 0
    ++ leBytes 32 (total (p.members.map (fun m => (m.2 % 2 ^ 36) * 2 ^ (36 * m.1)))) ++ leBytes 4 0

/-- R253: the header line. -/
def Page.headerLine (p : Page) : Line :=
  let b := p.headerBody ++ leBytes 4 (crc32c p.headerBody).toNat
  lineOf (fun i => b.getD i 0)

/-- R254: a line is a valid header: MAGIC, FORMAT, KIND, the fields that must be 0, and the CRC. -/
def headerValid (x : Line) : Bool :=
  let bytes := (List.range 64).map (lineByte x)
  let b (i : Nat) : Nat := (bytes.getD i 0).toNat
  let w (lo n : Nat) : Nat := leAt bytes lo n
  let kind := b 3 % 8
  let meta_ := kind == 4 || kind == 5
  w 0 2 == 0x5C3A && b 2 == 1 && decide (1 ≤ kind ∧ kind ≤ 6) && b 3 / 8 % 16 == 0 && (meta_ || b 3 / 128 == 0)
    && (if kind ≤ 2 then decide (w 4 4 < 2 ^ 29) else if meta_ then decide (w 4 4 < 2 ^ 19) else w 4 4 == 0)
    && decide (w 8 5 < 2 ^ 36) && decide (w 13 5 < 2 ^ 36) && (kind ≤ 2 || b 19 == 0) && (if kind = 3 then decide (1 ≤ w 20 2 ∧ w 20 2 ≤ 512) else w 20 2 == 0)
    && w 22 2 == 0 && decide (w 24 32 < 2 ^ 252) && w 56 4 == 0 && w 60 4 == (crc32c (bytes.take 60)).toNat

/-! ### A page on the medium (R172, R255) -/

/-- R255: the check symbols of one column: lines 65, 66 and 67 of the symbols of lines 0 to 64. -/
def columnChecks (column : List Byte) : List Byte := rsChecks 3 (rsGen 3) column

/-- R255: the parity lines of 65 coded lines. -/
def parityLines (lines : List (List Byte)) : List (List Byte) :=
  let cols := (List.range 72).map (fun i => columnChecks (lines.map (fun l => l.getD i 0)))
  (List.range 3).map (fun m => cols.map (fun c => c.getD m 0))

/-- R253: the coded lines 0 to 64 of a page. -/
def Page.codedData (p : Page) : List (List Byte) :=
  (List.range 64).map (fun i => mediaSymbols (p.lines.getD i 0)) ++ [mediaSymbols p.headerLine]

/-- R265: a line programmed with symbols flipped. -/
def flipSymbols (mask value : Nat) (l : List Byte) : List Byte :=
  l.zipIdx.map (fun s => if bitOf mask s.2 then s.1 ^^^ BitVec.ofNat 8 value else s.1)

/-- R172, R183, R255, R265: the 68 coded lines of a page as the medium holds them. A header that was not programmed stands cleared; symbols
that MEDIA_PROGRAM programmed flipped stand flipped. -/
def Page.coded (p : Page) : List (List Byte) :=
  let data := p.codedData
  let shown := (data ++ parityLines data).zipIdx.map (fun e => if e.2 = 64 ∧ !p.hdr then List.replicate 72 0xFF#8 else e.1)
  p.flips.foldl (fun l f => l.zipIdx.map (fun e => if e.2 = f.1 then flipSymbols f.2.1 f.2.2 e.1 else e.1)) shown

/-- R172: the coded line at a locator: all ones where the page is cleared. -/
def State.mediaCoded (s : State) (t loc line : Nat) : List Byte :=
  match aget loc (s.tile t).med.pages with
  | some p => p.coded.getD line []
  | none => List.replicate 72 0xFF#8

/-! ### Journal records and map entries (07_translation.md R201, R232, R235) -/

/-- R201: the 32 information bits of a map entry. -/
def MapEnt.word (e : MapEnt) : Nat := e.st.code * 2 ^ 29 + e.loc % 2 ^ 29

/-- R202: the state that a STATE code names; 0b111 names none. -/
def MapSt.ofCode : Nat → Option MapSt
  | 0 => some .never | 1 => some .mapped | 2 => some .discarded | 3 => some .poisoned | 4 => some .frontOnly | 5 => some .relocating
  | 6 => some .lost | _ => none

/-- R202, R235: the entry that a word of a checkpoint page holds; none for NEVER, which an unlisted segment is. -/
def entryOfWord (w : Nat) : Option MapEnt :=
  match MapSt.ofCode (w / 2 ^ 29 % 8) with
  | some .never | none => none
  | some st => some { st := st, loc := w % 2 ^ 29 }

/-- R232: TYPE, KEY and VALUE of a record. -/
def JRec.fields : JRec → Nat × Nat × Nat
  | .commit l e => (0, l, e.word)
  | .move l e => (1, l, e.word)
  | .discard l => (2, l, MapEnt.word { st := .discarded })
  | .poison l => (3, l, MapEnt.word { st := .poisoned })
  | .lost l e => (4, l, e.word)
  | .block a f b => (5, a * 2 ^ 26 + f % 4 * 2 ^ 24, b * 256)
  | .ckpt cb bt i _ at_ => (6, b2n cb * 2 ^ 28 + b2n bt * 2 ^ 27 + i % 2 ^ 19, at_)
  | .mark k => (7, k * 2 ^ 24, 0)
  | .stale i g => (7, 4 * 2 ^ 24 + i * 2 ^ 19 + g % 2 ^ 12, 0)

/-- R232: the 64 bits of a record. -/
def JRec.word (r : JRec) : Nat :=
  let (ty, k, v) := r.fields
  ty * 2 ^ 61 + k * 2 ^ 32 + v

/-- Numbers of `n` bytes laid out from byte 0 of a page on: line `i`. -/
def packedLine (n : Nat) (l : List Nat) (i : Nat) : Line :=
  lineOf (fun b => let k := (64 * i + b) / n; BitVec.ofNat 8 (l.getD k 0 / 2 ^ (8 * ((64 * i + b) % n))))

end Sys2Proof.Machine
end

