-- ==== Sys2Proof/Machine/XlOps.lean ====
section
/-! DEFINITION. Machine/XlOps.lean: shared operations of capacity and Translation (02_host_ports.md, 07_translation.md,
16_security.md): CXL events, causes of Degraded, the map, the journal, blocks, spare blocks and placement. -/

namespace Sys2Proof.Machine

open Sys2Proof

/-! ### Degraded causes and the mode (10_modes.md R312) -/

/-- 02_host_ports.md R67: LDs a head presents now or may present: every code that holds a block. -/
def State.ldCodes (s : State) : List Nat := (List.range 128).filter (fun c => ahas c s.cap.lds || s.cap.table.any (fun e => e.2.ld == c && e.2.kind == 1) || s.cap.shares.any (fun h => h.ld == c))

/-- LD `c`. -/
def State.ldev (s : State) (c : Nat) : LDev := agetD c {} s.cap.lds

/-- Change LD `c`. -/
def State.modLd (s : State) (c : Nat) (f : LDev → LDev) : State :=
  s.modCap (fun p => { p with lds := aputD {} c (f (agetD c {} p.lds)) p.lds })

/-- R67: put a record into a log of one LD (0 Informational, 1 Warning, 2 Failure, 3 Fatal); its interrupt is due where the
log's interrupt mode, bits 1:0 of its policy, asks for one (PRESUMED, notes/assumptions/20.md). -/
def State.evtTo (s : State) (log : Nat) (r : EvtRec) (c : Nat) : State :=
  let l := vget log {} (s.ldev c).logs
  if l.recs.length < 64 then
    let s1 := s.modLd c (fun d => { d with logs := vmod log (fun g => { g with recs := g.recs ++ [r] }) d.logs })
    if l.policy % 4 = 0 then s1 else s1.emit (.cxlEvent (c / 16) (c % 16) log)
  else
    (s.modLd c (fun d => { d with logs := vmod log (fun g => { g with overflow := true, lost := g.lost + 1 }) d.logs })).event
      Gb.CXL_EVT_OVERFLOW (c / 16) [c / 16, c % 16, log]

/-- R67: raise a record for several LDs. -/
def State.evtFor (s : State) (lds : List Nat) (log : Nat) (r : EvtRec) : State := lds.foldl (fun a c => a.evtTo log r c) s

/-- R67: raise a package-wide record. -/
def State.evtAll (s : State) (log : Nat) (r : EvtRec) : State := s.evtFor s.ldCodes log r

/-- R67: LDs that hold package block `b`. -/
def State.holders (s : State) (b : Nat) : List Nat :=
  match aget b s.cap.table with
  | some e => if e.kind = 1 then [e.ld] else if e.kind = 2 then (s.cap.shares.filter (fun h => h.blk == b)).map (·.ld) else []
  | none => []

/-- R67: raise a General Media record for the LDs that hold a package segment. Causes are rows of the event table. -/
def State.evtSeg (s : State) (cause seg : Nat) : State :=
  s.evtFor (s.holders (seg / 65536)) 1 { kind := 0, cause := cause, info := seg * 4096 }

/-- R335, R67: the mode changes among those in which the package operates; entry into Degraded or Sealed and exit from
Degraded raise their records. -/
def State.enterMode (s : State) (m : Mode) : State :=
  if s.md.mode = m then s
  else
    let was := s.md.mode
    let s1 := s.setMode m
    let s2 := if was = .degraded ∨ m = .degraded then s1.evtAll 1 { kind := 1, cause := 6, info := m.code } else s1
    if m = .sealed then s2.evtAll 2 { kind := 1, cause := 7, info := m.code } else s2

/-- R312: recompute the mode from causes and Sealed tiles in a mode that serves. -/
def State.reevaluate (s : State) : State := if s.md.inService3 then s.enterMode s.md.target else s

/-- R312: a Degraded cause comes to hold or ends; the numbers are the bits of MODE_CAUSE. -/
def State.setCause (s : State) (n : Nat) (on : Bool) : State :=
  if bitOf s.md.causes n = on then s
  else (s.modMd (fun d => { d with causes := putBit d.causes n on })).reevaluate

/-! ### Media keys (16_security.md R461, R462) -/

/-- R461: a package block is a data block of this package in the Caravan range (R287). -/
def State.carData (s : State) (blk : Nat) : Bool :=
  match s.carRow blk with
  | some b => (s.car.dataIdx b s.car.self).isSome && (s.car.role != 1)
  | none => false

/-- R461: the key slot of a package block. Derived Caravan keys are numbered 256 + 16 × head + LD, which no slot of the
engine has (notes/assumptions/18.md). -/
def State.keySlot (s : State) (blk l : Nat) : Nat :=
  if s.isParity l || s.carHeld blk then 0
  else
    match aget blk s.cap.table with
    | some e =>
      if e.kind = 1 then (if s.carData blk then 256 + e.ld else (s.ldev e.ld).key)
      else if e.kind = 2 then
        ((s.cap.shares.find? (fun h => h.blk == blk)).map
          (fun h => (agetD (8 * h.ld + h.region) {} s.cap.regions).key)).getD 0
      else 0
    | none => 0

/-- R462: the tweak of a line. -/
def State.tweak (s : State) (seg line : Nat) : Nat :=
  match s.carStripe seg with
  | some st => line + st * 64 + 2 ^ 38
  | none => line + seg * 64

/-- R465: ASCII bytes of a label. -/
def asciiBytes (s : String) : List Byte := s.toList.map (fun c => BitVec.ofNat 8 c.toNat)

/-- R461, R465: bits of the key in a slot, or of the derived Caravan key of (member, head, LD). -/
def State.keyBits (s : State) (slot : Nat) : BitVec 512 :=
  if 256 ≤ slot then
    Config.shake512 (leBytes 32 (agetD s.car.handle (0 : BitVec 256) s.sec.secrets).toNat ++ asciiBytes "CZ-MEDIA" ++ leBytes 2 s.car.group
      ++ leBytes 1 s.car.self ++ leBytes 1 ((slot - 256) / 16) ++ leBytes 1 ((slot - 256) % 16))
  else agetD slot 0 s.sec.keys

/-- R252: the poison pattern. -/
def poisonLine : Line := lineOf (fun b => 0xA5#8 ^^^ BitVec.ofNat 8 b)

/-- R461, R462, R252: a line as it goes to the medium. -/
def State.toMedium (s : State) (slot seg line : Nat) (poison : Bool) (x : Line) : Line :=
  if poison then poisonLine
  else if slot = 0 then x else Config.xts (s.keyBits slot) (s.tweak seg line) x

/-- R252, R462: a line as it comes from the medium: its data, or poison. -/
def State.fromMedium (s : State) (slot seg line : Nat) (x : Line) : Line × Bool :=
  if x = poisonLine then (0, true)
  else if slot = 0 then (x, false) else ((Config.xts (s.keyBits slot) (s.tweak seg line)).symm x, false)

/-! ### The map (07_translation.md R201 to R208) -/

/-- 09_caravan.md R305: a spare that takes an index sets the segments of its data rows LOST; those that the rebuild has not
reached have no entry of their own in the model's map. -/
def State.rebuildLost (s : State) (t l : Nat) : Bool :=
  s.car.role == 2 && (match s.carStripe (s.segOf t l) with
    | some k => decide (s.car.resyncNext ≤ k) && (s.car.dataIdx (k / 65536) s.car.self).isSome
    | none => false)

/-- R201: the map entry of a segment. -/
def State.mapRaw (s : State) (t l : Nat) : MapEnt :=
  let e := agetD l {} (s.tile t).xl.map
  if e.st == .never && s.rebuildLost t l then { st := .lost } else e

/-- Whether Cupola or Caravan covers a local segment: as a member, or as their parity, which a resync gives again. -/
def State.covered (s : State) (t l : Nat) : Bool :=
  s.isParity l || (s.stripeOf t l).isSome || (s.carStripe (s.segOf t l)).isSome

/-- R280: the entry that a read, fill or commit acts on. -/
def State.mapOf (s : State) (t l : Nat) : MapEnt :=
  let e := s.mapRaw t l
  if (e.st == .mapped || e.st == .relocating) && s.fencedLoc t e.loc then
    { st := if s.covered t l then .lost else .poisoned, loc := e.loc }
  else e

/-- R204: the state as checkpoint and journal record it. -/
def MapEnt.durableForm (e : MapEnt) : MapEnt :=
  match e.st with
  | .frontOnly => { st := .discarded }
  | .relocating => { e with st := .mapped }
  | _ => e

/-- R203, R242: a single map line is found bad: it is rebuilt at once from checkpoint and journal and written back. -/
def State.mapLineBad (s : State) (t l : Nat) : State :=
  let s1 := ((s.latch (Reg.XL_ERR_STATUS t) 1 Gb.XL_MAP_UNCORR t [t, l / 16]).modXl t (fun x => { x with mapFlips := adel (l / 16) x.mapFlips })).setCause 5 true
  if s1.aliveTiles.any (fun u => (s1.tile u).xl.rebuildAt.isSome) then s1 else s1.setCause 5 false

/-- R249: symbols flipped in the stored map line of a segment are more than its line code corrects. -/
def State.mapLineUncorr (s : State) (t l : Nat) : Bool := decide (4 < patSyms (agetD (l / 16) 0 (s.tile t).xl.mapFlips))

/-- R206: the STC holds an entry of a segment. -/
def State.stcHas (s : State) (t l : Nat) : Bool :=
  (agetD ((l ^^^ (l / 2 ^ 15)) % 2 ^ 15) {} (s.tile t).xl.stc).ways.contains (some (l / 2 ^ 15))

/-- R207: write a map entry: the word of the map line and the STC entry in one step, each as it should be from then on. -/
def State.setMap (s : State) (t l : Nat) (e : MapEnt) : State :=
  (if s.mapLineUncorr t l then s.mapLineBad t l else s).modXl t (fun x =>
    { x with map := aputD {} l e x.map, stcFlips := adel l x.stcFlips, mapFlips := adel (l / 16) x.mapFlips })

/-- Number of LOST segments of a tile. -/
def State.lostOn (s : State) (t : Nat) : Nat := ((s.tile t).xl.map.filter (fun e => e.2.st == .lost)).length

/-- R259: Degraded cause 4 holds while a segment is LOST or a page that needed step 3 waits for refresh. -/
def State.judgeLost (s : State) : State :=
  s.setCause 4 (s.aliveTiles.any (fun t => decide (0 < s.lostOn t) || (s.tile t).int.queue.any (·.step3)))

/-- R206: look a segment up in the STC; the answer says hit. A miss installs the entry. -/
def State.stcLookup (s : State) (t l : Nat) : State × Bool :=
  let set := (l ^^^ (l / 2 ^ 15)) % 2 ^ 15
  let tag := l / 2 ^ 15
  let c := agetD set {} (s.tile t).xl.stc
  match (List.range 8).find? (fun w => c.ways.getD w none == some tag) with
  | some w => (s.modXl t (fun x => { x with stc := aput set { c with plru := plruTouch 3 c.plru w } x.stc }), true)
  | none =>
    let w := match (List.range 8).find? (fun w => (c.ways.getD w none).isNone) with
      | some w => w
      | none => (plruPick (fun _ => true) c.plru 3 1 0).getD 0
    -- the segment whose entry makes room, from its set and tag
    let out := match c.ways.getD w none with | some g => g * 2 ^ 15 + (set ^^^ g) | none => l
    ((s.modXl t (fun x => { x with stc := aput set { ways := lmod w (fun _ => some tag) c.ways, plru := plruTouch 3 c.plru w } x.stc,
                                   stcFlips := adel l (adel out x.stcFlips) })).perfEvent
      t 0x06 0 1, false)

/-! ### The journal (07_translation.md R232 to R234) -/

/-- R235: map indices of a tile; block-table indices follow them. -/
def State.mapIdx (s : State) : Nat := s.segs / 1024

/-- R235: indices of one round of the checkpoint writer: map pages, then block-table pages. -/
def State.ckptIdx (s : State) : Nat := s.mapIdx + 32 * s.pop.ranks * 16384 / 512

/-- R241, R235: the capture position of index `i` in the full checkpoint that a format writes: each page before it left two CKPT records. -/
def formatPos (i : Nat) : Nat := 2 * i

/-- R234: the least capture position of any checkpoint page in force. -/
def State.ckptFloor (s : State) (t : Nat) : Nat :=
  let x := (s.tile t).xl
  let caps := x.ckpt.map (fun e => min e.2.posA e.2.posB)
  match (List.range (x.ckpt.length + 1)).find? (fun i => decide (i < s.ckptIdx) && !ahas i x.ckpt) with
  | some i => caps.foldl min (if x.ckptFull then formatPos i else 0)
  | none => leastOr 0 caps

/-- R234: the journal floor. -/
def State.jfloor (s : State) (t : Nat) : Nat :=
  let x := (s.tile t).xl
  let c := s.ckptFloor t
  let open_ := (x.stalePos.filter (fun e => !bitOf (leAt (agetD (Param.CAR_STALE + e.2.1) [] s.ps.els) (e.2.2 / 8) 1) (e.2.2 % 8))).map (·.1)
  open_.foldl min c

/-- R234: append position less the floor. -/
def State.jfill (s : State) (t : Nat) : Nat := (s.tile t).xl.jpos - s.jfloor t

/-- R232: append a record. R214: a RESERVE record leaves its position with its block. -/
def State.jappend (s : State) (t : Nat) (r : JRec) : State :=
  let n := (s.tile t).xl.jpos
  let s1 := s.modXl t (fun x => { x with jpos := x.jpos + 1, jtail := x.jtail ++ [r] })
  match r with
  | .block 0 _ b => s1.modBlk t b (fun k => { k with resAt := n })
  | _ => s1

/-- R233: append a record that must become durable at once. -/
def State.jappendNow (s : State) (t : Nat) (r : JRec) : State := (s.jappend t r).modXl t (fun x => { x with jurgent := true })

/-- R234: the last two blocks are for the flush. -/
def State.jroom (s : State) (t : Nat) : Bool := decide (s.jfill t < 16515072) || s.md.mode == .holdup

/-- R237: what a durable record gives a segment. -/
def JRec.entry? : JRec → Option (Nat × MapEnt)
  | .commit l e | .move l e | .lost l e => some (l, e)
  | .discard l => some (l, { st := .discarded })
  | .poison l => some (l, { st := .poisoned })
  | _ => none

/-! ### Blocks, retirement and spare blocks (R209, R220, R225, R226, R229, R231) -/

/-- Block table VALID: pages of a block that hold the current copy of a segment. -/
def State.validPages (s : State) (t b : Nat) : List (Nat × Nat) :=
  ((s.tile t).xl.map.filter (fun e => (e.2.st == .mapped || e.2.st == .relocating) && locBlk e.2.loc == b)).map
    (fun e => (e.1, e.2.loc))

/-- R219, R220: a block holds a valid page, or one that passed verify and whose commit or batch has not ended. -/
def State.blockLive (s : State) (t b : Nat) : Bool :=
  !(s.validPages t b).isEmpty
    || (s.tile t).xl.commits.any (fun c => c.step != .done && (match c.loc with | some l => locBlk l == b | none => false))
    || (s.tile t).xl.batches.any (fun k => k.copied.any (fun c => locBlk c.2.2 == b))

/-- R220, R225: a page of a block became invalid at the append position: a FULL block without a valid page becomes
PENDING, a RETIRING one RETIRED. -/
def State.invalidate (s : State) (t loc : Nat) : State :=
  let b := locBlk loc
  let n := (s.tile t).xl.jpos
  let s1 := s.modBlk t b (fun k => { k with invAt := n })
  if !s1.blockLive t b then
    match (s1.blk t b).st with
    | .full => s1.modBlk t b (fun k => { k with st := .pending })
    | .retiring => s1.modBlk t b (fun k => { k with st := .retired })
    | _ => s1
  else s1

/-! ### Dirty frames and throttling (05_front_store.md R140, R147, R148, 03_transactions.md R88) -/

/-- R140: a frame counts as dirty. -/
def Frame.countsDirty (x : Frame) : Bool :=
  match x.st with
  | .dirty | .writing => true
  | .filling | .locked => x.dirty != 0
  | _ => false

/-- R140 DIRTY_FRAMES; each adopted slot counts as one (R276). -/
def State.dirtyFrames (s : State) (t : Nat) : Nat :=
  ((s.tile t).fs.frames.filter (fun e => e.2.countsDirty)).length
    + ((s.tile t).cup.slots.filter (fun e => e.2.adoptSeg.isSome)).length

/-- R147: frames of the tile less its withdrawn ways. -/
def State.framesAvail (s : State) (t : Nat) : Nat := framesOf s.pop - (s.tile t).fs.withdrawn.length

/-- R161: the cap in force. -/
def State.capEff (s : State) (t : Nat) : Nat := min (s.tile t).fs.cap (framesOf s.pop)

/-- R147: effective dirty limit. -/
def State.effLimit (s : State) (t : Nat) : Nat :=
  min (s.tile t).fs.measured (min (s.capEff t) (s.framesAvail t))

/-- R148: write-through handling. -/
def State.writeThrough (s : State) (t : Nat) : Bool :=
  s.effLimit t == 0 || (s.tile t).fs.mode != .enabled || (s.tile t).fs.forced

/-- R88: whether moderate throttling of a tile is on as of now. -/
def State.throttleOn (s : State) (t : Nat) : Bool :=
  let lim := s.effLimit t
  let d := s.dirtyFrames t
  (!s.writeThrough t && decide (0 < lim)
    && (if (s.tile t).txn.throttle then decide (60 * lim < 100 * d) else decide (75 * lim ≤ 100 * d)))
  || decide (0 < (s.tile t).xl.spare0 ∧ 3 ≤ (s.tile t).xl.spareLevel)

/-- R88: judge moderate throttling of a tile. -/
def State.judgeThrottle (s : State) (t : Nat) : State :=
  let on := s.throttleOn t
  if on = (s.tile t).txn.throttle then s
  else
    let s1 := s.modTxn t (fun y => { y with throttle := on })
    if on then (s1.latchOnly (Reg.TXN_ERR_STATUS t) 5).perfEvent t 0x0B 0 1 else s1

/-! ### Spare blocks (R229, R231) -/

/-- R229: warnings at 10, 3 and 1 percent, each once per format; the level in XL_TILE_STATUS. -/
def State.spareWarn (s : State) (t : Nat) : State :=
  let x := (s.tile t).xl
  let lv := if x.spare = 0 then 4 else if 100 * x.spare ≤ x.spare0 then 3 else if 100 * x.spare ≤ 3 * x.spare0 then 2
    else if 10 * x.spare ≤ x.spare0 then 1 else 0
  let warn (a : State) (k code log : Nat) : State :=
    if x.spareLevel < k ∧ k ≤ lv then
      (a.latch (Reg.XL_ERR_STATUS t) 8 code t [t, x.spare]).evtAll log { kind := 1, cause := 2 + k, info := t }
    else a
  let s1 := warn (warn (warn s 1 Gb.XL_SPARE_10 0) 2 Gb.XL_SPARE_3 1) 3 Gb.XL_SPARE_1 2
  (s1.modXl t (fun y =>
    { y with spareLevel := max y.spareLevel lv, compaction := (if 3 ≤ lv ∧ y.compaction = 0 then 1 else y.compaction) })).judgeThrottle t

/-- R231: SPARE is 0: the tile becomes Sealed, and with Cupola the package Degraded. Its Dirty frames become Locked
(R143 row 14). -/
def State.seal (s : State) (t : Nat) : State :=
  if bitOf s.md.sealed t then s
  else
    let s1 := ((s.modMd (fun d => { d with sealed := setBit d.sealed t })).jappend t (.mark 3)).event Gb.XL_SPARE_OUT t [t]
    let s2 := s1.modFs t (fun f => { f with frames := f.frames.map (fun e =>
      if e.2.st = .dirty then (e.1, { e.2 with st := .locked }) else e) })
    (if 0 < s.cup.regions then s2.setCause 8 true else s2).reevaluate

/-- R226: a block is retired (already RETIRING or RETIRED blocks are left alone). `st` is its new state. -/
def State.retire (s : State) (t b cause : Nat) (st : BlkSt) (note : Bool) : State :=
  let k := s.blk t b
  if k.st == .retiring || k.st == .retired then s
  else
    let s1 := (s.modBlk t b (fun k => { k with st := st, cause := cause })).modXl t (fun x => { x with spare := x.spare - 1 })
    let s2 := s1.jappend t (.block 2 k.frontier b)
    let s3 := if cause = 1 ∨ cause = 2 ∨ cause = 3 then s2.latchOnly (Reg.XL_ERR_STATUS t) 2
      else if cause = 4 then s2.latchOnly (Reg.XL_ERR_STATUS t) 3 else s2
    let s4 := if note then (s3.event Gb.XL_BLOCK_RETIRE t [t, b * 256, cause]).setReg (Reg.XL_ERR_LOCATOR t) (BitVec.ofNat 32 (b * 256)) else s3
    let s5 := s4.spareWarn t
    if (s5.tile t).xl.spare = 0 then s5.seal t else s5

/-! ### Placement (R212 to R214, R230) -/

/-- A frontier of plane number `p`: 0 HOST, 1 GC, 2 COLD. -/
def State.front (s : State) (t p f : Nat) : Front := agetD (3 * p + f) {} (s.tile t).xl.fronts

/-- Change a frontier. -/
def State.modFront (s : State) (t p f : Nat) (g : Front → Front) : State :=
  s.modXl t (fun x => { x with fronts := aputD {} (3 * p + f) (g (agetD (3 * p + f) {} x.fronts)) x.fronts })

/-- R214: FULL blocks of a frontier on a plane that are not settled. -/
def State.unsettled (s : State) (t p f : Nat) : Nat :=
  ((s.listedOn t p).filter (fun e => e.2.frontier == f && (e.2.st == .full || e.2.st == .copying) && !e.2.settled)).length

/-- R212: blocks that a frontier of a plane has named. -/
def State.namedOn (s : State) (t p : Nat) : List Nat := (List.range 3).filterMap (fun f => (s.front t p f).next)

/-- R212, R214: name a block as the next of a frontier: a FREE block by its CLEARS, with a RESERVE record that must
become durable; in the Hold-up flush a RESERVE block once no FREE block is left (R230). A block that another frontier has named is
taken. -/
def State.nameNext (s : State) (t p f : Nat) : State :=
  if (s.front t p f).next.isSome then s
  else
    let named := s.namedOn t p
    let left (st : BlkSt) : List Nat := (s.candidatesBut t p st named)
    let pool := if (left .free).isEmpty && s.md.mode == .holdup && f == 0 then left .reserve else left .free
    match pickBy (f == 2) (fun b => (s.blk t b).clears) pool with
    | none => s
    | some b =>
      ((s.modFront t p f (fun g => { g with next := some b })).modBlk t b (fun k =>
        { k with frontier := f, settled := false, used := 0 })).jappendNow t (.block 0 f b)

/-- R214: 2^30 records after its RESERVE record a frontier closes its block. -/
def State.forceClose (s : State) (t p f : Nat) : State :=
  match (s.front t p f).cur with
  | some b =>
    if (s.blk t b).resAt + 2 ^ 30 ≤ (s.tile t).xl.jpos then
      (s.modFront t p f (fun g => { g with cur := none })).modBlk t b (fun k => { k with st := .full })
    else s
  | none => s

/-- R212, R214: the page a frontier programs next: the OPEN block's, or the first of the NEXT block, which is opened.
None when it has neither or would open a fifth unsettled block. -/
def State.openPage (s0 : State) (t p f : Nat) : State × Option Nat :=
  let s := s0.forceClose t p f
  let g := s.front t p f
  match g.cur with
  | some b => (s, some (b * 256 + (s.blk t b).used))
  | none =>
    match g.next with
    | some b =>
      if (s.blk t b).st = .named ∧ s.unsettled t p f < 4 then
        (((s.modFront t p f (fun _ => { cur := some b, next := none })).modBlk t b (fun k => { k with st := .opened })).nameNext t p f,
          some (b * 256))
      else (s, none)
    | none => (s.nameNext t p f, none)

/-- R212: a page of an OPEN block is taken; after the last one the block is FULL. -/
def State.takePage (s : State) (t p f loc : Nat) : State :=
  let b := locBlk loc
  let s1 := s.modBlk t b (fun k => { k with used := k.used + 1 })
  if (s1.blk t b).used = 256 then
    (s1.modBlk t b (fun k => { k with st := .full })).modFront t p f (fun g => { g with cur := none })
  else s1

/-- R213: planes from the one after the last used on, with wrap. -/
def State.planeOrder (s : State) (t : Nat) : List Nat :=
  (List.range s.planes).map (fun i => ((s.tile t).xl.lastPlane + 1 + i) % s.planes)

/-- R213: the first free plane with a page for the frontier; frontiers passed on the way that lack a NEXT block name one. -/
def State.placeOn (t f : Nat) : List Nat → State → State × Option (Nat × Nat)
  | [], s => (s, none)
  | p :: l, s =>
    if s.planeFree t p then
      match s.openPage t p f with
      | (s1, some loc) => (s1, some (p, loc))
      | (s1, none) => State.placeOn t f l s1
    else State.placeOn t f l s

/-- R212, R213: place a program on a frontier: its page and the state with the page taken. -/
def State.place (s : State) (t f : Nat) : State × Option Nat :=
  match State.placeOn t f (s.planeOrder t) s with
  | (s1, some (p, loc)) => ((s1.takePage t p f loc).modXl t (fun x => { x with lastPlane := p }), some loc)
  | (s1, none) => (s1, none)

/-- R213: place a program on one plane. -/
def State.placeAt (s : State) (t p f : Nat) : State × Option Nat :=
  match State.placeOn t f [p] s with
  | (s1, some (p, loc)) => (s1.takePage t p f loc, some loc)
  | (s1, none) => (s1, none)

/-- R182, R188, R192: start a page program, with START = 1 (notes/assumptions/139.md); AGE and TEMP of its header are those of its START.
Once the rails go down fast no new program starts (10_modes.md R325). -/
def State.startProgram (s : State) (t loc : Nat) (job : Job) (pg : Page) : State :=
  if s.pw.seq == .fastDown then s
  else
    let p : Page := { pg with age := s.ageClock, temp := s.writeTemp t (locCh loc) }
    (((s.modCh t (locCh loc) (fun c => { c with ops := c.ops ++ [{ loc := loc, job := job, page := some p }] })).modXl t
      (fun x => { x with progs := x.progs + 1 })).caIssue t (locCh loc) (locRank loc)
        (.program (locPlane loc) true (loc / 256 % 2 ^ 14) (loc % 256))).emit (.mediaIn t (locCh loc) (locRank loc) p.coded)

/-- R213, R211: a metadata page can be programmed: its plane is free and its page is cleared. -/
def State.metaFree (s : State) (t loc : Nat) : Bool := s.planeFree t (planeNo loc) && !(ahas loc (s.tile t).med.pages)

/-- R213, R188: a metadata page is programmed at its place in its ring, or waits until its plane is free. -/
def State.startMeta (s : State) (t loc : Nat) (job : Job) (pg : Page) : State :=
  if s.metaFree t loc then s.startProgram t loc job pg
  else s.modXl t (fun x => { x with metaWait := x.metaWait ++ [{ loc := loc, job := job, page := some pg }] })

/-- R213: metadata programs that wait are started where their plane is free, oldest first. -/
def State.retryMeta (s : State) (t : Nat) : State :=
  (s.tile t).xl.metaWait.foldl (fun a o =>
    if a.metaFree t o.loc then
      (a.modXl t (fun x => { x with metaWait := x.metaWait.filter (· != o) })).startProgram t o.loc o.job (o.page.getD { kind := .journal })
    else a) s

/-- R215: the header fields of a page programmed now: JPOS, AGE and TEMP. -/
def State.stampPage (s : State) (t c : Nat) (pg : Page) : Page :=
  { pg with jpos := (s.tile t).xl.jpos, age := s.ageClock, temp := s.writeTemp t c }

end Sys2Proof.Machine
end

