-- ==== Sys2Proof/Machine/FsOps.lean ====
section
/-! DEFINITION. Machine/FsOps.lean: shared operations of the Front Store (05_front_store.md), of responses to hosts
(03_transactions.md R71 to R75, R86 to R89) and of reconstruction (08_integrity.md R274). -/

namespace Sys2Proof.Machine

open Sys2Proof

/-! ### Frames (R140 to R147) -/

/-- Frame `f` of tile `t`; an unlisted frame is Invalid. -/
def State.frame (s : State) (t f : Nat) : Frame := agetD f { st := .invalid, seg := 0 } (s.tile t).fs.frames

/-- Put a frame; an Invalid one is removed from the list. -/
def State.setFrame (s : State) (t f : Nat) (x : Frame) : State :=
  s.modFs t (fun g => { g with frames := if x.st = .invalid then adel f g.frames else aput f x g.frames })

/-- R138: the frame that holds a segment. -/
def State.findFrame (s : State) (t l : Nat) : Option Nat :=
  (s.setFrames (s.setOf l)).find? (fun f => (s.frame t f).st != .invalid && (s.frame t f).seg == l)

/-- R149: age of an epoch, 7 the oldest: epochs upward from the one after the current. -/
def State.epochAge (s : State) (t e : Nat) : Nat := ((s.tile t).fs.epoch + 8 - e % 8) % 8

/-- R149: frames of a list in age order: the oldest epoch first, then ascending frame number; the first of them. -/
def State.oldest (s : State) (t : Nat) (l : List Nat) : Option Nat :=
  match l with
  | [] => none
  | a :: r =>
    some (r.foldl (fun m f =>
      let x := s.epochAge t (s.frame t m).epoch
      let y := s.epochAge t (s.frame t f).epoch
      if x < y ∨ (x = y ∧ f < m) then f else m) a)

/-- R143: give a frame its epoch when it becomes dirty. -/
def State.nowEpoch (s : State) (t : Nat) : Nat := (s.tile t).fs.epoch

/-- R145: point the pseudo-LRU bits of a way's path away from it. -/
def State.touchWay (s : State) (t f : Nat) : State :=
  let set := f / s.ways
  let lv := Nat.log2 s.ways
  s.modFs t (fun g => { g with plru := aputD 0 set (plruTouch lv (agetD set 0 g.plru) (f % s.ways)) g.plru })

/-- R145: the victim frame for a segment. -/
def State.victim (s : State) (t l : Nat) : Option Nat :=
  let set := s.setOf l
  let fs := s.setFrames set
  match fs.find? (fun f => (s.frame t f).st == .invalid && !((s.tile t).fs.withdrawn.contains f) && !((s.tile t).fs.withdrawWait.contains f)) with
  | some f => some f
  | none =>
    (plruPick (fun w => (s.frame t (set * s.ways + w)).st == .clean) (agetD set 0 (s.tile t).fs.plru)
      (Nat.log2 s.ways) 1 0).map (set * s.ways + ·)

/-- R142: merge enabled bytes. -/
def mergeBytes (be : Nat) (old new : Line) : Line := lineOf (fun j => if bitOf be j then lineByte new j else lineByte old j)

/-- R142, R56: apply a host write to a frame's line; a MemWrPtl keeps an earlier poison of bytes it does not write. -/
def Frame.write (x : Frame) (line : Nat) (r : Req) : Frame :=
  let old := agetD line 0 x.lines
  let wasP := bitOf x.poison line
  let full := r.kind == .wr || r.be % 2 ^ 64 == 2 ^ 64 - 1
  let v := if full then r.data else mergeBytes r.be old r.data
  { x with lines := aputD 0 line v x.lines, valid := setBit x.valid line, dirty := setBit x.dirty line,
           poison := putBit x.poison line (r.poison || (wasP && !full)) }

/-- All 64 VALID bits. -/
def allLines : Nat := 2 ^ 64 - 1

/-- R144: the segment lock is held, by a fill or commit or by a maintenance operation. -/
def State.segLocked (s : State) (t l : Nat) : Bool :=
  (s.tile t).txn.locks.contains l
    || (match s.findFrame t l with
        | some f => (s.frame t f).st == .filling || (s.frame t f).st == .writing
        | none => false)
    || (s.tile t).xl.commits.any (fun c => c.seg == l && c.step != .done)

/-- R77, R144: segment locks held on a tile: by maintenance, by fills and by commits. -/
def State.locksHeld (s : State) (t : Nat) : Nat :=
  (distinct ((s.tile t).txn.locks
    ++ ((s.tile t).fs.frames.filter (fun e => e.2.st == .filling || e.2.st == .writing)).map (fun e => e.2.seg)
    ++ ((s.tile t).xl.commits.filter (fun c => c.step != .done)).map (·.seg))).length

/-- R77: entries of the hazard table in use, segment locks included. -/
def State.hazUsed (s : State) (t : Nat) : Nat := (s.tile t).txn.haz.length + s.locksHeld t

/-- R77: the lock of a segment can be taken: it is held already, or one of the 1,024 is left and the table has an entry for it. -/
def State.lockRoom (s : State) (t l : Nat) : Bool :=
  s.segLocked t l || (decide (s.locksHeld t < 1024) && decide (s.hazUsed t < 16384))

/-! ### DevLoad, throttling and responses (03_transactions.md) -/

/-- R148: a stored write waits for a commit of its frame. -/
def HazSt.isThrough : HazSt → Bool
  | .through _ => true
  | _ => false

/-- R89: a write waits at the dirty limit, for a way, or for its own commit. -/
def State.writesWait (s : State) (t : Nat) : Bool :=
  (s.tile t).txn.haz.any (fun h => h.st == .dirty || h.st == .way || h.st.isThrough)

/-- R87: the DevLoad value for a response built now. -/
def State.devLoad (s : State) : Nat :=
  if 2 ≤ s.pw.stage || s.aliveTiles.any s.writesWait then 3
  else if s.md.mode == .degraded || s.pw.stage == 1 then 2
  else if s.aliveTiles.any (fun t => (s.tile t).txn.throttle) then 1 else 0

/-- R89: a write starts to wait: DIRTY_LIMIT_HIT; the first such wait after a period without one is recorded. -/
def State.noteWait (s : State) (t : Nat) : State :=
  if (s.tile t).fs.waitOn then s.latchOnly (Reg.TXN_ERR_STATUS t) 4
  else ((s.modFs t (fun g => { g with waitOn := true })).latch (Reg.TXN_ERR_STATUS t) 4 Gb.DIRTY_LIMIT_HIT t [t]).perfEvent t 0x0A 0 1

/-- R89: no write waits any longer. -/
def State.endWait (s : State) (t : Nat) : State :=
  if s.writesWait t then s else s.modFs t (fun g => { g with waitOn := false })

/-- R86, R142: measure a request whose response leaves: the longest latency of reads, and those over the bound that their path gave them. A
MemWrPtl with a line fill has a bound too, and counts only beyond it. -/
def State.measure (s : State) (r : Req) (latNs : Nat) : State :=
  if latNs == 0 then s
  else
    let h := r.head
    let s1 := if r.kind == .rd && decide ((s.getReg (Reg.TXN_LAT_MAX h)).toNat < latNs) then
        s.setReg (Reg.TXN_LAT_MAX h) (BitVec.ofNat 32 (min latNs 0xFFFFFFFF)) else s
    if (r.kind == .rd || r.kind == .ptl) && !r.waited && decide (0 < r.bound ∧ r.bound < latNs) then
      ((s1.addFld (Reg.TXN_LAT_OVER h) 31 0 1).latch (Reg.TXN_ERR_STATUS h) 2 Gb.LAT_OVER h [r.cse, latNs]).perfEvent h 0x07 0 1
    else s1

/-- R74, R81, R86, R87: build the response of a request at its head and let it leave; without an S2M credit it waits, and no bound applies
to it. A response under R55 (row 10 of R82) reports Severe Overload. -/
def State.respond (s : State) (r : Req) (data : Option Line) (poison : Bool) (latNs : Nat) : State :=
  let h := s.head r.head
  let credit := if r.kind == .rd then h.drs else h.ndr
  if credit == some 0 then s.modTxn r.head (fun x => { x with outQ := x.outQ ++ [({ r with waited := true }, data, poison)] })
  else
    let dl := if r.cse = 10 then 3 else s.devLoad
    let s1 := (s.measure r latNs).modHead r.head (fun h =>
      { h with drs := if r.kind = .rd then h.drs.map (· - 1) else h.drs,
               ndr := if r.kind = .rd then h.ndr else h.ndr.map (· - 1),
               devLoadAcc := (h.devLoadAcc.1 + 1, h.devLoadAcc.2 + dl) })
    let s2 := (s1.modTxn r.head (fun x => { x with tracker := x.tracker.filter (fun q => q.id != r.id) })).emit
      (.s2m r.head { tag := r.tag, data := if r.kind = .rd then data else none, poison := poison, metaInvalid := r.metaField, devLoad := dl })
    let s3 := (s2.setFld (Reg.TXN_STATUS r.head) 31 30 dl)
    let s4 := if r.kind == .inv || (r.kind == .rd && data.isNone) then s3 else s3.winCount r.head (r.kind != .rd)
    -- R58: a GPF Phase 2 waits for the writes received before it
    s4.modHead r.head (fun h => { h with gpf := h.gpf.map (fun l => l.filter (· != r.id)) })

/-- The tracker entry of a request at its head. -/
def State.trk (s : State) (h id : Nat) : Option Req := (s.tile h).txn.tracker.find? (fun q => q.id == id)

/-- R74: the response of a request waits for an S2M credit. -/
def State.queued (s : State) (h id : Nat) : Bool := (s.tile h).txn.outQ.any (fun w => w.1.id == id)

/-- R71, R93: the answer to a request is at its head: its response is built. An answer for an entry that no longer stands, or whose response
waits already, is discarded. -/
def State.reply (s : State) (h id : Nat) (data : Option Line) (poison : Bool) (latNs : Nat) : State :=
  match s.trk h id with
  | some q => if s.queued h id then s else s.respond q data poison latNs
  | none => s

/-- R71, R76: an answer is ready at tile `t`: it goes back to the receiving head. -/
def State.answer (s : State) (t : Nat) (r : Req) (data : Option Line) (poison : Bool) (latNs : Nat) : State :=
  if r.head = t then s.reply r.head r.id data poison latNs
  else s.meshSend t { src := t, dst := r.head, body := .memRsp r.id data poison }

/-- Change the tracker entry of a request. -/
def State.modReq (s : State) (r : Req) (f : Req → Req) : State :=
  s.modTxn r.head (fun x => { x with tracker := x.tracker.map (fun q => if q.id = r.id then f q else q) })

/-- R84: the route between a request's head and its owning tile is longer than four hops. -/
def State.farRoute (s : State) (r : Req) : Bool := match s.hops r.head r.owner with | some n => decide (4 < n) | none => false

/-- R82, R84, R163, 12_clocks_resets.md R370, R371: note the case of a request in its tracker entry: the row of the table and its bound
in ns, lengthened by 1/0.90 while a domain of the owning tile coasts, by 50 µs while its GDDR7 retrains, and by a tag recovery; no bound
applies over more than four hops. -/
def State.noteCase (s : State) (r : Req) (cse base : Nat) : State :=
  let k := (s.tile r.owner).clk
  let far := s.farRoute r
  s.modReq r (fun q =>
    let b := base + q.extraNs
    { q with cse := cse, bound := if far then 0 else (if k.coast % 128 = 0 then b else b * 10 / 9) + (if k.gddrRetrain && decide (0 < base) then 50000 else 0) })

/-- R82: a read needs reconstruction: its row, within a map range that awaits rebuild the longer one. -/
def State.noteRecon (s : State) (r : Req) : State :=
  match s.trk r.head r.id with
  | some q => if q.cse = 6 ∨ q.cse = 7 then s.noteCase r 7 7000 else s.noteCase r 5 6000
  | none => s

/-- R163: the bound of a request is longer by 48 ns. -/
def State.noteExtra (s : State) (r : Req) : State := s.modReq r (fun q => { q with extraNs := 48 })

/-- R81: the request waited, so that no bound applies to it. -/
def State.noteWaited (s : State) (r : Req) : State := s.modReq r (fun q => { q with waited := true })

/-! ### Content of segments as the medium holds it -/

/-- Line of a page, medium form. -/
def State.pageLine (s : State) (t loc line : Nat) : Line :=
  ((aget loc (s.tile t).med.pages).map (fun p => p.lines.getD line 0)).getD 0

/-- R279: the next local that the rejoin of a tile checks, its data segments first and then, counted on, the stripes of its
parity; none when the tile does not rejoin. A tile whose bit in CUP_FAILED still stands waits for its rejoin. -/
def State.rejoinAt (s : State) (t : Nat) : Option Nat :=
  match s.cup.rejoin with
  | some (u, n) => if u = t then some n else if bitOf (leAt (s.psGet Param.CUP_FAILED) 0 1) t && s.alive t then some 0 else none
  | none => if bitOf (leAt (s.psGet Param.CUP_FAILED) 0 1) t && s.alive t then some 0 else none

/-- R279: a segment that a rejoin has not passed: its reads are served by reconstruction, and its commits take their old content
from it. -/
def State.unrejoined (s : State) (t l : Nat) : Bool :=
  match s.rejoinAt t with
  | some n => decide (n ≤ l) && (s.stripeOf t l).isSome
  | none => false

/-- R281: a stripe is unsynced; so is, until its rejoin has reached it, a stripe whose parity a rejoining tile holds (R279). -/
def State.stripeUnsynced (s : State) (p q : Nat) : Bool :=
  let k := q * s.pop.tiles + p
  (match s.cup.unsyncedFrom with | some n => decide (n ≤ k) | none => false) || s.cup.unsynced.contains k
    || (match s.rejoinAt p with | some n => decide (n - (s.pop.tiles - 1) * s.cupR ≤ q) | none => false)

/-- R271: JPOS applied for a member: the newest slot that records it, else the parity page's header. -/
def State.appliedJpos (s : State) (p q m : Nat) : Option Nat :=
  let pl := s.parLocal q
  let slots := ((s.tile p).cup.slots.filter (fun e => e.1 == pl)).map (·.2)
  match (slots.filterMap (fun k => aget m k.jpos)).getLast? with
  | some j => some j
  | none =>
    let e := s.mapOf p pl
    if e.st == .mapped || e.st == .relocating then (aget e.loc (s.tile p).med.pages).bind (fun g => aget m g.members) else none

/-- R274: the parity page's line XOR the slot lines. -/
def State.parityLine (s : State) (p q line : Nat) : Line :=
  let pl := s.parLocal q
  let e := s.mapOf p pl
  let base := if e.st == .mapped || e.st == .relocating then s.pageLine p e.loc line else 0
  ((s.tile p).cup.slots.filter (fun x => x.1 == pl)).foldl (fun a x => a ^^^ agetD line 0 x.2.lines) base

/-! ### Array reads and injections (08_integrity.md R264 to R266) -/

/-- R264: the positions of a mask with the value XORed into each. -/
def flipsOf (mask value : Nat) : List (Nat × Nat) := ((List.range 72).filter (bitOf mask)).map (fun i => (i, value))

/-- R266: an injected flip is XORed onto the first `left` reads of its line; a margin injection sets its flags. -/
def injLine (j : Inject) (e : LineErr) : LineErr :=
  if j.margin then { e with flags := e.flags ||| (j.mask % 512) }
  else { e with reads := (List.range 8).map (fun i =>
    if i < j.left then flipErr (flipsOf j.mask j.value) (e.reads.getD i []) else e.reads.getD i []) }

/-- R266: the errors of an array read at a locator with the armed injections that it covers. -/
def withInj (injs : List Inject) (errs : List LineErr) : List LineErr :=
  injs.foldl (fun l j =>
    if l.any (fun e => e.line == j.line) then l.map (fun e => if e.line = j.line then injLine j e else e)
    else l ++ [injLine j { line := j.line }]) errs

/-- R266: armed injections that a read of the lines given covers. -/
def State.covering (s : State) (t loc : Nat) (covers : Nat → Bool) : List Inject :=
  (s.tile t).int.armed.filter (fun j => j.loc == loc && covers j.line)

/-- R265, R266: armed injections that a read covers, and the symbols that MEDIA_PROGRAM programmed flipped, which every read
meets. -/
def State.injs (s : State) (t loc : Nat) (covers : Nat → Bool) : List Inject :=
  let fl := ((aget loc (s.tile t).med.pages).map (·.flips)).getD []
  s.covering t loc covers ++ (fl.filter (fun f => covers f.1)).map (fun f =>
    ({ margin := false, loc := loc, line := f.1, mask := f.2.1, value := f.2.2, left := 8 } : Inject))

/-- R266: counts are consumed by the array reads made; the last one sets INJECT_DONE. -/
def State.consume (s : State) (t loc : Nat) (covers : Nat → Bool) (used : Nat → Nat) : State :=
  let mine := s.covering t loc covers
  if mine.isEmpty then s
  else
    let n := total (mine.map (fun j => min j.left (used j.line)))
    let ends := mine.any (fun j => decide (j.left ≤ used j.line))
    let s1 := (s.modInt t (fun x => { x with armed := x.armed.filterMap (fun j =>
      if j.loc = loc ∧ covers j.line then (if j.left ≤ used j.line then none else some { j with left := j.left - used j.line }) else some j) })).stat t 15 n
    if ends then s1.latchOnly (Reg.INT_ERR_STATUS t) 5 else s1

/-- R256, R257 step 3: the outer code recovers a line that steps 0 to 2 could not: at most three lines of the page fail,
each of the other 67 being read through steps 0 and 1. -/
def outerOk (dead line : Nat) (others : List LineErr) : Bool :=
  decide ((others.filter (fun e => e.line != line && !(match (ladder dead e.flags e.reads false).1 with
    | some (n, _) => decide (n ≤ 1)
    | none => false))).length ≤ 2)

/-- R257, R259: a line of a page is read through steps 0 to 3 of the ladder, its first READ_LINE having been issued: the step that succeeds,
none when all fail. `err` and `others` are the symbols in error that its reads, and those of the page's other lines, meet. -/
def State.lineRead (s : State) (t loc line : Nat) (err : LineErr) (others : List LineErr) : State × Option Nat :=
  let dead := s.deadDies t loc
  let (offs, clamped) := s.pageOffs t loc
  let c := locCh loc
  let e := (withInj (s.injs t loc (· == line)) [{ err with line := line }]).headD err
  let (r, used) := ladder dead e.flags e.reads false
  let s1 := ((s.rereads t loc line used offs).consume t loc (· == line) (fun _ => used)).perfEvent t 0x30 (2 ^ c) (used - 1)
  match r with
  | some (n, k) =>
    let s2 := s1.readOutcome t loc { step := n, weak := if n = 0 then [] else [line], corr := k, most := k } clamped
    (if n = 0 then s2 else s2.perfEvent t 0x40 n 1, some n)
  | none =>
    let es := withInj (s1.injs t loc (· != line)) others
    let s2 := ((s1.caIssue t c (locRank loc) (readCmd loc 0 68 offs)).consume t loc (· != line) (fun _ => 1)).perfEvent t 0x30 (2 ^ c) 67
    if outerOk dead line es then
      (((s2.readOutcome t loc { step := 3, weak := [line] } clamped).perfEvent t 0x40 3 1).judgeLost, some 3)
    else (s2, none)

/-- R274: steps 0 to 3 give a line of a page read for a reconstruction. Its reads meet what is injected, and no other error
(notes/assumptions/16.md). -/
def State.lineGood (s : State) (t loc line : Nat) : Bool :=
  let js := s.injs t loc (fun _ => true)
  js.isEmpty || (
    let dead := s.deadDies t loc
    let es := withInj js []
    let e := (es.find? (fun x => x.line == line)).getD { line := line }
    (ladder dead e.flags e.reads false).1.isSome || outerOk dead line es)

/-- R274 steps 3 and 4: a member's line in the version the parity has applied; none when the member cannot give it. -/
def State.memberLine (s : State) (p q m line : Nat) : Option Line :=
  let (t, l) := s.memberOf p q m
  let e := s.mapOf t l
  let newer := (s.tile t).xl.commits.find? (fun c => c.seg == l && (c.step != .program && c.step != .done))
  let applied := s.appliedJpos p q m
  if bitOf s.md.failed t || s.unrejoined t l then none
  else
    match newer with
    | some c => if applied == some c.page.jpos then some (c.page.lines.getD line 0)
                else if e.st == .mapped || e.st == .relocating then (if s.lineGood t e.loc line then some (s.pageLine t e.loc line) else none)
                else if e.st == .lost then none else some 0
    | none =>
      match e.st with
      | .mapped | .relocating => if s.lineGood t e.loc line then some (s.pageLine t e.loc line) else none
      | .lost => none
      | _ => some 0

/-- R274: the line of the parity page can be read, or there is no page. -/
def State.parityGood (s : State) (p q line : Nat) : Bool :=
  let e := s.mapOf p (s.parLocal q)
  match e.st with
  | .mapped | .relocating => s.lineGood p e.loc line
  | .lost => false
  | _ => true

/-- R274: reconstruct a line of a member, medium form; none when the stripe is unsynced, its parity tile has failed, or a
member is missing. The peers' answers are taken in the same step (notes/assumptions/16.md). -/
def State.reconstruct (s : State) (t l line : Nat) : Option Line :=
  match s.stripeOf t l with
  | none => none
  | some (p, q, m) =>
    if bitOf s.md.failed p || s.stripeUnsynced p q || !s.parityGood p q line then none
    else
      ((List.range (s.pop.tiles - 1)).filter (· != m)).foldl
        (fun a i => match a, s.memberLine p q i line with
          | some x, some y => some (x ^^^ y)
          | _, _ => none) (some (s.parityLine p q line))

/-- R274: the tiles and locals that a reconstruction reads: the parity, and the other members. -/
def State.reconFrom (s : State) (t l : Nat) : List (Nat × Nat) :=
  match s.stripeOf t l with
  | none => []
  | some (p, q, m) =>
    if bitOf s.md.failed p || s.stripeUnsynced p q then []
    else ((p, s.parLocal q) :: ((List.range (s.pop.tiles - 1)).filter (· != m)).map (s.memberOf p q)).filter (fun u =>
      !bitOf s.md.failed u.1 && !s.unrejoined u.1 u.2)

/-- R274: a page is read for a reconstruction, one line or whole: its READ_LINE is issued, and the ladder runs on the lines that an injection
covers. -/
def State.reconRead (s : State) (u : Nat × Nat) (line n : Nat) : State :=
  let e := s.mapOf u.1 u.2
  if e.st == .mapped || e.st == .relocating then
    let s1 := (s.caIssue u.1 (locCh e.loc) (locRank e.loc) (readCmd e.loc line n (s.pageOffs u.1 e.loc).1)).perfEvent u.1 0x30 (2 ^ locCh e.loc) n
    ((distinct ((s.injs u.1 e.loc (fun i => decide (line ≤ i ∧ i < line + n))).map (·.line))).foldl
      (fun a i => (a.lineRead u.1 e.loc i { line := i } []).1) s1)
  else s

/-- R274: the array reads of a reconstruction of `n` lines of a member, from `line` on. -/
def State.reconReads (s : State) (t l line n : Nat) : State := (s.reconFrom t l).foldl (fun a u => a.reconRead u line n) s

/-- R259: a read of a segment that Cupola served: the success at step 4. -/
def State.reconOk (s : State) (t l : Nat) : State :=
  ((s.stat t 4 1).latch (Reg.INT_ERR_STATUS t) 1 Gb.INT_LADDER t [t, locCh (s.mapRaw t l).loc, 4]).perfEvent t 0x40 4 1

/-- R270: the old content of a segment, line by line, for a delta: the page the map names, zeros, or reconstruction. -/
def State.oldLine (s : State) (t l line : Nat) : Line :=
  let e := s.mapOf t l
  if s.unrejoined t l then (s.reconstruct t l line).getD 0
  else match e.st with
  | .mapped | .relocating => s.pageLine t e.loc line
  | .lost => (s.reconstruct t l line).getD 0
  | _ => 0

/-- R270: lines whose old and new content differ, as old XOR new. -/
def State.deltaOf (s : State) (t l : Nat) (new : List Line) : List (Nat × Line) :=
  (List.range 64).filterMap (fun i =>
    let d := s.oldLine t l i ^^^ new.getD i 0
    if d = 0 then none else some (i, d))

/-- R165, R166: the entry that a read or a fill acts on: POISONED from the moment its segment was lost, though its delta is not acknowledged or a
commit of it still runs (R205). -/
def State.mapRead (s : State) (t l : Nat) : MapEnt :=
  let e := s.mapOf t l
  let x := (s.tile t).xl
  if x.poisonWait.contains l || x.commits.any (fun c => c.seg == l && c.step != .done && (c.poison || c.job == .drop true)) then
    { e with st := .poisoned }
  else e

/-- R151, R202: a line that no frame holds, as a fill or a copy reads it, medium form: data, or poison. `bad` says that the
page read left the line uncorrectable. -/
def State.fillLine (s : State) (t l line : Nat) (bad : Bool) : Option Line :=
  let e := s.mapRead t l
  if s.unrejoined t l then s.reconstruct t l line
  else match e.st with
  | .never | .discarded | .frontOnly => some 0
  | .mapped | .relocating => if bad then s.reconstruct t l line else some (s.pageLine t e.loc line)
  | .poisoned => none
  | .lost => s.reconstruct t l line

/-- R461: slot of a tile's local segment. -/
def State.slotOf (s : State) (t l : Nat) : Nat := s.keySlot (s.segOf t l / 65536) l

/-- R151: the plain data a fill puts into a frame, or poison. Zeros of an unmapped segment are plain zeros. -/
def State.fillPlain (s : State) (t l line : Nat) (bad : Bool) : Line × Bool :=
  let e := s.mapRead t l
  if (e.st == .never || e.st == .discarded || e.st == .frontOnly) && !s.unrejoined t l then (0, false)
  else
    match s.fillLine t l line bad with
    | some x => s.fromMedium (s.slotOf t l) (s.segOf t l) line x
    | none => (0, true)

/-- R24 step 1: the 64 lines of a frame in medium form. -/
def State.frameLines (s : State) (t : Nat) (x : Frame) : List Line :=
  (List.range 64).map (fun i =>
    s.toMedium (s.slotOf t x.seg) (s.segOf t x.seg) i (bitOf x.poison i) (agetD i 0 x.lines))

end Sys2Proof.Machine
end

