-- ==== Sys2Proof/Machine/CarOps.lean ====
section
/-! DEFINITION. Machine/CarOps.lean: shared operations of Caravan (09_caravan.md): frames between peers, peer states,
stale maps, slots and reads of peers. -/

namespace Sys2Proof.Machine

open Sys2Proof

/-! ### Frames (R289 to R291) -/

/-- R289: the lowest-numbered head in CAR_HEADS whose link is up. -/
def State.carHead (s : State) : Option Nat := s.present.find? (fun h => bitOf s.car.heads h && (s.head h).up)

/-- R290: cut a message's lines into frames of seven. -/
def frags : Nat → List Line → List (List Line)
  | 0, _ => []
  | n + 1, l => if l.length ≤ 7 then [l] else l.take 7 :: frags n (l.drop 7)

/-- R290: what a frame's header says beside its fragment. -/
structure CarHdr where
  /-- TYPE. -/
  type : Nat
  /-- FLAGS RESENT. -/
  resent : Bool := false
  /-- FLAGS QROLE. -/
  isQ : Bool := false
  /-- SEQ. -/
  seq : Nat := 0
  /-- STRIPE. -/
  stripe : Nat := 0
  /-- JPOS. -/
  jpos : Nat := 0
  /-- MEMBER. -/
  member : Nat := 0
  /-- STATUS. -/
  status : Nat := 0
  /-- LINE_MASK. -/
  mask : Nat := 0
  deriving DecidableEq, Repr

/-- R289, R290: send the frames of a message; without a head whose link is up nothing leaves. Fields of an output frame:
flags, group, source, destination, fragment, lines, SEQ, stripe, JPOS, member, status, mask, head, BAR2 base. -/
def State.carFrames (s : State) (peer : Nat) (h : CarHdr) (lines : List Line) : State :=
  match s.carHead with
  | none => s
  | some hd =>
    let fs := frags 20 lines
    let bar := match s.peer peer with | some p => p.bars.getD p.bar 0 | none => 0
    (List.range fs.length).foldl
      (fun a i =>
        let l := fs.getD i []
        let fl := b2n h.resent + 2 * b2n (i + 1 == fs.length) + 4 * b2n h.isQ
        a.emit (.caravan peer h.type
          [fl, s.car.group, s.car.self, peer, i, l.length, h.seq, h.stripe, h.jpos, h.member, h.status, h.mask, hd, bar] l)) s

/-- R290: LINE_MASK of lines by number. -/
def maskOfLines (l : List (Nat × Line)) : Nat := l.foldl (fun m e => setBit m e.1) 0

/-- R291: send a message under the next SEQ of a peer; the answer is that SEQ. -/
def State.carSend (s : State) (peer : Nat) (h : CarHdr) (lines : List Line) : State × Nat :=
  let q := match s.peer peer with | some p => p.seqTx | none => 0
  ((s.carFrames peer { h with seq := q } lines).modPeer peer (fun p => { p with seqTx := p.seqTx + 1 }), q)

/-- R294, R303 CAR_ACK_MS: 0 acts as 1, 14 and 15 as 13. -/
def State.carAckMs (s : State) : Nat := max 1 (min 13 (s.fld Reg.CAR_CTL 15 12))

/-- R292: send a DELTA and wait for its answer. -/
def State.carDelta (s : State) (t seg peer : Nat) (isQ resent : Bool) (stripe member jpos : Nat)
    (delta new : List (Nat × Line)) : State :=
  let ls := delta.map (·.2) ++ (if resent then new.map (·.2) else [])
  let (s1, q) := s.carSend peer { type := 1, resent := resent, isQ := isQ, stripe := stripe, jpos := jpos, member := member, mask := maskOfLines delta } ls
  s1.modCar (fun c => { c with msgs := c.msgs ++ [({ peer := peer, seq := q, type := 1, stripe := stripe, isQ := isQ, resent := resent, member := member, jpos := jpos, lines := (if resent then delta ++ new else delta), tile := t, seg := seg, ackMs := s.carAckMs } : CarMsg)] })

/-- R290: answer a message of a peer with an ACK, and keep the status for a repeat (R291). -/
def State.carAck (s : State) (peer seq stripe status : Nat) : State :=
  let s1 := s.carFrames peer { type := 2, seq := seq, stripe := stripe, status := status } []
  if status = 2 then s1
  else s1.modPeer peer (fun p => { p with seen := aput seq status p.seen })

/-! ### Peer states and stale maps (R297 to R300) -/

/-- R312 bit 10, R297: a peer other than a spare is not ACTIVE. -/
def State.judgePeers (s : State) : State :=
  s.setCause 10 (s.car.inGroup && s.car.peers.any (fun p => decide (p.idx < s.car.n) && p.st != .active && p.idx != s.car.self))

/-- R312 bit 9: stripes await resync, or row groups are stale or await rebuild. -/
def State.judgeSync (s : State) : State :=
  s.setCause 9 ((s.cup.unsyncedFrom.isSome || !s.cup.unsynced.isEmpty || s.cup.rejoin.isSome) || (s.car.inGroup
    && (!s.car.resync.isEmpty || s.car.role == 2 || s.car.peers.any (fun p => !p.stale.isEmpty))))

/-- R541: CAR_GROUP is stored in a layout that the manual does not fix; the model's is a header of 16 bytes and 36 bytes for each
peer (notes/assumptions/17.md). -/
def carGroupBytes (c : Caravan) : List Byte :=
  padTo 768
    (padTo 16 (leBytes 1 (b2n c.inGroup + 2 * b2n c.rs + 4 * b2n c.took) ++ leBytes 2 c.group ++ leBytes 1 c.n ++ leBytes 1 c.member ++ leBytes 1 c.role
      ++ leBytes 2 c.base ++ leBytes 2 c.blocks ++ leBytes 1 c.heads ++ leBytes 2 c.handle ++ leBytes 1 c.target ++ leBytes 1 c.peers.length)
      ++ (c.peers.map (fun p => leBytes 1 p.idx ++ leBytes 1 (p.st.code + 4 * b2n p.spare + 8 * b2n p.taken) ++ leBytes 2 p.pool
        ++ leBytes 8 (p.bars.getD 0 0) ++ leBytes 8 (p.bars.getD 1 0) ++ leBytes 8 (p.oldBars.getD 0 0) ++ leBytes 8 (p.oldBars.getD 1 0))).flatten)

/-- Member state of a code. -/
def peerStOf (n : Nat) : PeerSt := match n with | 0 => .active | 1 => .departed | 2 => .failed | _ => .replaced

/-- R290, R297: membership and peer states as CAR_GROUP gives them. -/
def carGroupOf (b : List Byte) : Caravan :=
  let at1 (o n : Nat) : Nat := leAt b o n
  { inGroup := bitOf (at1 0 1) 0, rs := bitOf (at1 0 1) 1, took := bitOf (at1 0 1) 2, group := at1 1 2, n := at1 3 1, member := at1 4 1, role := at1 5 1,
    base := at1 6 2, blocks := at1 8 2, heads := at1 10 1, handle := at1 11 2, target := at1 13 1,
    peers := (List.range (at1 14 1)).map (fun i =>
      let o := 16 + 36 * i
      { idx := at1 o 1, st := peerStOf (at1 (o + 1) 1 % 4), pool := at1 (o + 2) 2, spare := bitOf (at1 (o + 1) 1) 2,
        taken := bitOf (at1 (o + 1) 1) 3, bars := [at1 (o + 4) 8, at1 (o + 12) 8], oldBars := [at1 (o + 20) 8, at1 (o + 28) 8] }) }

/-- R297: a peer changes state: the state is stored, GB_CAR_PEER_STATE is recorded and the cause judged. -/
def State.setPeerSt (s : State) (i : Nat) (st : PeerSt) : State :=
  match s.peer i with
  | none => s
  | some p =>
    if p.st = st then s
    else
      let s1 := s.modPeer i (fun p => { p with st := st })
      let s2 := (s1.psPut Param.CAR_GROUP (carGroupBytes s1.car)).psRequest .internal
      (s2.event Gb.CAR_PEER_STATE 15 [i, p.st.code, st.code]).judgePeers

/-- R541: the element CAR_STALE of a peer: its 4,096 bits. -/
def staleBytes (l : List Nat) : List Byte :=
  (List.range 512).map (fun i => BitVec.ofNat 8 (maskOf 8 (fun b => l.contains (8 * i + b))))

/-- R300 steps 1 and 2: set the stale bit of a row group for a peer: a STALE record that must become durable, and a commit
of CAR_STALE in the background. -/
def State.markStale (s : State) (t peer g : Nat) : State :=
  match s.peer peer with
  | none => s
  | some p =>
    if p.stale.contains g then s
    else
      let n := (s.tile t).xl.jpos
      let s0 := (s.modPeer peer (fun p => { p with stale := p.stale ++ [g] })).modXl t (fun x => { x with stalePos := x.stalePos ++ [(n, peer, g)] })
      let s1 := (s0.jappendNow t (.stale peer g)).latchOnly
        (Reg.CAR_ERR_STATUS t) 3
      ((s1.psPut (Param.CAR_STALE + peer) (staleBytes (p.stale ++ [g]))).psRequest .internal).judgeSync

/-- R286: the holders of a row's parity that are not this package: index and role. -/
def State.carHolders (s : State) (row : Nat) : List (Nat × Bool) :=
  let c := s.car
  ((c.pOf row, false) :: (if c.rs then [(c.qOf row, true)] else [])).filter (fun h => h.1 != c.self)

/-- R292: the row of a segment whose commits go to Caravan: one of this package's data rows. -/
def State.carDataRow (s : State) (seg : Nat) : Option Nat :=
  match s.carRow (seg / 65536) with
  | some b => if (s.car.dataIdx b s.car.self).isSome && s.car.role != 1 then some b else none
  | none => none

/-- A peer is ACTIVE, or a spare has taken its index and gets its deltas and reads (R305). -/
def State.peerActive (s : State) (i : Nat) : Bool := match s.peer i with | some p => p.st == .active || p.spare | none => false

/-- R300: the stale bit of a row group is durable. -/
def State.staleDurable (s : State) (i g : Nat) : Bool :=
  match s.peer i with | some p => p.staleDur.contains g | none => true

/-! ### Slots (R293, R295) -/

/-- R136: slots of an accumulator buffer. -/
def slotCount : Nat := 57344

/-- R293: XOR lines into a table of lines. -/
def xorLines (a b : List (Nat × Line)) : List (Nat × Line) :=
  b.foldl (fun l e => aputD 0 e.1 (agetD e.1 0 l ^^^ e.2) l) a

/-- R288: a delta as it goes into the slot: multiplied by α^m for Q. -/
def carScaled (isQ : Bool) (m : Nat) (l : List (Nat × Line)) : List (Nat × Line) :=
  if isQ then l.map (fun e => (e.1, lineScale (gfPow m) e.2)) else l

/-- R295: an entry counts as settled once its SETTLE has come, or while its member is not ACTIVE. -/
def State.carUnsettled (s : State) (k : CarSlot) : List (Nat × Nat) := k.entries.filter (fun e => s.peerActive e.1)

/-- R293: apply a held or received delta into a slot of tile `t`; none when it must be held. -/
def State.carApply (s : State) (t seg : Nat) (d : CarHeld) : Option State :=
  let ls := carScaled d.isQ d.member d.lines
  let ks := (s.tile t).car.slots
  let own := (List.range ks.length).filter (fun i => match ks[i]? with
    | some k => k.stripe == d.stripe && k.isQ == d.isQ && !k.flushing | none => false)
  let all := (ks.filter (fun k => k.stripe == d.stripe)).length
  let put (i : Nat) : State := s.modCarT t (fun c =>
    { c with slots := lmod i (fun k => { k with lines := xorLines k.lines ls, entries := k.entries ++ [(d.peer, d.jpos)] }) c.slots })
  match own.find? (fun i => match ks[i]? with | some k => decide ((s.carUnsettled k).length < 8) | none => false) with
  | some i => some (put i)
  | none =>
    if all < 2 ∧ ks.length < slotCount then
      some (s.modCarT t (fun c => { c with slots := c.slots ++
        [({ seg := seg, stripe := d.stripe, isQ := d.isQ, lines := xorLines [] ls, entries := [(d.peer, d.jpos)] } : CarSlot)] }))
    else none

/-- R303, R288: a line as this package's member or parity gives it, in medium form; none where steps 0 to 4 of the ladder do not give it. A
segment without committed content counts as zeros. -/
def State.carMemberLine (s : State) (t l line : Nat) (bad : Bool) : Option Line :=
  let e := s.mapOf t l
  if !s.alive t || s.unrejoined t l || e.st == .lost then s.reconstruct t l line
  else if e.st == .mapped || e.st == .relocating then (if bad then s.reconstruct t l line else some (s.pageLine t e.loc line))
  else some 0

/-- R302: row groups are to be resynced; the work starts when the bulk-copy window is free. -/
def State.carQueue (s : State) (groups : List Nat) : State :=
  (s.modCar (fun c => { c with resync := c.resync ++ groups.filter (fun g => !(c.resync.contains g)), stopped := false })).judgeSync

/-! ### Reads of peers (R303) -/

/-- R303: start a read of peers for lines of a stripe: members and holders asked, each with READ_REQ. `skip` is left out. -/
def State.carReadStart (s : State) (use : CarUse) (stripe mask : Nat) (asked : List Nat) : State :=
  let (s1, left) := asked.foldl
    (fun (a : State × List (Nat × Nat)) i =>
      let (b, q) := a.1.carSend i { type := 4, stripe := stripe, mask := mask } []
      (b, a.2 ++ [(i, q)])) (s, [])
  s1.modCar (fun c => { c with reads := c.reads ++ [({ use := use, stripe := stripe, mask := mask, left := left, ackMs := s.carAckMs } : CarRead)] })

/-- R286: the members that hold data in a row, this package's own index left out. -/
def State.carOthers (s : State) (row : Nat) : List Nat :=
  (List.range s.car.n).filter (fun i => (s.car.dataIdx row i).isSome && i != s.car.self)

/-- R303: whom a reconstruction of this package's member asks: the other members, and P, or Q where the P holder is not ACTIVE, or both where two
members are unknown; none when it fails from the start: a member needed is not ACTIVE, or the stripe is stale. -/
def State.carAsk (s : State) (row : Nat) : Option (List Nat) :=
  let c := s.car
  let missing := (s.carOthers row).filter (fun i => !s.peerActive i)
  let g := c.group' row
  let active (i : Nat) : Bool := i != c.self && s.peerActive i
  let fresh (i : Nat) : Bool := (s.peer i).any (fun p => !(p.stale.contains g))
  let pOn := active (c.pOf row)
  let qOn := c.rs && active (c.qOf row)
  let live := (s.carOthers row).filter s.peerActive
  let asked := if missing.isEmpty then (if pOn then [c.pOf row] else if qOn then [c.qOf row] else [])
    else if missing.length = 1 ∧ pOn ∧ qOn then [c.pOf row, c.qOf row] else []
  if asked.isEmpty || !asked.all fresh then none else some (live ++ asked)

/-- R303 step 3: the version of a member's line to use. -/
def CarRead.version (r : CarRead) (a : CarAnswer) (line : Nat) : Line :=
  match a.newPos with
  | some p => if r.ledger.contains (a.peer, p) then agetD line 0 a.newLines else agetD line 0 a.lines
  | none => agetD line 0 a.lines

/-- R303 step 4: solve the code for data member `m` of a row from the answers of a read; `unk` is a second unknown. -/
def carSolve (c : Caravan) (row m : Nat) (unk : Option Nat) (r : CarRead) (line : Nat) : Line :=
  let data := r.got.filterMap (fun a => (c.dataIdx row a.peer).map (fun i => (i, r.version a line)))
  let px := (r.parity.find? (fun e => !e.1)).map (fun e => agetD line 0 e.2)
  let qx := (r.parity.find? (fun e => e.1)).map (fun e => agetD line 0 e.2)
  let sumP := data.foldl (fun x d => x ^^^ d.2) 0
  let sumQ := data.foldl (fun x d => x ^^^ lineScale (gfPow d.1) d.2) 0
  match px, qx, unk with
  | some p, _, none => p ^^^ sumP
  | none, some q, none => lineScale (gfInv (gfPow m)) (q ^^^ sumQ)
  | some p, some q, some u =>
    -- two unknowns x_m and x_u: x_m + x_u = p', α^m x_m + α^u x_u = q'
    let p1 := p ^^^ sumP
    let q1 := q ^^^ sumQ
    lineScale (gfInv (gfPow m ^^^ gfPow u)) (q1 ^^^ lineScale (gfPow u) p1)
  | _, _, _ => 0

end Sys2Proof.Machine
end

