-- ==== Sys2Proof/Machine/Layout.lean ====
section
/-! DEFINITION. Machine/Layout.lean: a tile's GDDR7 address space: its regions, the buffers of the service region, frames, metadata lines and
map lines by address, and tag words (05_front_store.md R133 to R139, 07_translation.md R201, R233); the boot flash: its areas and the records
of the Guestbook and the Parameter Store as bytes (17_guestbook_parameter_store.md R474 to R485). -/

namespace Sys2Proof.Machine

open Sys2Proof

/-! ### Regions (R133, R136) -/

/-- A range of addresses: base and size in bytes. -/
structure Span where
  /-- first byte. -/
  base : Nat
  /-- bytes. -/
  size : Nat
  deriving DecidableEq, Repr

/-- An address lies in a range. -/
def Span.has (r : Span) (a : Nat) : Bool := decide (r.base ≤ a ∧ a < r.base + r.size)

/-- R133: the front-store region. -/
def Pop.frontRegion (p : Pop) : Span := { base := 0, size := if p.density24 then 0x90000000 else 0x120000000 }

/-- R133: the unused range, which 24 Gb devices alone have. -/
def Pop.unusedRegion (p : Pop) : Span := if p.density24 then { base := 0x90000000, size := 0x10000000 } else { base := 0x120000000, size := 0 }

/-- R133: the map region. -/
def Pop.mapRegion (p : Pop) : Span := { base := if p.density24 then 0xA0000000 else 0x120000000, size := 0x80000000 }

/-- R133: the service region. -/
def Pop.serviceRegion (p : Pop) : Span := { base := if p.density24 then 0x120000000 else 0x1A0000000, size := 0x60000000 }

/-- R136: a buffer of the service region. -/
inductive ServiceBuf where
  | metadata | journal | cupola | caravan | gcCopy | bulkCopy | rebuild | firmware
  deriving DecidableEq, Repr

/-- R136: offset and size of a buffer. -/
def ServiceBuf.span : ServiceBuf → Span
  | .metadata => { base := 0, size := 72 * 2 ^ 20 }
  | .journal => { base := 0x04800000, size := 128 * 2 ^ 20 }
  | .cupola => { base := 0x0C800000, size := 256 * 2 ^ 20 }
  | .caravan => { base := 0x1C800000, size := 256 * 2 ^ 20 }
  | .gcCopy => { base := 0x2C800000, size := 64 * 2 ^ 20 }
  | .bulkCopy => { base := 0x30800000, size := 256 * 2 ^ 20 }
  | .rebuild => { base := 0x40800000, size := 128 * 2 ^ 20 }
  | .firmware => { base := 0x48800000, size := 376 * 2 ^ 20 }

/-! ### Lines by address (R134, R201) -/

/-- R134: the address of line `i` of frame `f`. -/
def Pop.lineAddr (p : Pop) (f i : Nat) : Nat := p.frontRegion.base + f * 4608 + i * 72

/-- R134: the address of the metadata line of frame `f`. -/
def Pop.metaAddr (p : Pop) (f : Nat) : Nat := p.serviceRegion.base + f * 72

/-- R201: the address of the map line that holds the entry of local segment `l`. -/
def Pop.mapAddr (p : Pop) (l : Nat) : Nat := p.mapRegion.base + l / 16 * 72

/-! ### Tag words and metadata lines (R135, R139) -/

/-- R139: bits 31:0 of the tag word of a frame: STATE and TAG. -/
def State.tagBody (s : State) (t f : Nat) : Nat :=
  let x := s.frame t f
  if x.st = .invalid then 0 else x.st.code * 2 ^ 28 + s.tagOf x.seg

/-- R139: P3 to P0 of 32 bits. -/
def tagParity (w : Nat) : Nat := maskOf 4 (fun i => popCount (w / 2 ^ (8 * i)) 8 % 2 == 1)

/-- R139: the 36-bit tag word of a frame. -/
def State.tagWord (s : State) (t f : Nat) : Nat := let w := s.tagBody t f; tagParity w * 2 ^ 32 + w

/-- R139: bytes of a tag word whose parity fails. -/
def tagBadBytes (w : Nat) : Nat := Nat.xor (tagParity (w % 2 ^ 32)) (w / 2 ^ 32 % 16)

/-- R139: width of a tag. -/
def State.tagWidth (s : State) : Nat := 29 - s.setBits

/-- R139: a tag word is a tag parity error: its parity fails, its STATE is a reserved code, or its TAG has a 1 above the tag width. -/
def State.tagWrong (s : State) (w : Nat) : Bool :=
  tagBadBytes w != 0 || decide (5 < w / 2 ^ 28 % 16) || decide (2 ^ s.tagWidth ≤ w % 2 ^ 28)

/-- R139: the state that a STATE code names; a reserved one, which no word that passes its check holds, names Invalid. -/
def FState.ofCode : Nat → FState
  | 1 => .filling | 2 => .clean | 3 => .dirty | 4 => .writing | 5 => .locked | _ => .invalid

/-- R135: the 64 information bytes of the metadata line of a frame. -/
def State.metaBytes (s : State) (t f : Nat) : List Byte :=
  let x := s.frame t f
  leBytes 8 x.valid ++ leBytes 8 x.dirty ++ leBytes 8 x.poison ++ leBytes 4 (s.tagBody t f) ++ leBytes 4 x.seg ++ leBytes 1 (x.epoch % 8) ++ zeros 31

/-- R135: the metadata line of a frame. -/
def State.metaLine (s : State) (t f : Nat) : Line := let b := s.metaBytes t f; lineOf (fun i => b.getD i 0)

/-- R201: map line `n` of a tile: the words of its 16 entries. -/
def State.mapLine (s : State) (t n : Nat) : Line :=
  packedLine 4 ((List.range 16).map (fun i => (agetD (16 * n + i) {} (s.tile t).xl.map).word)) 0

/-- R133, R134, R201, R249: the 72 bytes stored from an address of a tile's GDDR7 on, where a line of a frame, a metadata line or a map line
starts there. -/
def State.gddrLine (s : State) (t a : Nat) : Option (List Byte) :=
  let p := s.pop
  let fr := (a - p.frontRegion.base) / 4608
  let mt := (a - p.serviceRegion.base) / 72
  let mp := (a - p.mapRegion.base) / 72
  if p.frontRegion.has a && decide (fr < framesOf p) && (a - p.frontRegion.base) % 4608 % 72 == 0 then
    some (gddrSymbols (agetD ((a - p.frontRegion.base) % 4608 / 72) 0 (s.frame t fr).lines))
  else if p.serviceRegion.has a && decide (mt < framesOf p) && (a - p.serviceRegion.base) % 72 == 0 then some (gddrSymbols (s.metaLine t mt))
  else if p.mapRegion.has a && decide (mp < s.segs / 16) && (a - p.mapRegion.base) % 72 == 0 then some (gddrSymbols (s.mapLine t mp))
  else none

/-! ### Boot flash (17_guestbook_parameter_store.md R474 to R485) -/

/-- R474: an area of the boot flash. -/
inductive FlashArea where
  | slotA | slotB | readOnly | storeA | storeB | gbPerm | gbCirc
  deriving DecidableEq, Repr

/-- R474: offset and size of an area. -/
def FlashArea.span : FlashArea → Span
  | .slotA => { base := 0, size := 16 * 2 ^ 20 }
  | .slotB => { base := 0x1000000, size := 16 * 2 ^ 20 }
  | .readOnly => { base := 0x2000000, size := 2 ^ 20 }
  | .storeA => { base := 0x2100000, size := 2 ^ 20 }
  | .storeB => { base := 0x2200000, size := 2 ^ 20 }
  | .gbPerm => { base := 0x2300000, size := 256 * 2 ^ 10 }
  | .gbCirc => { base := 0x2340000, size := 4 * 2 ^ 20 }

/-- R479, R480: where record slot `pos` of a Guestbook area lies: 127 records follow the 32-byte header of each 4 KiB sector. -/
def gbAddr (circ : Bool) (pos : Nat) : Nat :=
  (if circ then FlashArea.gbCirc else .gbPerm).span.base + pos / 127 * 4096 + 32 + pos % 127 * 32

/-- R479: the bytes of a record in boot flash, each inverted. -/
def gbFlashBytes (r : GbRecord) : List Byte := (gbBytes r).map (fun b => ~~~b)

/-- R490: where page `p` of a copy of the Parameter Store lies. -/
def psPageAddr (copyB : Bool) (p : Nat) : Nat := (if copyB then FlashArea.storeB else .storeA).span.base + p * 4096

/-- Bytes with their CRC-32C after them. -/
def withCrc (b : List Byte) : List Byte := b ++ leBytes 4 (crc32c b).toNat

/-- The header of a page of a copy: MAGIC, the copy, its generation, CRC-32C. -/
def psPageHeader (copyB : Bool) (gen : Nat) : List Byte :=
  withCrc (leBytes 2 0x5053 ++ leBytes 1 (b2n copyB) ++ [0] ++ leBytes 4 gen ++ zeros 20)

/-- R485: a record of a value: MAGIC, TYPE, PARAM_ID, LENGTH, SEQ, the value padded to a multiple of 4 bytes, CHECK. -/
def psRecordBytes (seq id : Nat) (v : List Byte) : List Byte :=
  withCrc (leBytes 1 0xA5 ++ leBytes 1 1 ++ leBytes 2 id ++ leBytes 2 v.length ++ zeros 2 ++ leBytes 4 seq ++ zeros 4
    ++ v ++ zeros ((4 - v.length % 4) % 4))

/-- R485: the marker of a commit: it holds the commit's record count and bytes. -/
def psMarkerBytes (seq : Nat) (els : List (Nat × List Byte)) : List Byte :=
  withCrc (leBytes 1 0xA5 ++ leBytes 1 2 ++ leBytes 2 0 ++ leBytes 2 8 ++ zeros 2 ++ leBytes 4 seq ++ zeros 4
    ++ leBytes 4 els.length ++ leBytes 4 (setSize els))

end Sys2Proof.Machine
end

