-- ==== Sys2Proof/Machine/PathOps.lean ====
section
/-! DEFINITION. Machine/PathOps.lean: the data path of a tile: commits and their steps (01_architecture.md R24), page
programs that wait, tag recovery (05_front_store.md R163 to R166), host reads and writes at the owning tile
(03_transactions.md R78, 05_front_store.md R141 to R148), adopted slots (08_integrity.md R276). -/

namespace Sys2Proof.Machine

open Sys2Proof

/-! ### Commits (R24) -/

/-- Change the commit of a segment. -/
def State.modCommit (s : State) (t seg : Nat) (f : Commit → Commit) : State :=
  s.modXl t (fun x => { x with commits := x.commits.map (fun c => if c.seg = seg then f c else c) })

/-- The commit of a segment that has not reached step 5. -/
def State.commitOf (s : State) (t seg : Nat) : Option Commit := (s.tile t).xl.commits.find? (fun c => c.seg == seg)

/-- R212: the frontier of a job: commits take HOST, repairs and rejoin GC. -/
def Job.frontier : Job → Nat
  | .host _ | .cup _ | .car _ | .carResync _ | .cupResync _ => 0
  | _ => 1

/-- R24 step 1: place and start the program of a commit; it waits when no plane is free. -/
def State.launchCommit (s : State) (t : Nat) (c : Commit) : State :=
  match s.place t c.job.frontier with
  | (s1, some loc) =>
    let pg := s1.stampPage t (locCh loc) c.page
    (s1.startProgram t loc c.job pg).modCommit t c.seg (fun d => { d with loc := some loc, page := pg })
  | (s1, none) => s1

/-- R213: programs that wait for a plane are tried again, oldest first, those of metadata pages before commits. -/
def State.retryPrograms (s : State) (t : Nat) : State :=
  let s1 := s.retryMeta t
  ((s1.tile t).xl.commits.filter (fun c => c.step == .program && c.loc.isNone)).foldl (fun a c => a.launchCommit t c) s1

/-- R123: the limits of another profile entry apply: programs that wait are tried again on every tile. -/
def State.retryAll (s : State) : State := s.aliveTiles.foldl (fun a t => a.retryPrograms t) s

/-- R24: a commit begins. -/
def State.beginCommit (s : State) (t : Nat) (job : Job) (seg : Nat) (pg : Page) : State :=
  let c : Commit := { job := job, seg := seg, page := pg }
  (s.modXl t (fun x => { x with commits := x.commits ++ [c] })).launchCommit t c

/-- R272 ACK_MS: 0 acts as 1. -/
def State.ackMs (s : State) : Nat := max 1 (s.fld Reg.CUP_CTL 3 0)

/-- R24 step 2, R270, R205: send the Cupola delta of a segment; the answer says that an acknowledgement is awaited. -/
def State.sendCupola (s : State) (t seg jpos : Nat) (resent : Bool) (delta : List (Nat × Line)) : State × Bool :=
  match s.stripeOf t seg with
  | none => (s, false)
  | some (p, q, m) =>
    if bitOf s.md.failed p then (s, false)
    else
      let d : Delta := { src := t, parLocal := s.parLocal q, member := m, jpos := jpos, resent := resent, lines := delta, seg := seg }
      let s1 := (s.modCupT t (fun c => { c with sent := aput seg (p, s.ackMs) c.sent })).perfEvent t 0x50 1 1
      (s1.meshSend t { src := t, dst := p, body := .delta d }, true)

/-- R292, R300: send the Caravan deltas of a segment to the holders of its stripe; a holder that is not ACTIVE gets its
stale bit. The answer lists the holders that are awaited. -/
def State.sendCaravan (s : State) (t seg jpos : Nat) (resent : Bool) (delta new : List (Nat × Line)) : State × List Nat :=
  let pseg := s.segOf t seg
  match s.carDataRow pseg with
  | none => (s, [])
  | some row =>
    let st := row * 65536 + pseg % 65536
    let m := (s.car.dataIdx row s.car.self).getD 0
    let g := s.car.group' row
    (s.carHolders row).foldl
      (fun (a : State × List Nat) h =>
        if a.1.peerActive h.1 then
          ((a.1.carDelta t seg h.1 h.2 resent st m jpos delta new).perfEvent t 0x50 2 1, a.2 ++ [h.1])
        else
          let b := a.1.markStale t h.1 g
          (b, if b.staleDurable h.1 g then a.2 else a.2 ++ [h.1])) (s, [])

/-- R218, R227: the entry of a segment changes to `e` and the page it named becomes invalid. -/
def State.replaceEntry (s : State) (t seg : Nat) (e : MapEnt) : State :=
  let old := agetD seg ({} : MapEnt) (s.tile t).xl.map
  let s1 := s.setMap t seg e
  if old.st == .mapped || old.st == .relocating then s1.invalidate t old.loc else s1

/-- R243: a commit's step 4 for a map line that awaits rebuild fetches that line first. -/
def State.fetchLine (s : State) (t l : Nat) : State :=
  let x := (s.tile t).xl
  match x.rebuildAt with
  | some n => if n ≤ l / 16 ∧ !(x.fetched.contains (l / 16)) then s.modXl t (fun y => { y with fetched := y.fetched ++ [l / 16] }) else s
  | none => s

/-- R24 step 4: the record is appended and the entry changes: MAPPED at the new page, or DISCARDED or POISONED (R205);
without journal space the commit waits (R234). -/
def State.commitJournal (s : State) (t seg : Nat) : State :=
  match s.commitOf t seg with
  | none => s
  | some c =>
    if s.jroom t then
      let s0 := s.fetchLine t seg
      match c.job, c.loc with
      | .drop poison, _ =>
        let s1 := s0.modXl t (fun x => { x with commits := x.commits.filter (fun d => d.seg != seg) })
        let e : MapEnt := { st := if poison then .poisoned else .discarded }
        ((s1.jappend t (if poison then .poison seg else .discard seg)).replaceEntry t seg e).judgeLost
      | _, none => s
      | job, some loc =>
        let e : MapEnt := { st := .mapped, loc := loc }
        let s1 := (((s0.jappend t (.commit seg e)).replaceEntry t seg e).modCommit t seg (fun d => { d with step := .done })).judgeLost
        -- R165, R166: a segment lost meanwhile becomes POISONED now
        if c.poison then s1.modXl t (fun x => { x with commits := x.commits.filter (fun d => d.seg != seg), poisonWait := x.poisonWait ++ [seg] }) else
        match job with
        | .host _ => s1.modXl t (fun x => { x with hostSegs := x.hostSegs + 1 })
        | _ => s1
    else
      (s.modCommit t seg (fun d => { d with step := .journal })).latch
        (Reg.XL_ERR_STATUS t) 4 Gb.XL_JNL_FULL t [t, s.jfill t]

/-- 18_performance_counters.md R501 event 0x22: a Writing-back frame awaits a Cupola or Caravan acknowledgement. -/
def State.parityWaits (s : State) (t : Nat) : Bool :=
  (s.tile t).xl.commits.any (fun c => (match c.job with | .host _ => true | _ => false)
    && (match c.step with | .cupola => true | .caravan _ => true | _ => false))

/-- R501: the condition of event 0x22 becomes true. -/
def State.noteParityWait (s : State) (t : Nat) (was : Bool) : State :=
  if !was && s.parityWaits t then s.perfEvent t 0x22 0 1 else s

/-- R24 step 3: the Caravan deltas go out, or the commit goes on to step 4. -/
def State.commitCaravan (s : State) (t seg : Nat) : State :=
  match s.commitOf t seg with
  | none => s
  | some c =>
    let (s1, l) := s.sendCaravan t seg c.page.jpos false c.delta []
    if l.isEmpty then s1.commitJournal t seg
    else (s1.modCommit t seg (fun d => { d with step := .caravan l })).noteParityWait t (s.parityWaits t)

/-- R24 step 2: the Cupola delta goes out, or the commit goes on. A parity segment sends no Cupola delta (R269); a
Caravan-held segment sends no Caravan delta (R287). -/
def State.commitDelta (s : State) (t seg : Nat) (delta : List (Nat × Line)) : State :=
  match s.commitOf t seg with
  | none => s
  | some c =>
    let s1 := s.modCommit t seg (fun d => { d with delta := delta })
    match c.job with
    | .cup _ | .cupResync _ => s1.commitJournal t seg
    | _ =>
      let (s2, sent) := s1.sendCupola t seg c.page.jpos false delta
      if sent then (s2.modCommit t seg (fun d => { d with step := .cupola })).noteParityWait t (s.parityWaits t)
      else s2.commitCaravan t seg

/-- R300: the holders of a row get its stale bit: the delta of a stripe cannot be formed. -/
def State.carStaleRow (s : State) (t row : Nat) : State :=
  (s.carHolders row).foldl (fun a h => a.markStale t h.1 (s.car.group' row)) s

/-- R270, R306: the old content of a commit is at hand, or, for a LOST segment that Cupola cannot give, is read from the peers of
Caravan first; where they cannot give it either, its stripe becomes stale. -/
def State.commitCupola (s : State) (t seg : Nat) : State :=
  match s.commitOf t seg with
  | none => s
  | some c =>
    let pseg := s.segOf t seg
    let absent := (s.mapOf t seg).st == .lost && !(List.range 64).all (fun i => (s.reconstruct t seg i).isSome)
    match absent, s.carDataRow pseg with
    | true, some row =>
      match s.carAsk row with
      | some asked =>
        (s.modCommit t seg (fun d => { d with step := .old })).carReadStart (.old t seg) (row * 65536 + pseg % 65536) allLines asked
      | none => (s.carStaleRow t row).commitDelta t seg (s.deltaOf t seg c.page.lines)
    | _, _ => s.commitDelta t seg (s.deltaOf t seg c.page.lines)

/-- R205: the delta that removes a segment's last committed content goes out; its new state is journalled when it is acknowledged. -/
def State.dropDelta (s : State) (t l : Nat) (poison : Bool) : State :=
  let old := s.mapRaw t l
  if !poison && (old.st == .never || old.st == .discarded) then s
  else if old.st == .mapped || old.st == .relocating || old.st == .lost then
    let pg : Page := { kind := .host, subject := l, jpos := (s.tile t).xl.jpos, lines := List.replicate 64 0 }
    let c : Commit := { job := .drop poison, seg := l, page := pg, step := .cupola }
    let s1 := s.modXl t (fun x => { x with commits := x.commits ++ [c] })
    s1.commitCupola t l
  else
    (s.jappend t (if poison then .poison l else .discard l)).replaceEntry t l { st := if poison then .poisoned else .discarded }

/-- R205, R227, R156, R165, R166: a segment loses its content: it becomes DISCARDED, or POISONED, after the delta that removes its last
committed content is acknowledged. A discard waits for a commit that runs; a lost segment is poisoned from now on (`mapRead`), and its entry
follows when its commit has ended. -/
def State.dropSeg (s : State) (t l : Nat) (poison : Bool) : State :=
  match s.commitOf t l with
  | none => s.dropDelta t l poison
  | some c =>
    if !poison then s
    else if c.step == .done then
      (s.modXl t (fun x => { x with commits := x.commits.filter (fun d => d.seg != l) })).dropDelta t l true
    else match c.job with
      | .drop _ => s.modCommit t l (fun d => { d with job := .drop true })
      | .host _ | .repair _ | .rejoin _ => s.modCommit t l (fun d => { d with poison := true })
      | _ => s

/-- R165, R166: segments whose commit has ended become POISONED. -/
def State.poisonDrops (s : State) (t : Nat) : State :=
  (s.tile t).xl.poisonWait.foldl (fun a l =>
    if (a.commitOf t l).isSome then a
    else (a.modXl t (fun x => { x with poisonWait := x.poisonWait.filter (· != l) })).dropDelta t l true) s

/-- R300 step 3: holders that are no longer awaited drop out of step 3; the last one lets the commit go on. -/
def State.caravanProgress (s : State) (t seg : Nat) : State :=
  match s.commitOf t seg with
  | none => s
  | some c =>
    match c.step with
    | .caravan l =>
      if c.stopped then s else
      let row := (s.carDataRow (s.segOf t seg)).getD 0
      let g := s.car.group' row
      let s1 := l.foldl (fun a i => if a.peerActive i then a else a.markStale t i g) s
      let left := l.filter (fun i => s1.peerActive i || !(s1.staleDurable i g))
      if left.isEmpty then s1.commitJournal t seg else s1.modCommit t seg (fun d => { d with step := .caravan left })
    | _ => s

/-- Every commit of a tile at step 3 is judged again. -/
def State.caravanProgressAll (s : State) (t : Nat) : State :=
  ((s.tile t).xl.commits.map (·.seg)).foldl (fun a l => a.caravanProgress t l) s

/-- R234: commits that wait for journal space go on. -/
def State.retryJournal (s : State) (t : Nat) : State :=
  (((s.tile t).xl.commits.filter (fun c => c.step == .journal)).map (·.seg)).foldl
    (fun a l => if a.jroom t then a.commitJournal t l else a) s

/-! ### Tag and metadata errors (05_front_store.md R163 to R166) -/

/-- R166, R165: the segment of a frame is POISONED, with journalling; its event record is raised. -/
def State.poisonSeg (s : State) (t l : Nat) : State := (s.dropSeg t l true).evtSeg 0 (s.segOf t l)

/-- R265: flips stored in the lines of a frame are gone, by number of the line. -/
def State.clearFlips (s : State) (t f : Nat) (lines : Nat → Bool) : State :=
  if (s.tile t).fs.lineFlips.isEmpty then s
  else s.modFs t (fun g => { g with lineFlips := g.lineFlips.filter (fun e => !(e.1 / 65 == f && lines (e.1 % 65))) })

/-- R265: symbols flipped in a stored line of a frame; line 64 is the metadata line. -/
def State.flipsIn (s : State) (t f line : Nat) : Nat := patSyms (agetD (65 * f + line) 0 (s.tile t).fs.lineFlips)

/-- R166: the metadata line of a frame with a good tag is uncorrectable. -/
def State.metaLost (s : State) (t f : Nat) : State :=
  let x := s.frame t f
  let gone := s.setFrame t f { st := .invalid, seg := 0 }
  if x.st = .clean ∨ x.st = .invalid then gone
  else
    let s1 := (gone.latchOnly (Reg.FS_ERR_STATUS t) 2).latch (Reg.FS_ERR_STATUS t) 3 Gb.FS_DIRTY_LOST t [t, f, 1]
    (s1.setReg (Reg.FS_ERR_FRAME t) (BitVec.ofNat 32 f)).poisonSeg t x.seg

/-- R166: a line of a frame is uncorrectable: its POISON bit is set, and its metadata line written anew. -/
def State.lineLost (s : State) (t f line : Nat) : State :=
  let x := s.frame t f
  (((s.clearFlips t f (fun i => i == line || i == 64)).setFrame t f { x with poison := setBit x.poison line }).latch (Reg.FS_ERR_STATUS t) 1 Gb.FS_LINE_UNCORR t [t, f, line]).setReg
    (Reg.FS_ERR_FRAME t) (BitVec.ofNat 32 f)

/-- R143 rows 6 and 10: the lines of a frame are read, DIRTY is cleared, the frame is Writing-back and its program starts. R166: `bad` are
the lines that are found uncorrectable; so are those with more than four symbols flipped. -/
def State.writeBack (s : State) (t f bad : Nat) : State :=
  if 4 < s.flipsIn t f 64 then (s.clearFlips t f (fun _ => true)).metaLost t f
  else
    let lost := (List.range 64).filter (fun i => bitOf (s.frame t f).valid i && (bitOf bad i || decide (4 < s.flipsIn t f i)))
    let s1 := (lost.foldl (fun a i => a.lineLost t f i) s).clearFlips t f lost.contains
    let x := { s1.frame t f with st := FState.writing, dirty := 0, fillMask := 0, commitFill := false }
    let pg : Page := { kind := .host, subject := x.seg, key := s1.slotOf t x.seg, lines := s1.frameLines t x }
    (s1.setFrame t f x).beginCommit t (.host f) x.seg pg

/-- R143 rows 6, 7 and 16, R144, R150: a commit of frame `f` is chosen. It waits while a maintenance operation holds the
segment lock, and for a lock while all are held (R77). -/
def State.startCommitBad (s : State) (t f bad : Nat) : State :=
  let x := s.frame t f
  let hold := s.md.mode == .holdup
  let ready := x.st == .dirty || (x.st == .locked && x.dirty != 0 && hold)
    || (x.st == .filling && !x.commitFill && x.dirty != 0 && hold)
  if ready && !((s.tile t).txn.locks.contains x.seg) && (s.commitOf t x.seg).isNone && !(bitOf s.md.sealed t && !hold) && s.lockRoom t x.seg then
    if x.valid == allLines then s.writeBack t f bad
    else s.setFrame t f { x with st := .filling, fillMask := allLines - x.valid, commitFill := true }
  else s

/-- A commit of frame `f` starts, its lines being good. -/
def State.startCommit (s : State) (t f : Nat) : State := s.startCommitBad t f 0

/-- R164: a way is withdrawn. -/
def State.withdrawNow (s : State) (t f : Nat) : State :=
  let n := (s.tile t).fs.withdrawn.length + 1
  (((s.setFrame t f { st := .invalid, seg := 0 }).modFs t (fun g =>
    { g with withdrawn := g.withdrawn ++ [f], withdrawWait := g.withdrawWait.filter (· != f) })).event Gb.FS_WAY_WITHDRAWN t
      [t, f / s.ways, f % s.ways, n]).judgeThrottle t

/-- R164: a way has a hard fault: it is withdrawn, once its frame is committed when that counts as dirty, or the tile turns to write-through
at the seventeenth. -/
def State.withdraw (s : State) (t f : Nat) : State :=
  let g := (s.tile t).fs
  if g.withdrawn.contains f || g.withdrawWait.contains f then s
  else if g.withdrawn.length + g.withdrawWait.length < 16 then
    if (s.frame t f).st == .clean || (s.frame t f).st == .invalid then s.withdrawNow t f
    else (s.modFs t (fun g => { g with withdrawWait := g.withdrawWait ++ [f] })).startCommit t f
  else (s.modFs t (fun g => { g with forced := true })).setCause 7 true

/-- R164: ways whose frames have been committed, or hold nothing any longer, are withdrawn; a frame that is dirty again is committed
again. -/
def State.withdrawReady (s : State) (t : Nat) : State :=
  (s.tile t).fs.withdrawWait.foldl (fun a f =>
    if (a.frame t f).st == .clean || (a.frame t f).st == .invalid then a.withdrawNow t f else a.startCommit t f) s

/-- R165: candidate segments of a tag word read as `w`: those whose tag agrees with it in every byte whose parity is good. -/
def State.candidateSegs (s : State) (set w : Nat) : List Nat :=
  let bad := tagBadBytes w
  let width := s.tagWidth
  let tag := w % 2 ^ 28
  -- bits above the tag width are 0 in every candidate
  let agrees := (bitOf bad 1 || decide (tag % 2 ^ 16 < 2 ^ width)) && (bitOf bad 2 || tag / 2 ^ 16 % 256 == 0) && (bitOf bad 3 || tag / 2 ^ 24 == 0)
  let los := if bitOf bad 0 then List.range (min 256 (2 ^ width)) else [tag % 256]
  let his := if bitOf bad 1 then List.range (2 ^ width / 256) else [tag / 256 % 256]
  if agrees then (his.map (fun h => los.map (fun l => s.segOfTag set (256 * h + l)))).flatten else []

/-- R163 to R165: the tag word of frame `f` is read as `w`, a tag parity error: it is recovered from the metadata line, or its segment is
lost. `metaBad`: the metadata line is uncorrectable. -/
def State.tagRecover (s : State) (t f w : Nat) (hard metaBad : Bool) : State :=
  let x := s.frame t f
  let s0 := s.modFs t (fun g => { g with tagFlips := adel f g.tagFlips })
  if metaBad then
    let code := w / 2 ^ 28 % 16
    let s1 := (s0.latchOnly (Reg.FS_ERR_STATUS t) 3).setReg (Reg.FS_ERR_FRAME t) (BitVec.ofNat 32 f)
    if !bitOf (tagBadBytes w) 3 && (code == 0 || code == 2) then s0.setFrame t f { st := .invalid, seg := 0 }
    else
      let others := (s.setFrames (f / s.ways)).filter (fun g => g != f && (s.frame t g).st != .invalid)
      let all := (s.candidateSegs (f / s.ways) w).filter (fun l => decide (l < s.segs))
      let cands := all.filter (fun l => !(others.any (fun g => (s.frame t g).seg == l)))
      let s2 := (s1.gbEventN 4 Gb.FS_DIRTY_LOST t [t, f, all.length] (s.regBit (Reg.FS_ERR_STATUS t) 3)).setFrame t f { x with st := .invalid }
      cands.foldl (fun a l => a.poisonSeg t l) s2
  else
    let s1 := (s0.latch (Reg.FS_ERR_STATUS t) 0 Gb.FS_TAG_PARITY t [t, f]).setReg (Reg.FS_ERR_FRAME t) (BitVec.ofNat 32 f)
    if hard then s1.withdraw t f else s1

/-- R139: a tag word altered without an error is the frame's tag word from then on (notes/assumptions/143.md). -/
def State.tagTaken (s : State) (t f w : Nat) : State :=
  (s.modFs t (fun g => { g with tagFlips := adel f g.tagFlips })).setFrame t f
    { s.frame t f with st := FState.ofCode (w / 2 ^ 28 % 16), seg := s.segOfTag (f / s.ways) (w % 2 ^ 28) }

/-- R139, R163: the tag word of frame `f` is read with bits flipped; the answer says that it was a tag parity error. -/
def State.tagRead (s : State) (t f flips : Nat) (hard metaBad : Bool) : State × Bool :=
  let w := Nat.xor (s.tagWord t f) flips
  if flips = 0 then (s, false)
  else if s.tagWrong w then (s.tagRecover t f w hard metaBad, true)
  else (s.tagTaken t f w, false)

/-- R163: a lookup checks the tag words of all the ways of its set, with the flips stored there (R265) and those of the operand; the answer
says that one was recovered. -/
def State.tagCheck (s : State) (t l : Nat) (u : Upset) : State × Bool :=
  let hit := s.setOf l * s.ways + u.tagWay % s.ways
  (s.setFrames (s.setOf l)).foldl (fun (a : State × Bool) f =>
    let mine := f == hit
    let flips := Nat.xor (agetD f 0 (a.1.tile t).fs.tagFlips) (if mine then u.tagBits % 2 ^ 36 else 0)
    let (b, r) := a.1.tagRead t f flips (mine && u.hard) (decide (4 < a.1.flipsIn t f 64 + (if mine then u.metaSyms else 0)))
    (b, a.2 || r)) (s, false)

/-- R166: what a lookup that hits frame `f` meets in its metadata line and, where it reads the line (`rd`), in that. Flips of R265 stay until
the line is written anew. -/
def State.frameCheck (s : State) (t f line : Nat) (u : Upset) (rd : Bool) : State :=
  let n := u.lineSyms + s.flipsIn t f line
  let m := u.metaSyms + s.flipsIn t f 64
  if 4 < m ∧ u.tagBits = 0 then (s.clearFlips t f (fun _ => true)).metaLost t f
  else if rd && decide (4 < n) && bitOf (s.frame t f).valid line then s.lineLost t f line
  else s

/-! ### The hazard table (03_transactions.md R77, R78) -/

/-- An entry of the hazard table. -/
def State.hazOf (s : State) (t id : Nat) : Option Haz := (s.tile t).txn.haz.find? (fun h => h.req.id == id)

/-- Change an entry of the hazard table. -/
def State.modHaz (s : State) (t id : Nat) (f : Haz → Haz) : State :=
  s.modTxn t (fun x => { x with haz := x.haz.map (fun h => if h.req.id = id then f h else h) })

/-- R77: a request leaves the hazard table. -/
def State.hazDrop (s : State) (t id : Nat) : State := s.modTxn t (fun x => { x with haz := x.haz.filter (fun h => h.req.id != id) })

/-- R77: a request's data has left the owning tile, or its line is stored: it is answered and leaves the table. -/
def State.hazAnswer (s : State) (t : Nat) (r : Req) (data : Option Line) (poison : Bool) (latNs : Nat) : State :=
  let s1 := s.hazDrop t r.id
  let s2 := if r.kind == .rd && poison then (s1.stat t 6 1).evtSeg 0 (r.dpa / 4096) else s1
  s2.answer t r data poison latNs

/-! ### Reads of the medium (06_medium.md R179 to R186) -/

/-- R191: the first stale read after a fresh estimate. -/
def State.staleRead (s : State) (t c : Nat) : State :=
  let (_, _, stale) := s.chTemp t c
  if stale then
    if (s.chan t c).staleSeen then s
    else
      let age := match (s.chan t c).temp with | some (_, a) => s.gb.ageMs - a | none => s.gb.ageMs
      ((s.modCh t c (fun k => { k with staleSeen := true })).latch (Reg.MED_CH_ERR_STATUS t + 0x10 * c) 8 Gb.MED_TEMP_STALE t [t, c, age]).requestConv
        [64 * t + 8 + 2 * c, 64 * t + 9 + 2 * c] 2
  else s.modCh t c (fun k => { k with staleSeen := false })

/-- R175, R181: READ_LINE is issued for a read. -/
def State.issueRead (s : State) (t : Nat) (r : MedRead) : State :=
  let c := locCh r.loc
  let pg := (aget r.loc (s.tile t).med.pages).getD { kind := .host }
  let (o, clamped) := s.readOffs t r.loc pg
  let offs := (o.getD 0 0, o.getD 1 0, o.getD 2 0)
  let s1 := (s.staleRead t c).modCh t c (fun k => { k with reads := k.reads.map (fun q => if q.id = r.id then { q with st := .array, offs := offs } else q) })
  let s2 := if clamped then s1.latchOnly (Reg.MED_CH_ERR_STATUS t + 0x10 * c) 5 else s1
  (s2.perfEvent t 0x30 (2 ^ c) 1).caIssue t c (locRank r.loc) (readCmd r.loc r.line 1 o)

/-- R83, R185, R187: the turn of a host-serving read has come: READ_LINE at once, or SUSPEND to the program or clear that runs on its
plane. `dataIn`: that program is still in its data-in, so that the array is idle (R182). -/
def State.serveRead (s : State) (t : Nat) (q : MedRead) (dataIn : Bool) : State :=
  let run := (s.planeOps t q.loc).filter (fun o => !o.susp)
  if run.isEmpty || (dataIn && run.all (fun o => o.job != .clear)) then s.issueRead t q
  else
    (s.modCh t (locCh q.loc) (fun k => { k with reads := k.reads.map (fun x => if x.id = q.id then { x with st := .suspend } else x) })).caIssue
      t (locCh q.loc) (locRank q.loc) (.suspend (locPlane q.loc))

/-- R83, R181, R198: a host-serving read arrives at its plane: it is served, or waits behind another read or for the end of a CA retrain. -/
def State.planeRead (s : State) (t id loc line : Nat) (dataIn : Bool) : State :=
  let c := locCh loc
  let k := s.chan t c
  let q : MedRead := { id := id, loc := loc, line := line, st := .plane }
  let s1 := s.modCh t c (fun k => { k with reads := k.reads ++ [q] })
  if k.reads.any (fun q => planeNo q.loc == planeNo loc) || k.caWait then s1 else s1.serveRead t q dataIn

/-- R181: the next read that waits for a plane is served. -/
def State.nextRead (s : State) (t p : Nat) : State :=
  let k := s.chan t (p % 8)
  let mine := k.reads.filter (fun q => planeNo q.loc == p)
  if mine.any (fun q => q.st == .array || q.st == .suspend) || k.caWait then s
  else match mine.head? with
    | some q => s.serveRead t q false
    | none => s

/-! ### Host reads at the owning tile -/

/-- R259: a segment becomes LOST, with a LOST record, and awaits repair. -/
def State.setLost (s : State) (t l : Nat) : State :=
  let e := s.mapRaw t l
  if e.st = .lost then s
  else
    let x : MapEnt := { st := .lost, loc := e.loc }
    let s1 := (s.setMap t l x).jappend t (.lost l x)
    ((if e.st == .mapped || e.st == .relocating then s1.invalidate t e.loc else s1).evtSeg 2 (s.segOf t l)).judgeLost

/-- R259: a read is uncorrectable. -/
def State.uncorr (s : State) (t l : Nat) : State := (s.stat t 5 1).latch (Reg.INT_ERR_STATUS t) 2 Gb.INT_UNCORR t [t, s.segOf t l]

/-- R257 step 5, R303: a host read of local `l` of tile `o`, held at tile `t`, goes to Caravan; without a reconstruction it
returns poison. -/
def State.readCaravan (s : State) (t o : Nat) (r : Req) (l line latNs : Nat) : State :=
  let seg := s.segOf o l
  match (s.carDataRow seg).bind s.carAsk with
  | some asked =>
    let row := (s.carDataRow seg).getD 0
    ((s.modHaz t r.id (fun h => { h with st := .media })).noteCase r 8 20000).carReadStart (.host t r.id line) (row * 65536 + seg % 65536) (2 ^ line) asked
  | none =>
    let s1 := if (s.carDataRow seg).isSome then s.latchOnly (Reg.CAR_ERR_STATUS t) 4 else s
    (s1.uncorr o l).hazAnswer t r (some 0) true latNs

/-- R274, R281: a line of a LOST segment, or one the ladder could not recover: Cupola, then Caravan. -/
def State.readRecon (s : State) (t : Nat) (r : Req) (l line latNs : Nat) : State :=
  match s.reconstruct t l line with
  | some x =>
    let (d, p) := s.fromMedium (s.slotOf t l) (s.segOf t l) line x
    (((s.reconReads t l line 1).reconOk t l).noteRecon r).hazAnswer t r (some d) p latNs
  | none =>
    let s0 := s.reconReads t l line 1
    let s1 := match s.stripeOf t l with
      | some (p, q, _) =>
        if s.stripeUnsynced p q then s0.latch (Reg.CUP_ERR_STATUS t) 2 Gb.CUP_RESYNC_POISON t [p, s.parLocal q] else s0
      | none => s0
    s1.readCaravan t t r l line latNs

/-- R206: bits flipped in an STC entry break the parity of one of its bytes; bits 31:0 are the map entry, bits 35:32 its parity. -/
def stcParityBad (m : Nat) : Bool := (List.range 4).any (fun i => popCount (m / 2 ^ (8 * i) % 256) 8 % 2 != b2n (bitOf m (32 + i)))

/-- R206: the word that an STC entry of a segment gives. -/
def State.stcWord (s : State) (t l : Nat) (e : MapEnt) : Nat := Nat.xor e.word (agetD l 0 (s.tile t).xl.stcFlips % 2 ^ 32)

/-- R206: the entry as a lookup that hits the STC gives it: one altered without a parity error is taken as read. -/
def State.stcSeen (s : State) (t l : Nat) (e : MapEnt) : MapEnt :=
  if ahas l (s.tile t).xl.stcFlips then
    let w := s.stcWord t l e
    { st := (MapSt.ofCode (w / 2 ^ 29)).getD e.st, loc := w % 2 ^ 29 }
  else e

/-- R206 to R208, R243: look up the map entry of a segment; the answer says that the STC hit. -/
def State.xlLookup (s : State) (t l : Nat) (u : Upset) : State × Bool :=
  let set := (l ^^^ (l / 2 ^ 15)) % 2 ^ 15
  let tag := l / 2 ^ 15
  let c := agetD set {} (s.tile t).xl.stc
  let present := c.ways.contains (some tag)
  let bad := present && (u.stc || stcParityBad (agetD l 0 (s.tile t).xl.stcFlips))
  let s1 :=
    if bad then
      (s.modXl t (fun x => { x with stcFlips := adel l x.stcFlips, stc := aput set { c with ways := c.ways.map (fun w => if w = some tag then none else w) } x.stc })).latch
        (Reg.XL_ERR_STATUS t) 0 Gb.XL_STC_PARITY t [t, set]
    else s
  let (s2, hit) := s1.stcLookup t l
  if hit then
    -- R203: STATE 0b111
    (if (MapSt.ofCode (s2.stcWord t l (s2.mapRaw t l) / 2 ^ 29)).isNone then
      (s2.mapLineBad t l).modXl t (fun x => { x with stcFlips := adel l x.stcFlips }) else s2, true)
  else
    -- R203: the line code fails, or the word reads with STATE 0b111
    let code := if u.mapCode then 7 else (s2.mapRaw t l).st.code
    let s3 := if u.map || s2.mapLineUncorr t l || (MapSt.ofCode code).isNone then s2.mapLineBad t l else s2
    (s3.fetchLine t l, false)

/-- R242: whether a map line awaits rebuild and was not fetched yet. -/
def State.awaitsRebuild (s : State) (t l : Nat) : Bool :=
  match (s.tile t).xl.rebuildAt with
  | some n => decide (n ≤ l / 16) && !((s.tile t).xl.fetched.contains (l / 16))
  | none => false

/-- R82: a plane is idle when it is not reading, programming or clearing. -/
def State.planeIdle (s : State) (t loc : Nat) : Bool :=
  (s.planeOps t loc).isEmpty && !((s.chan t (locCh loc)).reads.any (fun q => planeNo q.loc == planeNo loc))

/-- R82: the row of the bounds table, and its bound, for a read that no frame serves. `hit`: the STC hit; `rb`: its map line awaited
rebuild. -/
def State.missCase (s : State) (t l : Nat) (hit rb : Bool) : Nat × Nat :=
  let e := s.stcSeen t l (s.mapRead t l)
  let recon := s.unrejoined t l || e.st == .lost
  if rb && !hit then (if recon then (7, 7000) else (6, 6000))
  else if recon then (5, 6000)
  else if (e.st == .mapped || e.st == .relocating) && s.planeIdle t e.loc then (if hit then (2, 650) else (3, 780))
  else (4, 2000)

/-- R141, R202: perform a host read at the owning tile. -/
def State.readPerform (s : State) (t : Nat) (r : Req) (l line : Nat) (u : Upset) (latNs : Nat) (idle : Bool) : State :=
  let (s0, recovered) := s.tagCheck t l u
  let s1 := if recovered then s0.noteExtra r else s0
  let s2 := match s1.findFrame t l with | some f => s1.frameCheck t f line u true | none => s1
  let hitF := match s2.findFrame t l with
    | some f => if bitOf (s2.frame t f).valid line then some f else none
    | none => none
  let rb := s2.awaitsRebuild t l
  match hitF with
  | some f =>
    let x := s2.frame t f
    let (s3, hit) := (s2.touchWay t f).xlLookup t l u
    let s4 := if rb && !hit then s3.noteCase r 6 6000 else if hit && idle then s3.noteCase r 1 180 else s3.noteCase r 4 2000
    (s4.perfEvent t 0x03 0 1).hazAnswer t r (some (agetD line 0 x.lines)) (bitOf x.poison line) latNs
  | none =>
    let (s3, hit) := s2.xlLookup t l u
    let e := s3.stcSeen t l (s3.mapRead t l)
    let k := s3.missCase t l hit rb
    let s4 := s3.noteCase r k.1 k.2
    if s3.unrejoined t l then s4.readRecon t r l line latNs
    else
      match e.st with
      | .never | .discarded | .frontOnly => (s4.perfEvent t 0x05 0 1).hazAnswer t r (some 0) false latNs
      | .poisoned => s4.hazAnswer t r (some 0) true latNs
      | .lost => s4.readRecon t r l line latNs
      | .mapped | .relocating =>
        let c := s4.chan t (locCh e.loc)
        let s5 := if c.reads.any (fun q => planeNo q.loc == planeNo e.loc) then s4.noteWaited r else s4
        ((s5.modHaz t r.id (fun h => { h with st := .media })).perfEvent t 0x04 0 1).planeRead t r.id e.loc line u.dataIn

/-! ### Host writes at the owning tile -/

/-- R204: Translation sets FRONT_ONLY after the write that allocated the frame was stored. -/
def State.markFront (s : State) (t l : Nat) : State :=
  let e := s.mapRaw t l
  if e.st = .never ∨ e.st = .discarded then s.setMap t l { st := .frontOnly } else s

/-- R80, R148: the line of a write is stored: it is answered, or under write-through handling it waits for its commit. -/
def State.writeStored (s0 : State) (t : Nat) (r : Req) (f latNs : Nat) : State :=
  let s := (s0.clearFlips t f (fun i => i == r.dpa / 64 % 64 || i == 64)).markFront t (s0.frame t f).seg
  if s.writeThrough t then
    let again := (s.frame t f).st == .writing
    ((s.modHaz t r.id (fun h => { h with st := .through again })).noteWait t).startCommit t f
  else (s.hazAnswer t r none false latNs).judgeThrottle t

/-- R147: a write that would make a frame count as dirty must wait. -/
def State.overLimit (s : State) (t : Nat) : Bool := decide (0 < s.effLimit t ∧ s.effLimit t ≤ s.dirtyFrames t)

/-- R89: a write waits, in the state given. -/
def State.writeWait (s : State) (t : Nat) (r : Req) (st : HazSt) : State :=
  ((s.modHaz t r.id (fun h => { h with st := st })).noteWait t).noteWaited r

/-- R146: no way is free: SET_FULL, and the set's oldest dirty frame is committed at once. -/
def State.setFull (s : State) (t l : Nat) (r : Req) : State :=
  let set := s.setOf l
  let s1 := (s.writeWait t r .way).latch (Reg.FS_ERR_STATUS t) 4 Gb.FS_SET_FULL t [t, set]
  match s.oldest t ((s.setFrames set).filter (fun f => (s.frame t f).countsDirty)) with
  | some f => (s1.setReg (Reg.FS_ERR_FRAME t) (BitVec.ofNat 32 f)).startCommit t f
  | none => s1

/-- R142: a MemWrPtl waits for the fill of its line: its bound is that of a read that the fill's source serves, plus 250 ns. -/
def State.noteFill (s : State) (t : Nat) (r : Req) (l : Nat) (u : Upset) : State :=
  let rb := s.awaitsRebuild t l
  let (s1, hit) := s.xlLookup t l u
  let k := s1.missCase t l hit rb
  (s1.noteCase r k.1 (k.2 + 250)).modHaz t r.id (fun h => { h with st := .fill })

/-- R142, R143: perform a host write at the owning tile. -/
def State.writePerform (s0 : State) (t : Nat) (r : Req) (l line : Nat) (u : Upset) (latNs : Nat) : State :=
  -- R144, R77: a line fill waits while a maintenance operation holds the segment lock, or all locks are held
  let held := (s0.tile t).txn.locks.contains l || !s0.lockRoom t l
  let (sT, recovered) := s0.tagCheck t l u
  let sU := if recovered then sT.noteExtra r else sT
  let s := match sU.findFrame t l with | some f => sU.frameCheck t f line u (r.kind == ReqKind.ptl) | none => sU
  let sealedT := bitOf s.md.sealed t
  let ep := s.nowEpoch t
  match s.findFrame t l with
  | some f =>
    let x := s.frame t f
    let full := r.kind == ReqKind.wr || bitOf x.valid line
    let becomes := !x.countsDirty
    if becomes && s.overLimit t then s.writeWait t r .dirty
    else
      match x.st with
      | .clean =>
        (((s.setFrame t f { (x.write line r) with st := if sealedT then .locked else .dirty, epoch := ep }).touchWay t f).writeStored t r f latNs)
      | .dirty | .locked =>
        if full then ((s.setFrame t f (x.write line r)).touchWay t f).writeStored t r f latNs
        else if held then s.modHaz t r.id (fun h => { h with st := .fill })
        else
          ((s.setFrame t f { x with st := .filling, fillMask := setBit 0 line }).touchWay t f).noteFill t r l u
      | .filling =>
        if full then ((s.setFrame t f { (x.write line r) with epoch := if becomes then ep else x.epoch }).touchWay t f).writeStored t r f latNs
        else ((s.setFrame t f { x with fillMask := setBit x.fillMask line }).touchWay t f).noteFill t r l u
      | .writing => ((s.setFrame t f (x.write line r)).touchWay t f).writeStored t r f latNs
      | .invalid => s
  | none =>
    if s.overLimit t then s.writeWait t r .dirty
    else
      match s.victim t l with
      | none => s.setFull t l r
      | some f =>
        let x : Frame := { st := .dirty, seg := l, epoch := ep }
        let s1 := s.perfEvent t 0x20 0 1
        if sealedT then
          -- R321: the line is not applied; it reads as poison
          let y : Frame := { x with st := .locked, valid := setBit 0 line, dirty := setBit 0 line, poison := setBit 0 line }
          ((((s1.setFrame t f y).touchWay t f).event Gb.SEALED_WRITE t [t, s.segOf t l, line])).writeStored t r f latNs
        else if r.kind == ReqKind.wr then
          ((s1.setFrame t f (x.write line r)).touchWay t f).writeStored t r f latNs
        else if held then s.modHaz t r.id (fun h => { h with st := .fill })
        else
          ((s1.setFrame t f { x with st := .filling, fillMask := setBit 0 line }).touchWay t f).noteFill t r l u

/-! ### Adopted segments of a failed tile (08_integrity.md R276) -/

/-- R276: the adopted slot of stripe q on its parity tile that holds lines of local `l` of the failed tile. -/
def State.adoptedSlot (s : State) (p q l : Nat) : Option Slot :=
  ((s.tile p).cup.slots.find? (fun e => e.1 == s.parLocal q && e.2.adoptSeg == some l)).map (·.2)

/-- Change the first slot of a parity local that satisfies a test. -/
def modSlot (pl : Nat) (ok : Slot → Bool) (f : Slot → Slot) : List (Nat × Slot) → List (Nat × Slot)
  | [] => []
  | e :: l => if e.1 = pl ∧ ok e.2 then (e.1, f e.2) :: l else e :: modSlot pl ok f l

/-- R276: put a line of the failed tile's local `l` into its adopted slot, taking a slot when there is none. -/
def State.adoptLine (s : State) (p q l line : Nat) (x : Line) (poison : Bool) : State :=
  let pl := s.parLocal q
  if (s.adoptedSlot p q l).isSome then
    s.modCupT p (fun c => { c with slots := modSlot pl (fun k => k.adoptSeg == some l) (fun k => { k with adopted := k.adopted.filter (fun a => a.1 != line) ++ [(line, x, poison)] }) c.slots })
  else
    s.modCupT p (fun c => { c with slots := c.slots ++ [(pl, ({ adopted := [(line, x, poison)], adoptSeg := some l, seq := c.seq } : Slot))], seq := c.seq + 1 })

/-- R274 for a member on a failed tile: its line, as plain data. -/
def State.adoptedRead (s : State) (ft p q l line : Nat) : Option (Line × Bool) :=
  match (s.adoptedSlot p q l).bind (fun k => (k.adopted.find? (fun a => a.1 == line))) with
  | some a => some a.2
  | none => (s.reconstruct ft l line).map (fun x => s.fromMedium (s.slotOf ft l) (s.segOf ft l) line x)

/-- R276: perform a request for an adopted segment at the adopting tile. -/
def State.adoptPerform (s : State) (t ft q : Nat) (r : Req) (l line latNs : Nat) : State :=
  if r.kind == .rd then
    match s.adoptedRead ft t q l line with
    | some (d, p) =>
      let held := ((s.adoptedSlot t q l).map (fun k => k.adopted.any (fun a => a.1 == line))).getD false
      let s1 := if held then s else (s.reconReads ft l line 1).noteRecon r
      s1.hazAnswer t r (some d) p latNs
    | none => s.readCaravan t ft r l line latNs
  else
    let room := (s.adoptedSlot t q l).isSome || decide ((s.tile t).cup.slots.length < slotCount)
    if ((s.adoptedSlot t q l).isNone && s.overLimit t) || !room then s.writeWait t r .dirty
    else
      let full := r.kind == .wr || r.be % 2 ^ 64 == 2 ^ 64 - 1
      let old := if full then some (0, false) else s.adoptedRead ft t q l line
      match old with
      | some (o, op) =>
        let v := if full then r.data else mergeBytes r.be o r.data
        ((s.adoptLine t q l line v (r.poison || (op && !full))).hazAnswer t r none false latNs).judgeThrottle t
      | none => ((s.adoptLine t q l line (mergeBytes r.be 0 r.data) true).hazAnswer t r none false latNs).judgeThrottle t

/-! ### Recognition and ordering (R78) -/

/-- R77: local segment as the hazard table names it; segments of a failed tile, held by the adopting tile, are told apart
by their tile. -/
def hazKey (s : State) (t : Nat) (r : Req) : Nat :=
  let o := s.segTile (r.dpa / 4096)
  let l := s.segLocal (r.dpa / 4096)
  if o = t then l else (o + 1) * 2 ^ 32 + l

/-- R78: perform a recognised request. -/
def State.perform (s : State) (t : Nat) (r : Req) (u : Upset) (latNs : Nat) (idle : Bool) : State :=
  let o := s.segTile (r.dpa / 4096)
  let l := s.segLocal (r.dpa / 4096)
  let line := r.dpa / 64 % 64
  if o ≠ t then
    match s.stripeOf o l with
    | some (_, q, _) => s.adoptPerform t o q r l line latNs
    | none => s.hazDrop t r.id
  else if r.kind == .rd then s.readPerform t r l line u latNs idle
  else s.writePerform t r l line u latNs

/-- R78: an earlier entry of the same line holds a request back: a read waits for earlier writes, a write for every earlier
request. -/
def blocked (l : List Haz) (h : Haz) : Bool :=
  (l.takeWhile (fun g => g.req.id != h.req.id)).any (fun g =>
    g.seg == h.seg && g.line == h.line && !g.st.isThrough && !(g.req.kind == .rd && h.req.kind == .rd))

/-- R78: entries that waited for an earlier request to their line are performed in the order of recognition; `latNs` is the latency of
those that are answered now. -/
def State.wakeLines (s : State) (t latNs : Nat) : State :=
  (((s.tile t).txn.haz.filter (fun h => h.st == .line)).map (·.req.id)).foldl
    (fun a id =>
      match a.hazOf t id with
      | some h => if h.st == .line && !blocked (a.tile t).txn.haz h then (a.modHaz t id (fun g => { g with st := .media })).perform t h.req {} latNs false else a
      | none => a) s

/-- R78: a request takes a hazard entry and is performed unless an earlier request to its line holds it back. -/
def State.letIn (s : State) (t src : Nat) (r : Req) (u : Upset) (latNs : Nat) (idle : Bool) : State :=
  let h : Haz := { req := r, seg := hazKey s t r, line := r.dpa / 64 % 64, src := src, st := .line }
  -- R81: no bound applies behind an earlier request to the same line
  let behind := (s.tile t).txn.haz.any (fun g => g.seg == h.seg && g.line == h.line)
  let s0 := s.modTxn t (fun y => { y with haz := y.haz ++ [h] })
  let s1 := if behind then s0.noteWaited r else s0
  if blocked (s1.tile t).txn.haz h then s1
  else ((s1.modHaz t r.id (fun g => { g with st := .media })).perform t r u latNs idle).wakeLines t latNs

/-- R77, R78: a request is recognised at the tile that serves it; a full table holds it back. -/
def State.recognise (s : State) (t src : Nat) (r : Req) (u : Upset) (latNs : Nat) (idle : Bool) : State :=
  let x := (s.tile t).txn
  if 16384 ≤ s.hazUsed t ∨ !x.hazWait.isEmpty then
    ((s.modTxn t (fun y => { y with hazWait := y.hazWait ++ [(src, r)] })).latch (Reg.TXN_ERR_STATUS t) 3 Gb.HAZARD_FULL t [t]).perfEvent t 0x09 0 1
  else s.letIn t src r u latNs idle

/-- R276, R95: the tile that serves a request: the owner, or the adopting tile of a failed owner. -/
def State.servingTile (s : State) (dpa : Nat) : Option Nat :=
  let o := s.segTile (dpa / 4096)
  if !bitOf s.md.failed o then some o
  else match s.stripeOf o (s.segLocal (dpa / 4096)) with
    | some (p, _, _) => if bitOf s.md.failed p then none else some p
    | none => none

/-- R93, R95: a request that no tile can serve: a read returns poison, a write ends without a completion. -/
def State.failRequest (s : State) (r : Req) (latNs : Nat) : State :=
  if r.kind == .rd then (s.evtSeg 0 (r.dpa / 4096)).reply r.head r.id (some 0) true latNs
  else
    (s.modTxn r.head (fun x => { x with tracker := x.tracker.filter (fun q => q.id != r.id) })).latch (Reg.TXN_ERR_STATUS r.head) 1
      Gb.TXN_TIMEOUT r.head [r.owner, if r.kind == .wr then 1 else 2]

/-- R76: send a tracked request on to the tile that serves it. R278: a read of a segment that no tile of the package can
serve goes to Caravan from its head. -/
def State.dispatchReq (s : State) (r : Req) (u : Upset) (latNs : Nat) (idle : Bool) : State :=
  match s.servingTile r.dpa with
  | none =>
    if r.kind == .rd && ((s.carDataRow (r.dpa / 4096)).bind s.carAsk).isSome then
      let h : Haz := { req := r, seg := hazKey s r.head r, line := r.dpa / 64 % 64, src := 0, st := .media }
      (s.modTxn r.head (fun y => { y with haz := y.haz ++ [h] })).readCaravan r.head r.owner r (s.segLocal (r.dpa / 4096)) (r.dpa / 64 % 64) latNs
    else s.failRequest r latNs
  | some o =>
    if o = r.head then s.recognise o 0 r u latNs idle
    else s.meshSend r.head { src := r.head, dst := o, body := .memReq r }

end Sys2Proof.Machine
end

