-- ==== Sys2Proof/Machine/CommitOps.lean ====
section
/-! DEFINITION. Machine/CommitOps.lean: what the end of a media operation brings: array reads with injections, fills,
frames at step 5, durable journal records, metadata pages, finished and failed programs (05_front_store.md,
06_medium.md R184, 07_translation.md R218 to R226, R232 to R235, 08_integrity.md R265, R266). -/

namespace Sys2Proof.Machine

open Sys2Proof

/-! ### Maintenance reads (08_integrity.md R258) -/

/-- R258: a page-mode maintenance read: errors with injections, what the ladder made of them, counts consumed, outcome
noted and queued. A page whose header is invalid is refreshed as urgent (R254). -/
def State.maintRead (s : State) (t loc : Nat) (errs : List LineErr) : State × PageOut :=
  let dead := s.deadDies t loc
  let es := withInj (s.injs t loc (fun _ => true)) errs
  let o := pageRead dead es
  let pg := aget loc (s.tile t).med.pages
  let used (line : Nat) : Nat := match es.find? (fun e => e.line == line) with
    | some e => (ladder dead e.flags e.reads true).2
    | none => 1
  let (offs, clamped) := s.pageOffs t loc
  let n := 68 + total (es.map (fun e => used e.line - 1))
  -- R172, R258: one page-mode READ_LINE, then the re-reads of the ladder
  let sa := (s.staleRead t (locCh loc)).caIssue t (locCh loc) (locRank loc) (readCmd loc 0 68 offs)
  let sb := es.foldl (fun a e => a.rereads t loc e.line (used e.line) offs) sa
  let s1 := ((sb.consume t loc (fun _ => true) used).readOutcome t loc o clamped).perfEvent t 0x30 (2 ^ locCh loc) n
  let hdrBad := match pg with | some p => !p.hdr || o.bad.contains 64 | none => false
  let s2 := if hdrBad && s.holdsCurrent t loc then
      ((s1.stat t 7 1).latch (Reg.INT_ERR_STATUS t) 3 Gb.INT_HDR_INVALID t [t, locCh loc]).refresh t loc 2 ((pg.map s.pageAge).getD 0) false
    else s1
  ((if o.step = 0 then s2 else s2.perfEvent t 0x40 o.step 1), { o with bad := o.bad.filter (· < 64) })

/-! ### Fills and frames (05_front_store.md R143, R151) -/

/-- A MemWrPtl whose line no fill brings any longer: it waited for a lock, or its frame is gone. -/
def State.fillStalls (s : State) (t : Nat) (h : Haz) : Bool :=
  h.st == .fill && (match s.findFrame t h.seg with
    | some f => (s.frame t f).st != .filling || !bitOf (s.frame t f).fillMask h.line
    | none => true)

/-- R142, R144: MemWrPtl requests whose fill did not start, or ended without their line, are performed again. -/
def State.retryFills (s : State) (t latNs : Nat) : State :=
  (((s.tile t).txn.haz.filter (s.fillStalls t)).map (·.req.id)).foldl
    (fun a id =>
      match a.hazOf t id with
      | some h => if a.fillStalls t h then a.perform t h.req {} latNs false else a
      | none => a) s

/-- R265: a frame is stored with lines that a fill brought; these lines and the metadata line are written anew. -/
def State.putFilled (s : State) (t f : Nat) (y : Frame) : State :=
  let x := s.frame t f
  (s.clearFlips t f (fun i => i == 64 || (bitOf y.valid i && !bitOf x.valid i))).setFrame t f y

/-- R142: MemWrPtl entries of a segment whose line is VALID now are merged and stored; the first DIRTY bit sets the epoch (R149). -/
def State.mergeFills (s : State) (t f latNs : Nat) : State :=
  let x := s.frame t f
  (((s.tile t).txn.haz.filter (fun h => h.st == .fill && h.seg == x.seg)).map (·.req.id)).foldl
    (fun a id =>
      match a.hazOf t id with
      | some h =>
        let y := a.frame t f
        let z := if y.dirty = 0 then { y with epoch := a.nowEpoch t } else y
        if bitOf y.valid h.line then (a.setFrame t f (z.write h.line h.req)).writeStored t h.req f latNs else a
      | none => a) s

/-- R143 rows 9 and 10: every line a fill of frame `f` asked for is in `y`. R166: `bad` are the lines that the commit finds uncorrectable. -/
def State.fillFinish (s : State) (t f : Nat) (y : Frame) (bad latNs : Nat) : State :=
  if y.commitFill then ((s.putFilled t f { y with fillMask := 0 }).mergeFills t f latNs).writeBack t f bad
  else
    let st := if bitOf s.md.sealed t then FState.locked else .dirty
    (s.putFilled t f { y with fillMask := 0, st := st }).mergeFills t f latNs

/-- R168 step 1: a frame that was Writing-back on entry into Hold-up has not completed its commit. -/
def State.firstLeft (s : State) (t : Nat) : Bool := (s.tile t).fs.step1.any (fun f => (s.frame t f).st == .writing)

/-- A line that a fill brings into a frame, with its poison. -/
def Frame.filled (y : Frame) (i : Nat) (v : Line) (p : Bool) : Frame :=
  { y with lines := aputD 0 i v y.lines, valid := setBit y.valid i, poison := putBit y.poison i p }

/-- R151: a fill of frame `f` ends with the array read's errors given; the read waits for its plane (R185). Lines that neither the page nor Cupola gives are read from
the peers of Caravan. -/
def State.fillEnd (s : State) (t f : Nat) (errs : List LineErr) (bad latNs : Nat) : State :=
  let x := s.frame t f
  if x.st ≠ .filling ∨ x.fillMask = 0 ∨ s.car.reads.any (fun r => r.use == .fill t f) ∨ s.firstLeft t then s
  else if 4 < s.flipsIn t f 64 then (s.clearFlips t f (fun _ => true)).metaLost t f
  else
    let e := s.mapOf t x.seg
    let fromMedia := (e.st == .mapped || e.st == .relocating) && !s.unrejoined t x.seg
    if fromMedia && !s.mediaFree t e.loc then s
    else
    let (s1, o) := if fromMedia then s.maintRead t e.loc errs else (s, {})
    let want := (List.range 64).filter (fun i => bitOf x.fillMask i && !bitOf x.valid i)
    let pseg := s.segOf t x.seg
    -- R259: lines that come from step 4 or 5
    let recon := if fromMedia then want.filter o.bad.contains else if e.st == .lost || s.unrejoined t x.seg then want else []
    let asks := ((s1.carDataRow pseg).bind s1.carAsk).isSome
    let s2 := if recon.isEmpty then s1
      else if recon.all (fun i => (s1.reconstruct t x.seg i).isSome) then (s1.reconOk t x.seg).reconReads t x.seg 0 68
      else if asks then s1 else s1.uncorr t x.seg
    let away := if e.st == .poisoned then [] else want.filter (fun i => (s1.fillLine t x.seg i (o.bad.contains i)).isNone)
    let fill (l : List Nat) : Frame := l.foldl (fun (y : Frame) i =>
      let (v, p) := s1.fillPlain t x.seg i (o.bad.contains i)
      y.filled i v p) x
    match away.isEmpty, s2.carDataRow pseg with
    | false, some row =>
      match s2.carAsk row with
      | some asked =>
        (s2.putFilled t f { fill (want.filter (fun i => !(away.contains i))) with fillMask := maskOf 64 away.contains }).carReadStart
          (.fill t f) (row * 65536 + pseg % 65536) (maskOf 64 away.contains) asked
      | none => s2.fillFinish t f (fill want) bad latNs
    | _, _ => s2.fillFinish t f (fill want) bad latNs

/-- R146, R147, R89: writes that wait may now proceed; they are performed again in order, and what waited for them after them. -/
def State.releaseWrites (s : State) (t latNs : Nat) : State :=
  ((((s.tile t).txn.haz.filter (fun h => h.st == .dirty || h.st == .way)).map (·.req.id)).foldl
    (fun a id =>
      match a.hazOf t id with
      | some h => if h.st == .dirty || h.st == .way then a.perform t h.req {} 0 false else a
      | none => a) s).wakeLines t latNs |>.endWait t

/-- R143 rows 12 and 13, R148, R157, R158: a commit of frame `f` reaches step 5. -/
def State.frameDone (s : State) (t f : Nat) : State :=
  let x := s.frame t f
  match (s.tile t).xl.commits.find? (fun c => c.seg == x.seg && c.job == .host f && c.step == .done) with
  | none => s
  | some c =>
    let s1 := (s.modXl t (fun y => { y with commits := y.commits.filter (· != c) })).modMd (fun d =>
      { d with flushed := if d.mode == .holdup then d.flushed + 1 else d.flushed })
    let disabled := (s.tile t).fs.mode == .disabled
    let st : FState := if x.dirty = 0 then (if disabled || (s.tile t).fs.withdrawn.contains f then .invalid else .clean)
      else if bitOf s.md.sealed t then .locked else .dirty
    let s2 := s1.setFrame t f { x with st := st, epoch := if x.dirty = 0 then x.epoch else s.nowEpoch t }
    let ws := (s2.tile t).txn.haz.filter (fun h => h.st.isThrough && h.seg == x.seg)
    let s3 := (ws.filter (fun h => h.st == .through false)).foldl (fun a h => a.hazAnswer t h.req none false 0) s2
    let again := ws.filter (fun h => h.st == .through true)
    let s4 := again.foldl (fun a h => a.modHaz t h.req.id (fun g => { g with st := .through false })) s3
    let through := (s.tile t).fs.mode == .draining && ws.any (fun h => h.st == .through false)
    let s5 := s4.modFs t (fun g => { g with
      drain := if x.dirty = 0 then g.drain.filter (· != f) else g.drain, through := if through then g.through + 1 else g.through,
      step1 := g.step1.filter (· != f) })
    let s6 := if again.isEmpty then s5 else s5.startCommit t f
    ((s6.perfEvent t 0x21 0 1).judgeThrottle t).endWait t

/-! ### The journal on the medium (07_translation.md R232 to R234) -/

/-- R211: blocks of a ring: 0 and 1 the checkpoint rings of copy A and copy B, 2 and 3 the block-table rings, 4 the journal ring. -/
def State.ringLen (s : State) (k : Nat) : Nat := if k = 4 then 130 else if k < 2 then 896 * s.pop.ranks else 8 * s.pop.ranks

/-- R211: where block `i` of a ring lies: copy A on channels 0 to 3, copy B on channels 4 to 7, spread over their planes; journal block `i`
on channel i mod 8. -/
def State.ringHome (s : State) (k i : Nat) : Nat :=
  let w := 16 * s.pop.ranks
  if k = 4 then
    let per := 4 * s.pop.ranks
    let p := i % 8 + 8 * (i / 8 % per)
    planeBase p + ringBase p + 56 + (if p < w then 1 else 0) + i / 8 / per
  else
    let h := i % w
    let p := h % 4 + 4 * (k % 2) + 8 * (h / 4)
    planeBase p + ringBase p + (if k < 2 then i / w else 56)

/-- R211, R224: block `i` of a ring. -/
def State.ringBlock (s : State) (t k i : Nat) : Nat := agetD (s.ringHome k i) (s.ringHome k i) (s.tile t).xl.ringSub

/-- Where a ring goes on. -/
def State.ringPos (s : State) (t k : Nat) : RingPos := agetD k {} (s.tile t).xl.rings

/-- R211, R232: locator of the page that a ring programs next. -/
def State.ringLoc (s : State) (t k : Nat) : Nat := let r := s.ringPos t k; s.ringBlock t k r.blk * 256 + r.page

/-- R232: locator of the journal page started next. -/
def State.jloc (s : State) (t : Nat) : Nat := s.ringLoc t 4

/-- The ring of a metadata page: the copy and kind of a checkpoint page, or the journal's. -/
def Job.ring : Job → Nat
  | .ckpt copyB btab .. => b2n copyB + 2 * b2n btab
  | _ => 4

/-- 06_medium.md R195: a block is a calibration block. -/
def State.isCal (s : State) (t b : Nat) : Bool := (s.chan t (blkCh b)).calBlocks.any (fun e => e.2.1 == b || e.2.2 == b)

/-- R224: a FREE block of the tile takes the place of a failed ring block, which is retired: one of its own plane when
there is one, else of the first plane in service that has one. A calibration block is replaced when its next page is due
(06_medium.md R195). -/
def State.ringReplace (s : State) (t b cause : Nat) (note : Bool) : State :=
  let s1 := s.retire t b cause .retired note
  if s.isCal t b then s1 else
  let ok (p : Nat) : Bool := bitOf (s1.chan t (p % 8)).ranks (p / 32) && !(s1.candidates t p .free).isEmpty
  match (blkPlane b :: List.range s1.planes).find? ok with
  | none => s1
  | some p =>
    let n := (s1.candidates t p .free).headD 0
    let home := (((s.tile t).xl.ringSub.find? (fun e => e.2 == b)).map (·.1)).getD b
    (s1.modBlk t n (fun k => { k with st := .ring, frontier := 3 })).modXl t (fun x => { x with ringSub := aput home n x.ringSub })

/-- R226, R224: a ring block on a rank that is not in service is replaced before the ring goes on with it. -/
def State.ringLive (s : State) (t b : Nat) : State :=
  if bitOf (s.chan t (blkCh b)).ranks (blkRank b) then s else s.ringReplace t b 7 false

/-- R211, R212: a page of a ring is taken: the next one, in the next block after page 255. A block on a rank out of service is replaced, and
its replacement begins at page 0. -/
def State.ringTake (s : State) (t k : Nat) : State × Nat :=
  let r := s.ringPos t k
  let s1 := s.ringLive t (s.ringBlock t k r.blk)
  let page := if s1.ringBlock t k r.blk = s.ringBlock t k r.blk then r.page else 0
  let next : RingPos := if page = 255 then { blk := (r.blk + 1) % s.ringLen k } else { r with page := page + 1 }
  (s1.modXl t (fun x => { x with rings := aputD {} k next x.rings }), s1.ringBlock t k r.blk * 256 + page)

/-- R211, R213: a metadata page goes to the next page of its ring. -/
def State.ringProgram (s : State) (t : Nat) (job : Job) (pg : Page) : State :=
  let (s1, loc) := s.ringTake t job.ring
  s1.startMeta t loc job pg

/-- R233: the journal page of `n` records from the position up to which pages have been started: eight records to a line. -/
def State.journalPage (s : State) (t n : Nat) : Page :=
  let x := (s.tile t).xl
  let words := ((x.jtail.drop (x.jsent - x.jdur)).take n).map JRec.word
  { kind := .journal, jpos := x.jsent, count := n, lines := (List.range 64).map (packedLine 8 words) }

/-- R233: a journal page of the records that have gathered is programmed. -/
def State.journalProgram (s : State) (t : Nat) : State :=
  let x := (s.tile t).xl
  let n := min 512 (x.jpos - x.jsent)
  if n = 0 then s
  else
    (s.modXl t (fun y =>
      { y with jpages := y.jpages ++ [({ first := x.jsent, count := n } : JPage)], jsent := x.jsent + n,
               jurgent := decide (x.jsent + n < x.jpos) && y.jurgent })).ringProgram t (.journal x.jsent) (s.journalPage t n)

/-- R295: SETTLE entries of a commit whose record is durable. -/
def State.gatherSettle (s : State) (t seg : Nat) (e : MapEnt) : State :=
  let pseg := s.segOf t seg
  match s.carDataRow pseg with
  | none => s
  | some row =>
    let st := row * 65536 + pseg % 65536
    let jp := ((aget e.loc (s.tile t).med.pages).map (·.jpos)).getD 0
    let m := (s.car.dataIdx row s.car.self).getD 0
    let new := ((s.carHolders row).filter (fun h => s.peerActive h.1)).map (fun h => (h.1, st, jp, m, b2n h.2))
    s.modCar (fun c => { c with settle := c.settle ++ new })

/-- R235, R236: the entries of a map checkpoint page, as a restore takes them up: those of the segments without a durable record at or after
the capture position. -/
def State.loadCkpt (s : State) (t idx pos loc : Nat) : State :=
  match aget loc (s.tile t).med.pages with
  | none => s
  | some pg =>
    let word (i : Nat) : Nat := (pg.lines.getD (i / 16) 0).toNat / 2 ^ (32 * (i % 16)) % 2 ^ 32
    let load (d : List (Nat × MapEnt × Nat)) (i : Nat) : List (Nat × MapEnt × Nat) :=
      match entryOfWord (word i), aget (1024 * idx + i) d with
      | some e, none => aput (1024 * idx + i) (e, 0) d
      | some e, some old => if old.2 < pos then aput (1024 * idx + i) (e, old.2) d else d
      | none, _ => d
    s.modXl t (fun x => { x with durable := (List.range 1024).foldl load x.durable })

/-- R233 to R236: a record becomes durable at a position. -/
def State.durableRec (s : State) (t pos : Nat) (r : JRec) : State :=
  let s1 := match r.entry? with
    | some (l, e) => s.modXl t (fun x => { x with durable := aput l (e.durableForm, pos) x.durable })
    | none => s
  let s2 := s1.modXl t (fun x => { x with cleanStop := r == .mark 1 })
  match r with
  | .commit l e => s2.gatherSettle t l e
  | .block 0 _ b => s2.modBlk t b (fun k => if k.st = .free ∨ k.st = .reserve then { k with st := .named } else k)
  | .block 1 _ b => s2.modBlk t b (fun k => { k with settled := true })
  | .ckpt cb bt i p loc =>
    let k := if bt then s.mapIdx + i else i
    let s3 := if bt then s2 else s2.loadCkpt t i p loc
    s3.modXl t (fun x =>
      let o := agetD k {} x.ckpt
      { x with ckpt := aput k (if cb then { o with posB := p, locB := loc } else { o with posA := p, locA := loc }) x.ckpt })
  | .stale i g => (s2.modPeer i (fun p => { p with staleDur := if p.staleDur.contains g then p.staleDur else p.staleDur ++ [g] })).caravanProgressAll t
  | _ => s2

/-- R214: whether a record names a page of block `b`. -/
def JRec.names (b : Nat) : JRec → Bool
  | .commit _ e | .move _ e => locBlk e.loc == b
  | _ => false

/-- R214: FULL blocks all of whose pages have durable records get their SETTLE record. -/
def State.settleBlocks (s : State) (t : Nat) : State :=
  let x := (s.tile t).xl
  let due := x.blocks.filter (fun e => (e.2.st == .full || e.2.st == .pending) && !e.2.settled && decide (e.2.frontier < 3)
    && !x.commits.any (fun c => (c.loc.map locBlk) == some e.1)
    && !x.batches.any (fun b => b.copied.any (fun c => locBlk c.2.2 == e.1))
    && !x.jtail.any (fun r => r.names e.1 || r == .block 1 e.2.frontier e.1))
  due.foldl (fun a e => a.jappend t (.block 1 e.2.frontier e.1)) s

/-- R233: durable records are applied while the oldest started page is done. -/
def State.advanceDurable : Nat → State → Nat → State
  | 0, s, _ => s
  | n + 1, s, t =>
    let x := (s.tile t).xl
    match x.jpages with
    | p :: l =>
      if p.done then
        let rs := x.jtail.take p.count
        let s1 := s.modXl t (fun y => { y with jpages := l, formatted := true, jtail := y.jtail.drop p.count, jdur := p.first + p.count })
        State.advanceDurable n ((List.range rs.length).foldl (fun a i => a.durableRec t (p.first + i) (rs.getD i (.mark 0))) s1) t
      else s
    | [] => s

/-- R233: the DONE of a journal page is recognised. -/
def State.journalDone (s : State) (t first : Nat) : State :=
  let s1 := s.modXl t (fun x => { x with jpages := x.jpages.map (fun p => if p.first = first then { p with done := true } else p) })
  (((State.advanceDurable (s1.tile t).xl.jpages.length s1 t).settleBlocks t).retryJournal t).retryPrograms t

/-! ### Checkpoint pages (07_translation.md R235) -/

/-- Block table entry of a block: STATE, FRONTIER of an OPEN or NEXT block, VALID and CLEARS. -/
def State.blkWord (s : State) (t b : Nat) : Nat :=
  let k := s.blk t b
  let valid := if ahas b (s.tile t).xl.blocks then (s.validPages t b).length else 0
  k.st.code * 2 ^ 60 + (if k.st = .opened ∨ k.st = .named then k.frontier % 4 else 0) * 2 ^ 58 + valid * 2 ^ 49 + k.clears % 2 ^ 24

/-- R235: the page of an index as the writer copies it: 1,024 map entries with the states of R204, or 512 block-table entries. -/
def State.ckptPage (s : State) (t : Nat) (btab : Bool) (idx : Nat) : Page :=
  let x := (s.tile t).xl
  let words := if btab then (List.range 512).map (fun i => s.blkWord t (512 * idx + i))
    else (List.range 1024).map (fun i => (agetD (1024 * idx + i) {} x.map).durableForm.word)
  { kind := if btab then .btab else .checkpoint, subject := idx, jpos := x.jpos,
    lines := (List.range 64).map (packedLine (if btab then 8 else 4) words) }

/-- R235: one copy of a captured page is programmed: copy A, then copy B. -/
def State.ckptProgram (s : State) (t : Nat) (copyB btab : Bool) (idx : Nat) (pg : Page) : State :=
  s.ringProgram t (.ckpt copyB btab idx pg.jpos) { pg with copyB := copyB }

/-- R211, R234, R235: a ring block can be cleared: of the journal ring the next two after the append position once the floor has passed their
records; of the other rings one all of whose pages newer copies with durable CKPT records supersede. -/
def State.ringReady (s : State) (t b : Nat) : Bool :=
  let x := (s.tile t).xl
  let pages := (s.tile t).med.pages.filter (fun e => locBlk e.1 == b)
  let ahead := [1, 2].any (fun i => s.ringBlock t 4 (((s.ringPos t 4).blk + i) % 130) == b)
  let past (loc : Nat) (p : Page) : Bool :=
    match p.kind with
    | .journal => ahead && decide (p.jpos + p.count ≤ s.jfloor t)
    | .checkpoint | .btab =>
      let o := agetD (if p.kind = .btab then s.mapIdx + p.subject else p.subject) {} x.ckpt
      if p.copyB then o.locB != loc && decide (p.jpos < o.posB) else o.locA != loc && decide (p.jpos < o.posA)
    | _ => false
  (s.blk t b).st == .ring && !pages.isEmpty && pages.all (fun e => past e.1 e.2)

/-! ### Finished and failed programs (06_medium.md R184, 07_translation.md R218 to R226) -/

/-- R218: a copy batch ends: each copy is applied or dropped. -/
def State.batchEnd (s : State) (t src : Nat) : State :=
  match (s.tile t).xl.batches.find? (fun b => b.src == src) with
  | none => s
  | some b =>
    let s1 := b.copied.foldl
      (fun a c =>
        let (seg, old, new) := c
        let e := a.mapRaw t seg
        let mid := (a.tile t).xl.commits.any (fun k => k.seg == seg && k.step != .done && (k.step != .program))
        if e.st == .relocating && e.loc == old && !mid then
          let m : MapEnt := { st := .mapped, loc := new }
          (a.jappend t (.move seg m)).replaceEntry t seg m
        else
          let a1 := if e.st == .relocating && e.loc == old then a.setMap t seg { st := .mapped, loc := old } else a
          a1.invalidate t new) s
    let s2 := s1.modXl t (fun x => { x with batches := x.batches.filter (fun k => k.src != src) })
    let s3 := if b.refresh then (if b.copied.isEmpty then s2 else s2.stat t 11 1).judgeLost
      else s2.modBlk t src (fun k => if k.st = .copying then { k with st := if (s2.validPages t src).isEmpty then .pending else .full } else k)
    s3.settleBlocks t

/-- R225, R226: the block of a failed program becomes RETIRING, or RETIRED when it holds no valid page; its frontier goes
on with another block. -/
def State.failBlock (s : State) (t b cause : Nat) : State :=
  let f := (s.blk t b).frontier
  let p := blkPlane b
  let s1 := if f < 3 then s.modFront t p f (fun g => if g.cur = some b then { g with cur := none } else g) else s
  let s2 := s1.retire t b cause .retiring true
  if s2.blockLive t b then s2 else s2.modBlk t b (fun k => { k with st := .retired })

/-- R213, R217, R219: program the copy of a page to a batch's target: on the next plane, or on the plane given. -/
def State.copyProgram (s : State) (t : Nat) (b : Batch) (on : Option Nat) (seg old : Nat) (lines : List Line) : State :=
  let src := (aget old (s.tile t).med.pages).getD { kind := .host }
  let pg : Page := { src with kind := .copy, subject := seg, lines := lines, hdr := true, flips := b.flips }
  match (match on with | some p => s.placeAt t p b.target | none => s.place t b.target) with
  | (s1, some loc) =>
    (s1.startProgram t loc (.copy b.src seg old) (s1.stampPage t (locCh loc) pg)).modXl t (fun x =>
      { x with batches := x.batches.map (fun k => if k.src = b.src then { k with busy := true, left := k.left.filter (fun e => e.1 != seg) } else k) })
  | (s1, none) => s1

/-- R184: a program's DONE is recognised and it passed: the page is on the medium. -/
def State.programOk (s : State) (t : Nat) (o : MedOp) (pg : Page) : State :=
  let s0 := s.modMed t (fun m => { m with pages := aput o.loc pg m.pages })
  match o.job with
  | .host _ | .cup _ | .cupResync _ | .car _ | .carResync _ =>
    match (s0.tile t).xl.commits.find? (fun c => c.loc == some o.loc) with
    | some c => s0.commitCupola t c.seg
    | none => s0.invalidate t o.loc
  | .copy src seg old =>
    s0.modXl t (fun x => { x with batches := x.batches.map (fun b => if b.src = src then { b with busy := false, copied := b.copied ++ [(seg, old, o.loc)] } else b) })
  | .repair seg | .rejoin seg =>
    let e : MapEnt := { st := .mapped, loc := o.loc }
    let s1 := (s0.jappend t (.commit seg e)).replaceEntry t seg e
    let lost := (s0.tile t).xl.commits.any (fun c => c.seg == seg && c.job == o.job && c.poison)
    let s2 := s1.modXl t (fun x => { x with
      commits := x.commits.filter (fun c => c.seg != seg || c.job != o.job), poisonWait := if lost then x.poisonWait ++ [seg] else x.poisonWait })
    (if o.job = .repair seg then s2.stat t 14 1 else s2.modCup (fun c => { c with rejoined := c.rejoined + 1 })).judgeLost
  | .journal first => s0.journalDone t first
  | .ckpt copyB btab idx pos =>
    let s1 := s0.jappend t (.ckpt copyB btab idx pos o.loc)
    if copyB then s1 else s1.ckptProgram t true btab idx pg
  | .calib _ | .drop _ | .clear => s0

/-- R224: the program of a metadata page failed: the page, and those that wait for its block, are written as the next pages of their ring,
in a new block; without one the ring goes on at its next block. -/
def State.ringRewrite (s : State) (t : Nat) (o : MedOp) : State :=
  let k := o.job.ring
  let b := locBlk o.loc
  let r := s.ringPos t k
  let wait := (s.tile t).xl.metaWait.filter (fun q => locBlk q.loc == b)
  let s1 := (s.ringReplace t b 2 true).modXl t (fun x => { x with metaWait := x.metaWait.filter (fun q => locBlk q.loc != b) })
  let next : RingPos := if s1.ringBlock t k r.blk = b then { blk := (r.blk + 1) % s.ringLen k } else { r with page := 0 }
  let s2 := if s.ringBlock t k r.blk = b then s1.modXl t (fun x => { x with rings := aputD {} k next x.rings }) else s1
  (o :: wait).foldl (fun a q => a.ringProgram t q.job (q.page.getD { kind := .journal })) s2

/-- R219: the program of a copy failed: its target block becomes RETIRING, and the copy restarts at the failed page on a new target of the
plane; where that is not NEXT yet, the page is copied again when it is. -/
def State.copyRestart (s : State) (t : Nat) (o : MedOp) (src seg old : Nat) : State :=
  let p := planeNo o.loc
  let s1 := s.failBlock t (locBlk o.loc) 3
  match (s1.tile t).xl.batches.find? (fun k => k.src == src) with
  | none => s1
  | some k =>
    let s2 := s1.modXl t (fun x => { x with batches := x.batches.map (fun j => if j.src = src then { j with busy := false, left := (seg, old) :: j.left } else j) })
    let k2 : Batch := { k with busy := false, left := (seg, old) :: k.left }
    let s3 := s2.copyProgram t k2 (some p) seg old (((o.page).map (·.lines)).getD [])
    let g := s3.front t p k.target
    let new := match g.cur with | some b => b | none => g.next.getD 0
    s3.latch (Reg.XL_ERR_STATUS t) 9 Gb.XL_COPY_RESTART t [t, o.loc, new]

/-- R223, R224, R219: a program failed or timed out: its block is retired and the page goes to another. -/
def State.programFailed (s : State) (t : Nat) (o : MedOp) : State :=
  let b := locBlk o.loc
  match o.job with
  | .host _ | .cup _ | .cupResync _ | .car _ | .carResync _ | .repair _ | .rejoin _ =>
    let s1 := s.failBlock t b 1
    match (s1.tile t).xl.commits.find? (fun c => c.loc == some o.loc) with
    | some c => (s1.modCommit t c.seg (fun d => { d with loc := none })).launchCommit t c
    | none => s1
  | .copy src seg old => s.copyRestart t o src seg old
  | .journal _ | .ckpt .. => s.ringRewrite t o
  | .calib _ => s.retire t b 2 .retired true
  | .drop _ | .clear => s

/-- The program or clear in flight at a locator. -/
def State.opAt (s : State) (t loc : Nat) (clear : Bool) : Option MedOp :=
  (s.chan t (locCh loc)).ops.find? (fun o => o.loc == loc && (o.job == .clear) == clear)

/-- R184: an operation leaves its plane. -/
def State.dropOp (s : State) (t : Nat) (o : MedOp) : State :=
  s.modCh t (locCh o.loc) (fun k => { k with ops := k.ops.filter (· != o) })

/-- R184: after an operation ended, its plane serves a read that waits, and programs that wait for a plane are tried. -/
def State.planeFreed (s : State) (t loc : Nat) : State := (s.nextRead t (planeNo loc)).retryPrograms t

/-- R184: the DONE of a program, or its time-out. -/
def State.programEnd (s : State) (t : Nat) (o : MedOp) (ok : Bool) (cause : Nat) : State :=
  let s1 := s.dropOp t o
  let s2 := if ok then (s1.perfEvent t 0x31 (2 ^ locCh o.loc) 1).programOk t o (o.page.getD { kind := .host })
    else (s1.latch (Reg.MED_CH_ERR_STATUS t + 0x10 * locCh o.loc) 1 Gb.MED_PROG_FAIL t [t, o.loc, cause]).programFailed t o
  s2.planeFreed t o.loc

/-- Blocks of a tile. -/
def State.blocksOf (s : State) : Nat := 32 * s.pop.ranks * 16384

/-- R221: CLEARS of the blocks in G that an entry lists; the others have none. -/
def State.clearsInG (s : State) (t : Nat) : List Nat :=
  ((s.tile t).xl.blocks.filter (fun e => e.2.st != .retiring && e.2.st != .retired)).map (fun e => e.2.clears)

/-- R221: least CLEARS in G. -/
def State.minClears (s : State) (t : Nat) : Nat :=
  let l := s.clearsInG t
  if (s.tile t).xl.blocks.length < s.blocksOf then 0 else leastOr 0 l

/-- R221: greatest CLEARS in G. -/
def State.maxClears (s : State) (t : Nat) : Nat := greatest (s.clearsInG t)

/-- R222 XL_WEAR_LIMITS SPREAD_K: the spread limit in clears. -/
def State.spreadLimit (s : State) : Nat := 1000 * s.fld Reg.XL_WEAR_LIMITS 31 16

/-- R221: the difference of CLEARS is judged: beyond twice the spread limit SPREAD_HIGH is set once, until it has fallen back within the
limit. -/
def State.judgeSpread (s : State) (t : Nat) : State :=
  let lo := s.minClears t
  let hi := s.maxClears t
  if 2 * s.spreadLimit < hi - lo && !(s.tile t).xl.spreadHigh then
    (s.modXl t (fun x => { x with spreadHigh := true })).latch (Reg.XL_ERR_STATUS t) 5 Gb.XL_SPREAD_HIGH t [t, lo, hi]
  else if hi - lo ≤ s.spreadLimit then s.modXl t (fun x => { x with spreadHigh := false }) else s

/-- R220, R222, R225: the DONE of a clear, or its time-out. -/
def State.clearEnd (s : State) (t : Nat) (o : MedOp) (ok : Bool) (cause : Nat) : State :=
  let b := locBlk o.loc
  let s1 := s.dropOp t o
  let s2 :=
    if ok then
      let s3 := (s1.modMed t (fun m => { m with pages := adelWhere (fun k => decide (locBlk k = b)) m.pages })).perfEvent t 0x32 (2 ^ locCh o.loc) 1
      let k := s3.blk t b
      let clears := k.clears + 1
      if s3.fld Reg.XL_WEAR_LIMITS 15 0 * 10000 ≤ clears then
        let s4 := s3.modBlk t b (fun k => { k with clears := clears })
        (if k.st == .ring then s4.ringReplace t b 5 true else s4.retire t b 5 .retired true).event Gb.XL_WEAR_RETIRE t [t, b * 256, clears]
      else if k.st == .ring then s3.modBlk t b (fun k => { k with clears := clears, used := 0 })
      else
        let st : BlkSt := if s3.freeOn t (blkPlane b) < s3.reservePer && decide (s3.countSt t (blkPlane b) .reserve < s3.reservePer) then .reserve else .free
        (s3.modBlk t b (fun k => { st := st, clears := clears, frontier := k.frontier })).jappend t (.block 3 0 b)
    else
      ((s1.latch (Reg.MED_CH_ERR_STATUS t + 0x10 * locCh o.loc) 2 Gb.MED_CLEAR_FAIL t [t, o.loc, cause])).retire t b 4 .retired true
  (if ok then s2.judgeSpread t else s2).planeFreed t o.loc

end Sys2Proof.Machine
end

