-- ==== Sys2Proof/Machine/ParityOps.lean ====
section
/-! DEFINITION. Machine/ParityOps.lean: Cupola's slots, flushes, repair and resync (08_integrity.md R271 to R281) and
Caravan's on the holder's side (09_caravan.md R293 to R303). -/

namespace Sys2Proof.Machine

open Sys2Proof

/-! ### Cupola slots (08_integrity.md R271) -/

/-- R271: answer a delta. -/
def State.cupAck (s : State) (p : Nat) (d : Delta) (k : AckKind) : State :=
  s.meshSend p { src := p, dst := d.src, body := .ack k d.seg }

/-- R267: q of a parity local. -/
def State.qOf (s : State) (pl : Nat) : Nat := pl - (s.segs - s.cupR)

/-- R271: apply a delta at the parity tile, or find it a duplicate; none when no slot is free. -/
def State.cupApply (s : State) (p : Nat) (d : Delta) : Option State :=
  if d.resent && s.appliedJpos p (s.qOf d.parLocal) d.member == some d.jpos then some (s.cupAck p d .duplicate)
  else
    let ok (k : Slot) : Bool := k.adoptSeg.isNone && !k.flushing
    let put (k : Slot) : Slot := { k with lines := xorLines k.lines d.lines, jpos := aput d.member d.jpos k.jpos }
    let ks := (s.tile p).cup.slots
    if ks.any (fun e => e.1 == d.parLocal && ok e.2) then
      some ((s.modCupT p (fun c => { c with slots := modSlot d.parLocal ok put c.slots })).cupAck p d .applied)
    else if ks.length < slotCount then
      some ((s.modCupT p (fun c => { c with slots := c.slots ++ [(d.parLocal, put { seq := c.seq })], seq := c.seq + 1 })).cupAck p d .applied)
    else none

/-- R271: deltas held for want of a slot are applied once one is free. -/
def State.cupRetry (s : State) (p : Nat) : State :=
  (s.tile p).cup.held.foldl
    (fun a d => match a.cupApply p d with
      | some b => b.modCupT p (fun c => { c with held := c.held.filter (· != d) })
      | none => a) s

/-! ### Resync and unsynced stripes (08_integrity.md R281) -/

/-- R281: stripes of the package's enabled regions. -/
def State.stripes (s : State) : Nat := s.cupR * s.pop.tiles

/-- R281: the next stripe that awaits resync, as its linear number q × tiles + p. -/
def State.nextUnsynced (s : State) : Option Nat :=
  match s.cup.unsyncedFrom with
  | some k => some k
  | none => s.cup.unsynced.head?

/-- R281: a stripe is synced. -/
def State.markSynced (s : State) (k : Nat) : State :=
  (s.modCup (fun c =>
    { c with unsyncedFrom := match c.unsyncedFrom with
               | some n => if n = k then (if k + 1 < s.stripes then some (k + 1) else none) else some n
               | none => none,
             unsynced := c.unsynced.filter (· != k) })).judgeSync

/-- R269, R276: a stripe is marked unsynced. -/
def State.markUnsynced (s : State) (k : Nat) : State :=
  (s.modCup (fun c => { c with unsynced := if c.unsynced.contains k then c.unsynced else c.unsynced ++ [k] })).judgeSync

/-- R281: the resync passes a stripe without a change; one that a fold left unsynced stays so. -/
def State.passStripe (s : State) (k : Nat) : State :=
  (s.modCup (fun c => { c with unsyncedFrom := if c.unsyncedFrom = some k then (if k + 1 < s.stripes then some (k + 1) else none) else c.unsyncedFrom })).judgeSync

/-- R280: reconstruct the 64 lines of a LOST segment; none when a line cannot be. -/
def State.reconSeg (s : State) (t l : Nat) : Option (List Line) :=
  let ls := (List.range 64).map (fun i => s.reconstruct t l i)
  if ls.all (·.isSome) then some (ls.map (·.getD 0)) else none

/-- R281, 09_caravan.md R302: the parity that a segment held is gone and is to be resynced, but for Caravan parity that Cupola gives
(notes/assumptions/146.md). -/
def State.parityGone (s : State) (t l : Nat) : State :=
  if s.isParity l then s.markUnsynced (s.qOf l * s.pop.tiles + t)
  else match s.carRow (s.segOf t l / 65536) with
    | some row => if s.carHeld (s.segOf t l / 65536) && (s.reconSeg t l).isNone then s.carQueue [s.car.group' row] else s
    | none => s

/-- R259, R280: a segment that Cupola or Caravan covers becomes LOST. -/
def State.loseSeg (s : State) (t l : Nat) : State := (s.setLost t l).parityGone t l

/-- R259, R269: a page of the map that the maintenance ladder could not recover up to step 3. The parity page of a stripe makes it unsynced.
Another segment becomes LOST, where Cupola or Caravan gives its lines, or is expected to when it is repaired, and else uncorrectable. -/
def State.pageLost (s : State) (t loc : Nat) (bad : List Nat) : State :=
  match aget loc (s.tile t).med.pages with
  | none => s
  | some p =>
    let l := p.subject
    if !s.holdsCurrent t loc then s
    else if s.isParity l then
      ((s.uncorr t l).latch (Reg.CUP_ERR_STATUS t) 3 Gb.CUP_PARITY_UNCORR t [t, l]).markUnsynced (s.qOf l * s.pop.tiles + t)
    else if s.covered t l then
      let given := bad.all (fun i => (s.reconstruct t l i).isSome)
      let s1 := if given then (s.reconReads t l 0 68).reconOk t l
        else if ((s.carDataRow (s.segOf t l)).bind s.carAsk).isSome then s else s.uncorr t l
      s1.loseSeg t l
    else (s.uncorr t l).poisonSeg t l

/-- R281: every stripe of every enabled region is marked unsynced. -/
def State.unsyncAll (s : State) : State :=
  if s.stripes = 0 then s else (s.modCup (fun c => { c with unsyncedFrom := some 0, unsynced := [] })).judgeSync

/-- R281: the parity of a stripe as the XOR of its members, in the versions that the parity holds; none when a member is
missing. -/
def State.xorMembers (s : State) (p q : Nat) : Option (List Line) :=
  let ls := (List.range 64).map (fun i =>
    (List.range (s.pop.tiles - 1)).foldl
      (fun (a : Option Line) m => match a, s.memberLine p q m i with
        | some x, some y => some (x ^^^ y)
        | _, _ => none) (some 0))
  if ls.all (·.isSome) then some (ls.map (·.getD 0)) else none

/-- R253: MEMBER_JPOS of a parity page with the values of its slots. -/
def State.memberJpos (s : State) (p q : Nat) : List (Nat × Nat) :=
  (List.range (s.pop.tiles - 1)).filterMap (fun m => (s.appliedJpos p q m).map (fun j => (m, j)))

/-! ### Flush and fold (08_integrity.md R273, R276) -/

/-- R273, R295: the active PARITY_FLUSH entry of a tile with the ARG bit set and budget left. -/
def State.flushSector (s : State) (t bit : Nat) : Option Nat :=
  (List.range 64).find? (fun i =>
    let e := s.schedEntry t i
    s.sectorOn t i && e.cls == 6 && bitOf e.arg bit && s.classRuns t 6
      && decide (agetD (16 * i + 8) 0 (s.tile t).bel.spent < e.budget * popCount e.chans 8))

/-- R273, R295: a slot can be flushed now: Hold-up, a held delta, a PARITY_FLUSH sector with budget left, or 90 % use. -/
def State.flushNow (s : State) (t bit used : Nat) (held : Bool) : Bool :=
  s.md.mode == .holdup || held || (s.flushSector t bit).isSome || decide (9 * slotCount ≤ 10 * used)

/-- R117, R120: what pays for a flush: the budget of a sector, or, outside one, the override. In Hold-up no sector exists. -/
def State.payFlush (s : State) (t bit : Nat) : State :=
  if s.md.mode == .holdup then s
  else match s.flushSector t bit with
    | some i => s.spend t i 8
    | none => s.override t 6

/-- R273: the oldest slot that is not being flushed. -/
def State.oldestSlot (s : State) (t : Nat) : Option (Nat × Slot) :=
  match (s.tile t).cup.slots.filter (fun e => !e.2.flushing) with
  | [] => none
  | a :: l => some (l.foldl (fun m e => if e.2.seq < m.2.seq then e else m) a)

/-- R276 Fold: the lines of an adopted slot as parity: the XOR of the other members' versions and the new line; none when
a version cannot be read. -/
def State.foldLines (s : State) (p q : Nat) (k : Slot) : Option (List (Nat × Line)) :=
  match k.adoptSeg with
  | none => some []
  | some l =>
    let ft := (s.memberOf p q (l % (s.pop.tiles - 1))).1
    let mine := l % (s.pop.tiles - 1)
    let rs := k.adopted.map (fun a =>
      let x := s.toMedium (s.slotOf ft l) (s.segOf ft l) a.1 a.2.2 a.2.1
      ((List.range (s.pop.tiles - 1)).filter (· != mine)).foldl
        (fun (acc : Option Line) m => match acc, s.memberLine p q m a.1 with
          | some y, some z => some (y ^^^ z)
          | _, _ => none) (some x) |>.map (fun v => (a.1, v)))
    if rs.all (·.isSome) then some (rs.filterMap id) else none

/-- R185: the parity page of a local segment, where there is one, can be read now. -/
def State.parityFreeNow (s : State) (t l : Nat) : Bool :=
  let e := s.mapOf t l
  !(e.st == .mapped || e.st == .relocating) || s.mediaFree t e.loc

/-- R273, R276, R269: flush the slots of a stripe: its parity page with the slots XORed in is committed. -/
def State.flushStripe (s : State) (p pl : Nat) (errs : List LineErr) : State :=
  let q := s.qOf pl
  if !s.parityFreeNow p pl then s else
  let e := s.mapOf p pl
  let mapped := e.st == .mapped || e.st == .relocating
  let (s1, o) := if mapped then s.maintRead p e.loc errs else (s, {})
  let ks := ((s.tile p).cup.slots.filter (fun x => x.1 == pl && !x.2.flushing)).map (·.2)
  if e.st == .lost || !o.bad.isEmpty then
    -- R269: the parity page is uncorrectable; the stripe is resynced, in Hold-up after the next Bring-up
    let s2 := if e.st == .lost then s1 else (s1.latch (Reg.CUP_ERR_STATUS p) 3 Gb.CUP_PARITY_UNCORR p [p, pl]).uncorr p pl
    let s3 := if s.md.mode == .holdup then (s2.setLost p pl).modCupT p (fun c => { c with slots := c.slots.filter (fun x => x.1 != pl) }) else s2
    s3.markUnsynced (q * s.pop.tiles + p)
  else
    let folds := ks.map (fun k => s1.foldLines p q k)
    if folds.any (·.isNone) then
      if s.md.mode == .holdup then
        (s1.modCupT p (fun c => { c with slots := c.slots.filter (fun x => x.1 != pl || x.2.adoptSeg.isNone) })).markUnsynced (q * s.pop.tiles + p)
      else s1
    else
      let ovr := (folds.map (fun f => f.getD [])).flatten
      let base := (List.range 64).map (fun i =>
        match ovr.find? (fun a => a.1 == i) with
        | some a => a.2
        | none => ks.foldl (fun x k => x ^^^ agetD i 0 k.lines) (if mapped then s1.pageLine p e.loc i else 0))
      let pg : Page := { kind := .host, subject := pl, members := s1.memberJpos p q, lines := base }
      let s2 := s1.modCupT p (fun c => { c with slots := c.slots.map (fun x => if x.1 = pl then (x.1, { x.2 with flushing := true }) else x) })
      s2.beginCommit p (.cup pl) pl pg

/-! ### Caravan at the holder (09_caravan.md R293 to R296) -/

/-- R293: tile and local segment of a stripe's parity in this package. -/
def State.carHome (s : State) (stripe : Nat) : Nat × Nat :=
  let g := s.carSeg stripe
  (s.segTile g, s.segLocal g)

/-- R293: a delta that was held is tried again; it is answered when it is applied. -/
def State.carRetry (s : State) (t : Nat) : State :=
  (s.tile t).car.held.foldl
    (fun a d => match (if a.car.lock == some d.stripe then none else a.carApply t (a.carHome d.stripe).2 d) with
      | some b => (b.modCarT t (fun c => { c with held := c.held.filter (· != d) })).carAck d.peer d.seq d.stripe 0
      | none => a) s

/-- R24 for a parity page: step 4 is complete, its slots are freed and the commit ends. -/
def State.parityDone (s : State) (t : Nat) : State :=
  let ends := (s.tile t).xl.commits.filter (fun c => c.step == .done && (match c.job with | .host _ => false | _ => true))
  ends.foldl
    (fun a c =>
      let b := a.modXl t (fun x => { x with commits := x.commits.filter (· != c) })
      match c.job with
      | .cup pl => (b.modCupT t (fun k => { k with slots := k.slots.filter (fun e => !(e.1 == pl && e.2.flushing)) })).cupRetry t
      | .cupResync pl =>
        ((b.modCupT t (fun k => { k with slots := k.slots.filter (fun e => !(e.1 == pl && e.2.flushing)) })).markSynced
          (b.qOf pl * b.pop.tiles + t)).cupRetry t
      | .car seg | .carResync seg =>
        (b.modCarT t (fun k => { k with slots := k.slots.filter (fun e => !(e.seg == seg && e.flushing)) })).carRetry t
      | _ => b) s

/-- R293: a first or later delta: applied and answered APPLIED, or held and answered BUSY. -/
def State.carTake (s : State) (d : CarHeld) : State :=
  let (t, l) := s.carHome d.stripe
  if s.car.lock == some d.stripe then
    (s.modCarT t (fun c => { c with held := c.held ++ [d] })).carAck d.peer d.seq d.stripe 2
  else
    match s.carApply t l d with
    | some b => b.carAck d.peer d.seq d.stripe 0
    | none =>
      let n := (s.tile t).car.slots.length
      ((s.modCarT t (fun c => { c with held := c.held ++ [d] })).latch (Reg.CAR_ERR_STATUS t) 1 Gb.CAR_SLOT_FULL t [t, n]).carAck d.peer d.seq d.stripe 2

/-- R295: flush Caravan slot `k` of tile `t` into its parity page. Where its lines are not to be had, the parity is LOST and its row group is
resynced, in Hold-up after the next Bring-up (notes/assumptions/146.md). -/
def State.flushCar (s : State) (t : Nat) (k : CarSlot) (errs : List LineErr) : State :=
  if !s.parityFreeNow t k.seg then s else
  let e := s.mapOf t k.seg
  let mapped := e.st == .mapped || e.st == .relocating
  let (s1, o) := if mapped then s.maintRead t e.loc errs else (s, {})
  let base := (List.range 64).map (fun i => s1.carMemberLine t k.seg i (o.bad.contains i))
  if !base.all (·.isSome) then
    let s2 := if mapped then s1.pageLost t e.loc o.bad else s1.parityGone t k.seg
    if s.md.mode == .holdup then s2.modCarT t (fun c => { c with slots := c.slots.filter (· != k) }) else s2
  else
  let page := (List.range 64).map (fun i => (base.getD i none).getD 0 ^^^ agetD i 0 k.lines)
  let s2 := if o.bad.isEmpty && e.st != .lost && !s.unrejoined t k.seg then s1 else (s1.reconReads t k.seg 0 68).reconOk t k.seg
  let s3 := s2.modCarT t (fun c => { c with slots := c.slots.map (fun x => if x = k then { x with flushing := true } else x) })
  s3.beginCommit t (.car k.seg) k.seg { kind := .host, subject := k.seg, lines := page }

/-- R302: the stale bit of a row group is cleared for a peer, and CAR_STALE committed. -/
def State.clearStale (s : State) (peer g : Nat) : State :=
  match s.peer peer with
  | none => s
  | some p =>
    let l := p.stale.filter (· != g)
    let s1 := s.modPeer peer (fun p => { p with stale := l, staleDur := p.staleDur.filter (· != g) })
    ((s1.psPut (Param.CAR_STALE + peer) (staleBytes l)).psRequest .internal).judgeSync

/-- R27 class 4: owner of the bulk-copy window of tile `t`; 0 is none. -/
def State.windowOwner (s : State) (t : Nat) : Nat := agetD t 0 s.cup.windows

/-- R27 class 4: the bulk-copy window of a tile is free or already owned by `who`. -/
def State.windowOn (s : State) (t who : Nat) : Bool := s.windowOwner t == 0 || s.windowOwner t == who

/-- R27 class 4: a rebuild of the package may own the bulk-copy window of every tile. -/
def State.windowFor (s : State) (who : Nat) : Bool := s.aliveTiles.all (fun t => s.windowOn t who)

/-- R27: claim the bulk-copy window of a tile. -/
def State.claimWindow (s : State) (who t : Nat) : State := s.modCup (fun c => { c with windows := aput t who c.windows })

/-- R27: a rebuild of the package claims the bulk-copy window of every tile. -/
def State.setWindow (s : State) (who : Nat) : State := s.aliveTiles.foldl (fun a t => a.claimWindow who t) s

/-- R28: `who` releases the bulk-copy windows it owns; no one owns them then. -/
def State.releaseWindow (s : State) (who : Nat) : State :=
  s.modCup (fun c => { c with windows := c.windows.filter (fun e => e.2 != who) })

end Sys2Proof.Machine
end

