-- ==== Sys2Proof/Machine/FlashOps.lean ====
section
/-! DEFINITION. Machine/FlashOps.lean: the boot flash (17_guestbook_parameter_store.md R474 to R494): the Guestbook's areas,
reads by record number, and the commits of the Parameter Store. -/

namespace Sys2Proof.Machine

open Sys2Proof

/-! ### Guestbook areas (R479 to R483) -/

/-- R480: sectors of an area: 1,024 circulating, 64 permanent. -/
def gbSectors (circ : Bool) : Nat := if circ then 1024 else 64

/-- R480: slots of a sector. -/
def gbSlots : Nat := 127

/-- R480: the circulating area's slot after `pos`, with wrap. -/
def circNextPos (pos : Nat) : Nat := (pos + 1) % (1024 * gbSlots)

/-- R479: put a record into the circulating area; entering a sector erases the sixth sector after it, or owes the erase in
Hold-up (R480). -/
def State.gbPutCirc (s : State) (r : GbRecord) : State :=
  s.modGb (fun g =>
    let sec := g.circPos / gbSlots
    let enters := g.circPos % gbSlots == 0
    let gone := (sec + 6) % 1024
    let owe := enters && s.md.mode == .holdup
    let kept := if enters && !owe then adelWhere (fun k => decide (k / gbSlots = gone)) g.circ else g.circ
    { g with circ := aput g.circPos ({ num := r.num, entry := r } : GbSlot) kept,
             circPos := circNextPos g.circPos,
             erasesOwed := if owe then g.erasesOwed + 1 else g.erasesOwed,
             circOldest := max g.circOldest (leastOr g.circOldest (kept.map (fun e => e.2.num))) })

/-- R477, R479: the copy of a record marked PERM goes to the permanent area, which is never overwritten. -/
def State.gbPutPerm (s : State) (r : GbRecord) : State :=
  if r.perm then
    s.modGb (fun g => { g with permArea := aput g.permPos ({ num := r.permNum, entry := r } : GbSlot) g.permArea, permPos := g.permPos + 1 })
  else s

/-- R479, R480: records that the 256-byte page of the circulating area's slot `pos` still takes; its sector begins with a header of the
size of a record. -/
def gbGroup (pos : Nat) : Nat := 8 - (pos % gbSlots + 1) % 8

/-- R479: a group of records that share a page leaves the buffer for the boot flash. R494: a write that fails moves on to the next sector.
R478: an overflow is reported once the buffer takes records again. -/
def State.gbWriteGroup (s : State) (fail : Bool) : State :=
  if s.gb.buf.isEmpty then s
  else
    let s0 := if fail then
        (s.latchOnly Reg.GB_ERR_STATUS 2).modGb (fun g => { g with circPos := (g.circPos / gbSlots + 1) % 1024 * gbSlots })
      else s
    let n := gbGroup s0.gb.circPos
    let s1 := s0.modGb (fun g => { g with buf := g.buf.drop n, dropDue := false })
    let s2 := (s.gb.buf.take n).foldl (fun a r => (a.gbPutCirc r).gbPutPerm r) s1
    if s.gb.dropDue then s2.event Gb.GB_DROPPED 15 [s.gb.dropped] else s2

/-- R481: store a GB_AGE_CLOCK record: age clock in ms, operating time in s. -/
def State.ageRecord (s : State) : State := s.event Gb.AGE_CLOCK 15 (gbWide s.gb.ageMs ++ gbWide s.gb.opTime)

/-- R482: records of an area by number, ascending: flash slots with a good CHECK, then the buffer. -/
def Guestbook.records (g : Guestbook) (circ : Bool) : List (Nat × GbRecord) :=
  let flash := (if circ then g.circ else g.permArea).filterMap (fun e => if e.2.good then some (e.2.num, e.2.entry) else none)
  let buf := g.buf.filterMap (fun r => if circ then some (r.num, r) else if r.perm then some (r.permNum, r) else none)
  let oldest := if circ then g.circOldest else g.permOldest
  ((flash ++ buf).foldl (fun l e => aput e.1 e.2 l) []).filter (fun e => decide (oldest ≤ e.1))

/-- R482: number of the newest record of an area. -/
def Guestbook.newest (g : Guestbook) (circ : Bool) : Nat := (if circ then g.circNext else g.permNext) - 1

/-- R482: number of the oldest readable record of an area. -/
def Guestbook.oldest (g : Guestbook) (circ : Bool) : Nat := if circ then g.circOldest else g.permOldest

/-- R482: a read from a cursor: records, next cursor, SKIPPED. Numbers compare as signed differences modulo 2^32. -/
def Guestbook.read (g : Guestbook) (circ : Bool) (cursor count : Nat) : List GbRecord × Nat × Bool :=
  let old := g.oldest circ
  let d := (cursor + 2 ^ 32 - old % 2 ^ 32) % 2 ^ 32
  let skip := decide (2 ^ 31 ≤ d)
  let start := if skip then old else old + d
  if g.newest circ < start then ([], (g.newest circ + 1) % 2 ^ 32, skip)
  else
    let l := ((g.records circ).filter (fun e => decide (start ≤ e.1))).take count
    let next := match l.getLast? with | some e => e.1 + 1 | none => g.newest circ + 1
    (l.map (·.2), next % 2 ^ 32, skip)

/-- R479: slots with VALID and a bad CHECK are counted and reported once per Bring-up. -/
def State.gbBadScan (s : State) : State :=
  let bad := (s.gb.circ.filter (fun e => !e.2.good)).length + (s.gb.permArea.filter (fun e => !e.2.good)).length
  if bad = 0 then s
  else
    let s1 := s.modGb (fun g => { g with badCount := satAdd 255 g.badCount bad })
    if s1.gb.checkReported then s1.latchOnly Reg.GB_ERR_STATUS 1
    else
      let c := s.gb.circ.find? (fun e => !e.2.good)
      let n := match c with
        | some e => e.2.num
        | none => ((s.gb.permArea.find? (fun e => !e.2.good)).map (fun e => e.2.num)).getD 0
      (s1.modGb (fun g => { g with checkReported := true })).latch Reg.GB_ERR_STATUS 1 Gb.GB_CHECK 15 [b2n c.isSome, n]

/-! ### Commits of the Parameter Store (R489 to R494) -/

/-- R485: program one record of `n` bytes into a copy; a record that does not fit the page enters the next one. The answer
says whether a page was entered. -/
def PsCopy.program (c : PsCopy) (n : Nat) (id : Option Nat) : PsCopy × Bool :=
  let enter := decide (4096 < c.used + n)
  let d := if enter then { c with page := (c.page + 1) % 256, gen := c.gen + 1, used := 32 } else c
  ({ d with used := d.used + n, recPage := (match id with | some i => aput i d.page d.recPage | none => d.recPage) }, enter)

/-- R490: the elements to carry forward: those whose newest record lies in page p + 3. -/
def PsCopy.due (c : PsCopy) : List Nat := (c.recPage.filter (fun e => e.2 == (c.page + 3) % 256)).map (·.1)

/-- R489: a commit's records and its marker are programmed into a copy. The answer says whether a page was entered. -/
def PsCopy.commit (c : PsCopy) (seq : Nat) (els : List (Nat × List Byte)) : PsCopy × Bool :=
  let (d, e) := els.foldl
    (fun (a : PsCopy × Bool) p =>
      let (x, n) := a.1.program (recordSize p.2) (some p.1)
      ({ x with els := aput p.1 p.2 x.els }, a.2 || n)) (c, false)
  let (d2, e2) := d.program markerSize none
  ({ d2 with seq := seq }, e || e2)

/-- R490: what follows the entry of a page: the elements of page p + 3 are carried forward in a commit of their own, and that page is then
erased. -/
def ParamStore.carry (p : ParamStore) : ParamStore :=
  let els := (distinct (p.copyA.due ++ p.copyB.due)).map (fun i => (i, (aget i p.els).getD []))
  let q : ParamStore := { p with eraseBusy := true }
  if els.isEmpty then q
  else { q with copyA := (p.copyA.commit (p.lastSeq + 1) els).1, copyB := (p.copyB.commit (p.lastSeq + 1) els).1, lastSeq := p.lastSeq + 1 }

/-- R489: a commit starts: the whole pending set under a new SEQ, when none runs. -/
def State.psStart (s : State) : State :=
  if s.ps.running.isSome || s.ps.pendingSet.isEmpty then s
  else
    s.modPs (fun p =>
      { p with running := some { seq := p.lastSeq + 1, els := p.pendingSet, callers := p.waiters },
               lastSeq := p.lastSeq + 1, pendingSet := [], waiters := [] })

/-- R463, R465: the keys and secrets that the boot flash holds once the elements given are committed. -/
def Security.commitKeys (x : Security) (els : List (Nat × List Byte)) : Security :=
  let keys := els.filter (fun e => e.1 / 256 == Param.MEDIA_KEYS / 256)
  { x with
    durKeys := keys.foldl (fun l e => match aget (e.1 % 256 + 1) x.stored with
      | some k => if e.2 = zeros 80 then adel (e.1 % 256 + 1) l else aput (e.1 % 256 + 1) k l
      | none => adel (e.1 % 256 + 1) l) x.durKeys
    durSecrets := if els.any (fun e => e.1 / 256 == Param.IMPORTED_KEYS / 256) then x.secrets else x.durSecrets }

/-- R489, R490: the running commit reaches the marker of copy B; step H7 owes the carry-forward. -/
def State.psApply (s : State) : State :=
  match s.ps.running with
  | none => s
  | some c =>
    let hold := s.md.mode == .holdup
    let (a, ea) := s.ps.copyA.commit c.seq c.els
    let (b, eb) := s.ps.copyB.commit c.seq c.els
    (s.modPs (fun p =>
      let q : ParamStore := { p with copyA := a, copyB := b, els := c.els.foldl (fun l e => aput e.1 e.2 l) p.els, running := none }
      if !(ea || eb) then q else if hold then { q with carryOwed := true } else q.carry)).modSec (fun x => x.commitKeys c.els)

/-- R489: the first entry that waits for room is stored, or its request (PARAM_ID 0) is made, when that is possible. A
PARAM_WRITE that waited completes. -/
def State.psRoomOne (s : State) : State :=
  match s.ps.roomWait with
  | [] => s
  | (c, id, v) :: l =>
    if id = 0 then s.modPs (fun p => { p with waiters := p.waiters ++ [c], roomWait := l })
    else if s.psFits id v then
      let b := s.modPs (fun p => { p with pendingSet := aput id v p.pendingSet, roomWait := l })
      match c with
      | .porter r k => b.ok { ring := r, cid := k } []
      | _ => b
    else s

/-- R489: entries that wait for room are stored in order while they fit; those left wait for the next commit. -/
def State.psRoom (s : State) : State :=
  let a := s.ps.roomWait.foldl (fun a _ => a.psRoomOne) s
  if a.ps.roomWait.isEmpty then a else a.modPs (fun p => { p with waiters := p.waiters ++ [.internal] })

/-- R489: the running commit and then one of the pending set end at once; callers wait for the next commit. -/
def State.psCommitOnce (s : State) : State :=
  let w := ((s.ps.running.map (·.callers)).getD []) ++ s.ps.waiters
  let s1 := s.psApply.modPs (fun p => { p with waiters := [] })
  let s2 := s1.psStart.psApply
  (s2.modPs (fun p => { p with waiters := w })).psRoom

/-- The number of commits given end at once. -/
def State.psCommitLoop : Nat → State → State
  | 0, s => s
  | n + 1, s => if s.ps.pendingSet.isEmpty && s.ps.roomWait.isEmpty && s.ps.running.isNone then s else State.psCommitLoop n s.psCommitOnce

/-- R489: every pending value is committed at once: where one event takes in the whole commit (step 13, a boot decision of
R451, CAR_BOOT of R465). -/
def State.psCommitNow (s : State) : State := State.psCommitLoop (s.ps.roomWait.length + 1) s

/-- R491: commits of PERSIST options that shed stage 2 held are asked for once it is left, or at step H7. -/
def State.psReleaseHeld (s : State) : State :=
  let l := s.ps.held
  l.foldl State.psRequest (s.modPs (fun p => { p with held := [] }))

/-- R491: a request is refused for want of energy; `who` as R539 encodes it. -/
def State.psEnergyRefuse (s : State) (pc : PortCmd) (who : Nat) : State :=
  (s.latch Reg.PS_ERR_STATUS 3 Gb.PARAM_ENERGY 15 [who, s.pw.stage]).fail pc .energyLow 0

/-- Whether a Porter command waits for a commit to end. -/
def State.awaitsAny (s : State) (pc : PortCmd) : Bool :=
  let p (c : PsCaller) : Bool := c == .porter pc.ring pc.cid || c == .authAnswer pc.ring pc.cid || c == .restart pc.ring pc.cid
  s.ps.waiters.any p || s.ps.held.any p || ((s.ps.running.map (fun r => r.callers.any p)).getD false)
    || s.ps.roomWait.any (fun e => p e.1)

/-- R489: a value is stored and its commit asked for by an internal caller. -/
def State.psPutNow (s : State) (id : Nat) (v : List Byte) : State := (s.psPut id v).psRequest .internal

/-- R493: after a torn commit the rest of the page is not used. -/
def PsCopy.untorn (c : PsCopy) : PsCopy :=
  if c.torn.isEmpty then c else { c with torn := [], page := (c.page + 1) % 256, gen := c.gen + 1, used := 32 }

/-- R492, R493: recovery at an island reset: the copy with the greater effective SEQ is chosen, copy A when they are the same; torn commits
are reported, and the copy not chosen is rewritten with every live element under a new SEQ. -/
def State.psRecover (s : State) : State :=
  let p := s.ps
  let useB := decide (p.copyA.seq < p.copyB.seq)
  let c := if useB then p.copyB else p.copyA
  let conflict := p.copyA.seq == p.copyB.seq && p.copyA.els != p.copyB.els
  let torn := p.copyA.torn.map (fun t => (0, t)) ++ p.copyB.torn.map (fun t => (1, t))
  let seq := max p.lastSeq c.seq + 1
  let rewrite (k : PsCopy) : PsCopy := (({ k.untorn with els := [], recPage := [] } : PsCopy).commit seq c.els).1
  let s1 := s.modPs (fun q =>
    { q with copySel := useB, els := c.els, pendingSet := [], waiters := [], held := [], running := none, roomWait := [],
             lastSeq := seq, eraseBusy := false, unlocked := false,
             copyA := if useB then rewrite q.copyA else q.copyA.untorn, copyB := if useB then q.copyB.untorn else rewrite q.copyB })
  let s2 := if conflict then s1.latch Reg.PS_ERR_STATUS 1 Gb.COPY_CONFLICT 15 [1, c.seq] else s1
  torn.foldl (fun a t => a.latch Reg.PS_ERR_STATUS 0 Gb.PARAM_TORN 15 [t.1, t.2]) s2

end Sys2Proof.Machine
end

