-- ==== Sys2Proof/Machine/SecOps.lean ====
section
/-! DEFINITION. Machine/SecOps.lean: shared operations of security (16_security.md): FW_BOOT, image checks, authorisation,
measurements and signatures, media keys. -/

namespace Sys2Proof.Machine

open Sys2Proof

/-! ### FW_BOOT and images (R449 to R455) -/

/-- R541: FLAGS of FW_BOOT: bit 0 PREFER, bit 1 TRIAL, bits 3:2 TRIES, bit 4 PENDING, bits 5 and 6 BAD_A and BAD_B. -/
def State.fwBoot (s : State) : Nat := leAt (s.psGet Param.FW_BOOT) 0 1

/-- R451: change FW_BOOT. -/
def State.setFwBoot (s : State) (v : Nat) : State := s.psPut Param.FW_BOOT (leBytes 4 (v % 128))

/-- R541: TRIES. -/
def fwTries (v : Nat) : Nat := v / 4 % 4

/-- R541: put TRIES. -/
def fwPutTries (v n : Nat) : Nat := v - fwTries v * 4 + n % 4 * 4

/-- R449: image slot `i`. -/
def State.fwSlot (s : State) (i : Nat) : FwSlot := s.sec.slots.getD i {}

/-- Change image slot `i`. -/
def State.modSlotFw (s : State) (i : Nat) (f : FwSlot → FwSlot) : State := s.modSec (fun x => { x with slots := lmod i f x.slots })

/-- R452: the rollback floor. -/
def State.svnFloor (s : State) : Nat := s.fuse.svn

/-- R450 check 1: MAGIC, FORMAT and LENGTH are valid, and every must-be-0 field is 0. An image has at least its first 1,024 bytes and its
signature. -/
def imageHeaderOk (m : FwImage) : Bool :=
  m.magic == 0x4B435A46 && m.format == 1 && decide (1024 + 2820 ≤ m.length ∧ m.length ≤ 2 ^ 24 ∧ m.flags < 2) && m.zeroed

/-- R450 check 2: the key of a slot is not revoked, and it is the one whose hash the fuses hold. -/
def State.vkeyOk (s : State) (slot : Nat) (hash : BitVec 256) : Bool :=
  decide (slot < 4) && !bitOf s.fuse.revoke slot && hash == s.fuse.vkeys.getD slot 0

/-- R450: the first check that the image of a slot fails, 0 when it verifies; of the sections those in the mask are checked. A slot whose
staging was interrupted holds no valid image. -/
def State.imageFail (s : State) (i mask : Nat) : Nat :=
  let k := s.fwSlot i
  if k.partialImg || !imageHeaderOk k.img then 1
  else if !s.vkeyOk k.img.keySlot k.img.pubHash then 2
  else if !k.img.sigOk then 3
  else if k.img.svn < s.svnFloor then 4
  else if Nat.land (Nat.land k.img.badSections mask) (2 ^ k.img.sections - 1) ≠ 0 then 5 else 0

/-- R451 step 5: a slot can be booted: the boot ROM checks section 0 (R450), and the BAD bit of the slot is clear. -/
def State.imageOk (s : State) (i : Nat) : Bool := s.imageFail i 1 == 0 && !bitOf s.fwBoot (5 + i)

/-- R450, R453: an image is refused: SIG_REFUSED or ROLLBACK, and GB_FW_REFUSED. -/
def State.fwRefused (s : State) (i check : Nat) : State :=
  s.latch Reg.SEC_ERR_STATUS (if check = 4 then 1 else 0) Gb.FW_REFUSED 15 [i, check]

/-- R453: a chunk of an image is staged into the slot that is not running; `img` is what the checks find in the whole image.
The answer says that the chunk was accepted. -/
def State.stageChunk (s : State) (offset len : Nat) (final : Bool) (img : FwImage) : State × Bool :=
  let i := 1 - b2n (s.sec.runSlot == 1)
  if 2 ^ 24 < offset + len || (offset != 0 && ((s.fwSlot i).staged != offset || !(s.fwSlot i).partialImg)) then (s, false)
  else
    let v := s.fwBoot
    let v1 := v - b2n (bitOf v 4) * 16
    let s1 := if offset = 0 then
        (s.modSlotFw i (fun k => { k with staged := 0, partialImg := true, verdict := 0 })).setFwBoot (v1 - b2n (bitOf v1 (5 + i)) * 2 ^ (5 + i))
      else s
    let s2 := s1.modSlotFw i (fun k => { k with staged := offset + len })
    if !final then (s2, true)
    else
      let s3 := s2.modSlotFw i (fun k =>
        { k with partialImg := false, img := img })
      match s3.imageFail i 0xFF with
      | 0 => (s3.modSlotFw i (fun k => { k with verdict := 1 }), true)
      | c => ((s3.modSlotFw i (fun k => { k with verdict := if c = 4 then 3 else 2 })).fwRefused i c, true)

/-- R457: version of the image in the other slot; 0 when it is not valid. -/
def State.fwOther (s : State) : Nat :=
  let o := 1 - b2n (s.sec.runSlot == 1)
  if s.imageFail o 0xFF = 0 ∧ !bitOf s.fwBoot (5 + o) then (s.fwSlot o).img.version else 0

/-! ### Keys derived from the roots (R447, R469) -/

/-- R447: a key derived from DEVICE_SECRET, a label and a context, 32 bytes. -/
def State.kek (s : State) (label : String) (context : List Byte) : List Byte :=
  leBytes 32 (Config.shake256 (leBytes 32 s.fuse.secret.toNat ++ asciiBytes label ++ context)).toNat

/-- R447: KEK_MEDIA. -/
def State.kekMedia (s : State) : List Byte := s.kek "KRY-CZ-MEDIA" (leBytes 4 s.fuse.gen)

/-- R447: KEK_ATTEST. -/
def State.kekAttest (s : State) : List Byte := s.kek "KRY-CZ-ATTEST" []

/-- R447: KEK_OWNER. -/
def State.kekOwner (s : State) : List Byte := s.kek "KRY-CZ-OWNER" (leBytes 4 s.fuse.gen)

/-- SERIAL, 16 bytes. -/
def State.serialBytes (s : State) : List Byte := leBytes 16 s.pop.serial.toNat

/-- R469: OWNER_AUTH for a secret. -/
def State.ownerAuthOf (s : State) (secret : List Byte) : List Byte :=
  leBytes 32 (Config.shake256 (s.kekOwner ++ s.serialBytes ++ padTo 32 secret)).toNat

/-- R469: the owner secret is correct. -/
def State.secretOk (s : State) (secret : List Byte) : Bool := s.ownerAuthOf secret == s.psGet Param.OWNER_AUTH

/-- R495: PARAM_AUTH for a password; 32 zero bytes remove it. -/
def State.paramAuthOf (s : State) (pw : List Byte) : List Byte :=
  if (padTo 32 pw).all (· == 0) then zeros 32 else leBytes 32 (Config.shake256 (s.serialBytes ++ padTo 32 pw)).toNat

/-- R495: a password is set. -/
def State.pwSet (s : State) : Bool := (s.psGet Param.PARAM_AUTH).any (· != 0)

/-! ### Authorisation (R469) -/

/-- R469: the token in bytes 64 to 3,015 of an authorisation buffer is accepted for a kind; `sigOk`: its
signature verifies under its public key, bytes 64 to 131 of it, which passes check 2 of R450. -/
def State.tokenOk (s : State) (buf : List Byte) (kind : Nat) (sigOk : Bool) : Bool :=
  let b := buf.drop 64
  sigOk && leAt b 0 2 == 0x7A4B && leAt b 2 1 == kind && s.vkeyOk (leAt b 4 1) (Config.shake256 (padTo 68 (b.drop 64))) && leAt b 5 3 == 0 && leAt b 8 16 == s.pop.serial.toNat && s.sec.challengeOk && leAt b 24 32 == s.sec.challenge.toNat
    && leAt b 56 8 == 0 && (kind == 3 || leAt b 3 1 == 0)

/-- R469: every token check consumes the challenge. -/
def State.useChallenge (s : State) : State := s.modSec (fun x => { x with challengeOk := false, challenge := 0 })

/-- R541: the bytes of AUTH_FAILS. -/
def failBytes (auth par : Nat) : List Byte := leBytes 1 auth ++ leBytes 1 par

/-- R469: an authorisation check ends: refused at 8 failures; a failure is counted and committed before the answer; a
success sets the count to 0. -/
def State.authorise (s : State) (pc : PortCmd) (opcode : Nat) (ok : Bool) (go : State → State) : State :=
  let n := s.authFails
  if 8 ≤ n then s.fail pc .notAuthorised 2
  else if ok then
    go (if n = 0 then s else s.psPutNow Param.AUTH_FAILS (failBytes 0 s.paramFails))
  else
    let s1 := (s.psPut Param.AUTH_FAILS (failBytes (n + 1) s.paramFails)).psRequest (.authAnswer pc.ring pc.cid)
    let s2 := s1.latchOnly Reg.SEC_ERR_STATUS 3
    let s3 := if n + 1 = 8 then s2.latch Reg.SEC_ERR_STATUS 4 Gb.SEC_LOCKOUT 15 [opcode] else s2
    s3.fail pc .notAuthorised 1

/-! ### Measurements and signatures (R456 to R460) -/

/-- R457: content of measurement `i`, 1 to 8. -/
def State.measContent (s : State) (i : Nat) : List Byte :=
  match i with
  | 1 => Config.bootRom
  | 4 => leBytes 1 s.svnFloor ++ leBytes 2 (s.fwSlot s.sec.runSlot).img.svn ++ leBytes 1 s.sec.runSlot ++ leBytes 1 (b2n (bitOf s.fwBoot 1))
  | 5 => leBytes 1 s.sec.lc ++ leBytes 1 s.fuse.gen ++ leBytes 1 (s.fld Reg.SEC_PRIV_CTL 7 0) ++ leBytes 1 (s.fld Reg.SEC_PRIV_CTL 8 8)
      ++ leBytes 1 s.sec.granted
  | 6 => leBytes 4 s.kryIdent.toNat ++ leBytes 4 s.pop.krev.toNat ++ s.serialBytes
  | 7 => ((s.ps.els.filter (fun e => !([0x20, 0x21, 0x22, 0x27].contains (e.1 / 256)))).map (·.2)).flatten
  | 8 => if s.car.inGroup then leBytes 4 s.carStatus.toNat ++ leBytes 4 (s.car.base * 65536 + s.car.blocks) else zeros 8
  | _ => []

/-- R457: measurement `i`. Indices 2 and 3 digest an image header, which the model keeps as its digest. -/
def State.meas (s : State) (i : Nat) : BitVec 256 :=
  let staged := s.fwSlot (1 - b2n (s.sec.runSlot == 1))
  if i = 2 then (s.fwSlot s.sec.runSlot).img.digest
  else if i = 3 then (if staged.verdict = 1 then staged.img.digest else Config.shake256 (zeros 32))
  else Config.shake256 (s.measContent i)

/-- R457: DMTF value type. -/
def measType (i : Nat) : Nat := if i = 1 then 0 else if i = 2 ∨ i = 3 then 1 else if i = 5 ∨ i = 6 then 2 else 3

/-- R458: a block of a quote. -/
def State.quoteBlock (s : State) (i : Nat) : List Byte :=
  leBytes 1 i ++ leBytes 1 1 ++ leBytes 2 35 ++ leBytes 1 (measType i) ++ leBytes 2 32 ++ leBytes 32 (s.meas i).toNat ++ [0]

/-- R458: a quote up to its signature. -/
def State.quoteBody (s : State) (nonce : BitVec 256) (mask leaf : Nat) : List Byte :=
  let idx := (List.range 8).filter (bitOf mask)
  let n := idx.length
  leBytes 2 0x7151 ++ leBytes 1 1 ++ leBytes 1 n ++ leBytes 2 (64 + 40 * n + 5605) ++ zeros 2 ++ leBytes 5 leaf ++ zeros 3
    ++ s.serialBytes ++ leBytes 32 nonce.toNat ++ (idx.map (fun i => s.quoteBlock (i + 1))).flatten

/-- R457, R63: SPDM measurement blocks of an index, 0 for none and 255 for all: index, value type and digest of each. -/
def State.measFields (s : State) (idx : Nat) : List Nat :=
  (((List.range 9).drop 1).filter (fun i => idx == 255 || idx == i)).map (fun i => [i, measType i, (s.meas i).toNat]) |>.flatten

/-- R456: an XMSS^MT signature, 5,605 bytes. -/
def signature (leaf : Nat) (msg : List Byte) : List Byte := padTo 5605 (Config.sign 0 leaf msg)

/-- R63: what the device key signs in an SPDM answer: the response code, index and leaf, the requester's nonce, and the measurement blocks. The layout
is that of the quote (DESIGN CHOICE, notes/assumptions/21.md). -/
def State.spdmBody (s : State) (code idx leaf : Nat) (nonce : BitVec 256) : List Byte :=
  leBytes 1 code ++ leBytes 1 idx ++ leBytes 5 leaf ++ leBytes 32 nonce.toNat
    ++ (if code = 2 then ((((List.range 9).drop 1).filter (fun i => idx == 255 || idx == i)).map s.quoteBlock).flatten else [])

/-- R459, R63: a request that waits to sign is refused: ENERGY_LOW, or SPDM ERROR Busy (code 3). -/
def State.signFail (s : State) : Signer → State
  | .quote r c _ _ _ => s.fail { ring := r, cid := c } .energyLow 0
  | .spdm h code idx _ => s.emit (.doe h code 3 [idx])

/-- R458, R459: sign with a leaf index. -/
def State.signWith (s : State) (leaf : Nat) : Signer → State
  | .quote r c nonce mask buf =>
    let body := s.quoteBody nonce mask leaf
    (s.emit (.hostWrite (s.ring r).head buf (body ++ signature leaf body))).ok { ring := r, cid := c } [(16, body.length + 5605), (40, leaf)]
  | .spdm h code idx nonce =>
    let s1 := if code = 3 then s.modHead h (fun d => { d with session := true }) else s
    s1.emit (.doe h code 0 ([idx, leaf] ++ (if code = 2 then s.measFields idx else []) ++ [leAt (signature leaf (s.spdmBody code idx leaf nonce)) 0 5605]))

/-- R459, R460: requests sign in order while a token and an index are there; without an index a block is reserved. -/
def State.signNext : Nat → State → State
  | 0, s => s
  | n + 1, s =>
    match s.sec.signers with
    | [] => s
    | x :: l =>
      if s.sec.next = s.sec.reserved then
        if s.sec.reserving then s
        else if 2 ^ 40 ≤ s.sec.reserved then
          State.signNext n ((((s.modSec (fun k => { k with signers := l })).latch Reg.SEC_ERR_STATUS 7 Gb.ATTEST_EXHAUSTED 15
            (gbWide s.sec.reserved))).signFail x)
        else if s.energyLow then
          State.signNext n ((((s.modSec (fun k => { k with signers := l })).latchOnly Reg.SEC_ERR_STATUS 7).latch Reg.PS_ERR_STATUS 3
            Gb.PARAM_ENERGY 15 [3, s.pw.stage]).signFail x)
        else
          ((s.modSec (fun k => { k with reserving := true })).psPut Param.ATTEST
            (leBytes 8 (s.sec.reserved + 256) ++ (s.psGet Param.ATTEST).drop 8)).psRequest .leafReserve
      else if s.sec.tokens = 0 then s
      else
        State.signNext n ((s.modSec (fun k => { k with signers := l, next := k.next + 1, tokens := k.tokens - 1 })).signWith s.sec.next x)

/-- R467: the device key signs in this state. -/
def State.deviceSigns (s : State) : Bool := s.sec.lc == 2 || s.sec.lc == 3 || s.sec.lc == 4

/-- R459, R460: a request to sign joins the queue. -/
def State.signRequest (s : State) (x : Signer) : State :=
  State.signNext (s.sec.signers.length + 1) (s.modSec (fun k => { k with signers := k.signers ++ [x] }))

/-! ### Media keys (R461 to R464) -/

/-- R447, R463: an element of MEDIA_KEYS or IMPORTED_KEYS, `n` bytes: the key wrapped under KEK_MEDIA, 8 bytes longer than it is; what the
other bytes hold the spec does not state (notes/assumptions/4.md). -/
def State.wrapped (s : State) (n : Nat) (key : List Byte) : List Byte :=
  padTo (key.length + 8) (Config.keyWrap s.kekMedia key) ++ leBytes (n - (key.length + 8)) s.freeNow

/-- R463: draw a key into a free slot for an owner (0 LD, 1 region) and put it into the pending set; none when the random
number generator fails its health tests or no slot is free. -/
def State.drawKey (s : State) (owner code : Nat) (trngOk : Bool) : State × Option Nat :=
  if !trngOk then
    (s.latch Reg.SEC_ERR_STATUS 6 Gb.SEC_TRNG 15 [0], none)
  else
    match (List.range 255).find? (fun i => !(ahas (i + 1) s.sec.stored)) with
    | none => (s, none)
    | some i =>
      let k := s.randNow
      let s1 := (s.modSec (fun x =>
        { x with keys := aput (i + 1) k x.keys, stored := aput (i + 1) (k, owner, code) x.stored })).bumpRand
      ((s1.psPut (Param.MEDIA_KEYS + i) (s1.wrapped 80 (leBytes 64 k.toNat))).bumpFree, some (i + 1))

/-- R464: erase a slot from the engine and from MEDIA_KEYS. -/
def State.eraseKey (s : State) (slot : Nat) : State :=
  if slot = 0 then s
  else (s.modSec (fun x => { x with keys := adel slot x.keys, stored := adel slot x.stored })).psPut (Param.MEDIA_KEYS + (slot - 1)) (zeros 80)

/-- R463, R317: the keys of every LD are loaded. -/
def State.keysLoaded (s : State) : Bool := s.sec.stored.all (fun e => ahas e.1 s.sec.keys)

/-- R464: keys whose replacement runs. -/
def State.replaced (s : State) : Nat := total (s.sec.replacing.map (fun r => 1 + r.regs.length))

/-- R461: slots that hold region keys, those that replace another one apart. -/
def State.regionKeys (s : State) : Nat :=
  (s.sec.stored.filter (fun e => e.2.2.1 == 1 && !s.sec.replacing.any (fun r => r.regs.any (fun p => p.2 == e.1)))).length

/-- R465: IMPORTED_KEYS holds the secrets, wrapped. -/
def State.storeSecrets (s : State) : State :=
  (List.range 4).foldl (fun a i =>
    if i < a.sec.secrets.length then
      (a.psPut (Param.IMPORTED_KEYS + i) (a.wrapped 48 (leBytes 32 (a.sec.secrets.getD i (0, 0)).2.toNat))).bumpFree
    else a.psPut (Param.IMPORTED_KEYS + i) (zeros 48)) s

end Sys2Proof.Machine
end

