-- ==== Sys2Proof/Machine/JobOps.lean ====
section
/-! DEFINITION. Machine/JobOps.lean: work on ranges of segments that runs over many commands: flushes, invalidations,
discards, secure discards, releases and erases (05_front_store.md R154 to R156, 07_translation.md R227, R228,
02_host_ports.md R47, 16_security.md R464), with the copy batches and clears they need. -/

namespace Sys2Proof.Machine

open Sys2Proof

/-! ### Copy batches and clears (07_translation.md R217, R220) -/

/-- R214, R228: a frontier closes a block: its pages not yet programmed stay cleared and unused. -/
def State.closeBlock (s : State) (t b : Nat) : State :=
  let f := (s.blk t b).frontier
  (s.modFront t (blkPlane b) f (fun g => if g.cur = some b then { g with cur := none } else g)).modBlk t b (fun k =>
    if k.st = .opened then { k with st := .full } else k)

/-- R217: valid pages of a block in ascending page order: segment and page. -/
def State.pagesInOrder (s : State) (t b : Nat) : List (Nat × Nat) :=
  let v := s.validPages t b
  (List.range 256).filterMap (fun i => v.find? (fun e => e.2 == b * 256 + i))

/-- R217: a batch starts on a source block. -/
def State.startBatch (s : State) (t b target : Nat) : State :=
  let c : Batch := { src := b, plane := blkPlane b, target := target, left := s.pagesInOrder t b }
  (s.modBlk t b (fun k => if k.st = .full then { k with st := .copying } else k)).modXl t (fun x => { x with batches := x.batches ++ [c] })

/-- R220: the durable journal holds every record that made one of the block's pages invalid. -/
def State.clearReady (s : State) (t b : Nat) : Bool :=
  (s.blk t b).st == .pending && decide ((s.blk t b).invAt ≤ (s.tile t).xl.jdur)

/-- R179, R187, R188: a clear can start on the plane of a block: no program and no clear holds it, no host-serving read goes first, and the
envelope has room. -/
def State.clearPlaneFree (s : State) (t b : Nat) : Bool :=
  (s.planeOps t (b * 256)).isEmpty && !(s.chan t (blkCh b)).caWait && !(s.chan t (blkCh b)).reads.any (fun r => planeNo r.loc == blkPlane b)
    && decide ((s.chan t (blkCh b)).clearing.length < s.clearCap t (blkCh b))

/-- The Belfry class under which a clear of a block runs (04_belfry.md R119): CLEAR; REFRESH for a calibration block (06_medium.md R195);
none for a block that a secure discard clears (R228). -/
def State.clearClass (s : State) (t b : Nat) : Option Nat :=
  if s.jobs.ranges.any (fun j => j.blks.contains (t, b)) then none else if s.isCal t b then some 2 else some 1

/-- R220: start a block clear. -/
def State.startClear (s : State) (t b : Nat) : State :=
  (s.modCh t (blkCh b) (fun c => { c with ops := c.ops ++ [{ loc := b * 256, job := .clear }] })).caIssue t (blkCh b) (blkRank b)
    (.clear (locPlane (b * 256)) (b % 2 ^ 14))

/-! ### Segments of a range -/

/-- A package segment lies in one of the spans. -/
def inSpans (l : List (Nat × Nat)) (x : Nat) : Bool := l.any (fun e => decide (e.1 ≤ x ∧ x < e.1 + e.2))

/-- Frames of tile `t` whose segment lies in the spans: frame and segment. -/
def State.spanFrames (s : State) (t : Nat) (l : List (Nat × Nat)) : List (Nat × Nat) :=
  ((s.tile t).fs.frames.filter (fun e => inSpans l (s.segOf t e.2.seg))).map (fun e => (e.1, e.2.seg))

/-- Segments of tile `t` in the spans that a discard acts on: those with a map entry and those with a frame, ascending. -/
def State.spanSegs (s : State) (t : Nat) (l : List (Nat × Nat)) : List Nat :=
  let a := ((s.tile t).xl.map.map (·.1)).filter (fun x => inSpans l (s.segOf t x))
  ((s.spanFrames t l).map (·.2)).foldl (fun acc x => if acc.contains x then acc else acc ++ [x]) a

/-! ### One segment of a job -/

/-- R154: commits that a flush waits for: one, or two when the frame was written while a commit of it runs. -/
def Frame.commitsNeeded (x : Frame) : Nat := if x.st == .writing && x.dirty != 0 then 2 else 1

/-- R154, R155: a job retains frame `f` of a tile. -/
def RangeJob.keep (j : RangeJob) (t f : Nat) : RangeJob :=
  { j with kept := aput t (agetD t 0 j.kept + 1) j.kept, keptFrame := aput t f j.keptFrame }

/-- R154, R144: one frame of a flush: its commit starts unless one runs; a Locked frame is retained. A frame that a flush of a range meets in a
fill or commit is committed when that has ended. -/
def State.flushSeg (a : State × RangeJob) (e : Nat × Nat × Nat) : State × RangeJob :=
  let (s, j) := a
  let (t, l, n) := e
  match s.findFrame t l with
  | none => (s, j)
  | some f =>
    let x := s.frame t f
    let more : RangeJob := { j with left := j.left ++ [(t, l, if n = 0 then x.commitsNeeded else n)] }
    if x.st == .locked then (s, j.keep t f)
    else if x.st == .dirty then (s.startCommit t f, more)
    else if x.countsDirty then (s, more)
    else (s, j)

/-- R155: one segment of an invalidation. Its count is one more than the commits seen since the frame was first found Dirty. -/
def State.invalSeg (a : State × RangeJob) (e : Nat × Nat × Nat) : State × RangeJob :=
  let (s, j) := a
  let (t, l, n) := e
  match s.findFrame t l with
  | none => (s, j)
  | some f =>
    let x := s.frame t f
    let more (k : Nat) : RangeJob := { j with left := j.left ++ [(t, l, k)] }
    if x.st == .locked then (s, j.keep t f)
    else if x.st == .clean then (s.setFrame t f { x with st := .invalid }, { j with b := j.b + 1 })
    else if 5 ≤ n then (s, j.keep t f)
    else if x.st == .dirty then (s.startCommit t f, more (max 1 n))
    else (s, more n)

/-- R47 step 1: transactions that a head has received and that are not complete. -/
def State.inFlight (s : State) : List Req :=
  (s.present.map (fun h => (s.tile h).txn.tracker ++ (s.tile h).txn.ingress)).flatten

/-- R47 step 1: a transaction to the segment that was accepted before is not complete. -/
def State.segBusy (s : State) (t l : Nat) : Bool := s.inFlight.any (fun r => r.owner == t && r.dpa / 4096 == s.segOf t l)

/-- R47 step 1: segments of tile `t` in the spans that a release or an erase acts on: those of `spanSegs`, and those with a
transaction that is not complete. -/
def State.releaseSegs (s : State) (t : Nat) (l : List (Nat × Nat)) : List Nat :=
  ((s.inFlight.filter (fun r => r.owner == t && inSpans l (r.dpa / 4096))).map (fun r => s.segLocal (r.dpa / 4096))).foldl
    (fun acc x => if acc.contains x then acc else acc ++ [x]) (s.spanSegs t l)

/-- R227, R156, R144: one segment of a discard: its frame becomes Invalid, its parity delta goes out, and its DISCARDED
record is appended once that is acknowledged. Until then the discard holds the segment lock. -/
def State.discardSeg (a : State × RangeJob) (e : Nat × Nat × Nat) : State × RangeJob :=
  let (s, j) := a
  let (t, l, n) := e
  let done (x : State) : State × RangeJob :=
    (x, { j with a := j.a + 1, durable := aput t (x.tile t).xl.jpos j.durable })
  if n = 0 then
    let held := match s.findFrame t l with
      | some f => (s.frame t f).st == .filling || (s.frame t f).st == .writing
      | none => false
    if held || (s.commitOf t l).isSome || (decide (4 ≤ j.kind) && s.segBusy t l) then (s, { j with left := j.left ++ [e] })
    else
      let s1 := match s.findFrame t l with
        | some f => s.setFrame t f { s.frame t f with st := .invalid }
        | none => s
      let old := s1.mapRaw t l
      if old.st == .never || old.st == .discarded then (s1, j)
      else
        let s2 := s1.dropSeg t l false
        if (s2.commitOf t l).isSome then
          (s2.modTxn t (fun x => { x with locks := if x.locks.contains l then x.locks else x.locks ++ [l] }), { j with left := j.left ++ [(t, l, 1)] })
        else done s2
  else if (s.commitOf t l).isSome then (s, { j with left := j.left ++ [e] })
  else done s

/-- R228: blocks to clear: those that hold an invalid page whose header names a segment of the range, or the parity
segment of a stripe that holds one. -/
def State.scanBlocks (s : State) (l : List (Nat × Nat)) : List (Nat × Nat) :=
  let names (t sub : Nat) : Bool :=
    if s.isParity sub then
      (List.range (s.pop.tiles - 1)).any (fun m => let (t', l') := s.memberOf t (s.qOf sub) m; inSpans l (s.segOf t' l'))
    else inSpans l (s.segOf t sub)
  let hits (t : Nat) : List (Nat × Nat) :=
    ((s.tile t).med.pages.filter (fun e => (e.2.kind == .host || e.2.kind == .copy) && e.2.hdr
      && (s.mapRaw t e.2.subject).loc != e.1 && names t e.2.subject)).map (fun e => (t, locBlk e.1))
  (s.aliveTiles.map hits).flatten.foldl (fun acc b => if acc.contains b then acc else acc ++ [b]) []

/-- R228: one block of a secure discard: closed, copied, and cleared whatever the schedule says; the envelope and the profile limit its
clear as any other (R122). -/
def State.secureBlock (a : State × RangeJob) (e : Nat × Nat) : State × RangeJob :=
  let (s, j) := a
  let (t, b) := e
  let wait (x : State) : State × RangeJob := (x, { j with blks := j.blks ++ [e] })
  let s0 := if (s.blk t b).st == .opened then s.closeBlock t b else s
  match (s0.blk t b).st with
  | .full =>
    if (s0.validPages t b).isEmpty then wait (s0.modBlk t b (fun k => { k with st := .pending }))
    else wait (s0.startBatch t b 1)
  | .pending =>
    if s0.clearReady t b && s0.clearPlaneFree t b && decide ((s0.chan t (blkCh b)).clearing.length < s0.clearLimit t (blkCh b))
    then wait (s0.startClear t b) else wait s0
  | .copying => wait s0
  | .free | .reserve | .named => (s0, { j with b := j.b + 1 })
  | _ => (s0, j)

/-- R144: a command takes its segments one at a time: it stays at the first one that is not done. -/
def inTurnPass (f : State × RangeJob → Nat × Nat × Nat → State × RangeJob) : State × RangeJob → List (Nat × Nat × Nat) → State × RangeJob
  | a, [] => a
  | a, e :: l =>
    let b := f a e
    if b.2.left.isEmpty then inTurnPass f b l else (b.1, { b.2 with left := b.2.left ++ l })

/-- R154: FS_FLUSH_ALL, which names no segments, acts on every frame at once; the other commands take theirs in turn. -/
def jobWalk (j : RangeJob) (f : State × RangeJob → Nat × Nat × Nat → State × RangeJob) (a : State × RangeJob) : State × RangeJob :=
  if j.inTurn then inTurnPass f a j.left else j.left.foldl f a

/-- One pass over a job. -/
def State.jobPass (s : State) (j : RangeJob) : State × RangeJob :=
  let j0 : RangeJob := { j with left := [] }
  let (s1, j1) :=
    if j.kind = 0 then jobWalk j State.flushSeg (s, j0)
    else if j.kind = 1 then jobWalk j State.invalSeg (s, j0)
    else jobWalk j State.discardSeg (s, j0)
  let settled := j1.left.isEmpty && j1.durable.all (fun e => decide (e.2 ≤ (s1.tile e.1).xl.jdur))
  if (j.kind = 3 || j.kind = 6) && settled then
    let j2 : RangeJob := if j1.scanned then j1 else { j1 with scanned := true, blks := s1.scanBlocks j1.spans }
    j2.blks.foldl State.secureBlock (s1, { j2 with blks := [] })
  else (s1, j1)

/-- A job has nothing left to wait for. -/
def State.jobOver (s : State) (j : RangeJob) : Bool :=
  j.left.isEmpty && j.blks.isEmpty && j.durable.all (fun e => decide (e.2 ≤ (s.tile e.1).xl.jdur))
    && (j.scanned || !(j.kind == 3 || j.kind == 6))

/-- R162, R244: the results of a range command as they stand. -/
def RangeJob.results (j : RangeJob) : List (Nat × Nat) :=
  let kept := total (j.kept.map (·.2))
  match j.kind with
  | 0 => [(32, j.a), (32, kept)]
  | 1 => [(32, j.a), (32, j.b), (32, kept)]
  | 2 => [(32, j.a)]
  | 3 => [(32, j.a), (32, j.b)]
  | _ => []

/-- R154, R155, R227, R228: a range command ends. -/
def State.jobFinish (s : State) (j : RangeJob) : State :=
  if 4 ≤ j.kind then s
  else
    let s1 := if j.kind = 1 then
        j.kept.foldl (fun a e => (a.latch (Reg.FS_ERR_STATUS e.1) 5 Gb.FS_INVAL_PARTIAL e.1 [e.1, e.2]).setReg (Reg.FS_ERR_FRAME e.1)
          (BitVec.ofNat 32 (agetD e.1 0 j.keptFrame))) s
      else s
    let st := if j.kept.isEmpty then Status.success else Status.partialDone
    s1.finish { ring := j.ring, cid := j.cid } { status := st.code, results := j.results }

/-- Every job is looked at again: what can go on does, and what has ended is answered. -/
def State.jobsAdvance (s : State) : State :=
  s.jobs.ranges.foldl
    (fun a j =>
      let (b, k) := a.jobPass j
      if b.jobOver k then (b.modJobs (fun x => { x with ranges := x.ranges.filter (· != j) })).jobFinish k
      else b.modJobs (fun x => { x with ranges := x.ranges.map (fun i => if i = j then k else i) })) s

/-- R154, R155: a commit of a frame reached step 5: flushes count it, invalidations count the try. -/
def State.jobCommitted (s : State) (t l : Nat) : State :=
  s.modJobs (fun x => { x with ranges := x.ranges.map (fun j =>
    if j.kind = 0 then
      match j.left.find? (fun e => e.1 == t && e.2.1 == l && e.2.2 != 0) with
      | some e => if e.2.2 ≤ 1 then { j with a := j.a + 1, left := j.left.filter (· != e) }
          else { j with left := j.left.map (fun d => if d = e then (t, l, e.2.2 - 1) else d) }
      | none => j
    else if j.kind = 1 then
      -- a commit that ran when the command reached the segment is not one of its own
      match j.left with
      | e :: rest => if e.1 = t ∧ e.2.1 = l then { j with a := if e.2.2 = 0 then j.a else j.a + 1, left := (t, l, e.2.2 + 1) :: rest } else j
      | [] => j
    else j) })

/-- A job starts. -/
def State.jobStart (s : State) (j : RangeJob) : State := (s.modJobs (fun x => { x with ranges := x.ranges ++ [{ j with size := j.left.length }] })).jobsAdvance

/-! ### Ranges of commands (05_front_store.md R162) -/

/-- R44, R488: LD blocks that LD `c` holds, as package block and LD block. -/
def State.ldBlocks (s : State) (c : Nat) : List (Nat × Nat) :=
  (s.cap.table.filter (fun e => e.2.kind == 1 && e.2.ld == c)).map (fun e => (e.1, e.2.ldBlk))
    ++ (s.cap.shares.filter (fun h => h.ld == c)).map (fun h => (h.blk, h.ldBlk))

/-- R42, R46: the end of an LD's DPA in blocks: its static capacity and its configured regions. -/
def State.ldTop (s : State) (c : Nat) : Nat :=
  let st := ((s.cap.table.filter (fun e => e.2.kind == 1 && e.2.ld == c && e.2.region == 15))).length
  (List.range 8).foldl (fun m r => let g := agetD (8 * c + r) {} s.cap.regions; if g.conf then max m (g.base + g.len) else m) st

/-- R40, R162: the head presents the LD. -/
def State.presents (s : State) (h ld : Nat) : Bool :=
  if (s.head h).mld then decide (ld < (s.head h).ldCount) else ld == 0

/-- R162: a range as spans of package segments; segments in no block that the LD holds are skipped. -/
def State.rangeSpans (s : State) (c : Nat) (pkg : Bool) (start len : Nat) : List (Nat × Nat) :=
  let a := start / 4096
  let n := len / 4096
  if pkg then [(a, n)]
  else
    ((s.ldBlocks c).filterMap (fun e =>
      let lo := max a (e.2 * 65536)
      let hi := min (a + n) ((e.2 + 1) * 65536)
      if lo < hi then some (e.1 * 65536 + (lo - e.2 * 65536), hi - lo) else none))

/-- R162, R417: the checks of a range command, then its spans. PKG = 1 needs a privileged ring. -/
def State.withRange (s : State) (pc : PortCmd) (ld : Nat) (pkg : Bool) (start len : Nat) (go : List (Nat × Nat) → State → State) : State :=
  let h := (s.ring pc.ring).head
  let c := 16 * h + ld
  let top := if pkg then s.pkgBlocks else s.ldTop c
  if pkg && !s.ringPriv pc.ring then s.fail pc .notPrivileged 0
  else
    s.checkFields pc [pkg || s.presents h ld, true, start % 4096 == 0, len % 4096 == 0 && len != 0 && decide (start + len ≤ top * 2 ^ 28)]
      (go (s.rangeSpans c pkg start len))

/-! ### The LD block table in the Parameter Store (R488) -/

/-- R488: the four bytes of a block entry. -/
def blockWord : Option BlockEnt → Nat
  | none => 0
  | some e => if e.kind = 1 then 2 ^ 30 + e.ld * 2 ^ 23 + e.region * 2 ^ 19 + e.ldBlk % 65536 else e.kind % 4 * 2 ^ 30

/-- R488: element `n` of LD_ALLOC. -/
def State.ldAllocBytes (s : State) (n : Nat) : List Byte :=
  wordBytes ((List.range 256).map (fun k => blockWord (aget (256 * n + k) s.cap.table)))

/-- R488: element `c` of DC_REGIONS. -/
def State.dcRegionBytes (s : State) (c : Nat) : List Byte :=
  ((List.range 8).map (fun r =>
    let g := agetD (8 * c + r) {} s.cap.regions
    leBytes 2 g.base ++ leBytes 2 g.len ++ leBytes 1 (b2n g.conf + 2 * b2n g.share) ++ leBytes 1 g.key ++ zeros 2)).flatten

/-- R488: element `e` of DC_SHARE. -/
def State.dcShareBytes (s : State) (e : Nat) : List Byte :=
  ((List.range 128).map (fun k =>
    match s.cap.shares[128 * e + k]? with
    | some h => leBytes 2 h.blk ++ leBytes 1 h.ld ++ leBytes 1 h.region ++ leBytes 2 h.ldBlk ++ zeros 2
    | none => leBytes 2 0xFFFF ++ zeros 6)).flatten

/-- R488: the entries of the blocks given are stored. -/
def State.storeBlocks (s : State) (blks : List Nat) : State :=
  (distinct (blks.map (· / 256))).foldl (fun a n => a.psPut (Param.LD_ALLOC + n) (a.ldAllocBytes n)) s

/-- R488: the share entries are stored: every element that the old or the new list reaches. -/
def State.storeShares (s : State) (oldLen : Nat) : State :=
  (List.range ((max oldLen s.cap.shares.length + 127) / 128)).foldl (fun a e => a.psPut (Param.DC_SHARE + e) (a.dcShareBytes e)) s

/-- R488: the regions of an LD are stored. -/
def State.storeRegions (s : State) (c : Nat) : State := s.psPut (Param.DC_REGIONS + c) (s.dcRegionBytes c)

end Sys2Proof.Machine
end

