-- ==== Sys2Proof/Machine/Cross.lean ====
section
/-! DEFINITION. Machine/Cross.lean: what reaches across the chapters: completion entries and aborted commands of Porter,
shed stages, entry into Hold-up, head resets, failed tiles, and what follows the end of a Parameter Store commit. -/

namespace Sys2Proof.Machine

open Sys2Proof

/-! ### Porter's completion entries (14_command_rings.md R415, R421, R422) -/

/-- R415, R424: write a completion entry and count it; nothing is written for a ring that is DISABLED or in ERROR. -/
def State.putCompletion (s : State) (r : Nat) (e : Exec) (c : CmdResult) : State :=
  let g := s.ring r
  if !e.discard && (g.state == .running || g.state == .disabling) then
    let h := leBytes 2 e.cid ++ leBytes 1 c.status ++ leBytes 1 (b2n g.phase) ++ leBytes 2 g.sqHead ++ leBytes 1 c.detail ++ [0]
    (s.cqWrite r h (leBytes 56 (packFields c.results).toNat)).ringCount r
      (e.imm || !(c.status == Status.success.code || c.status == Status.partialDone.code))
  else s

/-- R419: the final status of a command that ended after its bound. -/
def State.noteLate (s : State) (r : Nat) (e : Exec) (status : Nat) : State :=
  if e.late then s.event Gb.PORTER_LATE 15 [r, e.cid, e.opcode, status] else s

/-- R416: what a command that is cut short has done so far. -/
def State.progress (s : State) (r c : Nat) : List (Nat × Nat) :=
  match s.jobs.ranges.find? (fun j => j.ring == r && j.cid == c && decide (j.kind < 4)) with
  | some j => j.results
  | none =>
    if s.jobs.fsDisable == some (r, c) then
      [(32, total (s.aliveTiles.map (fun t => (s.tile t).fs.drained))), (32, total (s.aliveTiles.map (fun t => (s.tile t).fs.through)))]
    else match s.jobs.ckpt with
      | some (r', c', _, n) => if r' = r ∧ c' = c then [(32, n)] else []
      | none => []

/-- R421, R422: end the commands of one ring with ABORTED; a command that has ended already keeps its result. -/
def State.abortRing (s : State) (r detail : Nat) (write : Bool) : State :=
  let g := s.ring r
  let s1 := g.execs.foldl
    (fun a e =>
      let c := e.result.getD { status := Status.aborted.code, detail := detail, results := s.progress r e.cid }
      let b := a.noteLate r e c.status
      if write && !e.late then b.putCompletion r e c else b) s
  let s2 := g.fetched.foldl
    (fun a d => if write then a.putCompletion r { cid := d.cid, opcode := d.opcode, imm := d.flags % 2 == 1 } { status := Status.aborted.code, detail := detail } else a) s1
  s2.modRing r (fun g => { g with execs := [], fetched := [] })

/-- A commit goes on without the Porter command that asked for it. -/
def PsCaller.orphan : PsCaller → PsCaller
  | .porter _ _ => .internal
  | .authAnswer _ _ => .internal
  | .restart _ _ => .internal
  | c => c

/-- The work that waits on behalf of a Porter command stops with it. -/
def State.dropCommandWork (s : State) : State :=
  let s1 := s.modJobs (fun j =>
    { j with ranges := j.ranges.filter (fun x => decide (4 ≤ x.kind)), fsDisable := none, fsEnable := none, ckpt := none, retire := [] })
  let s2 := s1.modPs (fun p =>
    { p with waiters := p.waiters.map PsCaller.orphan, held := p.held.map PsCaller.orphan,
             roomWait := p.roomWait.map (fun e => (e.1.orphan, e.2)),
             running := p.running.map (fun c => { c with callers := c.callers.map PsCaller.orphan }) })
  let s3 := (s2.modThm (fun x => { x with jobs := [] })).modMd (fun d => { d with drain := none })
  let s4 := s3.modSec (fun x => { x with signers := x.signers.filter (fun y => match y with | .quote .. => false | .spdm .. => true) })
  let s5 := (s4.modCar (fun c => { c with join := none })).modPw (fun p => { p with test := p.test.map (fun h => { h with asked := none }) })
  { s5 with tiles := vmap (fun x => { x with bel := { x.bel with armed := x.bel.armed.map (fun a => { a with owner := none }) } }) s5.tiles }

/-- R421, R422: every command that executes or was fetched ends with ABORTED. -/
def State.porterAbort (s : State) (detail cause : Nat) (write : Bool) : State :=
  let n := total (s.porter.rings.toList.map Ring.inflight)
  let s1 := ((List.range 64).foldl (fun a r => a.abortRing r detail write) s).dropCommandWork
  if n = 0 then s1 else s1.event Gb.PORTER_ABORT 15 [n, cause]

/-! ### Shed stages and hold-up tests (11_power.md R355 to R360) -/

/-- R361: results of HOLDUP_TEST: OUTCOME, then CAP, ESR, USABLE and LIMIT as the registers report them. -/
def State.testResults (s : State) (outcome : Nat) : List (Nat × Nat) :=
  [(2, outcome), (16, min 0xFFFF (s.pw.cBank / 100000)), (8, s.pw.esr), (16, s.pw.usable), (21, s.pw.holdLimit)]

/-- R355: a test ends NOT_RUN: nothing changes, and one that is due stays due. -/
def State.testNotRun (s : State) (cause : Nat) : State :=
  let asked := s.pw.test.bind (·.asked)
  let s1 := s.modPw (fun p => { p with test := none, holdTestPin := false, holdChgInh := false })
  let s2 := if s1.pw.deferAge < 24 then s1.latchOnly Reg.PWR_ERR_STATUS 3
    else (s1.modPw (fun p => { p with deferAge := 0 })).latch Reg.PWR_ERR_STATUS 3 Gb.HOLDUP_DEFER 15 [cause]
  match asked with
  | some (r, c) => if cause = 3 then s2 else s2.finish { ring := r, cid := c } { status := Status.energyLow.code, results := s2.testResults 2 }
  | none => s2

/-- R356: a running test is interrupted. -/
def State.haltTest (s : State) (cause : Nat) : State := if s.pw.test.isSome then s.testNotRun cause else s

/-- R358, R359: the shed stage changes; the command goes to every tile in the SYNC class (01_architecture.md R18). Entry into stage 1 closes
the windows of mode BELFRY early (R507), after a time that no command gives. -/
def State.setStage (s : State) (n : Nat) : State :=
  let o := s.pw.stage
  if n = o then s
  else
    let sl := if o = 0 ∧ s.md.mode ≠ .bringup then s.aliveTiles.foldl State.settleLevel s else s
    let s0 := sl.modPw (fun p => { p with stage := n })
    let sa := if s.md.resetsReleased then s0.syncAll (.stage n) else s0
    let s1 := if o = 0 then (sa.winCloseAll (· == 1) (sa.freeNow % 2 ^ 20)).bumpFree else sa
    let items := [o, n, s.pw.vin]
    let s2 := if o < n ∧ n = 1 then s1.latch Reg.PWR_ERR_STATUS 4 Gb.SHED_STAGE 15 items
      else if o < n ∧ n = 2 then s1.latch Reg.PWR_ERR_STATUS 5 Gb.SHED_STAGE 15 items
      else s1.event Gb.SHED_STAGE 15 items
    if o < n ∧ n ≤ 2 ∧ 0 < s2.stageActs then s2.haltTest n
    else if n < 2 ∧ 2 ≤ o then s2.psReleaseHeld
    else s2

/-! ### Entry into Hold-up (10_modes.md R322, R97, R168, R187, R301) -/

/-- R149: frames that count as dirty, in age order: the frames are listed in ascending order of their numbers. -/
def State.dirtyOrder (s : State) (t : Nat) : List Nat :=
  let d := (s.tile t).fs.frames.filter (fun e => e.2.countsDirty)
  ((List.range 8).reverse.map (fun a => (d.filter (fun e => s.epochAge t e.2.epoch == a)).map (·.1))).flatten

/-- R168: in the flush of Hold-up, once the commits that ran on entry are complete, every frame that counts as dirty is committed, in age
order. -/
def State.flushNext (s : State) (t : Nat) : State :=
  if s.md.mode == .holdup && s.md.holdStep == .flush && !s.firstLeft t && !(s.tile t).clk.resetCut then (s.dirtyOrder t).foldl (fun a f => a.startCommit t f) s else s

/-- R168 step 1: the commits that run when Hold-up is entered. -/
def State.flushFirst (s : State) (t : Nat) : State :=
  s.modFs t (fun g => { g with step1 := (g.frames.filter (fun e => e.2.st == .writing)).map (·.1) })

/-- R97, R168, R187: what stops at once on tile `t`. -/
def State.holdupTile (s : State) (t : Nat) : State :=
  let resume (c : Channel) : Channel :=
    { c with reads := [], caWait := false, ops := c.ops.map (fun o => { o with susp := (o.job == .clear) }) }
  let s1 := (List.range 8).foldl
    (fun a c => ((s.chan t c).ops.filter (fun o => o.susp != (o.job == .clear))).foldl
      (fun b o => b.caIssue t c (locRank o.loc) (if o.job == .clear then .suspend (locPlane o.loc) else .resume (locPlane o.loc) true)) a) s
  let s2 := s1.modMed t (fun m => { m with chans := vmap resume m.chans, scan := [] })
  let s3 := s2.modTxn t (fun x => { x with tracker := [], ingress := [], outQ := [], haz := [], hazWait := [], throttle := false, locks := [] })
  let s4 := s3.modFs t (fun f =>
    { f with waitOn := false, waysWait := false,
             frames := (f.frames.map (fun e =>
               if e.2.st = .filling ∧ !e.2.commitFill then (e.1, { e.2 with st := if e.2.dirty = 0 then .invalid else .dirty, fillMask := 0 }) else e)).filter
                 (fun e => e.2.st != .invalid) })
  s4.modBelT t (fun b => { b with active := 0 })

/-- R97: messages of host requests on the mesh are dropped; deltas, their answers and heartbeats go on. -/
def MsgBody.ofHost : MsgBody → Bool
  | .memReq _ => true
  | .memRsp _ _ _ => true
  | _ => false

/-- R326: the cap of a force-off in ms: 0.9 u ÷ p_h. -/
def State.capTime (s : State) : Nat := 900 * s.pw.usable / max 1 (s.holdParam 0 2)

/-- 12_clocks_resets.md R379: entry into Hold-up ends a tile reset at its current step (outcome 2, notes/assumptions/22.md), and the
flush leaves the tile out. -/
def State.cutReset (s : State) (t : Nat) : State :=
  match (s.tile t).clk.resetStep with
  | some n => (s.modClkT t (fun k => { k with resetStep := none, resetFailed := false, resetCut := true })).event Gb.TILE_RESET t [t, n, 2]
  | none => s

/-- R389: in Hold-up the conversions and requests stop that it does not allow. -/
def State.convCut (s : State) : State :=
  s.modThm (fun x =>
    { x with converting := x.converting.filter (fun e => s.convAllowed e.2.1 e.2.2),
             sensors := x.sensors.map (fun e => (e.1, { e.2 with request := e.2.request.filter (s.convAllowed e.1) })) })

/-- R322, R323: entry into Hold-up under a CAUSE, from Bring-up after step 2 or a mode in which the package operates. -/
def State.holdupEnter (s : State) (cause : Nat) : State :=
  let dirty := total (s.aliveTiles.map s.dirtyFrames)
  let s1 := (s.aliveTiles.foldl State.settleLevel s).haltTest 3
  let s2 := s1.modMd (fun d =>
    { d with cause := cause, report := BitVec.ofNat 32 (cause * 2 ^ 29), capApplies := cause == 2 || cause == 5, capMs := s.capTime,
             prep := none, holdStep := .flush, flushed := 0 })
  let s3 := (s2.winCloseAll (fun _ => true) (s2.freeNow % 2 ^ 20)).bumpFree
  -- R67: exit from Degraded
  let sd := if s.md.mode == .degraded then s3.evtAll 1 { kind := 1, cause := 6, info := Mode.holdup.code } else s3
  let s4 := (((sd.setMode .holdup).setStage 3).event Gb.HOLDUP_ENTER 15 [cause, dirty]).modPw (fun p => { p with entryV := p.holdV, chgWait := false })
  let s5 := s4.porterAbort 1 (1 + 256 * cause) (cause == 1 || cause == 4)
  let s6 := s5.modJobs (fun j =>
    { j with ranges := [], shutdownCkpt := [], heldBack := [],
             links := (j.links.map (fun e => (e.1, e.2.filter (fun m => !m.body.ofHost)))).filter (fun e => !e.2.isEmpty) })
  let s7 := s6.present.foldl State.holdupTile s6
  let s8 := (s7.modSec (fun x => { x with signers := [], staging := none })).modCar (fun c => { c with reads := [], verify := [], lock := none })
  let s9 := (s8.car.peers.filter (fun p => p.st == .active)).foldl (fun a p => (a.carSend p.idx { type := 7 } []).1) s8
  let s10 := ((s9.present.foldl State.cutReset s9).modThm (fun x => { x with rearm := [] })).convCut
  s10.aliveTiles.foldl (fun a t => ((a.flushFirst t).retryPrograms t).flushNext t) s10

/-- R323, R331: Hold-up can be entered: in Bring-up from step 2, and wherever the package operates. -/
def State.canHoldup (s : State) : Bool := s.md.operating || (s.md.mode == .bringup && bitOf s.md.stepsDone 2)

/-- R540: an off or restart trigger: the hosts are notified and the checkpoint of every tile starts; Hold-up follows. In
Bring-up nothing is served and no map is in force, so that Hold-up starts at once (R331). -/
def State.prepStart (s : State) (cause : Nat) (noGrace : Bool) : State :=
  if s.md.mode == .bringup then s.holdupEnter cause
  else if s.md.prep.isSome then s
  else
    let s1 := s.evtAll 0 { kind := 1, cause := 10, info := cause }
    let s2 := s1.modJobs (fun j => { j with shutdownCkpt := s1.aliveTiles.map (fun t => (t, (s1.tile t).xl.jpos)) })
    s2.modMd (fun d => { d with prep := some { cause := cause, graceDone := noGrace || s2.fld Reg.MODE_CTL 15 8 == 0, graceMs := 10 * s2.fld Reg.MODE_CTL 15 8 } })

/-- R540: Hold-up starts at the later of the end of OFF_GRACE and the end of the checkpoint of every tile. -/
def State.prepNext (s : State) : State :=
  match s.md.prep with
  | some p => if p.graceDone && p.ckptDone then s.holdupEnter p.cause else s
  | none => s

/-! ### Head resets (02_host_ports.md R60, 14_command_rings.md R408) -/

/-- R408: the rings a reset head owns become DISABLED; their commands run on and their completions are discarded. -/
def State.ringsReset (s : State) (h : Nat) : State :=
  let own := (List.range 64).filter (fun r => (s.ring r).state != .disabled && (s.ring r).head == h)
  if own.isEmpty then s
  else
    let s1 := own.foldl
      (fun a r => (a.modRing r (fun g => { g with state := .disabled, fetched := [], execs := g.execs.map (fun e => { e with discard := true }) })).setFld
        (Reg.RING_CTL r) 0 0 0) s
    s1.event Gb.PORTER_RING_RESET 15 (h :: gbWide (maskOf 64 own.contains))

/-- R36: the head is the lower half of a pair that HOST_BOND bonds; Bring-up marks the upper half. -/
def State.bondLower (s : State) (h : Nat) : Bool := h % 2 == 0 && (s.head (h + 1)).upper

/-- R60, R61: the link and transaction layer of a head is reset: reads in progress are discarded, writes that were
received go on at their tiles, HDM decoders that are not locked return to their reset values. -/
def State.headClear (s : State) (h : Nat) : State :=
  let s1 := (s.ringsReset h).modTxn h (fun x => { x with tracker := [], ingress := [], outQ := [] })
  let s0 := if s.bondLower h then s1.modHead (h + 1) (fun d => { d with polarity := 0 }) else s1
  let s2 := s0.modHead h (fun d => { ({} : Head) with upper := d.upper, busMaster := d.busMaster, qosCtl := d.qosCtl, devLoadAvg := d.devLoadAvg, devLoadAcc := d.devLoadAcc })
  s2.modCap (fun c => { c with lds := c.lds.map (fun e =>
    if e.1 / 16 = h then (e.1, { e.2 with hdm := vmap (fun d => if d.locked then d else {}) e.2.hdm }) else e) })

/-- R60: the head's link goes down. -/
def State.headReset (s : State) (h : Nat) : State :=
  (((s.headClear h).setReg (Reg.HEAD_LINK_COUNT h) 0).latch (Reg.HEAD_ERR_STATUS h) 1 Gb.LINK_DOWN h [h]).winCloseAll (fun _ => false) 0

/-! ### A failed tile (08_integrity.md R275 to R278, 03_transactions.md R95) -/

/-- R541: CUP_FAILED follows the failed tiles. -/
def State.storeFailed (s : State) : State := s.psPutNow Param.CUP_FAILED (leBytes 1 (Nat.lor s.md.failed (match s.cup.rejoin with | some (u, _) => 2 ^ u | none => 0)))

/-- R277: the lines that the failed tile hands over, as adopted writes. -/
def State.handover (s : State) (t : Nat) : State :=
  ((s.tile t).fs.frames.filter (fun e => e.2.countsDirty)).foldl
    (fun a e =>
      match a.stripeOf t e.2.seg with
      | some (p, q, _) =>
        (List.range 64).foldl
          (fun b i => if bitOf e.2.valid i then b.adoptLine p q e.2.seg i (agetD i 0 e.2.lines) (bitOf e.2.poison i) else b) a
      | none => a) s

/-- R71: the answer to a request has been given: its response waits for an S2M credit, or crosses the mesh. -/
def State.answered (s : State) (r : Req) : Bool :=
  s.queued r.head r.id || s.jobs.links.any (fun e => e.2.any (fun m => match m.body with | .memRsp id _ _ => m.dst == r.head && id == r.id | _ => false))

/-- R95: requests of hosts that the failed tile was to serve: reissued to the adopting tile, or ended. -/
def State.reissue (s : State) (lost : List Req) : State :=
  lost.foldl
    (fun a r => if (a.trk r.head r.id).isSome then
        (a.modTxn r.head (fun x => { x with haz := x.haz.filter (fun h => h.req.id != r.id) })).dispatchReq { r with waited := true } {} 0 false
      else a) s

/-- R275, R272: commits of other tiles that await the failed tile skip step 2. -/
def State.skipCupola (s : State) (t : Nat) : State :=
  s.aliveTiles.foldl
    (fun a u =>
      let segs := ((a.tile u).cup.sent.filter (fun e => e.2.1 == t)).map (·.1)
      let b := a.modCupT u (fun c => { c with sent := c.sent.filter (fun e => e.2.1 != t) })
      segs.foldl (fun c l => c.commitCaravan u l) b) s

/-- R275: tile `t` is declared failed; `answers` says that its logic still answers (R277). Causes as R539 gives. -/
def State.declareFailed (s : State) (t cause : Nat) (answers : Bool) : State :=
  if !s.alive t then s
  else
    let lost := (s.aliveTiles.map (fun h => (s.tile h).txn.tracker.filter (fun r =>
      r.way == .line && r.kind != .inv && s.servingTile r.dpa == some t && !s.answered r))).flatten
    let s1 := if s.md.mode == .bringup then s else if answers then s.handover t else s.event Gb.CUP_TILE_LOST t [t]
    let s2 := ((s1.modMd (fun d => { d with failed := setBit d.failed t })).syncAll (.failed t)).event Gb.CUP_TILE_FAILED 15 [t, cause]
    let s3 := if (s2.head t).up then (s2.storeFailed).headReset t else s2.storeFailed
    let s4 := s3.modTile t (fun x =>
      { x with txn := {}, fs := { x.fs with frames := [], drain := [] }, cup := {}, car := {},
               xl := { x.xl with commits := [], batches := [], gcActive := [] }, med := { x.med with scan := [] } })
    let s5 := (s4.setCause 0 true).skipCupola t
    let s6 := s5.reissue lost
    if bitOf s6.md.failed 0 && bitOf s6.md.failed 1 && s6.canHoldup then (s6.event Gb.NO_PRIMARY 15 [s6.md.failed]).holdupEnter 5
    else s6

/-! ### After a Parameter Store commit (17_guestbook_parameter_store.md R489, R494) -/

/-- The command's result becomes another one. -/
def State.replaceResult (s : State) (r c : Nat) (x : CmdResult) : State :=
  s.modRing r (fun g => { g with execs := g.execs.map (fun e => if e.cid = c then { e with result := some x } else e) })

/-- R66: every LD that holds a sharable block has run an erase, the LD given among them. -/
def State.sharesErased (s : State) (c b : Nat) : Bool :=
  let l := s.cap.shares.filter (fun h => h.blk == b)
  l.any (fun h => h.ld == c) && l.all (·.erased)

/-- R464 step 2: the blocks that are discarded: those the LD holds, the sharable ones once every holder has run an erase (R66), and those of the
region keys that are replaced. -/
def State.eraseSpans (s : State) (x : Replace) : List (Nat × Nat) :=
  (s.cap.table.filter (fun e => (e.2.kind == 1 && e.2.ld == x.ld)
    || (e.2.kind == 2 && (s.sharesErased x.ld e.1 || x.regs.any (fun r => r.1 == s.keySlot e.1 0))))).map (fun e => (e.1 * 65536, 65536))

/-- R464: step 2 of a key replacement starts. -/
def State.eraseStart (s : State) (x : Replace) : State :=
  let spans := s.eraseSpans x
  let left := (s.aliveTiles.map (fun t => (s.releaseSegs t spans).map (fun l => (t, l, 0)))).flatten
  s.jobStart { ring := 64, cid := x.new, kind := if x.sanitize then 6 else 5, left := left, spans := spans }

/-- R464 step 3: the blocks move to the new slots; the old ones are erased, and this is committed. -/
def State.eraseSwitch (s : State) (x : Replace) : State :=
  let s1 := s.modLd x.ld (fun d => { d with key := x.new, bg := some (.erase x.sanitize 3 x.new) })
  let s2 := s1.modCap (fun c => { c with
    regions := c.regions.map (fun e => (e.1, { e.2 with key := ((x.regs.find? (fun r => r.1 == e.2.key)).map (·.2)).getD e.2.key })) })
  let s3 := s2.modSec (fun k => { k with replacing := k.replacing.map (fun y => if y = x then { y with step := 3 } else y) })
  let s4 := (distinct ((s.cap.regions.filter (fun e => x.regs.any (fun r => r.1 == e.2.key))).map (fun e => e.1 / 8))).foldl
    (fun a c => a.storeRegions c) s3
  ((x.old :: x.regs.map (·.1)).foldl (fun a o => a.eraseKey o) s4).psRequest (.keyStep x.new)

/-- R464: key replacements whose discards have ended go on to step 3. -/
def State.erasesAdvance (s : State) : State :=
  (s.sec.replacing.filter (fun x => x.step == 2 && !s.jobs.ranges.any (fun j => decide (5 ≤ j.kind) && j.cid == x.new))).foldl
    State.eraseSwitch s

/-- R464: step 2 starts, but in Hold-up, after which Bring-up runs it. -/
def State.restartErase (s : State) (x : Replace) : State := if s.md.mode = .holdup then s else s.eraseStart x

/-- R464: the commit of a step of a key replacement ended. -/
def State.keyStepDone (s : State) (slot : Nat) : State :=
  match s.sec.replacing.find? (fun x => x.new == slot) with
  | none => s
  | some x =>
    if x.step = 1 then
      let y : Replace := { x with step := 2 }
      ((((s.modSec (fun k => { k with replacing := k.replacing.map (fun z => if z = x then y else z) })).modLd x.ld (fun d =>
        { d with bg := some (.erase x.sanitize 2 slot) })).restartErase y)).erasesAdvance
    else
      (s.modSec (fun k => { k with replacing := k.replacing.filter (· != x) })).modLd x.ld (fun d =>
        { d with bg := none, bgLast := (if x.sanitize then 0x4400 else 0x4401, 0), refused := false })

/-- R489, R494: one caller of a commit that ended; `n` is the number of its records. -/
def State.callerDone (s : State) (good : Bool) (n : Nat) (c : PsCaller) : State :=
  match c with
  | .porter r k =>
    if !good then s.replaceResult r k { status := Status.mediaError.code, detail := 3 }
    else
      let op := ((s.exec? { ring := r, cid := k }).map (·.opcode)).getD 0
      s.ok { ring := r, cid := k } (if op = 0x0B02 then [(16, n)] else [])
  | .authAnswer r k => if good then s else s.replaceResult r k { status := Status.notAuthorised.code, detail := 2 }
  | .restart r k =>
    if good then s.prepStart 4 false else s.replaceResult r k { status := Status.mediaError.code, detail := 3 }
  | .leafReserve =>
    if good then
      State.signNext (s.sec.signers.length + 1) (s.modSec (fun x => { x with reserving := false, reserved := leAt (s.psGet Param.ATTEST) 0 8 }))
    else
      let l := s.sec.signers
      l.foldl State.signFail ((s.modSec (fun x => { x with reserving := false, signers := [] })).latchOnly Reg.SEC_ERR_STATUS 7)
  | .keyStep slot => s.keyStepDone slot
  | .fmapi h op ret fs => s.emit (.fmapi h op (if good then ret else 4) fs)
  | .mailbox h l op ret fs => s.emit (.mailbox h l op (if good then ret else 4) fs)
  | .shutdownState | .holdup | .internal => s

/-- R244, R540: every index of a tile has both copies at or after a position. -/
def State.ckptReached (s : State) (e : Nat × Nat) : Bool :=
  decide (e.2 ≤ s.ckptFloor e.1)

/-- R244: MAP_CHECKPOINT ends once every index of its tiles was captured. -/
def State.ckptAdvance (s : State) : State :=
  match s.jobs.ckpt with
  | some (r, c, l, n) =>
    if l.all s.ckptReached then (s.modJobs (fun j => { j with ckpt := none })).ok { ring := r, cid := c } [(32, n)] else s
  | none => s

/-- R244: RETIRE_BLOCK ends once the block's pages were copied. -/
def State.retireAdvance (s : State) : State :=
  s.jobs.retire.foldl
    (fun a e =>
      let (r, c, t, b, n) := e
      if (a.tile t).xl.batches.any (fun k => k.src == b) then a
      else
        let a1 := a.retire t b 6 (if (a.validPages t b).isEmpty then .retired else .retiring) true
        (a1.modJobs (fun j => { j with retire := j.retire.filter (· != e) })).ok { ring := r, cid := c } [(9, n)]) s

/-- R24 step 5: a host commit that has come to its end without its frame, which was lost or set Invalid, is over. -/
def State.dropOrphans (s : State) (t : Nat) : State :=
  let held (c : Commit) : Bool := match c.job with
    | .host f => c.step != .done || ((s.frame t f).st == .writing && (s.frame t f).seg == c.seg)
    | _ => true
  if (s.tile t).xl.commits.all held then s else s.modXl t (fun x => { x with commits := x.commits.filter held })

/-- What follows any progress of a tile: segments lost meanwhile become POISONED, ways that wait are withdrawn, fills that waited for a lock
start, the throttling is judged (R88), and the flush of Hold-up goes on. -/
def State.settleTile (s : State) (t : Nat) : State :=
  ((((((s.parityDone t).dropOrphans t).poisonDrops t).withdrawReady t).retryFills t 0).judgeThrottle t).flushNext t

/-- Jobs, key replacements and checks that follow any progress of the tiles. -/
def State.settle (s : State) : State := (s.aliveTiles.foldl State.settleTile s).jobsAdvance.erasesAdvance.ckptAdvance.retireAdvance

end Sys2Proof.Machine
end

