-- ==== Sys2Proof/Machine/Translation.lean ====
section
/-! DEFINITION. Machine/Translation.lean: the commands and events of Translation and media management
(07_translation.md): garbage collection, wear moves, clears, journal, checkpoint, map rebuild, discards and wear. -/

namespace Sys2Proof.Machine

open Sys2Proof

/-! ### Limits and counts (R216, R221, R245) -/

/-- XL_CTL URGENT: 0 and 1 act as 2. -/
def State.gcUrgent (s : State) : Nat := max 2 (s.fld Reg.XL_CTL 3 0)

/-- XL_CTL GC_LOW in blocks: 0 acts as 1 unit of 4. -/
def State.gcLow (s : State) : Nat := 4 * max 1 (s.fld Reg.XL_CTL 7 4)

/-- XL_CTL GC_HIGH in blocks: a value at or below GC_LOW acts as GC_LOW + 1. -/
def State.gcHigh (s : State) : Nat := 4 * max (max 1 (s.fld Reg.XL_CTL 7 4) + 1) (s.fld Reg.XL_CTL 11 8)

/-- R120, R216: plane `p` is at URGENT: its free blocks are at or below the threshold. -/
def State.planeUrgent (s : State) (t p : Nat) : Bool := decide (s.freeOn t p ≤ s.gcUrgent)

/-- R245: RETIRING and RETIRED blocks, those of a channel when one is given. -/
def State.retiredCount (s : State) (t : Nat) (ch : Option Nat) : Nat :=
  ((s.tile t).xl.blocks.filter (fun e => (e.2.st == .retiring || e.2.st == .retired)
    && (match ch with | some c => blkCh e.1 == c | none => true))).length

/-- R245: FREE blocks of a channel. -/
def State.freeCount (s : State) (t ch : Nat) : Nat :=
  total (((List.range s.planes).filter (fun p => p % 8 == ch)).map (s.freeOn t))

/-- R120, R121: maintenance may run on a tile outside its sectors: the package operates and the tile is not Sealed. -/
def State.mayMaintain (s : State) (t : Nat) : Bool := s.alive t && s.md.operating && !bitOf s.md.sealed t

/-! ### Garbage collection (R216 to R218) -/

/-- R216: GC of a plane turns active below GC_LOW and inactive from GC_HIGH on. -/
def State.gcJudge (s : State) (t p : Nat) : State :=
  let n := s.freeOn t p + s.countSt t p .pending
  s.modXl t (fun x =>
    { x with gcActive := if s.gcHigh ≤ n then x.gcActive.filter (· != p)
               else if n < s.gcLow && !x.gcActive.contains p then x.gcActive ++ [p] else x.gcActive })

/-- R216: the victim of a plane: RETIRING blocks first, then the FULL block with the fewest valid pages. -/
def State.gcVictim (s : State) (t p : Nat) : Option Nat :=
  let l := s.listedOn t p
  let v (b : Nat) : Nat := (s.validPages t b).length
  match pickBy false v ((l.filter (fun e => e.2.st == .retiring)).map (·.1)) with
  | some b => some b
  | none =>
    match pickBy false v ((l.filter (fun e => e.2.st == .full && decide (e.2.frontier < 3))).map (·.1)) with
    | some b => if v b = 256 then none else some b
    | none => none

/-- R229, R28: emergency compaction takes the bulk-copy window of its tile when it is free; a claim that is refused waits. -/
def State.claimCompaction (s : State) (t : Nat) : State :=
  if (s.tile t).xl.compaction = 1 && s.windowOn t 3 then (s.claimWindow 3 t).modXl t (fun x => { x with compaction := 2 }) else s

/-- R216: GC starts a batch on a plane, in a GC_COPY sector with budget or, at URGENT, under R120. -/
def State.gcBatchStartEff (s : State) (tile plane : Nat) : State :=
  if s.mayMaintain tile && decide (plane < s.planes) then
    let s1 := (s.claimCompaction tile).gcJudge tile plane
    let inSector := (s1.sectorBudget tile 5 (plane % 8)).isSome
    let urgent := s1.planeUrgent tile plane
    let ready := (s1.tile tile).xl.gcActive.contains plane && !(s1.tile tile).xl.batches.any (fun b => b.plane == plane && !b.refresh)
    if ready && (inSector || urgent) then
      match s1.gcVictim tile plane with
      | some v => (if inSector then s1 else s1.override tile 5).startBatch tile v 1
      | none => s1
    else s1
  else s

/-- The Belfry class whose budget a batch uses: GC copies, wear moves, refresh. -/
def Batch.cls (b : Batch) : Nat := if b.refresh then 2 else if b.target = 2 then 4 else 5

/-- Performance event of a page copied by a batch. -/
def Batch.event (b : Batch) : Nat := if b.refresh then 0x36 else if b.target = 2 then 0x35 else 0x34

/-- R228, R244: a batch that runs whatever the schedule says: its block is being cleared or retired by a command. -/
def State.forcedBatch (s : State) (t b : Nat) : Bool :=
  (s.tile t).xl.batches.any (fun k => k.src == b && !k.flips.isEmpty) || s.jobs.ranges.any (fun j => j.blks.contains (t, b)) || s.jobs.retire.any (fun e => e.2.2.1 == t && e.2.2.2.1 == b)

/-- R217: the next page of the batch of block `src` is read, checked and programmed as a copy. `errs` is what the array
reads meet. -/
def State.copyPageEff (s : State) (tile src : Nat) (errs : List LineErr) : State :=
  match (s.tile tile).xl.batches.find? (fun b => b.src == src) with
  | none => s
  | some b =>
    match b.left with
    | [] => s
    | (seg, loc) :: rest =>
      if b.busy || !s.alive tile || !s.md.operating || (bitOf s.md.sealed tile) then s
      else
        let e := s.mapRaw tile seg
        let skip (x : State) : State := x.modXl tile (fun y => { y with batches := y.batches.map (fun k => if k.src = src then { k with left := rest } else k) })
        -- R219: a page whose copy is restarted is RELOCATING already
        if e.loc != loc || !(e.st == .mapped || e.st == .relocating) then skip s
        else
          let c := locCh loc
          let urgent := s.planeUrgent tile b.plane && b.cls == 5
          match s.sectorBudget tile b.cls c, s.forcedBatch tile src, urgent with
          | none, false, false => s
          | budget, forced, _ =>
            if !s.mediaFree tile loc then s
            else
            let s0 := if forced then s else match budget with
              | some i => s.spend tile i c
              | none => s.override tile b.cls
            let s1 := s0.setMap tile seg { e with st := .relocating }
            let (s2, o) := s1.maintRead tile loc errs
            if !o.bad.isEmpty then
              (skip s2).pageLost tile loc o.bad
            else
              let lines := ((aget loc (s2.tile tile).med.pages).map (·.lines)).getD []
              let s3 := s2.copyProgram tile b none seg loc lines
              if (((s3.tile tile).xl.batches.find? (fun k => k.src == src)).map (·.busy)).getD false then s3.perfEvent tile b.event 0 1 else s

/-- R218: the batch of a source block ends once its last page is programmed. -/
def State.copyBatchEndEff (s : State) (tile src : Nat) : State :=
  match (s.tile tile).xl.batches.find? (fun b => b.src == src) with
  | some b => if b.left.isEmpty && !b.busy then (s.batchEnd tile src).settle else s
  | none => s

/-- R221: a wear move starts on the FULL block with the fewest CLEARS when the spread exceeds its limit. -/
def State.wearMoveStartEff (s : State) (tile : Nat) : State :=
  let lo := s.minClears tile
  let hi := s.maxClears tile
  let lim := s.spreadLimit
  if !s.mayMaintain tile then s
  else
    let s1 := s.judgeSpread tile
    let full := ((s1.tile tile).xl.blocks.filter (fun e => e.2.st == .full && decide (e.2.frontier < 3))).map (·.1)
    match pickBy false (fun b => (s1.blk tile b).clears) full with
    | some b =>
      if lim < hi - lo && (s1.sectorBudget tile 4 (blkCh b)).isSome && !(s1.tile tile).xl.batches.any (fun k => k.target == 2) then
        s1.startBatch tile b 2
      else s1
    | none => s1

/-- R220, R235: a PENDING block, or a ring block whose pages are superseded, is cleared in a CLEAR sector with budget, or under R120 while
its plane is at URGENT. -/
def State.blockClearStartEff (s : State) (tile block : Nat) : State :=
  let c := blkCh block
  if s.mayMaintain tile && (s.clearReady tile block || s.ringReady tile block) && s.clearPlaneFree tile block then
    let clears := (s.chan tile c).clearing
    match s.sectorBudget tile 1 c with
    | some i => if clears.length < s.clearLimit tile c then (s.spend tile i c).startClear tile block else s
    | none =>
      if s.planeUrgent tile (blkPlane block) && clears.all (·.susp) then (s.override tile 1).startClear tile block else s
  else s

/-! ### Journal and checkpoint (R233, R235) -/

/-- R233: a journal page is programmed when 512 records have gathered, when one must become durable, or for the flush. -/
def State.journalPageProgramEff (s : State) (tile : Nat) : State :=
  let x := (s.tile tile).xl
  if s.alive tile && (decide (512 ≤ x.jpos - x.jsent) || x.jurgent || s.md.mode == .holdup) then s.journalProgram tile else s

/-- R233: 1 ms has passed since the first record of the staging: its page is programmed. -/
def State.journalTimerExpireEff (s : State) (tile : Nat) : State := if s.alive tile then s.journalProgram tile else s

/-- R235: the writer captures the next index and programs copy A; copy B and the CKPT records follow. -/
def State.checkpointCaptureEff (s : State) (tile : Nat) : State :=
  let x := (s.tile tile).xl
  let own (o : MedOp) : Bool := match o.job with | .ckpt .. => true | _ => false
  let busy := (s.tile tile).med.chans.toList.any (fun c => c.ops.any own) || x.metaWait.any own
  if s.alive tile && s.md.operating && x.mapState != 0 && !busy then
    let n := x.ckptNo % s.ckptIdx
    let btab := decide (s.mapIdx ≤ n)
    let idx := if btab then n - s.mapIdx else n
    let s1 := (s.modXl tile (fun y => { y with ckptNo := y.ckptNo + 1 })).modJobs (fun j =>
      { j with ckpt := j.ckpt.map (fun c => if c.2.2.1.any (fun e => e.1 == tile) then (c.1, c.2.1, c.2.2.1, c.2.2.2 + 2) else c) })
    s1.ckptProgram tile false btab idx (s.ckptPage tile btab idx)
  else s

/-! ### Rebuilding the map (R242, R243) -/

/-- R242: after a GDDR7 device fault the tile rebuilds its whole map. -/
def State.gddr7DeviceFaultEff (s : State) (tile : Nat) : State :=
  if s.alive tile && (s.tile tile).xl.mapState != 0 then
    let s1 := s.modXl tile (fun x => { x with mapState := 2, rebuildAt := some 0, fetched := [], rebuildMs := 0 })
    (s1.event Gb.XL_REBUILD_START tile [tile, s.segs / 16]).setCause 5 true
  else s

/-- R242: the background rebuild has written further lines in ascending order, `ms` after the last report. -/
def State.mapRebuildStepEff (s : State) (tile lines ms : Nat) : State :=
  match (s.tile tile).xl.rebuildAt with
  | none => s
  | some n =>
    if !s.alive tile || s.md.mode == .holdup then s
    else
      let m := n + lines
      let d := (s.tile tile).xl.rebuildMs + ms
      if m < s.segs / 16 then
        s.modXl tile (fun x => { x with rebuildAt := some m, fetched := x.fetched.filter (fun k => decide (m ≤ k)), rebuildMs := d })
      else
        let s1 := (s.modXl tile (fun x => { x with rebuildAt := none, fetched := [], rebuildMs := d, mapState := 1 })).event
          Gb.XL_REBUILD_DONE tile [tile, d]
        if s1.aliveTiles.any (fun t => (s1.tile t).xl.rebuildAt.isSome) then s1 else s1.setCause 5 false

/-! ### Restoring the map (R237 to R241) -/

/-- R210: SPARE of a tile with no block retired. -/
def State.spareFull (s : State) : Nat := s.blocksOf - s.segs / 256 - s.metaBlocks - s.planes * s.reservePer

/-- R241 step 5: a ring after `n` pages. -/
def ringAfter (n : Nat) : RingPos := { blk := n / 256, page := n % 256 }

/-- R241: the tile is formatted: every block is cleared, those whose clear fails are retired, every entry is NEVER; a full checkpoint is
written, whose two CKPT records per page come first in the journal, and then the FORMAT record is appended. -/
def State.formatTile (s : State) (t : Nat) (clearFails : List Nat) : State :=
  let full := s.spareFull
  let recs := formatPos s.ckptIdx
  let maps := ringAfter s.mapIdx
  let btabs := ringAfter (s.ckptIdx - s.mapIdx)
  let s1 := (s.modMed t (fun m => { m with pages := [] })).modXl t (fun _ =>
    { spare := full - clearFails.length, spare0 := full - clearFails.length, mapState := 1, formatted := true, ckptFull := true,
      jpos := recs, jsent := recs, jdur := recs, rings := [(0, maps), (1, maps), (2, btabs), (3, btabs), (4, ringAfter (recs / 512))] })
  let s2 := clearFails.foldl (fun a b => a.modBlk t b (fun k => { k with st := .retired, cause := 4 })) s1
  let s3 := (s2.modMd (fun d => { d with sealed := clearBit d.sealed t })).jappendNow t (.mark 0)
  let s4 := s3.event Gb.XL_FORMAT t [t, full - clearFails.length]
  if s4.md.sealed = 0 then s4.setCause 8 false else s4

/-- R240: both copies of a checkpoint page are lost: its segments are LOST or POISONED, but for those with a later
record. -/
def State.ckptLost (s : State) (t idx : Nat) : State :=
  let x := (s.tile t).xl
  let cap := let c := agetD idx {} x.ckpt; max c.posA c.posB
  let s1 := if s.mapIdx ≤ idx then s else
    (List.range 1024).foldl
      (fun a i =>
        let l := 1024 * idx + i
        match aget l x.durable with
        | some e => if cap ≤ e.2 then a else a.setMap t l { st := if a.covered t l then .lost else .poisoned }
        | none => a.setMap t l { st := if a.covered t l then .lost else .poisoned }) s
  s1.latch (Reg.XL_ERR_STATUS t) 7 Gb.XL_CKPT_LOST t [t, idx]

/-- R238: HOST pages that the scan applies: of the blocks without a durable SETTLE record, for each segment the page with
the latest JPOS, when no record of the segment stands at or after it. -/
def State.scanPages (s : State) (t : Nat) : List (Nat × Page) :=
  let x := (s.tile t).xl
  let c := (s.tile t).med.pages.filter (fun e =>
    e.2.kind == .host && e.2.hdr && !(s.blk t (locBlk e.1)).settled
      && (match aget e.2.subject x.durable with | some d => decide (d.2 < e.2.jpos) | none => true))
  c.filter (fun e => !c.any (fun d => d.2.subject == e.2.subject && decide (e.2.jpos < d.2.jpos)))

/-- R238, R239: a page found by the scan is applied: its deltas go out with RESENT, then its COMMIT record. -/
def State.applyScanned (s : State) (t : Nat) (e : Nat × Page) : State :=
  let l := e.2.subject
  let d := s.deltaOf t l e.2.lines
  let new := d.map (fun x => (x.1, e.2.lines.getD x.1 0))
  let s1 := if s.isParity l then s else (s.sendCupola t l e.2.jpos true d).1
  let s2 := if s.isParity l then s1 else (s1.sendCaravan t l e.2.jpos true d new).1
  let m : MapEnt := { st := .mapped, loc := e.1 }
  (s2.jappend t (.commit l m)).replaceEntry t l m

/-- R237: BLOCK records that the stop lost with the staging do not hold: a block that they retired is in use again, one that they freed is
still PENDING, one that they named is not NEXT. A ring block that failed stays out of its ring. -/
def State.undoBlocks (s : State) (t : Nat) : State :=
  (s.tile t).xl.jtail.reverse.foldl (fun a r =>
    match r with
    | .block 0 f b => a.modFront t (blkPlane b) f (fun g => if g.next = some b then { g with next := none } else g)
    | .block 2 _ b =>
      if (a.blk t b).frontier = 3 then a
      else (a.modBlk t b (fun k => { k with st := .full, cause := 0 })).modXl t (fun x => { x with spare := x.spare + 1 })
    | .block 3 _ b => a.modBlk t b (fun k => { k with st := .pending, clears := k.clears - 1 })
    | _ => a) s

/-- R237: blocks as a restore takes them up: frontiers are closed and copy batches are gone. -/
def State.closeFrontiers (s : State) (t : Nat) : State :=
  let s1 := s.modXl t (fun x =>
    { x with fronts := (x.fronts.map (fun e => (e.1, { e.2 with cur := none }))).filter (fun e => e.2 != {}), batches := [], gcActive := [],
             blocks := x.blocks.map (fun e => if e.2.st = .opened ∨ e.2.st = .copying then (e.1, { e.2 with st := .full }) else e) })
  ((s1.tile t).xl.blocks.filter (fun e => e.2.st == .full && decide (e.2.frontier < 3))).foldl
    (fun a e => if (a.validPages t e.1).isEmpty then a.modBlk t e.1 (fun k => { k with st := .pending }) else a) s1

/-- R237 step 3: a replayed STALE record sets its bit in CAR_STALE, which is committed before a HELLO. -/
def State.replayStale (s : State) (t : Nat) : State :=
  (s.tile t).xl.stalePos.foldl (fun a e =>
    match a.peer e.2.1 with
    | some p =>
      if p.stale.contains e.2.2 then a
      else
        let l := p.stale ++ [e.2.2]
        ((a.modPeer e.2.1 (fun q => { q with stale := l, staleDur := l })).psPut (Param.CAR_STALE + e.2.1) (staleBytes l)).psRequest .internal
    | none => a) s

/-- R237: the tile restores its map from checkpoint and journal, or is formatted. `lost` and `conflict` are the checkpoint
indices whose copies are both lost, or are valid and differ; `clearFails` the blocks that a format cannot clear. -/
def State.restoreTile (s : State) (t : Nat) (lost conflict clearFails : List Nat) : State :=
  let x := (s.tile t).xl
  if !x.formatted then s.formatTile t clearFails
  else
    let s1 := (s.undoBlocks t).modXl t (fun y =>
      { y with map := y.durable.foldl (fun m e => aputD {} e.1 e.2.1 m) [], jpos := y.jdur, jsent := y.jdur, jtail := [], jpages := [],
               jurgent := false, commits := [], metaWait := [], stalePos := y.stalePos.filter (fun e => decide (e.1 < y.jdur)), stc := [], stcFlips := [], mapFlips := [], fetched := [], rebuildAt := none })
    let s2 := lost.foldl (fun a i => a.ckptLost t i) (s1.replayStale t)
    let s3 := conflict.foldl (fun a i =>
      let c := agetD i {} x.ckpt
      a.latch (Reg.XL_ERR_STATUS t) 6 Gb.COPY_CONFLICT t [0, t, i, max c.posA c.posB]) s2
    let pages := if x.cleanStop then [] else s3.scanPages t
    let s4 := pages.foldl (fun a e => a.applyScanned t e) s3
    let s5 := ((s4.closeFrontiers t).jappend t (.mark 2)).event Gb.XL_RECOVERED t [t, pages.length]
    let s6 := (s5.modXl t (fun y => { y with mapState := 1 })).judgeLost
    if (s6.tile t).xl.spare = 0 then
      let s7 := s6.modMd (fun d => { d with sealed := setBit d.sealed t })
      if 0 < s7.cup.regions then s7.setCause 8 true else s7
    else s6

/-! ### Commands (R244, R245) -/

/-- R227: DISCARD_RANGE. -/
def State.discardRangeEff (s : State) (pc : PortCmd) (ld : Nat) (pkg : Bool) (start length : Nat) : State :=
  s.porterRun pc 0x0200 pkg s.md.sdService (fun s =>
    s.withRange pc ld pkg start length (fun spans s =>
      let left := (s.aliveTiles.map (fun t => (s.spanSegs t spans).map (fun l => (t, l, 0)))).flatten
      s.jobStart { ring := pc.ring, cid := pc.cid, kind := 2, left := left, spans := spans }))

/-- R228: SECURE_DISCARD_RANGE. -/
def State.secureDiscardRangeEff (s : State) (pc : PortCmd) (ld : Nat) (pkg : Bool) (start length : Nat) : State :=
  s.porterRun pc 0x0201 true s.md.inService (fun s =>
    s.withRange pc ld pkg start length (fun spans s =>
      let left := (s.aliveTiles.map (fun t => (s.spanSegs t spans).map (fun l => (t, l, 0)))).flatten
      s.jobStart { ring := pc.ring, cid := pc.cid, kind := 3, left := left, spans := spans }))

/-- R245: write amplification over the last 2^24 programs in 1/256: exact while no more were made, else left open. -/
def State.wafOf (s : State) (t : Nat) : Nat :=
  let x := (s.tile t).xl
  if x.progs ≤ 2 ^ 24 ∧ x.hostSegs ≠ 0 then x.progs * 256 / x.hostSegs else s.freeNow % 2 ^ 32

/-- R245: the report of GET_WEAR. -/
def State.wearReport (s : State) (t : Nat) : List Byte :=
  let x := (s.tile t).xl
  let frees := (List.range 8).map (s.freeCount t)
  let g := s.blocksOf - s.retiredCount t none
  wordBytes ([x.spare, x.spare0, s.retiredCount t none, total frees, s.minClears t, s.maxClears t, total (s.clearsInG t) / max 1 g,
    s.wafOf t, 10000 * s.fld Reg.XL_WEAR_LIMITS 15 0, 1000 * s.fld Reg.XL_WEAR_LIMITS 31 16] ++ List.replicate 6 0
    ++ (List.range 8).map (fun c => s.retiredCount t (some c)) ++ frees)

/-- R244, R245: GET_WEAR. -/
def State.getWearEff (s : State) (pc : PortCmd) (tile buf : Nat) : State :=
  s.porterRun pc 0x0202 false s.md.ringsRun (fun s =>
    s.checkFields pc [decide (tile < s.pop.tiles), aligned64 buf] (fun s =>
      ((s.emit (.hostWrite (s.ring pc.ring).head buf (s.wearReport tile))).bumpFree).ok pc []))

/-- R244, R224: a ring block is retired: the block that takes its place in the ring gets its pages, and each checkpoint page in force a CKPT
record of its new locator; the answer is how many pages moved (notes/assumptions/142.md). -/
def State.ringMove (s : State) (t b : Nat) : State × Nat :=
  let s1 := s.ringReplace t b 6 true
  match ((s1.tile t).xl.ringSub.filter (fun e => agetD e.1 e.1 (s.tile t).xl.ringSub == b)).map (·.2) with
  | n :: _ =>
    let there (loc : Nat) : Nat := n * 256 + loc % 256
    let moved := (s.tile t).med.pages.filter (fun e => locBlk e.1 == b)
    let s2 := moved.foldl (fun a e =>
      let a1 := a.modMed t (fun m => { m with pages := aput (there e.1) e.2 (adel e.1 m.pages) })
      let inForce (bt : Bool) : Bool :=
        let o := agetD (if bt then s.mapIdx + e.2.subject else e.2.subject) {} (s.tile t).xl.ckpt
        (if e.2.copyB then o.locB else o.locA) == e.1
      match e.2.kind with
      | .checkpoint => if inForce false then a1.jappend t (.ckpt e.2.copyB false e.2.subject e.2.jpos (there e.1)) else a1
      | .btab => if inForce true then a1.jappend t (.ckpt e.2.copyB true e.2.subject e.2.jpos (there e.1)) else a1
      | _ => a1) s1
    (s2.modXl t (fun x => { x with metaWait := x.metaWait.map (fun o => if locBlk o.loc = b then { o with loc := there o.loc } else o) }), moved.length)
  | [] => (s1, 0)

/-- R244: RETIRE_BLOCK. A free block is retired at once; from another the valid pages are copied first. -/
def State.retireBlockEff (s : State) (pc : PortCmd) (tile channel page : Nat) : State :=
  s.porterRun pc 0x0203 true s.md.inService (fun s =>
    let loc := channel * 2 ^ 26 + page
    let b := locBlk loc
    s.checkFields pc [decide (tile < s.pop.tiles), decide (channel < 8), decide (locRank loc < s.pop.ranks)] (fun s =>
      match (s.blk tile b).st with
      | .retired | .retiring => s.ok pc [(9, 0)]
      | st =>
        if (s.tile tile).xl.spare = 0 then s.fail pc .invalidField 0xFF
        else
          match st with
          | .ring => let (s1, n) := s.ringMove tile b; s1.ok pc [(9, n)]
          | .full | .opened =>
            let s1 := s.closeBlock tile b
            let n := (s1.pagesInOrder tile b).length
            if n = 0 then (s1.retire tile b 6 .retired true).ok pc [(9, 0)]
            else (s1.startBatch tile b 1).modJobs (fun j => { j with retire := j.retire ++ [(pc.ring, pc.cid, tile, b, n)] })
          | .copying => s.modJobs (fun j => { j with retire := j.retire ++ [(pc.ring, pc.cid, tile, b, (s.pagesInOrder tile b).length)] })
          | _ =>
            let s1 := s.modXl tile (fun x => { x with fronts := x.fronts.map (fun e => if e.2.next = some b then (e.1, { e.2 with next := none }) else e) })
            (s1.retire tile b 6 .retired true).ok pc [(9, 0)]))

/-- R244: SET_WEAR_LIMIT. -/
def State.setWearLimitEff (s : State) (pc : PortCmd) (limit10k spreadK : Nat) (persist : Bool) : State :=
  s.porterRun pc 0x0204 true s.md.operating (fun s =>
    s.checkFields pc [decide (100 ≤ limit10k ∧ limit10k ≤ 1000), decide (10 ≤ spreadK ∧ spreadK ≤ 1000)] (fun s =>
      let w := spreadK * 65536 + limit10k
      let s0 := s.setReg Reg.XL_WEAR_LIMITS (BitVec.ofNat 32 w)
      let s1 := (s0.aliveTiles.foldl State.judgeSpread s0).ok pc []
      if persist then s1.psPersist pc [(Param.WEAR_LIMITS, leBytes 4 w)] else s1))

/-- R244: MAP_CHECKPOINT. -/
def State.mapCheckpointEff (s : State) (pc : PortCmd) (tileMask : Nat) : State :=
  s.porterRun pc 0x0205 true s.md.sdService (fun s =>
    s.checkFields pc [decide (tileMask < 2 ^ s.pop.tiles)] (fun s =>
      if s.jobs.ckpt.isSome then s.fail pc .resourceBusy 0
      else
        let l := (s.aliveTiles.filter (bitOf tileMask)).map (fun t => (t, (s.tile t).xl.jpos))
        (s.modJobs (fun j => { j with ckpt := some (pc.ring, pc.cid, l, 0) })).ckptAdvance))

/-! ### The commands of this family -/

/-- GDDR7_DEVICE_FAULT (R242): A GDDR7 device fault starts a full map rebuild. -/
def execGddr7DeviceFault (tile : Nat) (s : State) : Host.Outcome State Fault Refusal :=
  s.run (fun x => x.gddr7DeviceFaultEff tile)

/-- MAP_REBUILD_STEP (R242): The background rebuild rebuilds the next map line; the last ends the rebuild. -/
def execMapRebuildStep (tile lines ms : Nat) (s : State) : Host.Outcome State Fault Refusal :=
  s.run (fun x => x.mapRebuildStepEff tile lines ms)

/-- GC_BATCH_START (R216): GC chooses a victim on an active plane and starts a copy batch. -/
def execGcBatchStart (tile plane : Nat) (s : State) : Host.Outcome State Fault Refusal :=
  s.run (fun x => x.gcBatchStartEff tile plane)

/-- COPY_PAGE (R217): A batch reads a valid page, corrects it and programs it to the target frontier. -/
def execCopyPage (tile src : Nat) (errs : List LineErr) (s : State) : Host.Outcome State Fault Refusal :=
  s.run (fun x => x.copyPageEff tile src errs)

/-- COPY_BATCH_END (R218): The last page of a batch is programmed and MOVE records applied or copies dropped. -/
def execCopyBatchEnd (tile src : Nat) (s : State) : Host.Outcome State Fault Refusal :=
  s.run (fun x => x.copyBatchEndEff tile src)

/-- WEAR_MOVE_START (R221): The clear spread exceeds its limit and a wear-move batch starts. -/
def execWearMoveStart (tile : Nat) (s : State) : Host.Outcome State Fault Refusal :=
  s.run (fun x => x.wearMoveStartEff tile)

/-- BLOCK_CLEAR_START (R220): A PENDING block's clear is started in a CLEAR sector or under urgency. -/
def execBlockClearStart (tile block : Nat) (s : State) : Host.Outcome State Fault Refusal :=
  s.run (fun x => x.blockClearStartEff tile block)

/-- JOURNAL_PAGE_PROGRAM (R233): A journal page is programmed when 512 records gather or a record must become
durable. -/
def execJournalPageProgram (tile : Nat) (s : State) : Host.Outcome State Fault Refusal :=
  s.run (fun x => x.journalPageProgramEff tile)

/-- JOURNAL_TIMER_EXPIRE (R233): 1 ms passes since a journal page's first record and the page is programmed. -/
def execJournalTimerExpire (tile : Nat) (s : State) : Host.Outcome State Fault Refusal :=
  s.run (fun x => x.journalTimerExpireEff tile)

/-- CHECKPOINT_CAPTURE (R235): The checkpoint writer captures the next map page and programs copies A and B. -/
def execCheckpointCapture (tile : Nat) (s : State) : Host.Outcome State Fault Refusal :=
  s.run (fun x => x.checkpointCaptureEff tile)

/-- DISCARD_RANGE (R227): Command that discards the segments of a range. -/
def execDiscardRange (pc : PortCmd) (ld : Nat) (pkg : Bool) (start length : Nat)
    (s : State) : Host.Outcome State Fault Refusal :=
  s.run (fun x => x.discardRangeEff pc ld pkg start length)

/-- SECURE_DISCARD_RANGE (R228): Command that discards a range and clears every block holding its pages. -/
def execSecureDiscardRange (pc : PortCmd) (ld : Nat) (pkg : Bool) (start length : Nat)
    (s : State) : Host.Outcome State Fault Refusal :=
  s.run (fun x => x.secureDiscardRangeEff pc ld pkg start length)

/-- GET_WEAR (R245): Command that writes the wear report of a tile. -/
def execGetWear (pc : PortCmd) (tile buf : Nat) (s : State) : Host.Outcome State Fault Refusal :=
  s.run (fun x => x.getWearEff pc tile buf)

/-- RETIRE_BLOCK (R244): Command that moves a block's valid pages out and retires it. -/
def execRetireBlock (pc : PortCmd) (tile channel page : Nat) (s : State) : Host.Outcome State Fault Refusal :=
  s.run (fun x => x.retireBlockEff pc tile channel page)

/-- SET_WEAR_LIMIT (R244): Command that sets the wear and spread limits. -/
def execSetWearLimit (pc : PortCmd) (limit10k spreadK : Nat) (persist : Bool)
    (s : State) : Host.Outcome State Fault Refusal :=
  s.run (fun x => x.setWearLimitEff pc limit10k spreadK persist)

/-- MAP_CHECKPOINT (R244): Command that completes when every index has copies captured after recognition. -/
def execMapCheckpoint (pc : PortCmd) (tileMask : Nat) (s : State) : Host.Outcome State Fault Refusal :=
  s.run (fun x => x.mapCheckpointEff pc tileMask)

end Sys2Proof.Machine
end

