-- ==== Sys2Proof/Machine/Media.lean ====
section
/-! DEFINITION. Machine/Media.lean: the commands and events of the media channels (06_medium.md) and the walk of a fenced
rank (08_integrity.md R280). -/

namespace Sys2Proof.Machine

open Sys2Proof

/-! ### Rejected commands and retraining (R176, R198) -/

/-- R176: a rejected command is sent again and counted in CA_RETRY. -/
def State.caResend (s : State) (t c rank : Nat) (cmd : CaCmd) : State :=
  (s.addFld (Reg.MED_CH_COUNT t + 0x10 * c) 15 0 1).caSend t c rank cmd

/-- Ranks of a channel in service, ascending. -/
def Channel.rankList (k : Channel) : List Nat := (List.range 4).filter (bitOf k.ranks)

/-- R176: ALERT_N tells that the command issued last was rejected: it is sent again. Its third rejection in a row causes a CA retrain, during
which the reads of the channel wait (R198); it is sent again after that. -/
def State.caCommandRejectEff (s : State) (tile ch : Nat) : State :=
  let k := s.chan tile ch
  match k.last with
  | none => s
  | some (rank, cmd) =>
    if !s.alive tile || k.st != 2 || k.caWait then s
    else
      let off := Reg.MED_CH_ERR_STATUS tile + 0x10 * ch
      let s1 := s.latch off 4 Gb.MED_CA_CRC tile [tile, ch, cmd.opcode]
      if k.rejects < 2 then (s1.modCh tile ch (fun k => { k with rejects := k.rejects + 1 })).caResend tile ch rank cmd
      else
        let s2 := (s1.modCh tile ch (fun k => { k with rejects := 0, caWait := true })).latch off 3 Gb.MED_RETRAIN tile [tile, ch, 1]
        k.rankList.foldl (fun a r => a.caSend tile ch r (.calibrate 1)) s2

/-- R198 RETRAIN_DT in °C; none for no retrain by temperature. -/
def State.retrainDt (s : State) (t : Nat) : Option Nat :=
  match s.fld (Reg.MED_CTL t) 15 14 with
  | 0 => some 5
  | 1 => some 10
  | 2 => some 20
  | _ => none

/-- R198: a CA retrain that runs ends and the waiting reads are issued; otherwise a read retrain runs when the temperature
estimate has moved by RETRAIN_DT since the last one. -/
def State.readRetrainEff (s : State) (tile ch : Nat) : State :=
  let k := s.chan tile ch
  if !s.alive tile || k.st != 2 then s
  else if k.caWait then
    let s0 := s.modCh tile ch (fun k => { k with caWait := false })
    let s1 := match k.last with | some (rank, cmd) => s0.caResend tile ch rank cmd | none => s0
    ((List.range (4 * s.pop.ranks)).foldl (fun a j => a.nextRead tile (ch + 8 * j)) s1).retryPrograms tile
  else
    let (now, _, _) := s.chTemp tile ch
    match s.retrainDt tile, k.trainTemp with
    | some d, some old =>
      if (now - old).natAbs < d then s
      else
        let s1 := k.rankList.foldl (fun a r => a.caSend tile ch r (.calibrate 2)) s
        (s1.modCh tile ch (fun k => { k with trainTemp := some now })).latch (Reg.MED_CH_ERR_STATUS tile + 0x10 * ch) 3
          Gb.MED_RETRAIN tile [tile, ch, 0]
    | _, _ => s

/-! ### Dies and ranks that fail (R196, R197) -/

/-- A host read leaves its channel. -/
def State.dropRead (s : State) (t c id : Nat) : State :=
  s.modCh t c (fun k => { k with reads := k.reads.filter (fun q => q.id != id) })

/-- R257, R259: a host read that the medium cannot serve: reconstruction where Cupola or Caravan covers the segment, else
poison. -/
def State.readLoss (s : State) (t id latNs : Nat) : State :=
  match s.hazOf t id with
  | none => s
  | some h =>
    if s.covered t h.seg then (s.setLost t h.seg).readRecon t h.req h.seg h.line latNs
    else ((s.uncorr t h.seg).poisonSeg t h.seg).hazAnswer t h.req (some 0) true latNs

/-- R312: causes 2 and 3 follow the dies and channels of the tiles in service. -/
def State.judgeMedia (s : State) : State :=
  let chans := (s.aliveTiles.map (fun t => (s.tile t).med.chans.toList)).flatten
  (s.setCause 2 (chans.any (fun k => decide (0 < k.deadCount)))).setCause 3 (chans.any (fun k => k.st == 3))

/-- R196: a channel fails at a training step (0 in service); with two failed channels the tile is declared failed (R275). -/
def State.channelFail (s : State) (t c step : Nat) : State :=
  let s1 := ((s.modCh t c (fun k => { k with st := 3 })).event Gb.MED_CH_FAIL t [t, c, step]).judgeMedia
  if 2 ≤ (((s1.tile t).med.chans.toList.filter (fun k => k.st == 3)).length) && s1.md.mode != .bringup then s1.declareFailed t 4 true else s1

/-- R196, R280: a rank is fenced: what runs on it fails, reads of it are served by other means, and its walk is due. -/
def State.fenceRank (s : State) (t c r : Nat) : State :=
  let k := s.chan t c
  let s1 := (s.modCh t c (fun k => { k with ranks := clearBit k.ranks r, fenced := setBit k.fenced r })).modXl t
    (fun x => { x with walks := aput (4 * c + r) 0 x.walks })
  let s2 := (k.ops.filter (fun o => locRank o.loc == r)).foldl (fun a o =>
    match o.job with
    | .clear => a.dropOp t o
    | _ => (a.dropOp t o).programFailed t o) s1
  let gone := (s2.tile t).xl.metaWait.filter (fun o => locCh o.loc == c && locRank o.loc == r)
  let s2m := gone.foldl (fun a o => (a.modXl t (fun x => { x with metaWait := x.metaWait.filter (· != o) })).programFailed t o) s2
  let s3 := (k.reads.filter (fun q => locRank q.loc == r)).foldl (fun a q => (a.dropRead t c q.id).readLoss t q.id 0) s2m
  if (s3.chan t c).ranks = 0 && (s3.chan t c).st == 2 then s3.channelFail t c 0 else s3

/-- R196, R197: a die is marked failed; with two failed dies its rank is fenced. -/
def State.dieFail (s : State) (t c r die : Nat) : State :=
  let m := setBit (agetD r 0 (s.chan t c).dead) die
  let s1 := s.modCh t c (fun k => { k with dead := aput r m k.dead })
  let s2 := s1.latch (Reg.MED_CH_ERR_STATUS t + 0x10 * c) 0 Gb.MED_DIE_FAIL t [t, c, (s1.chan t c).deadCount]
  (if 2 ≤ popCount m 9 && bitOf (s2.chan t c).ranks r then s2.fenceRank t c r else s2).judgeMedia

/-- R184: the channel polls a rank in service. -/
def State.statusPollEff (s : State) (tile ch rank : Nat) : State :=
  if s.alive tile && (s.chan tile ch).st == 2 && bitOf (s.chan tile ch).ranks rank then s.caIssue tile ch rank .status else s

/-! ### STATUS (R177, R184, R197) -/

/-- R177: SIGNATURE, bits 3:0 of a reply. -/
def replySig (w : Nat) : Nat := w % 16

/-- R177: PLANE_FAIL, bits 7:4. -/
def replyFail (w : Nat) : Nat := w / 2 ^ 4 % 16

/-- R177: PLANE_STATE of a plane: 0 idle, 1 reading, 2 programming, 3 clearing. -/
def replyPlane (w p : Nat) : Nat := w / 2 ^ (8 + 2 * p) % 4

/-- R177: PROG_SUSP, bits 19:16. -/
def replyProgSusp (w : Nat) : Nat := w / 2 ^ 16 % 16

/-- R177: CLEAR_SUSP, bits 23:20. -/
def replyClearSusp (w : Nat) : Nat := w / 2 ^ 20 % 16

/-- R177: DONE, bits 27:24. -/
def replyDone (w : Nat) : Nat := w / 2 ^ 24 % 16

/-- R196: dies of a rank that are not marked failed. -/
def Channel.liveDies (k : Channel) (r : Nat) : List Nat := (List.range 9).filter (fun d => !bitOf (agetD r 0 k.dead) d)

/-- R177, R184: the replies of the dies of a rank are taken up: each die's DONE and PLANE_FAIL gather until the operation of the plane ends. -/
def Channel.takeReplies (k : Channel) (r : Nat) (replies : List Nat) : Channel :=
  (List.range 9).foldl (fun k d =>
    let w := replies.getD d 0
    let old := agetD (9 * r + d) 0 k.doneSeen
    let seen := Nat.lor (old % 16) (replyDone w) + 16 * Nat.lor (old / 16) (Nat.land (replyFail w) (replyDone w))
    { k with status := aput (9 * r + d) w k.status, doneSeen := aputD 0 (9 * r + d) seen k.doneSeen }) k

/-- R184: every die in service of a rank has reported DONE for a plane. -/
def Channel.planeDone (k : Channel) (r p : Nat) : Bool :=
  !(k.liveDies r).isEmpty && (k.liveDies r).all (fun d => bitOf (agetD (9 * r + d) 0 k.doneSeen) p)

/-- R184: a die in service has reported PLANE_FAIL with its DONE. -/
def Channel.planeFailed (k : Channel) (r p : Nat) : Bool :=
  (k.liveDies r).any (fun d => bitOf (agetD (9 * r + d) 0 k.doneSeen) (4 + p))

/-- The DONE of a plane has been taken up. -/
def Channel.doneTaken (k : Channel) (r p : Nat) : Channel :=
  { k with doneSeen := (List.range 9).foldl (fun l d =>
      aputD 0 (9 * r + d) (clearBit (clearBit (agetD (9 * r + d) 0 l) p) (4 + p)) l) k.doneSeen }

/-- R184: the operation that runs on a plane ends when the DONE of its dies is recognised. One that is suspended reports nothing, but for
one that completed as its SUSPEND came (R187). -/
def State.statusDone (s : State) (t c r p : Nat) : State :=
  let k := s.chan t c
  if !k.planeDone r p then s
  else
    let ok := !k.planeFailed r p
    let s1 := s.modCh t c (fun k => k.doneTaken r p)
    match k.ops.find? (fun o => locRank o.loc == r && locPlane o.loc == p && !o.susp) with
    | none => s1
    | some o => if o.job = .clear then s1.clearEnd t o ok 0 else (s1.programEnd t o ok 0).parityDone t

/-- R177: a die in service of a rank reports that the program or clear of a plane is suspended. -/
def Channel.reportsSusp (k : Channel) (r : Nat) (o : MedOp) : Bool :=
  locRank o.loc == r && k.reads.any (fun q => planeNo q.loc == planeNo o.loc && q.st == .suspend)
    && (k.liveDies r).any (fun d =>
      let w := agetD (9 * r + d) 0 k.status
      bitOf (if o.job = .clear then replyClearSusp w else replyProgSusp w) (locPlane o.loc))

/-- R197: a die's SIGNATURE was right, or wrong: the third wrong one in a row marks the die failed. -/
def State.signature (s : State) (t c r d w : Nat) : State :=
  let n := if replySig w = 0xA then 0 else agetD (9 * r + d) 0 (s.chan t c).sigBad + 1
  let s1 := s.modCh t c (fun k => { k with sigBad := aputD 0 (9 * r + d) (if n < 3 then n else 0) k.sigBad })
  if n < 3 then s1 else s1.dieFail t c r d

/-- R177, R184, R197: the STATUS replies of dies 0 to 8 of a rank: their signatures are judged, suspensions that they report are
counted, and operations whose DONE is recognised end. -/
def State.statusReplyEff (s : State) (tile ch rank : Nat) (replies : List Nat) : State :=
  let k := s.chan tile ch
  if !s.alive tile || k.st != 2 || !bitOf k.ranks rank then s
  else
    let s1 := s.modCh tile ch (fun k => k.takeReplies rank replies)
    let s2 := s1.modCh tile ch (fun k => { k with ops := k.ops.map (fun o =>
      if k.reportsSusp rank o ∧ !o.susp then { o with susp := true, susps := o.susps + 1 } else o) })
    let s3 := (k.liveDies rank).foldl (fun a d => a.signature tile ch rank d (replies.getD d 0)) s2
    ((List.range 4).foldl (fun a p => a.statusDone tile ch rank p) s3).settle

/-! ### Programs, clears and suspension (R184 to R187) -/

/-- R184: the DONE of the program at a locator is recognised. -/
def State.programDoneEff (s : State) (tile loc : Nat) (ok : Bool) : State :=
  match s.opAt tile loc false with
  | some o => if s.alive tile then ((s.programEnd tile o ok 0).parityDone tile).settle else s
  | none => s

/-- R184, R220: the DONE of the clear of the block at a locator is recognised. -/
def State.clearDoneEff (s : State) (tile loc : Nat) (ok : Bool) : State :=
  match s.opAt tile loc true with
  | some o => if s.alive tile then (s.clearEnd tile o ok 0).settle else s
  | none => s

/-- R184: the active time of an operation passed its limit: 160 µs of a program, 12 ms of a clear. -/
def State.opActiveTimeoutEff (s : State) (tile loc : Nat) (clear : Bool) : State :=
  match s.opAt tile loc clear with
  | some o =>
    if !s.alive tile || o.susp then s
    else if clear then (s.clearEnd tile o false 1).settle
    else ((s.programEnd tile o false 1).parityDone tile).settle
  | none => s

/-- R185: the operations of a plane are suspended and its awaited read is issued, or waits for the end of a CA retrain (R198). -/
def State.suspendDone (s : State) (t : Nat) (q : MedRead) : State :=
  let s1 := s.modCh t (locCh q.loc) (fun k =>
    { k with ops := k.ops.map (fun o => if planeNo o.loc = planeNo q.loc ∧ !o.susp then { o with susp := true, susps := o.susps + 1 } else o) })
  if (s1.chan t (locCh q.loc)).caWait then
    s1.modCh t (locCh q.loc) (fun k => { k with reads := k.reads.map (fun x => if x.id = q.id then { x with st := .plane } else x) })
  else s1.issueRead t q

/-- R185: BUSY_N of a channel is released: every read that awaited a suspension is issued. -/
def State.suspendCompleteEff (s : State) (tile ch : Nat) : State :=
  if s.alive tile then ((s.chan tile ch).reads.filter (fun q => q.st == .suspend)).foldl (fun a q => a.suspendDone tile q) s else s

/-- R185: the suspend limit expires for the read of a request. -/
def State.suspendLimitExpireEff (s : State) (tile id : Nat) : State :=
  match ((s.tile tile).med.chans.toList.map (·.reads)).flatten.find? (fun q => q.id == id && q.st == .suspend) with
  | some q => if s.alive tile then s.suspendDone tile q else s
  | none => s

/-- R119, R120, R186: a suspended clear may run: no schedule holds it (R228), an active sector of its class covers its channel, or its plane is
at URGENT and no other clear runs on the channel. The answer says that it runs outside its sector. -/
def State.clearMay (s : State) (t : Nat) (o : MedOp) : Option Bool :=
  let c := locCh o.loc
  match s.clearClass t (locBlk o.loc) with
  | none => some false
  | some cls =>
    if (List.range 64).any (fun i => s.sectorOn t i && (s.schedEntry t i).cls == cls && bitOf (s.schedEntry t i).chans c && s.classRuns t cls) then some false
    else if cls == 1 && s.planeUrgent t (planeNo o.loc) && (s.chan t c).clearing.all (·.susp) then some true
    else none

/-- R186: the operation suspended at a locator is resumed once no host-serving read of its plane waits or is in its array phase: a program
first, a clear where it may run. `suspUs`: µs that it was suspended for host-serving reads this time. In Hold-up no clear resumes
(R187). -/
def State.resumeIssueEff (s : State) (tile loc suspUs : Nat) : State :=
  let c := locCh loc
  match ((s.planeOps tile loc).filter (·.susp)).find? (fun o => o.loc == loc) with
  | none => s
  | some o =>
    let waits := (s.chan tile c).reads.any (fun q => planeNo q.loc == planeNo loc)
    let programs := (s.planeOps tile loc).any (fun x => x.job != .clear)
    let may : Option Bool := if o.job != .clear then some false
      else if programs || s.md.mode == .holdup then none else s.clearMay tile o
    if !s.alive tile || waits || (s.chan tile c).caWait then s
    else match may with
      | none => s
      | some outside =>
        let us := o.suspUs + suspUs
        let long := !o.stretched && decide ((if o.job = .clear then 60000 else 1000) < us)
        let s0 := if outside then s.override tile 1 else s
        let s1 := (s0.modCh tile c (fun k => { k with ops := k.ops.map (fun x =>
          if x = o then { o with susp := false, suspUs := us, stretched := o.stretched || long } else x) })).caIssue tile c (locRank loc)
            (.resume (locPlane loc) (o.job != .clear))
        if long then s1.latch (Reg.MED_CH_ERR_STATUS tile + 0x10 * c) 7 Gb.MED_OP_STRETCH tile [tile, loc, o.susps] else s1

/-! ### Reads (R181, 08_integrity.md R256 to R259) -/

/-- R181, R257, R259: the last beat of a READ_LINE arrives. `err` and `others` are the symbols in error that the reads of
the line, and of the page's other lines when the outer code runs, meet; `latNs` is the latency of the answer. -/
def State.mediaReadDataEff (s : State) (tile id : Nat) (err : LineErr) (others : List LineErr) (latNs : Nat) : State :=
  match ((s.tile tile).med.chans.toList.map (·.reads)).flatten.find? (fun q => q.id == id && q.st == .array), s.hazOf tile id with
  | some q, some h =>
    if !s.alive tile then s
    else
      let free (a : State) : State := (((a.dropRead tile (locCh q.loc) id).wakeLines tile latNs).nextRead tile (planeNo q.loc)).retryPrograms tile
      let (data, poison) := s.fromMedium (s.slotOf tile h.seg) (s.segOf tile h.seg) q.line (s.pageLine tile q.loc q.line)
      match s.lineRead tile q.loc q.line err others with
      | (s1, some n) => free ((if n = 3 then s1.noteRecon h.req else s1).hazAnswer tile h.req (some data) poison latNs)
      | (s1, none) => free (s1.readLoss tile id latNs)
  | _, _ => s

/-! ### Calibration pages (R195) -/

/-- R195: the replacement of a retired calibration block: the lowest-numbered FREE block among blocks 0 to 15 of plane 0 of
the rank; without one, the valid pages of the lowest-numbered FULL one are moved out first. -/
def State.calReplace (s : State) (t base b : Nat) : State × Nat :=
  let l := (List.range 16).map (fun i => base + i)
  match l.find? (fun n => (s.blk t n).st == .free) with
  | some n => (s.modBlk t n (fun k => { k with st := .ring, frontier := 3 }), n)
  | none =>
    match l.find? (fun n => (s.blk t n).st == .full) with
    | some n => (s.startBatch t n 1, b)
    | none => (s, b)

/-- R195: a calibration page of a rank is due: one at the end of every Bring-up, once the block table is restored, and one for every 24 hours of
age-clock time. -/
def State.calDue (s : State) (t c r : Nat) : Bool :=
  let k := s.chan t c
  if s.md.mode == .bringup then bitOf s.md.stepsDone 12 && !bitOf k.calBoot r
  else decide (agetD r 0 k.calAt + 86400000 ≤ s.ageClock)

/-- R195: the page due was started. -/
def Channel.calWritten (k : Channel) (boot : Bool) (r now : Nat) : Channel :=
  if boot then { k with calBoot := setBit k.calBoot r, calAt := aput r now k.calAt }
  else { k with calAt := aput r (agetD r 0 k.calAt + 86400000) k.calAt }

/-- R195: the page written now at a locator: its pattern is seeded from the locator and the age stamp. -/
def State.calPage (s : State) (loc : Nat) : Page :=
  { kind := .calibration, lines := (List.range 64).map (fun i => Config.calPattern loc s.ageClock i) }

/-- R195: a calibration page of a rank that is due is written at the end of Bring-up, or in a REFRESH sector against its budget. When
the active block holds 96 pages, the other one is cleared and used in its place. A block being cleared is never programmed (R187). -/
def State.calibrationPageWriteEff (s : State) (tile ch rank : Nat) : State :=
  let k := s.chan tile ch
  let p := ch + 32 * rank
  let base := planeBase p
  let boot := s.md.mode == .bringup
  let sector := s.sectorBudget tile 2 ch
  if !s.alive tile || k.st != 2 || !bitOf k.ranks rank || !s.calDue tile ch rank || !(boot || (s.md.operating && sector.isSome)) then s
  else
    let (act, other) := agetD rank (base, base + 1) k.calBlocks
    let used := agetD rank 0 k.calUsed
    let put (a : State) (x y n : Nat) : State :=
      a.modCh tile ch (fun k => { k with calBlocks := aput rank (x, y) k.calBlocks, calUsed := aput rank n k.calUsed })
    if (s.blk tile act).st == .retired then
      let (s1, n) := s.calReplace tile base act
      if n = act then s1 else put s1 n other 0
    else if 96 ≤ used then
      if (s.blk tile other).st == .retired then
        let (s1, n) := s.calReplace tile base other
        put s1 act n used
      else if s.clearPlaneFree tile other && decide (k.clearing.length < s.clearLimit tile ch) then (put s other act 0).startClear tile other else s
    else if !s.planeFree tile p || k.ops.any (fun o => locBlk o.loc == act) then s
    else
      let loc := act * 256 + used
      let s1 := match sector with | some i => if boot then s else s.spend tile i ch | none => s
      let s2 := (put s1 act other (used + 1)).modCh tile ch (fun k => k.calWritten boot rank s.ageClock)
      s2.startProgram tile loc (.calib rank) (s2.stampPage tile ch (s2.calPage loc))

/-! ### Fenced ranks (08_integrity.md R280) -/

/-- R280: one segment passed by the walk of a fenced rank. -/
def State.walkSeg (s : State) (t ch rank l : Nat) : State :=
  let e := s.mapRaw t l
  if !(e.st == .mapped || e.st == .relocating) || locCh e.loc != ch || locRank e.loc != rank then s
  else if s.covered t l then s.loseSeg t l
  else ((s.jappend t (.poison l)).replaceEntry t l { st := .poisoned }).evtSeg 0 (s.segOf t l)

/-- R226, R280: the blocks of a fenced rank are retired, each with its BLOCK record, with one record for the rank. -/
def State.retireRank (s : State) (t ch rank : Nat) : State :=
  let blks := ((List.range 4).map (fun p => planeBlocks (ch + 8 * p + 32 * rank))).flatten
  let s1 := blks.foldl (fun a b => if (a.blk t b).st == .ring then a.ringReplace t b 7 false else a.retire t b 7 .retired false) s
  let b0 := planeBase (ch + 32 * rank)
  (s1.event Gb.XL_BLOCK_RETIRE t [t, b0 * 256, 7]).setReg (Reg.XL_ERR_LOCATOR t) (BitVec.ofNat 32 (b0 * 256))

/-- R280: the walk of a fenced rank passes the segments below `upTo`, at the pace that the journal allows (R234). It runs
once the map is restored. -/
def State.fencedRankWalkEff (s : State) (tile ch rank upTo : Nat) : State :=
  match aget (4 * ch + rank) (s.tile tile).xl.walks with
  | none => s
  | some n =>
    if !s.alive tile || (s.tile tile).xl.mapState != 1 || !s.jroom tile then s
    else
      let segs := ((s.tile tile).xl.map.map (·.1)).filter (fun l => decide (n ≤ l ∧ l < upTo))
      let s1 := segs.foldl (fun a l => a.walkSeg tile ch rank l) s
      if upTo < s.segs then s1.modXl tile (fun x => { x with walks := aput (4 * ch + rank) (max n upTo) x.walks })
      else ((s1.modXl tile (fun x => { x with walks := adel (4 * ch + rank) x.walks })).retireRank tile ch rank).settle

/-! ### The commands of this family -/

/-- CA_COMMAND_REJECT (R176): ALERT_N signals a rejected command, which is resent; three in a row cause a CA
retrain. -/
def execCaCommandReject (tile ch : Nat) (s : State) : Host.Outcome State Fault Refusal :=
  s.run (fun x => x.caCommandRejectEff tile ch)

/-- READ_RETRAIN (R198): The temperature estimate moves by RETRAIN_DT and read training reruns rank by rank. -/
def execReadRetrain (tile ch : Nat) (s : State) : Host.Outcome State Fault Refusal :=
  s.run (fun x => x.readRetrainEff tile ch)

/-- STATUS_POLL (R184): The channel issues STATUS to a rank on its polling interval. -/
def execStatusPoll (tile ch rank : Nat) (s : State) : Host.Outcome State Fault Refusal :=
  s.run (fun x => x.statusPollEff tile ch rank)

/-- STATUS_REPLY (R177): A STATUS reply is received and program, clear and suspend states updated. -/
def execStatusReply (tile ch rank : Nat) (replies : List Nat) (s : State) : Host.Outcome State Fault Refusal :=
  s.run (fun x => x.statusReplyEff tile ch rank replies)

/-- PROGRAM_DONE (R184): A page program's DONE is recognised; a failure retires the block and reissues. -/
def execProgramDone (tile loc : Nat) (ok : Bool) (s : State) : Host.Outcome State Fault Refusal :=
  s.run (fun x => x.programDoneEff tile loc ok)

/-- CLEAR_DONE (R220): A block clear's DONE is recognised and the block becomes FREE, RESERVE or retired. -/
def execClearDone (tile loc : Nat) (ok : Bool) (s : State) : Host.Outcome State Fault Refusal :=
  s.run (fun x => x.clearDoneEff tile loc ok)

/-- OP_ACTIVE_TIMEOUT (R184): A program or clear exceeds its active-time limit and counts as failed. -/
def execOpActiveTimeout (tile loc : Nat) (clear : Bool) (s : State) : Host.Outcome State Fault Refusal :=
  s.run (fun x => x.opActiveTimeoutEff tile loc clear)

/-- SUSPEND_COMPLETE (R185): BUSY_N is released and the awaited READ_LINE is issued. -/
def execSuspendComplete (tile ch : Nat) (s : State) : Host.Outcome State Fault Refusal :=
  s.run (fun x => x.suspendCompleteEff tile ch)

/-- SUSPEND_LIMIT_EXPIRE (R185): The suspend limit expires and the awaited READ_LINE is issued. -/
def execSuspendLimitExpire (tile id : Nat) (s : State) : Host.Outcome State Fault Refusal :=
  s.run (fun x => x.suspendLimitExpireEff tile id)

/-- RESUME_ISSUE (R186): No host-serving read waits for a plane and RESUME is issued. -/
def execResumeIssue (tile loc suspUs : Nat) (s : State) : Host.Outcome State Fault Refusal :=
  s.run (fun x => x.resumeIssueEff tile loc suspUs)

/-- MEDIA_READ_DATA (R181): A READ_LINE's last beat arrives; the line is decoded through the ladder and returned. -/
def execMediaReadData (tile id : Nat) (err : LineErr) (others : List LineErr) (latNs : Nat)
    (s : State) : Host.Outcome State Fault Refusal :=
  s.run (fun x => x.mediaReadDataEff tile id err others latNs)

/-- CALIBRATION_PAGE_WRITE (R195): A calibration page is written at the end of Bring-up and every 24 hours of age-
clock time. -/
def execCalibrationPageWrite (tile ch rank : Nat) (s : State) : Host.Outcome State Fault Refusal :=
  s.run (fun x => x.calibrationPageWriteEff tile ch rank)

/-- FENCED_RANK_WALK (R280): Translation walks the map setting segments of a fenced rank LOST or POISONED. -/
def execFencedRankWalk (tile ch rank upTo : Nat) (s : State) : Host.Outcome State Fault Refusal :=
  s.run (fun x => x.fencedRankWalkEff tile ch rank upTo)

end Sys2Proof.Machine
end

