-- ==== Sys2Proof/Machine/Front.lean ====
section
/-! DEFINITION. Machine/Front.lean: the commands and events of the Front Store (05_front_store.md). -/

namespace Sys2Proof.Machine

open Sys2Proof

/-! ### The commit engine (R149 to R151) -/

/-- R150: SET_PRESSURE as a number of dirty frames. -/
def State.setPressure (s : State) : Nat :=
  match s.fld Reg.FS_CTL 3 2 with
  | 1 => s.ways - 1
  | 2 => max 1 (s.ways / 4)
  | _ => s.ways / 2

/-- R150 COMMIT_DELAY; 7 acts as 6. -/
def State.commitDelay (s : State) : Nat := min 6 (s.fld Reg.FS_CTL 6 4)

/-- Frames of a tile that a commit can be started for. -/
def State.committable (s : State) (t : Nat) : List Nat :=
  let hold := s.md.mode == .holdup
  ((s.tile t).fs.frames.filter (fun e => (e.2.st == .dirty || (hold && e.2.st == .locked && e.2.dirty != 0))
    && !(s.tile t).txn.locks.contains e.2.seg && (s.commitOf t e.2.seg).isNone)).map (·.1)

/-- R150 cause 2: frames for the writes that wait: any at the dirty limit, those of their sets for a way. -/
def State.waitFrames (s : State) (t : Nat) (l : List Nat) : List Nat :=
  let hz := (s.tile t).txn.haz
  if hz.any (fun h => h.st == .dirty) then l
  else
    let sets := (hz.filter (fun h => h.st == .way)).map (fun h => s.setOf h.seg)
    l.filter (fun f => sets.contains (f / s.ways))

/-- R150 cause 3: frames that write-through handling, flushes, invalidations and the drain of FS_DISABLE ask for. -/
def State.askedFrames (s : State) (t : Nat) (l : List Nat) : List Nat :=
  if s.writeThrough t then l
  else l.filter (fun f => s.jobs.ranges.any (fun j => decide (j.kind ≤ 1) && j.left.any (fun e => e.1 == t && e.2.1 == (s.frame t f).seg)))

/-- R150: the frame that the commit engine chooses: the first cause that applies, in age order within it; in Hold-up none before the commits
that ran on entry are complete (R168). -/
def State.chooseCommit (s : State) (t : Nat) : Option Nat :=
  let l := s.committable t
  let dirtyIn (f : Nat) : Nat := ((s.setFrames (f / s.ways)).filter (fun g => (s.frame t g).countsDirty)).length
  let lim := s.effLimit t
  let causes : List (List Nat) :=
    if s.md.mode == .holdup then [if s.firstLeft t then [] else l]
    else [s.waitFrames t l, s.askedFrames t l, l.filter (fun f => decide (s.setPressure ≤ dirtyIn f)),
      if lim ≤ 2 * s.dirtyFrames t then l else [],
      l.filter (fun f => decide (s.commitDelay ≤ s.epochAge t (s.frame t f).epoch))]
  (causes.find? (fun c => !c.isEmpty)).bind (s.oldest t)

/-- R150: the commit engine of a tile chooses a frame and starts its commit. R166: `bad` are the lines that the commit finds uncorrectable. -/
def State.commitChooseEff (s : State) (tile bad : Nat) : State :=
  if !s.alive tile || !(s.md.operating || s.md.mode == .holdup) then s
  else
    let s1 := s.retryPrograms tile
    match s1.chooseCommit tile with
    | some f => (s1.startCommitBad tile f bad).settle
    | none => s1

/-- R149: 1 ms has passed: the epoch advances unless the next one still holds dirty frames. -/
def State.epochAdvanceEff (s : State) (tile : Nat) : State :=
  let n := ((s.tile tile).fs.epoch + 1) % 8
  if !s.alive tile || (s.tile tile).fs.frames.any (fun e => e.2.countsDirty && e.2.epoch == n) then s
  else s.modFs tile (fun g => { g with epoch := n })

/-- R143 row 9, R151: the line fill of a frame ends with the array read's errors given. -/
def State.lineFillDoneEff (s : State) (tile frame : Nat) (errs : List LineErr) (latNs : Nat) : State :=
  if !s.alive tile || (s.frame tile frame).commitFill then s else (s.fillEnd tile frame errs 0 latNs).settle

/-- R143 row 10, R151: the commit fill of a frame ends and its program starts. R166: `bad` are the lines that the commit finds
uncorrectable. -/
def State.commitFillDoneEff (s : State) (tile frame : Nat) (errs : List LineErr) (bad latNs : Nat) : State :=
  if !s.alive tile || !(s.frame tile frame).commitFill then s else (s.fillEnd tile frame errs bad latNs).settle

/-- R143 rows 12 and 13, R24 step 5: the commit of a frame is complete. -/
def State.frameCommitCompleteEff (s : State) (tile frame latNs : Nat) : State :=
  let x := s.frame tile frame
  if s.alive tile && (s.tile tile).xl.commits.any (fun c => c.seg == x.seg && c.job == .host frame && c.step == .done) then
    (((s.jobCommitted tile x.seg).frameDone tile frame).releaseWrites tile latNs).settle
  else s

/-- R144: a maintenance operation has done with a segment and releases its lock; fills that waited start. -/
def State.segmentLockReleaseEff (s : State) (tile seg latNs : Nat) : State :=
  if !s.alive tile || !(s.tile tile).txn.locks.contains seg || (s.commitOf tile seg).isSome then s
  else ((s.modTxn tile (fun x => { x with locks := x.locks.filter (· != seg) })).retryFills tile latNs).settle

/-! ### Flush and invalidate (R154, R155, R162) -/

/-- R154: the frames of the spans that count as dirty, as a flush waits for them. -/
def State.flushList (s : State) (spans : List (Nat × Nat)) : List (Nat × Nat × Nat) :=
  (s.aliveTiles.map (fun t => ((s.spanFrames t spans).filter (fun e => (s.frame t e.1).countsDirty)).map
    (fun e => (t, e.2, (s.frame t e.1).commitsNeeded)))).flatten

/-- R154: FS_FLUSH_ALL. -/
def State.fsFlushAllEff (s : State) (pc : PortCmd) : State :=
  s.porterRun pc 0x0100 false s.md.operating (fun s =>
    let spans := [(0, s.segs * s.pop.tiles)]
    s.jobStart { ring := pc.ring, cid := pc.cid, kind := 0, left := s.flushList spans, inTurn := false, spans := spans })

/-- R154: FS_FLUSH_RANGE. What it waits for is found when it reaches a segment (R144). -/
def State.fsFlushRangeEff (s : State) (pc : PortCmd) (ld : Nat) (pkg : Bool) (start length : Nat) : State :=
  s.porterRun pc 0x0101 pkg s.md.operating (fun s =>
    s.withRange pc ld pkg start length (fun spans s =>
      s.jobStart { ring := pc.ring, cid := pc.cid, kind := 0, left := (s.flushList spans).map (fun e => (e.1, e.2.1, 0)), spans := spans }))

/-- R155: FS_INVALIDATE_RANGE. -/
def State.fsInvalidateRangeEff (s : State) (pc : PortCmd) (ld : Nat) (pkg : Bool) (start length : Nat) : State :=
  s.porterRun pc 0x0102 true s.md.sdService (fun s =>
    s.withRange pc ld pkg start length (fun spans s =>
      let left := (s.aliveTiles.map (fun t => (s.spanFrames t spans).map (fun e => (t, e.2, 0)))).flatten
      s.jobStart { ring := pc.ring, cid := pc.cid, kind := 1, left := left, spans := spans }))

/-! ### Disable and enable (R157 to R160) -/

/-- R157: DRAINED and THROUGH over the tiles. -/
def State.drainResults (s : State) : List (Nat × Nat) :=
  [(32, total (s.aliveTiles.map (fun t => (s.tile t).fs.drained))), (32, total (s.aliveTiles.map (fun t => (s.tile t).fs.through)))]

/-- R157, R160: FS_DISABLE. -/
def State.fsDisableEff (s : State) (pc : PortCmd) : State :=
  s.porterRun pc 0x0103 true s.md.sdService (fun s =>
    if s.md.sealed % 2 ^ s.pop.tiles != 0 then s.fail pc .wrongMode s.md.mode.code
    else if s.jobs.fsDisable.isSome then s.fail pc .resourceBusy 0
    else if s.aliveTiles.all (fun t => (s.tile t).fs.mode == .disabled) then s.ok pc [(32, 0), (32, 0)]
    else
      let s1 := s.aliveTiles.foldl (fun a t =>
        let l := a.dirtyOrder t
        a.modFs t (fun g => { g with mode := .draining, drain := l, drained := l.length, through := 0 })) s
      s1.modJobs (fun j => { j with fsDisable := some (pc.ring, pc.cid) }))

/-- R157 step 3: none of the frames to drain counts as dirty any longer: every Clean tag becomes Invalid and the tile is
DISABLED. FS_DISABLE completes with the last tile. -/
def State.fsDrainCompleteEff (s : State) (tile : Nat) : State :=
  let g := (s.tile tile).fs
  if !s.alive tile || g.mode != .draining || g.drain.any (fun f => (s.frame tile f).countsDirty) then s
  else
    let s1 := (s.modFs tile (fun g => { g with mode := .disabled, drain := [], frames := g.frames.filter (fun e => e.2.st != .clean) })).event
      Gb.FS_DISABLED tile [tile, g.drained, g.through]
    if s1.aliveTiles.all (fun t => (s1.tile t).fs.mode == .disabled) then
      match s1.jobs.fsDisable with
      | some (r, c) => (s1.modJobs (fun j => { j with fsDisable := none })).ok { ring := r, cid := c } s1.drainResults
      | none => s1
    else s1

/-- R159: a tile is enabled; its transient frames become ordinary frames. -/
def State.fsEnableTile (s : State) (t : Nat) : State :=
  (s.modFs t (fun g => { g with mode := .enabled, drain := [], waysWait := false })).event Gb.FS_ENABLED t [t, waysOf s.jobs.ways]

/-- R159, R160: FS_ENABLE. -/
def State.fsEnableEff (s : State) (pc : PortCmd) : State :=
  s.porterRun pc 0x0104 true s.md.sdService (fun s =>
    match s.jobs.fsDisable with
    | some (r, c) =>
      let res := s.drainResults
      let s1 := s.aliveTiles.foldl State.fsEnableTile (s.modJobs (fun j => { j with fsDisable := none }))
      (s1.finish { ring := r, cid := c } { status := Status.aborted.code, results := res }).ok pc [(2, s.jobs.ways)]
    | none =>
      if s.aliveTiles.all (fun t => (s.tile t).fs.mode == .enabled) then s.ok pc [(2, s.jobs.ways)]
      else if s.jobs.waysNext = s.jobs.ways then (s.aliveTiles.foldl State.fsEnableTile s).ok pc [(2, s.jobs.ways)]
      else if s.md.mode != .service then s.fail pc .wrongMode s.md.mode.code
      else
        (s.aliveTiles.foldl (fun a t => a.modFs t (fun g => { g with waysWait := true })) s).modJobs
          (fun j => { j with fsEnable := some (pc.ring, pc.cid) }))

/-- R159: a tile that holds no transient frame applies WAYS_NEXT; with the last tile the ways change and FS_ENABLE
completes. -/
def State.fsWaysApplyEff (s : State) (tile : Nat) : State :=
  let g := (s.tile tile).fs
  if !s.alive tile || !g.waysWait || !g.frames.isEmpty then s
  else
    let s1 := s.modFs tile (fun g => { g with waysWait := false, plru := [], epoch := 0 })
    if s1.aliveTiles.all (fun t => !(s1.tile t).fs.waysWait) then
      let s2 := s1.modJobs (fun j => { j with ways := j.waysNext, fsEnable := none })
      let s3 := s2.aliveTiles.foldl State.fsEnableTile s2
      match s.jobs.fsEnable with
      | some (r, c) => s3.ok { ring := r, cid := c } [(2, s3.jobs.ways)]
      | none => s3
    else s1

/-- R159, R162: FS_SET_WAYS. -/
def State.fsSetWaysEff (s : State) (pc : PortCmd) (ways : Nat) (persist : Bool) : State :=
  s.porterRun pc 0x0105 true s.md.inService (fun s =>
    if !s.aliveTiles.all (fun t => (s.tile t).fs.mode == .disabled) then s.fail pc .wrongMode s.md.mode.code
    else
      let s1 := (s.modJobs (fun j => { j with waysNext := ways % 4 })).ok pc []
      if persist then s1.psPersist pc [(Param.FS_WAYS, leBytes 1 (ways % 4))] else s1)

/-- R161, R162: FS_SET_DIRTY_LIMIT. LIMIT is that of the lowest tile in the mask; with an empty mask no value is stated. -/
def State.fsSetDirtyLimitEff (s : State) (pc : PortCmd) (tileMask cap : Nat) (persist : Bool) : State :=
  s.porterRun pc 0x0106 true s.md.operating (fun s =>
    s.checkFields pc [decide (tileMask < 2 ^ s.pop.tiles)] (fun s =>
      let l := s.present.filter (bitOf tileMask)
      let s1 := l.foldl (fun a t =>
        let old := (a.tile t).fs.cap
        let b := a.modFs t (fun g => { g with cap := cap })
        (if old = cap then b else b.event Gb.FS_LIMIT_CAP t [t, cap]).judgeThrottle t) s
      let lim := match l.head? with | some t => s1.effLimit t | none => s1.freeNow % 2 ^ 21
      let s2 := (if l.isEmpty then s1.bumpFree else s1).ok pc [(21, lim)]
      if persist then s2.psPersist pc (l.map (fun t => (Param.FS_CAP + t, leBytes 4 cap))) else s2))

/-! ### Tag scan (R163) -/

/-- R163: the background scan meets the tag word of a frame with the upset given. -/
def State.tagScanEff (s : State) (tile frame : Nat) (upset : Upset) : State :=
  if !s.alive tile || !s.regBit Reg.FS_CTL 0 then s
  else
    (s.tagRead tile frame (Nat.xor (agetD frame 0 (s.tile tile).fs.tagFlips) (upset.tagBits % 2 ^ 36)) upset.hard
      (decide (4 < upset.metaSyms + s.flipsIn tile frame 64))).1.settle

/-! ### The commands of this family -/

/-- COMMIT_CHOOSE (R150): The commit engine chooses a dirty frame and starts its fill or program. -/
def execCommitChoose (tile bad : Nat) (s : State) : Host.Outcome State Fault Refusal :=
  s.run (fun x => x.commitChooseEff tile bad)

/-- EPOCH_ADVANCE (R149): Every 1 ms the current epoch advances unless the next epoch still holds dirty frames. -/
def execEpochAdvance (tile : Nat) (s : State) : Host.Outcome State Fault Refusal :=
  s.run (fun x => x.epochAdvanceEff tile)

/-- LINE_FILL_DONE (R143): A line fill ends and the frame returns to Dirty or Locked. -/
def execLineFillDone (tile frame : Nat) (errs : List LineErr) (latNs : Nat)
    (s : State) : Host.Outcome State Fault Refusal :=
  s.run (fun x => x.lineFillDoneEff tile frame errs latNs)

/-- COMMIT_FILL_DONE (R151): A commit fill ends; the frame goes to Writing-back and its program starts. -/
def execCommitFillDone (tile frame : Nat) (errs : List LineErr) (bad latNs : Nat)
    (s : State) : Host.Outcome State Fault Refusal :=
  s.run (fun x => x.commitFillDoneEff tile frame errs bad latNs)

/-- FRAME_COMMIT_COMPLETE (R143): A frame reaches step 5 of the commit and becomes Clean, Dirty or Locked. -/
def execFrameCommitComplete (tile frame latNs : Nat) (s : State) : Host.Outcome State Fault Refusal :=
  s.run (fun x => x.frameCommitCompleteEff tile frame latNs)

/-- SEGMENT_LOCK_RELEASE (R144): A segment lock is released and a waiting fill, commit or maintenance operation
proceeds. -/
def execSegmentLockRelease (tile seg latNs : Nat) (s : State) : Host.Outcome State Fault Refusal :=
  s.run (fun x => x.segmentLockReleaseEff tile seg latNs)

/-- FS_FLUSH_ALL (R154): Command that commits every frame counting as dirty. -/
def execFsFlushAll (pc : PortCmd) (s : State) : Host.Outcome State Fault Refusal :=
  s.run (fun x => x.fsFlushAllEff pc)

/-- FS_FLUSH_RANGE (R154): Command that commits dirty frames of a range. -/
def execFsFlushRange (pc : PortCmd) (ld : Nat) (pkg : Bool) (start length : Nat)
    (s : State) : Host.Outcome State Fault Refusal :=
  s.run (fun x => x.fsFlushRangeEff pc ld pkg start length)

/-- FS_INVALIDATE_RANGE (R155): Command that commits and invalidates the frames of a range. -/
def execFsInvalidateRange (pc : PortCmd) (ld : Nat) (pkg : Bool) (start length : Nat)
    (s : State) : Host.Outcome State Fault Refusal :=
  s.run (fun x => x.fsInvalidateRangeEff pc ld pkg start length)

/-- FS_DISABLE (R157): Command that drains and disables the Front Store. -/
def execFsDisable (pc : PortCmd) (s : State) : Host.Outcome State Fault Refusal :=
  s.run (fun x => x.fsDisableEff pc)

/-- FS_DRAIN_COMPLETE (R157): A draining tile has no frame left dirty from recognition and becomes DISABLED. -/
def execFsDrainComplete (tile : Nat) (s : State) : Host.Outcome State Fault Refusal :=
  s.run (fun x => x.fsDrainCompleteEff tile)

/-- FS_ENABLE (R159): Command that re-enables the Front Store, applying WAYS_NEXT. -/
def execFsEnable (pc : PortCmd) (s : State) : Host.Outcome State Fault Refusal :=
  s.run (fun x => x.fsEnableEff pc)

/-- FS_WAYS_APPLY (R159): A tile holds no transient frame and applies the new way count. -/
def execFsWaysApply (tile : Nat) (s : State) : Host.Outcome State Fault Refusal :=
  s.run (fun x => x.fsWaysApplyEff tile)

/-- FS_SET_WAYS (R162): Command that sets WAYS_NEXT. -/
def execFsSetWays (pc : PortCmd) (ways : Nat) (persist : Bool)
    (s : State) : Host.Outcome State Fault Refusal :=
  s.run (fun x => x.fsSetWaysEff pc ways persist)

/-- FS_SET_DIRTY_LIMIT (R161): Command that sets the dirty-limit cap per tile. -/
def execFsSetDirtyLimit (pc : PortCmd) (tileMask cap : Nat) (persist : Bool)
    (s : State) : Host.Outcome State Fault Refusal :=
  s.run (fun x => x.fsSetDirtyLimitEff pc tileMask cap persist)

/-- TAG_SCAN (R163): The background scan checks tag words using idle lookup cycles. -/
def execTagScan (tile frame : Nat) (upset : Upset) (s : State) : Host.Outcome State Fault Refusal :=
  s.run (fun x => x.tagScanEff tile frame upset)

end Sys2Proof.Machine
end

