-- ==== Sys2Proof/Machine/Transactions.lean ====
section
/-! DEFINITION. Machine/Transactions.lean: CXL.mem requests and their order (02_host_ports.md R49 to R56,
03_transactions.md), and the delivery of mesh messages (01_architecture.md R18). -/

namespace Sys2Proof.Machine

open Sys2Proof

/-! ### Acceptance and decode (R49 to R55) -/

/-- R39: the LD that a request names, as 16 × head + LD; an SLD head has LD 0 only. -/
def State.ldOf (s : State) (h ld : Nat) : Nat := 16 * h + (if (s.head h).mld then ld else 0)

/-- R55, R319, R540: the package accepts CXL.mem. -/
def State.memAccepted (s : State) : Bool :=
  s.md.inService3 && s.md.drain.isNone && !((s.md.prep.map (·.graceDone)).getD false)

/-- R55, R66: a request of an LD is refused. -/
def State.memRefused (s : State) (h c : Nat) : Bool := !s.memAccepted || !(s.head h).cxl || (s.ldev c).refused

/-- R53, R55: the head's link carries CXL.mem: it is up, and the package is not in Off, Standby or Hold-up. -/
def State.memLink (s : State) (h : Nat) : Bool :=
  s.alive h && (s.head h).up && !(s.md.mode == .off || s.md.mode == .standby || s.md.mode == .holdup)

/-- R52: bytes that decoder `d` covers of the LD's DPA. -/
def Hdm.share (d : Hdm) : Nat := d.size * 2 ^ 28 / 2 ^ d.ways

/-- R52: decoder DPA base: the skips up to this decoder and the shares of the lower-numbered decoders. -/
def hdmBase (l : List Hdm) (i : Nat) : Nat :=
  total ((l.take i).map Hdm.share) + total ((l.take (i + 1)).map (fun d => d.skip * 2 ^ 28))

/-- R52: HPA to LD DPA: the DPA of the decoder that covers it, with whether its interleave bits name this target. -/
def hdmDecode (l : List Hdm) (hpa : Nat) : Option (Nat × Bool) :=
  match (List.range l.length).find? (fun i =>
    let d := l.getD i {}
    d.committed && decide (d.base * 2 ^ 28 ≤ hpa ∧ hpa < (d.base + d.size) * 2 ^ 28)) with
  | none => none
  | some i =>
    let d := l.getD i {}
    let off := hpa - d.base * 2 ^ 28
    some (hdmBase l i + off / 2 ^ (d.gran + d.ways) * 2 ^ d.gran + off % 2 ^ d.gran, off / 2 ^ d.gran % 2 ^ d.ways == d.target)

/-- What an address turns out to be. -/
inductive MemAddr where
  /-- R52: no decoder or another target -/
  | unmapped
  /-- R49: in no extent or static block that the LD holds: its DPA -/
  | unbacked (dpa : Nat)
  /-- package DPA of the line -/
  | line (dpa : Nat)
  deriving DecidableEq, Repr

/-- R49 to R52: HPA to package DPA through the decoders and the LD block table. -/
def State.memDecode (s : State) (c hpa : Nat) : MemAddr :=
  match hdmDecode ((s.ldev c).hdm.toList.take (if (s.head (c / 16)).mld then 1 else 8)) hpa with
  | none | some (_, false) => .unmapped
  | some (d, true) =>
    match (s.ldBlocks c).find? (fun e => e.2 == d / 2 ^ 28) with
    | some e => .line (e.1 * 2 ^ 28 + d % 2 ^ 28 / 64 * 64)
    | none => .unbacked d

/-! ### Credits and the tracker (R71 to R74) -/

/-- R71, R72: entries of the head's tracker, both tiles' on a bonded head. -/
def State.trackerCap (s : State) (h : Nat) : Nat := if (s.head h).bonded then 16384 else 8192

/-- R72: entries reserved for reads; values above 8 act as 8. -/
def State.readReserve (s : State) (h : Nat) : Nat :=
  512 * min 8 (s.fld (Reg.TXN_CTL h) 7 4) * (if (s.head h).bonded then 2 else 1)

/-- R32, R68: lines of 64 bytes that the read payload of the head's link carries in 1 µs. -/
def Head.linesPerUs (d : Head) : Nat :=
  let tenths := match d.speed with | 2 => 64 | 3 => 130 | 4 => 260 | 5 => 520 | _ => 0
  tenths * 100 * d.width / 512

/-- R68: bandwidth is left in this window for a request of the LD: below its BW Limit, and, where the head's LDs have Allocated BW, out of the
LD's own or of what the others neither have used nor hold allocated (notes/assumptions/35.md). -/
def State.bwRoom (s : State) (c : Nat) : Bool :=
  let d := s.ldev c
  let line := (s.head (c / 16)).linesPerUs
  let lds := (s.cap.lds.filter (fun e => e.1 / 16 == c / 16)).map (·.2)
  let claimed := total (lds.map (fun x => max (x.bwUsed * 256) (line * x.bwAlloc)))
  (d.bwLimit == 0 || decide (d.bwUsed * 256 < line * d.bwLimit))
    && (lds.all (fun x => x.bwAlloc == 0) || decide (d.bwUsed * 256 < line * d.bwAlloc) || decide (claimed < line * 256))

/-- R73: a request comes with data: it uses an RwD credit. -/
def ReqKind.isWrite : ReqKind → Bool
  | .wr | .ptl => true
  | .rd | .inv => false

/-- R71, R72, R68: a request can be allocated a tracker entry. -/
def State.canAllocate (s : State) (r : Req) : Bool :=
  let l := (s.tile r.head).txn.tracker
  let cap := s.trackerCap r.head
  let writes := (l.filter (fun q => q.kind.isWrite)).length
  decide (l.length < cap) && (!r.kind.isWrite || decide (writes + s.readReserve r.head < cap)) && s.bwRoom (s.ldOf r.head r.ld)

/-- R73, R88: the credit of a request returns to the host; RwD credits are paced while a tile throttles. -/
def State.creditBack (s : State) (h : Nat) (kind : ReqKind) : State :=
  let paced := s.aliveTiles.any (fun t => (s.tile t).txn.throttle)
  s.modHead h (fun d =>
    if !kind.isWrite then { d with reqCredits := d.reqCredits + 1 }
    else if paced then { d with rwdPaced := d.rwdPaced + 1 } else { d with rwdCredits := d.rwdCredits + 1 })

/-- R73: a request takes one of the credits that the host holds. -/
def State.creditTake (s : State) (h : Nat) (kind : ReqKind) : State :=
  s.modHead h (fun d =>
    if !kind.isWrite then { d with reqCredits := d.reqCredits - 1 } else { d with rwdCredits := d.rwdCredits - 1 })

/-- R92: TIMEOUT_MS; 0 acts as 1. -/
def State.timeoutMs (s : State) (h : Nat) : Nat := max 1 (s.fld (Reg.TXN_CTL h) 11 8)

/-- R55, R66: a request is refused: a read returns poison, a write is not applied and completes. -/
def State.memRefuse (s : State) (r : Req) (latNs : Nat) : State :=
  (s.latch (Reg.HEAD_ERR_STATUS r.head) 8 Gb.MEM_REFUSED r.head [r.head, r.ld, if r.kind = .rd then 0 else if r.kind = .wr then 1 else 2]).respond
    { r with cse := 10, bound := 250 } (some 0) (r.kind == .rd) latNs

/-- R49, R52: an access that no extent or decoder backs: a read returns poison, a write is not applied and completes. The
record marks an invalid address with cause 11; its detail is the DPA, with the type in the bits below 64. -/
def State.memUnbacked (s : State) (r : Req) (cause addr latNs : Nat) : State :=
  let type := if r.kind = .rd then 0 else if r.kind = .wr then 1 else 2
  let s1 := s.latch (Reg.HEAD_ERR_STATUS r.head) 6 Gb.DC_UNBACKED r.head ([r.head, r.ld] ++ gbWide addr ++ [type])
  (s1.evtFor [s.ldOf r.head r.ld] 1 { kind := 0, cause := cause, info := addr / 64 * 64 + type }).respond r (some 0) (r.kind == .rd) latNs

/-- R49, R53, R55: a request with a tracker entry is served: at the head, or by the tile that serves its line. -/
def State.serveReq (s : State) (r : Req) (u : Upset) (latNs : Nat) (idle : Bool) : State :=
  match r.way with
  | .refuse => s.memRefuse r latNs
  | .unbacked cause addr => s.memUnbacked r cause addr latNs
  | .line => if r.kind == .inv then s.respond r none false latNs else s.dispatchReq r u latNs idle

/-- R71, R73, R98: a request takes a tracker entry, its credit goes back, and it is served. -/
def State.allocate (s : State) (r : Req) (u : Upset) (latNs : Nat) (idle : Bool) : State :=
  let q := { r with timeoutMs := s.timeoutMs r.head }
  let s1 := (s.modTxn r.head (fun x => { x with tracker := x.tracker ++ [q] })).creditBack r.head r.kind
  let s2 := if r.way == .line && r.kind != .inv then s1.modLd (s1.ldOf r.head r.ld) (fun d => { d with bwUsed := d.bwUsed + 1 }) else s1
  s2.serveReq q u latNs idle

/-- R73: no entry can be allocated: the request waits in the ingress buffer and its credit is held back. -/
def State.holdBack (s : State) (r : Req) : State :=
  let first := (s.tile r.head).txn.ingress.isEmpty
  let s1 := s.modTxn r.head (fun x => { x with ingress := x.ingress ++ [{ r with waited := true }] })
  if first then s1.perfEvent r.head 0x08 0 1 else s1

/-- 09_caravan.md R307: an LD block of a range whose package was replaced, until its release ends. -/
def State.replacedRange (s : State) (c blk : Nat) : Bool :=
  s.car.role == 1 && s.cap.releases.any (fun r => r.ld == c && decide (r.start ≤ blk ∧ blk < r.start + r.blks.length)
    && r.blks.all (fun b => (s.carRow b).isSome))

/-- R62: a flit fails its integrity check: it is dropped and the CXL.mem stream of the head turns insecure. -/
def State.ideFail (s : State) (h stream : Nat) : State :=
  (s.modHead h (fun d => { d with ide := vmod stream (fun x => { x with insecure := true }) d.ide })).latch
    (Reg.HEAD_ERR_STATUS h) 7 Gb.IDE_FAIL h [h, stream]

/-- R62: a flit of the CXL.mem stream of a head is processed: the head's link carries CXL.mem, and its stream is not insecure. -/
def State.memTaken (s : State) (h : Nat) : Bool := s.memLink h && !(vget 0 {} (s.head h).ide).insecure

/-- R49 to R55: what a request is found to be on arrival, and the package DPA of its line. -/
def State.reqWay (s : State) (m : MemReq) (kind : ReqKind) : ReqWay × Nat :=
  let c := s.ldOf m.head m.ld
  if s.memRefused m.head c then (.refuse, 0)
  else if kind == .inv then (.line, 0)
  else
    match s.memDecode c m.hpa with
    | .unmapped => (.unbacked 11 m.hpa, 0)
    | .unbacked d => if s.replacedRange c (d / 2 ^ 28) then (.refuse, 0) else (.unbacked 0 d, 0)
    | .line dpa => (.line, dpa)

/-- R53: a CXL.mem request of a kind arrives at a head. -/
def State.memRequest (s : State) (m : MemReq) (kind : ReqKind) (data : Line) (be : Nat) (poison : Bool) : State :=
  let h := m.head
  if !s.memTaken h then s
  else if !m.ideOk then s.ideFail h 0
  else
    let w := s.reqWay m kind
    let q : Req := { id := s.jobs.nextId, head := h, tag := m.tag, ld := m.ld, dpa := w.2, kind := kind, data := data, be := be, poison := poison,
                     owner := if w.1 == .line && kind != .inv then s.segTile (w.2 / 4096) else h, way := w.1, metaField := m.metaField }
    let s0 := (s.creditTake h kind).modJobs (fun j => { j with nextId := j.nextId + 1 })
    let s1 := if kind = .inv then s0 else s0.perfEvent h (if kind = .rd then 1 else 2) 0 1
    let s2 := if poison && w.1 != .refuse then s1.latch (Reg.HEAD_ERR_STATUS h) 5 Gb.POISON_RX h ([h] ++ gbWide m.hpa) else s1
    if s2.canAllocate q && !((s2.tile h).txn.ingress.any (fun i => i.kind.isWrite == kind.isWrite)) then s2.allocate q m.upset m.latNs m.idle
    else s2.holdBack q

/-- R53: MemRd. -/
def State.memRdEff (s : State) (m : MemReq) : State := s.memRequest m .rd 0 0 false

/-- R53: MemRdData. -/
def State.memRdDataEff (s : State) (m : MemReq) : State := s.memRequest m .rd 0 0 false

/-- R53, R71: MemSpecRd is dropped in the ingress buffer; no prefetch of any kind. -/
def State.memSpecRdEff (s : State) (m : MemReq) : State :=
  if s.memTaken m.head && !m.ideOk then s.ideFail m.head 0 else s

/-- R53: MemInv has no action beside its Cmp. -/
def State.memInvEff (s : State) (m : MemReq) : State := s.memRequest m .inv 0 0 false

/-- R53: MemInvNT has no action beside its Cmp. -/
def State.memInvNtEff (s : State) (m : MemReq) : State := s.memRequest m .inv 0 0 false

/-- R53: MemWr of one line. -/
def State.memWrEff (s : State) (m : MemReq) (data : Line) (poison : Bool) : State := s.memRequest m .wr data (2 ^ 64 - 1) poison

/-- R53: MemWrPtl of the enabled bytes of one line. -/
def State.memWrPtlEff (s : State) (m : MemReq) (data : Line) (be : Nat) (poison : Bool) : State :=
  s.memRequest m .ptl data (be % 2 ^ 64) poison

/-- R53: any other opcode is an unsupported request, recorded as an invalid request (cause 12). -/
def State.unsupportedM2sEff (s : State) (m : MemReq) : State :=
  if !s.memTaken m.head then s
  else if !m.ideOk then s.ideFail m.head 0
  else s.evtFor [s.ldOf m.head m.ld] 1 { kind := 0, cause := 12, info := m.hpa }

/-! ### Waiting requests (R73, R74, R77, R89) -/

/-- R89, R146: commits have freed room: the writes that wait at a tile are performed again in their order. `latNs`, here and below, is the
longest latency of the reads that are answered now (R86). -/
def State.dirtyWaitReleaseEff (s : State) (tile latNs : Nat) : State := if s.alive tile then (s.releaseWrites tile latNs).settle else s

/-- R77: the source admitted next: round-robin over local head and mesh ports, from the one after the last. -/
def Txn.nextSource (x : Txn) : Option (Nat × Req) :=
  ((List.range 4).map (fun i => (x.lastSrc + 1 + i) % 4)).findSome? (fun k => x.hazWait.find? (fun w => w.1 == k))

/-- R77: space frees in the hazard table: the next waiting source is admitted. -/
def State.hazardAdmitEff (s : State) (tile latNs : Nat) : State :=
  let x := (s.tile tile).txn
  match x.nextSource with
  | none => s
  | some w =>
    if !s.alive tile || 16384 ≤ s.hazUsed tile then s
    else
      let s1 := (s.modTxn tile (fun y => { y with hazWait := y.hazWait.erase w, lastSrc := w.1 })).noteWaited w.2
      s1.letIn tile w.1 { w.2 with waited := true } {} latNs false

/-- R73, R88: the first waiting request that can be allocated takes its entry; otherwise one paced RwD credit returns. -/
def State.trackerCreditReleaseEff (s : State) (head latNs : Nat) : State :=
  if !s.memLink head then s
  else
    let x := (s.tile head).txn
    match x.ingress.find? s.canAllocate with
    | some r => (s.modTxn head (fun y => { y with ingress := y.ingress.filter (fun q => q.id != r.id) })).allocate r {} latNs false
    | none =>
      if 0 < (s.head head).rwdPaced then
        s.modHead head (fun d => { d with rwdPaced := d.rwdPaced - 1, rwdCredits := d.rwdCredits + 1 })
      else s

/-- R74: a grant of S2M credits; none is infinite. -/
def addCredit (old grant : Option Nat) : Option Nat :=
  match old, grant with
  | some a, some b => some (a + b)
  | _, _ => none

/-- R74: the host grants S2M credits and the responses that wait leave in their order. -/
def State.s2mCreditGrantEff (s : State) (head : Nat) (ndr drs : Option Nat) (latNs : Nat) : State :=
  if !s.memLink head then s
  else
    let waits := (s.tile head).txn.outQ
    let s1 := (s.modHead head (fun d => { d with ndr := addCredit d.ndr ndr, drs := addCredit d.drs drs })).modTxn head
      (fun x => { x with outQ := [] })
    waits.foldl (fun a w => a.respond w.1 w.2.1 w.2.2 latNs) s1

/-- A message that carries the request of a tracker entry. -/
def MsgBody.isReq (id : Nat) : MsgBody → Bool
  | .memReq q => q.id == id
  | _ => false

/-- R93: a write whose line is not stored: it waits at a tile, for a tile, or on the mesh. -/
def State.notStored (s : State) (r : Req) : Bool :=
  s.present.any (fun t =>
    (s.tile t).txn.haz.any (fun h => h.req.id == r.id && !h.st.isThrough) || (s.tile t).txn.hazWait.any (fun w => w.2.id == r.id))
  || s.jobs.links.any (fun e => e.2.any (fun m => m.body.isReq r.id)) || s.jobs.heldBack.any (fun m => m.body.isReq r.id)

/-- R93: a write ends unapplied wherever it waits. -/
def State.dropWrite (s : State) (r : Req) : State :=
  let s1 := s.present.foldl (fun a t => a.modTxn t (fun x =>
    { x with haz := x.haz.filter (fun h => h.req.id != r.id), hazWait := x.hazWait.filter (fun w => w.2.id != r.id) })) s
  let s2 := s1.modJobs (fun j =>
    { j with links := (j.links.map (fun e => (e.1, e.2.filter (fun m => !m.body.isReq r.id)))).filter (fun e => !e.2.isEmpty),
             heldBack := j.heldBack.filter (fun m => !m.body.isReq r.id) })
  let s3 := (s2.modTxn r.head (fun x => { x with tracker := x.tracker.filter (fun q => q.id != r.id) })).modHead r.head
    (fun d => { d with gpf := d.gpf.map (fun l => l.filter (· != r.id)) })
  s3.aliveTiles.foldl (fun a t => (a.wakeLines t 0).endWait t) s3

/-- R93: the timer of a tracker entry expires. A response that waits for an S2M credit (R74) gives way to the poison. -/
def State.trackerTimeoutEff (s : State) (head id latNs : Nat) : State :=
  match s.trk head id with
  | none => s
  | some r =>
    if !s.memLink head then s
    else if r.kind == .rd then
      let s1 := s.modTxn head (fun x => { x with outQ := x.outQ.filter (fun w => w.1.id != id) })
      ((s1.latch (Reg.TXN_ERR_STATUS head) 0 Gb.TXN_TIMEOUT head [r.owner, 0]).evtSeg 0 (r.dpa / 4096)).respond r (some 0) true latNs
    else if s.notStored r then
      (s.dropWrite r).latch (Reg.TXN_ERR_STATUS head) 1 Gb.TXN_TIMEOUT head [r.owner, if r.kind = .wr then 1 else 2]
    else s

/-- R68: a window of 1 µs ends at a head: the average DevLoad of its responses, in 1/256, and the LDs' use of bandwidth.
A window without a response has no average that the manual states. -/
def State.qosWindowEndEff (s : State) (head : Nat) : State :=
  let (n, sum) := (s.head head).devLoadAcc
  let avg := if n = 0 then s.freeNow % 769 else sum * 256 / n
  let s1 := s.modHead head (fun d => { d with devLoadAvg := avg, devLoadAcc := (0, 0) })
  (s1.modCap (fun c => { c with lds := c.lds.map (fun e => if e.1 / 16 = head then (e.1, { e.2 with bwUsed := 0 }) else e) })).bumpFree

/-! ### The mesh (01_architecture.md R17 to R19) -/

/-- R18: a message reaches the tile it is for. A tick count aligns the tile's copy (R20). Shed stages, fences and failed tiles act on the
package with the command that announces them (notes/assumptions/132.md). -/
def State.meshConsume (s : State) (tile port : Nat) (m : Msg) (u : Upset) (latNs : Nat) (idle : Bool) : State :=
  match m.body with
  | .memReq r => s.recognise tile (1 + port) r u latNs idle
  | .memRsp id data poison => s.reply tile id data poison latNs
  | .delta _ | .ack _ _ => s.modCupT tile (fun c => { c with inbox := c.inbox ++ [m] })
  | .heartbeat => s.modMd (fun d => { d with missed := adel m.src d.missed })
  | .tick _ => s.modBelT tile (fun b => { b with tick := s.bel.refAngle % 2 ^ 48 / 2 ^ 32 })
  | .stage _ | .fence .. | .failed _ | .mgmt => s

/-- R371: the mesh link at a port retrains after a clock move, on either of its tiles. -/
def State.linkRetrains (s : State) (t d : Nat) : Bool :=
  s.present.any (fun u => [0, 1, 2].any (fun e => s.linkKey u e == s.linkKey t d && bitOf (s.tile u).clk.meshRetrain e))

/-- R18: messages of a class that wait to cross to a tile's port; MEM messages wait while the link retrains (R371). -/
def State.meshWaits (s : State) (tile port cls : Nat) : Bool :=
  !(agetD (16 * tile + 4 * port + cls) [] s.jobs.links).isEmpty && !(cls == 1 && s.linkRetrains tile port)

/-- R18: the class that a port serves next: SYNC, MEM, PAR, MGMT in this order, but PAR once three messages of other classes have passed one
of its own, and MGMT once nineteen have (the guarantees of 25 % and 5 %, notes/assumptions/133.md). -/
def State.meshServes (s : State) (tile port : Nat) : Option Nat :=
  let k := agetD (4 * tile + port) (0, 0) s.jobs.shares
  if s.meshWaits tile port 3 && decide (19 ≤ k.2) then some 3
  else if s.meshWaits tile port 2 && decide (3 ≤ k.1) then some 2
  else (List.range 4).find? (s.meshWaits tile port)

/-- R18: a port has served a class. -/
def State.meshServed (s : State) (tile port cls : Nat) : State :=
  let k := agetD (4 * tile + port) (0, 0) s.jobs.shares
  let p := if cls ≠ 2 && s.meshWaits tile port 2 then k.1 + 1 else 0
  let g := if cls ≠ 3 && s.meshWaits tile port 3 then k.2 + 1 else 0
  s.modJobs (fun j => { j with shares := aputD (0, 0) (4 * tile + port) (p, g) j.shares })

/-- R17, R18, R76: the first message of the class that a port serves next arrives: it is forwarded, or it is for this tile. `upset`,
`latNs` and `idle` are what a request for this tile meets. -/
def State.meshMessageDeliverEff (s : State) (tile port cls : Nat) (upset : Upset) (latNs : Nat) (idle : Bool) : State :=
  let k := 16 * tile + 4 * port + cls
  match agetD k [] s.jobs.links with
  | [] => s
  | m :: l =>
    if s.meshServes tile port ≠ some cls then s else
    let s0 := s.meshServed tile port cls
    let s1 := s0.modJobs (fun j => { j with links := if l.isEmpty then adel k j.links else aput k l j.links })
    let s2 := if m.dst ≠ tile then s1.meshPut tile m
      else if s1.alive tile then s1.meshConsume tile port m upset latNs idle
      else s1
    if m.old then s2.releaseHeld else s2

/-! ### The commands of this family -/

/-- MESH_MESSAGE_DELIVER (R76): A mesh message arrives at a tile and is forwarded or consumed. -/
def execMeshMessageDeliver (tile port cls : Nat) (upset : Upset) (latNs : Nat) (idle : Bool)
    (s : State) : Host.Outcome State Fault Refusal :=
  s.run (fun x => x.meshMessageDeliverEff tile port cls upset latNs idle)

/-- MEM_RD (R53): MemRd of one 64-byte line is received and served. -/
def execMemRd (m : MemReq) (s : State) : Host.Outcome State Fault Refusal :=
  s.run (fun x => x.memRdEff m)

/-- MEM_RD_DATA (R53): MemRdData of one line is received and served. -/
def execMemRdData (m : MemReq) (s : State) : Host.Outcome State Fault Refusal :=
  s.run (fun x => x.memRdDataEff m)

/-- MEM_SPEC_RD (R53): MemSpecRd is dropped in the ingress buffer. -/
def execMemSpecRd (m : MemReq) (s : State) : Host.Outcome State Fault Refusal :=
  s.run (fun x => x.memSpecRdEff m)

/-- MEM_INV (R53): MemInv is completed with Cmp and no action. -/
def execMemInv (m : MemReq) (s : State) : Host.Outcome State Fault Refusal :=
  s.run (fun x => x.memInvEff m)

/-- MEM_INV_NT (R53): MemInvNT is completed with Cmp and no action. -/
def execMemInvNt (m : MemReq) (s : State) : Host.Outcome State Fault Refusal :=
  s.run (fun x => x.memInvNtEff m)

/-- MEM_WR (R53): MemWr of one line is stored in the front store and completed. -/
def execMemWr (m : MemReq) (data : Line) (poison : Bool) (s : State) : Host.Outcome State Fault Refusal :=
  s.run (fun x => x.memWrEff m data poison)

/-- MEM_WR_PTL (R53): MemWrPtl of the enabled bytes is merged into a frame and completed. -/
def execMemWrPtl (m : MemReq) (data : Line) (be : Nat) (poison : Bool)
    (s : State) : Host.Outcome State Fault Refusal :=
  s.run (fun x => x.memWrPtlEff m data be poison)

/-- UNSUPPORTED_M2S (R53): Any other M2S opcode is treated as an unsupported request. -/
def execUnsupportedM2s (m : MemReq) (s : State) : Host.Outcome State Fault Refusal :=
  s.run (fun x => x.unsupportedM2sEff m)

/-- DIRTY_WAIT_RELEASE (R89): Commits free dirty space or a way and a waiting write proceeds. -/
def execDirtyWaitRelease (tile latNs : Nat) (s : State) : Host.Outcome State Fault Refusal :=
  s.run (fun x => x.dirtyWaitReleaseEff tile latNs)

/-- HAZARD_ADMIT (R77): Hazard entries free and waiting sources are admitted round-robin. -/
def execHazardAdmit (tile latNs : Nat) (s : State) : Host.Outcome State Fault Refusal :=
  s.run (fun x => x.hazardAdmitEff tile latNs)

/-- TRACKER_CREDIT_RELEASE (R73): A tracker entry frees and a held credit can be returned. -/
def execTrackerCreditRelease (head latNs : Nat) (s : State) : Host.Outcome State Fault Refusal :=
  s.run (fun x => x.trackerCreditReleaseEff head latNs)

/-- S2M_CREDIT_GRANT (R74): The host grants S2M credits and waiting responses leave. -/
def execS2mCreditGrant (head : Nat) (ndr drs : Option Nat) (latNs : Nat) (s : State) : Host.Outcome State Fault Refusal :=
  s.run (fun x => x.s2mCreditGrantEff head ndr drs latNs)

/-- TRACKER_TIMEOUT (R93): A tracker entry's timer expires; a read returns poison or a write is dropped. -/
def execTrackerTimeout (head id latNs : Nat) (s : State) : Host.Outcome State Fault Refusal :=
  s.run (fun x => x.trackerTimeoutEff head id latNs)

/-- QOS_WINDOW_END (R68): A 1 µs QoS window ends and per-LD bandwidth and average DevLoad are updated. -/
def execQosWindowEnd (head : Nat) (s : State) : Host.Outcome State Fault Refusal :=
  s.run (fun x => x.qosWindowEndEff head)

end Sys2Proof.Machine
end

