-- ==== Sys2Proof/Machine/Heads.lean ====
section
/-! DEFINITION. Machine/Heads.lean: links and resets of the heads, Global Persistent Flush, HDM decoders and configuration
requests (02_host_ports.md R31 to R39, R50, R51, R58 to R61). -/

namespace Sys2Proof.Machine

open Sys2Proof

/-! ### Link training (R31 to R39) -/

/-- R37, R316 step 4: a head has a link of its own that may train: resets are released, its PERST_N is high, and it is not
the upper half of a bonded pair. -/
def State.mayTrain (s : State) (h : Nat) : Bool :=
  s.alive h && s.md.resetsReleased && bitOf s.md.perstHigh h && !bitOf s.clk.refFail h && !(s.head h).upper
    && !(s.md.mode == .off || s.md.mode == .standby || s.md.mode == .holdup)

/-- MAX_SPEED of HEAD_LINK_CTL; codes above 64 GT/s act as it. -/
def maxSpeed (ctl : Nat) : Nat := min 5 (ctl % 8)

/-- MAX_WIDTH of HEAD_LINK_CTL in lanes. -/
def maxWidth (ctl : Nat) (bonded : Bool) : Nat :=
  match ctl / 8 % 4 with
  | 0 => 1
  | 1 => 2
  | 2 => 4
  | _ => if bonded then 16 else 8

/-- HEAD_LINK_CTL bits 7:0. -/
def State.linkCtl (s : State) (h : Nat) : Nat := s.fld (Reg.HEAD_LINK_CTL h) 7 0

/-- R69: a training of the head's link starts, under the limits that stand now. -/
def State.startTraining (s : State) (h : Nat) : State := s.modHead h (fun d => { d with training := true, trainCtl := s.linkCtl h })

/-- R69: the limits of the training that ends: those at its start, or, where the link partner started it, those that stand. -/
def State.trainedCtl (s : State) (h : Nat) : Nat := if (s.head h).training then (s.head h).trainCtl else s.linkCtl h

/-- R31 to R39, R73: link training of a head ends at a speed and width. `cxl`, `flit` and `mldPartner` are what was
negotiated, `upperFail` says that lanes 8 to 15 of a bonded head did not train, `recoveries` and `replays` are what the link
has counted since its last training; bit n of `polarity` is lane n. R32: a link trained in Flit Mode keeps its 256-byte flits at a lower speed. -/
def State.linkTrainingDoneEff (s : State) (head speed width : Nat) (flit cxl mldPartner : Bool) (ldCount : Nat)
    (reversed : Bool) (polarity : Nat) (upperFail : Bool) (recoveries replays : Nat) : State :=
  if !s.mayTrain head then s
  else
    let pair := s.bondLower head
    let fail := pair && (upperFail || !s.alive (head + 1))
    let bonded := pair && !fail
    let ctl := s.trainedCtl head
    let spd := min speed (maxSpeed ctl)
    let wid := min width (maxWidth ctl bonded)
    let mem := cxl && decide (2 ≤ spd)
    let mld := mem && mldPartner && bitOf ctl 7
    let was := (s.head head).up
    let err := Reg.HEAD_ERR_STATUS head
    let s1 := s.modHead head (fun d =>
      { d with up := true, training := false, speed := spd, width := wid, flit256 := (was && d.flit256) || (flit && maxSpeed ctl == 5), cxl := mem,
               mld := mld, ldCount := if mld then max 1 (min 16 ldCount) else 1, bonded := bonded, reversed := reversed,
               polarity := polarity % 256,
               reqCredits := if was then d.reqCredits else if bonded then 1024 else 512,
               rwdCredits := if was then d.rwdCredits else if bonded then 512 else 256 })
    let cnt := Reg.HEAD_LINK_COUNT head
    -- R34, R37: lanes 8 to 15 of a bonded head are those of the upper tile
    let su := if pair then s1.modHead (head + 1) (fun d => { d with polarity := if bonded then polarity / 256 % 256 else 0 }) else s1
    let sc := (su.addFld cnt 15 0 recoveries).addFld cnt 31 16 replays
    let s2 := if fail then sc.latch err 0 Gb.HEAD_BOND_FAIL head [head] else sc
    let s3 := if spd < 2 then s2.latch err 4 Gb.LINK_SLOW head [head, spd] else s2
    let narrow := decide (wid < maxWidth ctl pair)
    let slow := decide (spd < maxSpeed ctl)
    if narrow && slow then (s3.latch err 3 Gb.LINK_DEGRADED head [head, wid, spd]).latchOnly err 2
    else if narrow then s3.latch err 3 Gb.LINK_DEGRADED head [head, wid, spd]
    else if slow then s3.latch err 2 Gb.LINK_DEGRADED head [head, wid, spd]
    else s3

/-- R316 step 4: the PERST_N of a head goes high and its link starts to train. -/
def State.perstNReleaseEff (s : State) (head : Nat) : State :=
  let s1 := s.modMd (fun d => { d with perstHigh := setBit (d.perstHigh % 256) (head % 8) })
  if s1.mayTrain head && !(s1.head head).up then s1.startTraining head else s1

/-! ### Resets (R60, R61) -/

/-- R51: a conventional reset ends the lock of a decoder; R60 keeps its committed state. -/
def State.unlockHdm (s : State) (h : Nat) : State :=
  s.modCap (fun c => { c with lds := c.lds.map (fun e =>
    if e.1 / 16 = h then (e.1, { e.2 with hdm := vmap (fun d => { d with locked := false }) e.2.hdm }) else e) })

/-- R60: PERST_N (0), a hot reset (1) or a link-down (2) resets the link and transaction layer of a head; a link that is down already does not
go down again (LINK_DOWN). PERST_N of the upper half of a bonded head is ignored (R37). -/
def State.headResetEff (s : State) (head kind : Nat) : State :=
  let s1 := if kind = 0 then s.modMd (fun d => { d with perstHigh := clearBit (d.perstHigh % 256) (head % 8) }) else s
  if (s1.head head).upper then s1
  else if !(s1.head head).up then (if kind = 0 then (s1.headClear head).unlockHdm head else s1)
  else
    let s2 := (s1.headReset head).unlockHdm head
    if kind ≠ 0 ∧ s2.mayTrain head then s2.startTraining head else s2

/-- R61: CXL Reset of a head: its transaction layer is reset, its link stays up. -/
def State.cxlResetEff (s : State) (head : Nat) : State :=
  let old := s.head head
  if !s.alive head || !old.up then s
  else ((s.headClear head).modHead (head + 1) (fun d => { d with polarity := (s.head (head + 1)).polarity })).modHead head (fun d =>
    { d with up := old.up, speed := old.speed, width := old.width, flit256 := old.flit256, cxl := old.cxl, mld := old.mld,
             ldCount := old.ldCount, bonded := old.bonded, reversed := old.reversed, polarity := old.polarity,
             training := old.training, trainCtl := old.trainCtl,
             reqCredits := if old.bonded then 1024 else 512, rwdCredits := if old.bonded then 512 else 256 })

/-- R61: a function-level reset affects CXL.io state only: the Completion Timeout range and Bus Master Enable return to their
reset values. -/
def State.functionLevelResetEff (s : State) (head : Nat) : State :=
  if s.alive head && (s.head head).up then
    s.modHead head (fun d => { d with busMaster := ({} : Head).busMaster, ctoUs := ({} : Head).ctoUs })
  else s

/-- 03_transactions.md R96: µs at which a completion timer expires: the upper limit of the range or sub-range. -/
def ctoLimit : CtoRange → Nat
  | .default => 50000
  | .a1 => 100
  | .a2 => 10000
  | .b1 => 55000
  | .b2 => 210000
  | .c1 => 900000
  | .c2 => 3500000
  | .d1 => 13000000
  | .d2 => 64000000

/-- R65: the Background Command Status register of an LD: opcode, percentage complete, return code. A Scan Media has visited so many of its
pages; how far a Secure Erase or Sanitize counts as complete while it runs the manual does not say. -/
def State.bgStatus (s : State) (c : Nat) : List Nat :=
  match (s.ldev c).bg with
  | some (.scan n) =>
    let left := total (s.aliveTiles.map (fun t => ((s.tile t).med.scan.filter (fun e => e.2 == c)).length))
    [0x4304, if n = 0 then 100 else (n - left) * 100 / n, 0]
  | some (.erase sanitize _ _) => [if sanitize then 0x4400 else 0x4401, s.freeNow % 100, 0]
  | none => [(s.ldev c).bgLast.1, if (s.ldev c).bgLast.1 = 0 then 0 else 100, (s.ldev c).bgLast.2]

/-- What a head reports beside its mapped registers, as a normal answer to a configuration request gives it: R55 Memory_Active, and Media Status
Ready; R58 GPF Phase 2 Duration in ms, and Phase 2 Power in mW; R61 Memory Clear capable; 03_transactions.md R96 Completion Timeout in µs, and
Completion Timeout Disable supported; R65 the Background Command Status of each LD that the head presents. -/
def State.cfgView (s : State) (head : Nat) : List Nat :=
  [b2n s.memAccepted, b2n s.memAccepted, 1, 0, 0, (s.head head).ctoUs, 0]
    ++ (((List.range 16).filter (s.presents head)).map (fun l => s.bgStatus (16 * head + l))).flatten

/-- R62: a TLP of CXL.io that a selective stream carries: it is dropped while the stream is insecure or when its integrity check fails. -/
def State.ioTaken (s : State) (head : Nat) (io : Option (Nat × Bool)) (body : State → State) : State :=
  match io with
  | none => body s
  | some (k, ok) => if (vget k {} (s.head head).ide).insecure then s else if ok then body s else s.ideFail head k

/-- R316 steps 4 and 8: a configuration request is answered with Configuration Request Retry Status until step 8, and normally after. `io` is the
selective stream that carried it and whether its check passed; `cto` is what a write of Device Control 2 selects. -/
def State.configurationRequestEff (s : State) (head : Nat) (io : Option (Nat × Bool)) (cto : Option CtoRange) : State :=
  if !s.alive head || !(s.head head).up then s
  else s.ioTaken head io (fun s =>
    if s.md.mode == .bringup && !bitOf s.md.stepsDone 8 then s.emit (.cfgResponse head true [])
    else
      let s1 := match cto with | some r => s.modHead head (fun d => { d with ctoUs := ctoLimit r }) | none => s
      (s1.emit (.cfgResponse head false (s1.cfgView head))).bumpFree)

/-! ### Global Persistent Flush (R58) -/

/-- R58: Phase 1 is acknowledged at once. -/
def State.gpfPhase1Eff (s : State) (head : Nat) : State := if s.memLink head then s.emit (.gpfAck head 1 false) else s

/-- R58: Phase 2 is acknowledged once every write received before it is complete. -/
def State.gpfPhase2Eff (s : State) (head : Nat) : State :=
  if !s.memLink head then s
  else
    let x := (s.tile head).txn
    let ws := ((x.tracker ++ x.ingress).filter (fun r => r.kind == .wr || r.kind == .ptl)).map (·.id)
      ++ (x.outQ.filter (fun w => w.1.kind == .wr || w.1.kind == .ptl)).map (·.1.id)
    if ws.isEmpty then s.emit (.gpfAck head 2 false)
    else s.modHead head (fun d => { d with gpf := some ws })

/-- R58: the writes before Phase 2 are complete and the head acknowledges. -/
def State.gpfPhase2AckEff (s : State) (head : Nat) : State :=
  if s.memLink head && (s.head head).gpf == some [] then
    (s.modHead head (fun d => { d with gpf := none })).emit (.gpfAck head 2 false)
  else s

/-! ### HDM decoders (R50, R51) -/

/-- R50, R51: an IW or IG encoding that the head supports. -/
def hdmEncOk (iw ig : Nat) : Bool := decide (iw ≤ 3) && decide (ig ≤ 6)

/-- R51: DPA ranges of two decoders of an LD meet. -/
def dpaMeets (a b : Nat × Nat) : Bool := decide (a.1 < b.1 + b.2 ∧ b.1 < a.1 + a.2)

/-- R51: the decoders that a commit of decoder `i` with content `d` keeps from, or lets be, committed. -/
def hdmCommitOk (l : List Hdm) (i : Nat) (d : Hdm) (top : Nat) : Bool :=
  let m := lmod i (fun _ => d) l
  let b := hdmBase m i
  let others := ((List.range l.length).filter (fun j => j != i && (l.getD j {}).committed)).map
    (fun j => (hdmBase m j, (m.getD j {}).share))
  decide (b + d.share ≤ top * 2 ^ 28) && !(others.any (dpaMeets (b, d.share)))
    && (l.take i).all (·.committed) && !((l.drop (i + 1)).any (·.committed))

/-- R51: a decoder of an LD is committed; sizes and addresses are in bytes, `iw` and `ig` as the decoder encodes them. -/
def State.hdmDecoderCommitEff (s : State) (head ld idx iw ig base size skip target : Nat) (lock : Bool) : State :=
  let c := s.ldOf head ld
  let old := (vget idx {} (s.ldev c).hdm)
  let count := if (s.head head).mld then 1 else 8
  if !s.alive head || !(s.head head).up || !s.presents head ld || count ≤ idx || old.locked then s
  else
    let d : Hdm := { base := base / 2 ^ 28, size := size / 2 ^ 28, ways := iw, gran := ig + 8, skip := skip / 2 ^ 28, target := target }
    let ok := hdmEncOk iw ig && size % (2 ^ 28 * 2 ^ iw) == 0 && base % 2 ^ 28 == 0 && hdmCommitOk (s.ldev c).hdm.toList idx d (s.ldTop c)
    s.modLd c (fun x => { x with hdm := vmod idx (fun _ =>
      { d with committed := ok, error := !ok, locked := ok && lock }) x.hdm })

/-! ### The commands of this family -/

/-- LINK_TRAINING_DONE (R31): A head's link training ends, setting speed, width, CXL and degradation flags. -/
def execLinkTrainingDone (head speed width : Nat) (flit cxl mldPartner : Bool) (ldCount : Nat) (reversed : Bool)
    (polarity : Nat) (upperFail : Bool) (recoveries replays : Nat)
    (s : State) : Host.Outcome State Fault Refusal :=
  s.run (fun x => x.linkTrainingDoneEff head speed width flit cxl mldPartner ldCount reversed polarity upperFail recoveries replays)

/-- HEAD_RESET (R60): PERST_N, hot reset or a link down resets the head's link and transaction layer. -/
def execHeadReset (head kind : Nat) (s : State) : Host.Outcome State Fault Refusal :=
  s.run (fun x => x.headResetEff head kind)

/-- CXL_RESET (R61): CXL Reset of a head. -/
def execCxlReset (head : Nat) (s : State) : Host.Outcome State Fault Refusal :=
  s.run (fun x => x.cxlResetEff head)

/-- FUNCTION_LEVEL_RESET (R61): A function-level reset affects CXL.io state only. -/
def execFunctionLevelReset (head : Nat) (s : State) : Host.Outcome State Fault Refusal :=
  s.run (fun x => x.functionLevelResetEff head)

/-- GPF_PHASE1 (R58): GPF Phase 1 is acknowledged at once. -/
def execGpfPhase1 (head : Nat) (s : State) : Host.Outcome State Fault Refusal :=
  s.run (fun x => x.gpfPhase1Eff head)

/-- GPF_PHASE2 (R58): GPF Phase 2 is received; writes received before it are completed. -/
def execGpfPhase2 (head : Nat) (s : State) : Host.Outcome State Fault Refusal :=
  s.run (fun x => x.gpfPhase2Eff head)

/-- GPF_PHASE2_ACK (R58): All earlier writes are complete and Phase 2 is acknowledged. -/
def execGpfPhase2Ack (head : Nat) (s : State) : Host.Outcome State Fault Refusal :=
  s.run (fun x => x.gpfPhase2AckEff head)

/-- HDM_DECODER_COMMIT (R51): A decoder commit is checked and the decoder committed or refused. -/
def execHdmDecoderCommit (head ld idx iw ig base size skip target : Nat) (lock : Bool)
    (s : State) : Host.Outcome State Fault Refusal :=
  s.run (fun x => x.hdmDecoderCommitEff head ld idx iw ig base size skip target lock)

/-- PERST_N_RELEASE (R316): A head's PERST_N rises; its reference clock is judged under R366 and its link training
starts. -/
def execPerstNRelease (head : Nat) (s : State) : Host.Outcome State Fault Refusal :=
  s.run (fun x => x.perstNReleaseEff head)

/-- CONFIGURATION_REQUEST (R316): A configuration request to a head is answered with Configuration Request Retry
Status before step 8 and normally after. -/
def execConfigurationRequest (head : Nat) (io : Option (Nat × Bool)) (cto : Option CtoRange) (s : State) : Host.Outcome State Fault Refusal :=
  s.run (fun x => x.configurationRequestEff head io cto)

end Sys2Proof.Machine
end

