-- ==== Sys2Proof/Machine/FmApi.lean ====
section
/-! DEFINITION. Machine/FmApi.lean: capacity of the package and the fabric manager's commands (02_host_ports.md R41 to R49,
R68; 16_security.md R463; 17_guestbook_parameter_store.md R488). Return codes and opcodes are those of the CXL
specification (PRESUMED, notes/assumptions/20.md). -/

namespace Sys2Proof.Machine

open Sys2Proof

/-! ### Return codes -/

/-- Success. -/
def RET_OK : Nat := 0
/-- Background Command Started. -/
def RET_BACKGROUND : Nat := 1
/-- Invalid Input. -/
def RET_INVALID : Nat := 2
/-- Unsupported. -/
def RET_UNSUPPORTED : Nat := 3
/-- Internal Error. -/
def RET_INTERNAL : Nat := 4
/-- Busy. -/
def RET_BUSY : Nat := 6
/-- Resources Exhausted. -/
def RET_EXHAUSTED : Nat := 0x1D

/-! ### Free blocks (R42) -/

/-- A package block is free: in no state of the table, and not held by Caravan parity (R287). -/
def State.blockFree (s : State) (b : Nat) : Bool := !(ahas b s.cap.table) && !(s.carHeld b)

/-- The lowest-numbered free blocks from `b` on, `n` of them when there are so many. -/
def State.takeFree (s : State) : Nat → Nat → Nat → List Nat
  | 0, _, _ => []
  | f + 1, b, n => if n = 0 then [] else if s.blockFree b then b :: s.takeFree f (b + 1) (n - 1) else s.takeFree f (b + 1) n

/-- R42: the lowest-numbered free package blocks. -/
def State.freeBlocks (s : State) (n : Nat) : List Nat := s.takeFree s.pkgBlocks 0 n

/-- Static blocks of an LD as package block and LD block. -/
def State.staticBlocks (s : State) (c : Nat) : List (Nat × Nat) :=
  (s.cap.table.filter (fun e => e.2.kind == 1 && e.2.ld == c && e.2.region == 15)).map (fun e => (e.1, e.2.ldBlk))

/-- R42: a committed HDM decoder of the LD covers an LD block. -/
def State.hdmCovers (s : State) (c blk : Nat) : Bool :=
  let l := (s.ldev c).hdm.toList
  (List.range l.length).any (fun i => (l.getD i {}).committed && dpaMeets (hdmBase l i, (l.getD i {}).share) (blk * 2 ^ 28, 2 ^ 28))

/-- R463: an LD that first obtains capacity gets its key; none when no key can be drawn. -/
def State.ldKey (s : State) (c : Nat) (trngOk : Bool) : State × Bool :=
  if (s.ldev c).key != 0 then (s, true)
  else match s.drawKey 0 c trngOk with
    | (s1, some k) => (s1.modLd c (fun d => { d with key := k }), true)
    | (s1, none) => (s1, false)

/-! ### Release (R47) -/

/-- R47: spans of package segments of blocks. -/
def blkSpans (blks : List Nat) : List (Nat × Nat) := blks.map (fun b => (b * 65536, 65536))

/-- R47 step 2: blocks enter the releasing state; their frames are invalidated and their segments discarded. -/
def State.releaseBlocks (s : State) (blks : List Nat) : State :=
  let s1 := s.modCap (fun c => { c with table := blks.foldl (fun t b => aput b { kind := 3 } t) c.table })
  let spans := blkSpans blks
  let left := (s1.aliveTiles.map (fun t => (s1.releaseSegs t spans).map (fun l => (t, l, 0)))).flatten
  (s1.storeBlocks blks).jobStart { ring := 64, cid := 0, kind := 4, left := left, spans := spans }

/-- R47: blocks `start` to `start + len − 1` of a region of an LD are released. A block that another LD shares stays with
it. The answer of RELEASE_DYNAMIC_CAPACITY, or the event record, follows EXTENT_RELEASE_DONE. -/
def State.startRelease (s : State) (c rg start len : Nat) (forced : Bool) : State :=
  let inR (x : Nat) : Bool := decide (start ≤ x ∧ x < start + len)
  let own := (s.cap.table.filter (fun e => e.2.kind == 1 && e.2.ld == c && e.2.region == rg && inR e.2.ldBlk)).map (·.1)
  let mine := s.cap.shares.filter (fun h => h.ld == c && h.region == rg && inR h.ldBlk)
  let s1 := s.modCap (fun k => { k with shares := k.shares.filter (fun h => !(mine.contains h)) })
  let gone := (mine.map (·.blk)).filter (fun b => !(s1.cap.shares.any (fun h => h.blk == b)))
  let cut (e : Extent) : List Extent :=
    if e.ld = c ∧ e.region = rg ∧ e.start < start + len ∧ start < e.start + e.len then
      (if e.start < start then [{ e with len := start - e.start }] else [])
        ++ (if start + len < e.start + e.len then [{ e with start := start + len, len := e.start + e.len - (start + len) }] else [])
    else [e]
  let blks := own ++ gone
  let rel : Release := { ld := c, region := rg, start := start, blks := blks, forced := forced }
  let s2 := s1.modCap (fun k => { k with extents := (k.extents.map cut).flatten, releases := k.releases ++ [rel] })
  (if mine.isEmpty then s2 else s2.storeShares s.cap.shares.length).releaseBlocks blks

/-- R44: LD `c` holds every block of a range of a region. -/
def State.holdsAll (s : State) (c rg start len : Nat) : Bool :=
  (List.range len).all (fun i =>
    s.cap.table.any (fun e => e.2.kind == 1 && e.2.ld == c && e.2.region == rg && e.2.ldBlk == start + i)
      || s.cap.shares.any (fun h => h.ld == c && h.region == rg && h.ldBlk == start + i))

/-- R47: transactions to a released extent have finished and its blocks are discarded: they become free and the release is
answered or reported. -/
def State.extentReleaseDoneEff (s : State) (ld region start : Nat) : State :=
  match s.cap.releases.find? (fun r => r.ld == ld && r.region == region && r.start == start) with
  | none => s
  | some r =>
    if s.jobs.ranges.any (fun j => j.kind == 4 && j.spans == blkSpans r.blks) || !s.md.operating then s
    else
      let s1 := s.modCap (fun c => { c with table := r.blks.foldl (fun t b => adel b t) c.table, releases := c.releases.erase r })
      let s2 := s1.storeBlocks r.blks
      if r.region = 15 then s2
      else if r.forced then s2.evtFor [r.ld] 0 { kind := 2, cause := 9, info := r.start }
      else if s2.cap.releases.any (fun x => x.ld == r.ld && !x.forced && x.region != 15) then s2
      else s2.emit (.mailbox (r.ld / 16) (r.ld % 16) 0x4803 RET_OK [])

/-! ### Adds of dynamic capacity (R45, R46, R48) -/

/-- R44: runs of consecutive LD blocks as extents. -/
def runsOf (c rg : Nat) (l : List Nat) : List Extent :=
  l.foldl (fun acc b =>
    match acc.getLast? with
    | some e => if e.start + e.len = b then acc.dropLast ++ [{ e with len := e.len + 1 }]
        else acc ++ [({ ld := c, region := rg, start := b, len := 1, accepted := false } : Extent)]
    | none => [{ ld := c, region := rg, start := b, len := 1, accepted := false }]) []

/-- LD blocks of a region that the LD does not hold, ascending. -/
def State.freeLdBlocks (s : State) (c : Nat) (g : Region) : List Nat :=
  let held := (s.ldBlocks c).map (·.2)
  ((List.range g.len).map (g.base + ·)).filter (fun b => !(held.contains b))

/-- R46: LD blocks for an add of `n` blocks: the lowest ones under Free, else the first contiguous run. -/
def State.ldRoom (s : State) (c : Nat) (g : Region) (policy n : Nat) : Option (List Nat) :=
  let l := s.freeLdBlocks c g
  if policy = 0 then (if n ≤ l.length then some (l.take n) else none)
  else ((l.find? (fun b => (List.range n).all (fun i => l.contains (b + i)))).map (fun b => (List.range n).map (b + ·)))

/-- R45: the limits on extents and holdings after an add. -/
def State.addLimits (s : State) (c : Nat) (ex : List Extent) (shared : Nat) : Bool :=
  let n := ex.length
  decide ((s.cap.extents.filter (fun e => e.ld == c)).length + n ≤ 512)
    && decide ((s.cap.extents.filter (fun e => e.ld / 16 == c / 16)).length + n ≤ 4096)
    && decide (s.cap.extents.length + n ≤ 16384) && decide (s.cap.shares.length + shared ≤ 8192)

/-- How an add ends for now. -/
inductive AddOut where
  /-- the package blocks it takes -/
  | blocks (l : List Nat)
  /-- R48: it waits for releasing blocks -/
  | wait
  /-- a return code other than Success -/
  | ret (code : Nat)
  deriving DecidableEq, Repr

/-- R46, R48: the package blocks of an add by its policy: 0 Free, 1 Contiguous, 2 Prescriptive, 3 Enable Shared Access. -/
def State.addBlocks (s : State) (w : WaitAdd) : AddOut :=
  let named := (List.range w.len).map (w.start + ·)
  let releasing (b : Nat) : Bool := ((aget b s.cap.table).map (fun e => e.kind == 3)).getD false
  match w.policy with
  | 0 | 1 =>
    let l := s.freeBlocks w.len
    if l.length = w.len then .blocks l
    else if w.len ≤ l.length + (s.cap.table.filter (fun e => e.2.kind == 3)).length then .wait else .ret RET_EXHAUSTED
  | 2 =>
    if !(named.all (fun b => decide (b < s.pkgBlocks) && (s.blockFree b || releasing b))) then .ret RET_INVALID
    else if named.any releasing then .wait else .blocks named
  | 3 =>
    if named.all (fun b => ((aget b s.cap.table).map (fun e => e.kind == 2)).getD false
      && !(s.cap.shares.any (fun h => h.blk == b && h.ld == w.ld))) then .blocks named else .ret RET_INVALID
  | _ => .ret RET_INVALID

/-- R461: key slot of the sharable region that holds a block. -/
def State.shareKey (s : State) (b : Nat) : Nat :=
  ((s.cap.shares.find? (fun h => h.blk == b)).map (fun h => (agetD (8 * h.ld + h.region) {} s.cap.regions).key)).getD 0

/-- R463: the key of an add: the LD's, or the region's; under Enable Shared Access that of the blocks. -/
def State.addKey (s : State) (w : WaitAdd) (g : Region) (blks : List Nat) (trngOk : Bool) : State × Option Nat :=
  let k := 8 * w.ld + w.region
  let setKey (a : State) (n : Nat) : State := a.modCap (fun c => { c with regions := aput k { g with key := n } c.regions })
  if !g.share then
    match s.ldKey w.ld trngOk with
    | (s1, true) => (s1, none)
    | (s1, false) => (s1, some RET_EXHAUSTED)
  else if w.policy = 3 then
    let n := s.shareKey (blks.headD 0)
    if blks.all (fun b => s.shareKey b == n) && (g.key == 0 || g.key == n) then (setKey s n, none) else (s, some RET_INVALID)
  else if g.key != 0 then (s, none)
  else if 64 ≤ s.regionKeys then (s, some RET_EXHAUSTED)
  else match s.drawKey 1 k trngOk with
    | (s1, some n) => (setKey s1 n, none)
    | (s1, none) => (s1, some RET_EXHAUSTED)

/-- R45 to R48, R463: an add takes effect, waits, or is refused; the answer follows the commit of what it changed. -/
def State.addTry (s : State) (w : WaitAdd) (trngOk : Bool) : State × Bool :=
  let g := agetD (8 * w.ld + w.region) {} s.cap.regions
  let answer (a : State) (ret : Nat) : State := a.emit (.fmapi w.via 0x5604 ret [])
  if !g.conf || 8 ≤ w.region || w.len = 0 || (w.policy == 3 && !g.share) then (answer s RET_INVALID, true)
  else match s.addBlocks w with
    | .wait => (s, false)
    | .ret r => (answer s r, true)
    | .blocks blks =>
      match s.ldRoom w.ld g w.policy w.len with
      | none => (answer s RET_EXHAUSTED, true)
      | some ldb =>
        let ex := runsOf w.ld w.region ldb
        if !(s.addLimits w.ld ex (if g.share then w.len else 0)) then (answer s RET_EXHAUSTED, true)
        else match s.addKey w g blks trngOk with
          | (s1, some r) => (answer s1 r, true)
          | (s1, none) =>
            let pairs := blks.zip ldb
            let s2 := s1.modCap (fun c =>
              { c with
                table := pairs.foldl (fun t p => aput p.1 (if g.share then { kind := 2 }
                  else { kind := 1, ld := w.ld, region := w.region, ldBlk := p.2 }) t) c.table,
                shares := if g.share then c.shares ++ pairs.map (fun p => ({ blk := p.1, ld := w.ld, region := w.region, ldBlk := p.2 } : Share))
                  else c.shares,
                extents := c.extents ++ ex })
            let s3 := (if g.share then (s2.storeShares s.cap.shares.length).storeRegions w.ld else s2).storeBlocks blks
            let s4 := s3.evtFor [w.ld] 0 { kind := 2, cause := 9, info := ldb.headD 0 }
            (s4.psRequest (.fmapi w.via 0x5604 RET_OK []), true)

/-- R48: a releasing block has become free: the first waiting add that can complete does. -/
def State.waitingAddResumeEff (s : State) (trngOk : Bool) : State :=
  if !s.md.operating then s
  else match s.cap.waiting.find? (fun w => match s.addBlocks w with | .wait => false | _ => true) with
    | none => s
    | some w => ((s.modCap (fun c => { c with waiting := c.waiting.erase w })).addTry w trngOk).1

/-! ### The fabric manager's commands (R41) -/

/-- R316 step 8: mailboxes, DOE and the FM API are answered from step 8 of Bring-up and while the package operates. -/
def State.fmServed (s : State) (h : Nat) : Bool := s.md.ringOrOperating && (s.alive h || h == 8)

/-- R41: run an FM API command that came through a head, or the sideband endpoint as head 8, and answer it. -/
def State.fmRun (s : State) (via : Nat) (body : State → State) : State := if s.fmServed via then body s else s

/-- R41: the answer of an FM API command. -/
def State.fmAnswer (s : State) (via op ret : Nat) (fields : List Nat) : State := s.emit (.fmapi via op ret fields)

/-- R41: Tunnel Management Command as the target: the tunnelled command acts as one of its own. -/
def State.tunnelManagementCommandEff (s : State) (head target : Nat) : State :=
  s.fmRun head (fun s => s.fmAnswer head 0x5300 (if target < 16 ∨ target = 0xFFFF then RET_OK else RET_INVALID) [target])

/-- R41: Get LD Info: exported bytes, LDs supported, QoS telemetry supported. -/
def State.getLdInfoEff (s : State) (head : Nat) : State :=
  s.fmRun head (fun s => s.fmAnswer head 0x5400 RET_OK [s.pkgBlocks * 2 ^ 28, 16, 1])

/-- R42: Get LD Allocations of a head: 256 MiB granularity code 0 and the static blocks of each LD. -/
def State.getLdAllocationsEff (s : State) (head target start limit : Nat) : State :=
  s.fmRun head (fun s =>
    if !s.present.contains target || 16 ≤ start then s.fmAnswer head 0x5401 RET_INVALID []
    else
      let n := min limit (16 - start)
      s.fmAnswer head 0x5401 RET_OK ([16, 0, start, n] ++ (List.range n).map (fun i => (s.staticBlocks (16 * target + start + i)).length)))

/-- R42: blocks that a new size takes from an LD. -/
def State.takenFrom (s : State) (c m : Nat) : List (Nat × Nat) := (s.staticBlocks c).filter (fun e => decide (m ≤ e.2))

/-- R42: a new static size of an LD can be set: no committed decoder covers a block that it loses, and no DC region lies
below its new end. -/
def State.ldSizeOk (s : State) (c m : Nat) : Bool :=
  (s.takenFrom c m).all (fun e => !(s.hdmCovers c e.2))
    && (List.range 8).all (fun r => let g := agetD (8 * c + r) {} s.cap.regions; !g.conf || decide (m ≤ g.base))

/-- R42, R463: give an LD `m` static blocks. The answer is false when no key can be drawn or blocks are missing. -/
def State.setStatic (s : State) (c m : Nat) (trngOk : Bool) : State × Bool :=
  let n := (s.staticBlocks c).length
  if n < m then
    let l := s.freeBlocks (m - n)
    if l.length < m - n then (s, false)
    else match s.ldKey c trngOk with
      | (s1, false) => (s1, false)
      | (s1, true) =>
        let pairs := l.zip ((List.range (m - n)).map (n + ·))
        ((s1.modCap (fun k => { k with table := pairs.foldl (fun t p => aput p.1 { kind := 1, ld := c, region := 15, ldBlk := p.2 } t) k.table })).storeBlocks l, true)
  else if m < n then (s.startRelease c 15 m (n - m) false, true)
  else (s, true)

/-- R42, R463: Set LD Allocations of a head, from LD `start` on, in blocks of 256 MiB. It answers once what it changed is
committed. -/
def State.setLdAllocationsEff (s : State) (head target start : Nat) (sizes : List Nat) (trngOk : Bool) : State :=
  s.fmRun head (fun s =>
    let ids := (List.range sizes.length).map (fun i => (16 * target + start + i, sizes.getD i 0))
    if !s.present.contains target || 16 < start + sizes.length || !(ids.all (fun e => s.ldSizeOk e.1 e.2)) then
      s.fmAnswer head 0x5402 RET_INVALID []
    else
      let need := total (ids.map (fun e => e.2 - (s.staticBlocks e.1).length))
      if (s.freeBlocks need).length < need then s.fmAnswer head 0x5402 RET_EXHAUSTED []
      else
        let (s1, ok) := ids.foldl (fun (a : State × Bool) e =>
          if a.2 then a.1.setStatic e.1 e.2 trngOk else a) (s, true)
        if ok then s1.psRequest (.fmapi head 0x5402 RET_OK ([start, sizes.length] ++ sizes))
        else ((s.drawKey 0 0 trngOk).1).fmAnswer head 0x5402 RET_EXHAUSTED [])

/-- R41: Get QoS Control. -/
def State.getQosControlEff (s : State) (head : Nat) : State :=
  s.fmRun head (fun s => s.fmAnswer head 0x5403 RET_OK (s.head (head % 8)).qosCtl)

/-- R41: Set QoS Control: its seven fields. -/
def State.setQosControlEff (s : State) (head : Nat) (fields : List Nat) : State :=
  s.fmRun head (fun s =>
    if fields.length ≠ 7 then s.fmAnswer head 0x5404 RET_INVALID []
    else (s.modHead (head % 8) (fun d => { d with qosCtl := fields })).fmAnswer head 0x5404 RET_OK fields)

/-- R68: Get QoS Status: average DevLoad of the last window. -/
def State.getQosStatusEff (s : State) (head : Nat) : State :=
  s.fmRun head (fun s => s.fmAnswer head 0x5405 RET_OK [(s.head (head % 8)).devLoadAvg])

/-- R41: a per-LD value of LDs `start` on. -/
def State.ldValues (s : State) (head start n : Nat) (f : LDev → Nat) : List Nat :=
  (List.range (min n (16 - start))).map (fun i => f (s.ldev (16 * (head % 8) + start + i)))

/-- R68: Get QoS Allocated BW. -/
def State.getQosAllocatedBwEff (s : State) (head start n : Nat) : State :=
  s.fmRun head (fun s => if 16 ≤ start then s.fmAnswer head 0x5406 RET_INVALID []
    else s.fmAnswer head 0x5406 RET_OK (start :: s.ldValues head start n (·.bwAlloc)))

/-- R41: change a per-LD value of LDs `start` on. -/
def State.setLdValues (s : State) (head start : Nat) (l : List Nat) (f : Nat → LDev → LDev) : State :=
  (List.range l.length).foldl (fun a i => a.modLd (16 * (head % 8) + start + i) (f (l.getD i 0 % 256))) s

/-- R68: Set QoS Allocated BW, in 1/256 of the head's bandwidth. -/
def State.setQosAllocatedBwEff (s : State) (head start : Nat) (fractions : List Nat) : State :=
  s.fmRun head (fun s => if 16 < start + fractions.length then s.fmAnswer head 0x5407 RET_INVALID []
    else (s.setLdValues head start fractions (fun v d => { d with bwAlloc := v })).fmAnswer head 0x5407 RET_OK (start :: fractions))

/-- R68: Get QoS BW Limit. -/
def State.getQosBwLimitEff (s : State) (head start n : Nat) : State :=
  s.fmRun head (fun s => if 16 ≤ start then s.fmAnswer head 0x5408 RET_INVALID []
    else s.fmAnswer head 0x5408 RET_OK (start :: s.ldValues head start n (·.bwLimit)))

/-- R68: Set QoS BW Limit, in 1/256 of the head's bandwidth; 0 is no limit. -/
def State.setQosBwLimitEff (s : State) (head start : Nat) (fractions : List Nat) : State :=
  s.fmRun head (fun s => if 16 < start + fractions.length then s.fmAnswer head 0x5409 RET_INVALID []
    else (s.setLdValues head start fractions (fun v d => { d with bwLimit := v })).fmAnswer head 0x5409 RET_OK (start :: fractions))

/-- R39: heads of the package: the tiles less one for each bonded pair. -/
def State.headCount (s : State) : Nat := (s.present.filter (fun h => !(s.head h).upper)).length

/-- R39: Get Multi-Headed Info: LDs, heads, and the head of each LD. -/
def State.getMultiHeadedInfoEff (s : State) (head : Nat) : State :=
  s.fmRun head (fun s => s.fmAnswer head 0x5500 RET_OK [16 * s.headCount, s.headCount])

/-- R41: Get Head Info: per head its number, maximum and negotiated width, maximum and negotiated speed, and whether its
link is up. -/
def State.getHeadInfoEff (s : State) (head start n : Nat) : State :=
  s.fmRun head (fun s =>
    let l := ((s.present.filter (fun h => !(s.head h).upper)).drop start).take n
    s.fmAnswer head 0x5501 RET_OK (l.length :: (l.map (fun h =>
      [h, maxWidth (s.linkCtl h) (s.bondLower h), (s.head h).width, maxSpeed (s.linkCtl h), (s.head h).speed, b2n (s.head h).up])).flatten))

/-- R44 to R46: Get DCD Info: heads, regions per LD, add policies supported (bits 0 to 3), capacity in blocks, block size. -/
def State.getDcdInfoEff (s : State) (head : Nat) : State :=
  s.fmRun head (fun s => s.fmAnswer head 0x5600 RET_OK [s.headCount, 8, 0xF, s.pkgBlocks, 2 ^ 28])

/-- R44: a region as the fabric manager and the host read it: base, length, block size, sharable. -/
def Region.fields (g : Region) : List Nat := [g.base, g.len, 2 ^ 28, b2n g.share]

/-- R44: Get Host DC Region Configuration of an LD of a head. -/
def State.getHostDcRegionConfigurationEff (s : State) (head target ld start n : Nat) : State :=
  s.fmRun head (fun s =>
    if !s.present.contains target || 16 ≤ ld || 8 ≤ start then s.fmAnswer head 0x5601 RET_INVALID []
    else
      let l := ((List.range 8).drop start).take n
      s.fmAnswer head 0x5601 RET_OK (l.map (fun r => (agetD (8 * (16 * target + ld) + r) {} s.cap.regions).fields)).flatten)

/-- R44, R46: Set DC Region Configuration: place, length and sharing of a region that holds no extent. -/
def State.setDcRegionConfigurationEff (s : State) (head target ld region base len blockSize : Nat) (share : Bool) : State :=
  s.fmRun head (fun s =>
    let c := 16 * target + ld
    let clash := (List.range 8).any (fun r => let g := agetD (8 * c + r) {} s.cap.regions
      r != region && g.conf && decide (base < g.base + g.len ∧ g.base < base + len))
    if !s.present.contains target || 16 ≤ ld || 8 ≤ region || blockSize != 2 ^ 28 || len = 0 || 65536 < base + len
        || decide (base < (s.staticBlocks c).length) || clash || s.cap.extents.any (fun e => e.ld == c && e.region == region) then
      s.fmAnswer head 0x5602 RET_INVALID []
    else
      let old := agetD (8 * c + region) {} s.cap.regions
      ((s.modCap (fun k => { k with regions := aput (8 * c + region) { base := base, len := len, conf := true, share := share, key := if share then old.key else 0 } k.regions })).storeRegions c).psRequest
        (.fmapi head 0x5602 RET_OK []))

/-- R44: Get DCD Extent Lists of an LD. -/
def State.getDcdExtentListsEff (s : State) (head target ld start n : Nat) : State :=
  s.fmRun head (fun s =>
    if !s.present.contains target || 16 ≤ ld then s.fmAnswer head 0x5603 RET_INVALID []
    else
      let l := s.cap.extents.filter (fun e => e.ld == 16 * target + ld)
      s.fmAnswer head 0x5603 RET_OK (l.length :: (((l.drop start).take n).map (fun e => [e.region, e.start, e.len])).flatten))

/-- R45 to R48: Initiate Dynamic Capacity Add. -/
def State.initiateDynamicCapacityAddEff (s : State) (head target ld region policy len start : Nat) (trngOk : Bool) : State :=
  s.fmRun head (fun s =>
    if !s.present.contains target || 16 ≤ ld then s.fmAnswer head 0x5604 RET_INVALID []
    else
      let w : WaitAdd := { ld := 16 * target + ld, region := region, policy := policy, len := len, start := start, via := head }
      match s.addTry w trngOk with
      | (s1, true) => s1
      | (s1, false) => s1.modCap (fun c => { c with waiting := c.waiting ++ [w] }))

/-- R47: Initiate Dynamic Capacity Release: forced, the extent is released at once; otherwise the host is asked for it by a
Dynamic Capacity record. -/
def State.initiateDynamicCapacityReleaseEff (s : State) (head target ld region start len : Nat) (forced : Bool) : State :=
  s.fmRun head (fun s =>
    let c := 16 * target + ld
    if !s.present.contains target || 16 ≤ ld || 8 ≤ region || len = 0 || !(s.holdsAll c region start len) then
      s.fmAnswer head 0x5605 RET_INVALID []
    else if forced then (s.startRelease c region start len true).fmAnswer head 0x5605 RET_OK []
    else (s.evtFor [c] 0 { kind := 2, cause := 13, info := start }).fmAnswer head 0x5605 RET_OK [])

/-- R41: any other FM API command returns Unsupported. -/
def State.unsupportedFmApiCommandEff (s : State) (head opcode : Nat) : State :=
  s.fmRun head (fun s => s.fmAnswer head opcode RET_UNSUPPORTED [])

/-! ### The commands of this family -/

/-- TUNNEL_MANAGEMENT_COMMAND (R41): FM API Tunnel Management Command handled as the target. -/
def execTunnelManagementCommand (head target : Nat) (s : State) : Host.Outcome State Fault Refusal :=
  s.run (fun x => x.tunnelManagementCommandEff head target)

/-- GET_LD_INFO (R41): FM API Get LD Info. -/
def execGetLdInfo (head : Nat) (s : State) : Host.Outcome State Fault Refusal :=
  s.run (fun x => x.getLdInfoEff head)

/-- GET_LD_ALLOCATIONS (R41): FM API Get LD Allocations. -/
def execGetLdAllocations (head target start limit : Nat) (s : State) : Host.Outcome State Fault Refusal :=
  s.run (fun x => x.getLdAllocationsEff head target start limit)

/-- SET_LD_ALLOCATIONS (R42): FM API Set LD Allocations allocates or takes static blocks. -/
def execSetLdAllocations (head target start : Nat) (sizes : List Nat) (trngOk : Bool)
    (s : State) : Host.Outcome State Fault Refusal :=
  s.run (fun x => x.setLdAllocationsEff head target start sizes trngOk)

/-- GET_QOS_CONTROL (R41): FM API Get QoS Control. -/
def execGetQosControl (head : Nat) (s : State) : Host.Outcome State Fault Refusal :=
  s.run (fun x => x.getQosControlEff head)

/-- SET_QOS_CONTROL (R41): FM API Set QoS Control. -/
def execSetQosControl (head : Nat) (fields : List Nat) (s : State) : Host.Outcome State Fault Refusal :=
  s.run (fun x => x.setQosControlEff head fields)

/-- GET_QOS_STATUS (R68): FM API Get QoS Status returns average DevLoad. -/
def execGetQosStatus (head : Nat) (s : State) : Host.Outcome State Fault Refusal :=
  s.run (fun x => x.getQosStatusEff head)

/-- GET_QOS_ALLOCATED_BW (R41): FM API Get QoS Allocated BW. -/
def execGetQosAllocatedBw (head start n : Nat) (s : State) : Host.Outcome State Fault Refusal :=
  s.run (fun x => x.getQosAllocatedBwEff head start n)

/-- SET_QOS_ALLOCATED_BW (R68): FM API Set QoS Allocated BW. -/
def execSetQosAllocatedBw (head start : Nat) (fractions : List Nat)
    (s : State) : Host.Outcome State Fault Refusal :=
  s.run (fun x => x.setQosAllocatedBwEff head start fractions)

/-- GET_QOS_BW_LIMIT (R41): FM API Get QoS BW Limit. -/
def execGetQosBwLimit (head start n : Nat) (s : State) : Host.Outcome State Fault Refusal :=
  s.run (fun x => x.getQosBwLimitEff head start n)

/-- SET_QOS_BW_LIMIT (R68): FM API Set QoS BW Limit. -/
def execSetQosBwLimit (head start : Nat) (fractions : List Nat)
    (s : State) : Host.Outcome State Fault Refusal :=
  s.run (fun x => x.setQosBwLimitEff head start fractions)

/-- GET_MULTI_HEADED_INFO (R41): FM API Get Multi-Headed Info. -/
def execGetMultiHeadedInfo (head : Nat) (s : State) : Host.Outcome State Fault Refusal :=
  s.run (fun x => x.getMultiHeadedInfoEff head)

/-- GET_HEAD_INFO (R41): FM API Get Head Info. -/
def execGetHeadInfo (head start n : Nat) (s : State) : Host.Outcome State Fault Refusal :=
  s.run (fun x => x.getHeadInfoEff head start n)

/-- GET_DCD_INFO (R41): FM API Get DCD Info. -/
def execGetDcdInfo (head : Nat) (s : State) : Host.Outcome State Fault Refusal :=
  s.run (fun x => x.getDcdInfoEff head)

/-- GET_HOST_DC_REGION_CONFIGURATION (R41): FM API Get Host DC Region Configuration. -/
def execGetHostDcRegionConfiguration (head target ld start n : Nat)
    (s : State) : Host.Outcome State Fault Refusal :=
  s.run (fun x => x.getHostDcRegionConfigurationEff head target ld start n)

/-- SET_DC_REGION_CONFIGURATION (R46): FM API Set DC Region Configuration, including sharable marking. -/
def execSetDcRegionConfiguration (head target ld region base len blockSize : Nat) (share : Bool)
    (s : State) : Host.Outcome State Fault Refusal :=
  s.run (fun x => x.setDcRegionConfigurationEff head target ld region base len blockSize share)

/-- GET_DCD_EXTENT_LISTS (R41): FM API Get DCD Extent Lists. -/
def execGetDcdExtentLists (head target ld start n : Nat) (s : State) : Host.Outcome State Fault Refusal :=
  s.run (fun x => x.getDcdExtentListsEff head target ld start n)

/-- INITIATE_DYNAMIC_CAPACITY_ADD (R45): FM API add of dynamic capacity under the add policies and limits. -/
def execInitiateDynamicCapacityAdd (head target ld region policy len start : Nat) (trngOk : Bool)
    (s : State) : Host.Outcome State Fault Refusal :=
  s.run (fun x => x.initiateDynamicCapacityAddEff head target ld region policy len start trngOk)

/-- INITIATE_DYNAMIC_CAPACITY_RELEASE (R47): FM API forced release of an extent. -/
def execInitiateDynamicCapacityRelease (head target ld region start len : Nat) (forced : Bool)
    (s : State) : Host.Outcome State Fault Refusal :=
  s.run (fun x => x.initiateDynamicCapacityReleaseEff head target ld region start len forced)

/-- EXTENT_RELEASE_DONE (R47): Transactions to a released extent finish and its blocks are invalidated, discarded
and freed. -/
def execExtentReleaseDone (ld region start : Nat) (s : State) : Host.Outcome State Fault Refusal :=
  s.run (fun x => x.extentReleaseDoneEff ld region start)

/-- WAITING_ADD_RESUME (R48): A releasing block becomes free and a waiting add completes. -/
def execWaitingAddResume (trngOk : Bool) (s : State) : Host.Outcome State Fault Refusal :=
  s.run (fun x => x.waitingAddResumeEff trngOk)

/-- UNSUPPORTED_FM_API_COMMAND (R41): An FM API command outside the supported table returns Unsupported. -/
def execUnsupportedFmApiCommand (head opcode : Nat) (s : State) : Host.Outcome State Fault Refusal :=
  s.run (fun x => x.unsupportedFmApiCommandEff head opcode)

end Sys2Proof.Machine
end

