-- ==== Sys2Proof/Machine/Mailbox.lean ====
section
/-! DEFINITION. Machine/Mailbox.lean: the primary mailbox of the logical devices (02_host_ports.md R57, R59, R65, R66;
16_security.md R453, R454, R464). Opcodes and return codes are those of the CXL specification (PRESUMED,
notes/assumptions/20.md). -/

namespace Sys2Proof.Machine

open Sys2Proof

/-! ### Serving -/

/-- FW Transfer in Progress. -/
def RET_TRANSFER : Nat := 8
/-- FW Transfer Out of Order. -/
def RET_ORDER : Nat := 9
/-- FW Verification Failed. -/
def RET_VERIFY : Nat := 0xA
/-- Invalid Slot. -/
def RET_SLOT : Nat := 0xB
/-- Invalid Handle. -/
def RET_HANDLE : Nat := 0xE
/-- Invalid Physical Address. -/
def RET_ADDRESS : Nat := 0xF
/-- Invalid Log. -/
def RET_LOG : Nat := 0x17
/-- Invalid Extent List. -/
def RET_EXTENT : Nat := 0x1E

/-- R65: a completion of the mailbox of an LD. -/
def State.mbAnswer (s : State) (head ld op ret : Nat) (fields : List Nat) : State := s.emit (.mailbox head ld op ret fields)

/-- R57: a Scan Media operation ends when no page of its range is left. -/
def State.scanEnd (s : State) : State :=
  s.ldCodes.foldl (fun a c =>
    match (a.ldev c).bg with
    | some (.scan _) =>
      if a.aliveTiles.any (fun t => (a.tile t).med.scan.any (fun e => e.2 == c)) then a else a.modLd c (fun d => { d with bg := none, bgLast := (0x4304, 0) })
    | _ => a) s

/-- 16_security.md R455: the commands that the boot ROM's mailbox accepts. -/
def romMailbox (op : Nat) : Bool := op == 0x0200 || op == 0x0201 || op == 0x0202

/-- R65, R316 step 8: run a mailbox command of an LD that the head presents. In ROM-only Service all but three return
Unsupported (R455). -/
def State.mbRun (s : State) (head ld op : Nat) (body : State → State) : State :=
  if !(s.md.ringOrOperating && s.alive head && s.presents head ld) then s
  else if s.sec.romOnly && !romMailbox op then s.mbAnswer head ld op RET_UNSUPPORTED []
  else body s.scanEnd

/-! ### Events (R65, R67) -/

/-- R67: Get Event Records of a log: overflow flag, overflow count, number of records, then kind, cause and detail of each. -/
def State.getEventRecordsEff (s : State) (head ld log : Nat) : State :=
  s.mbRun head ld 0x0100 (fun s =>
    if 4 ≤ log then s.mbAnswer head ld 0x0100 RET_LOG []
    else
      let g := vget log {} (s.ldev (16 * head + ld)).logs
      s.mbAnswer head ld 0x0100 RET_OK ([b2n g.overflow, g.lost, g.recs.length] ++ (g.recs.map (fun r => [r.kind, r.cause, r.info])).flatten))

/-- R65: Clear Event Records: the oldest `n` of a log, or all; the overflow flag and count are cleared with them. -/
def State.clearEventRecordsEff (s : State) (head ld log n : Nat) (all : Bool) : State :=
  s.mbRun head ld 0x0101 (fun s =>
    let c := 16 * head + ld
    let g := vget log {} (s.ldev c).logs
    if 4 ≤ log then s.mbAnswer head ld 0x0101 RET_LOG []
    else if !all && decide (g.recs.length < n) then s.mbAnswer head ld 0x0101 RET_HANDLE []
    else
      let k := if all then g.recs.length else n
      (s.modLd c (fun d => { d with logs := vmod log (fun x => { x with recs := x.recs.drop k, overflow := false, lost := 0 }) d.logs })).mbAnswer
        head ld 0x0101 RET_OK [])

/-- R65: Get Event Interrupt Policy of the four logs. -/
def State.getEventInterruptPolicyEff (s : State) (head ld : Nat) : State :=
  s.mbRun head ld 0x0102 (fun s => s.mbAnswer head ld 0x0102 RET_OK ((s.ldev (16 * head + ld)).logs.toList.map (·.policy)))

/-- R65: Set Event Interrupt Policy of the four logs. -/
def State.setEventInterruptPolicyEff (s : State) (head ld : Nat) (policies : List Nat) : State :=
  s.mbRun head ld 0x0103 (fun s =>
    if policies.length != 4 || policies.any (fun p => decide (256 ≤ p)) then s.mbAnswer head ld 0x0103 RET_INVALID []
    else
      (s.modLd (16 * head + ld) (fun d =>
        { d with logs := vmapI (fun i e => { e with policy := policies.getD i e.policy }) d.logs })).mbAnswer head ld 0x0103 RET_OK [])

/-! ### Firmware update (R65, R453, R454) -/

/-- R65: Get FW Info: image slots, running slot, slot to be activated at the next cold reset (0 none, else 1 + slot), online
activation (not supported), versions of slots A and B. -/
def State.getFwInfoEff (s : State) (head ld : Nat) : State :=
  s.mbRun head ld 0x0200 (fun s =>
    let o := 1 - b2n (s.sec.runSlot == 1)
    s.mbAnswer head ld 0x0200 RET_OK
      [2, s.sec.runSlot, if bitOf s.fwBoot 4 then 1 + o else 0, 0, (s.fwSlot 0).img.version, (s.fwSlot 1).img.version])

/-- R65, R453: Transfer FW: action 0 full image, 1 initiate, 2 continue, 3 end, 4 abort; a chunk of `len` bytes at `offset`. -/
def State.transferFwEff (s : State) (head ld action offset len : Nat) (img : FwImage) : State :=
  s.mbRun head ld 0x0201 (fun s =>
    let answer (a : State) (ret : Nat) : State := a.mbAnswer head ld 0x0201 ret []
    let mine := s.sec.staging == some (head, ld)
    let i := 1 - b2n (s.sec.runSlot == 1)
    let first := action == 0 || action == 1
    let final := action == 0 || action == 3
    if 5 ≤ action then answer s RET_INVALID
    else if s.sec.staging.isSome && (first || !mine) then answer s RET_TRANSFER
    else if !first && !mine then answer s RET_ORDER
    else if action = 4 then answer (s.modSec (fun x => { x with staging := none })) RET_OK
    else if (first && offset != 0) || (!first && offset == 0) || len % 4 != 0 then answer s RET_INVALID
    else match s.stageChunk offset len final img with
      | (s1, false) => answer s1 RET_ORDER
      | (s1, true) =>
        let s2 := s1.modSec (fun x => { x with staging := if final then none else some (head, ld) })
        answer s2 (if final && (s2.fwSlot i).verdict != 1 then RET_VERIFY else RET_OK))

/-- R454: Activate FW: action 1 sets PENDING for the next Bring-up from Standby and commits FW_BOOT; online activation (action
0) returns Unsupported. -/
def State.activateFwEff (s : State) (head ld action : Nat) : State :=
  s.mbRun head ld 0x0202 (fun s =>
    if action = 0 then s.mbAnswer head ld 0x0202 RET_UNSUPPORTED []
    else if action != 1 then s.mbAnswer head ld 0x0202 RET_INVALID []
    else if (s.fwSlot (1 - b2n (s.sec.runSlot == 1))).verdict != 1 then s.mbAnswer head ld 0x0202 RET_SLOT []
    else
      let v := s.fwBoot
      (s.setFwBoot (v + b2n (!bitOf v 4) * 16)).psRequest (.mailbox head ld 0x0202 RET_OK []))

/-! ### Timestamp, logs, identification (R65) -/

/-- R65: Get Timestamp: as set, and the operating time since, in ns; 0 until it is set. -/
def State.getTimestampEff (s : State) (head ld : Nat) : State :=
  s.mbRun head ld 0x0300 (fun s =>
    let ts := (s.ldev (16 * head + ld)).timestamp
    s.mbAnswer head ld 0x0300 RET_OK [if ts.1 = 0 then 0 else (ts.1 + (s.gb.opTime - ts.2) * 1000000000) % 2 ^ 64])

/-- R65: Set Timestamp, in ns. -/
def State.setTimestampEff (s : State) (head ld ns : Nat) : State :=
  s.mbRun head ld 0x0301 (fun s =>
    (s.modLd (16 * head + ld) (fun d => { d with timestamp := (ns % 2 ^ 64, s.gb.opTime) })).mbAnswer head ld 0x0301 RET_OK [])

/-- R65: the supported commands with their effects as the Command Effects Log gives them: bit 0 configuration change after
cold reset, 1 immediate configuration change, 2 immediate data change, 3 immediate policy change, 4 immediate log change,
5 security state change, 6 background operation (PRESUMED, notes/assumptions/20.md). -/
def effectsLog : List (Nat × Nat) :=
  [(0x0100, 0), (0x0101, 0x10), (0x0102, 0), (0x0103, 0x08), (0x0200, 0), (0x0201, 0), (0x0202, 0x01), (0x0300, 0), (0x0301, 0x08)]
  ++ [(0x0400, 0), (0x0401, 0), (0x4000, 0), (0x4100, 0), (0x4200, 0), (0x4201, 0), (0x4202, 0x08), (0x4203, 0), (0x4204, 0x08)]
  ++ [(0x4300, 0), (0x4301, 0x04), (0x4302, 0x04), (0x4303, 0), (0x4304, 0x50), (0x4305, 0), (0x4400, 0x64), (0x4401, 0x64)]
  ++ [(0x4800, 0), (0x4801, 0), (0x4802, 0x02), (0x4803, 0x06)]

/-- R65: Get Supported Logs: one log, the Command Effects Log, and its size in bytes. -/
def State.getSupportedLogsEff (s : State) (head ld : Nat) : State :=
  s.mbRun head ld 0x0400 (fun s => s.mbAnswer head ld 0x0400 RET_OK [1, 4 * effectsLog.length])

/-- R65: Get Log: entries of the Command Effects Log from entry `start` on, as opcode + 2^16 × effects. `cel` says that the
identifier named that log. -/
def State.getLogEff (s : State) (head ld : Nat) (cel : Bool) (start n : Nat) : State :=
  s.mbRun head ld 0x0401 (fun s =>
    if !cel then s.mbAnswer head ld 0x0401 RET_LOG []
    else if effectsLog.length < start + n then s.mbAnswer head ld 0x0401 RET_INVALID []
    else s.mbAnswer head ld 0x0401 RET_OK (((effectsLog.drop start).take n).map (fun e => e.1 + 65536 * e.2)))

/-- R65: Identify Memory Device: capacity in blocks of 256 MiB: total, volatile (0), persistent; partition alignment (0);
records of each event log; records of the poison list. -/
def State.identifyMemoryDeviceEff (s : State) (head ld : Nat) : State :=
  s.mbRun head ld 0x4000 (fun s =>
    let n := (s.staticBlocks (16 * head + ld)).length
    s.mbAnswer head ld 0x4000 RET_OK [n, 0, n, 0, 64, 256])

/-- R65: Get Partition Info: active volatile (0) and persistent capacity in blocks of 256 MiB; next volatile and persistent (0,
no change). -/
def State.getPartitionInfoEff (s : State) (head ld : Nat) : State :=
  s.mbRun head ld 0x4100 (fun s => s.mbAnswer head ld 0x4100 RET_OK [0, (s.staticBlocks (16 * head + ld)).length, 0, 0])

/-- R65: Set Partition Info returns Unsupported. -/
def State.setPartitionInfoEff (s : State) (head ld : Nat) : State :=
  s.mbRun head ld 0x4101 (fun s => s.mbAnswer head ld 0x4101 RET_UNSUPPORTED [])

/-! ### Health and alerts (R59, R65) -/

/-- R59: the Dirty Shutdown Count (R541). -/
def State.dirtyCount (s : State) : Nat := leAt (s.psGet Param.SHUTDOWN_STATE) 4 4

/-- R59: Get Health Info: the Dirty Shutdown Count, and the fields the manual does not describe, as a free value. -/
def State.getHealthInfoEff (s : State) (head ld : Nat) : State :=
  s.mbRun head ld 0x4200 (fun s => (s.mbAnswer head ld 0x4200 RET_OK [s.dirtyCount, s.freeNow]).bumpFree)

/-- R65: Get Alert Configuration, as written. -/
def State.getAlertConfigurationEff (s : State) (head ld : Nat) : State :=
  s.mbRun head ld 0x4201 (fun s => s.mbAnswer head ld 0x4201 RET_OK (s.ldev (16 * head + ld)).alerts)

/-- R65: Set Alert Configuration: eight fields. -/
def State.setAlertConfigurationEff (s : State) (head ld : Nat) (alerts : List Nat) : State :=
  s.mbRun head ld 0x4202 (fun s =>
    if alerts.length != 8 then s.mbAnswer head ld 0x4202 RET_INVALID []
    else (s.modLd (16 * head + ld) (fun d => { d with alerts := alerts })).mbAnswer head ld 0x4202 RET_OK [])

/-- R59: Get Shutdown State: 0 clean, 1 dirty. -/
def State.getShutdownStateEff (s : State) (head ld : Nat) : State :=
  s.mbRun head ld 0x4203 (fun s => s.mbAnswer head ld 0x4203 RET_OK [(s.ldev (16 * head + ld)).shutdown])

/-- R59: Set Shutdown State. -/
def State.setShutdownStateEff (s : State) (head ld value : Nat) : State :=
  s.mbRun head ld 0x4204 (fun s =>
    if 2 ≤ value then s.mbAnswer head ld 0x4204 RET_INVALID []
    else (s.modLd (16 * head + ld) (fun d => { d with shutdown := value })).mbAnswer head ld 0x4204 RET_OK [])

/-! ### Poison (R57) -/

/-- R57: a line reads as poison: by its frame, its map state or its page. -/
def State.linePoisoned (s : State) (t l line : Nat) : Bool :=
  let x := (s.findFrame t l).map (s.frame t)
  match x.bind (fun f => if bitOf f.valid line then some (bitOf f.poison line) else none) with
  | some p => p
  | none =>
    let e := s.mapOf t l
    match e.st with
    | .poisoned => true
    | .mapped | .relocating => (s.fromMedium (s.slotOf t l) (s.segOf t l) line (s.pageLine t e.loc line)).2
    | _ => false

/-- R57: poisoned lines of an LD as DPAs of the LD, ascending by block, between two DPAs. -/
def State.poisonedLines (s : State) (c first len : Nat) : List Nat :=
  ((s.ldBlocks c).map (fun b =>
    (s.aliveTiles.map (fun t => ((s.spanSegs t [(b.1 * 65536, 65536)]).map (fun l =>
      ((List.range 64).filter (fun n => s.linePoisoned t l n)).map (fun n => b.2 * 2 ^ 28 + s.segOf t l % 65536 * 4096 + n * 64))).flatten)).flatten)).flatten.filter
    (fun d => decide (first ≤ d ∧ d < first + len))

/-- R57: Get Poison List over a DPA range: Overflow flag, the overflow timestamp (the LD's time), number of records, DPAs. -/
def State.getPoisonListEff (s : State) (head ld first len : Nat) : State :=
  s.mbRun head ld 0x4300 (fun s =>
    let c := 16 * head + ld
    let l := s.poisonedLines c first len
    let ts := (s.ldev c).timestamp
    let m := decide (256 < l.length)
    s.mbAnswer head ld 0x4300 RET_OK
      ([b2n m, if m && ts.1 != 0 then (ts.1 + (s.gb.opTime - ts.2) * 1000000000) % 2 ^ 64 else 0, min 256 l.length] ++ l.take 256))

/-- R57: the line at an LD DPA, as a package DPA. -/
def State.ldLine (s : State) (c dpa : Nat) : Option Nat :=
  ((s.ldBlocks c).find? (fun e => e.2 == dpa / 2 ^ 28)).map (fun e => e.1 * 2 ^ 28 + dpa % 2 ^ 28 / 64 * 64)

/-- R57: a write of the mailbox to one line, ordered by the hazard table as a host write. It holds no tracker entry, so that its
answer ends at the head. -/
def State.mailboxWrite (s : State) (head ld op dpa : Nat) (data : Line) (poison : Bool) : State :=
  match s.ldLine (16 * head + ld) dpa with
  | none => s.mbAnswer head ld op RET_ADDRESS []
  | some p =>
    if !s.md.inService3 || (s.ldev (16 * head + ld)).refused then s.mbAnswer head ld op RET_BUSY []
    else
      let r : Req := { id := s.jobs.nextId, head := head, tag := 0, ld := ld, dpa := p, owner := s.segTile (p / 4096), kind := .wr, data := data, poison := poison }
      (((s.modJobs (fun j => { j with nextId := j.nextId + 1 })).dispatchReq r {} 0 false).mbAnswer head ld op RET_OK [])

/-- R57: Inject Poison marks one line. -/
def State.injectPoisonEff (s : State) (head ld dpa : Nat) : State :=
  s.mbRun head ld 0x4301 (fun s => s.mailboxWrite head ld 0x4301 dpa 0 true)

/-- R57: Clear Poison writes the supplied 64 bytes in place of the line. -/
def State.clearPoisonEff (s : State) (head ld dpa : Nat) (data : Line) : State :=
  s.mbRun head ld 0x4302 (fun s => s.mailboxWrite head ld 0x4302 dpa data false)

/-! ### Scan Media (R57, R260) -/

/-- R65: Get Scan Media Capabilities: the estimated time, which the manual does not give. -/
def State.getScanMediaCapabilitiesEff (s : State) (head ld first len : Nat) : State :=
  s.mbRun head ld 0x4303 (fun s =>
    if len = 0 || (s.ldLine (16 * head + ld) first).isNone then s.mbAnswer head ld 0x4303 RET_INVALID []
    else (s.mbAnswer head ld 0x4303 RET_OK [s.freeNow]).bumpFree)

/-- R57, R260: pages of tile `t` that hold segments of an LD's DPA range. -/
def State.mediaScan (s : State) (t c first len : Nat) : List Nat :=
  ((s.ldBlocks c).map (fun b =>
    (s.spanSegs t [(b.1 * 65536, 65536)]).filter (fun l =>
      let d := b.2 * 2 ^ 28 + s.segOf t l % 65536 * 4096
      decide (first < d + 4096 ∧ d < first + len)))).flatten.filterMap (fun l =>
        let e := s.mapOf t l
        if e.st = .mapped ∨ e.st = .relocating then some e.loc else none)

/-- R57: Scan Media is accepted as a background operation; SCRUB sectors visit its pages. -/
def State.scanMediaEff (s : State) (head ld first len : Nat) : State :=
  s.mbRun head ld 0x4304 (fun s =>
    let c := 16 * head + ld
    if len = 0 || (s.ldLine c first).isNone then s.mbAnswer head ld 0x4304 RET_INVALID []
    else if (s.ldev c).bg.isSome then s.mbAnswer head ld 0x4304 RET_BUSY []
    else
      let n := total (s.aliveTiles.map (fun t => (s.mediaScan t c first len).length))
      let s1 := s.aliveTiles.foldl (fun a t => a.modMed t (fun m => { m with scan := m.scan ++ (s.mediaScan t c first len).map (fun p => (p, c)) })) s
      ((s1.modLd c (fun d => { d with bg := some (.scan n), scanFound := [] })).scanEnd).mbAnswer head ld 0x4304 RET_BACKGROUND [])

/-- R57: Get Scan Media Results: whether the scan still runs, then the DPAs of the lines found. -/
def State.getScanMediaResultsEff (s : State) (head ld : Nat) : State :=
  s.mbRun head ld 0x4305 (fun s =>
    let d := s.ldev (16 * head + ld)
    let runs := match d.bg with | some (.scan _) => 1 | _ => 0
    s.mbAnswer head ld 0x4305 RET_OK (runs :: d.scanFound))

/-! ### Sanitize and Secure Erase (R66, R464) -/

/-- R66, R464: region keys that are replaced with the LD's: those of whose holders every one has run an erase. -/
def State.eraseRegions (s : State) (c : Nat) : List Nat :=
  let slot (h : Share) : Nat := (agetD (8 * h.ld + h.region) {} s.cap.regions).key
  (distinct ((s.cap.shares.filter (fun h => h.ld == c)).map slot)).filter (fun k =>
    k != 0 && s.cap.shares.all (fun h => slot h != k || h.erased))

/-- R463: new keys for the region slots given; none when one cannot be drawn. -/
def State.drawRegionKeys (c : Nat) (trngOk : Bool) : List Nat → State → State × Option (List (Nat × Nat))
  | [], s => (s, some [])
  | k :: l, s =>
    match s.drawKey 1 (((s.sec.stored.find? (fun e => e.1 == k)).map (fun e => e.2.2.2)).getD (8 * c)) trngOk with
    | (s1, none) => (s1, none)
    | (s1, some n) =>
      match State.drawRegionKeys c trngOk l s1 with
      | (s2, some r) => (s2, some ((k, n) :: r))
      | (s2, none) => (s2, none)

/-- R66, R464: Secure Erase or Sanitize of an LD: step 1 draws the new key and commits it. An LD that never obtained capacity has
nothing to erase. -/
def State.eraseLd (s : State) (head ld op : Nat) (sanitize trngOk : Bool) : State :=
  let c := 16 * head + ld
  let answer (a : State) (ret : Nat) : State := a.mbAnswer head ld op ret []
  let marked := s.modCap (fun k => { k with shares := k.shares.map (fun h => if h.ld = c then { h with erased := true } else h) })
  if (s.ldev c).bg.isSome || decide (63 < s.replaced + 1 + (marked.eraseRegions c).length) then answer s RET_BUSY
  else if (s.ldev c).key = 0 then answer s RET_OK
  else
    match s.drawKey 0 c trngOk with
    | (s1, none) => answer s1 RET_EXHAUSTED
    | (s1, some n) =>
      let s2 := s1.modCap (fun k => { k with shares := k.shares.map (fun h => if h.ld = c then { h with erased := true } else h) })
      match State.drawRegionKeys c trngOk (s2.eraseRegions c) s2 with
      | (s3, none) => answer s3 RET_EXHAUSTED
      | (s3, some regs) =>
        let x : Replace := { old := (s.ldev c).key, new := n, step := 1, ld := c, sanitize := sanitize, regs := regs }
        answer (((s3.modSec (fun k => { k with replacing := k.replacing ++ [x] })).modLd c (fun d =>
          { d with bg := some (.erase sanitize 1 n), refused := true })).psRequest (.keyStep n)) RET_BACKGROUND

/-- R66: Sanitize, a background command. -/
def State.sanitizeEff (s : State) (head ld : Nat) (trngOk : Bool) : State :=
  s.mbRun head ld 0x4400 (fun s => s.eraseLd head ld 0x4400 true trngOk)

/-- R66: Secure Erase, a background command. -/
def State.secureEraseEff (s : State) (head ld : Nat) (trngOk : Bool) : State :=
  s.mbRun head ld 0x4401 (fun s => s.eraseLd head ld 0x4401 false trngOk)

/-! ### Dynamic capacity (R44 to R48, R65) -/

/-- R44, R65: Get Dynamic Capacity Configuration: regions from `start` on. -/
def State.getDynamicCapacityConfigurationEff (s : State) (head ld start n : Nat) : State :=
  s.mbRun head ld 0x4800 (fun s =>
    if 8 ≤ start then s.mbAnswer head ld 0x4800 RET_INVALID []
    else s.mbAnswer head ld 0x4800 RET_OK
      ((((List.range 8).drop start).take n).map (fun r => (agetD (8 * (16 * head + ld) + r) {} s.cap.regions).fields)).flatten)

/-- R44, R65: Get Dynamic Capacity Extent List: number of extents, then region, first LD block and length of each. -/
def State.getDynamicCapacityExtentListEff (s : State) (head ld start n : Nat) : State :=
  s.mbRun head ld 0x4801 (fun s =>
    let l := s.cap.extents.filter (fun e => e.ld == 16 * head + ld && e.accepted)
    s.mbAnswer head ld 0x4801 RET_OK (l.length :: (((l.drop start).take n).map (fun e => [e.region, e.start, e.len])).flatten))

/-- LD blocks that extents given as first block and length name. -/
def extBlocks (l : List (Nat × Nat)) : List Nat := (l.map (fun e => (List.range e.2).map (e.1 + ·))).flatten

/-- R65: Add Dynamic Capacity Response: the extents given, as first LD block and length, are accepted; the rest of what was offered
is released. -/
def State.addDynamicCapacityResponseEff (s : State) (head ld : Nat) (accepted : List (Nat × Nat)) : State :=
  s.mbRun head ld 0x4802 (fun s =>
    let c := 16 * head + ld
    let offered := s.cap.extents.filter (fun e => e.ld == c && !e.accepted)
    let yes := extBlocks accepted
    let all := extBlocks (offered.map (fun e => (e.start, e.len)))
    if yes.any (fun b => !(all.contains b)) then s.mbAnswer head ld 0x4802 RET_EXTENT []
    else
      let s1 := offered.foldl (fun a e =>
        (runsOf c e.region (((List.range e.len).map (e.start + ·)).filter (fun b => !(yes.contains b)))).foldl
          (fun b r => b.startRelease c e.region r.start r.len true) a) s
      (s1.modCap (fun k => { k with extents := k.extents.map (fun e => if e.ld = c then { e with accepted := true } else e) })).mbAnswer
        head ld 0x4802 RET_OK [])

/-- R47: Release Dynamic Capacity of extents, as first LD block and length; it is answered by EXTENT_RELEASE_DONE. -/
def State.releaseDynamicCapacityEff (s : State) (head ld : Nat) (extents : List (Nat × Nat)) : State :=
  s.mbRun head ld 0x4803 (fun s =>
    let c := 16 * head + ld
    let region (e : Nat × Nat) : Option Nat :=
      (List.range 8).find? (fun r => decide (0 < e.2) && s.holdsAll c r e.1 e.2)
    if extents.isEmpty || extents.any (fun e => (region e).isNone) then s.mbAnswer head ld 0x4803 RET_EXTENT []
    else extents.foldl (fun a e => match region e with | some r => a.startRelease c r e.1 e.2 false | none => a) s)

/-- R65: a command outside the supported sets returns Unsupported. -/
def State.unsupportedMailboxCommandEff (s : State) (head ld opcode : Nat) : State :=
  s.mbRun head ld opcode (fun s => s.mbAnswer head ld opcode RET_UNSUPPORTED [])

/-! ### The commands of this family -/

/-- GET_EVENT_RECORDS (R65): Mailbox Get Event Records. -/
def execGetEventRecords (head ld log : Nat) (s : State) : Host.Outcome State Fault Refusal :=
  s.run (fun x => x.getEventRecordsEff head ld log)

/-- CLEAR_EVENT_RECORDS (R65): Mailbox Clear Event Records. -/
def execClearEventRecords (head ld log n : Nat) (all : Bool) (s : State) : Host.Outcome State Fault Refusal :=
  s.run (fun x => x.clearEventRecordsEff head ld log n all)

/-- GET_EVENT_INTERRUPT_POLICY (R65): Mailbox Get Event Interrupt Policy. -/
def execGetEventInterruptPolicy (head ld : Nat) (s : State) : Host.Outcome State Fault Refusal :=
  s.run (fun x => x.getEventInterruptPolicyEff head ld)

/-- SET_EVENT_INTERRUPT_POLICY (R65): Mailbox Set Event Interrupt Policy. -/
def execSetEventInterruptPolicy (head ld : Nat) (policies : List Nat)
    (s : State) : Host.Outcome State Fault Refusal :=
  s.run (fun x => x.setEventInterruptPolicyEff head ld policies)

/-- GET_FW_INFO (R65): Mailbox Get FW Info. -/
def execGetFwInfo (head ld : Nat) (s : State) : Host.Outcome State Fault Refusal :=
  s.run (fun x => x.getFwInfoEff head ld)

/-- TRANSFER_FW (R65): Mailbox Transfer FW passes image data to the staging path. -/
def execTransferFw (head ld action offset len : Nat) (img : FwImage)
    (s : State) : Host.Outcome State Fault Refusal :=
  s.run (fun x => x.transferFwEff head ld action offset len img)

/-- ACTIVATE_FW (R454): Mailbox Activate FW sets PENDING for the next Bring-up from Standby. -/
def execActivateFw (head ld action : Nat) (s : State) : Host.Outcome State Fault Refusal :=
  s.run (fun x => x.activateFwEff head ld action)

/-- GET_TIMESTAMP (R65): Mailbox Get Timestamp. -/
def execGetTimestamp (head ld : Nat) (s : State) : Host.Outcome State Fault Refusal :=
  s.run (fun x => x.getTimestampEff head ld)

/-- SET_TIMESTAMP (R65): Mailbox Set Timestamp. -/
def execSetTimestamp (head ld ns : Nat) (s : State) : Host.Outcome State Fault Refusal :=
  s.run (fun x => x.setTimestampEff head ld ns)

/-- GET_SUPPORTED_LOGS (R65): Mailbox Get Supported Logs. -/
def execGetSupportedLogs (head ld : Nat) (s : State) : Host.Outcome State Fault Refusal :=
  s.run (fun x => x.getSupportedLogsEff head ld)

/-- GET_LOG (R65): Mailbox Get Log of the CEL. -/
def execGetLog (head ld : Nat) (cel : Bool) (start n : Nat) (s : State) : Host.Outcome State Fault Refusal :=
  s.run (fun x => x.getLogEff head ld cel start n)

/-- IDENTIFY_MEMORY_DEVICE (R65): Mailbox Identify Memory Device. -/
def execIdentifyMemoryDevice (head ld : Nat) (s : State) : Host.Outcome State Fault Refusal :=
  s.run (fun x => x.identifyMemoryDeviceEff head ld)

/-- GET_PARTITION_INFO (R65): Mailbox Get Partition Info. -/
def execGetPartitionInfo (head ld : Nat) (s : State) : Host.Outcome State Fault Refusal :=
  s.run (fun x => x.getPartitionInfoEff head ld)

/-- SET_PARTITION_INFO (R65): Mailbox Set Partition Info returns Unsupported. -/
def execSetPartitionInfo (head ld : Nat) (s : State) : Host.Outcome State Fault Refusal :=
  s.run (fun x => x.setPartitionInfoEff head ld)

/-- GET_HEALTH_INFO (R59): Mailbox Get Health Info, including the Dirty Shutdown Count. -/
def execGetHealthInfo (head ld : Nat) (s : State) : Host.Outcome State Fault Refusal :=
  s.run (fun x => x.getHealthInfoEff head ld)

/-- GET_ALERT_CONFIGURATION (R65): Mailbox Get Alert Configuration. -/
def execGetAlertConfiguration (head ld : Nat) (s : State) : Host.Outcome State Fault Refusal :=
  s.run (fun x => x.getAlertConfigurationEff head ld)

/-- SET_ALERT_CONFIGURATION (R65): Mailbox Set Alert Configuration. -/
def execSetAlertConfiguration (head ld : Nat) (alerts : List Nat)
    (s : State) : Host.Outcome State Fault Refusal :=
  s.run (fun x => x.setAlertConfigurationEff head ld alerts)

/-- GET_SHUTDOWN_STATE (R59): Mailbox Get Shutdown State. -/
def execGetShutdownState (head ld : Nat) (s : State) : Host.Outcome State Fault Refusal :=
  s.run (fun x => x.getShutdownStateEff head ld)

/-- SET_SHUTDOWN_STATE (R59): Mailbox Set Shutdown State. -/
def execSetShutdownState (head ld value : Nat) (s : State) : Host.Outcome State Fault Refusal :=
  s.run (fun x => x.setShutdownStateEff head ld value)

/-- GET_POISON_LIST (R57): Mailbox Get Poison List of up to 256 records. -/
def execGetPoisonList (head ld first len : Nat) (s : State) : Host.Outcome State Fault Refusal :=
  s.run (fun x => x.getPoisonListEff head ld first len)

/-- INJECT_POISON (R57): Mailbox Inject Poison marks one line. -/
def execInjectPoison (head ld dpa : Nat) (s : State) : Host.Outcome State Fault Refusal :=
  s.run (fun x => x.injectPoisonEff head ld dpa)

/-- CLEAR_POISON (R57): Mailbox Clear Poison writes the supplied line. -/
def execClearPoison (head ld dpa : Nat) (data : Line) (s : State) : Host.Outcome State Fault Refusal :=
  s.run (fun x => x.clearPoisonEff head ld dpa data)

/-- GET_SCAN_MEDIA_CAPABILITIES (R65): Mailbox Get Scan Media Capabilities. -/
def execGetScanMediaCapabilities (head ld first len : Nat) (s : State) : Host.Outcome State Fault Refusal :=
  s.run (fun x => x.getScanMediaCapabilitiesEff head ld first len)

/-- SCAN_MEDIA (R57): Mailbox Scan Media starts a background scan in SCRUB sectors. -/
def execScanMedia (head ld first len : Nat) (s : State) : Host.Outcome State Fault Refusal :=
  s.run (fun x => x.scanMediaEff head ld first len)

/-- GET_SCAN_MEDIA_RESULTS (R57): Mailbox Get Scan Media Results. -/
def execGetScanMediaResults (head ld : Nat) (s : State) : Host.Outcome State Fault Refusal :=
  s.run (fun x => x.getScanMediaResultsEff head ld)

/-- SANITIZE (R66): Mailbox Sanitize replaces the LD key, discards and overwrites its pages. -/
def execSanitize (head ld : Nat) (trngOk : Bool) (s : State) : Host.Outcome State Fault Refusal :=
  s.run (fun x => x.sanitizeEff head ld trngOk)

/-- SECURE_ERASE (R66): Mailbox Secure Erase replaces the LD key and discards its segments. -/
def execSecureErase (head ld : Nat) (trngOk : Bool) (s : State) : Host.Outcome State Fault Refusal :=
  s.run (fun x => x.secureEraseEff head ld trngOk)

/-- GET_DYNAMIC_CAPACITY_CONFIGURATION (R65): Mailbox Get Dynamic Capacity Configuration. -/
def execGetDynamicCapacityConfiguration (head ld start n : Nat)
    (s : State) : Host.Outcome State Fault Refusal :=
  s.run (fun x => x.getDynamicCapacityConfigurationEff head ld start n)

/-- GET_DYNAMIC_CAPACITY_EXTENT_LIST (R65): Mailbox Get Dynamic Capacity Extent List. -/
def execGetDynamicCapacityExtentList (head ld start n : Nat) (s : State) : Host.Outcome State Fault Refusal :=
  s.run (fun x => x.getDynamicCapacityExtentListEff head ld start n)

/-- ADD_DYNAMIC_CAPACITY_RESPONSE (R65): Mailbox Add Dynamic Capacity Response from the host. -/
def execAddDynamicCapacityResponse (head ld : Nat) (accepted : List (Nat × Nat))
    (s : State) : Host.Outcome State Fault Refusal :=
  s.run (fun x => x.addDynamicCapacityResponseEff head ld accepted)

/-- RELEASE_DYNAMIC_CAPACITY (R47): Mailbox Release Dynamic Capacity of an extent. -/
def execReleaseDynamicCapacity (head ld : Nat) (extents : List (Nat × Nat))
    (s : State) : Host.Outcome State Fault Refusal :=
  s.run (fun x => x.releaseDynamicCapacityEff head ld extents)

/-- UNSUPPORTED_MAILBOX_COMMAND (R65): A mailbox command outside the supported sets returns Unsupported. -/
def execUnsupportedMailboxCommand (head ld opcode : Nat) (s : State) : Host.Outcome State Fault Refusal :=
  s.run (fun x => x.unsupportedMailboxCommandEff head ld opcode)

end Sys2Proof.Machine
end

