-- ==== Sys2Proof/Machine/Security.lean ====
section
/-! DEFINITION. Machine/Security.lean: DOE, SPDM and IDE_KM of the heads (02_host_ports.md R62 to R64; 16_security.md R465,
R466) and the Porter commands of security and life cycle (16_security.md R453 to R472). Codes of `Out.doe`: 0 DOE Discovery,
1 CHALLENGE_AUTH, 2 MEASUREMENTS, 3 KEY_EXCHANGE_RSP, 4 PSK_EXCHANGE, 5 VERSION, 6 ALGORITHMS, 7 CERTIFICATE, 8 KEY_IMPORT,
9 KEY_DELETE, 10 CDAT, 16 to 19 IDE_KM. SPDM error codes are PRESUMED (notes/assumptions/21.md). -/

namespace Sys2Proof.Machine

open Sys2Proof

/-- SPDM ERROR InvalidRequest. -/
def SPDM_INVALID : Nat := 1
/-- SPDM ERROR Busy. -/
def SPDM_BUSY : Nat := 3
/-- SPDM ERROR UnexpectedRequest. -/
def SPDM_UNEXPECTED : Nat := 4
/-- SPDM ERROR UnsupportedRequest. -/
def SPDM_UNSUPPORTED : Nat := 7
/-- SPDM ERROR VersionMismatch. -/
def SPDM_VERSION : Nat := 0x41

/-! ### DOE and CDAT (R63, R64) -/

/-- R63, R316 step 8: a DOE request at a head whose link is up. -/
def State.doeRun (s : State) (head : Nat) (body : State → State) : State :=
  if s.md.ringOrOperating && s.alive head && (s.head head).up then body s else s

/-- R63: DOE Discovery: vendor, protocol and next index of entry `index`: DOE Discovery, CMA/SPDM, Secured CMA/SPDM, CDAT. -/
def State.doeDiscoveryEff (s : State) (head index : Nat) : State :=
  s.doeRun head (fun s =>
    match index with
    | 0 => s.emit (.doe head 0 0 [1, 0, 1])
    | 1 => s.emit (.doe head 0 0 [1, 1, 2])
    | 2 => s.emit (.doe head 0 0 [1, 2, 3])
    | 3 => s.emit (.doe head 0 0 [0x1E98, 2, 0])
    | _ => s.emit (.doe head 0 0 [0xFFFF, 0, 0]))

/-- R64: HDM ranges of an LD: first block, blocks, sharable. -/
def State.hdmRanges (s : State) (c : Nat) : List (Nat × Nat × Bool) :=
  let n := (s.staticBlocks c).length
  (if n = 0 then [] else [(0, n, false)]) ++
    (List.range 8).filterMap (fun r =>
      let g := agetD (8 * c + r) {} s.cap.regions
      if g.conf then some (g.base, g.len, g.share) else none)

/-- R64: CDAT of an LD: number of DSMAS entries; of each its first block, blocks, non-volatile attribute and shareable attribute;
then the DSLBIS values: read latency and write latency in ns, read bandwidth in GB/s, write bandwidth per tile in MB/s. -/
def State.cdatTableAccessEff (s : State) (head ld : Nat) : State :=
  s.doeRun head (fun s =>
    if !s.presents head ld then s.emit (.doe head 10 SPDM_INVALID [])
    else
      let l := s.hdmRanges (16 * head + ld)
      s.emit (.doe head 10 0 (l.length :: ((l.map (fun e => [e.1, e.2.1, 1, b2n e.2.2])).flatten
        ++ [780, 250, if (s.head head).bonded then 104 else 52, 6400]))))

/-! ### SPDM (R63, R456, R465) -/

/-- R63: GET_VERSION: the head speaks 1.2 and accepts 1.1; `version` is what the requester goes on with. -/
def State.getVersionEff (s : State) (head version : Nat) : State :=
  s.doeRun head (fun s =>
    if version = 0x11 ∨ version = 0x12 then
      (s.modHead head (fun d => { d with spdm := version, spdmAlg := false })).emit (.doe head 5 0 [0x11, 0x12])
    else s.emit (.doe head 5 SPDM_VERSION []))

/-- R63: a request that needs a version first. -/
def State.spdmRun (s : State) (head code : Nat) (body : State → State) : State :=
  s.doeRun head (fun s => if (s.head head).spdm = 0 then s.emit (.doe head code SPDM_UNEXPECTED []) else body s)

/-- R63: NEGOTIATE_ALGORITHMS: the device key's algorithm is offered as an extended asymmetric algorithm; `xmss` says that the
requester selects it. -/
def State.negotiateAlgorithmsEff (s : State) (head : Nat) (xmss : Bool) : State :=
  s.spdmRun head 6 (fun s => (s.modHead head (fun d => { d with spdmAlg := xmss })).emit (.doe head 6 0 [b2n xmss]))

/-- R456: GET_CERTIFICATE: the chain issued by Krytlith is certificate slot 0. -/
def State.getCertificateEff (s : State) (head slot : Nat) : State :=
  s.spdmRun head 7 (fun s => if slot = 0 then s.emit (.doe head 7 0 [0, leNat Config.certChain]) else s.emit (.doe head 7 SPDM_INVALID []))

/-- R63, R467: a signed answer, or ERROR when the requester did not select the device key or the state forbids signing. -/
def State.signedAnswer (s : State) (head code idx : Nat) (nonce : W256) : State :=
  if (s.head head).spdmAlg && s.deviceSigns then s.signRequest (.spdm head code idx nonce)
  else s.emit (.doe head code SPDM_INVALID [])

/-- R63: CHALLENGE. -/
def State.challengeEff (s : State) (head : Nat) (nonce : W256) : State := s.spdmRun head 1 (fun s => s.signedAnswer head 1 0 nonce)

/-- R63, R457: GET_MEASUREMENTS of index 0 (their number), 1 to 8, or 255 (all). -/
def State.getMeasurementsEff (s : State) (head index : Nat) (signed : Bool) (nonce : W256) : State :=
  s.spdmRun head 2 (fun s =>
    if 8 < index ∧ index ≠ 255 then s.emit (.doe head 2 SPDM_INVALID [])
    else if signed then s.signedAnswer head 2 index nonce
    else s.emit (.doe head 2 0 (if index = 0 then [8] else s.measFields index)))

/-- R63, R466: KEY_EXCHANGE sets up a session. -/
def State.keyExchangeEff (s : State) (head : Nat) (nonce : W256) : State := s.spdmRun head 3 (fun s => s.signedAnswer head 3 0 nonce)

/-- R466: PSK_EXCHANGE is not supported. -/
def State.pskExchangeEff (s : State) (head : Nat) : State := s.doeRun head (fun s => s.emit (.doe head 4 SPDM_UNSUPPORTED []))

/-- R465: KEY_IMPORT: a secret is stored and its handle returned; a fifth import returns ERROR Busy. -/
def State.keyImportEff (s : State) (head : Nat) (secret : W256) : State :=
  s.doeRun head (fun s =>
    if !(s.head head).session then s.emit (.doe head 8 SPDM_UNEXPECTED [])
    else if 4 ≤ s.sec.secrets.length then s.emit (.doe head 8 SPDM_BUSY [])
    else
      let h := (((List.range 5).drop 1).find? (fun i => !(ahas i s.sec.secrets))).getD 1
      (((s.modSec (fun x => { x with secrets := aput h secret x.secrets })).storeSecrets).psRequest .internal).emit (.doe head 8 0 [h]))

/-- R465: KEY_DELETE; a handle that the package's Caravan membership names, or that no secret has, returns ERROR InvalidRequest. -/
def State.keyDeleteEff (s : State) (head handle : Nat) : State :=
  s.doeRun head (fun s =>
    if !(s.head head).session then s.emit (.doe head 9 SPDM_UNEXPECTED [])
    else if !(ahas handle s.sec.secrets) || (s.car.inGroup && s.car.handle == handle) then s.emit (.doe head 9 SPDM_INVALID [])
    else (((s.modSec (fun x => { x with secrets := adel handle x.secrets })).storeSecrets).psRequest .internal).emit (.doe head 9 0 []))

/-! ### IDE_KM (R62, R466) -/

/-- R466: an IDE_KM request, accepted only in a session that KEY_EXCHANGE set up. -/
def State.ideRun (s : State) (head code : Nat) (body : State → State) : State :=
  s.doeRun head (fun s => if (s.head head).session then body s else s.emit (.doe head code SPDM_UNEXPECTED []))

/-- Change an IDE stream of a head. -/
def State.modIde (s : State) (head stream : Nat) (f : IdeStream → IdeStream) : State :=
  s.modHead head (fun d => { d with ide := vmod stream f d.ide })

/-- R62, R466: QUERY: CXL.mem IDE in containment and skid mode, selective streams, link streams, and the key sets programmed by
stream. -/
def State.ideKmQueryEff (s : State) (head : Nat) : State :=
  s.ideRun head 16 (fun s => s.emit (.doe head 16 0 ([1, 1, 4, 0] ++ (s.head head).ide.toList.map (·.sets))))

/-- R466: KEY_PROG programs an idle key set of a stream and direction (0 receive, 1 transmit); the acknowledgement's status is 0, 3
for a value out of range, 4 for a set in use. -/
def State.keyProgEff (s : State) (head stream set dir : Nat) (io : Option (Nat × Bool)) : State :=
  s.ioTaken head io (fun s => s.ideRun head 17 (fun s =>
    let x := vget stream {} (s.head head).ide
    if 5 ≤ stream ∨ 2 ≤ set ∨ 2 ≤ dir then s.emit (.doe head 17 0 [stream, set, dir, 3])
    else if (if dir = 0 then x.rx == some set || x.rxNew == some set else x.tx == some set) then
      s.emit (.doe head 17 0 [stream, set, dir, 4])
    else
      (s.modIde head stream (fun y => { y with sets := if bitOf y.sets (2 * set + dir) then y.sets else y.sets + 2 ^ (2 * set + dir) })).emit
        (.doe head 17 0 [stream, set, dir, 0])))

/-- R466: K_SET_GO: the receiver accepts both sets until the first flit under the new one; the transmitter goes over to it. New
receive keys end the insecure state (R62). -/
def State.kSetGoEff (s : State) (head stream set dir : Nat) (io : Option (Nat × Bool)) : State :=
  s.ioTaken head io (fun s => s.ideRun head 18 (fun s =>
    let go (y : IdeStream) : IdeStream :=
      if !bitOf y.sets (2 * set + dir) || 2 ≤ set || 2 ≤ dir then y
      else if dir = 1 then { y with tx := some set }
      else if y.rx.isNone || y.rx == some set || y.insecure then { y with rx := some set, rxNew := none, insecure := false }
      else { y with rxNew := some set }
    (s.modIde head stream go).emit (.doe head 18 0 [stream, set, dir])))

/-- R466: K_SET_STOP: the set is no longer used, and its keys are gone. -/
def State.kSetStopEff (s : State) (head stream set dir : Nat) : State :=
  s.ideRun head 19 (fun s =>
    let off (o : Option Nat) : Option Nat := if o == some set then none else o
    let stop (y : IdeStream) : IdeStream :=
      let z := { y with sets := if bitOf y.sets (2 * set + dir) then y.sets - 2 ^ (2 * set + dir) else y.sets }
      if dir = 1 then { z with tx := off z.tx } else { z with rx := off z.rx, rxNew := off z.rxNew }
    (if set < 2 ∧ dir < 2 then s.modIde head stream stop else s).emit (.doe head 19 0 [stream, set, dir]))

/-- R466: the first flit under the new receive set is recognised: the old set stops. -/
def State.ideKeySwitchEff (s : State) (head stream : Nat) : State :=
  s.modIde head stream (fun y =>
    match y.rxNew, y.rx with
    | some n, some o => { y with rx := some n, rxNew := none, sets := if bitOf y.sets (2 * o) then y.sets - 2 ^ (2 * o) else y.sets }
    | some n, none => { y with rx := some n, rxNew := none }
    | none, _ => y)

/-! ### Firmware (R453, R454) -/

/-- R427, R453: FW_STAGE: a chunk of `len` bytes at `offset`; `img` is what the checks find in the whole image, `flashOk` that the
boot flash took the chunk. -/
def State.fwStageEff (s : State) (pc : PortCmd) (offset len buf : Nat) (final : Bool) (img : FwImage) (flashOk : Bool) : State :=
  s.porterRun pc 0x0900 true s.md.operating (fun s =>
    let i := 1 - b2n (s.sec.runSlot == 1)
    s.checkFields pc [true, len % 4 == 0 && decide (len ≤ 2 ^ 20), aligned64 buf] (fun s =>
      if s.sec.staging.isSome then s.fail pc .resourceBusy 0
      else if 2 ^ 24 < offset + len then s.fail pc .invalidField 1
      else if !flashOk then s.fail pc .mediaError 3
      else match s.stageChunk offset len final img with
        | (s1, false) => s1.fail pc .invalidField 0
        | (s1, true) =>
          let k := s1.fwSlot i
          if final && k.verdict != 1 then s1.fail pc .notAuthorised 1 else s1.ok pc [(32, k.staged), (2, k.verdict)]))

/-- R454: FW_ACTIVATE: the staged image becomes the preferred one on trial; after the commit a warm reset with CAUSE 0b100
follows. -/
def State.fwActivateEff (s : State) (pc : PortCmd) : State :=
  s.porterRun pc 0x0901 true s.md.inService (fun s =>
    let i := 1 - b2n (s.sec.runSlot == 1)
    if (s.fwSlot i).verdict != 1 then s.fail pc .notAuthorised 1
    else
      let v := s.fwBoot
      ((s.setFwBoot (fwPutTries (v / 4 * 4 + i + 2) 0)).ok pc []).psRequest (.restart pc.ring pc.cid))

/-! ### Attestation (R458 to R460) -/

/-- R458: ATTEST_QUOTE. -/
def State.attestQuoteEff (s : State) (pc : PortCmd) (buf mask : Nat) (nonce : W256) : State :=
  s.porterRun pc 0x0902 false true (fun s =>
    s.checkFields pc [aligned64 buf, decide (mask ≠ 0 ∧ mask < 256)] (fun s =>
      if s.deviceSigns then s.signRequest (.quote pc.ring pc.cid nonce mask buf) else s.fail pc .wrongMode s.md.mode.code))

/-- R460: a token is added to the signing bucket, up to 256. -/
def State.signingTokenRefillEff (s : State) : State :=
  State.signNext (s.sec.signers.length + 1) (s.modSec (fun k => { k with tokens := min 256 (k.tokens + 1) }))

/-! ### Life cycle (R467 to R472) -/

/-- R468: a change of the table: its authorisation (current owner secret, kind of token or 0) and its wipe; none when the table
does not give it. -/
def lcChange (lc target : Nat) : Option (Bool × Nat × Nat) :=
  match lc, target with
  | 2, 3 => some (false, 0, 1)
  | 3, 3 => some (true, 0, 0)
  | 3, 2 => some (true, 0, 1)
  | 2, 4 => some (false, 1, 1)
  | 3, 4 => some (true, 1, 1)
  | 4, 2 => some (false, 2, 1)
  | 2, 5 => some (false, 4, 2)
  | 3, 5 => some (true, 4, 2)
  | 4, 5 => some (false, 4, 2)
  | 2, 0xE => some (false, 0, 3)
  | 3, 0xE => some (true, 0, 3)
  | _, _ => none

/-- R541: the bytes of LC. -/
def lcBytes (lc : Nat) (p : Option (Nat × Nat × Nat)) : List Byte :=
  match p with
  | some (t, w, g) => leBytes 1 lc ++ [1] ++ leBytes 1 t ++ leBytes 1 w ++ leBytes 1 g ++ zeros 3
  | none => leBytes 1 lc ++ zeros 7

/-- R468 to R470: LIFECYCLE_SET. The buffer holds current secret, new secret and token; `sigOk` says that the token's public key
and signature verify. -/
def State.lifecycleSetEff (s : State) (pc : PortCmd) (target bufAddr : Nat) (buf : List Byte) (sigOk : Bool) : State :=
  s.porterRun pc 0x0903 true s.md.inService (fun s =>
    match lcChange s.sec.lc target with
    | none => s.fail pc .invalidField 0
    | some (secret, kind, wipe) =>
      let bits := if wipe = 1 ∨ wipe = 2 then 1 else 0
      s.checkFields pc [!s.car.inGroup && decide (s.fuse.gen + bits ≤ 64), aligned64 bufAddr] (fun s =>
        let good := (!secret || s.secretOk (buf.take 32)) && (kind == 0 || s.tokenOk buf kind sigOk)
        let s0 := if kind = 0 then s else s.useChallenge
        let new := (buf.drop 32).take 32
        let go (a : State) : State :=
          if wipe = 0 then
            ((a.psPut Param.OWNER_AUTH (a.ownerAuthOf new)).ok pc [(4, a.sec.lc)]).psRequest (.porter pc.ring pc.cid)
          else
            let p := some (target, wipe, a.fuse.gen + bits)
            let b := if target = 3 then
                let later : State := { a with fuse := { a.fuse with gen := a.fuse.gen + 1 } }
                a.psPut Param.OWNER_AUTH (later.ownerAuthOf new)
              else a
            (((b.modSec (fun x => { x with lcPending := p })).psPut Param.LC (lcBytes b.sec.lc p)).ok pc [(4, b.sec.lc)]).psRequest
              (.restart pc.ring pc.cid)
        if secret || kind != 0 then s0.authorise pc 0x0903 good go else go s0))

/-- R471, R472: DEBUG_UNLOCK. -/
def State.debugUnlockEff (s : State) (pc : PortCmd) (scope bufAddr : Nat) (buf : List Byte) (sigOk : Bool) : State :=
  s.porterRun pc 0x0904 true s.md.inService (fun s =>
    s.checkFields pc [decide (scope < 8), aligned64 bufAddr] (fun s =>
      let named := leAt buf (64 + 3) 1
      let grant := if s.sec.lc = 5 then 0 else Nat.land scope named
      let mp := bitOf grant 2
      let good := s.tokenOk buf 3 sigOk && (!(mp && s.sec.lc == 3) || s.secretOk (buf.take 32))
      s.useChallenge.authorise pc 0x0904 good (fun a =>
        let b := if mp && (a.sec.lc == 2 || a.sec.lc == 3) then
            a.modSec (fun x => { x with keys := [], loaded := false, withdrawn := true })
          else a
        let c := b.modSec (fun x => { x with granted := Nat.lor x.granted grant })
        (if grant = 0 then c else c.event Gb.DEBUG_GRANT 15 [grant, leAt buf (64 + 4) 1]).ok pc [(8, c.sec.granted)])))

/-! ### The commands of this family -/

/-- DOE_DISCOVERY (R63): DOE Discovery request. -/
def execDoeDiscovery (head index : Nat) (s : State) : Host.Outcome State Fault Refusal :=
  s.run (fun x => x.doeDiscoveryEff head index)

/-- CDAT_TABLE_ACCESS (R64): DOE request that reads the CDAT table. -/
def execCdatTableAccess (head ld : Nat) (s : State) : Host.Outcome State Fault Refusal :=
  s.run (fun x => x.cdatTableAccessEff head ld)

/-- NEGOTIATE_ALGORITHMS (R63): SPDM NEGOTIATE_ALGORITHMS offering the XMSS^MT key. -/
def execNegotiateAlgorithms (head : Nat) (xmss : Bool) (s : State) : Host.Outcome State Fault Refusal :=
  s.run (fun x => x.negotiateAlgorithmsEff head xmss)

/-- CHALLENGE (R63): SPDM CHALLENGE, signed by the device key or refused. -/
def execChallenge (head : Nat) (nonce : W256) (s : State) : Host.Outcome State Fault Refusal :=
  s.run (fun x => x.challengeEff head nonce)

/-- GET_MEASUREMENTS (R457): SPDM GET_MEASUREMENTS returns measurement blocks, signed when asked. -/
def execGetMeasurements (head index : Nat) (signed : Bool) (nonce : W256) (s : State) : Host.Outcome State Fault Refusal :=
  s.run (fun x => x.getMeasurementsEff head index signed nonce)

/-- KEY_EXCHANGE (R63): SPDM KEY_EXCHANGE sets up a secured session. -/
def execKeyExchange (head : Nat) (nonce : W256) (s : State) : Host.Outcome State Fault Refusal :=
  s.run (fun x => x.keyExchangeEff head nonce)

/-- PSK_EXCHANGE (R466): SPDM PSK_EXCHANGE is not supported. -/
def execPskExchange (head : Nat) (s : State) : Host.Outcome State Fault Refusal :=
  s.run (fun x => x.pskExchangeEff head)

/-- KEY_IMPORT (R465): Vendor SPDM KEY_IMPORT stores a 32-byte secret and returns a handle. -/
def execKeyImport (head : Nat) (secret : W256) (s : State) : Host.Outcome State Fault Refusal :=
  s.run (fun x => x.keyImportEff head secret)

/-- KEY_DELETE (R465): Vendor SPDM KEY_DELETE removes an imported secret. -/
def execKeyDelete (head handle : Nat) (s : State) : Host.Outcome State Fault Refusal :=
  s.run (fun x => x.keyDeleteEff head handle)

/-- IDE_KM_QUERY (R466): IDE_KM QUERY. -/
def execIdeKmQuery (head : Nat) (s : State) : Host.Outcome State Fault Refusal :=
  s.run (fun x => x.ideKmQueryEff head)

/-- KEY_PROG (R466): IDE_KM KEY_PROG programs an idle key set. -/
def execKeyProg (head stream set dir : Nat) (io : Option (Nat × Bool)) (s : State) : Host.Outcome State Fault Refusal :=
  s.run (fun x => x.keyProgEff head stream set dir io)

/-- K_SET_GO (R466): IDE_KM K_SET_GO starts a key set. -/
def execKSetGo (head stream set dir : Nat) (io : Option (Nat × Bool)) (s : State) : Host.Outcome State Fault Refusal :=
  s.run (fun x => x.kSetGoEff head stream set dir io)

/-- K_SET_STOP (R466): IDE_KM K_SET_STOP stops a key set. -/
def execKSetStop (head stream set dir : Nat) (s : State) : Host.Outcome State Fault Refusal :=
  s.run (fun x => x.kSetStopEff head stream set dir)

/-- IDE_KEY_SWITCH (R466): The first flit under a new key set is recognised and the old set stops. -/
def execIdeKeySwitch (head stream : Nat) (s : State) : Host.Outcome State Fault Refusal :=
  s.run (fun x => x.ideKeySwitchEff head stream)

/-- FW_STAGE (R453): Command that stages a firmware chunk and verifies on FINAL. -/
def execFwStage (pc : PortCmd) (offset len buf : Nat) (final : Bool) (img : FwImage) (flashOk : Bool)
    (s : State) : Host.Outcome State Fault Refusal :=
  s.run (fun x => x.fwStageEff pc offset len buf final img flashOk)

/-- FW_ACTIVATE (R454): Command that activates a verified staged image by a warm reset. -/
def execFwActivate (pc : PortCmd) (s : State) : Host.Outcome State Fault Refusal :=
  s.run (fun x => x.fwActivateEff pc)

/-- ATTEST_QUOTE (R458): Command that signs a quote of selected measurements. -/
def execAttestQuote (pc : PortCmd) (buf mask : Nat) (nonce : W256)
    (s : State) : Host.Outcome State Fault Refusal :=
  s.run (fun x => x.attestQuoteEff pc buf mask nonce)

/-- SIGNING_TOKEN_REFILL (R460): The signing bucket refills at 32 tokens per second and a waiting request may sign. -/
def execSigningTokenRefill (s : State) : Host.Outcome State Fault Refusal :=
  s.run (fun x => x.signingTokenRefillEff)

/-- LIFECYCLE_SET (R468): Command that requests a life-cycle change. -/
def execLifecycleSet (pc : PortCmd) (target bufAddr : Nat) (buf : List Byte) (sigOk : Bool)
    (s : State) : Host.Outcome State Fault Refusal :=
  s.run (fun x => x.lifecycleSetEff pc target bufAddr buf sigOk)

/-- DEBUG_UNLOCK (R471): Command that grants debug scopes named by a token. -/
def execDebugUnlock (pc : PortCmd) (scope bufAddr : Nat) (buf : List Byte) (sigOk : Bool)
    (s : State) : Host.Outcome State Fault Refusal :=
  s.run (fun x => x.debugUnlockEff pc scope bufAddr buf sigOk)

/-- GET_CERTIFICATE (R456): SPDM GET_CERTIFICATE returns the Krytlith chain as certificate slot 0. -/
def execGetCertificate (head slot : Nat) (s : State) : Host.Outcome State Fault Refusal :=
  s.run (fun x => x.getCertificateEff head slot)

/-- GET_VERSION (R63): SPDM version negotiation answers 1.2 and accepts 1.1. -/
def execGetVersion (head version : Nat) (s : State) : Host.Outcome State Fault Refusal :=
  s.run (fun x => x.getVersionEff head version)

end Sys2Proof.Machine
end

