-- ==== Sys2Proof/Machine/Integrity.lean ====
section
/-! DEFINITION. Machine/Integrity.lean: scrubbing, refresh, repair, error injection and Cupola (08_integrity.md R257 to R283), heartbeats
and mesh links (01_architecture.md R19, R275). -/

namespace Sys2Proof.Machine

open Sys2Proof

/-! ### Scrubbing (R260, R261) -/

/-- R260: pages that the scrubber of a channel visits, ascending. -/
def State.scrubPages (s : State) (t ch : Nat) : List Nat :=
  ((s.tile t).med.pages.map (·.1)).filter (fun p => locCh p == ch
    && [BlkSt.opened, .full, .copying, .retiring, .ring].contains (s.blk t (locBlk p)).st)

/-- R57, R260: the page a scrubber visits next: those of a Scan Media range first; the answer also says that the order wraps. -/
def State.scrubNext (s : State) (t ch : Nat) : Option (Nat × Bool) :=
  match (s.tile t).med.scan.find? (fun e => locCh e.1 == ch) with
  | some e => some (e.1, false)
  | none =>
    let l := s.scrubPages t ch
    match (match (s.chan t ch).scrubAt with | some a => l.find? (fun p => decide (a < p)) | none => l.head?) with
    | some p => some (p, false)
    | none => l.head?.map (fun p => (p, true))

/-- R260: a pass of the tile ends when the visit order of every channel that is up has wrapped. -/
def State.passWrap (s : State) (t ch : Nat) : State :=
  let s1 := s.modInt t (fun x => { x with wrapped := setBit x.wrapped ch })
  if (List.range 8).all (fun c => (s.chan t c).st != 2 || (s.scrubPages t c).isEmpty || bitOf (s1.tile t).int.wrapped c) then
    let s2 := s1.modInt t (fun x =>
      { x with wrapped := 0, marginal := 0, reported := false, passes := (x.passes + 1) % 65536, stats := adel 8 x.stats })
    s2.stat t 9 1
  else s1

/-- R261: a marginal page is counted; the threshold is reported once per pass. -/
def State.marginalPage (s : State) (t loc : Nat) : State :=
  let s1 := s.modInt t (fun x => { x with marginal := x.marginal + 1 })
  if 1024 ≤ (s1.tile t).int.marginal && !(s1.tile t).int.reported then
    let lds := match aget loc (s.tile t).med.pages with | some p => s.holders (s.segOf t p.subject / 65536) | none => []
    ((s1.modInt t (fun x => { x with reported := true })).evtFor lds 0 { kind := 0, cause := 1, info := t }).latch
      (Reg.INT_ERR_STATUS t) 0 Gb.INT_CORR_THRESH t [t, (s1.tile t).int.passes]
  else s1

/-- R57: lines of a scanned page that are uncorrectable or poisoned, as DPAs of the LD that asked. -/
def State.scanLines (s : State) (t loc c : Nat) (bad : List Nat) : List Nat :=
  match aget loc (s.tile t).med.pages with
  | none => []
  | some p =>
    let x := s.segOf t p.subject
    match (s.ldBlocks c).find? (fun b => b.1 == x / 65536) with
    | none => []
    | some b =>
      ((List.range 64).filter (fun i => bad.contains i || (s.fromMedium (s.slotOf t p.subject) x i (s.pageLine t loc i)).2)).map
        (fun i => b.2 * 2 ^ 28 + x % 65536 * 4096 + i * 64)

/-- R260, R262: one visit of a scrubber in a SCRUB sector. `errs` is what the reads of the page meet. -/
def State.scrubVisitEff (s : State) (tile ch : Nat) (errs : List LineErr) : State :=
  if !s.alive tile || (s.chan tile ch).st != 2 || !s.regBit Reg.INT_CTL 15 then s
  else
    match s.sectorBudget tile 3 ch, s.scrubNext tile ch with
    | some i, some (loc, wrap) =>
      if !s.mediaFree tile loc then s
      else
      let scanned := (s.tile tile).med.scan.filter (fun e => e.1 == loc)
      let s1 := (if wrap && scanned.isEmpty then s.passWrap tile ch else s).spend tile i ch
      let (s2, o) := s1.maintRead tile loc errs
      let pg := aget loc (s2.tile tile).med.pages
      let far := match pg with
        | some p => (s2.readOffs tile loc p).1.any (fun x => decide (s.fld Reg.INT_CTL 6 0 ≤ x.natAbs)) || decide (2 ^ 34 ≤ s2.pageAge p)
        | none => false
      let s3 := if far then s2.refresh tile loc 0 ((pg.map s2.pageAge).getD 0) false else s2
      let s4 := if 1 ≤ o.step || decide (s.refreshSym ≤ o.most) then s3.marginalPage tile loc else s3
      let s5 := if o.bad.isEmpty then s4 else s4.pageLost tile loc o.bad
      let s6 := ((s5.stat tile 8 1).perfEvent tile 0x42 0 1).judgeLost
      if scanned.isEmpty then s6.modCh tile ch (fun k => { k with scrubAt := some loc })
      else
        (scanned.foldl (fun a e => a.modLd e.2 (fun d => { d with scanFound := d.scanFound ++ s2.scanLines tile loc e.2 o.bad }))
          (s6.modMed tile (fun m => { m with scan := m.scan.filter (fun e => e.1 != loc) }))).scanEnd
    | _, _ => s

/-! ### Refresh and repair (R262, R263, R280) -/

/-- R263: the entry served next: urgent first, then high, then normal with the oldest write age first. -/
def State.refreshNext (s : State) (t : Nat) : Option Refresh :=
  let q := (s.tile t).int.queue
  match q.find? (fun r => r.prio == 2), q.find? (fun r => r.prio == 1) with
  | some r, _ => some r
  | none, some r => some r
  | none, none => match q with
    | [] => none
    | r :: l => some (l.foldl (fun m x => if m.age < x.age then x else m) r)

/-- R263: an entry of the refresh queue becomes a copy batch of one page on the GC frontier, in a REFRESH sector. A page that no
longer holds a current copy leaves the queue. -/
def State.refreshExecuteEff (s : State) (tile : Nat) : State :=
  if !s.mayMaintain tile then s
  else match s.refreshNext tile with
    | none => s
    | some r =>
      let off (x : State) : State := x.modInt tile (fun y => { y with queue := y.queue.filter (· != r) })
      let seg := ((aget r.loc (s.tile tile).med.pages).map (·.subject)).getD 0
      let e := s.mapRaw tile seg
      let busy := (s.tile tile).xl.batches.any (fun b => b.src == locBlk r.loc)
      if e.loc != r.loc || !(e.st == .mapped || e.st == .relocating) then (off s).judgeLost
      else if (s.sectorBudget tile 2 (locCh r.loc)).isNone || busy || e.st == .relocating then s
      else
        let b : Batch := { src := locBlk r.loc, plane := planeNo r.loc, target := 1, left := [(seg, r.loc)], refresh := true }
        (off s).modXl tile (fun x => { x with batches := x.batches ++ [b] })

/-- R283: repair, resync or rejoin work ends; the bulk-copy window is released. -/
def State.cupWorkDone (s : State) (kind ms : Nat) : State :=
  let s1 := s.releaseWindow 1
  ((s1.modCup (fun c => { c with work := 0 })).event Gb.CUP_REBUILD_DONE 15 [kind, ms]).judgeSync

/-- R283: work starts: 1 repair, 2 resync, 3 rejoin, as WORK of CUP_STATUS gives it. -/
def State.cupWorkStart (s : State) (kind count : Nat) : State :=
  (s.modCup (fun c => { c with work := kind })).event Gb.CUP_REBUILD_START 15 [kind, count]

/-- R28, R283: the running work may go on: the window is there and no shed stage pauses it. -/
def State.cupMayWork (s : State) : Bool := s.windowFor 1 && s.pw.stage == 0

/-- R280: the lowest LOST segment of a tile that no repair works on. -/
def State.lostNext (s : State) (t : Nat) : Option Nat :=
  (((s.tile t).xl.map.filter (fun e => e.2.st == .lost)).map (·.1)).find? (fun l =>
    (s.commitOf t l).isNone && !s.isParity l && !s.car.reads.any (fun r => r.use == .repair t l))

/-- LOST segments of the package. -/
def State.lostAll (s : State) : Nat := total (s.aliveTiles.map s.lostOn)

/-- R280, R303: repair of a LOST segment, in a REFRESH sector or under CUPOLA_REBUILD. `ms` is the time since the work started. -/
def State.lostRepairEff (s : State) (tile ms : Nat) : State :=
  let forced := s.cup.work == 1 && s.cupMayWork
  if forced && s.lostAll == 0 then s.cupWorkDone 1 ms
  else if !s.mayMaintain tile || bitOf s.md.sealed tile then s
  else match s.lostNext tile with
    | none => s
    | some l =>
      let budget := (List.range 8).filterMap (fun c => (s.sectorBudget tile 2 c).map (fun i => (i, c)))
      match forced, budget.head? with
      | false, none => s
      | _, b =>
        let s0 := if forced then s.setWindow 1 else match b with | some (i, c) => s.spend tile i c | none => s
        match s0.reconSeg tile l with
        | some ls => (s0.reconReads tile l 0 68).beginCommit tile (.repair l) l { kind := .host, subject := l, key := s0.slotOf tile l, lines := ls }
        | none =>
          let seg := s0.segOf tile l
          match s0.carDataRow seg, s0.carStripe seg with
          | some row, some k =>
            match s0.carAsk row with
            | some asked => s0.carReadStart (.repair tile l) k allLines asked
            | none => s
          | _, _ => s

/-! ### Error injection and its commands (R264 to R266, R283) -/

/-- R264: positions and flip value of the FLIP registers. -/
def State.flipRegs (s : State) : Nat × Nat :=
  ((s.getReg Reg.FLIP_MASK0).toNat + 2 ^ 32 * (s.getReg Reg.FLIP_MASK1).toNat + 2 ^ 64 * s.fld Reg.FLIP_MASK2 7 0, s.fld Reg.FLIP_MASK2 15 8)

/-- R266 READ_NOW: the line is read once through the maintenance ladder; the answer is the step reached (7 uncorrected) and the
symbols corrected. Every array read of the line carries the injection, and one count is consumed. -/
def State.readNow (s : State) (t : Nat) (j : Inject) (errs : List LineErr) : State × Nat × Nat :=
  let dead := s.deadDies t j.loc
  let es := withInj ({ j with left := 8 } :: s.injs t j.loc (fun _ => true)) errs
  let e := (es.find? (fun x => x.line == j.line)).getD { line := j.line }
  let (offs, clamped) := s.pageOffs t j.loc
  let issue (used n : Nat) (a : State) : State :=
    ((a.caIssue t (locCh j.loc) (locRank j.loc) (readCmd j.loc j.line 1 offs)).rereads t j.loc j.line used offs).perfEvent t 0x30 (2 ^ locCh j.loc) n
  let page (a : State) : State := a.caIssue t (locCh j.loc) (locRank j.loc) (readCmd j.loc 0 68 offs)
  let left (a : State) : State :=
    let b := (a.modInt t (fun x => { x with armed := x.armed.filterMap (fun k => if k = j then (if j.left ≤ 1 then none else some { j with left := j.left - 1 }) else some k) })).stat t 15 1
    if j.left ≤ 1 then b.latchOnly (Reg.INT_ERR_STATUS t) 5 else b
  let (r, used) := ladder dead e.flags e.reads true
  match r with
  | some (n, k) =>
    let s1 := (issue used used s).readOutcome t j.loc { step := n, weak := if n = 0 then [] else [j.line], corr := k, most := k } clamped
    (left (if n = 0 then s1 else s1.perfEvent t 0x40 n 1), n, k)
  | none =>
    let o := pageRead dead es
    let s1 := page (issue used (used + 67) s)
    if !o.bad.contains j.line then
      (left (((s1.readOutcome t j.loc { step := 3, weak := [j.line], corr := o.corr } clamped).judgeLost).perfEvent t 0x40 3 1), 3, o.corr)
    else
      let seg := ((aget j.loc (s.tile t).med.pages).map (·.subject)).getD 0
      (left (s1.pageLost t j.loc [j.line]), if j.line < 64 && s.holdsCurrent t j.loc && !s.isParity seg && (s.reconstruct t seg j.line).isSome then 4 else 7, 0)

/-- R265, R266, R283: INJECT_ERROR. `errs` is what the reads of READ_NOW meet. -/
def State.injectErrorEff (s : State) (pc : PortCmd) (tile target ch page line frame seg count : Nat) (readNow : Bool) (errs : List LineErr) : State :=
  s.porterRun pc 0x0301 true s.md.inService (fun s =>
    let (mask, value) := s.flipRegs
    let loc := ch * 2 ^ 26 + page
    let media := target == 0 || target == 1 || target == 2
    let n := if count = 0 then 1 else count
    let subj := ((aget loc (s.tile tile).med.pages).map (·.subject)).getD 0
    let cur := s.holdsCurrent tile loc
    let oks := [s.alive tile, decide (target < 7), !media || (s.chan tile ch).st == 2, target != 1 || cur,
      if media then decide (line < 68) else target != 3 || decide (line < 65),
      !(target == 3 || target == 4) || decide (frame < framesOf s.pop), !(target == 5 || target == 6) || decide (seg < s.segs)]
    s.checkFields pc oks (fun s =>
      let note (a : State) : State := a.event Gb.INT_INJECT tile [tile, target, n]
      match target with
      | 0 | 2 =>
        if 4 ≤ (s.tile tile).int.armed.length then s.fail pc .resourceBusy 0
        else
          let j : Inject := { margin := target == 2, loc := loc, line := line, mask := mask, value := value, left := n }
          let s1 := note (s.modInt tile (fun x => { x with armed := x.armed ++ [j] }))
          if readNow then
            let (s2, step, sym) := s1.readNow tile j errs
            s2.ok pc [(3, step), (8, sym)]
          else s1.ok pc [(3, 0), (8, 0)]
      | 1 =>
        if (s.tile tile).xl.batches.any (fun b => b.src == locBlk loc) then s.fail pc .resourceBusy 0
        else
          let b : Batch := { src := locBlk loc, plane := planeNo loc, target := 1, left := [(subj, loc)], refresh := true, flips := [(line, mask, value)] }
          (note (s.modXl tile (fun x => { x with batches := x.batches ++ [b] }))).ok pc [(3, 0), (8, 0)]
      | 3 => (note (s.modFs tile (fun x => { x with lineFlips := aputD 0 (65 * frame + line) (Nat.xor (agetD (65 * frame + line) 0 x.lineFlips) (flipPat mask value)) x.lineFlips }))).ok pc [(3, 0), (8, 0)]
      | 4 => (note (s.modFs tile (fun x => { x with tagFlips := aputD 0 frame (Nat.xor (agetD frame 0 x.tagFlips) (mask % 2 ^ 36)) x.tagFlips }))).ok pc [(3, 0), (8, 0)]
      | 5 =>
        let s1 := if s.stcHas tile seg then
            s.modXl tile (fun x => { x with stcFlips := aputD 0 seg (Nat.xor (agetD seg 0 x.stcFlips) (mask % 2 ^ 36)) x.stcFlips }) else s
        (note s1).ok pc [(3, 0), (8, 0)]
      | _ => (note (s.modXl tile (fun x =>
          { x with mapFlips := aputD 0 (seg / 16) (Nat.xor (agetD (seg / 16) 0 x.mapFlips) (flipPat mask value)) x.mapFlips }))).ok pc [(3, 0), (8, 0)]))

/-- R283: SCRUB_CTL. -/
def State.scrubCtlEff (s : State) (pc : PortCmd) (mask : Nat) (enable restart : Bool) (sym off shift : Nat) (persist : Bool) : State :=
  s.porterRun pc 0x0300 true s.md.operating (fun s =>
    let ts := (List.range 8).filter (bitOf mask)
    s.checkFields pc [ts.all (fun t => s.present.contains t)] (fun s =>
      let v := b2n enable * 32768 + sym * 4096 + shift * 256 + off
      let s1 := s.setReg Reg.INT_CTL (BitVec.ofNat 32 v)
      let s2 := if restart then ts.foldl (fun a t =>
          (a.modMed t (fun m => { m with chans := vmap (fun c => { c with scrubAt := none }) m.chans })).modInt t (fun x =>
            { x with marginal := 0, reported := false, wrapped := 0, stats := adel 8 x.stats })) s1 else s1
      let s3 := s2.ok pc [(16, match ts with | t :: _ => (s2.tile t).int.passes | [] => 0)]
      if persist then s3.psPersist pc [(Param.INT_SETTINGS, leBytes 4 v)] else s3))

/-- R283: the 32 words of GET_ERROR_STATS. -/
def State.errorStats (s : State) (t : Nat) : List Nat :=
  (List.range 32).map (fun w => if w = 13 then s.lostOn t else agetD w 0 (s.tile t).int.stats)

/-- R283: GET_ERROR_STATS. -/
def State.getErrorStatsEff (s : State) (pc : PortCmd) (tile buf : Nat) (clear : Bool) : State :=
  s.porterRun pc 0x0302 clear true (fun s =>
    s.checkFields pc [s.present.contains tile, aligned64 buf] (fun s =>
      let s1 := s.emit (.hostWrite (s.ring pc.ring).head buf (wordBytes (s.errorStats tile)))
      (if clear then s1.modInt tile (fun x => { x with stats := [] }) else s1).ok pc []))

/-! ### Cupola: deltas and answers (R270 to R272) -/

/-- Take the first PAR message of a tile. -/
def State.popInbox (s : State) (t : Nat) : State := s.modCupT t (fun c => { c with inbox := c.inbox.drop 1 })

/-- R271: a delta that arrived is applied, found a duplicate, or held; a held one starts the flush of the oldest slot. `errs` is
what the read of that slot's parity page meets. -/
def State.cupolaDeltaReceiveEff (s : State) (tile : Nat) (errs : List LineErr) : State :=
  if !s.alive tile then s
  else match (s.tile tile).cup.inbox with
    | { body := .delta d, .. } :: _ =>
      let s1 := s.popInbox tile
      match s1.cupApply tile d with
      | some s2 => s2
      | none =>
        let s2 := (s1.modCupT tile (fun c => { c with held := c.held ++ [d] })).latch (Reg.CUP_ERR_STATUS tile) 1 Gb.CUP_SLOT_FULL tile
          [tile, (s1.tile tile).cup.slots.length]
        match s2.oldestSlot tile with
        | some (pl, _) =>
          if !s2.parityFreeNow tile pl then s2
          else ((s2.payFlush tile 0).flushStripe tile pl errs)
        | none => s2
    | _ => s

/-- R271: BUSY goes out for every held delta, every 500 µs. -/
def State.cupolaBusyTimerEff (s : State) (tile : Nat) : State :=
  if s.alive tile then (s.tile tile).cup.held.foldl (fun a d => a.cupAck tile d .busy) s else s

/-- R272: an answer to a delta arrives: APPLIED and DUPLICATE end step 2, BUSY restarts the wait. -/
def State.cupolaAckReceiveEff (s : State) (tile : Nat) : State :=
  if !s.alive tile then s
  else match (s.tile tile).cup.inbox with
    | { body := .ack k seg, .. } :: _ =>
      let s1 := s.popInbox tile
      if k = .busy || !(ahas seg (s1.tile tile).cup.sent) then s1
      else (((s1.modCupT tile (fun c => { c with sent := adel seg c.sent })).commitCaravan tile seg).settle)
    | _ => s

/-- R272, R275: the wait for the answer to a delta expires, `waitMs` after its send or its last BUSY, or `totalMs` after its send; the parity
tile is declared failed. `answers` says that its logic still answers. -/
def State.cupolaAckTimeoutEff (s : State) (tile seg : Nat) (answers : Bool) (waitMs totalMs : Nat) : State :=
  match aget seg (s.tile tile).cup.sent with
  | some (p, ms) => if s.alive tile && (decide (ms ≤ waitMs) || decide (ms + 1 ≤ totalMs)) then ((s.latchOnly (Reg.CUP_ERR_STATUS tile) 0).declareFailed p 1 answers).settle else s
  | none => s

/-- R273, R120: the oldest slot of a tile is flushed: in a PARITY_FLUSH sector, at 90 % slot use, for a held delta, or in Hold-up once
every frame of the tile has been committed. -/
def State.cupolaSlotFlushEff (s : State) (tile : Nat) (errs : List LineErr) : State :=
  if !s.alive tile || bitOf s.md.sealed tile then s
  else match s.oldestSlot tile with
    | none => s
    | some (pl, _) =>
      let n := (s.tile tile).cup.slots.length
      let busy := (s.tile tile).xl.commits.any (fun c => match c.job with | .host _ => true | _ => false) || !(s.dirtyOrder tile).isEmpty
      if (s.md.mode == .holdup && busy && decide (10 * n < 9 * slotCount)) || !s.parityFreeNow tile pl then s
      else if s.flushNow tile 0 n (!(s.tile tile).cup.held.isEmpty) then (s.payFlush tile 0).flushStripe tile pl errs
      else s

/-! ### Resync, rejoin and the Cupola commands (R279 to R283) -/

/-- R281: a stripe has its parity or a member on a failed tile, or on one that has yet to rejoin (R279). -/
def State.stripeBroken (s : State) (k : Nat) : Bool :=
  (List.range s.pop.tiles).any (fun t => !s.alive t || (s.rejoinAt t).isSome) && decide (k < s.stripes)

/-- R281: the parity page of a stripe is recomputed from its members; none when a member's line is missing. -/
def State.resyncStripe (s : State) (p q : Nat) : Option State :=
  (s.xorMembers p q).map (fun ls =>
    let pl := s.parLocal q
    let pg : Page := { kind := .host, subject := pl, members := s.memberJpos p q, lines := ls }
    (s.modCupT p (fun c => { c with slots := c.slots.map (fun x => if x.1 = pl then (x.1, { x.2 with flushing := true }) else x) })).beginCommit
      p (.cupResync pl) pl pg)

/-- R281: the next stripe is resynced, in ascending order. A stripe with a member on a failed tile is marked synced without a change;
one that a fold left unsynced waits for the rejoin. `ms` is the time since the work started. -/
def State.cupolaResyncStripeEff (s : State) (ms : Nat) : State :=
  if !s.md.operating then s
  else
    match s.cup.unsynced.find? (fun k => !s.stripeBroken k && (s.commitOf (k % s.pop.tiles) (s.parLocal (k / s.pop.tiles))).isNone) with
    | some k => (s.resyncStripe (k % s.pop.tiles) (k / s.pop.tiles)).getD s
    | none =>
      if s.cup.work != 2 || !s.cupMayWork then s
      else
        match s.cup.unsyncedFrom with
        | none => s.cupWorkDone 2 ms
        | some k =>
          let s1 := s.setWindow 1
          if s.stripeBroken k then s1.passStripe k
          else if (s1.commitOf (k % s.pop.tiles) (s.parLocal (k / s.pop.tiles))).isSome then s1
          else match s1.resyncStripe (k % s.pop.tiles) (k / s.pop.tiles) with
            | some s2 => s2
            | none => (s1.markSynced k).markUnsynced k

/-- R279: a tile rejoins: its data segments are checked against reconstruction in ascending order, then its parity is resynced. One
command takes one step; `errs` is what the read of the segment's own page meets, `ms` the time since the work started. -/
def State.tileRejoinEff (s : State) (errs : List LineErr) (ms : Nat) : State :=
  let waits := s.aliveTiles.find? (fun t => (s.rejoinAt t).isSome)
  match s.cup.rejoin, waits with
  | none, none => s
  | none, some t =>
    if s.md.operating && s.cup.work == 0 && s.cupMayWork then
      ((s.setWindow 1).modCup (fun c => { c with rejoin := some (t, 0), rejoined := 0 })).cupWorkStart 3 ((s.pop.tiles - 1) * s.cupR + s.cupR)
    else s
  | some (t, n), _ =>
    let top := (s.pop.tiles - 1) * s.cupR
    let next (x : State) : State := x.modCup (fun c => { c with rejoin := some (t, n + 1) })
    if !s.md.operating || !s.alive t || s.pw.stage != 0 then s
    else if n < top then
      let e := s.mapRaw t n
      let mapped := e.st == .mapped || e.st == .relocating
      let (s1, o) := if mapped then s.maintRead t e.loc errs else (s, {})
      if (s.commitOf t n).isSome || (mapped && !s.mediaFree t e.loc) then s
      else match s1.reconSeg t n with
        | none => next (s1.setLost t n)
        | some ls =>
          let s2 := s1.reconReads t n 0 68
          let same := o.bad.isEmpty && (List.range 64).all (fun i => (if mapped then s1.pageLine t e.loc i else 0) == ls.getD i 0)
          if same then next s2
          else next (s2.beginCommit t (.rejoin n) n { kind := .host, subject := n, key := s1.slotOf t n, lines := ls })
    else if n < top + s.cupR then
      if (s.commitOf t (s.parLocal (n - top))).isSome then s
      else next ((s.resyncStripe t (n - top)).getD (s.markUnsynced ((n - top) * s.pop.tiles + t)))
    else if (s.tile t).xl.commits.any (fun c => match c.job with | .rejoin _ | .cupResync _ => true | _ => false) then s
    else
      let s1 := (s.event Gb.CUP_REJOIN 15 [t, s.cup.rejoined]).modCup (fun c => { c with rejoin := none })
      let bits := leAt (s1.psGet Param.CUP_FAILED) 0 1
      ((s1.psPutNow Param.CUP_FAILED (leBytes 1 (bits - b2n (bitOf bits t) * 2 ^ t))).cupWorkDone 3 ms)

/-- R282: no local that would become parity holds content or lies in a block that an LD holds. -/
def State.parityFree (s : State) (g : Nat) : Bool :=
  let lo := s.segs - g * (s.cupP / 16)
  let hi := s.segs - s.cupR
  s.aliveTiles.all (fun t => (s.tile t).xl.map.all (fun e => decide (e.1 < lo ∨ hi ≤ e.1) || e.2.st == .never || e.2.st == .discarded))
    && s.cap.table.all (fun e => decide (e.1 < lo * s.pop.tiles / 65536))
    && (!s.car.inGroup || decide ((s.car.base + s.car.blocks) ≤ lo * s.pop.tiles / 65536))

/-- R282: G becomes `g`: slots are dropped, locals that no longer hold parity become NEVER with journalling, and every stripe that is
enabled is marked unsynced. -/
def State.setRegions (s : State) (g : Nat) : State :=
  let s1 := s.present.foldl (fun a t => a.modCupT t (fun c => { c with slots := [], held := [] })) s
  let lo := s.segs - s.cupR
  let hi := s.segs - g * (s.cupP / 16)
  let s2 := s.aliveTiles.foldl (fun a t =>
    ((((a.tile t).xl.map.filter (fun e => decide (lo ≤ e.1 ∧ e.1 < hi) && e.2.st != .never)).map (·.1)).foldl
      (fun b l => (b.jappend t (.discard l)).replaceEntry t l {}) a)) s1
  let s3 := (s2.modCup (fun c => { c with regions := g, unsyncedFrom := none, unsynced := [] })).unsyncAll
  if s3.stripes = 0 then s3.judgeSync else (s3.setWindow 1).cupWorkStart 2 s3.stripes

/-- R282, R283: CUPOLA_CONFIG. -/
def State.cupolaConfigEff (s : State) (pc : PortCmd) (regions : Nat) (persist : Bool) : State :=
  s.porterRun pc 0x0400 true s.md.inService (fun s =>
    if 16 < regions then s.fail pc .invalidField 0
    else if s.cup.work != 0 || !s.windowFor 1 then s.fail pc .resourceBusy 4
    else if s.cup.regions < regions && !s.parityFree regions then s.fail pc .invalidField 0
    else
      let s1 := if regions = s.cup.regions then s else (s.setRegions regions).event Gb.CUP_CONFIG 15 [s.cup.regions, regions]
      let s2 := s1.ok pc [(32, if regions = s.cup.regions then 0 else s1.stripes)]
      if persist then s2.psPersist pc [(Param.CUPOLA_REGIONS, leBytes 1 regions)] else s2)

/-- R283: CUPOLA_REBUILD: KIND 0 REPAIR, 1 RESYNC, 2 STOP. -/
def State.cupolaRebuildEff (s : State) (pc : PortCmd) (kind ms : Nat) : State :=
  s.porterRun pc 0x0401 true s.md.sdService (fun s =>
    if 3 ≤ kind then s.fail pc .invalidField 0
    else if kind = 2 then
      (if s.cup.work = 1 ∨ s.cup.work = 2 then s.cupWorkDone s.cup.work ms else s).ok pc [(32, 0)]
    else if s.cup.work != 0 || !s.windowFor 1 then s.fail pc .resourceBusy 4
    else if kind = 0 then ((s.setWindow 1).cupWorkStart 1 s.lostAll).ok pc [(32, s.lostAll)]
    else ((s.setWindow 1).unsyncAll.cupWorkStart 2 s.stripes).ok pc [(32, s.stripes)])

/-! ### Heartbeats and mesh links (R19, R275) -/

/-- R275: a tile sends its heartbeat to the primary in the SYNC class; the primary sends its own to tile 1 (10_modes.md R327). A tile
that no working route reaches is declared failed. `answers` says that its logic still answers. -/
def State.heartbeatSendEff (s : State) (tile : Nat) (answers : Bool) : State :=
  if !s.alive tile then s
  else
    let dst := if tile = s.md.primary then 1 - min 1 s.md.primary else s.md.primary
    if !s.alive dst then s
    else if (s.hops tile dst).isSome then s.meshSend tile { src := tile, dst := dst, body := .heartbeat }
    else if tile = s.md.primary then s else (s.declareFailed tile 3 answers).settle

/-- R275: a heartbeat of a tile is missed; the third in a row declares the tile failed. -/
def State.heartbeatMissEff (s : State) (tile : Nat) (answers : Bool) : State :=
  if !s.alive tile || tile = s.md.primary then s
  else
    let n := agetD tile 0 s.md.missed + 1
    let s1 := s.modMd (fun d => { d with missed := aput tile n d.missed })
    if n < 3 then s1 else (s1.declareFailed tile 2 answers).settle

/-- R76: the MEM messages of pairs whose route the fence has changed stand on an old route. `before` is the state before the fence. -/
def State.markOld (s before : State) : State :=
  let moved (m : Msg) : Bool := m.body.cls == 1 && before.route m.dst 8 m.src != s.route m.dst 8 m.src
  s.modJobs (fun j => { j with links := j.links.map (fun e => (e.1, e.2.map (fun m => if moved m then { m with old := true } else m))) })

/-- R19: messages on the links of a key are taken off and sent again, on their new routes, by the tile that sent them. One that its source
sends again has left the old route. -/
def State.resendLink (s : State) (key : Nat) : State :=
  let mine := s.jobs.links.filter (fun e => s.linkKey (e.1 / 16) (e.1 / 4 % 4) == key)
  let s1 := s.modJobs (fun j => { j with links := j.links.filter (fun e => s.linkKey (e.1 / 16) (e.1 / 4 % 4) != key) })
  (mine.foldl (fun a e =>
    let u := s.portTo (e.1 / 16) (e.1 / 4 % 4)
    e.2.foldl (fun b m => b.meshPut u { m with old := m.old && u != m.src }) a) s1).releaseHeld

/-- R19: the link at a port of a tile fails: it is fenced, the primary announces this (notes/assumptions/132.md), its messages are sent
again, and a tile that no route reaches any longer is declared failed; on a CZ2 that is the tile that is not the primary. -/
def State.meshLinkFailEff (s : State) (tile port : Nat) (answers : Bool) : State :=
  if !s.alive tile || 3 ≤ port || !s.linkUp tile port then s
  else
    let key := s.linkKey tile port
    let other := s.portTo tile port
    let s1 := (s.modMd (fun d => { d with fenced := aput key true d.fenced })).event Gb.MESH_LINK_DOWN 15 [tile, other]
    let s2 := (((s1.setCause 1 true).markOld s).resendLink key).syncAll (.fence tile port)
    let cut := s2.aliveTiles.filter (fun u => u != s2.md.primary && (s2.hops s2.md.primary u).isNone)
    (cut.foldl (fun a u => a.declareFailed u 3 answers) s2).settle

/-! ### The commands of this family -/

/-- HEARTBEAT_SEND (R275): Every tile sends a heartbeat every 100 µs in the SYNC class. -/
def execHeartbeatSend (tile : Nat) (answers : Bool) (s : State) : Host.Outcome State Fault Refusal :=
  s.run (fun x => x.heartbeatSendEff tile answers)

/-- HEARTBEAT_MISS (R275): Three consecutive heartbeats are missed and the tile is declared failed. -/
def execHeartbeatMiss (tile : Nat) (answers : Bool) (s : State) : Host.Outcome State Fault Refusal :=
  s.run (fun x => x.heartbeatMissEff tile answers)

/-- TILE_REJOIN (R279): A previously failed tile checks its segments against reconstruction and resyncs its parity. -/
def execTileRejoin (errs : List LineErr) (ms : Nat) (s : State) : Host.Outcome State Fault Refusal :=
  s.run (fun x => x.tileRejoinEff errs ms)

/-- MESH_LINK_FAIL (R19): A mesh link fails, is fenced and announced, and routes are recomputed. -/
def execMeshLinkFail (tile port : Nat) (answers : Bool) (s : State) : Host.Outcome State Fault Refusal :=
  s.run (fun x => x.meshLinkFailEff tile port answers)

/-- SCRUB_VISIT (R260): The scrubber reads and decodes one page in a SCRUB sector. -/
def execScrubVisit (tile ch : Nat) (errs : List LineErr) (s : State) : Host.Outcome State Fault Refusal :=
  s.run (fun x => x.scrubVisitEff tile ch errs)

/-- REFRESH_EXECUTE (R263): A queued page is rewritten as a one-page copy batch in a REFRESH sector. -/
def execRefreshExecute (tile : Nat) (s : State) : Host.Outcome State Fault Refusal :=
  s.run (fun x => x.refreshExecuteEff tile)

/-- LOST_REPAIR (R280): A LOST segment is reconstructed and reprogrammed. -/
def execLostRepair (tile ms : Nat) (s : State) : Host.Outcome State Fault Refusal :=
  s.run (fun x => x.lostRepairEff tile ms)

/-- INJECT_ERROR (R265): Command that arms an error injection on a media, GDDR7, tag, STC or map target. -/
def execInjectError (pc : PortCmd) (tile target ch page line frame seg count : Nat) (readNow : Bool) (errs :
    List LineErr)
    (s : State) : Host.Outcome State Fault Refusal :=
  s.run (fun x => x.injectErrorEff pc tile target ch page line frame seg count readNow errs)

/-- SCRUB_CTL (R283): Command that sets scrubbing and refresh thresholds. -/
def execScrubCtl (pc : PortCmd) (mask : Nat) (enable restart : Bool) (sym off shift : Nat) (persist : Bool)
    (s : State) : Host.Outcome State Fault Refusal :=
  s.run (fun x => x.scrubCtlEff pc mask enable restart sym off shift persist)

/-- GET_ERROR_STATS (R283): Command that writes the error statistics report. -/
def execGetErrorStats (pc : PortCmd) (tile buf : Nat) (clear : Bool)
    (s : State) : Host.Outcome State Fault Refusal :=
  s.run (fun x => x.getErrorStatsEff pc tile buf clear)

/-- CUPOLA_CONFIG (R282): Command that sets the number of enabled Cupola regions. -/
def execCupolaConfig (pc : PortCmd) (regions : Nat) (persist : Bool)
    (s : State) : Host.Outcome State Fault Refusal :=
  s.run (fun x => x.cupolaConfigEff pc regions persist)

/-- CUPOLA_REBUILD (R283): Command that starts repair, resync or stops the work. -/
def execCupolaRebuild (pc : PortCmd) (kind ms : Nat) (s : State) : Host.Outcome State Fault Refusal :=
  s.run (fun x => x.cupolaRebuildEff pc kind ms)

/-- CUPOLA_DELTA_RECEIVE (R271): The parity tile applies a delta into its slot or holds it and answers. -/
def execCupolaDeltaReceive (tile : Nat) (errs : List LineErr)
    (s : State) : Host.Outcome State Fault Refusal :=
  s.run (fun x => x.cupolaDeltaReceiveEff tile errs)

/-- CUPOLA_BUSY_TIMER (R271): A held delta is answered BUSY every 500 µs. -/
def execCupolaBusyTimer (tile : Nat) (s : State) : Host.Outcome State Fault Refusal :=
  s.run (fun x => x.cupolaBusyTimerEff tile)

/-- CUPOLA_ACK_RECEIVE (R272): APPLIED, DUPLICATE or BUSY arrives for a delta; commit proceeds or waits again. -/
def execCupolaAckReceive (tile : Nat) (s : State) : Host.Outcome State Fault Refusal :=
  s.run (fun x => x.cupolaAckReceiveEff tile)

/-- CUPOLA_ACK_TIMEOUT (R272): The acknowledgement wait expires and the parity tile is declared failed. -/
def execCupolaAckTimeout (tile seg : Nat) (answers : Bool) (waitMs totalMs : Nat) (s : State) : Host.Outcome State Fault Refusal :=
  s.run (fun x => x.cupolaAckTimeoutEff tile seg answers waitMs totalMs)

/-- CUPOLA_SLOT_FLUSH (R273): A slot is folded into its parity page and committed. -/
def execCupolaSlotFlush (tile : Nat) (errs : List LineErr) (s : State) : Host.Outcome State Fault Refusal :=
  s.run (fun x => x.cupolaSlotFlushEff tile errs)

/-- CUPOLA_RESYNC_STRIPE (R281): A stripe's parity is recomputed from its members. -/
def execCupolaResyncStripe (ms : Nat) (s : State) : Host.Outcome State Fault Refusal :=
  s.run (fun x => x.cupolaResyncStripeEff ms)

end Sys2Proof.Machine
end

