-- ==== Sys2Proof/Machine/Caravan.lean ====
section
/-! DEFINITION. Machine/Caravan.lean: frames between the packages of a Caravan group, resync, rebuild and the Caravan commands
(09_caravan.md R285 to R310). -/

namespace Sys2Proof.Machine

open Sys2Proof

/-! ### Messages from frames (R289 to R291) -/

/-- R290: lines of a payload by the numbers of LINE_MASK, in ascending order. -/
def maskLines (mask : Nat) (ls : List Line) : List (Nat × Line) := ((List.range 64).filter (bitOf mask)).zip ls

/-- Bytes of payload lines. -/
def lineBytes (ls : List Line) : List Byte := (ls.map (fun l => (List.range 64).map (lineByte l))).flatten

/-- Payload lines of bytes; the last line is filled with zeros. -/
def bytesLines (b : List Byte) : List Line :=
  (List.range ((b.length + 63) / 64)).map (fun i => lineOf (fun j => b.getD (64 * i + j) 0))

/-- R290: the fragments of a message, when they are all there: its payload. -/
def joinParts (l : List (Nat × Bool × List Line)) : Option (List Line) :=
  match l.find? (fun e => e.2.1) with
  | none => none
  | some e =>
    let one (i : Nat) : Option (List Line) := (l.find? (fun x => x.1 == i)).map (fun x => x.2.2)
    if (List.range (e.1 + 1)).all (fun i => (one i).isSome) then some (((List.range (e.1 + 1)).map (fun i => (one i).getD [])).flatten) else none

/-- R289 to R291: a frame is accepted or dropped; the payload of its message once every fragment is there. -/
def State.carMessage (s : State) (f : CarFrame) : State × Option (List Line) :=
  if !(s.head f.head).up then (s, none)
  else if !f.whole then (s.latchOnly (Reg.CAR_ERR_STATUS f.head) 5, none)
  else if !s.car.inGroup || !bitOf s.car.heads f.head then (s, none)
  else if !f.tagOk then (s.latch (Reg.CAR_ERR_STATUS f.head) 2 Gb.CAR_AUTH_FAIL f.head ([f.head, f.src] ++ gbWide f.seq), none)
  else match s.peer f.src with
    | none => (s, none)
    | some p =>
      if f.group ≠ s.car.group ∨ f.dst ≠ s.car.self then (s, none)
      else if f.frag = 0 ∧ f.last then (s, some f.lines)
      else
        let rest := p.parts.filter (fun e => !(e.1 == f.seq && e.2.1 == f.frag))
        let ps := rest ++ [(f.seq, f.frag, f.last, f.lines)]
        match joinParts ((ps.filter (fun e => e.1 == f.seq)).map (·.2)) with
        | some ls => (s.modPeer f.src (fun p => { p with parts := ps.filter (fun e => e.1 != f.seq) }), some ls)
        | none => (s.modPeer f.src (fun p => { p with parts := ps }), none)

/-- R291: a message that is not a delta, a request or an answer to one is taken once: a repeat of its SEQ is not applied again. -/
def State.carOnce (s : State) (f : CarFrame) : State × Option (List Line) :=
  match s.carMessage f with
  | (s1, none) => (s1, none)
  | (s1, some ls) =>
    if (s1.peer f.src).any (fun p => ahas f.seq p.seen) then (s1, none)
    else (s1.modPeer f.src (fun p => { p with seen := aput f.seq 0 p.seen }), some ls)

/-! ### Parity as this package holds it (R288, R293, R303) -/

/-- R286: this package holds Q of a row, else P. -/
def State.carIsQ (s : State) (row : Nat) : Bool := s.car.rs && s.car.qOf row == s.car.self

/-- R286: this package holds parity of a row. -/
def State.carHolds (s : State) (row : Nat) : Bool := s.car.pOf row == s.car.self || s.carIsQ row

/-- R302, R305: a stripe whose parity this package holds awaits resync. -/
def State.carStaleHere (s : State) (stripe : Nat) : Bool :=
  s.car.resync.contains (s.car.group' (stripe / 65536)) || (s.car.role == 2 && decide (s.car.resyncNext ≤ stripe))

/-- R303: a parity line of a stripe with its slots applied; none when it cannot be read. `bad` are lines of the page that stay
uncorrectable. -/
def State.carParityLine (s : State) (stripe line : Nat) (bad : List Nat) : Option Line :=
  let (t, l) := s.carHome stripe
  (s.carMemberLine t l line (bad.contains line)).map (fun x => ((s.tile t).car.slots.filter (fun k => k.stripe == stripe)).foldl (fun a k => a ^^^ agetD line 0 k.lines) x)

/-- R303: the ledger of a stripe: member and JPOS of every entry of its slots. -/
def State.carLedger (s : State) (stripe : Nat) : List (Nat × Nat) :=
  let (t, _) := s.carHome stripe
  (((s.tile t).car.slots.filter (fun k => k.stripe == stripe)).map (fun k => k.entries ++ k.settledE)).flatten

/-- R290: ledger lines: 8 entries of 8 bytes, member index + 1 in bits 40:36 and the JPOS in bits 35:0. -/
def ledgerLines (l : List (Nat × Nat)) : List Line :=
  bytesLines ((l.map (fun e => leBytes 8 ((e.1 + 1) * 2 ^ 36 + e.2 % 2 ^ 36))).flatten)

/-- R290: entries of ledger lines. -/
def ledgerOf (ls : List Line) : List (Nat × Nat) :=
  let b := lineBytes ls
  (List.range (b.length / 8)).filterMap (fun i =>
    let v := leAt b (8 * i) 8
    if v / 2 ^ 36 % 32 = 0 then none else some (v / 2 ^ 36 % 32 - 1, v % 2 ^ 36))

/-- R303: every answer of a read has a line in the version that counts. -/
def CarRead.hasLine (r : CarRead) (line : Nat) : Bool :=
  r.got.all (fun a => match a.newPos with
    | some p => if r.ledger.contains (a.peer, p) then ahas line a.newLines else ahas line a.lines
    | none => ahas line a.lines) && r.parity.all (fun e => ahas line e.2)

/-- R303 step 4: a line of this package's member from the answers of a read; none when an answer lacks it. -/
def State.carLine (s : State) (r : CarRead) (line : Nat) : Option Line :=
  let row := r.stripe / 65536
  let other := ((s.carOthers row).filter (fun i => !r.got.any (fun a => a.peer == i))).filterMap (s.car.dataIdx row)
  if r.hasLine line then some (carSolve s.car row ((s.car.dataIdx row s.car.self).getD 0) other.head? r line) else none

/-! ### Answers to deltas (R292 to R296, R300) -/

/-- R292: a holder of a commit's parity is no longer awaited; the last one lets the commit go on. -/
def State.carAnswered (s : State) (t seg peer : Nat) : State :=
  match s.commitOf t seg with
  | some c =>
    match c.step with
    | .caravan l =>
      let left := l.filter (· != peer)
      if c.stopped then s
      else if left.isEmpty then s.commitJournal t seg else s.modCommit t seg (fun d => { d with step := .caravan left })
    | _ => s
  | none => s

/-- R296: outcome of the check of a resent delta: 0 applied, 1 a duplicate, 3 stale. -/
def State.verifyDone (s : State) (d : CarHeld) (outcome : Nat) : State :=
  let s1 := (s.modCar (fun c => { c with verify := c.verify.filter (· != d) })).event Gb.CAR_VERIFY (s.carHome d.stripe).1 [d.peer, d.stripe, outcome]
  if outcome = 0 then s1.carTake d else s1.carAck d.peer d.seq d.stripe outcome

/-- R296 step 2: the sender's lines as parity and the other members give them, against what the resent delta says. -/
def State.verifyCheck (s : State) (d : CarHeld) (r : CarRead) : State :=
  let row := d.stripe / 65536
  let q : CarRead := { r with parity := [(d.isQ, d.lines.filterMap (fun e => (s.carParityLine d.stripe e.1 []).map (fun x => (e.1, x))))], ledger := s.carLedger d.stripe }
  let line (i : Nat) : Line := carSolve s.car row d.member none q i
  if !d.lines.all (fun e => q.hasLine e.1) then s.verifyDone d 3
  else if d.lines.all (fun e => line e.1 == agetD e.1 0 d.new) then s.verifyDone d 1
  else if d.lines.all (fun e => line e.1 == (agetD e.1 0 d.new ^^^ e.2)) then s.verifyDone d 0
  else s.verifyDone d 3

/-- R296: a resent delta is found in a slot, or checked against the other members. -/
def State.verifyStart (s : State) (d : CarHeld) : State :=
  let row := d.stripe / 65536
  let (t, _) := s.carHome d.stripe
  let others := (s.carOthers row).filter (· != d.peer)
  if (s.tile t).car.slots.any (fun k => k.stripe == d.stripe && k.isQ == d.isQ && (k.entries ++ k.settledE).contains (d.peer, d.jpos)) then s.verifyDone d 1
  else if s.carStaleHere d.stripe || others.any (fun i => !s.peerActive i) then s.verifyDone d 3
  else if others.isEmpty then s.verifyCheck d { use := .verify d, stripe := d.stripe, mask := 0, left := [] }
  else (s.modCar (fun c => { c with verify := c.verify ++ [d] })).carReadStart (.verify d) d.stripe (maskOfLines d.lines) others

/-- R293, R296, R301: a DELTA frame; the message is applied, held, checked or refused. -/
def State.caravanFrameDeltaEff (s : State) (f : CarFrame) : State :=
  match s.carMessage f with
  | (s1, none) => s1
  | (s1, some ls) =>
    let row := f.stripe / 65536
    let n := popCount f.mask 64
    let d : CarHeld := { peer := f.src, seq := f.seq, stripe := f.stripe, isQ := f.isQ, member := f.member, jpos := f.jpos,
                         lines := maskLines f.mask ls, new := maskLines f.mask (ls.drop n) }
    let (t, _) := s1.carHome f.stripe
    let earlier := match s1.peer f.src with | some p => aget f.seq p.seen | none => none
    match earlier with
    | some st => s1.carAck f.src f.seq f.stripe st
    | none =>
      if !s1.carHolds row || s1.carIsQ row != f.isQ || decide (s1.car.blocks ≤ row) || s1.car.role == 1 then s1
      else if s1.car.verify.any (fun k => k.peer == f.src && k.seq == f.seq) then s1
      else if (s1.tile t).car.held.any (fun k => k.peer == f.src && k.seq == f.seq) then s1.carAck f.src f.seq f.stripe 2
      else if s1.md.mode == .holdup || !s1.alive t then s1.carAck f.src f.seq f.stripe 3
      else if f.resent then s1.verifyStart d
      else s1.carTake d

/-- R293: BUSY goes out for every held delta of a tile, every 500 µs. -/
def State.caravanBusyTimerEff (s : State) (tile : Nat) : State :=
  if s.alive tile then (s.tile tile).car.held.foldl (fun a d => a.carAck d.peer d.seq d.stripe 2) s else s

/-- R295: SETTLE entries of a payload: stripe, JPOS and role. -/
def settleOf (ls : List Line) : List (Nat × Nat × Nat) :=
  let b := lineBytes ls
  (List.range (min 28 (b.length / 16))).map (fun i => (leAt b (16 * i) 4, leAt b (16 * i + 4) 5, leAt b (16 * i + 10) 1))

/-- R295: entries of slots are settled by a SETTLE frame; held deltas are tried again. -/
def State.caravanFrameSettleEff (s : State) (f : CarFrame) : State :=
  match s.carOnce f with
  | (s1, none) => s1
  | (s1, some ls) =>
    (settleOf ls).foldl
      (fun a e =>
        let (stripe, jpos, role) := e
        let (t, _) := a.carHome stripe
        (a.modCarT t (fun c =>
          { c with slots := c.slots.map (fun k =>
              if k.stripe = stripe ∧ k.isQ = (role == 1) ∧ k.entries.contains (f.src, jpos) then
                { k with entries := k.entries.filter (· != (f.src, jpos)), settledE := k.settledE ++ [(f.src, jpos)] }
              else k) })).carRetry t) s1

/-- R295: gathered SETTLE entries are sent, up to 28 in a message. -/
def State.settleSendEff (s : State) : State :=
  match s.car.settle with
  | [] => s
  | (p, _) :: _ =>
    let mine := (s.car.settle.filter (fun e => e.1 == p)).take 28
    let bytes := (mine.map (fun e => leBytes 4 e.2.1 ++ leBytes 5 e.2.2.1 ++ leBytes 1 e.2.2.2.1 ++ leBytes 1 e.2.2.2.2 ++ zeros 5)).flatten
    ((s.modCar (fun c => { c with settle := c.settle.filter (fun e => !(mine.contains e)) })).carSend p { type := 3 } (bytesLines bytes)).1

/-- R295, R273: the oldest slot of a tile whose entries are all settled, or in Hold-up the oldest, is flushed into its parity page.
`errs` is what the read of that page meets. -/
def State.caravanSlotFlushEff (s : State) (tile : Nat) (errs : List LineErr) : State :=
  if !s.alive tile || bitOf s.md.sealed tile then s
  else
    let ks := (s.tile tile).car.slots
    match ks.find? (fun k => !k.flushing && s.car.lock != some k.stripe && (s.commitOf tile k.seg).isNone
        && ((s.carUnsettled k).isEmpty || s.md.mode == .holdup)) with
    | none => s
    | some k =>
      let busy := (s.tile tile).xl.commits.any (fun c => match c.job with | .host _ => true | _ => false) || !(s.dirtyOrder tile).isEmpty
      if (s.md.mode == .holdup && busy && decide (10 * ks.length < 9 * slotCount)) || !s.parityFreeNow tile k.seg then s
      else if s.flushNow tile 1 ks.length (!(s.tile tile).car.held.isEmpty) then (s.payFlush tile 1).flushCar tile k errs
      else s

/-! ### Reads of peers that ended (R302, R303, R306) -/

/-- R302: the row group that is being resynced comes last; its stripes are taken up again later. -/
def State.carRotate (s : State) : State :=
  s.modCar (fun c => if c.role = 2 then c else { c with resync := c.resync.drop 1 ++ c.resync.take 1, resyncNext := if 1 < c.resync.length then 0 else c.resyncNext })

/-- R302: the lock of a stripe ends; deltas held for it are tried again. -/
def State.carUnlock (s : State) : State :=
  match s.car.lock with
  | some k => (s.modCar (fun c => { c with lock := none })).carRetry (s.carHome k).1
  | none => s

/-- R306: the rebuild leaves a stripe that it cannot repair: a data segment stays LOST, a parity row stale. -/
def State.rebuildSkip (s : State) (stripe : Nat) : State :=
  let row := stripe / 65536
  let (t, l) := s.carHome stripe
  let s1 := if (s.car.dataIdx row s.car.self).isSome then
      (if (s.mapRaw t l).st == .lost then ((s.setMap t l { st := .lost }).jappend t (.lost l { st := .lost })).judgeLost else s)
    else s.modCar (fun c => { c with resync := if c.resync.contains (c.group' row) then c.resync else c.resync ++ [c.group' row] })
  s1.modCar (fun c => { c with resyncNext := stripe + 1 })

/-- R303: a reconstruction failed. -/
def State.carReadFail (s : State) (r : CarRead) (latNs : Nat) : State :=
  let (t0, l0) := s.carHome r.stripe
  let failed (t : Nat) : State := s.latchOnly (Reg.CAR_ERR_STATUS t) 4
  match r.use with
  | .host t id _ =>
    match s.hazOf t id with
    | some h => (((failed t).uncorr t0 l0).hazAnswer t h.req (some 0) true latNs).wakeLines t latNs
    | none => s
  | .verify d => s.verifyDone d 3
  | .repair t _ => if s.car.role = 2 ∧ s.car.resyncNext = r.stripe then (failed t).rebuildSkip r.stripe else failed t
  | .fill t f =>
    let y := ((List.range 64).filter (bitOf r.mask)).foldl (fun (y : Frame) i => y.filled i 0 true) (s.frame t f)
    ((failed t).uncorr t0 l0).fillFinish t f y 0 latNs
  | .old t seg =>
    match s.commitOf t seg with
    | some c => ((failed t).carStaleRow t (r.stripe / 65536)).commitDelta t seg ((List.range 64).filterMap (fun i =>
        let x := c.page.lines.getD i 0
        if x = 0 then none else some (i, x)))
    | none => s
  | .resync _ _ => if s.car.role = 2 then (s.rebuildSkip r.stripe).carUnlock else s.carUnlock.carRotate

/-- R302 step 4: P or Q of a stripe from the mapped lines of its members; none when a line is missing. -/
def State.carParity (s : State) (r : CarRead) : Option (List Line) :=
  let row := r.stripe / 65536
  let q := s.carIsQ row
  if r.got.all (fun a => (List.range 64).all (fun i => ahas i a.lines)) then
    some ((List.range 64).map (fun i => r.got.foldl (fun x a =>
      let y := agetD i 0 a.lines
      x ^^^ (if q then lineScale (gfPow ((s.car.dataIdx row a.peer).getD 0)) y else y)) 0))
  else none

/-- R303: every answer of a read is there. -/
def State.carReadEnd (s : State) (r : CarRead) (latNs : Nat) : State :=
  match r.use with
  | .host t id line =>
    match s.hazOf t id, s.carLine r line with
    | some h, some x =>
      let (t0, l0) := s.carHome r.stripe
      let (d, p) := s.fromMedium (s.slotOf t0 l0) (s.segOf t0 l0) line x
      let s1 := ((s.stat t 4 1).latch (Reg.INT_ERR_STATUS t) 1 Gb.INT_LADDER t [t, locCh (s.mapRaw t0 l0).loc, 5]).perfEvent t 0x40 5 1
      (s1.hazAnswer t h.req (some d) p latNs).wakeLines t latNs
    | some _, none => s.carReadFail r latNs
    | none, _ => s
  | .verify d => s.verifyCheck d r
  | .repair t l =>
    let ls := (List.range 64).map (s.carLine r)
    if !ls.all (·.isSome) then s.carReadFail r latNs
    else if (s.mapRaw t l).st != .lost || (s.commitOf t l).isSome then s
    else s.beginCommit t (.repair l) l { kind := .host, subject := l, key := s.slotOf t l, lines := ls.map (·.getD 0) }
  | .fill t f =>
    let pseg := s.carSeg r.stripe
    let (t0, l0) := s.carHome r.stripe
    let y := ((List.range 64).filter (bitOf r.mask)).foldl (fun (y : Frame) i =>
      match s.carLine r i with
      | some x => let (v, p) := s.fromMedium (s.slotOf t0 l0) pseg i x; y.filled i v p
      | none => y.filled i 0 true) (s.frame t f)
    let s1 := if ((List.range 64).filter (bitOf r.mask)).all (fun i => (s.carLine r i).isSome) then
        ((s.stat t 4 1).latch (Reg.INT_ERR_STATUS t) 1 Gb.INT_LADDER t [t, locCh (s.mapRaw t0 l0).loc, 5]).perfEvent t 0x40 5 1
      else (s.latchOnly (Reg.CAR_ERR_STATUS t) 4).uncorr t0 l0
    s1.fillFinish t f y 0 latNs
  | .old t seg =>
    let ls := (List.range 64).map (s.carLine r)
    match s.commitOf t seg with
    | some c =>
      if ls.all (·.isSome) then
        s.commitDelta t seg ((List.range 64).filterMap (fun i =>
          let x := ((ls.getD i none).getD 0) ^^^ c.page.lines.getD i 0
          if x = 0 then none else some (i, x)))
      else s.carReadFail r latNs
    | none => s
  | .resync t l =>
    match s.carParity r with
    | none => s.carReadFail r latNs
    | some ls =>
      let s1 := s.modCarT t (fun c => { c with slots := c.slots.map (fun k => if k.stripe = r.stripe then { k with flushing := true } else k) })
      let s2 := s1.modCar (fun c => { c with lock := none, resyncNext := c.resyncNext + 1 })
      (s2.beginCommit t (.carResync l) l { kind := .host, subject := l, lines := ls }).carRetry t

/-- Take a read out of those in progress. -/
def State.dropCarRead (s : State) (r : CarRead) : State := s.modCar (fun c => { c with reads := c.reads.erase r })

/-- R297, R300, R301: a peer is no longer ACTIVE: what was sent to it is no longer awaited, reads that need it fail. -/
def State.peerGone (s : State) (i : Nat) (st : PeerSt) : State :=
  match s.peer i with
  | none => s
  | some p =>
    let keep := (p.st == .failed && st == .departed) || (p.st == .replaced && !p.spare)
    let s1 := if keep then s else s.setPeerSt i st
    let s2 := (s1.modPeer i (fun p => { p with spare := false })).modCar (fun c =>
      { c with msgs := c.msgs.filter (fun m => m.peer != i), settle := c.settle.filter (fun e => e.1 != i) })
    let s3 := s2.aliveTiles.foldl (fun a t => (a.caravanProgressAll t).carRetry t) s2
    (s3.car.reads.filter (fun r => r.left.any (fun e => e.1 == i))).foldl (fun a r => (a.dropCarRead r).carReadFail r 0) s3

/-- R292, R294, R302: an ACK answers a delta, or tells that a row group was resynced. -/
def State.caravanFrameAckEff (s : State) (f : CarFrame) : State :=
  match s.carMessage f with
  | (s1, none) => s1
  | (s1, some _) =>
    match s1.car.msgs.find? (fun m => m.peer == f.src && m.seq == f.seq) with
    | none => s1
    | some m =>
      let gone (a : State) : State := a.modCar (fun c => { c with msgs := c.msgs.erase m })
      if m.type = 8 then s1.clearStale f.src (s1.car.group' (f.stripe / 65536))
      else match f.status with
        | 0 | 1 => ((gone s1).carAnswered m.tile m.seg f.src).settle
        | 3 =>
          if m.resent then
            (((gone s1).markStale m.tile f.src (s1.car.group' (m.stripe / 65536))).carAnswered m.tile m.seg f.src).settle
          else (s1.peerGone f.src .departed).settle
        | _ => s1

/-- R294: a frame that is still unanswered after 250 µs is sent again with its SEQ; R289: its base was not acknowledged, so the
other one is used. -/
def State.caravanResendTimerEff (s : State) (peer seq : Nat) : State :=
  let s1 := s.modPeer peer (fun p => if 1 < p.bars.length ∧ p.bars.getD 1 0 ≠ 0 then { p with bar := 1 - p.bar } else p)
  match s.car.msgs.find? (fun m => m.peer == peer && m.seq == seq && m.type == 1) with
  | some m =>
    (s1.carFrames peer { type := 1, resent := m.resent, isQ := m.isQ, seq := m.seq, stripe := m.stripe, jpos := m.jpos, member := m.member, mask := maskOfLines m.lines }
      (m.lines.map (·.2))).perfEvent m.tile 0x50 2 1
  | none =>
    match s.car.reads.find? (fun r => r.left.contains (peer, seq)) with
    | some r => s1.carFrames peer { type := 4, seq := seq, stripe := r.stripe, mask := r.mask } []
    | none => s

/-- R294: the wait for the answer to a delta expires, `waitMs` after its send or its last BUSY, or `totalMs` after its send; the holder becomes
FAILED. -/
def State.caravanAckTimeoutEff (s : State) (peer seq waitMs totalMs : Nat) : State :=
  match s.car.msgs.find? (fun m => m.peer == peer && m.seq == seq && m.type == 1) with
  | some m =>
    if m.ackMs ≤ waitMs ∨ m.ackMs + 1 ≤ totalMs then ((s.latchOnly (Reg.CAR_ERR_STATUS m.tile) 0).peerGone peer .failed).settle else s
  | none => s

/-- R301: a commit of the flush has waited `us` µs at step 3. After HOLD_WAIT it goes on only where the stale bits are durable already; else it
stops after step 2. -/
def State.holdWaitExpireEff (s : State) (tile seg us : Nat) : State :=
  match s.md.mode, s.commitOf tile seg with
  | .holdup, some c =>
    match c.step with
    | .caravan l =>
      let g := s.car.group' (((s.carDataRow (s.segOf tile seg))).getD 0)
      if c.stopped || decide (us < 50 * max 1 (s.fld Reg.CAR_CTL 7 4)) then s
      else if l.all (fun i => s.staleDurable i g) then (s.commitJournal tile seg).settle
      else s.modCommit tile seg (fun d => { d with stopped := true })
    | _ => s
  | _, _ => s

/-- R303: READ_REQ is answered with the member's mapped lines, and those of its new page while a commit stands between steps 1 and 4,
or with parity lines and the ledger. `errs` is what the page read meets. -/
def State.caravanFrameReadReqEff (s : State) (f : CarFrame) (errs : List LineErr) : State :=
  match s.carMessage f with
  | (s1, none) => s1
  | (s1, some _) =>
    let row := f.stripe / 65536
    let (t, l) := s1.carHome f.stripe
    let want := (List.range 64).filter (bitOf f.mask)
    let e := s1.mapOf t l
    let mapped := (e.st == .mapped || e.st == .relocating) && s1.alive t && !s1.unrejoined t l
    if s1.car.role == 1 || decide (s1.car.blocks ≤ row) then s1
    else
      let (s0, o) := if mapped then s1.maintRead t e.loc errs else (s1, {})
      -- R259: the page is lost where the ladder did not give its lines; R257: lines that come from step 4
      let s2 := if !o.bad.isEmpty then s0.pageLost t e.loc o.bad
        else if (!s1.alive t || s1.unrejoined t l || e.st == .lost) && want.any (fun i => (s0.reconstruct t l i).isSome) then (s0.reconReads t l 0 68).reconOk t l else s0
      if s1.carHolds row then
        let have_ := if s1.carStaleHere f.stripe then [] else want.filterMap (fun i => (s2.carParityLine f.stripe i o.bad).map (fun x => (i, x)))
        (s2.carSend f.src { type := 5, isQ := s1.carIsQ row, stripe := f.stripe, mask := maskOfLines have_ }
          (have_.map (·.2) ++ ledgerLines (s2.carLedger f.stripe))).1
      else
        let have_ : List (Nat × Line) := want.filterMap (fun i => (s2.carMemberLine t l i (o.bad.contains i)).map (fun x => (i, x)))
        let newer := if s2.alive t then (s2.tile t).xl.commits.find? (fun c => c.seg == l && c.step != .program && c.step != .done) else none
        let new : List Line := match newer with
          | some c => have_.map (fun e => c.page.lines.getD e.1 0)
          | none => []
        (s2.carSend f.src { type := 5, stripe := f.stripe, jpos := (newer.map (fun c => c.page.jpos)).getD 0, member := (s1.car.dataIdx row s1.car.self).getD 0, mask := maskOfLines have_ }
          (have_.map (·.2) ++ new)).1

/-- R303: READ_RSP supplies lines; the last answer ends the read. -/
def State.caravanFrameReadRspEff (s : State) (f : CarFrame) (latNs : Nat) : State :=
  match s.carOnce f with
  | (s1, none) => s1
  | (s1, some ls) =>
    match s1.car.reads.find? (fun r => r.stripe == f.stripe && r.left.any (fun e => e.1 == f.src)) with
    | none => s1
    | some r =>
      let row := f.stripe / 65536
      let n := popCount f.mask 64
      let left := r.left.filter (fun e => e.1 != f.src)
      let a : CarAnswer :=
        { peer := f.src, lines := maskLines f.mask ls, newPos := if n < ls.length then some f.jpos else none, newLines := maskLines f.mask (ls.drop n) }
      let r1 : CarRead :=
        if s1.car.pOf row = f.src ∨ (s1.car.rs ∧ s1.car.qOf row = f.src) then
          { r with left := left, parity := r.parity ++ [(s1.car.pOf row != f.src, maskLines f.mask ls)], ledger := r.ledger ++ ledgerOf (ls.drop n) }
        else
          { r with left := left, got := r.got ++ [a] }
      if left.isEmpty then ((s1.dropCarRead r).carReadEnd r1 latNs).settle
      else s1.modCar (fun c => { c with reads := c.reads.map (fun x => if x = r then r1 else x) })

/-- R303: an answer has not arrived after `waitMs`: once CAR_ACK_MS has passed, the oldest read of the stripe fails. -/
def State.caravanReadTimeoutEff (s : State) (stripe latNs waitMs : Nat) : State :=
  match s.car.reads.find? (fun r => r.stripe == stripe) with
  | some r => if r.ackMs ≤ waitMs then ((s.dropCarRead r).carReadFail r latNs).settle else s
  | none => s

/-! ### Bring-up of the group: HELLO, ALLOC, STALE_MAP (R302, R307) -/

/-- R290 ALLOC: the LD allocations of a package's range: row, head, LD, DC region (0xFF static) and LD block. -/
def State.allocEntries (s : State) : List (List Nat) :=
  let entry (b ld region ldBlk : Nat) : List Nat := [b - s.car.base, ld / 16, ld % 16, if region = 15 then 0xFF else region, ldBlk]
  let own := s.cap.table.filterMap (fun e => if e.2.kind = 1 ∧ s.carData e.1 then some (entry e.1 e.2.ld e.2.region e.2.ldBlk) else none)
  own ++ s.cap.shares.filterMap (fun h => if s.carData h.blk then some (entry h.blk h.ld h.region h.ldBlk) else none)

/-- R290: the 8 bytes of an ALLOC entry. -/
def allocBytes (e : List Nat) : List Byte :=
  leBytes 2 (e.getD 0 0) ++ leBytes 1 (e.getD 1 0) ++ leBytes 1 (e.getD 2 0) ++ leBytes 1 (e.getD 3 0) ++ leBytes 2 (e.getD 4 0) ++ zeros 1

/-- R290: ALLOC entries of a payload; a row of 0xFFFF fills up the last line (notes/assumptions/17.md). -/
def allocOf (ls : List Line) : List (List Nat) :=
  let b := lineBytes ls
  ((List.range (b.length / 8)).map (fun i =>
    [leAt b (8 * i) 2, leAt b (8 * i + 2) 1, leAt b (8 * i + 3) 1, leAt b (8 * i + 4) 1, leAt b (8 * i + 5) 2])).filter (fun e => e.getD 0 0 != 0xFFFF)

/-- R290, R302: send ALLOC entries of an index to a peer, as many messages as they take. -/
def State.sendAlloc : Nat → State → Nat → Nat → List (List Nat) → State
  | 0, s, _, _, _ => s
  | n + 1, s, peer, member, l =>
    let now := l.take 1064
    let bytes := (now.map allocBytes).flatten
    let fill := (List.replicate ((8 - now.length % 8) % 8) (leBytes 8 0xFFFF)).flatten
    let s1 := (s.carSend peer { type := 9, member := member } (bytesLines (bytes ++ fill))).1
    if (l.drop 1064).isEmpty then s1 else State.sendAlloc n s1 peer member (l.drop 1064)

/-- R302: the STALE_MAP of a peer, which that peer answers as it resyncs its row groups. -/
def State.sendStaleMap (s : State) (peer : Nat) : State :=
  match s.peer peer with
  | none => s
  | some p =>
    let (s1, q) := s.carSend peer { type := 8 } (bytesLines (staleBytes p.stale))
    s1.modCar (fun c => { c with msgs := c.msgs.filter (fun m => !(m.peer == peer && m.type == 8))
      ++ [({ peer := peer, seq := q, type := 8, stripe := 0 } : CarMsg)] })

/-- R290 HELLO: the line: boot count, UNCLEAN, and the states of the peers, 2 bits each; in its own place a package that took its index
from another says 3 (notes/assumptions/17.md). -/
def State.helloLine (s : State) (boot : Nat) : Line :=
  let view (i : Nat) : Nat := if i = s.car.self then (if s.car.took then 3 else 0)
    else match s.peer i with | some p => p.st.code | none => 0
  let bits := total ((List.range 20).map (fun i => view i * 4 ^ i))
  lineOf (fun j => (leBytes 4 boot ++ leBytes 1 (b2n s.md.prevUnclean) ++ leBytes 5 bits).getD j 0)

/-- R290: the view of a member that a HELLO line gives. -/
def helloView (l : Line) (i : Nat) : Nat := leNat ((List.range 5).map (fun j => lineByte l (5 + j))) / 4 ^ i % 4

/-- R309: CARAVAN_JOIN ends once every peer has answered or its second is over. -/
def State.joinCheck (s : State) : State :=
  match s.car.join with
  | none => s
  | some (r, c) =>
    if s.car.peers.any (fun p => p.helloWait || p.helloDue) then s
    else
      let mask := maskOf 20 (fun i => (s.peer i).any (fun p => p.st == .active))
      let all := s.car.peers.all (fun p => p.st == .active)
      let s1 := (s.modCar (fun k => { k with join := none })).judgePeers
      let st := if all then Status.success.code else Status.partialDone.code
      (s1.finish { ring := r, cid := c } { status := st, results := [(20, mask)] }).psPersist { ring := r, cid := c }
        [(Param.CAR_GROUP, carGroupBytes s1.car)]

/-- R302, R465: HELLO goes to a peer, once the boot count is committed; an answer is followed by ALLOC and STALE_MAP. -/
def State.helloSendEff (s : State) (peer : Nat) : State :=
  match s.peer peer with
  | none => s
  | some p =>
    -- R316: from step 12 of Bring-up on
    if !s.car.inGroup || s.carHead.isNone || !(p.helloDue || p.helloOld) || s.ps.running.isSome || s.energyLow || s.md.mode == .holdup
        || (s.md.mode == .bringup && !bitOf s.md.stepsDone 12) then s
    else
      let boot := leAt (s.psGet Param.CAR_BOOT) 0 4 + 1
      let s1 := (s.psPut Param.CAR_BOOT (leBytes 4 boot)).psCommitNow
      let line := s1.helloLine boot
      if p.helloOld then
        let s2 := s1.emit (.caravan peer 6 [2, s.car.group, s.car.self, peer, 0, 1, boot, 0, 0, 0, 0, 0, (s.carHead).getD 0, p.oldBars.getD 0 0] [line])
        s2.modPeer peer (fun p => { p with helloOld := false })
      else
        let s2 := (s1.carFrames peer { type := 6, seq := boot } [line]).modPeer peer (fun q =>
          { q with helloDue := false, helloWait := !q.helloAns, helloAns := false, seqTx := 0, seen := [], parts := [] })
        if p.helloAns then (s2.sendAlloc 64 peer s2.car.self s2.allocEntries).sendStaleMap peer else s2

/-- R297, R309: a peer has not answered HELLO within 1 s: a CARAVAN_JOIN leaves it DEPARTED; at Bring-up an ACTIVE one becomes FAILED, and HELLO
is still due to one that no link could reach. -/
def State.caravanHelloTimeoutEff (s : State) (peer : Nat) : State :=
  match s.peer peer with
  | none => s
  | some p =>
    if !p.helloWait && !p.helloDue then s
    else
      let joins := s.car.join.isSome
      let s1 := s.modPeer peer (fun q => { q with helloWait := false, helloDue := q.helloDue && !joins })
      (if p.st == .active then s1.peerGone peer (if joins then .departed else .failed) else s1).joinCheck.settle

/-- R307 step 1: every segment of the range becomes DISCARDED, with journalling and without deltas; slots and held deltas go. -/
def State.discardRange' (s : State) : State :=
  s.aliveTiles.foldl (fun a t =>
    let ls := ((a.tile t).xl.map.map (·.1)).filter (fun l => (a.carStripe (a.segOf t l)).isSome)
    ls.foldl (fun b l => (b.jappend t (.discard l)).replaceEntry t l { st := .discarded })
      (a.modCarT t (fun _ => {}))) s

/-- R307: the package learns that it is REPLACED: its range is discarded, its data blocks are freed under R47, and it stays as a spare. -/
def State.carReplaced (s : State) : State :=
  let s1 := s.discardRange'
  let held := s1.allocEntries
  let idx := ((List.range 2).map (s1.car.n + ·)).find? (fun i => (s1.peer i).all (fun p => p.st != .active))
  let me := s1.car.self
  let s2 := (s1.event Gb.CAR_REPLACED 15 [s1.car.group, me]).modCar (fun c =>
    { c with role := 1, member := idx.getD c.n, took := false, resync := [], resyncNext := 0, lock := none, work := 0, target := 0,
             peers := (c.peers.filter (fun p => p.idx != idx.getD c.n)) ++ (((c.peers.find? (fun p => p.idx == idx.getD c.n)).map (fun p => [{ p with idx := me, st := .active, taken := true }])).getD []) })
  let s3 := held.foldl (fun a e => a.startRelease (16 * e.getD 1 0 + e.getD 2 0) (if e.getD 3 0 = 0xFF then 15 else e.getD 3 0) (e.getD 4 0) 1 true) s2
  (s3.psPutNow Param.CAR_GROUP (carGroupBytes s3.car)).judgePeers.judgeSync

/-- R291, R302, R307: a HELLO of a peer restarts the SEQ count of the pair and makes the peer ACTIVE; it answers this package's own HELLO,
or is to be answered. -/
def State.caravanFrameHelloEff (s : State) (f : CarFrame) : State :=
  match s.carMessage f with
  | (s1, none) => s1
  | (s1, some ls) =>
    let line := ls.headD 0
    match s1.peer f.src with
    | none => s1
    | some p =>
      if (p.taken || p.spare) && helloView line f.src != 3 then s1.modPeer f.src (fun q => { q with helloOld := true })
      else
        -- messages sent before the peer's restart can no longer be answered
        let s2 := if s1.car.msgs.any (fun m => m.peer == f.src && m.type == 1) then s1.peerGone f.src .departed else s1
        let s3 := s2.modPeer f.src (fun q =>
          { q with boot := leNat ((List.range 4).map (lineByte line)), seqTx := 0, seen := [], parts := [], alloc := [],
                   helloWait := false, helloDue := !p.helloWait, helloAns := !p.helloWait, spare := false })
        let s4 := s3.setPeerSt f.src .active
        let s5 := s4.car.peers.foldl (fun a q =>
          if q.idx != f.src && q.st == .departed && helloView line q.idx == 2 then a.peerGone q.idx .failed else a) s4
        let s6 := if helloView line s5.car.self = 3 ∧ s5.car.role = 0 then s5.carReplaced else s5
        s6.joinCheck.settle

/-- R301: DEPART of a peer. -/
def State.caravanFrameDepartEff (s : State) (f : CarFrame) : State :=
  match s.carOnce f with
  | (s1, none) => s1
  | (s1, some _) => (s1.peerGone f.src .departed).settle

/-- R309: LEAVE of a peer. -/
def State.caravanFrameLeaveEff (s : State) (f : CarFrame) : State :=
  match s.carOnce f with
  | (s1, none) => s1
  | (s1, some _) => (s1.peerGone f.src .failed).settle

/-- R302: the STALE_MAP of a peer names row groups that this package resyncs. -/
def State.caravanFrameStaleMapEff (s : State) (f : CarFrame) : State :=
  match s.carOnce f with
  | (s1, none) => s1
  | (s1, some ls) =>
    let b := lineBytes ls
    let groups := (List.range 4096).filter (fun g => bitOf (leAt b (g / 8) 1) (g % 8))
    let s2 := s1.modPeer f.src (fun p => { p with mapSeq := some f.seq })
    if groups.isEmpty then s2 else s2.carQueue groups

/-- R305 step 2: the old member's allocations become those of the spare's range rows. -/
def State.installAlloc (s : State) (l : List (List Nat)) : State :=
  let row (e : List Nat) : Nat := e.getD 0 0
  let region (e : List Nat) : Nat := if e.getD 3 0 = 0xFF then 15 else e.getD 3 0
  let ld (e : List Nat) : Nat := 16 * e.getD 1 0 + e.getD 2 0
  let good := l.filter (fun e => decide (row e < s.car.blocks))
  let shared (e : List Nat) : Bool := decide (1 < (good.filter (fun x => row x == row e)).length)
  let s1 := good.foldl (fun a e =>
    let b := a.car.base + row e
    let a1 := if shared e then
        (a.modCap (fun c => { c with table := aput b { kind := 2 } c.table, shares := c.shares ++ [({ blk := b, ld := ld e, region := region e, ldBlk := e.getD 4 0 } : Share)] }))
      else a.modCap (fun c => { c with table := aput b { kind := 1, ld := ld e, region := region e, ldBlk := e.getD 4 0 } c.table })
    if region e = 15 then a1
    else a1.modCap (fun c => { c with extents := c.extents ++ [({ ld := ld e, region := region e, start := e.getD 4 0, len := 1 } : Extent)] })) s
  let s2 := s1.storeBlocks (good.map (fun e => s.car.base + row e))
  (if good.any shared then s2.storeShares s.cap.shares.length else s2).psRequest .internal

/-- R302, R305: ALLOC of a peer: its own allocations, or those of the member that this package replaces. -/
def State.caravanFrameAllocEff (s : State) (f : CarFrame) : State :=
  match s.carOnce f with
  | (s1, none) => s1
  | (s1, some ls) =>
    let l := allocOf ls
    if s1.car.role = 2 ∧ f.member = s1.car.target then s1.installAlloc (l.filter (fun e => !(s1.allocEntries.contains e)))
    else s1.modPeer f.src (fun p => { p with alloc := p.alloc ++ l })

/-- R305 step 1: a spare takes the index of a member: it gets the deltas and reads for that index, and the old member's allocations. -/
def State.caravanFrameReplaceEff (s : State) (f : CarFrame) : State :=
  match s.carOnce f with
  | (s1, none) => s1
  | (s1, some ls) =>
    let x := (lineByte (ls.headD 0) 0).toNat
    match s1.peer x, s1.peer f.src with
    | some p, some q =>
      let s2 := (s1.setPeerSt x .replaced).modPeer x (fun y =>
        { y with bars := q.bars, bar := q.bar, pool := q.pool, boot := q.boot, seqTx := 0, seen := [], parts := [], spare := true, taken := true, oldBars := p.bars })
      (s2.psPutNow Param.CAR_GROUP (carGroupBytes s2.car)).sendAlloc 64 x x p.alloc
    | _, _ => s1

/-! ### Resync and rebuild (R302, R305, R306) -/

/-- R299: the parity rows of a row group that this package holds, ascending. -/
def State.groupRows (s : State) (g : Nat) : List Nat :=
  let e := s.car.blocks
  let lo := (g * e + 4095) / 4096
  ((List.range (e / 4096 + 2)).map (lo + ·)).filter (fun b => decide (b < e) && s.car.group' b == g && s.carHolds b)

/-- R302, R306, R309: resync or rebuild ends; the window is released. -/
def State.carWorkDone (s : State) (ms : Nat) : State :=
  let code := if s.car.work = 2 then Gb.CAR_REBUILD_DONE else Gb.CAR_RESYNC_DONE
  let s1 := s.releaseWindow 2
  ((s1.modCar (fun c => { c with work := 0 })).event code 15 [ms]).judgeSync

/-- R302 step 5: every stripe of a row group is done: each peer that sent a map is told. -/
def State.groupDone (s : State) (g : Nat) : State :=
  let stripe := (g * s.car.blocks + 4095) / 4096 * 65536
  let s1 := s.modCar (fun c => { c with resync := c.resync.drop 1, resyncNext := 0 })
  s1.car.peers.foldl (fun a p => match p.mapSeq with
    | some q => if p.st == .active then a.carFrames p.idx { type := 2, seq := q, stripe := stripe } [] else a
    | none => a) s1

/-- R302: the next stripe of a row group is locked and its members' lines are read. -/
def State.resyncStripeCar (s : State) (stripe : Nat) : State :=
  let (t, l) := s.carHome stripe
  let row := stripe / 65536
  let others := s.carOthers row
  if !s.alive t || others.any (fun i => !s.peerActive i) then
    (if s.car.role = 2 then s.rebuildSkip stripe else s.carRotate)
  else if ((s.tile t).car.slots.any (fun k => k.stripe == stripe && !(s.carUnsettled k).isEmpty)) || (s.commitOf t l).isSome then s
  else (s.modCar (fun c => { c with lock := some stripe })).carReadStart (.resync t l) stripe allLines others

/-- R302: resync goes on by one stripe. `ms` is the time since the work started. -/
def State.caravanResyncStripeEff (s : State) (ms : Nat) : State :=
  if !s.car.inGroup || !s.md.operating || s.car.role != 0 || s.car.stopped || s.car.lock.isSome || !s.windowFor 2 then s
  else match s.car.work, s.car.resync with
    | 1, [] => s.carWorkDone ms
    | 1, g :: _ =>
      match (s.groupRows g)[s.car.resyncNext / 65536]? with
      | none => s.groupDone g
      | some row => s.resyncStripeCar (row * 65536 + s.car.resyncNext % 65536)
    | _, [] => s
    | _, l => ((s.setWindow 2).modCar (fun c => { c with work := 1, resyncNext := 0 })).event Gb.CAR_RESYNC_START 15 [l.length]

/-- R302: the lock of 1 ms expires: the stripe is unlocked and its row group stays stale. -/
def State.stripeLockExpireEff (s : State) : State :=
  match s.car.lock with
  | none => s
  | some k =>
    match s.car.reads.find? (fun r => r.stripe == k && (match r.use with | .resync _ _ => true | _ => false)) with
    | some r => (s.dropCarRead r).carReadFail r 0
    | none => s.carUnlock

/-- R306: the rebuild has passed the last row: the spare is a member under its new index. -/
def State.rebuildDone (s : State) (ms : Nat) : State :=
  let s1 := (s.carWorkDone ms).modCar (fun c =>
    { c with role := 0, member := c.target, took := true, resyncNext := 0,
             peers := (c.peers.filter (fun p => p.idx != c.target)).map (fun p => { p with helloDue := true, helloAns := false }) })
  (s1.psPutNow Param.CAR_GROUP (carGroupBytes s1.car)).judgePeers.judgeSync

/-- R306: the rebuild goes on by one stripe, in ascending row order, at CAR_RATE at most. `ms` is the time since it started, `ns` that since it
last copied a segment. -/
def State.caravanRebuildStepEff (s : State) (ms ns : Nat) : State :=
  let k := s.car.resyncNext
  let row := k / 65536
  let next (a : State) : State := a.modCar (fun c => { c with resyncNext := k + 1 })
  if s.car.role != 2 || s.car.work != 2 || !s.md.operating || s.pw.stage != 0 || !s.windowFor 2 || s.car.lock.isSome then s
  else if s.car.blocks ≤ row then s.rebuildDone ms
  else if ns * max 1 (s.fld Reg.CAR_CTL 11 8) < 4096 then s
  else
    let (t, l) := s.carHome k
    if (s.car.dataIdx row s.car.self).isNone then s.resyncStripeCar k
    else if !s.alive t || (s.mapRaw t l).st != .lost || ahas l (s.tile t).xl.map then next s
    else if (s.commitOf t l).isSome || s.segLocked t l || s.car.reads.any (fun r => r.use == .repair t l) then s
    else match s.carAsk row with
      | some asked => s.carReadStart (.repair t l) k allLines asked
      | none => s.rebuildSkip k

/-! ### Commands (R309) -/

/-- R309: the peers of a group from the peer table: pool identifier and two bases for each index. -/
def peersOf (table : List (List Nat)) (n self : Nat) : List Peer :=
  (List.range 20).filterMap (fun i =>
    let e := table.getD i []
    if i = self ∨ (n ≤ i ∧ e.getD 1 0 = 0) ∨ n + 2 ≤ i then none
    else some { idx := i, pool := e.getD 0 0 % 1024, bars := [e.getD 1 0, e.getD 2 0], helloDue := true })

/-- R309: every segment of blocks `lo` to below `hi` is NEVER or DISCARDED. -/
def State.rangeEmpty (s : State) (lo hi : Nat) : Bool :=
  s.aliveTiles.all (fun t => (s.tile t).xl.map.all (fun e =>
    let b := s.segOf t e.1 / 65536
    decide (b < lo ∨ hi ≤ b) || e.2.st == .never || e.2.st == .discarded))

/-- R309, R290: CARAVAN_JOIN. `table` is the peer table that the buffer holds: pool identifier and two BAR2 bases for each index. -/
def State.caravanJoinEff (s : State) (pc : PortCmd) (group : Nat) (code : Bool) (n member : Nat) (spare : Bool) (base blocks heads handle buf : Nat)
    (table : List (List Nat)) : State :=
  s.porterRun pc 0x0600 true s.md.inService (fun s =>
    let hi := base + blocks
    let oks := [decide (group < 4096), true, decide (3 ≤ n ∧ n ≤ 18), if spare then decide (n ≤ member ∧ member < n + 2) else decide (member < n), true,
      decide (hi ≤ s.pkgBlocks) && s.cap.table.all (fun e => decide (e.1 < base ∨ hi ≤ e.1)) && s.rangeEmpty base hi,
      decide (n ≤ blocks) && decide (n ≠ 0 ∧ blocks % n = 0),
      decide (heads ≠ 0) && (List.range 8).all (fun h => !bitOf heads h || (s.present.contains h && !(s.head h).upper)),
      ahas handle s.sec.secrets && !s.sec.withdrawn, aligned64 buf]
    if s.car.inGroup then s.fail pc .resourceBusy 0
    else s.checkFields pc oks (fun s =>
      let c : Caravan := { inGroup := true, group := group, rs := code, n := n, member := member, role := b2n spare, base := base, blocks := blocks,
                           heads := heads, handle := handle, peers := peersOf table n member, join := some (pc.ring, pc.cid) }
      ((s.modCar (fun _ => c)).event Gb.CAR_JOIN 15 [group, member, b2n spare]).joinCheck))

/-- R309: CARAVAN_LEAVE. -/
def State.caravanLeaveEff (s : State) (pc : PortCmd) (dissolve : Bool) (ms : Nat) : State :=
  s.porterRun pc 0x0601 true s.md.inService (fun s =>
    if !s.car.inGroup || (s.car.role != 1 && !dissolve) then s.fail pc .invalidField 0
    else
      let c := s.car
      let s0 := if c.work = 0 then s else s.carWorkDone ms
      let s1 := if c.role = 1 then s0 else (s0.car.peers.filter (fun p => p.st == .active)).foldl (fun a p => (a.carSend p.idx { type := 0x0B } []).1) s0
      let r := if c.rs then 2 else 1
      let freed := if c.role = 1 then 0 else c.blocks * r / c.n * 65536
      let sr := s1.car.reads.foldl (fun a r => (a.dropCarRead r).carReadFail r 0) s1
      let s2 := sr.aliveTiles.foldl (fun a t =>
        let ls := ((a.tile t).xl.map.map (·.1)).filter (fun l => a.carHeld (a.segOf t l / 65536))
        ls.foldl (fun b l => (b.jappend t (.discard l)).replaceEntry t l {}) (a.modCarT t (fun _ => {}))) sr
      let s3 := s2.modCar (fun _ => {})
      let s4 := (c.peers.foldl (fun a p => a.psPut (Param.CAR_STALE + p.idx) (zeros 512)) s3).psPutNow Param.CAR_GROUP (carGroupBytes {})
      -- commits that waited for peers go on
      let s5 := s4.aliveTiles.foldl (fun a t => a.caravanProgressAll t) s4
      (((s5.event Gb.CAR_LEAVE 15 ([c.group] ++ [freed])).judgePeers.judgeSync).ok pc [(32, freed)]).settle)

/-- R309: rows left to rebuild, or stripes left to resync. -/
def State.carLeft (s : State) : Nat :=
  if s.car.role = 2 then s.car.blocks - s.car.resyncNext / 65536
  else total (s.car.resync.map (fun g => (s.groupRows g).length * 65536)) - s.car.resyncNext

/-- R309: row groups that are stale for a peer or await resync here. -/
def State.staleGroups (s : State) : Nat := (distinct ((s.car.peers.map (·.stale)).flatten ++ s.car.resync)).length

/-- R309: CARAVAN_STATUS. -/
def State.caravanStatusEff (s : State) (pc : PortCmd) : State :=
  s.porterRun pc 0x0602 false true (fun s =>
    let c := s.car
    let st (i : Nat) : Nat := match s.peer i with | some p => p.st.code | none => 0
    s.ok pc ([(12, c.group), (1, b2n c.rs), (5, c.n), (5, c.member)] ++ (List.range 18).map (fun i => (2, st i))
      ++ [(13, s.staleGroups), (2, c.work), (32, s.carLeft)]))

/-- R305 step 1 and 3: the spare takes the index of a member. -/
def State.carTakeIndex (s : State) (target : Nat) : State :=
  let s1 := (s.car.peers.filter (fun p => p.st == .active)).foldl (fun a p =>
    (a.carSend p.idx { type := 0x0A } (bytesLines (leBytes 1 target ++ zeros 63))).1) s
  let s2 := (s1.setPeerSt target .replaced).modCar (fun c =>
    { c with role := 2, target := target, resyncNext := 0, resync := [], peers := c.peers.map (fun p => { p with seen := [], parts := [] }) })
  s2.psPutNow Param.CAR_GROUP (carGroupBytes s2.car)

/-- R305, R309: CARAVAN_REBUILD: KIND 0 REPLACE, 1 RESYNC, 2 STOP. -/
def State.caravanRebuildEff (s : State) (pc : PortCmd) (kind target ms : Nat) : State :=
  s.porterRun pc 0x0603 true s.md.sdService (fun s =>
    let c := s.car
    let again := c.role == 2 && c.target == target
    let gone := match s.peer target with | some p => decide (target < c.n) && (p.st == .failed || p.st == .departed || again) | none => false
    if !c.inGroup || 3 ≤ kind || (kind == 0 && c.role != 1 && !again) || (kind == 1 && c.role != 0) then s.fail pc .invalidField 0
    else if kind == 0 && !gone then s.fail pc .invalidField 1
    else if kind = 2 then
      if c.work = 0 then (s.modCar (fun c => { c with stopped := true })).ok pc [(32, 0)]
      else
        let drop := c.reads.filter (fun r => match r.use with | .resync _ _ => true | _ => false)
        let s1 := (drop.foldl State.dropCarRead s).carUnlock
        ((s1.carWorkDone ms).modCar (fun c => { c with stopped := true })).ok pc [(32, 0)]
    else if c.work != 0 || !s.windowFor 2 then s.fail pc .resourceBusy 4
    else if kind = 0 then
      let s1 := if again then s else s.carTakeIndex target
      let s2 := ((s1.setWindow 2).modCar (fun c => { c with work := 2, stopped := false })).event Gb.CAR_REBUILD_START 15 [target, c.blocks]
      (s2.judgePeers.judgeSync).ok pc [(32, c.blocks)]
    else
      let groups := (List.range 4096).filter (fun g => !(s.groupRows g).isEmpty)
      let s1 := ((s.setWindow 2).carQueue groups).modCar (fun c => { c with work := 1, resyncNext := 0 })
      (s1.event Gb.CAR_RESYNC_START 15 [s1.car.resync.length]).ok pc [(32, total (groups.map (fun g => (s.groupRows g).length)))])

/-! ### The commands of this family -/

/-- CARAVAN_FRAME_DELTA (R293): A DELTA frame is received and applied into a slot or answered BUSY. -/
def execCaravanFrameDelta (f : CarFrame) (s : State) : Host.Outcome State Fault Refusal :=
  s.run (fun x => x.caravanFrameDeltaEff f)

/-- CARAVAN_FRAME_ACK (R292): An ACK frame is received for a delta message. -/
def execCaravanFrameAck (f : CarFrame) (s : State) : Host.Outcome State Fault Refusal :=
  s.run (fun x => x.caravanFrameAckEff f)

/-- CARAVAN_FRAME_SETTLE (R295): A SETTLE frame settles slot entries. -/
def execCaravanFrameSettle (f : CarFrame) (s : State) : Host.Outcome State Fault Refusal :=
  s.run (fun x => x.caravanFrameSettleEff f)

/-- CARAVAN_FRAME_READ_REQ (R303): A READ_REQ frame is answered with member or parity lines. -/
def execCaravanFrameReadReq (f : CarFrame) (errs : List LineErr)
    (s : State) : Host.Outcome State Fault Refusal :=
  s.run (fun x => x.caravanFrameReadReqEff f errs)

/-- CARAVAN_FRAME_READ_RSP (R303): A READ_RSP frame supplies lines for reconstruction or resync. -/
def execCaravanFrameReadRsp (f : CarFrame) (latNs : Nat) (s : State) : Host.Outcome State Fault Refusal :=
  s.run (fun x => x.caravanFrameReadRspEff f latNs)

/-- CARAVAN_FRAME_HELLO (R302): A HELLO frame makes the peer ACTIVE and restarts the SEQ count. -/
def execCaravanFrameHello (f : CarFrame) (s : State) : Host.Outcome State Fault Refusal :=
  s.run (fun x => x.caravanFrameHelloEff f)

/-- CARAVAN_FRAME_DEPART (R301): A DEPART frame sets the sender DEPARTED. -/
def execCaravanFrameDepart (f : CarFrame) (s : State) : Host.Outcome State Fault Refusal :=
  s.run (fun x => x.caravanFrameDepartEff f)

/-- CARAVAN_FRAME_STALE_MAP (R302): A STALE_MAP frame names row groups to resync. -/
def execCaravanFrameStaleMap (f : CarFrame) (s : State) : Host.Outcome State Fault Refusal :=
  s.run (fun x => x.caravanFrameStaleMapEff f)

/-- CARAVAN_FRAME_ALLOC (R302): An ALLOC frame carries a peer's LD allocations. -/
def execCaravanFrameAlloc (f : CarFrame) (s : State) : Host.Outcome State Fault Refusal :=
  s.run (fun x => x.caravanFrameAllocEff f)

/-- CARAVAN_FRAME_REPLACE (R305): A REPLACE frame sets the old member REPLACED and redirects traffic. -/
def execCaravanFrameReplace (f : CarFrame) (s : State) : Host.Outcome State Fault Refusal :=
  s.run (fun x => x.caravanFrameReplaceEff f)

/-- CARAVAN_FRAME_LEAVE (R309): A LEAVE frame sets the leaving member FAILED. -/
def execCaravanFrameLeave (f : CarFrame) (s : State) : Host.Outcome State Fault Refusal :=
  s.run (fun x => x.caravanFrameLeaveEff f)

/-- CARAVAN_RESEND_TIMER (R294): An unanswered frame is resent after 250 µs. -/
def execCaravanResendTimer (peer seq : Nat) (s : State) : Host.Outcome State Fault Refusal :=
  s.run (fun x => x.caravanResendTimerEff peer seq)

/-- CARAVAN_ACK_TIMEOUT (R294): The Caravan wait expires and the holder becomes FAILED. -/
def execCaravanAckTimeout (peer seq waitMs totalMs : Nat) (s : State) : Host.Outcome State Fault Refusal :=
  s.run (fun x => x.caravanAckTimeoutEff peer seq waitMs totalMs)

/-- CARAVAN_BUSY_TIMER (R293): A held delta is answered BUSY every 500 µs. -/
def execCaravanBusyTimer (tile : Nat) (s : State) : Host.Outcome State Fault Refusal :=
  s.run (fun x => x.caravanBusyTimerEff tile)

/-- SETTLE_SEND (R295): Gathered SETTLE entries are sent at 28 entries or after 100 µs. -/
def execSettleSend (s : State) : Host.Outcome State Fault Refusal :=
  s.run (fun x => x.settleSendEff)

/-- CARAVAN_SLOT_FLUSH (R295): A fully settled Caravan slot is folded into its parity page. -/
def execCaravanSlotFlush (tile : Nat) (errs : List LineErr) (s : State) : Host.Outcome State Fault Refusal :=
  s.run (fun x => x.caravanSlotFlushEff tile errs)

/-- HOLD_WAIT_EXPIRE (R301): A Hold-up commit's Caravan wait expires and it proceeds or stops. -/
def execHoldWaitExpire (tile seg us : Nat) (s : State) : Host.Outcome State Fault Refusal :=
  s.run (fun x => x.holdWaitExpireEff tile seg us)

/-- HELLO_SEND (R302): Once a CAR_HEADS link is up the package sends HELLO to every peer. -/
def execHelloSend (peer : Nat) (s : State) : Host.Outcome State Fault Refusal :=
  s.run (fun x => x.helloSendEff peer)

/-- CARAVAN_RESYNC_STRIPE (R302): A stale stripe is locked, read and its parity recommitted. -/
def execCaravanResyncStripe (ms : Nat) (s : State) : Host.Outcome State Fault Refusal :=
  s.run (fun x => x.caravanResyncStripeEff ms)

/-- STRIPE_LOCK_EXPIRE (R302): A resync lock of 1 ms expires and the stripe is unlocked and left stale. -/
def execStripeLockExpire (s : State) : Host.Outcome State Fault Refusal :=
  s.run (fun x => x.stripeLockExpireEff)

/-- CARAVAN_REBUILD_STEP (R306): A spare rebuilds the next row of its range. -/
def execCaravanRebuildStep (ms ns : Nat) (s : State) : Host.Outcome State Fault Refusal :=
  s.run (fun x => x.caravanRebuildStepEff ms ns)

/-- CARAVAN_JOIN (R309): Command that joins a Caravan group. -/
def execCaravanJoin (pc : PortCmd) (group : Nat) (code : Bool) (n member : Nat) (spare : Bool) (base blocks
    heads handle buf : Nat) (table : List (List Nat))
    (s : State) : Host.Outcome State Fault Refusal :=
  s.run (fun x => x.caravanJoinEff pc group code n member spare base blocks heads handle buf table)

/-- CARAVAN_LEAVE (R309): Command that leaves a Caravan group. -/
def execCaravanLeave (pc : PortCmd) (dissolve : Bool) (ms : Nat)
    (s : State) : Host.Outcome State Fault Refusal :=
  s.run (fun x => x.caravanLeaveEff pc dissolve ms)

/-- CARAVAN_STATUS (R309): Command that returns group membership and state. -/
def execCaravanStatus (pc : PortCmd) (s : State) : Host.Outcome State Fault Refusal :=
  s.run (fun x => x.caravanStatusEff pc)

/-- CARAVAN_REBUILD (R305): Command that replaces a member, resyncs or stops work. -/
def execCaravanRebuild (pc : PortCmd) (kind target ms : Nat) (s : State) : Host.Outcome State Fault Refusal :=
  s.run (fun x => x.caravanRebuildEff pc kind target ms)

/-- CARAVAN_HELLO_TIMEOUT (R309): A peer has not answered HELLO within 1 s and is set DEPARTED or FAILED. -/
def execCaravanHelloTimeout (peer : Nat) (s : State) : Host.Outcome State Fault Refusal :=
  s.run (fun x => x.caravanHelloTimeoutEff peer)

/-- CARAVAN_READ_TIMEOUT (R303): A READ_REQ answer does not arrive within CAR_ACK_MS and the reconstruction fails
with poison. -/
def execCaravanReadTimeout (stripe latNs waitMs : Nat) (s : State) : Host.Outcome State Fault Refusal :=
  s.run (fun x => x.caravanReadTimeoutEff stripe latNs waitMs)

end Sys2Proof.Machine
end

