-- ==== Sys2Proof/Machine/Phase.lean ====
section
/-! DEFINITION. Machine/Phase.lean: Belfry: marks, fabric messages, turns, sectors, schedules, trimming and the Belfry commands
(04_belfry.md R100 to R132; trims of 12_clocks_resets.md R365). -/

namespace Sys2Proof.Machine

open Sys2Proof

/-! ### Sectors (R113, R115, R119) -/

/-- R20, R18: the primary's tick count goes to every other tile in the SYNC class. -/
def State.sendTicks (s : State) : State := s.syncAll (.tick s.bel.refAngle)

/-- A signed number as a 32-bit data word. -/
def signedWord (x : Int) : Nat := (BitVec.ofInt 32 x).toNat

/-- R119: clears of the class that run on the channels of an entry that ends are suspended; those that no schedule holds
(R228) run on. -/
def State.suspendClears (s : State) (t : Nat) (e : SchedEntry) : State :=
  ((List.range 8).filter (bitOf e.chans)).foldl (fun a c =>
    ((a.chan t c).ops.filter (fun o => o.job == .clear && !o.susp && a.clearClass t (locBlk o.loc) == some e.cls)).foldl (fun b o =>
      (b.modCh t c (fun k => { k with ops := k.ops.map (fun x => if x = o then { o with susp := true, susps := o.susps + 1 } else x) })).caIssue
        t c (locRank o.loc) (.suspend (locPlane o.loc))) a) s

/-- R117, R388: a THERMAL_MEASURE sector requests its first round of conversions; the others follow, one per unit of BUDGET, as each ends
(`State.nextRound`). -/
def State.requestRounds (s : State) (t i : Nat) : State :=
  let e := s.schedEntry t i
  if e.budget = 0 then s
  else (s.requestConv (roundSensors t e.arg e.chans) 4).modBelT t (fun b => { b with spent := aput (16 * i + 8) 1 b.spent })

/-- R115, R113, R117: the sector of entry `i` starts, with its budget unspent. -/
def State.sectorBegin (s : State) (t i : Nat) : State :=
  let e := s.schedEntry t i
  let s0 := (s.modBelT t (fun b =>
    { b with active := setBit b.active i, ran := setBit b.ran i, spent := b.spent.filter (fun x => x.1 / 16 != i) })).perfEvent t 0x60 i 1
  let s1 := if e.cls = 7 then s0.requestRounds t i else s0
  if e.cls = 9 ∧ s1.classRuns t 9 ∧ s1.winMode (e.arg % 16) = 1 then
    (if bitOf (vget (e.arg % 16) {} s.wins).openHeads t then s1 else s1.winOpen (e.arg % 16) (2 ^ t))
  else s1

/-- R119, R507: the sector of entry `i` ends; its COUNTER_WINDOW closes with the last sector of its number. -/
def State.sectorFinish (s : State) (t i us : Nat) : State :=
  let e := s.schedEntry t i
  let s1 := s.modBelT t (fun b => { b with active := clearBit b.active i })
  let s2 := if e.cls = 1 ∨ e.cls = 2 then s1.suspendClears t e else s1
  let w := e.arg % 16
  if e.cls = 9 ∧ s2.winMode w = 1 ∧ !(List.range 64).any (fun j => s2.sectorOn t j && (s2.schedEntry t j).cls == 9 && (s2.schedEntry t j).arg % 16 == w)
  then s2.winClose w (2 ^ t) us false else s2

/-- R119, R507: a sector ends at a moment that no command times: how long its counter window was open is a free value. -/
def State.sectorCut (s : State) (t i : Nat) : State := (s.sectorFinish t i (s.freeNow % 2 ^ 20)).bumpFree

/-- R125: a load whose turn of activation has started waits to be applied on tile `t`. -/
def State.loadDue (s : State) (t : Nat) : Option ArmedLoad := ((s.tile t).bel.armed).filter (fun a => a.due && s.md.operating)

/-- R115: entry `i` can start a sector: it is valid, active in this turn and has not run in it. A load that is due takes effect first
(R125). -/
def State.canStart (s : State) (t i : Nat) : Bool :=
  let e := s.schedEntry t i
  s.alive t && s.schedRuns && e.valid && e.activeIn (s.tile t).bel.turn && !bitOf (s.tile t).bel.ran i && !s.sectorOn t i
    && (s.loadDue t).isNone

/-- R115: a schedule entry's sector starts on a tile. -/
def State.sectorStartEff (s : State) (tile entry : Nat) : State :=
  if decide (entry < 64) && s.canStart tile entry then
    (s.setTileAngle tile (s.schedEntry tile entry).start).sectorBegin tile entry
  else s

/-- R119: a schedule entry's sector ends. `windowUs` is how long its counter window was open. -/
def State.sectorEndEff (s : State) (tile entry windowUs : Nat) : State :=
  if decide (entry < 64) && s.sectorOn tile entry then
    (s.setTileAngle tile (s.schedEntry tile entry).stop).sectorFinish tile entry windowUs
  else s

/-- R101, R117, R120, R125: a tile turn starts: sectors that have run and the override start anew, budgets with the sectors that do not
run on (notes/assumptions/131.md), and an armed load whose turn it is becomes due. -/
def BelTile.newTurn (b : BelTile) (turn : Nat) : BelTile :=
  { b with turn := turn % 2 ^ 36, ran := 0, spent := b.spent.filter (fun e => bitOf b.active (e.1 / 16)), overrideTurn := false,
           armed := b.armed.map (fun a =>
             { a with due := a.due || a.atNext || decide ((turn + 2 ^ 36 - a.turn % 2 ^ 36) % 2 ^ 36 < 2 ^ 35) }) }

/-- R101: the tile turn number of tile `t` increments. -/
def State.tileTurn (s : State) (t : Nat) : State := s.modBelT t (fun b => b.newTurn (b.turn + 1))

/-- R101, R112, R129: the local turn number increments: a period that waits takes effect, and turns without a reference are counted. -/
def State.localTurn (s : State) : State :=
  (s.modBel (fun b =>
    { b with turn := (b.turn + 1) % 2 ^ 36, period := b.periodNext.getD b.period, periodNext := none,
             holdTurns := if b.state = .holdover ∨ b.state = .free then (b.holdTurns + 1) % 2 ^ 36 else b.holdTurns })).sendTicks

/-- R125: the armed load of a tile is applied. A running sector goes on where the new table holds the same entry at its index, and what it
spent still counts. -/
def State.applySched (s : State) (t : Nat) (entries : List SchedEntry) (profile : List Nat) : State :=
  let old := (s.tile t).bel.sched
  let same (i : Nat) : Bool := old.getD i {} == entries.getD i {}
  let s1 := ((List.range 64).filter (fun i => s.sectorOn t i && !same i)).foldl (fun a i => a.sectorCut t i) s
  let s2 := s1.modBelT t (fun b =>
    { b with sched := entries, profile := profile, schedTurn := b.turn, armed := none,
             spent := b.spent.filter (fun e => same (e.1 / 16) && bitOf b.active (e.1 / 16)) })
  s2.event Gb.BELFRY_SCHED_LOAD t ([t] ++ gbWide (s2.tile t).bel.turn)

/-- R125: the load that is due on tile `t`, if any, is applied. -/
def State.applyDue (s : State) (t : Nat) : State :=
  match s.loadDue t with
  | some a => s.applySched t a.entries a.profile
  | none => s

/-- R113: the tile angle moves at once from `a`: sectors that the move leaves end, and those it enters start unless they have run. A
forward move past angle 0 starts a tile turn, and with it a load that was armed for it. -/
def State.tileMove (s : State) (t a : Nat) : State :=
  let dst := s.tileAngle t
  let s1 := ((List.range 64).filter (fun i => s.sectorOn t i && (s.schedEntry t i).leftBy a dst)).foldl (fun x i => x.sectorCut t i) s
  let s2 := if fwdMove a dst && decide (dst < a) then (s1.tileTurn t).applyDue t else s1
  ((List.range 64).filter (fun i => s2.canStart t i && (s2.schedEntry t i).covers dst)).foldl (fun x i => x.sectorBegin t i) s2

/-- R101, R113: a step or a change of the offset or the stagger has moved every tile angle; a forward move past angle 0 is a wrap of the
local turn. `before` is the state before the move. -/
def State.moveAll (s before : State) : State :=
  let old := before.localAngle
  let now := s.localAngle
  let s1 := if fwdMove old now && decide (now < old) then s.localTurn else s
  (s1.aliveTiles.foldl (fun a t => a.tileMove t (before.tileAngle t)) s1).retryAll

/-- R110: the reference turn number becomes `n`; turn numbers of angles that lag the reference follow from it. -/
def State.setTurn (s : State) (n : Nat) : State :=
  let at_ (lag : Nat) : Nat := if lag % 65536 = 0 then n % 2 ^ 36 else (n + 2 ^ 36 - 1) % 2 ^ 36
  let s1 := s.modBel (fun b => { b with turn := at_ b.offset })
  s1.aliveTiles.foldl (fun a t => a.modBelT t (fun b => { b with turn := at_ (s.bel.offset + t * s.bel.stagger) })) s1

/-! ### Marks and the lock loop (R104 to R112) -/

/-- R110: a new acquisition starts. -/
def Belfry.acquire (b : Belfry) : Belfry :=
  { b with state := .acquire, stepWait := true, lockCount := 0, outliers := 0, missed := 0, prevTurnNs := none, sinceTurnNs := 0,
           rangeBad := false, slews := [] }

/-- R110: a turn mark steps the reference angle to 0. -/
def State.phaseStep (s : State) : State :=
  let old := s.bel.refAngle / 2 ^ 32
  let s1 := (((s.modBel (fun b => { b.acquire with stepWait := false })).setRefAngle 0).moveAll s).sendTicks
  s1.latch Reg.BELFRY_ERR_STATUS 5 Gb.BELFRY_STEP 15 ([old, 0] ++ gbWide s1.bel.turn)

/-- R111: a mark within its window: slew, frequency and lock. `e` is the error in 1/65,536 tick, `angle` the reference angle at the mark;
the slew by e / 4 takes the 1,024 ticks that follow. The period is measured over two turns whose marks the loop used: a mark more than one
and a half turns after the turn mark before it starts the measurement anew. While the period measured last is out of range, the loop does
not enter LOCKED. -/
def State.loopUpdate (s : State) (isTurn : Bool) (angle : Nat) (e : Int) (sinceNs : Nat) : State :=
  let b := s.bel
  let turnNs := b.sinceTurnNs + sinceNs
  let whole := decide (2 * turnNs < 3000 * b.period)
  let two := if isTurn && whole then b.prevTurnNs.map (· + turnNs) else none
  let off := match two with | some n => offRange n b.period | none => b.rangeBad
  let ticks := ticksOf sinceNs b.period
  let f := if ticks = 0 then b.freq else b.freq * (1 + (e : Rat) / 65536 / (64 * ticks))
  let n := if decide (e ≤ 4 * 65536 ∧ -(4 * 65536) ≤ e) then b.lockCount + 1 else 0
  let st := if b.state = .locked then .locked else if 8 ≤ n ∧ off = false then BelState.locked else .acquire
  let s0 := s.setRefAngle (angle * 65536)
  let s1 := s0.modBel (fun b =>
    { b with state := st, freq := f, phaseErr := phaseErrOf e, lockCount := n, outliers := 0, missed := 0, rangeBad := off,
             slews := b.slews ++ [{ amount := e * 16384, left := 1024 }],
             sinceTurnNs := if isTurn then 0 else turnNs,
             prevTurnNs := if isTurn then (if whole then some turnNs else none) else b.prevTurnNs })
  let s2 := match two with
    | some n => if off then s1.latch Reg.BELFRY_ERR_STATUS 6 Gb.BELFRY_REF_RANGE 15 [n / 2000] else s1
    | none => s1
  if st = .locked ∧ b.state ≠ .locked then (s2.modBel (fun b => { b with holdTurns := 0 })).event Gb.BELFRY_LOCK 15 ([b.source] ++ gbWide b.turn) else s2

/-- R106: the angle for which a mark stands: 0 for a turn mark, the nearest of the sub-marks else. -/
def expectedAngle (isTurn : Bool) (exp angle : Nat) : Nat :=
  if isTurn then 0
  else
    let u := 65536 / 2 ^ exp
    let k := (angle / 65536 + u / 2) / u
    u * max 1 (min k (2 ^ exp - 1)) * 65536

/-- BELFRY_CTL SUBMARK_EXP; values 9 to 15 act as 8. -/
def State.submarkExp (s : State) : Nat := min 8 (s.fld Reg.BELFRY_CTL 11 8)

/-- R106, R110, R112: a mark reaches the loop: used, ignored as an outlier, or it steps the angle. The answer says that it was used.
`angle` is the reference angle at the mark with 16 fraction bits, `sinceNs` the time since the last mark that the loop used. -/
def State.useMark (s : State) (isTurn : Bool) (angle sinceNs : Nat) : State × Bool :=
  let b := s.bel
  let e := angleDiff (expectedAngle isTurn s.submarkExp angle) angle
  let inWin := decide (e ≤ 256 * 65536 ∧ -(256 * 65536) ≤ e)
  let s0 := s.setRefAngle (angle * 65536)
  let fresh (a : State) : State := a.modBel Belfry.acquire
  match b.state with
  | .acquire =>
    if b.stepWait then (if isTurn then (s0.phaseStep, true) else (s, false))
    else if inWin then (s.loopUpdate isTurn angle e sinceNs, true)
    else
      let s1 := (s.modBel (fun b => { b with outliers := b.outliers + 1 })).latchOnly Reg.BELFRY_ERR_STATUS 1
      if s1.bel.outliers < 3 then (s1, false)
      else if isTurn then (((fresh s1).setRefAngle (angle * 65536)).phaseStep, true) else (fresh s1, false)
  | .locked =>
    if inWin then (s.loopUpdate isTurn angle e sinceNs, true)
    else
      let s1 := (s.modBel (fun b => { b with outliers := b.outliers + 1 })).latchOnly Reg.BELFRY_ERR_STATUS 1
      if s1.bel.outliers < 3 then (s1, false)
      else if isTurn then (((fresh s1).setRefAngle (angle * 65536)).phaseStep, true) else (fresh s1, false)
  | .holdover | .free =>
    if inWin then ((s.modBel (fun b => { b with state := .acquire, stepWait := false, lockCount := 0 })).loopUpdate isTurn angle e sinceNs, true)
    else if isTurn then ((fresh s0).phaseStep, true) else (fresh s, false)

/-- R121, R315: phase tracking runs: in Bring-up, Service and wherever the schedule runs. -/
def State.phaseRuns (s : State) : Bool := !(s.md.mode == .off || s.md.mode == .standby || s.md.mode == .holdup)

/-- R104 to R112: a PHASE_IN pulse of a width, classified at its falling edge. `angle`: the reference angle at its rising edge with 16
fraction bits; `sinceNs`: the time since the last mark that the loop used. -/
def State.phaseInMarkEff (s : State) (widthNs angle sinceNs : Nat) : State :=
  if !s.phaseRuns || !(s.phaseByBelfry || s.phaseByTrim) then s
  else
    let w := widthNs / 4 * 4
    let turn := decide (320 ≤ w ∧ w ≤ 960)
    let sub := decide (64 ≤ w ∧ w ≤ 240) && s.submarkExp != 0
    if !turn && !sub then (s.modBel (fun b => { b with trimMarks := 0 })).latch Reg.BELFRY_ERR_STATUS 0 Gb.BELFRY_MARK_ERR 15 [w]
    else if !s.phaseByBelfry then (if turn && s.bel.trimBusy then s.modBel (fun b => { b with trimMarks := b.trimMarks + 1 }) else s)
    else
      let (s1, used) := s.useMark turn (angle % 2 ^ 32) sinceNs
      match turn && used, s1.bel.turnSet with
      | true, some n => (s1.setTurn n).modBel (fun b => { b with turnSet := none })
      | _, _ => s1

/-- R106: an expected mark does not arrive within its window; the third in a row in LOCKED starts HOLDOVER. R128: a turn mark missed on
PHASE_IN (`trim`) restarts the trim measurement that counts from it. -/
def State.markWindowExpireEff (s : State) (trim : Bool) : State :=
  let b := s.bel
  if trim then (if s.phaseRuns && s.phaseByTrim then s.modBel (fun b => { b with trimMarks := 0 }) else s)
  else if !s.phaseRuns || b.source = 0 || b.state = .free || b.stepWait then s
  else
    let s1 := (s.modBel (fun b => { b with missed := b.missed + 1 })).latchOnly Reg.BELFRY_ERR_STATUS 2
    if b.state = .locked ∧ 2 ≤ b.missed then
      (s1.modBel (fun b => { b with state := .holdover, missed := 0, holdTurns := 0 })).latch Reg.BELFRY_ERR_STATUS 3 Gb.BELFRY_HOLDOVER 15
        (gbWide b.turn ++ [signedWord b.freqErr])
    else s1

/-- BELFRY_CTL HOLD_EXP; values 0 to 3 act as 4. -/
def State.holdExp (s : State) : Nat := max 4 (s.fld Reg.BELFRY_CTL 15 12)

/-- R112: 2^HOLD_EXP turns in HOLDOVER are over. -/
def State.holdoverLimitExpireEff (s : State) : State :=
  if s.bel.state = .holdover ∧ s.phaseRuns ∧ 2 ^ s.holdExp ≤ s.bel.holdTurns then
    (s.modBel (fun b => { b with state := .free })).latch Reg.BELFRY_ERR_STATUS 4 Gb.BELFRY_FREE 15 (gbWide s.bel.turn)
  else s

/-- R107, R108: why a fabric message is discarded with MSG_ERR: 0 not at all; 1 size, 2 FORMAT, CHECK or a must-be-0 field, 3 DOMAIN,
4 PERIOD_US, 5 PTM; a message that is late has cause 6. -/
def State.phaseMsgBad (s : State) (whole ptm : Bool) (b : List Byte) : Nat :=
  if !whole || b.length != 32 then 1
  else if leAt b 0 2 != 1 || leAt b 24 4 != (crc32c (b.take 24)).toNat || leAt b 2 2 / 1024 != 0 || leAt b 4 4 / 2 ^ 20 != 0
      || leAt b 16 5 / 2 ^ 36 != 0 || leAt b 21 1 / 2 != 0 || leAt b 28 4 != 0 then 2
  else if leAt b 2 2 != s.bel.domain then 3
  else if leAt b 4 4 != s.bel.period then 4
  else if !ptm then 5
  else 0

/-- R107, R108: a fabric phase message acts as a turn mark at START_NS, unless a message used before named its turn. `ptm`: the head has a valid PTM context; `nowNs`: PTM time at
recognition; `angle`: the reference angle at START_NS with 16 fraction bits; `sinceNs`: the time since the last mark that the loop used. -/
def State.fabricPhaseMessageEff (s : State) (head : Nat) (whole ptm : Bool) (bytes : List Byte) (nowNs angle sinceNs : Nat) : State :=
  if !s.phaseRuns || !bitOf (s.fld Reg.BELFRY_CTL 7 0) head || !(s.head head).up then s
  else
    let bad := s.phaseMsgBad whole ptm bytes
    let start := leAt bytes 8 8
    let turn := leAt bytes 16 5
    let far := (if start ≤ nowNs then nowNs - start else start - nowNs)
    if bad ≠ 0 then s.latch Reg.BELFRY_ERR_STATUS 7 Gb.BELFRY_MSG_ERR 15 [head, bad, leAt bytes 22 2]
    else if s.bel.period * 1000 < far then s.latch Reg.BELFRY_ERR_STATUS 8 Gb.BELFRY_MSG_ERR 15 [head, 6, leAt bytes 22 2]
    else if s.bel.source ≠ 2 ∨ s.bel.msgUsed.any (fun m => m.1 == turn) then s
    else
      let kept := s.bel.msgUsed.filter (fun m => decide (nowNs ≤ m.2 + s.bel.period * 1000))
      let (s1, used) := (s.modBel (fun b => { b with msgUsed := kept ++ [(turn, start)] })).useMark true (angle % 2 ^ 32) sinceNs
      if used && bitOf (leAt bytes 21 1) 0 then s1.setTurn turn else s1

/-- R101, R123: the local angle (`tile` none) or a tile angle passes from 65,535 to 0. Every angle that stands at 0 then has wrapped with
it. -/
def State.turnWrapEff (s : State) (tile : Option Nat) : State :=
  if !s.phaseRuns || !(tile.all s.alive) then s
  else
    let s1 := match tile with | some t => s.setTileAngle t 0 | none => s.setRefAngle (s.bel.offset * 2 ^ 32)
    let s2 := if s1.localAngle = 0 then s1.localTurn else s1
    ((s2.aliveTiles.filter (fun t => s2.tileAngle t == 0)).foldl State.tileTurn s2).retryAll.settle

/-- R125: the load that a tile turn has made due is applied, before any sector of that turn. -/
def State.scheduleActivationEff (s : State) (tile : Nat) : State :=
  if s.alive tile && (s.loadDue tile).isSome then ((s.applyDue tile).retryPrograms tile).settle else s

/-! ### Commands (R129 to R131) -/

/-- R541: the 20 bytes of BELFRY_REF. -/
def belfryRefBytes (period offset stagger domain source turnSet : Nat) (valid : Bool) : List Byte :=
  leBytes 4 period ++ leBytes 2 offset ++ leBytes 2 stagger ++ leBytes 2 domain ++ leBytes 1 source ++ zeros 1 ++ leBytes 5 turnSet ++ leBytes 1 (b2n valid) ++ zeros 2

/-- R103, R110: the source becomes `src`; a change starts a new acquisition, and NONE runs free. -/
def State.setSource (s : State) (src : Nat) : State :=
  if src = s.bel.source then s
  else s.modBel (fun b => { (if src = 0 then { b.acquire with state := .free, stepWait := false } else b.acquire) with source := src, msgUsed := [] })

/-- R129: BELFRY_SET_REF. -/
def State.belfrySetRefEff (s : State) (pc : PortCmd) (source period offset stagger domain turnSet : Nat) (turnSetValid persist : Bool) : State :=
  s.porterRun pc 0x0500 true s.md.ringOrOperating (fun s =>
    s.checkFields pc [decide (source < 3), decide (500 ≤ period ∧ period ≤ 1000000)] (fun s =>
      if source == 1 && s.phaseByTrim then s.fail pc .resourceBusy 1
      else
        let prev := s.bel.source
        let s1 := (s.setSource source).modBel (fun b =>
          { b with periodNext := if period = b.period then none else some period, offset := offset, stagger := stagger, domain := domain,
                   turnSet := if turnSetValid then some turnSet else b.turnSet })
        let s2 := if offset = s.bel.offset ∧ stagger = s.bel.stagger then s1 else s1.moveAll s
        let s3 := s2.ok pc [(2, s2.bel.state.code), (2, prev)]
        if persist then s3.psPersist pc [(Param.BELFRY_REF, belfryRefBytes period offset stagger domain source turnSet turnSetValid)] else s3))

/-- R125: the command that armed a load and still runs ends with ABORTED, DETAIL 0x03. -/
def State.dropArmed (s : State) (t : Nat) : State :=
  match ((s.tile t).bel.armed).bind (·.owner) with
  | some (r, c) =>
    if s.awaitsAny { ring := r, cid := c } then
      let f (x : PsCaller) : PsCaller := if x = .porter r c then .internal else x
      (s.modPs (fun p =>
        { p with waiters := p.waiters.map f, held := p.held.map f, running := p.running.map (fun k => { k with callers := k.callers.map f }) })).replaceResult r c
        { status := Status.aborted.code, detail := 3 }
    else s
  | none => s

/-- R125, R130: BELFRY_LOAD_SCHEDULE; `buf` is the 1,088 bytes of the buffer. -/
def State.belfryLoadScheduleEff (s : State) (pc : PortCmd) (tileMask addr : Nat) (buf : List Byte) (actTurn : Nat) (actNext persist : Bool) : State :=
  s.porterRun pc 0x0501 true s.md.operating (fun s =>
    let ts := (List.range 8).filter (bitOf tileMask)
    s.checkFields pc [ts.all s.present.contains, aligned64 addr] (fun s =>
      let es := schedOf buf
      let ps := profileOf buf
      match schedBad? es ps with
      | some i => s.finish pc { status := Status.invalidField.code, detail := 1, results := [(7, i), (1, 0), (1, 0)] }
      | none =>
        let late (t : Nat) : Bool := decide (((s.tile t).bel.turn + 2 ^ 36 - actTurn) % 2 ^ 36 < 2 ^ 35)
        let replaced := ts.any (fun t => (s.tile t).bel.armed.isSome)
        let s1 := ts.foldl (fun a t => (a.dropArmed t).modBelT t (fun b =>
          { b with armed := some { entries := es, profile := ps, turn := actTurn, atNext := actNext || late t, owner := if persist then some (pc.ring, pc.cid) else none } })) s
        -- R15, R18: the primary's management processors load the schedule into the other tiles
        let sm := (ts.filter (fun t => t != s.md.primary && s1.alive t)).foldl
          (fun a t => a.meshSend s.md.primary { src := s.md.primary, dst := t, body := .mgmt }) s1
        let s2 := sm.ok pc [(7, 0), (1, b2n (ts.any late)), (1, b2n replaced)]
        if persist then s2.psPersist pc (ts.map (fun t => (Param.BELFRY_SCHED + t, padTo 1088 buf))) else s2))

/-- R131: BELFRY_GET_STATUS. -/
def State.belfryGetStatusEff (s : State) (pc : PortCmd) (tile : Nat) : State :=
  s.porterRun pc 0x0502 false true (fun s =>
    s.checkFields pc [s.present.contains tile] (fun s =>
      let b := s.bel
      let x := (s.tile tile).bel
      let signed (w : Nat) (v : Int) : Nat := (BitVec.ofInt w v).toNat
      s.ok pc [(2, b.state.code), (2, b.source), (1, b2n (b.state == .free || b.state == .holdover)), (36, b.turn), (16, s.localAngle),
        (20, b.period), (16, b.offset), (16, b.stagger), (16, signed 16 b.phaseErr), (24, signed 24 b.freqErr), (36, b.holdTurns), (64, x.active),
        (16, x.overrides), (36, x.schedTurn)]))

/-! ### Trimming of the internal oscillator (R127, R128, R365) -/

/-- R365: a trim against the crystal or PHASE_IN starts, from the code in use. -/
def State.trimBegin (s : State) : State :=
  s.modBel (fun b => { b with trimDone := false, trimBusy := true, trimStep := some 4, trimFinal := false, trimMarks := 0 })

/-- R128: TRIM_CODE moves against the sign of the deviation; beyond 0 or 511 it stays at the limit. `dev` is in 0.01 %. -/
def State.trimMove (s : State) (up : Bool) (n : Nat) (dev : Int) : State :=
  let c := s.bel.trimCode
  let beyond := if up then decide (511 < c + n) else decide (c < n)
  let s1 := s.modBel (fun b => { b with trimCode := if up then min 511 (c + n) else c - n })
  if beyond then s1.latch Reg.BELFRY_ERR_STATUS 10 Gb.TRIM_RANGE 15 [s1.bel.trimCode, signedWord dev] else s1

/-- R128: turns of PHASE_IN, or ms of the crystal, in one trim measurement. -/
def State.trimSpan (s : State) : Nat := 2 ^ s.fld Reg.BELFRY_TRIM_CTL 13 11

/-- R128, R365: oscillator cycles expected in a trim measurement: f_nominal, 200 MHz, times the turns between its marks or the ms of the
crystal. -/
def State.trimExpected (s : State) : Nat :=
  if s.phaseByTrim then 200 * s.bel.period * s.trimSpan else 200000 * s.trimSpan

/-- R128, R365: a measurement can end: its turn marks have come, or the crystal it counts against has not failed. -/
def State.trimReady (s : State) : Bool :=
  s.bel.trimBusy && (if s.phaseByTrim then decide (s.trimSpan < s.bel.trimMarks) else s.clk.xtal != 2)

/-- R128: a trim measurement ends: oscillator cycles counted against the expected number. The next one starts at the mark that ended it.
One against the crystal gives CLK_IOSC (12_clocks_resets.md). -/
def State.trimMeasurementDoneEff (s : State) (count : Nat) : State :=
  if !s.trimReady then s
  else
    let expected := s.trimExpected
    let diff := if expected ≤ count then count - expected else expected - count
    let dev : Int := ((count : Int) - expected) * 10000 / expected
    let out (k : Nat) : Bool := decide (k * expected < diff * 10000)
    let up := decide (count < expected)
    let sm := if s.phaseByTrim then s.modBel (fun b => { b with trimMarks := 1 })
      else { s with clk := { s.clk with ioscKhz := min 0x3FFFF (count * 200000 / expected) } }
    let s0 := sm.modBel (fun b => { b with trimDev := dev })
    let track := s.regBit Reg.BELFRY_TRIM_CTL 10
    if s.bel.trimDone then (if out 10 then s0.trimMove up 1 dev else s0).modBel (fun b => { b with trimBusy := track })
    else if s.bel.trimFinal then
      (if out 5 then s0.trimMove up 1 dev else s0).modBel (fun b => { b with trimDone := true, trimFinal := false, trimBusy := track })
    else match s.bel.trimStep with
      | some n =>
        if !out 5 then s0.modBel (fun b => { b with trimStep := none, trimFinal := true })
        else (s0.trimMove up (2 ^ n) dev).modBel (fun b => { b with trimStep := if n = 0 then none else some (n - 1), trimFinal := n == 0 })
      | none => s0

/-- R365: the first wrap of an hour of age-clock time, while TRIM_SRC is the crystal and the crystal has not failed. -/
def State.ioscTrimHourlyEff (s : State) : State :=
  if s.fld Reg.BELFRY_TRIM_CTL 15 14 == 1 && s.phaseRuns && s.clk.xtal != 2 then s.trimBegin else s

/-! ### The commands of this family -/

/-- PHASE_IN_MARK (R104): A PHASE_IN pulse is classified at its falling edge and used by the lock loop. -/
def execPhaseInMark (widthNs angle sinceNs : Nat) (s : State) : Host.Outcome State Fault Refusal :=
  s.run (fun x => x.phaseInMarkEff widthNs angle sinceNs)

/-- MARK_WINDOW_EXPIRE (R106): An expected mark does not arrive within its window and counts as missed. -/
def execMarkWindowExpire (trim : Bool) (s : State) : Host.Outcome State Fault Refusal :=
  s.run (fun x => x.markWindowExpireEff trim)

/-- HOLDOVER_LIMIT_EXPIRE (R112): 2^HOLD_EXP turns in HOLDOVER pass and the state becomes FREE. -/
def execHoldoverLimitExpire (s : State) : Host.Outcome State Fault Refusal :=
  s.run (fun x => x.holdoverLimitExpireEff)

/-- FABRIC_PHASE_MESSAGE (R107): A 32-byte fabric phase message is checked and acts as a turn mark. -/
def execFabricPhaseMessage (head : Nat) (whole ptm : Bool) (bytes : List Byte) (nowNs angle sinceNs : Nat)
    (s : State) : Host.Outcome State Fault Refusal :=
  s.run (fun x => x.fabricPhaseMessageEff head whole ptm bytes nowNs angle sinceNs)

/-- TURN_WRAP (R101): A local or tile angle wraps from 65,535 to 0 and the turn number increments. -/
def execTurnWrap (tile : Option Nat) (s : State) : Host.Outcome State Fault Refusal :=
  s.run (fun x => x.turnWrapEff tile)

/-- SECTOR_START (R115): A schedule entry's sector starts on a tile and its class may work within budget. -/
def execSectorStart (tile entry : Nat) (s : State) : Host.Outcome State Fault Refusal :=
  s.run (fun x => x.sectorStartEff tile entry)

/-- SECTOR_END (R119): A sector ends; no new operation starts and running operations end as given. -/
def execSectorEnd (tile entry windowUs : Nat) (s : State) : Host.Outcome State Fault Refusal :=
  s.run (fun x => x.sectorEndEff tile entry windowUs)

/-- SCHEDULE_ACTIVATION (R125): An armed schedule and profile are applied at tile angle 0 of the activation turn. -/
def execScheduleActivation (tile : Nat) (s : State) : Host.Outcome State Fault Refusal :=
  s.run (fun x => x.scheduleActivationEff tile)

/-- BELFRY_SET_REF (R129): Command that sets the phase source, period, offsets, domain and turn. -/
def execBelfrySetRef (pc : PortCmd) (source period offset stagger domain turnSet : Nat) (turnSetValid persist : Bool)
    (s : State) : Host.Outcome State Fault Refusal :=
  s.run (fun x => x.belfrySetRefEff pc source period offset stagger domain turnSet turnSetValid persist)

/-- BELFRY_LOAD_SCHEDULE (R130): Command that checks and arms a schedule and profile for tiles. -/
def execBelfryLoadSchedule (pc : PortCmd) (tileMask addr : Nat) (buf : List Byte) (actTurn : Nat) (actNext
    persist : Bool)
    (s : State) : Host.Outcome State Fault Refusal :=
  s.run (fun x => x.belfryLoadScheduleEff pc tileMask addr buf actTurn actNext persist)

/-- BELFRY_GET_STATUS (R131): Command that returns Belfry phase and schedule status. -/
def execBelfryGetStatus (pc : PortCmd) (tile : Nat) (s : State) : Host.Outcome State Fault Refusal :=
  s.run (fun x => x.belfryGetStatusEff pc tile)

/-- TRIM_MEASUREMENT_DONE (R128): A trim measurement ends and TRIM_CODE is adjusted. -/
def execTrimMeasurementDone (count : Nat) (s : State) : Host.Outcome State Fault Refusal :=
  s.run (fun x => x.trimMeasurementDoneEff count)

/-- IOSC_TRIM_HOURLY (R365): At the first wrap of each hour of age-clock time a trim against the crystal starts. -/
def execIoscTrimHourly (s : State) : Host.Outcome State Fault Refusal :=
  s.run (fun x => x.ioscTrimHourlyEff)

end Sys2Proof.Machine
end

