-- ==== Sys2Proof/Machine/Ledger.lean ====
section
/-! DEFINITION. Machine/Ledger.lean: the commands and events of the Guestbook and the Parameter Store
(17_guestbook_parameter_store.md) and of the performance counters (18_performance_counters.md). -/

namespace Sys2Proof.Machine

open Sys2Proof

/-! ### Clock gates (R375) -/

/-- R375: an access to block `b` of tile `t` opens its gate; while the gate bit stays 1 it closes again at the next idle
acknowledgement. -/
def State.openGate (s : State) (t b : Nat) : State :=
  if bitOf (s.tile t).clk.gated b then
    s.modClkT t (fun x =>
      { x with gated := clearBit x.gated b, gateWait := putBit x.gateWait b (s.regBit (Reg.CLK_GATE_CTL t) b) })
  else s

/-! ### Performance counters (R497 to R510) -/

/-- R508: the fields of PERF_CONFIG that are right: EVENT, COUNT_MODE, CHAIN. -/
def perfFieldsOk (n ev mode : Nat) (chain : Bool) : List Bool :=
  if chain then [ev == 0, mode == 0, n % 2 == 1]
  else [knownEvent (ev / 256) && qualOk (ev / 256) (ev % 256),
        (mode == 0 && ev / 256 != 0x61) || (mode == 1 && isCondition (ev / 256)), true]

/-- PERF_SEL as fields. -/
def perfSel (enable user chain : Bool) (mode ev : Nat) : W32 :=
  BitVec.ofNat 32 (b2n enable * 2 ^ 31 + b2n user * 2 ^ 30 + b2n chain * 2 ^ 29 + mode * 2 ^ 27 + ev)

/-- R508, R499, R503: PERF_CONFIG. -/
def State.perfConfigEff (s : State) (pc : PortCmd) (tile counter event mode : Nat) (chain user enable : Bool) : State :=
  s.porterRun pc 0x0C00 true s.md.ringOrOperating (fun s =>
    s.checkFields pc ([decide (tile < s.pop.tiles), decide (counter < 64)] ++ perfFieldsOk counter event mode chain) (fun s =>
      if s.samplerOwns counter then s.fail pc .resourceBusy 3
      else
        let s1 := (s.settleLevel tile).setReg (selReg tile counter) (perfSel enable user chain mode event)
        (if enable then s1.setCnt tile counter 0 else s1).ok pc []))

/-- R509: the block of one tile. -/
def State.snapBlock (s : State) (t : Nat) : List Byte :=
  leBytes 1 t ++ zeros 3 ++ leBytes 5 ((s.tile t).bel.turn % 2 ^ 36) ++ zeros 1 ++ leBytes 2 (s.tileAngle t)
    ++ leBytes 4 (s.getReg (Reg.PERF_OVF0 + 8 * t)).toNat ++ leBytes 4 (s.getReg (Reg.PERF_OVF1 + 8 * t)).toNat ++ zeros 12
    ++ ((List.range 64).map (fun n => leBytes 8 (s.cntVal t n))).flatten

/-- R509, R375: PERF_SNAPSHOT. -/
def State.perfSnapshotEff (s : State) (pc : PortCmd) (tileMask bufAddr : Nat) : State :=
  s.porterRun pc 0x0C01 false s.md.ringOrOperating (fun s =>
    s.checkFields pc [decide (tileMask < 2 ^ s.pop.tiles), aligned64 bufAddr] (fun s =>
      let l := s.present.filter (bitOf tileMask)
      let s1 := l.foldl (fun a t => (a.openGate t 0).settleLevel t) s
      ((s1.emit (.hostWrite (s.ring pc.ring).head bufAddr ((l.map s1.snapBlock).flatten)))).ok pc [(16, 544 * l.length)]))

/-- PERF_WIN_CTL PERIOD_MS: 0 acts as 1, above 1,000 as 1,000. -/
def State.winPeriod (s : State) (w : Nat) : Nat := max 1 (min 1000 (s.fld (winCtl w) 9 0))

/-- R507: a FIXED window has been open for `ms`: after its period it closes and reopens in the same cycle. -/
def State.perfWindowPeriodExpireEff (s : State) (window ms : Nat) : State :=
  if s.winMode window = 2 ∧ s.winPeriod window ≤ ms ∧ ((s.wins.toList[window]?).map (fun p => p.openHeads != 0)).getD false then
    (s.winClose window 0xFF (1000 * s.winPeriod window) false).winOpen window 0xFF
  else s

/-- R503: the sampler reads its counters into firmware working memory, which no command shows; a read opens the gate of the
counter block (R375). -/
def State.samplerReadEff (s : State) : State :=
  if s.md.ringOrOperating && decide (s.stageActs = 0) then s.aliveTiles.foldl (fun a t => a.openGate t 0) s else s

/-! ### Guestbook commands and events (R478 to R483) -/

/-- R482: GB_READ. -/
def State.gbReadEff (s : State) (pc : PortCmd) (area : Bool) (count cursor bufAddr : Nat) : State :=
  s.porterRun pc 0x0A00 false s.md.ringOrOperating (fun s =>
    s.checkFields pc [true, decide (1 ≤ count ∧ count ≤ 2048), true, aligned64 bufAddr] (fun s =>
      let (rs, next, _) := s.gb.read area cursor count
      let s1 := if rs.isEmpty then s else s.emit (.hostWrite (s.ring pc.ring).head bufAddr ((rs.map gbBytes).flatten))
      s1.ok pc [(16, rs.length), (32, next % 2 ^ 32)]))

/-- R483: every record of the area becomes unreadable, and the clear is recorded. -/
def State.gbClearArea (s : State) (pc : PortCmd) (area : Bool) : State :=
  let n := (s.gb.records area).length
  let first := s.gb.newest area + 1
  let s1 := s.modGb (fun g => if area then { g with circOldest := first } else { g with permOldest := first })
  (s1.event Gb.GB_CLEARED 15 [b2n area, n, first % 2 ^ 32]).ok pc [(32, n)]

/-- R483, R491: GB_CLEAR; `buf` is the authorisation. -/
def State.gbClearEff (s : State) (pc : PortCmd) (area : Bool) (bufAddr : Nat) (buf : List Byte) : State :=
  s.porterRun pc 0x0A01 true s.md.inService (fun s =>
    s.checkFields pc [true, aligned64 bufAddr] (fun s =>
      if s.energyLow then s.psEnergyRefuse pc 2
      else if !area && s.sec.lc != 1 then s.fail pc .notAuthorised 1
      else if area && s.sec.lc == 3 then s.authorise pc 0x0A01 (s.secretOk (buf.take 32)) (fun a => a.gbClearArea pc area)
      else s.gbClearArea pc area))

/-- R479: eight records wait: a group is written to the boot flash; `fail` says that the write failed (R494). -/
def State.guestbookFlashWriteEff (s : State) (fail : Bool) : State :=
  if s.pw.vaux && decide (8 ≤ s.gb.buf.length) then s.gbWriteGroup fail else s

/-- R479: 100 ms have passed since the oldest waiting record was stored. -/
def State.guestbookWriteTimerEff (s : State) (fail : Bool) : State :=
  if s.pw.vaux then s.gbWriteGroup fail else s

/-- R478: `sec` seconds have passed since the bucket of a code last gained a token, or began to lack one; after REFILL it gains a token. It holds
BURST tokens. -/
def State.rateTokenRefillEff (s : State) (code sec : Nat) : State :=
  if s.pw.vaux && decide (agetD code 1 s.gb.refill ≤ sec) then s.modGb (fun g => { g with taken := aputD 0 code (agetD code 0 g.taken - 1) g.taken }) else s

/-- R476, R481: one second with VAUX: operating time and age clock advance. -/
def State.operatingTimeTickEff (s : State) : State :=
  if s.pw.vaux then s.modGb (fun g => { g with opTime := (g.opTime + 1) % 2 ^ 36, ageMs := g.ageMs + 1000 }) else s

/-- R481: an hour of operating time: a GB_AGE_CLOCK record. The hours of 11_power.md HOLD_RESULT and R355 count with it. -/
def State.ageClockHourlyEff (s : State) : State :=
  if s.pw.vaux then s.ageRecord.modPw (fun p => { p with testAgeH := min 255 (p.testAgeH + 1), deferAge := min 24 (p.deferAge + 1) }) else s

/-- R482: the window load ends: up to 32 records of AREA are in the window. -/
def State.gbWindowLoadedEff (s : State) : State :=
  match s.gb.winLoad with
  | none => s
  | some c =>
    let (rs, next, skipped) := s.gb.read (s.regBit Reg.GB_CTL 0) c 32
    s.modGb (fun g => { g with window := rs, winReady := true, winSkipped := skipped, winNext := next % 2 ^ 32, winLoad := none })

/-! ### Parameter Store (R486 to R495) -/

/-- R495: the password keeps a locked parameter from being read or written. -/
def State.psLockedOut (s : State) (p : ParamInfo) (id : Nat) : Bool :=
  (p.lock || id == Param.PARAM_AUTH) && s.pwSet && !s.ps.unlocked

/-- R486, R487: PARAM_READ. -/
def State.paramReadEff (s : State) (pc : PortCmd) (id offset len bufAddr : Nat) : State :=
  s.porterRun pc 0x0B00 true s.md.ringOrOperating (fun s =>
    match paramInfo? id with
    | none => s.fail pc .invalidField 0
    | some p =>
      s.checkFields pc [true, decide (offset ≤ p.size), decide (offset + len ≤ p.size), aligned64 bufAddr] (fun s =>
        if p.cls == .hidden || s.psLockedOut p id then s.fail pc .notAuthorised 1
        else
          let v := ((padTo p.size (s.psGet id)).drop offset).take len
          let s1 := if len = 0 then s else s.emit (.hostWrite (s.ring pc.ring).head bufAddr v)
          s1.ok pc [(16, len), (1, b2n (s.psCommitted id))]))

/-- A field of HOLD_PARAMS, R349: offset, bytes, range. -/
def holdParamRanges : List (Nat × Nat × Nat × Nat) :=
  [(0, 2, 50, 4000), (2, 1, 50, 99), (3, 1, 4, 255), (4, 2, 500, 10000), (6, 2, 100, 10000), (8, 2, 40, 500), (10, 2, 500, 4000),
   (12, 2, 1, 65535), (14, 1, 1, 60), (16, 2, 16, 1024), (18, 2, 16, 1024), (15, 1, 0, 0), (20, 4, 0, 0)]

/-- 11_power.md R361: the shed levels keep their order and hysteresis. -/
def levelsOk (w1 w2 pf hyst : Nat) : Bool :=
  decide (w2 + hyst ≤ w1 ∧ pf + hyst ≤ w2 ∧ 10 ≤ hyst ∧ hyst ≤ 200)

/-- 13_thermal_sled.md R403: the limits of a group are in order. -/
def thermLimitsOk (group warn crit shut rise : Nat) : Bool :=
  decide (warn < crit ∧ crit < shut ∧ 5 ≤ rise) && (group != 0 || decide (shut ≤ 125))

/-- R488: a block entry of LD_ALLOC sets no bit that must be 0. -/
def blockWordOk (w : Nat) : Bool :=
  let kind := w / 2 ^ 30
  w / 2 ^ 16 % 8 == 0 && (kind == 1 || w % 2 ^ 30 == 0) && (kind != 1 || decide (w / 2 ^ 19 % 16 < 8 ∨ w / 2 ^ 19 % 16 = 15))

/-- R488: a region entry of DC_REGIONS sets no bit that must be 0; KEY_SLOT is 0 but for a sharable region. -/
def regionEntryOk (b : List Byte) : Bool :=
  decide (leAt b 4 1 < 4) && leAt b 6 2 == 0 && (leAt b 5 1 == 0 || bitOf (leAt b 4 1) 1)

/-- R488: a share entry of DC_SHARE sets no bit that must be 0. -/
def shareEntryOk (b : List Byte) : Bool :=
  decide (leAt b 2 1 < 128 ∨ leAt b 0 2 = 0xFFFF) && decide (leAt b 3 1 < 8 ∨ leAt b 0 2 = 0xFFFF) && leAt b 6 2 == 0

/-- R488: the value of a parameter keeps its must-be-0 bits and its ranges. -/
def paramValueOk (id : Nat) (v : List Byte) : Bool :=
  let w := leNat v
  let el := id % 256
  match id / 256 with
  | 0x01 => w / 8 % 32 == 0
  | 0x02 => w % 256 == 0 && decide (w < 2 ^ 12)
  | 0x04 => holdParamRanges.all (fun r => decide (r.2.2.1 ≤ leAt v r.1 r.2.1 ∧ leAt v r.1 r.2.1 ≤ r.2.2.2))
  | 0x05 => levelsOk (leAt v 2 2) (leAt v 0 2) (leAt v 6 2) (leAt v 4 2)
  | 0x06 => decide (w < 8)
  | 0x08 => thermLimitsOk el (leAt v 3 1) (leAt v 2 1) (leAt v 1 1) (leAt v 0 1)
  | 0x09 => fanRecordOk v
  | 0x0A | 0x0B => decide (w < 16)
  | 0x0C => decide (w < 2)
  | 0x0D => decide (w < 2 ^ 9)
  | 0x10 => decide (500 ≤ leAt v 0 4 ∧ leAt v 0 4 ≤ 1000000 ∧ leAt v 8 2 < 2 ^ 10 ∧ leAt v 10 1 < 3 ∧ leAt v 11 1 = 0
      ∧ leAt v 12 5 < 2 ^ 36 ∧ leAt v 17 1 < 2 ∧ leAt v 18 2 = 0)
  | 0x11 => (schedBad? (schedOf v) (profileOf v)).isNone
  | 0x12 => decide (w < 4)
  | 0x13 => decide (w < 2 ^ 21)
  | 0x14 => decide (100 ≤ leAt v 0 2 ∧ leAt v 0 2 ≤ 1000 ∧ 10 ≤ leAt v 2 2 ∧ leAt v 2 2 ≤ 1000)
  | 0x15 => !(bitOf w 7) && decide (w < 2 ^ 16)
  | 0x16 => decide (w ≤ 16)
  | 0x17 => (List.range 256).all (fun k => blockWordOk (leAt v (4 * k) 4))
  | 0x18 => (List.range 8).all (fun r => regionEntryOk (v.drop (8 * r)))
  | 0x19 => (List.range 128).all (fun k => shareEntryOk (v.drop (8 * k)))
  | _ => true

/-- R486, R488, R489, R495: PARAM_WRITE; `buf` is the value. -/
def State.paramWriteEff (s : State) (pc : PortCmd) (id len bufAddr : Nat) (buf : List Byte) : State :=
  s.porterRun pc 0x0B01 true s.md.operating (fun s =>
    match paramInfo? id with
    | none => s.fail pc .invalidField 0
    | some p =>
      let v := padTo p.size buf
      let own := p.cls == .device || p.cls == .owner || id == Param.PARAM_AUTH
      s.checkFields pc [own, len == p.size, aligned64 bufAddr] (fun s =>
        if s.psLockedOut p id then s.fail pc .notAuthorised 1
        else if !(paramValueOk id v) then s.fail pc .invalidField 2
        else
          let x := if id = Param.PARAM_AUTH then s.paramAuthOf v else v
          let (s1, done) := s.psStore id x (.porter pc.ring pc.cid)
          if done then s1.ok pc [] else s1))

/-- R489, R491: PARAM_COMMIT. -/
def State.paramCommitEff (s : State) (pc : PortCmd) : State :=
  s.porterRun pc 0x0B02 true s.md.operating (fun s =>
    if s.energyLow then s.psEnergyRefuse pc 1
    else if s.ps.pendingSet.isEmpty && s.ps.roomWait.isEmpty then s.ok pc [(16, 0)]
    else s.psRequest (.porter pc.ring pc.cid))

/-- R495: PARAM_UNLOCK; `buf` is the password. -/
def State.paramUnlockEff (s : State) (pc : PortCmd) (bufAddr : Nat) (buf : List Byte) : State :=
  s.porterRun pc 0x0B03 true s.md.inService (fun s =>
    s.checkFields pc [aligned64 bufAddr] (fun s =>
      let n := s.paramFails
      let pw := padTo 32 buf
      if !s.pwSet then s.ok pc [(8, 5)]
      else if pw.all (· == 0) then (s.modPs (fun p => { p with unlocked := false })).ok pc [(8, 5 - n)]
      else if 5 ≤ n then s.fail pc .notAuthorised 2
      else if s.paramAuthOf pw = s.psGet Param.PARAM_AUTH then
        let s1 := (s.modPs (fun p => { p with unlocked := true })).event Gb.PARAM_UNLOCK 15 []
        (if n = 0 then s1 else s1.psPutNow Param.AUTH_FAILS (failBytes s.authFails 0)).ok pc [(8, 5)]
      else
        let s1 := (s.psPut Param.AUTH_FAILS (failBytes s.authFails (n + 1))).psRequest (.authAnswer pc.ring pc.cid)
        (if n + 1 = 5 then s1.latch Reg.PS_ERR_STATUS 4 Gb.PARAM_LOCKOUT 15 [] else s1).fail pc .notAuthorised 1))

/-- R490: the pending set would make a copy enter a page. -/
def State.psEnters (s : State) : Bool :=
  (s.ps.copyA.commit (s.ps.lastSeq + 1) s.ps.pendingSet).2 || (s.ps.copyB.commit (s.ps.lastSeq + 1) s.ps.pendingSet).2

/-- R489, R490: a commit that is asked for starts when none runs; outside Hold-up one that needs a page whose erase has not
finished waits for it. Requests that find the set empty complete at once. -/
def State.psGo (s : State) : State :=
  if !s.pw.vaux || s.ps.running.isSome || s.ps.waiters.isEmpty then s
  else if s.ps.pendingSet.isEmpty then
    let l := s.ps.waiters
    (l.foldl (fun a c => a.callerDone true 0 c) (s.modPs (fun p => { p with waiters := [] }))).psRoom
  else if s.ps.eraseBusy && s.psEnters && s.md.mode != .holdup then s
  else s.psStart

/-- R489: a gathered commit starts. -/
def State.paramStoreCommitEff (s : State) : State := s.psGo

/-- R300: stale maps whose bits the commit made durable, and the commits that wait for them. -/
def State.staleCommitted (s : State) (els : List (Nat × List Byte)) : State :=
  let l := els.filterMap (fun e =>
    if e.1 / 256 = Param.CAR_STALE / 256 then some (e.1 % 256, (List.range 4096).filter (fun g => bitOf (leAt e.2 (g / 8) 1) (g % 8))) else none)
  let s1 := l.foldl (fun a e =>
      let b := a.modPeer e.1 (fun p => { p with staleDur := e.2 })
      { b with tiles := vmap (fun x => { x with xl := { x.xl with stalePos := x.xl.stalePos.filter (fun k => k.2.1 != e.1) } }) b.tiles }) s
  if l.isEmpty then s1 else s1.aliveTiles.foldl (fun a t => a.caravanProgressAll t) s1

/-- R494: a copy leaves the page a program or an erase failed in. -/
def PsCopy.skipPage (c : PsCopy) : PsCopy := { c with page := (c.page + 1) % 256, used := 32, gen := c.gen + 1 }

/-- R494: change copy 0 (A) or 1 (B). -/
def State.modCopy (s : State) (k : Nat) (f : PsCopy → PsCopy) : State :=
  s.modPs (fun p => if k = 0 then { p with copyA := f p.copyA } else { p with copyB := f p.copyB })

/-- R494: GB_PARAM_FLASH: the item "erase or program" is 0 for an erase and 1 for a program. -/
def State.flashFail (s : State) (k : Nat) (program : Bool) : State :=
  s.latch Reg.PS_ERR_STATUS 2 Gb.PARAM_FLASH 15 [k, (if k = 0 then s.ps.copyA else s.ps.copyB).page, b2n program]

/-- R489, R494: the running commit ends with the marker of copy B, or a program failed in copy `failCopy`: the commit is
retried once in the next page; when that fails as well its callers get MEDIA_ERROR and the values stay pending, newer ones
above them. -/
def State.paramStoreCommitDoneEff (s : State) (failCopy : Option Nat) : State :=
  match s.ps.running with
  | none => s
  | some c =>
    match failCopy with
    | some k =>
      let s1 := (s.flashFail k true).modCopy k PsCopy.skipPage
      if !c.retried then s1.modPs (fun p => { p with running := some { c with retried := true } })
      else
        let new := s1.ps.pendingSet
        let s2 := if k = 0 then s1 else s1.modCopy 0 (fun x => (x.commit c.seq c.els).1)
        let s3 := s2.modPs (fun p => { p with running := none, pendingSet := c.els })
        let s4 := new.foldl (fun a e => a.psPut e.1 e.2) s3
        c.callers.foldl (fun a x => a.callerDone false 0 x) s4
    | none =>
      let s1 := s.psApply.staleCommitted c.els
      (c.callers.foldl (fun a x => a.callerDone true c.els.length x) s1).psRoom.settle

/-- R490, R494: the erase of the page ahead ends, or fails in copy `failCopy`, and a commit that waits proceeds. A page whose
erase failed is left by the program that then fails in it. -/
def State.flashEraseDoneEff (s : State) (failCopy : Option Nat) : State :=
  let s1 := s.modPs (fun p => { p with eraseBusy := false })
  (match failCopy with
    | some k => if s.ps.eraseBusy then s1.flashFail k false else s1
    | none => s1).psGo

/-! ### The commands of this family -/

/-- GB_READ (R482): Command that reads Guestbook records from a cursor. -/
def execGbRead (pc : PortCmd) (area : Bool) (count cursor bufAddr : Nat)
    (s : State) : Host.Outcome State Fault Refusal :=
  s.run (fun x => x.gbReadEff pc area count cursor bufAddr)

/-- GB_CLEAR (R483): Command that makes an area's records unreadable. -/
def execGbClear (pc : PortCmd) (area : Bool) (bufAddr : Nat) (buf : List Byte)
    (s : State) : Host.Outcome State Fault Refusal :=
  s.run (fun x => x.gbClearEff pc area bufAddr buf)

/-- PARAM_READ (R486): Command that reads a Parameter Store element. -/
def execParamRead (pc : PortCmd) (id offset len bufAddr : Nat)
    (s : State) : Host.Outcome State Fault Refusal :=
  s.run (fun x => x.paramReadEff pc id offset len bufAddr)

/-- PARAM_WRITE (R486): Command that writes a Parameter Store element into the pending set. -/
def execParamWrite (pc : PortCmd) (id len bufAddr : Nat) (buf : List Byte)
    (s : State) : Host.Outcome State Fault Refusal :=
  s.run (fun x => x.paramWriteEff pc id len bufAddr buf)

/-- PARAM_COMMIT (R489): Command that commits the pending set. -/
def execParamCommit (pc : PortCmd) (s : State) : Host.Outcome State Fault Refusal :=
  s.run (fun x => x.paramCommitEff pc)

/-- PARAM_UNLOCK (R495): Command that unlocks the store with the password. -/
def execParamUnlock (pc : PortCmd) (bufAddr : Nat) (buf : List Byte)
    (s : State) : Host.Outcome State Fault Refusal :=
  s.run (fun x => x.paramUnlockEff pc bufAddr buf)

/-- PERF_CONFIG (R508): Command that configures a performance counter. -/
def execPerfConfig (pc : PortCmd) (tile counter event mode : Nat) (chain user enable : Bool)
    (s : State) : Host.Outcome State Fault Refusal :=
  s.run (fun x => x.perfConfigEff pc tile counter event mode chain user enable)

/-- PERF_SNAPSHOT (R509): Command that captures all counters of tiles. -/
def execPerfSnapshot (pc : PortCmd) (tileMask bufAddr : Nat) (s : State) : Host.Outcome State Fault Refusal :=
  s.run (fun x => x.perfSnapshotEff pc tileMask bufAddr)

/-- GUESTBOOK_FLASH_WRITE (R479): A group of up to eight records is written to boot flash. -/
def execGuestbookFlashWrite (fail : Bool) (s : State) : Host.Outcome State Fault Refusal :=
  s.run (fun x => x.guestbookFlashWriteEff fail)

/-- GUESTBOOK_WRITE_TIMER (R479): 100 ms pass since the oldest waiting record and a write starts. -/
def execGuestbookWriteTimer (fail : Bool) (s : State) : Host.Outcome State Fault Refusal :=
  s.run (fun x => x.guestbookWriteTimerEff fail)

/-- RATE_TOKEN_REFILL (R478): A code's bucket gains one token every REFILL seconds. -/
def execRateTokenRefill (code sec : Nat) (s : State) : Host.Outcome State Fault Refusal :=
  s.run (fun x => x.rateTokenRefillEff code sec)

/-- OPERATING_TIME_TICK (R476): Operating time counts one whole second while VAUX is present. -/
def execOperatingTimeTick (s : State) : Host.Outcome State Fault Refusal :=
  s.run (fun x => x.operatingTimeTickEff)

/-- AGE_CLOCK_HOURLY (R481): Every hour of operating time a GB_AGE_CLOCK record is written. -/
def execAgeClockHourly (s : State) : Host.Outcome State Fault Refusal :=
  s.run (fun x => x.ageClockHourlyEff)

/-- GB_WINDOW_LOADED (R482): The window load ends and READY is set. -/
def execGbWindowLoaded (s : State) : Host.Outcome State Fault Refusal :=
  s.run (fun x => x.gbWindowLoadedEff)

/-- PARAM_STORE_COMMIT (R489): A gathered commit programs the pending set into copy A then copy B. -/
def execParamStoreCommit (s : State) : Host.Outcome State Fault Refusal :=
  s.run (fun x => x.paramStoreCommitEff)

/-- PARAM_STORE_COMMIT_DONE (R489): The marker of copy B is programmed and the commit's callers complete. -/
def execParamStoreCommitDone (failCopy : Option Nat) (s : State) : Host.Outcome State Fault Refusal :=
  s.run (fun x => x.paramStoreCommitDoneEff failCopy)

/-- FLASH_ERASE_DONE (R490): A boot-flash sector or page erase finishes and a waiting commit proceeds. -/
def execFlashEraseDone (failCopy : Option Nat) (s : State) : Host.Outcome State Fault Refusal :=
  s.run (fun x => x.flashEraseDoneEff failCopy)

/-- PERF_WINDOW_PERIOD_EXPIRE (R507): A FIXED window's period expires; it closes, loads counts and reopens. -/
def execPerfWindowPeriodExpire (window ms : Nat) (s : State) : Host.Outcome State Fault Refusal :=
  s.run (fun x => x.perfWindowPeriodExpireEff window ms)

/-- SAMPLER_READ (R503): The firmware sampler reads its counters once per second. -/
def execSamplerRead (s : State) : Host.Outcome State Fault Refusal :=
  s.run (fun x => x.samplerReadEff)

end Sys2Proof.Machine
end

