-- ==== Sys2Proof/Machine/Rings.lean ====
section
/-! DEFINITION. Machine/Rings.lean: Porter's rings, fetches, command starts, completions and interrupts, and its own commands
(14_command_rings.md R405 to R428; outbound time-outs of 03_transactions.md R96). -/

namespace Sys2Proof.Machine

open Sys2Proof

/-! ### The opcode table (R426) -/

/-- A row of the opcode table of R426 with the widths of its parameters in table order (R414). -/
structure PortOp where
  /-- code. -/
  code : Nat
  /-- it requires a privileged ring. -/
  priv : Bool
  /-- modes: 0 ring modes, 1 operating, 2 Serve, Degraded and Service, 3 Service, 4 judged by the command. -/
  modes : Nat
  /-- widths of its parameters. -/
  widths : List Nat
  /-- it reads a host buffer. -/
  reads : Bool := false
  deriving DecidableEq, Repr

/-- R426, R427, R334, R162, R244: opcodes 0x0000 to 0x02FF. -/
def portOpsA : List PortOp :=
  [⟨0x0000, false, 0, [], false⟩, ⟨0x0001, false, 0, [64], false⟩, ⟨0x0002, false, 0, [], false⟩, ⟨0x0003, true, 4, [2], false⟩,
   ⟨0x0004, false, 0, [], false⟩,
   ⟨0x0100, false, 1, [], false⟩, ⟨0x0101, false, 1, [16, 1, 64, 64], false⟩, ⟨0x0102, true, 2, [16, 1, 64, 64], false⟩,
   ⟨0x0103, true, 2, [], false⟩, ⟨0x0104, true, 2, [], false⟩, ⟨0x0105, true, 3, [2, 1], false⟩, ⟨0x0106, true, 1, [8, 21, 1], false⟩,
   ⟨0x0200, false, 2, [16, 1, 64, 64], false⟩, ⟨0x0201, true, 3, [16, 1, 64, 64], false⟩, ⟨0x0202, false, 0, [3, 64], false⟩,
   ⟨0x0203, true, 3, [3, 3, 26], false⟩, ⟨0x0204, true, 1, [16, 16, 1], false⟩, ⟨0x0205, true, 2, [8], false⟩]

/-- R426, R283, R129 to R131, R309, R361: opcodes 0x0300 to 0x07FF. -/
def portOpsB : List PortOp :=
  [⟨0x0300, true, 1, [8, 1, 1, 3, 7, 4, 1], false⟩, ⟨0x0301, true, 3, [3, 3, 3, 26, 7, 20, 29, 8, 1], false⟩,
   ⟨0x0302, false, 0, [3, 64, 1], false⟩, ⟨0x0400, true, 3, [5, 1], false⟩, ⟨0x0401, true, 2, [2], false⟩,
   ⟨0x0500, true, 0, [2, 20, 16, 16, 10, 36, 1, 1], false⟩, ⟨0x0501, true, 1, [8, 64, 36, 1, 1], true⟩, ⟨0x0502, false, 0, [3], false⟩,
   ⟨0x0600, true, 3, [12, 1, 5, 5, 1, 16, 16, 8, 16, 64], true⟩, ⟨0x0601, true, 3, [1], false⟩, ⟨0x0602, false, 0, [], false⟩,
   ⟨0x0603, true, 2, [2, 5], false⟩, ⟨0x0700, true, 1, [], false⟩, ⟨0x0701, true, 1, [16, 16, 16, 16, 1], false⟩,
   ⟨0x0702, true, 0, [1], false⟩]

/-- R426, R403, R427: opcodes 0x0800 to 0x0CFF. -/
def portOpsC : List PortOp :=
  [⟨0x0800, false, 0, [8, 3, 8], false⟩, ⟨0x0801, true, 1, [2, 8, 8, 8, 8, 1], false⟩, ⟨0x0802, true, 1, [2, 64, 1], true⟩,
   ⟨0x0900, true, 1, [32, 32, 64, 1], true⟩, ⟨0x0901, true, 3, [], false⟩, ⟨0x0902, false, 0, [64, 32, 256], false⟩,
   ⟨0x0903, true, 3, [4, 64], true⟩, ⟨0x0904, true, 3, [8, 64], true⟩,
   ⟨0x0A00, false, 0, [1, 16, 32, 64], false⟩, ⟨0x0A01, true, 3, [1, 64], true⟩,
   ⟨0x0B00, true, 0, [16, 16, 16, 64], false⟩, ⟨0x0B01, true, 1, [16, 16, 64], true⟩, ⟨0x0B02, true, 1, [], false⟩,
   ⟨0x0B03, true, 3, [64], true⟩, ⟨0x0C00, true, 0, [3, 6, 16, 2, 1, 1, 1], false⟩, ⟨0x0C01, false, 0, [8, 64], false⟩]

/-- R426: the row of an opcode. -/
def portOp? (code : Nat) : Option PortOp := (portOpsA ++ portOpsB ++ portOpsC).find? (fun o => o.code == code)

/-- R426: the mode is among the command's. -/
def ModeState.allows (m : ModeState) : Nat → Bool
  | 0 => m.ringOrOperating
  | 1 => m.operating
  | 2 => m.sdService
  | 3 => m.inService
  | _ => true

/-- R414: bits of PARAMS that the parameters use. -/
def paramMask (widths : List Nat) : Nat := packAt 0 (widths.map (fun w => (w, 2 ^ w - 1)))

/-! ### Fetches (R412, R420) -/

/-- R412: descriptors placed and not yet fetched. -/
def State.sqWaiting (s : State) (r : Nat) : Nat :=
  let g := s.ring r
  (g.sqTail + s.sqSize r - g.sqHead) % s.sqSize r

/-- R412, R407: Porter starts a fetch of up to 8 consecutive descriptors: a read by the owning head. -/
def State.fetchStart (s : State) (r : Nat) : State :=
  let g := s.ring r
  let n := min (min 8 (s.sqWaiting r)) (min (min (s.cqFree r) (16 - g.inflight)) (s.sqSize r - g.sqHead))
  let d := s.head g.head
  if g.state == .running && s.md.ringsRun && !s.isEvtRing r && d.up && d.busMaster && decide (0 < n)
      && !(d.outbound.any (fun o => o.ring == r && o.cid.isNone)) then
    (s.emit (.hostRead g.head (s.sqBase r + 64 * g.sqHead) (64 * n))).modHead g.head
      (fun d => { d with outbound := d.outbound ++ [{ ring := r, cid := none, count := n }] })
  else s

/-- R420, R429: a ring enters ERROR: RING_FAULT and CAUSE, and GB_PORTER_RING_FAULT. Completions of its executing commands are
discarded; what was fetched and not started never starts, and gets no completion (notes/assumptions/151.md). -/
def State.ringError (s : State) (r cause : Nat) : State :=
  let s1 := s.modRing r (fun g =>
    { g with state := .error, fetched := [], execs := g.execs.map (fun e => { e with discard := true }) })
  (s1.setFld (Reg.RING_ERR r) 7 4 cause).latch (Reg.RING_ERR r) 0 Gb.PORTER_RING_FAULT 15 [r, cause, (s.ring r).head]

/-- R411: a write of DB_SQ_TAIL. -/
def State.dbSqTail (s : State) (r v : Nat) : State :=
  if (s.ring r).state != .running || s.isEvtRing r then s
  else if s.sqSize r ≤ v then s.ringError r 1
  else (s.modRing r (fun g => { g with sqTail := v })).fetchStart r

/-- R411: a write of DB_CQ_HEAD. -/
def State.dbCqHead (s : State) (r v : Nat) : State :=
  let g := s.ring r
  let n := s.cqSize r
  if g.state != .running then s
  else if n ≤ v then s.ringError r 2
  else if (g.cqTail + n - g.cqHead) % n < (v + n - g.cqHead) % n then s.ringError r 3
  else (s.modRing r (fun g => { g with cqHead := v })).fetchStart r

/-- R410, R407: ENABLE = 1 is written through a head. A ring that is RUNNING, or in ERROR, is not enabled anew. -/
def State.ringEnable (s : State) (r h : Nat) : State :=
  if (s.ring r).state == .disabled then
    let s1 := s.modRing r (fun g =>
      { ({} : Ring) with state := .running, head := h, execs := g.execs.map (fun e => { e with discard := true }) })
    (s1.present.foldl (fun a t => a.modHead t (fun d => { d with outbound := d.outbound.filter (fun o => o.ring != r) })) s1).setFld
      (Reg.RING_EVT r) 31 16 0
  else s

/-- R410, R420: ENABLE = 0 is written: descriptors fetched and not started complete with ABORTED, DETAIL 0x06. -/
def State.ringDisable (s : State) (r : Nat) : State :=
  let g := s.ring r
  if g.state == .running || g.state == .error then
    let s1 := s.modRing r (fun g => { g with state := .disabling, fetched := [] })
    g.fetched.foldl
      (fun a d => a.putCompletion r { cid := d.cid, opcode := d.opcode, imm := d.flags % 2 == 1 } { status := Status.aborted.code, detail := 6 }) s1
  else s

/-- R410: a DISABLING ring with nothing in flight becomes DISABLED. -/
def State.ringDisabledEff (s : State) (ring : Nat) : State :=
  if (s.ring ring).state == .disabling && (s.ring ring).inflight == 0 then s.modRing ring (fun g => { g with state := .disabled }) else s

/-- R412, R420: the data of a fetch arrives and SQ_HEAD advances, or the fetch fails and the ring enters ERROR. -/
def State.descriptorFetchDoneEff (s : State) (ring : Nat) (descs : List DescWord) (fail : Bool) : State :=
  let h := (s.ring ring).head
  match (s.head h).outbound.find? (fun o => o.ring == ring && o.cid.isNone) with
  | none => s
  | some o =>
    let s1 := s.modHead h (fun d => { d with outbound := d.outbound.erase o })
    if (s.ring ring).state != .running || !s.md.ringsRun then s1
    else if fail then s1.ringError ring 4
    else
      let l := (descs.take o.count).map (fun d => ({ opcode := d.opcode, cid := d.cid, flags := d.flags, rsv := d.rsv, params := d.params } : Desc))
      (s1.modRing ring (fun g => { g with sqHead := (g.sqHead + l.length) % s.sqSize ring, fetched := g.fetched ++ l })).fetchStart ring

/-! ### Commands (R415 to R420) -/

/-- R418: commands of a ring that execute and have no completion yet. -/
def Ring.running (g : Ring) : List Exec := g.execs.filter (fun e => !e.late && !e.discard)

/-- R417, R418: the first fetched descriptor of a ring can start. -/
def State.canStartCmd (s : State) (r : Nat) : Bool :=
  let g := s.ring r
  match g.fetched with
  | [] => false
  | d :: _ =>
    g.state == .running && decide (g.running.length < 16) && !(g.running.any (·.fence)) && (!(bitOf d.flags 1) || g.running.isEmpty)

/-- R418: commands that execute across the package. -/
def State.executing (s : State) : Nat := total (s.porter.rings.toList.map (fun g => g.execs.length))

/-- R409: the descriptor carries a privileged parameter value: PKG = 1 of the range commands (R162), CLEAR = 1 of GET_ERROR_STATS. -/
def privParam (d : Desc) : Bool :=
  ([0x0101, 0x0102, 0x0200, 0x0201].contains d.opcode && d.params.getLsbD 16) || (d.opcode == 0x0302 && d.params.getLsbD 96)

/-- R417: the checks of a descriptor that need no more than the opcode table and its own bits; none when they pass. -/
def State.descCheck (s : State) (r : Nat) (d : Desc) : Option CmdResult :=
  match portOp? d.opcode with
  | none => some { status := Status.invalidOpcode.code }
  | some o =>
    if (o.priv || privParam d) && !s.ringPriv r then some { status := Status.notPrivileged.code }
    else if !(s.md.allows o.modes) || (s.sec.romOnly && !romOps.contains d.opcode) then
      some { status := Status.wrongMode.code, detail := s.md.mode.code }
    else if d.flags / 4 != 0 || d.rsv != 0 || Nat.lor d.params.toNat (paramMask o.widths) != paramMask o.widths then
      some { status := Status.invalidField.code, detail := 0xFF }
    else none

/-- R417, R418: the next command starts, round-robin over the rings. What its own table checks is checked by the command's
own row. -/
def State.commandStartEff (s : State) : State :=
  let order := (List.range 64).map (fun i => (s.porter.lastServed + 1 + i) % 64)
  if !s.md.ringsRun || decide (256 ≤ s.executing) then s
  else match order.find? s.canStartCmd with
    | none => s
    | some r =>
      match (s.ring r).fetched with
      | [] => s
      | d :: l =>
        let e : Exec := { cid := d.cid, opcode := d.opcode, imm := bitOf d.flags 0, fence := bitOf d.flags 1, params := d.params, result := s.descCheck r d }
        let s1 := s.modRing r (fun g => { g with fetched := l, execs := g.execs ++ [e] })
        { s1 with porter := { s1.porter with lastServed := r } }

/-- Remove the first command of a CID that has ended. -/
def dropEnded (c : Nat) : List Exec → List Exec
  | [] => []
  | e :: l => if e.cid = c ∧ e.result.isSome then l else e :: dropEnded c l

/-- R415, R419: a command that has ended gets its completion entry, unless TIMEOUT was written for it. -/
def State.commandCompleteEff (s : State) (pc : PortCmd) : State :=
  match (s.ring pc.ring).execs.find? (fun e => e.cid == pc.cid && e.result.isSome) with
  | none => s
  | some e =>
    if s.awaitsAny pc then s
    else
      let c := e.result.getD { status := 0 }
      let s1 := s.modRing pc.ring (fun g => { g with execs := dropEnded pc.cid g.execs })
      let s2 := if e.late then s1.noteLate pc.ring e c.status else s1.putCompletion pc.ring e c
      s2.fetchStart pc.ring

/-- R426, R334: bounds in µs, by opcode, but for counted work and commits. SET_MODE, POWER_OFF_REQUEST and FW_ACTIVATE stand apart. -/
def portBounds : List (Nat × Nat) :=
  [(0x0000, 10), (0x0001, 100), (0x0002, 10), (0x0004, 10), (0x0100, 10000), (0x0101, 10000), (0x0102, 10000), (0x0103, 10000),
   (0x0104, 1000), (0x0105, 1000), (0x0106, 10), (0x0200, 10000), (0x0201, 10000), (0x0202, 100), (0x0203, 100000), (0x0204, 10),
   (0x0205, 5000000), (0x0300, 10), (0x0301, 1000), (0x0302, 100), (0x0400, 1000000), (0x0401, 1000), (0x0500, 1000), (0x0501, 1000),
   (0x0502, 10), (0x0600, 1500000), (0x0601, 1000000), (0x0602, 10), (0x0603, 1000), (0x0700, 1000), (0x0701, 10), (0x0800, 2000),
   (0x0801, 10), (0x0802, 1000), (0x0900, 100000), (0x0902, 50000), (0x0903, 1000000), (0x0904, 100000), (0x0A00, 1000),
   (0x0A01, 500000), (0x0B00, 1000), (0x0B01, 1000), (0x0B02, 500000), (0x0B03, 10000), (0x0C00, 10), (0x0C01, 100)]

/-- R426: what the work of a command adds to its bound in µs, as far as it has come: frames committed, frames or segments of its range, frames
drained, MiB staged, records read, HOLD_TMAX. -/
def State.boundWork (s : State) (r : Nat) (e : Exec) : Nat :=
  let job := s.jobs.ranges.find? (fun j => j.ring == r && j.cid == e.cid && decide (j.kind < 4))
  let p := e.params.toNat
  match e.opcode with
  | 0x0100 | 0x0101 => (job.map (·.a)).getD 0
  | 0x0102 => 4 * (job.map (·.size)).getD 0
  | 0x0103 => if s.jobs.fsDisable = some (r, e.cid) then total (s.aliveTiles.map (fun t => (s.tile t).fs.drained)) else 0
  | 0x0104 => if s.jobs.fsEnable = some (r, e.cid) then 49000 else 0
  | 0x0200 | 0x0201 => (job.map (·.size)).getD 0
  | 0x0301 => if p / 8 % 8 = 1 then 99000 else 0
  | 0x0700 => s.holdParam 10 2
  | 0x0900 => p / 2 ^ 32 % 2 ^ 32 * 1000 / 2 ^ 20 + 50000 * (p / 2 ^ 128 % 2)
  | 0x0A00 => p / 2 % 2 ^ 16
  | _ => 0

/-- R419, R426: the execution bound of a command in µs. A command that waits for a commit has the commit bound, 500 ms, in place of its own, and
ATTEST_QUOTE on top of it; while shed stage 2 holds the commit no time counts (17_guestbook_parameter_store.md R491). SET_MODE has 1 ms, and with
SERVICE the longest TIMEOUT_MS besides; POWER_OFF_REQUEST and FW_ACTIVATE end by other events. -/
def State.execBound (s : State) (r : Nat) (e : Exec) : Option Nat :=
  if s.ps.held.any (fun c => c == .porter r e.cid || c == .authAnswer r e.cid || c == .restart r e.cid) then none
  else if e.opcode = 0x0003 then
    some (1000 + if s.md.drain = some (r, e.cid) then 1000 * greatest (s.present.map s.timeoutMs) else 0)
  else (aget e.opcode portBounds).map (fun b =>
    if s.awaitsAny { ring := r, cid := e.cid } then (if e.opcode = 0x0902 then b + 500000 else max b 500000) else b + s.boundWork r e)

/-- R419: the execution bound of a command that started `us` ago expires before its completion entry is written. -/
def State.commandBoundExpireEff (s : State) (pc : PortCmd) (us : Nat) : State :=
  match (s.ring pc.ring).execs.find? (fun e => e.cid == pc.cid && !e.late && !e.discard && (e.result.isNone || s.awaitsAny pc)
      && ((s.execBound pc.ring e).map (fun b => decide (b ≤ us))).getD false) with
  | none => s
  | some e =>
    let s1 := s.putCompletion pc.ring e { status := Status.timeout.code, detail := 1, results := s.progress pc.ring pc.cid }
    (s1.modRing pc.ring (fun g => { g with execs := g.execs.map (fun x => if x = e then { x with late := true } else x) })).fetchStart pc.ring

/-- R420: a command's own read of its buffer fails: on Completion Timeout it ends with TIMEOUT, DETAIL 0x02, otherwise with
ABORTED, DETAIL 0x05. The row stands in place of the command's own. -/
def State.bufferReadFailEff (s : State) (pc : PortCmd) (timeout : Bool) : State :=
  match (s.ring pc.ring).execs.find? (fun e => e.cid == pc.cid && e.result.isNone) with
  | none => s
  | some e =>
    if ((portOp? e.opcode).map (·.reads)).getD false && !s.awaitsAny pc then
      if timeout then s.fail pc .timeout 2 else s.fail pc .aborted 5
    else s

/-- R424: `us` have passed since the first completion counted; after COAL_TIME the interrupt is sent. -/
def State.coalTimeExpireEff (s : State) (ring us : Nat) : State :=
  if 0 < (s.ring ring).coalCount ∧ (s.ring ring).coalTime ≤ us then s.ringMsix ring else s

/-- R96: the completion timer of a request that a head sent, `us` ago, expires at the limit that Device Control 2 selects: a descriptor fetch (no
CID) or a command's buffer read. -/
def State.outboundCompletionTimeoutEff (s : State) (ring : Nat) (cid : Option Nat) (us : Nat) : State :=
  if us < (s.head (s.ring ring).head).ctoUs then s
  else match cid with
  | none => s.descriptorFetchDoneEff ring [] true
  | some c => s.bufferReadFailEff { ring := ring, cid := c } true

/-! ### NOP, IDENTIFY_EXT, GET_HEALTH (R427, R428) -/

/-- R427: NOP. -/
def State.nopEff (s : State) (pc : PortCmd) : State := s.porterRun pc 0x0000 false s.md.ringOrOperating (fun s => s.ok pc [])

/-- R428: the 32 words of the report. -/
def State.identifyWords (s : State) : List Nat :=
  let run := s.fwSlot s.sec.runSlot
  let staged := (s.fwSlot (1 - s.sec.runSlot)).verdict == 1
  let bonded := maskOf 4 (fun p => (s.head (2 * p + 1)).upper)
  let ser := s.pop.serial.toNat
  [s.kryIdent.toNat, s.pop.krev.toNat, (2 ^ s.pop.tiles - 1) + 256 * bonded,
   s.pop.ranks + 256 * b2n s.pop.density24 + 2 ^ 16 * s.jobs.ways, framesOf s.pop, s.pkgBlocks, s.cup.regions, s.md.primary,
   run.img.version, s.fwOther, s.sec.runSlot % 2 + 2 * b2n staged, run.img.svn, s.sec.lc, 0, 0, 0,
   ser % 2 ^ 32, ser / 2 ^ 32 % 2 ^ 32, ser / 2 ^ 64 % 2 ^ 32, ser / 2 ^ 96] ++ List.replicate 12 0

/-- R428: IDENTIFY_EXT. -/
def State.identifyExtEff (s : State) (pc : PortCmd) (bufAddr : Nat) : State :=
  s.porterRun pc 0x0001 false s.md.ringOrOperating (fun s =>
    s.checkFields pc [aligned64 bufAddr] (fun s => (s.emit (.hostWrite (s.ring pc.ring).head bufAddr (wordBytes s.identifyWords))).ok pc []))

/-- 13_thermal_sled.md THM_STATUS HOTTEST: the highest on-die diode reading of the package in 1/8 °C. -/
def State.hottest (s : State) : Int :=
  let l := (s.present.map (fun t => (List.range 4).filterMap (fun k =>
    match aget (64 * t + k) s.thm.sensors with
    | some x => if x.fault then none else some x.value
    | none => none))).flatten
  match l with
  | [] => 0
  | x :: l => l.foldl max x

/-- 11_power.md HOLD_LIMIT STATE. -/
def State.limitState (s : State) : Nat := s.pw.measured

/-- 09_caravan.md CAR_PEER_ABSENT: members that are not ACTIVE. -/
def State.peersAbsent (s : State) : Nat :=
  if s.car.inGroup then maskOf 20 (fun i => s.car.peers.any (fun p => p.idx == i && decide (i < s.car.n) && p.st != .active && i != s.car.self)) else 0

/-- R427: GET_HEALTH. -/
def State.getHealthEff (s : State) (pc : PortCmd) : State :=
  s.porterRun pc 0x0004 false s.md.ringOrOperating (fun s =>
    s.ok pc [(3, s.md.mode.code), (3, s.pw.stage), (3, greatest (s.present.map (fun t => (s.tile t).xl.spareLevel))), (2, s.limitState),
      (1, b2n s.md.dirtyShutdown), (12, s.md.causes), (8, s.md.failed), (12, (BitVec.ofInt 12 s.hottest).toNat),
      (32, total (s.aliveTiles.map s.lostOn)), (20, s.peersAbsent)])

/-! ### The commands of this family -/

/-- OUTBOUND_COMPLETION_TIMEOUT (R96): A Cazar-issued non-posted request's completion timer expires. -/
def execOutboundCompletionTimeout (ring : Nat) (cid : Option Nat) (us : Nat)
    (s : State) : Host.Outcome State Fault Refusal :=
  s.run (fun x => x.outboundCompletionTimeoutEff ring cid us)

/-- RING_DISABLED (R410): A DISABLING ring has no command left in flight and becomes DISABLED. -/
def execRingDisabled (ring : Nat) (s : State) : Host.Outcome State Fault Refusal :=
  s.run (fun x => x.ringDisabledEff ring)

/-- DESCRIPTOR_FETCH_DONE (R412): Fetched descriptor data arrives and SQ_HEAD advances, or the fetch fails into
ERROR. -/
def execDescriptorFetchDone (ring : Nat) (descs : List DescWord) (fail : Bool)
    (s : State) : Host.Outcome State Fault Refusal :=
  s.run (fun x => x.descriptorFetchDoneEff ring descs fail)

/-- COMMAND_START (R417): A fetched command starts, is checked and begins execution. -/
def execCommandStart (s : State) : Host.Outcome State Fault Refusal :=
  s.run (fun x => x.commandStartEff)

/-- COMMAND_COMPLETE (R415): A command ends and its completion entry is written. -/
def execCommandComplete (pc : PortCmd) (s : State) : Host.Outcome State Fault Refusal :=
  s.run (fun x => x.commandCompleteEff pc)

/-- COMMAND_BOUND_EXPIRE (R419): A command's execution bound expires and TIMEOUT is written while work continues. -/
def execCommandBoundExpire (pc : PortCmd) (us : Nat) (s : State) : Host.Outcome State Fault Refusal :=
  s.run (fun x => x.commandBoundExpireEff pc us)

/-- BUFFER_READ_FAIL (R420): A command's host buffer read fails and the command ends without applying it. -/
def execBufferReadFail (pc : PortCmd) (timeout : Bool) (s : State) : Host.Outcome State Fault Refusal :=
  s.run (fun x => x.bufferReadFailEff pc timeout)

/-- COAL_TIME_EXPIRE (R424): COAL_TIME passes since the first counted completion and the interrupt is sent. -/
def execCoalTimeExpire (ring us : Nat) (s : State) : Host.Outcome State Fault Refusal :=
  s.run (fun x => x.coalTimeExpireEff ring us)

/-- NOP (R427): Command that does nothing and completes. -/
def execNop (pc : PortCmd) (s : State) : Host.Outcome State Fault Refusal :=
  s.run (fun x => x.nopEff pc)

/-- IDENTIFY_EXT (R428): Command that writes the identity report. -/
def execIdentifyExt (pc : PortCmd) (bufAddr : Nat) (s : State) : Host.Outcome State Fault Refusal :=
  s.run (fun x => x.identifyExtEff pc bufAddr)

/-- GET_HEALTH (R427): Command that returns package health. -/
def execGetHealth (pc : PortCmd) (s : State) : Host.Outcome State Fault Refusal :=
  s.run (fun x => x.getHealthEff pc)

end Sys2Proof.Machine
end

