-- ==== Sys2Proof/Machine/Reset.lean ====
section
/-! DEFINITION. Machine/Reset.lean: what a main reset clears and what Bring-up loads from the Parameter Store
(12_clocks_resets.md R376, 10_modes.md R315, R316, 17_guestbook_parameter_store.md R487, R488, R541). -/

namespace Sys2Proof.Machine

open Sys2Proof

/-! ### Main reset (R376, R315) -/

/-- R315, R237: Translation after a reset: what the medium holds stays, the volatile map and tables are gone. -/
def Xlate.afterReset (x : Xlate) : Xlate :=
  { x with stc := [], stcFlips := [], mapFlips := [], mapState := 0, rebuildAt := none, fetched := [], rebuildMs := 0, jpos := x.jdur,
           jsent := x.jdur, jtail := [], jpages := [], jurgent := false, batches := [], gcActive := [], commits := [], metaWait := [],
           stalePos := x.stalePos.filter (fun e => decide (e.1 < x.jdur)), walks := [], compaction := 0, spareLevel := 0 }

/-- R183: media channels after a reset: pages on the medium stay; what was being programmed has no header and is ignored. -/
def Media.afterReset (m : Media) : Media :=
  { m with chans := vmap (fun c => { calBlocks := c.calBlocks, calUsed := c.calUsed, calAt := c.calAt }) m.chans, scan := [] }

/-- R376: a tile after a main reset. The AON domain of tiles 0 and 1 belongs to the always-on island and keeps its clock. -/
def Tile.afterReset (x : Tile) : Tile :=
  { clk := { onBackup := x.clk.onBackup % 2 }, head := { busMaster := x.head.busMaster }, med := x.med.afterReset, xl := x.xl.afterReset }

/-- R376, R315: every tile outside the always-on islands is reset, and with it Porter, Belfry, the windows, the tables of
the package and the registers outside the islands' blocks 0x9000, 0xB000 and 0xD000. -/
def State.mainReset (s : State) : State :=
  let s1 := (((s.dropCommandWork.resetRegs 0 0x9000).resetRegs 0xA000 0xB000).resetRegs 0xC000 0xD000).resetRegs 0xE000 0x20000
  { s1 with
    reg := { s1.reg with heldHi := [], capHi := [] }
    porter := {}, wins := Vector.replicate 16 {}, bel := { trimCode := s.pop.trimFactory }, cap := {}, cup := {}, car := {}, jobs := {}
    clk := { s1.clk with refFail := 0, refStable := 0, refBack := 0, nmi := 0 }
    thm := { s1.thm with sensors := s1.thm.sensors.filter (fun e => decide (512 ≤ e.1)), jobs := [], rearm := [],
                         converting := s1.thm.converting.filter (fun e => e.1 == 15) }
    sec := { s1.sec with romOnly := false, booted := false, staging := none, keys := [], loaded := false, withdrawn := false,
                         granted := 0, challenge := 0, challengeOk := false, reserving := false, tokens := 256, signers := [] }
    pw := { s1.pw with test := none, testDue := false, chgWait := false, holdTestPin := false, holdChgInh := false, measured := 0,
                       holdLimit := 0 }
    md := { s1.md with primary := 0, failover := false, dirtyShutdown := false, drain := none, causes := 0, failed := 0, sealed := 0,
                       step := 0, stepsDone := 0, failCause := 0, elapsedMs := 0, cleanCommitted := false,
                       serviceFail := false, prep := none, prevUnclean := false, missed := [], fenced := [], resetsReleased := false }
    tiles := vmap Tile.afterReset s1.tiles }

/-! ### Loads from the Parameter Store -/

/-- The bytes of an element as a number. -/
def State.psNat (s : State) (id : Nat) : Nat := leNat (s.psGet id)

/-- R336: settings of the sequencer slots, loaded when the island leaves reset and on every entry into Standby. -/
def State.loadSlots (s : State) : State :=
  s.modPw (fun p => { p with slots := (List.range 16).map (fun i => BitVec.ofNat 32 (s.psNat (Param.SEQ_TABLE + i))) })

/-- R361: shed levels, loaded on each entry into Standby. -/
def State.loadLevels (s : State) : State :=
  let b := s.psGet Param.SHED_LEVELS
  s.modPw (fun p => { p with levels := (BitVec.ofNat 32 (leAt b 0 4), BitVec.ofNat 32 (leAt b 4 4)) })

/-- R320: MODE_CTL from MODE_FLAGS. -/
def State.loadModeCtl (s : State) : State := s.setReg Reg.MODE_CTL (BitVec.ofNat 32 (s.psNat Param.MODE_FLAGS % 65536))

/-- 11_power.md: PWR_CTL from PWR_FLAGS, when the island leaves reset. -/
def State.loadPwrCtl (s : State) : State := s.setReg Reg.PWR_CTL (BitVec.ofNat 32 (s.psNat Param.PWR_FLAGS % 65536))

/-- R541, R467: the life-cycle state and a pending change, from LC. -/
def State.loadLc (s : State) : State :=
  let b := s.psGet Param.LC
  s.modSec (fun x => { x with lc := leAt b 0 1, lcPending := if leAt b 1 1 % 2 = 1 then some (leAt b 2 1, leAt b 3 1, leAt b 4 1) else none })

/-- TACH_EN of the fan record of a tach input, stored or by default. -/
def State.bootTachEn (s : State) (n : Nat) : Bool := bitOf (leAt (s.psGet (Param.FAN_RECORDS + n)) 0 1) 1

/-- 01_architecture.md R27 class 2: the GPIO function is the owner of a tach input named for after Bring-up: GPIO_SEL of the Parameter
Store claims it, and no stored fan record does, which would win (R28). -/
def State.bootGpio (s : State) (n : Nat) : Bool :=
  bitOf (s.psNat Param.GPIO_SEL) n && !((s.ps.raw? (Param.FAN_RECORDS + n)).isSome && s.bootTachEn n)

/-- 01_architecture.md R28: tach inputs that the GPIO function had (`was`) and has no more go back to the owner named for after Bring-up:
fan control, with the tach as its record has it. -/
def State.tachBack (s : State) (was : Nat) : State :=
  s.modThm (fun x => { x with fans := vmapI (fun n f =>
    if bitOf was n && !bitOf (s.fld Reg.THM_GPIO_CTL 3 0) n && !s.bootGpio n then { f with tachEn := s.bootTachEn n } else f) x.fans })

/-- R320, R369, R283, R448, R222, R390, R397, R35: registers that a Bring-up loads from the Parameter Store. -/
def State.loadRegs (s : State) : State :=
  let put (a : State) (off id mask : Nat) : State := a.setReg off (BitVec.ofNat 32 (a.psNat id % mask))
  let s1 := put (put (put (put s.loadModeCtl Reg.CLK_CTL Param.CLK_POLICY 8) Reg.INT_CTL Param.INT_SETTINGS 65536)
    Reg.SEC_PRIV_CTL Param.PRIV_CTL 65536) Reg.XL_WEAR_LIMITS Param.WEAR_LIMITS (2 ^ 32)
  let s2 := [Reg.THM_LIMITS_TILE, Reg.THM_LIMITS_MEDIA, Reg.THM_LIMITS_SLED].zipIdx.foldl
    (fun a e => put a e.1 (Param.THERM_LIMITS + e.2) (2 ^ 32)) s1
  let s3 := s2.setFld Reg.THM_GPIO_CTL 3 0 (maskOf 4 s2.bootGpio)
  -- R69: MLD_EN 1, MAX_WIDTH 0b11, MAX_SPEED 0b101
  s3.present.foldl (fun a h => a.setFld (Reg.HEAD_LINK_CTL h) 7 0 (0x9D + 64 * (a.psNat (Param.HOST_CLOCKING + h) % 2))) s3

/-- R395, R396: fan records, applied at each Bring-up; duty and state of the fans stay. A tach input that the GPIO function owns stays
off (R397, 01_architecture.md R27). -/
def State.loadFans (s : State) : State :=
  s.modThm (fun x => { x with fans := vmapI (fun i f =>
    let k := fanOf f (s.psGet (Param.FAN_RECORDS + i))
    if s.bootGpio i then { k with tachEn := false } else k) x.fans })

/-- R36: the upper head of a bonded pair. -/
def State.loadBonds (s : State) : State :=
  s.present.foldl (fun a h => a.modHead h (fun d => { d with upper := h % 2 == 1 && bitOf (s.psNat Param.HOST_BOND) (h / 2) })) s

/-- R167, R161: the ways and caps of the Front Store. -/
def State.loadFs (s : State) : State :=
  let w := s.psNat Param.FS_WAYS % 4
  s.present.foldl (fun a t => a.modFs t (fun f => { f with cap := s.psNat (Param.FS_CAP + t) % 2 ^ 21 }))
    (s.modJobs (fun j => { j with ways := w, waysNext := w }))

/-- R299, R300: the stale map of a peer, from CAR_STALE. -/
def staleOf (b : List Byte) : List Nat := (List.range 4096).filter (fun g => bitOf (leAt b (g / 8) 1) (g % 8))

/-- 04_belfry.md R123, R126: the schedule and profile of a tile, stored or by default. -/
def State.loadSchedule (s : State) (t : Nat) : State :=
  let e := s.psGet (Param.BELFRY_SCHED + t)
  if (schedBad? (schedOf e) (profileOf e)).isSome then s.applySched t defaultSched defaultProfile
  else s.applySched t (schedOf e) (profileOf e)

/-- R267, R297, R299, R302: Cupola's regions, the group and its stale maps. A HELLO is due to every peer that is not
REPLACED. -/
def State.loadParity (s : State) : State :=
  let c := carGroupOf (s.psGet Param.CAR_GROUP)
  let peers := c.peers.map (fun p =>
    let l := staleOf (s.psGet (Param.CAR_STALE + p.idx))
    { p with stale := l, staleDur := l, helloDue := p.st != .replaced })
  { s with cup := { regions := s.psNat Param.CUPOLA_REGIONS % 32 }, car := { c with peers := peers } }

/-- R459 rule 3: the next leaf index. -/
def State.loadAttest (s : State) : State :=
  let b := s.psGet Param.ATTEST
  let r := leAt b 0 8
  let n := leAt b 8 8
  let clean := leAt (s.psGet Param.SHUTDOWN_STATE) 0 4 % 2 == 1
  s.modSec (fun x => { x with reserved := r, next := if clean && decide (r ≤ n + 256 ∧ n < r) then n else r })

/-- R469, R495: a Bring-up from Standby sets a count of 8 to 4 and one of 5 to 3. -/
def State.relaxFails (s : State) : State :=
  let a := s.authFails
  let p := s.paramFails
  if a = 8 ∨ p = 5 then s.psPut Param.AUTH_FAILS (failBytes (if a = 8 then 4 else a) (if p = 5 then 3 else p)) else s

/-- R325, R335: HOLDUP_REPORT as loaded; a flush that fell short of stage 4 reads REACHED_4 = 0 and is recorded. -/
def State.loadReport (s : State) : State :=
  let cut (n : Nat) : State :=
    let v := s.md.report &&& 0xEFFFFFFF#32
    ((s.psPut Param.HOLDUP_REPORT (leBytes 4 v.toNat)).modMd (fun d => { d with report := v, holdStep := .none })).event Gb.HOLDUP_CUT 15 [s.md.cause, n]
  match s.md.holdStep with
  | .flush => cut 3
  | .slots => cut 4
  | .stage4 => cut 5
  | .commit => cut 7
  | .none | .railsDown => s.modMd (fun d => { d with report := BitVec.ofNat 32 (s.psNat Param.HOLDUP_REPORT), holdStep := .none })

/-- R357: the power drawn in the last Hold-up exceeded HOLD_POWER by more than 10 %. -/
def State.reportDrawn (s : State) : State :=
  let w := s.pw.drawnW
  let s1 := s.modPw (fun p => { p with drawnW := 0 })
  if 11 * s.holdParam 0 2 < 10 * w then s1.latch Reg.PWR_ERR_STATUS 6 Gb.HOLDUP_POWER_HIGH 15 [w] else s1

/-- R490, R495: the carry-forward and the erase that step H7 owed are made, and the store is locked again. -/
def ParamStore.payCarry (p : ParamStore) : ParamStore :=
  if p.carryOwed then { p.carry with carryOwed := false, unlocked := false }
  else { p with unlocked := false }

/-- R316: what a Bring-up loads from the Parameter Store. -/
def State.bringupLoad (s : State) : State :=
  (((((((((s.loadRegs.loadFans).loadBonds).loadFs).loadParity).loadAttest).loadLc).loadReport).reportDrawn).modPs
    (fun p => p.payCarry)).modMd (fun d => { d with prevUnclean := leAt (s.psGet Param.SHUTDOWN_STATE) 0 4 % 2 == 0 })

end Sys2Proof.Machine
end

