-- ==== Sys2Proof/Machine/Clocks.lean ====
section
/-! DEFINITION. Machine/Clocks.lean: clock sources, COAST, SWITCH and return, gates, tile resets and crossings
(12_clocks_resets.md R363 to R383). Sources are numbered 0 for the crystal and 1 + h for the reference clock of head h. -/

namespace Sys2Proof.Machine

open Sys2Proof

/-! ### Failure of a source (R366 to R372) -/

/-- Change the clock sources. -/
def State.modClk (s : State) (f : Clocks → Clocks) : State := { s with clk := f s.clk }

/-- R364: domains of a running tile that the crystal feeds through PLLs: PHASE, SYS, MGMT, MEDIA, GDDR, MESH. -/
def pllDomains : Nat := 0x7E

/-- R376: the tiles' clocks run: from T_R until the rails go down. -/
def State.tilesClocked (s : State) : Bool := s.pw.seq == .up

/-- R372: a switch of a domain is forced. -/
def State.forcedSwitch (s : State) (t dom : Nat) : State := s.latch (Reg.CLK_TILE_ERR_STATUS t) 1 Gb.CLK_FORCED_SWITCH t [t, dom]

/-- R364: PLLs of a tile that the source of the domains `doms` feeds: AON, SYS, MEDIA, GDDR and MESH, or that of the head. -/
def pllsOf (doms : Nat) : Nat := if bitOf doms 7 then 0x20 else 0x1F

/-- R370: AON of tiles 0 and 1 runs from the crystal itself and has no PLL to coast, so that it moves to IOSC ÷ 8 under either policy. Where
no edge of the crystal follows, CLOCK_SWITCH_FORCE forces the switch 64 IOSC cycles later. AON that runs from the IOSC stays there. -/
def State.aonMove (s : State) : State :=
  [0, 1].foldl (fun a t => a.modClkT t (fun k =>
    if bitOf k.onBackup 0 then k else { k with onBackup := setBit k.onBackup 0, edgeWait := setBit k.edgeWait 0 })) s

/-- R370, R371: the bounds of requests in flight that tile `t` serves become longer. -/
def State.lengthen (s : State) (t : Nat) (f : Req → Nat) : State :=
  { s with tiles := vmap (fun x =>
    let tr := x.txn.tracker.map (fun (r : Req) => if r.owner = t ∧ 0 < r.bound then { r with bound := f r } else r)
    { x with txn := { x.txn with tracker := tr } }) s.tiles }

/-- R371: the bound of a request in flight over a move: a MemWrPtl whose lines are still to be merged waits for GDDR7, 50 µs; a front-store
hit loses the 12 cycles of SYS, 9.6 ns; any other read those of SYS and MEDIA, 17.1 ns (notes/assumptions/147.md). -/
def moveBound (r : Req) : Nat := r.bound + (if r.kind = .ptl then 50000 else if r.cse = 1 then 9 else 17)

/-- R370: the PLLs of a tile that a failed source feeds hold their lowest output, 0.90 times the nominal one; bounds lengthen by its ratio. -/
def State.coast (s : State) (t src doms : Nat) : State :=
  let s1 := s.modClkT t (fun k => { k with coast := Nat.lor k.coast doms, pllLocked := Nat.land k.pllLocked (127 - pllsOf doms) })
  (if bitOf doms 7 then s1 else s1.lengthen t (fun r => r.bound * 10 / 9)).latch Reg.CLK_ERR_STATUS 1 Gb.CLK_COAST t [t, src]

/-- R371: the domains of a tile move to their backup paths; GDDR7 and the mesh links retrain, and a non-maskable event is
raised. -/
def State.switchOver (s : State) (t src doms : Nat) : State :=
  let phy := bitOf doms 5 && s.md.resetsReleased
  let s1 := s.modClkT t (fun k =>
    { k with pllLocked := Nat.land k.pllLocked (127 - pllsOf doms), onBackup := Nat.lor k.onBackup doms, edgeWait := Nat.lor k.edgeWait doms, gddrRetrain := k.gddrRetrain || phy, meshRetrain := if phy then 7 else k.meshRetrain })
  let s2 := (s1.modClk (fun k => { k with nmi := setBit (if src = 0 then setBit k.nmi s.md.primary else k.nmi) t }))
  let s2 := if bitOf doms 7 then s2 else s2.lengthen t moveBound
  (s2.latch Reg.CLK_ERR_STATUS 2 Gb.CLK_SWITCH t [t, src]).setCause 11 true

/-- R369: the policy of the crystal acts on every tile. -/
def State.crystalPolicy (s : State) : State :=
  if !s.tilesClocked then s
  else s.aliveTiles.foldl (fun a t => if s.regBit Reg.CLK_CTL 0 then a.switchOver t 0 pllDomains else a.coast t 0 pllDomains) s

/-- R368: the failure of a source is latched: SRC_FAIL, or PLL_UNLOCK of tile `t` for a lost lock (cause 3). Causes: 0 not stable in time, 1
no edge, 2 frequency, 3 a PLL lost lock (notes/assumptions/22.md). -/
def State.sourceFailed (s : State) (t src cause : Nat) : State :=
  if cause = 3 then s.latch (Reg.CLK_TILE_ERR_STATUS t) 0 Gb.CLK_SRC_FAIL t [t, src, cause]
  else s.latch Reg.CLK_ERR_STATUS 0 Gb.CLK_SRC_FAIL (if src = 0 then 15 else t) [t, src, cause]

/-- R367, R368: the crystal counts as failed: every tile sees it, AON moves, and the policy acts. `t` is the tile named in the record. -/
def State.crystalFail (s : State) (t cause : Nat) : State :=
  (((s.modClk (fun k => { k with xtal := 2, xtalBack := false, xtalWait := false })).sourceFailed t 0 cause).aonMove).crystalPolicy

/-- R368, R369: the reference clock of a head fails: its link goes down, and the policy acts on the head logic. -/
def State.refclkFail (s : State) (h cause : Nat) : State :=
  let s1 := (s.modClk (fun k => { k with refFail := setBit k.refFail h, refBack := clearBit k.refBack h, refStable := clearBit k.refStable h })).sourceFailed
    h (1 + h) cause
  let s2 := if s1.tilesClocked && (s1.head h).up then s1.headReset h else s1
  if !s2.tilesClocked || !s2.alive h then s2
  else if s2.regBit Reg.CLK_CTL 1 then s2.switchOver h (1 + h) 0x80 else s2.coast h (1 + h) 0x80

/-- R366, R368: edges of a source at its nominal frequency in one IOSC window of 100 µs: the crystal 25 MHz, a reference clock 100 MHz. -/
def srcEdges (source : Nat) : Nat := if source = 0 then 2500 else 10000

/-- R366, R368: a count of edges lies within `p` per cent of nominal. -/
def edgesWithin (source p n : Nat) : Bool := decide ((100 - p) * srcEdges source ≤ 100 * n ∧ 100 * n ≤ (100 + p) * srcEdges source)

/-- R366: a source is stable: edges in every window and a frequency within ±2 % in ten consecutive windows. -/
def sourceStable (source : Nat) (windows : List Nat) : Bool := decide (10 ≤ windows.length) && windows.all (fun n => decide (0 < n) && edgesWithin source 2 n)

/-- R368: the monitor of a source judges it failed: `meas` IOSC cycles have passed without an edge (cause 1), or `meas` edges came in one
window (cause 2), or a PLL that it feeds loses lock in service (cause 3). -/
def State.sourceFails (s : State) (source cause tile pll meas : Nat) : Bool :=
  match cause with
  | 1 => decide (16 ≤ meas)
  | 2 => !edgesWithin source 3 meas
  | 3 => s.tilesClocked && bitOf (s.tile tile).clk.pllLocked pll && decide (source = if pll = 5 then 1 + tile else 0)
  | _ => false

/-- R368: a monitor judges a source failed, or the PLL `pll` of a tile loses lock in service. A failure that is being handled goes on. -/
def State.clockSourceFailEff (s : State) (source cause tile pll meas : Nat) : State :=
  if s.md.mode == .off || !s.sourceFails source cause tile pll meas then s
  else if source = 0 then if s.clk.xtal = 2 then s else s.crystalFail (if cause = 3 then tile else s.md.primary) cause
  else if source ≤ s.pop.tiles then if bitOf s.clk.refFail (source - 1) then s else s.refclkFail (source - 1) cause
  else s

/-- R366: the crystal has not been judged stable within 50 ms of VAUX. -/
def State.xtalStableTimeoutEff (s : State) : State :=
  if s.clk.xtalWait then
    (s.modClk (fun k => { k with xtal := 2, xtalWait := false })).sourceFailed s.md.primary 0 0
  else s

/-- R371, R372: the bound of a request in flight over a forced switch of SYS or MEDIA: 64 IOSC cycles, 320 ns, in place of 4 of the old clock. -/
def forcedBound (domain : Nat) (r : Req) : Nat := r.bound + (if domain = 2 then 316 else if domain = 4 ∧ r.cse ≠ 1 then 317 else 0)

/-- R372: no edge of the old clock arrives within 64 IOSC cycles of a move: the switch of a domain is forced. The PHASE
domain adds the increments it lost, so that Belfry loses no tick: REF_ANGLE moves with time alone. A move that awaits no edge any more, because its edge came first
(01_architecture.md R26) or its switch was forced, is not forced. -/
def State.clockSwitchForceEff (s : State) (tile domain : Nat) : State :=
  if s.md.mode != .off && decide (domain < 8) && bitOf (s.tile tile).clk.edgeWait domain then
    ((s.modClkT tile (fun k => { k with edgeWait := clearBit k.edgeWait domain })).lengthen tile (forcedBound domain)).forcedSwitch tile domain
  else s

/-- R371, R373: GDDR7 of a tile, or the mesh link at one of its ports, has retrained, with its PLL locked again. -/
def State.phyRetrainDoneEff (s : State) (tile : Nat) (port : Option Nat) : State :=
  s.modClkT tile (fun k =>
    match port with
    | none => { k with gddrRetrain := false, pllLocked := if k.gddrRetrain then setBit k.pllLocked 3 else k.pllLocked }
    | some d => { k with meshRetrain := clearBit k.meshRetrain d, pllLocked := if bitOf k.meshRetrain d then setBit k.pllLocked 4 else k.pllLocked })

/-! ### Return to a source (R373) -/

/-- R373: Degraded cause CLOCK_SWITCHED ends when no domain of any tile is on its backup. -/
def State.judgeSwitched (s : State) : State := if s.present.any (fun t => (s.tile t).clk.onBackup != 0) then s else s.setCause 11 false

/-- R373: the domains of a tile that left a source go back to it. GDDR7 and the mesh links that had moved retrain. The time
away is left open (notes/assumptions/3.md): the model has no clock. PLLs that coasted, or lost their source, lock again with PLL_LOCK. -/
def State.returnTile (s : State) (t src doms : Nat) : State :=
  let k := (s.tile t).clk
  if Nat.land (Nat.lor k.onBackup k.coast) doms = 0 then s
  else
    let phy := bitOf (Nat.land k.onBackup doms) 5 && s.md.resetsReleased
    let s1 := s.modClkT t (fun k =>
      { k with onBackup := Nat.land k.onBackup (255 - doms), edgeWait := Nat.land k.edgeWait (255 - doms), coast := Nat.land k.coast (255 - doms), gddrRetrain := k.gddrRetrain || phy,
               meshRetrain := if phy then 7 else k.meshRetrain, pllLocked := if phy then Nat.land k.pllLocked 0x67 else k.pllLocked })
    (s1.latch Reg.CLK_ERR_STATUS 3 Gb.CLK_RETURN t [t, src, s1.freeNow % 2 ^ 32]).bumpFree

/-- R373, R365: every domain that left a source goes back; the return of the crystal starts a trim. -/
def State.sourceReturn (s : State) (src : Nat) : State :=
  if src = 0 then
    let s1 := s.present.foldl (fun a t => a.returnTile t 0 0x7F) (s.modClk (fun k => { k with xtal := 1, xtalBack := false }))
    (if s1.tilesClocked then s1.trimBegin else s1).judgeSwitched
  else
    let h := src - 1
    let s1 := (s.modClk (fun k => { k with refFail := clearBit k.refFail h, refBack := clearBit k.refBack h })).returnTile h src 0x80
    (if s1.mayTrain h then s1.startTraining h else s1).judgeSwitched

/-- R366, R373: a source is judged stable. The crystal takes over AON after VAUX; a failed source returns when AUTO_RETURN
is 1. -/
def State.clockSourceStableEff (s : State) (source : Nat) (windows : List Nat) : State :=
  let auto := s.regBit Reg.CLK_CTL 2
  if s.md.mode == .off || !sourceStable source windows then s
  else if source = 0 then
    if s.clk.xtal = 2 then
      let s1 := s.modClk (fun k => { k with xtalBack := true })
      if auto then s1.sourceReturn 0 else s1
    else
      (s.modClk (fun k => { k with xtal := 1, xtalWait := false })).modClkT 0 (fun k => { k with onBackup := clearBit k.onBackup 0, edgeWait := clearBit k.edgeWait 0 }) |>.modClkT 1
        (fun k => { k with onBackup := clearBit k.onBackup 0, edgeWait := clearBit k.edgeWait 0 })
  else if source ≤ s.pop.tiles then
    let h := source - 1
    let s1 := s.modClk (fun k => { k with refStable := setBit k.refStable h })
    if !bitOf s.clk.refFail h then s1
    else
      let s2 := s1.modClk (fun k => { k with refBack := setBit k.refBack h })
      if auto then s2.sourceReturn source else s2
  else s

/-- R373: failed sources that were judged stable again: 0 the crystal, 1 + h the reference clock of head h. -/
def State.clkBack (s : State) : List Nat :=
  (if s.clk.xtal = 2 ∧ s.clk.xtalBack then [0] else [])
    ++ (s.present.filter (fun h => bitOf s.clk.refFail h && bitOf s.clk.refBack h)).map (· + 1)

/-- R373, R440: RETURN is written with 1 while a source is failed and none was judged stable again. -/
def State.returnGated (s : State) : Bool := (s.clk.xtal == 2 || s.clk.refFail != 0) && s.clkBack.isEmpty

/-- R373: RETURN is written with 1: failed sources that were judged stable again return. -/
def State.clkReturn (s : State) : State := s.clkBack.foldl State.sourceReturn s

/-! ### Gates (R374, R375) -/

/-- R374: the gate of a block can act: head logic only while its link is down, the second management processor outside the
primary tile. -/
def State.gateActs (s : State) (t b : Nat) : Bool :=
  (b != 2 || !(s.head t).up) && (b != 1 || t != s.md.primary)

/-- R374: the clock of a media channel is gated: it is in CH_STATE 0b11. -/
def State.chanGated (s : State) (t c : Nat) : Bool := (s.chan t c).st == 3

/-- R37, R374: the clock of the head logic of a tile is gated: its gate is closed, or it is the upper tile of a bonded pair. -/
def State.headGated (s : State) (t : Nat) : Bool := bitOf (s.tile t).clk.gated 2 || (s.head t).upper

/-- R374: CLK_GATE_CTL of a tile was written: bits written with 1 request their gates, bits at 0 open them. -/
def State.gateWritten (s : State) (t asked : Nat) : State :=
  let ctl := s.fld (Reg.CLK_GATE_CTL t) 4 0
  s.modClkT t (fun k =>
    { k with gated := Nat.land k.gated ctl, gateWait := Nat.land (Nat.lor k.gateWait (Nat.land asked (Nat.land ctl (31 - Nat.land k.gated 31)))) ctl })

/-- R374: the idle acknowledgement of a block arrives and its gate closes. -/
def State.clkGateIdleAckEff (s : State) (tile block : Nat) : State :=
  if bitOf (s.tile tile).clk.gateWait block && s.gateActs tile block then
    (if block = 0 then s.settleLevel tile else s).modClkT tile
      (fun k => { k with gated := setBit k.gated block, gateWait := clearBit k.gateWait block })
  else s

/-- R374: a gate request is abandoned; the gate stays open. -/
def State.clkGateTimeoutEff (s : State) (tile block : Nat) : State :=
  if bitOf (s.tile tile).clk.gateWait block then
    (s.modClkT tile (fun k => { k with gateWait := clearBit k.gateWait block })).latch (Reg.CLK_TILE_ERR_STATUS tile) 2 Gb.CLK_GATE_TIMEOUT tile
      [tile, block]
  else s

/-! ### Tile reset (R379) and crossings (R382) -/

/-- R367, R370, R371: PLLs a tile needs to leave reset: all but that of the head logic, which waits for its reference clock, and that one too
while the PERST_N of its head is high. While the crystal is failed its policy stands in their place: under SWITCH the PLLs of GDDR and MESH lock
to IOSC ÷ 8, under COAST none of those it feeds can lock. -/
def State.pllsNeeded (s : State) (t : Nat) : Nat :=
  let k := (s.tile t).clk
  (if s.clk.xtal ≠ 2 then 0x5F else if bitOf k.onBackup 5 then 0x58 else 0x40) + (if bitOf s.md.perstHigh t && !bitOf s.clk.refFail t then 0x20 else 0)

/-- R379: a write of CLK_TILE_RESET: the reset of a tile starts, or is refused. In Service the tile's dirty frames are
committed first; for a failed tile, which has none (R277), that step is skipped. -/
def State.clkTileReset (s : State) (key t : Nat) : State :=
  let idle := decide (key = 0x7E5E) && s.present.contains t && (s.tile t).clk.resetStep.isNone && s.md.resetsReleased
  if idle && s.md.mode == .service && t != s.md.primary && s.alive t then
    let s1 := s.modClkT t (fun k => { k with resetStep := some 1, resetFailed := false })
    (s1.dirtyOrder t).foldl (fun a f => a.startCommit t f) s1
  else if idle && bitOf s.md.failed t && (s.md.mode == .degraded || (s.md.mode == .service && t != s.md.primary)) then
    s.modClkT t (fun k => { k with resetStep := some 2, resetFailed := true })
  else s.latchOnly Reg.CLK_ERR_STATUS 4

/-- R379 step 2: the mesh links of a tile that work are fenced; messages on them take the routes of R19. The Degraded cause MESH_LINK is not set. -/
def State.fenceTile (s : State) (t : Nat) : State :=
  s.ports.foldl (fun a p =>
    let key := a.linkKey t p
    if !a.linkUp t p then a
    else
      let a1 := (a.modMd (fun d => { d with fenced := aput key true d.fenced })).modClkT t (fun k => { k with resetKeys := k.resetKeys ++ [key] })
      ((a1.markOld a).resendLink key).syncAll (.fence t p)) s

/-- R379 step 7: the mesh links that the reset fenced train and are unfenced. -/
def State.unfenceTile (s : State) (t : Nat) : State :=
  let keys := (s.tile t).clk.resetKeys
  (s.modMd (fun d => { d with fenced := d.fenced.filter (fun e => !keys.contains e.1) })).modClkT t (fun k => { k with resetKeys := [] })

/-- R379: a tile reset ends. Outcomes: 0 done, 1 failed, 2 cut by Hold-up (notes/assumptions/22.md). -/
def State.tileResetEnd (s : State) (t step outcome : Nat) : State :=
  (s.modClkT t (fun k => { k with resetStep := none, resetFailed := false })).event Gb.TILE_RESET t [t, step, outcome]

/-- R379, R376: step 3: the tile enters reset with the far endpoints of its links: its head's link goes down, its claim of the bulk-copy window
is released (01_architecture.md R28), and its registers go to their reset values, those of the Parameter Store as the last Bring-up loaded
them. Its copy of the tick count stands as the primary's does (R20), its turn goes on, and its schedule and profile are applied as at step 12
(notes/assumptions/148.md). -/
def State.tileEnterReset (s : State) (t : Nat) : State :=
  let b := s.tile t
  let ctl := s.getReg (Reg.HEAD_LINK_CTL t)
  let s1 := if b.head.up then s.headReset t else s
  let s2 := ({ s1 with tiles := vmod t Tile.afterReset s1.tiles, cup := { s1.cup with windows := adel t s1.cup.windows } }).resetRegs
    (0x10000 + t * 0x2000) (0x12000 + t * 0x2000)
  let s2 := s2.modThm (fun x => { x with sensors := x.sensors.filter (fun e => sensorTile e.1 != t), converting := adel t x.converting })
  let s3 := (s2.setReg (Reg.HEAD_LINK_CTL t) ctl).modClkT t (fun k => { k with resetStep := some 3, resetFailed := b.clk.resetFailed, resetKeys := b.clk.resetKeys })
  ((s3.modFs t (fun f => { f with cap := b.fs.cap })).modHead t (fun h => { h with upper := b.head.upper })).modBelT t (fun k =>
    { k with tick := s.bel.refAngle % 2 ^ 48 / 2 ^ 32, turn := b.bel.turn }) |>.loadSchedule t

/-- R379: the running step of a tile reset ends. `fail`: it failed, which leaves the tile failed and its links fenced. Step 1
ends once no frame of the tile counts as dirty, step 6 once its channels have trained. The last three operands are what
the map restore meets, as in MAP_RESTORE_DONE. -/
def State.tileResetStepDoneEff (s : State) (tile : Nat) (fail : Bool) (lost conflict clearFails : List Nat) : State :=
  match (s.tile tile).clk.resetStep with
  | none => s
  | some n =>
    let go (m : Nat) (a : State) : State := a.modClkT tile (fun k => { k with resetStep := some m })
    if fail then ((s.declareFailed tile 5 false).fenceTile tile).tileResetEnd tile n 1
    else if n = 1 then if s.dirtyFrames tile = 0 then go 2 s else s
    else if n = 2 then (s.fenceTile tile).tileEnterReset tile
    else if n = 3 then go 4 s
    else if n = 4 then
      let a := s.modClkT tile (fun k => { k with pllLocked := s.pllsNeeded tile })
      go 5 (if a.mayTrain tile then a.startTraining tile else a)
    else if n = 5 then go 6 (s.modMed tile (fun m => { m with chans := vmap (fun c => { c with st := 1 }) m.chans }))
    else if n = 6 then
      if (s.tile tile).med.chans.toList.all (fun c => decide (2 ≤ c.st)) then go 7 s else s
    else ((s.restoreTile tile lost conflict clearFails).unfenceTile tile).tileResetEnd tile 7 0

/-- R382: a handshake of a crossing is not acknowledged within 4,096 source cycles: its value is marked as not delivered until the pair is
reset (an acknowledgement that comes later has no command of its own, notes/assumptions/149.md). -/
def State.cdcHandshakeTimeoutEff (s : State) (tile crossing : Nat) : State :=
  if s.md.mode == .off then s
  else (s.modClkT tile (fun k => { k with cdcLost := if k.cdcLost.contains crossing then k.cdcLost else k.cdcLost ++ [crossing] })).latch
    (Reg.CLK_TILE_ERR_STATUS tile) 3 Gb.CDC_TIMEOUT tile [tile, crossing]

/-! ### The commands of this family -/

/-- CLOCK_SOURCE_STABLE (R366): A source is judged stable after 10 windows; a return may follow. -/
def execClockSourceStable (source : Nat) (windows : List Nat) (s : State) : Host.Outcome State Fault Refusal :=
  s.run (fun x => x.clockSourceStableEff source windows)

/-- XTAL_STABLE_TIMEOUT (R366): The crystal is not stable within 50 ms of VAUX and AON stays on the IOSC. -/
def execXtalStableTimeout (s : State) : Host.Outcome State Fault Refusal :=
  s.run (fun x => x.xtalStableTimeoutEff)

/-- CLOCK_SOURCE_FAIL (R368): A monitor judges a source failed or a PLL loses lock; COAST or SWITCH follows. -/
def execClockSourceFail (source cause tile pll meas : Nat) (s : State) : Host.Outcome State Fault Refusal :=
  s.run (fun x => x.clockSourceFailEff source cause tile pll meas)

/-- CLOCK_SWITCH_FORCE (R372): No old-clock edge arrives within 64 IOSC cycles and the switch is forced. -/
def execClockSwitchForce (tile domain : Nat) (s : State) : Host.Outcome State Fault Refusal :=
  s.run (fun x => x.clockSwitchForceEff tile domain)

/-- PHY_RETRAIN_DONE (R371): GDDR7 or a mesh link finishes retraining after a clock move and waiting traffic
proceeds. -/
def execPhyRetrainDone (tile : Nat) (port : Option Nat) (s : State) : Host.Outcome State Fault Refusal :=
  s.run (fun x => x.phyRetrainDoneEff tile port)

/-- CLK_GATE_IDLE_ACK (R374): The block's idle acknowledgement arrives and the gate closes. -/
def execClkGateIdleAck (tile block : Nat) (s : State) : Host.Outcome State Fault Refusal :=
  s.run (fun x => x.clkGateIdleAckEff tile block)

/-- CLK_GATE_TIMEOUT (R374): No idle acknowledgement within 4,096 cycles; the request is abandoned. -/
def execClkGateTimeout (tile block : Nat) (s : State) : Host.Outcome State Fault Refusal :=
  s.run (fun x => x.clkGateTimeoutEff tile block)

/-- TILE_RESET_STEP_DONE (R379): A tile reset step ends and the next begins, up to map restore. -/
def execTileResetStepDone (tile : Nat) (fail : Bool) (lost conflict clearFails : List Nat)
    (s : State) : Host.Outcome State Fault Refusal :=
  s.run (fun x => x.tileResetStepDoneEff tile fail lost conflict clearFails)

/-- CDC_HANDSHAKE_TIMEOUT (R382): A crossing handshake is not acknowledged within 4,096 cycles. -/
def execCdcHandshakeTimeout (tile crossing : Nat) (s : State) : Host.Outcome State Fault Refusal :=
  s.run (fun x => x.cdcHandshakeTimeoutEff tile crossing)

end Sys2Proof.Machine
end

