-- ==== Sys2Proof/Machine/Power.lean ====
section
/-! DEFINITION. Machine/Power.lean: the sequencer, buttons and supervision inputs, sensing, shed stages, the hold-up test and
the power commands (11_power.md R336 to R362; 10_modes.md R313, R314, R326, R331, R540). -/

namespace Sys2Proof.Machine

open Sys2Proof

/-! ### Steps of Bring-up and T_R (10_modes.md R316, R318) -/

/-- R316: a step of Bring-up is complete. Steps of one time window run in parallel, and STEP shows the last one before
which every step is complete. -/
def State.stepDone (s : State) (n : Nat) : State :=
  s.modMd (fun d =>
    let m := setBit d.stepsDone n
    { d with stepsDone := m, step := (([1, 2, 3, 4, 5, 6, 7, 8, 9, 10, 11, 12, 13]).takeWhile (bitOf m)).length })

/-- R318: a failure of Bring-up sets FAIL_CAUSE and is recorded. -/
def State.bringupFail (s : State) (cause tile : Nat) : State :=
  (s.modMd (fun d => { d with failCause := cause })).event Gb.BRINGUP_FAIL 15 [cause, s.md.step, tile]

/-- R316 step 2: Bring-up at T_R, or after the wipe of R315: every tile is reset, the Parameter Store's settings are loaded,
and a crystal that is not stable counts as failed (12_clocks_resets.md R367). A warm reset waits here while MRST_N is low
(R346); one that was latched before takes effect now. -/
def State.atTr (s : State) (warm : Bool) : State :=
  let latched := s.md.warmLatched
  let s1 := (s.mainReset.bringupLoad).modPw (fun p => { p with seq := .up, upDelay := false })
  let s2 := (s1.stepDone 1).stepDone 2 |>.modMd (fun d => { d with mrstHold := warm && d.mrstLow, warmLatched := false })
  let s3 := if s2.clk.xtal = 0 then s2.crystalFail s2.md.primary 0 else if s2.clk.xtal = 2 then s2.crystalPolicy else s2
  if latched && !warm then s3.holdupEnter 3 else s3

/-! ### The sequencer (R336 to R344) -/

/-- SEQ_SLOT_x EN of slot `i` in force. -/
def State.slotEn (s : State) (i : Nat) : Bool := fieldOf (s.pw.slots.getD i 0) 31 31 == 1

/-- SEQ_SLOT_x UP_DELAY of slot `i` in µs. -/
def State.slotUpUs (s : State) (i : Nat) : Nat := 100 * fieldOf (s.pw.slots.getD i 0) 30 23

/-- SEQ_SLOT_x PG_TMAX of slot `i` in µs; 0 acts as 1 ms. -/
def State.slotTmaxUs (s : State) (i : Nat) : Nat := 1000 * max 1 (fieldOf (s.pw.slots.getD i 0) 22 15)

/-- SEQ_SLOT_x STAB of slot `i` in µs; below 2 acts as 2, above 1,250 as 1,250. -/
def State.slotStabUs (s : State) (i : Nat) : Nat := 8 * max 2 (min 1250 (fieldOf (s.pw.slots.getD i 0) 14 4))

/-- R340: the wait after slot `i` was taken low, in µs: DOWN_DELAY, or 10 µs in a fast power-down. -/
def State.slotDownUs (s : State) (i : Nat) : Nat := if s.pw.seq == .fastDown then 10 else 1000 * fieldOf (s.pw.slots.getD i 0) 3 0

/-- R338: the next enabled slot from `i` on waits its UP_DELAY; after the last one it is T_R. -/
def State.nextSlot (s : State) (i : Nat) : State :=
  match (List.range 16).find? (fun j => decide (i ≤ j) && s.slotEn j) with
  | some j => s.modPw (fun p => { p with seq := .up1, slot := j, upDelay := true })
  | none => s.atTr false

/-- R340: power-down ends with the last slot: the main resets act, and the package enters Standby with its slots and shed
levels loaded again. The stages are judged afresh (R359), and the fans stand off (13_thermal_sled.md R396). MODE_CTL keeps AUTO_RESTART for R314 until the next Bring-up loads
it. -/
def State.railsDown (s : State) : State :=
  let ctl := s.getReg Reg.MODE_CTL
  let s1 := (s.mainReset.setReg Reg.MODE_CTL ctl).modPw (fun p =>
    { p with seq := .down, pgQual := 0, upDelay := false, offLatched := false, rested := false, below1 := 0, below2 := 0, belowP := 0,
             hold1 := false, hold2 := false })
  let s2 := (s1.modMd (fun d => { d with warmLatched := false, mrstHold := false })).modThm (fun x =>
    { x with fans := vmap (fun f => { f with duty := 0, rpm := 0, failed := false, override := false, failsafe := false }) x.fans })
  ((s2.setStage 0).setMode .standby).loadSlots.loadLevels

/-- R340: the highest slot that is on is taken low; with the last one the power-down ends. -/
def State.slotDown (s : State) : State :=
  match (List.range 16).reverse.find? (bitOf s.pw.seqEn) with
  | none => s.railsDown
  | some j =>
    let s1 := s.modPw (fun p => { p with seqEn := clearBit p.seqEn j, pgQual := clearBit p.pgQual j, slot := j })
    if s1.pw.seqEn = 0 then s1.railsDown else s1

/-- R340: power-down, normal or fast. -/
def State.powerDown (s : State) (fast : Bool) : State :=
  (s.modPw (fun p => { p with seq := if fast then .fastDown else .normalDown, upDelay := false, offLatched := false })).slotDown

/-- R335: how far a flush has come that is cut short: H3, H4, H5 or H7. -/
def State.cutStep (s : State) : State :=
  if s.md.mode != .holdup then s
  else
    let dirty := s.aliveTiles.any (fun t => decide (0 < s.dirtyFrames t))
    let jnl := s.aliveTiles.any (fun t => (s.tile t).xl.jpages.any (fun p => !p.done) || decide ((s.tile t).xl.jsent < (s.tile t).xl.jpos))
    s.modMd (fun d => { d with holdStep :=
      (if d.holdStep = .flush then (if dirty then .flush else .slots) else if d.holdStep = .commit then (if jnl then .stage4 else .commit)
       else d.holdStep) })

/-- R341: a rail failure of a slot, KIND 1 TIMEOUT or 2 DROP: it is latched and recorded, a running test ends (R356), the
tiles are reset, and the rails go down fast. -/
def State.railFail (s : State) (slot kind : Nat) : State :=
  let s1 := (s.cutStep.modPw (fun p => { p with fault := true, faultSlot := slot, faultKind := kind })).event Gb.PG_FAIL 15 [slot, kind, s.md.mode.code]
  let s2 := (s1.alert 7).haltTest 4
  let s3 := if s2.md.mode == .bringup then s2.bringupFail 1 0 else s2
  let ctl := s3.getReg Reg.MODE_CTL
  (s3.mainReset.setReg Reg.MODE_CTL ctl).powerDown true

/-- R476, R338: an on request starts Bring-up: POWER_CYCLES counts, counts of failed checks relax, and the first slot
waits. -/
def State.startBringup (s : State) : State :=
  let s1 := s.modPw (fun p => { p with onLatched := none, offLatched := false, measured := 0, holdLimit := 0, seqEn := 0, pgQual := 0 })
  let s2 := (s1.psPut Param.POWER_CYCLES (leBytes 4 (s.powerCycles + 1))).relaxFails
  let s3 := (s2.modGb (fun g => { g with checkReported := false })).modMd (fun d =>
    { d with step := 0, stepsDone := 0, failCause := 0, elapsedMs := 0, warmLatched := false })
  ((s3.setMode .bringup).stepDone 1).nextSlot 0

/-- R314, R331, R343: an on request from a source (0 short press, 1 sideband, 2 VAUX with AUTO_ON, 3 end of a Hold-up under
AUTO_RESTART). -/
def State.onRequest (s : State) (src : Nat) : State :=
  let latched := s.modPw (fun p => { p with onLatched := some (p.onLatched.getD src) })
  if s.md.mode == .holdup || s.pw.seq == .normalDown || s.pw.seq == .fastDown then latched
  else if s.md.mode != .standby then s
  else if s.pw.fault then latched.event Gb.PWR_ON_HELD 15 [src]
  else if s.pw.rested then s.startBringup
  else latched

/-- R314, R343: a latched on request starts Bring-up once FAULT is clear and the rails have been down for 100 ms. -/
def State.tryLatched (s : State) : State :=
  if s.md.mode == .standby && s.pw.onLatched.isSome && !s.pw.fault && s.pw.rested then s.startBringup else s

/-- R314: an on request is recognised. Source 3 counts only after a Hold-up that an input loss caused, while AUTO_RESTART is 1, and once VIN has
been at or above VIN_PFAIL + VIN_HYST for 50 ms. -/
def State.onRequestEff (s : State) (source : Nat) : State :=
  if 3 < source || (source == 3 && !(s.regBit Reg.MODE_CTL 2 && s.md.cause == 0 && s.md.holdStep != .none && s.pw.aboveP == 50000)) then s
  else s.onRequest source

/-- R314: 100 ms have passed since the rails went down; a latched on request starts Bring-up if FAULT is clear. -/
def State.onRequestLatchedStartEff (s : State) : State :=
  if s.md.mode == .standby then (s.modPw (fun p => { p with rested := true })).tryLatched else s

/-- R338: the slot in progress has waited `us`: after UP_DELAY its SEQ_EN_x is driven high. -/
def State.slotUpDelayExpireEff (s : State) (us : Nat) : State :=
  if s.pw.seq == .up1 && s.pw.upDelay && decide (s.slotUpUs s.pw.slot ≤ us) then
    s.modPw (fun p => { p with upDelay := false, seqEn := setBit p.seqEn p.slot })
  else s

/-- R338: the slot in progress has been enabled and not qualified. -/
def State.slotPending (s : State) : Bool :=
  s.pw.seq == .up1 && !s.pw.upDelay && bitOf s.pw.seqEn s.pw.slot && !bitOf s.pw.pgQual s.pw.slot

/-- R337, R342: PG_x of the slot in progress has been high in 8 samples and then for `stableUs`: after STAB it is qualified, and the next one
follows, or a latched off request takes the rails down. -/
def State.slotQualifiedEff (s : State) (stableUs : Nat) : State :=
  if s.slotPending && decide (s.slotStabUs s.pw.slot ≤ stableUs) then
    let s1 := s.modPw (fun p => { p with pgQual := setBit p.pgQual p.slot })
    if s1.pw.offLatched then s1.powerDown false else s1.nextSlot (s.pw.slot + 1)
  else s

/-- R337: the slot in progress is not qualified `us` after its SEQ_EN_x rose; after PG_TMAX it fails. -/
def State.slotPgTimeoutEff (s : State) (us : Nat) : State :=
  if s.slotPending && decide (s.slotTmaxUs s.pw.slot ≤ us) then s.railFail s.pw.slot 1 else s

/-- R339: PG_x of a qualified slot was low in a sample. -/
def State.railFailureEff (s : State) (slot : Nat) : State :=
  if (s.pw.seq == .up1 || s.pw.seq == .up) && bitOf s.pw.pgQual slot then s.railFail slot 2 else s

/-- R340: `us` have passed since a slot was taken low; after DOWN_DELAY, or the 10 µs of a fast power-down, the next one follows. -/
def State.slotDownDelayExpireEff (s : State) (us : Nat) : State :=
  if (s.pw.seq == .normalDown || s.pw.seq == .fastDown) && decide (s.slotDownUs s.pw.slot ≤ us) then s.slotDown else s

/-- R343, R539: FAULT is cleared; a latched on request may start. Paths: 0 + 16 × head, 1 sideband, 2 VAUX cycle. -/
def State.faultClear (s : State) (path : Nat) : State :=
  if s.pw.fault then ((s.modPw (fun p => { p with fault := false })).event Gb.PWR_FAULT_CLEAR 15 [path]).tryLatched else s

/-! ### Off requests, buttons and reset inputs (R331, R342, R345 to R347) -/

/-- R331: T_R has passed. -/
def State.pastTr (s : State) : Bool := bitOf s.md.stepsDone 2

/-- R331, R342: an off request with CAUSE 0b001. -/
def State.offRequest (s : State) (noGrace : Bool) : State :=
  if s.md.mode == .bringup && !s.pastTr then
    if s.pw.seq == .up1 then s.modPw (fun p => { p with offLatched := true }) else s
  else if s.canHoldup && s.pw.seq == .up then s.prepStart 1 noGrace
  else s

/-- R345, R392: what a long press, or a confirmed thermal SHUT, does: CAUSE 0b010, or the cap in Hold-up. -/
def State.forceOff (s : State) : State :=
  if s.md.mode == .holdup then s.modMd (fun d => { d with capApplies := true })
  else if s.md.mode == .bringup && !s.pastTr then s.offRequest true
  else if s.canHoldup && s.pw.seq == .up then s.holdupEnter 2
  else s

/-- R345: a short press, acted on at its release. The release that follows a long press is ignored. -/
def State.powerButtonShortEff (s : State) : State :=
  if s.md.mode == .off then s
  else if s.pw.longHeld then s.modPw (fun p => { p with longHeld := false })
  else if s.md.mode == .standby || s.md.mode == .holdup || s.pw.seq == .normalDown || s.pw.seq == .fastDown then s.onRequest 0
  else s.offRequest false

/-- R345, R362 LONG_PRESS in s, where 0 and 1 act as 2; `old`: the press began before PWR_CTL was last written. -/
def State.longPress (s : State) (old : Bool) : Nat := max 2 (if old then s.pw.longOld.getD (s.fld Reg.PWR_CTL 11 8) else s.fld Reg.PWR_CTL 11 8)

/-- R345: a press has been held for `heldMs`. At LONG_PRESS it is a long press. -/
def State.powerButtonLongEff (s : State) (heldMs : Nat) (old : Bool) : State :=
  if s.md.mode == .off || s.pw.longHeld || decide (heldMs < 1000 * s.longPress old) then s
  else
    ((s.modPw (fun p => { p with longHeld := true })).latch Reg.PWR_ERR_STATUS 0 Gb.BTN_LONG 15 [s.md.mode.code]).forceOff

/-- R315, R331, R346: a warm reset is caused, CAUSE 3 by MRST_N and 4 by a command or the boot ROM. -/
def State.warmReset (s : State) (cause : Nat) : State :=
  if s.md.mode == .holdup then s.modMd (fun d => { d with warmLatched := true })
  else if s.md.mode == .bringup && !s.pastTr then
    if s.pw.seq == .up1 then s.modMd (fun d => { d with warmLatched := true }) else s
  else if s.canHoldup && s.pw.seq == .up then if cause = 3 then s.holdupEnter 3 else s.prepStart 4 false
  else s

/-- R346: MRST_N is recognised after 1 µs of low. -/
def State.mrstEff (s : State) : State :=
  if s.md.mode == .off then s
  else ((s.modMd (fun d => { d with mrstLow := true })).latch Reg.PWR_ERR_STATUS 1 Gb.MRST 15 [s.md.mode.code]).warmReset 3

/-- R315: a warm reset by MRST_N (CAUSE 3) or by a command, a life-cycle change or the boot ROM (CAUSE 4). -/
def State.warmResetEff (s : State) (cause : Nat) : State := if cause = 3 ∨ cause = 4 then s.warmReset cause else s

/-- R347, R358, R340: the input is lost: Hold-up, or a fast power-down before T_R. -/
def State.inputLoss (s : State) : State :=
  if s.md.mode == .bringup && !s.pastTr then
    if s.pw.seq == .up1 then s.powerDown true else s
  else if s.canHoldup && s.pw.seq == .up then s.holdupEnter 0
  else s

/-- R347: PWRFAIL_N has been low for 1 µs. -/
def State.pwrfailInputLossEff (s : State) : State := if s.md.mode == .off then s else s.inputLoss

/-! ### The measured limit (R326, R351, R352) -/

/-- R353: c_bank in nF: that of the last VALID test since VAUX rose, else HOLD_CMIN. -/
def State.cRef (s : State) : Nat := if s.pw.cBank = 0 then 100000 * s.holdParam 12 2 else s.pw.cBank

/-- R348, 19_pins_electrical.md R529: the voltage at the sled input or the bank, in 1 ÷ `per` V, of a code of 12 bits over 0 V to 1.2 V, behind a
divider of `div` ÷ 4,096. -/
def sensed (per div code : Nat) : Nat := code * 6 * per / (5 * max 1 div)

/-- R348: VIN in 10 mV. -/
def State.vinOf (s : State) (code : Nat) : Nat := sensed 100 (s.holdParam 16 2) code

/-- R348: the bank voltage in 0.5 mV. -/
def State.bankOf (s : State) (code : Nat) : Nat := sensed 2000 (s.holdParam 18 2) code

/-- R352: a bank voltage in 0.5 mV is above v_res: v² − v_min² > 2 p_h · 500 µs ÷ (eff · c). -/
def State.aboveRes (s : State) (v : Nat) : Bool :=
  let k := s.holdParam 2 1 * s.cRef
  decide (k * (20 * s.holdParam 4 2) ^ 2 + 400 * s.holdParam 0 2 * 10 ^ 12 < k * v ^ 2)

/-- R352: u in whole joules for a bank voltage in 0.5 mV and c_bank. -/
def State.usableAt (s : State) (v : Nat) : Nat :=
  let k := s.holdParam 2 1 * s.pw.cBank
  (k * v ^ 2 - k * (20 * s.holdParam 4 2) ^ 2 - 400 * s.holdParam 0 2 * 10 ^ 12) / (8 * 10 ^ 17)

/-- R326: programs that run at once on a channel of tile `t`: the envelope and the planes. -/
def State.progsPer (s : State) (t : Nat) : Nat := min (s.envProg t) (4 * s.pop.ranks)

/-- R326: slots of the accumulators in use. -/
def State.slotsInUse (s : State) : Nat := slotCount * (b2n (decide (0 < s.cup.regions)) + b2n s.car.inGroup)

/-- R352: the limit of tile `t` for a usable energy. -/
def State.limitOf (s : State) (u t : Nat) : Nat :=
  let p := s.holdParam 0 2
  let c := b2n (decide (0 < s.cup.regions))
  min (framesOf s.pop) (((900 * u - 121 * p) * s.progsPer t * 100 - p * s.slotsInUse) / (p * (1 + c)))

/-- R352: e_rsv in 0.1 J with the rho of tile `t`. -/
def State.reserveOf (s : State) (u t : Nat) : Nat :=
  let p := s.holdParam 0 2
  let n := s.progsPer t
  (u * 10 ^ 4 * n + 12100 * n * p + p * s.slotsInUse) / (10 ^ 4 * n)

/-- R351, R352: the limits of every tile are computed for a bank voltage in 0.5 mV; they are 0 while no measurement of this
Bring-up is VALID. Degraded cause HOLDUP_LOW follows a limit of 0 or above. Writes that a limit that rose lets go on do so at the next DIRTY_WAIT_RELEASE. -/
def State.recompute (s : State) (v : Nat) : State :=
  if s.pw.measured != 1 then
    s.aliveTiles.foldl (fun a t => a.modFs t (fun f => { f with measured := 0 }))
      (s.modPw (fun p => { p with holdLimit := 0, usable := 0, reserve := 0 }))
  else
    let u := s.usableAt v
    let s1 := s.aliveTiles.foldl (fun a t => a.modFs t (fun f => { f with measured := s.limitOf u t })) s
    let least := leastOr 0 (s.aliveTiles.map (s.limitOf u))
    let at_ := (s.aliveTiles.find? (fun t => s.limitOf u t == least)).getD 0
    let s2 := s1.modPw (fun p => { p with usable := min 0xFFFF u, reserve := min 0xFFFF (s.reserveOf u at_), holdLimit := least })
    let s3 := s2.setCause 6 (least == 0)
    s3.aliveTiles.foldl State.judgeThrottle s3

/-- R351: the limit is recomputed every 1 ms, or every 10 µs in shed stage 2, while the tiles run. -/
def State.measuredLimitRecomputeEff (s : State) : State :=
  if (s.md.operating || s.md.mode == .bringup || s.md.mode == .holdup) && s.pw.measured == 1 && s.pw.test.isNone then s.recompute s.pw.vb else s

/-! ### Sensing and shed stages (R348, R358, R359) -/

/-- R359: the stage that samples call for outside Hold-up. -/
def State.sagStage (s : State) : Nat := if s.pw.hold2 then 2 else if s.pw.hold1 then 1 else 0

/-- R359: the stage is the highest whose entry condition holds and was not left. -/
def State.judgeStage (s : State) : State := if s.md.mode == .holdup then s else s.setStage s.sagStage

/-- R325: the bank is at its program reserve, or the cap of a force-off ended: no new program starts, those started
complete, and the rails go down fast. -/
def State.reserveReached (s : State) : State := if s.pw.seq == .up || s.pw.seq == .normalDown then s.cutStep.powerDown true else s

/-- Mean of a list of codes. -/
def meanOf (l : List Nat) : Nat := total l / max 1 l.length

/-- R348: the converters' codes are taken: the last 100 of each, and their means in 10 mV. -/
def State.takeSample (s : State) (vin hold : Nat) : State :=
  let v := (vin :: s.pw.vinRun).take 100
  let h := (hold :: s.pw.holdRun).take 100
  s.modPw (fun p => { p with vinRun := v, holdRun := h, vin := s.vinOf (meanOf v), holdV := s.bankOf (meanOf h) / 20 })

/-- R351: a sample of the bank counts for v_b, the lowest of the last 100 ms, unless HOLD_TEST is high or fell less than 50 ms ago. -/
def State.takeLow (s : State) (hold : Nat) : State :=
  let n := s.pw.samples + 1
  let loadAt := if s.pw.holdTestPin then some n else s.pw.loadAt
  let counts := loadAt.all (fun k => decide (k + 50000 < n))
  let l := (if counts then (n, hold) :: s.pw.lows.filter (fun e => decide (e.2 < hold)) else s.pw.lows).filter (fun e => decide (n < e.1 + 100000))
  s.modPw (fun p => { p with samples := n, loadAt := loadAt, lows := l, vb := match l.getLast? with | some e => s.bankOf e.2 | none => p.vb })

/-- R358, R359: consecutive samples below the thresholds, and at or above them with the hysteresis; a stage is entered. -/
def State.judgeVin (s : State) (vin : Nat) : State :=
  let v := s.vinOf vin
  let w1 := fieldOf s.pw.levels.1 31 16
  let w2 := fieldOf s.pw.levels.1 15 0
  let pf := fieldOf s.pw.levels.2 31 16
  let hy := fieldOf s.pw.levels.2 15 0
  let count (c : Bool) (n : Nat) : Nat := if c then n + 1 else 0
  s.modPw (fun p =>
    { p with below1 := min 4 (count (decide (v < w1)) p.below1), below2 := min 4 (count (decide (v < w2)) p.below2),
             belowP := min 2 (count (decide (v < pf)) p.belowP),
             above1 := min 50000 (count (decide (w1 + hy ≤ v)) p.above1), above2 := min 50000 (count (decide (w2 + hy ≤ v)) p.above2),
             aboveP := min 50000 (count (decide (pf + hy ≤ v)) p.aboveP),
             hold1 := p.hold1 || decide (4 ≤ count (decide (v < w1)) p.below1), hold2 := p.hold2 || decide (4 ≤ count (decide (v < w2)) p.below2) })

/-- R348, R358, R325: the converters sample VIN_SENSE and HOLD_SENSE; a code has 12 bits. -/
def State.senseSampleEff (s : State) (vin hold : Nat) : State :=
  if s.md.mode == .off then s
  else
    let s2 := (((s.takeSample vin hold).takeLow hold).judgeVin vin).judgeStage
    if s2.md.mode == .holdup then (if s2.aboveRes (s2.bankOf hold) then s2 else s2.reserveReached)
    else if 2 ≤ s2.pw.belowP then s2.inputLoss
    else s2

/-- R359: the 50 ms of stage 1 or 2 end with every sample, one a µs, at or above its threshold plus the hysteresis. -/
def State.shedStageLeaveEff (s : State) (stage : Nat) : State :=
  if stage = 1 ∧ 50000 ≤ s.pw.above1 then (s.modPw (fun p => { p with hold1 := false })).judgeStage
  else if stage = 2 ∧ 50000 ≤ s.pw.above2 then (s.modPw (fun p => { p with hold2 := false })).judgeStage
  else s

/-- R326: the cap of a force-off ends: the package acts as at the program reserve. `sinceMs` counts from where the cap
applies. -/
def State.holdupCapExpireEff (s : State) (sinceMs : Nat) : State :=
  if s.md.mode == .holdup && s.md.capApplies && decide (s.md.capMs ≤ sinceMs) && s.pw.seq == .up then
    (s.modMd (fun d => { d with report := d.report ||| 0x08000000#32 })).reserveReached
  else s

/-! ### The hold-up test (R353 to R356) -/

/-- R353: a test may start: no stage acts, no test runs, and the bank is settled: above v_res and risen by no more than
20 mV over the last 100 ms (`rise` in 10 mV). -/
def State.testReady (s : State) (rise : Nat) : Bool :=
  s.stageActs == 0 && s.pw.test.isNone && s.aboveRes (s.bankOf (s.pw.holdRun.headD 0)) && decide (rise ≤ 2)

/-- R354 steps 1 to 4: the charger is inhibited, the load switched in, and V0 and V1 taken, in 0.5 mV. -/
def State.testBegin (s : State) (v0 v1 : Nat) (asked : Option (Nat × Nat)) : State :=
  s.modPw (fun p => { p with test := some { v0 := v0, v1 := v1, asked := asked }, chgWait := false, holdTestPin := true,
                             holdChgInh := true })

/-- R118: a HOLDUP_TEST sector of the primary is active and a test is due. -/
def State.testSector (s : State) : Bool :=
  (s.pw.testDue || decide (24 ≤ s.pw.testAgeH)) &&
    (List.range 64).any (fun i => s.sectorOn s.md.primary i && (s.schedEntry s.md.primary i).cls == 8)

/-- R353: a scheduled test, or that of step 10, starts. Where its conditions are not met a scheduled one ends NOT_RUN, and that
of step 10 waits. -/
def State.holdupTestStartEff (s : State) (rise v0 v1 : Nat) : State :=
  if s.md.mode == .bringup && s.pw.chgWait then if s.testReady rise then (s.testBegin v0 v1 none).stepDone 10 else s
  else if s.testSector && s.pw.test.isNone then if s.testReady rise then s.testBegin v0 v1 none else s.testNotRun 0
  else s

/-- R355: a test ends FAILED for a reason of R539, with the c_bank (0.1 mF) and ESR it found. -/
def State.testFailed (s : State) (reason cap esr : Nat) (asked : Option (Nat × Nat)) : State :=
  let s1 := s.modPw (fun p => { p with test := none, chgWait := false, holdTestPin := false, holdChgInh := false, measured := 2, testDue := true })
  let s2 := ((s1.latch Reg.PWR_ERR_STATUS 2 Gb.HOLDUP_FAIL 15 [reason, cap, esr]).recompute 0).setCause 6 true
  match asked with
  | some (r, c) => s2.finish { ring := r, cid := c } { status := Status.energyLow.code, results := s2.testResults 1 }
  | none => s2

/-- R354 steps 5 and 6, R355: the fall, in 0.5 mV, has taken `dtNs`. It reaches HOLD_DV, or HOLD_TMAX passes: load and charger inhibit go off,
and the outcome is decided. -/
def State.holdupTestFallEff (s : State) (dtNs fall : Nat) : State :=
  match s.pw.test with
  | none => s
  | some h =>
    if fall < s.holdParam 8 2 ∧ dtNs < 1000 * s.holdParam 10 2 then s else
    let i := s.holdParam 6 2
    let cap := i * dtNs * 20 / max 1 fall
    let drop := (h.v0 - h.v1) * 200
    let esr := min 255 (drop / max 1 i)
    let cap4 := min 0xFFFF (cap / 100000)
    if fall < s.holdParam 8 2 ∧ fall < 20 then s.testFailed 2 cap4 esr h.asked
    else if cap < 100000 * s.holdParam 12 2 then s.testFailed 3 cap4 esr h.asked
    else if s.holdParam 3 1 * i < drop then s.testFailed 4 cap4 esr h.asked
    else
      let s1 := s.modPw (fun p =>
        { p with test := none, holdTestPin := false, holdChgInh := false, measured := 1, cBank := cap, esr := esr, testAgeH := 0, testDue := false })
      let s2 := s1.recompute h.v0
      let s3 := s2.event Gb.HOLDUP_TEST 15 [cap4, esr, s2.pw.usable, s2.pw.holdLimit]
      match h.asked with
      | some (r, c) => s3.ok { ring := r, cid := c } (s3.testResults 0)
      | none => s3

/-- R353, R355: at step 10 the bank has not settled after `sec` seconds; after HOLD_CHG_MAX the test ends FAILED. -/
def State.holdChgWaitExpireEff (s : State) (sec : Nat) : State :=
  if s.md.mode == .bringup && s.pw.chgWait && decide (s.holdParam 14 1 ≤ sec) then (s.testFailed 1 0 0 none).stepDone 10 else s

/-! ### Power commands (R361, R540) -/

/-- R361: HOLDUP_TEST. -/
def State.holdupTestEff (s : State) (pc : PortCmd) (rise v0 v1 : Nat) : State :=
  s.porterRun pc 0x0700 true s.md.operating (fun s =>
    if s.pw.test.isSome then s.fail pc .resourceBusy 0
    else if s.testReady rise then s.testBegin v0 v1 (some (pc.ring, pc.cid))
    else (s.testNotRun 0).finish pc { status := Status.energyLow.code, results := s.testResults 2 })

/-- R361: SET_SHED_LEVELS, in 10 mV. -/
def State.setShedLevelsEff (s : State) (pc : PortCmd) (warn1 warn2 pfail hyst : Nat) (persist : Bool) : State :=
  s.porterRun pc 0x0701 true s.md.operating (fun s =>
    s.checkFields pc [true, true, true, decide (10 ≤ hyst ∧ hyst ≤ 200)] (fun s =>
      if !decide (warn2 + hyst ≤ warn1 ∧ pfail + hyst ≤ warn2 ∧ pfail + hyst < s.pw.vin) then s.fail pc .invalidField 0xFF
      else
        let l : W32 × W32 := (BitVec.ofNat 32 (warn1 * 65536 + warn2), BitVec.ofNat 32 (pfail * 65536 + hyst))
        let s1 := s.modPw (fun p =>
          { p with levels := l, above1 := 0, above2 := 0, aboveP := 0, hold1 := p.hold1 || decide (p.vin < warn1), hold2 := p.hold2 || decide (p.vin < warn2) })
        let s2 := s1.ok pc []
        let s3 := if persist then s2.psPersist pc [(Param.SHED_LEVELS, leBytes 4 l.1.toNat ++ leBytes 4 l.2.toNat)] else s2
        s3.judgeStage))

/-- R361: POWER_OFF_REQUEST completes before OFF_GRACE begins. -/
def State.powerOffRequestEff (s : State) (pc : PortCmd) (noGrace : Bool) : State :=
  s.porterRun pc 0x0702 true s.md.ringOrOperating (fun s => (s.ok pc []).offRequest noGrace)

/-- R540: `ms` have passed since the trigger: OFF_GRACE ends. -/
def State.offGraceExpireEff (s : State) (ms : Nat) : State :=
  if s.md.prep.any (fun p => decide (p.graceMs ≤ ms)) then
    (s.modMd (fun d => { d with prep := d.prep.map (fun p => { p with graceDone := true }) })).prepNext
  else s

/-- R540: the checkpoint of every tile has ended. -/
def State.shutdownCheckpointDoneEff (s : State) : State :=
  if s.jobs.shutdownCkpt.all s.ckptReached then
    (s.modMd (fun d => { d with prep := d.prep.map (fun p => { p with ckptDone := true }) })).prepNext
  else s

/-- R540: one second after the trigger Hold-up starts, however far the checkpoint has come. -/
def State.shutdownDeadlineExpireEff (s : State) : State :=
  match s.md.prep with
  | some p => s.holdupEnter p.cause
  | none => s

/-- R322, R323: Hold-up is entered under a CAUSE. -/
def State.holdupEntryEff (s : State) (cause : Nat) : State :=
  if s.canHoldup && s.pw.seq == .up && decide (cause < 6) then s.holdupEnter cause else s

/-! ### The commands of this family -/

/-- ON_REQUEST (R314): An on request is recognised; it starts Bring-up when the conditions hold or stays latched. -/
def execOnRequest (source : Nat) (s : State) : Host.Outcome State Fault Refusal :=
  s.run (fun x => x.onRequestEff source)

/-- ON_REQUEST_LATCHED_START (R314): A latched on request starts Bring-up once FAULT is clear and 100 ms have passed
since the rails went down. -/
def execOnRequestLatchedStart (s : State) : Host.Outcome State Fault Refusal :=
  s.run (fun x => x.onRequestLatchedStartEff)

/-- SLOT_UP_DELAY_EXPIRE (R338): A slot's UP_DELAY expires and its SEQ_EN_x is driven high. -/
def execSlotUpDelayExpire (us : Nat) (s : State) : Host.Outcome State Fault Refusal :=
  s.run (fun x => x.slotUpDelayExpireEff us)

/-- SLOT_QUALIFIED (R337): PG_x has been high for 8 samples and the STAB window, qualifying the slot and advancing
the sequence. -/
def execSlotQualified (stableUs : Nat) (s : State) : Host.Outcome State Fault Refusal :=
  s.run (fun x => x.slotQualifiedEff stableUs)

/-- SLOT_PG_TIMEOUT (R337): PG_TMAX expires before qualification; the slot fails with KIND TIMEOUT. -/
def execSlotPgTimeout (us : Nat) (s : State) : Host.Outcome State Fault Refusal :=
  s.run (fun x => x.slotPgTimeoutEff us)

/-- RAIL_FAILURE (R341): A rail failure takes the rails down fast, latches PWR_FAULT and enters Standby without a
flush. -/
def execRailFailure (slot : Nat) (s : State) : Host.Outcome State Fault Refusal :=
  s.run (fun x => x.railFailureEff slot)

/-- SLOT_DOWN_DELAY_EXPIRE (R340): A slot's DOWN_DELAY, or the 10 µs fast gap, expires and the next slot is taken
low; power-down ends with the last slot. -/
def execSlotDownDelayExpire (us : Nat) (s : State) : Host.Outcome State Fault Refusal :=
  s.run (fun x => x.slotDownDelayExpireEff us)

/-- POWER_BUTTON_SHORT (R345): A short press of PWRBTN_N is acted on at its release by mode. -/
def execPowerButtonShort (s : State) : Host.Outcome State Fault Refusal :=
  s.run (fun x => x.powerButtonShortEff)

/-- POWER_BUTTON_LONG (R345): A press held for LONG_PRESS starts Hold-up with CAUSE 0b010, applies the cap, or is an
off request. -/
def execPowerButtonLong (heldMs : Nat) (old : Bool) (s : State) : Host.Outcome State Fault Refusal :=
  s.run (fun x => x.powerButtonLongEff heldMs old)

/-- MRST (R346): MRST_N is recognised after 1 µs low and causes a warm reset, is latched or ignored by mode. -/
def execMrst (s : State) : Host.Outcome State Fault Refusal :=
  s.run (fun x => x.mrstEff)

/-- PWRFAIL_INPUT_LOSS (R347): PWRFAIL_N low for 1 µs counts as input loss and enters shed stage 3. -/
def execPwrfailInputLoss (s : State) : Host.Outcome State Fault Refusal :=
  s.run (fun x => x.pwrfailInputLossEff)

/-- SENSE_SAMPLE (R348): VIN_SENSE and HOLD_SENSE are sampled every 1 µs and shed-stage entry conditions are judged.
-/
def execSenseSample (vin hold : Nat) (s : State) : Host.Outcome State Fault Refusal :=
  s.run (fun x => x.senseSampleEff vin hold)

/-- SHED_STAGE_LEAVE (R359): The 50 ms window of stage 1 or 2 ends with VIN above threshold plus hysteresis and the
stage's actions are undone. -/
def execShedStageLeave (stage : Nat) (s : State) : Host.Outcome State Fault Refusal :=
  s.run (fun x => x.shedStageLeaveEff stage)

/-- MEASURED_LIMIT_RECOMPUTE (R351): The measured dirty limit is recomputed every 1 ms, or every 10 µs in shed stage
2. -/
def execMeasuredLimitRecompute (s : State) : Host.Outcome State Fault Refusal :=
  s.run (fun x => x.measuredLimitRecomputeEff)

/-- HOLDUP_TEST_START (R353): A due or requested hold-up test starts, inhibiting the charger and taking V0. -/
def execHoldupTestStart (rise v0 v1 : Nat) (s : State) : Host.Outcome State Fault Refusal :=
  s.run (fun x => x.holdupTestStartEff rise v0 v1)

/-- HOLDUP_TEST_FALL (R354): The fall reaches HOLD_DV or HOLD_TMAX passes; the load is removed and the outcome
decided. -/
def execHoldupTestFall (dtNs fall : Nat) (s : State) : Host.Outcome State Fault Refusal :=
  s.run (fun x => x.holdupTestFallEff dtNs fall)

/-- HOLD_CHG_WAIT_EXPIRE (R353): At Bring-up the bank is not settled within HOLD_CHG_MAX and the test ends FAILED. -/
def execHoldChgWaitExpire (sec : Nat) (s : State) : Host.Outcome State Fault Refusal :=
  s.run (fun x => x.holdChgWaitExpireEff sec)

/-- HOLDUP_TEST (R361): Command that runs a hold-up test and reports capacitance, ESR, usable energy and limit. -/
def execHoldupTest (pc : PortCmd) (rise v0 v1 : Nat) (s : State) : Host.Outcome State Fault Refusal :=
  s.run (fun x => x.holdupTestEff pc rise v0 v1)

/-- SET_SHED_LEVELS (R361): Command that sets the VIN shed thresholds and hysteresis, optionally persisting them. -/
def execSetShedLevels (pc : PortCmd) (warn1 warn2 pfail hyst : Nat) (persist : Bool)
    (s : State) : Host.Outcome State Fault Refusal :=
  s.run (fun x => x.setShedLevelsEff pc warn1 warn2 pfail hyst persist)

/-- POWER_OFF_REQUEST (R361): Command that starts the graceful Hold-up with CAUSE 0b001. -/
def execPowerOffRequest (pc : PortCmd) (noGrace : Bool) (s : State) : Host.Outcome State Fault Refusal :=
  s.run (fun x => x.powerOffRequestEff pc noGrace)

/-- OFF_GRACE_EXPIRE (R540): OFF_GRACE ends; CXL.mem is refused and Hold-up starts if the checkpoint has also ended.
-/
def execOffGraceExpire (ms : Nat) (s : State) : Host.Outcome State Fault Refusal :=
  s.run (fun x => x.offGraceExpireEff ms)

/-- SHUTDOWN_CHECKPOINT_DONE (R540): The shutdown checkpoint of every tile ends; Hold-up starts if OFF_GRACE has
also ended. -/
def execShutdownCheckpointDone (s : State) : Host.Outcome State Fault Refusal :=
  s.run (fun x => x.shutdownCheckpointDoneEff)

/-- SHUTDOWN_DEADLINE_EXPIRE (R540): One second after the trigger Hold-up starts however far the checkpoint has
come. -/
def execShutdownDeadlineExpire (s : State) : Host.Outcome State Fault Refusal :=
  s.run (fun x => x.shutdownDeadlineExpireEff)

/-- HOLDUP_ENTRY (R322): Hold-up is entered: trackers, allocation, fills and schedule stop and the flush begins on
every tile. -/
def execHoldupEntry (cause : Nat) (s : State) : Host.Outcome State Fault Refusal :=
  s.run (fun x => x.holdupEntryEff cause)

/-- HOLDUP_CAP_EXPIRE (R326): The force-off cap of (0.9 × u) ÷ p_h expires and the package acts as at the program
reserve. -/
def execHoldupCapExpire (sinceMs : Nat) (s : State) : Host.Outcome State Fault Refusal :=
  s.run (fun x => x.holdupCapExpireEff sinceMs)

/-- WARM_RESET (R315): A warm reset runs the flush, wipes tile memories and restarts Bring-up at step 2 without
taking the rails down. -/
def execWarmReset (cause : Nat) (s : State) : Host.Outcome State Fault Refusal :=
  s.run (fun x => x.warmResetEff cause)

end Sys2Proof.Machine
end

