-- ==== Sys2Proof/Machine/Protect.lean ====
section
/-! DEFINITION. Machine/Protect.lean: configuration state that parity protects and whose home is typed state: its register
words, and the return of one to the value it held at the end of the last Bring-up (15_registers.md R441, R442). -/

namespace Sys2Proof.Machine

open Sys2Proof

/-- 05_front_store.md FS_STATUS: DISABLED, DRAINING, WAYS_NEXT, WAYS. -/
def State.fsStatus (s : State) : W32 :=
  let m (x : FsMode) : Nat := maskOf 8 (fun t => decide (t < s.pop.tiles) && (s.tile t).fs.mode == x)
  regWord [(31, 24, m .disabled), (23, 16, m .draining), (3, 2, s.jobs.waysNext), (1, 0, s.jobs.ways)]

/-- 04_belfry.md BELFRY_PERIOD. -/
def State.belfryPeriod (s : State) : W32 := regWord [(19, 0, s.bel.period)]

/-- 04_belfry.md BELFRY_OFFSET: TILE_STAGGER, PHASE_OFFSET. -/
def State.belfryOffset (s : State) : W32 := regWord [(31, 16, s.bel.stagger), (15, 0, s.bel.offset)]

/-- 05_front_store.md FS_LIMIT_CAP of tile `t`. -/
def State.fsLimitCap (s : State) (t : Nat) : W32 := regWord [(20, 0, (s.tile t).fs.cap)]

/-- 11_power.md SEQ_SLOT_x of slot `i`. -/
def State.seqSlotWord (s : State) (i : Nat) : W32 := s.pw.slots.getD i 0

/-- R114: word `w` of the schedule read-back of tile `t`, four words an entry; 0 until a schedule is loaded. -/
def State.schedWord (s : State) (t w : Nat) : W32 :=
  match (s.tile t).bel.sched[w / 4]? with
  | some e => BitVec.ofNat 32 (leAt (schedEntryBytes e) (4 * (w % 4)) 4)
  | none => 0

/-- R123: word `j` of the profile read-back of tile `t`: entry 2j below, entry 2j + 1 above. -/
def State.profileWord (s : State) (t j : Nat) : W32 :=
  let p := (s.tile t).bel.profile
  regWord [(31, 16, p.getD (2 * j + 1) 0), (15, 0, p.getD (2 * j) 0)]

/-- 14_command_rings.md DB_SQ_TAIL of ring `r`. -/
def State.dbTailWord (s : State) (r : Nat) : W32 := regWord [(15, 0, (s.ring r).sqTail)]

/-- 14_command_rings.md DB_CQ_HEAD of ring `r`. -/
def State.dbHeadWord (s : State) (r : Nat) : W32 := regWord [(15, 0, (s.ring r).cqHead)]

/-- R441: the protected words whose home is typed state, by offset. -/
def State.typedRegs (s : State) : List (Nat × W32) :=
  [(Reg.FS_STATUS, s.fsStatus), (Reg.BELFRY_PERIOD, s.belfryPeriod), (Reg.BELFRY_OFFSET, s.belfryOffset),
   (Reg.SHED_LEVELS0, s.pw.levels.1), (Reg.SHED_LEVELS1, s.pw.levels.2)]
    ++ (List.range 16).map (fun i => (Reg.SEQ_SLOT + 4 * i, s.seqSlotWord i))
    ++ (List.range 64).map (fun r => (Reg.DB_SQ_TAIL r, s.dbTailWord r))
    ++ (List.range 64).map (fun r => (Reg.DB_CQ_HEAD r, s.dbHeadWord r))
    ++ (s.present.map (fun t =>
      (Reg.FS_LIMIT_CAP t, s.fsLimitCap t) :: (List.range 256).map (fun w => (Reg.BELFRY_SCHED_RB t + 4 * w, s.schedWord t w))
        ++ (List.range 16).map (fun j => (Reg.BELFRY_PROFILE_RB t + 4 * j, s.profileWord t j)))).flatten

/-- R442: what each register holds at the end of a Bring-up. -/
def State.takeSnapshot (s : State) : State :=
  { s with reg := { s.reg with snapshot := s.typedRegs.foldl (fun l e => aputD (regReset e.1) e.1 e.2 l) s.reg.vals } }

/-- R442: the value a register held at the end of the last Bring-up. -/
def State.snapReg (s : State) (off : Nat) : W32 := agetD off (regReset off) s.reg.snapshot

/-- R114: a schedule entry with word `w` of it replaced. -/
def SchedEntry.putWord (e : SchedEntry) (w : Nat) (v : W32) : SchedEntry :=
  let b := schedEntryBytes e
  schedEntryOf (b.take (4 * w) ++ leBytes 4 v.toNat ++ b.drop (4 * w + 4))

/-- R442: the register at `off` takes the value `v`: typed state whose word it is follows. -/
def State.putTyped (s : State) (off : Nat) (v : W32) : State :=
  if off = Reg.FS_STATUS then s.modJobs (fun j => { j with waysNext := fieldOf v 3 2, ways := fieldOf v 1 0 })
  else if off = Reg.BELFRY_PERIOD then s.modBel (fun b => { b with period := fieldOf v 19 0 })
  else if off = Reg.BELFRY_OFFSET then s.modBel (fun b => { b with stagger := fieldOf v 31 16, offset := fieldOf v 15 0 })
  else if off = Reg.SHED_LEVELS0 then s.modPw (fun p => { p with levels := (v, p.levels.2) })
  else if off = Reg.SHED_LEVELS1 then s.modPw (fun p => { p with levels := (p.levels.1, v) })
  else if Reg.SEQ_SLOT ≤ off ∧ off < Reg.SEQ_SLOT + 64 then
    s.modPw (fun p => { p with slots := lmod ((off - Reg.SEQ_SLOT) / 4) (fun _ => v) p.slots })
  else if 0x2000 ≤ off ∧ off < 0x2200 then
    s.modRing ((off - 0x2000) / 8) (fun g =>
      if off % 8 = 0 then { g with sqTail := fieldOf v 15 0 } else { g with cqHead := fieldOf v 15 0 })
  else
    let t := (off - 0x10000) / 0x2000
    let l := (off - 0x10000) % 0x2000
    if 0x10000 ≤ off ∧ l = 0x208 then s.modFs t (fun x => { x with cap := fieldOf v 20 0 })
    else if 0x10000 ≤ off ∧ 0x800 ≤ l ∧ l < 0xC00 then
      s.modBelT t (fun b => { b with sched := lmod ((l - 0x800) / 16) (fun e => e.putWord ((l - 0x800) / 4 % 4) v) b.sched })
    else if 0x10000 ≤ off ∧ 0xC00 ≤ l ∧ l < 0xC40 then
      let j := (l - 0xC00) / 4
      s.modBelT t (fun b => { b with profile := lmod (2 * j + 1) (fun _ => fieldOf v 31 16) (lmod (2 * j) (fun _ => fieldOf v 15 0) b.profile) })
    else s.setReg off v

end Sys2Proof.Machine
end

