-- ==== Sys2Proof/Machine/Modes.lean ====
section
/-! DEFINITION. Machine/Modes.lean: power-on of the island, loss of VAUX, the end of Hold-up, the mode commands and the
primary's failover (10_modes.md R311 to R335, 17_guestbook_parameter_store.md R480, R481, R492, 19_pins_electrical.md R520). -/

namespace Sys2Proof.Machine

open Sys2Proof

/-! ### The island leaves reset (R313, R480, R481, R492) -/

/-- R479: slots found with VALID and a bad CHECK. -/
def markBad (bad : List Nat) (l : List (Nat × GbSlot)) : List (Nat × GbSlot) :=
  l.map (fun e => if bad.contains e.1 then (e.1, { e.2 with good := false }) else e)

/-- R480: the newest valid record of an area: its position and number. -/
def newestSlot (l : List (Nat × GbSlot)) : Option (Nat × Nat) :=
  (l.filter (·.2.good)).foldl
    (fun b e => match b with
      | none => some (e.1, e.2.num)
      | some x => if x.2 < e.2.num then some (e.1, e.2.num) else some x) none

/-- R481: age clock and operating time of the newest GB_AGE_CLOCK record. -/
def Guestbook.ageWords (g : Guestbook) : Nat × Nat :=
  match ((g.circ.filter (fun e => e.2.good && e.2.entry.code == Gb.AGE_CLOCK)).foldl
    (fun (b : Option GbSlot) e => match b with
      | none => some e.2
      | some x => if x.num < e.2.num then some e.2 else some x) none) with
  | none => (0, 0)
  | some x =>
    let w (i : Nat) : Nat := (x.entry.data.getD i 0).toNat
    (w 0 + 2 ^ 32 * w 1, w 2 + 2 ^ 32 * w 3)

/-- R479, R480, R481: both areas are scanned: numbering goes on from the newest valid record, writing at the next sector, and
the six sectors from there on are erased. What stood in the island's SRAM is gone. -/
def Guestbook.scan (g : Guestbook) (badCirc badPerm : List Nat) : Guestbook :=
  let c := markBad badCirc g.circ
  let p := markBad badPerm g.permArea
  let (cPos, cNum) := match newestSlot c with
    | some x => ((x.1 / gbSlots + 1) % 1024 * gbSlots, x.2 + 1)
    | none => (0, 1)
  let (pPos, pNum) := match newestSlot p with
    | some x => ((x.1 / gbSlots + 1) * gbSlots, x.2 + 1)
    | none => (0, 1)
  let kept := adelWhere (fun k => (List.range 6).any (fun i => k / gbSlots == (cPos / gbSlots + i) % 1024)) c
  let age := ({ g with circ := c } : Guestbook).ageWords
  { circ := kept, permArea := p, circPos := cPos, circNext := cNum, permPos := pPos, permNext := pNum,
    circOldest := max g.circOldest (leastOr g.circOldest (kept.map (fun e => e.2.num))), permOldest := g.permOldest,
    permFull := g.permFull, ageMs := age.1, opTime := age.2 }

/-- R313, R520: VAUX rises and the island leaves reset: straps are sampled (bits 2:0 I3C_SA, bit 3 XTAL_BYP, bit 4 SCAN_EN),
Guestbook and Parameter Store are recovered, and the package enters Standby. -/
def State.islandPowerOnEff (s : State) (straps : Nat) (badCirc badPerm : List Nat) : State :=
  if s.md.mode != .off then s
  else
    let s1 := { s with reg := {}, gb := s.gb.scan badCirc badPerm }
    let s2 := (s1.psRecover).modGb (fun g => { g with checkReported := false })
    let s3 := s2.gbBadScan
    let owned (k : Nat) : Bool := ahas k s.sec.durKeys
    let s4 :=
      { s3 with
        sec := { slots := s.sec.slots, runSlot := s.sec.runSlot, durKeys := s.sec.durKeys, durSecrets := s.sec.durSecrets, stored := s.sec.durKeys,
                 secrets := s.sec.durSecrets, replacing := s.sec.replacing.filter (fun r => owned r.old && owned r.new) }
        pw := { vaux := true, rested := s.pw.rested }
        md := { perstHigh := s.md.perstHigh, fromOff := true, prev := s.md.prev, cause := s.md.cause, report := s.md.report, holdStep := s.md.holdStep }
        clk := { xtalWait := true }
        thm := { staticAddr := 0x30 + straps % 8, xtalByp := bitOf straps 3 } }
    let s5 := (s4.modClkT 0 (fun k => { k with onBackup := 1 })).modClkT 1 (fun k => { k with onBackup := 1 })
    let s6 := (((((s5.loadLc).loadPwrCtl).loadModeCtl).loadSlots).loadLevels).loadFans
    let s7 := if s.pw.fault then s6.event Gb.PWR_FAULT_CLEAR 15 [2] else s6
    let s8 := s7.setMode .standby
    if s8.regBit Reg.MODE_CTL 0 then s8.onRequest 2 else s8

/-- ISLAND_POWER_ON (R313): VAUX rises within its limits; the always-on island leaves reset, samples straps, restores the
Guestbook and Parameter Store, and the package enters Standby. With SCAN_EN high the part is in manufacturing test, outside
the specification (R520, R30). -/
def execIslandPowerOn (straps : Nat) (badCirc badPerm : List Nat) (s : State) : Host.Outcome State Fault Refusal :=
  if bitOf straps 4 then .fault .scanEnabled else s.run (fun x => x.islandPowerOnEff straps badCirc badPerm)

/-! ### Loss of VAUX (R313) -/

/-- R489, R493: a running commit is cut by the loss of VAUX where it stands. -/
def State.cutCommit (s : State) (cut : CommitCut) : State :=
  match s.ps.running with
  | none => s
  | some c =>
    match cut with
    | .beforeMarkerA => s.modPs (fun p => { p with copyA := { p.copyA with torn := p.copyA.torn ++ [c.seq] }, running := none })
    | .betweenCopies =>
      (s.modPs (fun p =>
        { p with copyA := (p.copyA.commit c.seq c.els).1, copyB := { p.copyB with torn := p.copyB.torn ++ [c.seq] }, running := none })).modSec
        (fun x => x.commitKeys c.els)
    | .done => s.psApply

/-- R313: VAUX is lost: everything outside flash, fuses and media is gone. `cut` says how far a running commit came. -/
def State.vauxLossEff (s : State) (cut : CommitCut) : State :=
  if s.md.mode == .off then s
  else
    let s1 := (s.cutCommit cut).mainReset
    { s1 with
      ps := { s1.ps with pendingSet := [], waiters := [], held := [], running := none, roomWait := [], unlocked := false, eraseBusy := false }
      gb := { circ := s1.gb.circ, permArea := s1.gb.permArea, circPos := s1.gb.circPos, permPos := s1.gb.permPos, circNext := s1.gb.circNext,
              permNext := s1.gb.permNext, circOldest := s1.gb.circOldest, permOldest := s1.gb.permOldest, permFull := s1.gb.permFull,
              erasesOwed := s1.gb.erasesOwed }
      reg := {}
      pw := { rested := s.pw.rested && s.pw.seq == .down, fault := s.pw.fault, faultSlot := s.pw.faultSlot, faultKind := s.pw.faultKind }
      clk := {}
      thm := { staticAddr := s.thm.staticAddr, xtalByp := s.thm.xtalByp }
      md := { mode := .off, prev := s.md.mode.code, perstHigh := s.md.perstHigh, cause := s.md.cause, report := s.md.report,
              holdStep := s.md.holdStep } }

/-- VAUX_LOSS (R313): VAUX is lost and the package goes Off from any mode. During Hold-up the loss is outside the
specification (R325, R30). -/
def execVauxLoss (cut : CommitCut) (s : State) : Host.Outcome State Fault Refusal :=
  if s.md.mode == .holdup then .fault .vauxLostInHoldup else s.run (fun x => x.vauxLossEff cut)

/-! ### Stage 4 and the end of Hold-up (R324) -/

/-- R324: steps H2 to H4 have ended on a tile: nothing counts as dirty, every commit has ended or stopped (R301), and no
accumulator slot is left; a tile whose reset Hold-up cut short is left out (12_clocks_resets.md R379). -/
def State.flushEnded (s : State) (t : Nat) : Bool :=
  let x := s.tile t
  x.clk.resetCut
    || (s.dirtyFrames t == 0 && x.xl.commits.all (fun c => c.stopped || c.step == .done) && x.cup.slots.isEmpty && x.car.slots.isEmpty)

/-- R324 step H5: journal staging is programmed; a MARK record of kind CLEAN_STOP comes last, on a tile whose commits all
reached step 4. -/
def State.stopJournal (s : State) (t : Nat) : State :=
  if (s.tile t).xl.mapState = 0 ∨ (s.tile t).clk.resetCut then s
  else
    let s1 := if (s.tile t).xl.commits.any (·.stopped) then s else s.jappend t (.mark 1)
    let x := (s1.tile t).xl
    (List.range ((x.jpos - x.jsent + 511) / 512)).foldl (fun a _ => a.journalProgram t) s1

/-- R324 step H6: the Guestbook buffer goes to flash, the age clock with it. -/
def State.flushGuestbook (s : State) : State :=
  let s1 := s.ageRecord
  (List.range (s1.gb.buf.length / 7 + 2)).foldl (fun a _ => a.gbWriteGroup false) s1

/-- R324 step H7, R459, R491: what the last commit takes: HOLDUP_REPORT, CLEAN = 1 when this run committed CLEAN = 0,
ATTEST_NEXT, and the commits that shed stage 2 held. -/
def State.lastParams (s : State) (elapsedMs : Nat) : State :=
  let v := s.md.report ||| BitVec.ofNat 32 (elapsedMs % 2 ^ 20 + 2 ^ 28 * 1
    + 2 ^ 26 * b2n (s.aliveTiles.any (fun t => (s.tile t).xl.commits.any (·.stopped))))
  let s1 := (s.psPut Param.HOLDUP_REPORT (leBytes 4 v.toNat)).modMd (fun d => { d with report := v })
  let s2 := if s.md.cleanCommitted then s1.psPut Param.SHUTDOWN_STATE (leBytes 4 1 ++ (s.psGet Param.SHUTDOWN_STATE).drop 4) else s1
  let s3 := s2.psPut Param.ATTEST ((s.psGet Param.ATTEST).take 8 ++ leBytes 8 s.sec.next)
  s3.psReleaseHeld.psRequest .holdup

/-- R324: stage 4 is entered once steps H2 to H4 have ended on every tile; `elapsedMs` is the time since entry that the report
will show. -/
def State.shedStage4EnterEff (s : State) (elapsedMs : Nat) : State :=
  if s.md.mode == .holdup && s.pw.seq == .up && (s.md.holdStep == .flush || s.md.holdStep == .slots) && s.aliveTiles.all s.flushEnded then
    let s1 := s.aliveTiles.foldl State.stopJournal (s.setStage 4)
    (s1.flushGuestbook.lastParams elapsedMs).modMd (fun d => { d with holdStep := .commit })
  else s

/-- R324, R233: every journal page that step H5 started is on the medium. -/
def State.journalOut (s : State) (t : Nat) : Bool :=
  let x := (s.tile t).xl
  x.mapState == 0 || (s.tile t).clk.resetCut || (x.jpages.all (·.done) && x.jsent == x.jpos)

/-- R357: the power drawn from entry to the end of step H7, in W. -/
def State.drawnPower (s : State) (ms : Nat) : Nat :=
  s.holdParam 2 1 * s.pw.cBank * (s.pw.entryV ^ 2 - s.pw.holdV ^ 2) / (2 * 10 ^ 12 * max 1 ms)

/-- R324, R313 transitions 12 and 13: the commit of step H7 ends, stage 4 is reached, and Standby follows after the rails, or
Bring-up at step 2 after the wipe. -/
def State.holdupCompleteEff (s : State) (elapsedMs : Nat) : State :=
  if s.md.mode == .holdup && s.pw.seq == .up && s.md.holdStep == .commit && s.aliveTiles.all s.journalOut then
    let s1 := s.psCommitNow.modPs (fun p => { p with waiters := [] })
    let s2 := (s1.modPw (fun p => { p with drawnW := s.drawnPower elapsedMs })).event Gb.HOLDUP_DONE 15 [elapsedMs, s.md.flushed]
    let s3 := s2.modMd (fun d => { d with holdStep := .railsDown })
    if s.md.cause = 3 ∨ s.md.cause = 4 ∨ s.md.warmLatched then
      let s4 := (((s3.modMd (fun d => { d with warmLatched := false })).setMode .bringup).judgeStage).modGb (fun g => { g with checkReported := false })
      s4.atTr true
    else s3.powerDown false
  else s

/-! ### Mode commands (R319, R334) -/

/-- R334: GET_MODE. -/
def State.getModeEff (s : State) (pc : PortCmd) : State :=
  s.porterRun pc 0x0002 false true (fun s =>
    s.ok pc [(3, s.md.mode.code), (12, s.md.causes), (3, s.md.primary), (8, s.md.failed), (8, s.md.sealed)])

/-- R319: no tracker holds a CXL.mem request. -/
def State.trackersEmpty (s : State) : Bool := s.present.all (fun h => (s.tile h).txn.tracker.isEmpty)

/-- R334, R319: SET_MODE: 0 OPERATE, 1 SERVICE, 2 RESTART. -/
def State.setModeEff (s : State) (pc : PortCmd) (target : Nat) : State :=
  s.porterRun pc 0x0003 true s.md.operating (fun s =>
    let wrong := s.fail pc .wrongMode s.md.mode.code
    if 2 < target then s.fail pc .invalidField 0
    else if target = 2 then (s.ok pc [(3, s.md.mode.code)]).prepStart 4 false
    else if target = 1 then
      if s.md.drain.isSome then s.fail pc .resourceBusy 0
      else if s.md.mode == .service then s.ok pc [(3, 7)]
      else s.modMd (fun d => { d with drain := some (pc.ring, pc.cid) })
    else if s.md.mode == .service && !s.md.serviceFail && !s.sec.romOnly && s.keysLoaded && !s.sec.withdrawn && s.sec.lcPending.isNone
        && (s.sec.lc == 1 || s.sec.lc == 2 || s.sec.lc == 3) then
      let s1 := s.enterMode s.md.target
      s1.ok pc [(3, s1.md.mode.code)]
    else wrong)

/-- R319, R121: the drain ends: no tracker entry holds a request, active sectors end, and the mode becomes Service. -/
def State.serviceDrainCompleteEff (s : State) (windowUs : Nat) : State :=
  match s.md.drain with
  | none => s
  | some (r, c) =>
    if s.md.inService3 && s.trackersEmpty then
      let s1 := s.present.foldl (fun a t =>
        ((List.range 64).filter (a.sectorOn t)).foldl (fun b i => b.sectorFinish t i windowUs) a) s
      let s2 := (s1.modMd (fun d => { d with drain := none })).enterMode .service
      s2.ok { ring := r, cid := c } [(3, s2.md.mode.code)]
    else s

/-! ### Failover (R327, R422) -/

/-- R327, R539: tile 1 takes over as primary. Causes: 0 heartbeats missed, 1 no route, 2 the island's own fault; `answers` says that
tile 0's logic still answers. -/
def State.primaryFailoverEff (s : State) (cause : Nat) (answers : Bool) : State :=
  if s.md.primary = 0 ∧ s.alive 1 ∧ (s.md.operating ∨ s.md.mode = .holdup ∨ (s.md.mode = .bringup ∧ s.pastTr)) then
    let s1 := (s.modMd (fun d => { d with primary := 1, failover := true })).declareFailed 0 6 answers
    let s2 := s1.porterAbort 2 2 true
    let s3 := (List.range 64).foldl (fun a r => if (a.ring r).state == .running then a.fetchStart r else a) s2
    ((s3.modSec (fun x => { x with next := x.reserved })).modThm (fun x => { x with rearm := [] })).event Gb.PRIMARY_FAILOVER 15 [cause + 1]
  else s

/-! ### The commands of this family -/

/-- SHED_STAGE4_ENTER (R358): Step H4 has ended on every tile; stage 4 runs steps H5 to H8. -/
def execShedStage4Enter (elapsedMs : Nat) (s : State) : Host.Outcome State Fault Refusal :=
  s.run (fun x => x.shedStage4EnterEff elapsedMs)

/-- HOLDUP_COMPLETE (R324): The Parameter Store commit of step H7 ends; stage 4 is reached and the rails go down or
Bring-up follows. -/
def execHoldupComplete (elapsedMs : Nat) (s : State) : Host.Outcome State Fault Refusal :=
  s.run (fun x => x.holdupCompleteEff elapsedMs)

/-- GET_MODE (R334): Command that returns the mode, causes, primary, failed and Sealed tiles. -/
def execGetMode (pc : PortCmd) (s : State) : Host.Outcome State Fault Refusal :=
  s.run (fun x => x.getModeEff pc)

/-- SET_MODE (R334): Command that moves to Service, back to operation or restarts. -/
def execSetMode (pc : PortCmd) (target : Nat) (s : State) : Host.Outcome State Fault Refusal :=
  s.run (fun x => x.setModeEff pc target)

/-- SERVICE_DRAIN_COMPLETE (R319): No tracker entry holds a CXL.mem request and the mode becomes Service. -/
def execServiceDrainComplete (windowUs : Nat) (s : State) : Host.Outcome State Fault Refusal :=
  s.run (fun x => x.serviceDrainCompleteEff windowUs)

/-- PRIMARY_FAILOVER (R327): Tile 1 takes over as primary from its mirrored island state. -/
def execPrimaryFailover (cause : Nat) (answers : Bool) (s : State) : Host.Outcome State Fault Refusal :=
  s.run (fun x => x.primaryFailoverEff cause answers)

end Sys2Proof.Machine
end

