-- ==== Sys2Proof/Machine/Boot.lean ====
section
/-! DEFINITION. Machine/Boot.lean: the steps of Bring-up from T_R to step 13 (10_modes.md R316 to R318, R329; 06_medium.md R193
to R196; 12_clocks_resets.md R367; 16_security.md R450 to R455, R463, R464, R470). -/

namespace Sys2Proof.Machine

open Sys2Proof

/-- R316: Bring-up is past T_R and step `n` is complete. -/
def State.booting (s : State) (n : Nat) : Bool := s.md.mode == .bringup && bitOf s.md.stepsDone n

/-- R318, R330: a tile fails self-test, or its PLLs or GDDR7 fail. When neither tile 0 nor tile 1 is left there is no primary. -/
def State.selfTestFail (s : State) (t : Nat) : State :=
  if !s.alive t then s
  else
    let none_ := (t == 0 || t == 1) && !(s.alive (1 - t))
    let s1 := s.bringupFail (if none_ then 2 else 5) t
    let s2 := s1.declareFailed t 5 false
    if t = 0 ∧ s2.alive 1 then s2.modMd (fun d => { d with primary := 1 }) else s2

/-! ### Steps 3 and 4: PLLs and links (R367, R316) -/

/-- R316 steps 3 and 4: once the PLLs of every tile have locked, the tile resets are released, Belfry's trim starts from a
stable crystal, and each head whose PERST_N is high starts to train. -/
def State.resetsProgress (s : State) : State :=
  if s.booting 2 && !bitOf s.md.stepsDone 3 && !s.md.mrstHold
      && s.aliveTiles.all (fun t => Nat.land (s.tile t).clk.pllLocked (s.pllsNeeded t) == s.pllsNeeded t) then
    let s1 := (s.stepDone 3).modMd (fun d => { d with resetsReleased := true })
    let s2 := if s1.clk.xtal = 1 then s1.trimBegin else s1
    ((s2.present.filter s2.mayTrain).foldl State.startTraining s2).stepDone 4
  else s

/-- R346: MRST_N returns high; a Bring-up that waits at step 2 proceeds. -/
def State.mrstNReleaseEff (s : State) : State := (s.modMd (fun d => { d with mrstLow := false, mrstHold := false })).resetsProgress

/-- R368, R373: the source of a PLL runs: PLLs that coast or whose source has failed cannot lock. -/
def State.pllFed (s : State) (t pll : Nat) : Bool :=
  if pll < 3 then s.clk.xtal != 2 else if pll < 5 then !bitOf (s.tile t).clk.coast 5 else if pll = 5 then !bitOf s.clk.refFail t else true

/-- R367: a PLL of a tile locks. -/
def State.pllLockEff (s : State) (tile pll : Nat) : State :=
  if s.tilesClocked && s.present.contains tile && decide (pll < 7) && s.pllFed tile pll then
    (s.modClkT tile (fun k => { k with pllLocked := setBit k.pllLocked pll })).resetsProgress
  else s

/-- R367: a PLL does not lock in time: it is restarted once, and then its tile fails self-test. -/
def State.pllLockTimeoutEff (s : State) (tile pll : Nat) : State :=
  if s.booting 2 && !bitOf s.md.stepsDone 3 && s.alive tile && decide (pll < 7) && !bitOf (s.tile tile).clk.pllLocked pll then
    if !bitOf (s.pllsNeeded tile) pll then s
    else if bitOf (s.tile tile).clk.pllRetried pll then (s.selfTestFail tile).resetsProgress
    else s.modClkT tile (fun k => { k with pllRetried := setBit k.pllRetried pll })
  else s

/-! ### Steps 5, 7 and 8: self-test, boot ROM, rings (R329, R451, R503) -/

/-- R316 step 8: rings, mailboxes and DOE are answered; the sampler loads its counters (18_performance_counters.md R503). -/
def State.step8 (s : State) : State :=
  if s.booting 6 && s.booting 7 && !bitOf s.md.stepsDone 8 then
    let plan := [0x0100, 0x0200, 0x0300, 0x0600, 0x31FF, 0x3400, 0x4002, 0x6100]
    let s1 := s.aliveTiles.foldl (fun a t =>
      plan.zipIdx.foldl (fun b e => b.setReg (selReg t (56 + e.2)) (perfSel true false false (if e.2 = 7 then 1 else 0) e.1)) a) s
    s1.stepDone 8
  else s

/-- R451 steps 1 to 3: FW_BOOT at a Bring-up. -/
def State.bootWord (s : State) : State :=
  let v0 := s.fwBoot
  let staged := 1 - s.sec.runSlot
  let v1 := if bitOf v0 4 ∧ s.md.prev = Mode.standby.code then v0 / 32 * 32 + staged + 2 else v0
  let out := bitOf v1 1 && fwTries v1 == 3
  let v2 := if out then v1 / 4 * 4 + (1 - v1 % 2) else v1
  let v3 := if bitOf v2 1 then fwPutTries v2 (fwTries v2 + 1) else v2
  let s1 := if out then s.latch Reg.SEC_ERR_STATUS 2 Gb.FW_FALLBACK 15 [v2 % 2, fwTries v1] else s
  (if v3 = v0 then s1 else s1.setFwBoot v3).psCommitNow

/-- R450, R451 step 5: a slot is tried; one that is read and fails is refused. -/
def State.trySlot (s : State) (i : Nat) : State × Bool :=
  if s.imageOk i then (s, true)
  else if bitOf s.fwBoot (5 + i) then (s, false)
  else (s.fwRefused i (s.imageFail i 1), false)

/-- R451 step 5, R455: PREFER is tried, then the other slot; when both fail, ROM-only Service follows. -/
def State.bootChoice (s : State) : State :=
  let s0 := s.bootWord
  let p := s0.fwBoot % 2
  let run (a : State) (i : Nat) : State := ((a.modSec (fun x => { x with booted := true, runSlot := i })).stepDone 7).step8
  match s0.trySlot p with
  | (a, true) => run a p
  | (a, false) =>
    match a.trySlot (1 - p) with
    | (b, true) => run (b.latch Reg.SEC_ERR_STATUS 2 Gb.FW_FALLBACK 15 [1 - p, fwTries b.fwBoot]) (1 - p)
    | (b, false) =>
      let c := (b.latch Reg.SEC_ERR_STATUS 2 Gb.FW_FALLBACK 15 [1 - p, fwTries b.fwBoot]).bringupFail 4 b.md.primary
      (c.modSec (fun x => { x with romOnly := true })).setMode .service

/-- R316 steps 5 and 7, R329, R330: built-in self-test of the tiles ends; `failed` has one bit per tile, and `badWays` names
the ways of Front Stores found bad. The primary's boot ROM then chooses an image. -/
def State.tileSelfTestDoneEff (s : State) (failed : Nat) (badWays : List (Nat × Nat)) : State :=
  if s.booting 3 && !bitOf s.md.stepsDone 5 then
    let s1 := (s.aliveTiles.filter (bitOf failed)).foldl State.selfTestFail s
    if s1.md.mode != .bringup then s1
    else
      let s2 := (s1.modMd (fun d => { d with primary := if s1.alive 0 then 0 else 1 })).stepDone 5
      let s3 := s2.aliveTiles.foldl (fun a t =>
        (a.modMed t (fun m => { m with chans := vmap (fun c => { c with st := 1 }) m.chans })).requestConv (roundSensors t 2 0xFF) 1) s2
      let s4 := (badWays.filter (fun e => s3.alive e.1)).foldl (fun a e => a.withdraw e.1 e.2) s3
      (s4.modPw (fun p => { p with chgWait := true, testDue := true })).bootChoice
  else s

/-! ### Step 6: media training (R193 to R196, R6) -/

/-- R193: a number rounded down to the grid of the estimate. -/
def ageGrid (n : Nat) : Nat := if n < 2 ^ 10 then 0 else 2 ^ min 34 (Nat.log2 n)

/-- Put a number into its place in an ascending list. -/
def insertAsc (x : Nat) : List Nat → List Nat
  | [] => [x]
  | y :: l => if x ≤ y then x :: y :: l else y :: insertAsc x l

/-- The median of a list; the mean of the middle two where their number is even. -/
def median (l : List Nat) : Nat :=
  let m := l.foldr insertAsc []
  let n := m.length
  (m.getD ((n - 1) / 2) 0 + m.getD (n / 2) 0) / 2

/-- R193: after a Bring-up from Off the age clock is advanced by the median of the rank estimates, when at least half of the
ranks have one. -/
def State.ageAdvance (s : State) : State :=
  if !s.md.fromOff then s
  else
    let l := ((s.aliveTiles.map (fun t => ((s.tile t).med.chans.toList.map (fun c => c.gains.map (·.2))).flatten)).flatten).map ageGrid
    let s1 := s.modMd (fun d => { d with fromOff := false })
    if l.isEmpty || 2 * l.length < s.pop.tiles * 8 * s.pop.ranks then s1
    else
      let d := ageGrid (median l)
      if d = 0 then s1
      else
        let s2 := s1.modGb (fun g => { g with ageMs := (g.ageMs + d) % 2 ^ 36 })
        (s2.event Gb.MED_AGE_ADVANCE 15 (gbWide d ++ [l.length])).ageRecord

/-- R468: stored elements that a wipe returns to their defaults. -/
def wiped (w target : Nat) (id : Nat) : Bool :=
  let n := id / 256
  let owner := match paramInfo? id with | some p => p.cls == .owner | none => false
  n == Param.MEDIA_KEYS / 256 || n == Param.LD_ALLOC / 256 || n == Param.DC_REGIONS / 256 || n == Param.DC_SHARE / 256
    || ((w == 1 || w == 2) && (n == Param.IMPORTED_KEYS / 256 || owner))
    || ((w == 1 || w == 2) && n == Param.OWNER_AUTH / 256 && target != 3)

/-- R470: the wipe of a pending life-cycle change runs: fuses, key tables, then formats, which extend step 11. -/
def State.lcWipe (s : State) : State :=
  match s.sec.lcPending with
  | none => s
  | some (target, w, gen) =>
    let keep (l : List (Nat × List Byte)) : List (Nat × List Byte) := adelWhere (wiped w target) l
    let forget (c : PsCopy) : PsCopy := { c with els := keep c.els, recPage := adelWhere (wiped w target) c.recPage }
    let fuse : Fuses := { s.fuse with gen := max s.fuse.gen gen, secret := (if w = 2 then BitVec.allOnes 256 else s.fuse.secret),
                                      terminal := s.fuse.terminal || w == 2 }
    let s1 := { s with fuse := fuse }
    let s2 := s1.modPs (fun p => { p with pendingSet := keep p.pendingSet, els := keep p.els, copyA := forget p.copyA, copyB := forget p.copyB })
    let s3 := s2.modSec (fun x =>
      { x with stored := [], keys := [], durKeys := [], replacing := [], granted := 0,
               secrets := (if w = 3 then x.secrets else []), durSecrets := (if w = 3 then x.durSecrets else []) })
    let s4 := s3.aliveTiles.foldl (fun a t => a.modXl t (fun x => { x with formatted := false })) { s3 with cap := {} }
    ((s4.loadRegs).loadFs).loadParity

/-- R316 step 6: every channel of the tiles in service has ended its training. -/
def State.mediaTrained (s : State) : Bool := s.aliveTiles.all (fun t => (s.tile t).med.chans.toList.all (fun c => decide (2 ≤ c.st)))

/-- R316 step 6: once every channel has ended its training, the age clock is advanced, tiles with two failed channels are
declared failed (R275), and a pending wipe runs. -/
def State.step6 (s : State) : State :=
  if s.booting 5 && !bitOf s.md.stepsDone 6 && s.mediaTrained then
    let s1 := s.ageAdvance
    let s2 := (s1.aliveTiles.filter (fun t => decide (2 ≤ ((s1.tile t).med.chans.toList.filter (fun c => c.st == 3)).length))).foldl
      (fun a t => a.declareFailed t 4 false) s1
    -- R12, R328: tile 1 is primary from step 5 when tile 0 is not usable
    let s2 := s2.modMd (fun d => { d with primary := if s2.alive 0 then 0 else 1 })
    if s2.md.mode != .bringup then s2 else ((s2.lcWipe).stepDone 6).step8
  else s

/-- R194 to R196: rank `r` is trained up to step `last`: its packets go out, its dies' READ_ID pages and base levels are taken up, and drift
calibration sets its table. -/
def State.rankTrained (s : State) (t c r last : Nat) (k : TrainRank) (tNow : Int) : State :=
  let live := (List.range 9).filter (fun d => !bitOf k.failed d)
  let s1 := s.modCh t c (fun x =>
    { x with ids := live.foldl (fun l d => aput (9 * r + d) (k.ids.getD d (0, 0)) l) x.ids,
             bases := live.foldl (fun l d => aput (9 * r + d) (baseTrim (k.ids.getD d (0, 0)).2) l) x.bases })
  let o := s1.calibrate t c r tNow k.sweeps
  let (act, other, used) := s1.calPlaces t c r
  let s2 := (trainCmds last c r k.ids o).foldl (fun a m => a.caSend t c r m) s1
  if last < 10 then s2
  else
    let s3 := s2.modCh t c (fun x =>
      { x with drift := aput r ((o.fit.map (·.1)).getD (factoryDrift (x.factoryWord r))) x.drift, calPages := x.calPages + o.pages.length,
               factory := if o.fit.isNone then setBit x.factory r else clearBit x.factory r,
               gains := match o.fit with | some f => aput r f.2 x.gains | none => adel r x.gains,
               calBlocks := aput r (act, other) x.calBlocks, calUsed := aput r used x.calUsed })
    let s4 := if o.fit.isNone then s3.latch (Reg.MED_CH_ERR_STATUS t + 0x10 * c) 6 Gb.MED_CAL_DEFAULT t [t, c, o.present] else s3
    ((List.range 9).filter (bitOf k.failed)).foldl (fun a d => a.dieFail t c r d) s4

/-- R4, R199: the ranks of a channel lie on the chip selects that their number asks for, the same number on every channel. -/
def State.ranksOk (s : State) (cs : Nat) : Bool := [1, 2, 4].contains s.pop.ranks && cs == 2 ^ s.pop.ranks - 1

/-- Identity words of the dies of a rank that did not fail. -/
def TrainRank.dies (k : TrainRank) : List Nat := ((List.range 9).filter (fun d => !bitOf k.failed d)).map (fun d => (k.ids.getD d (0, 0)).1)

/-- R6, R178, R199: every die that answered is an FXM64, and all of the package have one revision. -/
def State.diesOk (s : State) (ranks : List TrainRank) : Bool :=
  let new := (ranks.map TrainRank.dies).flatten
  let old := ((s.aliveTiles.map (fun t => ((s.tile t).med.chans.toList.map (fun c => c.ids.map (fun e => e.2.1))).flatten)).flatten)
  new.all isFxm64 && (match new ++ old with | [] => true | w :: l => l.all (fun v => dieRev v == dieRev w))

/-- R6: the population does not agree: Bring-up ends in Service. -/
def State.popMismatch (s : State) (tile : Nat) : State :=
  (((s.bringupFail 3 tile).event Gb.POP_MISMATCH 15 []).modMd (fun d => { d with serviceFail := true })).setMode .service

/-- R194, R195, R196, R6: a channel ends its training: `step` is the step that failed for the channel as a whole, 0 for none, `cs` the
chip selects on which ranks were found, `ranks` what was found on each rank, and `temp` the temperature of its thermistors in °C. -/
def State.channelTrainingDoneEff (s : State) (tile ch step cs : Nat) (ranks : List TrainRank) (temp : Option Int) : State :=
  if !s.alive tile || (s.chan tile ch).st != 1 || !(s.booting 5 || s.md.operating) then s
  else
    let boot := s.md.mode == .bringup
    let last := if step = 0 then 10 else step
    let ks := (List.range s.pop.ranks).map (fun r => (r, ranks.getD r {}))
    let agrees := s.ranksOk cs && s.diesOk (ks.map (·.2))
    if boot && !agrees && decide (4 ≤ last) then s.popMismatch tile
    else
      let s0 := s.modCh tile ch (fun c =>
        { c with ranks := 0, calPages := 0, calBoot := 0, gains := [], ids := [], bases := [],
                 temp := (match temp with | some x => some (x, s.gb.ageMs) | none => c.temp) })
      let s1 := ks.foldl (fun a e => if step = 0 ∧ agrees then a.modCh tile ch (fun c => { c with ranks := setBit c.ranks e.1 }) else a) s0
      let tNow := (s1.chTemp tile ch).1
      let s2 := ks.foldl (fun a e => a.rankTrained tile ch e.1 (if agrees then last else 4) e.2 tNow)
        (if step = 0 ∧ agrees then s1.modCh tile ch (fun c => { c with st := 2, trainTemp := some tNow }) else s1)
      if step ≠ 0 ∨ !agrees then
        let s3 := s2.channelFail tile ch (if step = 0 then 4 else step)
        (if boot then s3.bringupFail 6 tile else s3).step6
      else (if boot && (s2.chan tile ch).st == 3 then s2.bringupFail 6 tile else s2).step6

/-! ### Later sections, watchdog, GDDR7 (R450, R451, R316 step 9) -/

/-- R450: a later section of the running image was loaded and checked. -/
def State.sectionLoadCheckEff (s : State) (ok : Bool) : State :=
  if ok || !s.sec.booted || !s.booting 9 then s
  else
    let i := s.sec.runSlot
    let s1 := (s.setFwBoot (setBit s.fwBoot (5 + i))).psCommitNow
    (s1.fwRefused i 5).warmReset 4

/-- R451: the watchdog of 300 s that the boot ROM armed at step 7 expires before step 13. -/
def State.bootWatchdogExpireEff (s : State) : State :=
  if s.booting 7 && !bitOf s.md.stepsDone 13 then s.warmReset 4 else s

/-- R5: the density of a GDDR7 device in Gb as the package is populated. -/
def Pop.gbit (p : Pop) : Nat := if p.density24 then 24 else 32

/-- R316 step 9, R167, R318, R6: GDDR7 of a tile is trained and zero-filled, or fails. `gbits` are the densities in Gb of its two devices, which
must be equal, and the same on every tile (R5). -/
def State.gddr7TrainingDoneEff (s : State) (tile : Nat) (fail : Bool) (gbits : List Nat) : State :=
  if s.booting 5 && !bitOf s.md.stepsDone 9 && s.alive tile && !(s.tile tile).fs.ready then
    if !fail && !gbits.all (· == s.pop.gbit) then s.popMismatch tile
    else
    let s1 := if fail then s.selfTestFail tile else s.modFs tile (fun f => { f with ready := true })
    if s1.md.mode == .bringup && s1.aliveTiles.all (fun t => (s1.tile t).fs.ready) then s1.stepDone 9 else s1
  else s

/-! ### Steps 11 and 12 (R237, R463, R464) -/

/-- R488: LD block table, regions, share entries and extents, rebuilt from LD_ALLOC, DC_REGIONS and DC_SHARE. -/
def State.loadCapacity (s : State) : State :=
  let els (base n : Nat) : List (Nat × List Byte) := (List.range n).filterMap (fun i => (s.ps.raw? (base + i)).map (fun b => (i, b)))
  let ent (w : Nat) : BlockEnt := { kind := w / 2 ^ 30 % 4, ld := w / 2 ^ 23 % 128, region := w / 2 ^ 19 % 16, ldBlk := w % 65536 }
  let table : List (Nat × BlockEnt) := ((els Param.LD_ALLOC 224).map (fun e =>
    (List.range 256).filterMap (fun k =>
      let w := leAt e.2 (4 * k) 4
      if w / 2 ^ 30 % 4 = 0 then none
      else if w / 2 ^ 30 % 4 = 1 then some (256 * e.1 + k, ent w)
      else some (256 * e.1 + k, ({ kind := w / 2 ^ 30 % 4 } : BlockEnt))))).flatten
  let regions : List (Nat × Region) := ((els Param.DC_REGIONS 128).map (fun e =>
    (List.range 8).filterMap (fun r =>
      let g : Region := { base := leAt e.2 (8 * r) 2, len := leAt e.2 (8 * r + 2) 2, conf := bitOf (leAt e.2 (8 * r + 4) 1) 0,
                          share := bitOf (leAt e.2 (8 * r + 4) 1) 1, key := leAt e.2 (8 * r + 5) 1 }
      if g = {} then none else some (8 * e.1 + r, g)))).flatten
  let shares : List Share := ((els Param.DC_SHARE 64).map (fun e =>
    (List.range 128).filterMap (fun k =>
      let b := leAt e.2 (8 * k) 2
      if b = 0xFFFF then none
      else some ({ blk := b, ld := leAt e.2 (8 * k + 2) 1, region := leAt e.2 (8 * k + 3) 1, ldBlk := leAt e.2 (8 * k + 4) 2 } : Share)))).flatten
  let held : List (Nat × Nat) := (table.filter (fun e => e.2.kind == 1 && e.2.region != 15)).map (fun e => (16 * e.2.ld + e.2.region, e.2.ldBlk))
    ++ shares.map (fun h => (16 * h.ld + h.region, h.ldBlk))
  let owners := distinct (held.map (·.1))
  let extents := (owners.map (fun o =>
    (runsOf (o / 16) (o % 16) (((held.filter (fun e => e.1 == o)).map (·.2)).foldr insertAsc [])).map (fun x => { x with accepted := true }))).flatten
  let lds := s.sec.stored.filter (fun e => e.2.2.1 == 0 && !(s.sec.replacing.any (fun r => r.new == e.1)))
  let s1 := s.modCap (fun c => { c with table := table, regions := regions, shares := shares, extents := extents })
  let s2 := lds.foldl (fun a e => a.modLd e.2.2.2 (fun d => { d with key := e.1 })) s1
  let gone := (table.filter (fun e => e.2.kind == 3)).map (·.1)
  if gone.isEmpty then s2
  else (s2.modCap (fun c => { c with releases := [({ ld := 255, region := 15, start := 0, blks := gone, forced := false } : Release)] })).releaseBlocks gone

/-- R43: when no LD allocation is stored, LD 0 of each head gets an equal share; R463: a key that cannot be drawn leaves it without. -/
def State.defaultShares (s : State) (trngOk : Bool) : State :=
  if (List.range 224).any (fun i => (s.ps.raw? (Param.LD_ALLOC + i)).isSome) then s
  else
    let heads := s.present.filter (fun h => !(s.head h).upper)
    let m := s.pkgBlocks / heads.length
    (heads.foldl (fun a h => (a.setStatic (16 * h) m trngOk).1) s).psRequest .internal

/-- R463: every slot is unwrapped and loaded; one that unwraps from neither copy is lost. -/
def State.loadKeys (s : State) (keysBad : List Nat) : State :=
  let s1 := s.modSec (fun x =>
    { x with keys := (x.stored.filter (fun e => !(keysBad.contains e.1))).map (fun e => (e.1, e.2.1)), loaded := true })
  (s.sec.stored.filter (fun e => keysBad.contains e.1)).foldl (fun a e =>
    ((a.latch Reg.SEC_ERR_STATUS 5 Gb.SEC_KEY_LOST 15 [e.1, e.2.2.2]).bringupFail 8 0).modSec (fun x => { x with loaded := false })) s1

/-- R464: a replacement that was interrupted runs steps 2 and 3 again; one whose old slot is already gone has ended. -/
def State.resumeErases (s : State) : State :=
  let l := s.sec.replacing.filter (fun r => ahas r.old s.sec.stored)
  let l2 := l.map (fun r => { r with step := 2 })
  l2.foldl State.eraseStart (s.modSec (fun x => { x with replacing := l2 }))

/-- R103, R124, R125: Belfry's source, offsets and schedules from the Parameter Store. -/
def State.loadBelfry (s : State) : State :=
  let b := s.psGet Param.BELFRY_REF
  let src := leAt b 10 1 % 4
  let s1 := if src == 1 && s.phaseByTrim then s else s.setSource src
  let s2 := s1.modBel (fun x =>
    { x with period := leAt b 0 4 % 2 ^ 20, offset := leAt b 4 2, stagger := leAt b 6 2, domain := leAt b 8 2 % 1024,
             turnSet := if leAt b 17 1 % 2 = 1 then some (leAt b 12 5 % 2 ^ 36) else none })
  s2.aliveTiles.foldl State.loadSchedule s2

/-- R317, R281, R302: after a stop that did not reach stage 4 every stripe is unsynced, and Caravan resyncs every row it holds. -/
def State.afterUnclean (s : State) : State :=
  if !s.md.prevUnclean then s
  else
    let s1 := (s.modMd (fun d => { d with dirtyShutdown := true })).unsyncAll
    let s2 := if 0 < s1.stripes then (s1.setWindow 1).cupWorkStart 2 s1.stripes else s1
    s2.carQueue ((List.range 4096).filter (fun g => !(s2.groupRows g).isEmpty))

/-- R281, R302: parity that is LOST in the restored maps is resynced (notes/assumptions/146.md). -/
def State.afterLost (s : State) : State :=
  s.aliveTiles.foldl (fun a t => ((a.tile t).xl.map.filter (fun e => e.2.st == .lost)).foldl (fun b e => b.parityGone t e.1) a) s

/-- R470 step 5: the new life-cycle state and the end of LC_PENDING are committed together. -/
def State.lcEnd (s : State) : State :=
  match s.sec.lcPending with
  | none => s
  | some (target, w, _) =>
    let lc := if target = 0xE then s.sec.lc else target
    let s1 := (s.psPut Param.LC (lcBytes lc none)).psCommitNow
    (s1.modSec (fun x => { x with lc := lc, lcPending := none })).event Gb.LC_CHANGE 15 [s.sec.lc, lc, w]

/-- R316 step 12. -/
def State.step12 (s : State) (keysBad : List Nat) (trngOk : Bool) : State :=
  let s1 := (s.loadBelfry).loadKeys keysBad
  let s2 := s1.loadCapacity.defaultShares trngOk
  ((((s2.resumeErases).afterUnclean).afterLost.judgePeers).judgeSync).stepDone 12

/-- R316 steps 11 and 12, R237: a tile has restored its map; `lost`, `conflict` and `clearFails` are what it met
(`State.restoreTile`). When every tile has, the settings and keys are applied: `keysBad` are the slots that unwrap from
neither copy, `trngOk` that the random number generator passes its health tests. -/
def State.mapRestoreDoneEff (s : State) (tile : Nat) (lost conflict clearFails keysBad : List Nat) (trngOk : Bool) : State :=
  if s.booting 6 && s.booting 9 && s.alive tile && (s.tile tile).xl.mapState == 0 then
    let s1 := s.restoreTile tile lost conflict clearFails
    if s1.aliveTiles.all (fun t => (s1.tile t).xl.mapState != 0) then ((s1.lcEnd).stepDone 11).step12 keysBad trngOk else s1
  else s

/-! ### Step 13 (R317, R452) -/

/-- R452: the rollback floor rises to the running image's SVN, bit by bit. -/
def State.raiseFloor (s : State) : State :=
  let k := (s.fwSlot s.sec.runSlot).img
  if bitOf k.flags 0 && decide (s.fuse.svn < k.svn) then
    (List.range (k.svn - s.fuse.svn)).foldl (fun a _ =>
      let b := { a with fuse := { a.fuse with svn := a.fuse.svn + 1 } }
      b.event Gb.FW_FLOOR 15 [b.fuse.svn]) s
  else s

/-- R317: the conditions of step 13 hold, whatever the mode that follows. -/
def State.bringupReady (s : State) : Bool :=
  s.booting 8 && s.booting 9 && s.booting 10 && s.booting 11 && s.booting 12 && s.sec.booted && s.pw.measured != 0 && s.sec.replacing.isEmpty
    && s.sec.lcPending.isNone

/-- R317: SHUTDOWN_STATE with CLEAN = 0 is committed; its count grows when the previous value has CLEAN = 0. -/
def State.commitShutdown (s : State) : State :=
  let b := s.psGet Param.SHUTDOWN_STATE
  let n := leAt b 4 4 + b2n s.md.prevUnclean
  let s1 := s.psPut Param.SHUTDOWN_STATE (leBytes 4 0 ++ leBytes 4 n)
  (s1.psCommitNow).modMd (fun d => { d with cleanCommitted := true })

/-- R451: TRIAL is cleared when the trial image reaches step 13. -/
def State.endTrial (s : State) : State :=
  if bitOf s.fwBoot 1 && s.fwBoot % 2 == s.sec.runSlot then (s.setFwBoot (s.fwBoot - 2)).psCommitNow else s

/-- R467: the life-cycle state allows service. -/
def State.lcServes (s : State) : Bool := s.sec.lc == 1 || s.sec.lc == 2 || s.sec.lc == 3

/-- R317, R318, R320, R313 transitions 4 and 5: step 13 ends Bring-up; `elapsedMs` is the time since T_R. The registers as they
stand now are what a configuration scan restores (15_registers.md R442). -/
def State.bringupCompleteEff (s : State) (elapsedMs : Nat) : State :=
  if !s.bringupReady then s
  else
    let s1 := ((s.commitShutdown).endTrial).raiseFloor
    let s1 := if s1.pw.stage = 0 then s1 else s1.aliveTiles.foldl State.settleLevel s1
    let s2 := s1.takeSnapshot
    let s3 := ((s2.modMd (fun d => { d with elapsedMs := min 0xFFFFFF elapsedMs })).stepDone 13).event Gb.BRINGUP_DONE 15 [elapsedMs, s2.md.primary]
    let s4 := if s3.lcServes then s3 else s3.bringupFail 7 0
    if s4.md.serviceFail || !s4.lcServes || s4.regBit Reg.MODE_CTL 1 || !s4.keysLoaded then s4.setMode .service
    else s4.enterMode s4.md.target

/-! ### The commands of this family -/

/-- MRST_N_RELEASE (R346): MRST_N returns high and a Bring-up held at step 2 after a warm reset proceeds. -/
def execMrstNRelease (s : State) : Host.Outcome State Fault Refusal :=
  s.run (fun x => x.mrstNReleaseEff)

/-- PLL_LOCK (R367): A PLL stays locked for 1,024 reference cycles and its domain may leave reset. -/
def execPllLock (tile pll : Nat) (s : State) : Host.Outcome State Fault Refusal :=
  s.run (fun x => x.pllLockEff tile pll)

/-- PLL_LOCK_TIMEOUT (R367): A PLL fails to lock within 500 µs and is restarted once or counts as a tile self-test
failure. -/
def execPllLockTimeout (tile pll : Nat) (s : State) : Host.Outcome State Fault Refusal :=
  s.run (fun x => x.pllLockTimeoutEff tile pll)

/-- TILE_SELF_TEST_DONE (R316): Built-in self-test of the tiles ends and the primary is chosen. -/
def execTileSelfTestDone (failed : Nat) (badWays : List (Nat × Nat))
    (s : State) : Host.Outcome State Fault Refusal :=
  s.run (fun x => x.tileSelfTestDoneEff failed badWays)

/-- CHANNEL_TRAINING_DONE (R194): A media channel finishes training and drift calibration and goes up or fails. -/
def execChannelTrainingDone (tile ch step cs : Nat) (ranks : List TrainRank) (temp : Option Int)
    (s : State) : Host.Outcome State Fault Refusal :=
  s.runFuse (fun x => x.channelTrainingDoneEff tile ch step cs ranks temp)

/-- SECTION_LOAD_CHECK (R450): A later firmware section is checked at load; a failure marks the slot BAD and starts
a warm reset. -/
def execSectionLoadCheck (ok : Bool) (s : State) : Host.Outcome State Fault Refusal :=
  s.run (fun x => x.sectionLoadCheckEff ok)

/-- BOOT_WATCHDOG_EXPIRE (R451): Step 13 is not reached within 300 s and the boot ROM starts a warm reset. -/
def execBootWatchdogExpire (s : State) : Host.Outcome State Fault Refusal :=
  s.run (fun x => x.bootWatchdogExpireEff)

/-- GDDR7_TRAINING_DONE (R167): GDDR7 is trained and the front-store and service regions zero-filled. -/
def execGddr7TrainingDone (tile : Nat) (fail : Bool) (gbits : List Nat) (s : State) : Host.Outcome State Fault Refusal :=
  s.run (fun x => x.gddr7TrainingDoneEff tile fail gbits)

/-- MAP_RESTORE_DONE (R237): A tile finishes restoring its map from checkpoint and journal. -/
def execMapRestoreDone (tile : Nat) (lost conflict clearFails keysBad : List Nat) (trngOk : Bool)
    (s : State) : Host.Outcome State Fault Refusal :=
  s.run (fun x => x.mapRestoreDoneEff tile lost conflict clearFails keysBad trngOk)

/-- BRINGUP_COMPLETE (R317): Every condition holds at step 13; SHUTDOWN_STATE is committed and the mode is chosen. -/
def execBringupComplete (elapsedMs : Nat) (s : State) : Host.Outcome State Fault Refusal :=
  s.runFuse (fun x => x.bringupCompleteEff elapsedMs)

end Sys2Proof.Machine
end

