-- ==== Sys2Proof/Machine/Thermal.lean ====
section
/-! DEFINITION. Machine/Thermal.lean: temperature conversions, limits, rise watch, fans and the thermal commands
(13_thermal_sled.md R384 to R397, R403, R404). -/

namespace Sys2Proof.Machine

open Sys2Proof

/-! ### Sensors (R384, R387) -/

/-- THM_LIMITS register of a group. -/
def limitReg (g : Nat) : Nat := if g = 0 then Reg.THM_LIMITS_TILE else if g = 1 then Reg.THM_LIMITS_MEDIA else Reg.THM_LIMITS_SLED

/-- R390: limits are judged from step 8 of Bring-up and wherever the package operates. -/
def State.limitsJudged (s : State) : Bool := s.md.ringsRun

/-- R404: an event of a sensor is latched in its tile's register and in THM_ALERT; a bit that is set already counts a repeat. -/
def State.thermNote (s : State) (id : Nat) (bit : Option Nat) (alertBit code : Nat) (items : List Nat) : State :=
  let t := sensorTile id
  match bit with
  | some b =>
    if id < 512 then (s.latch (Reg.THM_TILE_ERR_STATUS t) b code t items).alert alertBit
    else (s.latch Reg.THM_ALERT alertBit code 15 items).alertLine
  | none => (s.latch Reg.THM_ALERT alertBit code t items).alertLine

/-- A reading in 1/8 °C as a 12-bit field. -/
def reading12 (v : Int) : Nat := (BitVec.ofInt 12 v).toNat

/-- R387: the channel estimate follows its thermistors: the higher of those not faulted, in whole °C. -/
def State.noteEstimate (s : State) (id : Nat) : State :=
  if sensorGroup id ≠ 1 then s
  else
    let t := id / 64
    let c := (id % 64 - 8) / 2
    let rd (k : Nat) : Option (Int × Nat) :=
      let x := s.sensor (64 * t + 8 + 2 * c + k)
      if x.fault then none else some (x.value, x.atMs)
    let est : Option (Int × Nat) := Option.map (fun (e : Int × Nat) => ((e.1 + 4) / 8, e.2)) <| match rd 0, rd 1 with
      | some a, some b => if a.1 < b.1 then some b else some a
      | some a, none => some a
      | none, b => b
    s.modCh t c (fun k => { k with temp := est })

/-! ### Limits (R390 to R394) -/

/-- HYST of THM_CTL; 0 acts as 1. -/
def State.hyst (s : State) : Int := (max 1 (s.fld Reg.THM_CTL 11 8) : Nat)

/-- R390: WARN of a sensor is judged: crossed at the limit, left after two readings at or below the limit less HYST. -/
def State.judgeWarn (s : State) (id : Nat) (v : Int) : State :=
  let g := sensorGroup id
  let x := s.sensor id
  let lim : Int := (fieldOf (s.getReg (limitReg g)) 15 8 : Nat)
  if !x.warn && decide (8 * lim ≤ v) then
    let s1 := s.modSensor id (fun k => { k with warn := true, warnLow := 0 })
    (s1.thermNote id (some 3) 0 Gb.THERM_WARN [sensorTile id, g, sensorNo id, signedWord v]).evtAll 1 { kind := 1, cause := 8, info := reading12 v }
  else if x.warn && decide (v ≤ 8 * (lim - s.hyst)) then
    s.modSensor id (fun k => if 1 ≤ k.warnLow then { k with warn := false, warnLow := 0 } else { k with warnLow := 1 })
  else s.modSensor id (fun k => { k with warnLow := 0 })

/-- R390: CRIT of a sensor is judged in the same way. -/
def State.judgeCrit (s : State) (id : Nat) (v : Int) : State :=
  let g := sensorGroup id
  let x := s.sensor id
  let lim : Int := (fieldOf (s.getReg (limitReg g)) 23 16 : Nat)
  if !x.crit && decide (8 * lim ≤ v) then
    let s1 := s.modSensor id (fun k => { k with crit := true, critLow := 0 })
    (s1.thermNote id (some 2) 1 Gb.THERM_CRIT [sensorTile id, g, sensorNo id, signedWord v]).evtAll 1 { kind := 1, cause := 8, info := reading12 v }
  else if x.crit && decide (v ≤ 8 * (lim - s.hyst)) then
    s.modSensor id (fun k => if 1 ≤ k.critLow then { k with crit := false, critLow := 0 } else { k with critLow := 1 })
  else s.modSensor id (fun k => { k with critLow := 0 })

/-- R394: the reading a rate is measured against: the newest one at least 1,000 ms old, within 2,000 ms. -/
def riseRef (now : Nat) (h : List (Nat × Int)) : Option (Nat × Int) := h.find? (fun e => decide (e.1 + 1000 ≤ now ∧ now ≤ e.1 + 2000))

/-- R394: the rise rate of a sensor is judged; a watch starts above RISE and ends after two rates at or below it. -/
def State.judgeRise (s : State) (id : Nat) (v : Int) (nowMs : Nat) : State :=
  let g := sensorGroup id
  let x := s.sensor id
  match riseRef nowMs x.hist with
  | none => s
  | some (t, r) =>
    let lim : Int := (fieldOf (s.getReg (limitReg g)) 7 0 : Nat)
    let num := (v - r) * 10000
    let den : Int := 8 * ((nowMs - t : Nat) : Int)
    if lim * den < num then
      let s1 := s.modSensor id (fun k => { k with rise := some 0 })
      if x.rise.isSome then s1
      else s1.thermNote id (some 1) 4 Gb.THERM_RISE [sensorTile id, g, sensorNo id, signedWord (num / den)]
    else
      match x.rise with
      | some 0 => s.modSensor id (fun k => { k with rise := some 1 })
      | some _ => s.modSensor id (fun k => { k with rise := none })
      | none => s

/-- R392: a reading at or above SHUT asks for a second conversion at once; a second one there is confirmed and acts as a long
press. -/
def State.judgeShut (s : State) (id : Nat) (v : Int) : State :=
  let g := sensorGroup id
  let lim : Int := (fieldOf (s.getReg (limitReg g)) 31 24 : Nat)
  let second := (s.sensor id).shutWait
  if v < 8 * lim then s.modSensor id (fun k => { k with shutWait := false })
  else if second then
    let s1 := s.modSensor id (fun k => { k with shutWait := false })
    (s1.thermNote id none 2 Gb.THERM_SHUT [sensorTile id, g, sensorNo id, signedWord v]).forceOff
  else (s.modSensor id (fun k => { k with shutWait := true })).requestConv [id] 1

/-! ### Waiting reads (R400, R403) -/

/-- The highest of the readings not faulted among sensors. -/
def State.maxReading (s : State) (ids : List Nat) : Option Int :=
  ids.foldl (fun (b : Option Int) i =>
    let x := s.sensor i
    if x.fault then b else match b with
      | none => some x.value
      | some y => some (max x.value y)) none

/-- R403: results of a TEMP_MEASURE. The maximum of a group with no good reading is left open. -/
def State.tempResults (s : State) (j : TempJob) : List (Nat × Nat) :=
  (List.range 3).map (fun g =>
    (12, match s.maxReading (j.named.filter (fun i => sensorGroup i == g)) with
      | some v => reading12 v
      | none => s.freeNow / 4096 ^ g % 4096)) ++ [(8, j.faults)]

/-- R403: commands whose last conversion has been made complete. -/
def State.tempDone (s : State) : State :=
  let ready := s.thm.jobs.filter (fun j => j.left.isEmpty)
  let s1 := s.modThm (fun x => { x with jobs := x.jobs.filter (fun j => !j.left.isEmpty) })
  ready.foldl (fun a j => (a.ok { ring := j.ring, cid := j.cid } (a.tempResults j)).bumpFree) s1

/-- R399: thermal sensors behind a PLDM sensor. -/
def pldmSensors (id : Nat) : List Nat :=
  if 1 ≤ id ∧ id ≤ 8 then [511 + id]
  else if 16 ≤ id ∧ id < 48 then
    let t := (id - 16) / 4
    if (id - 16) % 4 = 0 then (List.range 4).map (64 * t + ·)
    else if (id - 16) % 4 = 1 then (List.range 16).map (64 * t + 8 + ·)
    else [64 * t + 2 + (id - 16) % 4]
  else []

/-- R400: the reading of a thermal PLDM sensor: none when it is older than 2 s, faulted or unpowered. -/
def State.thermalReading (s : State) (id nowMs : Nat) : Option Int :=
  if (s.md.mode == .standby || s.md.mode == .off) && decide (16 ≤ id) then none
  else s.maxReading ((pldmSensors id).filter (fun i => decide (nowMs ≤ (s.sensor i).atMs + 2000)))

/-- R400: the fields of an answer to GetSensorReading: 1 and the value, or 0 for the state unavailable. -/
def readingFields : Option Int → List Nat
  | some v => [1, signedWord v]
  | none => [0]

/-- PLDM for platform monitoring: command code of GetSensorReading. -/
def PLDM_READING : Nat := 0x11

/-- R400: reads with rearm whose conversions have been made are answered. -/
def State.rearmDone (s : State) (nowMs : Nat) : State :=
  let ready := s.thm.rearm.filter (fun e => e.2.1.isEmpty)
  let s1 := s.modThm (fun x => { x with rearm := x.rearm.filter (fun e => !e.2.1.isEmpty) })
  ready.foldl (fun a e => a.emit (.sideband 1 PLDM_READING 0 (e.1 :: readingFields (a.thermalReading e.1 nowMs)))) s1

/-! ### Conversions (R386, R389) -/

/-- R388: a sector's round has ended on a tile: another one starts while its budget lasts. -/
def State.nextRound (s : State) (t : Nat) : State :=
  match s.sectorBudget t 7 8 with
  | none => s
  | some i =>
    let e := s.schedEntry t i
    let ids := roundSensors t e.arg e.chans
    if ids.any (fun k => (s.sensor k).request.isSome || s.converts k) then s else (s.requestConv ids 4).spend t i 8

/-- R403: a conversion that a TEMP_MEASURE waits for has ended; `bad` says that it was faulted. One that ran before does not serve it (R389). -/
def TempJob.note (sensor tile : Nat) (bad : Bool) (j : TempJob) : TempJob :=
  if j.skip.contains sensor then { j with skip := j.skip.filter (· != sensor) }
  else if j.left.contains sensor then
    { j with left := j.left.filter (· != sensor), faults := if bad then setBit j.faults tile else j.faults }
  else j

/-- R385: log2 of a number in [1, 2), given in 1/2^62, one binary digit at a time, after the digits `acc`. -/
def log2Digits : Nat → Nat → Nat → Nat
  | 0, _, acc => acc
  | n + 1, y, acc =>
    let z := y * y / 2 ^ 62
    if 2 ^ 63 ≤ z then log2Digits n (z / 2) (2 * acc + 1) else log2Digits n z (2 * acc)

/-- R385: log2 of a positive number in 1/2^48. -/
def log2Fix (a : Nat) : Nat := Nat.log2 a * 2 ^ 48 + log2Digits 48 (a * 2 ^ 62 / 2 ^ Nat.log2 a) 0

/-- R385: ln 2 in 1/2^48. -/
def LN2 : Int := 195103586505167

/-- R385: ln (a / b) in 1/2^48. -/
def lnRatio (a b : Nat) : Int := ((log2Fix a : Int) - log2Fix b) * LN2 / 2 ^ 48

/-- R385: the temperature in 1/8 °C, rounded to nearest, of a thermistor of `num / den` times its resistance at 25 °C: the B-parameter model
1 / T = 1 / 298.15 K + ln (num / den) / B. None beyond every temperature. -/
def thermistorTemp (beta num den : Nat) : Option Int :=
  let d : Int := 100 * beta * 2 ^ 48 + 29815 * lnRatio num den
  if 0 < d then some ((80 * (29815 * beta * 2 ^ 48) - 21847 * d) / (10 * d)) else none

/-- R384: the sensor is a thermistor. -/
def isThermistor (id : Nat) : Bool := decide (512 ≤ id) || decide (8 ≤ id % 64)

/-- R385, R386: what a conversion of `code` reads in 1/8 °C, none when it is faulted. A thermistor's code is its voltage in 1/65536 of THREF, open
above 0.985 and shorted below 0.015 (19_pins_electrical.md), against TH_PULLUP; a remote diode's code is its temperature in 1/8 K times its
ideality in 1/1,000 (notes/assumptions/150.md), divided by RD_IDEALITY; an on-die diode's code is its temperature. Parameters of 0 give no
temperature that the spec states: a free value. -/
def State.readingOf (s : State) (id : Nat) (code : Int) : Option Int :=
  let p := s.psGet Param.THERM_PARAMS
  let open_ : Int := (s.freeNow % 1641 : Nat) - 440
  let v : Option Int :=
    if isThermistor id then
      let c := code.toNat
      if 1000 * c < 15 * 65536 ∨ 985 * 65536 < 1000 * c then none
      else if leAt p 0 2 = 0 ∨ leAt p 2 2 = 0 ∨ leAt p 4 2 = 0 then some open_
      else thermistorTemp (leAt p 2 2) (leAt p 4 2 * c) ((65536 - c) * leAt p 0 2)
    else if id % 64 < 4 then some code
    else if leAt p 6 2 = 0 then some open_
    else some ((10 * code - 21847 * (leAt p 6 2 : Nat)) / (10 * (leAt p 6 2 : Nat)))
  v.filter (fun x => decide (-440 ≤ x ∧ x ≤ 1200))

/-- R386, R389: the conversion that a converter runs ends: `reading` is its code (`State.readingOf`), none for an input that is open or shorted;
`nowMs` is the age clock at its end. It feeds estimates, limits, rates and whoever waits for it, and the converter takes its next request. A
second conversion of R392 that is faulted ends the event (notes/assumptions/150.md). -/
def State.thermalConversionDoneEff (s : State) (sensor : Nat) (reading : Option Int) (nowMs : Nat) : State :=
  let conv := sensorTile sensor
  let prio := (agetD conv (0, 0) s.thm.converting).2
  if !s.converts sensor || !s.convAllowed sensor prio then s
  else
    let s := (s.modThm (fun x => { x with converting := adel conv x.converting })).bumpFree
    let good := reading.bind (s.readingOf sensor)
    let g := sensorGroup sensor
    let s1 := match good with
      | none =>
        ((s.modSensor sensor (fun k => { k with fault := true, shutWait := false })).noteEstimate sensor).thermNote sensor
          (some 0) 6 Gb.THERM_SENSOR [sensorTile sensor, g, sensorNo sensor]
      | some v =>
        let a := s.modSensor sensor (fun k =>
          { k with value := v, fault := false, atMs := nowMs,
                   hist := (nowMs, v) :: k.hist.filter (fun e => decide (nowMs ≤ e.1 + 2000)) })
        let b := a.noteEstimate sensor
        let c := if b.limitsJudged then ((b.judgeWarn sensor v).judgeCrit sensor v).judgeRise sensor v nowMs else b
        if c.limitsJudged || c.md.mode == Mode.holdup then c.judgeShut sensor v else c
    let tileBit := if 512 ≤ sensor then s1.md.primary else sensor / 64
    let s2 := s1.modThm (fun x =>
      { x with jobs := x.jobs.map (TempJob.note sensor tileBit good.isNone),
               rearm := x.rearm.map (fun e => (e.1, if e.2.2.contains sensor then (e.2.1, e.2.2.filter (· != sensor)) else (e.2.1.filter (· != sensor), e.2.2))) })
    ((s2.tempDone.rearmDone nowMs).nextRound (if 512 ≤ sensor then s2.md.primary else sensor / 64)).convStart conv

/-- R394, R389: 10 ms have passed since the last conversion of a sensor whose rise watch runs; in Hold-up it asks for none. -/
def State.riseWatchTimerEff (s : State) (sensor : Nat) : State :=
  if (s.sensor sensor).rise.isSome && s.sensorExists sensor && s.md.mode != .holdup then s.requestConv [sensor] 1 else s

/-- R388: the oldest sensor of a group of a tile, for MEDIA of the channels given, has had no conversion for `ms`; after GUARD the guard asks for
one. -/
def State.thermalGuardExpireEff (s : State) (tile group chans ms : Nat) : State :=
  if s.fld Reg.THM_CTL 7 4 = 0 ∨ ms < 100 * s.fld Reg.THM_CTL 7 4 ∨ s.md.mode = .off ∨ 3 ≤ group ∨ (group < 2 ∧ !s.alive tile) then s
  else s.requestConv (roundSensors tile (2 ^ group) chans) 3

/-- R393: the trip comparator of a tile fires. -/
def State.thermalTripEff (s : State) (tile : Nat) : State :=
  if s.md.mode == .off || s.md.mode == .standby || !s.present.contains tile then s
  else ((s.latch Reg.THM_ALERT 3 Gb.THERM_TRIP tile [tile]).alertLine).forceOff

/-! ### Fans (R395, R396) -/

/-- R396: fans are powered from Bring-up on. -/
def State.fansOn (s : State) : Bool := s.md.mode != .off && s.md.mode != .standby

/-- R396: the fan loop runs; in Hold-up each fan keeps its duty. -/
def State.fansRun (s : State) : Bool := s.fansOn && s.md.mode != .holdup

/-- R397: the tach of a fan is read: it is enabled and no GPIO function owns the input. -/
def State.tachOn (s : State) (n : Nat) : Bool := (vget n {} s.thm.fans).tachEn && !bitOf (s.fld Reg.THM_GPIO_CTL 3 0) n

/-- R395: duty of a curve at `x` in 1/8 °C, rounded to nearest with halves upward. -/
def curveDuty (x : Int) : List (Int × Nat) → Nat
  | [] => 0
  | [p] => p.2
  | p :: q :: l =>
    if x ≤ 8 * p.1 then p.2
    else if x < 8 * q.1 then
      let num := (x - 8 * p.1) * ((q.2 : Int) - p.2)
      let den := 8 * (q.1 - p.1)
      (p.2 + (2 * num + den) / (2 * den)).toNat
    else curveDuty x (q :: l)

/-- R395: the highest reading of a group not faulted and not older than 2 s. -/
def State.groupReading (s : State) (g nowMs : Nat) : Option Int :=
  s.maxReading ((s.thm.sensors.filter (fun e => sensorGroup e.1 == g && decide (nowMs ≤ e.2.atMs + 2000))).map (·.1))

/-- R390, R394: a group demands full duty: WARN or CRIT is crossed, or a rise watch of TILE or SLED runs. -/
def State.groupHot (s : State) (g : Nat) : Bool :=
  s.thm.sensors.any (fun e => sensorGroup e.1 == g && (e.2.warn || e.2.crit || (g != 1 && e.2.rise.isSome)))

/-- R395: one update of fan `n`. -/
def State.fanUpdate (s : State) (nowMs rpm n : Nat) (f : Fan) : Fan :=
  if !f.enable then { f with duty := 0, rpm := 0, override := false, failsafe := false }
  else
    let gs := (List.range 3).filter (bitOf f.groups)
    let safe := gs.any (fun g => (s.groupReading g nowMs).isNone)
    let full := safe || gs.any s.groupHot || s.thm.fans.toList.zipIdx.any (fun e => e.2 != n && e.1.failed)
    let curve := gs.foldl (fun d g => match s.groupReading g nowMs with
      | some x => max d (curveDuty x (f.curves.getD g []))
      | none => d) f.minDuty
    let tgt := if full then 255 else curve
    { f with duty := if f.duty < tgt then tgt else max tgt (f.duty - 5), override := full, failsafe := safe,
             rpm := if s.tachOn n then min 0xFFFF rpm else 0 }

/-- R395: every 100 ms each fan's duty is worked out anew; `rpms` are the speeds measured. -/
def State.fanLoopUpdateEff (s : State) (nowMs : Nat) (rpms : List Nat) : State :=
  if s.fansRun then
    s.modThm (fun x => { x with fans := vmapI (fun i f => s.fanUpdate nowMs (rpms.getD i 0) i f) x.fans })
  else s

/-- Change fan `n`. -/
def State.modFan (s : State) (n : Nat) (f : Fan → Fan) : State := s.modThm (fun x => { x with fans := vmod n f x.fans })

/-- R396: a fan has stayed below STALL_RPM for 3 s at a duty of at least 77/255: it is FAILED. -/
def State.fanStallEff (s : State) (fan rpm : Nat) : State :=
  let f := vget fan {} s.thm.fans
  if s.fansRun && decide (fan < 4) && f.enable && s.tachOn fan && !f.failed && decide (77 ≤ f.duty ∧ rpm < f.stallRpm) then
    ((s.modFan fan (fun k => { k with failed := true, rpm := rpm })).latch Reg.THM_ALERT 5 Gb.FAN_FAIL 15 [fan, f.duty, rpm]).alertLine
  else s

/-- R396: a failed fan has stayed at or above STALL_RPM for 3 s: it recovers. -/
def State.fanRecoverEff (s : State) (fan rpm : Nat) : State :=
  let f := vget fan {} s.thm.fans
  if s.fansRun && decide (fan < 4) && f.failed && decide (f.stallRpm ≤ rpm) then
    (s.modFan fan (fun k => { k with failed := false, rpm := min 0xFFFF rpm })).event Gb.FAN_RECOVER 15 [fan, rpm]
  else s

/-! ### Thermal commands (R403) -/

/-- R403: TEMP_MEASURE. -/
def State.tempMeasureEff (s : State) (pc : PortCmd) (tileMask groups chans : Nat) : State :=
  s.porterRun pc 0x0800 false true (fun s =>
    s.checkFields pc [decide (tileMask < 2 ^ s.pop.tiles), decide (groups ≠ 0)] (fun s =>
      let ids := (((s.aliveTiles.filter (bitOf tileMask)).map (fun t => roundSensors t (groups % 4) chans)).flatten) ++
        roundSensors 0 (groups / 4 * 4) 0
      let j : TempJob := { ring := pc.ring, cid := pc.cid, left := ids, named := ids, skip := ids.filter s.converts }
      ((s.modThm (fun x => { x with jobs := x.jobs ++ [j] })).requestConv ids 5).tempDone))

/-- R403: SET_RISE_LIMITS. -/
def State.setRiseLimitsEff (s : State) (pc : PortCmd) (group warn crit shut rise : Nat) (persist : Bool) : State :=
  s.porterRun pc 0x0801 true s.md.operating (fun s =>
    s.checkFields pc [decide (group < 3), true, true, group != 0 || decide (shut ≤ 125), decide (5 ≤ rise)] (fun s =>
      if !(thermLimitsOk group warn crit shut rise) then s.fail pc .invalidField 0xFF
      else
        let v := shut * 2 ^ 24 + crit * 2 ^ 16 + warn * 2 ^ 8 + rise
        let s1 := (s.setReg (limitReg group) (BitVec.ofNat 32 v)).ok pc []
        if persist then s1.psPersist pc [(Param.THERM_LIMITS + group, leBytes 4 v)] else s1))

/-- R403: FAN_CONFIG; `buf` is the 32-byte record. -/
def State.fanConfigEff (s : State) (pc : PortCmd) (fan bufAddr : Nat) (persist : Bool) (buf : List Byte) : State :=
  s.porterRun pc 0x0802 true s.md.operating (fun s =>
    s.checkFields pc [true, aligned64 bufAddr && fanRecordOk buf] (fun s =>
      if bitOf (leAt buf 0 1) 1 && bitOf (s.fld Reg.THM_GPIO_CTL 3 0) fan then s.fail pc .resourceBusy 2
      else
        let s0 := s.modFan fan (fun f => fanOf f buf)
        let freed := (vget fan {} s.thm.fans).tachEn && !(vget fan {} s0.thm.fans).tachEn && s.bootGpio fan
        let s1 := if freed then s0.setFld Reg.THM_GPIO_CTL 3 0 (setBit (s.fld Reg.THM_GPIO_CTL 3 0) fan) else s0
        let f := vget fan {} s1.thm.fans
        let s2 := s1.ok pc [(16, f.rpm), (8, f.duty)]
        if persist then s2.psPersist pc [(Param.FAN_RECORDS + fan, padTo 32 buf)] else s2))

/-! ### The commands of this family -/

/-- THERMAL_CONVERSION_DONE (R389): A sensor conversion ends and feeds estimates, limits, rates and fans. -/
def execThermalConversionDone (sensor : Nat) (reading : Option Int) (nowMs : Nat)
    (s : State) : Host.Outcome State Fault Refusal :=
  s.run (fun x => x.thermalConversionDoneEff sensor reading nowMs)

/-- RISE_WATCH_TIMER (R394): 10 ms since the last conversion of a watched sensor requests another. -/
def execRiseWatchTimer (sensor : Nat) (s : State) : Host.Outcome State Fault Refusal :=
  s.run (fun x => x.riseWatchTimerEff sensor)

/-- THERMAL_GUARD_EXPIRE (R388): A sensor group has had no conversion for GUARD × 100 ms and a round is requested. -/
def execThermalGuardExpire (tile group chans ms : Nat) (s : State) : Host.Outcome State Fault Refusal :=
  s.run (fun x => x.thermalGuardExpireEff tile group chans ms)

/-- THERMAL_TRIP (R393): The trip comparator fires and acts as a confirmed SHUT. -/
def execThermalTrip (tile : Nat) (s : State) : Host.Outcome State Fault Refusal :=
  s.run (fun x => x.thermalTripEff tile)

/-- FAN_LOOP_UPDATE (R395): Every 100 ms each fan's duty is recomputed from its curves. -/
def execFanLoopUpdate (nowMs : Nat) (rpms : List Nat) (s : State) : Host.Outcome State Fault Refusal :=
  s.run (fun x => x.fanLoopUpdateEff nowMs rpms)

/-- FAN_STALL (R396): A fan below STALL_RPM for 3 s is FAILED and others run at full duty. -/
def execFanStall (fan rpm : Nat) (s : State) : Host.Outcome State Fault Refusal :=
  s.run (fun x => x.fanStallEff fan rpm)

/-- FAN_RECOVER (R396): A failed fan above STALL_RPM for 3 s recovers. -/
def execFanRecover (fan rpm : Nat) (s : State) : Host.Outcome State Fault Refusal :=
  s.run (fun x => x.fanRecoverEff fan rpm)

/-- TEMP_MEASURE (R403): Command that requests conversions and returns maxima. -/
def execTempMeasure (pc : PortCmd) (tileMask groups chans : Nat)
    (s : State) : Host.Outcome State Fault Refusal :=
  s.run (fun x => x.tempMeasureEff pc tileMask groups chans)

/-- SET_RISE_LIMITS (R403): Command that sets a group's WARN, CRIT, SHUT and RISE. -/
def execSetRiseLimits (pc : PortCmd) (group warn crit shut rise : Nat) (persist : Bool)
    (s : State) : Host.Outcome State Fault Refusal :=
  s.run (fun x => x.setRiseLimitsEff pc group warn crit shut rise persist)

/-- FAN_CONFIG (R403): Command that loads a fan record. -/
def execFanConfig (pc : PortCmd) (fan bufAddr : Nat) (persist : Bool) (buf : List Byte)
    (s : State) : Host.Outcome State Fault Refusal :=
  s.run (fun x => x.fanConfigEff pc fan bufAddr persist buf)

end Sys2Proof.Machine
end

