-- ==== Sys2Proof/Machine/Flags.lean ====
section
/-! DEFINITION. Machine/Flags.lean: what every register reads: the words that the block computes from its state, chapter by
chapter, and `regView`, which gives the word at an offset (15_registers.md R430, R445). Registers that no function here
computes are held in the register file. -/

namespace Sys2Proof.Machine

open Sys2Proof

/-- A signed number in `w` bits. -/
def signedField (w : Nat) (v : Int) : Nat := (BitVec.ofInt w v).toNat

/-! ### Modes (10_modes.md) -/

/-- 10_modes.md MODE_STATUS. -/
def State.modeStatus (s : State) : W32 :=
  regWord [(31, 29, s.md.mode.code), (28, 26, s.md.prev), (25, 23, s.md.primary), (22, 22, b2n s.md.failover),
    (21, 21, b2n s.md.dirtyShutdown), (20, 20, b2n s.md.drain.isSome)]

/-- 10_modes.md MODE_CAUSE. -/
def State.modeCause (s : State) : W32 := regWord [(31, 24, s.md.sealed), (23, 16, s.md.failed), (11, 0, s.md.causes)]

/-- 10_modes.md BRINGUP_STATUS. -/
def State.bringupStatus (s : State) : W32 := regWord [(31, 28, s.md.step), (27, 24, s.md.failCause), (23, 0, s.md.elapsedMs)]

/-! ### Porter (14_command_rings.md) -/

/-- 14_command_rings.md RING_STATUS of ring `r`. -/
def State.ringStatus (s : State) (r : Nat) : W32 :=
  let g := s.ring r
  regWord [(31, 30, g.state.code), (29, 27, g.head), (26, 22, g.inflight), (15, 0, g.sqHead)]

/-- 14_command_rings.md RING_CQ_POS of ring `r`. -/
def State.ringCqPos (s : State) (r : Nat) : W32 := regWord [(31, 31, b2n (s.ring r).phase), (15, 0, (s.ring r).cqTail)]

/-- 14_command_rings.md PORTER_STATUS: rings not DISABLED, commands executing. -/
def State.porterStatus (s : State) : W32 :=
  regWord [(30, 24, (s.porter.rings.toList.filter (fun g => g.state != .disabled)).length),
    (8, 0, total (s.porter.rings.toList.map (fun g => (g.execs.filter (fun e => e.result.isNone)).length)))]

/-! ### Front Store, Translation, integrity (05_front_store.md, 07_translation.md, 08_integrity.md) -/

/-- 05_front_store.md FS_GEOMETRY. -/
def State.fsGeometry (s : State) : W32 := regWord [(31, 31, b2n s.pop.density24), (20, 0, framesOf s.pop)]

/-- 05_front_store.md FS_TILE_STATUS: STATE, EPOCH, OLDEST, DIRTY_FRAMES. -/
def State.fsTileStatus (s : State) (t : Nat) : W32 :=
  let x := (s.tile t).fs
  let dirty := (x.frames.filter (fun e => e.2.countsDirty)).map (·.1)
  regWord [(31, 30, match x.mode with | .enabled => 0 | .draining => 1 | .disabled => 2), (29, 27, x.epoch),
    (26, 24, match s.oldest t dirty with | some f => (s.frame t f).epoch | none => x.epoch), (20, 0, s.dirtyFrames t)]

/-- 05_front_store.md FS_DIRTY_LIMIT: the first of the equal terms of R147, or write-through under R148. -/
def State.fsDirtyLimit (s : State) (t : Nat) : W32 :=
  let n := s.effLimit t
  let src := if s.writeThrough t then 3 else if n = (s.tile t).fs.measured then 0 else if n = s.capEff t then 1 else 2
  if (s.tile t).fs.ready then regWord [(31, 30, src), (20, 0, n)] else 0

/-- 05_front_store.md FS_WITHDRAWN. -/
def State.fsWithdrawn (s : State) (t : Nat) : W32 :=
  let n := (s.tile t).fs.withdrawn.length
  regWord [(5, 5, b2n (n != 0)), (4, 0, n)]

/-- 07_translation.md XL_TILE_STATUS. -/
def State.xlTileStatus (s : State) (t : Nat) : W32 :=
  let x := (s.tile t).xl
  regWord [(31, 30, x.mapState), (29, 29, b2n (bitOf s.md.sealed t)), (28, 26, x.spareLevel),
    (25, 25, b2n (x.mapState != 0 && (List.range s.planes).any (s.planeUrgent t))),
    (24, 24, b2n (x.commits.any (fun c => c.step == .journal))), (23, 16, x.gcActive.length), (15, 8, x.batches.length)]

/-- 07_translation.md XL_RETIRED: RETIRING and RETIRED blocks. -/
def State.xlRetired (s : State) (t : Nat) : W32 :=
  regWord [(21, 0, ((s.tile t).xl.blocks.filter (fun e => e.2.st == .retiring || e.2.st == .retired)).length)]

/-- 07_translation.md R242 XL_REBUILD: map lines awaiting rebuild, 16 entries a line. -/
def State.xlRebuild (s : State) (t : Nat) : W32 :=
  match (s.tile t).xl.rebuildAt with
  | none => 0
  | some n => regWord [(24, 0, s.segs / 16 - n - ((s.tile t).xl.fetched.filter (fun l => decide (n ≤ l))).length)]

/-- 08_integrity.md INT_SCRUB PERCENT: pages that the visits of this pass have reached, of the pages to visit. -/
def State.scrubPercent (s : State) (t : Nat) : Nat :=
  let chs := (List.range 8).filter (fun c => (s.chan t c).st == 2)
  let all := total (chs.map (fun c => (s.scrubPages t c).length))
  let seen := total (chs.map (fun c =>
    if bitOf (s.tile t).int.wrapped c then (s.scrubPages t c).length
    else match (s.chan t c).scrubAt with
      | some a => ((s.scrubPages t c).filter (fun p => decide (p ≤ a))).length
      | none => 0))
  if all = 0 then 0 else 100 * seen / all

/-- 08_integrity.md INT_SCRUB. -/
def State.intScrub (s : State) (t : Nat) : W32 := regWord [(31, 16, (s.tile t).int.passes), (6, 0, s.scrubPercent t)]

/-- 08_integrity.md INT_REFRESH. -/
def State.intRefresh (s : State) (t : Nat) : W32 :=
  regWord [(19, 17, (s.tile t).int.armed.length), (16, 0, (s.tile t).int.queue.length)]

/-- 08_integrity.md CUP_STATUS CODE: 1 mirror, 2 3+1, 3 7+1; 0 when no region is enabled. -/
def State.cupCode (s : State) : Nat :=
  if s.cup.regions = 0 then 0 else if s.pop.tiles = 2 then 1 else if s.pop.tiles = 4 then 2 else 3

/-- 08_integrity.md CUP_STATUS. -/
def State.cupStatus (s : State) : W32 :=
  regWord [(31, 30, s.cupCode), (29, 25, s.cup.regions), (24, 24, b2n (s.md.failed != 0)),
    (23, 21, ((List.range 8).find? (bitOf s.md.failed)).getD 0), (20, 20, b2n s.nextUnsynced.isSome), (19, 18, s.cup.work)]

/-- 08_integrity.md CUP_REBUILD_LEFT: LOST segments of a repair, stripes of a resync, segments and stripes of a rejoin. -/
def State.cupRebuildLeft (s : State) : W32 :=
  regWord [(31, 0, match s.cup.work with
    | 1 => s.lostAll
    | 2 => (match s.cup.unsyncedFrom with | some k => s.stripes - k | none => 0) + s.cup.unsynced.length
    | 3 => (match s.cup.rejoin with | some (_, n) => s.stripes - n | none => 0)
    | _ => 0)]

/-- 08_integrity.md CUP_TILE_STATUS: slots in use, slots holding adopted lines. -/
def State.cupTileStatus (s : State) (t : Nat) : W32 :=
  let l := (s.tile t).cup.slots
  regWord [(31, 16, l.length), (15, 0, (l.filter (fun e => e.2.adoptSeg.isSome)).length)]

/-! ### Caravan (09_caravan.md) -/

/-- 09_caravan.md CAR_RANGE. -/
def State.carRange (s : State) : W32 := regWord [(31, 16, s.car.base), (15, 0, s.car.blocks)]

/-- 09_caravan.md CAR_PEER_FAILED. -/
def State.peersFailed (s : State) : Nat :=
  if s.car.inGroup then maskOf 20 (fun i => s.car.peers.any (fun p => p.idx == i && p.st == .failed)) else 0

/-- 09_caravan.md CAR_TILE_STATUS: slots in use, slots holding unsettled entries. -/
def State.carTileStatus (s : State) (t : Nat) : W32 :=
  let l := (s.tile t).car.slots
  regWord [(31, 16, l.length), (15, 0, (l.filter (fun k => !(s.carUnsettled k).isEmpty)).length)]

/-! ### Belfry (04_belfry.md) -/

/-- 04_belfry.md BELFRY_STATUS. -/
def State.belfryStatus (s : State) : W32 :=
  let b := s.bel
  regWord [(31, 30, b.state.code), (29, 28, b.source), (27, 27, b2n (b.state == .free || b.state == .holdover)),
    (26, 26, b2n s.schedRuns), (25, 16, b.domain), (15, 0, signedField 16 b.phaseErr)]

/-- 04_belfry.md BELFRY_ANGLE: ANGLE_SNAP and the local angle. -/
def State.belfryAngle (s : State) : W32 := regWord [(31, 16, s.bel.angleSnap), (15, 0, s.localAngle)]

/-- 04_belfry.md BELFRY_TRIM_STATUS. -/
def State.belfryTrimStatus (s : State) : W32 :=
  let b := s.bel
  regWord [(31, 31, b2n b.trimDone), (30, 30, b2n b.trimBusy), (25, 16, signedField 10 b.trimDev), (8, 0, b.trimCode)]

/-- 04_belfry.md BELFRY_TILE_STATUS. -/
def State.belfryTileStatus (s : State) (t : Nat) : W32 :=
  regWord [(31, 16, (s.tile t).bel.overrides), (6, 0, popCount (s.tile t).bel.active 64)]

/-! ### Power (11_power.md) -/

/-- 11_power.md PWR_STATUS. -/
def State.pwrStatus (s : State) : W32 :=
  let p := s.pw
  regWord [(31, 29, p.seq.code), (28, 28, b2n p.onLatched.isSome), (27, 27, b2n p.offLatched), (26, 24, p.stage), (23, 20, p.slot),
    (15, 0, p.pgQual)]

/-- 11_power.md PWR_FAULT. -/
def State.pwrFault (s : State) : W32 := regWord [(7, 4, s.pw.faultSlot), (3, 2, s.pw.faultKind), (0, 0, b2n s.pw.fault)]

/-- 11_power.md VIN_STATUS. -/
def State.vinStatus (s : State) : W32 := regWord [(31, 16, s.pw.holdV), (15, 0, s.pw.vin)]

/-- 11_power.md HOLD_RESULT: c_bank in 0.1 mF, ESR, AGE_H. -/
def State.holdResult (s : State) : W32 := regWord [(31, 16, s.pw.cBank / 100000), (15, 8, s.pw.esr), (7, 0, s.pw.testAgeH)]

/-- 11_power.md HOLD_ENERGY. -/
def State.holdEnergy (s : State) : W32 := regWord [(31, 16, s.pw.usable), (15, 0, s.pw.reserve)]

/-- 11_power.md HOLD_LIMIT. -/
def State.holdLimitWord (s : State) : W32 :=
  regWord [(31, 30, s.limitState), (29, 29, b2n s.pw.test.isSome), (20, 0, s.pw.holdLimit)]

/-! ### Clocks (12_clocks_resets.md) -/

/-- 12_clocks_resets.md CLK_STATUS. -/
def State.clkStatus (s : State) : W32 :=
  regWord [(31, 30, s.clk.xtal), (23, 16, maskOf 8 (fun t => (s.tile t).clk.onBackup != 0)),
    (15, 8, maskOf 8 (fun t => (s.tile t).clk.coast != 0)), (7, 0, s.clk.refFail)]

/-- 12_clocks_resets.md CLK_TILE_STATUS; the head logic of a bonded upper tile is gated (R374). -/
def State.clkTileStatus (s : State) (t : Nat) : W32 :=
  let k := (s.tile t).clk
  regWord [(31, 24, k.onBackup), (23, 16, k.coast), (14, 8, k.pllLocked), (7, 0, if (s.head t).upper then setBit k.gated 2 else k.gated)]

/-! ### Temperature and fans (13_thermal_sled.md) -/

/-- A pair of readings: the second in the upper half. -/
def State.readingPair (s : State) (a b : Nat) : W32 :=
  let x := s.sensor a
  let y := s.sensor b
  regWord [(31, 31, b2n y.fault), (27, 16, reading12 y.value), (15, 15, b2n x.fault), (11, 0, reading12 x.value)]

/-- Groups in which some sensor satisfies `p`, one bit per group. -/
def State.groupMask (s : State) (p : Sensor → Bool) : Nat := maskOf 3 (fun g => s.thm.sensors.any (fun e => sensorGroup e.1 == g && p e.2))

/-- 13_thermal_sled.md THM_STATUS. -/
def State.thmStatus (s : State) : W32 :=
  regWord [(31, 29, s.groupMask (·.warn)), (28, 26, s.groupMask (·.crit)), (25, 23, s.groupMask (·.rise.isSome)),
    (22, 22, b2n (s.thm.fans.toList.any (·.failsafe))), (19, 16, maskOf 4 (fun n => (vget n {} s.thm.fans).failed)), (11, 0, reading12 s.hottest)]

/-- 13_thermal_sled.md FAN_STATUS of fan `n`. -/
def State.fanStatus (s : State) (n : Nat) : W32 :=
  let f := vget n {} s.thm.fans
  let st := if !s.fansOn || !f.enable then 0 else if !s.tachOn n then 3 else if f.failed then 2 else 1
  regWord [(31, 30, st), (24, 24, b2n f.override), (23, 16, f.duty), (15, 0, if s.tachOn n then f.rpm else 0)]

/-- 13_thermal_sled.md THM_GPIO_CTL: GPIO_SEL, and LEVEL of the inputs in GPIO function. What stands at those pins is open
(notes/assumptions/3.md). -/
def State.thmGpio (s : State) : W32 :=
  let sel := s.fld Reg.THM_GPIO_CTL 3 0
  regWord [(11, 8, Nat.land s.freeNow sel), (3, 0, sel)]

/-! ### Security, Guestbook, Parameter Store (16_security.md, 17_guestbook_parameter_store.md) -/

/-- 16_security.md SEC_STATUS. -/
def State.secStatus (s : State) : W32 :=
  let x := s.sec
  regWord [(31, 28, x.lc), (27, 27, b2n x.lcPending.isSome), (26, 26, b2n x.romOnly), (25, 25, if x.booted then x.runSlot else 0),
    (24, 24, b2n (bitOf s.fwBoot 1)), (23, 23, b2n (bitOf s.fwBoot 4)), (22, 22, b2n x.loaded), (21, 21, b2n x.withdrawn),
    (20, 18, x.granted), (17, 11, s.svnFloor), (10, 4, s.fuse.gen), (3, 0, s.authFails)]

/-- 16_security.md KEY_STATUS. -/
def State.keyStatus (s : State) : W32 :=
  regWord [(31, 24, s.sec.keys.length), (23, 16, total (s.sec.replacing.map (fun r => 1 + r.regs.length))), (15, 13, s.sec.secrets.length)]

/-- R10: bits 31:0 of a wide value. -/
def loWord (n : Nat) : W32 := BitVec.ofNat 32 n

/-- R10: bits above 31 of a wide value. -/
def hiWord (n : Nat) : W32 := BitVec.ofNat 32 (n / 2 ^ 32)

/-- 17_guestbook_parameter_store.md GB_STATUS. -/
def State.gbStatus (s : State) : W32 :=
  regWord [(31, 31, b2n s.gb.permFull), (25, 16, s.gb.buf.length), (15, 8, s.gb.badCount), (7, 0, s.gb.dropped)]

/-- 17_guestbook_parameter_store.md GB_WIN_STATUS. -/
def State.gbWinStatus (s : State) : W32 :=
  regWord [(31, 31, b2n s.gb.winReady), (30, 30, b2n s.gb.winSkipped), (5, 0, if s.gb.winReady then s.gb.window.length else 0)]

/-- R482: word `w` of the Guestbook window, eight words a record; 0 while READY is 0 and beyond COUNT. -/
def State.gbWindowWord (s : State) (w : Nat) : W32 :=
  match s.gb.winReady, s.gb.window[w / 8]? with
  | true, some r => BitVec.ofNat 32 (leAt (gbBytes r) (4 * (w % 8)) 4)
  | _, _ => 0

/-- 17_guestbook_parameter_store.md: the copy chosen under R492. -/
def ParamStore.chosen (p : ParamStore) : PsCopy := if p.copySel then p.copyB else p.copyA

/-- 17_guestbook_parameter_store.md PS_STATUS. -/
def State.psStatus (s : State) : W32 :=
  regWord [(31, 31, b2n s.ps.running.isSome), (30, 30, b2n (s.pwSet && !s.ps.unlocked)), (29, 29, b2n s.pwSet), (28, 28, b2n s.ps.copySel),
    (27, 24, s.paramFails), (11, 0, setSize s.ps.pendingSet)]

/-! ### Heads and transactions (02_host_ports.md, 03_transactions.md) -/

/-- 02_host_ports.md HEAD_LINK_STATUS. -/
def State.headLinkStatus (s : State) (h : Nat) : W32 :=
  let d := s.head h
  regWord [(31, 24, d.polarity), (21, 21, b2n d.reversed), (20, 20, b2n d.upper), (19, 19, b2n d.bonded), (18, 14, if d.up then d.ldCount else 0),
    (13, 13, b2n d.mld), (12, 12, b2n (d.up && d.cxl && s.memAccepted)), (11, 11, b2n d.cxl), (10, 10, b2n d.flit256), (9, 5, d.width),
    (4, 4, b2n d.up), (2, 0, d.speed)]

/-- 03_transactions.md TXN_STATUS: TRACKER_USED. Entries of a bonded head fill the tracker of its lower tile first
(notes/assumptions/34.md). -/
def State.trackerUsed (s : State) (t : Nat) : Nat :=
  if (s.head t).upper then (s.tile (t - 1)).txn.tracker.length - 8192 else min 8192 (s.tile t).txn.tracker.length

/-- 03_transactions.md TXN_STATUS: DEVLOAD as last placed, THROTTLE, TRACKER_USED. -/
def State.txnStatus (s : State) (t : Nat) : W32 :=
  regWord [(31, 30, s.fld (Reg.TXN_STATUS t) 31 30),
    (29, 28, if s.writesWait t then 2 else if (s.tile t).txn.throttle then 1 else 0), (13, 0, s.trackerUsed t)]

/-- 03_transactions.md TXN_HAZARD. -/
def State.txnHazard (s : State) (t : Nat) : W32 :=
  regWord [(25, 15, s.locksHeld t), (14, 0, s.hazUsed t)]

/-! ### Media (06_medium.md) -/

/-- 06_medium.md MED_CH_STATUS. -/
def State.medChStatus (s : State) (t c : Nat) : W32 :=
  let k := s.chan t c
  let (temp, _, stale) := s.chTemp t c
  let known := k.st != 0
  regWord [(31, 30, k.st), (29, 27, popCount k.ranks 4), (26, 24, k.deadCount), (23, 19, k.progs.length), (18, 14, k.clearing.length),
    (13, 9, (k.ops.filter (·.susp)).length), (8, 8, b2n (known && stale)), (7, 0, if known then signedField 8 temp else 0)]

/-- 06_medium.md MED_CH_CAL: DMAX, CAL_PAGES, RANKS_DEFAULT. -/
def State.medChCal (s : State) (t c : Nat) : W32 :=
  let k := s.chan t c
  regWord [(31, 24, min 255 (greatest ((k.drift.map (fun e => e.2.d)).flatten))), (23, 16, min 255 k.calPages), (15, 13, popCount k.factory 4)]

/-! ### Performance counters (18_performance_counters.md) -/

/-- 18_performance_counters.md PERF_WIN_STATUS of window `w`. -/
def State.perfWinStatus (s : State) (w : Nat) : W32 :=
  let p := vget w {} s.wins
  regWord [(31, 31, b2n (p.openHeads != 0)), (30, 30, b2n p.short), (27, 20, p.seq), (19, 0, p.duration)]

/-- 18_performance_counters.md PERF_BW_RD and PERF_BW_WR of window `w` and head `h`. -/
def State.perfBw (s : State) (write : Bool) (w h : Nat) : W32 :=
  let p := vget w {} s.wins
  BitVec.ofNat 32 (agetD h 0 (if write then p.wrLast else p.rdLast))

/-- R505: the counter of a slot of the user counter page, when it is mapped. -/
def State.userSlot (s : State) (off : Nat) : Option (Nat × Nat) :=
  let t := (off - 0xF000) / 0x200
  let n := (off - 0xF000) % 0x200 / 8
  if t < s.pop.tiles ∧ fieldOf (s.getReg (selReg t n)) 31 30 = 3 then some (t, n) else none

/-- R505: what a word of the user counter page reads. -/
def State.userWord (s : State) (off : Nat) : W32 :=
  match s.userSlot off with
  | some (t, n) => if off % 8 = 0 then loWord (s.cntVal t n) else hiWord (s.cntVal t n)
  | none => 0

/-! ### The word at an offset -/

/-- Computed package registers, by row of the register table; the second argument is the offset. -/
def pkgViews : List (Nat × (State → Nat → W32)) :=
  [(Reg.KRY_IDENT, fun s _ => s.kryIdent), (Reg.KRY_REV, fun s _ => s.pop.krev), (Reg.MODE_STATUS, fun s _ => s.modeStatus),
   (Reg.MODE_CAUSE, fun s _ => s.modeCause), (Reg.BRINGUP_STATUS, fun s _ => s.bringupStatus), (Reg.HOLDUP_REPORT, fun s _ => s.md.report),
   (Reg.RING_STATUS 0, fun s o => s.ringStatus ((o - 0x1000) / 0x30)), (Reg.RING_CQ_POS 0, fun s o => s.ringCqPos ((o - 0x1000) / 0x30)),
   (Reg.PORTER_STATUS, fun s _ => s.porterStatus), (Reg.DB_SQ_TAIL 0, fun s o => s.dbTailWord ((o - 0x2000) / 8)),
   (Reg.DB_CQ_HEAD 0, fun s o => s.dbHeadWord ((o - 0x2000) / 8)), (Reg.FS_STATUS, fun s _ => s.fsStatus),
   (Reg.FS_GEOMETRY, fun s _ => s.fsGeometry)]

/-- Computed package registers of Belfry, Cupola, Caravan, power and clocks. -/
def pkgViewsB : List (Nat × (State → Nat → W32)) :=
  [(Reg.BELFRY_STATUS, fun s _ => s.belfryStatus), (Reg.BELFRY_ANGLE, fun s _ => s.belfryAngle),
   (Reg.BELFRY_TURN_LO, fun s _ => loWord s.bel.turn), (Reg.BELFRY_TURN_HI, fun s _ => regWord [(3, 0, s.bel.turnHiSnap)]),
   (Reg.BELFRY_PERIOD, fun s _ => s.belfryPeriod), (Reg.BELFRY_OFFSET, fun s _ => s.belfryOffset),
   (Reg.BELFRY_TRIM_STATUS, fun s _ => s.belfryTrimStatus), (Reg.CUP_STATUS, fun s _ => s.cupStatus),
   (Reg.CUP_REBUILD_LEFT, fun s _ => s.cupRebuildLeft), (Reg.CAR_STATUS, fun s _ => s.carStatus), (Reg.CAR_RANGE, fun s _ => s.carRange),
   (Reg.CAR_PEER_ABSENT, fun s _ => regWord [(19, 0, s.peersAbsent)]), (Reg.CAR_PEER_FAILED, fun s _ => regWord [(19, 0, s.peersFailed)]),
   (Reg.CAR_WORK_LEFT, fun s _ => if s.car.work = 0 then 0 else loWord s.carLeft), (Reg.CAR_HEADS, fun s _ => regWord [(7, 0, s.car.heads)]),
   (Reg.PWR_STATUS, fun s _ => s.pwrStatus), (Reg.PWR_FAULT, fun s _ => s.pwrFault), (Reg.VIN_STATUS, fun s _ => s.vinStatus),
   (Reg.SHED_LEVELS0, fun s _ => s.pw.levels.1), (Reg.SHED_LEVELS1, fun s _ => s.pw.levels.2), (Reg.HOLD_RESULT, fun s _ => s.holdResult),
   (Reg.HOLD_ENERGY, fun s _ => s.holdEnergy), (Reg.HOLD_LIMIT, fun s _ => s.holdLimitWord),
   (Reg.SEQ_SLOT, fun s o => s.seqSlotWord ((o - Reg.SEQ_SLOT) / 4)), (Reg.CLK_STATUS, fun s _ => s.clkStatus),
   (Reg.CLK_IOSC, fun s _ => regWord [(17, 0, s.clk.ioscKhz)])]

/-- Computed package registers of the sled, security, the Guestbook, the Parameter Store and the windows. -/
def pkgViewsC : List (Nat × (State → Nat → W32)) :=
  [(Reg.THM_STATUS, fun s _ => s.thmStatus),
   (Reg.THM_SLED0, fun s o => s.readingPair (512 + (o - Reg.THM_SLED0) / 2) (513 + (o - Reg.THM_SLED0) / 2)),
   (Reg.FAN_STATUS0, fun s o => s.fanStatus ((o - Reg.FAN_STATUS0) / 4)), (Reg.THM_GPIO_CTL, fun s _ => s.thmGpio),
   (Reg.SEC_STATUS, fun s _ => s.secStatus),
   (Reg.SEC_CHALLENGE0, fun s o => BitVec.ofNat 32 (s.sec.challenge.toNat / 2 ^ (8 * (o - Reg.SEC_CHALLENGE0)))),
   (Reg.ATTEST_NEXT_LO, fun s _ => loWord s.sec.next), (Reg.ATTEST_NEXT_HI, fun s _ => hiWord s.sec.next),
   (Reg.ATTEST_RESV_LO, fun s _ => loWord s.sec.reserved), (Reg.ATTEST_RESV_HI, fun s _ => hiWord s.sec.reserved),
   (Reg.KEY_STATUS, fun s _ => s.keyStatus), (Reg.GB_WIN_STATUS, fun s _ => s.gbWinStatus), (Reg.GB_WIN_NEXT, fun s _ => loWord s.gb.winNext),
   (Reg.GB_NEWEST, fun s _ => loWord (s.gb.newest (s.regBit Reg.GB_CTL 0))), (Reg.GB_OLDEST, fun s _ => loWord (s.gb.oldest (s.regBit Reg.GB_CTL 0))),
   (Reg.GB_STATUS, fun s _ => s.gbStatus), (Reg.GB_WINDOW, fun s o => s.gbWindowWord ((o - Reg.GB_WINDOW) / 4)),
   (Reg.PS_STATUS, fun s _ => s.psStatus), (Reg.PS_SEQ, fun s _ => loWord (max s.ps.copyA.seq s.ps.copyB.seq)), (Reg.PS_LIVE, fun s _ => regWord [(18, 0, setSize s.ps.els)]),
   (Reg.PERF_SEL, fun s o => s.selWord ((o - Reg.PERF_SEL) / 0x100) ((o - Reg.PERF_SEL) % 0x100 / 4)),
   (Reg.PERF_WIN_STATUS, fun s o => s.perfWinStatus ((o - Reg.PERF_WIN_STATUS) / 8)),
   (Reg.PERF_BW_RD, fun s o => s.perfBw false ((o - Reg.PERF_BW_RD) / 0x40) ((o - Reg.PERF_BW_RD) % 0x40 / 8)),
   (Reg.PERF_BW_WR, fun s o => s.perfBw true ((o - Reg.PERF_BW_RD) / 0x40) ((o - Reg.PERF_BW_RD) % 0x40 / 8))]

/-- Computed tile-local registers, by row of the register table; then the tile and the offset within its block. -/
def tileViews : List (Nat × (State → Nat → Nat → W32)) :=
  [(Reg.HEAD_LINK_STATUS 0, fun s t _ => s.headLinkStatus t), (Reg.TXN_STATUS 0, fun s t _ => s.txnStatus t),
   (Reg.TXN_HAZARD 0, fun s t _ => s.txnHazard t), (Reg.FS_TILE_STATUS 0, fun s t _ => s.fsTileStatus t),
   (Reg.FS_DIRTY_LIMIT 0, fun s t _ => s.fsDirtyLimit t), (Reg.FS_LIMIT_CAP 0, fun s t _ => s.fsLimitCap t),
   (Reg.FS_WITHDRAWN 0, fun s t _ => s.fsWithdrawn t), (Reg.XL_TILE_STATUS 0, fun s t _ => s.xlTileStatus t),
   (Reg.XL_SPARE 0, fun s t _ => regWord [(19, 0, (s.tile t).xl.spare)]), (Reg.XL_SPARE_INIT 0, fun s t _ => regWord [(19, 0, (s.tile t).xl.spare0)]),
   (Reg.XL_RETIRED 0, fun s t _ => s.xlRetired t), (Reg.XL_JNL_POS_LO 0, fun s t _ => loWord (s.tile t).xl.jdur),
   (Reg.XL_JNL_POS_HI 0, fun s t _ => hiWord (s.tile t).xl.jdur), (Reg.XL_JNL_FILL 0, fun s t _ => regWord [(24, 0, s.jfill t)]),
   (Reg.XL_REBUILD 0, fun s t _ => s.xlRebuild t), (Reg.BELFRY_TILE_STATUS 0, fun s t _ => s.belfryTileStatus t),
   (Reg.BELFRY_ACTIVE0 0, fun s t _ => loWord (s.tile t).bel.active), (Reg.BELFRY_ACTIVE1 0, fun s t _ => hiWord (s.tile t).bel.active),
   (Reg.MED_CH_STATUS 0, fun s t l => s.medChStatus t ((l - 0x600) / 0x10)), (Reg.MED_CH_CAL 0, fun s t l => s.medChCal t ((l - 0x600) / 0x10)),
   (Reg.INT_SCRUB 0, fun s t _ => s.intScrub t), (Reg.INT_REFRESH 0, fun s t _ => s.intRefresh t),
   (Reg.CUP_TILE_STATUS 0, fun s t _ => s.cupTileStatus t), (Reg.CAR_TILE_STATUS 0, fun s t _ => s.carTileStatus t),
   (Reg.BELFRY_SCHED_RB 0, fun s t l => s.schedWord t ((l - 0x800) / 4)), (Reg.BELFRY_PROFILE_RB 0, fun s t l => s.profileWord t ((l - 0xC00) / 4)),
   (Reg.CLK_TILE_STATUS 0, fun s t _ => s.clkTileStatus t), (Reg.THM_DIODE0 0, fun s t _ => s.readingPair (64 * t) (64 * t + 1)),
   (Reg.THM_DIODE1 0, fun s t _ => s.readingPair (64 * t + 2) (64 * t + 3)), (Reg.THM_REMOTE 0, fun s t _ => s.readingPair (64 * t + 4) (64 * t + 5)),
   (Reg.THM_MEDIA 0, fun s t l => s.readingPair (64 * t + 8 + (l - 0xE10) / 2) (64 * t + 9 + (l - 0xE10) / 2)),
   (Reg.PERF_CNT_LO 0, fun s t l => loWord (s.cntVal t ((l - 0x1000) / 8))), (Reg.PERF_CNT_HI 0, fun s t l => hiWord (s.cntVal t ((l - 0x1000) / 8)))]

/-- R430: the word at an offset as a read finds it, before the captures of R11 and R102. Offsets that name no register, and
write-only registers, read 0. -/
def State.regView (s : State) (off : Nat) : W32 :=
  if 0xF000 ≤ off ∧ off < 0x10000 then s.userWord (off - off % 4)
  else
    match regDef? s.pop.tiles off with
    | none => 0
    | some d =>
      if d.acc = .wo then 0
      else if off < 0x10000 then
        match (pkgViews ++ pkgViewsB ++ pkgViewsC).find? (fun e => e.1 == d.key) with
        | some e => e.2 s off
        | none => s.getReg off
      else
        match tileViews.find? (fun e => e.1 == d.key) with
        | some e => e.2 s ((off - 0x10000) / 0x2000) ((off - 0x10000) % 0x2000)
        | none => s.getReg off

end Sys2Proof.Machine
end

