-- ==== Sys2Proof/Machine/Sideband.lean ====
section
/-! DEFINITION. Machine/Sideband.lean: the sideband endpoint: its addresses, the MCTP control, PLDM and vendor commands it answers
(13_thermal_sled.md R398 to R402). The commands of the CXL FM API reach it as head 8 of Machine/FmApi.lean. Numbers of commands
and completion codes are those of the DMTF documents the spec names (PRESUMED, notes/assumptions/24.md). -/

namespace Sys2Proof.Machine

open Sys2Proof

/-! ### Message types, command numbers and completion codes -/

/-- R399: MCTP control. -/
def SB_MCTP : Nat := 0x00
/-- R399: PLDM. -/
def SB_PLDM : Nat := 0x01
/-- R399: CXL FM API. -/
def SB_FMAPI : Nat := 0x07
/-- R399: vendor-defined, IANA. -/
def SB_VENDOR : Nat := 0x7F

/-- R399: the message types the endpoint answers. -/
def sidebandTypes : List Nat := [SB_MCTP, SB_PLDM, SB_FMAPI, SB_VENDOR]

/-- Completion: done. -/
def CC_OK : Nat := 0x00
/-- MCTP control completion: invalid data. -/
def CC_INVALID_DATA : Nat := 0x02
/-- Completion of a command the message type does not have. -/
def CC_UNSUPPORTED : Nat := 0x05
/-- MCTP control and PLDM completion: the type or sensor named is not there. -/
def CC_UNKNOWN_NAME : Nat := 0x80
/-- PLDM completion: no such record. -/
def CC_NO_RECORD : Nat := 0x82
/-- PLDM completion: the PLDM type named is not supported. -/
def CC_NO_PLDM_TYPE : Nat := 0x83

/-- R398: the endpoint runs in Standby and every later mode. -/
def State.endpointRuns (s : State) : Bool := s.md.mode != .off

/-- R399: answer a command. -/
def State.sbAnswer (s : State) (type cmd code : Nat) (fields : List Nat) : State := s.emit (.sideband type cmd code fields)

/-- R398, R399: what a command does while the endpoint runs. -/
def State.sbRun (s : State) (go : State → State) : State := if s.endpointRuns then go s else s

/-! ### I3C addresses (R398) -/

/-- R398: ENTDAA assigns the dynamic address of a target that has none. -/
def State.i3cEntdaaEff (s : State) (addr : Nat) : State :=
  s.sbRun (fun s => if s.thm.dynAddr.isNone then s.modThm (fun x => { x with dynAddr := some addr }) else s)

/-- R398: SETDASA assigns a dynamic address to the target whose static address it names. -/
def State.i3cSetdasaEff (s : State) (static addr : Nat) : State :=
  s.sbRun (fun s =>
    if static = s.thm.staticAddr ∧ s.thm.dynAddr = none then s.modThm (fun x => { x with dynAddr := some addr }) else s)

/-! ### MCTP control (R399) -/

/-- R399: Set Endpoint ID. An ID outside 8 to 254 is refused. The answer holds the allocation status, the ID and the pool size. -/
def State.setEndpointIdEff (s : State) (eid : Nat) : State :=
  s.sbRun (fun s =>
    if 8 ≤ eid ∧ eid ≤ 254 then (s.modThm (fun x => { x with eid := eid })).sbAnswer SB_MCTP 0x01 CC_OK [0, eid, 0]
    else s.sbAnswer SB_MCTP 0x01 CC_INVALID_DATA [])

/-- R399: Get Endpoint ID. -/
def State.getEndpointIdEff (s : State) : State := s.sbRun (fun s => s.sbAnswer SB_MCTP 0x02 CC_OK [s.thm.eid])

/-- R399: Get Endpoint UUID. -/
def State.getEndpointUuidEff (s : State) : State := s.sbRun (fun s => s.sbAnswer SB_MCTP 0x03 CC_OK [Config.endpointUuid.toNat])

/-- R399: Get MCTP Version Support, of a message type. -/
def State.getMctpVersionSupportEff (s : State) (type : Nat) : State :=
  s.sbRun (fun s =>
    if sidebandTypes.contains type then s.sbAnswer SB_MCTP 0x04 CC_OK [Config.sidebandVersion type]
    else s.sbAnswer SB_MCTP 0x04 CC_UNKNOWN_NAME [])

/-- R399: Get Message Type Support. -/
def State.getMessageTypeSupportEff (s : State) : State :=
  s.sbRun (fun s => s.sbAnswer SB_MCTP 0x05 CC_OK (sidebandTypes.length :: sidebandTypes))

/-! ### PLDM type 0 (R399) -/

/-- R399: GetTID. -/
def State.gettidEff (s : State) : State := s.sbRun (fun s => s.sbAnswer SB_PLDM 0x02 CC_OK [Config.terminusId])

/-- R399: the commands of a PLDM type, by number. -/
def pldmCommands (type : Nat) : List Nat :=
  if type = 0 then [0x02, 0x03, 0x04, 0x05] else if type = 2 then [PLDM_READING, 0x50, 0x51] else []

/-- R399: GetPLDMVersion. -/
def State.getpldmversionEff (s : State) (type : Nat) : State :=
  s.sbRun (fun s =>
    if (pldmCommands type).isEmpty then s.sbAnswer SB_PLDM 0x03 CC_NO_PLDM_TYPE []
    else s.sbAnswer SB_PLDM 0x03 CC_OK [Config.sidebandVersion (256 + type)])

/-- R399: GetPLDMTypes: types 0 and 2, one bit each. -/
def State.getpldmtypesEff (s : State) : State := s.sbRun (fun s => s.sbAnswer SB_PLDM 0x04 CC_OK [5])

/-- R399: GetPLDMCommands: one bit per command number. -/
def State.getpldmcommandsEff (s : State) (type : Nat) : State :=
  s.sbRun (fun s =>
    if (pldmCommands type).isEmpty then s.sbAnswer SB_PLDM 0x05 CC_NO_PLDM_TYPE []
    else s.sbAnswer SB_PLDM 0x05 CC_OK [total ((pldmCommands type).map (2 ^ ·))])

/-! ### PLDM type 2: sensors (R399, R400) -/

/-- R399: the numeric sensors of the part, ascending. -/
def State.sensorIds (s : State) : List Nat :=
  (List.range 8).map (· + 1) ++ (List.range (4 * s.pop.tiles)).map (· + 16) ++ [48, 49, 50, 51, 56, 57, 58, 59, 60, 61]

/-- R399: units of the numeric sensors: 0 1/8 °C, 1 RPM, 2 10 mV, 3 J, 4 frames, 5 a code. -/
def sensorUnit (id : Nat) : Nat :=
  if id < 48 then 0 else if id < 56 then 1 else if id < 58 then 2 else if id = 58 then 3 else if id = 59 then 4 else 5

/-- R399, R400: what a numeric sensor that is not a temperature reads: none while it is not available. -/
def State.plainReading (s : State) (id : Nat) : Option Int :=
  let standby := s.md.mode == .standby
  match id with
  | 56 => some s.pw.vin
  | 57 => some s.pw.holdV
  | 58 => if standby then none else some s.pw.usable
  | 59 => if standby then none else some s.pw.holdLimit
  | 60 => some s.pw.stage
  | 61 => some s.md.mode.code
  | _ => if !s.fansOn || !s.tachOn (id - 48) then none else some (vget (id - 48) {} s.thm.fans).rpm

/-- R400: GetSensorReading. A read of a thermal sensor with rearm asks for a conversion and is answered after it; a sensor
without power converts nothing, and its read is answered at once. -/
def State.getsensorreadingEff (s : State) (sensor : Nat) (rearm : Bool) (nowMs : Nat) : State :=
  s.sbRun (fun s =>
    if !s.sensorIds.contains sensor then s.sbAnswer SB_PLDM PLDM_READING CC_UNKNOWN_NAME []
    else if 48 ≤ sensor then s.sbAnswer SB_PLDM PLDM_READING CC_OK (sensor :: readingFields (s.plainReading sensor))
    else
      let ids := (pldmSensors sensor).filter (fun i => s.convAllowed i 5)
      if rearm && !ids.isEmpty then
        (s.modThm (fun x => { x with rearm := x.rearm ++ [(sensor, ids, ids.filter s.converts)] })).requestConv ids 5
      else s.sbAnswer SB_PLDM PLDM_READING CC_OK (sensor :: readingFields (s.thermalReading sensor nowMs)))

/-- R399: GetPDR: the record of a sensor, whose handle is its ID; handle 0 asks for the first. The answer holds the handle of the
next record, 0 after the last, the sensor and its unit. -/
def State.getpdrEff (s : State) (handle : Nat) : State :=
  s.sbRun (fun s =>
    let l := if handle = 0 then s.sensorIds else s.sensorIds.dropWhile (· != handle)
    match l with
    | [] => s.sbAnswer SB_PLDM 0x51 CC_NO_RECORD []
    | h :: r => s.sbAnswer SB_PLDM 0x51 CC_OK [r.headD 0, h, sensorUnit h])

/-- R399: GetPDRRepositoryInfo: the number of records. -/
def State.getpdrrepositoryinfoEff (s : State) : State := s.sbRun (fun s => s.sbAnswer SB_PLDM 0x50 CC_OK [s.sensorIds.length])

/-! ### Vendor commands (R399, R402, R343) -/

/-- R399, R314: POWER_ON, the on request of the sideband. -/
def State.powerOnEff (s : State) : State := s.sbRun (fun s => (s.onRequest 1).sbAnswer SB_VENDOR 1 CC_OK [])

/-- R399, R323: POWER_OFF, CAUSE 0b001. -/
def State.powerOffEff (s : State) : State := s.sbRun (fun s => (s.offRequest false).sbAnswer SB_VENDOR 2 CC_OK [])

/-- R343: FAULT_CLEAR. -/
def State.faultClearEff (s : State) : State := s.sbRun (fun s => (s.faultClear 1).sbAnswer SB_VENDOR 3 CC_OK [])

/-- R399: GET_STATE returns MODE_STATUS, MODE_CAUSE, PWR_STATUS and THM_STATUS. -/
def State.getStateEff (s : State) : State :=
  s.sbRun (fun s => s.sbAnswer SB_VENDOR 4 CC_OK ([s.modeStatus, s.modeCause, s.pwrStatus, s.thmStatus].map BitVec.toNat))

/-- R399: ALERT_READ returns THM_ALERT. -/
def State.alertReadEff (s : State) : State := s.sbRun (fun s => s.sbAnswer SB_VENDOR 5 CC_OK [(s.getReg Reg.THM_ALERT).toNat])

/-- R402: ALERT_CLEAR clears bits as a W1C write does. -/
def State.alertClearEff (s : State) (bits : W32) : State :=
  s.sbRun (fun s => ((s.setReg Reg.THM_ALERT (s.getReg Reg.THM_ALERT &&& ~~~bits)).alertLine).sbAnswer SB_VENDOR 6 CC_OK [])

/-- R399: any other message type is dropped; any other command gets its type's unsupported-command completion. -/
def State.unsupportedSidebandMessageEff (s : State) (type cmd : Nat) : State :=
  s.sbRun (fun s =>
    if sidebandTypes.contains type then s.sbAnswer type cmd (if type = SB_FMAPI then RET_UNSUPPORTED else CC_UNSUPPORTED) [] else s)

/-! ### The commands of this family -/

/-- I3C_ENTDAA (R398): I3C ENTDAA assigns the endpoint's dynamic address. -/
def execI3cEntdaa (addr : Nat) (s : State) : Host.Outcome State Fault Refusal :=
  s.run (fun x => x.i3cEntdaaEff addr)

/-- I3C_SETDASA (R398): I3C SETDASA assigns the dynamic address from the static address. -/
def execI3cSetdasa (static addr : Nat) (s : State) : Host.Outcome State Fault Refusal :=
  s.run (fun x => x.i3cSetdasaEff static addr)

/-- SET_ENDPOINT_ID (R399): MCTP control Set Endpoint ID. -/
def execSetEndpointId (eid : Nat) (s : State) : Host.Outcome State Fault Refusal :=
  s.run (fun x => x.setEndpointIdEff eid)

/-- GET_ENDPOINT_ID (R399): MCTP control Get Endpoint ID. -/
def execGetEndpointId (s : State) : Host.Outcome State Fault Refusal :=
  s.run (fun x => x.getEndpointIdEff)

/-- GET_ENDPOINT_UUID (R399): MCTP control Get Endpoint UUID. -/
def execGetEndpointUuid (s : State) : Host.Outcome State Fault Refusal :=
  s.run (fun x => x.getEndpointUuidEff)

/-- GET_MCTP_VERSION_SUPPORT (R399): MCTP control Get MCTP Version Support. -/
def execGetMctpVersionSupport (type : Nat) (s : State) : Host.Outcome State Fault Refusal :=
  s.run (fun x => x.getMctpVersionSupportEff type)

/-- GET_MESSAGE_TYPE_SUPPORT (R399): MCTP control Get Message Type Support. -/
def execGetMessageTypeSupport (s : State) : Host.Outcome State Fault Refusal :=
  s.run (fun x => x.getMessageTypeSupportEff)

/-- GETTID (R399): PLDM GetTID. -/
def execGettid (s : State) : Host.Outcome State Fault Refusal :=
  s.run (fun x => x.gettidEff)

/-- GETPLDMVERSION (R399): PLDM GetPLDMVersion. -/
def execGetpldmversion (type : Nat) (s : State) : Host.Outcome State Fault Refusal :=
  s.run (fun x => x.getpldmversionEff type)

/-- GETPLDMTYPES (R399): PLDM GetPLDMTypes. -/
def execGetpldmtypes (s : State) : Host.Outcome State Fault Refusal :=
  s.run (fun x => x.getpldmtypesEff)

/-- GETPLDMCOMMANDS (R399): PLDM GetPLDMCommands. -/
def execGetpldmcommands (type : Nat) (s : State) : Host.Outcome State Fault Refusal :=
  s.run (fun x => x.getpldmcommandsEff type)

/-- GETSENSORREADING (R400): PLDM GetSensorReading returns the last value or requests a conversion on rearm. -/
def execGetsensorreading (sensor : Nat) (rearm : Bool) (nowMs : Nat)
    (s : State) : Host.Outcome State Fault Refusal :=
  s.run (fun x => x.getsensorreadingEff sensor rearm nowMs)

/-- GETPDR (R399): PLDM GetPDR. -/
def execGetpdr (handle : Nat) (s : State) : Host.Outcome State Fault Refusal :=
  s.run (fun x => x.getpdrEff handle)

/-- GETPDRREPOSITORYINFO (R399): PLDM GetPDRRepositoryInfo. -/
def execGetpdrrepositoryinfo (s : State) : Host.Outcome State Fault Refusal :=
  s.run (fun x => x.getpdrrepositoryinfoEff)

/-- POWER_ON (R399): Vendor sideband POWER_ON is an on request. -/
def execPowerOn (s : State) : Host.Outcome State Fault Refusal :=
  s.run (fun x => x.powerOnEff)

/-- POWER_OFF (R399): Vendor sideband POWER_OFF starts Hold-up with CAUSE 0b001. -/
def execPowerOff (s : State) : Host.Outcome State Fault Refusal :=
  s.run (fun x => x.powerOffEff)

/-- FAULT_CLEAR (R343): Vendor sideband FAULT_CLEAR clears FAULT. -/
def execFaultClear (s : State) : Host.Outcome State Fault Refusal :=
  s.run (fun x => x.faultClearEff)

/-- GET_STATE (R399): Vendor sideband GET_STATE returns mode, power and thermal status. -/
def execGetState (s : State) : Host.Outcome State Fault Refusal :=
  s.run (fun x => x.getStateEff)

/-- ALERT_READ (R399): Vendor sideband ALERT_READ. -/
def execAlertRead (s : State) : Host.Outcome State Fault Refusal :=
  s.run (fun x => x.alertReadEff)

/-- ALERT_CLEAR (R402): Vendor sideband ALERT_CLEAR clears alert bits like a W1C write. -/
def execAlertClear (bits : W32) (s : State) : Host.Outcome State Fault Refusal :=
  s.run (fun x => x.alertClearEff bits)

/-- UNSUPPORTED_SIDEBAND_MESSAGE (R399): A sideband message of another type is dropped, and another command gets its
type's unsupported-command completion. -/
def execUnsupportedSidebandMessage (type cmd : Nat) (s : State) : Host.Outcome State Fault Refusal :=
  s.run (fun x => x.unsupportedSidebandMessageEff type cmd)

end Sys2Proof.Machine
end

