-- ==== Sys2Proof/Machine/RegBus.lean ====
section
/-! DEFINITION. Machine/RegBus.lean: accesses to BAR2: privilege, size and alignment, the enable gate, claims, the masked write,
what a write or a read does beyond the register itself, time-outs and configuration parity (15_registers.md R430 to R445,
00_scope.md R11, 01_architecture.md R27). -/

namespace Sys2Proof.Machine

open Sys2Proof

/-! ### Privilege (R437, R438; 16_security.md R448, 14_command_rings.md R409) -/

/-- R448: the master of an access is privileged. -/
def State.privMaster (s : State) (acc : Access) : Bool :=
  acc.sideband ||
    (s.regBit Reg.SEC_PRIV_CTL (acc.head % 8) && (!(s.head acc.head).mld || acc.ld == 0)
      && (!s.regBit Reg.SEC_PRIV_CTL 8 || acc.ide) && s.sec.lc != 4 && s.sec.lc != 5)

/-- The ring that a ring register or a doorbell belongs to. -/
def ringOfReg (off : Nat) : Nat := if off < 0x2000 then (off - 0x1000) / 0x30 else (off - 0x2000) / 8

/-- R437, R409: the class of a register lets the master read (`wr` none) or write the data given. -/
def State.accessOk (s : State) (acc : Access) (d : RegDef) (off : Nat) (wr : Option W32) : Bool :=
  match d.priv with
  | .openAll => true
  | .w => wr.isNone || s.privMaster acc
  | .rw => s.privMaster acc
  | .ring =>
    s.privMaster acc ||
      (!s.ringPriv (ringOfReg off) && !(d.key == Reg.RING_CFG 0 && (wr.getD 0).getLsbD 30))

/-- REG_ERR_ADDR: the access of the last event: 0 access, 1 stall, 2 parity, 3 privilege. -/
def State.regErrAddr (s : State) (head event off : Nat) : State :=
  s.setReg Reg.REG_ERR_ADDR (regWord [(31, 29, head), (28, 27, event), (19, 0, off)])

/-- R438: an access is filtered; `wr` is 1 for a write. -/
def State.privFiltered (s : State) (acc : Access) (off wr : Nat) : State :=
  (s.latch Reg.REG_ERR_STATUS 4 Gb.REG_PRIV_FILTER 15 [acc.head, off, wr]).regErrAddr acc.head 3 off

/-- R431: a write is ignored for its size, alignment or byte enables. -/
def State.accessErr (s : State) (acc : Access) (off size : Nat) : State :=
  (s.latch Reg.REG_ERR_STATUS 0 Gb.REG_ACCESS 15 [acc.head, off, size]).regErrAddr acc.head 0 off

/-! ### Where an access arrives (R430, R434) -/

/-- R430: BAR2 answers from step 8 of Bring-up until step H8 of Hold-up; the sideband endpoint reaches registers while it
runs (R343, R437), but for Porter's (14_command_rings.md R409). -/
def State.barAnswers (s : State) (acc : Access) (off : Nat) : Bool :=
  if acc.sideband then s.endpointRuns && !decide (0x1000 ≤ off ∧ off < 0x3000)
  else s.md.ringsRun || (s.md.mode == .holdup && bitOf s.md.stepsDone 8 && s.md.holdStep != .railsDown)

/-- R434: the register lies in the tile-local block of a tile that is in reset, from step 3 to step 4 of R379. -/
def State.inTileReset (s : State) (off : Nat) : Bool :=
  decide (0x10000 ≤ off ∧ off < 0x20000) &&
    (let k := (s.tile ((off - 0x10000) / 0x2000)).clk.resetStep
     k == some 3 || k == some 4)

/-- R375: the block whose clock gate an access opens, with its tile: 0 counters, 2 head logic, 3 Caravan, 4 Cupola. -/
def gatedBlock (off : Nat) : Option (Nat × Nat) :=
  if 0x10000 ≤ off then
    let t := (off - 0x10000) / 0x2000
    let l := (off - 0x10000) % 0x2000
    if l < 0x10 then some (t, 2)
    else if l = 0x780 ∨ l = 0x784 then some (t, 4)
    else if l = 0x790 ∨ l = 0x794 then some (t, 3)
    else if 0x1000 ≤ l ∧ l < 0x1200 then some (t, 0)
    else none
  else if 0xF000 ≤ off then some ((off - 0xF000) / 0x200, 0)
  else if 0xE000 ≤ off ∧ off < 0xE800 then some ((off - 0xE000) / 0x100, 0)
  else none

/-- R375: an access to a gated block opens its gate. -/
def State.touchBlock (s : State) (off : Nat) : State :=
  match gatedBlock off with
  | some (t, b) => s.openGate t b
  | none => s

/-! ### The masked write (R436) -/

/-- R436, R9: what a register holds after a write of `data` over `old`; self-clearing bits have cleared. -/
def RegDef.apply (d : RegDef) (old data : W32) : W32 :=
  match d.acc with
  | .ro | .wo => old
  | .rwm =>
    let m := (data >>> 16) &&& d.wmask
    ((old &&& ~~~m) ||| (data &&& m)) &&& ~~~d.selfClear
  | _ => ((old &&& ~~~d.wmask) ||| (data &&& d.wmask)) &&& ~~~(data &&& d.w1c) &&& ~~~d.selfClear

/-- R436: bit `b` of a masked register is written with 1. -/
def rwmOne (data : W32) (b : Nat) : Bool := data.getLsbD b && data.getLsbD (16 + b)

/-- R436: bit `b` of a masked register is written with 0. -/
def rwmZero (data : W32) (b : Nat) : Bool := !data.getLsbD b && data.getLsbD (16 + b)

/-- R436: bits of a masked register that a write selects. -/
def rwmMask (data : W32) : Nat := fieldOf data 31 16

/-! ### The enable gate and claims (R440, R27) -/

/-- The tile of a tile-local register. -/
def tileOfReg (off : Nat) : Nat := (off - 0x10000) / 0x2000

/-- R440: the gate of a write holds. -/
def State.gateHolds (s : State) (d : RegDef) (off : Nat) (data : W32) : Bool :=
  let r := ringOfReg off
  if [Reg.RING_SQ_BASE_LO 0, Reg.RING_SQ_BASE_HI 0, Reg.RING_CQ_BASE_LO 0, Reg.RING_CQ_BASE_HI 0, Reg.RING_CFG 0].contains d.key then
    s.regBit (Reg.RING_CTL r) 0
  else if d.key = Reg.RING_CTL 0 then rwmOne data 0 && (s.ring r).state == .disabling
  else if d.key = Reg.HEAD_LINK_CTL 0 then (s.head (tileOfReg off)).upper
  else if d.key = Reg.CLK_CTL then rwmOne data 3 && s.returnGated
  else if d.key = Reg.CLK_GATE_CTL 0 then (rwmOne data 4 && decide (1 ≤ s.cup.regions)) || (rwmOne data 3 && s.car.inGroup)
  else false

/-- R27, R127, R397, R503: a write claims a resource that has another owner: class, tile and index. Resources of classes 1 and 2 are the
package's: their tile is given as 0, and of several tach inputs that one write claims the lowest is named (notes/assumptions/134.md). -/
def State.claimRefused (s : State) (d : RegDef) (off : Nat) (data : W32) : Option (Nat × Nat × Nat) :=
  if d.key = Reg.BELFRY_TRIM_CTL then
    if fieldOf (d.apply (s.getReg off) data) 15 14 = 2 ∧ !s.phaseByTrim ∧ s.phaseByBelfry then some (1, 0, 0) else none
  else if d.key = Reg.THM_GPIO_CTL then
    ((List.range 4).find? (fun n => rwmOne data n && (vget n {} s.thm.fans).tachEn)).map (fun n => (2, 0, n))
  else if d.key = Reg.PERF_SEL then
    let n := (off - Reg.PERF_SEL) % 0x100 / 4
    if s.samplerOwns n then some (3, (off - Reg.PERF_SEL) / 0x100, n) else none
  else none

/-! ### What a write does beyond its register -/

/-- R128, R365: a write of TRIM_SRC starts a trim, or ends trimming with an off source. -/
def State.trimWritten (s : State) (data : W32) : State :=
  if fieldOf data 31 30 = 0 then s
  else
    let src := s.fld Reg.BELFRY_TRIM_CTL 15 14
    if src = 1 ∨ src = 2 then s.trimBegin else s.modBel (fun b => { b with trimBusy := false, trimStep := none, trimFinal := false })

/-- R507: a write of PERF_WIN_CTL closes the window early after `us` µs, and opens one whose mode is FIXED. -/
def State.winWritten (s : State) (w us : Nat) (data : W32) : State :=
  if rwmMask data &&& 0xC3FF = 0 then s
  else
    let s1 := s.winClose w 0xFF us true
    if s1.winMode w = 2 then s1.winOpen w 0xFF else s1

/-- R482: a write of GB_CURSOR starts the load of the window. -/
def State.cursorWritten (s : State) (data : W32) : State :=
  s.modGb (fun g => { g with winLoad := some data.toNat, winReady := false, window := [] })

/-- R410: a write of RING_CTL through a head. -/
def State.ringCtlWritten (s : State) (r head : Nat) (data : W32) : State :=
  if rwmOne data 0 then s.ringEnable r head else if rwmZero data 0 then s.ringDisable r else s

/-- R499: a write of PERF_SEL with CLR = 1 zeroes the counter. -/
def State.selWritten (s : State) (off : Nat) (data : W32) : State :=
  if data.getLsbD 26 then s.setCnt ((off - Reg.PERF_SEL) / 0x100) ((off - Reg.PERF_SEL) % 0x100 / 4) 0 else s

/-- R69: RETRAIN written with 1: the link retrains with the current limits. -/
def State.retrainWritten (s : State) (t : Nat) (data : W32) : State :=
  if rwmOne data 8 && s.mayTrain t then s.startTraining t else s

/-- R99: LAT_CLR written with 1 clears TXN_LAT_MAX and TXN_LAT_OVER. -/
def State.latClrWritten (s : State) (t : Nat) (data : W32) : State :=
  if rwmOne data 0 then (s.setReg (Reg.TXN_LAT_MAX t) 0).setReg (Reg.TXN_LAT_OVER t) 0 else s

/-- What a write that was applied does beyond its register; `us` is how long a window has been open. -/
def State.afterWrite (s : State) (acc : Access) (d : RegDef) (off us : Nat) (data : W32) : State :=
  let r := ringOfReg off
  let t := tileOfReg off
  if d.key = Reg.DB_SQ_TAIL 0 then s.dbSqTail r (fieldOf data 15 0)
  else if d.key = Reg.DB_CQ_HEAD 0 then s.dbCqHead r (fieldOf data 15 0)
  else if d.key = Reg.RING_CTL 0 then s.ringCtlWritten r acc.head data
  else if d.key = Reg.PWR_FAULT then (if data.getLsbD 0 then s.faultClear (if acc.sideband then 1 else 16 * acc.head) else s)
  else if d.key = Reg.THM_ALERT ∨ d.key = Reg.THM_ALERT_MASK then s.alertLine
  else if d.key = Reg.BELFRY_TRIM_CTL then s.trimWritten data
  else if d.key = Reg.CLK_CTL then (if rwmOne data 3 || s.regBit Reg.CLK_CTL 2 then s.clkReturn else s)
  else if d.key = Reg.CLK_GATE_CTL 0 then s.gateWritten t (rwmMask data &&& fieldOf data 4 0)
  else if d.key = Reg.CLK_TILE_RESET then s.clkTileReset (fieldOf data 31 16) (fieldOf data 2 0)
  else if d.key = Reg.GB_CURSOR then s.cursorWritten data
  else if d.key = Reg.PERF_SEL then s.selWritten off data
  else if d.key = Reg.PERF_WIN_CTL then s.winWritten ((off - Reg.PERF_WIN_CTL) / 8) us data
  else if d.key = Reg.HEAD_LINK_CTL 0 then s.retrainWritten t data
  else if d.key = Reg.TXN_CTL 0 then s.latClrWritten t data
  else s

/-- R11: the register is the _HI half of a pair that can be written. -/
def hiHalf (key : Nat) : Bool := key == Reg.RING_SQ_BASE_HI 0 || key == Reg.RING_CQ_BASE_HI 0

/-- R11: the register is the _LO half of a pair that can be written. -/
def loHalf (key : Nat) : Bool := key == Reg.RING_SQ_BASE_LO 0 || key == Reg.RING_CQ_BASE_LO 0

/-- R436, R11: the register takes its new value; a _HI half is held until its _LO half is written. PERF_SEL of a counter in
LEVEL mode first brings the counter up to date. -/
def State.putWritten (s : State) (d : RegDef) (off : Nat) (data : W32) : State :=
  if hiHalf d.key then { s with reg := { s.reg with heldHi := aput off (data &&& d.wmask) s.reg.heldHi } }
  else if loHalf d.key then
    let s1 := s.setReg off (d.apply (s.getReg off) data)
    match aget (off + 4) s.reg.heldHi with
    | some v => (({ s1 with reg := { s1.reg with heldHi := adel (off + 4) s1.reg.heldHi } } : State)).setReg (off + 4) v
    | none => s1
  else if [Reg.DB_SQ_TAIL 0, Reg.DB_CQ_HEAD 0, Reg.PWR_FAULT].contains d.key then s
  else if d.key = Reg.PWR_CTL then (s.setReg off (d.apply (s.getReg off) data)).modPw (fun p => { p with longOld := some (s.fld Reg.PWR_CTL 11 8) })
  else if d.key = Reg.THM_GPIO_CTL then (s.setReg off (d.apply (s.getReg off) data)).tachBack (s.fld Reg.THM_GPIO_CTL 3 0)
  else if d.key = Reg.PERF_SEL then (s.settleLevel ((off - Reg.PERF_SEL) / 0x100)).setReg off (d.apply (s.getReg off) data)
  else s.setReg off (d.apply (s.getReg off) data)

/-- R439: one 4-byte half of a write, whose byte enables are `be`: privilege, enables, Hold-up, gate, claim, then the write. -/
def State.writeWord (s : State) (acc : Access) (off us be : Nat) (data : W32) : State :=
  match regDef? s.pop.tiles off with
  | none => s
  | some d =>
    if be % 16 = 0 ∨ d.key = Reg.FABRIC_WINDOW ∨ d.key = Reg.CARAVAN_WINDOW then s
    else if !s.accessOk acc d off (some data) then s.privFiltered acc off 1
    else if be % 16 ≠ 15 then s.accessErr acc off 4
    else if s.md.mode = .holdup ∨ s.inTileReset off then s
    else if s.gateHolds d off data then s.cfgIgnored
    else
      match s.claimRefused d off data with
      | some (c, t, i) => s.cfgConflict c t i
      | none => ((s.touchBlock off).putWritten d off data).afterWrite acc d off us data

/-- R431: the registers that an access of `size` bytes at `off` touches, in ascending order. -/
def readWords (off size : Nat) : List Nat :=
  (List.range ((off + size + 3) / 4 - off / 4)).map (fun i => 4 * (off / 4 + i))

/-- R431: a write of a size or alignment that is not allowed is ignored whole: privilege first, then ACCESS_ERR. -/
def State.writeBad (s : State) (acc : Access) (off size : Nat) : State :=
  let hit := (readWords off size).filterMap (fun w => (regDef? s.pop.tiles w).map (fun d => (w, d)))
  if hit.isEmpty || hit.any (fun e => e.2.key == Reg.FABRIC_WINDOW || e.2.key == Reg.CARAVAN_WINDOW) then s
  else if hit.any (fun e => !s.accessOk acc e.2 e.1 (some 0)) then s.privFiltered acc off 1
  else s.accessErr acc off size

/-- R431: the upper half of an 8-byte write is the _HI register of its lower half, and is written first. -/
def hiFirst (tiles off : Nat) : Bool :=
  match regDef? tiles off with
  | some d => loHalf d.key
  | none => false

/-- R430, R431: a write of `size` bytes at `off` with its byte enables and data. -/
def State.busWrite (s : State) (acc : Access) (off size us be data : Nat) : State :=
  if !s.barAnswers acc off then s
  else if size = 4 ∧ off % 4 = 0 then s.writeWord acc off us be (BitVec.ofNat 32 data)
  else if size = 8 ∧ off % 8 = 0 then
    let lo (a : State) : State := a.writeWord acc off us (be % 16) (BitVec.ofNat 32 data)
    let hi (a : State) : State := a.writeWord acc (off + 4) us (be / 16) (BitVec.ofNat 32 (data / 2 ^ 32))
    if hiFirst s.pop.tiles off then lo (hi s) else hi (lo s)
  else s.writeBad acc off size

/-! ### Reads (R431, R11, R102) -/

/-- R11, R505: where a captured upper word is kept: on the user page for each head. -/
def capKey (acc : Access) (off : Nat) : Nat := if 0xF000 ≤ off ∧ off < 0x10000 then off + 2 ^ 20 * (acc.head + 1) else off

/-- R11: the _LO half of a pair, by row of the register table. -/
def loPair (key : Nat) : Bool :=
  loHalf key || [Reg.XL_JNL_POS_LO 0, Reg.PERF_CNT_LO 0, Reg.ATTEST_NEXT_LO, Reg.ATTEST_RESV_LO].contains key

/-- R469: a read of SEC_CHALLENGE0 draws a new challenge. -/
def State.drawChallenge (s : State) : State :=
  (s.modSec (fun x => { x with challenge := s.randNow.setWidth 256, challengeOk := true })).bumpRand

/-- What a read does before the register gives its word. -/
def State.beforeRead (s : State) (key off : Nat) : State :=
  let s1 := s.touchBlock off
  if key = Reg.SEC_CHALLENGE0 ∧ off = Reg.SEC_CHALLENGE0 then s1.drawChallenge
  else if key = Reg.PERF_CNT_LO 0 then s1.settleLevel (tileOfReg off)
  else if 0xF000 ≤ off ∧ off < 0x10000 ∧ off % 8 = 0 then s1.settleLevel ((off - 0xF000) / 0x200)
  else s1

/-- R11, R102, R482: what a read does once the register has given its word: captures, and GB_STATUS clears DROPPED. -/
def State.afterRead (s : State) (acc : Access) (key off : Nat) : State :=
  if loPair key ∨ (0xF000 ≤ off ∧ off < 0x10000 ∧ off % 8 = 0) then
    { s with reg := { s.reg with capHi := aput (capKey acc (off + 4)) (s.regView (off + 4)) s.reg.capHi } }
  else if key = Reg.BELFRY_TURN_LO then s.modBel (fun b => { b with turnHiSnap := b.turn / 2 ^ 32, angleSnap := s.localAngle })
  else if key = Reg.GB_STATUS then s.modGb (fun g => { g with dropped := 0 })
  else if key = Reg.THM_GPIO_CTL then s.bumpFree
  else s

/-- R430, R431: one register is read whole; the answer is its word. -/
def State.readWord (s : State) (acc : Access) (off : Nat) : State × W32 :=
  let d? := regDef? s.pop.tiles off
  let key := (d?.map (·.key)).getD off
  let ok := match d? with | some d => s.accessOk acc d off none | none => true
  if !ok then (s.privFiltered acc off 0, 0)
  else if s.inTileReset off then (s, 0xFFFFFFFF)
  else
    let s1 := s.beforeRead key off
    match aget (capKey acc off) s1.reg.capHi with
    | some v => ({ s1 with reg := { s1.reg with capHi := adel (capKey acc off) s1.reg.capHi } }, v)
    | none => (s1.afterRead acc key off, s1.regView off)

/-- R431: a read of any size and alignment. -/
def State.busRead (s : State) (acc : Access) (off size : Nat) : State :=
  if !s.barAnswers acc off then s
  else
    (readWords off size).foldl (fun a w =>
      let (b, v) := a.readWord acc w
      b.emit (.regData acc.head w v)) s

/-! ### Configuration parity (R441, R442) -/

/-- R442, R408: a ring whose register lost its parity is stopped and disabled. -/
def State.ringStopped (s : State) (r : Nat) : State :=
  if (s.ring r).state != .running then s
  else
    let h := (s.ring r).head
    ((s.modRing r (fun g => { g with state := .disabled, fetched := [], execs := g.execs.map (fun e => { e with discard := true }) })).setFld
      (Reg.RING_CTL r) 0 0 0).event Gb.PORTER_RING_RESET 15 (h :: gbWide (2 ^ r))

/-- R442: `copies` copies of the register at `off` fail their check in the same byte. -/
def State.parityFound (s : State) (off copies : Nat) : State :=
  match regDef? s.pop.tiles off with
  | none => s
  | some d =>
    if d.prot = 0 ∨ copies = 0 then s
    else if copies = 1 then (s.latch Reg.REG_ERR_STATUS 2 Gb.REG_PARITY 15 [off]).regErrAddr 0 2 off
    else
      let v := (s.regView off &&& ~~~d.prot) ||| (s.snapReg off &&& d.prot)
      let s1 := s.putTyped off v
      let s2 := if d.priv = .ring then s1.ringStopped (ringOfReg off) else s1
      ((s2.alertLine).latch Reg.REG_ERR_STATUS 3 Gb.REG_PARITY_LOST 15 [off, v.toNat]).regErrAddr 0 2 off

/-! ### The rows of the register interface -/

/-- R438, R441: a read by the master reaches the register at `off`, so that its copies are checked. -/
def State.reads (s : State) (acc : Access) (off : Nat) : Bool :=
  !s.inTileReset off && (match regDef? s.pop.tiles off with | some d => s.accessOk acc d off none | none => false)

/-- R439: a write to a register; one of PERF_WIN_CTL closes a window whose length is open here (notes/assumptions/3.md). -/
def State.registerWriteEff (s : State) (acc : Access) (off size be data : Nat) : State :=
  (s.busWrite acc off size (s.freeNow % 2 ^ 20) be data).bumpFree

/-- R11, R431: a read of `size` bytes at `off`, _LO registers of pairs among them. `copies` says how many copies of the register
at `off` fail their check on this read (R442). -/
def State.pairedLoReadEff (s : State) (acc : Access) (off size copies : Nat) : State :=
  if s.barAnswers acc off then (if s.reads acc (off - off % 4) then s.parityFound (off - off % 4) copies else s).busRead acc off size else s

/-- R434: an access ends without its value: a read completes with all ones. A write that takes effect later arrives as a write of
its own. Causes: 0 the 2 ms, 1 the crossing (R382). -/
def State.registerAccessTimeoutEff (s : State) (acc : Access) (off : Nat) (read : Bool) (cause : Nat) : State :=
  if !s.barAnswers acc off then s
  else
    let s1 := (s.latch Reg.REG_ERR_STATUS 1 Gb.REG_STALL 15 [acc.head, off, cause]).regErrAddr acc.head 1 off
    if read then s1.emit (.regData acc.head off 0xFFFFFFFF) else s1

/-- R433: the always-on island holds the register: the Power and hold-up block, that of the thermal and sled registers of the package, and the
Guestbook and Parameter Store window. -/
def islandReg (off : Nat) : Bool := off / 0x1000 == 9 || off / 0x1000 == 0xB || off / 0x1000 == 0xD

/-- R441, R442: the scan visits the register at `off`; `copies` of its two copies fail. It visits those of the always-on island on VAUX alone. -/
def State.configParityScanEff (s : State) (off copies : Nat) : State :=
  if s.md.resetsReleased || (s.md.mode != .off && islandReg off) then s.parityFound off copies else s

/-- R102: a read of BELFRY_TURN_LO. -/
def State.belfryTurnLoReadEff (s : State) (acc : Access) : State := s.busRead acc Reg.BELFRY_TURN_LO 4

/-- R469: a read of SEC_CHALLENGE0. -/
def State.secChallengeReadEff (s : State) (acc : Access) : State := s.busRead acc Reg.SEC_CHALLENGE0 4

/-- R482: a read of GB_STATUS. -/
def State.gbStatusReadEff (s : State) (acc : Access) : State := s.busRead acc Reg.GB_STATUS 4

/-- R482: a write of GB_CURSOR. -/
def State.gbCursorWriteEff (s : State) (acc : Access) (cursor : W32) : State := s.busWrite acc Reg.GB_CURSOR 4 0 15 cursor.toNat

/-- R499: a write of PERF_SEL with CLR = 1; `data` gives its other fields. -/
def State.perfCounterClrEff (s : State) (acc : Access) (tile counter : Nat) (data : W32) : State :=
  s.busWrite acc (selReg tile counter) 4 0 15 (data ||| 0x04000000).toNat

/-- R507: a write of PERF_WIN_CTL; the window has been open for `us` µs. -/
def State.perfWinCtlWriteEff (s : State) (acc : Access) (window us : Nat) (data : W32) : State :=
  s.busWrite acc (winCtl window) 4 us 15 data.toNat

/-- R411: a write of DB_SQ_TAIL. -/
def State.dbSqTailEff (s : State) (acc : Access) (ring value : Nat) : State := s.busWrite acc (Reg.DB_SQ_TAIL ring) 4 0 15 value

/-- R411: a write of DB_CQ_HEAD. -/
def State.dbCqHeadEff (s : State) (acc : Access) (ring value : Nat) : State := s.busWrite acc (Reg.DB_CQ_HEAD ring) 4 0 15 value

/-- R410: ENABLE of RING_CTL written with 1. -/
def State.ringEnableEff (s : State) (acc : Access) (ring : Nat) : State := s.busWrite acc (Reg.RING_CTL ring) 4 0 15 0x10001

/-- R410: ENABLE of RING_CTL written with 0. -/
def State.ringDisableEff (s : State) (acc : Access) (ring : Nat) : State := s.busWrite acc (Reg.RING_CTL ring) 4 0 15 0x10000

/-- R343: FAULT of PWR_FAULT written with 1. -/
def State.pwrFaultClearEff (s : State) (acc : Access) : State := s.busWrite acc Reg.PWR_FAULT 4 0 15 1

/-- R69: RETRAIN of HEAD_LINK_CTL written with 1. -/
def State.retrainEff (s : State) (acc : Access) (tile : Nat) : State := s.busWrite acc (Reg.HEAD_LINK_CTL tile) 4 0 15 0x1000100

/-- R99: LAT_CLR of TXN_CTL written with 1. -/
def State.latClrEff (s : State) (acc : Access) (tile : Nat) : State := s.busWrite acc (Reg.TXN_CTL tile) 4 0 15 0x10001

/-- R128: a write of BELFRY_TRIM_CTL that selects TRIM_SRC. -/
def State.trimStartEff (s : State) (acc : Access) (data : W32) : State :=
  s.busWrite acc Reg.BELFRY_TRIM_CTL 4 0 15 (data ||| 0xC0000000).toNat

/-- R373: RETURN of CLK_CTL written with 1. -/
def State.clkReturnEff (s : State) (acc : Access) : State := s.busWrite acc Reg.CLK_CTL 4 0 15 0x80008

/-- R374: a write of CLK_GATE_CTL. -/
def State.clkGateRequestEff (s : State) (acc : Access) (tile : Nat) (data : W32) : State :=
  s.busWrite acc (Reg.CLK_GATE_CTL tile) 4 0 15 data.toNat

/-- R379: a write of CLK_TILE_RESET. -/
def State.clkTileResetEff (s : State) (acc : Access) (key tile : Nat) : State :=
  s.busWrite acc Reg.CLK_TILE_RESET 4 0 15 (key % 65536 * 65536 + tile % 8)

/-! ### The commands of this family -/

/-- PWR_FAULT_CLEAR (R343): A privileged W1C write or sideband FAULT_CLEAR clears FAULT and records
GB_PWR_FAULT_CLEAR. -/
def execPwrFaultClear (acc : Access) (s : State) : Host.Outcome State Fault Refusal :=
  s.run (fun x => x.pwrFaultClearEff acc)

/-- RETRAIN (R69): RETRAIN written with 1 retrains the link with the current limits. -/
def execRetrain (acc : Access) (tile : Nat) (s : State) : Host.Outcome State Fault Refusal :=
  s.run (fun x => x.retrainEff acc tile)

/-- LAT_CLR (R99): LAT_CLR written with 1 clears TXN_LAT_MAX and TXN_LAT_OVER. -/
def execLatClr (acc : Access) (tile : Nat) (s : State) : Host.Outcome State Fault Refusal :=
  s.run (fun x => x.latClrEff acc tile)

/-- BELFRY_TURN_LO_READ (R102): A read of BELFRY_TURN_LO captures TURN_HI and the local angle. -/
def execBelfryTurnLoRead (acc : Access) (s : State) : Host.Outcome State Fault Refusal :=
  s.run (fun x => x.belfryTurnLoReadEff acc)

/-- TRIM_START (R128): A write of TRIM_SRC starts a trim of the internal oscillator. -/
def execTrimStart (acc : Access) (data : W32) (s : State) : Host.Outcome State Fault Refusal :=
  s.run (fun x => x.trimStartEff acc data)

/-- CLK_RETURN (R373): RETURN written with 1 moves every domain back to a stable source. -/
def execClkReturn (acc : Access) (s : State) : Host.Outcome State Fault Refusal :=
  s.run (fun x => x.clkReturnEff acc)

/-- CLK_GATE_REQUEST (R374): A gate bit written with 1 requests a block's clock gate. -/
def execClkGateRequest (acc : Access) (tile : Nat) (data : W32)
    (s : State) : Host.Outcome State Fault Refusal :=
  s.run (fun x => x.clkGateRequestEff acc tile data)

/-- CLK_TILE_RESET (R379): A keyed write resets one tile or is refused. -/
def execClkTileReset (acc : Access) (key tile : Nat) (s : State) : Host.Outcome State Fault Refusal :=
  s.run (fun x => x.clkTileResetEff acc key tile)

/-- DB_SQ_TAIL (R411): A write of DB_SQ_TAIL makes descriptors fetchable or puts the ring in ERROR. -/
def execDbSqTail (acc : Access) (ring value : Nat) (s : State) : Host.Outcome State Fault Refusal :=
  s.run (fun x => x.dbSqTailEff acc ring value)

/-- DB_CQ_HEAD (R411): A write of DB_CQ_HEAD releases completion entries or puts the ring in ERROR. -/
def execDbCqHead (acc : Access) (ring value : Nat) (s : State) : Host.Outcome State Fault Refusal :=
  s.run (fun x => x.dbCqHeadEff acc ring value)

/-- RING_ENABLE (R410): ENABLE written with 1 resets the ring positions and makes it RUNNING. -/
def execRingEnable (acc : Access) (ring : Nat) (s : State) : Host.Outcome State Fault Refusal :=
  s.run (fun x => x.ringEnableEff acc ring)

/-- RING_DISABLE (R410): ENABLE written with 0 makes a RUNNING ring DISABLING. -/
def execRingDisable (acc : Access) (ring : Nat) (s : State) : Host.Outcome State Fault Refusal :=
  s.run (fun x => x.ringDisableEff acc ring)

/-- SEC_CHALLENGE_READ (R469): A read of SEC_CHALLENGE0 draws a new challenge. -/
def execSecChallengeRead (acc : Access) (s : State) : Host.Outcome State Fault Refusal :=
  s.run (fun x => x.secChallengeReadEff acc)

/-- REGISTER_WRITE (R439): A write to a register with no row of its own is checked and applied. -/
def execRegisterWrite (acc : Access) (off size be data : Nat)
    (s : State) : Host.Outcome State Fault Refusal :=
  s.run (fun x => x.registerWriteEff acc off size be data)

/-- PAIRED_LO_READ (R11): A read of a _LO register captures the matching _HI bits. -/
def execPairedLoRead (acc : Access) (off size copies : Nat) (s : State) : Host.Outcome State Fault Refusal :=
  s.run (fun x => x.pairedLoReadEff acc off size copies)

/-- REGISTER_ACCESS_TIMEOUT (R434): A register access ends after 2 ms with STALL_TIMEOUT. -/
def execRegisterAccessTimeout (acc : Access) (off : Nat) (read : Bool) (cause : Nat)
    (s : State) : Host.Outcome State Fault Refusal :=
  s.run (fun x => x.registerAccessTimeoutEff acc off read cause)

/-- CONFIG_PARITY_SCAN (R441): The background scan checks every protected register at least every 1 ms. -/
def execConfigParityScan (off copies : Nat) (s : State) : Host.Outcome State Fault Refusal :=
  s.run (fun x => x.configParityScanEff off copies)

/-- GB_CURSOR_WRITE (R482): A write of GB_CURSOR starts loading records into the window. -/
def execGbCursorWrite (acc : Access) (cursor : W32) (s : State) : Host.Outcome State Fault Refusal :=
  s.run (fun x => x.gbCursorWriteEff acc cursor)

/-- GB_STATUS_READ (R482): A read of GB_STATUS returns and clears DROPPED. -/
def execGbStatusRead (acc : Access) (s : State) : Host.Outcome State Fault Refusal :=
  s.run (fun x => x.gbStatusReadEff acc)

/-- PERF_COUNTER_CLR (R499): CLR written with 1 zeroes a counter. -/
def execPerfCounterClr (acc : Access) (tile counter : Nat) (data : W32)
    (s : State) : Host.Outcome State Fault Refusal :=
  s.run (fun x => x.perfCounterClrEff acc tile counter data)

/-- PERF_WIN_CTL_WRITE (R507): A write to PERF_WIN_CTL closes the window early and sets its mode. -/
def execPerfWinCtlWrite (acc : Access) (window us : Nat) (data : W32)
    (s : State) : Host.Outcome State Fault Refusal :=
  s.run (fun x => x.perfWinCtlWriteEff acc window us data)

end Sys2Proof.Machine
end

