-- ==== Sys2Proof/Machine/Dispatch.lean ====
section
/-! DEFINITION. Machine/Dispatch.lean: one arm per command; each arm calls that command's meaning. -/

namespace Sys2Proof.Machine

open Sys2Proof

def exec (i : Instr) (s : State) : Host.Outcome State Fault Refusal :=
  match i with
  | .islandPowerOn straps badCirc badPerm => Sys2Proof.Machine.execIslandPowerOn straps badCirc badPerm s
  | .vauxLoss cut => Sys2Proof.Machine.execVauxLoss cut s
  | .onRequest source => Sys2Proof.Machine.execOnRequest source s
  | .onRequestLatchedStart => Sys2Proof.Machine.execOnRequestLatchedStart s
  | .slotUpDelayExpire us => Sys2Proof.Machine.execSlotUpDelayExpire us s
  | .slotQualified stableUs => Sys2Proof.Machine.execSlotQualified stableUs s
  | .slotPgTimeout us => Sys2Proof.Machine.execSlotPgTimeout us s
  | .railFailure slot => Sys2Proof.Machine.execRailFailure slot s
  | .slotDownDelayExpire us => Sys2Proof.Machine.execSlotDownDelayExpire us s
  | .pwrFaultClear acc => Sys2Proof.Machine.execPwrFaultClear acc s
  | .powerButtonShort => Sys2Proof.Machine.execPowerButtonShort s
  | .powerButtonLong heldMs old => Sys2Proof.Machine.execPowerButtonLong heldMs old s
  | .mrst => Sys2Proof.Machine.execMrst s
  | .pwrfailInputLoss => Sys2Proof.Machine.execPwrfailInputLoss s
  | .senseSample vin hold => Sys2Proof.Machine.execSenseSample vin hold s
  | .shedStageLeave stage => Sys2Proof.Machine.execShedStageLeave stage s
  | .shedStage4Enter elapsedMs => Sys2Proof.Machine.execShedStage4Enter elapsedMs s
  | .measuredLimitRecompute => Sys2Proof.Machine.execMeasuredLimitRecompute s
  | .holdupTestStart rise v0 v1 => Sys2Proof.Machine.execHoldupTestStart rise v0 v1 s
  | .holdupTestFall dtNs fall => Sys2Proof.Machine.execHoldupTestFall dtNs fall s
  | .holdChgWaitExpire sec => Sys2Proof.Machine.execHoldChgWaitExpire sec s
  | .holdupTest pc rise v0 v1 => Sys2Proof.Machine.execHoldupTest pc rise v0 v1 s
  | .setShedLevels pc warn1 warn2 pfail hyst persist => Sys2Proof.Machine.execSetShedLevels pc warn1 warn2 pfail hyst persist s
  | .powerOffRequest pc noGrace => Sys2Proof.Machine.execPowerOffRequest pc noGrace s
  | .offGraceExpire ms => Sys2Proof.Machine.execOffGraceExpire ms s
  | .shutdownCheckpointDone => Sys2Proof.Machine.execShutdownCheckpointDone s
  | .shutdownDeadlineExpire => Sys2Proof.Machine.execShutdownDeadlineExpire s
  | .holdupEntry cause => Sys2Proof.Machine.execHoldupEntry cause s
  | .holdupComplete elapsedMs => Sys2Proof.Machine.execHoldupComplete elapsedMs s
  | .holdupCapExpire sinceMs => Sys2Proof.Machine.execHoldupCapExpire sinceMs s
  | .warmReset cause => Sys2Proof.Machine.execWarmReset cause s
  | .pllLock tile pll => Sys2Proof.Machine.execPllLock tile pll s
  | .pllLockTimeout tile pll => Sys2Proof.Machine.execPllLockTimeout tile pll s
  | .tileSelfTestDone failed badWays => Sys2Proof.Machine.execTileSelfTestDone failed badWays s
  | .channelTrainingDone tile ch step cs ranks temp => Sys2Proof.Machine.execChannelTrainingDone tile ch step cs ranks temp s
  | .sectionLoadCheck ok => Sys2Proof.Machine.execSectionLoadCheck ok s
  | .bootWatchdogExpire => Sys2Proof.Machine.execBootWatchdogExpire s
  | .gddr7TrainingDone tile fail gbits => Sys2Proof.Machine.execGddr7TrainingDone tile fail gbits s
  | .mapRestoreDone tile lost conflict clearFails keysBad trngOk => Sys2Proof.Machine.execMapRestoreDone tile lost conflict clearFails keysBad trngOk s
  | .bringupComplete elapsedMs => Sys2Proof.Machine.execBringupComplete elapsedMs s
  | .getMode pc => Sys2Proof.Machine.execGetMode pc s
  | .setMode pc target => Sys2Proof.Machine.execSetMode pc target s
  | .serviceDrainComplete windowUs => Sys2Proof.Machine.execServiceDrainComplete windowUs s
  | .heartbeatSend tile answers => Sys2Proof.Machine.execHeartbeatSend tile answers s
  | .heartbeatMiss tile answers => Sys2Proof.Machine.execHeartbeatMiss tile answers s
  | .primaryFailover cause answers => Sys2Proof.Machine.execPrimaryFailover cause answers s
  | .tileRejoin errs ms => Sys2Proof.Machine.execTileRejoin errs ms s
  | .meshLinkFail tile port answers => Sys2Proof.Machine.execMeshLinkFail tile port answers s
  | .meshMessageDeliver tile port cls upset latNs idle => Sys2Proof.Machine.execMeshMessageDeliver tile port cls upset latNs idle s
  | .linkTrainingDone head speed width flit cxl mldPartner ldCount reversed polarity upperFail recoveries replays => Sys2Proof.Machine.execLinkTrainingDone head speed width flit cxl mldPartner ldCount reversed polarity upperFail recoveries replays s
  | .retrain acc tile => Sys2Proof.Machine.execRetrain acc tile s
  | .headReset head kind => Sys2Proof.Machine.execHeadReset head kind s
  | .cxlReset head => Sys2Proof.Machine.execCxlReset head s
  | .functionLevelReset head => Sys2Proof.Machine.execFunctionLevelReset head s
  | .memRd m => Sys2Proof.Machine.execMemRd m s
  | .memRdData m => Sys2Proof.Machine.execMemRdData m s
  | .memSpecRd m => Sys2Proof.Machine.execMemSpecRd m s
  | .memInv m => Sys2Proof.Machine.execMemInv m s
  | .memInvNt m => Sys2Proof.Machine.execMemInvNt m s
  | .memWr m data poison => Sys2Proof.Machine.execMemWr m data poison s
  | .memWrPtl m data be poison => Sys2Proof.Machine.execMemWrPtl m data be poison s
  | .unsupportedM2s m => Sys2Proof.Machine.execUnsupportedM2s m s
  | .dirtyWaitRelease tile latNs => Sys2Proof.Machine.execDirtyWaitRelease tile latNs s
  | .hazardAdmit tile latNs => Sys2Proof.Machine.execHazardAdmit tile latNs s
  | .trackerCreditRelease head latNs => Sys2Proof.Machine.execTrackerCreditRelease head latNs s
  | .s2mCreditGrant head ndr drs latNs => Sys2Proof.Machine.execS2mCreditGrant head ndr drs latNs s
  | .trackerTimeout head id latNs => Sys2Proof.Machine.execTrackerTimeout head id latNs s
  | .latClr acc tile => Sys2Proof.Machine.execLatClr acc tile s
  | .qosWindowEnd head => Sys2Proof.Machine.execQosWindowEnd head s
  | .gpfPhase1 head => Sys2Proof.Machine.execGpfPhase1 head s
  | .gpfPhase2 head => Sys2Proof.Machine.execGpfPhase2 head s
  | .gpfPhase2Ack head => Sys2Proof.Machine.execGpfPhase2Ack head s
  | .hdmDecoderCommit head ld idx iw ig base size skip target lock => Sys2Proof.Machine.execHdmDecoderCommit head ld idx iw ig base size skip target lock s
  | .outboundCompletionTimeout ring cid us => Sys2Proof.Machine.execOutboundCompletionTimeout ring cid us s
  | .tunnelManagementCommand head target => Sys2Proof.Machine.execTunnelManagementCommand head target s
  | .getLdInfo head => Sys2Proof.Machine.execGetLdInfo head s
  | .getLdAllocations head target start limit => Sys2Proof.Machine.execGetLdAllocations head target start limit s
  | .setLdAllocations head target start sizes trngOk => Sys2Proof.Machine.execSetLdAllocations head target start sizes trngOk s
  | .getQosControl head => Sys2Proof.Machine.execGetQosControl head s
  | .setQosControl head fields => Sys2Proof.Machine.execSetQosControl head fields s
  | .getQosStatus head => Sys2Proof.Machine.execGetQosStatus head s
  | .getQosAllocatedBw head start n => Sys2Proof.Machine.execGetQosAllocatedBw head start n s
  | .setQosAllocatedBw head start fractions => Sys2Proof.Machine.execSetQosAllocatedBw head start fractions s
  | .getQosBwLimit head start n => Sys2Proof.Machine.execGetQosBwLimit head start n s
  | .setQosBwLimit head start fractions => Sys2Proof.Machine.execSetQosBwLimit head start fractions s
  | .getMultiHeadedInfo head => Sys2Proof.Machine.execGetMultiHeadedInfo head s
  | .getHeadInfo head start n => Sys2Proof.Machine.execGetHeadInfo head start n s
  | .getDcdInfo head => Sys2Proof.Machine.execGetDcdInfo head s
  | .getHostDcRegionConfiguration head target ld start n => Sys2Proof.Machine.execGetHostDcRegionConfiguration head target ld start n s
  | .setDcRegionConfiguration head target ld region base len blockSize share => Sys2Proof.Machine.execSetDcRegionConfiguration head target ld region base len blockSize share s
  | .getDcdExtentLists head target ld start n => Sys2Proof.Machine.execGetDcdExtentLists head target ld start n s
  | .initiateDynamicCapacityAdd head target ld region policy len start trngOk => Sys2Proof.Machine.execInitiateDynamicCapacityAdd head target ld region policy len start trngOk s
  | .initiateDynamicCapacityRelease head target ld region start len forced => Sys2Proof.Machine.execInitiateDynamicCapacityRelease head target ld region start len forced s
  | .extentReleaseDone ld region start => Sys2Proof.Machine.execExtentReleaseDone ld region start s
  | .waitingAddResume trngOk => Sys2Proof.Machine.execWaitingAddResume trngOk s
  | .getEventRecords head ld log => Sys2Proof.Machine.execGetEventRecords head ld log s
  | .clearEventRecords head ld log n all => Sys2Proof.Machine.execClearEventRecords head ld log n all s
  | .getEventInterruptPolicy head ld => Sys2Proof.Machine.execGetEventInterruptPolicy head ld s
  | .setEventInterruptPolicy head ld policies => Sys2Proof.Machine.execSetEventInterruptPolicy head ld policies s
  | .getFwInfo head ld => Sys2Proof.Machine.execGetFwInfo head ld s
  | .transferFw head ld action offset len img => Sys2Proof.Machine.execTransferFw head ld action offset len img s
  | .activateFw head ld action => Sys2Proof.Machine.execActivateFw head ld action s
  | .getTimestamp head ld => Sys2Proof.Machine.execGetTimestamp head ld s
  | .setTimestamp head ld ns => Sys2Proof.Machine.execSetTimestamp head ld ns s
  | .getSupportedLogs head ld => Sys2Proof.Machine.execGetSupportedLogs head ld s
  | .getLog head ld cel start n => Sys2Proof.Machine.execGetLog head ld cel start n s
  | .identifyMemoryDevice head ld => Sys2Proof.Machine.execIdentifyMemoryDevice head ld s
  | .getPartitionInfo head ld => Sys2Proof.Machine.execGetPartitionInfo head ld s
  | .setPartitionInfo head ld => Sys2Proof.Machine.execSetPartitionInfo head ld s
  | .getHealthInfo head ld => Sys2Proof.Machine.execGetHealthInfo head ld s
  | .getAlertConfiguration head ld => Sys2Proof.Machine.execGetAlertConfiguration head ld s
  | .setAlertConfiguration head ld alerts => Sys2Proof.Machine.execSetAlertConfiguration head ld alerts s
  | .getShutdownState head ld => Sys2Proof.Machine.execGetShutdownState head ld s
  | .setShutdownState head ld value => Sys2Proof.Machine.execSetShutdownState head ld value s
  | .getPoisonList head ld first len => Sys2Proof.Machine.execGetPoisonList head ld first len s
  | .injectPoison head ld dpa => Sys2Proof.Machine.execInjectPoison head ld dpa s
  | .clearPoison head ld dpa data => Sys2Proof.Machine.execClearPoison head ld dpa data s
  | .getScanMediaCapabilities head ld first len => Sys2Proof.Machine.execGetScanMediaCapabilities head ld first len s
  | .scanMedia head ld first len => Sys2Proof.Machine.execScanMedia head ld first len s
  | .getScanMediaResults head ld => Sys2Proof.Machine.execGetScanMediaResults head ld s
  | .sanitize head ld trngOk => Sys2Proof.Machine.execSanitize head ld trngOk s
  | .secureErase head ld trngOk => Sys2Proof.Machine.execSecureErase head ld trngOk s
  | .getDynamicCapacityConfiguration head ld start n => Sys2Proof.Machine.execGetDynamicCapacityConfiguration head ld start n s
  | .getDynamicCapacityExtentList head ld start n => Sys2Proof.Machine.execGetDynamicCapacityExtentList head ld start n s
  | .addDynamicCapacityResponse head ld accepted => Sys2Proof.Machine.execAddDynamicCapacityResponse head ld accepted s
  | .releaseDynamicCapacity head ld extents => Sys2Proof.Machine.execReleaseDynamicCapacity head ld extents s
  | .doeDiscovery head index => Sys2Proof.Machine.execDoeDiscovery head index s
  | .cdatTableAccess head ld => Sys2Proof.Machine.execCdatTableAccess head ld s
  | .negotiateAlgorithms head xmss => Sys2Proof.Machine.execNegotiateAlgorithms head xmss s
  | .challenge head nonce => Sys2Proof.Machine.execChallenge head nonce s
  | .getMeasurements head index signed nonce => Sys2Proof.Machine.execGetMeasurements head index signed nonce s
  | .keyExchange head nonce => Sys2Proof.Machine.execKeyExchange head nonce s
  | .pskExchange head => Sys2Proof.Machine.execPskExchange head s
  | .keyImport head secret => Sys2Proof.Machine.execKeyImport head secret s
  | .keyDelete head handle => Sys2Proof.Machine.execKeyDelete head handle s
  | .ideKmQuery head => Sys2Proof.Machine.execIdeKmQuery head s
  | .keyProg head stream set dir io => Sys2Proof.Machine.execKeyProg head stream set dir io s
  | .kSetGo head stream set dir io => Sys2Proof.Machine.execKSetGo head stream set dir io s
  | .kSetStop head stream set dir => Sys2Proof.Machine.execKSetStop head stream set dir s
  | .ideKeySwitch head stream => Sys2Proof.Machine.execIdeKeySwitch head stream s
  | .phaseInMark widthNs angle sinceNs => Sys2Proof.Machine.execPhaseInMark widthNs angle sinceNs s
  | .markWindowExpire trim => Sys2Proof.Machine.execMarkWindowExpire trim s
  | .holdoverLimitExpire => Sys2Proof.Machine.execHoldoverLimitExpire s
  | .fabricPhaseMessage head whole ptm bytes nowNs angle sinceNs => Sys2Proof.Machine.execFabricPhaseMessage head whole ptm bytes nowNs angle sinceNs s
  | .turnWrap tile => Sys2Proof.Machine.execTurnWrap tile s
  | .sectorStart tile entry => Sys2Proof.Machine.execSectorStart tile entry s
  | .sectorEnd tile entry windowUs => Sys2Proof.Machine.execSectorEnd tile entry windowUs s
  | .scheduleActivation tile => Sys2Proof.Machine.execScheduleActivation tile s
  | .belfrySetRef pc source period offset stagger domain turnSet turnSetValid persist => Sys2Proof.Machine.execBelfrySetRef pc source period offset stagger domain turnSet turnSetValid persist s
  | .belfryLoadSchedule pc tileMask addr buf actTurn actNext persist => Sys2Proof.Machine.execBelfryLoadSchedule pc tileMask addr buf actTurn actNext persist s
  | .belfryGetStatus pc tile => Sys2Proof.Machine.execBelfryGetStatus pc tile s
  | .belfryTurnLoRead acc => Sys2Proof.Machine.execBelfryTurnLoRead acc s
  | .trimStart acc data => Sys2Proof.Machine.execTrimStart acc data s
  | .trimMeasurementDone count => Sys2Proof.Machine.execTrimMeasurementDone count s
  | .ioscTrimHourly => Sys2Proof.Machine.execIoscTrimHourly s
  | .commitChoose tile bad => Sys2Proof.Machine.execCommitChoose tile bad s
  | .epochAdvance tile => Sys2Proof.Machine.execEpochAdvance tile s
  | .lineFillDone tile frame errs latNs => Sys2Proof.Machine.execLineFillDone tile frame errs latNs s
  | .commitFillDone tile frame errs bad latNs => Sys2Proof.Machine.execCommitFillDone tile frame errs bad latNs s
  | .frameCommitComplete tile frame latNs => Sys2Proof.Machine.execFrameCommitComplete tile frame latNs s
  | .segmentLockRelease tile seg latNs => Sys2Proof.Machine.execSegmentLockRelease tile seg latNs s
  | .fsFlushAll pc => Sys2Proof.Machine.execFsFlushAll pc s
  | .fsFlushRange pc ld pkg start length => Sys2Proof.Machine.execFsFlushRange pc ld pkg start length s
  | .fsInvalidateRange pc ld pkg start length => Sys2Proof.Machine.execFsInvalidateRange pc ld pkg start length s
  | .fsDisable pc => Sys2Proof.Machine.execFsDisable pc s
  | .fsDrainComplete tile => Sys2Proof.Machine.execFsDrainComplete tile s
  | .fsEnable pc => Sys2Proof.Machine.execFsEnable pc s
  | .fsWaysApply tile => Sys2Proof.Machine.execFsWaysApply tile s
  | .fsSetWays pc ways persist => Sys2Proof.Machine.execFsSetWays pc ways persist s
  | .fsSetDirtyLimit pc tileMask cap persist => Sys2Proof.Machine.execFsSetDirtyLimit pc tileMask cap persist s
  | .tagScan tile frame upset => Sys2Proof.Machine.execTagScan tile frame upset s
  | .caCommandReject tile ch => Sys2Proof.Machine.execCaCommandReject tile ch s
  | .readRetrain tile ch => Sys2Proof.Machine.execReadRetrain tile ch s
  | .statusPoll tile ch rank => Sys2Proof.Machine.execStatusPoll tile ch rank s
  | .statusReply tile ch rank replies => Sys2Proof.Machine.execStatusReply tile ch rank replies s
  | .programDone tile loc ok => Sys2Proof.Machine.execProgramDone tile loc ok s
  | .clearDone tile loc ok => Sys2Proof.Machine.execClearDone tile loc ok s
  | .opActiveTimeout tile loc clear => Sys2Proof.Machine.execOpActiveTimeout tile loc clear s
  | .suspendComplete tile ch => Sys2Proof.Machine.execSuspendComplete tile ch s
  | .suspendLimitExpire tile id => Sys2Proof.Machine.execSuspendLimitExpire tile id s
  | .resumeIssue tile loc suspUs => Sys2Proof.Machine.execResumeIssue tile loc suspUs s
  | .mediaReadData tile id err others latNs => Sys2Proof.Machine.execMediaReadData tile id err others latNs s
  | .calibrationPageWrite tile ch rank => Sys2Proof.Machine.execCalibrationPageWrite tile ch rank s
  | .gddr7DeviceFault tile => Sys2Proof.Machine.execGddr7DeviceFault tile s
  | .mapRebuildStep tile lines ms => Sys2Proof.Machine.execMapRebuildStep tile lines ms s
  | .gcBatchStart tile plane => Sys2Proof.Machine.execGcBatchStart tile plane s
  | .copyPage tile src errs => Sys2Proof.Machine.execCopyPage tile src errs s
  | .copyBatchEnd tile src => Sys2Proof.Machine.execCopyBatchEnd tile src s
  | .wearMoveStart tile => Sys2Proof.Machine.execWearMoveStart tile s
  | .blockClearStart tile block => Sys2Proof.Machine.execBlockClearStart tile block s
  | .journalPageProgram tile => Sys2Proof.Machine.execJournalPageProgram tile s
  | .journalTimerExpire tile => Sys2Proof.Machine.execJournalTimerExpire tile s
  | .checkpointCapture tile => Sys2Proof.Machine.execCheckpointCapture tile s
  | .discardRange pc ld pkg start length => Sys2Proof.Machine.execDiscardRange pc ld pkg start length s
  | .secureDiscardRange pc ld pkg start length => Sys2Proof.Machine.execSecureDiscardRange pc ld pkg start length s
  | .getWear pc tile buf => Sys2Proof.Machine.execGetWear pc tile buf s
  | .retireBlock pc tile channel page => Sys2Proof.Machine.execRetireBlock pc tile channel page s
  | .setWearLimit pc limit10k spreadK persist => Sys2Proof.Machine.execSetWearLimit pc limit10k spreadK persist s
  | .mapCheckpoint pc tileMask => Sys2Proof.Machine.execMapCheckpoint pc tileMask s
  | .fencedRankWalk tile ch rank upTo => Sys2Proof.Machine.execFencedRankWalk tile ch rank upTo s
  | .scrubVisit tile ch errs => Sys2Proof.Machine.execScrubVisit tile ch errs s
  | .refreshExecute tile => Sys2Proof.Machine.execRefreshExecute tile s
  | .lostRepair tile ms => Sys2Proof.Machine.execLostRepair tile ms s
  | .injectError pc tile target ch page line frame seg count readNow errs => Sys2Proof.Machine.execInjectError pc tile target ch page line frame seg count readNow errs s
  | .scrubCtl pc mask enable restart sym off shift persist => Sys2Proof.Machine.execScrubCtl pc mask enable restart sym off shift persist s
  | .getErrorStats pc tile buf clear => Sys2Proof.Machine.execGetErrorStats pc tile buf clear s
  | .cupolaConfig pc regions persist => Sys2Proof.Machine.execCupolaConfig pc regions persist s
  | .cupolaRebuild pc kind ms => Sys2Proof.Machine.execCupolaRebuild pc kind ms s
  | .cupolaDeltaReceive tile errs => Sys2Proof.Machine.execCupolaDeltaReceive tile errs s
  | .cupolaBusyTimer tile => Sys2Proof.Machine.execCupolaBusyTimer tile s
  | .cupolaAckReceive tile => Sys2Proof.Machine.execCupolaAckReceive tile s
  | .cupolaAckTimeout tile seg answers waitMs totalMs => Sys2Proof.Machine.execCupolaAckTimeout tile seg answers waitMs totalMs s
  | .cupolaSlotFlush tile errs => Sys2Proof.Machine.execCupolaSlotFlush tile errs s
  | .cupolaResyncStripe ms => Sys2Proof.Machine.execCupolaResyncStripe ms s
  | .caravanFrameDelta f => Sys2Proof.Machine.execCaravanFrameDelta f s
  | .caravanFrameAck f => Sys2Proof.Machine.execCaravanFrameAck f s
  | .caravanFrameSettle f => Sys2Proof.Machine.execCaravanFrameSettle f s
  | .caravanFrameReadReq f errs => Sys2Proof.Machine.execCaravanFrameReadReq f errs s
  | .caravanFrameReadRsp f latNs => Sys2Proof.Machine.execCaravanFrameReadRsp f latNs s
  | .caravanFrameHello f => Sys2Proof.Machine.execCaravanFrameHello f s
  | .caravanFrameDepart f => Sys2Proof.Machine.execCaravanFrameDepart f s
  | .caravanFrameStaleMap f => Sys2Proof.Machine.execCaravanFrameStaleMap f s
  | .caravanFrameAlloc f => Sys2Proof.Machine.execCaravanFrameAlloc f s
  | .caravanFrameReplace f => Sys2Proof.Machine.execCaravanFrameReplace f s
  | .caravanFrameLeave f => Sys2Proof.Machine.execCaravanFrameLeave f s
  | .caravanResendTimer peer seq => Sys2Proof.Machine.execCaravanResendTimer peer seq s
  | .caravanAckTimeout peer seq waitMs totalMs => Sys2Proof.Machine.execCaravanAckTimeout peer seq waitMs totalMs s
  | .caravanBusyTimer tile => Sys2Proof.Machine.execCaravanBusyTimer tile s
  | .settleSend => Sys2Proof.Machine.execSettleSend s
  | .caravanSlotFlush tile errs => Sys2Proof.Machine.execCaravanSlotFlush tile errs s
  | .holdWaitExpire tile seg us => Sys2Proof.Machine.execHoldWaitExpire tile seg us s
  | .helloSend peer => Sys2Proof.Machine.execHelloSend peer s
  | .caravanResyncStripe ms => Sys2Proof.Machine.execCaravanResyncStripe ms s
  | .stripeLockExpire => Sys2Proof.Machine.execStripeLockExpire s
  | .caravanRebuildStep ms ns => Sys2Proof.Machine.execCaravanRebuildStep ms ns s
  | .caravanJoin pc group code n member spare base blocks heads handle buf table => Sys2Proof.Machine.execCaravanJoin pc group code n member spare base blocks heads handle buf table s
  | .caravanLeave pc dissolve ms => Sys2Proof.Machine.execCaravanLeave pc dissolve ms s
  | .caravanStatus pc => Sys2Proof.Machine.execCaravanStatus pc s
  | .caravanRebuild pc kind target ms => Sys2Proof.Machine.execCaravanRebuild pc kind target ms s
  | .clockSourceStable source windows => Sys2Proof.Machine.execClockSourceStable source windows s
  | .xtalStableTimeout => Sys2Proof.Machine.execXtalStableTimeout s
  | .clockSourceFail source cause tile pll meas => Sys2Proof.Machine.execClockSourceFail source cause tile pll meas s
  | .clockSwitchForce tile domain => Sys2Proof.Machine.execClockSwitchForce tile domain s
  | .phyRetrainDone tile port => Sys2Proof.Machine.execPhyRetrainDone tile port s
  | .clkReturn acc => Sys2Proof.Machine.execClkReturn acc s
  | .clkGateRequest acc tile data => Sys2Proof.Machine.execClkGateRequest acc tile data s
  | .clkGateIdleAck tile block => Sys2Proof.Machine.execClkGateIdleAck tile block s
  | .clkGateTimeout tile block => Sys2Proof.Machine.execClkGateTimeout tile block s
  | .clkTileReset acc key tile => Sys2Proof.Machine.execClkTileReset acc key tile s
  | .tileResetStepDone tile fail lost conflict clearFails => Sys2Proof.Machine.execTileResetStepDone tile fail lost conflict clearFails s
  | .cdcHandshakeTimeout tile crossing => Sys2Proof.Machine.execCdcHandshakeTimeout tile crossing s
  | .thermalConversionDone sensor reading nowMs => Sys2Proof.Machine.execThermalConversionDone sensor reading nowMs s
  | .riseWatchTimer sensor => Sys2Proof.Machine.execRiseWatchTimer sensor s
  | .thermalGuardExpire tile group chans ms => Sys2Proof.Machine.execThermalGuardExpire tile group chans ms s
  | .thermalTrip tile => Sys2Proof.Machine.execThermalTrip tile s
  | .fanLoopUpdate nowMs rpms => Sys2Proof.Machine.execFanLoopUpdate nowMs rpms s
  | .fanStall fan rpm => Sys2Proof.Machine.execFanStall fan rpm s
  | .fanRecover fan rpm => Sys2Proof.Machine.execFanRecover fan rpm s
  | .tempMeasure pc tileMask groups chans => Sys2Proof.Machine.execTempMeasure pc tileMask groups chans s
  | .setRiseLimits pc group warn crit shut rise persist => Sys2Proof.Machine.execSetRiseLimits pc group warn crit shut rise persist s
  | .fanConfig pc fan bufAddr persist buf => Sys2Proof.Machine.execFanConfig pc fan bufAddr persist buf s
  | .i3cEntdaa addr => Sys2Proof.Machine.execI3cEntdaa addr s
  | .i3cSetdasa static addr => Sys2Proof.Machine.execI3cSetdasa static addr s
  | .setEndpointId eid => Sys2Proof.Machine.execSetEndpointId eid s
  | .getEndpointId => Sys2Proof.Machine.execGetEndpointId s
  | .getEndpointUuid => Sys2Proof.Machine.execGetEndpointUuid s
  | .getMctpVersionSupport type => Sys2Proof.Machine.execGetMctpVersionSupport type s
  | .getMessageTypeSupport => Sys2Proof.Machine.execGetMessageTypeSupport s
  | .gettid => Sys2Proof.Machine.execGettid s
  | .getpldmversion type => Sys2Proof.Machine.execGetpldmversion type s
  | .getpldmtypes => Sys2Proof.Machine.execGetpldmtypes s
  | .getpldmcommands type => Sys2Proof.Machine.execGetpldmcommands type s
  | .getsensorreading sensor rearm nowMs => Sys2Proof.Machine.execGetsensorreading sensor rearm nowMs s
  | .getpdr handle => Sys2Proof.Machine.execGetpdr handle s
  | .getpdrrepositoryinfo => Sys2Proof.Machine.execGetpdrrepositoryinfo s
  | .powerOn => Sys2Proof.Machine.execPowerOn s
  | .powerOff => Sys2Proof.Machine.execPowerOff s
  | .faultClear => Sys2Proof.Machine.execFaultClear s
  | .getState => Sys2Proof.Machine.execGetState s
  | .alertRead => Sys2Proof.Machine.execAlertRead s
  | .alertClear bits => Sys2Proof.Machine.execAlertClear bits s
  | .dbSqTail acc ring value => Sys2Proof.Machine.execDbSqTail acc ring value s
  | .dbCqHead acc ring value => Sys2Proof.Machine.execDbCqHead acc ring value s
  | .ringEnable acc ring => Sys2Proof.Machine.execRingEnable acc ring s
  | .ringDisable acc ring => Sys2Proof.Machine.execRingDisable acc ring s
  | .ringDisabled ring => Sys2Proof.Machine.execRingDisabled ring s
  | .descriptorFetchDone ring descs fail => Sys2Proof.Machine.execDescriptorFetchDone ring descs fail s
  | .commandStart => Sys2Proof.Machine.execCommandStart s
  | .commandComplete pc => Sys2Proof.Machine.execCommandComplete pc s
  | .commandBoundExpire pc us => Sys2Proof.Machine.execCommandBoundExpire pc us s
  | .bufferReadFail pc timeout => Sys2Proof.Machine.execBufferReadFail pc timeout s
  | .coalTimeExpire ring us => Sys2Proof.Machine.execCoalTimeExpire ring us s
  | .nop pc => Sys2Proof.Machine.execNop pc s
  | .identifyExt pc bufAddr => Sys2Proof.Machine.execIdentifyExt pc bufAddr s
  | .getHealth pc => Sys2Proof.Machine.execGetHealth pc s
  | .fwStage pc offset len buf final img flashOk => Sys2Proof.Machine.execFwStage pc offset len buf final img flashOk s
  | .fwActivate pc => Sys2Proof.Machine.execFwActivate pc s
  | .attestQuote pc buf mask nonce => Sys2Proof.Machine.execAttestQuote pc buf mask nonce s
  | .signingTokenRefill => Sys2Proof.Machine.execSigningTokenRefill s
  | .lifecycleSet pc target bufAddr buf sigOk => Sys2Proof.Machine.execLifecycleSet pc target bufAddr buf sigOk s
  | .debugUnlock pc scope bufAddr buf sigOk => Sys2Proof.Machine.execDebugUnlock pc scope bufAddr buf sigOk s
  | .secChallengeRead acc => Sys2Proof.Machine.execSecChallengeRead acc s
  | .gbRead pc area count cursor bufAddr => Sys2Proof.Machine.execGbRead pc area count cursor bufAddr s
  | .gbClear pc area bufAddr buf => Sys2Proof.Machine.execGbClear pc area bufAddr buf s
  | .paramRead pc id offset len bufAddr => Sys2Proof.Machine.execParamRead pc id offset len bufAddr s
  | .paramWrite pc id len bufAddr buf => Sys2Proof.Machine.execParamWrite pc id len bufAddr buf s
  | .paramCommit pc => Sys2Proof.Machine.execParamCommit pc s
  | .paramUnlock pc bufAddr buf => Sys2Proof.Machine.execParamUnlock pc bufAddr buf s
  | .perfConfig pc tile counter event mode chain user enable => Sys2Proof.Machine.execPerfConfig pc tile counter event mode chain user enable s
  | .perfSnapshot pc tileMask bufAddr => Sys2Proof.Machine.execPerfSnapshot pc tileMask bufAddr s
  | .registerWrite acc off size be data => Sys2Proof.Machine.execRegisterWrite acc off size be data s
  | .pairedLoRead acc off size copies => Sys2Proof.Machine.execPairedLoRead acc off size copies s
  | .registerAccessTimeout acc off read cause => Sys2Proof.Machine.execRegisterAccessTimeout acc off read cause s
  | .configParityScan off copies => Sys2Proof.Machine.execConfigParityScan off copies s
  | .guestbookFlashWrite fail => Sys2Proof.Machine.execGuestbookFlashWrite fail s
  | .guestbookWriteTimer fail => Sys2Proof.Machine.execGuestbookWriteTimer fail s
  | .rateTokenRefill code sec => Sys2Proof.Machine.execRateTokenRefill code sec s
  | .operatingTimeTick => Sys2Proof.Machine.execOperatingTimeTick s
  | .ageClockHourly => Sys2Proof.Machine.execAgeClockHourly s
  | .gbCursorWrite acc cursor => Sys2Proof.Machine.execGbCursorWrite acc cursor s
  | .gbWindowLoaded => Sys2Proof.Machine.execGbWindowLoaded s
  | .gbStatusRead acc => Sys2Proof.Machine.execGbStatusRead acc s
  | .paramStoreCommit => Sys2Proof.Machine.execParamStoreCommit s
  | .paramStoreCommitDone failCopy => Sys2Proof.Machine.execParamStoreCommitDone failCopy s
  | .flashEraseDone failCopy => Sys2Proof.Machine.execFlashEraseDone failCopy s
  | .perfCounterClr acc tile counter data => Sys2Proof.Machine.execPerfCounterClr acc tile counter data s
  | .perfWinCtlWrite acc window us data => Sys2Proof.Machine.execPerfWinCtlWrite acc window us data s
  | .perfWindowPeriodExpire window ms => Sys2Proof.Machine.execPerfWindowPeriodExpire window ms s
  | .samplerRead => Sys2Proof.Machine.execSamplerRead s
  | .mrstNRelease => Sys2Proof.Machine.execMrstNRelease s
  | .perstNRelease head => Sys2Proof.Machine.execPerstNRelease head s
  | .caravanHelloTimeout peer => Sys2Proof.Machine.execCaravanHelloTimeout peer s
  | .caravanReadTimeout stripe latNs waitMs => Sys2Proof.Machine.execCaravanReadTimeout stripe latNs waitMs s
  | .getCertificate head slot => Sys2Proof.Machine.execGetCertificate head slot s
  | .getVersion head version => Sys2Proof.Machine.execGetVersion head version s
  | .configurationRequest head io cto => Sys2Proof.Machine.execConfigurationRequest head io cto s
  | .unsupportedSidebandMessage type cmd => Sys2Proof.Machine.execUnsupportedSidebandMessage type cmd s
  | .unsupportedMailboxCommand head ld opcode => Sys2Proof.Machine.execUnsupportedMailboxCommand head ld opcode s
  | .unsupportedFmApiCommand head opcode => Sys2Proof.Machine.execUnsupportedFmApiCommand head opcode s

end Sys2Proof.Machine
end

