-- ==== Sys2Proof/WellFormed.lean ====
section
/-! DEFINITION. WellFormed.lean: a command whose operands lie in the ranges of the fields that carry them. The checks
are on operands alone; which of them the block itself answers (an absent tile, a ring that does not run) its meaning says.
A meaning is total on ill-formed commands too; no run brings one (notes/assumptions/25.md). -/

namespace Sys2Proof

/-- The number fits a field of `w` bits. -/
def fits (w n : Nat) : Bool := decide (n < 2 ^ w)

/-- The number is one of `b` numbers counted from 0. -/
def below (b n : Nat) : Bool := decide (n < b)

/-- 01_architecture.md R14: tiles are numbered 0 to 7. -/
def isTile (n : Nat) : Bool := below 8 n

/-- 02_host_ports.md R37: heads are numbered 0 to 7. -/
def isHead (n : Nat) : Bool := below 8 n

/-- 14_command_rings.md R407: rings 0 to 63. -/
def isRing (n : Nat) : Bool := below 64 n

/-- 06_medium.md R170: channels 0 to 7 of a tile. -/
def isChannel (n : Nat) : Bool := below 8 n

/-- 06_medium.md R170: ranks 0 to 3 of a channel. -/
def isRank (n : Nat) : Bool := below 4 n

/-- 02_host_ports.md R39: LDs 0 to 15 of a head. -/
def isLd (n : Nat) : Bool := below 16 n
/-- R40: a head, or 8, the MCTP-over-I3C endpoint. -/
def isVia (n : Nat) : Bool := below 9 n
/-- R62: a selective stream of CXL.io, 1 to 4. -/
def ioOk (io : Option (Nat × Bool)) : Bool := io.all (fun e => decide (1 ≤ e.1) && below 5 e.1)

/-- 07_translation.md: a local segment number fits 29 bits. -/
def isSegment (n : Nat) : Bool := fits 29 n

/-- 05_front_store.md: frames of a tile are numbered in 20 bits (00_scope.md R5). -/
def isFrame (n : Nat) : Bool := fits 20 n

/-- 06_medium.md R170: a page locator within a tile is 29 bits wide. -/
def isLocator (n : Nat) : Bool := fits 29 n

/-- 06_medium.md R170: a block of a tile, bits 28:8 of a locator. -/
def isBlock (n : Nat) : Bool := fits 21 n

/-- 09_caravan.md R285, R290: member indices 0 to 17 and up to two spares: 0 to 19. -/
def isMember (n : Nat) : Bool := below 20 n

/-- 15_registers.md R434: an access carries 1 to 64 bytes; what sizes a register accepts the bus answers. -/
def isSize (n : Nat) : Bool := decide (1 ≤ n) && decide (n ≤ 64)

/-- 15_registers.md R430, 16_security.md R448: an access arrives at a head, for one of its LDs. -/
def Access.wf (a : Access) : Bool := isHead a.head && isLd a.ld

/-- 14_command_rings.md R413: a ring and a 16-bit CID. -/
def PortCmd.wf (p : PortCmd) : Bool := isRing p.ring && fits 16 p.cid

/-- 14_command_rings.md R413: the fields of a descriptor have their widths. -/
def DescWord.wf (d : DescWord) : Bool := fits 16 d.opcode && fits 16 d.cid && fits 8 d.flags && fits 24 d.rsv

/-- 08_integrity.md R247, R250: lines 0 to 67, symbols 0 to 71 of 8 bits, dies 0 to 8. -/
def LineErr.wf (e : LineErr) : Bool :=
  below 68 e.line && e.reads.all (fun r => r.all (fun x => below 72 x.1 && fits 8 x.2)) && fits 9 e.flags

/-- 05_front_store.md R137: a set has at most 16 ways. -/
def Upset.wf (u : Upset) : Bool := below 16 u.tagWay

/-- 06_medium.md R189, R194: nine dies, three coefficients of each kind. -/
def TrainRank.wf (r : TrainRank) : Bool := fits 9 r.failed && r.ids.all (fun e => fits 64 e.1 && fits 64 e.2)

/-- 09_caravan.md R290: the fields of a frame header. -/
def CarFrame.wf (f : CarFrame) : Bool :=
  isHead f.head && fits 12 f.group && isMember f.src && isMember f.dst && below 19 f.frag && fits 48 f.seq &&
    fits 32 f.stripe && fits 36 f.jpos && fits 64 f.mask

/-- 16_security.md R450: SVN and VERSION of an image. -/
def FwImage.wf (i : FwImage) : Bool :=
  fits 32 i.magic && fits 8 i.format && fits 8 i.flags && fits 16 i.svn && fits 32 i.version && fits 32 i.length && fits 8 i.keySlot
    && fits 8 i.sections && fits 8 i.badSections

/-- 02_host_ports.md R53: head, 16-bit tag, LD-ID and a line-aligned address of 52 bits. -/
def MemReq.wf (m : MemReq) : Bool := isHead m.head && fits 16 m.tag && isLd m.ld && fits 52 m.hpa && m.hpa % 64 == 0 && m.upset.wf

/-- The operands of a command lie in their ranges. -/
def Instr.wf (i : Instr) : Bool :=
  match i with
  | .islandPowerOn straps _ _ => fits 5 straps
  | .vauxLoss _ => true
  | .onRequest source => below 4 source
  | .onRequestLatchedStart => true
  | .slotUpDelayExpire _ => true
  | .slotQualified _ => true
  | .slotPgTimeout _ => true
  | .railFailure slot => below 16 slot
  | .slotDownDelayExpire _ => true
  | .pwrFaultClear acc => acc.wf
  | .powerButtonShort => true
  | .powerButtonLong _ _ => true
  | .mrst => true
  | .pwrfailInputLoss => true
  | .senseSample vin hold => fits 12 vin && fits 12 hold
  | .shedStageLeave stage => (stage == 1 || stage == 2)
  | .shedStage4Enter _ => true
  | .measuredLimitRecompute => true
  | .holdupTestStart _ _ _ => true
  | .holdupTestFall _ _ => true
  | .holdChgWaitExpire _ => true
  | .holdupTest pc _ _ _ => pc.wf
  | .setShedLevels pc warn1 warn2 pfail hyst _ => pc.wf && fits 16 warn1 && fits 16 warn2 && fits 16 pfail && fits 16 hyst
  | .powerOffRequest pc _ => pc.wf
  | .offGraceExpire _ => true
  | .shutdownCheckpointDone => true
  | .shutdownDeadlineExpire => true
  | .holdupEntry cause => fits 3 cause
  | .holdupComplete _ => true
  | .holdupCapExpire _ => true
  | .warmReset cause => (cause == 3 || cause == 4)
  | .pllLock tile pll => isTile tile && below 8 pll
  | .pllLockTimeout tile pll => isTile tile && below 8 pll
  | .tileSelfTestDone failed badWays => fits 8 failed && badWays.all (fun w => isTile w.1 && isFrame w.2)
  | .channelTrainingDone tile ch step cs ranks _ => isTile tile && isChannel ch && fits 4 step && fits 4 cs && ranks.all TrainRank.wf
  | .sectionLoadCheck _ => true
  | .bootWatchdogExpire => true
  | .gddr7TrainingDone tile _ gbits => isTile tile && decide (gbits.length = 2)
  | .mapRestoreDone tile _ _ _ _ _ => isTile tile
  | .bringupComplete _ => true
  | .getMode pc => pc.wf
  | .setMode pc target => pc.wf && fits 2 target
  | .serviceDrainComplete _ => true
  | .heartbeatSend tile _ => isTile tile
  | .heartbeatMiss tile _ => isTile tile
  | .primaryFailover cause _ => below 3 cause
  | .tileRejoin errs _ => errs.all LineErr.wf
  | .meshLinkFail tile port _ => isTile tile && below 3 port
  | .meshMessageDeliver tile port cls upset _ _ => isTile tile && below 3 port && below 4 cls && upset.wf
  | .linkTrainingDone head speed width _ _ _ ldCount _ polarity _ recoveries replays => isHead head && fits 3 speed && below 17 width && below 17 ldCount && fits 16 polarity && fits 16 recoveries && fits 16 replays
  | .retrain acc tile => acc.wf && isTile tile
  | .headReset head kind => isHead head && below 3 kind
  | .cxlReset head => isHead head
  | .functionLevelReset head => isHead head
  | .memRd m => m.wf
  | .memRdData m => m.wf
  | .memSpecRd m => m.wf
  | .memInv m => m.wf
  | .memInvNt m => m.wf
  | .memWr m _ _ => m.wf
  | .memWrPtl m _ be _ => m.wf && fits 64 be
  | .unsupportedM2s m => m.wf
  | .dirtyWaitRelease tile _ => isTile tile
  | .hazardAdmit tile _ => isTile tile
  | .trackerCreditRelease head _ => isHead head
  | .s2mCreditGrant head _ _ _ => isHead head
  | .trackerTimeout head _ _ => isHead head
  | .latClr acc tile => acc.wf && isTile tile
  | .qosWindowEnd head => isHead head
  | .gpfPhase1 head => isHead head
  | .gpfPhase2 head => isHead head
  | .gpfPhase2Ack head => isHead head
  | .hdmDecoderCommit head ld idx iw ig base size skip target _ => isHead head && isLd ld && fits 4 idx && fits 4 iw && fits 4 ig && fits 64 base && fits 64 size && fits 64 skip && fits 64 target
  | .outboundCompletionTimeout ring _ _ => isRing ring
  | .tunnelManagementCommand head _ => isVia head
  | .getLdInfo head => isVia head
  | .getLdAllocations head _ _ _ => isVia head
  | .setLdAllocations head _ _ _ _ => isVia head
  | .getQosControl head => isVia head
  | .setQosControl head fields => isVia head && fields.length == 7
  | .getQosStatus head => isVia head
  | .getQosAllocatedBw head _ _ => isVia head
  | .setQosAllocatedBw head _ fractions => isVia head && fractions.all (fits 8)
  | .getQosBwLimit head _ _ => isVia head
  | .setQosBwLimit head _ fractions => isVia head && fractions.all (fits 8)
  | .getMultiHeadedInfo head => isVia head
  | .getHeadInfo head _ _ => isVia head
  | .getDcdInfo head => isVia head
  | .getHostDcRegionConfiguration head _ ld _ _ => isVia head && isLd ld
  | .setDcRegionConfiguration head _ ld _ _ _ _ _ => isVia head && isLd ld
  | .getDcdExtentLists head _ ld _ _ => isVia head && isLd ld
  | .initiateDynamicCapacityAdd head _ ld _ _ _ _ _ => isVia head && isLd ld
  | .initiateDynamicCapacityRelease head _ ld _ _ _ _ => isVia head && isLd ld
  | .extentReleaseDone ld _ _ => below 128 ld
  | .waitingAddResume _ => true
  | .getEventRecords head ld log => isHead head && isLd ld && fits 8 log
  | .clearEventRecords head ld log _ _ => isHead head && isLd ld && fits 8 log
  | .getEventInterruptPolicy head ld => isHead head && isLd ld
  | .setEventInterruptPolicy head ld _ => isHead head && isLd ld
  | .getFwInfo head ld => isHead head && isLd ld
  | .transferFw head ld _ _ _ img => isHead head && isLd ld && img.wf
  | .activateFw head ld _ => isHead head && isLd ld
  | .getTimestamp head ld => isHead head && isLd ld
  | .setTimestamp head ld ns => isHead head && isLd ld && fits 64 ns
  | .getSupportedLogs head ld => isHead head && isLd ld
  | .getLog head ld _ _ _ => isHead head && isLd ld
  | .identifyMemoryDevice head ld => isHead head && isLd ld
  | .getPartitionInfo head ld => isHead head && isLd ld
  | .setPartitionInfo head ld => isHead head && isLd ld
  | .getHealthInfo head ld => isHead head && isLd ld
  | .getAlertConfiguration head ld => isHead head && isLd ld
  | .setAlertConfiguration head ld _ => isHead head && isLd ld
  | .getShutdownState head ld => isHead head && isLd ld
  | .setShutdownState head ld _ => isHead head && isLd ld
  | .getPoisonList head ld _ _ => isHead head && isLd ld
  | .injectPoison head ld dpa => isHead head && isLd ld && fits 52 dpa
  | .clearPoison head ld dpa _ => isHead head && isLd ld && fits 52 dpa
  | .getScanMediaCapabilities head ld _ _ => isHead head && isLd ld
  | .scanMedia head ld _ _ => isHead head && isLd ld
  | .getScanMediaResults head ld => isHead head && isLd ld
  | .sanitize head ld _ => isHead head && isLd ld
  | .secureErase head ld _ => isHead head && isLd ld
  | .getDynamicCapacityConfiguration head ld _ _ => isHead head && isLd ld
  | .getDynamicCapacityExtentList head ld _ _ => isHead head && isLd ld
  | .addDynamicCapacityResponse head ld _ => isHead head && isLd ld
  | .releaseDynamicCapacity head ld _ => isHead head && isLd ld
  | .doeDiscovery head index => isHead head && fits 8 index
  | .cdatTableAccess head ld => isHead head && isLd ld
  | .negotiateAlgorithms head _ => isHead head
  | .challenge head _ => isHead head
  | .getMeasurements head index _ _ => isHead head && fits 8 index
  | .keyExchange head _ => isHead head
  | .pskExchange head => isHead head
  | .keyImport head _ => isHead head
  | .keyDelete head _ => isHead head
  | .ideKmQuery head => isHead head
  | .keyProg head stream set dir io => isHead head && ioOk io && fits 8 stream && fits 1 set && fits 1 dir
  | .kSetGo head stream set dir io => isHead head && ioOk io && fits 8 stream && fits 1 set && fits 1 dir
  | .kSetStop head stream set dir => isHead head && fits 8 stream && fits 1 set && fits 1 dir
  | .ideKeySwitch head stream => isHead head && fits 8 stream
  | .phaseInMark _ angle _ => fits 32 angle
  | .markWindowExpire _ => true
  | .holdoverLimitExpire => true
  | .fabricPhaseMessage head _ _ _ _ angle _ => isHead head && fits 32 angle
  | .turnWrap tile => tile.all isTile
  | .sectorStart tile entry => isTile tile && below 64 entry
  | .sectorEnd tile entry _ => isTile tile && below 64 entry
  | .scheduleActivation tile => isTile tile
  | .belfrySetRef pc source period offset stagger domain turnSet _ _ => pc.wf && fits 2 source && fits 20 period && fits 16 offset && fits 16 stagger && fits 10 domain && fits 36 turnSet
  | .belfryLoadSchedule pc tileMask addr _ actTurn _ _ => pc.wf && fits 8 tileMask && fits 64 addr && fits 36 actTurn
  | .belfryGetStatus pc tile => pc.wf && isTile tile
  | .belfryTurnLoRead acc => acc.wf
  | .trimStart acc _ => acc.wf
  | .trimMeasurementDone _ => true
  | .ioscTrimHourly => true
  | .commitChoose tile bad => isTile tile && fits 64 bad
  | .epochAdvance tile => isTile tile
  | .lineFillDone tile frame errs _ => isTile tile && isFrame frame && errs.all LineErr.wf
  | .commitFillDone tile frame errs bad _ => isTile tile && isFrame frame && errs.all LineErr.wf && fits 64 bad
  | .frameCommitComplete tile frame _ => isTile tile && isFrame frame
  | .segmentLockRelease tile seg _ => isTile tile && isSegment seg
  | .fsFlushAll pc => pc.wf
  | .fsFlushRange pc ld _ start length => pc.wf && fits 16 ld && fits 64 start && fits 64 length
  | .fsInvalidateRange pc ld _ start length => pc.wf && fits 16 ld && fits 64 start && fits 64 length
  | .fsDisable pc => pc.wf
  | .fsDrainComplete tile => isTile tile
  | .fsEnable pc => pc.wf
  | .fsWaysApply tile => isTile tile
  | .fsSetWays pc ways _ => pc.wf && fits 2 ways
  | .fsSetDirtyLimit pc tileMask cap _ => pc.wf && fits 8 tileMask && fits 21 cap
  | .tagScan tile frame upset => isTile tile && isFrame frame && upset.wf
  | .caCommandReject tile ch => isTile tile && isChannel ch
  | .readRetrain tile ch => isTile tile && isChannel ch
  | .statusPoll tile ch rank => isTile tile && isChannel ch && isRank rank
  | .statusReply tile ch rank replies => isTile tile && isChannel ch && isRank rank && decide (replies.length = 9) && replies.all (fits 32)
  | .programDone tile loc _ => isTile tile && isLocator loc
  | .clearDone tile loc _ => isTile tile && isLocator loc
  | .opActiveTimeout tile loc _ => isTile tile && isLocator loc
  | .suspendComplete tile ch => isTile tile && isChannel ch
  | .suspendLimitExpire tile _ => isTile tile
  | .resumeIssue tile loc _ => isTile tile && isLocator loc
  | .mediaReadData tile _ err others _ => isTile tile && err.wf && others.all LineErr.wf
  | .calibrationPageWrite tile ch rank => isTile tile && isChannel ch && isRank rank
  | .gddr7DeviceFault tile => isTile tile
  | .mapRebuildStep tile _ _ => isTile tile
  | .gcBatchStart tile plane => isTile tile && below 128 plane
  | .copyPage tile src errs => isTile tile && isBlock src && errs.all LineErr.wf
  | .copyBatchEnd tile src => isTile tile && isBlock src
  | .wearMoveStart tile => isTile tile
  | .blockClearStart tile block => isTile tile && isBlock block
  | .journalPageProgram tile => isTile tile
  | .journalTimerExpire tile => isTile tile
  | .checkpointCapture tile => isTile tile
  | .discardRange pc ld _ start length => pc.wf && fits 16 ld && fits 64 start && fits 64 length
  | .secureDiscardRange pc ld _ start length => pc.wf && fits 16 ld && fits 64 start && fits 64 length
  | .getWear pc tile buf => pc.wf && isTile tile && fits 64 buf
  | .retireBlock pc tile channel page => pc.wf && isTile tile && fits 3 channel && fits 26 page
  | .setWearLimit pc limit10k spreadK _ => pc.wf && fits 16 limit10k && fits 16 spreadK
  | .mapCheckpoint pc tileMask => pc.wf && fits 8 tileMask
  | .fencedRankWalk tile ch rank upTo => isTile tile && isChannel ch && isRank rank && fits 36 upTo
  | .scrubVisit tile ch errs => isTile tile && isChannel ch && errs.all LineErr.wf
  | .refreshExecute tile => isTile tile
  | .lostRepair tile _ => isTile tile
  | .injectError pc tile target ch page line frame seg count _ errs => pc.wf && isTile tile && fits 3 target && isChannel ch && fits 26 page && fits 7 line && fits 20 frame && fits 29 seg && fits 8 count && errs.all LineErr.wf
  | .scrubCtl pc mask _ _ sym off shift _ => pc.wf && fits 8 mask && fits 3 sym && fits 7 off && fits 4 shift
  | .getErrorStats pc tile buf _ => pc.wf && isTile tile && fits 64 buf
  | .cupolaConfig pc regions _ => pc.wf && fits 5 regions
  | .cupolaRebuild pc kind _ => pc.wf && fits 2 kind
  | .cupolaDeltaReceive tile errs => isTile tile && errs.all LineErr.wf
  | .cupolaBusyTimer tile => isTile tile
  | .cupolaAckReceive tile => isTile tile
  | .cupolaAckTimeout tile seg _ _ _ => isTile tile && isSegment seg
  | .cupolaSlotFlush tile errs => isTile tile && errs.all LineErr.wf
  | .cupolaResyncStripe _ => true
  | .caravanFrameDelta f => f.wf
  | .caravanFrameAck f => f.wf
  | .caravanFrameSettle f => f.wf
  | .caravanFrameReadReq f errs => f.wf && errs.all LineErr.wf
  | .caravanFrameReadRsp f _ => f.wf
  | .caravanFrameHello f => f.wf
  | .caravanFrameDepart f => f.wf
  | .caravanFrameStaleMap f => f.wf
  | .caravanFrameAlloc f => f.wf
  | .caravanFrameReplace f => f.wf
  | .caravanFrameLeave f => f.wf
  | .caravanResendTimer peer seq => isMember peer && fits 48 seq
  | .caravanAckTimeout peer seq _ _ => isMember peer && fits 48 seq
  | .caravanBusyTimer tile => isTile tile
  | .settleSend => true
  | .caravanSlotFlush tile errs => isTile tile && errs.all LineErr.wf
  | .holdWaitExpire tile seg _ => isTile tile && isSegment seg
  | .helloSend peer => isMember peer
  | .caravanResyncStripe _ => true
  | .stripeLockExpire => true
  | .caravanRebuildStep _ _ => true
  | .caravanJoin pc group _ n member _ base blocks heads handle buf _ => pc.wf && fits 12 group && fits 5 n && fits 5 member && fits 16 base && fits 16 blocks && fits 8 heads && fits 16 handle && fits 64 buf
  | .caravanLeave pc _ _ => pc.wf
  | .caravanStatus pc => pc.wf
  | .caravanRebuild pc kind target _ => pc.wf && fits 2 kind && fits 5 target
  | .clockSourceStable source windows => below 9 source && windows.all (fits 16)
  | .xtalStableTimeout => true
  | .clockSourceFail source cause tile pll _ => below 9 source && fits 2 cause && isTile tile && below 6 pll
  | .clockSwitchForce tile domain => isTile tile && fits 3 domain
  | .phyRetrainDone tile port => isTile tile && port.all (below 3)
  | .clkReturn acc => acc.wf
  | .clkGateRequest acc tile _ => acc.wf && isTile tile
  | .clkGateIdleAck tile block => isTile tile && fits 6 block
  | .clkGateTimeout tile block => isTile tile && fits 6 block
  | .clkTileReset acc key tile => acc.wf && fits 32 key && isTile tile
  | .tileResetStepDone tile _ _ _ _ => isTile tile
  | .cdcHandshakeTimeout tile _ => isTile tile
  | .thermalConversionDone sensor _ _ => fits 16 sensor
  | .riseWatchTimer sensor => fits 16 sensor
  | .thermalGuardExpire tile group chans _ => isTile tile && below 3 group && fits 8 chans
  | .thermalTrip tile => isTile tile
  | .fanLoopUpdate _ _ => true
  | .fanStall fan _ => below 4 fan
  | .fanRecover fan _ => below 4 fan
  | .tempMeasure pc tileMask groups chans => pc.wf && fits 8 tileMask && fits 3 groups && fits 8 chans
  | .setRiseLimits pc group warn crit shut rise _ => pc.wf && fits 2 group && fits 8 warn && fits 8 crit && fits 8 shut && fits 8 rise
  | .fanConfig pc fan bufAddr _ _ => pc.wf && fits 2 fan && fits 64 bufAddr
  | .i3cEntdaa addr => fits 7 addr
  | .i3cSetdasa static addr => fits 7 static && fits 7 addr
  | .setEndpointId eid => fits 8 eid
  | .getEndpointId => true
  | .getEndpointUuid => true
  | .getMctpVersionSupport type => fits 8 type
  | .getMessageTypeSupport => true
  | .gettid => true
  | .getpldmversion type => fits 8 type
  | .getpldmtypes => true
  | .getpldmcommands type => fits 8 type
  | .getsensorreading sensor _ _ => fits 16 sensor
  | .getpdr handle => fits 32 handle
  | .getpdrrepositoryinfo => true
  | .powerOn => true
  | .powerOff => true
  | .faultClear => true
  | .getState => true
  | .alertRead => true
  | .alertClear _ => true
  | .dbSqTail acc ring value => acc.wf && isRing ring && fits 16 value
  | .dbCqHead acc ring value => acc.wf && isRing ring && fits 16 value
  | .ringEnable acc ring => acc.wf && isRing ring
  | .ringDisable acc ring => acc.wf && isRing ring
  | .ringDisabled ring => isRing ring
  | .descriptorFetchDone ring descs _ => isRing ring && descs.all DescWord.wf
  | .commandStart => true
  | .commandComplete pc => pc.wf
  | .commandBoundExpire pc _ => pc.wf
  | .bufferReadFail pc _ => pc.wf
  | .coalTimeExpire ring _ => isRing ring
  | .nop pc => pc.wf
  | .identifyExt pc bufAddr => pc.wf && fits 64 bufAddr
  | .getHealth pc => pc.wf
  | .fwStage pc offset len buf _ img _ => pc.wf && fits 32 offset && fits 32 len && fits 64 buf && img.wf
  | .fwActivate pc => pc.wf
  | .attestQuote pc buf mask _ => pc.wf && fits 64 buf && fits 32 mask
  | .signingTokenRefill => true
  | .lifecycleSet pc target bufAddr _ _ => pc.wf && fits 4 target && fits 64 bufAddr
  | .debugUnlock pc scope bufAddr _ _ => pc.wf && fits 8 scope && fits 64 bufAddr
  | .secChallengeRead acc => acc.wf
  | .gbRead pc _ count cursor bufAddr => pc.wf && fits 16 count && fits 32 cursor && fits 64 bufAddr
  | .gbClear pc _ bufAddr _ => pc.wf && fits 64 bufAddr
  | .paramRead pc id offset len bufAddr => pc.wf && fits 16 id && fits 16 offset && fits 16 len && fits 64 bufAddr
  | .paramWrite pc id len bufAddr _ => pc.wf && fits 16 id && fits 16 len && fits 64 bufAddr
  | .paramCommit pc => pc.wf
  | .paramUnlock pc bufAddr _ => pc.wf && fits 64 bufAddr
  | .perfConfig pc tile counter event mode _ _ _ => pc.wf && fits 3 tile && fits 6 counter && fits 16 event && fits 2 mode
  | .perfSnapshot pc tileMask bufAddr => pc.wf && fits 8 tileMask && fits 64 bufAddr
  | .registerWrite acc off size be data => acc.wf && fits 20 off && isSize size && fits 8 be && fits 64 data
  | .pairedLoRead acc off size copies => acc.wf && fits 20 off && isSize size && fits 2 copies
  | .registerAccessTimeout acc off _ cause => acc.wf && fits 20 off && below 2 cause
  | .configParityScan off copies => fits 20 off && fits 2 copies
  | .guestbookFlashWrite _ => true
  | .guestbookWriteTimer _ => true
  | .rateTokenRefill code _ => fits 16 code
  | .operatingTimeTick => true
  | .ageClockHourly => true
  | .gbCursorWrite acc _ => acc.wf
  | .gbWindowLoaded => true
  | .gbStatusRead acc => acc.wf
  | .paramStoreCommit => true
  | .paramStoreCommitDone _ => true
  | .flashEraseDone _ => true
  | .perfCounterClr acc tile counter _ => acc.wf && isTile tile && below 64 counter
  | .perfWinCtlWrite acc window _ _ => acc.wf && below 16 window
  | .perfWindowPeriodExpire window _ => below 16 window
  | .samplerRead => true
  | .mrstNRelease => true
  | .perstNRelease head => isHead head
  | .caravanHelloTimeout peer => isMember peer
  | .caravanReadTimeout stripe _ _ => fits 32 stripe
  | .getCertificate head slot => isHead head && fits 3 slot
  | .getVersion head _ => isHead head
  | .configurationRequest head io _ => isHead head && ioOk io
  | .unsupportedSidebandMessage type cmd => fits 7 type && fits 8 cmd
  | .unsupportedMailboxCommand head ld opcode => isHead head && isLd ld && fits 16 opcode
  | .unsupportedFmApiCommand head opcode => isVia head && fits 16 opcode

end Sys2Proof
end

