-- ==== Sys2Proof/Safety.lean ====
section
/-! DEFINITION. Safety.lean: the terms claims are made in: what it is for a command to complete, for a Porter command to be
accepted and answered, and the facts about a part that no step changes. -/

namespace Sys2Proof.Machine

open Sys2Proof

/-! ### Completing -/

/-- A command completes: `exec` answers a next state, of which `P` holds. -/
def Completes (c : Instr) (s : State) (P : State → Prop) : Prop := ∃ t, exec c s = .next t ∧ P t

/-! ### Frames -/

/-- The parts of the state, one for each field of `State` that a command may change; the queue and what the part was built with
(`pop`) are no command's to change. -/
inductive Part where
  | free
  | draws
  | outbox
  | reg
  | gb
  | ps
  | md
  | pw
  | porter
  | bel
  | wins
  | clk
  | thm
  | cap
  | cup
  | car
  | fuse
  | sec
  | jobs
  | tiles
  deriving DecidableEq, Repr

/-- Every part. -/
def Part.all : List Part :=
  [.free, .draws, .outbox, .reg, .gb, .ps, .md, .pw, .porter, .bel, .wins, .clk, .thm, .cap, .cup, .car, .fuse, .sec, .jobs, .tiles]

/-- A part is the same in two states. -/
def Part.same (s t : State) : Part → Bool
  | .free => decide (t.free = s.free)
  | .draws => decide (t.draws = s.draws)
  | .outbox => decide (t.outbox = s.outbox)
  | .reg => decide (t.reg = s.reg)
  | .gb => decide (t.gb = s.gb)
  | .ps => decide (t.ps = s.ps)
  | .md => decide (t.md = s.md)
  | .pw => decide (t.pw = s.pw)
  | .porter => decide (t.porter = s.porter)
  | .bel => decide (t.bel = s.bel)
  | .wins => decide (t.wins = s.wins)
  | .clk => decide (t.clk = s.clk)
  | .thm => decide (t.thm = s.thm)
  | .cap => decide (t.cap = s.cap)
  | .cup => decide (t.cup = s.cup)
  | .car => decide (t.car = s.car)
  | .fuse => decide (t.fuse = s.fuse)
  | .sec => decide (t.sec = s.sec)
  | .jobs => decide (t.jobs = s.jobs)
  | .tiles => decide (t.tiles = s.tiles)

/-- Every part of the state other than those listed is the same, and so are the queue and what the part was built with. -/
abbrev Only (l : List Part) (s t : State) : Prop :=
  t.pending = s.pending ∧ t.pop = s.pop ∧ Part.all.all (fun p => l.contains p || p.same s t) = true

/-- R497, R501: tile `k` is the same in two states but for its counters. -/
def State.tileKept (s t : State) (k : Nat) : Bool := decide ({ t.tile k with cnt := (s.tile k).cnt } = s.tile k)

/-- Every tile but `k` is the same in two states but for its counters. -/
def State.othersKept (s t : State) (k : Nat) : Bool := (List.range 8).all (fun j => j == k || s.tileKept t j)

/-- R20: every tile is the same in two states but for its copy of the tick count. -/
def State.tilesButTick (s t : State) : Bool :=
  (List.range 8).all (fun k => decide ({ t.tile k with bel := { (t.tile k).bel with tick := 0 } } = { s.tile k with bel := { (s.tile k).bel with tick := 0 } }))

/-- Every tile is the same in two states but for its schedule, its turn and its angle. -/
def State.tilesButBel (s t : State) : Bool := (List.range 8).all (fun k => decide ({ t.tile k with bel := {} } = { s.tile k with bel := {} }))

/-- R76: the last message on the link at port `p` of a tile, in a class of R18, as the tile at the other end will see it. -/
def State.sentLast (t : State) (tile p cls : Nat) : Option Msg := (agetD (16 * t.portTo tile p + 4 * p + cls) [] t.jobs.links).getLast?

/-! ### Porter commands (14_command_rings.md R409, R416 to R418) -/

/-- A Porter command is accepted: rings run, its ring exists and is privileged where the command asks for that, ROM-only
Service accepts its opcode, and no other command of its ring has its CID. -/
def State.accepts (s : State) (pc : PortCmd) (opcode : Nat) (priv : Bool) : Bool :=
  s.md.ringsRun && decide (pc.ring < 64) && (!priv || s.ringPriv pc.ring) && (!s.sec.romOnly || romOps.contains opcode)
    && (s.ring pc.ring).execs.all (fun e => e.cid != pc.cid)

/-- The result with which a Porter command ended, once it has. -/
def State.resultOf (s : State) (pc : PortCmd) : Option CmdResult :=
  ((s.ring pc.ring).execs.find? (fun e => e.cid == pc.cid)).bind (·.result)

/-- R416: SUCCESS with results in table order. -/
def succeeded (results : List (Nat × Nat)) : CmdResult := { status := Status.success.code, results := results }

/-- A Porter command is under way: it executes and has not ended. -/
def State.underWay (s : State) (pc : PortCmd) : Bool :=
  (((s.ring pc.ring).execs.find? (fun e => e.cid == pc.cid)).map (fun e => e.result.isNone)).getD false

/-! ### Host requests (02_host_ports.md R53, 03_transactions.md R71 to R78, 05_front_store.md R141, R142) -/

/-- A request of a host meets no obstacle and hits frame `f` at the head that receives it: the link carries CXL.mem, the request passes
its IDE check, the package serves, its address decodes to the package DPA `dpa` whose owning tile is the head's own, nothing else is
under way at the tile, no error is met or stored, and frame `f`, which is Dirty, holds the segment. -/
def State.directHit (s : State) (m : MemReq) (dpa f : Nat) : Bool :=
  let h := m.head
  let c := s.ldOf h m.ld
  let x := (s.tile h).txn
  decide (h < 8) && s.memLink h && !(vget 0 {} (s.head h).ide).insecure && m.ideOk && decide (m.upset = {}) && !s.memRefused h c
    && decide (s.memDecode c m.hpa = .line dpa) && !bitOf s.md.failed h && s.segTile (dpa / 4096) == h && x.tracker.isEmpty && x.ingress.isEmpty
    && x.outQ.isEmpty && x.haz.isEmpty && x.hazWait.isEmpty && x.locks.isEmpty && s.bwRoom c
    && decide (s.locksHeld h < 16384) && (s.tile h).xl.mapFlips.isEmpty && (s.tile h).xl.stcFlips.isEmpty
    && (s.tile h).fs.tagFlips.isEmpty && (s.tile h).fs.lineFlips.isEmpty && s.findFrame h (s.segLocal (dpa / 4096)) == some f
    && (s.frame h f).st == .dirty && !s.writeThrough h && (s.head h).ndr.isNone && (s.head h).drs.isNone

/-- R53, R62, R71, R74: a request is answered as soon as it is served: the head's link carries CXL.mem, the request passes its IDE check, its
tracker holds nothing, bandwidth is left, and the host gave infinite S2M credits. -/
def State.answersAtOnce (s : State) (m : MemReq) : Bool :=
  decide (m.head < 8) && s.memTaken m.head && m.ideOk && (s.tile m.head).txn.tracker.isEmpty && (s.tile m.head).txn.ingress.isEmpty
    && (s.tile m.head).txn.outQ.isEmpty && s.bwRoom (s.ldOf m.head m.ld) && (s.head m.head).ndr.isNone && (s.head m.head).drs.isNone

/-- Between two states the block put exactly these on its interfaces, in this order. -/
abbrev Sends (s t : State) (l : List Out) : Prop := t.outbox = s.outbox ++ l

/-- A response with tag `tag`, data and poison left head `h` between two states. -/
def answered (s t : State) (h tag : Nat) (data : Option Line) (poison : Bool) : Bool :=
  (t.outbox.drop s.outbox.length).any (fun o => match o with
    | .s2m k r => k == h && r.tag == tag && decide (r.data = data) && r.poison == poison
    | _ => false)

/-- R65, R316, R455: a mailbox command of an LD is run: step 8 of Bring-up is done or the package operates, the head is in service and
presents the LD, and ROM-only Service accepts the opcode; no Scan Media runs whose end the command would find. -/
def State.mailboxUp (s : State) (head ld op : Nat) : Bool :=
  s.md.ringOrOperating && s.alive head && s.presents head ld && (!s.sec.romOnly || romMailbox op) && decide (head < 8) && decide (ld < 16)
    && s.cap.lds.all (fun e => match e.2.bg with | some (.scan _) => false | _ => true)

/-- R63, R316: a DOE request of a head is answered: step 8 of Bring-up is done or the package operates, and the head's link is up. -/
def State.doeUp (s : State) (head : Nat) : Bool := decide (head < 8) && s.md.ringOrOperating && s.alive head && (s.head head).up

/-- R62: a TLP of CXL.io is taken: no selective stream carries it, or one that is not insecure and whose check passed. -/
def State.ioPasses (s : State) (head : Nat) (io : Option (Nat × Bool)) : Bool :=
  match io with
  | none => true
  | some (k, ok) => ok && !(vget k {} (s.head head).ide).insecure

/-- R459, R460, R467: the device key can sign at once: the life cycle lets it, nobody waits, and an index and a token are there. -/
def State.canSign (s : State) : Bool :=
  s.deviceSigns && s.sec.signers.isEmpty && s.sec.next != s.sec.reserved && s.sec.tokens != 0

/-! ### Work that runs over many commands -/

/-- Nothing of a tile waits for a command that makes room: no program of metadata, no way to be withdrawn, no segment to become POISONED, no fill, no
commit without its frame, no commit of a parity page at its end, and its throttling is as R88 asks. -/
def State.tileQuiet (s : State) (t : Nat) : Bool :=
  (s.tile t).xl.metaWait.isEmpty && (s.tile t).fs.withdrawWait.isEmpty && (s.tile t).xl.poisonWait.isEmpty
    && (s.tile t).txn.haz.all (fun h => h.st != .fill) && s.throttleOn t == (s.tile t).txn.throttle
    && (s.tile t).xl.commits.all (fun c => c.step != .done || (match c.job with
      | .host f => (s.frame t f).st == .writing && (s.frame t f).seg == c.seg
      | _ => false))

/-- No range command, map checkpoint, block retirement or key replacement runs, the package is not in Hold-up, and nothing of a tile waits, so
that a command that frees a frame or a segment brings nothing else to its end. -/
def State.noWork (s : State) : Bool :=
  s.jobs.ranges.isEmpty && s.jobs.ckpt.isNone && s.jobs.retire.isEmpty && s.sec.replacing.isEmpty && s.md.mode != .holdup
    && s.aliveTiles.all s.tileQuiet

/-- No program of a tile waits for a plane. -/
def State.noneWait (s : State) (t : Nat) : Bool :=
  (s.tile t).xl.metaWait.isEmpty && (s.tile t).xl.commits.all (fun c => c.step != .program || c.loc.isSome)

/-- A commit of frame `f` of a tile can start at once: the frame is Dirty with a line dirty and none altered, a segment lock is left and no maintenance operation
holds that of its segment, no commit of it runs, and the tile is not Sealed. -/
def State.commitFree (s : State) (tile f : Nat) : Bool :=
  decide (tile < 8) && s.alive tile && (s.frame tile f).st == .dirty && (s.frame tile f).dirty != 0 && (s.tile tile).fs.lineFlips.isEmpty
    && !(s.tile tile).txn.locks.contains (s.frame tile f).seg && s.lockRoom tile (s.frame tile f).seg
    && (s.commitOf tile (s.frame tile f).seg).isNone && !bitOf s.md.sealed tile

/-- The commit of a frame of a tile runs: the frame is Writing-back with no line dirty, and its segment's commit is one of that frame. -/
def State.committing (s : State) (tile f : Nat) : Bool :=
  (s.frame tile f).st == .writing && (s.frame tile f).dirty == 0
    && ((s.commitOf tile (s.frame tile f).seg).map (fun c => c.job == .host f)).getD false

/-- A line of package DPA `p` can be written at once at its tile `h`, whose head is its own: no other request, lock, upset or S2M credit
stands in the way, and the tile takes writes into frames. -/
def State.lineFree (s : State) (h p : Nat) : Bool :=
  let x := (s.tile h).txn
  decide (h < 8) && !bitOf s.md.failed h && s.segTile (p / 4096) == h && x.tracker.isEmpty && x.ingress.isEmpty && x.outQ.isEmpty
    && x.haz.isEmpty && x.hazWait.isEmpty && x.locks.isEmpty && (s.tile h).fs.tagFlips.isEmpty && (s.tile h).fs.lineFlips.isEmpty && !s.writeThrough h

/-! ### Register accesses (15_registers.md R431, R437 to R440) -/

/-- R439: a 4-byte write of `data` at `off` with all its byte enables passes every check: it is answered, its register exists and
is not a window of 04_belfry.md or 09_caravan.md, its master is privileged enough, the package is not in Hold-up, its tile is not
in reset, no gate holds, and it claims nothing that has another owner. -/
def State.takesWrite (s : State) (acc : Access) (off : Nat) (data : W32) : Bool :=
  s.barAnswers acc off && s.md.mode != .holdup && !s.inTileReset off &&
    (match regDef? s.pop.tiles off with
     | none => false
     | some d => d.key != Reg.FABRIC_WINDOW && d.key != Reg.CARAVAN_WINDOW && s.accessOk acc d off (some data)
        && !s.gateHolds d off data && (s.claimRefused d off data).isNone)

/-- R431, R434, R437: a 4-byte read at `off` is answered with its register's own value: its master is privileged enough, its tile
is not in reset, and no upper word captured earlier waits there. -/
def State.takesRead (s : State) (acc : Access) (off : Nat) : Bool :=
  s.barAnswers acc off && !s.inTileReset off && off % 4 == 0 && (aget (capKey acc off) s.reg.capHi).isNone &&
    (match regDef? s.pop.tiles off with
     | none => true
     | some d => s.accessOk acc d off none)

/-- The rows of the register table a write of which does more than change the register: doorbells, ring control and bases,
FAULT, PWR_CTL, GPIO_SEL, alerts, trimming, clocks, gates, tile reset, the Guestbook's cursor, counters, windows, RETRAIN and LAT_CLR. -/
def commandRegs : List Nat :=
  [Reg.DB_SQ_TAIL 0, Reg.DB_CQ_HEAD 0, Reg.RING_CTL 0, Reg.RING_SQ_BASE_LO 0, Reg.RING_SQ_BASE_HI 0, Reg.RING_CQ_BASE_LO 0, Reg.RING_CQ_BASE_HI 0,
   Reg.PWR_FAULT, Reg.PWR_CTL, Reg.THM_GPIO_CTL, Reg.THM_ALERT, Reg.THM_ALERT_MASK, Reg.BELFRY_TRIM_CTL, Reg.CLK_CTL, Reg.CLK_GATE_CTL 0, Reg.CLK_TILE_RESET, Reg.GB_CURSOR,
   Reg.PERF_SEL, Reg.PERF_WIN_CTL, Reg.HEAD_LINK_CTL 0, Reg.TXN_CTL 0]

/-- The parts that recording an event can change: the Guestbook, the registers, Porter and what goes out. -/
abbrev logParts : List Part := [.gb, .reg, .porter, .outbox]

/-! ### What a part is (00_scope.md R1, R4; 16_security.md R446) -/

/-- R1, R4: 2, 4 or 8 tiles; 1, 2 or 4 ranks per channel. -/
def Pop.legal (p : Pop) : Bool := (p.tiles == 2 || p.tiles == 4 || p.tiles == 8) && (p.ranks == 1 || p.ranks == 2 || p.ranks == 4)

/-! ### Hold-up (10_modes.md R322, R323, R540) -/

/-- R540, R335: between two states an off or restart trigger of a CAUSE is recognised: OFF_GRACE of MODE_CTL runs and the checkpoint of every
tile in service, from where its journal stands, is awaited. -/
abbrev State.prepared (t s : State) (cause : Nat) : Prop :=
  t.md = { s.md with prep := some { cause := cause, graceDone := s.fld Reg.MODE_CTL 15 8 == 0, graceMs := 10 * s.fld Reg.MODE_CTL 15 8 } } ∧
    t.jobs = { s.jobs with shutdownCkpt := s.aliveTiles.map (fun k => (k, (s.tile k).xl.jpos)) }

/-- R322, R323, R326, R97, R422: between two states Hold-up is entered under a CAUSE: the CAUSE is kept and reported, the flush runs in shed
stage 3, the cap of a force-off is computed and applies to CAUSE 2 and 5, nothing is prepared and no charge is waited for, no ring holds a
command, and no tile a request of a host or a sector; the clock sources, phase tracking, the fuses and the random numbers drawn stay. -/
abbrev State.heldUp (t s : State) (cause : Nat) : Prop :=
  t.md.mode = .holdup ∧ t.md.prev = s.md.mode.code ∧ t.md.cause = cause ∧ fieldOf t.md.report 31 29 = cause ∧ t.md.holdStep = .flush ∧
    t.md.capApplies = (cause == 2 || cause == 5) ∧ t.md.capMs = s.capTime ∧ t.md.prep = none ∧ t.md.drain = none ∧ t.pw.stage = 3 ∧
    t.pw.entryV = s.pw.holdV ∧ t.pw.chgWait = false ∧ t.pw.seqEn = s.pw.seqEn ∧ t.pw.seq = s.pw.seq ∧
    (List.range 64).all (fun r => (t.ring r).execs.isEmpty && (t.ring r).fetched.isEmpty) = true ∧
    s.present.all (fun k => (t.tile k).txn.tracker.isEmpty && (t.tile k).txn.haz.isEmpty && (t.tile k).txn.locks.isEmpty
      && decide ((t.tile k).bel.active = 0)) = true ∧ t.clk = s.clk ∧ t.bel = s.bel ∧ t.fuse = s.fuse ∧ t.draws = s.draws

/-! ### Temperature conversions (13_thermal_sled.md R388, R389) -/

/-- R389: sensor `i` is being converted for a request of priority `p`, which may run, and its end brings nothing else to its end: no request, command or
read of a temperature waits, and no sector asks for another round. -/
def State.convQuiet (s : State) (i p : Nat) : Bool :=
  decide (s.thm.converting = [(sensorTile i, (i, p))]) && s.convAllowed i p && s.thm.sensors.all (fun e => e.2.request.isNone)
    && s.thm.jobs.isEmpty && s.thm.rearm.isEmpty && (s.sectorBudget (if 512 ≤ i then s.md.primary else i / 64) 7 8).isNone

/-! ### Caravan (09_caravan.md R289 to R291) -/

/-- R289 to R291: a frame is accepted and is the whole of its message: it arrives through a head of the group whose link is up, is whole,
its tag verifies, it comes from a peer, and its group and destination are this package's. -/
def State.carFrameOk (s : State) (f : CarFrame) : Bool :=
  s.car.inGroup && bitOf s.car.heads f.head && (s.head f.head).up && f.whole && f.tagOk && (s.peer f.src).isSome && f.group == s.car.group
    && f.dst == s.car.self && f.frag == 0 && f.last

/-- A delta of `f` is new: this package holds the parity that it names, its tile `h` is in service and holds no slot and no delta, no stripe
is locked or verified, and no delta with its SEQ was answered. -/
def State.deltaNew (s : State) (f : CarFrame) (h : Nat) : Bool :=
  s.carFrameOk f && s.carHolds (f.stripe / 65536) && s.carIsQ (f.stripe / 65536) == f.isQ && decide (f.stripe / 65536 < s.car.blocks)
    && s.car.role != 1 && (s.carHome f.stripe).1 == h && decide (h < 8) && s.alive h && s.car.verify.isEmpty && s.car.lock.isNone
    && (s.tile h).car.slots.isEmpty && (s.tile h).car.held.isEmpty && !f.resent
    && ((s.peer f.src).bind (fun p => aget f.seq p.seen)).isNone

/-- Nothing of Caravan or of a commit is under way, so that a change of a peer's state brings nothing else to its end. -/
def State.carQuiet (s : State) : Bool :=
  s.noWork && s.car.reads.isEmpty && s.car.msgs.isEmpty && s.car.join.isNone
    && s.aliveTiles.all (fun t => (s.tile t).xl.commits.isEmpty && (s.tile t).car.held.isEmpty)

/-- R290: an ACK of a SEQ and a stripe to a peer, as head `hd` sends it. -/
def State.ackFrame (s : State) (hd : Nat) (p : Peer) (seq stripe status : Nat) : Out :=
  .caravan p.idx 2 [2, s.car.group, s.car.self, p.idx, 0, 0, seq, stripe, 0, 0, status, 0, hd, p.bars.getD p.bar 0] []

/-! ### The mode of the package (10_modes.md R313) -/

/-- R313: the modes to which one event can lead. The rise of VAUX leads on into Bring-up at once where AUTO_ON asks for it (R314);
the loss of VAUX in Hold-up is outside the specification (R325). -/
def Mode.moves : Mode → List Mode
  | .off => [.standby, .bringup]
  | .standby => [.bringup, .off]
  | .bringup => [.serve, .degraded, .sealed, .service, .standby, .holdup, .off]
  | .serve => [.degraded, .sealed, .service, .holdup, .standby, .off]
  | .degraded => [.serve, .sealed, .service, .holdup, .standby, .off]
  | .sealed => [.serve, .degraded, .service, .holdup, .standby, .off]
  | .holdup => [.standby, .bringup]
  | .service => [.serve, .degraded, .sealed, .holdup, .standby, .off]

/-- A commit is asked for by a command after which a restart is prepared (16_security.md R454, R470). -/
def PsCaller.restarts : PsCaller → Bool
  | .restart _ _ => true
  | _ => false

/-- Such a commit is wanted, held, waiting for room or running. -/
def State.restartWaits (s : State) : Bool :=
  s.ps.waiters.any PsCaller.restarts || s.ps.held.any PsCaller.restarts || s.ps.roomWait.any (fun e => e.1.restarts)
    || ((s.ps.running.map (fun c => c.callers.any PsCaller.restarts)).getD false)

/-- What holds of the mode in every state that a run reaches: an off or restart trigger is prepared, or waits for its commit, only while
the package operates (R540); rails come up only in Bring-up before T_R, where only step 1 is complete (R316, R338); and no charge is
waited for in Standby or while rails come up (R351). -/
def State.modeInv (s : State) : Bool :=
  ((s.md.prep.isNone && !s.restartWaits) || s.md.operating)
    && (s.pw.seq != .up1 || (s.md.mode == .bringup && s.md.stepsDone == 2 && !s.pw.chgWait))
    && (s.md.mode != .standby || !s.pw.chgWait)

end Sys2Proof.Machine
end

