-- ==== Sys2Proof/Certificates/Slice0/Obligations.lean ====
section
/-! DEFINITION. Certificates/Slice0/Obligations.lean: the statements for the provers. The clauses of one statement are about
the commands its docstring names. -/

open Sys2Proof Sys2Proof.Machine

/-- With a command at the front of the queue, a step is that command's effect on the state with the queue's rest. With no command
waiting the block idles: the model's choice (notes/assumptions/2.md), for the manual gives the block no clock to step by. -/
def Obligations.StepRunsFront : Prop :=
  (∀ (c : Instr) (s : State) (rest : List Instr), s.pending = c :: rest → step s = exec c { s with pending := rest }) ∧
  (∀ (s : State), s.pending = [] → step s = .next s)

/-- No step is refused. A step stops only where the manual places the block outside its specification: at the loss of VAUX during
Hold-up, and when the island leaves reset with the SCAN_EN strap high; and there it does stop. -/
def Obligations.StepStops : Prop :=
  (∀ (s : State) (r : Refusal), step s ≠ .refused r) ∧
  (∀ (s : State) (f : Fault), step s = .fault f →
    (f = .vauxLostInHoldup ∧ s.md.mode = .holdup) ∨ (f = .scanEnabled ∧ ∃ n l k, s.pending.head? = some (.islandPowerOn n l k) ∧ bitOf n 4 = true)) ∧
  (∀ (s : State) (cut : CommitCut), s.pending.head? = some (.vauxLoss cut) → s.md.mode = .holdup → step s = .fault .vauxLostInHoldup) ∧
  (∀ (s : State) (n : Nat) (l k : List Nat), s.pending.head? = some (.islandPowerOn n l k) → bitOf n 4 = true → step s = .fault .scanEnabled)

/-- Every step that answers a next state takes exactly the front of the queue away and leaves what the part is built with as it is. It
blows fuses and never mends one: the rollback floor and the owner generation never fall, TERMINAL stays blown, VKEY_REVOKE is no
command's, and DEVICE_SECRET changes only in a package that the step leaves DECOMMISSIONED. Only the end of Bring-up and the end of a
channel's training, after which a pending wipe runs, blow a fuse at all. -/
def Obligations.StepKeeps : Prop :=
  (∀ (s t : State), step s = .next t → t.pending = s.pending.tail ∧ t.pop = s.pop ∧ s.fuse.svn ≤ t.fuse.svn ∧ s.fuse.gen ≤ t.fuse.gen ∧
    (s.fuse.terminal = true → t.fuse.terminal = true) ∧ t.fuse.revoke = s.fuse.revoke ∧
    (t.fuse.secret = s.fuse.secret ∨ t.fuse.terminal = true)) ∧
  (∀ (s t : State), step s = .next t → t.fuse ≠ s.fuse →
    (∃ n, s.pending.head? = some (.bringupComplete n)) ∨ (∃ tile ch step cs ranks temp, s.pending.head? = some (.channelTrainingDone tile ch step cs ranks temp)))

/-- What `State.modeInv` says of the mode holds after every step from a state in which it holds: an off or restart trigger is prepared,
or a commit after which one will be waits, only while the package operates; rails come up only in Bring-up, with no step after
step 1 complete; and no charge is waited for in Standby or while the rails come up. -/
def Obligations.ModeInvariant : Prop :=
  ∀ (s t : State), s.modeInv = true → step s = .next t → t.modeInv = true

/-- From every state in which the invariant of ModeInvariant holds, one step leaves the mode as it is or takes one of the manual's
transitions: none leads from Off or Standby into a mode that operates, none from Service or a mode that serves back into Bring-up, and
none out of Hold-up but into Standby or Bring-up. Only the rise of VAUX leaves Off and only its loss enters it. -/
def Obligations.ModeMoves : Prop :=
  (∀ (s t : State), s.modeInv = true → step s = .next t → t.md.mode = s.md.mode ∨ s.md.mode.moves.contains t.md.mode = true) ∧
  (∀ (s t : State), step s = .next t → s.md.mode ≠ .off → t.md.mode = .off → ∃ cut, s.pending.head? = some (.vauxLoss cut)) ∧
  (∀ (s t : State), s.modeInv = true → step s = .next t → s.md.mode = .off → s.pw.seq = .down → t.md.mode ≠ .off →
    ∃ n l k, s.pending.head? = some (.islandPowerOn n l k))

/-- After reset the package is Off with nothing commanded and nothing out. Every ring is DISABLED, every register holds its table's
reset value, no frame or segment is held, and the invariant of ModeInvariant holds. That the part has 8 tiles, and 4 ranks per
channel, is the model's choice (notes/assumptions/1.md). -/
def Obligations.ResetState : Prop :=
  (State.reset.md.mode = .off ∧ State.reset.pending = [] ∧ State.reset.outbox = [] ∧ State.reset.modeInv = true ∧ State.reset.pop.legal = true) ∧
  (∀ (r : Nat), (State.reset.ring r).state = .disabled) ∧
  (∀ (off : Nat) (d : RegDef), regDef? State.reset.pop.tiles off = some d → State.reset.getReg off = d.reset) ∧
  (∀ (t : Nat), (State.reset.tile t).fs.frames = [] ∧ (State.reset.tile t).xl.map = [] ∧ (State.reset.tile t).txn.tracker = [])

/-- The HOLDOVER flag, bit 27 of BELFRY_STATUS, is 1 in FREE and in HOLDOVER and 0 in LOCKED and ACQUIRE; the schedule runs whatever the
Belfry state: bit 26 does not depend on it, and an entry that can start a sector starts it in every state. -/
def Obligations.HoldoverFlag : Prop :=
  (∀ (s : State), (s.regView Reg.BELFRY_STATUS).getLsbD 27 = (s.bel.state == .free || s.bel.state == .holdover)) ∧
  (∀ (s : State) (x : BelState), ((s.modBel (fun b => { b with state := x })).regView Reg.BELFRY_STATUS).getLsbD 26 = (s.regView Reg.BELFRY_STATUS).getLsbD 26) ∧
  (∀ (s : State) (x : BelState) (tile i : Nat), i < 64 → tile < 8 → s.canStart tile i = true →
    Completes (.sectorStart tile i) (s.modBel (fun b => { b with state := x })) (fun t => bitOf (t.tile tile).bel.active i = true ∧
      t.bel.state = x ∧ Only [.bel, .tiles, .thm, .wins, .reg] s t))

/-- The read of BELFRY_TURN_LO answers the low half of the local turn; BELFRY_TURN_HI then reads the high half of that turn, and
ANGLE_SNAP, bits 31:16 of BELFRY_ANGLE, the local angle of that moment. -/
def Obligations.TurnCapture : Prop :=
  (∀ (s : State) (acc : Access), s.takesRead acc Reg.BELFRY_TURN_LO = true →
    Completes (.belfryTurnLoRead acc) s (fun t => Sends s t [.regData acc.head Reg.BELFRY_TURN_LO (loWord s.bel.turn)] ∧
      t.regView Reg.BELFRY_TURN_HI = BitVec.ofNat 32 (s.bel.turn / 2 ^ 32 % 16) ∧ fieldOf (t.regView Reg.BELFRY_ANGLE) 31 16 = s.localAngle ∧
      Only [.bel, .outbox] s t))

/-- A conversion that a converter runs, of an input that is open or shorted (a thermistor's code is below 0.015 or above 0.985 of THREF) or of
an on-die diode with a result below −55 °C or above 150 °C, sets FAULT and keeps the value. It changes no crossing of a limit, no rise watch
and no history that rates are taken from, and the maximum that the fans follow passes a faulted sensor over. SENSOR_FAULT is set and
GB_THERM_SENSOR is in the Guestbook, where the Guestbook takes a record of its code. A conversion that reads a temperature within those bounds
clears FAULT and sets the value, here of a sled thermistor in Standby, which judges no limit. The temperature that a code reads is
`State.readingOf` (R385); the form of a remote diode's code is the model's (notes/assumptions/150.md). Completes: thermalConversionDone. -/
def Obligations.FaultedConversion : Prop :=
  (∀ (s : State) (i nowMs : Nat) (reading : Option Int), s.converts i = true →
    s.convAllowed i (agetD (sensorTile i) (0, 0) s.thm.converting).2 = true →
    (reading = none ∨ (isThermistor i = true ∧ (1000 * (reading.getD 0).toNat < 15 * 65536 ∨ 985 * 65536 < 1000 * (reading.getD 0).toNat)) ∨
      (isThermistor i = false ∧ i % 64 < 4 ∧ (reading.getD 0 < -440 ∨ 1200 < reading.getD 0))) →
    s.gb.buf.length < 512 → agetD Gb.THERM_SENSOR 0 s.gb.taken < s.gbBurst →
    Completes (.thermalConversionDone i reading nowMs) s (fun t => (t.sensor i).fault = true ∧ (t.sensor i).value = (s.sensor i).value ∧
      (t.sensor i).warn = (s.sensor i).warn ∧ (t.sensor i).crit = (s.sensor i).crit ∧ (t.sensor i).rise = (s.sensor i).rise ∧
      (t.sensor i).hist = (s.sensor i).hist ∧ t.regBit Reg.THM_ALERT 6 = true ∧
      t.gb.buf.any (fun r => r.code == Gb.THERM_SENSOR && r.source == sensorTile i) = true ∧ Only (.thm :: .tiles :: .free :: logParts) s t)) ∧
  (∀ (s : State) (i : Nat) (l k : List Nat), (s.sensor i).fault = true → s.maxReading (l ++ i :: k) = s.maxReading (l ++ k)) ∧
  (∀ (s : State) (i nowMs : Nat) (code v : Int), s.md.mode = .standby → s.converts i = true →
    s.convAllowed i (agetD (sensorTile i) (0, 0) s.thm.converting).2 = true → s.bumpFree.readingOf i code = some v →
    s.thm.jobs = [] → s.thm.rearm = [] →
    Completes (.thermalConversionDone i (some code) nowMs) s (fun t => (t.sensor i).fault = false ∧ (t.sensor i).value = v ∧
      Only [.thm, .free] s t))

/-- Where Belfry does not use PHASE_IN, a write of BELFRY_TRIM_CTL with TRIM_SRC PHASE_IN makes trimming its owner under class 1 of
R27, so that Belfry is refused PHASE_IN with RESOURCE_BUSY and DETAIL 1. Where Belfry uses PHASE_IN, the write leaves the register and the trim as
they are and sets CFG_CONFLICT. Belfry may take the FABRIC source while PHASE_IN trims the oscillator. -/
def Obligations.PhaseInOwner : Prop :=
  (∀ (s : State) (acc : Access) (data : W32), s.takesWrite acc Reg.BELFRY_TRIM_CTL (data ||| 0xC0000000#32) = true → fieldOf data 15 14 = 2 →
    Completes (.trimStart acc data) s (fun t => fieldOf (t.getReg Reg.BELFRY_TRIM_CTL) 15 14 = 2 ∧ t.phaseByTrim = true ∧ t.bel.trimBusy = true ∧
      Only [.bel, .reg] s t)) ∧
  (∀ (s : State) (acc : Access) (data : W32) (d : RegDef), s.barAnswers acc Reg.BELFRY_TRIM_CTL = true → s.md.mode ≠ .holdup →
    regDef? s.pop.tiles Reg.BELFRY_TRIM_CTL = some d → s.accessOk acc d Reg.BELFRY_TRIM_CTL (some (data ||| 0xC0000000#32)) = true →
    fieldOf data 15 14 = 2 → s.phaseByBelfry = true → s.phaseByTrim = false →
    Completes (.trimStart acc data) s (fun t => t.getReg Reg.BELFRY_TRIM_CTL = s.getReg Reg.BELFRY_TRIM_CTL ∧ t.regBit Reg.CFG_STATUS 0 = true ∧
      Only [.reg] s t)) ∧
  (∀ (s : State) (pc : PortCmd) (period offset stagger domain turnSet : Nat) (valid persist : Bool), s.accepts pc 0x0500 true = true →
    s.sec.romOnly = false → 500 ≤ period → period ≤ 1000000 → s.phaseByTrim = true →
    Completes (.belfrySetRef pc 1 period offset stagger domain turnSet valid persist) s (fun t =>
      t.resultOf pc = some { status := Status.resourceBusy.code, detail := 1 } ∧ Only [.porter] s t)) ∧
  (∀ (s : State) (pc : PortCmd) (period domain turnSet : Nat) (valid : Bool), s.accepts pc 0x0500 true = true → s.sec.romOnly = false →
    500 ≤ period → period ≤ 1000000 → s.phaseByTrim = true →
    Completes (.belfrySetRef pc 2 period s.bel.offset s.bel.stagger domain turnSet valid false) s (fun t => t.bel.source = 2 ∧
      (t.resultOf pc).map (·.status) = some Status.success.code ∧ t.phaseByTrim = true ∧ Only [.porter, .bel] s t))

/-- ISLAND_POWER_ON from Off: the island runs from VAUX and takes its static I3C address and the crystal bypass from the straps. Where
the rails have not rested no Bring-up starts: the mode is Standby, left from Off, the registers, the fans and the power manager are those that
the Parameter Store loads, nothing but an in-band interrupt for alert MODE goes out, and the tiles keep their medium. With SCAN_EN high the command stops. VAUX_LOSS
outside Hold-up: the package is Off, no rail is enabled, FAULT is kept, every register holds its reset value and every ring is DISABLED,
the Guestbook's buffer and the pending set are gone and its flash is kept, and the tiles keep what is on the medium; in Hold-up the command
stops. Completes: islandPowerOn, vauxLoss. -/
def Obligations.VauxRiseAndLoss : Prop :=
  (∀ (s : State) (straps : Nat) (bc bp : List Nat), s.md.mode = .off → bitOf straps 4 = false →
    Completes (.islandPowerOn straps bc bp) s (fun t => t.pw.vaux = true ∧ t.thm.staticAddr = 0x30 + straps % 8 ∧
      t.thm.xtalByp = bitOf straps 3 ∧ t.fuse = s.fuse ∧ (t.md.mode = .standby ∨ t.md.mode = .bringup))) ∧
  (∀ (s : State) (straps : Nat) (bc bp : List Nat), s.md.mode = .off → bitOf straps 4 = false → s.pw.rested = false →
    Completes (.islandPowerOn straps bc bp) s (fun t => t.md.mode = .standby ∧ t.md.prev = 0 ∧ t.md.fromOff = true ∧
      t.thm.staticAddr = 0x30 + straps % 8 ∧ t.pw.vaux = true ∧ t.pw.seq = .down ∧ t.pw.seqEn = 0 ∧ t.pw.fault = false ∧ t.pw.slots.length = 16 ∧
      (List.range 8).all (fun k => decide ((t.tile k).med = (s.tile k).med ∧ (t.tile k).xl = (s.tile k).xl)) = true ∧
      Only [.free, .outbox, .reg, .gb, .ps, .md, .pw, .clk, .thm, .sec, .tiles] s t)) ∧
  (∀ (s : State) (straps : Nat) (bc bp : List Nat), bitOf straps 4 = true →
    exec (.islandPowerOn straps bc bp) s = .fault .scanEnabled) ∧
  (∀ (s : State) (cut : CommitCut), s.md.mode ≠ .off → s.md.mode ≠ .holdup →
    Completes (.vauxLoss cut) s (fun t => t.md.mode = .off ∧ t.md.prev = s.md.mode.code ∧ t.pw.vaux = false ∧ t.pw.seqEn = 0 ∧
      t.pw.fault = s.pw.fault ∧ t.reg = ({} : RegFile) ∧ t.fuse = s.fuse ∧ t.gb.buf = [] ∧ t.gb.circ = s.gb.circ ∧ t.ps.pendingSet = [] ∧
      t.ps.running = none ∧ (List.range 64).all (fun r => (t.ring r).state == .disabled) = true ∧
      (List.range 8).all (fun k => decide ((t.tile k).med.pages = (s.tile k).med.pages ∧ (t.tile k).fs.frames = [] ∧ (t.tile k).txn.tracker = [])) = true)) ∧
  (∀ (s : State) (cut : CommitCut), s.md.mode = .holdup → exec (.vauxLoss cut) s = .fault .vauxLostInHoldup)

/-- ON_REQUEST in Standby: while FAULT is set, or the rails have not been down for 100 ms, it is latched and the mode stays; else, with some
slot enabled, Bring-up starts with no step but step 1 complete, POWER_CYCLES counts, and the first enabled slot waits its UP_DELAY. The end of
a Hold-up is an on request only under the conditions of R314. ON_REQUEST_LATCHED_START does the same for a latched request; without one the
rails count as rested. POWER_ON is the on request of the sideband, which is answered. Completes: onRequest, onRequestLatchedStart, powerOn. -/
def Obligations.OnRequestsStartBringup : Prop :=
  (∀ (s : State) (src : Nat), (src ≤ 2 ∨ (src = 3 ∧ s.regBit Reg.MODE_CTL 2 = true ∧ s.md.cause = 0 ∧ s.md.holdStep ≠ .none ∧ s.pw.aboveP = 50000)) →
    s.md.mode = .standby → s.pw.seq = .down → s.pw.fault = true →
    Completes (.onRequest src) s (fun t => t.pw = { s.pw with onLatched := some (s.pw.onLatched.getD src) } ∧ Only [.pw, .gb, .reg] s t)) ∧
  (∀ (s : State) (src : Nat), src ≤ 2 → s.md.mode = .standby → s.pw.seq = .down → s.pw.fault = false → s.pw.rested = false →
    Completes (.onRequest src) s (fun t => t = { s with pw := { s.pw with onLatched := some (s.pw.onLatched.getD src) } })) ∧
  (∀ (s : State) (src j : Nat), (src ≤ 2 ∨ (src = 3 ∧ s.regBit Reg.MODE_CTL 2 = true ∧ s.md.cause = 0 ∧ s.md.holdStep ≠ .none ∧ s.pw.aboveP = 50000)) →
    s.md.mode = .standby → s.pw.seq = .down → s.pw.fault = false → s.pw.rested = true → (List.range 16).find? (fun i => s.slotEn i) = some j →
    Completes (.onRequest src) s (fun t => t.md.mode = .bringup ∧ t.md.prev = 1 ∧ t.md.stepsDone = 2 ∧ t.md.step = 1 ∧ t.pw.seq = .up1 ∧ t.pw.slot = j ∧
      t.pw.upDelay = true ∧ t.pw.onLatched = none ∧ t.pw.seqEn = 0 ∧ Only [.outbox, .reg, .gb, .ps, .md, .pw, .thm] s t)) ∧
  (∀ (s : State) (j : Nat), s.md.mode = .standby → s.pw.onLatched.isSome = true → s.pw.fault = false →
    (List.range 16).find? (fun i => s.slotEn i) = some j →
    Completes .onRequestLatchedStart s (fun t => t.md.mode = .bringup ∧ t.md.prev = 1 ∧ t.md.stepsDone = 2 ∧ t.md.step = 1 ∧ t.pw.seq = .up1 ∧ t.pw.slot = j ∧
      t.pw.upDelay = true ∧ t.pw.onLatched = none ∧ t.pw.seqEn = 0 ∧ Only [.outbox, .reg, .gb, .ps, .md, .pw, .thm] s t)) ∧
  (∀ (s : State), s.md.mode = .standby → s.pw.onLatched = none →
    Completes .onRequestLatchedStart s (fun t => t = { s with pw := { s.pw with rested := true } })) ∧
  (∀ (s : State), s.md.mode = .standby → s.pw.seq = .down → s.pw.fault = true →
    Completes .powerOn s (fun t => t.pw = { s.pw with onLatched := some (s.pw.onLatched.getD 1) } ∧ Sends s t [.sideband SB_VENDOR 1 CC_OK []] ∧
      Only [.pw, .gb, .reg, .outbox] s t)) ∧
  (∀ (s : State) (j : Nat), s.md.mode = .standby → s.pw.seq = .down → s.pw.fault = false → s.pw.rested = true →
    (List.range 16).find? (fun i => s.slotEn i) = some j →
    Completes .powerOn s (fun t => t.md.mode = .bringup ∧ t.md.stepsDone = 2 ∧ t.pw.seq = .up1 ∧ t.pw.slot = j ∧ t.pw.upDelay = true ∧
      Only [.outbox, .reg, .gb, .ps, .md, .pw, .thm] s t))

/-- SLOT_UP_DELAY_EXPIRE, once UP_DELAY has passed, enables the waiting slot and changes nothing else. SLOT_QUALIFIED, once PG_x has been
stable for STAB, marks it qualified and the next enabled slot waits its UP_DELAY. SLOT_PG_TIMEOUT, once PG_TMAX has passed, and RAIL_FAILURE
latch FAULT with the slot and KIND TIMEOUT (1) or DROP (2), reset the tiles, which keep what is on the medium, and take the rails down fast,
the highest slot that is on at once. SLOT_DOWN_DELAY_EXPIRE, once the wait of R340 has passed, takes the highest slot low and changes
nothing else; with the last one the package is in Standby with its rails down. Completes: slotUpDelayExpire, slotQualified, slotPgTimeout,
railFailure, slotDownDelayExpire. -/
def Obligations.SequencerSlots : Prop :=
  (∀ (s : State) (us : Nat), s.pw.seq = .up1 → s.pw.upDelay = true → s.slotUpUs s.pw.slot ≤ us →
    Completes (.slotUpDelayExpire us) s (fun t => t = { s with pw := { s.pw with upDelay := false, seqEn := setBit s.pw.seqEn s.pw.slot } })) ∧
  (∀ (s : State) (us j : Nat), s.slotPending = true → s.slotStabUs s.pw.slot ≤ us → s.pw.offLatched = false →
    (List.range 16).find? (fun i => decide (s.pw.slot + 1 ≤ i) && s.slotEn i) = some j →
    Completes (.slotQualified us) s (fun t =>
      t = { s with pw := { s.pw with pgQual := setBit s.pw.pgQual s.pw.slot, seq := .up1, slot := j, upDelay := true } })) ∧
  (∀ (s : State) (us j : Nat), s.slotPending = true → s.slotTmaxUs s.pw.slot ≤ us →
    (List.range 16).reverse.find? (bitOf s.pw.seqEn) = some j → clearBit s.pw.seqEn j ≠ 0 →
    Completes (.slotPgTimeout us) s (fun t => t.pw.fault = true ∧ t.pw.faultSlot = s.pw.slot ∧ t.pw.faultKind = 1 ∧ t.pw.seq = .fastDown ∧
      t.pw.seqEn = clearBit s.pw.seqEn j ∧ t.md.mode = s.md.mode ∧ t.md.resetsReleased = false ∧
      (List.range 8).all (fun k => decide ((t.tile k).med.pages = (s.tile k).med.pages ∧ (t.tile k).fs.frames = [])) = true ∧ t.fuse = s.fuse)) ∧
  (∀ (s : State) (slot j : Nat), (s.pw.seq = .up1 ∨ s.pw.seq = .up) → bitOf s.pw.pgQual slot = true →
    (List.range 16).reverse.find? (bitOf s.pw.seqEn) = some j → clearBit s.pw.seqEn j ≠ 0 →
    Completes (.railFailure slot) s (fun t => t.pw.fault = true ∧ t.pw.faultSlot = slot ∧ t.pw.faultKind = 2 ∧ t.pw.seq = .fastDown ∧
      t.pw.seqEn = clearBit s.pw.seqEn j ∧ t.md.mode = s.md.mode ∧ t.md.resetsReleased = false ∧
      (List.range 8).all (fun k => decide ((t.tile k).med.pages = (s.tile k).med.pages ∧ (t.tile k).fs.frames = [])) = true ∧ t.fuse = s.fuse)) ∧
  (∀ (s : State) (us j : Nat), (s.pw.seq = .normalDown ∨ s.pw.seq = .fastDown) → s.slotDownUs s.pw.slot ≤ us →
    (List.range 16).reverse.find? (bitOf s.pw.seqEn) = some j → clearBit s.pw.seqEn j ≠ 0 →
    Completes (.slotDownDelayExpire us) s (fun t =>
      t = { s with pw := { s.pw with seqEn := clearBit s.pw.seqEn j, pgQual := clearBit s.pw.pgQual j, slot := j } })) ∧
  (∀ (s : State) (us j : Nat), (s.pw.seq = .normalDown ∨ s.pw.seq = .fastDown) → s.slotDownUs s.pw.slot ≤ us →
    (List.range 16).reverse.find? (bitOf s.pw.seqEn) = some j → clearBit s.pw.seqEn j = 0 →
    Completes (.slotDownDelayExpire us) s (fun t => t.md.mode = .standby ∧ t.md.resetsReleased = false ∧ t.pw.seq = .down ∧ t.pw.seqEn = 0 ∧ t.pw.pgQual = 0 ∧
      t.pw.rested = false ∧ t.pw.stage = 0 ∧ (List.range 64).all (fun r => (t.ring r).state == .disabled) = true ∧
      (List.range 8).all (fun k => decide ((t.tile k).med.pages = (s.tile k).med.pages ∧ (t.tile k).fs.frames = [])) = true ∧ t.fuse = s.fuse))

/-- While the package operates with its rails up: POWER_BUTTON_SHORT, POWER_OFF and WARM_RESET with CAUSE 4 prepare Hold-up under CAUSE 1
or 4 when nothing is prepared yet: OFF_GRACE of MODE_CTL runs, the checkpoint of every tile in service is awaited, and the hosts are
notified; the release that follows a long press is ignored. POWER_BUTTON_LONG, once the press has lasted LONG_PRESS, applies the cap in
Hold-up and is an off request before T_R. MRST in Hold-up is latched; MRST_N_RELEASE, outside Bring-up, notes the release; in a Bring-up that
waits at step 2 with every PLL locked it releases the tile resets (steps 3 and 4), here with no stable crystal to trim and every PERST_N low.
OFF_GRACE_EXPIRE, once OFF_GRACE has passed, and SHUTDOWN_CHECKPOINT_DONE note their ends while the other is awaited. Completes:
powerButtonShort, powerButtonLong, mrst, mrstNRelease, warmReset, powerOff, offGraceExpire, shutdownCheckpointDone. -/
def Obligations.ButtonsAndPreparation : Prop :=
  (∀ (s : State), s.md.operating = true → s.pw.seq = .up → s.pw.longHeld = false → s.md.prep = none →
    Completes .powerButtonShort s (fun t => t.prepared s 1 ∧ Only [.md, .jobs, .cap, .outbox] s t)) ∧
  (∀ (s : State), s.md.mode ≠ .off → s.pw.longHeld = true →
    Completes .powerButtonShort s (fun t => t = { s with pw := { s.pw with longHeld := false } })) ∧
  (∀ (s : State) (ms : Nat) (old : Bool), s.md.mode = .holdup → s.pw.longHeld = false → 1000 * s.longPress old ≤ ms →
    Completes (.powerButtonLong ms old) s (fun t => t.md = { s.md with capApplies := true } ∧ t.pw = { s.pw with longHeld := true } ∧
      t.regBit Reg.PWR_ERR_STATUS 0 = true ∧ Only [.md, .pw, .reg, .gb] s t)) ∧
  (∀ (s : State) (ms : Nat) (old : Bool), s.md.mode = .bringup → s.md.stepsDone = 2 → s.pw.seq = .up1 → s.pw.longHeld = false → 1000 * s.longPress old ≤ ms →
    Completes (.powerButtonLong ms old) s (fun t => t.md = s.md ∧ t.pw = { s.pw with longHeld := true, offLatched := true } ∧
      t.regBit Reg.PWR_ERR_STATUS 0 = true ∧ Only [.pw, .reg, .gb] s t)) ∧
  (∀ (s : State), s.md.mode = .holdup →
    Completes .mrst s (fun t => t.md = { s.md with mrstLow := true, warmLatched := true } ∧ t.regBit Reg.PWR_ERR_STATUS 1 = true ∧
      Only [.md, .reg, .gb] s t)) ∧
  (∀ (s : State), s.md.mode ≠ .bringup → Completes .mrstNRelease s (fun t => t = { s with md := { s.md with mrstLow := false, mrstHold := false } })) ∧
  (∀ (s : State), s.booting 2 = true → bitOf s.md.stepsDone 3 = false → s.clk.xtal ≠ 1 → s.md.perstHigh = 0 →
    s.aliveTiles.all (fun k => Nat.land (s.tile k).clk.pllLocked (s.pllsNeeded k) == s.pllsNeeded k) = true →
    Completes .mrstNRelease s (fun t => t.md.mrstLow = false ∧ t.md.mrstHold = false ∧ t.md.resetsReleased = true ∧ bitOf t.md.stepsDone 3 = true ∧
      bitOf t.md.stepsDone 4 = true ∧ Only [.md] s t)) ∧
  (∀ (s : State), s.md.operating = true → s.pw.seq = .up → s.md.prep = none →
    Completes (.warmReset 4) s (fun t => t.prepared s 4 ∧ Only [.md, .jobs, .cap, .outbox] s t)) ∧
  (∀ (s : State), s.md.operating = true → s.pw.seq = .up → s.md.prep = none →
    Completes .powerOff s (fun t => t.prepared s 1 ∧ t.outbox.contains (.sideband SB_VENDOR 2 CC_OK []) = true ∧ Only [.md, .jobs, .cap, .outbox] s t)) ∧
  (∀ (s : State) (p : ShutdownPrep) (ms : Nat), s.md.prep = some p → p.graceMs ≤ ms → p.ckptDone = false →
    Completes (.offGraceExpire ms) s (fun t => t = { s with md := { s.md with prep := some { p with graceDone := true } } })) ∧
  (∀ (s : State) (p : ShutdownPrep), s.md.prep = some p → p.graceDone = false → s.jobs.shutdownCkpt.all s.ckptReached = true →
    Completes .shutdownCheckpointDone s (fun t => t = { s with md := { s.md with prep := some { p with ckptDone := true } } }))

/-- HOLDUP_ENTRY, PWRFAIL_INPUT_LOSS (CAUSE 0), POWER_BUTTON_LONG once the press has lasted LONG_PRESS (CAUSE 2), WARM_RESET with CAUSE 3,
MRST (CAUSE 3), and SHUTDOWN_DEADLINE_EXPIRE (the CAUSE prepared) enter Hold-up from a mode in which the package operates. Entry into
Hold-up (`State.heldUp`): the mode is Hold-up, left from the mode before; CAUSE is kept and reported; the flush runs in shed stage 3; the cap
of a force-off applies to CAUSE 2 and 5, and is computed; nothing is prepared or waits for charge; no ring holds a command; and on every
tile no request of a host and no sector is left. PWRFAIL_INPUT_LOSS before T_R takes the rails down fast instead. The clock sources, phase
tracking, the fuses and the random numbers drawn stay. Completes: holdupEntry, pwrfailInputLoss, powerButtonLong, warmReset, mrst,
shutdownDeadlineExpire. -/
def Obligations.HoldupEntered : Prop :=
  (∀ (s : State) (cause : Nat), s.canHoldup = true → s.pw.seq = .up → cause < 6 →
    Completes (.holdupEntry cause) s (fun t => t.heldUp s cause ∧ t.pw.longHeld = s.pw.longHeld)) ∧
  (∀ (s : State), s.md.operating = true → s.pw.seq = .up →
    Completes .pwrfailInputLoss s (fun t => t.heldUp s 0 ∧ t.pw.longHeld = s.pw.longHeld)) ∧
  (∀ (s : State) (j : Nat), s.md.mode = .bringup → s.pastTr = false → s.pw.seq = .up1 →
    (List.range 16).reverse.find? (bitOf s.pw.seqEn) = some j → clearBit s.pw.seqEn j ≠ 0 →
    Completes .pwrfailInputLoss s (fun t => t = { s with pw := { s.pw with
      seq := .fastDown, upDelay := false, offLatched := false, seqEn := clearBit s.pw.seqEn j, pgQual := clearBit s.pw.pgQual j, slot := j } })) ∧
  (∀ (s : State) (ms : Nat) (old : Bool), s.md.operating = true → s.pw.seq = .up → s.pw.longHeld = false → 1000 * s.longPress old ≤ ms →
    Completes (.powerButtonLong ms old) s (fun t => t.heldUp s 2 ∧ t.pw.longHeld = true ∧ t.regBit Reg.PWR_ERR_STATUS 0 = true)) ∧
  (∀ (s : State), s.md.operating = true → s.pw.seq = .up →
    Completes (.warmReset 3) s (fun t => t.heldUp s 3)) ∧
  (∀ (s : State), s.md.operating = true → s.pw.seq = .up →
    Completes .mrst s (fun t => t.heldUp s 3 ∧ t.md.mrstLow = true ∧ t.regBit Reg.PWR_ERR_STATUS 1 = true)) ∧
  (∀ (s : State) (p : ShutdownPrep), s.md.prep = some p → s.md.operating = true →
    Completes .shutdownDeadlineExpire s (fun t => t.heldUp s p.cause))

/-- SENSE_SAMPLE takes its codes into the last 100 of each sense input and into the means; well above every threshold, in no stage, it
counts the sample in every window and changes nothing else; a code of the bank that is the lowest of its window is v_b. The fourth sample in
a row below VIN_WARN1 and not below VIN_WARN2 enters stage 1, the second in a row below VIN_PFAIL Hold-up with CAUSE 0; in Hold-up a
sample of the bank at or below the program reserve takes the rails down fast. SHED_STAGE_LEAVE, once every sample of its 50 ms was at or above
the threshold, ends its stage's hold, and the stage. SHED_STAGE4_ENTER, once the flush of every tile in service has ended, starts the
last commit with REACHED_4 and the time since entry in HOLDUP_REPORT. HOLDUP_COMPLETE takes the rails down, or after a warm reset starts
Bring-up at step 2. HOLDUP_CAP_EXPIRE takes them down fast and reports it. Completes: senseSample, shedStageLeave, shedStage4Enter, holdupComplete,
holdupCapExpire. -/
def Obligations.ShedStagesAndEnd : Prop :=
  (∀ (s : State) (vin hold : Nat), s.md.operating = true → s.pw.stage = 0 → s.pw.hold1 = false → s.pw.hold2 = false →
    fieldOf s.pw.levels.1 31 16 + fieldOf s.pw.levels.2 15 0 ≤ s.vinOf vin → fieldOf s.pw.levels.1 15 0 + fieldOf s.pw.levels.2 15 0 ≤ s.vinOf vin →
    fieldOf s.pw.levels.2 31 16 + fieldOf s.pw.levels.2 15 0 ≤ s.vinOf vin →
    Completes (.senseSample vin hold) s (fun t => t.pw.vinRun = (vin :: s.pw.vinRun).take 100 ∧ t.pw.holdRun = (hold :: s.pw.holdRun).take 100 ∧
      t.pw.vin = s.vinOf (total t.pw.vinRun / t.pw.vinRun.length) ∧ t.pw.holdV = s.bankOf (total t.pw.holdRun / t.pw.holdRun.length) / 20 ∧
      t.pw.samples = s.pw.samples + 1 ∧ t.pw.above1 = min 50000 (s.pw.above1 + 1) ∧ t.pw.above2 = min 50000 (s.pw.above2 + 1) ∧
      t.pw.aboveP = min 50000 (s.pw.aboveP + 1) ∧ t.pw.below1 = 0 ∧ t.pw.below2 = 0 ∧ t.pw.belowP = 0 ∧ Only [.pw] s t)) ∧
  (∀ (s : State) (vin hold : Nat), s.md.operating = true → s.pw.stage = 0 → s.pw.hold1 = false → s.pw.hold2 = false → s.pw.holdTestPin = false →
    s.pw.loadAt = none → s.pw.lows.all (fun e => decide (hold ≤ e.2)) = true → fieldOf s.pw.levels.1 31 16 ≤ s.vinOf vin → fieldOf s.pw.levels.1 15 0 ≤ s.vinOf vin →
    fieldOf s.pw.levels.2 31 16 ≤ s.vinOf vin →
    Completes (.senseSample vin hold) s (fun t => t.pw.vb = s.bankOf hold ∧ Only [.pw] s t)) ∧
  (∀ (s : State) (vin hold : Nat), s.md.operating = true → s.pw.stage = 0 → s.pw.hold1 = false → s.pw.hold2 = false → s.pw.below1 = 3 →
    s.vinOf vin < fieldOf s.pw.levels.1 31 16 → fieldOf s.pw.levels.1 15 0 ≤ s.vinOf vin → fieldOf s.pw.levels.2 31 16 ≤ s.vinOf vin → s.pw.test = none →
    Completes (.senseSample vin hold) s (fun t => t.pw.stage = 1 ∧ t.pw.hold1 = true ∧ t.pw.below1 = 4 ∧ t.regBit Reg.PWR_ERR_STATUS 4 = true ∧
      t.md = s.md ∧ Only (.pw :: .jobs :: .wins :: .free :: .tiles :: logParts) s t)) ∧
  (∀ (s : State) (vin hold : Nat), s.md.operating = true → s.pw.seq = .up → s.pw.belowP = 1 → s.vinOf vin < fieldOf s.pw.levels.2 31 16 →
    Completes (.senseSample vin hold) s (fun t => t.md.mode = .holdup ∧ t.md.cause = 0 ∧ t.md.holdStep = .flush ∧ t.pw.stage = 3 ∧ t.md.prep = none)) ∧
  (∀ (s : State) (vin hold : Nat), s.md.mode = .holdup → s.aboveRes (s.bankOf hold) = true →
    Completes (.senseSample vin hold) s (fun t => t.pw.samples = s.pw.samples + 1 ∧ t.pw.stage = s.pw.stage ∧ t.pw.seq = s.pw.seq ∧ Only [.pw] s t)) ∧
  (∀ (s : State) (vin hold j : Nat), s.md.mode = .holdup → s.aboveRes (s.bankOf hold) = false → s.pw.seq = .up →
    (List.range 16).reverse.find? (bitOf s.pw.seqEn) = some j → clearBit s.pw.seqEn j ≠ 0 →
    Completes (.senseSample vin hold) s (fun t => t.pw.seq = .fastDown ∧ t.pw.seqEn = clearBit s.pw.seqEn j ∧ t.md.mode = .holdup ∧ Only [.pw, .md] s t)) ∧
  (∀ (s : State), s.md.operating = true → s.pw.stage = 1 → s.pw.hold2 = false → 50000 ≤ s.pw.above1 →
    Completes (.shedStageLeave 1) s (fun t => t.pw = { s.pw with hold1 := false, stage := 0 } ∧ Only (.pw :: .jobs :: logParts) s t)) ∧
  (∀ (s : State), s.md.operating = true → s.pw.stage = 2 → s.pw.hold1 = true → 50000 ≤ s.pw.above2 →
    Completes (.shedStageLeave 2) s (fun t => t.pw = { s.pw with hold2 := false, stage := 1 } ∧ t.ps.held = [] ∧
      Only (.pw :: .jobs :: .ps :: logParts) s t)) ∧
  (∀ (s : State) (ms : Nat), s.md.mode = .holdup → s.pw.seq = .up → s.md.holdStep = .flush → s.aliveTiles.all s.flushEnded = true →
    fieldOf s.md.report 19 0 = 0 →
    Completes (.shedStage4Enter ms) s (fun t => t.md.holdStep = .commit ∧ t.pw.stage = 4 ∧ t.md.mode = .holdup ∧ fieldOf t.md.report 28 28 = 1 ∧
      fieldOf t.md.report 19 0 = ms % 2 ^ 20 ∧ (List.range 8).all (fun k => decide ((t.tile k).fs = (s.tile k).fs)) = true ∧
      Only (.pw :: .md :: .ps :: .jobs :: .tiles :: .free :: .sec :: logParts) s t)) ∧
  (∀ (s : State) (ms j : Nat), s.md.mode = .holdup → s.pw.seq = .up → s.md.holdStep = .commit → s.aliveTiles.all s.journalOut = true →
    s.md.cause = 0 → s.md.warmLatched = false → (List.range 16).reverse.find? (bitOf s.pw.seqEn) = some j → clearBit s.pw.seqEn j ≠ 0 →
    Completes (.holdupComplete ms) s (fun t => t.pw.seq = .normalDown ∧ t.pw.seqEn = clearBit s.pw.seqEn j ∧ t.md.holdStep = .railsDown ∧
      t.md.mode = .holdup ∧ t.tiles = s.tiles)) ∧
  (∀ (s : State) (ms : Nat), s.md.mode = .holdup → s.pw.seq = .up → s.md.holdStep = .commit → s.aliveTiles.all s.journalOut = true →
    (s.md.cause = 3 ∨ s.md.cause = 4 ∨ s.md.warmLatched = true) →
    Completes (.holdupComplete ms) s (fun t => t.md.mode = .bringup ∧ t.md.step = 2 ∧ t.pw.seq = .up ∧ t.pw.seqEn = s.pw.seqEn ∧ t.md.warmLatched = false ∧
      (List.range 8).all (fun k => decide ((t.tile k).med.pages = (s.tile k).med.pages ∧ (t.tile k).fs.frames = [])) = true)) ∧
  (∀ (s : State) (ms j : Nat), s.md.mode = .holdup → s.md.capApplies = true → s.md.capMs ≤ ms → s.pw.seq = .up →
    (List.range 16).reverse.find? (bitOf s.pw.seqEn) = some j → clearBit s.pw.seqEn j ≠ 0 →
    Completes (.holdupCapExpire ms) s (fun t => t.pw.seq = .fastDown ∧ t.pw.seqEn = clearBit s.pw.seqEn j ∧ fieldOf t.md.report 27 27 = 1 ∧
      t.md.mode = .holdup ∧ Only [.pw, .md] s t))

/-- HOLDUP_TEST, and HOLDUP_TEST_START at step 10 or in a HOLDUP_TEST sector of the primary while a test is due, begin a test when the
bank is settled: charger inhibit and load are on, V0 and V1 are kept, and nothing else changes but step 10. HOLDUP_TEST_FALL, once the fall
has reached HOLD_DV or HOLD_TMAX has passed, ends one with load and charger inhibit off: VALID with c_bank, the ESR, the usable energy and
the limit of every tile in service, or FAILED with a limit of 0, HOLDUP_FAIL latched and Degraded cause 6; before that it changes nothing.
HOLD_CHG_WAIT_EXPIRE after HOLD_CHG_MAX ends the test of step 10 FAILED. MEASURED_LIMIT_RECOMPUTE writes the usable energy of v_b and the limit of
each tile in service. Completes: holdupTest, holdupTestStart, holdupTestFall, holdChgWaitExpire, measuredLimitRecompute. -/
def Obligations.HoldupTests : Prop :=
  (∀ (s : State) (pc : PortCmd) (rise v0 v1 : Nat), s.accepts pc 0x0700 true = true → s.md.operating = true → s.testReady rise = true →
    Completes (.holdupTest pc rise v0 v1) s (fun t =>
      t.pw = { s.pw with test := some { v0 := v0, v1 := v1, asked := some (pc.ring, pc.cid) }, chgWait := false, holdTestPin := true, holdChgInh := true } ∧
        t.underWay pc = true ∧ Only [.pw, .porter] s t)) ∧
  (∀ (s : State) (rise v0 v1 : Nat), s.md.mode = .bringup → s.pw.chgWait = true → s.testReady rise = true →
    Completes (.holdupTestStart rise v0 v1) s (fun t =>
      t.pw = { s.pw with test := some { v0 := v0, v1 := v1, asked := none }, chgWait := false, holdTestPin := true, holdChgInh := true } ∧
        bitOf t.md.stepsDone 10 = true ∧ Only [.pw, .md] s t)) ∧
  (∀ (s : State) (rise v0 v1 : Nat), s.md.operating = true → s.testSector = true → s.testReady rise = true →
    Completes (.holdupTestStart rise v0 v1) s (fun t =>
      t = { s with pw := { s.pw with test := some { v0 := v0, v1 := v1, asked := none }, chgWait := false, holdTestPin := true, holdChgInh := true } })) ∧
  (∀ (s : State) (h : HoldTest) (dt fall : Nat), s.pw.test = some h → fall < s.holdParam 8 2 → dt < 1000 * s.holdParam 10 2 →
    Completes (.holdupTestFall dt fall) s (fun t => t = s)) ∧
  (∀ (s : State) (h : HoldTest) (dt fall : Nat), s.pw.test = some h → h.asked = none → s.holdParam 8 2 ≤ fall → 0 < s.holdParam 8 2 →
    100000 * s.holdParam 12 2 ≤ s.holdParam 6 2 * dt * 20 / fall → 0 < s.holdParam 6 2 → (h.v0 - h.v1) * 200 ≤ s.holdParam 3 1 * s.holdParam 6 2 →
    Completes (.holdupTestFall dt fall) s (fun t => t.pw.test = none ∧ t.pw.holdTestPin = false ∧ t.pw.holdChgInh = false ∧ t.pw.measured = 1 ∧
      t.pw.cBank = s.holdParam 6 2 * dt * 20 / fall ∧ t.pw.esr = min 255 ((h.v0 - h.v1) * 200 / s.holdParam 6 2) ∧ t.pw.testAgeH = 0 ∧
      t.pw.testDue = false ∧ t.pw.usable = min 0xFFFF (t.usableAt h.v0) ∧
      s.aliveTiles.all (fun k => (t.tile k).fs.measured == s.limitOf (t.usableAt h.v0) k) = true ∧
      t.pw.holdLimit = leastOr 0 (s.aliveTiles.map (s.limitOf (t.usableAt h.v0))))) ∧
  (∀ (s : State) (h : HoldTest) (dt fall : Nat), s.pw.test = some h → h.asked = none →
    (s.holdParam 8 2 ≤ fall ∨ 1000 * s.holdParam 10 2 ≤ dt) → s.holdParam 6 2 * dt * 20 / max 1 fall < 100000 * s.holdParam 12 2 →
    Completes (.holdupTestFall dt fall) s (fun t => t.pw.test = none ∧ t.pw.holdTestPin = false ∧ t.pw.holdChgInh = false ∧ t.pw.measured = 2 ∧
      t.pw.testDue = true ∧ t.pw.holdLimit = 0 ∧ s.aliveTiles.all (fun k => (t.tile k).fs.measured == 0) = true ∧ bitOf t.md.causes 6 = true ∧
      t.regBit Reg.PWR_ERR_STATUS 2 = true)) ∧
  (∀ (s : State) (sec : Nat), s.md.mode = .bringup → s.pw.chgWait = true → s.holdParam 14 1 ≤ sec →
    Completes (.holdChgWaitExpire sec) s (fun t => t.pw.chgWait = false ∧ t.pw.measured = 2 ∧ t.pw.holdLimit = 0 ∧ bitOf t.md.causes 6 = true ∧
      bitOf t.md.stepsDone 10 = true ∧ t.md.mode = .bringup ∧ t.regBit Reg.PWR_ERR_STATUS 2 = true ∧ Only (.pw :: .md :: .tiles :: logParts) s t)) ∧
  (∀ (s : State), s.md.operating = true → s.pw.measured = 1 → s.pw.test = none →
    Completes .measuredLimitRecompute s (fun t =>
      t.pw = { s.pw with usable := min 0xFFFF (s.usableAt s.pw.vb), reserve := t.pw.reserve,
                         holdLimit := leastOr 0 (s.aliveTiles.map (s.limitOf (s.usableAt s.pw.vb))) } ∧
        s.aliveTiles.all (fun k => (t.tile k).fs.measured == s.limitOf (s.usableAt s.pw.vb) k) = true ∧
        Only (.pw :: .md :: .tiles :: .cap :: .thm :: .wins :: logParts) s t))

/-- GET_MODE answers mode, causes, primary, failed and sealed tiles. SET_MODE SERVICE starts the drain that SERVICE_DRAIN_COMPLETE, once no
tracker holds a request, ends in Service; in Service it answers the mode, and SET_MODE OPERATE there goes back to the mode that the causes and
Sealed tiles call for. SET_MODE RESTART and POWER_OFF_REQUEST succeed and prepare Hold-up. SET_SHED_LEVELS succeeds, and the
levels hold from then on with their windows counted afresh. PRIMARY_FAILOVER makes tile 1 the primary, declares tile 0 failed, and every
running ring goes on. Completes: getMode, setMode, serviceDrainComplete, powerOffRequest, setShedLevels, primaryFailover. -/
def Obligations.ModeCommands : Prop :=
  (∀ (s : State) (pc : PortCmd), s.accepts pc 0x0002 false = true →
    Completes (.getMode pc) s (fun t =>
      t.resultOf pc = some (succeeded [(3, s.md.mode.code), (12, s.md.causes), (3, s.md.primary), (8, s.md.failed), (8, s.md.sealed)]) ∧
        Only [.porter] s t)) ∧
  (∀ (s : State) (pc : PortCmd), s.accepts pc 0x0003 true = true → s.md.operating = true → s.md.drain = none → s.md.mode ≠ .service →
    Completes (.setMode pc 1) s (fun t => t.md = { s.md with drain := some (pc.ring, pc.cid) } ∧ t.underWay pc = true ∧ Only [.porter, .md] s t)) ∧
  (∀ (s : State) (pc : PortCmd), s.accepts pc 0x0003 true = true → s.md.operating = true → s.md.drain = none → s.md.mode = .service →
    Completes (.setMode pc 1) s (fun t => t.resultOf pc = some (succeeded [(3, 7)]) ∧ Only [.porter] s t)) ∧
  (∀ (s : State) (pc : PortCmd), s.accepts pc 0x0003 true = true → s.md.operating = true → s.md.prep = none → s.pw.seq = .up →
    Completes (.setMode pc 2) s (fun t => t.resultOf pc = some (succeeded [(3, s.md.mode.code)]) ∧ t.prepared s 4 ∧
      Only [.porter, .md, .jobs, .cap, .outbox] s t)) ∧
  (∀ (s : State) (pc : PortCmd), s.accepts pc 0x0003 true = true → s.md.operating = true → s.md.mode = .service →
    s.md.serviceFail = false → s.keysLoaded = true → s.sec.withdrawn = false → s.sec.lcPending = none → (s.sec.lc = 1 ∨ s.sec.lc = 2 ∨ s.sec.lc = 3) →
    Completes (.setMode pc 0) s (fun t => t.resultOf pc = some (succeeded [(3, s.md.target.code)]) ∧ t.md = { s.md with mode := s.md.target, prev := 7 } ∧
      t.tiles = s.tiles ∧ t.ps = s.ps)) ∧
  (∀ (s : State) (r c us : Nat), s.md.drain = some (r, c) → s.md.inService3 = true → s.trackersEmpty = true →
    Completes (.serviceDrainComplete us) s (fun t => t.md.mode = .service ∧ t.md.prev = s.md.mode.code ∧ t.md.drain = none ∧
      s.present.all (fun k => (List.range 64).all (fun i => !t.sectorOn k i)) = true ∧ t.ps = s.ps ∧ t.pw = s.pw)) ∧
  (∀ (s : State) (pc : PortCmd) (g : Bool), s.accepts pc 0x0702 true = true → s.md.operating = true → s.pw.seq = .up → s.md.prep = none →
    Completes (.powerOffRequest pc g) s (fun t => t.resultOf pc = some (succeeded []) ∧ (t.md.prep.map (·.cause)) = some 1 ∧
      (t.md.prep.map (·.graceDone)) = some (g || s.fld Reg.MODE_CTL 15 8 == 0) ∧ Only [.porter, .md, .jobs, .cap, .outbox] s t)) ∧
  (∀ (s : State) (pc : PortCmd) (w1 w2 pf hy : Nat), s.accepts pc 0x0701 true = true → s.md.operating = true → s.pw.stage = 0 →
    s.pw.hold1 = false → s.pw.hold2 = false → w1 ≤ s.pw.vin →
    10 ≤ hy → hy ≤ 200 → w2 + hy ≤ w1 → pf + hy ≤ w2 → pf + hy < s.pw.vin →
    Completes (.setShedLevels pc w1 w2 pf hy false) s (fun t =>
      t.resultOf pc = some (succeeded []) ∧
        t.pw = { s.pw with levels := (BitVec.ofNat 32 (w1 * 65536 + w2), BitVec.ofNat 32 (pf * 65536 + hy)), above1 := 0, above2 := 0, aboveP := 0 } ∧
        Only [.porter, .pw] s t)) ∧
  (∀ (s : State) (cause : Nat) (ans : Bool), s.md.primary = 0 → s.alive 0 = true → s.alive 1 = true → s.md.operating = true →
    Completes (.primaryFailover cause ans) s (fun t => t.md.primary = 1 ∧ t.md.failover = true ∧ bitOf t.md.failed 0 = true ∧ bitOf t.md.failed 1 = false ∧
      bitOf t.md.causes 0 = true ∧ t.sec.next = s.sec.reserved ∧ t.thm.rearm = [] ∧ (List.range 64).all (fun r => (t.ring r).execs.isEmpty) = true))

/-- PLL_LOCK of a PLL whose source runs notes the PLL of its tile; with step 3 complete nothing else changes, and the last lock of a Bring-up
at step 2 releases the tile resets (steps 3 and 4), here with no stable crystal to trim and every PERST_N low. The first
PLL_LOCK_TIMEOUT of a PLL that is needed restarts it; the second fails its tile, FAIL_CAUSE 5. TILE_SELF_TEST_DONE without a failed tile completes
step 5, the channels train, the hold-up test waits for charge, and an image runs or ROM-only Service follows; the preferred image that passes the
checks runs (step 7). CHANNEL_TRAINING_DONE on an operating package, with dies and ranks that agree, puts the channel into service at its
temperature with every rank, and a step that failed fails the channel; in Bring-up, with a population that does not agree, the package is in
Service with FAIL_CAUSE 3. GDDR7_TRAINING_DONE makes the Front Store of its tile ready, and a density that does not agree ends in Service.
MAP_RESTORE_DONE after a clean stop, while another tile still restores, puts this tile's map in force as the medium holds it.
BRINGUP_COMPLETE with its conditions met completes step 13, with the elapsed time kept to 24 bits, SHUTDOWN_STATE committed and the rollback
floor raised where the image asks for it, and the mode is the one that the causes and Sealed tiles call for; without its conditions nothing
changes. SECTION_LOAD_CHECK passes a good section; a bad one, whose slot is marked bad, and BOOT_WATCHDOG_EXPIRE restart through Hold-up
under CAUSE 4. The invariant of ModeInvariant is a premise of
the clauses in which a commit that runs is completed. Completes: pllLock, pllLockTimeout, tileSelfTestDone, channelTrainingDone, gddr7TrainingDone, mapRestoreDone, bringupComplete,
sectionLoadCheck, bootWatchdogExpire. -/
def Obligations.BringupSteps : Prop :=
  (∀ (s : State) (tile pll : Nat), s.tilesClocked = true → tile < s.pop.tiles → pll < 7 → s.pllFed tile pll = true → bitOf s.md.stepsDone 3 = true →
    Completes (.pllLock tile pll) s (fun t => t = s.modClkT tile (fun k => { k with pllLocked := setBit k.pllLocked pll }))) ∧
  (∀ (s : State) (tile pll : Nat), s.booting 2 = true → bitOf s.md.stepsDone 3 = false → s.tilesClocked = true → s.alive tile = true → pll < 7 →
    s.pllFed tile pll = true → s.clk.xtal ≠ 1 → s.md.perstHigh = 0 → s.md.mrstHold = false →
    s.aliveTiles.all (fun k => Nat.land (if k = tile then setBit (s.tile k).clk.pllLocked pll else (s.tile k).clk.pllLocked) (s.pllsNeeded k) == s.pllsNeeded k) = true →
    Completes (.pllLock tile pll) s (fun t => t.md.resetsReleased = true ∧ bitOf t.md.stepsDone 3 = true ∧ bitOf t.md.stepsDone 4 = true ∧
      t.tiles = (s.modClkT tile (fun k => { k with pllLocked := setBit k.pllLocked pll })).tiles ∧ Only [.md, .tiles] s t)) ∧
  (∀ (s : State) (tile pll : Nat), s.booting 2 = true → bitOf s.md.stepsDone 3 = false → s.alive tile = true → pll < 7 → bitOf (s.pllsNeeded tile) pll = true →
    bitOf (s.tile tile).clk.pllLocked pll = false → bitOf (s.tile tile).clk.pllRetried pll = false →
    Completes (.pllLockTimeout tile pll) s (fun t => t = s.modClkT tile (fun k => { k with pllRetried := setBit k.pllRetried pll }))) ∧
  (∀ (s : State) (tile pll : Nat), s.booting 2 = true → bitOf s.md.stepsDone 3 = false → s.alive tile = true → s.alive 0 = true → 2 ≤ tile → pll < 7 →
    bitOf (s.pllsNeeded tile) pll = true → bitOf (s.tile tile).clk.pllLocked pll = false → bitOf (s.tile tile).clk.pllRetried pll = true →
    Completes (.pllLockTimeout tile pll) s (fun t => bitOf t.md.failed tile = true ∧ t.md.failCause = 5 ∧ bitOf t.md.causes 0 = true ∧
      t.md.primary = s.md.primary ∧ t.md.mode = .bringup)) ∧
  (∀ (s : State) (badWays : List (Nat × Nat)), s.modeInv = true → s.booting 3 = true → bitOf s.md.stepsDone 5 = false →
    Completes (.tileSelfTestDone 0 badWays) s (fun t => bitOf t.md.stepsDone 5 = true ∧ t.md.primary = (if s.alive 0 then 0 else 1) ∧ t.md.failed = s.md.failed ∧
      t.pw.chgWait = true ∧ t.pw.testDue = true ∧ s.aliveTiles.all (fun k => (List.range 8).all (fun c => (t.chan k c).st == 1)) = true ∧
      (t.sec.booted = true ∨ (t.sec.romOnly = true ∧ t.md.mode = .service)))) ∧
  (∀ (s : State), s.modeInv = true → s.booting 3 = true → bitOf s.md.stepsDone 5 = false → bitOf s.fwBoot 1 = false → bitOf s.fwBoot 4 = false → s.imageOk (s.fwBoot % 2) = true →
    Completes (.tileSelfTestDone 0 []) s (fun t => t.sec.booted = true ∧ t.sec.runSlot = s.fwBoot % 2 ∧ bitOf t.md.stepsDone 7 = true ∧
      t.md.mode = .bringup)) ∧
  (∀ (s : State) (tile ch : Nat) (ranks : List TrainRank) (temp : Int), s.alive tile = true → tile < 8 → ch < 8 → (s.chan tile ch).st = 1 →
    s.md.operating = true → s.ranksOk (2 ^ s.pop.ranks - 1) = true → s.diesOk ((List.range s.pop.ranks).map (fun r => ranks.getD r {})) = true →
    ranks.all (fun k => k.failed == 0) = true →
    Completes (.channelTrainingDone tile ch 0 (2 ^ s.pop.ranks - 1) ranks (some temp)) s (fun t => (t.chan tile ch).st = 2 ∧
      (t.chan tile ch).trainTemp = some temp ∧ (t.chan tile ch).ranks = 2 ^ s.pop.ranks - 1 ∧ t.md = s.md ∧ t.fuse = s.fuse ∧
      Only (.tiles :: .jobs :: .cap :: .free :: logParts) s t)) ∧
  (∀ (s : State) (tile ch step cs : Nat) (ranks : List TrainRank) (temp : Option Int), s.alive tile = true → tile < 8 → ch < 8 → (s.chan tile ch).st = 1 →
    s.md.operating = true → 1 ≤ step → step < 10 →
    Completes (.channelTrainingDone tile ch step cs ranks temp) s (fun t => (t.chan tile ch).st = 3 ∧ (t.chan tile ch).ranks = 0 ∧ t.fuse = s.fuse)) ∧
  (∀ (s : State) (tile ch step cs : Nat) (ranks : List TrainRank) (temp : Option Int), s.alive tile = true → (s.chan tile ch).st = 1 →
    s.booting 5 = true → (step = 0 ∨ 4 ≤ step) → (s.ranksOk cs && s.diesOk ((List.range s.pop.ranks).map (fun r => ranks.getD r {}))) = false →
    Completes (.channelTrainingDone tile ch step cs ranks temp) s (fun t => t.md.mode = .service ∧ t.md.prev = 2 ∧ t.md.serviceFail = true ∧ t.md.failCause = 3 ∧
      t.tiles = s.tiles ∧ Only (.md :: .thm :: logParts) s t)) ∧
  (∀ (s : State) (tile : Nat), s.booting 5 = true → bitOf s.md.stepsDone 9 = false → s.alive tile = true → tile < 8 → (s.tile tile).fs.ready = false →
    Completes (.gddr7TrainingDone tile false [s.pop.gbit, s.pop.gbit]) s (fun t => t.tiles = (s.modFs tile (fun f => { f with ready := true })).tiles ∧
      bitOf t.md.stepsDone 9 = s.aliveTiles.all (fun k => k == tile || (s.tile k).fs.ready) ∧ t.md.mode = .bringup ∧ Only [.tiles, .md] s t)) ∧
  (∀ (s : State) (tile g : Nat), s.booting 5 = true → bitOf s.md.stepsDone 9 = false → s.alive tile = true → (s.tile tile).fs.ready = false → g ≠ s.pop.gbit →
    Completes (.gddr7TrainingDone tile false [s.pop.gbit, g]) s (fun t => t.md.mode = .service ∧ t.md.serviceFail = true ∧ t.md.failCause = 3 ∧
      Only (.md :: .thm :: logParts) s t)) ∧
  (∀ (s : State) (tile other : Nat), s.booting 6 = true → s.booting 9 = true → s.alive tile = true → tile < 8 → (s.tile tile).xl.mapState = 0 →
    (s.tile tile).xl.formatted = true → (s.tile tile).xl.cleanStop = true → (s.tile tile).xl.stalePos = [] → s.alive other = true → other ≠ tile →
    (s.tile other).xl.mapState = 0 →
    Completes (.mapRestoreDone tile [] [] [] [] true) s (fun t => (t.tile tile).xl.mapState = 1 ∧
      (t.tile tile).xl.map = (s.tile tile).xl.durable.foldl (fun m e => aputD {} e.1 e.2.1 m) [] ∧ (t.tile other).xl = (s.tile other).xl ∧
      t.md.mode = s.md.mode ∧ t.md.stepsDone = s.md.stepsDone ∧ t.fuse = s.fuse ∧ t.ps = s.ps)) ∧
  (∀ (s : State) (elapsedMs : Nat), s.modeInv = true → s.bringupReady = true →
    Completes (.bringupComplete elapsedMs) s (fun t => bitOf t.md.stepsDone 13 = true ∧ t.md.elapsedMs = min 0xFFFFFF elapsedMs ∧ t.md.cleanCommitted = true ∧
      t.md.mode ≠ .bringup ∧ t.fuse = { s.fuse with svn := t.fuse.svn } ∧
      t.fuse.svn = (if bitOf (s.fwSlot s.sec.runSlot).img.flags 0 then max s.fuse.svn (s.fwSlot s.sec.runSlot).img.svn else s.fuse.svn))) ∧
  (∀ (s : State) (elapsedMs : Nat), s.modeInv = true → s.bringupReady = true → s.md.serviceFail = false → s.lcServes = true → s.regBit Reg.MODE_CTL 1 = false →
    s.keysLoaded = true →
    Completes (.bringupComplete elapsedMs) s (fun t => t.md.mode = s.md.target ∧ t.md.prev = 2)) ∧
  (∀ (s : State) (elapsedMs : Nat), s.bringupReady = false → Completes (.bringupComplete elapsedMs) s (fun t => t = s)) ∧
  (∀ (s : State), Completes (.sectionLoadCheck true) s (fun t => t = s)) ∧
  (∀ (s : State), s.modeInv = true → s.booting 9 = true → s.sec.booted = true → s.pastTr = true → s.pw.seq = .up →
    Completes (.sectionLoadCheck false) s (fun t => t.heldUp s 4 ∧ bitOf t.fwBoot (5 + s.sec.runSlot) = true)) ∧
  (∀ (s : State), s.booting 7 = true → bitOf s.md.stepsDone 13 = false → s.pastTr = true → s.pw.seq = .up →
    Completes .bootWatchdogExpire s (fun t => t.heldUp s 4))

/-- REGISTER_WRITE of 4 bytes with all byte enables. Where every check passes and the register is not one whose write is a command:
in a masked register each bit of 15:0 takes its data bit where its mask bit is 1 and it can be written, and keeps its value
elsewhere; in a register of type RW a bit that can be written takes its data bit; a W1C bit is cleared by a 1 and kept by a 0; a
read-only register keeps its value; nothing beside the registers and clock gates changes. A write of PWR_CTL changes LONG_PRESS for presses that
begin after it; one of THM_GPIO_CTL changes who owns the tach inputs. Checks that fail: a master that is not
privileged enough sets PRIV_FILTERED and loads REG_ERR_ADDR; a size or alignment that is not allowed, or a part of the byte
enables, sets ACCESS_ERR; no byte enable, or Hold-up, changes nothing but the model's own draw of free values; a gate that holds sets
CFG_IGNORED. Completes: registerWrite. -/
def Obligations.RegisterWrites : Prop :=
  (∀ (s : State) (acc : Access) (off data b : Nat) (d : RegDef), s.takesWrite acc off (BitVec.ofNat 32 data) = true → off % 4 = 0 →
    regDef? s.pop.tiles off = some d → d.acc = .rwm → commandRegs.contains d.key = false → b < 16 → d.selfClear.getLsbD b = false →
    Completes (.registerWrite acc off 4 15 data) s (fun t =>
      (t.getReg off).getLsbD b = (if data.testBit (16 + b) && d.wmask.getLsbD b then data.testBit b else (s.getReg off).getLsbD b) ∧
      Only [.reg, .tiles, .free] s t)) ∧
  (∀ (s : State) (acc : Access) (off data b : Nat) (d : RegDef), s.takesWrite acc off (BitVec.ofNat 32 data) = true → off % 4 = 0 →
    regDef? s.pop.tiles off = some d → d.acc = .rw → commandRegs.contains d.key = false → b < 32 → d.selfClear.getLsbD b = false →
    d.w1c.getLsbD b = false →
    Completes (.registerWrite acc off 4 15 data) s (fun t =>
      (t.getReg off).getLsbD b = (if d.wmask.getLsbD b then data.testBit b else (s.getReg off).getLsbD b) ∧ Only [.reg, .tiles, .free] s t)) ∧
  (∀ (s : State) (acc : Access) (off data b : Nat) (d : RegDef), s.takesWrite acc off (BitVec.ofNat 32 data) = true → off % 4 = 0 →
    regDef? s.pop.tiles off = some d → (d.acc = .w1c ∨ d.acc = .mix) → commandRegs.contains d.key = false → b < 32 → d.w1c.getLsbD b = true →
    d.wmask.getLsbD b = false → d.selfClear.getLsbD b = false →
    Completes (.registerWrite acc off 4 15 data) s (fun t => (t.getReg off).getLsbD b = ((s.getReg off).getLsbD b && !data.testBit b) ∧
      Only [.reg, .tiles, .free] s t)) ∧
  (∀ (s : State) (acc : Access) (off data : Nat) (d : RegDef), s.takesWrite acc off (BitVec.ofNat 32 data) = true → off % 4 = 0 →
    regDef? s.pop.tiles off = some d → d.acc = .ro → commandRegs.contains d.key = false →
    Completes (.registerWrite acc off 4 15 data) s (fun t => t.getReg off = s.getReg off ∧ Only [.reg, .tiles, .free] s t)) ∧
  (∀ (s : State) (acc : Access) (data : Nat), s.takesWrite acc Reg.PWR_CTL (BitVec.ofNat 32 data) = true → data.testBit 24 = true → data.testBit 25 = true →
    data.testBit 26 = true → data.testBit 27 = true →
    Completes (.registerWrite acc Reg.PWR_CTL 4 15 data) s (fun t => t.fld Reg.PWR_CTL 11 8 = data / 256 % 16 ∧
      t.pw = { s.pw with longOld := some (s.fld Reg.PWR_CTL 11 8) } ∧ Only [.reg, .pw, .free] s t)) ∧
  (∀ (s : State) (acc : Access) (data b : Nat), s.takesWrite acc Reg.THM_GPIO_CTL (BitVec.ofNat 32 data) = true → b < 4 →
    Completes (.registerWrite acc Reg.THM_GPIO_CTL 4 15 data) s (fun t =>
      (t.getReg Reg.THM_GPIO_CTL).getLsbD b = (if data.testBit (16 + b) then data.testBit b else (s.getReg Reg.THM_GPIO_CTL).getLsbD b) ∧
      Only [.reg, .thm, .free] s t)) ∧
  (∀ (s : State) (acc : Access) (off data : Nat) (d : RegDef), s.barAnswers acc off = true → off % 4 = 0 → regDef? s.pop.tiles off = some d →
    d.key ≠ Reg.FABRIC_WINDOW → d.key ≠ Reg.CARAVAN_WINDOW → s.accessOk acc d off (some (BitVec.ofNat 32 data)) = false →
    Completes (.registerWrite acc off 4 15 data) s (fun t => t.regBit Reg.REG_ERR_STATUS 4 = true ∧
      t.getReg Reg.REG_ERR_ADDR = regWord [(31, 29, acc.head), (28, 27, 3), (19, 0, off)] ∧ Only (.free :: logParts) s t)) ∧
  (∀ (s : State) (acc : Access) (off size be data : Nat) (d : RegDef), s.barAnswers acc off = true → (size ≠ 4 ∨ off % 4 ≠ 0) → (size ≠ 8 ∨ off % 8 ≠ 0) →
    regDef? s.pop.tiles (off - off % 4) = some d → d.key ≠ Reg.FABRIC_WINDOW → d.key ≠ Reg.CARAVAN_WINDOW →
    s.accessOk acc d (off - off % 4) (some 0) = true →
    Completes (.registerWrite acc off size be data) s (fun t => t.regBit Reg.REG_ERR_STATUS 0 = true ∧ Only (.free :: logParts) s t)) ∧
  (∀ (s : State) (acc : Access) (off be data : Nat) (d : RegDef), s.barAnswers acc off = true → off % 4 = 0 → regDef? s.pop.tiles off = some d →
    d.key ≠ Reg.FABRIC_WINDOW → d.key ≠ Reg.CARAVAN_WINDOW → s.accessOk acc d off (some (BitVec.ofNat 32 data)) = true →
    be % 16 ≠ 0 → be % 16 ≠ 15 →
    Completes (.registerWrite acc off 4 be data) s (fun t => t.regBit Reg.REG_ERR_STATUS 0 = true ∧ Only (.free :: logParts) s t)) ∧
  (∀ (s : State) (acc : Access) (off be data : Nat), off % 4 = 0 → be % 16 = 0 →
    Completes (.registerWrite acc off 4 be data) s (fun t => t = { s with free := s.free + 1 })) ∧
  (∀ (s : State) (acc : Access) (off data : Nat) (d : RegDef), off % 4 = 0 → s.md.mode = .holdup → regDef? s.pop.tiles off = some d →
    s.accessOk acc d off (some (BitVec.ofNat 32 data)) = true →
    Completes (.registerWrite acc off 4 15 data) s (fun t => t = { s with free := s.free + 1 })) ∧
  (∀ (s : State) (acc : Access) (off data : Nat) (d : RegDef), s.barAnswers acc off = true → off % 4 = 0 → s.md.mode ≠ .holdup →
    s.inTileReset off = false → regDef? s.pop.tiles off = some d → d.key ≠ Reg.FABRIC_WINDOW → d.key ≠ Reg.CARAVAN_WINDOW →
    s.accessOk acc d off (some (BitVec.ofNat 32 data)) = true → s.gateHolds d off (BitVec.ofNat 32 data) = true →
    Completes (.registerWrite acc off 4 15 data) s (fun t => t.regBit Reg.CFG_STATUS 1 = true ∧ Only [.reg, .free] s t))

/-- PAIRED_LO_READ of one word: the completion carries the register as it reads; a _LO register captures its _HI half, and the next
read of that half returns the captured value once. A filtered read returns 0. BELFRY_TURN_LO_READ captures TURN_HI and the local
angle; SEC_CHALLENGE_READ draws a new challenge; GB_STATUS_READ clears DROPPED. REGISTER_ACCESS_TIMEOUT sets STALL_TIMEOUT, and a
read completes with ones. CONFIG_PARITY_SCAN: no failed copy changes nothing; one sets PARITY_FIXED and leaves the value; two give FS_CTL the
value of the end of Bring-up where it is protected. Completes: pairedLoRead, belfryTurnLoRead, secChallengeRead, gbStatusRead,
registerAccessTimeout, configParityScan. -/
def Obligations.RegisterReads : Prop :=
  (∀ (s : State) (acc : Access) (off : Nat), s.takesRead acc off = true →
    [Reg.SEC_CHALLENGE0, Reg.PERF_CNT_LO 0, Reg.BELFRY_TURN_LO, Reg.GB_STATUS, Reg.THM_GPIO_CTL].contains (((regDef? s.pop.tiles off).map (·.key)).getD off) = false →
    loPair (((regDef? s.pop.tiles off).map (·.key)).getD off) = false → (off < 0xF000 ∨ 0x10000 ≤ off) → gatedBlock off = none →
    Completes (.pairedLoRead acc off 4 0) s (fun t => t = { s with outbox := s.outbox ++ [.regData acc.head off (s.regView off)] })) ∧
  (∀ (s : State) (acc : Access) (off : Nat) (d : RegDef), s.takesRead acc off = true → regDef? s.pop.tiles off = some d → (off < 0xF000 ∨ 0x10000 ≤ off) →
    (d.key = Reg.XL_JNL_POS_LO 0 ∨ d.key = Reg.ATTEST_NEXT_LO ∨ d.key = Reg.ATTEST_RESV_LO ∨ loHalf d.key = true) → gatedBlock off = none →
    Completes (.pairedLoRead acc off 4 0) s (fun t => aget (off + 4) t.reg.capHi = some (s.regView (off + 4)) ∧
      Sends s t [.regData acc.head off (s.regView off)] ∧ Only [.reg, .outbox] s t)) ∧
  (∀ (s : State) (acc : Access) (off : Nat) (d : RegDef) (v : W32), s.barAnswers acc off = true → off % 4 = 0 → (off < 0xF000 ∨ 0x10000 ≤ off) →
    regDef? s.pop.tiles off = some d → s.accessOk acc d off none = true → d.key ≠ Reg.SEC_CHALLENGE0 → d.key ≠ Reg.PERF_CNT_LO 0 →
    s.inTileReset off = false → gatedBlock off = none → aget off s.reg.capHi = some v →
    Completes (.pairedLoRead acc off 4 0) s (fun t => Sends s t [.regData acc.head off v] ∧
      t.reg.capHi = adel off s.reg.capHi ∧ t.reg.vals = s.reg.vals ∧ Only [.reg, .outbox] s t)) ∧
  (∀ (s : State) (acc : Access) (off : Nat) (d : RegDef), s.barAnswers acc off = true → off % 4 = 0 → regDef? s.pop.tiles off = some d →
    s.accessOk acc d off none = false →
    Completes (.pairedLoRead acc off 4 0) s (fun t => t.outbox.getLast? = some (.regData acc.head off 0) ∧
      t.regBit Reg.REG_ERR_STATUS 4 = true ∧ t.reg.capHi = s.reg.capHi ∧ Only logParts s t)) ∧
  (∀ (s : State) (acc : Access), s.takesRead acc Reg.BELFRY_TURN_LO = true →
    Completes (.belfryTurnLoRead acc) s (fun t => Sends s t [.regData acc.head Reg.BELFRY_TURN_LO (loWord s.bel.turn)] ∧
      t.bel = { s.bel with turnHiSnap := s.bel.turn / 2 ^ 32, angleSnap := s.localAngle } ∧
      Only [.bel, .outbox] s t)) ∧
  (∀ (s : State) (acc : Access), s.takesRead acc Reg.SEC_CHALLENGE0 = true →
    Completes (.secChallengeRead acc) s (fun t => t.sec = { s.sec with challenge := s.randNow.setWidth 256, challengeOk := true } ∧
      t.draws = s.draws + 1 ∧ Sends s t [.regData acc.head Reg.SEC_CHALLENGE0 (BitVec.ofNat 32 t.sec.challenge.toNat)] ∧
      Only [.sec, .draws, .outbox] s t)) ∧
  (∀ (s : State) (acc : Access), s.takesRead acc Reg.GB_STATUS = true →
    Completes (.gbStatusRead acc) s (fun t => t.gb = { s.gb with dropped := 0 } ∧
      Sends s t [.regData acc.head Reg.GB_STATUS (s.regView Reg.GB_STATUS)] ∧ Only [.gb, .outbox] s t)) ∧
  (∀ (s : State) (acc : Access) (off cause : Nat) (read : Bool), s.barAnswers acc off = true →
    Completes (.registerAccessTimeout acc off read cause) s (fun t => t.regBit Reg.REG_ERR_STATUS 1 = true ∧
      t.getReg Reg.REG_ERR_ADDR = regWord [(31, 29, acc.head), (28, 27, 1), (19, 0, off)] ∧
      (read = true → t.outbox.getLast? = some (.regData acc.head off 0xFFFFFFFF#32)) ∧ Only logParts s t)) ∧
  (∀ (s : State) (off : Nat), Completes (.configParityScan off 0) s (fun t => t = s)) ∧
  (∀ (s : State) (off : Nat) (d : RegDef), s.md.resetsReleased = true → regDef? s.pop.tiles off = some d → d.prot ≠ 0 → off ≠ Reg.REG_ERR_STATUS →
    off ≠ Reg.REG_ERR_ADDR → off ≠ Reg.GB_ERR_STATUS → (off < 0x1000 ∨ 0x3000 ≤ off) →
    Completes (.configParityScan off 1) s (fun t => t.regBit Reg.REG_ERR_STATUS 2 = true ∧ t.getReg off = s.getReg off ∧
      t.getReg Reg.REG_ERR_ADDR = regWord [(28, 27, 2), (19, 0, off)] ∧ Only logParts s t)) ∧
  (∀ (s : State) (d : RegDef), s.md.resetsReleased = true → regDef? s.pop.tiles Reg.FS_CTL = some d →
    Completes (.configParityScan Reg.FS_CTL 2) s (fun t => t.getReg Reg.FS_CTL = (s.getReg Reg.FS_CTL &&& ~~~d.prot) ||| (s.snapReg Reg.FS_CTL &&& d.prot) ∧
      t.regBit Reg.REG_ERR_STATUS 3 = true ∧ t.getReg Reg.REG_ERR_ADDR = regWord [(28, 27, 2), (19, 0, Reg.FS_CTL)] ∧ Only (.thm :: logParts) s t))

/-- Where the write passes every check: RING_ENABLE makes a DISABLED ring RUNNING for its head with its positions at 0;
RING_DISABLE makes a RUNNING ring DISABLING; the doorbells take their values, and one at or above the queue's size brings the ring
to ERROR. PWR_FAULT_CLEAR clears FAULT. RETRAIN starts training. LAT_CLR clears both latency registers. TRIM_START starts a trim.
CLK_RETURN brings a crystal that is stable again back. CLK_GATE_REQUEST lets an open gate wait for its idle acknowledgement.
CLK_TILE_RESET of a failed tile in Degraded starts its reset at step 2, and with a wrong key is refused. GB_CURSOR_WRITE starts the
load of the window. PERF_COUNTER_CLR zeroes its counter. PERF_WIN_CTL_WRITE closes an open window early. Completes: ringEnable, ringDisable,
dbSqTail, dbCqHead, pwrFaultClear, retrain, latClr, trimStart, clkReturn, clkGateRequest, clkTileReset, gbCursorWrite, perfCounterClr,
perfWinCtlWrite. -/
def Obligations.RegisterCommands : Prop :=
  (∀ (s : State) (acc : Access) (ring : Nat), ring < 64 → s.takesWrite acc (Reg.RING_CTL ring) 0x10001#32 = true → (s.ring ring).state = .disabled →
    Completes (.ringEnable acc ring) s (fun t => (t.ring ring).state = .running ∧ (t.ring ring).head = acc.head ∧ (t.ring ring).sqHead = 0 ∧
      (t.ring ring).cqTail = 0 ∧ (t.ring ring).sqTail = 0 ∧ (t.ring ring).cqHead = 0 ∧ (t.ring ring).phase = true ∧
      t.regBit (Reg.RING_CTL ring) 0 = true ∧ Only [.porter, .reg, .tiles] s t)) ∧
  (∀ (s : State) (acc : Access) (ring : Nat), ring < 64 → s.takesWrite acc (Reg.RING_CTL ring) 0x10000#32 = true → (s.ring ring).state = .running →
    Completes (.ringDisable acc ring) s (fun t => (t.ring ring).state = .disabling ∧ (t.ring ring).fetched = [] ∧
      Only [.porter, .reg, .outbox] s t)) ∧
  (∀ (s : State) (acc : Access) (ring value : Nat), ring < 64 → s.takesWrite acc (Reg.DB_SQ_TAIL ring) (BitVec.ofNat 32 value) = true →
    (s.ring ring).state = .running → s.isEvtRing ring = false → value < s.sqSize ring →
    Completes (.dbSqTail acc ring value) s (fun t => (t.ring ring).sqTail = value ∧ t.reg = s.reg ∧ Only [.porter, .tiles, .outbox] s t)) ∧
  (∀ (s : State) (acc : Access) (ring value : Nat), ring < 64 → s.takesWrite acc (Reg.DB_SQ_TAIL ring) (BitVec.ofNat 32 value) = true →
    (s.ring ring).state = .running → s.isEvtRing ring = false → s.sqSize ring ≤ value → value < 65536 →
    Completes (.dbSqTail acc ring value) s (fun t => (t.ring ring).state = .error ∧ Only logParts s t)) ∧
  (∀ (s : State) (acc : Access) (ring value : Nat), ring < 64 → s.takesWrite acc (Reg.DB_CQ_HEAD ring) (BitVec.ofNat 32 value) = true →
    (s.ring ring).state = .running → value < s.cqSize ring →
    (value + s.cqSize ring - (s.ring ring).cqHead) % s.cqSize ring ≤ ((s.ring ring).cqTail + s.cqSize ring - (s.ring ring).cqHead) % s.cqSize ring →
    Completes (.dbCqHead acc ring value) s (fun t => (t.ring ring).cqHead = value ∧ t.reg = s.reg ∧ Only [.porter, .tiles, .outbox] s t)) ∧
  (∀ (s : State) (acc : Access), s.takesWrite acc Reg.PWR_FAULT 1#32 = true → s.pw.fault = true → s.md.mode ≠ .standby →
    Completes (.pwrFaultClear acc) s (fun t => t.pw = { s.pw with fault := false } ∧ Only (.pw :: logParts) s t)) ∧
  (∀ (s : State) (acc : Access) (tile : Nat), tile < 8 → s.takesWrite acc (Reg.HEAD_LINK_CTL tile) 0x1000100#32 = true → s.mayTrain tile = true →
    Completes (.retrain acc tile) s (fun t => (t.head tile).training = true ∧ Only [.tiles, .reg] s t)) ∧
  (∀ (s : State) (acc : Access) (tile : Nat), tile < 8 → s.takesWrite acc (Reg.TXN_CTL tile) 0x10001#32 = true →
    Completes (.latClr acc tile) s (fun t => t.getReg (Reg.TXN_LAT_MAX tile) = 0 ∧ t.getReg (Reg.TXN_LAT_OVER tile) = 0 ∧ Only [.reg] s t)) ∧
  (∀ (s : State) (acc : Access) (data : W32), s.takesWrite acc Reg.BELFRY_TRIM_CTL (data ||| 0xC0000000#32) = true → fieldOf data 15 14 = 1 →
    Completes (.trimStart acc data) s (fun t => t.bel.trimBusy = true ∧ t.bel.trimDone = false ∧ t.bel.trimStep = some 4 ∧ Only [.bel, .reg] s t)) ∧
  (∀ (s : State) (acc : Access), s.takesWrite acc Reg.CLK_CTL 0x80008#32 = true → s.clk.xtal = 2 → s.clk.xtalBack = true →
    Completes (.clkReturn acc) s (fun t => t.clk.xtal = 1 ∧ t.clk.xtalBack = false ∧
      Only (.bel :: .clk :: .tiles :: .free :: .md :: .cap :: .thm :: logParts) s t ∧ (bitOf s.md.causes 11 = false → Only (.bel :: .clk :: .tiles :: .free :: logParts) s t))) ∧
  (∀ (s : State) (acc : Access) (tile b : Nat) (data : W32), tile < 8 → b < 5 → s.takesWrite acc (Reg.CLK_GATE_CTL tile) data = true →
    data.getLsbD b = true → data.getLsbD (16 + b) = true → bitOf (s.tile tile).clk.gated b = false →
    Completes (.clkGateRequest acc tile data) s (fun t => bitOf (t.tile tile).clk.gateWait b = true ∧ bitOf (t.tile tile).clk.gated b = false ∧
      Only [.tiles, .reg] s t)) ∧
  (∀ (s : State) (acc : Access) (tile : Nat), tile < 8 → s.takesWrite acc Reg.CLK_TILE_RESET (BitVec.ofNat 32 (0x7E5E * 65536 + tile)) = true →
    tile < s.pop.tiles → (s.tile tile).clk.resetStep = none → s.md.resetsReleased = true → s.md.mode = .degraded → bitOf s.md.failed tile = true →
    Completes (.clkTileReset acc 0x7E5E tile) s (fun t => (t.tile tile).clk.resetStep = some 2 ∧ Only [.tiles, .reg] s t)) ∧
  (∀ (s : State) (acc : Access) (key tile : Nat), tile < 8 → key < 65536 → key ≠ 0x7E5E →
    s.takesWrite acc Reg.CLK_TILE_RESET (BitVec.ofNat 32 (key * 65536 + tile)) = true →
    Completes (.clkTileReset acc key tile) s (fun t => t.regBit Reg.CLK_ERR_STATUS 4 = true ∧ Only [.reg] s t)) ∧
  (∀ (s : State) (acc : Access) (cursor : W32), s.takesWrite acc Reg.GB_CURSOR cursor = true →
    Completes (.gbCursorWrite acc cursor) s (fun t => t.gb = { s.gb with winLoad := some cursor.toNat, winReady := false, window := [] } ∧
      Only [.gb, .reg] s t)) ∧
  (∀ (s : State) (acc : Access) (tile counter : Nat) (data : W32), tile < s.pop.tiles → tile < 8 → counter < 56 →
    s.takesWrite acc (selReg tile counter) (data ||| 0x04000000#32) = true →
    Completes (.perfCounterClr acc tile counter data) s (fun t => t.cntVal tile counter = 0 ∧ Only [.tiles, .reg, .free] s t)) ∧
  (∀ (s : State) (acc : Access) (window us : Nat) (data : W32), window < 16 → s.takesWrite acc (winCtl window) data = true →
    rwmMask data &&& 0xC3FF ≠ 0 → (vget window {} s.wins).openHeads &&& 0xFF ≠ 0 →
    Completes (.perfWinCtlWrite acc window us data) s (fun t => (vget window {} t.wins).short = true ∧
      (vget window {} t.wins).duration = min 0xFFFFF us ∧ (vget window {} t.wins).seq = ((vget window {} s.wins).seq + 1) % 256 ∧
      Only [.wins, .reg] s t))

/-- LINK_TRAINING_DONE on a head that may train and is no bonded pair: its link is up at the lower of the trained and the allowed
speed and width, no longer trains, and carries CXL.mem from 8 GT/s on; a bonded pair takes the width of both and the inverted lanes of each
half; only the heads and what events touch changes. PERST_N_RELEASE marks PERST_N high and starts training where the link may train.
HEAD_RESET takes the link of a head down with its requests and its rings, and gives every decoder of its LDs that was not locked
its reset value; CXL_RESET drops the requests and keeps the link; neither changes a tile beside the head's own and its pair's.
FUNCTION_LEVEL_RESET gives CXL.io state its reset values. CONFIGURATION_REQUEST outside a selective stream is answered, with Retry Status in
Bring-up before step 8, and after it with what the head reports; a write of Device Control 2 sets the completion timeout. Completes:
linkTrainingDone, perstNRelease, headReset, cxlReset, functionLevelReset, configurationRequest. -/
def Obligations.HeadLinks : Prop :=
  (∀ (s : State) (head speed width ldCount polarity recoveries replays : Nat) (flit cxl mldPartner reversed upperFail : Bool), head < 8 → s.mayTrain head = true →
    s.bondLower head = false →
    Completes (.linkTrainingDone head speed width flit cxl mldPartner ldCount reversed polarity upperFail recoveries replays) s (fun t =>
      (t.head head).up = true ∧ (t.head head).training = false ∧ (t.head head).speed = min speed (maxSpeed (s.trainedCtl head)) ∧
      (t.head head).width = min width (maxWidth (s.trainedCtl head) false) ∧ (t.head head).bonded = false ∧ (t.head head).reversed = reversed ∧
      (t.head head).cxl = (cxl && decide (2 ≤ min speed (maxSpeed (s.trainedCtl head)))) ∧ (t.head head).polarity = polarity % 256 ∧
      Only (.tiles :: logParts) s t)) ∧
  (∀ (s : State) (head speed width ldCount polarity recoveries replays : Nat) (flit cxl mldPartner reversed : Bool), head < 8 → s.mayTrain head = true →
    s.bondLower head = true → s.alive (head + 1) = true →
    Completes (.linkTrainingDone head speed width flit cxl mldPartner ldCount reversed polarity false recoveries replays) s (fun t =>
      (t.head head).up = true ∧ (t.head head).bonded = true ∧ (t.head head).width = min width (maxWidth (s.trainedCtl head) true) ∧
      (t.head head).polarity = polarity % 256 ∧ (t.head (head + 1)).polarity = polarity / 256 % 256 ∧ Only (.tiles :: logParts) s t)) ∧
  (∀ (s : State) (head : Nat), head < 8 → s.md.mode = .standby →
    Completes (.perstNRelease head) s (fun t => t = { s with md := { s.md with perstHigh := setBit (s.md.perstHigh % 256) head } })) ∧
  (∀ (s : State) (head : Nat), head < 8 → s.md.mode ≠ .off → s.md.mode ≠ .standby → s.md.mode ≠ .holdup → s.alive head = true →
    s.md.resetsReleased = true → (s.head head).upper = false → (s.head head).up = false → bitOf s.clk.refFail head = false →
    Completes (.perstNRelease head) s (fun t => (t.head head).training = true ∧ bitOf t.md.perstHigh head = true ∧ Only [.md, .tiles] s t)) ∧
  (∀ (s : State) (head kind : Nat), head < 8 → (s.head head).up = true → (s.head head).upper = false →
    Completes (.headReset head kind) s (fun t => (t.head head).up = false ∧ (t.tile head).txn.tracker = [] ∧ (t.tile head).txn.ingress = [] ∧
      (t.tile head).txn.outQ = [] ∧ t.md.perstHigh = (if kind = 0 then clearBit (s.md.perstHigh % 256) head else s.md.perstHigh) ∧
      t.regBit (Reg.HEAD_ERR_STATUS head) 1 = true ∧
      (List.range 64).all (fun r => (t.ring r).state == .disabled || (t.ring r).head != head) = true ∧
      t.cap.lds.all (fun e => e.1 / 16 != head || e.2.hdm.toList.all (fun x => !x.locked)) = true ∧
      (List.range 8).all (fun k => k == head || k == head + 1 || decide (t.tile k = s.tile k)) = true ∧
      Only (.md :: .tiles :: .cap :: .wins :: .free :: logParts) s t)) ∧
  (∀ (s : State) (head : Nat), head < 8 → s.alive head = true → (s.head head).up = true →
    Completes (.cxlReset head) s (fun t => (t.head head).up = true ∧ (t.head head).speed = (s.head head).speed ∧ (t.head head).width = (s.head head).width ∧
      (t.tile head).txn.tracker = [] ∧ (t.tile head).txn.ingress = [] ∧
      (List.range 64).all (fun r => (t.ring r).state == .disabled || (t.ring r).head != head) = true ∧
      (List.range 8).all (fun k => k == head || k == head + 1 || decide (t.tile k = s.tile k)) = true ∧ Only (.tiles :: .cap :: logParts) s t)) ∧
  (∀ (s : State) (head : Nat), head < 8 → s.alive head = true → (s.head head).up = true →
    Completes (.functionLevelReset head) s (fun t => (t.head head).busMaster = true ∧ (t.head head).ctoUs = 50000 ∧
      (t.tile head).txn = (s.tile head).txn ∧ Only [.tiles] s t)) ∧
  (∀ (s : State) (head : Nat) (io : Option (Nat × Bool)) (cto : Option CtoRange), s.ioPasses head io = true → s.alive head = true → (s.head head).up = true → s.md.mode = .bringup → bitOf s.md.stepsDone 8 = false →
    Completes (.configurationRequest head io cto) s (fun t => t = s.emit (.cfgResponse head true []))) ∧
  (∀ (s : State) (head : Nat) (io : Option (Nat × Bool)), s.ioPasses head io = true → s.alive head = true → (s.head head).up = true → (s.md.mode ≠ .bringup ∨ bitOf s.md.stepsDone 8 = true) →
    Completes (.configurationRequest head io none) s (fun t => Sends s t [.cfgResponse head false (s.cfgView head)] ∧ Only [.outbox, .free] s t)) ∧
  (∀ (s : State) (head : Nat) (io : Option (Nat × Bool)) (r : CtoRange), s.ioPasses head io = true → head < 8 → s.alive head = true → (s.head head).up = true → (s.md.mode ≠ .bringup ∨ bitOf s.md.stepsDone 8 = true) →
    Completes (.configurationRequest head io (some r)) s (fun t => (t.head head).ctoUs = ctoLimit r ∧ Only [.tiles, .outbox, .free] s t))

/-- GPF_PHASE1 is acknowledged at once. GPF_PHASE2 is acknowledged at once when no write stands before it, and else notes the writes
it waits for. GPF_PHASE2_ACK acknowledges once none is left. HDM_DECODER_COMMIT commits a decoder whose encodings, alignment and
ranges are right, with its base and size, and locks it where asked; one whose size is not aligned reads Error Not Committed; a
locked one keeps its content. Nothing else changes. Completes: gpfPhase1, gpfPhase2, gpfPhase2Ack, hdmDecoderCommit. -/
def Obligations.FlushAndDecoders : Prop :=
  (∀ (s : State) (head : Nat), s.memLink head = true → Completes (.gpfPhase1 head) s (fun t => t = s.emit (.gpfAck head 1 false))) ∧
  (∀ (s : State) (head : Nat), s.memLink head = true → (s.tile head).txn.tracker = [] → (s.tile head).txn.ingress = [] → (s.tile head).txn.outQ = [] →
    Completes (.gpfPhase2 head) s (fun t => t = s.emit (.gpfAck head 2 false))) ∧
  (∀ (s : State) (head : Nat), head < 8 → s.memLink head = true → (s.tile head).txn.tracker.any (fun r => r.kind == .wr) = true →
    Completes (.gpfPhase2 head) s (fun t => (t.head head).gpf = some ((((s.tile head).txn.tracker ++ (s.tile head).txn.ingress).filter
      (fun r => r.kind == .wr || r.kind == .ptl)).map (·.id) ++ ((s.tile head).txn.outQ.filter (fun w => w.1.kind == .wr || w.1.kind == .ptl)).map (·.1.id)) ∧
      t.outbox = s.outbox ∧ Only [.tiles] s t)) ∧
  (∀ (s : State) (head : Nat), head < 8 → s.memLink head = true → (s.head head).gpf = some [] →
    Completes (.gpfPhase2Ack head) s (fun t => (t.head head).gpf = none ∧ Sends s t [.gpfAck head 2 false] ∧ Only [.tiles, .outbox] s t)) ∧
  (∀ (s : State) (head ld idx iw ig base size skip target : Nat) (lock : Bool), s.alive head = true → (s.head head).up = true →
    s.presents head ld = true → idx < (if (s.head head).mld then 1 else 8) → (vget idx {} (s.ldev (s.ldOf head ld)).hdm).locked = false →
    hdmEncOk iw ig = true → size % (2 ^ 28 * 2 ^ iw) = 0 → base % 2 ^ 28 = 0 →
    hdmCommitOk (s.ldev (s.ldOf head ld)).hdm.toList idx
      { base := base / 2 ^ 28, size := size / 2 ^ 28, ways := iw, gran := ig + 8, skip := skip / 2 ^ 28, target := target } (s.ldTop (s.ldOf head ld)) = true →
    Completes (.hdmDecoderCommit head ld idx iw ig base size skip target lock) s (fun t =>
      (vget idx {} (t.ldev (s.ldOf head ld)).hdm).committed = true ∧ (vget idx {} (t.ldev (s.ldOf head ld)).hdm).base = base / 2 ^ 28 ∧
      (vget idx {} (t.ldev (s.ldOf head ld)).hdm).size = size / 2 ^ 28 ∧ (vget idx {} (t.ldev (s.ldOf head ld)).hdm).locked = lock ∧ Only [.cap] s t)) ∧
  (∀ (s : State) (head ld idx iw ig base size skip target : Nat) (lock : Bool), s.alive head = true → (s.head head).up = true →
    s.presents head ld = true → idx < (if (s.head head).mld then 1 else 8) → (vget idx {} (s.ldev (s.ldOf head ld)).hdm).locked = false →
    size % (2 ^ 28 * 2 ^ iw) ≠ 0 →
    Completes (.hdmDecoderCommit head ld idx iw ig base size skip target lock) s (fun t =>
      (vget idx {} (t.ldev (s.ldOf head ld)).hdm).committed = false ∧ (vget idx {} (t.ldev (s.ldOf head ld)).hdm).error = true ∧ Only [.cap] s t)) ∧
  (∀ (s : State) (head ld idx iw ig base size skip target : Nat) (lock : Bool), (vget idx {} (s.ldev (s.ldOf head ld)).hdm).locked = true →
    Completes (.hdmDecoderCommit head ld idx iw ig base size skip target lock) s (fun t => t = s))

/-- CLOCK_SOURCE_STABLE, with the edges of ten windows within 2 %, of a crystal that has not failed gives it AON of tiles 0 and 1; of a reference
clock it is noted, and one that had failed waits for RETURN while AUTO_RETURN is 0; a failed crystal returns while AUTO_RETURN is 1.
XTAL_STABLE_TIMEOUT counts the crystal as failed. CLOCK_SOURCE_FAIL, where the monitor's count is that of a failure, of the crystal: each
running tile coasts, or with the policy SWITCH moves its domains to their backup; of a reference clock before the tiles run it is noted.
CLOCK_SWITCH_FORCE of a domain that awaits its edge sets FORCED_SWITCH and ends the wait. PHY_RETRAIN_DONE ends a retraining, with its PLL
locked again. Completes: clockSourceStable, xtalStableTimeout, clockSourceFail, clockSwitchForce, phyRetrainDone. -/
def Obligations.ClockSources : Prop :=
  (∀ (s : State) (w : List Nat), s.md.mode ≠ .off → s.clk.xtal ≠ 2 → sourceStable 0 w = true →
    Completes (.clockSourceStable 0 w) s (fun t => t.clk = { s.clk with xtal := 1, xtalWait := false } ∧ bitOf (t.tile 0).clk.onBackup 0 = false ∧
      bitOf (t.tile 1).clk.onBackup 0 = false ∧ (List.range 8).all (fun k => k < 2 || decide (t.tile k = s.tile k)) = true ∧ Only [.clk, .tiles] s t)) ∧
  (∀ (s : State) (h : Nat) (w : List Nat), s.md.mode ≠ .off → h < s.pop.tiles → bitOf s.clk.refFail h = false → sourceStable (1 + h) w = true →
    Completes (.clockSourceStable (1 + h) w) s (fun t => t = { s with clk := { s.clk with refStable := setBit s.clk.refStable h } })) ∧
  (∀ (s : State) (h : Nat) (w : List Nat), s.md.mode ≠ .off → h < s.pop.tiles → bitOf s.clk.refFail h = true → s.regBit Reg.CLK_CTL 2 = false →
    sourceStable (1 + h) w = true →
    Completes (.clockSourceStable (1 + h) w) s (fun t =>
      t = { s with clk := { s.clk with refStable := setBit s.clk.refStable h, refBack := setBit s.clk.refBack h } })) ∧
  (∀ (s : State) (w : List Nat), s.md.mode ≠ .off → s.clk.xtal = 2 → s.regBit Reg.CLK_CTL 2 = true → sourceStable 0 w = true →
    Completes (.clockSourceStable 0 w) s (fun t => t.clk.xtal = 1 ∧ t.clk.xtalBack = false ∧
      s.present.all (fun k => decide (Nat.land (Nat.lor (t.tile k).clk.onBackup (t.tile k).clk.coast) 0x7F = 0)) = true)) ∧
  (∀ (s : State) (source : Nat) (w : List Nat), sourceStable source w = false → Completes (.clockSourceStable source w) s (fun t => t = s)) ∧
  (∀ (s : State), s.clk.xtalWait = true →
    Completes .xtalStableTimeout s (fun t => t.clk = { s.clk with xtal := 2, xtalWait := false } ∧ t.regBit Reg.CLK_ERR_STATUS 0 = true ∧
      Only (.clk :: logParts) s t)) ∧
  (∀ (s : State) (cause tile pll meas u : Nat), s.md.mode ≠ .off → s.clk.xtal ≠ 2 → s.sourceFails 0 cause tile pll meas = true → s.tilesClocked = true →
    s.regBit Reg.CLK_CTL 0 = false → u < 8 → s.alive u = true →
    Completes (.clockSourceFail 0 cause tile pll meas) s (fun t => t.clk.xtal = 2 ∧ Nat.land (t.tile u).clk.coast 0x7E = 0x7E ∧
      Nat.land (t.tile u).clk.pllLocked 0x1F = 0 ∧ bitOf (t.tile 0).clk.onBackup 0 = true ∧
      t.regBit Reg.CLK_ERR_STATUS 1 = true ∧ t.md = s.md ∧ Only (.clk :: .tiles :: logParts) s t)) ∧
  (∀ (s : State) (cause tile pll meas u : Nat), s.md.mode ≠ .off → s.clk.xtal ≠ 2 → s.sourceFails 0 cause tile pll meas = true → s.tilesClocked = true →
    s.regBit Reg.CLK_CTL 0 = true → u < 8 → s.alive u = true →
    Completes (.clockSourceFail 0 cause tile pll meas) s (fun t => t.clk.xtal = 2 ∧ Nat.land (t.tile u).clk.onBackup 0x7E = 0x7E ∧
      Nat.land (t.tile u).clk.edgeWait 0x7E = 0x7E ∧ (t.tile u).clk.gddrRetrain = ((s.tile u).clk.gddrRetrain || s.md.resetsReleased) ∧
      t.regBit Reg.CLK_ERR_STATUS 2 = true ∧ bitOf t.clk.nmi u = true ∧ bitOf t.md.causes 11 = true ∧ t.fuse = s.fuse)) ∧
  (∀ (s : State) (h cause tile pll meas : Nat), s.md.mode ≠ .off → h < s.pop.tiles → bitOf s.clk.refFail h = false → s.tilesClocked = false →
    s.sourceFails (1 + h) cause tile pll meas = true →
    Completes (.clockSourceFail (1 + h) cause tile pll meas) s (fun t =>
      t.clk = { s.clk with
        refFail := setBit s.clk.refFail h, refBack := clearBit s.clk.refBack h, refStable := clearBit s.clk.refStable h } ∧ t.regBit Reg.CLK_ERR_STATUS 0 = true ∧
      Only (.clk :: logParts) s t)) ∧
  (∀ (s : State) (tile domain : Nat), tile < 8 → s.md.mode ≠ .off → domain < 8 → bitOf (s.tile tile).clk.edgeWait domain = true →
    Completes (.clockSwitchForce tile domain) s (fun t => t.regBit (Reg.CLK_TILE_ERR_STATUS tile) 1 = true ∧
      (t.tile tile).clk = { (s.tile tile).clk with edgeWait := clearBit (s.tile tile).clk.edgeWait domain } ∧ Only (.tiles :: logParts) s t)) ∧
  (∀ (s : State) (tile domain : Nat), bitOf (s.tile tile).clk.edgeWait domain = false → Completes (.clockSwitchForce tile domain) s (fun t => t = s)) ∧
  (∀ (s : State) (tile : Nat), tile < 8 → (s.tile tile).clk.gddrRetrain = true →
    Completes (.phyRetrainDone tile none) s (fun t => (t.tile tile).clk = { (s.tile tile).clk with
      gddrRetrain := false, pllLocked := setBit (s.tile tile).clk.pllLocked 3 } ∧ Only [.tiles] s t)) ∧
  (∀ (s : State) (tile port : Nat), tile < 8 → bitOf (s.tile tile).clk.meshRetrain port = true →
    Completes (.phyRetrainDone tile (some port)) s (fun t => (t.tile tile).clk = { (s.tile tile).clk with
      meshRetrain := clearBit (s.tile tile).clk.meshRetrain port, pllLocked := setBit (s.tile tile).clk.pllLocked 4 } ∧ Only [.tiles] s t))

/-- CLK_GATE_IDLE_ACK closes a gate that waits for it, that of the counters once those in LEVEL mode are up to date; CLK_GATE_TIMEOUT abandons
the request and sets its flag. TILE_RESET_STEP_DONE of a step that does not fail goes on to the next: step 1 once no frame counts as dirty, step 2
into reset with the links fenced and the tile's registers at their reset values, step 3 releases, step 4 locks the PLLs that the tile needs,
step 5 starts training of every channel, step 6 ends once they have trained, step 7 ends with the map restored and the links of the reset
unfenced; a step that fails ends the reset with the tile failed. CDC_HANDSHAKE_TIMEOUT sets the flag of its tile and marks the value as not
delivered. Completes: clkGateIdleAck, clkGateTimeout, tileResetStepDone, cdcHandshakeTimeout. -/
def Obligations.GatesAndTileResets : Prop :=
  (∀ (s : State) (tile block : Nat), tile < 8 → block ≠ 0 → bitOf (s.tile tile).clk.gateWait block = true → s.gateActs tile block = true →
    Completes (.clkGateIdleAck tile block) s (fun t => t = s.modClkT tile (fun k =>
      { k with gated := setBit k.gated block, gateWait := clearBit k.gateWait block }))) ∧
  (∀ (s : State) (tile : Nat), tile < 8 → bitOf (s.tile tile).clk.gateWait 0 = true →
    Completes (.clkGateIdleAck tile 0) s (fun t => bitOf (t.tile tile).clk.gated 0 = true ∧ bitOf (t.tile tile).clk.gateWait 0 = false ∧
      Only [.tiles, .reg, .free, .wins] s t)) ∧
  (∀ (s : State) (tile block : Nat), tile < 8 → bitOf (s.tile tile).clk.gateWait block = true →
    Completes (.clkGateTimeout tile block) s (fun t => bitOf (t.tile tile).clk.gateWait block = false ∧ (t.tile tile).clk.gated = (s.tile tile).clk.gated ∧
      t.regBit (Reg.CLK_TILE_ERR_STATUS tile) 2 = true ∧ Only (.tiles :: logParts) s t)) ∧
  (∀ (s : State) (tile : Nat) (l1 l2 l3 : List Nat), (s.tile tile).clk.resetStep = some 1 → s.dirtyFrames tile = 0 →
    Completes (.tileResetStepDone tile false l1 l2 l3) s (fun t => t = s.modClkT tile (fun k => { k with resetStep := some 2 }))) ∧
  (∀ (s : State) (tile p : Nat) (l1 l2 l3 : List Nat), tile < 8 → (s.tile tile).clk.resetStep = some 2 → (s.head tile).up = false → p ∈ s.ports →
    Completes (.tileResetStepDone tile false l1 l2 l3) s (fun t => (t.tile tile).clk.resetStep = some 3 ∧ (t.tile tile).txn.tracker = [] ∧
      (t.tile tile).fs.frames = [] ∧ (t.tile tile).clk.pllLocked = 0 ∧ (t.tile tile).med.pages = (s.tile tile).med.pages ∧
      agetD (s.linkKey tile p) false t.md.fenced = true ∧ t.getReg (Reg.TXN_CTL tile) = regReset (Reg.TXN_CTL tile) ∧
      aget tile t.cup.windows = none ∧ t.md.mode = s.md.mode ∧ t.pw = s.pw ∧ t.ps = s.ps)) ∧
  (∀ (s : State) (tile : Nat) (l1 l2 l3 : List Nat), (s.tile tile).clk.resetStep = some 3 →
    Completes (.tileResetStepDone tile false l1 l2 l3) s (fun t => t = s.modClkT tile (fun k => { k with resetStep := some 4 }))) ∧
  (∀ (s : State) (tile : Nat) (l1 l2 l3 : List Nat), tile < 8 → (s.tile tile).clk.resetStep = some 4 →
    Completes (.tileResetStepDone tile false l1 l2 l3) s (fun t => (t.tile tile).clk.resetStep = some 5 ∧ (t.tile tile).clk.pllLocked = s.pllsNeeded tile ∧
      (t.head tile).training = (s.mayTrain tile || (s.head tile).training) ∧ Only [.tiles] s t)) ∧
  (∀ (s : State) (tile ch : Nat) (l1 l2 l3 : List Nat), tile < 8 → ch < 8 → (s.tile tile).clk.resetStep = some 5 →
    Completes (.tileResetStepDone tile false l1 l2 l3) s (fun t => (t.tile tile).clk.resetStep = some 6 ∧ (t.chan tile ch).st = 1 ∧
      Only [.tiles] s t)) ∧
  (∀ (s : State) (tile : Nat) (l1 l2 l3 : List Nat), (s.tile tile).clk.resetStep = some 6 →
    (s.tile tile).med.chans.toList.all (fun c => decide (2 ≤ c.st)) = true →
    Completes (.tileResetStepDone tile false l1 l2 l3) s (fun t => t = s.modClkT tile (fun k => { k with resetStep := some 7 }))) ∧
  (∀ (s : State) (tile : Nat), tile < 8 → (s.tile tile).clk.resetStep = some 7 → (s.tile tile).xl.formatted = true →
    Completes (.tileResetStepDone tile false [] [] []) s (fun t => (t.tile tile).clk.resetStep = none ∧ (t.tile tile).clk.resetKeys = [] ∧
      (t.tile tile).xl.mapState = 1 ∧ (s.tile tile).clk.resetKeys.all (fun k => !agetD k false t.md.fenced) = true)) ∧
  (∀ (s : State) (tile n : Nat) (l1 l2 l3 : List Nat), tile < 8 → (s.tile tile).clk.resetStep = some n → s.alive tile = false →
    Completes (.tileResetStepDone tile true l1 l2 l3) s (fun t => (t.tile tile).clk.resetStep = none ∧ t.md.failed = s.md.failed ∧
      s.ports.all (fun p => agetD (s.linkKey tile p) false t.md.fenced) = true ∧ Only (.md :: .tiles :: .jobs :: logParts) s t)) ∧
  (∀ (s : State) (tile crossing : Nat), tile < 8 → s.md.mode ≠ .off →
    Completes (.cdcHandshakeTimeout tile crossing) s (fun t => t.regBit (Reg.CLK_TILE_ERR_STATUS tile) 3 = true ∧
      (t.tile tile).clk.cdcLost.contains crossing = true ∧ Only (.tiles :: logParts) s t))

/-- HEARTBEAT_SEND of a tile that a route joins to the primary puts a heartbeat on the link of that route. HEARTBEAT_MISS counts the
first and the second heartbeat missed, and nothing else. MESH_MESSAGE_DELIVER of a heartbeat at the primary, in the class that the port serves
next, ends the count; a delta or an answer goes to the tile's inbox; of a message for another tile, it goes on on the link of its route. One in
a class that the port does not serve next changes nothing. TILE_REJOIN starts the work for a tile that waits to rejoin, with the bulk-copy
window. Apart from the counters of a link that carries a message on, nothing else changes. Completes: heartbeatSend, heartbeatMiss,
meshMessageDeliver, tileRejoin. -/
def Obligations.MeshAndHeartbeats : Prop :=
  (∀ (s : State) (tile d : Nat) (answers : Bool), s.alive tile = true → tile ≠ s.md.primary → s.alive s.md.primary = true →
    (s.hops tile s.md.primary).isSome = true → s.routePort tile s.md.primary = some d →
    Completes (.heartbeatSend tile answers) s (fun t => t.sentLast tile d 0 = some { src := tile, dst := s.md.primary, body := .heartbeat } ∧
      s.othersKept t 8 = true ∧ Only [.jobs, .tiles, .reg, .free] s t)) ∧
  (∀ (s : State) (tile : Nat) (answers : Bool), s.alive tile = true → tile ≠ s.md.primary → agetD tile 0 s.md.missed < 2 →
    Completes (.heartbeatMiss tile answers) s (fun t =>
      t = { s with md := { s.md with missed := aput tile (agetD tile 0 s.md.missed + 1) s.md.missed } })) ∧
  (∀ (s : State) (tile port src latNs : Nat) (l : List Msg) (upset : Upset) (idle : Bool), s.alive tile = true → port < 4 →
    agetD (16 * tile + 4 * port) [] s.jobs.links = { src := src, dst := tile, body := .heartbeat } :: l → s.meshServes tile port = some 0 →
    Completes (.meshMessageDeliver tile port 0 upset latNs idle) s (fun t => t.md = { s.md with missed := adel src s.md.missed } ∧
      agetD (16 * tile + 4 * port) [] t.jobs.links = l ∧ Only [.md, .jobs] s t)) ∧
  (∀ (s : State) (tile port src latNs seg : Nat) (k : AckKind) (l : List Msg) (upset : Upset) (idle : Bool), s.alive tile = true → tile < 8 → port < 4 →
    agetD (16 * tile + 4 * port + 2) [] s.jobs.links = { src := src, dst := tile, body := .ack k seg } :: l → s.meshServes tile port = some 2 →
    Completes (.meshMessageDeliver tile port 2 upset latNs idle) s (fun t =>
      (t.tile tile).cup = { (s.tile tile).cup with inbox := (s.tile tile).cup.inbox ++ [{ src := src, dst := tile, body := .ack k seg }] } ∧
      agetD (16 * tile + 4 * port + 2) [] t.jobs.links = l ∧ s.othersKept t tile = true ∧ Only [.tiles, .jobs] s t)) ∧
  (∀ (s : State) (tile port src latNs : Nat) (d : Delta) (l : List Msg) (upset : Upset) (idle : Bool), s.alive tile = true → tile < 8 → port < 4 →
    agetD (16 * tile + 4 * port + 2) [] s.jobs.links = { src := src, dst := tile, body := .delta d } :: l → s.meshServes tile port = some 2 →
    Completes (.meshMessageDeliver tile port 2 upset latNs idle) s (fun t =>
      (t.tile tile).cup = { (s.tile tile).cup with inbox := (s.tile tile).cup.inbox ++ [{ src := src, dst := tile, body := .delta d }] } ∧
      agetD (16 * tile + 4 * port + 2) [] t.jobs.links = l ∧ s.othersKept t tile = true ∧ Only [.tiles, .jobs] s t)) ∧
  (∀ (s : State) (tile port cls p latNs : Nat) (m : Msg) (l : List Msg) (upset : Upset) (idle : Bool), tile < 8 → port < 4 → cls < 4 →
    agetD (16 * tile + 4 * port + cls) [] s.jobs.links = m :: l → m.dst ≠ tile → m.old = false → m.body.cls = cls →
    s.meshServes tile port = some cls → s.routePort tile m.dst = some p →
    Completes (.meshMessageDeliver tile port cls upset latNs idle) s (fun t => t.sentLast tile p cls = some m ∧ s.othersKept t 8 = true ∧
      Only [.jobs, .tiles, .reg, .free] s t)) ∧
  (∀ (s : State) (tile port cls latNs : Nat) (upset : Upset) (idle : Bool), s.meshServes tile port ≠ some cls →
    Completes (.meshMessageDeliver tile port cls upset latNs idle) s (fun t => t = s)) ∧
  (∀ (s : State) (tile ms : Nat) (errs : List LineErr), s.cup.rejoin = none → s.aliveTiles.find? (fun u => (s.rejoinAt u).isSome) = some tile →
    s.md.operating = true → s.cup.work = 0 → s.cupMayWork = true →
    Completes (.tileRejoin errs ms) s (fun t => t.cup.rejoin = some (tile, 0) ∧ t.cup.rejoined = 0 ∧ t.cup.work = 3 ∧
      t.aliveTiles.all (fun k => agetD k 0 t.cup.windows == 1) = true ∧ Only (.cup :: logParts) s t))

/-- A tile counts as failed, in every later reading of the state, after its third missed heartbeat, after the wait for its answer to a
delta expires (ACK_MS after the send or the last BUSY, or ACK_MS and 1 ms after the send), and when no route joins it to the primary as it
sends its heartbeat; the fuses and what waits in the queue stay as they were. A wait that has not run so long changes nothing. A mesh link that
fails is fenced, and the package is Degraded for it. Completes: heartbeatMiss, heartbeatSend, cupolaAckTimeout, meshLinkFail. -/
def Obligations.FailedTiles : Prop :=
  (∀ (s : State) (tile : Nat) (answers : Bool), s.alive tile = true → tile ≠ s.md.primary → agetD tile 0 s.md.missed = 2 →
    Completes (.heartbeatMiss tile answers) s (fun t => bitOf t.md.failed tile = true ∧ t.alive tile = false ∧ t.fuse = s.fuse ∧ t.pending = s.pending)) ∧
  (∀ (s : State) (tile : Nat) (answers : Bool), s.alive tile = true → tile ≠ s.md.primary → s.alive s.md.primary = true →
    (s.hops tile s.md.primary).isSome = false →
    Completes (.heartbeatSend tile answers) s (fun t => bitOf t.md.failed tile = true ∧ t.alive tile = false ∧ t.fuse = s.fuse ∧ t.pending = s.pending)) ∧
  (∀ (s : State) (tile seg p ms waitMs totalMs : Nat) (answers : Bool), s.alive tile = true → aget seg (s.tile tile).cup.sent = some (p, ms) →
    s.alive p = true → (ms ≤ waitMs ∨ ms + 1 ≤ totalMs) →
    Completes (.cupolaAckTimeout tile seg answers waitMs totalMs) s (fun t => bitOf t.md.failed p = true ∧ t.alive p = false ∧ t.fuse = s.fuse ∧
      t.pending = s.pending)) ∧
  (∀ (s : State) (tile seg p ms waitMs totalMs : Nat) (answers : Bool), aget seg (s.tile tile).cup.sent = some (p, ms) → waitMs < ms → totalMs < ms + 1 →
    Completes (.cupolaAckTimeout tile seg answers waitMs totalMs) s (fun t => t = s)) ∧
  (∀ (s : State) (tile port : Nat) (answers : Bool), s.alive tile = true → port < 3 → s.linkUp tile port = true →
    Completes (.meshLinkFail tile port answers) s (fun t => agetD (s.linkKey tile port) false t.md.fenced = true ∧ bitOf t.md.causes 1 = true ∧
      t.fuse = s.fuse ∧ t.pending = s.pending))

/-- SCRUB_VISIT in a SCRUB sector with budget, of a plane on which no read or operation runs, moves the channel's place to the page it visited,
counts the visit and spends one unit of the budget of the sector's entry. REFRESH_EXECUTE drops an entry whose page no longer holds the current copy, and makes a one-page
batch of one that does. LOST_REPAIR under CUPOLA_REBUILD ends the work when nothing is LOST, and releases the window. INJECT_ERROR flips what its TARGET names of
a frame, a tag or a map line, and arms the injection of a media line; SCRUB_CTL sets INT_CTL; GET_ERROR_STATS writes the report, and with CLEAR clears
the counters. Completes: scrubVisit, refreshExecute, lostRepair, injectError, scrubCtl, getErrorStats. -/
def Obligations.ScrubAndInject : Prop :=
  (∀ (s : State) (tile ch i loc : Nat) (errs : List LineErr), s.alive tile = true → tile < 8 → ch < 8 → (s.chan tile ch).st = 2 →
    s.regBit Reg.INT_CTL 15 = true → s.sectorBudget tile 3 ch = some i → s.scrubNext tile ch = some (loc, false) → s.mediaFree tile loc = true →
    (s.tile tile).med.scan = [] →
    Completes (.scrubVisit tile ch errs) s (fun t => (t.chan tile ch).scrubAt = some loc ∧
      agetD 8 0 (t.tile tile).int.stats = min 0xFFFFFFFF (agetD 8 0 (s.tile tile).int.stats + 1) ∧ (t.tile tile).int.passes = (s.tile tile).int.passes ∧
      agetD (16 * i + ch) 0 (t.tile tile).bel.spent = agetD (16 * i + ch) 0 (s.tile tile).bel.spent + 1 ∧ t.pw = s.pw ∧ t.fuse = s.fuse)) ∧
  (∀ (s : State) (tile : Nat) (r : Refresh), s.mayMaintain tile = true → tile < 8 → s.refreshNext tile = some r →
    (s.mapRaw tile (((aget r.loc (s.tile tile).med.pages).map (·.subject)).getD 0)).loc ≠ r.loc →
    Completes (.refreshExecute tile) s (fun t => (t.tile tile).int.queue = (s.tile tile).int.queue.filter (· != r) ∧
      (t.tile tile).xl = (s.tile tile).xl ∧ (t.tile tile).med = (s.tile tile).med)) ∧
  (∀ (s : State) (tile i seg : Nat) (r : Refresh) (pg : Page), s.mayMaintain tile = true → tile < 8 → s.refreshNext tile = some r →
    aget r.loc (s.tile tile).med.pages = some pg → pg.subject = seg → (s.mapRaw tile seg).loc = r.loc → (s.mapRaw tile seg).st = .mapped →
    s.sectorBudget tile 2 (locCh r.loc) = some i → (s.tile tile).xl.batches = [] →
    Completes (.refreshExecute tile) s (fun t => (t.tile tile).xl =
        { (s.tile tile).xl with batches := [{ src := locBlk r.loc, plane := planeNo r.loc, target := 1, left := [(seg, r.loc)], refresh := true }] } ∧
      (t.tile tile).int = { (s.tile tile).int with queue := (s.tile tile).int.queue.filter (· != r) } ∧ s.othersKept t tile = true ∧ Only [.tiles] s t)) ∧
  (∀ (s : State) (tile ms : Nat), s.cup.work = 1 → s.cupMayWork = true → s.lostAll = 0 →
    Completes (.lostRepair tile ms) s (fun t => t.cup = { s.cup with work := 0, windows := s.cup.windows.filter (fun e => e.2 != 1) } ∧ t.tiles = s.tiles)) ∧
  (∀ (s : State) (pc : PortCmd) (tile ch page line frame seg count : Nat) (readNow : Bool) (errs : List LineErr), s.accepts pc 0x0301 true = true →
    s.md.inService = true → s.alive tile = true → tile < 8 → frame < framesOf s.pop → line < 65 →
    Completes (.injectError pc tile 3 ch page line frame seg count readNow errs) s (fun t =>
      (t.tile tile).fs = { (s.tile tile).fs with
        lineFlips := aputD 0 (65 * frame + line) (Nat.xor (agetD (65 * frame + line) 0 (s.tile tile).fs.lineFlips) (flipPat s.flipRegs.1 s.flipRegs.2)) (s.tile tile).fs.lineFlips } ∧
      t.resultOf pc = some (succeeded [(3, 0), (8, 0)]) ∧ s.othersKept t tile = true ∧ Only (.tiles :: logParts) s t)) ∧
  (∀ (s : State) (pc : PortCmd) (tile ch page line frame seg count : Nat) (readNow : Bool) (errs : List LineErr), s.accepts pc 0x0301 true = true →
    s.md.inService = true → s.alive tile = true → tile < 8 → frame < framesOf s.pop →
    Completes (.injectError pc tile 4 ch page line frame seg count readNow errs) s (fun t => (t.tile tile).fs = { (s.tile tile).fs with
        tagFlips := aputD 0 frame (Nat.xor (agetD frame 0 (s.tile tile).fs.tagFlips) (s.flipRegs.1 % 2 ^ 36)) (s.tile tile).fs.tagFlips } ∧
      t.resultOf pc = some (succeeded [(3, 0), (8, 0)]) ∧ s.othersKept t tile = true ∧ Only (.tiles :: logParts) s t)) ∧
  (∀ (s : State) (pc : PortCmd) (tile ch page line frame seg count : Nat) (readNow : Bool) (errs : List LineErr), s.accepts pc 0x0301 true = true →
    s.md.inService = true → s.alive tile = true → tile < 8 → seg < s.segs →
    Completes (.injectError pc tile 6 ch page line frame seg count readNow errs) s (fun t => (t.tile tile).xl = { (s.tile tile).xl with
        mapFlips := aputD 0 (seg / 16) (Nat.xor (agetD (seg / 16) 0 (s.tile tile).xl.mapFlips) (flipPat s.flipRegs.1 s.flipRegs.2)) (s.tile tile).xl.mapFlips } ∧
      t.resultOf pc = some (succeeded [(3, 0), (8, 0)]) ∧ s.othersKept t tile = true ∧ Only (.tiles :: logParts) s t)) ∧
  (∀ (s : State) (pc : PortCmd) (tile target ch page line frame seg count : Nat) (errs : List LineErr), s.accepts pc 0x0301 true = true →
    s.md.inService = true → s.alive tile = true → tile < 8 → (target = 0 ∨ target = 2) → (s.chan tile ch).st = 2 → line < 68 →
    (s.tile tile).int.armed.length < 4 →
    Completes (.injectError pc tile target ch page line frame seg count false errs) s (fun t =>
      (t.tile tile).int = { (s.tile tile).int with armed := (s.tile tile).int.armed ++
        [{ margin := target == 2, loc := ch * 2 ^ 26 + page, line := line, mask := s.flipRegs.1, value := s.flipRegs.2, left := if count = 0 then 1 else count }] } ∧
      t.resultOf pc = some (succeeded [(3, 0), (8, 0)]) ∧ s.othersKept t tile = true ∧ Only (.tiles :: logParts) s t)) ∧
  (∀ (s : State) (pc : PortCmd) (mask sym off shift : Nat) (enable : Bool), s.accepts pc 0x0300 true = true → s.md.operating = true →
    (List.range 8).all (fun t => !bitOf mask t || s.present.contains t) = true →
    Completes (.scrubCtl pc mask enable false sym off shift false) s (fun t =>
      t.reg = (s.setReg Reg.INT_CTL (BitVec.ofNat 32 (b2n enable * 32768 + sym * 4096 + shift * 256 + off))).reg ∧
      (t.resultOf pc).map (·.status) = some Status.success.code ∧ Only [.reg, .porter] s t)) ∧
  (∀ (s : State) (pc : PortCmd) (tile buf : Nat) (clear : Bool), s.accepts pc 0x0302 clear = true → tile < s.pop.tiles → tile < 8 → aligned64 buf = true →
    Completes (.getErrorStats pc tile buf clear) s (fun t =>
      Sends s t [.hostWrite (s.ring pc.ring).head buf (wordBytes (s.errorStats tile))] ∧ t.resultOf pc = some (succeeded []) ∧
      (t.tile tile).int = (if clear then { (s.tile tile).int with stats := [] } else (s.tile tile).int) ∧ s.othersKept t tile = true ∧
      Only [.porter, .outbox, .tiles] s t))

/-- CUPOLA_DELTA_RECEIVE of a delta for a free slot leaves one slot with the delta's lines and answers APPLIED on the link to the sender; CUPOLA_BUSY_TIMER answers held
deltas and changes no slot; CUPOLA_ACK_RECEIVE of BUSY takes the answer off and waits again. CUPOLA_SLOT_FLUSH in Hold-up commits
the parity page of the oldest slot. CUPOLA_RESYNC_STRIPE with nothing left ends the resync and releases the window. CUPOLA_CONFIG with the number of regions
in force changes nothing, and a lower number takes effect with every stripe to be resynced. CUPOLA_REBUILD RESYNC starts the work and
reports the stripes; STOP ends it. Completes: cupolaDeltaReceive, cupolaBusyTimer, cupolaAckReceive, cupolaSlotFlush, cupolaResyncStripe,
cupolaConfig, cupolaRebuild. -/
def Obligations.CupolaWork : Prop :=
  (∀ (s : State) (tile p2 : Nat) (errs : List LineErr) (m : Msg) (d : Delta) (l : List Msg), s.alive tile = true → tile < 8 → m.body = .delta d → d.resent = false →
    (s.tile tile).cup.inbox = m :: l → (s.tile tile).cup.slots = [] → s.routePort tile d.src = some p2 →
    Completes (.cupolaDeltaReceive tile errs) s (fun t =>
      (t.tile tile).cup = { (s.tile tile).cup with
        slots := [(d.parLocal, { lines := xorLines [] d.lines, jpos := aput d.member d.jpos [], seq := (s.tile tile).cup.seq })],
        seq := (s.tile tile).cup.seq + 1, inbox := l } ∧
      t.sentLast tile p2 2 = some { src := tile, dst := d.src, body := .ack .applied d.seg } ∧ s.othersKept t tile = true ∧
      Only [.tiles, .jobs, .reg, .free] s t)) ∧
  (∀ (s : State) (tile p : Nat) (d : Delta), s.alive tile = true → tile < 8 → (s.tile tile).cup.held = [d] → s.routePort tile d.src = some p →
    Completes (.cupolaBusyTimer tile) s (fun t => t.sentLast tile p 2 = some { src := tile, dst := d.src, body := .ack .busy d.seg } ∧
      s.othersKept t 8 = true ∧ Only [.tiles, .jobs, .reg, .free] s t)) ∧
  (∀ (s : State) (tile seg : Nat) (m : Msg) (l : List Msg), s.alive tile = true → (s.tile tile).cup.inbox = m :: l → m.body = .ack .busy seg →
    Completes (.cupolaAckReceive tile) s (fun t => t = s.modCupT tile (fun c => { c with inbox := c.inbox.drop 1 }))) ∧
  (∀ (s : State) (tile pl : Nat) (k : Slot) (errs : List LineErr), s.alive tile = true → tile < 8 → bitOf s.md.sealed tile = false → s.md.mode = .holdup →
    s.oldestSlot tile = some (pl, k) → s.dirtyOrder tile = [] → (s.tile tile).xl.commits = [] → (s.mapOf tile pl).st = .never →
    (s.tile tile).cup.slots.all (fun x => x.2.adoptSeg.isNone) = true →
    Completes (.cupolaSlotFlush tile errs) s (fun t => (t.tile tile).cup.slots.all (fun x => x.1 != pl || x.2.flushing) = true ∧
      (t.tile tile).xl.commits.any (fun c => c.seg == pl && c.job == .cup pl) = true)) ∧
  (∀ (s : State) (ms : Nat), s.md.operating = true → s.cup.unsynced = [] → s.cup.unsyncedFrom = none → s.cup.work = 2 → s.cupMayWork = true →
    Completes (.cupolaResyncStripe ms) s (fun t => t.cup = { s.cup with work := 0, windows := s.cup.windows.filter (fun e => e.2 != 1) } ∧ t.tiles = s.tiles)) ∧
  (∀ (s : State) (pc : PortCmd), s.accepts pc 0x0400 true = true → s.md.inService = true → s.cup.regions ≤ 16 → s.cup.work = 0 → s.windowFor 1 = true →
    Completes (.cupolaConfig pc s.cup.regions false) s (fun t => t.resultOf pc = some (succeeded [(32, 0)]) ∧ Only [.porter] s t)) ∧
  (∀ (s : State) (pc : PortCmd) (regions : Nat), s.accepts pc 0x0400 true = true → s.md.inService = true → regions < s.cup.regions → regions ≤ 16 →
    s.cup.work = 0 → s.windowFor 1 = true →
    Completes (.cupolaConfig pc regions false) s (fun t => t.cup.regions = regions ∧ t.cup.unsynced = [] ∧
      t.cup.unsyncedFrom = (if t.stripes = 0 then none else some 0) ∧ t.resultOf pc = some (succeeded [(32, t.stripes)]))) ∧
  (∀ (s : State) (pc : PortCmd) (ms : Nat), s.accepts pc 0x0401 true = true → s.md.sdService = true → s.cup.work = 0 → s.windowFor 1 = true →
    Completes (.cupolaRebuild pc 1 ms) s (fun t => t.cup.work = 2 ∧ t.cup.regions = s.cup.regions ∧ t.aliveTiles.all (fun k => agetD k 0 t.cup.windows == 1) = true ∧
      t.cup.unsyncedFrom = (if s.stripes = 0 then s.cup.unsyncedFrom else some 0) ∧ t.resultOf pc = some (succeeded [(32, s.stripes)]))) ∧
  (∀ (s : State) (pc : PortCmd) (ms : Nat), s.accepts pc 0x0401 true = true → s.md.sdService = true → (s.cup.work = 1 ∨ s.cup.work = 2) →
    Completes (.cupolaRebuild pc 2 ms) s (fun t => t.cup = { s.cup with work := 0, windows := s.cup.windows.filter (fun e => e.2 != 1) } ∧
      t.resultOf pc = some (succeeded [(32, 0)])))

/-- MEM_WR that hits a Dirty frame: the line holds the data, with its poison, VALID and DIRTY set; every other line of the frame, every
other frame of the tile, every other tile and the medium keep their content, a segment that was NEVER or DISCARDED becomes FRONT_ONLY and the map stays
otherwise, and the host has its completion. MEM_WR_PTL the same, byte by byte where the line is VALID: an enabled byte is the request's, another is the frame's. MEM_RD and
MEM_RD_DATA answer the line with its poison and leave every frame, the map and the medium as they are. Completes: memWr, memWrPtl, memRd, memRdData. -/
def Obligations.FrontStoreHits : Prop :=
  (∀ (s : State) (m : MemReq) (dpa f i g : Nat) (data : Line) (poison : Bool), s.directHit m dpa f = true → i ≠ dpa / 64 % 64 → g ≠ f →
    Completes (.memWr m data poison) s (fun t =>
      agetD (dpa / 64 % 64) 0 (t.frame m.head f).lines = data ∧ bitOf (t.frame m.head f).valid (dpa / 64 % 64) = true ∧
      bitOf (t.frame m.head f).dirty (dpa / 64 % 64) = true ∧ bitOf (t.frame m.head f).poison (dpa / 64 % 64) = poison ∧
      (t.frame m.head f).st = .dirty ∧ (t.frame m.head f).seg = (s.frame m.head f).seg ∧
      agetD i 0 (t.frame m.head f).lines = agetD i 0 (s.frame m.head f).lines ∧ t.frame m.head g = s.frame m.head g ∧
      (t.tile m.head).med = (s.tile m.head).med ∧ (t.tile m.head).xl = ((s.markFront m.head (s.segLocal (dpa / 4096))).tile m.head).xl ∧ answered s t m.head m.tag none false = true)) ∧
  (∀ (s : State) (m : MemReq) (dpa f u : Nat) (data : Line) (poison : Bool), s.directHit m dpa f = true → u ≠ m.head →
    Completes (.memWr m data poison) s (fun t => t.tile u = s.tile u ∧ t.ps = s.ps ∧ t.pw = s.pw ∧ t.md = s.md ∧ t.cap.table = s.cap.table ∧ t.sec = s.sec)) ∧
  (∀ (s : State) (m : MemReq) (dpa f i g j be : Nat) (data : Line) (poison : Bool), s.directHit m dpa f = true →
    bitOf (s.frame m.head f).valid (dpa / 64 % 64) = true → i ≠ dpa / 64 % 64 → g ≠ f → j < 64 →
    Completes (.memWrPtl m data be poison) s (fun t =>
      lineByte (agetD (dpa / 64 % 64) 0 (t.frame m.head f).lines) j =
        (if bitOf be j then lineByte data j else lineByte (agetD (dpa / 64 % 64) 0 (s.frame m.head f).lines) j) ∧
      bitOf (t.frame m.head f).dirty (dpa / 64 % 64) = true ∧ agetD i 0 (t.frame m.head f).lines = agetD i 0 (s.frame m.head f).lines ∧
      t.frame m.head g = s.frame m.head g ∧ (t.tile m.head).med = (s.tile m.head).med ∧ (t.tile m.head).xl = ((s.markFront m.head (s.segLocal (dpa / 4096))).tile m.head).xl ∧
      answered s t m.head m.tag none false = true)) ∧
  (∀ (s : State) (m : MemReq) (dpa f g : Nat), s.directHit m dpa f = true → bitOf (s.frame m.head f).valid (dpa / 64 % 64) = true →
    Completes (.memRd m) s (fun t =>
      answered s t m.head m.tag (some (agetD (dpa / 64 % 64) 0 (s.frame m.head f).lines)) (bitOf (s.frame m.head f).poison (dpa / 64 % 64)) = true ∧
      t.frame m.head g = s.frame m.head g ∧ (t.tile m.head).med = (s.tile m.head).med ∧ (t.tile m.head).xl.map = (s.tile m.head).xl.map)) ∧
  (∀ (s : State) (m : MemReq) (dpa f g : Nat), s.directHit m dpa f = true → bitOf (s.frame m.head f).valid (dpa / 64 % 64) = true →
    Completes (.memRdData m) s (fun t =>
      answered s t m.head m.tag (some (agetD (dpa / 64 % 64) 0 (s.frame m.head f).lines)) (bitOf (s.frame m.head f).poison (dpa / 64 % 64)) = true ∧
      t.frame m.head g = s.frame m.head g ∧ (t.tile m.head).med = (s.tile m.head).med ∧ (t.tile m.head).xl.map = (s.tile m.head).xl.map))

/-- MEM_SPEC_RD is dropped; MEM_INV and MEM_INV_NT are completed and leave every frame, the map and the medium. A request that the
package refuses, or that no decoder backs, is answered: a read with poison, a write with its completion, and no content changes. A
flit that fails its IDE check turns the stream insecure, and an insecure stream drops requests. UNSUPPORTED_M2S gets no response
and leaves a record with cause 12. S2M_CREDIT_GRANT adds its credits, and the response that waits for one leaves; TRACKER_CREDIT_RELEASE gives a
request that waits for an entry its entry and its credit back, and returns one paced credit where nothing waits. Completes: memSpecRd, memInv, memInvNt,
memWr, memRd, unsupportedM2s, s2mCreditGrant, trackerCreditRelease. -/
def Obligations.RequestsWithoutALine : Prop :=
  (∀ (s : State) (m : MemReq), m.ideOk = true → Completes (.memSpecRd m) s (fun t => t = s)) ∧
  (∀ (s : State) (m : MemReq), s.answersAtOnce m = true → s.memRefused m.head (s.ldOf m.head m.ld) = false →
    Completes (.memInv m) s (fun t => answered s t m.head m.tag none false = true ∧ (t.tile m.head).fs = (s.tile m.head).fs ∧
      (t.tile m.head).med = (s.tile m.head).med ∧ (t.tile m.head).xl = (s.tile m.head).xl ∧ (t.tile m.head).txn = (s.tile m.head).txn ∧
      s.othersKept t m.head = true ∧ Only [.tiles, .reg, .outbox, .jobs] s t)) ∧
  (∀ (s : State) (m : MemReq), s.answersAtOnce m = true → s.memRefused m.head (s.ldOf m.head m.ld) = false →
    Completes (.memInvNt m) s (fun t => answered s t m.head m.tag none false = true ∧ (t.tile m.head).fs = (s.tile m.head).fs ∧
      (t.tile m.head).med = (s.tile m.head).med ∧ (t.tile m.head).xl = (s.tile m.head).xl ∧ (t.tile m.head).txn = (s.tile m.head).txn ∧
      s.othersKept t m.head = true ∧ Only [.tiles, .reg, .outbox, .jobs] s t)) ∧
  (∀ (s : State) (m : MemReq) (data : Line) (poison : Bool), s.answersAtOnce m = true → s.memRefused m.head (s.ldOf m.head m.ld) = true →
    Completes (.memWr m data poison) s (fun t => answered s t m.head m.tag none false = true ∧ (t.tile m.head).fs = (s.tile m.head).fs ∧
      (t.tile m.head).med = (s.tile m.head).med ∧ (t.tile m.head).xl = (s.tile m.head).xl ∧ (t.tile m.head).txn = (s.tile m.head).txn ∧
      t.regBit (Reg.HEAD_ERR_STATUS m.head) 8 = true)) ∧
  (∀ (s : State) (m : MemReq), s.answersAtOnce m = true →
    s.memRefused m.head (s.ldOf m.head m.ld) = false → s.memDecode (s.ldOf m.head m.ld) m.hpa = .unmapped →
    Completes (.memRd m) s (fun t => answered s t m.head m.tag (some 0) true = true ∧ (t.tile m.head).fs = (s.tile m.head).fs ∧
      (t.tile m.head).med = (s.tile m.head).med ∧ (t.tile m.head).xl = (s.tile m.head).xl ∧ (t.tile m.head).txn = (s.tile m.head).txn ∧
      t.regBit (Reg.HEAD_ERR_STATUS m.head) 6 = true)) ∧
  (∀ (s : State) (m : MemReq), m.head < 8 → s.memTaken m.head = true → m.ideOk = false →
    Completes (.memRd m) s (fun t => (vget 0 {} (t.head m.head).ide).insecure = true ∧ t.regBit (Reg.HEAD_ERR_STATUS m.head) 7 = true ∧
      Only (.tiles :: logParts) s t)) ∧
  (∀ (s : State) (m : MemReq), (vget 0 {} (s.head m.head).ide).insecure = true → Completes (.memRd m) s (fun t => t = s)) ∧
  (∀ (s : State) (m : MemReq), s.memTaken m.head = true → m.ideOk = true →
    Completes (.unsupportedM2s m) s (fun t => t.tiles = s.tiles ∧ answered s t m.head m.tag none false = false ∧
      Only (.cap :: logParts) s t ∧
      ((vget 1 {} (s.ldev (s.ldOf m.head m.ld)).logs).recs.length < 64 →
        (vget 1 {} (t.ldev (s.ldOf m.head m.ld)).logs).recs =
          (vget 1 {} (s.ldev (s.ldOf m.head m.ld)).logs).recs ++ [{ kind := 0, cause := 12, info := m.hpa }]))) ∧
  (∀ (s : State) (head a b x y latNs : Nat), head < 8 → s.memLink head = true → (s.tile head).txn.outQ = [] → (s.head head).ndr = some a → (s.head head).drs = some b →
    Completes (.s2mCreditGrant head (some x) (some y) latNs) s (fun t => (t.head head).ndr = some (a + x) ∧ (t.head head).drs = some (b + y) ∧
      s.othersKept t head = true ∧ Only [.tiles] s t)) ∧
  (∀ (s : State) (head x y latNs : Nat) (r : Req) (data : Option Line) (poison : Bool), head < 8 → s.memLink head = true → r.head = head →
    r.kind = .rd → (s.tile head).txn.outQ = [(r, data, poison)] → (s.head head).ndr = some x → (s.head head).drs = some 0 →
    Completes (.s2mCreditGrant head (some 0) (some (y + 1)) latNs) s (fun t => answered s t head r.tag data poison = true ∧
      (t.tile head).txn.outQ = [] ∧ (t.head head).drs = some y ∧ (t.head head).ndr = some x ∧
      (t.tile head).txn.tracker = (s.tile head).txn.tracker.filter (fun q => q.id != r.id))) ∧
  (∀ (s : State) (head latNs : Nat) (r : Req) (l : List Req), head < 8 → s.memLink head = true → (s.tile head).txn.ingress = r :: l → s.canAllocate r = true →
    r.head = head → r.kind = .inv → r.way = .line → l.all (fun q => q.id != r.id) = true → (s.tile head).txn.tracker.all (fun q => q.id != r.id) = true →
    (s.head head).ndr = none →
    Completes (.trackerCreditRelease head latNs) s (fun t => answered s t head r.tag none false = true ∧ (t.tile head).txn.ingress = l ∧
      (t.tile head).txn.tracker = (s.tile head).txn.tracker ∧ (t.head head).reqCredits = (s.head head).reqCredits + 1)) ∧
  (∀ (s : State) (head latNs : Nat), head < 8 → s.memLink head = true → (s.tile head).txn.ingress = [] → 0 < (s.head head).rwdPaced →
    Completes (.trackerCreditRelease head latNs) s (fun t => (t.head head).rwdCredits = (s.head head).rwdCredits + 1 ∧
      (t.head head).rwdPaced = (s.head head).rwdPaced - 1 ∧ s.othersKept t head = true ∧ Only [.tiles] s t))

/-- DIRTY_WAIT_RELEASE ends the wait of a tile at which no write is left, and a write that waits at the dirty limit, no longer reached, is stored in its Clean frame and
completed. HAZARD_ADMIT admits the next waiting request, which then waits for an earlier write to its line. TRACKER_TIMEOUT of a read answers poison and sets its flag; of a write that is not stored, the write ends without a completion wherever it waits, and sets its flag.
QOS_WINDOW_END starts a new average and clears the use of
bandwidth of the head's LDs; the average of a window without a response is a free value. Completes: dirtyWaitRelease, hazardAdmit, trackerTimeout,
qosWindowEnd. -/
def Obligations.WaitingRequests : Prop :=
  (∀ (s : State) (tile latNs : Nat), s.alive tile = true → tile < 8 → (s.tile tile).txn.haz = [] → (s.tile tile).fs.waitOn = true →
    Completes (.dirtyWaitRelease tile latNs) s (fun t => (t.tile tile).fs.waitOn = false ∧ t.fuse = s.fuse ∧ t.pop = s.pop)) ∧
  (∀ (s : State) (tile f latNs : Nat) (h : Haz), s.alive tile = true → tile < 8 → s.noWork = true → s.car.reads = [] → (s.tile tile).txn.haz = [h] → h.st = .dirty →
    h.req.kind = .wr → h.req.head = tile → (s.tile tile).txn.tracker = [h.req] → (s.tile tile).txn.outQ = [] → (s.head tile).ndr = none →
    s.segTile (h.req.dpa / 4096) = tile → s.findFrame tile (s.segLocal (h.req.dpa / 4096)) = some f → (s.frame tile f).st = .clean →
    s.overLimit tile = false → s.writeThrough tile = false → (s.tile tile).fs.tagFlips = [] → (s.tile tile).fs.lineFlips = [] → bitOf s.md.sealed tile = false →
    Completes (.dirtyWaitRelease tile latNs) s (fun t => (t.frame tile f).st = .dirty ∧ agetD (h.req.dpa / 64 % 64) 0 (t.frame tile f).lines = h.req.data ∧
      answered s t tile h.req.tag none false = true ∧ (t.tile tile).txn.haz = [] ∧ (t.tile tile).fs.waitOn = false)) ∧
  (∀ (s : State) (tile src latNs : Nat) (r : Req), s.alive tile = true → tile < 8 → s.hazUsed tile < 16384 →
    (s.tile tile).txn.nextSource = some (src, r) → (s.tile tile).txn.haz.any (fun h => h.seg == hazKey s tile r && h.line == r.dpa / 64 % 64 &&
      h.st == .media && h.req.kind == .wr) = true → (s.tile tile).txn.haz.all (fun h => h.req.id != r.id) = true →
    Completes (.hazardAdmit tile latNs) s (fun t => (t.tile tile).txn.haz.any (fun h => h.req.id == r.id && h.st == .line) = true ∧
      (t.tile tile).txn.hazWait = (s.tile tile).txn.hazWait.erase (src, r) ∧ (t.tile tile).txn.lastSrc = src ∧ (t.tile tile).fs = (s.tile tile).fs)) ∧
  (∀ (s : State) (head id latNs : Nat) (r : Req), head < 8 → s.memLink head = true → s.trk head id = some r → r.kind = .rd → r.head = head → (s.head head).drs = none →
    Completes (.trackerTimeout head id latNs) s (fun t => answered s t head r.tag (some 0) true = true ∧ t.trk head id = none ∧ t.queued head id = false ∧
      t.regBit (Reg.TXN_ERR_STATUS head) 0 = true)) ∧
  (∀ (s : State) (head id latNs : Nat) (r : Req), head < 8 → s.memLink head = true → s.trk head id = some r → (r.kind = .wr ∨ r.kind = .ptl) → r.head = head →
    r.id = id → s.notStored r = true →
    Completes (.trackerTimeout head id latNs) s (fun t => t.trk head id = none ∧ t.regBit (Reg.TXN_ERR_STATUS head) 1 = true)) ∧
  (∀ (s : State) (head n sum : Nat), head < 8 → 0 < n → (s.head head).devLoadAcc = (n, sum) →
    Completes (.qosWindowEnd head) s (fun t => (t.head head).devLoadAvg = sum * 256 / n ∧ (t.head head).devLoadAcc = (0, 0) ∧
      t.cap.lds.all (fun e => e.1 / 16 != head || e.2.bwUsed == 0) = true ∧ s.othersKept t head = true ∧ Only [.cap, .tiles, .free] s t)) ∧
  (∀ (s : State) (head : Nat), head < 8 → (s.head head).devLoadAcc.1 = 0 →
    Completes (.qosWindowEnd head) s (fun t => (t.head head).devLoadAvg = s.freeNow % 769 ∧ (t.head head).devLoadAcc = (0, 0) ∧
      t.cap.lds.all (fun e => e.1 / 16 != head || e.2.bwUsed == 0) = true ∧ s.othersKept t head = true ∧ Only [.cap, .tiles, .free] s t))

/-- EPOCH_ADVANCE moves the epoch on unless the next one holds dirty frames. COMMIT_CHOOSE starts the commit of the frame chosen: with
every line VALID its program, else a commit fill of the other lines. A line fill brings what is missing and leaves VALID lines: zeros
where the segment was never written. A commit fill goes on to the program. At step 5 the frame becomes Clean, or Dirty where it was
written meanwhile. SEGMENT_LOCK_RELEASE frees the segment. TAG_SCAN of a good tag does nothing; of a soft upset it records and keeps
every frame. A line that a commit finds uncorrectable is poisoned in its frame. Beside the throttling of the tile (R88), nothing else changes.
Completes: epochAdvance, commitChoose, lineFillDone, commitFillDone, frameCommitComplete, segmentLockRelease, tagScan. -/
def Obligations.FramesAndCommits : Prop :=
  (∀ (s : State) (tile u : Nat), s.alive tile = true → tile < 8 → u ≠ tile →
    (s.tile tile).fs.frames.any (fun e => e.2.countsDirty && e.2.epoch == ((s.tile tile).fs.epoch + 1) % 8) = false →
    Completes (.epochAdvance tile) s (fun t => (t.tile tile).fs = { (s.tile tile).fs with epoch := ((s.tile tile).fs.epoch + 1) % 8 } ∧
      t.tile u = s.tile u ∧ Only [.tiles] s t)) ∧
  (∀ (s : State) (tile : Nat), (s.tile tile).fs.frames.any (fun e => e.2.countsDirty && e.2.epoch == ((s.tile tile).fs.epoch + 1) % 8) = true →
    Completes (.epochAdvance tile) s (fun t => t = s)) ∧
  (∀ (s : State) (tile f g u : Nat), s.md.operating = true → s.noWork = true → s.chooseCommit tile = some f → s.commitFree tile f = true → s.noneWait tile = true →
    (s.frame tile f).valid = allLines → g ≠ f → u ≠ tile →
    Completes (.commitChoose tile 0) s (fun t => t.committing tile f = true ∧ (t.frame tile f).seg = (s.frame tile f).seg ∧
      (t.frame tile f).lines = (s.frame tile f).lines ∧ (t.frame tile f).poison = (s.frame tile f).poison ∧ t.frame tile g = s.frame tile g ∧
      (t.tile tile).xl.map = (s.tile tile).xl.map ∧ (t.tile tile).med.pages = (s.tile tile).med.pages ∧ t.tile u = s.tile u ∧
      Only [.tiles, .outbox] s t)) ∧
  (∀ (s : State) (tile f g u : Nat), s.md.operating = true → s.noWork = true → s.chooseCommit tile = some f → s.commitFree tile f = true → s.noneWait tile = true →
    (s.frame tile f).valid ≠ allLines → g ≠ f → u ≠ tile →
    Completes (.commitChoose tile 0) s (fun t => t.frame tile f =
        { s.frame tile f with st := .filling, fillMask := allLines - (s.frame tile f).valid, commitFill := true } ∧ t.frame tile g = s.frame tile g ∧ (t.tile tile).xl = (s.tile tile).xl ∧ (t.tile tile).med = (s.tile tile).med ∧
      t.tile u = s.tile u ∧ Only [.tiles] s t)) ∧
  (∀ (s : State) (tile f i : Nat), s.md.operating = true → s.noWork = true → s.chooseCommit tile = some f → s.commitFree tile f = true → s.noneWait tile = true →
    (s.frame tile f).valid = allLines → i < 64 →
    Completes (.commitChoose tile (2 ^ i)) s (fun t => t.committing tile f = true ∧ (t.frame tile f).poison = setBit (s.frame tile f).poison i ∧
      (t.frame tile f).lines = (s.frame tile f).lines ∧ t.regBit (Reg.FS_ERR_STATUS tile) 1 = true ∧ t.getReg (Reg.FS_ERR_FRAME tile) = BitVec.ofNat 32 f)) ∧
  (∀ (s : State) (tile f g i latNs : Nat) (errs : List LineErr), s.alive tile = true → tile < 8 → s.noWork = true → bitOf s.md.sealed tile = false →
    (s.tile tile).txn.haz = [] → s.car.reads = [] → (s.tile tile).fs.lineFlips = [] → (s.frame tile f).st = .filling →
    (s.frame tile f).commitFill = false → (s.frame tile f).dirty ≠ 0 → (s.frame tile f).fillMask ≠ 0 → (s.mapOf tile (s.frame tile f).seg).st = .never → s.unrejoined tile (s.frame tile f).seg = false → i < 64 → g ≠ f →
    Completes (.lineFillDone tile f errs latNs) s (fun t => (t.frame tile f).st = .dirty ∧ (t.frame tile f).fillMask = 0 ∧
      agetD i 0 (t.frame tile f).lines = (if bitOf (s.frame tile f).fillMask i && !bitOf (s.frame tile f).valid i then 0 else agetD i 0 (s.frame tile f).lines) ∧
      bitOf (t.frame tile f).valid i = (bitOf (s.frame tile f).fillMask i || bitOf (s.frame tile f).valid i) ∧
      (t.frame tile f).dirty = (s.frame tile f).dirty ∧ t.frame tile g = s.frame tile g ∧ (t.tile tile).xl = (s.tile tile).xl ∧ Only [.tiles] s t)) ∧
  (∀ (s : State) (tile f g latNs : Nat) (errs : List LineErr), s.alive tile = true → tile < 8 → s.noWork = true →
    (s.tile tile).txn.haz = [] → s.car.reads = [] → (s.tile tile).fs.lineFlips = [] → (s.frame tile f).st = .filling →
    (s.frame tile f).commitFill = true → (s.frame tile f).dirty ≠ 0 → (s.frame tile f).fillMask ≠ 0 → (s.mapOf tile (s.frame tile f).seg).st = .never → s.unrejoined tile (s.frame tile f).seg = false →
    s.commitOf tile (s.frame tile f).seg = none → g ≠ f →
    Completes (.commitFillDone tile f errs 0 latNs) s (fun t => t.committing tile f = true ∧ (t.frame tile f).seg = (s.frame tile f).seg ∧
      t.frame tile g = s.frame tile g ∧ (t.tile tile).xl.map = (s.tile tile).xl.map ∧ Only [.tiles, .outbox] s t)) ∧
  (∀ (s : State) (tile f g latNs : Nat) (c : Commit), s.alive tile = true → tile < 8 → s.noWork = true → (s.tile tile).txn.haz = [] → s.md.mode ≠ .holdup →
    (s.tile tile).xl.commits = [c] → c.seg = (s.frame tile f).seg → c.job = .host f → c.step = .done → (s.frame tile f).st = .writing →
    (s.frame tile f).dirty = 0 → (s.tile tile).fs.mode = .enabled → (s.tile tile).fs.withdrawn.contains f = false → g ≠ f →
    Completes (.frameCommitComplete tile f latNs) s (fun t => t.frame tile f = { s.frame tile f with st := .clean } ∧ t.frame tile g = s.frame tile g ∧
      (t.tile tile).xl.commits = [] ∧ (t.tile tile).med = (s.tile tile).med ∧ (t.tile tile).xl.map = (s.tile tile).xl.map ∧ Only [.tiles, .reg] s t)) ∧
  (∀ (s : State) (tile f g latNs : Nat) (c : Commit), s.alive tile = true → tile < 8 → s.noWork = true → (s.tile tile).txn.haz = [] → s.md.mode ≠ .holdup →
    (s.tile tile).xl.commits = [c] → c.seg = (s.frame tile f).seg → c.job = .host f → c.step = .done → (s.frame tile f).st = .writing →
    (s.frame tile f).dirty ≠ 0 → bitOf s.md.sealed tile = false → g ≠ f →
    Completes (.frameCommitComplete tile f latNs) s (fun t => t.frame tile f = { s.frame tile f with st := .dirty, epoch := (s.tile tile).fs.epoch } ∧
      t.frame tile g = s.frame tile g ∧ (t.tile tile).xl.commits = [] ∧ Only [.tiles, .reg] s t)) ∧
  (∀ (s : State) (tile seg latNs : Nat), s.alive tile = true → tile < 8 → s.noWork = true → (s.tile tile).txn.haz = [] →
    (s.tile tile).txn.locks.contains seg = true → s.commitOf tile seg = none →
    Completes (.segmentLockRelease tile seg latNs) s (fun t => (t.tile tile).txn = { (s.tile tile).txn with locks := (s.tile tile).txn.locks.filter (· != seg) } ∧
      (t.tile tile).fs = (s.tile tile).fs ∧ (t.tile tile).xl = (s.tile tile).xl ∧ Only [.tiles] s t)) ∧
  (∀ (s : State) (tile f : Nat) (hard : Bool), s.noWork = true → agetD f 0 (s.tile tile).fs.tagFlips = 0 →
    Completes (.tagScan tile f { hard := hard }) s (fun t => t = s)) ∧
  (∀ (s : State) (tile f g bits : Nat), s.alive tile = true → tile < 8 → s.noWork = true → s.regBit Reg.FS_CTL 0 = true → 0 < bits → bits < 2 ^ 36 →
    (s.tile tile).fs.tagFlips = [] → s.tagWrong (Nat.xor (s.tagWord tile f) bits) = true → agetD (65 * f + 64) 0 (s.tile tile).fs.lineFlips = 0 →
    Completes (.tagScan tile f { tagBits := bits }) s (fun t => t.frame tile g = s.frame tile g ∧ (t.tile tile).fs.withdrawn = (s.tile tile).fs.withdrawn ∧
      t.getReg (Reg.FS_ERR_FRAME tile) = BitVec.ofNat 32 f ∧ t.regBit (Reg.FS_ERR_STATUS tile) 0 = true ∧ Only (.tiles :: logParts) s t))

/-- FS_FLUSH_ALL and FS_FLUSH_RANGE with nothing dirty end at once with zeros; a Dirty frame's commit starts and the command waits for
it. FS_INVALIDATE_RANGE makes a Clean frame Invalid. FS_DISABLE with no tile enabled ends with zeros; else every tile drains.
FS_DRAIN_COMPLETE disables the tile and drops its Clean frames; with the last one FS_DISABLE ends with its counts. FS_ENABLE enables
every tile and answers WAYS. FS_WAYS_APPLY with the last tile applies WAYS_NEXT. FS_SET_WAYS sets WAYS_NEXT; FS_SET_DIRTY_LIMIT sets the cap
of the masked tiles and answers the limit. Each leaves what it does not name. Completes: fsFlushAll, fsFlushRange, fsInvalidateRange, fsDisable,
fsDrainComplete, fsEnable, fsWaysApply, fsSetWays, fsSetDirtyLimit. -/
def Obligations.FrontStoreCommands : Prop :=
  (∀ (s : State) (pc : PortCmd), s.accepts pc 0x0100 false = true → s.md.operating = true → s.noWork = true →
    s.flushList [(0, s.segs * s.pop.tiles)] = [] →
    Completes (.fsFlushAll pc) s (fun t => t.resultOf pc = some (succeeded [(32, 0), (32, 0)]) ∧ Only [.porter] s t)) ∧
  (∀ (s : State) (pc : PortCmd) (tile f g : Nat), s.accepts pc 0x0100 false = true → s.md.operating = true → s.noWork = true →
    s.flushList [(0, s.segs * s.pop.tiles)] = [(tile, (s.frame tile f).seg, 1)] → s.findFrame tile (s.frame tile f).seg = some f →
    s.commitFree tile f = true → (s.frame tile f).valid = allLines → g ≠ f →
    Completes (.fsFlushAll pc) s (fun t => t.committing tile f = true ∧ (t.frame tile f).lines = (s.frame tile f).lines ∧ t.frame tile g = s.frame tile g ∧
      t.underWay pc = true ∧ Only [.porter, .jobs, .tiles, .outbox] s t)) ∧
  (∀ (s : State) (pc : PortCmd) (start length tile f g : Nat), s.accepts pc 0x0101 false = true → s.ringPriv pc.ring = true → s.md.operating = true → s.noWork = true →
    start % 4096 = 0 → length % 4096 = 0 → 0 < length → start + length ≤ s.pkgBlocks * 2 ^ 28 →
    s.flushList [(start / 4096, length / 4096)] = [(tile, (s.frame tile f).seg, 1)] → s.findFrame tile (s.frame tile f).seg = some f →
    s.commitFree tile f = true → (s.frame tile f).valid = allLines → g ≠ f →
    Completes (.fsFlushRange pc 0 true start length) s (fun t => t.committing tile f = true ∧ (t.frame tile f).lines = (s.frame tile f).lines ∧
      t.frame tile g = s.frame tile g ∧ t.underWay pc = true ∧ Only [.porter, .jobs, .tiles, .outbox] s t)) ∧
  (∀ (s : State) (pc : PortCmd) (ld : Nat) (pkg : Bool) (length : Nat), s.accepts pc 0x0101 false = true → s.ringPriv pc.ring = true → s.md.operating = true →
    s.presents (s.ring pc.ring).head ld = true →
    Completes (.fsFlushRange pc ld pkg 1 length) s (fun t => t.resultOf pc = some { status := Status.invalidField.code, detail := 2 } ∧ Only [.porter] s t)) ∧
  (∀ (s : State) (pc : PortCmd) (start length tile f g : Nat), s.accepts pc 0x0102 true = true → s.md.sdService = true → s.noWork = true →
    start % 4096 = 0 → length % 4096 = 0 → 0 < length → start + length ≤ s.pkgBlocks * 2 ^ 28 → tile < 8 →
    (s.aliveTiles.map (fun t => (s.spanFrames t [(start / 4096, length / 4096)]).map (fun e => (t, e.2, 0)))).flatten = [(tile, (s.frame tile f).seg, 0)] →
    s.findFrame tile (s.frame tile f).seg = some f → (s.frame tile f).st = .clean → g ≠ f →
    Completes (.fsInvalidateRange pc 0 true start length) s (fun t => (t.frame tile f).st = .invalid ∧ t.frame tile g = s.frame tile g ∧
      (t.tile tile).xl = (s.tile tile).xl ∧ (t.tile tile).med = (s.tile tile).med ∧ t.resultOf pc = some (succeeded [(32, 0), (32, 1), (32, 0)]) ∧
      Only [.porter, .tiles] s t)) ∧
  (∀ (s : State) (pc : PortCmd), s.accepts pc 0x0103 true = true → s.md.sdService = true → s.md.sealed = 0 → s.jobs.fsDisable = none →
    s.aliveTiles.all (fun t => (s.tile t).fs.mode == .disabled) = true →
    Completes (.fsDisable pc) s (fun t => t.resultOf pc = some (succeeded [(32, 0), (32, 0)]) ∧ Only [.porter] s t)) ∧
  (∀ (s : State) (pc : PortCmd) (tile f : Nat), s.accepts pc 0x0103 true = true → s.md.sdService = true → s.md.sealed = 0 → s.jobs.fsDisable = none →
    s.aliveTiles.contains tile = true → tile < 8 → (s.tile tile).fs.mode = .enabled →
    Completes (.fsDisable pc) s (fun t => (t.tile tile).fs.mode = .draining ∧ (t.tile tile).fs.drain = s.dirtyOrder tile ∧ t.frame tile f = s.frame tile f ∧
      t.jobs.fsDisable = some (pc.ring, pc.cid) ∧ t.underWay pc = true ∧ Only [.porter, .jobs, .tiles] s t)) ∧
  (∀ (s : State) (tile f : Nat), s.alive tile = true → tile < 8 → (s.tile tile).fs.mode = .draining →
    (s.tile tile).fs.drain.any (fun d => (s.frame tile d).countsDirty) = false → aget f (s.tile tile).fs.frames = some (s.frame tile f) →
    (s.tile tile).fs.frames.length = 1 →
    Completes (.fsDrainComplete tile) s (fun t => (t.tile tile).fs.mode = .disabled ∧
      t.frame tile f = (if (s.frame tile f).st = .clean then { st := .invalid, seg := 0 } else s.frame tile f) ∧
      (t.tile tile).xl = (s.tile tile).xl ∧ Only (.jobs :: .tiles :: logParts) s t)) ∧
  (∀ (s : State) (tile r c : Nat), s.aliveTiles = [tile] → tile < 8 → (s.tile tile).fs.mode = .draining →
    (s.tile tile).fs.drain.any (fun d => (s.frame tile d).countsDirty) = false → s.jobs.fsDisable = some (r, c) → r < 64 →
    (s.ring r).execs = [{ cid := c, opcode := 0x0103 }] →
    Completes (.fsDrainComplete tile) s (fun t => t.resultOf { ring := r, cid := c } =
      some (succeeded [(32, (s.tile tile).fs.drained), (32, (s.tile tile).fs.through)]) ∧ t.jobs.fsDisable = none)) ∧
  (∀ (s : State) (pc : PortCmd) (tile f : Nat), s.accepts pc 0x0104 true = true → s.md.sdService = true → s.jobs.fsDisable = none → s.jobs.waysNext = s.jobs.ways →
    s.aliveTiles.contains tile = true → (s.tile tile).fs.mode = .disabled →
    Completes (.fsEnable pc) s (fun t => (t.tile tile).fs.mode = .enabled ∧ t.frame tile f = s.frame tile f ∧
      t.jobs = s.jobs ∧ Only (.tiles :: logParts) s t)) ∧
  (∀ (s : State) (pc : PortCmd), s.accepts pc 0x0104 true = true → s.md.sdService = true → s.jobs.fsDisable = none →
    s.aliveTiles.all (fun t => (s.tile t).fs.mode == .enabled) = true →
    Completes (.fsEnable pc) s (fun t => t.resultOf pc = some (succeeded [(2, s.jobs.ways)]) ∧ Only [.porter] s t)) ∧
  (∀ (s : State) (tile : Nat), s.aliveTiles.contains tile = true → tile < 8 → (s.tile tile).fs.waysWait = true → (s.tile tile).fs.frames = [] →
    s.aliveTiles.all (fun u => u == tile || !(s.tile u).fs.waysWait) = true →
    Completes (.fsWaysApply tile) s (fun t => t.jobs.ways = s.jobs.waysNext ∧ (t.tile tile).fs.mode = .enabled ∧ (t.tile tile).fs.waysWait = false ∧
      t.jobs.fsEnable = none ∧ Only (.jobs :: .tiles :: logParts) s t)) ∧
  (∀ (s : State) (pc : PortCmd) (ways : Nat), s.accepts pc 0x0105 true = true → s.md.inService = true → ways < 4 →
    s.aliveTiles.all (fun t => (s.tile t).fs.mode == .disabled) = true →
    Completes (.fsSetWays pc ways false) s (fun t => t.jobs = { s.jobs with waysNext := ways } ∧ t.resultOf pc = some (succeeded []) ∧
      Only [.porter, .jobs] s t)) ∧
  (∀ (s : State) (pc : PortCmd) (ways tile : Nat), s.accepts pc 0x0105 true = true → s.md.inService = true → s.aliveTiles.contains tile = true →
    (s.tile tile).fs.mode ≠ .disabled →
    Completes (.fsSetWays pc ways true) s (fun t => t.resultOf pc = some { status := Status.wrongMode.code, detail := s.md.mode.code } ∧ Only [.porter] s t)) ∧
  (∀ (s : State) (pc : PortCmd) (cap tile : Nat), s.accepts pc 0x0106 true = true → s.md.operating = true → tile < s.pop.tiles → tile < 8 → s.present.filter (bitOf (2 ^ tile)) = [tile] →
    Completes (.fsSetDirtyLimit pc (2 ^ tile) cap false) s (fun t => (t.tile tile).fs = { (s.tile tile).fs with cap := cap } ∧
      t.effLimit tile = min (s.tile tile).fs.measured (min (min cap (framesOf s.pop)) (s.framesAvail tile)) ∧ Only (.tiles :: logParts) s t))

/-- CA_COMMAND_REJECT counts and sends the rejected command again; the third in a row stops reads until the CA retrain, which READ_RETRAIN ends, sending the
command again; a read retrain by temperature notes the temperature. STATUS_POLL polls. STATUS_REPLY notes a suspended operation; a third wrong SIGNATURE marks the die failed;
the DONE of every die ends the program of its plane, whose page is on the medium. A suspension that completes, or whose limit expires, marks the operation and issues the read;
RESUME_ISSUE lets a program or a clear go on, and notes the first time that it was suspended for longer than R186 allows. MEDIA_READ_DATA
without an error answers the host with the page's line. CALIBRATION_PAGE_WRITE starts its program. Other content stays. Completes: caCommandReject, readRetrain,
statusPoll, statusReply, suspendComplete, suspendLimitExpire, resumeIssue, mediaReadData, calibrationPageWrite. -/
def Obligations.MediaChannels : Prop :=
  (∀ (s : State) (tile ch rank : Nat) (cmd : CaCmd), s.alive tile = true → tile < 8 → ch < 8 → (s.chan tile ch).st = 2 → (s.chan tile ch).caWait = false →
    (s.chan tile ch).last = some (rank, cmd) → (s.chan tile ch).rejects < 2 →
    Completes (.caCommandReject tile ch) s (fun t => t.chan tile ch = { s.chan tile ch with rejects := (s.chan tile ch).rejects + 1 } ∧
      t.regBit (Reg.MED_CH_ERR_STATUS tile + 0x10 * ch) 4 = true ∧ t.fld (Reg.MED_CH_COUNT tile + 0x10 * ch) 15 0 = min 0xFFFF (s.fld (Reg.MED_CH_COUNT tile + 0x10 * ch) 15 0 + 1) ∧
      t.outbox.getLast? = some (.media tile ch rank cmd.words) ∧ s.othersKept t tile = true ∧ Only (.tiles :: logParts) s t)) ∧
  (∀ (s : State) (tile ch rank r : Nat) (cmd : CaCmd), s.alive tile = true → tile < 8 → ch < 8 → (s.chan tile ch).st = 2 → (s.chan tile ch).caWait = false →
    (s.chan tile ch).last = some (rank, cmd) → (s.chan tile ch).rejects = 2 → r < 4 → bitOf (s.chan tile ch).ranks r = true →
    Completes (.caCommandReject tile ch) s (fun t => t.chan tile ch = { s.chan tile ch with rejects := 0, caWait := true } ∧
      t.regBit (Reg.MED_CH_ERR_STATUS tile + 0x10 * ch) 3 = true ∧ t.outbox.contains (.media tile ch r (CaCmd.calibrate 1).words) = true ∧
      s.othersKept t tile = true ∧ Only (.tiles :: logParts) s t)) ∧
  (∀ (s : State) (tile ch rank : Nat) (cmd : CaCmd), s.alive tile = true → tile < 8 → ch < 8 → (s.chan tile ch).st = 2 → (s.chan tile ch).caWait = true →
    (s.chan tile ch).reads = [] → s.noneWait tile = true → (s.chan tile ch).last = some (rank, cmd) →
    Completes (.readRetrain tile ch) s (fun t => t.chan tile ch = { s.chan tile ch with caWait := false } ∧
      Sends s t [.media tile ch rank cmd.words] ∧ s.othersKept t tile = true ∧ Only [.tiles, .reg, .outbox] s t)) ∧
  (∀ (s : State) (tile ch d r : Nat) (now old : Int), s.alive tile = true → tile < 8 → ch < 8 → (s.chan tile ch).st = 2 → (s.chan tile ch).caWait = false →
    s.retrainDt tile = some d → (s.chan tile ch).trainTemp = some old → (s.chTemp tile ch).1 = now → d ≤ (now - old : Int).natAbs → r < 4 →
    bitOf (s.chan tile ch).ranks r = true →
    Completes (.readRetrain tile ch) s (fun t => t.chan tile ch = { s.chan tile ch with trainTemp := some now } ∧
      t.regBit (Reg.MED_CH_ERR_STATUS tile + 0x10 * ch) 3 = true ∧ t.outbox.contains (.media tile ch r (CaCmd.calibrate 2).words) = true ∧
      s.othersKept t tile = true ∧ Only (.tiles :: logParts) s t)) ∧
  (∀ (s : State) (tile ch rank : Nat), s.alive tile = true → tile < 8 → ch < 8 → (s.chan tile ch).st = 2 → bitOf (s.chan tile ch).ranks rank = true →
    Completes (.statusPoll tile ch rank) s (fun t => t.chan tile ch = { s.chan tile ch with last := some (rank, .status), rejects := 0 } ∧
      Sends s t [.media tile ch rank CaCmd.status.words] ∧ s.othersKept t tile = true ∧ Only [.tiles, .outbox] s t)) ∧
  (∀ (s : State) (tile ch rank d : Nat) (replies : List Nat) (o : MedOp) (q : MedRead), s.alive tile = true → tile < 8 → ch < 8 → s.noWork = true →
    (s.chan tile ch).st = 2 → bitOf (s.chan tile ch).ranks rank = true → (s.chan tile ch).ops = [o] → (s.chan tile ch).reads = [q] → locRank o.loc = rank →
    planeNo q.loc = planeNo o.loc → q.st = .suspend → o.job ≠ .clear → o.susp = false → (s.chan tile ch).doneSeen = [] →
    replies.length = 9 → replies.all (fun w => replySig w == 0xA && replyDone w == 0) = true → d < 9 → bitOf (agetD rank 0 (s.chan tile ch).dead) d = false →
    bitOf (replyProgSusp (replies.getD d 0)) (locPlane o.loc) = true →
    Completes (.statusReply tile ch rank replies) s (fun t => (t.chan tile ch).ops = [{ o with susp := true, susps := o.susps + 1 }] ∧ (t.chan tile ch).reads = [q] ∧
      (t.chan tile ch).dead = (s.chan tile ch).dead ∧ (t.tile tile).med.pages = (s.tile tile).med.pages ∧ (t.tile tile).xl = (s.tile tile).xl ∧
      s.othersKept t tile = true ∧ Only [.tiles] s t)) ∧
  (∀ (s : State) (tile ch rank die : Nat) (replies : List Nat), s.alive tile = true → tile < 8 → ch < 8 → (s.chan tile ch).st = 2 →
    bitOf (s.chan tile ch).ranks rank = true → die < 9 → agetD rank 0 (s.chan tile ch).dead = 0 → agetD (9 * rank + die) 0 (s.chan tile ch).sigBad = 2 →
    replies.length = 9 → (List.range 9).all (fun d => (replySig (replies.getD d 0) == 0xA) != (d == die) && replyDone (replies.getD d 0) == 0) = true →
    (s.chan tile ch).doneSeen = [] →
    Completes (.statusReply tile ch rank replies) s (fun t => agetD rank 0 (t.chan tile ch).dead = 2 ^ die ∧
      (t.chan tile ch).fenced = (s.chan tile ch).fenced ∧ t.regBit (Reg.MED_CH_ERR_STATUS tile + 0x10 * ch) 0 = true)) ∧
  (∀ (s : State) (tile ch rank cal k : Nat) (replies : List Nat) (o : MedOp) (pg : Page), s.alive tile = true → tile < 8 → ch < 8 → s.noWork = true →
    (s.chan tile ch).st = 2 → bitOf (s.chan tile ch).ranks rank = true → (s.chan tile ch).ops = [o] → locCh o.loc = ch → locRank o.loc = rank →
    o.job = .calib cal → o.page = some pg → o.susp = false → (s.tile tile).xl.commits = [] → (s.chan tile ch).doneSeen = [] → agetD rank 0 (s.chan tile ch).dead = 0 →
    replies.length = 9 → replies.all (fun w => replySig w == 0xA && replyDone w == 2 ^ locPlane o.loc && replyFail w == 0) = true → k ≠ o.loc →
    Completes (.statusReply tile ch rank replies) s (fun t => aget o.loc (t.tile tile).med.pages = some pg ∧
      aget k (t.tile tile).med.pages = aget k (s.tile tile).med.pages ∧ (t.chan tile ch).ops = [] ∧ (t.tile tile).xl.map = (s.tile tile).xl.map)) ∧
  (∀ (s : State) (tile ch : Nat) (o : MedOp) (q : MedRead), s.alive tile = true → tile < 8 → ch < 8 → (s.chan tile ch).ops = [o] → (s.chan tile ch).reads = [q] →
    planeNo q.loc = planeNo o.loc → locCh q.loc = ch → q.st = .suspend → o.susp = false → (s.chan tile ch).caWait = false →
    Completes (.suspendComplete tile ch) s (fun t => (t.chan tile ch).ops = [{ o with susp := true, susps := o.susps + 1 }] ∧
      (t.chan tile ch).reads.map (fun r => (r.id, r.st)) = [(q.id, RdSt.array)] ∧
      t.outbox.getLast? = some (.media tile ch (locRank q.loc) (readCmd q.loc q.line 1 (s.readOffs tile q.loc ((aget q.loc (s.tile tile).med.pages).getD { kind := .host })).1).words) ∧
      (t.tile tile).med.pages = (s.tile tile).med.pages ∧ (t.tile tile).xl.map = (s.tile tile).xl.map)) ∧
  (∀ (s : State) (tile ch : Nat) (o : MedOp) (q : MedRead), s.alive tile = true → tile < 8 → ch < 8 → (s.chan tile ch).ops = [o] → (s.chan tile ch).reads = [q] →
    ((s.tile tile).med.chans.toList.map (·.reads)).flatten = [q] → planeNo q.loc = planeNo o.loc → locCh q.loc = ch → q.st = .suspend → o.susp = false → (s.chan tile ch).caWait = false →
    Completes (.suspendLimitExpire tile q.id) s (fun t => (t.chan tile ch).ops = [{ o with susp := true, susps := o.susps + 1 }] ∧
      (t.chan tile ch).reads.map (fun r => (r.id, r.st)) = [(q.id, RdSt.array)] ∧
      t.outbox.getLast? = some (.media tile ch (locRank q.loc) (readCmd q.loc q.line 1 (s.readOffs tile q.loc ((aget q.loc (s.tile tile).med.pages).getD { kind := .host })).1).words) ∧
      (t.tile tile).med.pages = (s.tile tile).med.pages ∧ (t.tile tile).xl.map = (s.tile tile).xl.map)) ∧
  (∀ (s : State) (tile suspUs : Nat) (o : MedOp), s.alive tile = true → tile < 8 → (s.chan tile (locCh o.loc)).ops = [o] → (s.chan tile (locCh o.loc)).reads = [] →
    (s.chan tile (locCh o.loc)).caWait = false → o.susp = true → o.job ≠ .clear → o.suspUs + suspUs ≤ 1000 →
    Completes (.resumeIssue tile o.loc suspUs) s (fun t => (t.chan tile (locCh o.loc)).ops = [{ o with susp := false, suspUs := o.suspUs + suspUs }] ∧
      Sends s t [.media tile (locCh o.loc) (locRank o.loc) (CaCmd.resume (locPlane o.loc) true).words] ∧ (t.tile tile).xl = (s.tile tile).xl ∧
      s.othersKept t tile = true ∧ Only [.tiles, .outbox] s t)) ∧
  (∀ (s : State) (tile suspUs : Nat) (o : MedOp), s.alive tile = true → tile < 8 → (s.chan tile (locCh o.loc)).ops = [o] → (s.chan tile (locCh o.loc)).reads = [] →
    (s.chan tile (locCh o.loc)).caWait = false → o.susp = true → o.job ≠ .clear → o.stretched = false → 1000 < o.suspUs + suspUs →
    Completes (.resumeIssue tile o.loc suspUs) s (fun t => (t.chan tile (locCh o.loc)).ops = [{ o with susp := false, suspUs := o.suspUs + suspUs, stretched := true }] ∧
      t.regBit (Reg.MED_CH_ERR_STATUS tile + 0x10 * locCh o.loc) 7 = true ∧ s.othersKept t tile = true ∧ Only (.tiles :: logParts) s t)) ∧
  (∀ (s : State) (tile suspUs : Nat) (o : MedOp), s.alive tile = true → tile < 8 → (s.chan tile (locCh o.loc)).ops = [o] → (s.chan tile (locCh o.loc)).reads = [] →
    (s.chan tile (locCh o.loc)).caWait = false → o.susp = true → o.job = .clear → s.md.mode ≠ .holdup → s.clearMay tile o = some false → o.suspUs + suspUs ≤ 60000 →
    Completes (.resumeIssue tile o.loc suspUs) s (fun t => (t.chan tile (locCh o.loc)).ops = [{ o with susp := false, suspUs := o.suspUs + suspUs }] ∧
      Sends s t [.media tile (locCh o.loc) (locRank o.loc) (CaCmd.resume (locPlane o.loc) false).words] ∧ s.othersKept t tile = true ∧ Only [.tiles, .outbox] s t)) ∧
  (∀ (s : State) (tile latNs : Nat) (q : MedRead) (h : Haz) (pg : Page) (plain : Line × Bool), s.alive tile = true → tile < 8 →
    ((s.tile tile).med.chans.toList.map (·.reads)).flatten = [q] → q.st = .array → (s.chan tile (locCh q.loc)).reads = [q] →
    (s.tile tile).txn.haz = [h] → h.req.id = q.id → h.req.kind = .rd → h.req.head = tile → s.trk tile q.id = some h.req → s.queued tile q.id = false → (s.head tile).drs = none →
    (s.tile tile).int.armed = [] → aget q.loc (s.tile tile).med.pages = some pg → pg.flips = [] →
    s.deadDies tile q.loc = 0 → s.fromMedium (s.slotOf tile h.seg) (s.segOf tile h.seg) q.line (pg.lines.getD q.line 0) = plain →
    Completes (.mediaReadData tile q.id { line := q.line } [] latNs) s (fun t => answered s t tile h.req.tag (some plain.1) plain.2 = true ∧
      (t.tile tile).txn.haz = [] ∧ (t.chan tile (locCh q.loc)).reads = [] ∧ (t.tile tile).med.pages = (s.tile tile).med.pages ∧
      (t.tile tile).fs = (s.tile tile).fs ∧ (t.tile tile).xl.map = (s.tile tile).xl.map)) ∧
  (∀ (s : State) (tile ch rank act other used : Nat), s.alive tile = true → tile < 8 → ch < 8 → (s.chan tile ch).st = 2 → bitOf (s.chan tile ch).ranks rank = true →
    s.md.mode = .bringup → s.calDue tile ch rank = true → s.pw.seq ≠ .fastDown →
    agetD rank (planeBase (ch + 32 * rank), planeBase (ch + 32 * rank) + 1) (s.chan tile ch).calBlocks = (act, other) →
    agetD rank 0 (s.chan tile ch).calUsed = used → (s.blk tile act).st ≠ .retired → used < 96 → s.planeFree tile (ch + 32 * rank) = true →
    (s.chan tile ch).ops.all (fun o => locBlk o.loc != act) = true → locCh (act * 256 + used) = ch →
    Completes (.calibrationPageWrite tile ch rank) s (fun t => (t.chan tile ch).ops.map (fun o => (o.loc, o.job)) =
        (s.chan tile ch).ops.map (fun o => (o.loc, o.job)) ++ [(act * 256 + used, .calib rank)] ∧
      agetD rank 0 (t.chan tile ch).calUsed = used + 1 ∧ bitOf (t.chan tile ch).calBoot rank = true ∧ (t.tile tile).med.pages = (s.tile tile).med.pages ∧
      (t.tile tile).xl.map = (s.tile tile).xl.map ∧ s.othersKept t tile = true ∧ Only [.tiles, .outbox] s t))

/-- PROGRAM_DONE of a passed program puts exactly its page on the medium; where the stripe has no Cupola parity and no Caravan, a
host commit then reaches step 5: the map names the page. CLEAR_DONE takes every page of the block off the medium, counts
the clear and keeps every other page. A failed or timed-out clear retires the block and keeps the medium; a failed program puts no page there; an operation that is
suspended runs no time. Completes: programDone, clearDone, opActiveTimeout. -/
def Obligations.ProgramsAndClears : Prop :=
  (∀ (s : State) (tile loc f k : Nat) (o : MedOp) (pg : Page) (c : Commit), s.alive tile = true → tile < 8 → s.noWork = true → s.opAt tile loc false = some o →
    o.job = .host f → o.page = some pg → (s.tile tile).xl.commits = [c] → c.loc = some loc → c.job = .host f → c.step = .program → c.poison = false →
    (s.frame tile f).st = .writing → (s.frame tile f).seg = c.seg →
    s.stripeOf tile c.seg = none → s.carDataRow (s.segOf tile c.seg) = none → (s.mapOf tile c.seg).st ≠ .lost → s.jroom tile = true → k ≠ loc →
    Completes (.programDone tile loc true) s (fun t => aget loc (t.tile tile).med.pages = some pg ∧ aget k (t.tile tile).med.pages = aget k (s.tile tile).med.pages ∧
      agetD c.seg {} (t.tile tile).xl.map = { st := .mapped, loc := loc } ∧ (t.commitOf tile c.seg).map (·.step) = some .done ∧
      (t.tile tile).fs.frames = (s.tile tile).fs.frames ∧ (t.tile tile).xl.jtail = (s.tile tile).xl.jtail ++ [.commit c.seg { st := .mapped, loc := loc }])) ∧
  (∀ (s : State) (tile loc rank k : Nat) (o : MedOp) (pg : Page), s.alive tile = true → tile < 8 → s.noWork = true → s.opAt tile loc false = some o →
    o.job = .calib rank → o.page = some pg → (s.tile tile).xl.commits = [] → k ≠ loc →
    Completes (.programDone tile loc true) s (fun t => aget loc (t.tile tile).med.pages = some pg ∧ aget k (t.tile tile).med.pages = aget k (s.tile tile).med.pages ∧
      (t.chan tile (locCh loc)).calUsed = (s.chan tile (locCh loc)).calUsed ∧ (t.chan tile (locCh loc)).ops.contains o = false ∧
      (t.tile tile).xl.map = (s.tile tile).xl.map)) ∧
  (∀ (s : State) (tile loc k b : Nat) (o : MedOp), s.alive tile = true → tile < 8 → s.noWork = true → s.opAt tile loc true = some o → locBlk loc = b →
    (s.tile tile).xl.commits = [] → (s.blk tile b).clears + 1 < s.fld Reg.XL_WEAR_LIMITS 15 0 * 10000 →
    Completes (.clearDone tile loc true) s (fun t => aget k (t.tile tile).med.pages = (if locBlk k = b then none else aget k (s.tile tile).med.pages) ∧
      (t.blk tile b).clears = (s.blk tile b).clears + 1 ∧ (t.chan tile (locCh loc)).ops.contains o = false ∧ (t.tile tile).xl.map = (s.tile tile).xl.map)) ∧
  (∀ (s : State) (tile loc b : Nat) (o : MedOp), s.alive tile = true → tile < 8 → s.noWork = true → s.opAt tile loc true = some o → locBlk loc = b →
    (s.tile tile).xl.commits = [] → (s.blk tile b).st = .pending →
    Completes (.clearDone tile loc false) s (fun t => (t.blk tile b).st = .retired ∧ (t.blk tile b).cause = 4 ∧ (t.tile tile).med.pages = (s.tile tile).med.pages ∧
      (t.tile tile).xl.spare = (s.tile tile).xl.spare - 1 ∧ (t.tile tile).xl.map = (s.tile tile).xl.map)) ∧
  (∀ (s : State) (tile loc b : Nat) (o : MedOp), s.alive tile = true → tile < 8 → s.noWork = true → s.opAt tile loc true = some o → locBlk loc = b → o.susp = false →
    (s.tile tile).xl.commits = [] → (s.blk tile b).st = .pending →
    Completes (.opActiveTimeout tile loc true) s (fun t => (t.blk tile b).st = .retired ∧ (t.tile tile).med.pages = (s.tile tile).med.pages ∧
      (t.tile tile).xl.spare = (s.tile tile).xl.spare - 1 ∧ (t.tile tile).xl.map = (s.tile tile).xl.map)) ∧
  (∀ (s : State) (tile loc rank b : Nat) (o : MedOp), s.alive tile = true → tile < 8 → s.noWork = true → s.opAt tile loc false = some o → locBlk loc = b → o.susp = false →
    o.job = .calib rank → (s.tile tile).xl.commits = [] → (s.blk tile b).st = .ring →
    Completes (.opActiveTimeout tile loc false) s (fun t => (t.blk tile b).st = .retired ∧ (t.blk tile b).cause = 2 ∧
      (t.tile tile).med.pages = (s.tile tile).med.pages ∧ (t.chan tile (locCh loc)).ops.contains o = false ∧ (t.tile tile).xl.map = (s.tile tile).xl.map)) ∧
  (∀ (s : State) (tile loc : Nat) (o : MedOp) (clear : Bool), s.opAt tile loc clear = some o → o.susp = true → Completes (.opActiveTimeout tile loc clear) s (fun t => t = s))

/-- GDDR7_DEVICE_FAULT starts the rebuild of the whole map; each MAP_REBUILD_STEP moves it on, and the last ends it. GC_BATCH_START
starts a batch on its victim, with its valid pages in order; WEAR_MOVE_START one to the COLD frontier. COPY_PAGE programs the page's lines to the frontier and
marks the entry RELOCATING; a page that the map no longer names is passed over. COPY_BATCH_END names the copy in the map. BLOCK_CLEAR_START
starts the clear. JOURNAL_TIMER_EXPIRE and JOURNAL_PAGE_PROGRAM program the page where its plane is free. CHECKPOINT_CAPTURE captures the next index. FENCED_RANK_WALK
turns uncovered segments of the rank POISONED. Nothing here changes a page on the medium, nor another tile but for its counters. Completes: gddr7DeviceFault,
mapRebuildStep, gcBatchStart, wearMoveStart, copyPage, copyBatchEnd, blockClearStart, journalTimerExpire, journalPageProgram, checkpointCapture,
fencedRankWalk. -/
def Obligations.MediaManagement : Prop :=
  (∀ (s : State) (tile : Nat), s.alive tile = true → tile < 8 → (s.tile tile).xl.mapState ≠ 0 →
    Completes (.gddr7DeviceFault tile) s (fun t => (t.tile tile).xl.mapState = 2 ∧ (t.tile tile).xl.rebuildAt = some 0 ∧ bitOf t.md.causes 5 = true ∧
      (t.tile tile).xl.map = (s.tile tile).xl.map ∧ (t.tile tile).med = (s.tile tile).med ∧ (t.tile tile).fs.frames = (s.tile tile).fs.frames ∧ s.othersKept t tile = true)) ∧
  (∀ (s : State) (tile n lines ms : Nat), s.alive tile = true → tile < 8 → s.md.mode ≠ .holdup → (s.tile tile).xl.rebuildAt = some n → n + lines < s.segs / 16 →
    Completes (.mapRebuildStep tile lines ms) s (fun t => (t.tile tile).xl.rebuildAt = some (n + lines) ∧ (t.tile tile).xl.mapState = (s.tile tile).xl.mapState ∧
      (t.tile tile).xl.map = (s.tile tile).xl.map ∧ s.othersKept t tile = true ∧ Only [.tiles] s t)) ∧
  (∀ (s : State) (tile n lines ms : Nat), s.alive tile = true → tile < 8 → s.md.mode ≠ .holdup → (s.tile tile).xl.rebuildAt = some n → s.segs / 16 ≤ n + lines →
    s.aliveTiles.all (fun u => u == tile || (s.tile u).xl.rebuildAt.isNone) = true →
    Completes (.mapRebuildStep tile lines ms) s (fun t => (t.tile tile).xl.rebuildAt = none ∧ (t.tile tile).xl.mapState = 1 ∧ bitOf t.md.causes 5 = false ∧
      (t.tile tile).xl.map = (s.tile tile).xl.map ∧ (t.tile tile).med = (s.tile tile).med ∧ s.othersKept t tile = true)) ∧
  (∀ (s : State) (tile plane v : Nat), s.mayMaintain tile = true → tile < 8 → plane < s.planes → (s.tile tile).xl.compaction = 0 →
    ((s.gcJudge tile plane).tile tile).xl.gcActive.contains plane = true → (s.tile tile).xl.batches = [] → s.sectorBudget tile 5 (plane % 8) = none →
    s.planeUrgent tile plane = true → s.gcVictim tile plane = some v → (s.blk tile v).st = .full →
    Completes (.gcBatchStart tile plane) s (fun t => (t.tile tile).xl.batches = [{ src := v, plane := blkPlane v, target := 1, left := s.pagesInOrder tile v }] ∧
      (t.blk tile v).st = .copying ∧ (t.tile tile).bel.overrideTurn = true ∧ (t.tile tile).xl.map = (s.tile tile).xl.map ∧
      (t.tile tile).med = (s.tile tile).med ∧ s.othersKept t tile = true ∧ Only (.tiles :: logParts) s t)) ∧
  (∀ (s : State) (tile b : Nat), s.mayMaintain tile = true → tile < 8 → (s.tile tile).xl.batches = [] →
    1000 * s.fld Reg.XL_WEAR_LIMITS 31 16 < s.maxClears tile - s.minClears tile → s.maxClears tile - s.minClears tile ≤ 2000 * s.fld Reg.XL_WEAR_LIMITS 31 16 →
    pickBy false (fun k => (s.blk tile k).clears) (((s.tile tile).xl.blocks.filter (fun e => e.2.st == .full && decide (e.2.frontier < 3))).map (·.1)) = some b →
    (s.sectorBudget tile 4 (blkCh b)).isSome = true → (s.blk tile b).st = .full →
    Completes (.wearMoveStart tile) s (fun t => (t.tile tile).xl.batches = [{ src := b, plane := blkPlane b, target := 2, left := s.pagesInOrder tile b }] ∧
      (t.blk tile b).st = .copying ∧ (t.tile tile).xl.map = (s.tile tile).xl.map ∧ (t.tile tile).med = (s.tile tile).med ∧ s.othersKept t tile = true ∧ Only [.tiles] s t)) ∧
  (∀ (s : State) (tile seg loc : Nat) (b : Batch) (rest : List (Nat × Nat)) (errs : List LineErr), s.alive tile = true → tile < 8 → s.md.operating = true →
    bitOf s.md.sealed tile = false → (s.tile tile).xl.batches = [b] → b.left = (seg, loc) :: rest → b.busy = false → (s.mapRaw tile seg).loc ≠ loc →
    Completes (.copyPage tile b.src errs) s (fun t => (t.tile tile).xl = { (s.tile tile).xl with batches := [{ b with left := rest }] } ∧
      (t.tile tile).med = (s.tile tile).med ∧ s.othersKept t tile = true ∧ Only [.tiles] s t)) ∧
  (∀ (s : State) (tile seg loc k q : Nat) (b : Batch) (rest : List (Nat × Nat)) (pg : Page), s.alive tile = true → tile < 8 → s.md.operating = true →
    bitOf s.md.sealed tile = false → (s.tile tile).xl.batches = [b] → b.left = (seg, loc) :: rest → rest.all (fun e => e.1 != seg) = true → b.busy = false → b.refresh = false →
    s.mapRaw tile seg = { st := .mapped, loc := loc } → s.forcedBatch tile b.src = true → s.mediaFree tile loc = true → aget loc (s.tile tile).med.pages = some pg → pg.flips = [] → pg.hdr = true →
    (s.tile tile).int.armed = [] → s.deadDies tile loc = 0 → ((s.tile tile).xl.lastPlane + 1) % s.planes = q → q < s.planes → s.planeFree tile q = true →
    (s.front tile q b.target).cur = some k → blkPlane k = q → (s.blk tile k).used < 256 → (s.tile tile).xl.jpos < (s.blk tile k).resAt + 2 ^ 30 → s.pw.seq ≠ .fastDown →
    Completes (.copyPage tile b.src []) s (fun t => agetD seg {} (t.tile tile).xl.map = { st := .relocating, loc := loc } ∧
      (t.tile tile).xl.batches = [{ b with busy := true, left := rest }] ∧ (t.tile tile).med.pages = (s.tile tile).med.pages ∧
      (t.chan tile (locCh (k * 256 + (s.blk tile k).used))).ops.any (fun o => o.job == .copy b.src seg loc && o.loc == k * 256 + (s.blk tile k).used &&
        o.page.map (·.lines) == some pg.lines) = true ∧ s.othersKept t tile = true)) ∧
  (∀ (s : State) (tile seg old new k : Nat) (b : Batch), tile < 8 → s.alive tile = true → s.noWork = true → (s.tile tile).xl.batches = [b] → b.left = [] → b.busy = false →
    b.copied = [(seg, old, new)] → s.mapRaw tile seg = { st := .relocating, loc := old } → (s.tile tile).xl.commits = [] → k ≠ seg →
    Completes (.copyBatchEnd tile b.src) s (fun t => agetD seg {} (t.tile tile).xl.map = { st := .mapped, loc := new } ∧
      agetD k {} (t.tile tile).xl.map = agetD k {} (s.tile tile).xl.map ∧ (t.tile tile).xl.batches = [] ∧
      (t.tile tile).xl.jtail.take ((s.tile tile).xl.jtail.length + 1) = (s.tile tile).xl.jtail ++ [.move seg { st := .mapped, loc := new }] ∧ (t.tile tile).med.pages = (s.tile tile).med.pages ∧
      s.othersKept t tile = true)) ∧
  (∀ (s : State) (tile block i : Nat), s.mayMaintain tile = true → tile < 8 → s.clearReady tile block = true → s.clearPlaneFree tile block = true →
    s.sectorBudget tile 1 (blkCh block) = some i → (s.chan tile (blkCh block)).ops = [] → 0 < s.clearLimit tile (blkCh block) → blkCh block < 8 →
    Completes (.blockClearStart tile block) s (fun t => (t.chan tile (blkCh block)).ops = [{ loc := block * 256, job := .clear }] ∧
      Sends s t [.media tile (blkCh block) (locRank (block * 256)) (CaCmd.clear (locPlane (block * 256)) (block % 2 ^ 14)).words] ∧ (t.tile tile).med.pages = (s.tile tile).med.pages ∧
      s.othersKept t tile = true ∧ Only [.tiles, .outbox] s t)) ∧
  (∀ (s : State) (tile : Nat), s.alive tile = true → tile < 8 → (s.tile tile).xl.jsent < (s.tile tile).xl.jpos → s.pw.seq ≠ .fastDown →
    s.metaFree tile (s.jloc tile) = true →
    Completes (.journalTimerExpire tile) s (fun t => (t.tile tile).xl.jsent = (s.tile tile).xl.jsent + min 512 ((s.tile tile).xl.jpos - (s.tile tile).xl.jsent) ∧
      (t.chan tile (locCh (s.jloc tile))).ops.any (fun o => o.job == .journal (s.tile tile).xl.jsent && o.loc == s.jloc tile) = true ∧
      (t.tile tile).xl.map = (s.tile tile).xl.map ∧ (t.tile tile).med.pages = (s.tile tile).med.pages ∧
      s.othersKept t tile = true ∧ Only [.tiles, .outbox] s t)) ∧
  (∀ (s : State) (tile : Nat), s.alive tile = true → tile < 8 → (s.tile tile).xl.jurgent = true → (s.tile tile).xl.jsent < (s.tile tile).xl.jpos → s.pw.seq ≠ .fastDown →
    s.metaFree tile (s.jloc tile) = true →
    Completes (.journalPageProgram tile) s (fun t => (t.tile tile).xl.jsent = (s.tile tile).xl.jsent + min 512 ((s.tile tile).xl.jpos - (s.tile tile).xl.jsent) ∧
      (t.chan tile (locCh (s.jloc tile))).ops.any (fun o => o.job == .journal (s.tile tile).xl.jsent && o.loc == s.jloc tile) = true ∧
      (t.tile tile).xl.map = (s.tile tile).xl.map ∧ (t.tile tile).med.pages = (s.tile tile).med.pages ∧
      s.othersKept t tile = true ∧ Only [.tiles, .outbox] s t)) ∧
  (∀ (s : State) (tile : Nat), s.alive tile = true → tile < 8 → s.md.operating = true → (s.tile tile).xl.mapState ≠ 0 → s.jobs.ckpt = none → s.pw.seq ≠ .fastDown →
    (s.tile tile).med.chans.toList.all (fun c => c.ops.isEmpty) = true → (s.tile tile).xl.metaWait = [] → (s.tile tile).xl.ckptNo % s.ckptIdx < s.mapIdx →
    s.metaFree tile (s.ringLoc tile 0) = true →
    Completes (.checkpointCapture tile) s (fun t => (t.tile tile).xl.ckptNo = (s.tile tile).xl.ckptNo + 1 ∧
      (t.chan tile (locCh (s.ringLoc tile 0))).ops.map (fun o => (o.loc, o.job)) =
        [(s.ringLoc tile 0, .ckpt false false ((s.tile tile).xl.ckptNo % s.ckptIdx) (s.tile tile).xl.jpos)] ∧
      (t.tile tile).xl.map = (s.tile tile).xl.map ∧ (t.tile tile).med.pages = (s.tile tile).med.pages ∧
      s.othersKept t tile = true ∧ Only [.tiles, .outbox] s t)) ∧
  (∀ (s : State) (tile ch rank l upTo : Nat) (e : MapEnt), s.alive tile = true → tile < 8 → ch < 8 → rank < 4 → (s.tile tile).xl.mapState = 1 → s.jroom tile = true →
    aget (4 * ch + rank) (s.tile tile).xl.walks = some 0 → (s.tile tile).xl.map = [(l, e)] → e.st = .mapped → locCh e.loc = ch → locRank e.loc = rank →
    s.covered tile l = false → l < upTo → upTo < s.segs →
    Completes (.fencedRankWalk tile ch rank upTo) s (fun t => (t.tile tile).xl.map = [(l, { st := .poisoned })] ∧
      (t.tile tile).xl.jtail = (s.tile tile).xl.jtail ++ [.poison l] ∧ aget (4 * ch + rank) (t.tile tile).xl.walks = some upTo ∧ (t.tile tile).med = (s.tile tile).med ∧ s.othersKept t tile = true))

/-- DISCARD_RANGE and SECURE_DISCARD_RANGE of a range that holds nothing end with zeros; a mapped segment that neither Cupola nor
Caravan covers becomes DISCARDED with a record, its frame goes Invalid, no page leaves the medium yet, and the command waits for the
record. GET_WEAR writes the report. RETIRE_BLOCK retires a free block at once, copies the pages of a FULL one first, and answers
zero for one already retired. SET_WEAR_LIMIT sets the register within its range and changes no block, page or frame. MAP_CHECKPOINT waits until every index of its tiles is captured. Completes: discardRange, secureDiscardRange, getWear,
retireBlock, setWearLimit, mapCheckpoint. -/
def Obligations.TranslationCommands : Prop :=
  (∀ (s : State) (pc : PortCmd) (start length : Nat), s.accepts pc 0x0200 false = true → s.ringPriv pc.ring = true → s.md.sdService = true → s.noWork = true →
    start % 4096 = 0 → length % 4096 = 0 → 0 < length → start + length ≤ s.pkgBlocks * 2 ^ 28 →
    (s.aliveTiles.map (fun u => (s.spanSegs u [(start / 4096, length / 4096)]).map (fun d => (u, d, 0)))).flatten = [] →
    Completes (.discardRange pc 0 true start length) s (fun t => t.resultOf pc = some (succeeded [(32, 0)]) ∧ Only [.porter] s t)) ∧
  (∀ (s : State) (pc : PortCmd) (start length tile l k : Nat), s.accepts pc 0x0200 false = true → s.ringPriv pc.ring = true → s.md.sdService = true → s.noWork = true →
    start % 4096 = 0 → length % 4096 = 0 → 0 < length → start + length ≤ s.pkgBlocks * 2 ^ 28 → tile < 8 → s.alive tile = true →
    (s.aliveTiles.map (fun u => (s.spanSegs u [(start / 4096, length / 4096)]).map (fun d => (u, d, 0)))).flatten = [(tile, l, 0)] →
    s.findFrame tile l = none → s.commitOf tile l = none → (s.mapRaw tile l).st = .mapped → s.stripeOf tile l = none → s.carDataRow (s.segOf tile l) = none →
    s.jroom tile = true → (s.tile tile).xl.jdur ≤ (s.tile tile).xl.jpos → k ≠ l →
    Completes (.discardRange pc 0 true start length) s (fun t => agetD l {} (t.tile tile).xl.map = { st := .discarded } ∧
      agetD k {} (t.tile tile).xl.map = agetD k {} (s.tile tile).xl.map ∧ (t.tile tile).xl.jtail = (s.tile tile).xl.jtail ++ [.discard l] ∧
      (t.tile tile).med = (s.tile tile).med ∧ t.underWay pc = true ∧ s.othersKept t tile = true ∧
      Only (.jobs :: .tiles :: .md :: .cap :: .thm :: logParts) s t)) ∧
  (∀ (s : State) (pc : PortCmd) (start length tile l f : Nat), s.accepts pc 0x0200 false = true → s.ringPriv pc.ring = true → s.md.sdService = true → s.noWork = true →
    start % 4096 = 0 → length % 4096 = 0 → 0 < length → start + length ≤ s.pkgBlocks * 2 ^ 28 → tile < 8 → s.alive tile = true →
    (s.aliveTiles.map (fun u => (s.spanSegs u [(start / 4096, length / 4096)]).map (fun d => (u, d, 0)))).flatten = [(tile, l, 0)] →
    s.findFrame tile l = some f → (s.frame tile f).st = .dirty → s.commitOf tile l = none → (s.mapRaw tile l).st = .never →
    Completes (.discardRange pc 0 true start length) s (fun t => (t.frame tile f).st = .invalid ∧ (t.tile tile).xl = (s.tile tile).xl ∧
      (t.tile tile).med = (s.tile tile).med ∧ t.resultOf pc = some (succeeded [(32, 0)]) ∧ s.othersKept t tile = true ∧ Only [.porter, .tiles] s t)) ∧
  (∀ (s : State) (pc : PortCmd) (ld length : Nat), s.accepts pc 0x0200 false = true → s.md.sdService = true → s.presents (s.ring pc.ring).head ld = false →
    Completes (.discardRange pc ld false 0 length) s (fun t => t.resultOf pc = some { status := Status.invalidField.code, detail := 0 } ∧ Only [.porter] s t)) ∧
  (∀ (s : State) (pc : PortCmd) (start length : Nat), s.accepts pc 0x0201 true = true → s.md.inService = true → s.noWork = true →
    start % 4096 = 0 → length % 4096 = 0 → 0 < length → start + length ≤ s.pkgBlocks * 2 ^ 28 →
    (s.aliveTiles.map (fun u => (s.spanSegs u [(start / 4096, length / 4096)]).map (fun d => (u, d, 0)))).flatten = [] →
    s.scanBlocks [(start / 4096, length / 4096)] = [] →
    Completes (.secureDiscardRange pc 0 true start length) s (fun t => t.resultOf pc = some (succeeded [(32, 0), (32, 0)]) ∧ Only [.porter] s t)) ∧
  (∀ (s : State) (pc : PortCmd) (start length tile b : Nat), s.accepts pc 0x0201 true = true → s.md.inService = true → s.noWork = true →
    start % 4096 = 0 → length % 4096 = 0 → 0 < length → start + length ≤ s.pkgBlocks * 2 ^ 28 → tile < 8 → blkCh b < 8 →
    (s.aliveTiles.map (fun u => (s.spanSegs u [(start / 4096, length / 4096)]).map (fun d => (u, d, 0)))).flatten = [] →
    s.scanBlocks [(start / 4096, length / 4096)] = [(tile, b)] → (s.blk tile b).st = .pending → s.clearReady tile b = true → s.clearPlaneFree tile b = true →
    (s.chan tile (blkCh b)).clearing.length < s.clearLimit tile (blkCh b) →
    Completes (.secureDiscardRange pc 0 true start length) s (fun t => (t.chan tile (blkCh b)).ops.contains { loc := b * 256, job := .clear } = true ∧
      t.underWay pc = true ∧ (t.tile tile).med.pages = (s.tile tile).med.pages ∧ (t.tile tile).xl.map = (s.tile tile).xl.map ∧ s.othersKept t tile = true ∧
      Only [.porter, .jobs, .tiles, .outbox] s t)) ∧
  (∀ (s : State) (pc : PortCmd) (tile buf : Nat), s.accepts pc 0x0202 false = true → tile < s.pop.tiles → buf % 64 = 0 →
    Completes (.getWear pc tile buf) s (fun t => Sends s t [.hostWrite (s.ring pc.ring).head buf (s.wearReport tile)] ∧
      t.resultOf pc = some (succeeded []) ∧ Only [.porter, .outbox, .free] s t)) ∧
  (∀ (s : State) (pc : PortCmd) (tile ch page b : Nat), s.accepts pc 0x0203 true = true → s.md.inService = true → tile < s.pop.tiles → tile < 8 → ch < 8 →
    locRank (ch * 2 ^ 26 + page) < s.pop.ranks → locBlk (ch * 2 ^ 26 + page) = b → (s.blk tile b).st = .free → (s.tile tile).xl.spare ≠ 0 →
    Completes (.retireBlock pc tile ch page) s (fun t => (t.blk tile b).st = .retired ∧ (t.blk tile b).cause = 6 ∧ (t.tile tile).xl.spare = (s.tile tile).xl.spare - 1 ∧
      (t.tile tile).xl.map = (s.tile tile).xl.map ∧ (t.tile tile).med = (s.tile tile).med ∧ t.resultOf pc = some (succeeded [(9, 0)]) ∧ s.othersKept t tile = true)) ∧
  (∀ (s : State) (pc : PortCmd) (tile ch page b : Nat), s.accepts pc 0x0203 true = true → s.md.inService = true → tile < s.pop.tiles → tile < 8 → ch < 8 →
    locRank (ch * 2 ^ 26 + page) < s.pop.ranks → locBlk (ch * 2 ^ 26 + page) = b → (s.blk tile b).st = .full → (s.tile tile).xl.spare ≠ 0 → s.pagesInOrder tile b ≠ [] →
    Completes (.retireBlock pc tile ch page) s (fun t => (t.blk tile b).st = .copying ∧ t.underWay pc = true ∧
      t.jobs.retire = s.jobs.retire ++ [(pc.ring, pc.cid, tile, b, (s.pagesInOrder tile b).length)] ∧
      (t.tile tile).xl.batches.map (·.left) = (s.tile tile).xl.batches.map (·.left) ++ [s.pagesInOrder tile b] ∧
      (t.tile tile).xl.map = (s.tile tile).xl.map ∧ (t.tile tile).med = (s.tile tile).med ∧ s.othersKept t tile = true ∧ Only [.porter, .jobs, .tiles] s t)) ∧
  (∀ (s : State) (pc : PortCmd) (tile ch page : Nat), s.accepts pc 0x0203 true = true → s.md.inService = true → tile < s.pop.tiles → ch < 8 →
    locRank (ch * 2 ^ 26 + page) < s.pop.ranks → (s.blk tile (locBlk (ch * 2 ^ 26 + page))).st = .retired →
    Completes (.retireBlock pc tile ch page) s (fun t => t.resultOf pc = some (succeeded [(9, 0)]) ∧ Only [.porter] s t)) ∧
  (∀ (s : State) (pc : PortCmd) (limit spread : Nat), s.accepts pc 0x0204 true = true → s.md.operating = true → 100 ≤ limit → limit ≤ 1000 → 10 ≤ spread → spread ≤ 1000 →
    Completes (.setWearLimit pc limit spread false) s (fun t => t.fld Reg.XL_WEAR_LIMITS 15 0 = limit ∧ t.fld Reg.XL_WEAR_LIMITS 31 16 = spread ∧
      t.resultOf pc = some (succeeded []) ∧ (List.range 8).all (fun k => decide ((t.tile k).xl.map = (s.tile k).xl.map ∧ (t.tile k).xl.blocks = (s.tile k).xl.blocks ∧
        (t.tile k).med = (s.tile k).med ∧ (t.tile k).fs = (s.tile k).fs)) = true ∧ Only (.tiles :: logParts) s t)) ∧
  (∀ (s : State) (pc : PortCmd) (limit spread : Nat) (persist : Bool), s.accepts pc 0x0204 true = true → s.md.operating = true → limit < 100 →
    Completes (.setWearLimit pc limit spread persist) s (fun t => t.resultOf pc = some { status := Status.invalidField.code, detail := 0 } ∧ Only [.porter] s t)) ∧
  (∀ (s : State) (pc : PortCmd) (mask tile : Nat), s.accepts pc 0x0205 true = true → s.md.sdService = true → mask < 2 ^ s.pop.tiles → s.jobs.ckpt = none →
    s.aliveTiles.filter (bitOf mask) = [tile] → s.ckptReached (tile, (s.tile tile).xl.jpos) = false →
    Completes (.mapCheckpoint pc mask) s (fun t => t.jobs = { s.jobs with ckpt := some (pc.ring, pc.cid, [(tile, (s.tile tile).xl.jpos)], 0) } ∧
      t.underWay pc = true ∧ Only [.porter, .jobs] s t)) ∧
  (∀ (s : State) (pc : PortCmd), s.accepts pc 0x0205 true = true → s.md.sdService = true → s.jobs.ckpt = none →
    Completes (.mapCheckpoint pc 0) s (fun t => t.resultOf pc = some (succeeded [(32, 0)]) ∧ Only [.porter] s t))

/-- Each query of the fabric manager answers from the state and changes nothing else: TUNNEL_MANAGEMENT_COMMAND, GET_LD_INFO,
GET_LD_ALLOCATIONS, the QoS queries, GET_MULTI_HEADED_INFO, GET_HEAD_INFO, GET_DCD_INFO, GET_HOST_DC_REGION_CONFIGURATION, GET_DCD_EXTENT_LISTS; an
unsupported command is answered so. The QoS settings change the named values and answer; out of range they are refused. Over the sideband
endpoint a QoS query is of head 0, which is the model's choice (notes/assumptions/152.md). Completes:
tunnelManagementCommand, getLdInfo, getLdAllocations, getQosControl, setQosControl, getQosStatus, getQosAllocatedBw, setQosAllocatedBw, getQosBwLimit,
setQosBwLimit, getMultiHeadedInfo, getHeadInfo, getDcdInfo, getHostDcRegionConfiguration, getDcdExtentLists, unsupportedFmApiCommand. -/
def Obligations.FmApiQueries : Prop :=
  (∀ (s : State) (head : Nat), s.fmServed head = true →
    Completes (.tunnelManagementCommand head 3) s (fun t => Sends s t [.fmapi head 0x5300 0 [3]] ∧ Only [.outbox] s t)) ∧
  (∀ (s : State) (head : Nat), s.fmServed head = true →
    Completes (.getLdInfo head) s (fun t => Sends s t [.fmapi head 0x5400 0 [s.pkgBlocks * 2 ^ 28, 16, 1]] ∧ Only [.outbox] s t)) ∧
  (∀ (s : State) (head target : Nat), s.fmServed head = true → s.present.contains target = true →
    Completes (.getLdAllocations head target 15 9) s (fun t =>
      Sends s t [.fmapi head 0x5401 0 [16, 0, 15, 1, (s.staticBlocks (16 * target + 15)).length]] ∧ Only [.outbox] s t)) ∧
  (∀ (s : State) (head target limit : Nat), s.fmServed head = true → s.present.contains target = false →
    Completes (.getLdAllocations head target 0 limit) s (fun t => Sends s t [.fmapi head 0x5401 2 []] ∧ Only [.outbox] s t)) ∧
  (∀ (s : State) (head : Nat), s.fmServed head = true →
    Completes (.getQosControl head) s (fun t => Sends s t [.fmapi head 0x5403 0 (s.head (head % 8)).qosCtl] ∧ Only [.outbox] s t)) ∧
  (∀ (s : State) (head h : Nat) (fields : List Nat), s.fmServed head = true → head < 8 → fields.length = 7 → h ≠ head →
    Completes (.setQosControl head fields) s (fun t => t.head head = { s.head head with qosCtl := fields } ∧ t.head h = s.head h ∧
      Sends s t [.fmapi head 0x5404 0 fields] ∧ Only [.tiles, .outbox] s t)) ∧
  (∀ (s : State) (head : Nat), s.fmServed head = true →
    Completes (.getQosStatus head) s (fun t => Sends s t [.fmapi head 0x5405 0 [(s.head (head % 8)).devLoadAvg]] ∧ Only [.outbox] s t)) ∧
  (∀ (s : State) (head : Nat), s.fmServed head = true →
    Completes (.getQosAllocatedBw head 14 9) s (fun t => Sends s t [.fmapi head 0x5406 0 [14, (s.ldev (16 * (head % 8) + 14)).bwAlloc, (s.ldev (16 * (head % 8) + 15)).bwAlloc]] ∧
      Only [.outbox] s t)) ∧
  (∀ (s : State) (head a b c : Nat), s.fmServed head = true → head < 8 → a < 256 → b < 256 → c ≠ 16 * head + 3 → c ≠ 16 * head + 4 →
    Completes (.setQosAllocatedBw head 3 [a, b]) s (fun t => (t.ldev (16 * head + 3)).bwAlloc = a ∧ (t.ldev (16 * head + 4)).bwAlloc = b ∧ t.ldev c = s.ldev c ∧
      (t.ldev (16 * head + 3)).bwLimit = (s.ldev (16 * head + 3)).bwLimit ∧ Sends s t [.fmapi head 0x5407 0 [3, a, b]] ∧ Only [.cap, .outbox] s t)) ∧
  (∀ (s : State) (head : Nat) (l : List Nat), s.fmServed head = true → 1 < l.length →
    Completes (.setQosAllocatedBw head 15 l) s (fun t => Sends s t [.fmapi head 0x5407 2 []] ∧ Only [.outbox] s t)) ∧
  (∀ (s : State) (head : Nat), s.fmServed head = true →
    Completes (.getQosBwLimit head 15 1) s (fun t => Sends s t [.fmapi head 0x5408 0 [15, (s.ldev (16 * (head % 8) + 15)).bwLimit]] ∧ Only [.outbox] s t)) ∧
  (∀ (s : State) (head a c : Nat), s.fmServed head = true → head < 8 → a < 256 → c ≠ 16 * head →
    Completes (.setQosBwLimit head 0 [a]) s (fun t => (t.ldev (16 * head)).bwLimit = a ∧ (t.ldev (16 * head)).bwAlloc = (s.ldev (16 * head)).bwAlloc ∧ t.ldev c = s.ldev c ∧
      Sends s t [.fmapi head 0x5409 0 [0, a]] ∧ Only [.cap, .outbox] s t)) ∧
  (∀ (s : State) (head : Nat), s.fmServed head = true →
    Completes (.getMultiHeadedInfo head) s (fun t => Sends s t [.fmapi head 0x5500 0 [16 * s.headCount, s.headCount]] ∧ Only [.outbox] s t)) ∧
  (∀ (s : State) (head h : Nat), s.fmServed head = true → (s.present.filter (fun k => !(s.head k).upper))[0]? = some h →
    Completes (.getHeadInfo head 0 1) s (fun t => t.outbox = s.outbox ++
      [.fmapi head 0x5501 0 [1, h, maxWidth (s.linkCtl h) (s.bondLower h), (s.head h).width, maxSpeed (s.linkCtl h), (s.head h).speed, b2n (s.head h).up]] ∧ Only [.outbox] s t)) ∧
  (∀ (s : State) (head : Nat), s.fmServed head = true →
    Completes (.getDcdInfo head) s (fun t => Sends s t [.fmapi head 0x5600 0 [s.headCount, 8, 0xF, s.pkgBlocks, 2 ^ 28]] ∧ Only [.outbox] s t)) ∧
  (∀ (s : State) (head target ld region : Nat) (g : Region), s.fmServed head = true → s.present.contains target = true → ld < 16 → region < 8 →
    agetD (8 * (16 * target + ld) + region) {} s.cap.regions = g →
    Completes (.getHostDcRegionConfiguration head target ld region 1) s (fun t => Sends s t [.fmapi head 0x5601 0 [g.base, g.len, 2 ^ 28, b2n g.share]] ∧
      Only [.outbox] s t)) ∧
  (∀ (s : State) (head target ld : Nat) (e : Extent), s.fmServed head = true → s.present.contains target = true → ld < 16 →
    s.cap.extents.filter (fun x => x.ld == 16 * target + ld) = [e] →
    Completes (.getDcdExtentLists head target ld 0 8) s (fun t => Sends s t [.fmapi head 0x5603 0 [1, e.region, e.start, e.len]] ∧ Only [.outbox] s t)) ∧
  (∀ (s : State) (head opcode : Nat), s.fmServed head = true →
    Completes (.unsupportedFmApiCommand head opcode) s (fun t => Sends s t [.fmapi head opcode 3 []] ∧ Only [.outbox] s t))

/-- SET_LD_ALLOCATIONS that enlarges an LD gives it the lowest-numbered free blocks, stored in the Parameter Store; one that keeps the size
changes no block. SET_DC_REGION_CONFIGURATION places a region. INITIATE_DYNAMIC_CAPACITY_ADD takes the lowest-numbered free blocks as one extent;
under the Prescriptive policy a block in use is refused and a block that is being released is waited for, and
WAITING_ADD_RESUME gives it once free. INITIATE_DYNAMIC_CAPACITY_RELEASE, forced, takes a block out of the
LD into releasing, and EXTENT_RELEASE_DONE frees a block that a host released. Completes: setLdAllocations, setDcRegionConfiguration, initiateDynamicCapacityAdd,
waitingAddResume, initiateDynamicCapacityRelease, extentReleaseDone. -/
def Obligations.CapacityChanges : Prop :=
  (∀ (s : State) (head target ld b k : Nat), s.fmServed head = true → s.present.contains target = true → ld < 16 → target < 8 →
    s.staticBlocks (16 * target + ld) = [] → (s.ldev (16 * target + ld)).key ≠ 0 → s.freeBlocks 1 = [b] →
    (List.range 8).all (fun r => !(agetD (8 * (16 * target + ld) + r) {} s.cap.regions).conf || decide (1 ≤ (agetD (8 * (16 * target + ld) + r) {} s.cap.regions).base)) = true → k ≠ b →
    Completes (.setLdAllocations head target ld [1] true) s (fun t => aget b t.cap.table = some { kind := 1, ld := 16 * target + ld, region := 15, ldBlk := 0 } ∧
      aget k t.cap.table = aget k s.cap.table ∧ t.cap.extents = s.cap.extents ∧ t.psGet (Param.LD_ALLOC + b / 256) = t.ldAllocBytes (b / 256) ∧
      Only [.cap, .ps] s t)) ∧
  (∀ (s : State) (head target ld : Nat), s.fmServed head = true → s.present.contains target = true → ld < 16 →
    s.ldSizeOk (16 * target + ld) (s.staticBlocks (16 * target + ld)).length = true →
    Completes (.setLdAllocations head target ld [(s.staticBlocks (16 * target + ld)).length] true) s (fun t => t.cap = s.cap ∧ Only [.ps] s t)) ∧
  (∀ (s : State) (head target ld region base len : Nat) (share : Bool), s.fmServed head = true → s.present.contains target = true → target < 8 → ld < 16 → region < 8 → 0 < len →
    base + len ≤ 65536 → (s.staticBlocks (16 * target + ld)).length ≤ base →
    (List.range 8).all (fun r => r == region || !(agetD (8 * (16 * target + ld) + r) {} s.cap.regions).conf) = true →
    s.cap.extents.all (fun e => e.ld != 16 * target + ld || e.region != region) = true →
    Completes (.setDcRegionConfiguration head target ld region base len (2 ^ 28) share) s (fun t =>
      (agetD (8 * (16 * target + ld) + region) {} t.cap.regions).base = base ∧ (agetD (8 * (16 * target + ld) + region) {} t.cap.regions).len = len ∧
      (agetD (8 * (16 * target + ld) + region) {} t.cap.regions).conf = true ∧ (agetD (8 * (16 * target + ld) + region) {} t.cap.regions).share = share ∧
      t.cap.table = s.cap.table ∧ t.cap.extents = s.cap.extents ∧ Only [.cap, .ps] s t)) ∧
  (∀ (s : State) (head target ld region blockSize len : Nat), s.fmServed head = true → blockSize ≠ 2 ^ 28 →
    Completes (.setDcRegionConfiguration head target ld region 0 len blockSize false) s (fun t => Sends s t [.fmapi head 0x5602 2 []] ∧ Only [.outbox] s t)) ∧
  (∀ (s : State) (head target ld region b lb k : Nat) (g : Region), s.fmServed head = true → s.present.contains target = true → target < 8 → ld < 16 → region < 8 →
    agetD (8 * (16 * target + ld) + region) {} s.cap.regions = g → g.conf = true → g.share = false → (s.ldev (16 * target + ld)).key ≠ 0 → s.freeBlocks 1 = [b] →
    (s.freeLdBlocks (16 * target + ld) g).head? = some lb → s.cap.extents = [] → s.cap.shares.length ≤ 8192 → k ≠ b →
    Completes (.initiateDynamicCapacityAdd head target ld region 0 1 0 true) s (fun t =>
      aget b t.cap.table = some { kind := 1, ld := 16 * target + ld, region := region, ldBlk := lb } ∧ aget k t.cap.table = aget k s.cap.table ∧
      t.cap.extents = [{ ld := 16 * target + ld, region := region, start := lb, len := 1, accepted := false }] ∧ t.cap.regions = s.cap.regions ∧
      (t.tiles = s.tiles ∧ t.md = s.md ∧ t.fuse = s.fuse))) ∧
  (∀ (s : State) (head target ld region b : Nat) (g : Region) (x : BlockEnt), s.fmServed head = true → s.present.contains target = true → ld < 16 → region < 8 →
    agetD (8 * (16 * target + ld) + region) {} s.cap.regions = g → g.conf = true → aget b s.cap.table = some x → x.kind ≠ 3 →
    Completes (.initiateDynamicCapacityAdd head target ld region 2 1 b true) s (fun t => Sends s t [.fmapi head 0x5604 2 []] ∧ Only [.outbox] s t)) ∧
  (∀ (s : State) (head target ld region b : Nat) (g : Region) (x : BlockEnt), s.fmServed head = true → s.present.contains target = true → ld < 16 → region < 8 →
    agetD (8 * (16 * target + ld) + region) {} s.cap.regions = g → g.conf = true → aget b s.cap.table = some x → x.kind = 3 → b < s.pkgBlocks →
    Completes (.initiateDynamicCapacityAdd head target ld region 2 1 b true) s (fun t =>
      t.cap = { s.cap with waiting := s.cap.waiting ++ [{ ld := 16 * target + ld, region := region, policy := 2, len := 1, start := b, via := head }] } ∧ Only [.cap] s t)) ∧
  (∀ (s : State) (b lb k : Nat) (w : WaitAdd) (g : Region), s.md.operating = true → s.cap.waiting = [w] → w.policy = 2 → w.len = 1 → w.start = b → w.region < 8 → w.ld < 128 →
    agetD (8 * w.ld + w.region) {} s.cap.regions = g → g.conf = true → g.share = false → (s.ldev w.ld).key ≠ 0 → s.blockFree b = true → b < s.pkgBlocks →
    (s.freeLdBlocks w.ld g).head? = some lb → s.cap.extents = [] → s.cap.shares.length ≤ 8192 → lb + 1 < 65536 → (s.freeLdBlocks w.ld g).contains lb = true → k ≠ b →
    Completes (.waitingAddResume true) s (fun t => t.cap.waiting = [] ∧ aget b t.cap.table = some { kind := 1, ld := w.ld, region := w.region, ldBlk := lb } ∧
      aget k t.cap.table = aget k s.cap.table ∧ t.cap.extents = [{ ld := w.ld, region := w.region, start := lb, len := 1, accepted := false }])) ∧
  (∀ (s : State) (head target ld region start b k : Nat), s.fmServed head = true → s.present.contains target = true → target < 8 → ld < 16 → region < 8 → s.noWork = true →
    s.cap.table = [(b, { kind := 1, ld := 16 * target + ld, region := region, ldBlk := start })] → s.cap.shares = [] → k ≠ b →
    (s.aliveTiles.map (fun u => (s.spanSegs u (blkSpans [b])).map (fun d => (u, d, 0)))).flatten = [] →
    s.cap.extents = [{ ld := 16 * target + ld, region := region, start := start, len := 1 }] →
    Completes (.initiateDynamicCapacityRelease head target ld region start 1 true) s (fun t => aget b t.cap.table = some { kind := 3 } ∧ t.cap.extents = [] ∧
      aget k t.cap.table = none ∧ t.cap.releases = s.cap.releases ++ [{ ld := 16 * target + ld, region := region, start := start, blks := [b], forced := true }] ∧
      Sends s t [.fmapi head 0x5605 0 []] ∧ Only [.cap, .ps, .outbox] s t)) ∧
  (∀ (s : State) (ld region start b k : Nat) (r : Release), s.md.operating = true → s.jobs.ranges = [] → s.cap.releases = [r] → r.ld = ld → r.region = region →
    r.start = start → r.blks = [b] → region ≠ 15 → r.forced = false → k ≠ b →
    Completes (.extentReleaseDone ld region start) s (fun t => aget b t.cap.table = none ∧ aget k t.cap.table = aget k s.cap.table ∧ t.cap.releases = [] ∧
      Sends s t [.mailbox (ld / 16) (ld % 16) 0x4803 0 []] ∧ Only [.cap, .ps, .outbox] s t))

/-- Each query of an LD's mailbox answers from the state and changes nothing else: event records and interrupt policies, firmware
information, the timestamp, logs, identification, partitions, health (with a free value in place of the fields that the manual does not
describe), alerts, shutdown state, the poison list of an LD without capacity, scan capabilities (a free value) and results, dynamic
capacity. SET_PARTITION_INFO and unsupported commands are answered Unsupported. Completes: getEventRecords,
getEventInterruptPolicy, getFwInfo, getTimestamp, getSupportedLogs, getLog, identifyMemoryDevice, getPartitionInfo, setPartitionInfo, getHealthInfo,
getAlertConfiguration, getShutdownState, getPoisonList, getScanMediaCapabilities, getScanMediaResults, getDynamicCapacityConfiguration,
getDynamicCapacityExtentList, unsupportedMailboxCommand. -/
def Obligations.MailboxQueries : Prop :=
  (∀ (s : State) (h ld : Nat) (r : EvtRec) (g : EvtLog), s.mailboxUp h ld 0x0100 = true → vget 3 {} (s.ldev (16 * h + ld)).logs = g → g.recs = [r] →
    Completes (.getEventRecords h ld 3) s (fun t => Sends s t [.mailbox h ld 0x0100 0 [b2n g.overflow, g.lost, 1, r.kind, r.cause, r.info]] ∧ Only [.outbox] s t)) ∧
  (∀ (s : State) (h ld : Nat), s.mailboxUp h ld 0x0100 = true →
    Completes (.getEventRecords h ld 4) s (fun t => Sends s t [.mailbox h ld 0x0100 RET_LOG []] ∧ Only [.outbox] s t)) ∧
  (∀ (s : State) (h ld : Nat), s.mailboxUp h ld 0x0102 = true →
    Completes (.getEventInterruptPolicy h ld) s (fun t => Sends s t [.mailbox h ld 0x0102 0 ((s.ldev (16 * h + ld)).logs.toList.map (·.policy))] ∧ Only [.outbox] s t)) ∧
  (∀ (s : State) (h ld : Nat), s.mailboxUp h ld 0x0200 = true →
    Completes (.getFwInfo h ld) s (fun t => Sends s t [.mailbox h ld 0x0200 0 [2, s.sec.runSlot, if bitOf s.fwBoot 4 then 2 - b2n (s.sec.runSlot == 1) else 0, 0,
      (s.fwSlot 0).img.version, (s.fwSlot 1).img.version]] ∧ Only [.outbox] s t)) ∧
  (∀ (s : State) (h ld : Nat), s.mailboxUp h ld 0x0300 = true → (s.ldev (16 * h + ld)).timestamp = (0, 0) →
    Completes (.getTimestamp h ld) s (fun t => Sends s t [.mailbox h ld 0x0300 0 [0]] ∧ Only [.outbox] s t)) ∧
  (∀ (s : State) (h ld ns o : Nat), s.mailboxUp h ld 0x0300 = true → (s.ldev (16 * h + ld)).timestamp = (ns, o) → 0 < ns →
    Completes (.getTimestamp h ld) s (fun t => Sends s t [.mailbox h ld 0x0300 0 [(ns + (s.gb.opTime - o) * 1000000000) % 2 ^ 64]] ∧ Only [.outbox] s t)) ∧
  (∀ (s : State) (h ld : Nat), s.mailboxUp h ld 0x0400 = true →
    Completes (.getSupportedLogs h ld) s (fun t => Sends s t [.mailbox h ld 0x0400 0 [1, 4 * effectsLog.length]] ∧ Only [.outbox] s t)) ∧
  (∀ (s : State) (h ld i : Nat) (e : Nat × Nat), s.mailboxUp h ld 0x0401 = true → effectsLog[i]? = some e →
    Completes (.getLog h ld true i 1) s (fun t => Sends s t [.mailbox h ld 0x0401 0 [e.1 + 65536 * e.2]] ∧ Only [.outbox] s t)) ∧
  (∀ (s : State) (h ld i n : Nat), s.mailboxUp h ld 0x0401 = true →
    Completes (.getLog h ld false i n) s (fun t => Sends s t [.mailbox h ld 0x0401 RET_LOG []] ∧ Only [.outbox] s t)) ∧
  (∀ (s : State) (h ld : Nat), s.mailboxUp h ld 0x4000 = true →
    Completes (.identifyMemoryDevice h ld) s (fun t => t.outbox = s.outbox ++
      [.mailbox h ld 0x4000 0 [(s.staticBlocks (16 * h + ld)).length, 0, (s.staticBlocks (16 * h + ld)).length, 0, 64, 256]] ∧ Only [.outbox] s t)) ∧
  (∀ (s : State) (h ld : Nat), s.mailboxUp h ld 0x4100 = true →
    Completes (.getPartitionInfo h ld) s (fun t => Sends s t [.mailbox h ld 0x4100 0 [0, (s.staticBlocks (16 * h + ld)).length, 0, 0]] ∧ Only [.outbox] s t)) ∧
  (∀ (s : State) (h ld : Nat), s.mailboxUp h ld 0x4101 = true →
    Completes (.setPartitionInfo h ld) s (fun t => Sends s t [.mailbox h ld 0x4101 3 []] ∧ Only [.outbox] s t)) ∧
  (∀ (s : State) (h ld : Nat), s.mailboxUp h ld 0x4200 = true →
    Completes (.getHealthInfo h ld) s (fun t => Sends s t [.mailbox h ld 0x4200 0 [s.dirtyCount, s.freeNow]] ∧ Only [.outbox, .free] s t)) ∧
  (∀ (s : State) (h ld : Nat), s.mailboxUp h ld 0x4201 = true →
    Completes (.getAlertConfiguration h ld) s (fun t => Sends s t [.mailbox h ld 0x4201 0 (s.ldev (16 * h + ld)).alerts] ∧ Only [.outbox] s t)) ∧
  (∀ (s : State) (h ld : Nat), s.mailboxUp h ld 0x4203 = true →
    Completes (.getShutdownState h ld) s (fun t => Sends s t [.mailbox h ld 0x4203 0 [(s.ldev (16 * h + ld)).shutdown]] ∧ Only [.outbox] s t)) ∧
  (∀ (s : State) (h ld first len : Nat), s.mailboxUp h ld 0x4300 = true → s.ldBlocks (16 * h + ld) = [] →
    Completes (.getPoisonList h ld first len) s (fun t => Sends s t [.mailbox h ld 0x4300 0 [0, 0, 0]] ∧ Only [.outbox] s t)) ∧
  (∀ (s : State) (h ld d : Nat), s.mailboxUp h ld 0x4300 = true → s.poisonedLines (16 * h + ld) 0 (2 ^ 52) = [d] →
    Completes (.getPoisonList h ld 0 (2 ^ 52)) s (fun t => Sends s t [.mailbox h ld 0x4300 0 [0, 0, 1, d]] ∧ Only [.outbox] s t)) ∧
  (∀ (s : State) (h ld first len p : Nat), s.mailboxUp h ld 0x4303 = true → 0 < len → s.ldLine (16 * h + ld) first = some p →
    Completes (.getScanMediaCapabilities h ld first len) s (fun t => Sends s t [.mailbox h ld 0x4303 0 [s.freeNow]] ∧ Only [.outbox, .free] s t)) ∧
  (∀ (s : State) (h ld : Nat), s.mailboxUp h ld 0x4305 = true →
    Completes (.getScanMediaResults h ld) s (fun t => Sends s t [.mailbox h ld 0x4305 0 (0 :: (s.ldev (16 * h + ld)).scanFound)] ∧ Only [.outbox] s t)) ∧
  (∀ (s : State) (h ld : Nat) (g : Region), s.mailboxUp h ld 0x4800 = true → agetD (8 * (16 * h + ld) + 7) {} s.cap.regions = g →
    Completes (.getDynamicCapacityConfiguration h ld 7 8) s (fun t => Sends s t [.mailbox h ld 0x4800 0 [g.base, g.len, 2 ^ 28, b2n g.share]] ∧ Only [.outbox] s t)) ∧
  (∀ (s : State) (h ld n : Nat) (e : Extent), s.mailboxUp h ld 0x4801 = true → 0 < n → s.cap.extents.filter (fun x => x.ld == 16 * h + ld && x.accepted) = [e] →
    Completes (.getDynamicCapacityExtentList h ld 0 n) s (fun t => Sends s t [.mailbox h ld 0x4801 0 [1, e.region, e.start, e.len]] ∧ Only [.outbox] s t)) ∧
  (∀ (s : State) (h ld op : Nat), s.mailboxUp h ld op = true →
    Completes (.unsupportedMailboxCommand h ld op) s (fun t => Sends s t [.mailbox h ld op 3 []] ∧ Only [.outbox] s t))

/-- CLEAR_EVENT_RECORDS drops the oldest records of one log and keeps the others. The settings change their value of their LD and no other
LD. TRANSFER_FW stages chunk after chunk and ends with the check of the image; ACTIVATE_FW of a checked image marks it pending and
stores that. INJECT_POISON and CLEAR_POISON write the line, poisoned or with the given data. SCAN_MEDIA starts the scan of its pages, one at a time. SANITIZE and
SECURE_ERASE draw a new key, refuse CXL.mem of the LD and leave the old key and the content until its commit. ADD_DYNAMIC_CAPACITY_RESPONSE
accepts what it names; RELEASE_DYNAMIC_CAPACITY takes the block out of the LD. Completes: clearEventRecords,
setEventInterruptPolicy, transferFw, activateFw, setTimestamp, setAlertConfiguration, setShutdownState, injectPoison, clearPoison, scanMedia,
sanitize, secureErase, addDynamicCapacityResponse, releaseDynamicCapacity. -/
def Obligations.MailboxChanges : Prop :=
  (∀ (s : State) (h ld log k n : Nat), s.mailboxUp h ld 0x0101 = true → log < 4 → k ≠ log → n ≤ (vget log {} (s.ldev (16 * h + ld)).logs).recs.length →
    Completes (.clearEventRecords h ld log n false) s (fun t => vget log {} (t.ldev (16 * h + ld)).logs =
        { vget log {} (s.ldev (16 * h + ld)).logs with recs := (vget log {} (s.ldev (16 * h + ld)).logs).recs.drop n, overflow := false, lost := 0 } ∧
      vget k {} (t.ldev (16 * h + ld)).logs = vget k {} (s.ldev (16 * h + ld)).logs ∧ Sends s t [.mailbox h ld 0x0101 0 []] ∧ Only [.cap, .outbox] s t)) ∧
  (∀ (s : State) (h ld log n : Nat), s.mailboxUp h ld 0x0101 = true → log < 4 → (vget log {} (s.ldev (16 * h + ld)).logs).recs.length < n →
    Completes (.clearEventRecords h ld log n false) s (fun t => Sends s t [.mailbox h ld 0x0101 RET_HANDLE []] ∧ Only [.outbox] s t)) ∧
  (∀ (s : State) (h ld a b c d : Nat), s.mailboxUp h ld 0x0103 = true → a < 256 → b < 256 → c < 256 → d < 256 →
    Completes (.setEventInterruptPolicy h ld [a, b, c, d]) s (fun t => (t.ldev (16 * h + ld)).logs.toList.map (·.policy) = [a, b, c, d] ∧
      (t.ldev (16 * h + ld)).logs.toList.map (·.recs) = (s.ldev (16 * h + ld)).logs.toList.map (·.recs) ∧ Sends s t [.mailbox h ld 0x0103 0 []] ∧ Only [.cap, .outbox] s t)) ∧
  (∀ (s : State) (h ld len : Nat) (img : FwImage), s.mailboxUp h ld 0x0201 = true → s.sec.staging = none → len % 4 = 0 → len ≤ 2 ^ 24 → s.sec.runSlot = 0 → s.sec.slots.length = 2 →
    Completes (.transferFw h ld 1 0 len img) s (fun t => t.sec.staging = some (h, ld) ∧ (t.fwSlot 1).staged = len ∧ (t.fwSlot 1).partialImg = true ∧ (t.fwSlot 1).verdict = 0 ∧
      t.fwSlot 0 = s.fwSlot 0 ∧ Sends s t [.mailbox h ld 0x0201 0 []] ∧ Only [.sec, .ps, .outbox] s t)) ∧
  (∀ (s : State) (h ld offset len : Nat) (img : FwImage), s.mailboxUp h ld 0x0201 = true → s.sec.staging = some (h, ld) → len % 4 = 0 → 0 < offset → offset + len ≤ 2 ^ 24 →
    s.sec.runSlot = 0 → s.sec.slots.length = 2 → (s.fwSlot 1).staged = offset → (s.fwSlot 1).partialImg = true →
    Completes (.transferFw h ld 2 offset len img) s (fun t => t.sec.staging = some (h, ld) ∧ (t.fwSlot 1).staged = offset + len ∧ t.fwSlot 0 = s.fwSlot 0 ∧
      Sends s t [.mailbox h ld 0x0201 0 []] ∧ Only [.sec, .outbox] s t)) ∧
  (∀ (s : State) (h ld len g : Nat) (img : FwImage), s.mailboxUp h ld 0x0201 = true → s.sec.staging = some (g, ld) → g ≠ h →
    Completes (.transferFw h ld 1 0 len img) s (fun t => Sends s t [.mailbox h ld 0x0201 RET_TRANSFER []] ∧ Only [.outbox] s t)) ∧
  (∀ (s : State) (h ld : Nat), s.mailboxUp h ld 0x0202 = true → s.sec.runSlot = 0 → (s.fwSlot 1).verdict = 1 →
    Completes (.activateFw h ld 1) s (fun t => bitOf t.fwBoot 4 = true ∧ Only [.ps] s t)) ∧
  (∀ (s : State) (h ld : Nat), s.mailboxUp h ld 0x0202 = true →
    Completes (.activateFw h ld 0) s (fun t => Sends s t [.mailbox h ld 0x0202 3 []] ∧ Only [.outbox] s t)) ∧
  (∀ (s : State) (h ld ns c : Nat), s.mailboxUp h ld 0x0301 = true → ns < 2 ^ 64 → c ≠ 16 * h + ld →
    Completes (.setTimestamp h ld ns) s (fun t => t.ldev (16 * h + ld) = { s.ldev (16 * h + ld) with timestamp := (ns, s.gb.opTime) } ∧ t.ldev c = s.ldev c ∧
      Sends s t [.mailbox h ld 0x0301 0 []] ∧ Only [.cap, .outbox] s t)) ∧
  (∀ (s : State) (h ld c : Nat) (l : List Nat), s.mailboxUp h ld 0x4202 = true → l.length = 8 → c ≠ 16 * h + ld →
    Completes (.setAlertConfiguration h ld l) s (fun t => t.ldev (16 * h + ld) = { s.ldev (16 * h + ld) with alerts := l } ∧ t.ldev c = s.ldev c ∧
      Sends s t [.mailbox h ld 0x4202 0 []] ∧ Only [.cap, .outbox] s t)) ∧
  (∀ (s : State) (h ld c v : Nat), s.mailboxUp h ld 0x4204 = true → v < 2 → c ≠ 16 * h + ld →
    Completes (.setShutdownState h ld v) s (fun t => t.ldev (16 * h + ld) = { s.ldev (16 * h + ld) with shutdown := v } ∧ t.ldev c = s.ldev c ∧
      Sends s t [.mailbox h ld 0x4204 0 []] ∧ Only [.cap, .outbox] s t)) ∧
  (∀ (s : State) (h ld dpa p f g : Nat), s.mailboxUp h ld 0x4301 = true → s.md.inService3 = true → (s.ldev (16 * h + ld)).refused = false → s.ldLine (16 * h + ld) dpa = some p →
    s.lineFree h p = true → s.findFrame h (s.segLocal (p / 4096)) = some f → (s.frame h f).st = .dirty → g ≠ f →
    Completes (.injectPoison h ld dpa) s (fun t => bitOf (t.frame h f).poison (p / 64 % 64) = true ∧ bitOf (t.frame h f).valid (p / 64 % 64) = true ∧
      (t.frame h f).seg = (s.frame h f).seg ∧ t.frame h g = s.frame h g ∧ (t.tile h).med = (s.tile h).med ∧ t.outbox.contains (.mailbox h ld 0x4301 0 []) = true)) ∧
  (∀ (s : State) (h ld dpa p f g : Nat) (data : Line), s.mailboxUp h ld 0x4302 = true → s.md.inService3 = true → (s.ldev (16 * h + ld)).refused = false → s.ldLine (16 * h + ld) dpa = some p →
    s.lineFree h p = true → s.findFrame h (s.segLocal (p / 4096)) = some f → (s.frame h f).st = .dirty → g ≠ f →
    Completes (.clearPoison h ld dpa data) s (fun t => agetD (p / 64 % 64) 0 (t.frame h f).lines = data ∧ bitOf (t.frame h f).poison (p / 64 % 64) = false ∧
      (t.frame h f).seg = (s.frame h f).seg ∧ t.frame h g = s.frame h g ∧ (t.tile h).med = (s.tile h).med ∧ t.outbox.contains (.mailbox h ld 0x4302 0 []) = true)) ∧
  (∀ (s : State) (h ld first len p tile loc : Nat), s.mailboxUp h ld 0x4304 = true → 0 < len → s.ldLine (16 * h + ld) first = some p → (s.ldev (16 * h + ld)).bg = none →
    s.aliveTiles.map (fun d => (d, s.mediaScan d (16 * h + ld) first len)) = [(tile, [loc])] → tile < 8 →
    Completes (.scanMedia h ld first len) s (fun t => (t.tile tile).med.scan = (s.tile tile).med.scan ++ [(loc, 16 * h + ld)] ∧
      (t.ldev (16 * h + ld)).bg = some (.scan 1) ∧ Sends s t [.mailbox h ld 0x4304 1 []] ∧ Only [.cap, .tiles, .outbox] s t)) ∧
  (∀ (s : State) (h ld k : Nat), s.mailboxUp h ld 0x4400 = true → (s.ldev (16 * h + ld)).bg = none → s.sec.replacing = [] → (s.ldev (16 * h + ld)).key = k → k ≠ 0 →
    s.sec.stored = [(k, (0, 16 * h + ld, 0))] → k < 256 → s.cap.shares = [] →
    Completes (.sanitize h ld true) s (fun t => (t.ldev (16 * h + ld)).refused = true ∧ (t.ldev (16 * h + ld)).key = k ∧ t.sec.replacing.map (·.old) = [k] ∧
      t.sec.replacing.map (·.sanitize) = [true] ∧ aget k t.sec.stored = aget k s.sec.stored ∧ t.sec.stored.length = 2 ∧
      Sends s t [.mailbox h ld 0x4400 1 []] ∧ Only [.cap, .sec, .ps, .draws, .free, .outbox] s t)) ∧
  (∀ (s : State) (h ld k : Nat), s.mailboxUp h ld 0x4401 = true → (s.ldev (16 * h + ld)).bg = none → s.sec.replacing = [] → (s.ldev (16 * h + ld)).key = k → k ≠ 0 →
    s.sec.stored = [(k, (0, 16 * h + ld, 0))] → k < 256 → s.cap.shares = [] →
    Completes (.secureErase h ld true) s (fun t => (t.ldev (16 * h + ld)).refused = true ∧ (t.ldev (16 * h + ld)).key = k ∧ t.sec.replacing.map (·.old) = [k] ∧
      t.sec.replacing.map (·.sanitize) = [false] ∧ aget k t.sec.stored = aget k s.sec.stored ∧ t.sec.stored.length = 2 ∧
      Sends s t [.mailbox h ld 0x4401 1 []] ∧ Only [.cap, .sec, .ps, .draws, .free, .outbox] s t)) ∧
  (∀ (s : State) (h ld a : Nat) (e : Extent), s.mailboxUp h ld 0x4802 = true → s.cap.extents = [e] → e.ld = 16 * h + ld → e.accepted = false → e.start = a → e.len = 1 →
    Completes (.addDynamicCapacityResponse h ld [(a, 1)]) s (fun t => t.cap.extents = [{ e with accepted := true }] ∧ t.cap.table = s.cap.table ∧
      Sends s t [.mailbox h ld 0x4802 0 []] ∧ Only [.cap, .outbox] s t)) ∧
  (∀ (s : State) (h ld a : Nat), s.mailboxUp h ld 0x4802 = true → s.cap.extents = [] →
    Completes (.addDynamicCapacityResponse h ld [(a, 1)]) s (fun t => Sends s t [.mailbox h ld 0x4802 RET_EXTENT []] ∧ Only [.outbox] s t)) ∧
  (∀ (s : State) (h ld region start b : Nat), s.mailboxUp h ld 0x4803 = true → region < 8 → s.noWork = true →
    s.cap.table = [(b, { kind := 1, ld := 16 * h + ld, region := region, ldBlk := start })] → s.cap.shares = [] →
    (s.aliveTiles.map (fun u => (s.spanSegs u (blkSpans [b])).map (fun d => (u, d, 0)))).flatten = [] →
    s.cap.extents = [{ ld := 16 * h + ld, region := region, start := start, len := 1 }] →
    Completes (.releaseDynamicCapacity h ld [(start, 1)]) s (fun t => aget b t.cap.table = some { kind := 3 } ∧ t.cap.extents = [] ∧
      t.cap.releases = s.cap.releases ++ [{ ld := 16 * h + ld, region := region, start := start, blks := [b], forced := false }] ∧ Only [.cap, .ps] s t)) ∧
  (∀ (s : State) (h ld start : Nat), s.mailboxUp h ld 0x4803 = true → s.cap.table = [] → s.cap.shares = [] →
    Completes (.releaseDynamicCapacity h ld [(start, 1)]) s (fun t => Sends s t [.mailbox h ld 0x4803 RET_EXTENT []] ∧ Only [.outbox] s t))

/-- Discovery and CDAT answer from the state. GET_VERSION fixes the version and NEGOTIATE_ALGORITHMS the algorithm; before a version,
requests are unexpected. CHALLENGE, a signed GET_MEASUREMENTS and KEY_EXCHANGE each use exactly one index and one token; KEY_EXCHANGE
sets up the session; without the device key's algorithm CHALLENGE is refused. PSK_EXCHANGE is unsupported. KEY_IMPORT stores a secret under a free handle, a
fifth is refused, KEY_DELETE removes it. IDE_KM: QUERY reports; KEY_PROG programs an idle set and refuses one in use; K_SET_GO and
IDE_KEY_SWITCH go over to the new set; K_SET_STOP ends it. What the signed bytes of an answer are is the model's choice (notes/assumptions/21.md).
Other heads, streams and content stay. Completes: doeDiscovery, cdatTableAccess, getVersion, negotiateAlgorithms, getCertificate, challenge,
getMeasurements, keyExchange, pskExchange, keyImport, keyDelete, ideKmQuery, keyProg, kSetGo, kSetStop, ideKeySwitch. -/
def Obligations.HeadSecurity : Prop :=
  (∀ (s : State) (h i : Nat), s.doeUp h = true → i < 3 →
    Completes (.doeDiscovery h i) s (fun t => Sends s t [.doe h 0 0 [1, i, i + 1]] ∧ Only [.outbox] s t)) ∧
  (∀ (s : State) (h ld n : Nat), s.doeUp h = true → s.presents h ld = true → s.hdmRanges (16 * h + ld) = [(0, n, false)] → (s.head h).bonded = false →
    Completes (.cdatTableAccess h ld) s (fun t => Sends s t [.doe h 10 0 [1, 0, n, 1, 0, 780, 250, 52, 6400]] ∧ Only [.outbox] s t)) ∧
  (∀ (s : State) (h g : Nat), s.doeUp h = true → g ≠ h →
    Completes (.getVersion h 0x12) s (fun t => t.head h = { s.head h with spdm := 0x12, spdmAlg := false } ∧ t.head g = s.head g ∧
      Sends s t [.doe h 5 0 [0x11, 0x12]] ∧ Only [.tiles, .outbox] s t)) ∧
  (∀ (s : State) (h : Nat), s.doeUp h = true → Completes (.getVersion h 0x10) s (fun t => Sends s t [.doe h 5 SPDM_VERSION []] ∧ Only [.outbox] s t)) ∧
  (∀ (s : State) (h : Nat) (x : Bool), s.doeUp h = true → (s.head h).spdm ≠ 0 →
    Completes (.negotiateAlgorithms h x) s (fun t => t.head h = { s.head h with spdmAlg := x } ∧ Sends s t [.doe h 6 0 [b2n x]] ∧ Only [.tiles, .outbox] s t)) ∧
  (∀ (s : State) (h : Nat) (x : Bool), s.doeUp h = true → (s.head h).spdm = 0 →
    Completes (.negotiateAlgorithms h x) s (fun t => Sends s t [.doe h 6 SPDM_UNEXPECTED []] ∧ Only [.outbox] s t)) ∧
  (∀ (s : State) (h slot : Nat), s.doeUp h = true → (s.head h).spdm ≠ 0 →
    Completes (.getCertificate h slot) s (fun t => Sends s t [if slot = 0 then .doe h 7 0 [0, leNat Config.certChain] else .doe h 7 SPDM_INVALID []] ∧ Only [.outbox] s t)) ∧
  (∀ (s : State) (h : Nat) (nonce : W256), s.doeUp h = true → (s.head h).spdm ≠ 0 → (s.head h).spdmAlg = true → s.canSign = true →
    Completes (.challenge h nonce) s (fun t => t.sec = { s.sec with next := s.sec.next + 1, tokens := s.sec.tokens - 1 } ∧
      Sends s t [.doe h 1 0 [0, s.sec.next, leAt (signature s.sec.next (s.spdmBody 1 0 s.sec.next nonce)) 0 5605]] ∧ Only [.sec, .outbox] s t)) ∧
  (∀ (s : State) (h : Nat) (nonce : W256), s.doeUp h = true → (s.head h).spdm ≠ 0 → (s.head h).spdmAlg = false →
    Completes (.challenge h nonce) s (fun t => Sends s t [.doe h 1 SPDM_INVALID []] ∧ Only [.outbox] s t)) ∧
  (∀ (s : State) (h i : Nat) (nonce : W256), s.doeUp h = true → (s.head h).spdm ≠ 0 → 1 ≤ i → i ≤ 8 →
    Completes (.getMeasurements h i false nonce) s (fun t => Sends s t [.doe h 2 0 [i, measType i, (s.meas i).toNat]] ∧ Only [.outbox] s t)) ∧
  (∀ (s : State) (h i : Nat) (nonce : W256), s.doeUp h = true → (s.head h).spdm ≠ 0 → (s.head h).spdmAlg = true → s.canSign = true → 1 ≤ i → i ≤ 8 →
    Completes (.getMeasurements h i true nonce) s (fun t => t.sec = { s.sec with next := s.sec.next + 1, tokens := s.sec.tokens - 1 } ∧
      Sends s t [.doe h 2 0 [i, s.sec.next, i, measType i, (s.meas i).toNat, leAt (signature s.sec.next (s.spdmBody 2 i s.sec.next nonce)) 0 5605]] ∧ Only [.sec, .outbox] s t)) ∧
  (∀ (s : State) (h g : Nat) (nonce : W256), s.doeUp h = true → (s.head h).spdm ≠ 0 → (s.head h).spdmAlg = true → s.canSign = true → g ≠ h →
    Completes (.keyExchange h nonce) s (fun t => t.head h = { s.head h with session := true } ∧ t.head g = s.head g ∧ t.sec = { s.sec with next := s.sec.next + 1, tokens := s.sec.tokens - 1 } ∧
      Sends s t [.doe h 3 0 [0, s.sec.next, leAt (signature s.sec.next (s.spdmBody 3 0 s.sec.next nonce)) 0 5605]] ∧ Only [.sec, .tiles, .outbox] s t)) ∧
  (∀ (s : State) (h : Nat), s.doeUp h = true → Completes (.pskExchange h) s (fun t => Sends s t [.doe h 4 SPDM_UNSUPPORTED []] ∧ Only [.outbox] s t)) ∧
  (∀ (s : State) (h : Nat) (x y : W256), s.doeUp h = true → (s.head h).session = true → s.sec.secrets = [(1, x)] →
    Completes (.keyImport h y) s (fun t => t.sec = { s.sec with secrets := [(1, x), (2, y)] } ∧ Sends s t [.doe h 8 0 [2]] ∧ Only [.sec, .ps, .free, .outbox] s t)) ∧
  (∀ (s : State) (h : Nat) (y : W256), s.doeUp h = true → (s.head h).session = true → 4 ≤ s.sec.secrets.length →
    Completes (.keyImport h y) s (fun t => Sends s t [.doe h 8 SPDM_BUSY []] ∧ Only [.outbox] s t)) ∧
  (∀ (s : State) (h k : Nat), s.doeUp h = true → (s.head h).session = true → ahas k s.sec.secrets = true → s.car.inGroup = false →
    Completes (.keyDelete h k) s (fun t => t.sec = { s.sec with secrets := adel k s.sec.secrets } ∧ Sends s t [.doe h 9 0 []] ∧ Only [.sec, .ps, .free, .outbox] s t)) ∧
  (∀ (s : State) (h k : Nat), s.doeUp h = true → (s.head h).session = true → s.car.inGroup = true → s.car.handle = k →
    Completes (.keyDelete h k) s (fun t => Sends s t [.doe h 9 SPDM_INVALID []] ∧ Only [.outbox] s t)) ∧
  (∀ (s : State) (h : Nat), s.doeUp h = true → (s.head h).session = true →
    Completes (.ideKmQuery h) s (fun t => Sends s t [.doe h 16 0 ([1, 1, 4, 0] ++ (s.head h).ide.toList.map (·.sets))] ∧ Only [.outbox] s t)) ∧
  (∀ (s : State) (h i set dir j : Nat) (x : IdeStream) (io : Option (Nat × Bool)), s.doeUp h = true → s.ioPasses h io = true → (s.head h).session = true → i < 5 → set < 2 → dir < 2 → vget i {} (s.head h).ide = x →
    x.rx ≠ some set → x.rxNew ≠ some set → x.tx ≠ some set → j ≠ i →
    Completes (.keyProg h i set dir io) s (fun t => bitOf (vget i {} (t.head h).ide).sets (2 * set + dir) = true ∧ vget j {} (t.head h).ide = vget j {} (s.head h).ide ∧
      Sends s t [.doe h 17 0 [i, set, dir, 0]] ∧ Only [.tiles, .outbox] s t)) ∧
  (∀ (s : State) (h i set : Nat) (io : Option (Nat × Bool)), s.doeUp h = true → s.ioPasses h io = true → (s.head h).session = true → i < 5 → set < 2 → (vget i {} (s.head h).ide).rx = some set →
    Completes (.keyProg h i set 0 io) s (fun t => Sends s t [.doe h 17 0 [i, set, 0, 4]] ∧ Only [.outbox] s t)) ∧
  (∀ (s : State) (h i set : Nat) (x : IdeStream) (io : Option (Nat × Bool)), s.doeUp h = true → s.ioPasses h io = true → (s.head h).session = true → i < 5 → set < 2 → vget i {} (s.head h).ide = x → bitOf x.sets (2 * set) = true →
    x.rx = some (1 - set) → x.insecure = false →
    Completes (.kSetGo h i set 0 io) s (fun t => vget i {} (t.head h).ide = { x with rxNew := some set } ∧ Sends s t [.doe h 18 0 [i, set, 0]] ∧ Only [.tiles, .outbox] s t)) ∧
  (∀ (s : State) (h i set : Nat) (x : IdeStream) (io : Option (Nat × Bool)), s.doeUp h = true → s.ioPasses h io = true → (s.head h).session = true → i < 5 → set < 2 → vget i {} (s.head h).ide = x → bitOf x.sets (2 * set + 1) = true →
    Completes (.kSetGo h i set 1 io) s (fun t => vget i {} (t.head h).ide = { x with tx := some set } ∧ Sends s t [.doe h 18 0 [i, set, 1]] ∧ Only [.tiles, .outbox] s t)) ∧
  (∀ (s : State) (h i set : Nat) (x : IdeStream), s.doeUp h = true → (s.head h).session = true → i < 5 → set < 2 → vget i {} (s.head h).ide = x → x.tx = some set →
    bitOf x.sets (2 * set + 1) = true →
    Completes (.kSetStop h i set 1) s (fun t => (vget i {} (t.head h).ide).tx = none ∧ bitOf (vget i {} (t.head h).ide).sets (2 * set + 1) = false ∧
      (vget i {} (t.head h).ide).rx = x.rx ∧ Sends s t [.doe h 19 0 [i, set, 1]] ∧ Only [.tiles, .outbox] s t)) ∧
  (∀ (s : State) (h i n o j : Nat) (x : IdeStream), h < 8 → i < 5 → vget i {} (s.head h).ide = x → x.rxNew = some n → x.rx = some o → bitOf x.sets (2 * o) = true → j ≠ i →
    Completes (.ideKeySwitch h i) s (fun t => vget i {} (t.head h).ide = { x with rx := some n, rxNew := none, sets := x.sets - 2 ^ (2 * o) } ∧
      vget j {} (t.head h).ide = vget j {} (s.head h).ide ∧ Only [.tiles] s t))

/-- FW_STAGE stages a chunk, verifies the whole image on FINAL (an image below the rollback floor is refused, with its flag set), and leaves the running
slot. FW_ACTIVATE of a checked image makes it the preferred one on trial. ATTEST_QUOTE signs with the next index, in the states of the
life cycle that sign. SIGNING_TOKEN_REFILL adds a token, up to 256. LIFECYCLE_SET follows the table: a change it lacks is refused; from
UNOWNED to OWNED it marks the wipe pending and leaves the state; a wrong owner secret counts a failure, and with 8 failures even the right one is refused. DEBUG_UNLOCK
grants what token and request both name and consumes the challenge; a refused token grants nothing. Completes: fwStage, fwActivate, attestQuote,
signingTokenRefill, lifecycleSet, debugUnlock. -/
def Obligations.SecurityCommands : Prop :=
  (∀ (s : State) (pc : PortCmd) (len buf : Nat) (img : FwImage), s.accepts pc 0x0900 true = true → s.md.operating = true → len % 4 = 0 → len ≤ 2 ^ 20 → buf % 64 = 0 →
    s.sec.staging = none → s.sec.runSlot = 0 → s.sec.slots.length = 2 →
    Completes (.fwStage pc 0 len buf false img true) s (fun t => t.fwSlot 1 = { s.fwSlot 1 with staged := len, partialImg := true, verdict := 0 } ∧ t.fwSlot 0 = s.fwSlot 0 ∧
      t.resultOf pc = some (succeeded [(32, len), (2, 0)]) ∧ Only [.porter, .sec, .ps] s t)) ∧
  (∀ (s : State) (pc : PortCmd) (offset len buf : Nat) (img : FwImage), s.accepts pc 0x0900 true = true → s.md.operating = true → len % 4 = 0 → len ≤ 2 ^ 20 → buf % 64 = 0 →
    s.sec.staging = none → s.sec.runSlot = 0 → s.sec.slots.length = 2 → 0 < offset → offset + len ≤ 2 ^ 24 → (s.fwSlot 1).staged = offset → (s.fwSlot 1).partialImg = true →
    (s.modSlotFw 1 (fun k => { k with partialImg := false, img := img })).imageFail 1 0xFF = 0 →
    Completes (.fwStage pc offset len buf true img true) s (fun t => t.fwSlot 1 = { s.fwSlot 1 with staged := offset + len, partialImg := false, img := img, verdict := 1 } ∧ t.fwSlot 0 = s.fwSlot 0 ∧
      t.resultOf pc = some (succeeded [(32, offset + len), (2, 1)]) ∧ Only [.porter, .sec] s t)) ∧
  (∀ (s : State) (pc : PortCmd) (offset len buf : Nat) (img : FwImage), s.accepts pc 0x0900 true = true → s.md.operating = true → len % 4 = 0 → len ≤ 2 ^ 20 → buf % 64 = 0 →
    s.sec.staging = none → s.sec.runSlot = 0 → s.sec.slots.length = 2 → 0 < offset → offset + len ≤ 2 ^ 24 → (s.fwSlot 1).staged = offset → (s.fwSlot 1).partialImg = true →
    (s.modSlotFw 1 (fun k => { k with partialImg := false, img := img })).imageFail 1 0xFF = 4 →
    Completes (.fwStage pc offset len buf true img true) s (fun t => t.fwSlot 1 = { s.fwSlot 1 with staged := offset + len, partialImg := false, img := img, verdict := 3 } ∧ t.regBit Reg.SEC_ERR_STATUS 1 = true ∧ t.fuse = s.fuse ∧
      t.resultOf pc = some { status := Status.notAuthorised.code, detail := 1 } ∧ Only (.sec :: logParts) s t)) ∧
  (∀ (s : State) (pc : PortCmd), s.accepts pc 0x0901 true = true → s.md.inService = true → s.sec.runSlot = 0 → (s.fwSlot 1).verdict = 1 →
    Completes (.fwActivate pc) s (fun t => bitOf t.fwBoot 0 = true ∧ bitOf t.fwBoot 1 = true ∧ fwTries t.fwBoot = 0 ∧ t.resultOf pc = some (succeeded []) ∧ Only [.porter, .ps] s t)) ∧
  (∀ (s : State) (pc : PortCmd), s.accepts pc 0x0901 true = true → s.md.inService = true → s.sec.runSlot = 0 → (s.fwSlot 1).verdict = 0 →
    Completes (.fwActivate pc) s (fun t => t.resultOf pc = some { status := Status.notAuthorised.code, detail := 1 } ∧ Only [.porter] s t)) ∧
  (∀ (s : State) (pc : PortCmd) (buf mask : Nat) (nonce : W256), s.accepts pc 0x0902 false = true → buf % 64 = 0 → 0 < mask → mask < 256 → s.canSign = true →
    Completes (.attestQuote pc buf mask nonce) s (fun t => t.sec = { s.sec with next := s.sec.next + 1, tokens := s.sec.tokens - 1 } ∧
      t.resultOf pc = some (succeeded [(16, (s.quoteBody nonce mask s.sec.next).length + 5605), (40, s.sec.next)]) ∧
      Sends s t [.hostWrite (s.ring pc.ring).head buf (s.quoteBody nonce mask s.sec.next ++ signature s.sec.next (s.quoteBody nonce mask s.sec.next))] ∧
      Only [.porter, .sec, .outbox] s t)) ∧
  (∀ (s : State) (pc : PortCmd) (mask : Nat) (nonce : W256), s.accepts pc 0x0902 false = true → 0 < mask → mask < 256 → s.deviceSigns = false →
    Completes (.attestQuote pc 0 mask nonce) s (fun t => t.resultOf pc = some { status := Status.wrongMode.code, detail := s.md.mode.code } ∧ Only [.porter] s t)) ∧
  (∀ (s : State), s.sec.signers = [] → Completes .signingTokenRefill s (fun t => t.sec = { s.sec with tokens := min 256 (s.sec.tokens + 1) } ∧ Only [.sec] s t)) ∧
  (∀ (s : State) (pc : PortCmd) (target buf : Nat) (b : List Byte), s.accepts pc 0x0903 true = true → s.md.inService = true → lcChange s.sec.lc target = none →
    Completes (.lifecycleSet pc target buf b true) s (fun t => t.resultOf pc = some { status := Status.invalidField.code } ∧ Only [.porter] s t)) ∧
  (∀ (s : State) (pc : PortCmd) (buf : Nat) (b : List Byte), s.accepts pc 0x0903 true = true → s.md.inService = true → s.sec.lc = 2 → s.car.inGroup = false → s.fuse.gen < 64 → buf % 64 = 0 →
    Completes (.lifecycleSet pc 3 buf b true) s (fun t => t.sec = { s.sec with lcPending := some (3, 1, s.fuse.gen + 1) } ∧ t.fuse = s.fuse ∧
      t.psGet Param.LC = lcBytes 2 (some (3, 1, s.fuse.gen + 1)) ∧ t.resultOf pc = some (succeeded [(4, 2)]) ∧ Only [.porter, .sec, .ps] s t)) ∧
  (∀ (s : State) (pc : PortCmd) (buf : Nat) (b : List Byte), s.accepts pc 0x0903 true = true → s.md.inService = true → s.sec.lc = 3 → s.car.inGroup = false → s.fuse.gen ≤ 64 → buf % 64 = 0 →
    s.authFails = 0 → s.secretOk (b.take 32) = true →
    Completes (.lifecycleSet pc 3 buf b true) s (fun t => t.psGet Param.OWNER_AUTH = s.ownerAuthOf ((b.drop 32).take 32) ∧ t.sec = s.sec ∧
      t.resultOf pc = some (succeeded [(4, 3)]) ∧ Only [.porter, .ps] s t)) ∧
  (∀ (s : State) (pc : PortCmd) (buf : Nat) (b : List Byte), s.accepts pc 0x0903 true = true → s.md.inService = true → s.sec.lc = 3 → s.car.inGroup = false → s.fuse.gen ≤ 64 → buf % 64 = 0 →
    s.authFails < 7 → s.secretOk (b.take 32) = false →
    Completes (.lifecycleSet pc 3 buf b true) s (fun t => t.authFails = s.authFails + 1 ∧ t.sec = s.sec ∧ t.regBit Reg.SEC_ERR_STATUS 3 = true ∧
      t.resultOf pc = some { status := Status.notAuthorised.code, detail := 1 } ∧ Only [.porter, .ps, .reg] s t)) ∧
  (∀ (s : State) (pc : PortCmd) (buf : Nat) (b : List Byte), s.accepts pc 0x0903 true = true → s.md.inService = true → s.sec.lc = 3 → s.car.inGroup = false → s.fuse.gen ≤ 64 → buf % 64 = 0 →
    8 ≤ s.authFails →
    Completes (.lifecycleSet pc 3 buf b true) s (fun t => t.resultOf pc = some { status := Status.notAuthorised.code, detail := 2 } ∧ Only [.porter] s t)) ∧
  (∀ (s : State) (pc : PortCmd) (scope buf : Nat) (b : List Byte), s.accepts pc 0x0904 true = true → s.md.inService = true → scope < 4 → buf % 64 = 0 → s.authFails = 0 → s.sec.lc ≠ 5 →
    s.tokenOk b 3 true = true →
    Completes (.debugUnlock pc scope buf b true) s (fun t => t.sec = { s.sec with challengeOk := false, challenge := 0, granted := Nat.lor s.sec.granted (Nat.land scope (leAt b 67 1)) } ∧
      t.resultOf pc = some (succeeded [(8, Nat.lor s.sec.granted (Nat.land scope (leAt b 67 1)))]) ∧ Only (.sec :: logParts) s t)) ∧
  (∀ (s : State) (pc : PortCmd) (scope buf : Nat) (b : List Byte), s.accepts pc 0x0904 true = true → s.md.inService = true → scope < 8 → buf % 64 = 0 → s.authFails < 7 →
    Completes (.debugUnlock pc scope buf b false) s (fun t => t.sec = { s.sec with challengeOk := false, challenge := 0 } ∧ t.authFails = s.authFails + 1 ∧
      t.resultOf pc = some { status := Status.notAuthorised.code, detail := 1 } ∧ Only [.porter, .sec, .ps, .reg] s t))

/-- In Off the endpoint does nothing. In every later mode: ENTDAA gives an address to a target that has none and SETDASA to the target
whose static address it names, and neither changes an address that is there. Set Endpoint ID stores an ID of 8 to 254 and refuses
others (command numbers, completion codes and the range of IDs: log 24). The reads of MCTP control and PLDM answer with the endpoint's
own values and change nothing else: the four message types of the table, types 0 and 2 of PLDM, a record for each numeric sensor.
GetSensorReading of a sensor not in the table is refused; of a voltage it returns the last value; of a fan or an energy it is
unavailable in Standby; of a thermal sensor it returns the last value of a sensor not faulted, at most 2 s old, else unavailable; with
rearm it is answered after a conversion. FAULT_CLEAR clears FAULT; GET_STATE returns the four words; ALERT_READ returns THM_ALERT and
ALERT_CLEAR clears its bits and releases the alert line once no masked bit is left. Another type is dropped; another command gets its
type's unsupported-command completion. Completes: i3cEntdaa, i3cSetdasa, setEndpointId, getEndpointId, getEndpointUuid, getMctpVersionSupport,
getMessageTypeSupport, gettid, getpldmversion, getpldmtypes, getpldmcommands, getpdr, getpdrrepositoryinfo, getsensorreading, faultClear,
getState, alertRead, alertClear, unsupportedSidebandMessage. -/
def Obligations.Sideband : Prop :=
  (∀ (s : State) (addr : Nat), s.md.mode = .off → Completes (.i3cEntdaa addr) s (fun t => t = s)) ∧
  (∀ (s : State) (eid : Nat), s.md.mode = .off → Completes (.setEndpointId eid) s (fun t => t = s)) ∧
  (∀ (s : State), s.md.mode = .off → Completes .getState s (fun t => t = s)) ∧
  (∀ (s : State) (bits : W32), s.md.mode = .off → Completes (.alertClear bits) s (fun t => t = s)) ∧
  (∀ (s : State) (sensor nowMs : Nat) (rearm : Bool), s.md.mode = .off → Completes (.getsensorreading sensor rearm nowMs) s (fun t => t = s)) ∧
  (∀ (s : State) (type cmd : Nat), s.md.mode = .off → Completes (.unsupportedSidebandMessage type cmd) s (fun t => t = s)) ∧
  (∀ (s : State) (addr : Nat), s.md.mode ≠ .off →
    Completes (.i3cEntdaa addr) s (fun t => t = { s with thm := { s.thm with dynAddr := some (s.thm.dynAddr.getD addr) } })) ∧
  (∀ (s : State) (static addr : Nat), s.md.mode ≠ .off → s.thm.dynAddr = none →
    Completes (.i3cSetdasa static addr) s (fun t => t.thm.dynAddr = (if static = s.thm.staticAddr then some addr else none) ∧
      { t.thm with dynAddr := none } = s.thm ∧ Only [.thm] s t)) ∧
  (∀ (s : State) (static addr a : Nat), s.thm.dynAddr = some a → Completes (.i3cSetdasa static addr) s (fun t => t = s)) ∧
  (∀ (s : State) (eid : Nat), s.md.mode ≠ .off → 8 ≤ eid → eid ≤ 254 →
    Completes (.setEndpointId eid) s (fun t => t = { s with thm := { s.thm with eid := eid }, outbox := s.outbox ++ [.sideband 0 1 0 [0, eid, 0]] })) ∧
  (∀ (s : State) (eid : Nat), s.md.mode ≠ .off → (eid < 8 ∨ 254 < eid) →
    Completes (.setEndpointId eid) s (fun t => t = { s with outbox := s.outbox ++ [.sideband 0 1 CC_INVALID_DATA []] })) ∧
  (∀ (s : State), s.md.mode ≠ .off →
    Completes .getEndpointId s (fun t => t = { s with outbox := s.outbox ++ [.sideband 0 2 0 [s.thm.eid]] })) ∧
  (∀ (s : State), s.md.mode ≠ .off →
    Completes .getEndpointUuid s (fun t => t = { s with outbox := s.outbox ++ [.sideband 0 3 0 [Config.endpointUuid.toNat]] })) ∧
  (∀ (s : State) (type : Nat), s.md.mode ≠ .off →
    Completes (.getMctpVersionSupport type) s (fun t => t = { s with outbox := s.outbox ++
      [if type = 0 ∨ type = 1 ∨ type = 7 ∨ type = 0x7F then .sideband 0 4 0 [Config.sidebandVersion type] else .sideband 0 4 CC_UNKNOWN_NAME []] })) ∧
  (∀ (s : State), s.md.mode ≠ .off →
    Completes .getMessageTypeSupport s (fun t => t = { s with outbox := s.outbox ++ [.sideband 0 5 0 [4, 0x00, 0x01, 0x07, 0x7F]] })) ∧
  (∀ (s : State), s.md.mode ≠ .off → Completes .gettid s (fun t => t = { s with outbox := s.outbox ++ [.sideband 1 2 0 [Config.terminusId]] })) ∧
  (∀ (s : State) (type : Nat), s.md.mode ≠ .off →
    Completes (.getpldmversion type) s (fun t => t = { s with outbox := s.outbox ++
      [if type = 0 ∨ type = 2 then .sideband 1 3 0 [Config.sidebandVersion (256 + type)] else .sideband 1 3 CC_NO_PLDM_TYPE []] })) ∧
  (∀ (s : State), s.md.mode ≠ .off → Completes .getpldmtypes s (fun t => t = { s with outbox := s.outbox ++ [.sideband 1 4 0 [2 ^ 0 + 2 ^ 2]] })) ∧
  (∀ (s : State) (type : Nat), s.md.mode ≠ .off →
    Completes (.getpldmcommands type) s (fun t => t = { s with outbox := s.outbox ++
      [if type = 0 then .sideband 1 5 0 [2 ^ 2 + 2 ^ 3 + 2 ^ 4 + 2 ^ 5] else
       if type = 2 then .sideband 1 5 0 [2 ^ 0x11 + 2 ^ 0x50 + 2 ^ 0x51] else .sideband 1 5 CC_NO_PLDM_TYPE []] })) ∧
  (∀ (s : State) (k tile : Nat), s.md.mode ≠ .off → tile < s.pop.tiles → k < 4 →
    Completes (.getpdr (16 + 4 * tile + k)) s (fun t => t = { s with outbox := s.outbox ++
      [.sideband 1 0x51 0 [if k < 3 ∨ tile + 1 < s.pop.tiles then 17 + 4 * tile + k else 48, 16 + 4 * tile + k, 0]] })) ∧
  (∀ (s : State), s.md.mode ≠ .off →
    Completes .getpdrrepositoryinfo s (fun t => t = { s with outbox := s.outbox ++ [.sideband 1 0x50 0 [18 + 4 * s.pop.tiles]] })) ∧
  (∀ (s : State) (sensor nowMs : Nat) (rearm : Bool), s.md.mode ≠ .off →
    (sensor = 0 ∨ (8 < sensor ∧ sensor < 16) ∨ (51 < sensor ∧ sensor < 56) ∨ 61 < sensor) → s.pop.legal = true →
    Completes (.getsensorreading sensor rearm nowMs) s (fun t => t = { s with outbox := s.outbox ++ [.sideband 1 0x11 CC_UNKNOWN_NAME []] })) ∧
  (∀ (s : State) (nowMs : Nat) (rearm : Bool), s.md.mode ≠ .off →
    Completes (.getsensorreading 57 rearm nowMs) s (fun t => t = { s with outbox := s.outbox ++ [.sideband 1 0x11 0 [57, 1, signedWord s.pw.holdV]] })) ∧
  (∀ (s : State) (sensor nowMs : Nat) (rearm : Bool), s.md.mode = .standby →
    (sensor = 48 ∨ sensor = 49 ∨ sensor = 50 ∨ sensor = 51 ∨ sensor = 58 ∨ sensor = 59) →
    Completes (.getsensorreading sensor rearm nowMs) s (fun t => t = { s with outbox := s.outbox ++ [.sideband 1 0x11 0 [sensor, 0]] })) ∧
  (∀ (s : State) (n nowMs : Nat), s.md.mode ≠ .off → n < 8 →
    Completes (.getsensorreading (n + 1) false nowMs) s (fun t => t = { s with outbox := s.outbox ++ [.sideband 1 0x11 0
      (if (s.sensor (512 + n)).atMs + 2000 < nowMs ∨ (s.sensor (512 + n)).fault = true then [n + 1, 0]
       else [n + 1, 1, signedWord (s.sensor (512 + n)).value])] })) ∧
  (∀ (s : State) (n nowMs : Nat), s.md.mode ≠ .off → s.md.mode ≠ .holdup → n < 8 →
    Completes (.getsensorreading (n + 1) true nowMs) s (fun t => ((t.sensor (512 + n)).request.isSome = true ∨ t.converts (512 + n) = true) ∧
      t.thm.rearm = s.thm.rearm ++ [(n + 1, [512 + n], if s.converts (512 + n) then [512 + n] else [])] ∧ t.outbox = s.outbox ∧ Only [.thm] s t)) ∧
  (∀ (s : State), s.md.mode ≠ .off → s.pw.fault = true → s.pw.onLatched = none →
    Completes .faultClear s (fun t => t.pw = { s.pw with fault := false } ∧ t.outbox.getLast? = some (.sideband 0x7F 3 0 []) ∧ Only (.pw :: logParts) s t)) ∧
  (∀ (s : State), s.md.mode ≠ .off → s.pw.fault = false →
    Completes .faultClear s (fun t => t = { s with outbox := s.outbox ++ [.sideband 0x7F 3 0 []] })) ∧
  (∀ (s : State), s.md.mode ≠ .off →
    Completes .getState s (fun t => t = { s with outbox := s.outbox ++
      [.sideband 0x7F 4 0 [s.modeStatus.toNat, s.modeCause.toNat, s.pwrStatus.toNat, s.thmStatus.toNat]] })) ∧
  (∀ (s : State), s.md.mode ≠ .off →
    Completes .alertRead s (fun t => t = { s with outbox := s.outbox ++ [.sideband 0x7F 5 0 [(s.getReg Reg.THM_ALERT).toNat]] })) ∧
  (∀ (s : State) (bits : W32), s.md.mode ≠ .off →
    Completes (.alertClear bits) s (fun t => t.getReg Reg.THM_ALERT = s.getReg Reg.THM_ALERT &&& ~~~bits ∧
      t.outbox.getLast? = some (.sideband 0x7F 6 0 []) ∧
      (t.getReg Reg.THM_ALERT &&& t.getReg Reg.THM_ALERT_MASK = 0 → t.thm.alertLow = false) ∧ Only [.reg, .thm, .outbox] s t)) ∧
  (∀ (s : State) (type cmd : Nat), s.md.mode ≠ .off → type ≠ 0 → type ≠ 1 → type ≠ 7 → type ≠ 0x7F →
    Completes (.unsupportedSidebandMessage type cmd) s (fun t => t = s)) ∧
  (∀ (s : State) (type cmd : Nat), s.md.mode ≠ .off → (type = 0 ∨ type = 1 ∨ type = 0x7F) →
    Completes (.unsupportedSidebandMessage type cmd) s (fun t => t = { s with outbox := s.outbox ++ [.sideband type cmd CC_UNSUPPORTED []] })) ∧
  (∀ (s : State) (cmd : Nat), s.md.mode ≠ .off →
    Completes (.unsupportedSidebandMessage 7 cmd) s (fun t => t = { s with outbox := s.outbox ++ [.sideband 7 cmd RET_UNSUPPORTED []] }))

/-- A conversion that does not run changes nothing. A good one stores the temperature that its code reads, its time, and a history of 2 s; in
Standby it does no more. A faulted one sets FAULT and SENSOR_FAULT and keeps the value. A reading at WARN raises the alert; the second in
succession at or below the limit less HYST leaves it. A reading at SHUT starts a second conversion; the second there acts as a long
press, in Hold-up by its cap. The rise watch asks at priority 1, not in Hold-up, and the guard at priority 3 once its time has passed (GUARD 0: never). A trip outside Off and
Standby raises its alert and acts as a confirmed SHUT. TEMP_MEASURE asks for conversions and ends with its last one; a faulted one
sets its tile's bit of FAULTS. SET_RISE_LIMITS writes the group's limits, and the parameter with PERSIST; a command with a wrong field
changes nothing else. Completes: thermalConversionDone, riseWatchTimer, thermalGuardExpire, thermalTrip, tempMeasure, setRiseLimits. -/
def Obligations.ThermalConversions : Prop :=
  (∀ (s : State) (i nowMs : Nat) (reading : Option Int), s.converts i = false → Completes (.thermalConversionDone i reading nowMs) s (fun t => t = s)) ∧
  (∀ (s : State) (n p nowMs : Nat) (code v : Int), s.md.mode = .standby → n < 8 → s.convQuiet (512 + n) p = true → s.readingOf (512 + n) code = some v →
    Completes (.thermalConversionDone (512 + n) (some code) nowMs) s (fun t => t.sensor (512 + n) =
      { s.sensor (512 + n) with value := v, fault := false, atMs := nowMs,
                                hist := (nowMs, v) :: (s.sensor (512 + n)).hist.filter (fun e => decide (nowMs ≤ e.1 + 2000)) } ∧
      t.thm.converting = [] ∧ Only [.thm, .free] s t)) ∧
  (∀ (s : State) (i p nowMs : Nat) (reading : Option Int), s.convQuiet i p = true → reading.bind (s.readingOf i) = none →
    Completes (.thermalConversionDone i reading nowMs) s (fun t => (t.sensor i).fault = true ∧ (t.sensor i).value = (s.sensor i).value ∧
      (t.sensor i).shutWait = false ∧ t.regBit Reg.THM_ALERT 6 = true ∧ t.thm.converting = [] ∧ Only (.thm :: .tiles :: .free :: logParts) s t)) ∧
  (∀ (s : State) (i p nowMs : Nat) (code v : Int), s.convQuiet i p = true → s.md.operating = true → s.readingOf i code = some v →
    (s.sensor i).hist = [] → (s.sensor i).warn = false →
    8 * (fieldOf (s.getReg (limitReg (sensorGroup i))) 15 8 : Int) ≤ v → v < 8 * (fieldOf (s.getReg (limitReg (sensorGroup i))) 23 16 : Int) →
    v < 8 * (fieldOf (s.getReg (limitReg (sensorGroup i))) 31 24 : Int) →
    Completes (.thermalConversionDone i (some code) nowMs) s (fun t => (t.sensor i).warn = true ∧ (t.sensor i).value = v ∧
      t.regBit Reg.THM_ALERT 0 = true ∧ Only (.thm :: .tiles :: .cap :: .free :: logParts) s t)) ∧
  (∀ (s : State) (i p nowMs : Nat) (code v : Int), s.convQuiet i p = true → s.md.operating = true → s.readingOf i code = some v →
    (s.sensor i).hist = [] → (s.sensor i).warn = true → (s.sensor i).warnLow = 1 →
    v ≤ 8 * ((fieldOf (s.getReg (limitReg (sensorGroup i))) 15 8 : Int) - s.hyst) → v < 8 * (fieldOf (s.getReg (limitReg (sensorGroup i))) 23 16 : Int) →
    v < 8 * (fieldOf (s.getReg (limitReg (sensorGroup i))) 31 24 : Int) →
    Completes (.thermalConversionDone i (some code) nowMs) s (fun t => (t.sensor i).warn = false ∧ (t.sensor i).value = v ∧ Only [.thm, .tiles, .free] s t)) ∧
  (∀ (s : State) (i p nowMs : Nat) (code v : Int), s.convQuiet i p = true → s.md.operating = true → s.readingOf i code = some v →
    (s.sensor i).shutWait = false → 8 * (fieldOf (s.getReg (limitReg (sensorGroup i))) 31 24 : Int) ≤ v →
    Completes (.thermalConversionDone i (some code) nowMs) s (fun t => (t.sensor i).shutWait = true ∧ t.thm.converting = [(sensorTile i, (i, 1))] ∧
      t.md = s.md ∧ t.pw = s.pw ∧ Only (.thm :: .tiles :: .cap :: .free :: logParts) s t)) ∧
  (∀ (s : State) (i p nowMs : Nat) (code v : Int), aget (sensorTile i) s.thm.converting = some (i, p) → s.convAllowed i p = true → s.md.operating = true →
    s.pw.seq = .up → s.readingOf i code = some v → (s.sensor i).shutWait = true → 8 * (fieldOf (s.getReg (limitReg (sensorGroup i))) 31 24 : Int) ≤ v →
    Completes (.thermalConversionDone i (some code) nowMs) s (fun t => t.md.mode = .holdup ∧ t.md.cause = 2 ∧ t.md.capApplies = true)) ∧
  (∀ (s : State) (i p nowMs : Nat) (code v : Int), aget (sensorTile i) s.thm.converting = some (i, p) → s.convAllowed i p = true → s.md.mode = .holdup →
    s.readingOf i code = some v → (s.sensor i).shutWait = true → 8 * (fieldOf (s.getReg (limitReg (sensorGroup i))) 31 24 : Int) ≤ v →
    Completes (.thermalConversionDone i (some code) nowMs) s (fun t => t.md = { s.md with capApplies := true })) ∧
  (∀ (s : State) (i : Nat), (s.sensor i).rise.isSome = true → s.sensorExists i = true → s.md.mode ≠ .holdup →
    Completes (.riseWatchTimer i) s (fun t => ((t.sensor i).request = some 0 ∨ (t.sensor i).request = some 1 ∨ t.converts i = true) ∧
      { t.sensor i with request := none } = { s.sensor i with request := none } ∧ Only [.thm] s t)) ∧
  (∀ (s : State) (i : Nat), ((s.sensor i).rise = none ∨ s.md.mode = .holdup) → Completes (.riseWatchTimer i) s (fun t => t = s)) ∧
  (∀ (s : State) (tile c k chans ms : Nat), s.md.mode ≠ .off → s.fld Reg.THM_CTL 7 4 ≠ 0 → 100 * s.fld Reg.THM_CTL 7 4 ≤ ms → s.alive tile = true → c < 8 → k < 2 →
    bitOf chans c = true → (s.sensor (64 * tile + 8 + 2 * c + k)).request = none →
    Completes (.thermalGuardExpire tile 1 chans ms) s (fun t => ((t.sensor (64 * tile + 8 + 2 * c + k)).request = some 3 ∨ t.converts (64 * tile + 8 + 2 * c + k) = true) ∧
      Only [.thm] s t)) ∧
  (∀ (s : State) (tile group chans ms : Nat), (s.fld Reg.THM_CTL 7 4 = 0 ∨ ms < 100 * s.fld Reg.THM_CTL 7 4) →
    Completes (.thermalGuardExpire tile group chans ms) s (fun t => t = s)) ∧
  (∀ (s : State) (tile : Nat), s.md.operating = true → s.pw.seq = .up → s.alive tile = true →
    Completes (.thermalTrip tile) s (fun t => t.md.mode = .holdup ∧ t.md.cause = 2 ∧ t.md.capApplies = true)) ∧
  (∀ (s : State) (tile : Nat), s.md.mode = .holdup → s.alive tile = true →
    Completes (.thermalTrip tile) s (fun t => t.md = { s.md with capApplies := true } ∧ t.regBit Reg.THM_ALERT 3 = true ∧
      Only (.md :: .thm :: logParts) s t)) ∧
  (∀ (s : State) (tile : Nat), (s.md.mode = .off ∨ s.md.mode = .standby) → Completes (.thermalTrip tile) s (fun t => t = s)) ∧
  (∀ (s : State) (pc : PortCmd) (tile k mask chans : Nat), s.accepts pc 0x0800 false = true → mask < 2 ^ s.pop.tiles → bitOf mask tile = true →
    s.alive tile = true → k < 6 → s.thm.jobs = [] →
    Completes (.tempMeasure pc mask 1 chans) s (fun t => ((t.sensor (64 * tile + k)).request.isSome = true ∨ t.converts (64 * tile + k) = true) ∧
      t.thm.jobs.any (fun j => j.ring == pc.ring && j.cid == pc.cid && j.left.contains (64 * tile + k)) = true ∧
      t.underWay pc = true ∧ Only [.porter, .thm] s t)) ∧
  (∀ (s : State) (pc : PortCmd) (mask groups chans : Nat), s.accepts pc 0x0800 false = true → (2 ^ s.pop.tiles ≤ mask ∨ groups = 0) →
    Completes (.tempMeasure pc mask groups chans) s (fun t =>
      t.resultOf pc = some { status := Status.invalidField.code, detail := if 2 ^ s.pop.tiles ≤ mask then 0 else 1 } ∧ Only [.porter] s t)) ∧
  (∀ (s : State) (pc : PortCmd) (i p faults nowMs : Nat) (named : List Nat), aget (sensorTile i) s.thm.converting = some (i, p) → s.convAllowed i p = true →
    s.thm.jobs = [{ ring := pc.ring, cid := pc.cid, left := [i], named := named, faults := faults }] → pc.ring < 64 → s.underWay pc = true → i < 512 →
    s.thm.rearm = [] →
    Completes (.thermalConversionDone i none nowMs) s (fun t =>
      (t.resultOf pc).map (fun d => (d.status, d.results.getLast?)) = some (Status.success.code, some (8, setBit faults (i / 64))) ∧ t.thm.jobs = [])) ∧
  (∀ (s : State) (pc : PortCmd) (group warn crit shut rise : Nat) (persist : Bool), s.accepts pc 0x0801 true = true → s.md.operating = true →
    group < 3 → warn < crit → crit < shut → shut < 256 → (group = 0 → shut ≤ 125) → 5 ≤ rise → rise < 256 →
    Completes (.setRiseLimits pc group warn crit shut rise persist) s (fun t =>
      t.getReg (limitReg group) = BitVec.ofNat 32 (shut * 2 ^ 24 + crit * 2 ^ 16 + warn * 2 ^ 8 + rise) ∧ t.resultOf pc = some (succeeded []) ∧
      (persist = true → t.psGet (Param.THERM_LIMITS + group) = leBytes 4 (shut * 2 ^ 24 + crit * 2 ^ 16 + warn * 2 ^ 8 + rise)) ∧
      (persist = false → t.ps = s.ps) ∧ Only [.porter, .reg, .ps] s t)) ∧
  (∀ (s : State) (pc : PortCmd) (group warn crit shut rise : Nat) (persist : Bool), s.accepts pc 0x0801 true = true → s.md.operating = true →
    (3 ≤ group ∨ (group = 0 ∧ 125 < shut) ∨ rise < 5 ∨ crit ≤ warn ∨ shut ≤ crit) →
    Completes (.setRiseLimits pc group warn crit shut rise persist) s (fun t => (t.resultOf pc).map (·.status) = some Status.invalidField.code ∧
      Only [.porter] s t))

/-- Each 100 ms in Bring-up and wherever the package operates: a fan that is off drives no duty; a fan with a group in its mask that
has no reading of the last 2 s is in failsafe at full duty, and so is one beside a failed fan; otherwise the duty rises at once to
the highest of its curves and MIN_DUTY or falls by at most 5. In Standby and Hold-up nothing changes. A fan with its tach enabled, slow
at a duty of at least 77, is FAILED with its alert; a failed fan at or above STALL_RPM recovers. FAN_CONFIG loads the record, and
stores it with PERSIST; a curve out of order is refused, and TACH_EN is busy where a GPIO owns the input. Completes:
fanLoopUpdate, fanStall, fanRecover, fanConfig. -/
def Obligations.Fans : Prop :=
  (∀ (s : State) (nowMs n : Nat) (rpms : List Nat), s.fansRun = true → n < 4 → (vget n {} s.thm.fans).enable = false →
    Completes (.fanLoopUpdate nowMs rpms) s (fun t => vget n {} t.thm.fans =
      { vget n {} s.thm.fans with duty := 0, rpm := 0, override := false, failsafe := false } ∧ Only [.thm] s t)) ∧
  (∀ (s : State) (nowMs n g : Nat) (rpms : List Nat), s.fansRun = true → n < 4 → (vget n {} s.thm.fans).enable = true → g < 3 →
    bitOf (vget n {} s.thm.fans).groups g = true → s.groupReading g nowMs = none →
    Completes (.fanLoopUpdate nowMs rpms) s (fun t => vget n {} t.thm.fans =
      { vget n {} s.thm.fans with duty := max 255 ((vget n {} s.thm.fans).duty - 5), override := true, failsafe := true,
                                  rpm := if s.tachOn n then min 0xFFFF (rpms.getD n 0) else 0 } ∧ Only [.thm] s t)) ∧
  (∀ (s : State) (nowMs n k : Nat) (rpms : List Nat), s.fansRun = true → n < 4 → k < 4 → k ≠ n → (vget k {} s.thm.fans).failed = true →
    (vget n {} s.thm.fans).enable = true → (vget n {} s.thm.fans).duty ≤ 255 →
    Completes (.fanLoopUpdate nowMs rpms) s (fun t => (vget n {} t.thm.fans).duty = 255 ∧ (vget n {} t.thm.fans).override = true ∧ Only [.thm] s t)) ∧
  (∀ (s : State) (nowMs n : Nat) (x : Int) (rpms : List Nat), s.fansRun = true → n < 4 → (vget n {} s.thm.fans).enable = true →
    (vget n {} s.thm.fans).groups = 4 → s.groupReading 2 nowMs = some x → s.groupHot 2 = false → (vget 0 {} s.thm.fans).failed = false →
    (vget 1 {} s.thm.fans).failed = false → (vget 2 {} s.thm.fans).failed = false → (vget 3 {} s.thm.fans).failed = false →
    Completes (.fanLoopUpdate nowMs rpms) s (fun t => (vget n {} t.thm.fans).duty =
      max (max (vget n {} s.thm.fans).minDuty (curveDuty x ((vget n {} s.thm.fans).curves.getD 2 []))) ((vget n {} s.thm.fans).duty - 5) ∧
      (vget n {} t.thm.fans).override = false ∧ (vget n {} t.thm.fans).failsafe = false ∧ Only [.thm] s t)) ∧
  (∀ (s : State) (nowMs : Nat) (rpms : List Nat), (s.md.mode = .off ∨ s.md.mode = .standby ∨ s.md.mode = .holdup) →
    Completes (.fanLoopUpdate nowMs rpms) s (fun t => t = s)) ∧
  (∀ (s : State) (n rpm : Nat), s.fansRun = true → n < 4 → (vget n {} s.thm.fans).enable = true → s.tachOn n = true →
    (vget n {} s.thm.fans).failed = false → 77 ≤ (vget n {} s.thm.fans).duty → rpm < (vget n {} s.thm.fans).stallRpm →
    Completes (.fanStall n rpm) s (fun t => vget n {} t.thm.fans = { vget n {} s.thm.fans with failed := true, rpm := rpm } ∧
      t.regBit Reg.THM_ALERT 5 = true ∧ Only (.thm :: logParts) s t)) ∧
  (∀ (s : State) (n rpm : Nat), ((vget n {} s.thm.fans).duty < 77 ∨ (vget n {} s.thm.fans).stallRpm ≤ rpm ∨ s.tachOn n = false ∨ s.fansRun = false) →
    Completes (.fanStall n rpm) s (fun t => t = s)) ∧
  (∀ (s : State) (n rpm : Nat), s.fansRun = true → n < 4 → (vget n {} s.thm.fans).failed = true → (vget n {} s.thm.fans).stallRpm ≤ rpm →
    Completes (.fanRecover n rpm) s (fun t => vget n {} t.thm.fans = { vget n {} s.thm.fans with failed := false, rpm := min 0xFFFF rpm } ∧
      t.getReg Reg.THM_ALERT = s.getReg Reg.THM_ALERT ∧ Only (.thm :: logParts) s t)) ∧
  (∀ (s : State) (n rpm : Nat), ((vget n {} s.thm.fans).failed = false ∨ rpm < (vget n {} s.thm.fans).stallRpm) →
    Completes (.fanRecover n rpm) s (fun t => t = s)) ∧
  (∀ (s : State) (pc : PortCmd) (n adr : Nat) (persist : Bool) (b : List Byte), s.accepts pc 0x0802 true = true → s.md.operating = true → n < 4 →
    adr % 64 = 0 → fanRecordOk b = true → (bitOf (leAt b 0 1) 1 = false ∨ bitOf (s.fld Reg.THM_GPIO_CTL 3 0) n = false) →
    Completes (.fanConfig pc n adr persist b) s (fun t => vget n {} t.thm.fans = fanOf (vget n {} s.thm.fans) b ∧
      t.resultOf pc = some (succeeded [(16, (vget n {} s.thm.fans).rpm), (8, (vget n {} s.thm.fans).duty)]) ∧
      (persist = true → t.psGet (Param.FAN_RECORDS + n) = padTo 32 b) ∧ (persist = false → t.ps = s.ps) ∧ Only [.porter, .thm, .ps] s t)) ∧
  (∀ (s : State) (pc : PortCmd) (n adr : Nat) (persist : Bool) (b : List Byte), s.accepts pc 0x0802 true = true → s.md.operating = true →
    (adr % 64 ≠ 0 ∨ fanRecordOk b = false) →
    Completes (.fanConfig pc n adr persist b) s (fun t => t.resultOf pc = some { status := Status.invalidField.code, detail := 1 } ∧ Only [.porter] s t)) ∧
  (∀ (s : State) (pc : PortCmd) (n adr : Nat) (persist : Bool) (b : List Byte), s.accepts pc 0x0802 true = true → s.md.operating = true →
    adr % 64 = 0 → fanRecordOk b = true → bitOf (leAt b 0 1) 1 = true → bitOf (s.fld Reg.THM_GPIO_CTL 3 0) n = true →
    Completes (.fanConfig pc n adr persist b) s (fun t => t.resultOf pc = some { status := Status.resourceBusy.code, detail := 2 } ∧ Only [.porter] s t))

/-- DESCRIPTOR_FETCH_DONE appends what was read and advances SQ_HEAD; a fetch that fails, or times out, brings the ring to ERROR with
CAUSE 4; data that no fetch awaits changes nothing. COMMAND_START takes the next ring in ascending order after the one served last
and starts its first descriptor: the command executes, and has ended already where its opcode is unknown or a field of its descriptor is wrong. Nothing starts while 256
execute. COMMAND_COMPLETE writes bytes 8 to 63 and then bytes 0 to 7 of the next entry and advances CQ_TAIL; the interrupt is sent at
once for IMM, and kept back while fewer than COAL_COUNT completions have been counted. COMMAND_BOUND_EXPIRE, at the end of the command's bound, writes TIMEOUT with the
progress so far and lets the command run on; when it ends no entry is written; a command that has ended gets none. A failed read of a command's buffer ends it with TIMEOUT, DETAIL 2, or ABORTED,
DETAIL 5. COAL_TIME_EXPIRE, after COAL_TIME, sends the interrupt where completions were counted. A DISABLING ring with nothing in flight is DISABLED.
A timer that has not reached its limit changes nothing. Completes: descriptorFetchDone, outboundCompletionTimeout, commandStart, commandComplete,
commandBoundExpire, bufferReadFail, coalTimeExpire, ringDisabled. -/
def Obligations.RingEngine : Prop :=
  (∀ (s : State) (r n : Nat) (l : List DescWord), r < 64 → (s.ring r).state = .running → s.md.ringsRun = true →
    (s.head (s.ring r).head).outbound = [{ ring := r, cid := none, count := n }] → l.length = n → (s.ring r).head < 8 →
    Completes (.descriptorFetchDone r l false) s (fun t => (t.ring r).sqHead = ((s.ring r).sqHead + n) % s.sqSize r ∧
      (t.ring r).fetched = (s.ring r).fetched ++ l.map (fun d => { opcode := d.opcode, cid := d.cid, flags := d.flags, rsv := d.rsv, params := d.params }) ∧
      (t.ring r).execs = (s.ring r).execs ∧ Only [.porter, .tiles, .outbox] s t)) ∧
  (∀ (s : State) (r n : Nat) (l : List DescWord), r < 64 → (s.ring r).state = .running → s.md.ringsRun = true →
    (s.head (s.ring r).head).outbound = [{ ring := r, cid := none, count := n }] → (s.ring r).head < 8 → s.isEvtRing r = false →
    Completes (.descriptorFetchDone r l true) s (fun t => (t.ring r).state = .error ∧ (t.ring r).fetched = [] ∧
      (t.ring r).sqHead = (s.ring r).sqHead ∧ t.regBit (Reg.RING_ERR r) 0 = true ∧ t.fld (Reg.RING_ERR r) 7 4 = 4 ∧ Only (.tiles :: logParts) s t)) ∧
  (∀ (s : State) (r n us : Nat), r < 64 → (s.ring r).state = .running → s.md.ringsRun = true → (s.head (s.ring r).head).ctoUs ≤ us →
    (s.head (s.ring r).head).outbound = [{ ring := r, cid := none, count := n }] → (s.ring r).head < 8 → s.isEvtRing r = false →
    Completes (.outboundCompletionTimeout r none us) s (fun t => (t.ring r).state = .error ∧ t.regBit (Reg.RING_ERR r) 0 = true ∧
      t.fld (Reg.RING_ERR r) 7 4 = 4 ∧ Only (.tiles :: logParts) s t)) ∧
  (∀ (s : State) (r : Nat) (l : List DescWord) (fail : Bool), (s.head (s.ring r).head).outbound = [] →
    Completes (.descriptorFetchDone r l fail) s (fun t => t = s)) ∧
  (∀ (s : State) (r : Nat) (d : Desc), r < 64 → s.md.ringsRun = true → s.executing < 256 → s.canStartCmd r = true → (s.ring r).fetched.head? = some d →
    (List.range 64).all (fun k => k == r || !s.canStartCmd k) = true →
    Completes .commandStart s (fun t => (t.ring r).fetched = (s.ring r).fetched.tail ∧ t.porter.lastServed = r ∧
      (t.ring r).execs = (s.ring r).execs ++ [{ cid := d.cid, opcode := d.opcode, imm := bitOf d.flags 0, fence := bitOf d.flags 1, result := s.descCheck r d }] ∧
      Only [.porter] s t)) ∧
  (∀ (s : State) (r : Nat) (d : Desc) (l : List Desc), r < 64 → s.md.ringsRun = true → s.executing < 256 → s.canStartCmd r = true →
    (s.ring r).fetched = d :: l → d.opcode = 0x0777 → (List.range 64).all (fun k => k == r || !s.canStartCmd k) = true →
    Completes .commandStart s (fun t => (t.ring r).execs.getLast? =
      some { cid := d.cid, opcode := d.opcode, imm := bitOf d.flags 0, fence := bitOf d.flags 1, result := some { status := Status.invalidOpcode.code } })) ∧
  (∀ (s : State) (a b : Nat), a < b → b < 64 → s.md.ringsRun = true → s.executing < 256 → s.canStartCmd a = true → s.canStartCmd b = true →
    s.porter.lastServed = a → (List.range 64).all (fun k => k == a || k == b || !s.canStartCmd k) = true →
    Completes .commandStart s (fun t => t.porter.lastServed = b ∧ t.ring a = s.ring a ∧ (t.ring b).fetched = (s.ring b).fetched.tail)) ∧
  (∀ (s : State), (256 ≤ s.executing ∨ s.md.ringsRun = false) → Completes .commandStart s (fun t => t = s)) ∧
  (∀ (s : State) (pc : PortCmd) (e : Exec) (c : CmdResult), pc.ring < 64 → (s.ring pc.ring).execs = [e] → e.cid = pc.cid → e.result = some c →
    s.awaitsAny pc = false → e.late = false → e.discard = false → (s.ring pc.ring).state = .running →
    (s.ring pc.ring).sqTail = (s.ring pc.ring).sqHead → e.imm = true →
    Completes (.commandComplete pc) s (fun t => t.outbox = s.outbox ++
        [.hostWrite (s.ring pc.ring).head (s.cqBase pc.ring + 64 * (s.ring pc.ring).cqTail + 8) (leBytes 56 (packFields c.results).toNat),
         .hostWrite (s.ring pc.ring).head (s.cqBase pc.ring + 64 * (s.ring pc.ring).cqTail)
           (leBytes 2 pc.cid ++ leBytes 1 c.status ++ leBytes 1 (b2n (s.ring pc.ring).phase) ++ leBytes 2 (s.ring pc.ring).sqHead ++ leBytes 1 c.detail ++ [0]),
         .msix (s.ring pc.ring).head (16 + s.fld (Reg.RING_CFG pc.ring) 21 16)] ∧
      t.ring pc.ring = { s.ring pc.ring with
        execs := [], coalCount := 0,
        cqTail := if (s.ring pc.ring).cqTail + 1 = s.cqSize pc.ring then 0 else (s.ring pc.ring).cqTail + 1,
        phase := if (s.ring pc.ring).cqTail + 1 = s.cqSize pc.ring then !(s.ring pc.ring).phase else (s.ring pc.ring).phase } ∧
      Only [.porter, .outbox] s t)) ∧
  (∀ (s : State) (pc : PortCmd) (e : Exec) (c : CmdResult), pc.ring < 64 → (s.ring pc.ring).execs = [e] → e.cid = pc.cid → e.result = some c →
    s.awaitsAny pc = false → e.late = false → e.discard = false → (s.ring pc.ring).state = .running →
    (s.ring pc.ring).sqTail = (s.ring pc.ring).sqHead → e.imm = false → c.status = Status.success.code →
    (s.ring pc.ring).coalCount + 1 < s.fld (Reg.RING_MOD pc.ring) 7 0 → s.fld (Reg.RING_MOD pc.ring) 31 16 ≠ 0 →
    Completes (.commandComplete pc) s (fun t => t.outbox.length = s.outbox.length + 2 ∧
      (t.ring pc.ring).coalCount = (s.ring pc.ring).coalCount + 1 ∧ Only [.porter, .outbox] s t)) ∧
  (∀ (s : State) (pc : PortCmd) (e : Exec) (c : CmdResult), pc.ring < 64 → (s.ring pc.ring).execs = [e] → e.cid = pc.cid → e.result = some c →
    s.awaitsAny pc = false → e.late = true → s.isEvtRing pc.ring = false → (s.ring pc.ring).sqTail = (s.ring pc.ring).sqHead →
    Completes (.commandComplete pc) s (fun t => (t.ring pc.ring).execs = [] ∧ (t.ring pc.ring).cqTail = (s.ring pc.ring).cqTail ∧ Only logParts s t)) ∧
  (∀ (s : State) (pc : PortCmd), s.awaitsAny pc = true → Completes (.commandComplete pc) s (fun t => t = s)) ∧
  (∀ (s : State) (pc : PortCmd) (us b : Nat) (e : Exec), pc.ring < 64 → (s.ring pc.ring).execs = [e] → e.cid = pc.cid → e.late = false → e.discard = false →
    (s.ring pc.ring).state = .running → (s.ring pc.ring).sqTail = (s.ring pc.ring).sqHead → e.result = none → s.execBound pc.ring e = some b → b ≤ us →
    Completes (.commandBoundExpire pc us) s (fun t => (t.ring pc.ring).execs = [{ e with late := true }] ∧
      (t.outbox.drop s.outbox.length).take 2 =
        [.hostWrite (s.ring pc.ring).head (s.cqBase pc.ring + 64 * (s.ring pc.ring).cqTail + 8)
           (leBytes 56 (packFields (s.progress pc.ring pc.cid)).toNat),
         .hostWrite (s.ring pc.ring).head (s.cqBase pc.ring + 64 * (s.ring pc.ring).cqTail)
           (leBytes 2 pc.cid ++ leBytes 1 Status.timeout.code ++ leBytes 1 (b2n (s.ring pc.ring).phase) ++ leBytes 2 (s.ring pc.ring).sqHead ++ [1, 0])] ∧
      Only [.porter, .outbox] s t)) ∧
  (∀ (s : State) (pc : PortCmd) (e : Exec) (timeout : Bool), pc.ring < 64 → (s.ring pc.ring).execs = [e] → e.cid = pc.cid → e.result = none →
    (e.opcode = 0x0501 ∨ e.opcode = 0x0600 ∨ e.opcode = 0x0802 ∨ e.opcode = 0x0900 ∨ e.opcode = 0x0903 ∨ e.opcode = 0x0904 ∨ e.opcode = 0x0A01 ∨
      e.opcode = 0x0B01 ∨ e.opcode = 0x0B03) → s.awaitsAny pc = false →
    Completes (.bufferReadFail pc timeout) s (fun t =>
      t.resultOf pc = some (if timeout then { status := Status.timeout.code, detail := 2 } else { status := Status.aborted.code, detail := 5 }) ∧
      Only [.porter] s t)) ∧
  (∀ (s : State) (r c us : Nat) (e : Exec), r < 64 → (s.head (s.ring r).head).ctoUs ≤ us → (s.ring r).execs = [e] → e.cid = c → e.result = none → e.opcode = 0x0B01 →
    s.awaitsAny { ring := r, cid := c } = false →
    Completes (.outboundCompletionTimeout r (some c) us) s (fun t =>
      t.resultOf { ring := r, cid := c } = some { status := Status.timeout.code, detail := 2 } ∧ Only [.porter] s t)) ∧
  (∀ (s : State) (r us : Nat), r < 64 → 0 < (s.ring r).coalCount → (s.ring r).coalTime ≤ us →
    Completes (.coalTimeExpire r us) s (fun t => Sends s t [.msix (s.ring r).head (16 + s.fld (Reg.RING_CFG r) 21 16)] ∧
      t.ring r = { s.ring r with coalCount := 0 } ∧ Only [.porter, .outbox] s t)) ∧
  (∀ (s : State) (r us : Nat), ((s.ring r).coalCount = 0 ∨ us < (s.ring r).coalTime) → Completes (.coalTimeExpire r us) s (fun t => t = s)) ∧
  (∀ (s : State) (pc : PortCmd) (us b : Nat) (e : Exec), (s.ring pc.ring).execs = [e] → (e.result.isSome = true ∨ us < b) → s.execBound pc.ring e = some b →
    s.awaitsAny pc = false → Completes (.commandBoundExpire pc us) s (fun t => t = s)) ∧
  (∀ (s : State) (r us : Nat) (c : Option Nat), us < (s.head (s.ring r).head).ctoUs → Completes (.outboundCompletionTimeout r c us) s (fun t => t = s)) ∧
  (∀ (s : State) (r : Nat), r < 64 → (s.ring r).state = .disabling →
    Completes (.ringDisabled r) s (fun t => (t.ring r).state = (if (s.ring r).inflight = 0 then .disabled else .disabling) ∧ Only [.porter] s t))

/-- NOP completes with SUCCESS. IDENTIFY_EXT writes its 128 bytes to an aligned buffer and refuses another. GET_HEALTH returns the
package's health. Outside the modes in which rings run no Porter command does anything; on a ring that is not privileged a command
that asks for one is refused first, and in a mode that is not among its own the mode is what DETAIL gives. Completes: nop, identifyExt, getHealth. -/
def Obligations.PorterBasics : Prop :=
  (∀ (s : State) (pc : PortCmd), s.accepts pc 0x0000 false = true →
    Completes (.nop pc) s (fun t => t.resultOf pc = some (succeeded []) ∧ Only [.porter] s t)) ∧
  (∀ (s : State) (pc : PortCmd) (adr : Nat), s.accepts pc 0x0001 false = true → adr % 64 = 0 →
    Completes (.identifyExt pc adr) s (fun t => t.resultOf pc = some (succeeded []) ∧
      Sends s t [.hostWrite (s.ring pc.ring).head adr (wordBytes s.identifyWords)] ∧ Only [.porter, .outbox] s t)) ∧
  (∀ (s : State) (pc : PortCmd) (adr : Nat), s.accepts pc 0x0001 false = true → adr % 64 ≠ 0 →
    Completes (.identifyExt pc adr) s (fun t => t.resultOf pc = some { status := Status.invalidField.code, detail := 0 } ∧ Only [.porter] s t)) ∧
  (∀ (s : State) (pc : PortCmd), s.accepts pc 0x0004 false = true → s.sec.romOnly = false →
    Completes (.getHealth pc) s (fun t => t.resultOf pc = some (succeeded
      [(3, s.md.mode.code), (3, s.pw.stage), (3, greatest ((List.range s.pop.tiles).map (fun k => (s.tile k).xl.spareLevel))), (2, s.pw.measured),
       (1, b2n s.md.dirtyShutdown), (12, s.md.causes), (8, s.md.failed), (12, (BitVec.ofInt 12 s.hottest).toNat),
       (32, total (s.aliveTiles.map s.lostOn)), (20, s.peersAbsent)]) ∧ Only [.porter] s t)) ∧
  (∀ (s : State) (pc : PortCmd), (s.md.mode = .off ∨ s.md.mode = .standby ∨ s.md.mode = .holdup) →
    Completes (.nop pc) s (fun t => t = s)) ∧
  (∀ (s : State) (pc : PortCmd) (b : List Byte) (id len adr : Nat), s.accepts pc 0x0B01 false = true → s.ringPriv pc.ring = false →
    Completes (.paramWrite pc id len adr b) s (fun t => t.resultOf pc = some { status := Status.notPrivileged.code } ∧ Only [.porter] s t)) ∧
  (∀ (s : State) (pc : PortCmd) (b : List Byte) (area : Bool) (adr : Nat), s.accepts pc 0x0A01 true = true → s.md.mode ≠ .service →
    Completes (.gbClear pc area adr b) s (fun t =>
      t.resultOf pc = some { status := Status.wrongMode.code, detail := s.md.mode.code } ∧ Only [.porter] s t)) ∧
  (∀ (s : State) (pc : PortCmd), s.accepts pc 0x0000 false = true → s.sec.romOnly = true →
    Completes (.getHealth pc) s (fun t => t.resultOf pc = some { status := Status.wrongMode.code, detail := s.md.mode.code } ∧ Only [.porter] s t))

/-- GB_READ from a cursor between the oldest readable record and the newest returns the records from there on, at most COUNT, and the
cursor behind the last of them; beyond the newest it returns nothing. GB_CLEAR of the circulating area where no secret is needed sets
GB_OLDEST past the newest record; the permanent area is cleared in MANUFACTURE only; shed stage 2 refuses it. GUESTBOOK_FLASH_WRITE
moves the oldest records, as many as the page still takes, into the next slots of the circulating area, and does nothing while fewer than eight wait;
GUESTBOOK_WRITE_TIMER moves them whatever waits; a write that fails sets FLASH_FAIL and goes to the next sector. A bucket gains one token after
REFILL, of one code alone. A second of operating time advances both
clocks; an hour ages the results of the hold-up test. GB_WINDOW_LOADED shows what was read and sets READY. Completes: gbRead, gbClear,
guestbookFlashWrite, guestbookWriteTimer, rateTokenRefill, operatingTimeTick, ageClockHourly, gbWindowLoaded. -/
def Obligations.GuestbookWork : Prop :=
  (∀ (s : State) (pc : PortCmd) (area : Bool) (count cursor adr : Nat), s.accepts pc 0x0A00 false = true → 1 ≤ count → count ≤ 2048 → adr % 64 = 0 →
    s.gb.oldest area ≤ cursor → cursor ≤ s.gb.newest area → s.gb.newest area + 1 < 2 ^ 31 →
    ((s.gb.records area).filter (fun e => decide (cursor ≤ e.1))).isEmpty = false →
    Completes (.gbRead pc area count cursor adr) s (fun t =>
      t.resultOf pc = some (succeeded
        [(16, min count ((s.gb.records area).filter (fun e => decide (cursor ≤ e.1))).length),
         (32, (((((s.gb.records area).filter (fun e => decide (cursor ≤ e.1))).take count).getLast?).map (fun e => e.1 + 1)).getD 0 % 2 ^ 32)]) ∧
      Sends s t [.hostWrite (s.ring pc.ring).head adr
        (((((s.gb.records area).filter (fun e => decide (cursor ≤ e.1))).take count).map (fun e => gbBytes e.2)).flatten)] ∧
      Only [.porter, .outbox] s t)) ∧
  (∀ (s : State) (pc : PortCmd) (area : Bool) (count cursor adr : Nat), s.accepts pc 0x0A00 false = true → 1 ≤ count → count ≤ 2048 → adr % 64 = 0 →
    s.gb.oldest area ≤ cursor → s.gb.newest area < cursor → cursor < 2 ^ 31 →
    Completes (.gbRead pc area count cursor adr) s (fun t =>
      t.resultOf pc = some (succeeded [(16, 0), (32, s.gb.newest area + 1)]) ∧ Only [.porter] s t)) ∧
  (∀ (s : State) (pc : PortCmd) (area : Bool) (count cursor adr : Nat), s.accepts pc 0x0A00 false = true → (count = 0 ∨ 2048 < count) →
    Completes (.gbRead pc area count cursor adr) s (fun t => t.resultOf pc = some { status := Status.invalidField.code, detail := 1 } ∧ Only [.porter] s t)) ∧
  (∀ (s : State) (pc : PortCmd) (adr : Nat) (b : List Byte), s.accepts pc 0x0A01 true = true → s.md.operating = true → s.md.mode = .service →
    adr % 64 = 0 → s.pw.stage < 2 → s.sec.lc ≠ 3 →
    Completes (.gbClear pc true adr b) s (fun t => t.gb.circOldest = s.gb.newest true + 1 ∧ t.gb.permOldest = s.gb.permOldest ∧
      t.gb.circ = s.gb.circ ∧ t.gb.permArea = s.gb.permArea ∧ t.resultOf pc = some (succeeded [(32, (s.gb.records true).length)]) ∧ Only logParts s t)) ∧
  (∀ (s : State) (pc : PortCmd) (adr : Nat) (b : List Byte), s.accepts pc 0x0A01 true = true → s.md.operating = true → s.md.mode = .service →
    adr % 64 = 0 → s.pw.stage < 2 → s.sec.lc ≠ 1 →
    Completes (.gbClear pc false adr b) s (fun t => t.resultOf pc = some { status := Status.notAuthorised.code, detail := 1 } ∧ Only [.porter] s t)) ∧
  (∀ (s : State) (pc : PortCmd) (area : Bool) (adr : Nat) (b : List Byte), s.accepts pc 0x0A01 true = true → s.md.operating = true →
    s.md.mode = .service → adr % 64 = 0 → 2 ≤ s.pw.stage →
    Completes (.gbClear pc area adr b) s (fun t => t.resultOf pc = some { status := Status.energyLow.code } ∧ t.regBit Reg.PS_ERR_STATUS 3 = true ∧
      t.gb.circOldest = s.gb.circOldest ∧ t.gb.permOldest = s.gb.permOldest ∧ Only logParts s t)) ∧
  (∀ (s : State) (k : Nat) (r : GbRecord), s.pw.vaux = true → 8 ≤ s.gb.buf.length → s.gb.dropDue = false → k < gbGroup s.gb.circPos → s.gb.buf[k]? = some r →
    s.gb.circPos < 1024 * 127 → s.gb.buf.all (fun d => !d.perm) = true →
    Completes (.guestbookFlashWrite false) s (fun t => t.gb.buf = s.gb.buf.drop (gbGroup s.gb.circPos) ∧ t.gb.permArea = s.gb.permArea ∧
      aget (s.gb.circPos + k) t.gb.circ = some { num := r.num, entry := r } ∧
      t.gb.circPos = (s.gb.circPos + gbGroup s.gb.circPos) % (1024 * 127) ∧ t.gb.circNext = s.gb.circNext ∧ Only [.gb] s t)) ∧
  (∀ (s : State) (fail : Bool), (s.gb.buf.length < 8 ∨ s.pw.vaux = false) → Completes (.guestbookFlashWrite fail) s (fun t => t = s)) ∧
  (∀ (s : State) (k : Nat) (r : GbRecord), s.pw.vaux = true → 8 ≤ s.gb.buf.length → s.gb.dropDue = false → k < 7 → s.gb.buf[k]? = some r →
    s.gb.buf.all (fun d => !d.perm) = true →
    Completes (.guestbookFlashWrite true) s (fun t => t.gb.buf = s.gb.buf.drop 7 ∧ t.regBit Reg.GB_ERR_STATUS 2 = true ∧
      aget ((s.gb.circPos / 127 + 1) % 1024 * 127 + k) t.gb.circ = some { num := r.num, entry := r } ∧ t.gb.permArea = s.gb.permArea ∧ Only [.gb, .reg] s t)) ∧
  (∀ (s : State) (k : Nat) (r : GbRecord), s.pw.vaux = true → s.gb.dropDue = false → k < gbGroup s.gb.circPos → s.gb.buf[k]? = some r →
    s.gb.circPos < 1024 * 127 → s.gb.buf.all (fun d => !d.perm) = true →
    Completes (.guestbookWriteTimer false) s (fun t => t.gb.buf = s.gb.buf.drop (gbGroup s.gb.circPos) ∧ t.gb.circNext = s.gb.circNext ∧
      aget (s.gb.circPos + k) t.gb.circ = some { num := r.num, entry := r } ∧ Only [.gb] s t)) ∧
  (∀ (s : State) (code sec x : Nat), s.pw.vaux = true → agetD code 1 s.gb.refill ≤ sec →
    Completes (.rateTokenRefill code sec) s (fun t =>
      agetD x 0 t.gb.taken = (if x = code then agetD code 0 s.gb.taken - 1 else agetD x 0 s.gb.taken) ∧
      { t.gb with taken := [] } = { s.gb with taken := [] } ∧ Only [.gb] s t)) ∧
  (∀ (s : State) (code sec : Nat), sec < agetD code 1 s.gb.refill → Completes (.rateTokenRefill code sec) s (fun t => t = s)) ∧
  (∀ (s : State), Completes .operatingTimeTick s (fun t =>
      t.gb = (if s.pw.vaux then { s.gb with opTime := (s.gb.opTime + 1) % 2 ^ 36, ageMs := s.gb.ageMs + 1000 } else s.gb) ∧ Only [.gb] s t)) ∧
  (∀ (s : State), s.pw.vaux = true →
    Completes .ageClockHourly s (fun t => t.pw = { s.pw with testAgeH := min 255 (s.pw.testAgeH + 1), deferAge := min 24 (s.pw.deferAge + 1) } ∧
      Only (.pw :: logParts) s t)) ∧
  (∀ (s : State) (c : Nat), s.gb.winLoad = some c →
    Completes .gbWindowLoaded s (fun t => t.gb.winReady = true ∧ t.gb.winLoad = none ∧ t.gb.window = (s.gb.read (s.regBit Reg.GB_CTL 0) c 32).1 ∧
      t.gb.buf = s.gb.buf ∧ Only [.gb] s t)) ∧
  (∀ (s : State), s.gb.winLoad = none → Completes .gbWindowLoaded s (fun t => t = s))

/-- PARAM_READ writes what was asked for to the buffer and says whether it is committed; an unknown PARAM_ID, or more than the element
holds, is INVALID_FIELD, a hidden or locked one NOT_AUTHORISED. PARAM_WRITE puts a value of class D or O into the pending set; another
class, another length and a value out of range are refused. PARAM_COMMIT of an empty set completes with RECORDS 0; otherwise it waits;
in shed stage 2 it is refused. PARAM_UNLOCK: without a password SUCCESS; zeros lock; the password unlocks; a wrong one is counted; after
five every check is refused. PARAM_STORE_COMMIT takes the whole pending set under the next SEQ; PARAM_STORE_COMMIT_DONE puts it in force
and answers its caller with the number of records; a failed program is retried once in the next page, and then the caller gets
MEDIA_ERROR and the values stay pending. FLASH_ERASE_DONE ends the erase. Completes: paramRead, paramWrite, paramCommit, paramUnlock, paramStoreCommit,
paramStoreCommitDone, flashEraseDone. -/
def Obligations.ParameterStore : Prop :=
  (∀ (s : State) (pc : PortCmd) (id off len adr : Nat) (p : ParamInfo), s.accepts pc 0x0B00 true = true → s.sec.romOnly = false →
    paramInfo? id = some p → off + len ≤ p.size → adr % 64 = 0 → p.cls ≠ .hidden → s.psLockedOut p id = false → 0 < len →
    Completes (.paramRead pc id off len adr) s (fun t => t.resultOf pc = some (succeeded [(16, len), (1, b2n (s.psCommitted id))]) ∧
      Sends s t [.hostWrite (s.ring pc.ring).head adr (((padTo p.size (s.psGet id)).drop off).take len)] ∧ Only [.porter, .outbox] s t)) ∧
  (∀ (s : State) (pc : PortCmd) (id off len adr : Nat), s.accepts pc 0x0B00 true = true → s.sec.romOnly = false → paramInfo? id = none →
    Completes (.paramRead pc id off len adr) s (fun t => t.resultOf pc = some { status := Status.invalidField.code, detail := 0 } ∧ Only [.porter] s t)) ∧
  (∀ (s : State) (pc : PortCmd) (id off len adr : Nat) (p : ParamInfo), s.accepts pc 0x0B00 true = true → s.sec.romOnly = false →
    paramInfo? id = some p → p.size < off + len →
    Completes (.paramRead pc id off len adr) s (fun t =>
      t.resultOf pc = some { status := Status.invalidField.code, detail := if p.size < off then 1 else 2 } ∧ Only [.porter] s t)) ∧
  (∀ (s : State) (pc : PortCmd) (id off len adr : Nat) (p : ParamInfo), s.accepts pc 0x0B00 true = true → s.sec.romOnly = false →
    paramInfo? id = some p → off + len ≤ p.size → adr % 64 = 0 → (p.cls = .hidden ∨ s.psLockedOut p id = true) →
    Completes (.paramRead pc id off len adr) s (fun t => t.resultOf pc = some { status := Status.notAuthorised.code, detail := 1 } ∧ Only [.porter] s t)) ∧
  (∀ (s : State) (pc : PortCmd) (id adr : Nat) (b : List Byte) (p : ParamInfo), s.accepts pc 0x0B01 true = true → s.md.operating = true →
    paramInfo? id = some p → (p.cls = .device ∨ p.cls = .owner) → adr % 64 = 0 → s.psLockedOut p id = false →
    paramValueOk id (padTo p.size b) = true → id ≠ Param.PARAM_AUTH → s.psFits id (padTo p.size b) = true → s.ps.roomWait = [] →
    Completes (.paramWrite pc id p.size adr b) s (fun t => t.resultOf pc = some (succeeded []) ∧
      t.ps = { s.ps with pendingSet := aput id (padTo p.size b) s.ps.pendingSet } ∧ t.psGet id = padTo p.size b ∧ t.psCommitted id = false ∧
      Only [.porter, .ps] s t)) ∧
  (∀ (s : State) (pc : PortCmd) (id len adr : Nat) (b : List Byte) (p : ParamInfo), s.accepts pc 0x0B01 true = true → s.md.operating = true →
    paramInfo? id = some p → (p.cls = .stateOnly ∨ (p.cls = .hidden ∧ id ≠ Param.PARAM_AUTH)) →
    Completes (.paramWrite pc id len adr b) s (fun t => t.resultOf pc = some { status := Status.invalidField.code, detail := 0 } ∧ Only [.porter] s t)) ∧
  (∀ (s : State) (pc : PortCmd) (id len adr : Nat) (b : List Byte) (p : ParamInfo), s.accepts pc 0x0B01 true = true → s.md.operating = true →
    paramInfo? id = some p → (p.cls = .device ∨ p.cls = .owner) → len ≠ p.size →
    Completes (.paramWrite pc id len adr b) s (fun t => t.resultOf pc = some { status := Status.invalidField.code, detail := 1 } ∧ Only [.porter] s t)) ∧
  (∀ (s : State) (pc : PortCmd) (id adr : Nat) (b : List Byte) (p : ParamInfo), s.accepts pc 0x0B01 true = true → s.md.operating = true →
    paramInfo? id = some p → (p.cls = .device ∨ p.cls = .owner) → adr % 64 = 0 → p.lock = true → s.pwSet = true → s.ps.unlocked = false →
    Completes (.paramWrite pc id p.size adr b) s (fun t => t.resultOf pc = some { status := Status.notAuthorised.code, detail := 1 } ∧ Only [.porter] s t)) ∧
  (∀ (s : State) (pc : PortCmd), s.accepts pc 0x0B02 true = true → s.md.operating = true → s.pw.stage < 2 →
    Completes (.paramCommit pc) s (fun t => t.resultOf pc = (if s.ps.pendingSet = [] ∧ s.ps.roomWait = [] then some (succeeded [(16, 0)]) else none) ∧
      t.ps.pendingSet = s.ps.pendingSet ∧ t.ps.els = s.ps.els ∧
      ((s.ps.pendingSet = [] ∧ s.ps.roomWait = []) ∨ t.awaitsCommit pc = true) ∧ Only [.porter, .ps] s t)) ∧
  (∀ (s : State) (pc : PortCmd), s.accepts pc 0x0B02 true = true → s.md.operating = true → 2 ≤ s.pw.stage →
    Completes (.paramCommit pc) s (fun t => t.resultOf pc = some { status := Status.energyLow.code } ∧ t.regBit Reg.PS_ERR_STATUS 3 = true ∧
      Only logParts s t)) ∧
  (∀ (s : State) (pc : PortCmd) (adr : Nat) (b : List Byte), s.accepts pc 0x0B03 true = true → s.md.mode = .service → adr % 64 = 0 → s.pwSet = false →
    Completes (.paramUnlock pc adr b) s (fun t => t.resultOf pc = some (succeeded [(8, 5)]) ∧ Only [.porter] s t)) ∧
  (∀ (s : State) (pc : PortCmd) (adr : Nat), s.accepts pc 0x0B03 true = true → s.md.mode = .service → adr % 64 = 0 → s.pwSet = true →
    Completes (.paramUnlock pc adr (zeros 32)) s (fun t => t.ps = { s.ps with unlocked := false } ∧
      t.resultOf pc = some (succeeded [(8, 5 - s.paramFails)]) ∧ Only [.porter, .ps] s t)) ∧
  (∀ (s : State) (pc : PortCmd) (adr : Nat) (b : List Byte), s.accepts pc 0x0B03 true = true → s.md.mode = .service → adr % 64 = 0 →
    s.paramFails = 0 → (padTo 32 b).all (· == 0) = false → s.paramAuthOf (padTo 32 b) = s.psGet Param.PARAM_AUTH →
    Completes (.paramUnlock pc adr b) s (fun t => t.ps = { s.ps with unlocked := s.ps.unlocked || s.pwSet } ∧ t.resultOf pc = some (succeeded [(8, 5)]) ∧
      Only (.ps :: logParts) s t)) ∧
  (∀ (s : State) (pc : PortCmd) (adr : Nat) (b : List Byte), s.accepts pc 0x0B03 true = true → s.md.mode = .service → adr % 64 = 0 → s.pwSet = true →
    s.paramFails < 5 → (padTo 32 b).all (· == 0) = false → s.paramAuthOf (padTo 32 b) ≠ s.psGet Param.PARAM_AUTH →
    Completes (.paramUnlock pc adr b) s (fun t => t.paramFails = s.paramFails + 1 ∧ t.ps.unlocked = s.ps.unlocked ∧
      t.resultOf pc = some { status := Status.notAuthorised.code, detail := 1 } ∧ t.awaitsAny pc = true ∧ Only (.ps :: logParts) s t)) ∧
  (∀ (s : State) (pc : PortCmd) (adr : Nat) (b : List Byte), s.accepts pc 0x0B03 true = true → s.md.mode = .service → adr % 64 = 0 → s.pwSet = true →
    5 ≤ s.paramFails → (padTo 32 b).all (· == 0) = false →
    Completes (.paramUnlock pc adr b) s (fun t => t.resultOf pc = some { status := Status.notAuthorised.code, detail := 2 } ∧ Only [.porter] s t)) ∧
  (∀ (s : State), s.pw.vaux = true → s.ps.running = none → s.ps.waiters ≠ [] → s.ps.pendingSet ≠ [] → s.ps.eraseBusy = false →
    Completes .paramStoreCommit s (fun t => t.ps = { s.ps with
        running := some { seq := s.ps.lastSeq + 1, els := s.ps.pendingSet, callers := s.ps.waiters },
        lastSeq := s.ps.lastSeq + 1, pendingSet := [], waiters := [] } ∧ Only [.ps] s t)) ∧
  (∀ (s : State), (s.ps.running.isSome = true ∨ s.ps.waiters = []) → Completes .paramStoreCommit s (fun t => t = s)) ∧
  (∀ (s : State) (pc : PortCmd) (c : PsCommit) (id : Nat) (v : List Byte), s.ps.running = some c → c.callers = [.porter pc.ring pc.cid] →
    c.els = [(id, v)] → id / 256 ≠ 0x31 → pc.ring < 64 → s.underWay pc = true → (s.exec? pc).map (·.opcode) = some 0x0B02 → s.ps.roomWait = [] →
    s.noWork = true →
    Completes (.paramStoreCommitDone none) s (fun t => t.ps.running = none ∧ aget id t.ps.els = some v ∧ t.ps.pendingSet = s.ps.pendingSet ∧
      t.ps.lastSeq = s.ps.lastSeq ∧ t.resultOf pc = some (succeeded [(16, 1)]) ∧ Only [.porter, .ps, .sec] s t)) ∧
  (∀ (s : State) (c : PsCommit) (k : Nat), s.ps.running = some c → c.retried = false →
    Completes (.paramStoreCommitDone (some k)) s (fun t => t.ps.running = some { c with retried := true } ∧ t.ps.els = s.ps.els ∧
      t.ps.pendingSet = s.ps.pendingSet ∧ (if k = 0 then t.ps.copyA else t.ps.copyB).page = ((if k = 0 then s.ps.copyA else s.ps.copyB).page + 1) % 256 ∧
      t.regBit Reg.PS_ERR_STATUS 2 = true ∧ Only (.ps :: logParts) s t)) ∧
  (∀ (s : State) (pc : PortCmd) (c : PsCommit) (k : Nat), s.ps.running = some c → c.retried = true → c.callers = [.porter pc.ring pc.cid] →
    pc.ring < 64 → s.underWay pc = true → (s.ring pc.ring).execs.length = 1 → s.isEvtRing pc.ring = false → s.ps.pendingSet = [] →
    Completes (.paramStoreCommitDone (some k)) s (fun t => t.ps.running = none ∧ t.ps.pendingSet = c.els ∧ t.ps.els = s.ps.els ∧
      t.resultOf pc = some { status := Status.mediaError.code, detail := 3 } ∧ t.regBit Reg.PS_ERR_STATUS 2 = true ∧ Only (.ps :: logParts) s t)) ∧
  (∀ (s : State) (failCopy : Option Nat), s.ps.running = none → Completes (.paramStoreCommitDone failCopy) s (fun t => t = s)) ∧
  (∀ (s : State), s.ps.waiters = [] →
    Completes (.flashEraseDone none) s (fun t => t = { s with ps := { s.ps with eraseBusy := false } })) ∧
  (∀ (s : State) (k : Nat), s.ps.waiters = [] → s.ps.eraseBusy = true →
    Completes (.flashEraseDone (some k)) s (fun t => t.ps = { s.ps with eraseBusy := false } ∧ t.regBit Reg.PS_ERR_STATUS 2 = true ∧
      Only (.ps :: logParts) s t))

/-- PERF_CONFIG writes PERF_SEL and sets the counter it enables to 0; a tile that is not there, an event the table does not have and
a counter of the firmware sampler are refused. PERF_SNAPSHOT writes 544 bytes for each tile of the mask. A FIXED window that is open
closes with its period as its duration and reopens at once; no other window changes. A read of the sampler opens the clock gates of the
counter blocks; in shed stage 1 it does not happen. Completes: perfConfig, perfSnapshot,
perfWindowPeriodExpire, samplerRead. -/
def Obligations.PerfCounters : Prop :=
  (∀ (s : State) (pc : PortCmd) (tile n ev mode : Nat) (chain user enable : Bool), s.accepts pc 0x0C00 true = true → s.sec.romOnly = false →
    tile < s.pop.tiles → tile < 8 → n < 56 → (perfFieldsOk n ev mode chain).all id = true →
    Completes (.perfConfig pc tile n ev mode chain user enable) s (fun t => t.resultOf pc = some (succeeded []) ∧
      t.getReg (selReg tile n) = perfSel enable user chain mode ev ∧ (enable = true → t.cntVal tile n = 0) ∧
      Only [.porter, .reg, .tiles, .free] s t)) ∧
  (∀ (s : State) (pc : PortCmd) (tile n ev mode : Nat) (chain user enable : Bool), s.accepts pc 0x0C00 true = true → s.sec.romOnly = false →
    (s.pop.tiles ≤ tile ∨ 64 ≤ n) →
    Completes (.perfConfig pc tile n ev mode chain user enable) s (fun t =>
      t.resultOf pc = some { status := Status.invalidField.code, detail := if s.pop.tiles ≤ tile then 0 else 1 } ∧ Only [.porter] s t)) ∧
  (∀ (s : State) (pc : PortCmd) (tile n ev mode : Nat) (user enable : Bool), s.accepts pc 0x0C00 true = true → s.sec.romOnly = false →
    tile < s.pop.tiles → n < 64 → (ev / 256 = 0 ∨ 0x62 ≤ ev / 256) →
    Completes (.perfConfig pc tile n ev mode false user enable) s (fun t =>
      t.resultOf pc = some { status := Status.invalidField.code, detail := 2 } ∧ Only [.porter] s t)) ∧
  (∀ (s : State) (pc : PortCmd) (tile n ev mode : Nat) (chain user enable : Bool), s.accepts pc 0x0C00 true = true → s.sec.romOnly = false →
    tile < s.pop.tiles → 56 ≤ n → n < 64 → (perfFieldsOk n ev mode chain).all id = true →
    Completes (.perfConfig pc tile n ev mode chain user enable) s (fun t =>
      t.resultOf pc = some { status := Status.resourceBusy.code, detail := 3 } ∧ Only [.porter] s t)) ∧
  (∀ (s : State) (pc : PortCmd) (mask adr : Nat), s.accepts pc 0x0C01 false = true → s.sec.romOnly = false → mask < 2 ^ s.pop.tiles → adr % 64 = 0 →
    Completes (.perfSnapshot pc mask adr) s (fun t =>
      t.resultOf pc = some (succeeded [(16, 544 * ((List.range s.pop.tiles).filter (bitOf mask)).length)]) ∧
      Sends s t [.hostWrite (s.ring pc.ring).head adr ((((List.range s.pop.tiles).filter (bitOf mask)).map t.snapBlock).flatten)] ∧
      Only [.porter, .outbox, .tiles, .free] s t)) ∧
  (∀ (s : State) (pc : PortCmd) (mask adr : Nat), s.accepts pc 0x0C01 false = true → s.sec.romOnly = false → 2 ^ s.pop.tiles ≤ mask →
    Completes (.perfSnapshot pc mask adr) s (fun t =>
      t.resultOf pc = some { status := Status.invalidField.code, detail := 0 } ∧ Only [.porter] s t)) ∧
  (∀ (s : State) (w k ms : Nat), w < 16 → s.winMode w = 2 → s.winPeriod w ≤ ms → (vget w {} s.wins).openHeads = 0xFF → k < 16 →
    Completes (.perfWindowPeriodExpire w ms) s (fun t => vget k {} t.wins = (if k = w then
      { openHeads := 0xFF, rd := adelWhere (bitOf 0xFF) (vget w {} s.wins).rd, wr := adelWhere (bitOf 0xFF) (vget w {} s.wins).wr,
        rdLast := (vget w {} s.wins).rd, wrLast := (vget w {} s.wins).wr, short := false, seq := ((vget w {} s.wins).seq + 1) % 256,
        duration := 1000 * max 1 (min 1000 (s.fld (winCtl w) 9 0)) } else vget k {} s.wins) ∧ Only [.wins] s t)) ∧
  (∀ (s : State) (w ms : Nat), (s.winMode w ≠ 2 ∨ 16 ≤ w ∨ ms < s.winPeriod w) → Completes (.perfWindowPeriodExpire w ms) s (fun t => t = s)) ∧
  (∀ (s : State) (tile : Nat), s.md.ringsRun = true → s.stageActs = 0 → s.alive tile = true → tile < 8 →
    Completes .samplerRead s (fun t => bitOf (t.tile tile).clk.gated 0 = false ∧ (t.tile tile).cnt = (s.tile tile).cnt ∧ Only [.tiles] s t)) ∧
  (∀ (s : State), (s.md.ringsRun = false ∨ s.stageActs ≠ 0) → Completes .samplerRead s (fun t => t = s))

/-- A PHASE_IN pulse does nothing while the pin has no owner; one of a width that is no mark's sets MARK_ERR. In ACQUIRE before the
step a turn mark steps the reference angle to 0 and applies a waiting TURN_SET, and a sub-mark is ignored. In LOCKED a turn mark within
the window begins to slew the angle by a quarter of its error over 1,024 ticks; one outside it is an outlier, and the third in a row starts a new acquisition,
which it steps. In HOLDOVER or FREE a mark within the window is used and the state becomes ACQUIRE. The eighth mark in a row within 4
ticks enters LOCKED. The third mark missed in LOCKED starts HOLDOVER; 2^HOLD_EXP turns there (a value below 4 acts as 4) end in FREE. A turn mark missed while PHASE_IN
serves a trim restarts its measurement. A fabric message counts only through
a head that BELFRY_CTL selects; one that is not whole sets MSG_ERR, one that is more than a turn away MSG_LATE, and one that steps sets
the turn number it names when SET_TURN asks for it. A trim measurement moves TRIM_CODE by its step against the deviation; one within
0.05 % ends the search. An hour of age clock starts a trim against a crystal that has not failed. Completes: phaseInMark, markWindowExpire,
holdoverLimitExpire, fabricPhaseMessage, trimMeasurementDone, ioscTrimHourly. -/
def Obligations.PhaseLock : Prop :=
  (∀ (s : State) (w angle ns : Nat), (s.phaseRuns = false ∨ (s.bel.source ≠ 1 ∧ s.fld Reg.BELFRY_TRIM_CTL 15 14 ≠ 2)) →
    Completes (.phaseInMark w angle ns) s (fun t => t = s)) ∧
  (∀ (s : State) (w angle ns : Nat), s.phaseRuns = true → s.bel.source = 1 → (w < 64 ∨ (244 ≤ w ∧ w < 320) ∨ 964 ≤ w) →
    Completes (.phaseInMark w angle ns) s (fun t => t.regBit Reg.BELFRY_ERR_STATUS 0 = true ∧ Only logParts s t)) ∧
  (∀ (s : State) (w angle ns n : Nat), s.phaseRuns = true → s.bel.source = 1 → s.bel.state = .acquire → s.bel.stepWait = true → 320 ≤ w → w ≤ 963 →
    s.bel.turnSet = some n → s.bel.offset = 0 → n < 2 ^ 36 →
    Completes (.phaseInMark w angle ns) s (fun t => t.bel.refAngle = 0 ∧ t.bel.stepWait = false ∧ t.bel.state = .acquire ∧ t.bel.turn = n ∧
      t.bel.turnSet = none ∧ t.regBit Reg.BELFRY_ERR_STATUS 5 = true ∧ Only (.bel :: .tiles :: .thm :: .wins :: .jobs :: .free :: logParts) s t)) ∧
  (∀ (s : State) (w angle ns : Nat), s.phaseRuns = true → s.bel.source = 1 → s.bel.state = .acquire → s.bel.stepWait = true → 64 ≤ w → w ≤ 243 →
    s.submarkExp ≠ 0 → Completes (.phaseInMark w angle ns) s (fun t => t = s)) ∧
  (∀ (s : State) (w angle ns : Nat), s.phaseRuns = true → s.bel.source = 1 → s.bel.state = .locked → 320 ≤ w → w ≤ 963 → s.bel.prevTurnNs = none →
    (angle ≤ 256 * 65536 ∨ (2 ^ 32 - 256 * 65536 ≤ angle ∧ angle < 2 ^ 32)) → s.bel.turnSet = none → s.bel.slews = [] →
    Completes (.phaseInMark w angle ns) s (fun t => t.bel.state = .locked ∧ t.bel.outliers = 0 ∧ t.bel.missed = 0 ∧
      t.bel.phaseErr = phaseErrOf (angleDiff 0 angle) ∧ t.bel.refAngle = angle * 65536 ∧ t.bel.slews = [{ amount := angleDiff 0 angle * 16384, left := 1024 }] ∧
      t.bel.turn = s.bel.turn ∧ s.tilesButTick t = true ∧ Only [.bel, .tiles] s t)) ∧
  (∀ (s : State) (w angle ns : Nat), s.phaseRuns = true → s.bel.source = 1 → s.bel.state = .locked → 320 ≤ w → w ≤ 963 → s.bel.outliers < 2 →
    256 * 65536 < angle → angle < 2 ^ 32 - 256 * 65536 →
    Completes (.phaseInMark w angle ns) s (fun t => t.bel = { s.bel with outliers := s.bel.outliers + 1 } ∧ t.regBit Reg.BELFRY_ERR_STATUS 1 = true ∧
      Only [.bel, .reg] s t)) ∧
  (∀ (s : State) (w angle ns : Nat), s.phaseRuns = true → s.bel.source = 1 → s.bel.state = .locked → 320 ≤ w → w ≤ 963 → s.bel.outliers = 2 →
    256 * 65536 < angle → angle < 2 ^ 32 - 256 * 65536 →
    Completes (.phaseInMark w angle ns) s (fun t => t.bel.state = .acquire ∧ t.bel.stepWait = false ∧ t.bel.refAngle = 0 ∧ t.bel.outliers = 0 ∧
      t.regBit Reg.BELFRY_ERR_STATUS 1 = true ∧ t.regBit Reg.BELFRY_ERR_STATUS 5 = true)) ∧
  (∀ (s : State) (w angle ns : Nat), s.phaseRuns = true → s.bel.source = 1 → (s.bel.state = .holdover ∨ s.bel.state = .free) → 320 ≤ w → w ≤ 963 →
    angle ≤ 256 * 65536 →
    Completes (.phaseInMark w angle ns) s (fun t => t.bel.state = .acquire ∧ t.bel.stepWait = false ∧ t.bel.phaseErr = phaseErrOf (angleDiff 0 angle))) ∧
  (∀ (s : State) (w angle ns : Nat), s.phaseRuns = true → s.bel.source = 1 → s.bel.state = .acquire → s.bel.stepWait = false → 320 ≤ w → w ≤ 963 →
    angle ≤ 4 * 65536 → 7 ≤ s.bel.lockCount → s.bel.prevTurnNs = none → s.bel.rangeBad = false →
    Completes (.phaseInMark w angle ns) s (fun t => t.bel.state = .locked ∧ t.bel.holdTurns = 0 ∧ t.md = s.md)) ∧
  (∀ (s : State), s.phaseRuns = true → s.bel.source ≠ 0 → s.bel.stepWait = false → s.bel.state = .locked →
    Completes (.markWindowExpire false) s (fun t => t.bel.state = (if 2 ≤ s.bel.missed then .holdover else .locked) ∧
      t.bel.missed = (if 2 ≤ s.bel.missed then 0 else s.bel.missed + 1) ∧ t.bel.freq = s.bel.freq ∧ t.regBit Reg.BELFRY_ERR_STATUS 2 = true ∧
      (2 ≤ s.bel.missed → t.regBit Reg.BELFRY_ERR_STATUS 3 = true) ∧ Only (.bel :: logParts) s t)) ∧
  (∀ (s : State), (s.phaseRuns = false ∨ s.bel.source = 0 ∨ s.bel.state = .free) → Completes (.markWindowExpire false) s (fun t => t = s)) ∧
  (∀ (s : State), Completes (.markWindowExpire true) s (fun t =>
      t = if s.phaseRuns && s.phaseByTrim then { s with bel := { s.bel with trimMarks := 0 } } else s)) ∧
  (∀ (s : State), s.phaseRuns = true → s.bel.state = .holdover → 2 ^ max 4 (s.fld Reg.BELFRY_CTL 15 12) ≤ s.bel.holdTurns →
    Completes .holdoverLimitExpire s (fun t => t.bel = { s.bel with state := .free } ∧ t.regBit Reg.BELFRY_ERR_STATUS 4 = true ∧
      Only (.bel :: logParts) s t)) ∧
  (∀ (s : State), (s.bel.state ≠ .holdover ∨ s.bel.holdTurns < 2 ^ max 4 (s.fld Reg.BELFRY_CTL 15 12)) → Completes .holdoverLimitExpire s (fun t => t = s)) ∧
  (∀ (s : State) (h now angle ns : Nat) (whole ptm : Bool) (b : List Byte), bitOf (s.fld Reg.BELFRY_CTL 7 0) h = false →
    Completes (.fabricPhaseMessage h whole ptm b now angle ns) s (fun t => t = s)) ∧
  (∀ (s : State) (h now angle ns : Nat) (ptm : Bool) (b : List Byte), s.phaseRuns = true → bitOf (s.fld Reg.BELFRY_CTL 7 0) h = true →
    (s.head h).up = true →
    Completes (.fabricPhaseMessage h false ptm b now angle ns) s (fun t => t.regBit Reg.BELFRY_ERR_STATUS 7 = true ∧ Only logParts s t)) ∧
  (∀ (s : State) (h now angle ns : Nat) (b : List Byte), s.phaseRuns = true → bitOf (s.fld Reg.BELFRY_CTL 7 0) h = true → (s.head h).up = true →
    s.phaseMsgBad true true b = 0 → leAt b 8 8 + s.bel.period * 1000 < now →
    Completes (.fabricPhaseMessage h true true b now angle ns) s (fun t => t.regBit Reg.BELFRY_ERR_STATUS 8 = true ∧ Only logParts s t)) ∧
  (∀ (s : State) (h angle ns : Nat) (b : List Byte), s.phaseRuns = true → bitOf (s.fld Reg.BELFRY_CTL 7 0) h = true → (s.head h).up = true →
    s.phaseMsgBad true true b = 0 → s.bel.source = 2 → s.bel.msgUsed.any (fun m => m.1 == leAt b 16 5) = false → s.bel.state = .acquire → s.bel.stepWait = true →
    bitOf (leAt b 21 1) 0 = true → s.bel.offset = 0 →
    Completes (.fabricPhaseMessage h true true b (leAt b 8 8) angle ns) s (fun t => t.bel.refAngle = 0 ∧ t.bel.turn = leAt b 16 5 ∧
      t.bel.msgUsed.getLast? = some (leAt b 16 5, leAt b 8 8) ∧ t.regBit Reg.BELFRY_ERR_STATUS 5 = true)) ∧
  (∀ (s : State) (count expected n : Nat), s.trimReady = true → s.trimExpected = expected → s.bel.trimDone = false → s.bel.trimFinal = false → s.bel.trimStep = some n →
    expected * 5 < (expected - count) * 10000 → s.bel.trimCode + 2 ^ n ≤ 511 →
    Completes (.trimMeasurementDone count) s (fun t => t.bel.trimCode = s.bel.trimCode + 2 ^ n ∧ t.bel.trimBusy = s.bel.trimBusy ∧
      t.bel.trimStep = (if n = 0 then none else some (n - 1)) ∧ t.bel.trimFinal = decide (n = 0) ∧ Only [.bel, .clk] s t)) ∧
  (∀ (s : State) (count expected n : Nat), s.trimReady = true → s.trimExpected = expected → s.bel.trimDone = false → s.bel.trimFinal = false → s.bel.trimStep = some n →
    expected * 5 < (count - expected) * 10000 → 0 < expected → s.bel.trimCode < 2 ^ n →
    Completes (.trimMeasurementDone count) s (fun t => t.bel.trimCode = 0 ∧ t.regBit Reg.BELFRY_ERR_STATUS 10 = true ∧
      Only (.bel :: .clk :: logParts) s t)) ∧
  (∀ (s : State) (count n : Nat), s.trimReady = true → s.trimExpected = count → s.bel.trimDone = false → s.bel.trimFinal = false → s.bel.trimStep = some n → 0 < count →
    Completes (.trimMeasurementDone count) s (fun t => t.bel.trimCode = s.bel.trimCode ∧ t.bel.trimStep = none ∧ t.bel.trimFinal = true ∧
      t.bel.trimDev = 0 ∧ Only [.bel, .clk] s t)) ∧
  (∀ (s : State) (count : Nat), s.trimReady = true → s.trimExpected = count → s.bel.trimDone = false → s.bel.trimFinal = true → 0 < count →
    Completes (.trimMeasurementDone count) s (fun t => t.bel.trimCode = s.bel.trimCode ∧ t.bel.trimDone = true ∧
      t.bel.trimBusy = s.regBit Reg.BELFRY_TRIM_CTL 10 ∧ Only [.bel, .clk] s t)) ∧
  (∀ (s : State), s.fld Reg.BELFRY_TRIM_CTL 15 14 = 1 → s.phaseRuns = true → s.clk.xtal ≠ 2 →
    Completes .ioscTrimHourly s (fun t => t.bel = { s.bel with trimDone := false, trimBusy := true, trimStep := some 4, trimFinal := false, trimMarks := 0 } ∧
      Only [.bel] s t)) ∧
  (∀ (s : State), (s.fld Reg.BELFRY_TRIM_CTL 15 14 ≠ 1 ∨ s.clk.xtal = 2) → Completes .ioscTrimHourly s (fun t => t = s))

/-- TURN_WRAP of the local angle counts the local turn, brings a waiting period into force and counts turns in HOLDOVER and FREE; of a
tile it brings the tile angle to 0, counts the tile's turn, starts anew its overrides and the budgets of sectors that do not run on, and makes an armed
load due whose turn it is. A sector starts when its entry is valid and active in this turn and has not
run in it, and only while the schedule runs; it ends when it runs. SCHEDULE_ACTIVATION applies an armed load that is due. BELFRY_SET_REF brings the fields into force, the period from the next turn; a change of source starts a new acquisition, and
a source or period outside the table is refused. BELFRY_LOAD_SCHEDULE arms the load on its tiles and says whether it is late and whether
it replaces another; a table that breaks a rule is refused with the entry's index. BELFRY_GET_STATUS returns the state. Completes: turnWrap,
sectorStart, sectorEnd, scheduleActivation, belfrySetRef, belfryLoadSchedule, belfryGetStatus. -/
def Obligations.TurnsAndSchedules : Prop :=
  (∀ (s : State), s.phaseRuns = true → s.noWork = true → s.aliveTiles.all s.noneWait = true → s.bel.slews = [] →
    Completes (.turnWrap none) s (fun t => t.bel = { s.bel with
        turn := (s.bel.turn + 1) % 2 ^ 36, refAngle := s.bel.offset % 65536 * 2 ^ 32, period := s.bel.periodNext.getD s.bel.period, periodNext := none,
        holdTurns := if s.bel.state = .holdover ∨ s.bel.state = .free then (s.bel.holdTurns + 1) % 2 ^ 36 else s.bel.holdTurns } ∧
      t.localAngle = 0 ∧ s.tilesButBel t = true ∧
      s.aliveTiles.all (fun k => (t.tile k).bel.turn == (if t.tileAngle k = 0 then ((s.tile k).bel.turn + 1) % 2 ^ 36 else (s.tile k).bel.turn)) = true ∧
      Only [.bel, .tiles, .jobs, .outbox] s t)) ∧
  (∀ (s : State) (tile : Nat), s.phaseRuns = true → s.alive tile = true → tile < 8 → s.noWork = true → s.aliveTiles.all s.noneWait = true → s.bel.slews = [] →
    tile * s.bel.stagger % 65536 ≠ 0 →
    Completes (.turnWrap (some tile)) s (fun t => { (t.tile tile).bel with tick := 0 } = { (s.tile tile).bel with
        tick := 0, turn := ((s.tile tile).bel.turn + 1) % 2 ^ 36, ran := 0, overrideTurn := false,
        spent := (s.tile tile).bel.spent.filter (fun e => bitOf (s.tile tile).bel.active (e.1 / 16)),
        armed := (s.tile tile).bel.armed.map (fun a => { a with due := a.due || a.atNext || decide (((s.tile tile).bel.turn + 1 + 2 ^ 36 - a.turn % 2 ^ 36) % 2 ^ 36 < 2 ^ 35) }) } ∧
      t.tileAngle tile = 0 ∧ t.bel = { s.bel with refAngle := t.bel.refAngle } ∧ s.tilesButBel t = true ∧ Only [.tiles, .bel] s t)) ∧
  (∀ (s : State) (tile : Option Nat), s.phaseRuns = false → Completes (.turnWrap tile) s (fun t => t = s)) ∧
  (∀ (s : State) (tile i : Nat), i < 64 → tile < 8 → s.canStart tile i = true →
    Completes (.sectorStart tile i) s (fun t => bitOf (t.tile tile).bel.active i = true ∧ bitOf (t.tile tile).bel.ran i = true ∧
      t.tileAngle tile = (s.schedEntry tile i).start % 65536 ∧ Only [.tiles, .bel, .thm, .wins, .reg] s t)) ∧
  (∀ (s : State) (tile i : Nat), (s.md.inService3 = false ∨ (s.schedEntry tile i).valid = false ∨ bitOf (s.tile tile).bel.ran i = true ∨ 64 ≤ i) →
    Completes (.sectorStart tile i) s (fun t => t = s)) ∧
  (∀ (s : State) (tile i us : Nat), i < 64 → tile < 8 → s.sectorOn tile i = true → (s.schedEntry tile i).cls ≠ 1 → (s.schedEntry tile i).cls ≠ 9 →
    Completes (.sectorEnd tile i us) s (fun t => { (t.tile tile).bel with tick := 0 } = { (s.tile tile).bel with
        active := clearBit (s.tile tile).bel.active i, tick := 0 } ∧ t.tileAngle tile = (s.schedEntry tile i).stop % 65536 ∧
      { t.bel with slews := [] } = { s.bel with refAngle := t.bel.refAngle, slews := [] } ∧ s.tilesButBel t = true ∧ Only [.tiles, .bel] s t)) ∧
  (∀ (s : State) (tile i us : Nat), s.sectorOn tile i = false → Completes (.sectorEnd tile i us) s (fun t => t = s)) ∧
  (∀ (s : State) (tile : Nat) (a : ArmedLoad), s.loadDue tile = some a → s.alive tile = true → tile < 8 → s.noWork = true → s.noneWait tile = true →
    (s.tile tile).bel.active = 0 →
    Completes (.scheduleActivation tile) s (fun t => (t.tile tile).bel.sched = a.entries ∧ (t.tile tile).bel.profile = a.profile ∧
      (t.tile tile).bel.schedTurn = (s.tile tile).bel.turn ∧ (t.tile tile).bel.turn = (s.tile tile).bel.turn ∧ (t.tile tile).bel.armed = none ∧
      s.othersKept t tile = true ∧ Only (.tiles :: logParts) s t)) ∧
  (∀ (s : State) (tile : Nat), s.loadDue tile = none → Completes (.scheduleActivation tile) s (fun t => t = s)) ∧
  (∀ (s : State) (pc : PortCmd) (src period domain turnSet : Nat) (valid persist : Bool), s.accepts pc 0x0500 true = true → s.sec.romOnly = false →
    src < 3 → 500 ≤ period → period ≤ 1000000 → s.phaseByTrim = false →
    Completes (.belfrySetRef pc src period s.bel.offset s.bel.stagger domain turnSet valid persist) s (fun t => t.bel.source = src ∧
      t.bel.period = s.bel.period ∧ t.bel.periodNext = (if period = s.bel.period then none else some period) ∧ t.bel.domain = domain ∧
      t.bel.turnSet = (if valid = true then some turnSet else s.bel.turnSet) ∧
      t.bel.state = (if src = s.bel.source then s.bel.state else if src = 0 then .free else .acquire) ∧
      t.resultOf pc = some (succeeded [(2, t.bel.state.code), (2, s.bel.source)]) ∧
      (persist = true → t.psGet Param.BELFRY_REF = belfryRefBytes period s.bel.offset s.bel.stagger domain src turnSet valid) ∧
      (persist = false → t.ps = s.ps) ∧ Only [.porter, .bel, .ps] s t)) ∧
  (∀ (s : State) (pc : PortCmd) (src period offset stagger domain turnSet : Nat) (valid persist : Bool), s.accepts pc 0x0500 true = true →
    s.sec.romOnly = false → (3 ≤ src ∨ period < 500 ∨ 1000000 < period) →
    Completes (.belfrySetRef pc src period offset stagger domain turnSet valid persist) s (fun t =>
      t.resultOf pc = some { status := Status.invalidField.code, detail := if 3 ≤ src then 0 else 1 } ∧ Only [.porter] s t)) ∧
  (∀ (s : State) (pc : PortCmd) (mask adr turn tile : Nat) (b : List Byte) (next : Bool), s.accepts pc 0x0501 true = true → s.md.operating = true →
    adr % 64 = 0 → mask = 2 ^ tile → tile < s.pop.tiles → tile < 8 → schedBad? (schedOf b) (profileOf b) = none → (s.tile tile).bel.armed = none →
    (s.tile tile).bel.turn < turn → turn < (s.tile tile).bel.turn + 2 ^ 35 → turn < 2 ^ 36 →
    Completes (.belfryLoadSchedule pc mask adr b turn next false) s (fun t =>
      (t.tile tile).bel.armed = some { entries := schedOf b, profile := profileOf b, turn := turn, atNext := next, owner := none } ∧
      (t.tile tile).bel.sched = (s.tile tile).bel.sched ∧ t.resultOf pc = some (succeeded [(7, 0), (1, 0), (1, 0)]) ∧ s.othersKept t tile = true ∧
      Only [.porter, .tiles, .jobs, .outbox] s t)) ∧
  (∀ (s : State) (pc : PortCmd) (mask adr turn i : Nat) (b : List Byte) (next persist : Bool), s.accepts pc 0x0501 true = true → s.md.operating = true →
    adr % 64 = 0 → mask < 2 ^ s.pop.tiles → s.pop.legal = true → schedBad? (schedOf b) (profileOf b) = some i →
    Completes (.belfryLoadSchedule pc mask adr b turn next persist) s (fun t =>
      t.resultOf pc = some { status := Status.invalidField.code, detail := 1, results := [(7, i), (1, 0), (1, 0)] } ∧ Only [.porter] s t)) ∧
  (∀ (s : State) (pc : PortCmd) (tile : Nat), s.accepts pc 0x0502 false = true → s.sec.romOnly = false → tile < s.pop.tiles →
    Completes (.belfryGetStatus pc tile) s (fun t => t.resultOf pc = some (succeeded
      [(2, s.bel.state.code), (2, s.bel.source), (1, b2n (s.bel.state == .free || s.bel.state == .holdover)), (36, s.bel.turn), (16, s.localAngle),
       (20, s.bel.period), (16, s.bel.offset), (16, s.bel.stagger), (16, (BitVec.ofInt 16 s.bel.phaseErr).toNat),
       (24, (BitVec.ofInt 24 s.bel.freqErr).toNat), (36, s.bel.holdTurns), (64, (s.tile tile).bel.active), (16, (s.tile tile).bel.overrides),
       (36, (s.tile tile).bel.schedTurn)]) ∧ Only [.porter] s t)) ∧
  (∀ (s : State) (pc : PortCmd) (tile : Nat), s.accepts pc 0x0502 false = true → s.sec.romOnly = false → s.pop.tiles ≤ tile →
    Completes (.belfryGetStatus pc tile) s (fun t => t.resultOf pc = some { status := Status.invalidField.code, detail := 0 } ∧ Only [.porter] s t))

/-- A frame that is not whole, whose tag fails or that is for another group is dropped. A new DELTA goes into a slot of its stripe with
its entry and is answered with ACK 0; one that was answered is answered again the same; in Hold-up it is refused with 3; while its
stripe is locked it is held and answered BUSY (2), and again every 500 µs. An ACK 0 takes the message away, and the commit waits for the
holders left; BUSY, and an answer to nothing, change nothing; a refusal makes the holder DEPARTED. A SETTLE entry settles its slot
entry once; SETTLE_SEND sends what was gathered in one message. A slot is flushed when its entries are settled, or in Hold-up. The
resend timer sends the delta again; the wait's end makes the holder FAILED. HOLD_WAIT stops a commit whose stale bits are not durable. -/
def Obligations.CaravanDeltas : Prop :=
  (∀ (s : State) (f : CarFrame), s.car.inGroup = true → bitOf s.car.heads f.head = true → (s.head f.head).up = true → f.whole = true → f.tagOk = true →
    f.group ≠ s.car.group → Completes (.caravanFrameDelta f) s (fun t => t = s)) ∧
  (∀ (s : State) (f : CarFrame), s.car.inGroup = true → bitOf s.car.heads f.head = true → (s.head f.head).up = true → f.whole = false →
    Completes (.caravanFrameDelta f) s (fun t => t.regBit (Reg.CAR_ERR_STATUS f.head) 5 = true ∧ Only [.reg] s t)) ∧
  (∀ (s : State) (f : CarFrame), s.car.inGroup = true → bitOf s.car.heads f.head = true → (s.head f.head).up = true → f.whole = true → f.tagOk = false →
    Completes (.caravanFrameDelta f) s (fun t => t.regBit (Reg.CAR_ERR_STATUS f.head) 2 = true ∧ Only logParts s t)) ∧
  (∀ (s : State) (f : CarFrame) (h hd : Nat) (p : Peer), s.deltaNew f h = true → s.md.mode ≠ .holdup → f.isQ = false → s.carHead = some hd →
    s.peer f.src = some p →
    Completes (.caravanFrameDelta f) s (fun t => (t.tile h).car.slots =
        [{ seg := (s.carHome f.stripe).2, stripe := f.stripe, isQ := false, lines := xorLines [] (maskLines f.mask f.lines), entries := [(f.src, f.jpos)] }] ∧
      Sends s t [s.ackFrame hd p f.seq f.stripe 0] ∧ (t.peer f.src).map (fun q => aget f.seq q.seen) = some (some 0) ∧
      Only [.tiles, .car, .outbox] s t)) ∧
  (∀ (s : State) (f : CarFrame) (st hd : Nat) (p : Peer), s.carFrameOk f = true → s.peer f.src = some p → aget f.seq p.seen = some st → st ≠ 2 →
    s.carHead = some hd →
    Completes (.caravanFrameDelta f) s (fun t => Sends s t [s.ackFrame hd p f.seq f.stripe st] ∧ Only [.car, .outbox] s t)) ∧
  (∀ (s : State) (f : CarFrame) (h hd : Nat) (p : Peer), s.deltaNew f h = true → s.md.mode = .holdup → s.carHead = some hd → s.peer f.src = some p →
    Completes (.caravanFrameDelta f) s (fun t => Sends s t [s.ackFrame hd p f.seq f.stripe 3] ∧ Only [.car, .outbox] s t)) ∧
  (∀ (s : State) (f : CarFrame) (h hd : Nat) (p : Peer), ({ s with car := { s.car with lock := none } }).deltaNew f h = true →
    s.car.lock = some f.stripe → s.md.mode ≠ .holdup → s.carHead = some hd → s.peer f.src = some p →
    Completes (.caravanFrameDelta f) s (fun t => (t.tile h).car.held.map (fun d => (d.peer, d.seq)) = [(f.src, f.seq)] ∧ (t.tile h).car.slots = [] ∧
      Sends s t [s.ackFrame hd p f.seq f.stripe 2] ∧ Only [.tiles, .outbox] s t)) ∧
  (∀ (s : State) (h hd : Nat) (d : CarHeld) (p : Peer), s.alive h = true → h < 8 → (s.tile h).car.held = [d] → s.carHead = some hd → s.peer d.peer = some p →
    Completes (.caravanBusyTimer h) s (fun t => t = { s with outbox := s.outbox ++ [s.ackFrame hd p d.seq d.stripe 2] })) ∧
  (∀ (s : State) (h : Nat), (s.tile h).car.held = [] → Completes (.caravanBusyTimer h) s (fun t => t = s)) ∧
  (∀ (s : State) (f : CarFrame) (m : CarMsg) (c : Commit) (other : Nat), s.carFrameOk f = true → s.car.msgs = [m] → m.type = 1 → m.peer = f.src →
    m.seq = f.seq → f.status = 0 → s.commitOf m.tile m.seg = some c → (s.tile m.tile).xl.commits = [c] → c.seg = m.seg → m.tile < 8 →
    c.step = .caravan [f.src, other] → other ≠ f.src → c.stopped = false → s.noWork = true →
    Completes (.caravanFrameAck f) s (fun t => t.car.msgs = [] ∧ t.commitOf m.tile m.seg = some { c with step := .caravan [other] } ∧
      Only [.car, .tiles] s t)) ∧
  (∀ (s : State) (f : CarFrame), s.carFrameOk f = true → s.car.msgs.all (fun m => !(m.peer == f.src && m.seq == f.seq)) = true →
    Completes (.caravanFrameAck f) s (fun t => t = s)) ∧
  (∀ (s : State) (f : CarFrame) (m : CarMsg), s.carFrameOk f = true → s.car.msgs = [m] → m.type = 1 → m.peer = f.src → m.seq = f.seq → f.status = 2 →
    Completes (.caravanFrameAck f) s (fun t => t = s)) ∧
  (∀ (s : State) (f : CarFrame) (m : CarMsg) (p : Peer), s.carFrameOk f = true → s.car.msgs = [m] → m.type = 1 → m.peer = f.src → m.seq = f.seq →
    f.status = 3 → m.resent = false → ({ s with car := { s.car with msgs := [] } }).carQuiet = true → s.peer f.src = some p → p.st = .active →
    Completes (.caravanFrameAck f) s (fun t => (t.peer f.src).map (·.st) = some .departed ∧ t.car.msgs = [])) ∧
  (∀ (s : State) (f : CarFrame) (h stripe jpos role : Nat) (k : CarSlot), s.carFrameOk f = true → (settleOf f.lines).contains (stripe, jpos, role) = true →
    (s.peer f.src).map (fun p => ahas f.seq p.seen) = some false → (settleOf f.lines).all (fun e => e == (stripe, jpos, role) || e.1 != stripe) = true →
    (s.carHome stripe).1 = h → h < 8 → (s.tile h).car.slots = [k] → (List.range 8).all (fun d => (s.tile d).car.held.isEmpty) = true → k.stripe = stripe → k.isQ = (role == 1) →
    k.entries = [(f.src, jpos)] →
    Completes (.caravanFrameSettle f) s (fun t =>
      (t.tile h).car.slots = [{ k with entries := [], settledE := k.settledE ++ [(f.src, jpos)] }] ∧
      (t.peer f.src).map (fun q => aget f.seq q.seen) = some (some 0) ∧ s.othersKept t h = true ∧ Only [.tiles, .car] s t)) ∧
  (∀ (s : State) (f : CarFrame) (p : Peer), s.carFrameOk f = true → s.peer f.src = some p → ahas f.seq p.seen = true →
    Completes (.caravanFrameSettle f) s (fun t => t = s)) ∧
  (∀ (s : State), s.car.settle = [] → Completes .settleSend s (fun t => t = s)) ∧
  (∀ (s : State) (p : Peer) (x : Nat × Nat × Nat × Nat), s.car.settle = [(p.idx, x)] → s.peer p.idx = some p → s.carHead.isSome = true →
    Completes .settleSend s (fun t => t.car.settle = [] ∧ (t.peer p.idx).map (·.seqTx) = some (p.seqTx + 1) ∧
      t.outbox.length = s.outbox.length + 1 ∧ Only [.car, .outbox] s t)) ∧
  (∀ (s : State) (h : Nat) (errs : List LineErr) (k : CarSlot), s.alive h = true → h < 8 → s.md.mode = .holdup → bitOf s.md.sealed h = false →
    (s.tile h).car.slots = [k] → k.flushing = false → s.car.lock = none → (s.tile h).xl.commits = [] → s.dirtyOrder h = [] →
    (s.mapOf h k.seg).st = .never →
    Completes (.caravanSlotFlush h errs) s (fun t => (t.tile h).car.slots = [{ k with flushing := true }] ∧
      (t.tile h).xl.commits.map (fun c => (c.job, c.seg)) = [(.car k.seg, k.seg)])) ∧
  (∀ (s : State) (h : Nat) (errs : List LineErr), (bitOf s.md.sealed h = true ∨ (s.tile h).car.slots = []) →
    Completes (.caravanSlotFlush h errs) s (fun t => t = s)) ∧
  (∀ (s : State) (p : Peer) (m : CarMsg) (hd : Nat), s.peer p.idx = some p → s.car.msgs = [m] → m.type = 1 → m.peer = p.idx → m.lines.length ≤ 7 →
    s.carHead = some hd →
    Completes (.caravanResendTimer p.idx m.seq) s (fun t => t.car.msgs = [m] ∧ t.outbox.length = s.outbox.length + 1 ∧
      Only [.car, .outbox, .tiles, .reg] s t)) ∧
  (∀ (s : State) (peer seq : Nat), s.car.msgs = [] → s.car.reads = [] → Completes (.caravanResendTimer peer seq) s (fun t => t = s)) ∧
  (∀ (s : State) (p : Peer) (m : CarMsg) (waitMs totalMs : Nat), s.peer p.idx = some p → p.st = .active → s.car.msgs = [m] → m.type = 1 → m.peer = p.idx →
    ({ s with car := { s.car with msgs := [] } }).carQuiet = true → (m.ackMs ≤ waitMs ∨ m.ackMs + 1 ≤ totalMs) →
    Completes (.caravanAckTimeout p.idx m.seq waitMs totalMs) s (fun t => (t.peer p.idx).map (·.st) = some .failed ∧
      t.regBit (Reg.CAR_ERR_STATUS m.tile) 0 = true ∧ t.car.msgs = [])) ∧
  (∀ (s : State) (peer waitMs totalMs : Nat) (m : CarMsg), s.car.msgs = [m] → waitMs < m.ackMs → totalMs < m.ackMs + 1 →
    Completes (.caravanAckTimeout peer m.seq waitMs totalMs) s (fun t => t = s)) ∧
  (∀ (s : State) (peer seq waitMs totalMs : Nat), s.car.msgs = [] → Completes (.caravanAckTimeout peer seq waitMs totalMs) s (fun t => t = s)) ∧
  (∀ (s : State) (h seg i us : Nat) (c : Commit), s.md.mode = .holdup → 50 * max 1 (s.fld Reg.CAR_CTL 7 4) ≤ us → h < 8 → (s.tile h).xl.commits = [c] → c.seg = seg → c.step = .caravan [i] →
    c.stopped = false → s.staleDurable i (s.car.group' ((s.carDataRow (s.segOf h seg)).getD 0)) = false →
    Completes (.holdWaitExpire h seg us) s (fun t => (t.tile h).xl.commits = [{ c with stopped := true }] ∧ s.othersKept t h = true ∧
      Only [.tiles] s t)) ∧
  (∀ (s : State) (h seg us : Nat), s.md.mode ≠ .holdup ∨ us < 50 * max 1 (s.fld Reg.CAR_CTL 7 4) ∨ (s.tile h).xl.commits = [] →
    Completes (.holdWaitExpire h seg us) s (fun t => t = s))

/-- HELLO_SEND commits the next boot count and sends HELLO where one is due; a peer that does not answer within its second is DEPARTED in a
CARAVAN_JOIN and FAILED otherwise. A message whose SEQ was applied is not applied again.
HELLO makes its sender ACTIVE and restarts its SEQ count, and asks for an answer unless it is one. DEPART makes its sender DEPARTED,
LEAVE FAILED. STALE_MAP queues the row groups it names. ALLOC adds its entries to those of its sender. REPLACE makes the named member
REPLACED and turns its traffic to the sender. READ_REQ to a data member of an unwritten segment is answered with zeros, and to the
holder with the parity as its slots change it. READ_RSP notes one of several answers. A read whose time is over fails. The lock of a
stripe ends without its read. -/
def Obligations.CaravanPeers : Prop :=
  (∀ (s : State) (p : Peer) (hd : Nat), s.car.inGroup = true → s.carHead = some hd → s.peer p.idx = some p → p.helloDue = true → p.helloOld = false →
    p.helloAns = false → s.ps.running = none → s.energyLow = false → s.md.mode ≠ .holdup → (s.md.mode ≠ .bringup ∨ bitOf s.md.stepsDone 12 = true) → s.ps.pendingSet = [] → s.ps.waiters = [] → s.ps.roomWait = [] →
    Completes (.helloSend p.idx) s (fun t => t.psGet Param.CAR_BOOT = leBytes 4 (leAt (s.psGet Param.CAR_BOOT) 0 4 + 1) ∧
      t.outbox.length = s.outbox.length + 1 ∧
      t.peer p.idx = some { p with helloDue := false, helloWait := true, helloAns := false, seqTx := 0, seen := [], parts := [] } ∧
      Only [.car, .outbox, .ps, .sec] s t)) ∧
  (∀ (s : State) (p : Peer), s.peer p.idx = some p → p.helloDue = false → p.helloOld = false → Completes (.helloSend p.idx) s (fun t => t = s)) ∧
  (∀ (s : State) (p : Peer), s.peer p.idx = some p → p.helloWait = true → p.st = .active → s.carQuiet = true →
    Completes (.caravanHelloTimeout p.idx) s (fun t =>
      (t.peer p.idx).map (fun q => (q.st, q.helloWait, q.helloDue)) = some (.failed, false, p.helloDue))) ∧
  (∀ (s : State) (p : Peer) (r c : Nat), s.peer p.idx = some p → p.helloWait = true → p.st = .active → s.car.join = some (r, c) →
    (s.modCar (fun x => { x with join := none })).carQuiet = true → s.car.peers.any (fun q => q.idx != p.idx && (q.helloWait || q.helloDue)) = true →
    Completes (.caravanHelloTimeout p.idx) s (fun t =>
      (t.peer p.idx).map (fun q => (q.st, q.helloWait, q.helloDue)) = some (.departed, false, false) ∧ t.car.join = s.car.join)) ∧
  (∀ (s : State) (p : Peer), s.peer p.idx = some p → p.helloWait = false → s.car.join = none →
    Completes (.caravanHelloTimeout p.idx) s (fun t => t = s)) ∧
  (∀ (s : State) (f : CarFrame) (p : Peer), s.carFrameOk f = true → s.peer f.src = some p → p.taken = false → p.spare = false → s.carQuiet = true →
    helloView (f.lines.headD 0) s.car.self ≠ 3 → s.car.peers.all (fun q => q.st != .departed || q.idx == f.src) = true →
    Completes (.caravanFrameHello f) s (fun t =>
      (t.peer f.src).map (fun q => (q.st, q.seqTx, q.seen)) = some (.active, 0, []) ∧
      (t.peer f.src).map (fun q => (q.helloWait, q.helloDue, q.helloAns)) = some (false, !p.helloWait, !p.helloWait))) ∧
  (∀ (s : State) (f : CarFrame) (p : Peer), s.carFrameOk f = true → s.peer f.src = some p → p.st = .active → ahas f.seq p.seen = false → s.carQuiet = true →
    Completes (.caravanFrameDepart f) s (fun t => (t.peer f.src).map (·.st) = some .departed)) ∧
  (∀ (s : State) (f : CarFrame) (p : Peer), s.carFrameOk f = true → s.peer f.src = some p → p.st = .active → ahas f.seq p.seen = false → s.carQuiet = true →
    Completes (.caravanFrameLeave f) s (fun t => (t.peer f.src).map (·.st) = some .failed)) ∧
  (∀ (s : State) (f : CarFrame) (g : Nat), s.carFrameOk f = true → (s.peer f.src).map (fun p => ahas f.seq p.seen) = some false → g < 4096 → bitOf (leAt (lineBytes f.lines) (g / 8) 1) (g % 8) = true →
    Completes (.caravanFrameStaleMap f) s (fun t => t.car.resync.contains g = true ∧ (t.peer f.src).map (·.mapSeq) = some (some f.seq) ∧ t.car.stopped = false)) ∧
  (∀ (s : State) (f : CarFrame) (p : Peer), s.carFrameOk f = true → s.car.role ≠ 2 → s.peer f.src = some p → ahas f.seq p.seen = false →
    Completes (.caravanFrameAlloc f) s (fun t =>
      t.peer f.src = some { p with alloc := p.alloc ++ allocOf f.lines, seen := aput f.seq 0 p.seen } ∧ Only [.car] s t)) ∧
  (∀ (s : State) (f : CarFrame) (p : Peer), s.carFrameOk f = true → s.peer f.src = some p → ahas f.seq p.seen = true →
    Completes (.caravanFrameAlloc f) s (fun t => t = s)) ∧
  (∀ (s : State) (f : CarFrame) (p : Peer), s.carFrameOk f = true → s.peer f.src = some p → ahas f.seq p.seen = true →
    Completes (.caravanFrameDepart f) s (fun t => t = s)) ∧
  (∀ (s : State) (f : CarFrame) (p : Peer), s.carFrameOk f = true → s.peer f.src = some p → ahas f.seq p.seen = true →
    Completes (.caravanFrameLeave f) s (fun t => t = s)) ∧
  (∀ (s : State) (f : CarFrame) (p : Peer), s.carFrameOk f = true → s.peer f.src = some p → ahas f.seq p.seen = true →
    Completes (.caravanFrameStaleMap f) s (fun t => t = s)) ∧
  (∀ (s : State) (f : CarFrame) (p : Peer), s.carFrameOk f = true → s.peer f.src = some p → ahas f.seq p.seen = true →
    Completes (.caravanFrameReplace f) s (fun t => t = s)) ∧
  (∀ (s : State) (f : CarFrame) (p q : Peer), s.carFrameOk f = true → s.peer f.src = some q → p.idx = (lineByte (f.lines.headD 0) 0).toNat →
    s.peer p.idx = some p → p.idx ≠ f.src → p.st ≠ .replaced → s.car.inGroup = true →
    Completes (.caravanFrameReplace f) s (fun t =>
      (t.peer p.idx).map (fun x => (x.st, x.spare, x.taken, x.bars)) = some (.replaced, true, true, q.bars) ∧
      (t.peer p.idx).map (fun x => (x.oldBars, x.seen)) = some (p.bars, []))) ∧
  (∀ (s : State) (f : CarFrame) (p : Peer) (h i hd : Nat), s.carFrameOk f = true → s.car.role = 0 → f.stripe / 65536 < s.car.blocks →
    s.carHolds (f.stripe / 65536) = false → (s.carHome f.stripe).1 = h → h < 8 → s.alive h = true → i < 64 → f.mask = 2 ^ i →
    (s.mapOf h (s.carHome f.stripe).2).st = .never → (s.tile h).xl.commits = [] → s.carHead = some hd → s.peer f.src = some p →
    Completes (.caravanFrameReadReq f []) s (fun t => Sends s t [.caravan f.src 5
        [2, s.car.group, s.car.self, f.src, 0, 1, p.seqTx, f.stripe, 0, (s.car.dataIdx (f.stripe / 65536) s.car.self).getD 0, 0, 2 ^ i, hd, p.bars.getD p.bar 0] [0]] ∧
      Only [.car, .outbox] s t)) ∧
  (∀ (s : State) (f : CarFrame) (h i : Nat) (k : CarSlot) (x : Line), s.carFrameOk f = true → s.car.role = 0 → f.stripe / 65536 < s.car.blocks →
    s.carHolds (f.stripe / 65536) = true → s.car.resync = [] → (s.carHome f.stripe).1 = h → h < 8 → s.alive h = true → i < 64 → f.mask = 2 ^ i →
    (s.mapOf h (s.carHome f.stripe).2).st = .never → (s.tile h).car.slots = [k] → k.stripe = f.stripe → k.lines = [(i, x)] → k.entries = [(1, 7)] →
    k.settledE = [] → s.carHead.isSome = true →
    Completes (.caravanFrameReadReq f []) s (fun t => (t.outbox.getLast?).map (fun o => match o with | .caravan _ _ _ ls => ls | _ => []) =
        some [x, lineOf (fun j => (leBytes 8 (2 * 2 ^ 36 + 7)).getD j 0)] ∧ Only [.car, .outbox] s t)) ∧
  (∀ (s : State) (f : CarFrame) (errs : List LineErr), s.carFrameOk f = true → s.car.role = 1 →
    Completes (.caravanFrameReadReq f errs) s (fun t => t = s)) ∧
  (∀ (s : State) (f : CarFrame) (r : CarRead) (ns q o : Nat), s.carFrameOk f = true → s.car.reads = [r] → r.stripe = f.stripe →
    r.left = [(f.src, q), (o, q)] → o ≠ f.src → s.car.rs = false → s.car.pOf (f.stripe / 65536) ≠ f.src → f.lines.length = popCount f.mask 64 →
    (s.peer f.src).map (fun p => ahas f.seq p.seen) = some false →
    Completes (.caravanFrameReadRsp f ns) s (fun t => t.car.reads =
        [{ r with left := [(o, q)], got := r.got ++ [{ peer := f.src, lines := maskLines f.mask f.lines }] }] ∧
      (t.peer f.src).map (fun p => aget f.seq p.seen) = some (some 0) ∧ Only [.car] s t)) ∧
  (∀ (s : State) (f : CarFrame) (p : Peer) (ns : Nat), s.carFrameOk f = true → s.peer f.src = some p → ahas f.seq p.seen = true → Completes (.caravanFrameReadRsp f ns) s (fun t => t = s)) ∧
  (∀ (s : State) (stripe h id line ns waitMs : Nat) (r : CarRead), s.car.reads = [r] → r.stripe = stripe → r.use = .host h id line →
    s.hazOf h id = none → s.noWork = true → r.ackMs ≤ waitMs →
    Completes (.caravanReadTimeout stripe ns waitMs) s (fun t => t.car.reads = [] ∧ Only [.car] s t)) ∧
  (∀ (s : State) (stripe ns waitMs : Nat), s.car.reads.all (fun r => r.stripe != stripe || decide (waitMs < r.ackMs)) = true →
    Completes (.caravanReadTimeout stripe ns waitMs) s (fun t => t = s)) ∧
  (∀ (s : State) (k : Nat), s.car.lock = some k → s.car.reads = [] → (s.tile (s.carHome k).1).car.held = [] →
    Completes .stripeLockExpire s (fun t => t.car = { s.car with lock := none } ∧ Only [.car] s t)) ∧
  (∀ (s : State), s.car.lock = none → Completes .stripeLockExpire s (fun t => t = s))

/-- CARAVAN_RESYNC_STRIPE takes the bulk-copy window when row groups wait, locks the next stripe and reads its members, and releases
the window when none is left; it does nothing for a spare. CARAVAN_REBUILD_STEP passes over a segment that holds data, reads the
members for a LOST one, and ends as a member under the new index behind the last row. CARAVAN_JOIN takes in the group's figures and
waits for its peers; in a group it is busy, and fields outside their ranges are refused. CARAVAN_LEAVE frees the parity and leaves.
CARAVAN_STATUS returns the figures. CARAVAN_REBUILD with KIND 2 stops the work, with KIND 1 starts a resync; a kind that the role
does not have is refused, and one while the window is taken is busy. -/
def Obligations.CaravanWork : Prop :=
  (∀ (s : State) (ms : Nat), (s.car.inGroup = false ∨ s.car.role ≠ 0 ∨ s.car.stopped = true ∨ s.car.lock.isSome = true) →
    Completes (.caravanResyncStripe ms) s (fun t => t = s)) ∧
  (∀ (s : State) (ms g : Nat) (l : List Nat), s.car.inGroup = true → s.md.operating = true → s.car.role = 0 → s.car.stopped = false → s.car.lock = none →
    s.windowFor 2 = true → s.car.work = 0 → s.car.resync = g :: l →
    Completes (.caravanResyncStripe ms) s (fun t => s.aliveTiles.all (fun k => t.windowOwner k == 2) = true ∧ t.car = { s.car with work := 1, resyncNext := 0 } ∧
      Only (.cup :: .car :: logParts) s t)) ∧
  (∀ (s : State) (ms : Nat), s.car.inGroup = true → s.md.operating = true → s.car.role = 0 → s.car.stopped = false → s.car.lock = none →
    s.windowFor 2 = true → s.car.work = 1 → s.car.resync = [] →
    Completes (.caravanResyncStripe ms) s (fun t => t.cup.windows.all (fun e => e.2 != 2) = true ∧ t.car = { s.car with work := 0 })) ∧
  (∀ (s : State) (ms g row h : Nat) (l : List Nat), s.car.inGroup = true → s.md.operating = true → s.car.role = 0 → s.car.stopped = false →
    s.car.lock = none → s.windowFor 2 = true → s.car.work = 1 → s.car.resync = g :: l → s.car.resyncNext = 0 → (s.groupRows g)[0]? = some row →
    (s.carHome (row * 65536)).1 = h → s.alive h = true → (s.carOthers row).all s.peerActive = true → (s.tile h).car.slots = [] → (s.tile h).xl.commits = [] →
    Completes (.caravanResyncStripe ms) s (fun t => t.car.lock = some (row * 65536) ∧ t.car.resync = s.car.resync ∧
      t.car.reads.length = s.car.reads.length + 1 ∧ Only [.car, .outbox] s t)) ∧
  (∀ (s : State) (ms ns : Nat), (s.car.role ≠ 2 ∨ s.car.work ≠ 2 ∨ s.pw.stage ≠ 0 ∨ s.windowFor 2 = false) → Completes (.caravanRebuildStep ms ns) s (fun t => t = s)) ∧
  (∀ (s : State) (ms ns : Nat), s.car.role = 2 → s.car.work = 2 → s.md.operating = true → s.pw.stage = 0 → s.windowFor 2 = true → s.car.lock = none →
    s.car.blocks ≤ s.car.resyncNext / 65536 →
    Completes (.caravanRebuildStep ms ns) s (fun t => t.car.role = 0 ∧ t.car.member = s.car.target ∧ t.car.took = true ∧ t.car.work = 0 ∧ t.cup.windows.all (fun e => e.2 != 2) = true)) ∧
  (∀ (s : State) (ms ns h l : Nat), s.car.role = 2 → 4096 ≤ ns * max 1 (s.fld Reg.CAR_CTL 11 8) → s.car.work = 2 → s.md.operating = true → s.pw.stage = 0 → s.windowFor 2 = true → s.car.lock = none →
    s.car.resyncNext / 65536 < s.car.blocks → (s.car.dataIdx (s.car.resyncNext / 65536) s.car.self).isSome = true →
    s.carHome s.car.resyncNext = (h, l) → (s.mapRaw h l).st ≠ .lost →
    Completes (.caravanRebuildStep ms ns) s (fun t => t.car = { s.car with resyncNext := s.car.resyncNext + 1 } ∧ Only [.car] s t)) ∧
  (∀ (s : State) (ms ns h l : Nat) (asked : List Nat), s.car.role = 2 → 4096 ≤ ns * max 1 (s.fld Reg.CAR_CTL 11 8) → s.car.work = 2 →
    s.md.operating = true → s.pw.stage = 0 → s.windowFor 2 = true → s.car.lock = none → s.car.resyncNext / 65536 < s.car.blocks →
    (s.car.dataIdx (s.car.resyncNext / 65536) s.car.self).isSome = true → s.carHome s.car.resyncNext = (h, l) → s.alive h = true →
    (s.mapRaw h l).st = .lost → ahas l (s.tile h).xl.map = false → (s.commitOf h l).isNone = true → s.segLocked h l = false →
    s.car.reads = [] → s.carAsk (s.car.resyncNext / 65536) = some asked →
    Completes (.caravanRebuildStep ms ns) s (fun t =>
      t.car.reads.map (fun r => (r.use, r.stripe, r.mask, r.left.map (·.1))) = [(.repair h l, s.car.resyncNext, allLines, asked)] ∧
      t.car.resyncNext = s.car.resyncNext ∧ Only [.car, .outbox] s t)) ∧
  (∀ (s : State) (ms ns : Nat), s.car.role = 2 → s.car.work = 2 → s.car.resyncNext / 65536 < s.car.blocks →
    ns * max 1 (s.fld Reg.CAR_CTL 11 8) < 4096 → Completes (.caravanRebuildStep ms ns) s (fun t => t = s)) ∧
  (∀ (s : State) (pc : PortCmd) (group n member base blocks heads handle buf : Nat) (code : Bool) (table : List (List Nat)),
    s.accepts pc 0x0600 true = true → s.md.operating = true → s.md.mode = .service → s.car.inGroup = false → group < 4096 → 3 ≤ n → n ≤ 18 → member < n →
    base + blocks ≤ s.pkgBlocks → s.cap.table = [] → s.rangeEmpty base (base + blocks) = true → n ≤ blocks → blocks % n = 0 → heads ≠ 0 → heads < 2 →
    (s.head 0).upper = false → s.pop.legal = true → ahas handle s.sec.secrets = true → s.sec.withdrawn = false → buf % 64 = 0 → (peersOf table n member).isEmpty = false →
    Completes (.caravanJoin pc group code n member false base blocks heads handle buf table) s (fun t =>
      (t.car.inGroup, t.car.group, t.car.rs, t.car.n, t.car.member) = (true, group, code, n, member) ∧
      (t.car.role, t.car.base, t.car.blocks, t.car.heads, t.car.handle) = (0, base, blocks, heads, handle) ∧
      t.car.peers = peersOf table n member ∧ t.car.join = some (pc.ring, pc.cid) ∧ t.resultOf pc = none ∧ Only (.car :: logParts) s t)) ∧
  (∀ (s : State) (pc : PortCmd) (group n member base blocks heads handle buf : Nat) (code spare : Bool) (table : List (List Nat)),
    s.accepts pc 0x0600 true = true → s.md.operating = true → s.md.mode = .service → s.car.inGroup = true →
    Completes (.caravanJoin pc group code n member spare base blocks heads handle buf table) s (fun t =>
      t.resultOf pc = some { status := Status.resourceBusy.code, detail := 0 } ∧ Only [.porter] s t)) ∧
  (∀ (s : State) (pc : PortCmd) (group n member base blocks heads handle buf : Nat) (code spare : Bool) (table : List (List Nat)),
    s.accepts pc 0x0600 true = true → s.md.operating = true → s.md.mode = .service → s.car.inGroup = false → group < 4096 → (n < 3 ∨ 18 < n) →
    Completes (.caravanJoin pc group code n member spare base blocks heads handle buf table) s (fun t =>
      t.resultOf pc = some { status := Status.invalidField.code, detail := 2 } ∧ Only [.porter] s t)) ∧
  (∀ (s : State) (pc : PortCmd) (ms : Nat), s.accepts pc 0x0601 true = true → s.md.operating = true → s.md.mode = .service → s.car.inGroup = true →
    s.car.role = 0 → s.car.work = 0 → s.carQuiet = true → s.carHead = none →
    Completes (.caravanLeave pc true ms) s (fun t => t.car = {} ∧
      t.resultOf pc = some (succeeded [(32, s.car.blocks * (if s.car.rs then 2 else 1) / s.car.n * 65536)]) ∧ t.psGet Param.CAR_GROUP = carGroupBytes {})) ∧
  (∀ (s : State) (pc : PortCmd) (ms : Nat) (dissolve : Bool), s.accepts pc 0x0601 true = true → s.md.operating = true → s.md.mode = .service →
    (s.car.inGroup = false ∨ (s.car.role ≠ 1 ∧ dissolve = false)) →
    Completes (.caravanLeave pc dissolve ms) s (fun t => t.resultOf pc = some { status := Status.invalidField.code, detail := 0 } ∧ Only [.porter] s t)) ∧
  (∀ (s : State) (pc : PortCmd), s.accepts pc 0x0602 false = true → s.sec.romOnly = false →
    Completes (.caravanStatus pc) s (fun t => t.resultOf pc = some (succeeded
      ([(12, s.car.group), (1, b2n s.car.rs), (5, s.car.n), (5, s.car.member)] ++
        (List.range 18).map (fun i => (2, ((s.peer i).map (fun p => p.st.code)).getD 0)) ++ [(13, s.staleGroups), (2, s.car.work), (32, s.carLeft)])) ∧
      Only [.porter] s t)) ∧
  (∀ (s : State) (pc : PortCmd) (target ms : Nat), s.accepts pc 0x0603 true = true → s.md.operating = true → s.md.mode ≠ .sealed → s.car.inGroup = true →
    s.car.work = 0 →
    Completes (.caravanRebuild pc 2 target ms) s (fun t => t.car = { s.car with stopped := true } ∧ t.resultOf pc = some (succeeded [(32, 0)]) ∧
      Only [.porter, .car] s t)) ∧
  (∀ (s : State) (pc : PortCmd) (kind target ms : Nat), s.accepts pc 0x0603 true = true → s.md.operating = true → s.md.mode ≠ .sealed →
    (s.car.inGroup = false ∨ 3 ≤ kind ∨ (kind = 1 ∧ s.car.role ≠ 0) ∨ (kind = 0 ∧ s.car.role = 0)) →
    Completes (.caravanRebuild pc kind target ms) s (fun t => t.resultOf pc = some { status := Status.invalidField.code, detail := 0 } ∧ Only [.porter] s t)) ∧
  (∀ (s : State) (pc : PortCmd) (target ms : Nat), s.accepts pc 0x0603 true = true → s.md.operating = true → s.md.mode ≠ .sealed → s.car.inGroup = true →
    s.car.role = 0 → (s.car.work ≠ 0 ∨ s.windowFor 2 = false) →
    Completes (.caravanRebuild pc 1 target ms) s (fun t => t.resultOf pc = some { status := Status.resourceBusy.code, detail := 4 } ∧ Only [.porter] s t)) ∧
  (∀ (s : State) (pc : PortCmd) (target ms g : Nat), s.accepts pc 0x0603 true = true → s.md.operating = true → s.md.mode ≠ .sealed → s.car.inGroup = true →
    s.car.role = 0 → s.car.work = 0 → s.windowFor 2 = true → g < 4096 → (s.groupRows g).isEmpty = false →
    Completes (.caravanRebuild pc 1 target ms) s (fun t => t.car.work = 1 ∧ s.aliveTiles.all (fun k => t.windowOwner k == 2) = true ∧ t.car.resync.contains g = true ∧
      (t.resultOf pc).map (·.status) = some Status.success.code))
end

