-- ==== Sys2Proof/Laws/State.lean ====
section
/-! SUPPORT. Laws/State.lean: what each plain update leaves unchanged, field by field, so that no proof unfolds a record
update. -/

namespace Sys2Proof.Machine

variable (s : State)

@[simp] theorem State.emit_pending (o : Out) : (s.emit o).pending = s.pending := rfl
@[simp] theorem State.emit_free (o : Out) : (s.emit o).free = s.free := rfl
@[simp] theorem State.emit_draws (o : Out) : (s.emit o).draws = s.draws := rfl
@[simp] theorem State.emit_pop (o : Out) : (s.emit o).pop = s.pop := rfl
@[simp] theorem State.emit_reg (o : Out) : (s.emit o).reg = s.reg := rfl
@[simp] theorem State.emit_gb (o : Out) : (s.emit o).gb = s.gb := rfl
@[simp] theorem State.emit_ps (o : Out) : (s.emit o).ps = s.ps := rfl
@[simp] theorem State.emit_md (o : Out) : (s.emit o).md = s.md := rfl
@[simp] theorem State.emit_pw (o : Out) : (s.emit o).pw = s.pw := rfl
@[simp] theorem State.emit_porter (o : Out) : (s.emit o).porter = s.porter := rfl
@[simp] theorem State.emit_bel (o : Out) : (s.emit o).bel = s.bel := rfl
@[simp] theorem State.emit_wins (o : Out) : (s.emit o).wins = s.wins := rfl
@[simp] theorem State.emit_clk (o : Out) : (s.emit o).clk = s.clk := rfl
@[simp] theorem State.emit_thm (o : Out) : (s.emit o).thm = s.thm := rfl
@[simp] theorem State.emit_cap (o : Out) : (s.emit o).cap = s.cap := rfl
@[simp] theorem State.emit_cup (o : Out) : (s.emit o).cup = s.cup := rfl
@[simp] theorem State.emit_car (o : Out) : (s.emit o).car = s.car := rfl
@[simp] theorem State.emit_fuse (o : Out) : (s.emit o).fuse = s.fuse := rfl
@[simp] theorem State.emit_sec (o : Out) : (s.emit o).sec = s.sec := rfl
@[simp] theorem State.emit_jobs (o : Out) : (s.emit o).jobs = s.jobs := rfl
@[simp] theorem State.emit_tiles (o : Out) : (s.emit o).tiles = s.tiles := rfl
@[simp] theorem State.emit_outbox (o : Out) : (s.emit o).outbox = s.outbox ++ [o] := rfl

@[simp] theorem State.bumpFree_pending : (s.bumpFree).pending = s.pending := rfl
@[simp] theorem State.bumpFree_draws : (s.bumpFree).draws = s.draws := rfl
@[simp] theorem State.bumpFree_outbox : (s.bumpFree).outbox = s.outbox := rfl
@[simp] theorem State.bumpFree_pop : (s.bumpFree).pop = s.pop := rfl
@[simp] theorem State.bumpFree_reg : (s.bumpFree).reg = s.reg := rfl
@[simp] theorem State.bumpFree_gb : (s.bumpFree).gb = s.gb := rfl
@[simp] theorem State.bumpFree_ps : (s.bumpFree).ps = s.ps := rfl
@[simp] theorem State.bumpFree_md : (s.bumpFree).md = s.md := rfl
@[simp] theorem State.bumpFree_pw : (s.bumpFree).pw = s.pw := rfl
@[simp] theorem State.bumpFree_porter : (s.bumpFree).porter = s.porter := rfl
@[simp] theorem State.bumpFree_bel : (s.bumpFree).bel = s.bel := rfl
@[simp] theorem State.bumpFree_wins : (s.bumpFree).wins = s.wins := rfl
@[simp] theorem State.bumpFree_clk : (s.bumpFree).clk = s.clk := rfl
@[simp] theorem State.bumpFree_thm : (s.bumpFree).thm = s.thm := rfl
@[simp] theorem State.bumpFree_cap : (s.bumpFree).cap = s.cap := rfl
@[simp] theorem State.bumpFree_cup : (s.bumpFree).cup = s.cup := rfl
@[simp] theorem State.bumpFree_car : (s.bumpFree).car = s.car := rfl
@[simp] theorem State.bumpFree_fuse : (s.bumpFree).fuse = s.fuse := rfl
@[simp] theorem State.bumpFree_sec : (s.bumpFree).sec = s.sec := rfl
@[simp] theorem State.bumpFree_jobs : (s.bumpFree).jobs = s.jobs := rfl
@[simp] theorem State.bumpFree_tiles : (s.bumpFree).tiles = s.tiles := rfl
@[simp] theorem State.bumpFree_free : (s.bumpFree).free = s.free + 1 := rfl

@[simp] theorem State.bumpRand_pending : (s.bumpRand).pending = s.pending := rfl
@[simp] theorem State.bumpRand_free : (s.bumpRand).free = s.free := rfl
@[simp] theorem State.bumpRand_outbox : (s.bumpRand).outbox = s.outbox := rfl
@[simp] theorem State.bumpRand_pop : (s.bumpRand).pop = s.pop := rfl
@[simp] theorem State.bumpRand_reg : (s.bumpRand).reg = s.reg := rfl
@[simp] theorem State.bumpRand_gb : (s.bumpRand).gb = s.gb := rfl
@[simp] theorem State.bumpRand_ps : (s.bumpRand).ps = s.ps := rfl
@[simp] theorem State.bumpRand_md : (s.bumpRand).md = s.md := rfl
@[simp] theorem State.bumpRand_pw : (s.bumpRand).pw = s.pw := rfl
@[simp] theorem State.bumpRand_porter : (s.bumpRand).porter = s.porter := rfl
@[simp] theorem State.bumpRand_bel : (s.bumpRand).bel = s.bel := rfl
@[simp] theorem State.bumpRand_wins : (s.bumpRand).wins = s.wins := rfl
@[simp] theorem State.bumpRand_clk : (s.bumpRand).clk = s.clk := rfl
@[simp] theorem State.bumpRand_thm : (s.bumpRand).thm = s.thm := rfl
@[simp] theorem State.bumpRand_cap : (s.bumpRand).cap = s.cap := rfl
@[simp] theorem State.bumpRand_cup : (s.bumpRand).cup = s.cup := rfl
@[simp] theorem State.bumpRand_car : (s.bumpRand).car = s.car := rfl
@[simp] theorem State.bumpRand_fuse : (s.bumpRand).fuse = s.fuse := rfl
@[simp] theorem State.bumpRand_sec : (s.bumpRand).sec = s.sec := rfl
@[simp] theorem State.bumpRand_jobs : (s.bumpRand).jobs = s.jobs := rfl
@[simp] theorem State.bumpRand_tiles : (s.bumpRand).tiles = s.tiles := rfl
@[simp] theorem State.bumpRand_draws : (s.bumpRand).draws = s.draws + 1 := rfl

@[simp] theorem State.modTile_pending (t : Nat) (f : Tile → Tile) : (s.modTile t f).pending = s.pending := rfl
@[simp] theorem State.modTile_free (t : Nat) (f : Tile → Tile) : (s.modTile t f).free = s.free := rfl
@[simp] theorem State.modTile_draws (t : Nat) (f : Tile → Tile) : (s.modTile t f).draws = s.draws := rfl
@[simp] theorem State.modTile_outbox (t : Nat) (f : Tile → Tile) : (s.modTile t f).outbox = s.outbox := rfl
@[simp] theorem State.modTile_pop (t : Nat) (f : Tile → Tile) : (s.modTile t f).pop = s.pop := rfl
@[simp] theorem State.modTile_reg (t : Nat) (f : Tile → Tile) : (s.modTile t f).reg = s.reg := rfl
@[simp] theorem State.modTile_gb (t : Nat) (f : Tile → Tile) : (s.modTile t f).gb = s.gb := rfl
@[simp] theorem State.modTile_ps (t : Nat) (f : Tile → Tile) : (s.modTile t f).ps = s.ps := rfl
@[simp] theorem State.modTile_md (t : Nat) (f : Tile → Tile) : (s.modTile t f).md = s.md := rfl
@[simp] theorem State.modTile_pw (t : Nat) (f : Tile → Tile) : (s.modTile t f).pw = s.pw := rfl
@[simp] theorem State.modTile_porter (t : Nat) (f : Tile → Tile) : (s.modTile t f).porter = s.porter := rfl
@[simp] theorem State.modTile_bel (t : Nat) (f : Tile → Tile) : (s.modTile t f).bel = s.bel := rfl
@[simp] theorem State.modTile_wins (t : Nat) (f : Tile → Tile) : (s.modTile t f).wins = s.wins := rfl
@[simp] theorem State.modTile_clk (t : Nat) (f : Tile → Tile) : (s.modTile t f).clk = s.clk := rfl
@[simp] theorem State.modTile_thm (t : Nat) (f : Tile → Tile) : (s.modTile t f).thm = s.thm := rfl
@[simp] theorem State.modTile_cap (t : Nat) (f : Tile → Tile) : (s.modTile t f).cap = s.cap := rfl
@[simp] theorem State.modTile_cup (t : Nat) (f : Tile → Tile) : (s.modTile t f).cup = s.cup := rfl
@[simp] theorem State.modTile_car (t : Nat) (f : Tile → Tile) : (s.modTile t f).car = s.car := rfl
@[simp] theorem State.modTile_fuse (t : Nat) (f : Tile → Tile) : (s.modTile t f).fuse = s.fuse := rfl
@[simp] theorem State.modTile_sec (t : Nat) (f : Tile → Tile) : (s.modTile t f).sec = s.sec := rfl
@[simp] theorem State.modTile_jobs (t : Nat) (f : Tile → Tile) : (s.modTile t f).jobs = s.jobs := rfl
@[simp] theorem State.modTile_tiles (t : Nat) (f : Tile → Tile) : (s.modTile t f).tiles = vmod t f s.tiles := rfl

@[simp] theorem State.modMd_pending (f : ModeState → ModeState) : (s.modMd f).pending = s.pending := rfl
@[simp] theorem State.modMd_free (f : ModeState → ModeState) : (s.modMd f).free = s.free := rfl
@[simp] theorem State.modMd_draws (f : ModeState → ModeState) : (s.modMd f).draws = s.draws := rfl
@[simp] theorem State.modMd_outbox (f : ModeState → ModeState) : (s.modMd f).outbox = s.outbox := rfl
@[simp] theorem State.modMd_pop (f : ModeState → ModeState) : (s.modMd f).pop = s.pop := rfl
@[simp] theorem State.modMd_reg (f : ModeState → ModeState) : (s.modMd f).reg = s.reg := rfl
@[simp] theorem State.modMd_gb (f : ModeState → ModeState) : (s.modMd f).gb = s.gb := rfl
@[simp] theorem State.modMd_ps (f : ModeState → ModeState) : (s.modMd f).ps = s.ps := rfl
@[simp] theorem State.modMd_pw (f : ModeState → ModeState) : (s.modMd f).pw = s.pw := rfl
@[simp] theorem State.modMd_porter (f : ModeState → ModeState) : (s.modMd f).porter = s.porter := rfl
@[simp] theorem State.modMd_bel (f : ModeState → ModeState) : (s.modMd f).bel = s.bel := rfl
@[simp] theorem State.modMd_wins (f : ModeState → ModeState) : (s.modMd f).wins = s.wins := rfl
@[simp] theorem State.modMd_clk (f : ModeState → ModeState) : (s.modMd f).clk = s.clk := rfl
@[simp] theorem State.modMd_thm (f : ModeState → ModeState) : (s.modMd f).thm = s.thm := rfl
@[simp] theorem State.modMd_cap (f : ModeState → ModeState) : (s.modMd f).cap = s.cap := rfl
@[simp] theorem State.modMd_cup (f : ModeState → ModeState) : (s.modMd f).cup = s.cup := rfl
@[simp] theorem State.modMd_car (f : ModeState → ModeState) : (s.modMd f).car = s.car := rfl
@[simp] theorem State.modMd_fuse (f : ModeState → ModeState) : (s.modMd f).fuse = s.fuse := rfl
@[simp] theorem State.modMd_sec (f : ModeState → ModeState) : (s.modMd f).sec = s.sec := rfl
@[simp] theorem State.modMd_jobs (f : ModeState → ModeState) : (s.modMd f).jobs = s.jobs := rfl
@[simp] theorem State.modMd_tiles (f : ModeState → ModeState) : (s.modMd f).tiles = s.tiles := rfl
@[simp] theorem State.modMd_md (f : ModeState → ModeState) : (s.modMd f).md = f s.md := rfl

@[simp] theorem State.modPw_pending (f : PowerState → PowerState) : (s.modPw f).pending = s.pending := rfl
@[simp] theorem State.modPw_free (f : PowerState → PowerState) : (s.modPw f).free = s.free := rfl
@[simp] theorem State.modPw_draws (f : PowerState → PowerState) : (s.modPw f).draws = s.draws := rfl
@[simp] theorem State.modPw_outbox (f : PowerState → PowerState) : (s.modPw f).outbox = s.outbox := rfl
@[simp] theorem State.modPw_pop (f : PowerState → PowerState) : (s.modPw f).pop = s.pop := rfl
@[simp] theorem State.modPw_reg (f : PowerState → PowerState) : (s.modPw f).reg = s.reg := rfl
@[simp] theorem State.modPw_gb (f : PowerState → PowerState) : (s.modPw f).gb = s.gb := rfl
@[simp] theorem State.modPw_ps (f : PowerState → PowerState) : (s.modPw f).ps = s.ps := rfl
@[simp] theorem State.modPw_md (f : PowerState → PowerState) : (s.modPw f).md = s.md := rfl
@[simp] theorem State.modPw_porter (f : PowerState → PowerState) : (s.modPw f).porter = s.porter := rfl
@[simp] theorem State.modPw_bel (f : PowerState → PowerState) : (s.modPw f).bel = s.bel := rfl
@[simp] theorem State.modPw_wins (f : PowerState → PowerState) : (s.modPw f).wins = s.wins := rfl
@[simp] theorem State.modPw_clk (f : PowerState → PowerState) : (s.modPw f).clk = s.clk := rfl
@[simp] theorem State.modPw_thm (f : PowerState → PowerState) : (s.modPw f).thm = s.thm := rfl
@[simp] theorem State.modPw_cap (f : PowerState → PowerState) : (s.modPw f).cap = s.cap := rfl
@[simp] theorem State.modPw_cup (f : PowerState → PowerState) : (s.modPw f).cup = s.cup := rfl
@[simp] theorem State.modPw_car (f : PowerState → PowerState) : (s.modPw f).car = s.car := rfl
@[simp] theorem State.modPw_fuse (f : PowerState → PowerState) : (s.modPw f).fuse = s.fuse := rfl
@[simp] theorem State.modPw_sec (f : PowerState → PowerState) : (s.modPw f).sec = s.sec := rfl
@[simp] theorem State.modPw_jobs (f : PowerState → PowerState) : (s.modPw f).jobs = s.jobs := rfl
@[simp] theorem State.modPw_tiles (f : PowerState → PowerState) : (s.modPw f).tiles = s.tiles := rfl
@[simp] theorem State.modPw_pw (f : PowerState → PowerState) : (s.modPw f).pw = f s.pw := rfl

@[simp] theorem State.modGb_pending (f : Guestbook → Guestbook) : (s.modGb f).pending = s.pending := rfl
@[simp] theorem State.modGb_free (f : Guestbook → Guestbook) : (s.modGb f).free = s.free := rfl
@[simp] theorem State.modGb_draws (f : Guestbook → Guestbook) : (s.modGb f).draws = s.draws := rfl
@[simp] theorem State.modGb_outbox (f : Guestbook → Guestbook) : (s.modGb f).outbox = s.outbox := rfl
@[simp] theorem State.modGb_pop (f : Guestbook → Guestbook) : (s.modGb f).pop = s.pop := rfl
@[simp] theorem State.modGb_reg (f : Guestbook → Guestbook) : (s.modGb f).reg = s.reg := rfl
@[simp] theorem State.modGb_ps (f : Guestbook → Guestbook) : (s.modGb f).ps = s.ps := rfl
@[simp] theorem State.modGb_md (f : Guestbook → Guestbook) : (s.modGb f).md = s.md := rfl
@[simp] theorem State.modGb_pw (f : Guestbook → Guestbook) : (s.modGb f).pw = s.pw := rfl
@[simp] theorem State.modGb_porter (f : Guestbook → Guestbook) : (s.modGb f).porter = s.porter := rfl
@[simp] theorem State.modGb_bel (f : Guestbook → Guestbook) : (s.modGb f).bel = s.bel := rfl
@[simp] theorem State.modGb_wins (f : Guestbook → Guestbook) : (s.modGb f).wins = s.wins := rfl
@[simp] theorem State.modGb_clk (f : Guestbook → Guestbook) : (s.modGb f).clk = s.clk := rfl
@[simp] theorem State.modGb_thm (f : Guestbook → Guestbook) : (s.modGb f).thm = s.thm := rfl
@[simp] theorem State.modGb_cap (f : Guestbook → Guestbook) : (s.modGb f).cap = s.cap := rfl
@[simp] theorem State.modGb_cup (f : Guestbook → Guestbook) : (s.modGb f).cup = s.cup := rfl
@[simp] theorem State.modGb_car (f : Guestbook → Guestbook) : (s.modGb f).car = s.car := rfl
@[simp] theorem State.modGb_fuse (f : Guestbook → Guestbook) : (s.modGb f).fuse = s.fuse := rfl
@[simp] theorem State.modGb_sec (f : Guestbook → Guestbook) : (s.modGb f).sec = s.sec := rfl
@[simp] theorem State.modGb_jobs (f : Guestbook → Guestbook) : (s.modGb f).jobs = s.jobs := rfl
@[simp] theorem State.modGb_tiles (f : Guestbook → Guestbook) : (s.modGb f).tiles = s.tiles := rfl
@[simp] theorem State.modGb_gb (f : Guestbook → Guestbook) : (s.modGb f).gb = f s.gb := rfl

@[simp] theorem State.modPs_pending (f : ParamStore → ParamStore) : (s.modPs f).pending = s.pending := rfl
@[simp] theorem State.modPs_free (f : ParamStore → ParamStore) : (s.modPs f).free = s.free := rfl
@[simp] theorem State.modPs_draws (f : ParamStore → ParamStore) : (s.modPs f).draws = s.draws := rfl
@[simp] theorem State.modPs_outbox (f : ParamStore → ParamStore) : (s.modPs f).outbox = s.outbox := rfl
@[simp] theorem State.modPs_pop (f : ParamStore → ParamStore) : (s.modPs f).pop = s.pop := rfl
@[simp] theorem State.modPs_reg (f : ParamStore → ParamStore) : (s.modPs f).reg = s.reg := rfl
@[simp] theorem State.modPs_gb (f : ParamStore → ParamStore) : (s.modPs f).gb = s.gb := rfl
@[simp] theorem State.modPs_md (f : ParamStore → ParamStore) : (s.modPs f).md = s.md := rfl
@[simp] theorem State.modPs_pw (f : ParamStore → ParamStore) : (s.modPs f).pw = s.pw := rfl
@[simp] theorem State.modPs_porter (f : ParamStore → ParamStore) : (s.modPs f).porter = s.porter := rfl
@[simp] theorem State.modPs_bel (f : ParamStore → ParamStore) : (s.modPs f).bel = s.bel := rfl
@[simp] theorem State.modPs_wins (f : ParamStore → ParamStore) : (s.modPs f).wins = s.wins := rfl
@[simp] theorem State.modPs_clk (f : ParamStore → ParamStore) : (s.modPs f).clk = s.clk := rfl
@[simp] theorem State.modPs_thm (f : ParamStore → ParamStore) : (s.modPs f).thm = s.thm := rfl
@[simp] theorem State.modPs_cap (f : ParamStore → ParamStore) : (s.modPs f).cap = s.cap := rfl
@[simp] theorem State.modPs_cup (f : ParamStore → ParamStore) : (s.modPs f).cup = s.cup := rfl
@[simp] theorem State.modPs_car (f : ParamStore → ParamStore) : (s.modPs f).car = s.car := rfl
@[simp] theorem State.modPs_fuse (f : ParamStore → ParamStore) : (s.modPs f).fuse = s.fuse := rfl
@[simp] theorem State.modPs_sec (f : ParamStore → ParamStore) : (s.modPs f).sec = s.sec := rfl
@[simp] theorem State.modPs_jobs (f : ParamStore → ParamStore) : (s.modPs f).jobs = s.jobs := rfl
@[simp] theorem State.modPs_tiles (f : ParamStore → ParamStore) : (s.modPs f).tiles = s.tiles := rfl
@[simp] theorem State.modPs_ps (f : ParamStore → ParamStore) : (s.modPs f).ps = f s.ps := rfl

@[simp] theorem State.modBel_pending (f : Belfry → Belfry) : (s.modBel f).pending = s.pending := rfl
@[simp] theorem State.modBel_free (f : Belfry → Belfry) : (s.modBel f).free = s.free := rfl
@[simp] theorem State.modBel_draws (f : Belfry → Belfry) : (s.modBel f).draws = s.draws := rfl
@[simp] theorem State.modBel_outbox (f : Belfry → Belfry) : (s.modBel f).outbox = s.outbox := rfl
@[simp] theorem State.modBel_pop (f : Belfry → Belfry) : (s.modBel f).pop = s.pop := rfl
@[simp] theorem State.modBel_reg (f : Belfry → Belfry) : (s.modBel f).reg = s.reg := rfl
@[simp] theorem State.modBel_gb (f : Belfry → Belfry) : (s.modBel f).gb = s.gb := rfl
@[simp] theorem State.modBel_ps (f : Belfry → Belfry) : (s.modBel f).ps = s.ps := rfl
@[simp] theorem State.modBel_md (f : Belfry → Belfry) : (s.modBel f).md = s.md := rfl
@[simp] theorem State.modBel_pw (f : Belfry → Belfry) : (s.modBel f).pw = s.pw := rfl
@[simp] theorem State.modBel_porter (f : Belfry → Belfry) : (s.modBel f).porter = s.porter := rfl
@[simp] theorem State.modBel_wins (f : Belfry → Belfry) : (s.modBel f).wins = s.wins := rfl
@[simp] theorem State.modBel_clk (f : Belfry → Belfry) : (s.modBel f).clk = s.clk := rfl
@[simp] theorem State.modBel_thm (f : Belfry → Belfry) : (s.modBel f).thm = s.thm := rfl
@[simp] theorem State.modBel_cap (f : Belfry → Belfry) : (s.modBel f).cap = s.cap := rfl
@[simp] theorem State.modBel_cup (f : Belfry → Belfry) : (s.modBel f).cup = s.cup := rfl
@[simp] theorem State.modBel_car (f : Belfry → Belfry) : (s.modBel f).car = s.car := rfl
@[simp] theorem State.modBel_fuse (f : Belfry → Belfry) : (s.modBel f).fuse = s.fuse := rfl
@[simp] theorem State.modBel_sec (f : Belfry → Belfry) : (s.modBel f).sec = s.sec := rfl
@[simp] theorem State.modBel_jobs (f : Belfry → Belfry) : (s.modBel f).jobs = s.jobs := rfl
@[simp] theorem State.modBel_tiles (f : Belfry → Belfry) : (s.modBel f).tiles = s.tiles := rfl
@[simp] theorem State.modBel_bel (f : Belfry → Belfry) : (s.modBel f).bel = f s.bel := rfl

@[simp] theorem State.modThm_pending (f : Thermal → Thermal) : (s.modThm f).pending = s.pending := rfl
@[simp] theorem State.modThm_free (f : Thermal → Thermal) : (s.modThm f).free = s.free := rfl
@[simp] theorem State.modThm_draws (f : Thermal → Thermal) : (s.modThm f).draws = s.draws := rfl
@[simp] theorem State.modThm_outbox (f : Thermal → Thermal) : (s.modThm f).outbox = s.outbox := rfl
@[simp] theorem State.modThm_pop (f : Thermal → Thermal) : (s.modThm f).pop = s.pop := rfl
@[simp] theorem State.modThm_reg (f : Thermal → Thermal) : (s.modThm f).reg = s.reg := rfl
@[simp] theorem State.modThm_gb (f : Thermal → Thermal) : (s.modThm f).gb = s.gb := rfl
@[simp] theorem State.modThm_ps (f : Thermal → Thermal) : (s.modThm f).ps = s.ps := rfl
@[simp] theorem State.modThm_md (f : Thermal → Thermal) : (s.modThm f).md = s.md := rfl
@[simp] theorem State.modThm_pw (f : Thermal → Thermal) : (s.modThm f).pw = s.pw := rfl
@[simp] theorem State.modThm_porter (f : Thermal → Thermal) : (s.modThm f).porter = s.porter := rfl
@[simp] theorem State.modThm_bel (f : Thermal → Thermal) : (s.modThm f).bel = s.bel := rfl
@[simp] theorem State.modThm_wins (f : Thermal → Thermal) : (s.modThm f).wins = s.wins := rfl
@[simp] theorem State.modThm_clk (f : Thermal → Thermal) : (s.modThm f).clk = s.clk := rfl
@[simp] theorem State.modThm_cap (f : Thermal → Thermal) : (s.modThm f).cap = s.cap := rfl
@[simp] theorem State.modThm_cup (f : Thermal → Thermal) : (s.modThm f).cup = s.cup := rfl
@[simp] theorem State.modThm_car (f : Thermal → Thermal) : (s.modThm f).car = s.car := rfl
@[simp] theorem State.modThm_fuse (f : Thermal → Thermal) : (s.modThm f).fuse = s.fuse := rfl
@[simp] theorem State.modThm_sec (f : Thermal → Thermal) : (s.modThm f).sec = s.sec := rfl
@[simp] theorem State.modThm_jobs (f : Thermal → Thermal) : (s.modThm f).jobs = s.jobs := rfl
@[simp] theorem State.modThm_tiles (f : Thermal → Thermal) : (s.modThm f).tiles = s.tiles := rfl
@[simp] theorem State.modThm_thm (f : Thermal → Thermal) : (s.modThm f).thm = f s.thm := rfl

@[simp] theorem State.modBelT_pending (t : Nat) (f : BelTile → BelTile) : (s.modBelT t f).pending = s.pending := rfl
@[simp] theorem State.modBelT_free (t : Nat) (f : BelTile → BelTile) : (s.modBelT t f).free = s.free := rfl
@[simp] theorem State.modBelT_draws (t : Nat) (f : BelTile → BelTile) : (s.modBelT t f).draws = s.draws := rfl
@[simp] theorem State.modBelT_outbox (t : Nat) (f : BelTile → BelTile) : (s.modBelT t f).outbox = s.outbox := rfl
@[simp] theorem State.modBelT_pop (t : Nat) (f : BelTile → BelTile) : (s.modBelT t f).pop = s.pop := rfl
@[simp] theorem State.modBelT_reg (t : Nat) (f : BelTile → BelTile) : (s.modBelT t f).reg = s.reg := rfl
@[simp] theorem State.modBelT_gb (t : Nat) (f : BelTile → BelTile) : (s.modBelT t f).gb = s.gb := rfl
@[simp] theorem State.modBelT_ps (t : Nat) (f : BelTile → BelTile) : (s.modBelT t f).ps = s.ps := rfl
@[simp] theorem State.modBelT_md (t : Nat) (f : BelTile → BelTile) : (s.modBelT t f).md = s.md := rfl
@[simp] theorem State.modBelT_pw (t : Nat) (f : BelTile → BelTile) : (s.modBelT t f).pw = s.pw := rfl
@[simp] theorem State.modBelT_porter (t : Nat) (f : BelTile → BelTile) : (s.modBelT t f).porter = s.porter := rfl
@[simp] theorem State.modBelT_bel (t : Nat) (f : BelTile → BelTile) : (s.modBelT t f).bel = s.bel := rfl
@[simp] theorem State.modBelT_wins (t : Nat) (f : BelTile → BelTile) : (s.modBelT t f).wins = s.wins := rfl
@[simp] theorem State.modBelT_clk (t : Nat) (f : BelTile → BelTile) : (s.modBelT t f).clk = s.clk := rfl
@[simp] theorem State.modBelT_thm (t : Nat) (f : BelTile → BelTile) : (s.modBelT t f).thm = s.thm := rfl
@[simp] theorem State.modBelT_cap (t : Nat) (f : BelTile → BelTile) : (s.modBelT t f).cap = s.cap := rfl
@[simp] theorem State.modBelT_cup (t : Nat) (f : BelTile → BelTile) : (s.modBelT t f).cup = s.cup := rfl
@[simp] theorem State.modBelT_car (t : Nat) (f : BelTile → BelTile) : (s.modBelT t f).car = s.car := rfl
@[simp] theorem State.modBelT_fuse (t : Nat) (f : BelTile → BelTile) : (s.modBelT t f).fuse = s.fuse := rfl
@[simp] theorem State.modBelT_sec (t : Nat) (f : BelTile → BelTile) : (s.modBelT t f).sec = s.sec := rfl
@[simp] theorem State.modBelT_jobs (t : Nat) (f : BelTile → BelTile) : (s.modBelT t f).jobs = s.jobs := rfl

@[simp] theorem State.modClkT_pending (t : Nat) (f : ClkTile → ClkTile) : (s.modClkT t f).pending = s.pending := rfl
@[simp] theorem State.modClkT_free (t : Nat) (f : ClkTile → ClkTile) : (s.modClkT t f).free = s.free := rfl
@[simp] theorem State.modClkT_draws (t : Nat) (f : ClkTile → ClkTile) : (s.modClkT t f).draws = s.draws := rfl
@[simp] theorem State.modClkT_outbox (t : Nat) (f : ClkTile → ClkTile) : (s.modClkT t f).outbox = s.outbox := rfl
@[simp] theorem State.modClkT_pop (t : Nat) (f : ClkTile → ClkTile) : (s.modClkT t f).pop = s.pop := rfl
@[simp] theorem State.modClkT_reg (t : Nat) (f : ClkTile → ClkTile) : (s.modClkT t f).reg = s.reg := rfl
@[simp] theorem State.modClkT_gb (t : Nat) (f : ClkTile → ClkTile) : (s.modClkT t f).gb = s.gb := rfl
@[simp] theorem State.modClkT_ps (t : Nat) (f : ClkTile → ClkTile) : (s.modClkT t f).ps = s.ps := rfl
@[simp] theorem State.modClkT_md (t : Nat) (f : ClkTile → ClkTile) : (s.modClkT t f).md = s.md := rfl
@[simp] theorem State.modClkT_pw (t : Nat) (f : ClkTile → ClkTile) : (s.modClkT t f).pw = s.pw := rfl
@[simp] theorem State.modClkT_porter (t : Nat) (f : ClkTile → ClkTile) : (s.modClkT t f).porter = s.porter := rfl
@[simp] theorem State.modClkT_bel (t : Nat) (f : ClkTile → ClkTile) : (s.modClkT t f).bel = s.bel := rfl
@[simp] theorem State.modClkT_wins (t : Nat) (f : ClkTile → ClkTile) : (s.modClkT t f).wins = s.wins := rfl
@[simp] theorem State.modClkT_clk (t : Nat) (f : ClkTile → ClkTile) : (s.modClkT t f).clk = s.clk := rfl
@[simp] theorem State.modClkT_thm (t : Nat) (f : ClkTile → ClkTile) : (s.modClkT t f).thm = s.thm := rfl
@[simp] theorem State.modClkT_cap (t : Nat) (f : ClkTile → ClkTile) : (s.modClkT t f).cap = s.cap := rfl
@[simp] theorem State.modClkT_cup (t : Nat) (f : ClkTile → ClkTile) : (s.modClkT t f).cup = s.cup := rfl
@[simp] theorem State.modClkT_car (t : Nat) (f : ClkTile → ClkTile) : (s.modClkT t f).car = s.car := rfl
@[simp] theorem State.modClkT_fuse (t : Nat) (f : ClkTile → ClkTile) : (s.modClkT t f).fuse = s.fuse := rfl
@[simp] theorem State.modClkT_sec (t : Nat) (f : ClkTile → ClkTile) : (s.modClkT t f).sec = s.sec := rfl
@[simp] theorem State.modClkT_jobs (t : Nat) (f : ClkTile → ClkTile) : (s.modClkT t f).jobs = s.jobs := rfl

@[simp] theorem State.modRing_pending (r : Nat) (f : Ring → Ring) : (s.modRing r f).pending = s.pending := rfl
@[simp] theorem State.modRing_free (r : Nat) (f : Ring → Ring) : (s.modRing r f).free = s.free := rfl
@[simp] theorem State.modRing_draws (r : Nat) (f : Ring → Ring) : (s.modRing r f).draws = s.draws := rfl
@[simp] theorem State.modRing_outbox (r : Nat) (f : Ring → Ring) : (s.modRing r f).outbox = s.outbox := rfl
@[simp] theorem State.modRing_pop (r : Nat) (f : Ring → Ring) : (s.modRing r f).pop = s.pop := rfl
@[simp] theorem State.modRing_reg (r : Nat) (f : Ring → Ring) : (s.modRing r f).reg = s.reg := rfl
@[simp] theorem State.modRing_gb (r : Nat) (f : Ring → Ring) : (s.modRing r f).gb = s.gb := rfl
@[simp] theorem State.modRing_ps (r : Nat) (f : Ring → Ring) : (s.modRing r f).ps = s.ps := rfl
@[simp] theorem State.modRing_md (r : Nat) (f : Ring → Ring) : (s.modRing r f).md = s.md := rfl
@[simp] theorem State.modRing_pw (r : Nat) (f : Ring → Ring) : (s.modRing r f).pw = s.pw := rfl
@[simp] theorem State.modRing_bel (r : Nat) (f : Ring → Ring) : (s.modRing r f).bel = s.bel := rfl
@[simp] theorem State.modRing_wins (r : Nat) (f : Ring → Ring) : (s.modRing r f).wins = s.wins := rfl
@[simp] theorem State.modRing_clk (r : Nat) (f : Ring → Ring) : (s.modRing r f).clk = s.clk := rfl
@[simp] theorem State.modRing_thm (r : Nat) (f : Ring → Ring) : (s.modRing r f).thm = s.thm := rfl
@[simp] theorem State.modRing_cap (r : Nat) (f : Ring → Ring) : (s.modRing r f).cap = s.cap := rfl
@[simp] theorem State.modRing_cup (r : Nat) (f : Ring → Ring) : (s.modRing r f).cup = s.cup := rfl
@[simp] theorem State.modRing_car (r : Nat) (f : Ring → Ring) : (s.modRing r f).car = s.car := rfl
@[simp] theorem State.modRing_fuse (r : Nat) (f : Ring → Ring) : (s.modRing r f).fuse = s.fuse := rfl
@[simp] theorem State.modRing_sec (r : Nat) (f : Ring → Ring) : (s.modRing r f).sec = s.sec := rfl
@[simp] theorem State.modRing_jobs (r : Nat) (f : Ring → Ring) : (s.modRing r f).jobs = s.jobs := rfl
@[simp] theorem State.modRing_tiles (r : Nat) (f : Ring → Ring) : (s.modRing r f).tiles = s.tiles := rfl

@[simp] theorem State.setReg_pending (o : Nat) (v : W32) : (s.setReg o v).pending = s.pending := rfl
@[simp] theorem State.setReg_free (o : Nat) (v : W32) : (s.setReg o v).free = s.free := rfl
@[simp] theorem State.setReg_draws (o : Nat) (v : W32) : (s.setReg o v).draws = s.draws := rfl
@[simp] theorem State.setReg_outbox (o : Nat) (v : W32) : (s.setReg o v).outbox = s.outbox := rfl
@[simp] theorem State.setReg_pop (o : Nat) (v : W32) : (s.setReg o v).pop = s.pop := rfl
@[simp] theorem State.setReg_gb (o : Nat) (v : W32) : (s.setReg o v).gb = s.gb := rfl
@[simp] theorem State.setReg_ps (o : Nat) (v : W32) : (s.setReg o v).ps = s.ps := rfl
@[simp] theorem State.setReg_md (o : Nat) (v : W32) : (s.setReg o v).md = s.md := rfl
@[simp] theorem State.setReg_pw (o : Nat) (v : W32) : (s.setReg o v).pw = s.pw := rfl
@[simp] theorem State.setReg_porter (o : Nat) (v : W32) : (s.setReg o v).porter = s.porter := rfl
@[simp] theorem State.setReg_bel (o : Nat) (v : W32) : (s.setReg o v).bel = s.bel := rfl
@[simp] theorem State.setReg_wins (o : Nat) (v : W32) : (s.setReg o v).wins = s.wins := rfl
@[simp] theorem State.setReg_clk (o : Nat) (v : W32) : (s.setReg o v).clk = s.clk := rfl
@[simp] theorem State.setReg_thm (o : Nat) (v : W32) : (s.setReg o v).thm = s.thm := rfl
@[simp] theorem State.setReg_cap (o : Nat) (v : W32) : (s.setReg o v).cap = s.cap := rfl
@[simp] theorem State.setReg_cup (o : Nat) (v : W32) : (s.setReg o v).cup = s.cup := rfl
@[simp] theorem State.setReg_car (o : Nat) (v : W32) : (s.setReg o v).car = s.car := rfl
@[simp] theorem State.setReg_fuse (o : Nat) (v : W32) : (s.setReg o v).fuse = s.fuse := rfl
@[simp] theorem State.setReg_sec (o : Nat) (v : W32) : (s.setReg o v).sec = s.sec := rfl
@[simp] theorem State.setReg_jobs (o : Nat) (v : W32) : (s.setReg o v).jobs = s.jobs := rfl
@[simp] theorem State.setReg_tiles (o : Nat) (v : W32) : (s.setReg o v).tiles = s.tiles := rfl

@[simp] theorem State.setFld_pending (o h l v : Nat) : (s.setFld o h l v).pending = s.pending := rfl
@[simp] theorem State.setFld_free (o h l v : Nat) : (s.setFld o h l v).free = s.free := rfl
@[simp] theorem State.setFld_draws (o h l v : Nat) : (s.setFld o h l v).draws = s.draws := rfl
@[simp] theorem State.setFld_outbox (o h l v : Nat) : (s.setFld o h l v).outbox = s.outbox := rfl
@[simp] theorem State.setFld_pop (o h l v : Nat) : (s.setFld o h l v).pop = s.pop := rfl
@[simp] theorem State.setFld_gb (o h l v : Nat) : (s.setFld o h l v).gb = s.gb := rfl
@[simp] theorem State.setFld_ps (o h l v : Nat) : (s.setFld o h l v).ps = s.ps := rfl
@[simp] theorem State.setFld_md (o h l v : Nat) : (s.setFld o h l v).md = s.md := rfl
@[simp] theorem State.setFld_pw (o h l v : Nat) : (s.setFld o h l v).pw = s.pw := rfl
@[simp] theorem State.setFld_porter (o h l v : Nat) : (s.setFld o h l v).porter = s.porter := rfl
@[simp] theorem State.setFld_bel (o h l v : Nat) : (s.setFld o h l v).bel = s.bel := rfl
@[simp] theorem State.setFld_wins (o h l v : Nat) : (s.setFld o h l v).wins = s.wins := rfl
@[simp] theorem State.setFld_clk (o h l v : Nat) : (s.setFld o h l v).clk = s.clk := rfl
@[simp] theorem State.setFld_thm (o h l v : Nat) : (s.setFld o h l v).thm = s.thm := rfl
@[simp] theorem State.setFld_cap (o h l v : Nat) : (s.setFld o h l v).cap = s.cap := rfl
@[simp] theorem State.setFld_cup (o h l v : Nat) : (s.setFld o h l v).cup = s.cup := rfl
@[simp] theorem State.setFld_car (o h l v : Nat) : (s.setFld o h l v).car = s.car := rfl
@[simp] theorem State.setFld_fuse (o h l v : Nat) : (s.setFld o h l v).fuse = s.fuse := rfl
@[simp] theorem State.setFld_sec (o h l v : Nat) : (s.setFld o h l v).sec = s.sec := rfl
@[simp] theorem State.setFld_jobs (o h l v : Nat) : (s.setFld o h l v).jobs = s.jobs := rfl
@[simp] theorem State.setFld_tiles (o h l v : Nat) : (s.setFld o h l v).tiles = s.tiles := rfl

@[simp] theorem State.addFld_pending (o h l v : Nat) : (s.addFld o h l v).pending = s.pending := rfl
@[simp] theorem State.addFld_free (o h l v : Nat) : (s.addFld o h l v).free = s.free := rfl
@[simp] theorem State.addFld_draws (o h l v : Nat) : (s.addFld o h l v).draws = s.draws := rfl
@[simp] theorem State.addFld_outbox (o h l v : Nat) : (s.addFld o h l v).outbox = s.outbox := rfl
@[simp] theorem State.addFld_pop (o h l v : Nat) : (s.addFld o h l v).pop = s.pop := rfl
@[simp] theorem State.addFld_gb (o h l v : Nat) : (s.addFld o h l v).gb = s.gb := rfl
@[simp] theorem State.addFld_ps (o h l v : Nat) : (s.addFld o h l v).ps = s.ps := rfl
@[simp] theorem State.addFld_md (o h l v : Nat) : (s.addFld o h l v).md = s.md := rfl
@[simp] theorem State.addFld_pw (o h l v : Nat) : (s.addFld o h l v).pw = s.pw := rfl
@[simp] theorem State.addFld_porter (o h l v : Nat) : (s.addFld o h l v).porter = s.porter := rfl
@[simp] theorem State.addFld_bel (o h l v : Nat) : (s.addFld o h l v).bel = s.bel := rfl
@[simp] theorem State.addFld_wins (o h l v : Nat) : (s.addFld o h l v).wins = s.wins := rfl
@[simp] theorem State.addFld_clk (o h l v : Nat) : (s.addFld o h l v).clk = s.clk := rfl
@[simp] theorem State.addFld_thm (o h l v : Nat) : (s.addFld o h l v).thm = s.thm := rfl
@[simp] theorem State.addFld_cap (o h l v : Nat) : (s.addFld o h l v).cap = s.cap := rfl
@[simp] theorem State.addFld_cup (o h l v : Nat) : (s.addFld o h l v).cup = s.cup := rfl
@[simp] theorem State.addFld_car (o h l v : Nat) : (s.addFld o h l v).car = s.car := rfl
@[simp] theorem State.addFld_fuse (o h l v : Nat) : (s.addFld o h l v).fuse = s.fuse := rfl
@[simp] theorem State.addFld_sec (o h l v : Nat) : (s.addFld o h l v).sec = s.sec := rfl
@[simp] theorem State.addFld_jobs (o h l v : Nat) : (s.addFld o h l v).jobs = s.jobs := rfl
@[simp] theorem State.addFld_tiles (o h l v : Nat) : (s.addFld o h l v).tiles = s.tiles := rfl

@[simp] theorem State.latchOnly_pending (o b : Nat) : (s.latchOnly o b).pending = s.pending := rfl
@[simp] theorem State.latchOnly_free (o b : Nat) : (s.latchOnly o b).free = s.free := rfl
@[simp] theorem State.latchOnly_draws (o b : Nat) : (s.latchOnly o b).draws = s.draws := rfl
@[simp] theorem State.latchOnly_outbox (o b : Nat) : (s.latchOnly o b).outbox = s.outbox := rfl
@[simp] theorem State.latchOnly_pop (o b : Nat) : (s.latchOnly o b).pop = s.pop := rfl
@[simp] theorem State.latchOnly_gb (o b : Nat) : (s.latchOnly o b).gb = s.gb := rfl
@[simp] theorem State.latchOnly_ps (o b : Nat) : (s.latchOnly o b).ps = s.ps := rfl
@[simp] theorem State.latchOnly_md (o b : Nat) : (s.latchOnly o b).md = s.md := rfl
@[simp] theorem State.latchOnly_pw (o b : Nat) : (s.latchOnly o b).pw = s.pw := rfl
@[simp] theorem State.latchOnly_porter (o b : Nat) : (s.latchOnly o b).porter = s.porter := rfl
@[simp] theorem State.latchOnly_bel (o b : Nat) : (s.latchOnly o b).bel = s.bel := rfl
@[simp] theorem State.latchOnly_wins (o b : Nat) : (s.latchOnly o b).wins = s.wins := rfl
@[simp] theorem State.latchOnly_clk (o b : Nat) : (s.latchOnly o b).clk = s.clk := rfl
@[simp] theorem State.latchOnly_thm (o b : Nat) : (s.latchOnly o b).thm = s.thm := rfl
@[simp] theorem State.latchOnly_cap (o b : Nat) : (s.latchOnly o b).cap = s.cap := rfl
@[simp] theorem State.latchOnly_cup (o b : Nat) : (s.latchOnly o b).cup = s.cup := rfl
@[simp] theorem State.latchOnly_car (o b : Nat) : (s.latchOnly o b).car = s.car := rfl
@[simp] theorem State.latchOnly_fuse (o b : Nat) : (s.latchOnly o b).fuse = s.fuse := rfl
@[simp] theorem State.latchOnly_sec (o b : Nat) : (s.latchOnly o b).sec = s.sec := rfl
@[simp] theorem State.latchOnly_jobs (o b : Nat) : (s.latchOnly o b).jobs = s.jobs := rfl
@[simp] theorem State.latchOnly_tiles (o b : Nat) : (s.latchOnly o b).tiles = s.tiles := rfl

@[simp] theorem State.resetRegs_pending (lo hi : Nat) : (s.resetRegs lo hi).pending = s.pending := rfl
@[simp] theorem State.resetRegs_free (lo hi : Nat) : (s.resetRegs lo hi).free = s.free := rfl
@[simp] theorem State.resetRegs_draws (lo hi : Nat) : (s.resetRegs lo hi).draws = s.draws := rfl
@[simp] theorem State.resetRegs_outbox (lo hi : Nat) : (s.resetRegs lo hi).outbox = s.outbox := rfl
@[simp] theorem State.resetRegs_pop (lo hi : Nat) : (s.resetRegs lo hi).pop = s.pop := rfl
@[simp] theorem State.resetRegs_gb (lo hi : Nat) : (s.resetRegs lo hi).gb = s.gb := rfl
@[simp] theorem State.resetRegs_ps (lo hi : Nat) : (s.resetRegs lo hi).ps = s.ps := rfl
@[simp] theorem State.resetRegs_md (lo hi : Nat) : (s.resetRegs lo hi).md = s.md := rfl
@[simp] theorem State.resetRegs_pw (lo hi : Nat) : (s.resetRegs lo hi).pw = s.pw := rfl
@[simp] theorem State.resetRegs_porter (lo hi : Nat) : (s.resetRegs lo hi).porter = s.porter := rfl
@[simp] theorem State.resetRegs_bel (lo hi : Nat) : (s.resetRegs lo hi).bel = s.bel := rfl
@[simp] theorem State.resetRegs_wins (lo hi : Nat) : (s.resetRegs lo hi).wins = s.wins := rfl
@[simp] theorem State.resetRegs_clk (lo hi : Nat) : (s.resetRegs lo hi).clk = s.clk := rfl
@[simp] theorem State.resetRegs_thm (lo hi : Nat) : (s.resetRegs lo hi).thm = s.thm := rfl
@[simp] theorem State.resetRegs_cap (lo hi : Nat) : (s.resetRegs lo hi).cap = s.cap := rfl
@[simp] theorem State.resetRegs_cup (lo hi : Nat) : (s.resetRegs lo hi).cup = s.cup := rfl
@[simp] theorem State.resetRegs_car (lo hi : Nat) : (s.resetRegs lo hi).car = s.car := rfl
@[simp] theorem State.resetRegs_fuse (lo hi : Nat) : (s.resetRegs lo hi).fuse = s.fuse := rfl
@[simp] theorem State.resetRegs_sec (lo hi : Nat) : (s.resetRegs lo hi).sec = s.sec := rfl
@[simp] theorem State.resetRegs_jobs (lo hi : Nat) : (s.resetRegs lo hi).jobs = s.jobs := rfl
@[simp] theorem State.resetRegs_tiles (lo hi : Nat) : (s.resetRegs lo hi).tiles = s.tiles := rfl

@[simp] theorem State.modTxn_pending (t : Nat) (f : Txn → Txn) : (s.modTxn t f).pending = s.pending := rfl
@[simp] theorem State.modTxn_free (t : Nat) (f : Txn → Txn) : (s.modTxn t f).free = s.free := rfl
@[simp] theorem State.modTxn_draws (t : Nat) (f : Txn → Txn) : (s.modTxn t f).draws = s.draws := rfl
@[simp] theorem State.modTxn_outbox (t : Nat) (f : Txn → Txn) : (s.modTxn t f).outbox = s.outbox := rfl
@[simp] theorem State.modTxn_pop (t : Nat) (f : Txn → Txn) : (s.modTxn t f).pop = s.pop := rfl
@[simp] theorem State.modTxn_reg (t : Nat) (f : Txn → Txn) : (s.modTxn t f).reg = s.reg := rfl
@[simp] theorem State.modTxn_gb (t : Nat) (f : Txn → Txn) : (s.modTxn t f).gb = s.gb := rfl
@[simp] theorem State.modTxn_ps (t : Nat) (f : Txn → Txn) : (s.modTxn t f).ps = s.ps := rfl
@[simp] theorem State.modTxn_md (t : Nat) (f : Txn → Txn) : (s.modTxn t f).md = s.md := rfl
@[simp] theorem State.modTxn_pw (t : Nat) (f : Txn → Txn) : (s.modTxn t f).pw = s.pw := rfl
@[simp] theorem State.modTxn_porter (t : Nat) (f : Txn → Txn) : (s.modTxn t f).porter = s.porter := rfl
@[simp] theorem State.modTxn_bel (t : Nat) (f : Txn → Txn) : (s.modTxn t f).bel = s.bel := rfl
@[simp] theorem State.modTxn_wins (t : Nat) (f : Txn → Txn) : (s.modTxn t f).wins = s.wins := rfl
@[simp] theorem State.modTxn_clk (t : Nat) (f : Txn → Txn) : (s.modTxn t f).clk = s.clk := rfl
@[simp] theorem State.modTxn_thm (t : Nat) (f : Txn → Txn) : (s.modTxn t f).thm = s.thm := rfl
@[simp] theorem State.modTxn_cap (t : Nat) (f : Txn → Txn) : (s.modTxn t f).cap = s.cap := rfl
@[simp] theorem State.modTxn_cup (t : Nat) (f : Txn → Txn) : (s.modTxn t f).cup = s.cup := rfl
@[simp] theorem State.modTxn_car (t : Nat) (f : Txn → Txn) : (s.modTxn t f).car = s.car := rfl
@[simp] theorem State.modTxn_fuse (t : Nat) (f : Txn → Txn) : (s.modTxn t f).fuse = s.fuse := rfl
@[simp] theorem State.modTxn_sec (t : Nat) (f : Txn → Txn) : (s.modTxn t f).sec = s.sec := rfl
@[simp] theorem State.modTxn_jobs (t : Nat) (f : Txn → Txn) : (s.modTxn t f).jobs = s.jobs := rfl

@[simp] theorem State.modFs_pending (t : Nat) (f : FrontStore → FrontStore) : (s.modFs t f).pending = s.pending := rfl
@[simp] theorem State.modFs_free (t : Nat) (f : FrontStore → FrontStore) : (s.modFs t f).free = s.free := rfl
@[simp] theorem State.modFs_draws (t : Nat) (f : FrontStore → FrontStore) : (s.modFs t f).draws = s.draws := rfl
@[simp] theorem State.modFs_outbox (t : Nat) (f : FrontStore → FrontStore) : (s.modFs t f).outbox = s.outbox := rfl
@[simp] theorem State.modFs_pop (t : Nat) (f : FrontStore → FrontStore) : (s.modFs t f).pop = s.pop := rfl
@[simp] theorem State.modFs_reg (t : Nat) (f : FrontStore → FrontStore) : (s.modFs t f).reg = s.reg := rfl
@[simp] theorem State.modFs_gb (t : Nat) (f : FrontStore → FrontStore) : (s.modFs t f).gb = s.gb := rfl
@[simp] theorem State.modFs_ps (t : Nat) (f : FrontStore → FrontStore) : (s.modFs t f).ps = s.ps := rfl
@[simp] theorem State.modFs_md (t : Nat) (f : FrontStore → FrontStore) : (s.modFs t f).md = s.md := rfl
@[simp] theorem State.modFs_pw (t : Nat) (f : FrontStore → FrontStore) : (s.modFs t f).pw = s.pw := rfl
@[simp] theorem State.modFs_porter (t : Nat) (f : FrontStore → FrontStore) : (s.modFs t f).porter = s.porter := rfl
@[simp] theorem State.modFs_bel (t : Nat) (f : FrontStore → FrontStore) : (s.modFs t f).bel = s.bel := rfl
@[simp] theorem State.modFs_wins (t : Nat) (f : FrontStore → FrontStore) : (s.modFs t f).wins = s.wins := rfl
@[simp] theorem State.modFs_clk (t : Nat) (f : FrontStore → FrontStore) : (s.modFs t f).clk = s.clk := rfl
@[simp] theorem State.modFs_thm (t : Nat) (f : FrontStore → FrontStore) : (s.modFs t f).thm = s.thm := rfl
@[simp] theorem State.modFs_cap (t : Nat) (f : FrontStore → FrontStore) : (s.modFs t f).cap = s.cap := rfl
@[simp] theorem State.modFs_cup (t : Nat) (f : FrontStore → FrontStore) : (s.modFs t f).cup = s.cup := rfl
@[simp] theorem State.modFs_car (t : Nat) (f : FrontStore → FrontStore) : (s.modFs t f).car = s.car := rfl
@[simp] theorem State.modFs_fuse (t : Nat) (f : FrontStore → FrontStore) : (s.modFs t f).fuse = s.fuse := rfl
@[simp] theorem State.modFs_sec (t : Nat) (f : FrontStore → FrontStore) : (s.modFs t f).sec = s.sec := rfl
@[simp] theorem State.modFs_jobs (t : Nat) (f : FrontStore → FrontStore) : (s.modFs t f).jobs = s.jobs := rfl

@[simp] theorem State.modMed_pending (t : Nat) (f : Media → Media) : (s.modMed t f).pending = s.pending := rfl
@[simp] theorem State.modMed_free (t : Nat) (f : Media → Media) : (s.modMed t f).free = s.free := rfl
@[simp] theorem State.modMed_draws (t : Nat) (f : Media → Media) : (s.modMed t f).draws = s.draws := rfl
@[simp] theorem State.modMed_outbox (t : Nat) (f : Media → Media) : (s.modMed t f).outbox = s.outbox := rfl
@[simp] theorem State.modMed_pop (t : Nat) (f : Media → Media) : (s.modMed t f).pop = s.pop := rfl
@[simp] theorem State.modMed_reg (t : Nat) (f : Media → Media) : (s.modMed t f).reg = s.reg := rfl
@[simp] theorem State.modMed_gb (t : Nat) (f : Media → Media) : (s.modMed t f).gb = s.gb := rfl
@[simp] theorem State.modMed_ps (t : Nat) (f : Media → Media) : (s.modMed t f).ps = s.ps := rfl
@[simp] theorem State.modMed_md (t : Nat) (f : Media → Media) : (s.modMed t f).md = s.md := rfl
@[simp] theorem State.modMed_pw (t : Nat) (f : Media → Media) : (s.modMed t f).pw = s.pw := rfl
@[simp] theorem State.modMed_porter (t : Nat) (f : Media → Media) : (s.modMed t f).porter = s.porter := rfl
@[simp] theorem State.modMed_bel (t : Nat) (f : Media → Media) : (s.modMed t f).bel = s.bel := rfl
@[simp] theorem State.modMed_wins (t : Nat) (f : Media → Media) : (s.modMed t f).wins = s.wins := rfl
@[simp] theorem State.modMed_clk (t : Nat) (f : Media → Media) : (s.modMed t f).clk = s.clk := rfl
@[simp] theorem State.modMed_thm (t : Nat) (f : Media → Media) : (s.modMed t f).thm = s.thm := rfl
@[simp] theorem State.modMed_cap (t : Nat) (f : Media → Media) : (s.modMed t f).cap = s.cap := rfl
@[simp] theorem State.modMed_cup (t : Nat) (f : Media → Media) : (s.modMed t f).cup = s.cup := rfl
@[simp] theorem State.modMed_car (t : Nat) (f : Media → Media) : (s.modMed t f).car = s.car := rfl
@[simp] theorem State.modMed_fuse (t : Nat) (f : Media → Media) : (s.modMed t f).fuse = s.fuse := rfl
@[simp] theorem State.modMed_sec (t : Nat) (f : Media → Media) : (s.modMed t f).sec = s.sec := rfl
@[simp] theorem State.modMed_jobs (t : Nat) (f : Media → Media) : (s.modMed t f).jobs = s.jobs := rfl

@[simp] theorem State.modCh_pending (t c : Nat) (f : Channel → Channel) : (s.modCh t c f).pending = s.pending := rfl
@[simp] theorem State.modCh_free (t c : Nat) (f : Channel → Channel) : (s.modCh t c f).free = s.free := rfl
@[simp] theorem State.modCh_draws (t c : Nat) (f : Channel → Channel) : (s.modCh t c f).draws = s.draws := rfl
@[simp] theorem State.modCh_outbox (t c : Nat) (f : Channel → Channel) : (s.modCh t c f).outbox = s.outbox := rfl
@[simp] theorem State.modCh_pop (t c : Nat) (f : Channel → Channel) : (s.modCh t c f).pop = s.pop := rfl
@[simp] theorem State.modCh_reg (t c : Nat) (f : Channel → Channel) : (s.modCh t c f).reg = s.reg := rfl
@[simp] theorem State.modCh_gb (t c : Nat) (f : Channel → Channel) : (s.modCh t c f).gb = s.gb := rfl
@[simp] theorem State.modCh_ps (t c : Nat) (f : Channel → Channel) : (s.modCh t c f).ps = s.ps := rfl
@[simp] theorem State.modCh_md (t c : Nat) (f : Channel → Channel) : (s.modCh t c f).md = s.md := rfl
@[simp] theorem State.modCh_pw (t c : Nat) (f : Channel → Channel) : (s.modCh t c f).pw = s.pw := rfl
@[simp] theorem State.modCh_porter (t c : Nat) (f : Channel → Channel) : (s.modCh t c f).porter = s.porter := rfl
@[simp] theorem State.modCh_bel (t c : Nat) (f : Channel → Channel) : (s.modCh t c f).bel = s.bel := rfl
@[simp] theorem State.modCh_wins (t c : Nat) (f : Channel → Channel) : (s.modCh t c f).wins = s.wins := rfl
@[simp] theorem State.modCh_clk (t c : Nat) (f : Channel → Channel) : (s.modCh t c f).clk = s.clk := rfl
@[simp] theorem State.modCh_thm (t c : Nat) (f : Channel → Channel) : (s.modCh t c f).thm = s.thm := rfl
@[simp] theorem State.modCh_cap (t c : Nat) (f : Channel → Channel) : (s.modCh t c f).cap = s.cap := rfl
@[simp] theorem State.modCh_cup (t c : Nat) (f : Channel → Channel) : (s.modCh t c f).cup = s.cup := rfl
@[simp] theorem State.modCh_car (t c : Nat) (f : Channel → Channel) : (s.modCh t c f).car = s.car := rfl
@[simp] theorem State.modCh_fuse (t c : Nat) (f : Channel → Channel) : (s.modCh t c f).fuse = s.fuse := rfl
@[simp] theorem State.modCh_sec (t c : Nat) (f : Channel → Channel) : (s.modCh t c f).sec = s.sec := rfl
@[simp] theorem State.modCh_jobs (t c : Nat) (f : Channel → Channel) : (s.modCh t c f).jobs = s.jobs := rfl

@[simp] theorem State.modXl_pending (t : Nat) (f : Xlate → Xlate) : (s.modXl t f).pending = s.pending := rfl
@[simp] theorem State.modXl_free (t : Nat) (f : Xlate → Xlate) : (s.modXl t f).free = s.free := rfl
@[simp] theorem State.modXl_draws (t : Nat) (f : Xlate → Xlate) : (s.modXl t f).draws = s.draws := rfl
@[simp] theorem State.modXl_outbox (t : Nat) (f : Xlate → Xlate) : (s.modXl t f).outbox = s.outbox := rfl
@[simp] theorem State.modXl_pop (t : Nat) (f : Xlate → Xlate) : (s.modXl t f).pop = s.pop := rfl
@[simp] theorem State.modXl_reg (t : Nat) (f : Xlate → Xlate) : (s.modXl t f).reg = s.reg := rfl
@[simp] theorem State.modXl_gb (t : Nat) (f : Xlate → Xlate) : (s.modXl t f).gb = s.gb := rfl
@[simp] theorem State.modXl_ps (t : Nat) (f : Xlate → Xlate) : (s.modXl t f).ps = s.ps := rfl
@[simp] theorem State.modXl_md (t : Nat) (f : Xlate → Xlate) : (s.modXl t f).md = s.md := rfl
@[simp] theorem State.modXl_pw (t : Nat) (f : Xlate → Xlate) : (s.modXl t f).pw = s.pw := rfl
@[simp] theorem State.modXl_porter (t : Nat) (f : Xlate → Xlate) : (s.modXl t f).porter = s.porter := rfl
@[simp] theorem State.modXl_bel (t : Nat) (f : Xlate → Xlate) : (s.modXl t f).bel = s.bel := rfl
@[simp] theorem State.modXl_wins (t : Nat) (f : Xlate → Xlate) : (s.modXl t f).wins = s.wins := rfl
@[simp] theorem State.modXl_clk (t : Nat) (f : Xlate → Xlate) : (s.modXl t f).clk = s.clk := rfl
@[simp] theorem State.modXl_thm (t : Nat) (f : Xlate → Xlate) : (s.modXl t f).thm = s.thm := rfl
@[simp] theorem State.modXl_cap (t : Nat) (f : Xlate → Xlate) : (s.modXl t f).cap = s.cap := rfl
@[simp] theorem State.modXl_cup (t : Nat) (f : Xlate → Xlate) : (s.modXl t f).cup = s.cup := rfl
@[simp] theorem State.modXl_car (t : Nat) (f : Xlate → Xlate) : (s.modXl t f).car = s.car := rfl
@[simp] theorem State.modXl_fuse (t : Nat) (f : Xlate → Xlate) : (s.modXl t f).fuse = s.fuse := rfl
@[simp] theorem State.modXl_sec (t : Nat) (f : Xlate → Xlate) : (s.modXl t f).sec = s.sec := rfl
@[simp] theorem State.modXl_jobs (t : Nat) (f : Xlate → Xlate) : (s.modXl t f).jobs = s.jobs := rfl

@[simp] theorem State.modInt_pending (t : Nat) (f : Integ → Integ) : (s.modInt t f).pending = s.pending := rfl
@[simp] theorem State.modInt_free (t : Nat) (f : Integ → Integ) : (s.modInt t f).free = s.free := rfl
@[simp] theorem State.modInt_draws (t : Nat) (f : Integ → Integ) : (s.modInt t f).draws = s.draws := rfl
@[simp] theorem State.modInt_outbox (t : Nat) (f : Integ → Integ) : (s.modInt t f).outbox = s.outbox := rfl
@[simp] theorem State.modInt_pop (t : Nat) (f : Integ → Integ) : (s.modInt t f).pop = s.pop := rfl
@[simp] theorem State.modInt_reg (t : Nat) (f : Integ → Integ) : (s.modInt t f).reg = s.reg := rfl
@[simp] theorem State.modInt_gb (t : Nat) (f : Integ → Integ) : (s.modInt t f).gb = s.gb := rfl
@[simp] theorem State.modInt_ps (t : Nat) (f : Integ → Integ) : (s.modInt t f).ps = s.ps := rfl
@[simp] theorem State.modInt_md (t : Nat) (f : Integ → Integ) : (s.modInt t f).md = s.md := rfl
@[simp] theorem State.modInt_pw (t : Nat) (f : Integ → Integ) : (s.modInt t f).pw = s.pw := rfl
@[simp] theorem State.modInt_porter (t : Nat) (f : Integ → Integ) : (s.modInt t f).porter = s.porter := rfl
@[simp] theorem State.modInt_bel (t : Nat) (f : Integ → Integ) : (s.modInt t f).bel = s.bel := rfl
@[simp] theorem State.modInt_wins (t : Nat) (f : Integ → Integ) : (s.modInt t f).wins = s.wins := rfl
@[simp] theorem State.modInt_clk (t : Nat) (f : Integ → Integ) : (s.modInt t f).clk = s.clk := rfl
@[simp] theorem State.modInt_thm (t : Nat) (f : Integ → Integ) : (s.modInt t f).thm = s.thm := rfl
@[simp] theorem State.modInt_cap (t : Nat) (f : Integ → Integ) : (s.modInt t f).cap = s.cap := rfl
@[simp] theorem State.modInt_cup (t : Nat) (f : Integ → Integ) : (s.modInt t f).cup = s.cup := rfl
@[simp] theorem State.modInt_car (t : Nat) (f : Integ → Integ) : (s.modInt t f).car = s.car := rfl
@[simp] theorem State.modInt_fuse (t : Nat) (f : Integ → Integ) : (s.modInt t f).fuse = s.fuse := rfl
@[simp] theorem State.modInt_sec (t : Nat) (f : Integ → Integ) : (s.modInt t f).sec = s.sec := rfl
@[simp] theorem State.modInt_jobs (t : Nat) (f : Integ → Integ) : (s.modInt t f).jobs = s.jobs := rfl

@[simp] theorem State.modCupT_pending (t : Nat) (f : CupTile → CupTile) : (s.modCupT t f).pending = s.pending := rfl
@[simp] theorem State.modCupT_free (t : Nat) (f : CupTile → CupTile) : (s.modCupT t f).free = s.free := rfl
@[simp] theorem State.modCupT_draws (t : Nat) (f : CupTile → CupTile) : (s.modCupT t f).draws = s.draws := rfl
@[simp] theorem State.modCupT_outbox (t : Nat) (f : CupTile → CupTile) : (s.modCupT t f).outbox = s.outbox := rfl
@[simp] theorem State.modCupT_pop (t : Nat) (f : CupTile → CupTile) : (s.modCupT t f).pop = s.pop := rfl
@[simp] theorem State.modCupT_reg (t : Nat) (f : CupTile → CupTile) : (s.modCupT t f).reg = s.reg := rfl
@[simp] theorem State.modCupT_gb (t : Nat) (f : CupTile → CupTile) : (s.modCupT t f).gb = s.gb := rfl
@[simp] theorem State.modCupT_ps (t : Nat) (f : CupTile → CupTile) : (s.modCupT t f).ps = s.ps := rfl
@[simp] theorem State.modCupT_md (t : Nat) (f : CupTile → CupTile) : (s.modCupT t f).md = s.md := rfl
@[simp] theorem State.modCupT_pw (t : Nat) (f : CupTile → CupTile) : (s.modCupT t f).pw = s.pw := rfl
@[simp] theorem State.modCupT_porter (t : Nat) (f : CupTile → CupTile) : (s.modCupT t f).porter = s.porter := rfl
@[simp] theorem State.modCupT_bel (t : Nat) (f : CupTile → CupTile) : (s.modCupT t f).bel = s.bel := rfl
@[simp] theorem State.modCupT_wins (t : Nat) (f : CupTile → CupTile) : (s.modCupT t f).wins = s.wins := rfl
@[simp] theorem State.modCupT_clk (t : Nat) (f : CupTile → CupTile) : (s.modCupT t f).clk = s.clk := rfl
@[simp] theorem State.modCupT_thm (t : Nat) (f : CupTile → CupTile) : (s.modCupT t f).thm = s.thm := rfl
@[simp] theorem State.modCupT_cap (t : Nat) (f : CupTile → CupTile) : (s.modCupT t f).cap = s.cap := rfl
@[simp] theorem State.modCupT_cup (t : Nat) (f : CupTile → CupTile) : (s.modCupT t f).cup = s.cup := rfl
@[simp] theorem State.modCupT_car (t : Nat) (f : CupTile → CupTile) : (s.modCupT t f).car = s.car := rfl
@[simp] theorem State.modCupT_fuse (t : Nat) (f : CupTile → CupTile) : (s.modCupT t f).fuse = s.fuse := rfl
@[simp] theorem State.modCupT_sec (t : Nat) (f : CupTile → CupTile) : (s.modCupT t f).sec = s.sec := rfl
@[simp] theorem State.modCupT_jobs (t : Nat) (f : CupTile → CupTile) : (s.modCupT t f).jobs = s.jobs := rfl

@[simp] theorem State.modCarT_pending (t : Nat) (f : CarTile → CarTile) : (s.modCarT t f).pending = s.pending := rfl
@[simp] theorem State.modCarT_free (t : Nat) (f : CarTile → CarTile) : (s.modCarT t f).free = s.free := rfl
@[simp] theorem State.modCarT_draws (t : Nat) (f : CarTile → CarTile) : (s.modCarT t f).draws = s.draws := rfl
@[simp] theorem State.modCarT_outbox (t : Nat) (f : CarTile → CarTile) : (s.modCarT t f).outbox = s.outbox := rfl
@[simp] theorem State.modCarT_pop (t : Nat) (f : CarTile → CarTile) : (s.modCarT t f).pop = s.pop := rfl
@[simp] theorem State.modCarT_reg (t : Nat) (f : CarTile → CarTile) : (s.modCarT t f).reg = s.reg := rfl
@[simp] theorem State.modCarT_gb (t : Nat) (f : CarTile → CarTile) : (s.modCarT t f).gb = s.gb := rfl
@[simp] theorem State.modCarT_ps (t : Nat) (f : CarTile → CarTile) : (s.modCarT t f).ps = s.ps := rfl
@[simp] theorem State.modCarT_md (t : Nat) (f : CarTile → CarTile) : (s.modCarT t f).md = s.md := rfl
@[simp] theorem State.modCarT_pw (t : Nat) (f : CarTile → CarTile) : (s.modCarT t f).pw = s.pw := rfl
@[simp] theorem State.modCarT_porter (t : Nat) (f : CarTile → CarTile) : (s.modCarT t f).porter = s.porter := rfl
@[simp] theorem State.modCarT_bel (t : Nat) (f : CarTile → CarTile) : (s.modCarT t f).bel = s.bel := rfl
@[simp] theorem State.modCarT_wins (t : Nat) (f : CarTile → CarTile) : (s.modCarT t f).wins = s.wins := rfl
@[simp] theorem State.modCarT_clk (t : Nat) (f : CarTile → CarTile) : (s.modCarT t f).clk = s.clk := rfl
@[simp] theorem State.modCarT_thm (t : Nat) (f : CarTile → CarTile) : (s.modCarT t f).thm = s.thm := rfl
@[simp] theorem State.modCarT_cap (t : Nat) (f : CarTile → CarTile) : (s.modCarT t f).cap = s.cap := rfl
@[simp] theorem State.modCarT_cup (t : Nat) (f : CarTile → CarTile) : (s.modCarT t f).cup = s.cup := rfl
@[simp] theorem State.modCarT_car (t : Nat) (f : CarTile → CarTile) : (s.modCarT t f).car = s.car := rfl
@[simp] theorem State.modCarT_fuse (t : Nat) (f : CarTile → CarTile) : (s.modCarT t f).fuse = s.fuse := rfl
@[simp] theorem State.modCarT_sec (t : Nat) (f : CarTile → CarTile) : (s.modCarT t f).sec = s.sec := rfl
@[simp] theorem State.modCarT_jobs (t : Nat) (f : CarTile → CarTile) : (s.modCarT t f).jobs = s.jobs := rfl

@[simp] theorem State.modHead_pending (h : Nat) (f : Head → Head) : (s.modHead h f).pending = s.pending := rfl
@[simp] theorem State.modHead_free (h : Nat) (f : Head → Head) : (s.modHead h f).free = s.free := rfl
@[simp] theorem State.modHead_draws (h : Nat) (f : Head → Head) : (s.modHead h f).draws = s.draws := rfl
@[simp] theorem State.modHead_outbox (h : Nat) (f : Head → Head) : (s.modHead h f).outbox = s.outbox := rfl
@[simp] theorem State.modHead_pop (h : Nat) (f : Head → Head) : (s.modHead h f).pop = s.pop := rfl
@[simp] theorem State.modHead_reg (h : Nat) (f : Head → Head) : (s.modHead h f).reg = s.reg := rfl
@[simp] theorem State.modHead_gb (h : Nat) (f : Head → Head) : (s.modHead h f).gb = s.gb := rfl
@[simp] theorem State.modHead_ps (h : Nat) (f : Head → Head) : (s.modHead h f).ps = s.ps := rfl
@[simp] theorem State.modHead_md (h : Nat) (f : Head → Head) : (s.modHead h f).md = s.md := rfl
@[simp] theorem State.modHead_pw (h : Nat) (f : Head → Head) : (s.modHead h f).pw = s.pw := rfl
@[simp] theorem State.modHead_porter (h : Nat) (f : Head → Head) : (s.modHead h f).porter = s.porter := rfl
@[simp] theorem State.modHead_bel (h : Nat) (f : Head → Head) : (s.modHead h f).bel = s.bel := rfl
@[simp] theorem State.modHead_wins (h : Nat) (f : Head → Head) : (s.modHead h f).wins = s.wins := rfl
@[simp] theorem State.modHead_clk (h : Nat) (f : Head → Head) : (s.modHead h f).clk = s.clk := rfl
@[simp] theorem State.modHead_thm (h : Nat) (f : Head → Head) : (s.modHead h f).thm = s.thm := rfl
@[simp] theorem State.modHead_cap (h : Nat) (f : Head → Head) : (s.modHead h f).cap = s.cap := rfl
@[simp] theorem State.modHead_cup (h : Nat) (f : Head → Head) : (s.modHead h f).cup = s.cup := rfl
@[simp] theorem State.modHead_car (h : Nat) (f : Head → Head) : (s.modHead h f).car = s.car := rfl
@[simp] theorem State.modHead_fuse (h : Nat) (f : Head → Head) : (s.modHead h f).fuse = s.fuse := rfl
@[simp] theorem State.modHead_sec (h : Nat) (f : Head → Head) : (s.modHead h f).sec = s.sec := rfl
@[simp] theorem State.modHead_jobs (h : Nat) (f : Head → Head) : (s.modHead h f).jobs = s.jobs := rfl

@[simp] theorem State.modCar_pending (f : Caravan → Caravan) : (s.modCar f).pending = s.pending := rfl
@[simp] theorem State.modCar_free (f : Caravan → Caravan) : (s.modCar f).free = s.free := rfl
@[simp] theorem State.modCar_draws (f : Caravan → Caravan) : (s.modCar f).draws = s.draws := rfl
@[simp] theorem State.modCar_outbox (f : Caravan → Caravan) : (s.modCar f).outbox = s.outbox := rfl
@[simp] theorem State.modCar_pop (f : Caravan → Caravan) : (s.modCar f).pop = s.pop := rfl
@[simp] theorem State.modCar_reg (f : Caravan → Caravan) : (s.modCar f).reg = s.reg := rfl
@[simp] theorem State.modCar_gb (f : Caravan → Caravan) : (s.modCar f).gb = s.gb := rfl
@[simp] theorem State.modCar_ps (f : Caravan → Caravan) : (s.modCar f).ps = s.ps := rfl
@[simp] theorem State.modCar_md (f : Caravan → Caravan) : (s.modCar f).md = s.md := rfl
@[simp] theorem State.modCar_pw (f : Caravan → Caravan) : (s.modCar f).pw = s.pw := rfl
@[simp] theorem State.modCar_porter (f : Caravan → Caravan) : (s.modCar f).porter = s.porter := rfl
@[simp] theorem State.modCar_bel (f : Caravan → Caravan) : (s.modCar f).bel = s.bel := rfl
@[simp] theorem State.modCar_wins (f : Caravan → Caravan) : (s.modCar f).wins = s.wins := rfl
@[simp] theorem State.modCar_clk (f : Caravan → Caravan) : (s.modCar f).clk = s.clk := rfl
@[simp] theorem State.modCar_thm (f : Caravan → Caravan) : (s.modCar f).thm = s.thm := rfl
@[simp] theorem State.modCar_cap (f : Caravan → Caravan) : (s.modCar f).cap = s.cap := rfl
@[simp] theorem State.modCar_cup (f : Caravan → Caravan) : (s.modCar f).cup = s.cup := rfl
@[simp] theorem State.modCar_fuse (f : Caravan → Caravan) : (s.modCar f).fuse = s.fuse := rfl
@[simp] theorem State.modCar_sec (f : Caravan → Caravan) : (s.modCar f).sec = s.sec := rfl
@[simp] theorem State.modCar_jobs (f : Caravan → Caravan) : (s.modCar f).jobs = s.jobs := rfl
@[simp] theorem State.modCar_tiles (f : Caravan → Caravan) : (s.modCar f).tiles = s.tiles := rfl
@[simp] theorem State.modCar_car (f : Caravan → Caravan) : (s.modCar f).car = f s.car := rfl

@[simp] theorem State.modCup_pending (f : Cupola → Cupola) : (s.modCup f).pending = s.pending := rfl
@[simp] theorem State.modCup_free (f : Cupola → Cupola) : (s.modCup f).free = s.free := rfl
@[simp] theorem State.modCup_draws (f : Cupola → Cupola) : (s.modCup f).draws = s.draws := rfl
@[simp] theorem State.modCup_outbox (f : Cupola → Cupola) : (s.modCup f).outbox = s.outbox := rfl
@[simp] theorem State.modCup_pop (f : Cupola → Cupola) : (s.modCup f).pop = s.pop := rfl
@[simp] theorem State.modCup_reg (f : Cupola → Cupola) : (s.modCup f).reg = s.reg := rfl
@[simp] theorem State.modCup_gb (f : Cupola → Cupola) : (s.modCup f).gb = s.gb := rfl
@[simp] theorem State.modCup_ps (f : Cupola → Cupola) : (s.modCup f).ps = s.ps := rfl
@[simp] theorem State.modCup_md (f : Cupola → Cupola) : (s.modCup f).md = s.md := rfl
@[simp] theorem State.modCup_pw (f : Cupola → Cupola) : (s.modCup f).pw = s.pw := rfl
@[simp] theorem State.modCup_porter (f : Cupola → Cupola) : (s.modCup f).porter = s.porter := rfl
@[simp] theorem State.modCup_bel (f : Cupola → Cupola) : (s.modCup f).bel = s.bel := rfl
@[simp] theorem State.modCup_wins (f : Cupola → Cupola) : (s.modCup f).wins = s.wins := rfl
@[simp] theorem State.modCup_clk (f : Cupola → Cupola) : (s.modCup f).clk = s.clk := rfl
@[simp] theorem State.modCup_thm (f : Cupola → Cupola) : (s.modCup f).thm = s.thm := rfl
@[simp] theorem State.modCup_cap (f : Cupola → Cupola) : (s.modCup f).cap = s.cap := rfl
@[simp] theorem State.modCup_car (f : Cupola → Cupola) : (s.modCup f).car = s.car := rfl
@[simp] theorem State.modCup_fuse (f : Cupola → Cupola) : (s.modCup f).fuse = s.fuse := rfl
@[simp] theorem State.modCup_sec (f : Cupola → Cupola) : (s.modCup f).sec = s.sec := rfl
@[simp] theorem State.modCup_jobs (f : Cupola → Cupola) : (s.modCup f).jobs = s.jobs := rfl
@[simp] theorem State.modCup_tiles (f : Cupola → Cupola) : (s.modCup f).tiles = s.tiles := rfl
@[simp] theorem State.modCup_cup (f : Cupola → Cupola) : (s.modCup f).cup = f s.cup := rfl

@[simp] theorem State.modCap_pending (f : Capacity → Capacity) : (s.modCap f).pending = s.pending := rfl
@[simp] theorem State.modCap_free (f : Capacity → Capacity) : (s.modCap f).free = s.free := rfl
@[simp] theorem State.modCap_draws (f : Capacity → Capacity) : (s.modCap f).draws = s.draws := rfl
@[simp] theorem State.modCap_outbox (f : Capacity → Capacity) : (s.modCap f).outbox = s.outbox := rfl
@[simp] theorem State.modCap_pop (f : Capacity → Capacity) : (s.modCap f).pop = s.pop := rfl
@[simp] theorem State.modCap_reg (f : Capacity → Capacity) : (s.modCap f).reg = s.reg := rfl
@[simp] theorem State.modCap_gb (f : Capacity → Capacity) : (s.modCap f).gb = s.gb := rfl
@[simp] theorem State.modCap_ps (f : Capacity → Capacity) : (s.modCap f).ps = s.ps := rfl
@[simp] theorem State.modCap_md (f : Capacity → Capacity) : (s.modCap f).md = s.md := rfl
@[simp] theorem State.modCap_pw (f : Capacity → Capacity) : (s.modCap f).pw = s.pw := rfl
@[simp] theorem State.modCap_porter (f : Capacity → Capacity) : (s.modCap f).porter = s.porter := rfl
@[simp] theorem State.modCap_bel (f : Capacity → Capacity) : (s.modCap f).bel = s.bel := rfl
@[simp] theorem State.modCap_wins (f : Capacity → Capacity) : (s.modCap f).wins = s.wins := rfl
@[simp] theorem State.modCap_clk (f : Capacity → Capacity) : (s.modCap f).clk = s.clk := rfl
@[simp] theorem State.modCap_thm (f : Capacity → Capacity) : (s.modCap f).thm = s.thm := rfl
@[simp] theorem State.modCap_cup (f : Capacity → Capacity) : (s.modCap f).cup = s.cup := rfl
@[simp] theorem State.modCap_car (f : Capacity → Capacity) : (s.modCap f).car = s.car := rfl
@[simp] theorem State.modCap_fuse (f : Capacity → Capacity) : (s.modCap f).fuse = s.fuse := rfl
@[simp] theorem State.modCap_sec (f : Capacity → Capacity) : (s.modCap f).sec = s.sec := rfl
@[simp] theorem State.modCap_jobs (f : Capacity → Capacity) : (s.modCap f).jobs = s.jobs := rfl
@[simp] theorem State.modCap_tiles (f : Capacity → Capacity) : (s.modCap f).tiles = s.tiles := rfl
@[simp] theorem State.modCap_cap (f : Capacity → Capacity) : (s.modCap f).cap = f s.cap := rfl

@[simp] theorem State.modSec_pending (f : Security → Security) : (s.modSec f).pending = s.pending := rfl
@[simp] theorem State.modSec_free (f : Security → Security) : (s.modSec f).free = s.free := rfl
@[simp] theorem State.modSec_draws (f : Security → Security) : (s.modSec f).draws = s.draws := rfl
@[simp] theorem State.modSec_outbox (f : Security → Security) : (s.modSec f).outbox = s.outbox := rfl
@[simp] theorem State.modSec_pop (f : Security → Security) : (s.modSec f).pop = s.pop := rfl
@[simp] theorem State.modSec_reg (f : Security → Security) : (s.modSec f).reg = s.reg := rfl
@[simp] theorem State.modSec_gb (f : Security → Security) : (s.modSec f).gb = s.gb := rfl
@[simp] theorem State.modSec_ps (f : Security → Security) : (s.modSec f).ps = s.ps := rfl
@[simp] theorem State.modSec_md (f : Security → Security) : (s.modSec f).md = s.md := rfl
@[simp] theorem State.modSec_pw (f : Security → Security) : (s.modSec f).pw = s.pw := rfl
@[simp] theorem State.modSec_porter (f : Security → Security) : (s.modSec f).porter = s.porter := rfl
@[simp] theorem State.modSec_bel (f : Security → Security) : (s.modSec f).bel = s.bel := rfl
@[simp] theorem State.modSec_wins (f : Security → Security) : (s.modSec f).wins = s.wins := rfl
@[simp] theorem State.modSec_clk (f : Security → Security) : (s.modSec f).clk = s.clk := rfl
@[simp] theorem State.modSec_thm (f : Security → Security) : (s.modSec f).thm = s.thm := rfl
@[simp] theorem State.modSec_cap (f : Security → Security) : (s.modSec f).cap = s.cap := rfl
@[simp] theorem State.modSec_cup (f : Security → Security) : (s.modSec f).cup = s.cup := rfl
@[simp] theorem State.modSec_car (f : Security → Security) : (s.modSec f).car = s.car := rfl
@[simp] theorem State.modSec_fuse (f : Security → Security) : (s.modSec f).fuse = s.fuse := rfl
@[simp] theorem State.modSec_jobs (f : Security → Security) : (s.modSec f).jobs = s.jobs := rfl
@[simp] theorem State.modSec_tiles (f : Security → Security) : (s.modSec f).tiles = s.tiles := rfl
@[simp] theorem State.modSec_sec (f : Security → Security) : (s.modSec f).sec = f s.sec := rfl

@[simp] theorem State.modJobs_pending (f : Jobs → Jobs) : (s.modJobs f).pending = s.pending := rfl
@[simp] theorem State.modJobs_free (f : Jobs → Jobs) : (s.modJobs f).free = s.free := rfl
@[simp] theorem State.modJobs_draws (f : Jobs → Jobs) : (s.modJobs f).draws = s.draws := rfl
@[simp] theorem State.modJobs_outbox (f : Jobs → Jobs) : (s.modJobs f).outbox = s.outbox := rfl
@[simp] theorem State.modJobs_pop (f : Jobs → Jobs) : (s.modJobs f).pop = s.pop := rfl
@[simp] theorem State.modJobs_reg (f : Jobs → Jobs) : (s.modJobs f).reg = s.reg := rfl
@[simp] theorem State.modJobs_gb (f : Jobs → Jobs) : (s.modJobs f).gb = s.gb := rfl
@[simp] theorem State.modJobs_ps (f : Jobs → Jobs) : (s.modJobs f).ps = s.ps := rfl
@[simp] theorem State.modJobs_md (f : Jobs → Jobs) : (s.modJobs f).md = s.md := rfl
@[simp] theorem State.modJobs_pw (f : Jobs → Jobs) : (s.modJobs f).pw = s.pw := rfl
@[simp] theorem State.modJobs_porter (f : Jobs → Jobs) : (s.modJobs f).porter = s.porter := rfl
@[simp] theorem State.modJobs_bel (f : Jobs → Jobs) : (s.modJobs f).bel = s.bel := rfl
@[simp] theorem State.modJobs_wins (f : Jobs → Jobs) : (s.modJobs f).wins = s.wins := rfl
@[simp] theorem State.modJobs_clk (f : Jobs → Jobs) : (s.modJobs f).clk = s.clk := rfl
@[simp] theorem State.modJobs_thm (f : Jobs → Jobs) : (s.modJobs f).thm = s.thm := rfl
@[simp] theorem State.modJobs_cap (f : Jobs → Jobs) : (s.modJobs f).cap = s.cap := rfl
@[simp] theorem State.modJobs_cup (f : Jobs → Jobs) : (s.modJobs f).cup = s.cup := rfl
@[simp] theorem State.modJobs_car (f : Jobs → Jobs) : (s.modJobs f).car = s.car := rfl
@[simp] theorem State.modJobs_fuse (f : Jobs → Jobs) : (s.modJobs f).fuse = s.fuse := rfl
@[simp] theorem State.modJobs_sec (f : Jobs → Jobs) : (s.modJobs f).sec = s.sec := rfl
@[simp] theorem State.modJobs_tiles (f : Jobs → Jobs) : (s.modJobs f).tiles = s.tiles := rfl
@[simp] theorem State.modJobs_jobs (f : Jobs → Jobs) : (s.modJobs f).jobs = f s.jobs := rfl

end Sys2Proof.Machine
end

