-- ==== Sys2Proof/Laws/Tables.lean ====
section
/-! SUPPORT. Laws/Tables.lean: reading back what was written into a sparse table, a list and a bit field, and the
canonical form that every table operation keeps. -/

namespace Sys2Proof.Machine

variable {α : Type}

/-! ### Reads after writes -/

@[simp] theorem aget_aput_self (k : Nat) (v : α) (l : List (Nat × α)) : aget k (aput k v l) = some v := by
  induction l with
  | nil => simp [aput, aget]
  | cons p l ih =>
    obtain ⟨j, w⟩ := p
    simp only [aput]
    split
    · simp [aget]
    · split
      · simp [aget]
      · simp_all [aget]
        omega

theorem aget_aput_ne {j k : Nat} (h : j ≠ k) (v : α) (l : List (Nat × α)) : aget j (aput k v l) = aget j l := by
  induction l with
  | nil => simp [aput, aget, Ne.symm h]
  | cons p l ih =>
    obtain ⟨i, w⟩ := p
    simp only [aput]
    split
    · simp [aget, Ne.symm h]
    · split
      · subst k; simp [aget, Ne.symm h]
      · simp [aget, ih]

@[simp] theorem aget_adel_self (k : Nat) (l : List (Nat × α)) : aget k (adel k l) = none := by
  induction l with
  | nil => simp [adel, aget]
  | cons p l ih =>
    obtain ⟨j, w⟩ := p
    by_cases h : j = k
    · subst h; simpa [adel] using ih
    · simp only [adel, ne_eq, h, not_false_eq_true, bne_iff_ne, List.filter_cons_of_pos, aget, if_false] at ih ⊢
      exact ih

theorem aget_adel_ne {j k : Nat} (h : j ≠ k) (l : List (Nat × α)) : aget j (adel k l) = aget j l := by
  induction l with
  | nil => simp [adel, aget]
  | cons p l ih =>
    obtain ⟨i, w⟩ := p
    by_cases hk : i = k
    · subst hk; simp only [adel] at ih; simp [adel, aget, Ne.symm h, ih]
    · simp only [adel] at ih; simp [adel, aget, hk, ih]

@[simp] theorem agetD_aputD_self [DecidableEq α] (d : α) (k : Nat) (v : α) (l : List (Nat × α)) :
    agetD k d (aputD d k v l) = v := by
  unfold agetD aputD
  split <;> simp [*]

theorem agetD_aputD_ne [DecidableEq α] {j k : Nat} (h : j ≠ k) (d e v : α) (l : List (Nat × α)) :
    agetD j e (aputD d k v l) = agetD j e l := by
  unfold agetD aputD
  split <;> simp [aget_aput_ne h, aget_adel_ne h]

@[simp] theorem agetD_aput_self (d : α) (k : Nat) (v : α) (l : List (Nat × α)) : agetD k d (aput k v l) = v := by
  simp [agetD]

theorem agetD_aput_ne {j k : Nat} (h : j ≠ k) (d v : α) (l : List (Nat × α)) : agetD j d (aput k v l) = agetD j d l := by
  simp [agetD, aget_aput_ne h]

@[simp] theorem length_lmod (i : Nat) (f : α → α) (l : List α) : (lmod i f l).length = l.length := by simp [lmod]

@[simp] theorem getD_lmod_self (i : Nat) (f : α → α) (l : List α) (d : α) (h : i < l.length) :
    (lmod i f l).getD i d = f (l.getD i d) := by
  simp [lmod, List.getD, h]

theorem getD_lmod_ne {i j : Nat} (h : j ≠ i) (f : α → α) (l : List α) (d : α) : (lmod i f l).getD j d = l.getD j d := by
  simp only [lmod, List.getD_eq_getElem?_getD, List.getElem?_mapIdx, h, if_false]
  cases l[j]? <;> rfl

theorem vget_vmod_self {n i : Nat} (f : α → α) (v : Vector α n) (d : α) (h : i < n) :
    vget i d (vmod i f v) = f (vget i d v) := by
  simp [vget, vmod, lmod, h]

theorem vget_vmod_ne {n i j : Nat} (h : j ≠ i) (f : α → α) (v : Vector α n) (d : α) :
    vget j d (vmod i f v) = vget j d v := by
  simpa [vget, vmod] using getD_lmod_ne h f v.toList d

theorem vget_vmapI {n i : Nat} (f : Nat → α → α) (v : Vector α n) (d : α) (h : i < n) :
    vget i d (vmapI f v) = f i (vget i d v) := by
  simp [vget, vmapI, h]

theorem vget_vmap {n i : Nat} (f : α → α) (v : Vector α n) (d : α) (h : i < n) :
    vget i d (vmap f v) = f (vget i d v) := vget_vmapI _ v d h

/-! ### The canonical form -/

theorem asorted_cons {p : Nat × α} {l : List (Nat × α)} :
    asorted (p :: l) = true ↔ (∀ q ∈ l, p.1 < q.1) ∧ asorted l = true := by
  induction l generalizing p with
  | nil => simp [asorted]
  | cons q l ih =>
    simp only [asorted, Bool.and_eq_true, decide_eq_true_eq, ih, List.mem_cons, forall_eq_or_imp]
    constructor
    · rintro ⟨h, h1, h2⟩; exact ⟨⟨h, fun x hx => h.trans (h1 x hx)⟩, h1, h2⟩
    · rintro ⟨⟨h, -⟩, h1, h2⟩; exact ⟨h, h1, h2⟩

theorem mem_aput {k : Nat} {v : α} {l : List (Nat × α)} {q : Nat × α} (h : q ∈ aput k v l) : q = (k, v) ∨ q ∈ l := by
  induction l with
  | nil => simpa [aput] using h
  | cons p l ih =>
    obtain ⟨j, w⟩ := p
    simp only [aput] at h
    split at h
    · simp_all
    · split at h
      · simp_all; tauto
      · rcases List.mem_cons.1 h with h | h
        · simp [h]
        · rcases ih h with h | h <;> simp [h]

/-- `aput` keeps the keys strictly rising. -/
theorem asorted_aput (k : Nat) (v : α) {l : List (Nat × α)} (h : asorted l = true) : asorted (aput k v l) = true := by
  induction l with
  | nil => simp [aput, asorted]
  | cons p l ih =>
    obtain ⟨j, w⟩ := p
    obtain ⟨hj, hl⟩ := asorted_cons.1 h
    simp only [aput]
    split
    · rename_i hk
      refine asorted_cons.2 ⟨?_, h⟩
      rintro q hq
      rcases List.mem_cons.1 hq with rfl | hq
      · exact hk
      · exact hk.trans (hj q hq)
    · split
      · subst k; exact asorted_cons.2 ⟨hj, hl⟩
      · refine asorted_cons.2 ⟨?_, ih hl⟩
        intro q hq
        rcases mem_aput hq with rfl | hq
        · show j < k; omega
        · exact hj q hq

/-- Removing entries keeps the keys strictly rising. -/
theorem asorted_filter (p : Nat × α → Bool) {l : List (Nat × α)} (h : asorted l = true) : asorted (l.filter p) = true := by
  induction l with
  | nil => simp [asorted]
  | cons q l ih =>
    obtain ⟨hj, hl⟩ := asorted_cons.1 h
    by_cases hq : p q
    · rw [List.filter_cons_of_pos hq]
      exact asorted_cons.2 ⟨fun x hx => hj x (List.mem_filter.1 hx).1, ih hl⟩
    · rw [List.filter_cons_of_neg hq]; exact ih hl

/-- `adel` keeps the keys strictly rising. -/
theorem asorted_adel (k : Nat) {l : List (Nat × α)} (h : asorted l = true) : asorted (adel k l) = true := asorted_filter _ h

/-- `adelWhere` keeps the keys strictly rising. -/
theorem asorted_adelWhere (p : Nat → Bool) {l : List (Nat × α)} (h : asorted l = true) : asorted (adelWhere p l) = true :=
  asorted_filter _ h

/-- `aputD` keeps the keys strictly rising. -/
theorem asorted_aputD [DecidableEq α] (d : α) (k : Nat) (v : α) {l : List (Nat × α)} (h : asorted l = true) :
    asorted (aputD d k v l) = true := by
  unfold aputD
  split
  · exact asorted_adel k h
  · exact asorted_aput k v h

/-- `aputD` lists no entry equal to the value unlisted keys read as, when the table listed none. -/
theorem aputD_canonical [DecidableEq α] (d : α) (k : Nat) (v : α) {l : List (Nat × α)} (h : ∀ q ∈ l, q.2 ≠ d) :
    ∀ q ∈ aputD d k v l, q.2 ≠ d := by
  intro q hq
  unfold aputD at hq
  split at hq
  · exact h q (List.mem_filter.1 hq).1
  · rename_i hv
    rcases mem_aput hq with rfl | hq
    · exact hv
    · exact h q hq

/-! ### Register fields -/

theorem fieldOf_eq_extract (w : W32) (hi lo : Nat) : fieldOf w hi lo = (w.extractLsb' lo (hi + 1 - lo)).toNat := by
  simp [fieldOf, BitVec.extractLsb', Nat.shiftRight_eq_div_pow]

theorem fieldMask_getLsbD {hi lo : Nat} (i : Nat) (h : lo ≤ hi) (h2 : hi < 32) :
    (fieldMask hi lo).getLsbD i = decide (lo ≤ i ∧ i ≤ hi) := by
  rw [fieldMask, BitVec.getLsbD_ofNat, ← Nat.shiftLeft_eq, Nat.testBit_shiftLeft, Nat.testBit_two_pow_sub_one]
  by_cases h1 : lo ≤ i <;> by_cases h3 : i ≤ hi <;> simp [h1, h3] <;> omega

theorem withField_getLsbD {hi lo : Nat} (w : W32) (v i : Nat) (h : lo ≤ hi) (h2 : hi < 32) :
    (withField w hi lo v).getLsbD i =
      if lo ≤ i ∧ i ≤ hi then v.testBit (i - lo) else w.getLsbD i := by
  unfold withField
  rw [BitVec.getLsbD_or, BitVec.getLsbD_and, BitVec.getLsbD_and, BitVec.getLsbD_not, fieldMask_getLsbD i h h2,
    BitVec.getLsbD_ofNat, ← Nat.shiftLeft_eq, Nat.testBit_shiftLeft]
  by_cases hc : lo ≤ i ∧ i ≤ hi
  · have : i < 32 := by omega
    simp [hc, this]
  · by_cases h32 : i < 32
    · simp [hc, h32]
    · have := BitVec.getLsbD_of_ge w i (by omega)
      simp [hc, this]

theorem fieldOf_testBit (w : W32) (hi lo j : Nat) :
    (fieldOf w hi lo).testBit j = (decide (j < hi + 1 - lo) && w.getLsbD (lo + j)) := by
  simp [fieldOf, ← Nat.shiftRight_eq_div_pow, Nat.testBit_mod_two_pow, Nat.testBit_shiftRight, BitVec.getLsbD]

/-- A field reads as what was put into it, cut to its width. -/
@[simp] theorem fieldOf_withField_self {hi lo : Nat} (w : W32) (v : Nat) (h : lo ≤ hi) (h2 : hi < 32) :
    fieldOf (withField w hi lo v) hi lo = v % 2 ^ (hi + 1 - lo) := by
  apply Nat.eq_of_testBit_eq
  intro j
  rw [fieldOf_testBit, withField_getLsbD _ _ _ h h2, Nat.testBit_mod_two_pow]
  by_cases hj : j < hi + 1 - lo
  · have : lo ≤ lo + j ∧ lo + j ≤ hi := by omega
    simp [hj, this]
  · simp [hj]

/-- A field apart from the one written keeps its value. -/
theorem fieldOf_withField_apart {hi lo hi' lo' : Nat} (w : W32) (v : Nat) (h : lo ≤ hi) (h2 : hi < 32)
    (ha : hi' < lo ∨ hi < lo') : fieldOf (withField w hi lo v) hi' lo' = fieldOf w hi' lo' := by
  apply Nat.eq_of_testBit_eq
  intro j
  rw [fieldOf_testBit, fieldOf_testBit, withField_getLsbD _ _ _ h h2]
  by_cases hj : j < hi' + 1 - lo'
  · have : ¬ (lo ≤ lo' + j ∧ lo' + j ≤ hi) := by omega
    simp [hj, this]
  · simp [hj]

end Sys2Proof.Machine
end

