-- ==== Sys2Proof/Laws/Ops.lean ====
section
/-! SUPPORT. Laws/Ops.lean: what the shared operations of Machine/Ops.lean can do, said once: reading registers and rings
back, and the parts of the state that recording an event, latching a flag, an alert, a mode change and Porter's completion
leave unchanged. -/

namespace Sys2Proof.Machine

/-! ### Registers -/

@[simp] theorem State.getReg_setReg_self (s : State) (o : Nat) (v : W32) : (s.setReg o v).getReg o = v := by
  simp [State.getReg, State.setReg]

theorem State.getReg_setReg_ne {o k : Nat} (h : o ≠ k) (s : State) (v : W32) : (s.setReg k v).getReg o = s.getReg o := by
  simp [State.getReg, State.setReg, agetD_aputD_ne h]

@[simp] theorem State.fld_setFld_self (s : State) (o v : Nat) {hi lo : Nat} (h : lo ≤ hi) (h2 : hi < 32) :
    (s.setFld o hi lo v).fld o hi lo = v % 2 ^ (hi + 1 - lo) := by
  simp [State.fld, State.setFld, h, h2]

theorem State.fld_setFld_ne {o k : Nat} (h : o ≠ k) (s : State) (hi lo hi' lo' v : Nat) :
    (s.setFld k hi lo v).fld o hi' lo' = s.fld o hi' lo' := by
  simp [State.fld, State.setFld, State.getReg_setReg_ne h]

theorem State.getReg_setFld_ne {o k : Nat} (h : o ≠ k) (s : State) (hi lo v : Nat) :
    (s.setFld k hi lo v).getReg o = s.getReg o := by
  simp [State.setFld, State.getReg_setReg_ne h]

@[simp] theorem State.regBit_latchOnly_self (s : State) (o : Nat) {b : Nat} (h : b < 32) :
    (s.latchOnly o b).regBit o b = true := by
  simp [State.regBit, State.latchOnly, h]

/-- A read of a register depends on the register file alone. -/
theorem State.getReg_congr {s t : State} (h : t.reg = s.reg) (o : Nat) : t.getReg o = s.getReg o := by
  simp [State.getReg, h]

/-! ### Rings and tiles -/

@[simp] theorem State.ring_modRing_self (s : State) {r : Nat} (f : Ring → Ring) (h : r < 64) :
    (s.modRing r f).ring r = f (s.ring r) := vget_vmod_self f _ _ h

theorem State.ring_modRing_ne {r k : Nat} (h : r ≠ k) (s : State) (f : Ring → Ring) : (s.modRing k f).ring r = s.ring r :=
  vget_vmod_ne h f _ _

@[simp] theorem State.tile_modTile_self (s : State) {t : Nat} (f : Tile → Tile) (h : t < 8) :
    (s.modTile t f).tile t = f (s.tile t) := vget_vmod_self f _ _ h

theorem State.tile_modTile_ne {t k : Nat} (h : t ≠ k) (s : State) (f : Tile → Tile) : (s.modTile k f).tile t = s.tile t :=
  vget_vmod_ne h f _ _

/-! ### Recording events

What an event can touch: the Guestbook, the register file (GB_ERR_STATUS, RING_EVT), the rings and what goes out. -/

/-- Everything but the Guestbook, the registers, the rings and what went out is as before. -/
def OnlyLog (s t : State) : Prop := t = { s with gb := t.gb, reg := t.reg, porter := t.porter, outbox := t.outbox }

theorem OnlyLog.refl (s : State) : OnlyLog s s := rfl

theorem OnlyLog.trans {a b c : State} (h : OnlyLog a b) (k : OnlyLog b c) : OnlyLog a c := by
  unfold OnlyLog at *
  rw [k, h]

theorem OnlyLog.foldl {β : Type} (f : State → β → State) (h : ∀ a b, OnlyLog a (f a b)) (l : List β) (s : State) :
    OnlyLog s (l.foldl f s) := by
  induction l generalizing s with
  | nil => exact .refl s
  | cons b l ih => exact (h s b).trans (ih _)

theorem onlyLog_modGb (s : State) (f : Guestbook → Guestbook) : OnlyLog s (s.modGb f) := rfl
theorem onlyLog_setFld (s : State) (o h l v : Nat) : OnlyLog s (s.setFld o h l v) := rfl
theorem onlyLog_addFld (s : State) (o h l v : Nat) : OnlyLog s (s.addFld o h l v) := rfl
theorem onlyLog_emit (s : State) (o : Out) : OnlyLog s (s.emit o) := rfl
theorem onlyLog_modRing (s : State) (r : Nat) (f : Ring → Ring) : OnlyLog s (s.modRing r f) := rfl
theorem onlyLog_gbStore (s : State) (c k : Nat) (l : List Nat) : OnlyLog s (s.gbStore c k l).1 := rfl

theorem onlyLog_cqWrite (s : State) (r : Nat) (a b : List Byte) : OnlyLog s (s.cqWrite r a b) := rfl
theorem onlyLog_ringMsix (s : State) (r : Nat) : OnlyLog s (s.ringMsix r) := rfl

theorem onlyLog_ringCount (s : State) (r : Nat) (now : Bool) : OnlyLog s (s.ringCount r now) := by
  unfold State.ringCount
  dsimp only
  split
  · exact (onlyLog_modRing s r _).trans (onlyLog_ringMsix _ r)
  · exact onlyLog_modRing s r _

theorem onlyLog_evtWrite (s : State) (g : GbRecord) (r : Nat) : OnlyLog s (s.evtWrite g r).1 := by
  unfold State.evtWrite
  dsimp only
  split
  · exact (onlyLog_addFld s _ _ _ _).trans (onlyLog_modRing _ _ _)
  · exact ((onlyLog_cqWrite s r _ _).trans (onlyLog_modRing _ _ _)).trans (onlyLog_ringCount _ _ _)

/-- Recording an event changes the Guestbook, registers, rings and outputs alone. -/
theorem onlyLog_gbEventN (n : Nat) (s : State) (c k : Nat) (l : List Nat) (rep : Bool) :
    OnlyLog s (s.gbEventN n c k l rep) := by
  induction n generalizing s c k l rep with
  | zero => exact .refl s
  | succ n ih =>
    unfold State.gbEventN
    dsimp only
    have hfold : ∀ (g : GbRecord) (rs : List Nat) (a : State), OnlyLog a (rs.foldl (fun a k =>
        let (b, first) := State.evtWrite a g k
        if first then State.gbEventN n b Gb.PORTER_EVT_LOST 15 [k, b.fld (Reg.RING_EVT k) 31 16] false else b) a) := by
      intro g rs a
      refine OnlyLog.foldl _ (fun a k => ?_) rs a
      have h := onlyLog_evtWrite a g k
      dsimp only
      split
      · exact h.trans (ih _ _ _ _ _)
      · exact h
    split
    · exact onlyLog_modGb s _
    · split
      · exact (onlyLog_modGb s _).trans (onlyLog_setFld _ _ _ _ _)
      · split
        · exact onlyLog_modGb s _
        · have h1 := (onlyLog_gbStore s c k l).trans (hfold (s.gbStore c k l).2 ((s.gbStore c k l).1.evtRings c) (s.gbStore c k l).1)
          split
          · exact (h1.trans (onlyLog_modGb _ _)).trans (ih _ _ _ _ _)
          · exact h1

theorem onlyLog_event (s : State) (c k : Nat) (l : List Nat) : OnlyLog s (s.event c k l) := onlyLog_gbEventN 4 s c k l false

theorem onlyLog_latch (s : State) (o b c k : Nat) (l : List Nat) : OnlyLog s (s.latch o b c k l) :=
  (onlyLog_setFld s _ _ _ _).trans (onlyLog_gbEventN _ _ _ _ _ _)

theorem OnlyLog.pending {s t : State} (h : OnlyLog s t) : t.pending = s.pending := by rw [h]
theorem OnlyLog.free {s t : State} (h : OnlyLog s t) : t.free = s.free := by rw [h]
theorem OnlyLog.draws {s t : State} (h : OnlyLog s t) : t.draws = s.draws := by rw [h]
theorem OnlyLog.pop {s t : State} (h : OnlyLog s t) : t.pop = s.pop := by rw [h]
theorem OnlyLog.ps {s t : State} (h : OnlyLog s t) : t.ps = s.ps := by rw [h]
theorem OnlyLog.md {s t : State} (h : OnlyLog s t) : t.md = s.md := by rw [h]
theorem OnlyLog.pw {s t : State} (h : OnlyLog s t) : t.pw = s.pw := by rw [h]
theorem OnlyLog.bel {s t : State} (h : OnlyLog s t) : t.bel = s.bel := by rw [h]
theorem OnlyLog.wins {s t : State} (h : OnlyLog s t) : t.wins = s.wins := by rw [h]
theorem OnlyLog.clk {s t : State} (h : OnlyLog s t) : t.clk = s.clk := by rw [h]
theorem OnlyLog.thm {s t : State} (h : OnlyLog s t) : t.thm = s.thm := by rw [h]
theorem OnlyLog.cap {s t : State} (h : OnlyLog s t) : t.cap = s.cap := by rw [h]
theorem OnlyLog.cup {s t : State} (h : OnlyLog s t) : t.cup = s.cup := by rw [h]
theorem OnlyLog.car {s t : State} (h : OnlyLog s t) : t.car = s.car := by rw [h]
theorem OnlyLog.fuse {s t : State} (h : OnlyLog s t) : t.fuse = s.fuse := by rw [h]
theorem OnlyLog.sec {s t : State} (h : OnlyLog s t) : t.sec = s.sec := by rw [h]
theorem OnlyLog.jobs {s t : State} (h : OnlyLog s t) : t.jobs = s.jobs := by rw [h]
theorem OnlyLog.tiles {s t : State} (h : OnlyLog s t) : t.tiles = s.tiles := by rw [h]

@[simp] theorem State.gbEventN_pending (s : State) (n c k : Nat) (l : List Nat) (r : Bool) : (s.gbEventN n c k l r).pending = s.pending := (onlyLog_gbEventN n s c k l r).pending
@[simp] theorem State.gbEventN_free (s : State) (n c k : Nat) (l : List Nat) (r : Bool) : (s.gbEventN n c k l r).free = s.free := (onlyLog_gbEventN n s c k l r).free
@[simp] theorem State.gbEventN_draws (s : State) (n c k : Nat) (l : List Nat) (r : Bool) : (s.gbEventN n c k l r).draws = s.draws := (onlyLog_gbEventN n s c k l r).draws
@[simp] theorem State.gbEventN_pop (s : State) (n c k : Nat) (l : List Nat) (r : Bool) : (s.gbEventN n c k l r).pop = s.pop := (onlyLog_gbEventN n s c k l r).pop
@[simp] theorem State.gbEventN_ps (s : State) (n c k : Nat) (l : List Nat) (r : Bool) : (s.gbEventN n c k l r).ps = s.ps := (onlyLog_gbEventN n s c k l r).ps
@[simp] theorem State.gbEventN_md (s : State) (n c k : Nat) (l : List Nat) (r : Bool) : (s.gbEventN n c k l r).md = s.md := (onlyLog_gbEventN n s c k l r).md
@[simp] theorem State.gbEventN_pw (s : State) (n c k : Nat) (l : List Nat) (r : Bool) : (s.gbEventN n c k l r).pw = s.pw := (onlyLog_gbEventN n s c k l r).pw
@[simp] theorem State.gbEventN_bel (s : State) (n c k : Nat) (l : List Nat) (r : Bool) : (s.gbEventN n c k l r).bel = s.bel := (onlyLog_gbEventN n s c k l r).bel
@[simp] theorem State.gbEventN_wins (s : State) (n c k : Nat) (l : List Nat) (r : Bool) : (s.gbEventN n c k l r).wins = s.wins := (onlyLog_gbEventN n s c k l r).wins
@[simp] theorem State.gbEventN_clk (s : State) (n c k : Nat) (l : List Nat) (r : Bool) : (s.gbEventN n c k l r).clk = s.clk := (onlyLog_gbEventN n s c k l r).clk
@[simp] theorem State.gbEventN_thm (s : State) (n c k : Nat) (l : List Nat) (r : Bool) : (s.gbEventN n c k l r).thm = s.thm := (onlyLog_gbEventN n s c k l r).thm
@[simp] theorem State.gbEventN_cap (s : State) (n c k : Nat) (l : List Nat) (r : Bool) : (s.gbEventN n c k l r).cap = s.cap := (onlyLog_gbEventN n s c k l r).cap
@[simp] theorem State.gbEventN_cup (s : State) (n c k : Nat) (l : List Nat) (r : Bool) : (s.gbEventN n c k l r).cup = s.cup := (onlyLog_gbEventN n s c k l r).cup
@[simp] theorem State.gbEventN_car (s : State) (n c k : Nat) (l : List Nat) (r : Bool) : (s.gbEventN n c k l r).car = s.car := (onlyLog_gbEventN n s c k l r).car
@[simp] theorem State.gbEventN_fuse (s : State) (n c k : Nat) (l : List Nat) (r : Bool) : (s.gbEventN n c k l r).fuse = s.fuse := (onlyLog_gbEventN n s c k l r).fuse
@[simp] theorem State.gbEventN_sec (s : State) (n c k : Nat) (l : List Nat) (r : Bool) : (s.gbEventN n c k l r).sec = s.sec := (onlyLog_gbEventN n s c k l r).sec
@[simp] theorem State.gbEventN_jobs (s : State) (n c k : Nat) (l : List Nat) (r : Bool) : (s.gbEventN n c k l r).jobs = s.jobs := (onlyLog_gbEventN n s c k l r).jobs
@[simp] theorem State.gbEventN_tiles (s : State) (n c k : Nat) (l : List Nat) (r : Bool) : (s.gbEventN n c k l r).tiles = s.tiles := (onlyLog_gbEventN n s c k l r).tiles

@[simp] theorem State.event_pending (s : State) (c k : Nat) (l : List Nat) : (s.event c k l).pending = s.pending := (onlyLog_event s c k l).pending
@[simp] theorem State.event_free (s : State) (c k : Nat) (l : List Nat) : (s.event c k l).free = s.free := (onlyLog_event s c k l).free
@[simp] theorem State.event_draws (s : State) (c k : Nat) (l : List Nat) : (s.event c k l).draws = s.draws := (onlyLog_event s c k l).draws
@[simp] theorem State.event_pop (s : State) (c k : Nat) (l : List Nat) : (s.event c k l).pop = s.pop := (onlyLog_event s c k l).pop
@[simp] theorem State.event_ps (s : State) (c k : Nat) (l : List Nat) : (s.event c k l).ps = s.ps := (onlyLog_event s c k l).ps
@[simp] theorem State.event_md (s : State) (c k : Nat) (l : List Nat) : (s.event c k l).md = s.md := (onlyLog_event s c k l).md
@[simp] theorem State.event_pw (s : State) (c k : Nat) (l : List Nat) : (s.event c k l).pw = s.pw := (onlyLog_event s c k l).pw
@[simp] theorem State.event_bel (s : State) (c k : Nat) (l : List Nat) : (s.event c k l).bel = s.bel := (onlyLog_event s c k l).bel
@[simp] theorem State.event_wins (s : State) (c k : Nat) (l : List Nat) : (s.event c k l).wins = s.wins := (onlyLog_event s c k l).wins
@[simp] theorem State.event_clk (s : State) (c k : Nat) (l : List Nat) : (s.event c k l).clk = s.clk := (onlyLog_event s c k l).clk
@[simp] theorem State.event_thm (s : State) (c k : Nat) (l : List Nat) : (s.event c k l).thm = s.thm := (onlyLog_event s c k l).thm
@[simp] theorem State.event_cap (s : State) (c k : Nat) (l : List Nat) : (s.event c k l).cap = s.cap := (onlyLog_event s c k l).cap
@[simp] theorem State.event_cup (s : State) (c k : Nat) (l : List Nat) : (s.event c k l).cup = s.cup := (onlyLog_event s c k l).cup
@[simp] theorem State.event_car (s : State) (c k : Nat) (l : List Nat) : (s.event c k l).car = s.car := (onlyLog_event s c k l).car
@[simp] theorem State.event_fuse (s : State) (c k : Nat) (l : List Nat) : (s.event c k l).fuse = s.fuse := (onlyLog_event s c k l).fuse
@[simp] theorem State.event_sec (s : State) (c k : Nat) (l : List Nat) : (s.event c k l).sec = s.sec := (onlyLog_event s c k l).sec
@[simp] theorem State.event_jobs (s : State) (c k : Nat) (l : List Nat) : (s.event c k l).jobs = s.jobs := (onlyLog_event s c k l).jobs
@[simp] theorem State.event_tiles (s : State) (c k : Nat) (l : List Nat) : (s.event c k l).tiles = s.tiles := (onlyLog_event s c k l).tiles

@[simp] theorem State.latch_pending (s : State) (o b c k : Nat) (l : List Nat) : (s.latch o b c k l).pending = s.pending := (onlyLog_latch s o b c k l).pending
@[simp] theorem State.latch_free (s : State) (o b c k : Nat) (l : List Nat) : (s.latch o b c k l).free = s.free := (onlyLog_latch s o b c k l).free
@[simp] theorem State.latch_draws (s : State) (o b c k : Nat) (l : List Nat) : (s.latch o b c k l).draws = s.draws := (onlyLog_latch s o b c k l).draws
@[simp] theorem State.latch_pop (s : State) (o b c k : Nat) (l : List Nat) : (s.latch o b c k l).pop = s.pop := (onlyLog_latch s o b c k l).pop
@[simp] theorem State.latch_ps (s : State) (o b c k : Nat) (l : List Nat) : (s.latch o b c k l).ps = s.ps := (onlyLog_latch s o b c k l).ps
@[simp] theorem State.latch_md (s : State) (o b c k : Nat) (l : List Nat) : (s.latch o b c k l).md = s.md := (onlyLog_latch s o b c k l).md
@[simp] theorem State.latch_pw (s : State) (o b c k : Nat) (l : List Nat) : (s.latch o b c k l).pw = s.pw := (onlyLog_latch s o b c k l).pw
@[simp] theorem State.latch_bel (s : State) (o b c k : Nat) (l : List Nat) : (s.latch o b c k l).bel = s.bel := (onlyLog_latch s o b c k l).bel
@[simp] theorem State.latch_wins (s : State) (o b c k : Nat) (l : List Nat) : (s.latch o b c k l).wins = s.wins := (onlyLog_latch s o b c k l).wins
@[simp] theorem State.latch_clk (s : State) (o b c k : Nat) (l : List Nat) : (s.latch o b c k l).clk = s.clk := (onlyLog_latch s o b c k l).clk
@[simp] theorem State.latch_thm (s : State) (o b c k : Nat) (l : List Nat) : (s.latch o b c k l).thm = s.thm := (onlyLog_latch s o b c k l).thm
@[simp] theorem State.latch_cap (s : State) (o b c k : Nat) (l : List Nat) : (s.latch o b c k l).cap = s.cap := (onlyLog_latch s o b c k l).cap
@[simp] theorem State.latch_cup (s : State) (o b c k : Nat) (l : List Nat) : (s.latch o b c k l).cup = s.cup := (onlyLog_latch s o b c k l).cup
@[simp] theorem State.latch_car (s : State) (o b c k : Nat) (l : List Nat) : (s.latch o b c k l).car = s.car := (onlyLog_latch s o b c k l).car
@[simp] theorem State.latch_fuse (s : State) (o b c k : Nat) (l : List Nat) : (s.latch o b c k l).fuse = s.fuse := (onlyLog_latch s o b c k l).fuse
@[simp] theorem State.latch_sec (s : State) (o b c k : Nat) (l : List Nat) : (s.latch o b c k l).sec = s.sec := (onlyLog_latch s o b c k l).sec
@[simp] theorem State.latch_jobs (s : State) (o b c k : Nat) (l : List Nat) : (s.latch o b c k l).jobs = s.jobs := (onlyLog_latch s o b c k l).jobs
@[simp] theorem State.latch_tiles (s : State) (o b c k : Nat) (l : List Nat) : (s.latch o b c k l).tiles = s.tiles := (onlyLog_latch s o b c k l).tiles

/-! ### Alerts and modes -/

/-- The alert line changes the temperature state's line and what went out. -/
theorem State.alertLine_frame (s : State) : ∃ t o, s.alertLine = { s with thm := t, outbox := o } := by
  unfold State.alertLine
  dsimp only
  split
  · exact ⟨_, _, rfl⟩
  · exact ⟨_, s.outbox, rfl⟩

@[simp] theorem State.alertLine_pending (s : State) : s.alertLine.pending = s.pending := by obtain ⟨t, o, h⟩ := s.alertLine_frame; rw [h]
@[simp] theorem State.alertLine_free (s : State) : s.alertLine.free = s.free := by obtain ⟨t, o, h⟩ := s.alertLine_frame; rw [h]
@[simp] theorem State.alertLine_draws (s : State) : s.alertLine.draws = s.draws := by obtain ⟨t, o, h⟩ := s.alertLine_frame; rw [h]
@[simp] theorem State.alertLine_pop (s : State) : s.alertLine.pop = s.pop := by obtain ⟨t, o, h⟩ := s.alertLine_frame; rw [h]
@[simp] theorem State.alertLine_reg (s : State) : s.alertLine.reg = s.reg := by obtain ⟨t, o, h⟩ := s.alertLine_frame; rw [h]
@[simp] theorem State.alertLine_gb (s : State) : s.alertLine.gb = s.gb := by obtain ⟨t, o, h⟩ := s.alertLine_frame; rw [h]
@[simp] theorem State.alertLine_ps (s : State) : s.alertLine.ps = s.ps := by obtain ⟨t, o, h⟩ := s.alertLine_frame; rw [h]
@[simp] theorem State.alertLine_md (s : State) : s.alertLine.md = s.md := by obtain ⟨t, o, h⟩ := s.alertLine_frame; rw [h]
@[simp] theorem State.alertLine_pw (s : State) : s.alertLine.pw = s.pw := by obtain ⟨t, o, h⟩ := s.alertLine_frame; rw [h]
@[simp] theorem State.alertLine_porter (s : State) : s.alertLine.porter = s.porter := by obtain ⟨t, o, h⟩ := s.alertLine_frame; rw [h]
@[simp] theorem State.alertLine_bel (s : State) : s.alertLine.bel = s.bel := by obtain ⟨t, o, h⟩ := s.alertLine_frame; rw [h]
@[simp] theorem State.alertLine_wins (s : State) : s.alertLine.wins = s.wins := by obtain ⟨t, o, h⟩ := s.alertLine_frame; rw [h]
@[simp] theorem State.alertLine_clk (s : State) : s.alertLine.clk = s.clk := by obtain ⟨t, o, h⟩ := s.alertLine_frame; rw [h]
@[simp] theorem State.alertLine_cap (s : State) : s.alertLine.cap = s.cap := by obtain ⟨t, o, h⟩ := s.alertLine_frame; rw [h]
@[simp] theorem State.alertLine_cup (s : State) : s.alertLine.cup = s.cup := by obtain ⟨t, o, h⟩ := s.alertLine_frame; rw [h]
@[simp] theorem State.alertLine_car (s : State) : s.alertLine.car = s.car := by obtain ⟨t, o, h⟩ := s.alertLine_frame; rw [h]
@[simp] theorem State.alertLine_fuse (s : State) : s.alertLine.fuse = s.fuse := by obtain ⟨t, o, h⟩ := s.alertLine_frame; rw [h]
@[simp] theorem State.alertLine_sec (s : State) : s.alertLine.sec = s.sec := by obtain ⟨t, o, h⟩ := s.alertLine_frame; rw [h]
@[simp] theorem State.alertLine_jobs (s : State) : s.alertLine.jobs = s.jobs := by obtain ⟨t, o, h⟩ := s.alertLine_frame; rw [h]
@[simp] theorem State.alertLine_tiles (s : State) : s.alertLine.tiles = s.tiles := by obtain ⟨t, o, h⟩ := s.alertLine_frame; rw [h]
@[simp] theorem State.alert_pending (s : State) (b : Nat) : (s.alert b).pending = s.pending := by simp [State.alert]
@[simp] theorem State.alert_free (s : State) (b : Nat) : (s.alert b).free = s.free := by simp [State.alert]
@[simp] theorem State.alert_draws (s : State) (b : Nat) : (s.alert b).draws = s.draws := by simp [State.alert]
@[simp] theorem State.alert_pop (s : State) (b : Nat) : (s.alert b).pop = s.pop := by simp [State.alert]
@[simp] theorem State.alert_gb (s : State) (b : Nat) : (s.alert b).gb = s.gb := by simp [State.alert]
@[simp] theorem State.alert_ps (s : State) (b : Nat) : (s.alert b).ps = s.ps := by simp [State.alert]
@[simp] theorem State.alert_md (s : State) (b : Nat) : (s.alert b).md = s.md := by simp [State.alert]
@[simp] theorem State.alert_pw (s : State) (b : Nat) : (s.alert b).pw = s.pw := by simp [State.alert]
@[simp] theorem State.alert_porter (s : State) (b : Nat) : (s.alert b).porter = s.porter := by simp [State.alert]
@[simp] theorem State.alert_bel (s : State) (b : Nat) : (s.alert b).bel = s.bel := by simp [State.alert]
@[simp] theorem State.alert_wins (s : State) (b : Nat) : (s.alert b).wins = s.wins := by simp [State.alert]
@[simp] theorem State.alert_clk (s : State) (b : Nat) : (s.alert b).clk = s.clk := by simp [State.alert]
@[simp] theorem State.alert_cap (s : State) (b : Nat) : (s.alert b).cap = s.cap := by simp [State.alert]
@[simp] theorem State.alert_cup (s : State) (b : Nat) : (s.alert b).cup = s.cup := by simp [State.alert]
@[simp] theorem State.alert_car (s : State) (b : Nat) : (s.alert b).car = s.car := by simp [State.alert]
@[simp] theorem State.alert_fuse (s : State) (b : Nat) : (s.alert b).fuse = s.fuse := by simp [State.alert]
@[simp] theorem State.alert_sec (s : State) (b : Nat) : (s.alert b).sec = s.sec := by simp [State.alert]
@[simp] theorem State.alert_jobs (s : State) (b : Nat) : (s.alert b).jobs = s.jobs := by simp [State.alert]
@[simp] theorem State.alert_tiles (s : State) (b : Nat) : (s.alert b).tiles = s.tiles := by simp [State.alert]
@[simp] theorem State.setMode_pending (s : State) (m : Mode) : (s.setMode m).pending = s.pending := by unfold State.setMode; split <;> simp
@[simp] theorem State.setMode_free (s : State) (m : Mode) : (s.setMode m).free = s.free := by unfold State.setMode; split <;> simp
@[simp] theorem State.setMode_draws (s : State) (m : Mode) : (s.setMode m).draws = s.draws := by unfold State.setMode; split <;> simp
@[simp] theorem State.setMode_pop (s : State) (m : Mode) : (s.setMode m).pop = s.pop := by unfold State.setMode; split <;> simp
@[simp] theorem State.setMode_ps (s : State) (m : Mode) : (s.setMode m).ps = s.ps := by unfold State.setMode; split <;> simp
@[simp] theorem State.setMode_pw (s : State) (m : Mode) : (s.setMode m).pw = s.pw := by unfold State.setMode; split <;> simp
@[simp] theorem State.setMode_bel (s : State) (m : Mode) : (s.setMode m).bel = s.bel := by unfold State.setMode; split <;> simp
@[simp] theorem State.setMode_wins (s : State) (m : Mode) : (s.setMode m).wins = s.wins := by unfold State.setMode; split <;> simp
@[simp] theorem State.setMode_clk (s : State) (m : Mode) : (s.setMode m).clk = s.clk := by unfold State.setMode; split <;> simp
@[simp] theorem State.setMode_cap (s : State) (m : Mode) : (s.setMode m).cap = s.cap := by unfold State.setMode; split <;> simp
@[simp] theorem State.setMode_cup (s : State) (m : Mode) : (s.setMode m).cup = s.cup := by unfold State.setMode; split <;> simp
@[simp] theorem State.setMode_car (s : State) (m : Mode) : (s.setMode m).car = s.car := by unfold State.setMode; split <;> simp
@[simp] theorem State.setMode_fuse (s : State) (m : Mode) : (s.setMode m).fuse = s.fuse := by unfold State.setMode; split <;> simp
@[simp] theorem State.setMode_sec (s : State) (m : Mode) : (s.setMode m).sec = s.sec := by unfold State.setMode; split <;> simp
@[simp] theorem State.setMode_jobs (s : State) (m : Mode) : (s.setMode m).jobs = s.jobs := by unfold State.setMode; split <;> simp
@[simp] theorem State.setMode_tiles (s : State) (m : Mode) : (s.setMode m).tiles = s.tiles := by unfold State.setMode; split <;> simp

/-- R335: a mode change changes MODE and the mode before, and no other part of the mode state. -/
theorem State.setMode_md (s : State) (m : Mode) :
    (s.setMode m).md = if s.md.mode = m then s.md else { s.md with mode := m, prev := s.md.mode.code } := by
  unfold State.setMode; split <;> simp

@[simp] theorem State.setMode_mode (s : State) (m : Mode) : (s.setMode m).md.mode = m := by
  rw [State.setMode_md]; split <;> simp_all

/-! ### Porter's completion -/

@[simp] theorem State.ensureExec_pending (s : State) (pc : PortCmd) (o : Nat) : (s.ensureExec pc o).pending = s.pending := by unfold State.ensureExec; split <;> simp
@[simp] theorem State.ensureExec_free (s : State) (pc : PortCmd) (o : Nat) : (s.ensureExec pc o).free = s.free := by unfold State.ensureExec; split <;> simp
@[simp] theorem State.ensureExec_draws (s : State) (pc : PortCmd) (o : Nat) : (s.ensureExec pc o).draws = s.draws := by unfold State.ensureExec; split <;> simp
@[simp] theorem State.ensureExec_outbox (s : State) (pc : PortCmd) (o : Nat) : (s.ensureExec pc o).outbox = s.outbox := by unfold State.ensureExec; split <;> simp
@[simp] theorem State.ensureExec_pop (s : State) (pc : PortCmd) (o : Nat) : (s.ensureExec pc o).pop = s.pop := by unfold State.ensureExec; split <;> simp
@[simp] theorem State.ensureExec_reg (s : State) (pc : PortCmd) (o : Nat) : (s.ensureExec pc o).reg = s.reg := by unfold State.ensureExec; split <;> simp
@[simp] theorem State.ensureExec_gb (s : State) (pc : PortCmd) (o : Nat) : (s.ensureExec pc o).gb = s.gb := by unfold State.ensureExec; split <;> simp
@[simp] theorem State.ensureExec_ps (s : State) (pc : PortCmd) (o : Nat) : (s.ensureExec pc o).ps = s.ps := by unfold State.ensureExec; split <;> simp
@[simp] theorem State.ensureExec_md (s : State) (pc : PortCmd) (o : Nat) : (s.ensureExec pc o).md = s.md := by unfold State.ensureExec; split <;> simp
@[simp] theorem State.ensureExec_pw (s : State) (pc : PortCmd) (o : Nat) : (s.ensureExec pc o).pw = s.pw := by unfold State.ensureExec; split <;> simp
@[simp] theorem State.ensureExec_bel (s : State) (pc : PortCmd) (o : Nat) : (s.ensureExec pc o).bel = s.bel := by unfold State.ensureExec; split <;> simp
@[simp] theorem State.ensureExec_wins (s : State) (pc : PortCmd) (o : Nat) : (s.ensureExec pc o).wins = s.wins := by unfold State.ensureExec; split <;> simp
@[simp] theorem State.ensureExec_clk (s : State) (pc : PortCmd) (o : Nat) : (s.ensureExec pc o).clk = s.clk := by unfold State.ensureExec; split <;> simp
@[simp] theorem State.ensureExec_thm (s : State) (pc : PortCmd) (o : Nat) : (s.ensureExec pc o).thm = s.thm := by unfold State.ensureExec; split <;> simp
@[simp] theorem State.ensureExec_cap (s : State) (pc : PortCmd) (o : Nat) : (s.ensureExec pc o).cap = s.cap := by unfold State.ensureExec; split <;> simp
@[simp] theorem State.ensureExec_cup (s : State) (pc : PortCmd) (o : Nat) : (s.ensureExec pc o).cup = s.cup := by unfold State.ensureExec; split <;> simp
@[simp] theorem State.ensureExec_car (s : State) (pc : PortCmd) (o : Nat) : (s.ensureExec pc o).car = s.car := by unfold State.ensureExec; split <;> simp
@[simp] theorem State.ensureExec_fuse (s : State) (pc : PortCmd) (o : Nat) : (s.ensureExec pc o).fuse = s.fuse := by unfold State.ensureExec; split <;> simp
@[simp] theorem State.ensureExec_sec (s : State) (pc : PortCmd) (o : Nat) : (s.ensureExec pc o).sec = s.sec := by unfold State.ensureExec; split <;> simp
@[simp] theorem State.ensureExec_jobs (s : State) (pc : PortCmd) (o : Nat) : (s.ensureExec pc o).jobs = s.jobs := by unfold State.ensureExec; split <;> simp
@[simp] theorem State.ensureExec_tiles (s : State) (pc : PortCmd) (o : Nat) : (s.ensureExec pc o).tiles = s.tiles := by unfold State.ensureExec; split <;> simp

@[simp] theorem State.finish_pending (s : State) (pc : PortCmd) (r : CmdResult) : (s.finish pc r).pending = s.pending := rfl
@[simp] theorem State.finish_free (s : State) (pc : PortCmd) (r : CmdResult) : (s.finish pc r).free = s.free := rfl
@[simp] theorem State.finish_draws (s : State) (pc : PortCmd) (r : CmdResult) : (s.finish pc r).draws = s.draws := rfl
@[simp] theorem State.finish_outbox (s : State) (pc : PortCmd) (r : CmdResult) : (s.finish pc r).outbox = s.outbox := rfl
@[simp] theorem State.finish_pop (s : State) (pc : PortCmd) (r : CmdResult) : (s.finish pc r).pop = s.pop := rfl
@[simp] theorem State.finish_reg (s : State) (pc : PortCmd) (r : CmdResult) : (s.finish pc r).reg = s.reg := rfl
@[simp] theorem State.finish_gb (s : State) (pc : PortCmd) (r : CmdResult) : (s.finish pc r).gb = s.gb := rfl
@[simp] theorem State.finish_ps (s : State) (pc : PortCmd) (r : CmdResult) : (s.finish pc r).ps = s.ps := rfl
@[simp] theorem State.finish_md (s : State) (pc : PortCmd) (r : CmdResult) : (s.finish pc r).md = s.md := rfl
@[simp] theorem State.finish_pw (s : State) (pc : PortCmd) (r : CmdResult) : (s.finish pc r).pw = s.pw := rfl
@[simp] theorem State.finish_bel (s : State) (pc : PortCmd) (r : CmdResult) : (s.finish pc r).bel = s.bel := rfl
@[simp] theorem State.finish_wins (s : State) (pc : PortCmd) (r : CmdResult) : (s.finish pc r).wins = s.wins := rfl
@[simp] theorem State.finish_clk (s : State) (pc : PortCmd) (r : CmdResult) : (s.finish pc r).clk = s.clk := rfl
@[simp] theorem State.finish_thm (s : State) (pc : PortCmd) (r : CmdResult) : (s.finish pc r).thm = s.thm := rfl
@[simp] theorem State.finish_cap (s : State) (pc : PortCmd) (r : CmdResult) : (s.finish pc r).cap = s.cap := rfl
@[simp] theorem State.finish_cup (s : State) (pc : PortCmd) (r : CmdResult) : (s.finish pc r).cup = s.cup := rfl
@[simp] theorem State.finish_car (s : State) (pc : PortCmd) (r : CmdResult) : (s.finish pc r).car = s.car := rfl
@[simp] theorem State.finish_fuse (s : State) (pc : PortCmd) (r : CmdResult) : (s.finish pc r).fuse = s.fuse := rfl
@[simp] theorem State.finish_sec (s : State) (pc : PortCmd) (r : CmdResult) : (s.finish pc r).sec = s.sec := rfl
@[simp] theorem State.finish_jobs (s : State) (pc : PortCmd) (r : CmdResult) : (s.finish pc r).jobs = s.jobs := rfl
@[simp] theorem State.finish_tiles (s : State) (pc : PortCmd) (r : CmdResult) : (s.finish pc r).tiles = s.tiles := rfl

@[simp] theorem State.ok_pending (s : State) (pc : PortCmd) (r : List (Nat × Nat)) : (s.ok pc r).pending = s.pending := rfl
@[simp] theorem State.ok_free (s : State) (pc : PortCmd) (r : List (Nat × Nat)) : (s.ok pc r).free = s.free := rfl
@[simp] theorem State.ok_draws (s : State) (pc : PortCmd) (r : List (Nat × Nat)) : (s.ok pc r).draws = s.draws := rfl
@[simp] theorem State.ok_outbox (s : State) (pc : PortCmd) (r : List (Nat × Nat)) : (s.ok pc r).outbox = s.outbox := rfl
@[simp] theorem State.ok_pop (s : State) (pc : PortCmd) (r : List (Nat × Nat)) : (s.ok pc r).pop = s.pop := rfl
@[simp] theorem State.ok_reg (s : State) (pc : PortCmd) (r : List (Nat × Nat)) : (s.ok pc r).reg = s.reg := rfl
@[simp] theorem State.ok_gb (s : State) (pc : PortCmd) (r : List (Nat × Nat)) : (s.ok pc r).gb = s.gb := rfl
@[simp] theorem State.ok_ps (s : State) (pc : PortCmd) (r : List (Nat × Nat)) : (s.ok pc r).ps = s.ps := rfl
@[simp] theorem State.ok_md (s : State) (pc : PortCmd) (r : List (Nat × Nat)) : (s.ok pc r).md = s.md := rfl
@[simp] theorem State.ok_pw (s : State) (pc : PortCmd) (r : List (Nat × Nat)) : (s.ok pc r).pw = s.pw := rfl
@[simp] theorem State.ok_bel (s : State) (pc : PortCmd) (r : List (Nat × Nat)) : (s.ok pc r).bel = s.bel := rfl
@[simp] theorem State.ok_wins (s : State) (pc : PortCmd) (r : List (Nat × Nat)) : (s.ok pc r).wins = s.wins := rfl
@[simp] theorem State.ok_clk (s : State) (pc : PortCmd) (r : List (Nat × Nat)) : (s.ok pc r).clk = s.clk := rfl
@[simp] theorem State.ok_thm (s : State) (pc : PortCmd) (r : List (Nat × Nat)) : (s.ok pc r).thm = s.thm := rfl
@[simp] theorem State.ok_cap (s : State) (pc : PortCmd) (r : List (Nat × Nat)) : (s.ok pc r).cap = s.cap := rfl
@[simp] theorem State.ok_cup (s : State) (pc : PortCmd) (r : List (Nat × Nat)) : (s.ok pc r).cup = s.cup := rfl
@[simp] theorem State.ok_car (s : State) (pc : PortCmd) (r : List (Nat × Nat)) : (s.ok pc r).car = s.car := rfl
@[simp] theorem State.ok_fuse (s : State) (pc : PortCmd) (r : List (Nat × Nat)) : (s.ok pc r).fuse = s.fuse := rfl
@[simp] theorem State.ok_sec (s : State) (pc : PortCmd) (r : List (Nat × Nat)) : (s.ok pc r).sec = s.sec := rfl
@[simp] theorem State.ok_jobs (s : State) (pc : PortCmd) (r : List (Nat × Nat)) : (s.ok pc r).jobs = s.jobs := rfl
@[simp] theorem State.ok_tiles (s : State) (pc : PortCmd) (r : List (Nat × Nat)) : (s.ok pc r).tiles = s.tiles := rfl

@[simp] theorem State.fail_pending (s : State) (pc : PortCmd) (st : Status) (d : Nat) : (s.fail pc st d).pending = s.pending := rfl
@[simp] theorem State.fail_free (s : State) (pc : PortCmd) (st : Status) (d : Nat) : (s.fail pc st d).free = s.free := rfl
@[simp] theorem State.fail_draws (s : State) (pc : PortCmd) (st : Status) (d : Nat) : (s.fail pc st d).draws = s.draws := rfl
@[simp] theorem State.fail_outbox (s : State) (pc : PortCmd) (st : Status) (d : Nat) : (s.fail pc st d).outbox = s.outbox := rfl
@[simp] theorem State.fail_pop (s : State) (pc : PortCmd) (st : Status) (d : Nat) : (s.fail pc st d).pop = s.pop := rfl
@[simp] theorem State.fail_reg (s : State) (pc : PortCmd) (st : Status) (d : Nat) : (s.fail pc st d).reg = s.reg := rfl
@[simp] theorem State.fail_gb (s : State) (pc : PortCmd) (st : Status) (d : Nat) : (s.fail pc st d).gb = s.gb := rfl
@[simp] theorem State.fail_ps (s : State) (pc : PortCmd) (st : Status) (d : Nat) : (s.fail pc st d).ps = s.ps := rfl
@[simp] theorem State.fail_md (s : State) (pc : PortCmd) (st : Status) (d : Nat) : (s.fail pc st d).md = s.md := rfl
@[simp] theorem State.fail_pw (s : State) (pc : PortCmd) (st : Status) (d : Nat) : (s.fail pc st d).pw = s.pw := rfl
@[simp] theorem State.fail_bel (s : State) (pc : PortCmd) (st : Status) (d : Nat) : (s.fail pc st d).bel = s.bel := rfl
@[simp] theorem State.fail_wins (s : State) (pc : PortCmd) (st : Status) (d : Nat) : (s.fail pc st d).wins = s.wins := rfl
@[simp] theorem State.fail_clk (s : State) (pc : PortCmd) (st : Status) (d : Nat) : (s.fail pc st d).clk = s.clk := rfl
@[simp] theorem State.fail_thm (s : State) (pc : PortCmd) (st : Status) (d : Nat) : (s.fail pc st d).thm = s.thm := rfl
@[simp] theorem State.fail_cap (s : State) (pc : PortCmd) (st : Status) (d : Nat) : (s.fail pc st d).cap = s.cap := rfl
@[simp] theorem State.fail_cup (s : State) (pc : PortCmd) (st : Status) (d : Nat) : (s.fail pc st d).cup = s.cup := rfl
@[simp] theorem State.fail_car (s : State) (pc : PortCmd) (st : Status) (d : Nat) : (s.fail pc st d).car = s.car := rfl
@[simp] theorem State.fail_fuse (s : State) (pc : PortCmd) (st : Status) (d : Nat) : (s.fail pc st d).fuse = s.fuse := rfl
@[simp] theorem State.fail_sec (s : State) (pc : PortCmd) (st : Status) (d : Nat) : (s.fail pc st d).sec = s.sec := rfl
@[simp] theorem State.fail_jobs (s : State) (pc : PortCmd) (st : Status) (d : Nat) : (s.fail pc st d).jobs = s.jobs := rfl
@[simp] theorem State.fail_tiles (s : State) (pc : PortCmd) (st : Status) (d : Nat) : (s.fail pc st d).tiles = s.tiles := rfl

@[simp] theorem State.psStore_pending (s : State) (i : Nat) (v : List Byte) (c : PsCaller) : (s.psStore i v c).1.pending = s.pending := by unfold State.psStore; split <;> simp
@[simp] theorem State.psStore_free (s : State) (i : Nat) (v : List Byte) (c : PsCaller) : (s.psStore i v c).1.free = s.free := by unfold State.psStore; split <;> simp
@[simp] theorem State.psStore_draws (s : State) (i : Nat) (v : List Byte) (c : PsCaller) : (s.psStore i v c).1.draws = s.draws := by unfold State.psStore; split <;> simp
@[simp] theorem State.psStore_outbox (s : State) (i : Nat) (v : List Byte) (c : PsCaller) : (s.psStore i v c).1.outbox = s.outbox := by unfold State.psStore; split <;> simp
@[simp] theorem State.psStore_pop (s : State) (i : Nat) (v : List Byte) (c : PsCaller) : (s.psStore i v c).1.pop = s.pop := by unfold State.psStore; split <;> simp
@[simp] theorem State.psStore_reg (s : State) (i : Nat) (v : List Byte) (c : PsCaller) : (s.psStore i v c).1.reg = s.reg := by unfold State.psStore; split <;> simp
@[simp] theorem State.psStore_gb (s : State) (i : Nat) (v : List Byte) (c : PsCaller) : (s.psStore i v c).1.gb = s.gb := by unfold State.psStore; split <;> simp
@[simp] theorem State.psStore_md (s : State) (i : Nat) (v : List Byte) (c : PsCaller) : (s.psStore i v c).1.md = s.md := by unfold State.psStore; split <;> simp
@[simp] theorem State.psStore_pw (s : State) (i : Nat) (v : List Byte) (c : PsCaller) : (s.psStore i v c).1.pw = s.pw := by unfold State.psStore; split <;> simp
@[simp] theorem State.psStore_porter (s : State) (i : Nat) (v : List Byte) (c : PsCaller) : (s.psStore i v c).1.porter = s.porter := by unfold State.psStore; split <;> simp
@[simp] theorem State.psStore_bel (s : State) (i : Nat) (v : List Byte) (c : PsCaller) : (s.psStore i v c).1.bel = s.bel := by unfold State.psStore; split <;> simp
@[simp] theorem State.psStore_wins (s : State) (i : Nat) (v : List Byte) (c : PsCaller) : (s.psStore i v c).1.wins = s.wins := by unfold State.psStore; split <;> simp
@[simp] theorem State.psStore_clk (s : State) (i : Nat) (v : List Byte) (c : PsCaller) : (s.psStore i v c).1.clk = s.clk := by unfold State.psStore; split <;> simp
@[simp] theorem State.psStore_thm (s : State) (i : Nat) (v : List Byte) (c : PsCaller) : (s.psStore i v c).1.thm = s.thm := by unfold State.psStore; split <;> simp
@[simp] theorem State.psStore_cap (s : State) (i : Nat) (v : List Byte) (c : PsCaller) : (s.psStore i v c).1.cap = s.cap := by unfold State.psStore; split <;> simp
@[simp] theorem State.psStore_cup (s : State) (i : Nat) (v : List Byte) (c : PsCaller) : (s.psStore i v c).1.cup = s.cup := by unfold State.psStore; split <;> simp
@[simp] theorem State.psStore_car (s : State) (i : Nat) (v : List Byte) (c : PsCaller) : (s.psStore i v c).1.car = s.car := by unfold State.psStore; split <;> simp
@[simp] theorem State.psStore_fuse (s : State) (i : Nat) (v : List Byte) (c : PsCaller) : (s.psStore i v c).1.fuse = s.fuse := by unfold State.psStore; split <;> simp
@[simp] theorem State.psStore_sec (s : State) (i : Nat) (v : List Byte) (c : PsCaller) : (s.psStore i v c).1.sec = s.sec := by unfold State.psStore; split <;> simp
@[simp] theorem State.psStore_jobs (s : State) (i : Nat) (v : List Byte) (c : PsCaller) : (s.psStore i v c).1.jobs = s.jobs := by unfold State.psStore; split <;> simp
@[simp] theorem State.psStore_tiles (s : State) (i : Nat) (v : List Byte) (c : PsCaller) : (s.psStore i v c).1.tiles = s.tiles := by unfold State.psStore; split <;> simp

@[simp] theorem State.psPut_pending (s : State) (i : Nat) (v : List Byte) : (s.psPut i v).pending = s.pending := by simp [State.psPut]
@[simp] theorem State.psPut_free (s : State) (i : Nat) (v : List Byte) : (s.psPut i v).free = s.free := by simp [State.psPut]
@[simp] theorem State.psPut_draws (s : State) (i : Nat) (v : List Byte) : (s.psPut i v).draws = s.draws := by simp [State.psPut]
@[simp] theorem State.psPut_outbox (s : State) (i : Nat) (v : List Byte) : (s.psPut i v).outbox = s.outbox := by simp [State.psPut]
@[simp] theorem State.psPut_pop (s : State) (i : Nat) (v : List Byte) : (s.psPut i v).pop = s.pop := by simp [State.psPut]
@[simp] theorem State.psPut_reg (s : State) (i : Nat) (v : List Byte) : (s.psPut i v).reg = s.reg := by simp [State.psPut]
@[simp] theorem State.psPut_gb (s : State) (i : Nat) (v : List Byte) : (s.psPut i v).gb = s.gb := by simp [State.psPut]
@[simp] theorem State.psPut_md (s : State) (i : Nat) (v : List Byte) : (s.psPut i v).md = s.md := by simp [State.psPut]
@[simp] theorem State.psPut_pw (s : State) (i : Nat) (v : List Byte) : (s.psPut i v).pw = s.pw := by simp [State.psPut]
@[simp] theorem State.psPut_porter (s : State) (i : Nat) (v : List Byte) : (s.psPut i v).porter = s.porter := by simp [State.psPut]
@[simp] theorem State.psPut_bel (s : State) (i : Nat) (v : List Byte) : (s.psPut i v).bel = s.bel := by simp [State.psPut]
@[simp] theorem State.psPut_wins (s : State) (i : Nat) (v : List Byte) : (s.psPut i v).wins = s.wins := by simp [State.psPut]
@[simp] theorem State.psPut_clk (s : State) (i : Nat) (v : List Byte) : (s.psPut i v).clk = s.clk := by simp [State.psPut]
@[simp] theorem State.psPut_thm (s : State) (i : Nat) (v : List Byte) : (s.psPut i v).thm = s.thm := by simp [State.psPut]
@[simp] theorem State.psPut_cap (s : State) (i : Nat) (v : List Byte) : (s.psPut i v).cap = s.cap := by simp [State.psPut]
@[simp] theorem State.psPut_cup (s : State) (i : Nat) (v : List Byte) : (s.psPut i v).cup = s.cup := by simp [State.psPut]
@[simp] theorem State.psPut_car (s : State) (i : Nat) (v : List Byte) : (s.psPut i v).car = s.car := by simp [State.psPut]
@[simp] theorem State.psPut_fuse (s : State) (i : Nat) (v : List Byte) : (s.psPut i v).fuse = s.fuse := by simp [State.psPut]
@[simp] theorem State.psPut_sec (s : State) (i : Nat) (v : List Byte) : (s.psPut i v).sec = s.sec := by simp [State.psPut]
@[simp] theorem State.psPut_jobs (s : State) (i : Nat) (v : List Byte) : (s.psPut i v).jobs = s.jobs := by simp [State.psPut]
@[simp] theorem State.psPut_tiles (s : State) (i : Nat) (v : List Byte) : (s.psPut i v).tiles = s.tiles := by simp [State.psPut]

@[simp] theorem State.psRequest_pending (s : State) (c : PsCaller) : (s.psRequest c).pending = s.pending := rfl
@[simp] theorem State.psRequest_free (s : State) (c : PsCaller) : (s.psRequest c).free = s.free := rfl
@[simp] theorem State.psRequest_draws (s : State) (c : PsCaller) : (s.psRequest c).draws = s.draws := rfl
@[simp] theorem State.psRequest_outbox (s : State) (c : PsCaller) : (s.psRequest c).outbox = s.outbox := rfl
@[simp] theorem State.psRequest_pop (s : State) (c : PsCaller) : (s.psRequest c).pop = s.pop := rfl
@[simp] theorem State.psRequest_reg (s : State) (c : PsCaller) : (s.psRequest c).reg = s.reg := rfl
@[simp] theorem State.psRequest_gb (s : State) (c : PsCaller) : (s.psRequest c).gb = s.gb := rfl
@[simp] theorem State.psRequest_md (s : State) (c : PsCaller) : (s.psRequest c).md = s.md := rfl
@[simp] theorem State.psRequest_pw (s : State) (c : PsCaller) : (s.psRequest c).pw = s.pw := rfl
@[simp] theorem State.psRequest_porter (s : State) (c : PsCaller) : (s.psRequest c).porter = s.porter := rfl
@[simp] theorem State.psRequest_bel (s : State) (c : PsCaller) : (s.psRequest c).bel = s.bel := rfl
@[simp] theorem State.psRequest_wins (s : State) (c : PsCaller) : (s.psRequest c).wins = s.wins := rfl
@[simp] theorem State.psRequest_clk (s : State) (c : PsCaller) : (s.psRequest c).clk = s.clk := rfl
@[simp] theorem State.psRequest_thm (s : State) (c : PsCaller) : (s.psRequest c).thm = s.thm := rfl
@[simp] theorem State.psRequest_cap (s : State) (c : PsCaller) : (s.psRequest c).cap = s.cap := rfl
@[simp] theorem State.psRequest_cup (s : State) (c : PsCaller) : (s.psRequest c).cup = s.cup := rfl
@[simp] theorem State.psRequest_car (s : State) (c : PsCaller) : (s.psRequest c).car = s.car := rfl
@[simp] theorem State.psRequest_fuse (s : State) (c : PsCaller) : (s.psRequest c).fuse = s.fuse := rfl
@[simp] theorem State.psRequest_sec (s : State) (c : PsCaller) : (s.psRequest c).sec = s.sec := rfl
@[simp] theorem State.psRequest_jobs (s : State) (c : PsCaller) : (s.psRequest c).jobs = s.jobs := rfl
@[simp] theorem State.psRequest_tiles (s : State) (c : PsCaller) : (s.psRequest c).tiles = s.tiles := rfl

theorem psPuts_pending (l : List (Nat × List Byte)) (s : State) : (l.foldl (fun a p => State.psPut a p.1 p.2) s).pending = s.pending := by
  induction l generalizing s with
  | nil => rfl
  | cons p l ih => simp [ih]
@[simp] theorem State.psPersist_pending (s : State) (pc : PortCmd) (l : List (Nat × List Byte)) : (s.psPersist pc l).pending = s.pending := by
  unfold State.psPersist; dsimp only; split <;> simp [psPuts_pending]
theorem psPuts_free (l : List (Nat × List Byte)) (s : State) : (l.foldl (fun a p => State.psPut a p.1 p.2) s).free = s.free := by
  induction l generalizing s with
  | nil => rfl
  | cons p l ih => simp [ih]
@[simp] theorem State.psPersist_free (s : State) (pc : PortCmd) (l : List (Nat × List Byte)) : (s.psPersist pc l).free = s.free := by
  unfold State.psPersist; dsimp only; split <;> simp [psPuts_free]
theorem psPuts_draws (l : List (Nat × List Byte)) (s : State) : (l.foldl (fun a p => State.psPut a p.1 p.2) s).draws = s.draws := by
  induction l generalizing s with
  | nil => rfl
  | cons p l ih => simp [ih]
@[simp] theorem State.psPersist_draws (s : State) (pc : PortCmd) (l : List (Nat × List Byte)) : (s.psPersist pc l).draws = s.draws := by
  unfold State.psPersist; dsimp only; split <;> simp [psPuts_draws]
theorem psPuts_outbox (l : List (Nat × List Byte)) (s : State) : (l.foldl (fun a p => State.psPut a p.1 p.2) s).outbox = s.outbox := by
  induction l generalizing s with
  | nil => rfl
  | cons p l ih => simp [ih]
@[simp] theorem State.psPersist_outbox (s : State) (pc : PortCmd) (l : List (Nat × List Byte)) : (s.psPersist pc l).outbox = s.outbox := by
  unfold State.psPersist; dsimp only; split <;> simp [psPuts_outbox]
theorem psPuts_pop (l : List (Nat × List Byte)) (s : State) : (l.foldl (fun a p => State.psPut a p.1 p.2) s).pop = s.pop := by
  induction l generalizing s with
  | nil => rfl
  | cons p l ih => simp [ih]
@[simp] theorem State.psPersist_pop (s : State) (pc : PortCmd) (l : List (Nat × List Byte)) : (s.psPersist pc l).pop = s.pop := by
  unfold State.psPersist; dsimp only; split <;> simp [psPuts_pop]
theorem psPuts_reg (l : List (Nat × List Byte)) (s : State) : (l.foldl (fun a p => State.psPut a p.1 p.2) s).reg = s.reg := by
  induction l generalizing s with
  | nil => rfl
  | cons p l ih => simp [ih]
@[simp] theorem State.psPersist_reg (s : State) (pc : PortCmd) (l : List (Nat × List Byte)) : (s.psPersist pc l).reg = s.reg := by
  unfold State.psPersist; dsimp only; split <;> simp [psPuts_reg]
theorem psPuts_gb (l : List (Nat × List Byte)) (s : State) : (l.foldl (fun a p => State.psPut a p.1 p.2) s).gb = s.gb := by
  induction l generalizing s with
  | nil => rfl
  | cons p l ih => simp [ih]
@[simp] theorem State.psPersist_gb (s : State) (pc : PortCmd) (l : List (Nat × List Byte)) : (s.psPersist pc l).gb = s.gb := by
  unfold State.psPersist; dsimp only; split <;> simp [psPuts_gb]
theorem psPuts_md (l : List (Nat × List Byte)) (s : State) : (l.foldl (fun a p => State.psPut a p.1 p.2) s).md = s.md := by
  induction l generalizing s with
  | nil => rfl
  | cons p l ih => simp [ih]
@[simp] theorem State.psPersist_md (s : State) (pc : PortCmd) (l : List (Nat × List Byte)) : (s.psPersist pc l).md = s.md := by
  unfold State.psPersist; dsimp only; split <;> simp [psPuts_md]
theorem psPuts_pw (l : List (Nat × List Byte)) (s : State) : (l.foldl (fun a p => State.psPut a p.1 p.2) s).pw = s.pw := by
  induction l generalizing s with
  | nil => rfl
  | cons p l ih => simp [ih]
@[simp] theorem State.psPersist_pw (s : State) (pc : PortCmd) (l : List (Nat × List Byte)) : (s.psPersist pc l).pw = s.pw := by
  unfold State.psPersist; dsimp only; split <;> simp [psPuts_pw]
theorem psPuts_porter (l : List (Nat × List Byte)) (s : State) : (l.foldl (fun a p => State.psPut a p.1 p.2) s).porter = s.porter := by
  induction l generalizing s with
  | nil => rfl
  | cons p l ih => simp [ih]
@[simp] theorem State.psPersist_porter (s : State) (pc : PortCmd) (l : List (Nat × List Byte)) : (s.psPersist pc l).porter = s.porter := by
  unfold State.psPersist; dsimp only; split <;> simp [psPuts_porter]
theorem psPuts_bel (l : List (Nat × List Byte)) (s : State) : (l.foldl (fun a p => State.psPut a p.1 p.2) s).bel = s.bel := by
  induction l generalizing s with
  | nil => rfl
  | cons p l ih => simp [ih]
@[simp] theorem State.psPersist_bel (s : State) (pc : PortCmd) (l : List (Nat × List Byte)) : (s.psPersist pc l).bel = s.bel := by
  unfold State.psPersist; dsimp only; split <;> simp [psPuts_bel]
theorem psPuts_wins (l : List (Nat × List Byte)) (s : State) : (l.foldl (fun a p => State.psPut a p.1 p.2) s).wins = s.wins := by
  induction l generalizing s with
  | nil => rfl
  | cons p l ih => simp [ih]
@[simp] theorem State.psPersist_wins (s : State) (pc : PortCmd) (l : List (Nat × List Byte)) : (s.psPersist pc l).wins = s.wins := by
  unfold State.psPersist; dsimp only; split <;> simp [psPuts_wins]
theorem psPuts_clk (l : List (Nat × List Byte)) (s : State) : (l.foldl (fun a p => State.psPut a p.1 p.2) s).clk = s.clk := by
  induction l generalizing s with
  | nil => rfl
  | cons p l ih => simp [ih]
@[simp] theorem State.psPersist_clk (s : State) (pc : PortCmd) (l : List (Nat × List Byte)) : (s.psPersist pc l).clk = s.clk := by
  unfold State.psPersist; dsimp only; split <;> simp [psPuts_clk]
theorem psPuts_thm (l : List (Nat × List Byte)) (s : State) : (l.foldl (fun a p => State.psPut a p.1 p.2) s).thm = s.thm := by
  induction l generalizing s with
  | nil => rfl
  | cons p l ih => simp [ih]
@[simp] theorem State.psPersist_thm (s : State) (pc : PortCmd) (l : List (Nat × List Byte)) : (s.psPersist pc l).thm = s.thm := by
  unfold State.psPersist; dsimp only; split <;> simp [psPuts_thm]
theorem psPuts_cap (l : List (Nat × List Byte)) (s : State) : (l.foldl (fun a p => State.psPut a p.1 p.2) s).cap = s.cap := by
  induction l generalizing s with
  | nil => rfl
  | cons p l ih => simp [ih]
@[simp] theorem State.psPersist_cap (s : State) (pc : PortCmd) (l : List (Nat × List Byte)) : (s.psPersist pc l).cap = s.cap := by
  unfold State.psPersist; dsimp only; split <;> simp [psPuts_cap]
theorem psPuts_cup (l : List (Nat × List Byte)) (s : State) : (l.foldl (fun a p => State.psPut a p.1 p.2) s).cup = s.cup := by
  induction l generalizing s with
  | nil => rfl
  | cons p l ih => simp [ih]
@[simp] theorem State.psPersist_cup (s : State) (pc : PortCmd) (l : List (Nat × List Byte)) : (s.psPersist pc l).cup = s.cup := by
  unfold State.psPersist; dsimp only; split <;> simp [psPuts_cup]
theorem psPuts_car (l : List (Nat × List Byte)) (s : State) : (l.foldl (fun a p => State.psPut a p.1 p.2) s).car = s.car := by
  induction l generalizing s with
  | nil => rfl
  | cons p l ih => simp [ih]
@[simp] theorem State.psPersist_car (s : State) (pc : PortCmd) (l : List (Nat × List Byte)) : (s.psPersist pc l).car = s.car := by
  unfold State.psPersist; dsimp only; split <;> simp [psPuts_car]
theorem psPuts_fuse (l : List (Nat × List Byte)) (s : State) : (l.foldl (fun a p => State.psPut a p.1 p.2) s).fuse = s.fuse := by
  induction l generalizing s with
  | nil => rfl
  | cons p l ih => simp [ih]
@[simp] theorem State.psPersist_fuse (s : State) (pc : PortCmd) (l : List (Nat × List Byte)) : (s.psPersist pc l).fuse = s.fuse := by
  unfold State.psPersist; dsimp only; split <;> simp [psPuts_fuse]
theorem psPuts_sec (l : List (Nat × List Byte)) (s : State) : (l.foldl (fun a p => State.psPut a p.1 p.2) s).sec = s.sec := by
  induction l generalizing s with
  | nil => rfl
  | cons p l ih => simp [ih]
@[simp] theorem State.psPersist_sec (s : State) (pc : PortCmd) (l : List (Nat × List Byte)) : (s.psPersist pc l).sec = s.sec := by
  unfold State.psPersist; dsimp only; split <;> simp [psPuts_sec]
theorem psPuts_jobs (l : List (Nat × List Byte)) (s : State) : (l.foldl (fun a p => State.psPut a p.1 p.2) s).jobs = s.jobs := by
  induction l generalizing s with
  | nil => rfl
  | cons p l ih => simp [ih]
@[simp] theorem State.psPersist_jobs (s : State) (pc : PortCmd) (l : List (Nat × List Byte)) : (s.psPersist pc l).jobs = s.jobs := by
  unfold State.psPersist; dsimp only; split <;> simp [psPuts_jobs]
theorem psPuts_tiles (l : List (Nat × List Byte)) (s : State) : (l.foldl (fun a p => State.psPut a p.1 p.2) s).tiles = s.tiles := by
  induction l generalizing s with
  | nil => rfl
  | cons p l ih => simp [ih]
@[simp] theorem State.psPersist_tiles (s : State) (pc : PortCmd) (l : List (Nat × List Byte)) : (s.psPersist pc l).tiles = s.tiles := by
  unfold State.psPersist; dsimp only; split <;> simp [psPuts_tiles]

/-- R417: what running a Porter command can do: nothing while no ring runs; NOT_PRIVILEGED; WRONG_MODE; or the command. -/
theorem State.porterRun_cases (s : State) (pc : PortCmd) (op : Nat) (priv ok : Bool) (body : State → State) :
    s.porterRun pc op priv ok body = s ∨
    s.porterRun pc op priv ok body = (s.ensureExec pc op).fail pc .notPrivileged 0 ∨
    s.porterRun pc op priv ok body = (s.ensureExec pc op).fail pc .wrongMode s.md.mode.code ∨
    s.porterRun pc op priv ok body = body (s.ensureExec pc op) := by
  unfold State.porterRun
  dsimp only
  split
  · split
    · exact .inr (.inl rfl)
    · split
      · exact .inr (.inr (.inl rfl))
      · exact .inr (.inr (.inr rfl))
  · exact .inl rfl

/-- R417: a Porter command runs on a ring that is privileged enough, in one of its modes. -/
theorem State.porterRun_runs (s : State) (pc : PortCmd) (op : Nat) (priv ok : Bool) (body : State → State)
    (h1 : s.md.ringsRun = true) (h2 : priv = true → s.ringPriv pc.ring = true) (h3 : ok = true)
    (h4 : s.sec.romOnly = true → romOps.contains op = true) :
    s.porterRun pc op priv ok body = body (s.ensureExec pc op) := by
  unfold State.porterRun
  have e : (s.ensureExec pc op).ringPriv pc.ring = s.ringPriv pc.ring := by
    simp [State.ringPriv, State.regBit, State.fld, State.getReg]
  cases priv <;> cases hr : s.sec.romOnly <;> simp_all

end Sys2Proof.Machine
end

