-- ==== Sys2Proof/Laws/Porter.lean ====
section
/-! SUPPORT. Laws/Porter.lean: how a Porter command ends: the result it was given, and that events, flags and interrupts
leave every ring's commands alone. -/

namespace Sys2Proof.Machine

/-- The commands of every ring are as before. -/
def SameExecs (s t : State) : Prop := ∀ r, (t.ring r).execs = (s.ring r).execs

theorem SameExecs.refl (s : State) : SameExecs s s := fun _ => rfl

theorem SameExecs.trans {a b c : State} (h : SameExecs a b) (k : SameExecs b c) : SameExecs a c := fun r => (k r).trans (h r)

theorem sameExecs_of_porter {s t : State} (h : t.porter = s.porter) : SameExecs s t := fun r => by simp [State.ring, h]

theorem sameExecs_modRing (s : State) (r : Nat) (f : Ring → Ring) (h : ∀ g, (f g).execs = g.execs) : SameExecs s (s.modRing r f) := by
  intro k
  by_cases hk : k = r
  · subst hk
    by_cases hb : k < 64
    · rw [State.ring_modRing_self s f hb, h]
    · simp [State.ring, State.modRing, vget, vmod, lmod, hb]
  · rw [State.ring_modRing_ne hk]

theorem SameExecs.foldl {β : Type} (f : State → β → State) (h : ∀ a b, SameExecs a (f a b)) (l : List β) (s : State) :
    SameExecs s (l.foldl f s) := by
  induction l generalizing s with
  | nil => exact .refl s
  | cons b l ih => exact (h s b).trans (ih _)

theorem sameExecs_cqWrite (s : State) (r : Nat) (a b : List Byte) : SameExecs s (s.cqWrite r a b) := by
  refine (sameExecs_of_porter rfl).trans (sameExecs_modRing _ _ _ (fun g => ?_))
  split <;> rfl

theorem sameExecs_ringMsix (s : State) (r : Nat) : SameExecs s (s.ringMsix r) :=
  (sameExecs_of_porter rfl).trans (sameExecs_modRing _ _ _ (fun _ => rfl))

theorem sameExecs_ringCount (s : State) (r : Nat) (now : Bool) : SameExecs s (s.ringCount r now) := by
  unfold State.ringCount
  dsimp only
  split
  · exact (sameExecs_modRing s r (fun g => { g with coalCount := g.coalCount + 1, coalTime := s.fld (Reg.RING_MOD r) 31 16 }) (fun _ => rfl)).trans (sameExecs_ringMsix _ r)
  · exact sameExecs_modRing s r (fun g => { g with coalCount := g.coalCount + 1, coalTime := s.fld (Reg.RING_MOD r) 31 16 }) (fun _ => rfl)

theorem sameExecs_evtWrite (s : State) (g : GbRecord) (r : Nat) : SameExecs s (s.evtWrite g r).1 := by
  unfold State.evtWrite
  dsimp only
  split
  · exact (sameExecs_of_porter (t := s.addFld (Reg.RING_EVT r) 31 16 1) rfl).trans
      (sameExecs_modRing _ r (fun x => { x with evtLost := true }) (fun _ => rfl))
  · exact ((sameExecs_cqWrite s r _ _).trans
      (sameExecs_modRing _ r (fun x => { x with evtSeq := x.evtSeq + 1, evtLost := false }) (fun _ => rfl))).trans
      (sameExecs_ringCount _ _ _)

/-- Recording an event leaves every ring's commands alone. -/
theorem sameExecs_gbEventN (n : Nat) (s : State) (c k : Nat) (l : List Nat) (rep : Bool) :
    SameExecs s (s.gbEventN n c k l rep) := by
  induction n generalizing s c k l rep with
  | zero => exact .refl s
  | succ n ih =>
    unfold State.gbEventN
    dsimp only
    have hfold : ∀ (g : GbRecord) (rs : List Nat) (a : State), SameExecs a (rs.foldl (fun a k =>
        let (b, first) := State.evtWrite a g k
        if first then State.gbEventN n b Gb.PORTER_EVT_LOST 15 [k, b.fld (Reg.RING_EVT k) 31 16] false else b) a) := by
      intro g rs a
      refine SameExecs.foldl _ (fun a k => ?_) rs a
      have h := sameExecs_evtWrite a g k
      dsimp only
      split
      · exact h.trans (ih _ _ _ _ _)
      · exact h
    split
    · exact sameExecs_of_porter rfl
    · split
      · exact sameExecs_of_porter rfl
      · split
        · exact sameExecs_of_porter rfl
        · have h1 : SameExecs s _ := (sameExecs_of_porter (s := s) (t := (s.gbStore c k l).1) rfl).trans
            (hfold (s.gbStore c k l).2 ((s.gbStore c k l).1.evtRings c) (s.gbStore c k l).1)
          split
          · exact (h1.trans (sameExecs_of_porter rfl)).trans (ih _ _ _ _ _)
          · exact h1

theorem sameExecs_event (s : State) (c k : Nat) (l : List Nat) : SameExecs s (s.event c k l) := sameExecs_gbEventN 4 s c k l false

theorem sameExecs_latch (s : State) (o b c k : Nat) (l : List Nat) : SameExecs s (s.latch o b c k l) :=
  (sameExecs_of_porter rfl).trans (sameExecs_gbEventN _ _ _ _ _ _)

theorem SameExecs.resultOf {s t : State} (h : SameExecs s t) (pc : PortCmd) : t.resultOf pc = s.resultOf pc := by
  simp [State.resultOf, h pc.ring]

/-! ### Ending -/

theorem find?_setResult {c : Nat} {r : CmdResult} {l : List Exec} (h : ∀ e ∈ l, e.cid ≠ c) (x : Exec) (hx : x.cid = c)
    (hr : x.result = none) :
    (setResult c r (l ++ [x])).find? (fun e => e.cid == c) = some { x with result := some r } := by
  induction l with
  | nil => simp [setResult, hx, hr]
  | cons e l ih =>
    have he : e.cid ≠ c := h e (by simp)
    simp only [List.cons_append, setResult, he, false_and, if_false]
    rw [List.find?_cons_of_neg (by simpa using he)]
    exact ih (fun y hy => h y (by simp [hy]))

/-- R415, R417: a command that no other of its ring shares its CID with ends with the result it is given. -/
theorem State.resultOf_finish (s : State) (pc : PortCmd) (op : Nat) (r : CmdResult) (hr : pc.ring < 64)
    (h : (s.ring pc.ring).execs.all (fun e => e.cid != pc.cid) = true) :
    ((s.ensureExec pc op).finish pc r).resultOf pc = some r := by
  have h' : ∀ e ∈ (s.ring pc.ring).execs, e.cid ≠ pc.cid := by simpa using h
  have ha : (s.ring pc.ring).execs.any (fun e => e.cid == pc.cid && e.opcode == op && e.result.isNone) = false := by
    rw [List.any_eq_false]
    intro e he
    simp [h' e he]
  simp only [State.resultOf, State.finish, State.ensureExec, ha, Bool.false_eq_true, if_false]
  rw [State.ring_modRing_self _ _ hr, State.ring_modRing_self _ _ hr]
  dsimp only
  rw [find?_setResult h' _ rfl rfl]
  rfl

/-- A command that is accepted runs. -/
theorem State.porterRun_accepted (s : State) (pc : PortCmd) (op : Nat) (priv : Bool) (body : State → State)
    (h : s.accepts pc op priv = true) : s.porterRun pc op priv true body = body (s.ensureExec pc op) := by
  simp only [State.accepts, Bool.and_eq_true, Bool.or_eq_true, Bool.not_eq_true', decide_eq_true_eq] at h
  obtain ⟨⟨⟨⟨h1, -⟩, h2⟩, h3⟩, -⟩ := h
  refine State.porterRun_runs s pc op priv true body h1 ?_ rfl ?_
  · intro hp; simpa [hp] using h2
  · intro hp; simpa [hp] using h3

/-- R416: a command that is accepted and ends with SUCCESS shows its results. -/
theorem State.resultOf_ok (s : State) (pc : PortCmd) (op : Nat) (priv : Bool) (l : List (Nat × Nat))
    (h : s.accepts pc op priv = true) : ((s.ensureExec pc op).ok pc l).resultOf pc = some (succeeded l) := by
  simp only [State.accepts, Bool.and_eq_true, decide_eq_true_eq] at h
  exact s.resultOf_finish pc op _ h.1.1.1.2 h.2

end Sys2Proof.Machine
end

