-- ==== Sys2Proof/Laws/Updates.lean ====
section
/-! SUPPORT. Laws/Updates.lean: what each update of one entry (a sensor, a block, a peer, a commit …) leaves unchanged, field by field. -/

namespace Sys2Proof.Machine

variable (s : State)

@[simp] theorem State.modClk_pending (f : Clocks → Clocks) : (s.modClk f).pending = s.pending := rfl
@[simp] theorem State.modClk_free (f : Clocks → Clocks) : (s.modClk f).free = s.free := rfl
@[simp] theorem State.modClk_draws (f : Clocks → Clocks) : (s.modClk f).draws = s.draws := rfl
@[simp] theorem State.modClk_outbox (f : Clocks → Clocks) : (s.modClk f).outbox = s.outbox := rfl
@[simp] theorem State.modClk_pop (f : Clocks → Clocks) : (s.modClk f).pop = s.pop := rfl
@[simp] theorem State.modClk_reg (f : Clocks → Clocks) : (s.modClk f).reg = s.reg := rfl
@[simp] theorem State.modClk_gb (f : Clocks → Clocks) : (s.modClk f).gb = s.gb := rfl
@[simp] theorem State.modClk_ps (f : Clocks → Clocks) : (s.modClk f).ps = s.ps := rfl
@[simp] theorem State.modClk_md (f : Clocks → Clocks) : (s.modClk f).md = s.md := rfl
@[simp] theorem State.modClk_pw (f : Clocks → Clocks) : (s.modClk f).pw = s.pw := rfl
@[simp] theorem State.modClk_porter (f : Clocks → Clocks) : (s.modClk f).porter = s.porter := rfl
@[simp] theorem State.modClk_bel (f : Clocks → Clocks) : (s.modClk f).bel = s.bel := rfl
@[simp] theorem State.modClk_wins (f : Clocks → Clocks) : (s.modClk f).wins = s.wins := rfl
@[simp] theorem State.modClk_thm (f : Clocks → Clocks) : (s.modClk f).thm = s.thm := rfl
@[simp] theorem State.modClk_cap (f : Clocks → Clocks) : (s.modClk f).cap = s.cap := rfl
@[simp] theorem State.modClk_cup (f : Clocks → Clocks) : (s.modClk f).cup = s.cup := rfl
@[simp] theorem State.modClk_car (f : Clocks → Clocks) : (s.modClk f).car = s.car := rfl
@[simp] theorem State.modClk_fuse (f : Clocks → Clocks) : (s.modClk f).fuse = s.fuse := rfl
@[simp] theorem State.modClk_sec (f : Clocks → Clocks) : (s.modClk f).sec = s.sec := rfl
@[simp] theorem State.modClk_jobs (f : Clocks → Clocks) : (s.modClk f).jobs = s.jobs := rfl
@[simp] theorem State.modClk_tiles (f : Clocks → Clocks) : (s.modClk f).tiles = s.tiles := rfl
@[simp] theorem State.modClk_clk (f : Clocks → Clocks) : (s.modClk f).clk = f s.clk := rfl

@[simp] theorem State.modWin_pending (w : Nat) (f : PerfWin → PerfWin) : (s.modWin w f).pending = s.pending := rfl
@[simp] theorem State.modWin_free (w : Nat) (f : PerfWin → PerfWin) : (s.modWin w f).free = s.free := rfl
@[simp] theorem State.modWin_draws (w : Nat) (f : PerfWin → PerfWin) : (s.modWin w f).draws = s.draws := rfl
@[simp] theorem State.modWin_outbox (w : Nat) (f : PerfWin → PerfWin) : (s.modWin w f).outbox = s.outbox := rfl
@[simp] theorem State.modWin_pop (w : Nat) (f : PerfWin → PerfWin) : (s.modWin w f).pop = s.pop := rfl
@[simp] theorem State.modWin_reg (w : Nat) (f : PerfWin → PerfWin) : (s.modWin w f).reg = s.reg := rfl
@[simp] theorem State.modWin_gb (w : Nat) (f : PerfWin → PerfWin) : (s.modWin w f).gb = s.gb := rfl
@[simp] theorem State.modWin_ps (w : Nat) (f : PerfWin → PerfWin) : (s.modWin w f).ps = s.ps := rfl
@[simp] theorem State.modWin_md (w : Nat) (f : PerfWin → PerfWin) : (s.modWin w f).md = s.md := rfl
@[simp] theorem State.modWin_pw (w : Nat) (f : PerfWin → PerfWin) : (s.modWin w f).pw = s.pw := rfl
@[simp] theorem State.modWin_porter (w : Nat) (f : PerfWin → PerfWin) : (s.modWin w f).porter = s.porter := rfl
@[simp] theorem State.modWin_bel (w : Nat) (f : PerfWin → PerfWin) : (s.modWin w f).bel = s.bel := rfl
@[simp] theorem State.modWin_clk (w : Nat) (f : PerfWin → PerfWin) : (s.modWin w f).clk = s.clk := rfl
@[simp] theorem State.modWin_thm (w : Nat) (f : PerfWin → PerfWin) : (s.modWin w f).thm = s.thm := rfl
@[simp] theorem State.modWin_cap (w : Nat) (f : PerfWin → PerfWin) : (s.modWin w f).cap = s.cap := rfl
@[simp] theorem State.modWin_cup (w : Nat) (f : PerfWin → PerfWin) : (s.modWin w f).cup = s.cup := rfl
@[simp] theorem State.modWin_car (w : Nat) (f : PerfWin → PerfWin) : (s.modWin w f).car = s.car := rfl
@[simp] theorem State.modWin_fuse (w : Nat) (f : PerfWin → PerfWin) : (s.modWin w f).fuse = s.fuse := rfl
@[simp] theorem State.modWin_sec (w : Nat) (f : PerfWin → PerfWin) : (s.modWin w f).sec = s.sec := rfl
@[simp] theorem State.modWin_jobs (w : Nat) (f : PerfWin → PerfWin) : (s.modWin w f).jobs = s.jobs := rfl
@[simp] theorem State.modWin_tiles (w : Nat) (f : PerfWin → PerfWin) : (s.modWin w f).tiles = s.tiles := rfl
@[simp] theorem State.modWin_wins (w : Nat) (f : PerfWin → PerfWin) : (s.modWin w f).wins = vmod w f s.wins := rfl

@[simp] theorem State.modSensor_pending (i : Nat) (f : Sensor → Sensor) : (s.modSensor i f).pending = s.pending := rfl
@[simp] theorem State.modSensor_free (i : Nat) (f : Sensor → Sensor) : (s.modSensor i f).free = s.free := rfl
@[simp] theorem State.modSensor_draws (i : Nat) (f : Sensor → Sensor) : (s.modSensor i f).draws = s.draws := rfl
@[simp] theorem State.modSensor_outbox (i : Nat) (f : Sensor → Sensor) : (s.modSensor i f).outbox = s.outbox := rfl
@[simp] theorem State.modSensor_pop (i : Nat) (f : Sensor → Sensor) : (s.modSensor i f).pop = s.pop := rfl
@[simp] theorem State.modSensor_reg (i : Nat) (f : Sensor → Sensor) : (s.modSensor i f).reg = s.reg := rfl
@[simp] theorem State.modSensor_gb (i : Nat) (f : Sensor → Sensor) : (s.modSensor i f).gb = s.gb := rfl
@[simp] theorem State.modSensor_ps (i : Nat) (f : Sensor → Sensor) : (s.modSensor i f).ps = s.ps := rfl
@[simp] theorem State.modSensor_md (i : Nat) (f : Sensor → Sensor) : (s.modSensor i f).md = s.md := rfl
@[simp] theorem State.modSensor_pw (i : Nat) (f : Sensor → Sensor) : (s.modSensor i f).pw = s.pw := rfl
@[simp] theorem State.modSensor_porter (i : Nat) (f : Sensor → Sensor) : (s.modSensor i f).porter = s.porter := rfl
@[simp] theorem State.modSensor_bel (i : Nat) (f : Sensor → Sensor) : (s.modSensor i f).bel = s.bel := rfl
@[simp] theorem State.modSensor_wins (i : Nat) (f : Sensor → Sensor) : (s.modSensor i f).wins = s.wins := rfl
@[simp] theorem State.modSensor_clk (i : Nat) (f : Sensor → Sensor) : (s.modSensor i f).clk = s.clk := rfl
@[simp] theorem State.modSensor_cap (i : Nat) (f : Sensor → Sensor) : (s.modSensor i f).cap = s.cap := rfl
@[simp] theorem State.modSensor_cup (i : Nat) (f : Sensor → Sensor) : (s.modSensor i f).cup = s.cup := rfl
@[simp] theorem State.modSensor_car (i : Nat) (f : Sensor → Sensor) : (s.modSensor i f).car = s.car := rfl
@[simp] theorem State.modSensor_fuse (i : Nat) (f : Sensor → Sensor) : (s.modSensor i f).fuse = s.fuse := rfl
@[simp] theorem State.modSensor_sec (i : Nat) (f : Sensor → Sensor) : (s.modSensor i f).sec = s.sec := rfl
@[simp] theorem State.modSensor_jobs (i : Nat) (f : Sensor → Sensor) : (s.modSensor i f).jobs = s.jobs := rfl
@[simp] theorem State.modSensor_tiles (i : Nat) (f : Sensor → Sensor) : (s.modSensor i f).tiles = s.tiles := rfl

@[simp] theorem State.modFan_pending (n : Nat) (f : Fan → Fan) : (s.modFan n f).pending = s.pending := rfl
@[simp] theorem State.modFan_free (n : Nat) (f : Fan → Fan) : (s.modFan n f).free = s.free := rfl
@[simp] theorem State.modFan_draws (n : Nat) (f : Fan → Fan) : (s.modFan n f).draws = s.draws := rfl
@[simp] theorem State.modFan_outbox (n : Nat) (f : Fan → Fan) : (s.modFan n f).outbox = s.outbox := rfl
@[simp] theorem State.modFan_pop (n : Nat) (f : Fan → Fan) : (s.modFan n f).pop = s.pop := rfl
@[simp] theorem State.modFan_reg (n : Nat) (f : Fan → Fan) : (s.modFan n f).reg = s.reg := rfl
@[simp] theorem State.modFan_gb (n : Nat) (f : Fan → Fan) : (s.modFan n f).gb = s.gb := rfl
@[simp] theorem State.modFan_ps (n : Nat) (f : Fan → Fan) : (s.modFan n f).ps = s.ps := rfl
@[simp] theorem State.modFan_md (n : Nat) (f : Fan → Fan) : (s.modFan n f).md = s.md := rfl
@[simp] theorem State.modFan_pw (n : Nat) (f : Fan → Fan) : (s.modFan n f).pw = s.pw := rfl
@[simp] theorem State.modFan_porter (n : Nat) (f : Fan → Fan) : (s.modFan n f).porter = s.porter := rfl
@[simp] theorem State.modFan_bel (n : Nat) (f : Fan → Fan) : (s.modFan n f).bel = s.bel := rfl
@[simp] theorem State.modFan_wins (n : Nat) (f : Fan → Fan) : (s.modFan n f).wins = s.wins := rfl
@[simp] theorem State.modFan_clk (n : Nat) (f : Fan → Fan) : (s.modFan n f).clk = s.clk := rfl
@[simp] theorem State.modFan_cap (n : Nat) (f : Fan → Fan) : (s.modFan n f).cap = s.cap := rfl
@[simp] theorem State.modFan_cup (n : Nat) (f : Fan → Fan) : (s.modFan n f).cup = s.cup := rfl
@[simp] theorem State.modFan_car (n : Nat) (f : Fan → Fan) : (s.modFan n f).car = s.car := rfl
@[simp] theorem State.modFan_fuse (n : Nat) (f : Fan → Fan) : (s.modFan n f).fuse = s.fuse := rfl
@[simp] theorem State.modFan_sec (n : Nat) (f : Fan → Fan) : (s.modFan n f).sec = s.sec := rfl
@[simp] theorem State.modFan_jobs (n : Nat) (f : Fan → Fan) : (s.modFan n f).jobs = s.jobs := rfl
@[simp] theorem State.modFan_tiles (n : Nat) (f : Fan → Fan) : (s.modFan n f).tiles = s.tiles := rfl

@[simp] theorem State.modReq_pending (r : Req) (f : Req → Req) : (s.modReq r f).pending = s.pending := rfl
@[simp] theorem State.modReq_free (r : Req) (f : Req → Req) : (s.modReq r f).free = s.free := rfl
@[simp] theorem State.modReq_draws (r : Req) (f : Req → Req) : (s.modReq r f).draws = s.draws := rfl
@[simp] theorem State.modReq_outbox (r : Req) (f : Req → Req) : (s.modReq r f).outbox = s.outbox := rfl
@[simp] theorem State.modReq_pop (r : Req) (f : Req → Req) : (s.modReq r f).pop = s.pop := rfl
@[simp] theorem State.modReq_reg (r : Req) (f : Req → Req) : (s.modReq r f).reg = s.reg := rfl
@[simp] theorem State.modReq_gb (r : Req) (f : Req → Req) : (s.modReq r f).gb = s.gb := rfl
@[simp] theorem State.modReq_ps (r : Req) (f : Req → Req) : (s.modReq r f).ps = s.ps := rfl
@[simp] theorem State.modReq_md (r : Req) (f : Req → Req) : (s.modReq r f).md = s.md := rfl
@[simp] theorem State.modReq_pw (r : Req) (f : Req → Req) : (s.modReq r f).pw = s.pw := rfl
@[simp] theorem State.modReq_porter (r : Req) (f : Req → Req) : (s.modReq r f).porter = s.porter := rfl
@[simp] theorem State.modReq_bel (r : Req) (f : Req → Req) : (s.modReq r f).bel = s.bel := rfl
@[simp] theorem State.modReq_wins (r : Req) (f : Req → Req) : (s.modReq r f).wins = s.wins := rfl
@[simp] theorem State.modReq_clk (r : Req) (f : Req → Req) : (s.modReq r f).clk = s.clk := rfl
@[simp] theorem State.modReq_thm (r : Req) (f : Req → Req) : (s.modReq r f).thm = s.thm := rfl
@[simp] theorem State.modReq_cap (r : Req) (f : Req → Req) : (s.modReq r f).cap = s.cap := rfl
@[simp] theorem State.modReq_cup (r : Req) (f : Req → Req) : (s.modReq r f).cup = s.cup := rfl
@[simp] theorem State.modReq_car (r : Req) (f : Req → Req) : (s.modReq r f).car = s.car := rfl
@[simp] theorem State.modReq_fuse (r : Req) (f : Req → Req) : (s.modReq r f).fuse = s.fuse := rfl
@[simp] theorem State.modReq_sec (r : Req) (f : Req → Req) : (s.modReq r f).sec = s.sec := rfl
@[simp] theorem State.modReq_jobs (r : Req) (f : Req → Req) : (s.modReq r f).jobs = s.jobs := rfl

@[simp] theorem State.modBlk_pending (t b : Nat) (f : Blk → Blk) : (s.modBlk t b f).pending = s.pending := rfl
@[simp] theorem State.modBlk_free (t b : Nat) (f : Blk → Blk) : (s.modBlk t b f).free = s.free := rfl
@[simp] theorem State.modBlk_draws (t b : Nat) (f : Blk → Blk) : (s.modBlk t b f).draws = s.draws := rfl
@[simp] theorem State.modBlk_outbox (t b : Nat) (f : Blk → Blk) : (s.modBlk t b f).outbox = s.outbox := rfl
@[simp] theorem State.modBlk_pop (t b : Nat) (f : Blk → Blk) : (s.modBlk t b f).pop = s.pop := rfl
@[simp] theorem State.modBlk_reg (t b : Nat) (f : Blk → Blk) : (s.modBlk t b f).reg = s.reg := rfl
@[simp] theorem State.modBlk_gb (t b : Nat) (f : Blk → Blk) : (s.modBlk t b f).gb = s.gb := rfl
@[simp] theorem State.modBlk_ps (t b : Nat) (f : Blk → Blk) : (s.modBlk t b f).ps = s.ps := rfl
@[simp] theorem State.modBlk_md (t b : Nat) (f : Blk → Blk) : (s.modBlk t b f).md = s.md := rfl
@[simp] theorem State.modBlk_pw (t b : Nat) (f : Blk → Blk) : (s.modBlk t b f).pw = s.pw := rfl
@[simp] theorem State.modBlk_porter (t b : Nat) (f : Blk → Blk) : (s.modBlk t b f).porter = s.porter := rfl
@[simp] theorem State.modBlk_bel (t b : Nat) (f : Blk → Blk) : (s.modBlk t b f).bel = s.bel := rfl
@[simp] theorem State.modBlk_wins (t b : Nat) (f : Blk → Blk) : (s.modBlk t b f).wins = s.wins := rfl
@[simp] theorem State.modBlk_clk (t b : Nat) (f : Blk → Blk) : (s.modBlk t b f).clk = s.clk := rfl
@[simp] theorem State.modBlk_thm (t b : Nat) (f : Blk → Blk) : (s.modBlk t b f).thm = s.thm := rfl
@[simp] theorem State.modBlk_cap (t b : Nat) (f : Blk → Blk) : (s.modBlk t b f).cap = s.cap := rfl
@[simp] theorem State.modBlk_cup (t b : Nat) (f : Blk → Blk) : (s.modBlk t b f).cup = s.cup := rfl
@[simp] theorem State.modBlk_car (t b : Nat) (f : Blk → Blk) : (s.modBlk t b f).car = s.car := rfl
@[simp] theorem State.modBlk_fuse (t b : Nat) (f : Blk → Blk) : (s.modBlk t b f).fuse = s.fuse := rfl
@[simp] theorem State.modBlk_sec (t b : Nat) (f : Blk → Blk) : (s.modBlk t b f).sec = s.sec := rfl
@[simp] theorem State.modBlk_jobs (t b : Nat) (f : Blk → Blk) : (s.modBlk t b f).jobs = s.jobs := rfl

@[simp] theorem State.modPeer_pending (i : Nat) (f : Peer → Peer) : (s.modPeer i f).pending = s.pending := rfl
@[simp] theorem State.modPeer_free (i : Nat) (f : Peer → Peer) : (s.modPeer i f).free = s.free := rfl
@[simp] theorem State.modPeer_draws (i : Nat) (f : Peer → Peer) : (s.modPeer i f).draws = s.draws := rfl
@[simp] theorem State.modPeer_outbox (i : Nat) (f : Peer → Peer) : (s.modPeer i f).outbox = s.outbox := rfl
@[simp] theorem State.modPeer_pop (i : Nat) (f : Peer → Peer) : (s.modPeer i f).pop = s.pop := rfl
@[simp] theorem State.modPeer_reg (i : Nat) (f : Peer → Peer) : (s.modPeer i f).reg = s.reg := rfl
@[simp] theorem State.modPeer_gb (i : Nat) (f : Peer → Peer) : (s.modPeer i f).gb = s.gb := rfl
@[simp] theorem State.modPeer_ps (i : Nat) (f : Peer → Peer) : (s.modPeer i f).ps = s.ps := rfl
@[simp] theorem State.modPeer_md (i : Nat) (f : Peer → Peer) : (s.modPeer i f).md = s.md := rfl
@[simp] theorem State.modPeer_pw (i : Nat) (f : Peer → Peer) : (s.modPeer i f).pw = s.pw := rfl
@[simp] theorem State.modPeer_porter (i : Nat) (f : Peer → Peer) : (s.modPeer i f).porter = s.porter := rfl
@[simp] theorem State.modPeer_bel (i : Nat) (f : Peer → Peer) : (s.modPeer i f).bel = s.bel := rfl
@[simp] theorem State.modPeer_wins (i : Nat) (f : Peer → Peer) : (s.modPeer i f).wins = s.wins := rfl
@[simp] theorem State.modPeer_clk (i : Nat) (f : Peer → Peer) : (s.modPeer i f).clk = s.clk := rfl
@[simp] theorem State.modPeer_thm (i : Nat) (f : Peer → Peer) : (s.modPeer i f).thm = s.thm := rfl
@[simp] theorem State.modPeer_cap (i : Nat) (f : Peer → Peer) : (s.modPeer i f).cap = s.cap := rfl
@[simp] theorem State.modPeer_cup (i : Nat) (f : Peer → Peer) : (s.modPeer i f).cup = s.cup := rfl
@[simp] theorem State.modPeer_fuse (i : Nat) (f : Peer → Peer) : (s.modPeer i f).fuse = s.fuse := rfl
@[simp] theorem State.modPeer_sec (i : Nat) (f : Peer → Peer) : (s.modPeer i f).sec = s.sec := rfl
@[simp] theorem State.modPeer_jobs (i : Nat) (f : Peer → Peer) : (s.modPeer i f).jobs = s.jobs := rfl
@[simp] theorem State.modPeer_tiles (i : Nat) (f : Peer → Peer) : (s.modPeer i f).tiles = s.tiles := rfl

@[simp] theorem State.modCopy_pending (k : Nat) (f : PsCopy → PsCopy) : (s.modCopy k f).pending = s.pending := rfl
@[simp] theorem State.modCopy_free (k : Nat) (f : PsCopy → PsCopy) : (s.modCopy k f).free = s.free := rfl
@[simp] theorem State.modCopy_draws (k : Nat) (f : PsCopy → PsCopy) : (s.modCopy k f).draws = s.draws := rfl
@[simp] theorem State.modCopy_outbox (k : Nat) (f : PsCopy → PsCopy) : (s.modCopy k f).outbox = s.outbox := rfl
@[simp] theorem State.modCopy_pop (k : Nat) (f : PsCopy → PsCopy) : (s.modCopy k f).pop = s.pop := rfl
@[simp] theorem State.modCopy_reg (k : Nat) (f : PsCopy → PsCopy) : (s.modCopy k f).reg = s.reg := rfl
@[simp] theorem State.modCopy_gb (k : Nat) (f : PsCopy → PsCopy) : (s.modCopy k f).gb = s.gb := rfl
@[simp] theorem State.modCopy_md (k : Nat) (f : PsCopy → PsCopy) : (s.modCopy k f).md = s.md := rfl
@[simp] theorem State.modCopy_pw (k : Nat) (f : PsCopy → PsCopy) : (s.modCopy k f).pw = s.pw := rfl
@[simp] theorem State.modCopy_porter (k : Nat) (f : PsCopy → PsCopy) : (s.modCopy k f).porter = s.porter := rfl
@[simp] theorem State.modCopy_bel (k : Nat) (f : PsCopy → PsCopy) : (s.modCopy k f).bel = s.bel := rfl
@[simp] theorem State.modCopy_wins (k : Nat) (f : PsCopy → PsCopy) : (s.modCopy k f).wins = s.wins := rfl
@[simp] theorem State.modCopy_clk (k : Nat) (f : PsCopy → PsCopy) : (s.modCopy k f).clk = s.clk := rfl
@[simp] theorem State.modCopy_thm (k : Nat) (f : PsCopy → PsCopy) : (s.modCopy k f).thm = s.thm := rfl
@[simp] theorem State.modCopy_cap (k : Nat) (f : PsCopy → PsCopy) : (s.modCopy k f).cap = s.cap := rfl
@[simp] theorem State.modCopy_cup (k : Nat) (f : PsCopy → PsCopy) : (s.modCopy k f).cup = s.cup := rfl
@[simp] theorem State.modCopy_car (k : Nat) (f : PsCopy → PsCopy) : (s.modCopy k f).car = s.car := rfl
@[simp] theorem State.modCopy_fuse (k : Nat) (f : PsCopy → PsCopy) : (s.modCopy k f).fuse = s.fuse := rfl
@[simp] theorem State.modCopy_sec (k : Nat) (f : PsCopy → PsCopy) : (s.modCopy k f).sec = s.sec := rfl
@[simp] theorem State.modCopy_jobs (k : Nat) (f : PsCopy → PsCopy) : (s.modCopy k f).jobs = s.jobs := rfl
@[simp] theorem State.modCopy_tiles (k : Nat) (f : PsCopy → PsCopy) : (s.modCopy k f).tiles = s.tiles := rfl

@[simp] theorem State.modCommit_pending (t seg : Nat) (f : Commit → Commit) : (s.modCommit t seg f).pending = s.pending := rfl
@[simp] theorem State.modCommit_free (t seg : Nat) (f : Commit → Commit) : (s.modCommit t seg f).free = s.free := rfl
@[simp] theorem State.modCommit_draws (t seg : Nat) (f : Commit → Commit) : (s.modCommit t seg f).draws = s.draws := rfl
@[simp] theorem State.modCommit_outbox (t seg : Nat) (f : Commit → Commit) : (s.modCommit t seg f).outbox = s.outbox := rfl
@[simp] theorem State.modCommit_pop (t seg : Nat) (f : Commit → Commit) : (s.modCommit t seg f).pop = s.pop := rfl
@[simp] theorem State.modCommit_reg (t seg : Nat) (f : Commit → Commit) : (s.modCommit t seg f).reg = s.reg := rfl
@[simp] theorem State.modCommit_gb (t seg : Nat) (f : Commit → Commit) : (s.modCommit t seg f).gb = s.gb := rfl
@[simp] theorem State.modCommit_ps (t seg : Nat) (f : Commit → Commit) : (s.modCommit t seg f).ps = s.ps := rfl
@[simp] theorem State.modCommit_md (t seg : Nat) (f : Commit → Commit) : (s.modCommit t seg f).md = s.md := rfl
@[simp] theorem State.modCommit_pw (t seg : Nat) (f : Commit → Commit) : (s.modCommit t seg f).pw = s.pw := rfl
@[simp] theorem State.modCommit_porter (t seg : Nat) (f : Commit → Commit) : (s.modCommit t seg f).porter = s.porter := rfl
@[simp] theorem State.modCommit_bel (t seg : Nat) (f : Commit → Commit) : (s.modCommit t seg f).bel = s.bel := rfl
@[simp] theorem State.modCommit_wins (t seg : Nat) (f : Commit → Commit) : (s.modCommit t seg f).wins = s.wins := rfl
@[simp] theorem State.modCommit_clk (t seg : Nat) (f : Commit → Commit) : (s.modCommit t seg f).clk = s.clk := rfl
@[simp] theorem State.modCommit_thm (t seg : Nat) (f : Commit → Commit) : (s.modCommit t seg f).thm = s.thm := rfl
@[simp] theorem State.modCommit_cap (t seg : Nat) (f : Commit → Commit) : (s.modCommit t seg f).cap = s.cap := rfl
@[simp] theorem State.modCommit_cup (t seg : Nat) (f : Commit → Commit) : (s.modCommit t seg f).cup = s.cup := rfl
@[simp] theorem State.modCommit_car (t seg : Nat) (f : Commit → Commit) : (s.modCommit t seg f).car = s.car := rfl
@[simp] theorem State.modCommit_fuse (t seg : Nat) (f : Commit → Commit) : (s.modCommit t seg f).fuse = s.fuse := rfl
@[simp] theorem State.modCommit_sec (t seg : Nat) (f : Commit → Commit) : (s.modCommit t seg f).sec = s.sec := rfl
@[simp] theorem State.modCommit_jobs (t seg : Nat) (f : Commit → Commit) : (s.modCommit t seg f).jobs = s.jobs := rfl

@[simp] theorem State.modHaz_pending (t i : Nat) (f : Haz → Haz) : (s.modHaz t i f).pending = s.pending := rfl
@[simp] theorem State.modHaz_free (t i : Nat) (f : Haz → Haz) : (s.modHaz t i f).free = s.free := rfl
@[simp] theorem State.modHaz_draws (t i : Nat) (f : Haz → Haz) : (s.modHaz t i f).draws = s.draws := rfl
@[simp] theorem State.modHaz_outbox (t i : Nat) (f : Haz → Haz) : (s.modHaz t i f).outbox = s.outbox := rfl
@[simp] theorem State.modHaz_pop (t i : Nat) (f : Haz → Haz) : (s.modHaz t i f).pop = s.pop := rfl
@[simp] theorem State.modHaz_reg (t i : Nat) (f : Haz → Haz) : (s.modHaz t i f).reg = s.reg := rfl
@[simp] theorem State.modHaz_gb (t i : Nat) (f : Haz → Haz) : (s.modHaz t i f).gb = s.gb := rfl
@[simp] theorem State.modHaz_ps (t i : Nat) (f : Haz → Haz) : (s.modHaz t i f).ps = s.ps := rfl
@[simp] theorem State.modHaz_md (t i : Nat) (f : Haz → Haz) : (s.modHaz t i f).md = s.md := rfl
@[simp] theorem State.modHaz_pw (t i : Nat) (f : Haz → Haz) : (s.modHaz t i f).pw = s.pw := rfl
@[simp] theorem State.modHaz_porter (t i : Nat) (f : Haz → Haz) : (s.modHaz t i f).porter = s.porter := rfl
@[simp] theorem State.modHaz_bel (t i : Nat) (f : Haz → Haz) : (s.modHaz t i f).bel = s.bel := rfl
@[simp] theorem State.modHaz_wins (t i : Nat) (f : Haz → Haz) : (s.modHaz t i f).wins = s.wins := rfl
@[simp] theorem State.modHaz_clk (t i : Nat) (f : Haz → Haz) : (s.modHaz t i f).clk = s.clk := rfl
@[simp] theorem State.modHaz_thm (t i : Nat) (f : Haz → Haz) : (s.modHaz t i f).thm = s.thm := rfl
@[simp] theorem State.modHaz_cap (t i : Nat) (f : Haz → Haz) : (s.modHaz t i f).cap = s.cap := rfl
@[simp] theorem State.modHaz_cup (t i : Nat) (f : Haz → Haz) : (s.modHaz t i f).cup = s.cup := rfl
@[simp] theorem State.modHaz_car (t i : Nat) (f : Haz → Haz) : (s.modHaz t i f).car = s.car := rfl
@[simp] theorem State.modHaz_fuse (t i : Nat) (f : Haz → Haz) : (s.modHaz t i f).fuse = s.fuse := rfl
@[simp] theorem State.modHaz_sec (t i : Nat) (f : Haz → Haz) : (s.modHaz t i f).sec = s.sec := rfl
@[simp] theorem State.modHaz_jobs (t i : Nat) (f : Haz → Haz) : (s.modHaz t i f).jobs = s.jobs := rfl

@[simp] theorem State.modSlotFw_pending (i : Nat) (f : FwSlot → FwSlot) : (s.modSlotFw i f).pending = s.pending := rfl
@[simp] theorem State.modSlotFw_free (i : Nat) (f : FwSlot → FwSlot) : (s.modSlotFw i f).free = s.free := rfl
@[simp] theorem State.modSlotFw_draws (i : Nat) (f : FwSlot → FwSlot) : (s.modSlotFw i f).draws = s.draws := rfl
@[simp] theorem State.modSlotFw_outbox (i : Nat) (f : FwSlot → FwSlot) : (s.modSlotFw i f).outbox = s.outbox := rfl
@[simp] theorem State.modSlotFw_pop (i : Nat) (f : FwSlot → FwSlot) : (s.modSlotFw i f).pop = s.pop := rfl
@[simp] theorem State.modSlotFw_reg (i : Nat) (f : FwSlot → FwSlot) : (s.modSlotFw i f).reg = s.reg := rfl
@[simp] theorem State.modSlotFw_gb (i : Nat) (f : FwSlot → FwSlot) : (s.modSlotFw i f).gb = s.gb := rfl
@[simp] theorem State.modSlotFw_ps (i : Nat) (f : FwSlot → FwSlot) : (s.modSlotFw i f).ps = s.ps := rfl
@[simp] theorem State.modSlotFw_md (i : Nat) (f : FwSlot → FwSlot) : (s.modSlotFw i f).md = s.md := rfl
@[simp] theorem State.modSlotFw_pw (i : Nat) (f : FwSlot → FwSlot) : (s.modSlotFw i f).pw = s.pw := rfl
@[simp] theorem State.modSlotFw_porter (i : Nat) (f : FwSlot → FwSlot) : (s.modSlotFw i f).porter = s.porter := rfl
@[simp] theorem State.modSlotFw_bel (i : Nat) (f : FwSlot → FwSlot) : (s.modSlotFw i f).bel = s.bel := rfl
@[simp] theorem State.modSlotFw_wins (i : Nat) (f : FwSlot → FwSlot) : (s.modSlotFw i f).wins = s.wins := rfl
@[simp] theorem State.modSlotFw_clk (i : Nat) (f : FwSlot → FwSlot) : (s.modSlotFw i f).clk = s.clk := rfl
@[simp] theorem State.modSlotFw_thm (i : Nat) (f : FwSlot → FwSlot) : (s.modSlotFw i f).thm = s.thm := rfl
@[simp] theorem State.modSlotFw_cap (i : Nat) (f : FwSlot → FwSlot) : (s.modSlotFw i f).cap = s.cap := rfl
@[simp] theorem State.modSlotFw_cup (i : Nat) (f : FwSlot → FwSlot) : (s.modSlotFw i f).cup = s.cup := rfl
@[simp] theorem State.modSlotFw_car (i : Nat) (f : FwSlot → FwSlot) : (s.modSlotFw i f).car = s.car := rfl
@[simp] theorem State.modSlotFw_fuse (i : Nat) (f : FwSlot → FwSlot) : (s.modSlotFw i f).fuse = s.fuse := rfl
@[simp] theorem State.modSlotFw_jobs (i : Nat) (f : FwSlot → FwSlot) : (s.modSlotFw i f).jobs = s.jobs := rfl
@[simp] theorem State.modSlotFw_tiles (i : Nat) (f : FwSlot → FwSlot) : (s.modSlotFw i f).tiles = s.tiles := rfl

@[simp] theorem State.modIde_pending (h k : Nat) (f : IdeStream → IdeStream) : (s.modIde h k f).pending = s.pending := rfl
@[simp] theorem State.modIde_free (h k : Nat) (f : IdeStream → IdeStream) : (s.modIde h k f).free = s.free := rfl
@[simp] theorem State.modIde_draws (h k : Nat) (f : IdeStream → IdeStream) : (s.modIde h k f).draws = s.draws := rfl
@[simp] theorem State.modIde_outbox (h k : Nat) (f : IdeStream → IdeStream) : (s.modIde h k f).outbox = s.outbox := rfl
@[simp] theorem State.modIde_pop (h k : Nat) (f : IdeStream → IdeStream) : (s.modIde h k f).pop = s.pop := rfl
@[simp] theorem State.modIde_reg (h k : Nat) (f : IdeStream → IdeStream) : (s.modIde h k f).reg = s.reg := rfl
@[simp] theorem State.modIde_gb (h k : Nat) (f : IdeStream → IdeStream) : (s.modIde h k f).gb = s.gb := rfl
@[simp] theorem State.modIde_ps (h k : Nat) (f : IdeStream → IdeStream) : (s.modIde h k f).ps = s.ps := rfl
@[simp] theorem State.modIde_md (h k : Nat) (f : IdeStream → IdeStream) : (s.modIde h k f).md = s.md := rfl
@[simp] theorem State.modIde_pw (h k : Nat) (f : IdeStream → IdeStream) : (s.modIde h k f).pw = s.pw := rfl
@[simp] theorem State.modIde_porter (h k : Nat) (f : IdeStream → IdeStream) : (s.modIde h k f).porter = s.porter := rfl
@[simp] theorem State.modIde_bel (h k : Nat) (f : IdeStream → IdeStream) : (s.modIde h k f).bel = s.bel := rfl
@[simp] theorem State.modIde_wins (h k : Nat) (f : IdeStream → IdeStream) : (s.modIde h k f).wins = s.wins := rfl
@[simp] theorem State.modIde_clk (h k : Nat) (f : IdeStream → IdeStream) : (s.modIde h k f).clk = s.clk := rfl
@[simp] theorem State.modIde_thm (h k : Nat) (f : IdeStream → IdeStream) : (s.modIde h k f).thm = s.thm := rfl
@[simp] theorem State.modIde_cap (h k : Nat) (f : IdeStream → IdeStream) : (s.modIde h k f).cap = s.cap := rfl
@[simp] theorem State.modIde_cup (h k : Nat) (f : IdeStream → IdeStream) : (s.modIde h k f).cup = s.cup := rfl
@[simp] theorem State.modIde_car (h k : Nat) (f : IdeStream → IdeStream) : (s.modIde h k f).car = s.car := rfl
@[simp] theorem State.modIde_fuse (h k : Nat) (f : IdeStream → IdeStream) : (s.modIde h k f).fuse = s.fuse := rfl
@[simp] theorem State.modIde_sec (h k : Nat) (f : IdeStream → IdeStream) : (s.modIde h k f).sec = s.sec := rfl
@[simp] theorem State.modIde_jobs (h k : Nat) (f : IdeStream → IdeStream) : (s.modIde h k f).jobs = s.jobs := rfl

@[simp] theorem State.modLd_pending (c : Nat) (f : LDev → LDev) : (s.modLd c f).pending = s.pending := rfl
@[simp] theorem State.modLd_free (c : Nat) (f : LDev → LDev) : (s.modLd c f).free = s.free := rfl
@[simp] theorem State.modLd_draws (c : Nat) (f : LDev → LDev) : (s.modLd c f).draws = s.draws := rfl
@[simp] theorem State.modLd_outbox (c : Nat) (f : LDev → LDev) : (s.modLd c f).outbox = s.outbox := rfl
@[simp] theorem State.modLd_pop (c : Nat) (f : LDev → LDev) : (s.modLd c f).pop = s.pop := rfl
@[simp] theorem State.modLd_reg (c : Nat) (f : LDev → LDev) : (s.modLd c f).reg = s.reg := rfl
@[simp] theorem State.modLd_gb (c : Nat) (f : LDev → LDev) : (s.modLd c f).gb = s.gb := rfl
@[simp] theorem State.modLd_ps (c : Nat) (f : LDev → LDev) : (s.modLd c f).ps = s.ps := rfl
@[simp] theorem State.modLd_md (c : Nat) (f : LDev → LDev) : (s.modLd c f).md = s.md := rfl
@[simp] theorem State.modLd_pw (c : Nat) (f : LDev → LDev) : (s.modLd c f).pw = s.pw := rfl
@[simp] theorem State.modLd_porter (c : Nat) (f : LDev → LDev) : (s.modLd c f).porter = s.porter := rfl
@[simp] theorem State.modLd_bel (c : Nat) (f : LDev → LDev) : (s.modLd c f).bel = s.bel := rfl
@[simp] theorem State.modLd_wins (c : Nat) (f : LDev → LDev) : (s.modLd c f).wins = s.wins := rfl
@[simp] theorem State.modLd_clk (c : Nat) (f : LDev → LDev) : (s.modLd c f).clk = s.clk := rfl
@[simp] theorem State.modLd_thm (c : Nat) (f : LDev → LDev) : (s.modLd c f).thm = s.thm := rfl
@[simp] theorem State.modLd_cup (c : Nat) (f : LDev → LDev) : (s.modLd c f).cup = s.cup := rfl
@[simp] theorem State.modLd_car (c : Nat) (f : LDev → LDev) : (s.modLd c f).car = s.car := rfl
@[simp] theorem State.modLd_fuse (c : Nat) (f : LDev → LDev) : (s.modLd c f).fuse = s.fuse := rfl
@[simp] theorem State.modLd_sec (c : Nat) (f : LDev → LDev) : (s.modLd c f).sec = s.sec := rfl
@[simp] theorem State.modLd_jobs (c : Nat) (f : LDev → LDev) : (s.modLd c f).jobs = s.jobs := rfl
@[simp] theorem State.modLd_tiles (c : Nat) (f : LDev → LDev) : (s.modLd c f).tiles = s.tiles := rfl

@[simp] theorem State.modFront_pending (t p f : Nat) (g : Front → Front) : (s.modFront t p f g).pending = s.pending := rfl
@[simp] theorem State.modFront_free (t p f : Nat) (g : Front → Front) : (s.modFront t p f g).free = s.free := rfl
@[simp] theorem State.modFront_draws (t p f : Nat) (g : Front → Front) : (s.modFront t p f g).draws = s.draws := rfl
@[simp] theorem State.modFront_outbox (t p f : Nat) (g : Front → Front) : (s.modFront t p f g).outbox = s.outbox := rfl
@[simp] theorem State.modFront_pop (t p f : Nat) (g : Front → Front) : (s.modFront t p f g).pop = s.pop := rfl
@[simp] theorem State.modFront_reg (t p f : Nat) (g : Front → Front) : (s.modFront t p f g).reg = s.reg := rfl
@[simp] theorem State.modFront_gb (t p f : Nat) (g : Front → Front) : (s.modFront t p f g).gb = s.gb := rfl
@[simp] theorem State.modFront_ps (t p f : Nat) (g : Front → Front) : (s.modFront t p f g).ps = s.ps := rfl
@[simp] theorem State.modFront_md (t p f : Nat) (g : Front → Front) : (s.modFront t p f g).md = s.md := rfl
@[simp] theorem State.modFront_pw (t p f : Nat) (g : Front → Front) : (s.modFront t p f g).pw = s.pw := rfl
@[simp] theorem State.modFront_porter (t p f : Nat) (g : Front → Front) : (s.modFront t p f g).porter = s.porter := rfl
@[simp] theorem State.modFront_bel (t p f : Nat) (g : Front → Front) : (s.modFront t p f g).bel = s.bel := rfl
@[simp] theorem State.modFront_wins (t p f : Nat) (g : Front → Front) : (s.modFront t p f g).wins = s.wins := rfl
@[simp] theorem State.modFront_clk (t p f : Nat) (g : Front → Front) : (s.modFront t p f g).clk = s.clk := rfl
@[simp] theorem State.modFront_thm (t p f : Nat) (g : Front → Front) : (s.modFront t p f g).thm = s.thm := rfl
@[simp] theorem State.modFront_cap (t p f : Nat) (g : Front → Front) : (s.modFront t p f g).cap = s.cap := rfl
@[simp] theorem State.modFront_cup (t p f : Nat) (g : Front → Front) : (s.modFront t p f g).cup = s.cup := rfl
@[simp] theorem State.modFront_car (t p f : Nat) (g : Front → Front) : (s.modFront t p f g).car = s.car := rfl
@[simp] theorem State.modFront_fuse (t p f : Nat) (g : Front → Front) : (s.modFront t p f g).fuse = s.fuse := rfl
@[simp] theorem State.modFront_sec (t p f : Nat) (g : Front → Front) : (s.modFront t p f g).sec = s.sec := rfl
@[simp] theorem State.modFront_jobs (t p f : Nat) (g : Front → Front) : (s.modFront t p f g).jobs = s.jobs := rfl

end Sys2Proof.Machine
end

