-- ==== Sys2Proof/Machine/Pins.lean ====
section
/-! DEFINITION. Machine/Pins.lean: the ball map, what the pins stand at, the JTAG port and the supplies (19_pins_electrical.md R511 to
R524, R533, R536, R538). -/

namespace Sys2Proof.Machine

open Sys2Proof

/-! ### The ball map (R511 to R518) -/

/-- R513: a signal of a media channel other than its strobes and clock. -/
inductive McSig where
  | dq (i : Nat)
  | ca (i : Nat)
  | csN (i : Nat)
  | busyN | alertN | resetN | zq
  deriving DecidableEq, Repr

/-- R516: a signal of the sideband band. -/
inductive SideSig where
  | rdiode (k : Nat) (neg : Bool)
  | thref
  | mth (c k : Nat)
  | sth (i : Nat)
  | fanPwm (i : Nat)
  | fanTach (i : Nat)
  | i3cScl | i3cSda | bmcAlertN
  deriving DecidableEq, Repr

/-- R518: a signal of the spine. -/
inductive SpineSig where
  | seqEn (i : Nat)
  | pg (i : Nat)
  | pwrbtnN | mrstN | pwrfailN | holdTest | holdChgInh | vinSense | holdSense | xtalIn | xtalOut | phaseInP | phaseInN
  | flashSck | flashCsN | flashIo (i : Nat) | flashResetN | scanEn | i3cSa (i : Nat) | xtalByp | tck | tms | tdi | tdo | trstN
  deriving DecidableEq, Repr

/-- R512 to R518: what a ball carries; `t` is its tile. -/
inductive Ball where
  | gnd | unconnected | vaux | vauxIo
  /-- R513 -/
  | vddqM (t : Nat)
  /-- R513: DQSk of channel c -/
  | dqs (t c k : Nat) (neg : Bool)
  /-- R513 -/
  | ck (t c : Nat) (neg : Bool)
  /-- R513 -/
  | mc (t c : Nat) (sig : McSig)
  /-- R514 -/
  | vddqG (t : Nat)
  /-- R514: signal `i` of the list of JESD239 of device g; unconnected beyond the list -/
  | gd (t g i : Nat)
  /-- R515 -/
  | headTx (t lane : Nat) (neg : Bool)
  /-- R515 -/
  | headRx (t lane : Nat) (neg : Bool)
  /-- R515 -/
  | refclk (t : Nat) (neg : Bool)
  /-- R515 -/
  | perstN (t : Nat)
  /-- R515 -/
  | vddPhy (t : Nat)
  /-- R515 -/
  | vddaPhy (t : Nat)
  /-- R516 -/
  | side (t : Nat) (sig : SideSig)
  /-- R517 -/
  | vddCore (t : Nat)
  /-- R517 -/
  | vddPll (t : Nat)
  /-- R517 -/
  | vddSram (t : Nat)
  /-- R518 -/
  | spine (sig : SpineSig)
  deriving DecidableEq, Repr

/-- R513: the signals of a channel in their order. -/
def mcSignals : List McSig :=
  (List.range 36).map McSig.dq ++ (List.range 8).map McSig.ca ++ (List.range 4).map McSig.csN ++ [.busyN, .alertN, .resetN, .zq]

/-- R513: a position of a channel's band with ground, supply, a strobe or the clock. -/
def mcFixed (t c p : Nat) : Option Ball :=
  let m := p % 13
  if m = 0 ∨ m = 8 ∨ m = 12 then some .gnd
  else if m = 4 then some (.vddqM t)
  else if m = 1 ∨ m = 2 then some (.dqs t c (p / 13) (m == 2))
  else if p = 5 ∨ p = 6 then some (.dqs t c 8 (p == 6))
  else if p = 18 ∨ p = 19 then some (.ck t c (p == 19))
  else none

/-- R513: the ball at a position of a channel's band. -/
def mcBall (t c p : Nat) : Ball :=
  match mcFixed t c p with
  | some b => b
  | none => .mc t c (mcSignals.getD ((List.range p).filter (fun q => (mcFixed t c q).isNone)).length .zq)

/-- R514: the ball at a position of a GDDR7 band. -/
def gdBall (t g p : Nat) : Ball :=
  let fixed (q : Nat) : Bool := q % 4 == 0 || q % 8 == 6
  if p % 4 = 0 then .gnd else if p % 8 = 6 then .vddqG t else .gd t g ((List.range p).filter (fun q => !fixed q)).length

/-- R515: the ball at a position of the head band. -/
def headBall (t p : Nat) : Ball :=
  if p < 51 then
    if p % 3 = 0 then .gnd
    else if p < 24 then .headTx t (p / 3) (p % 3 == 2)
    else if p < 48 then .headRx t (p / 3 - 8) (p % 3 == 2)
    else .refclk t (p % 3 == 2)
  else if p = 52 then .perstN t
  else if p < 53 then .gnd
  else if p % 4 = 1 then .vddPhy t
  else if p % 8 = 3 then .vddaPhy t
  else .gnd

/-- R516: the ball at a position of the sideband band. -/
def sideBall (t p : Nat) : Ball :=
  if p < 4 then .side t (.rdiode (p / 2) (p % 2 == 1))
  else if p = 4 then .side t .thref
  else if p < 21 then .side t (.mth ((p - 5) / 2) ((p - 5) % 2))
  else if 40 ≤ p then .gnd
  else if 2 ≤ t then .unconnected
  else if p < 29 then .side t (.sth (p - 21))
  else if p < 33 then .side t (.fanPwm (p - 29))
  else if p < 37 then .side t (.fanTach (p - 33))
  else .side t (if p = 37 then .i3cScl else if p = 38 then .i3cSda else .bmcAlertN)

/-- R517: the ball at depth 50 to 53. -/
def coreBall (t d j : Nat) : Ball :=
  if d < 53 then (if (d + j) % 2 = 0 then .vddCore t else .gnd)
  else if j = 25 then .vddPll t else if j % 2 = 1 then .vddSram t else .gnd

/-- R512: the ball at depth `d`, 1 to 53, and column `j`, 1 to 26, of a tile's template. -/
def templateBall (t d j : Nat) : Ball :=
  if d ≤ 32 then mcBall t ((d - 1) / 4) (26 * ((d - 1) % 4) + j - 1)
  else if d ≤ 40 then (if j ≤ 13 then gdBall t 0 (13 * (d - 33) + j - 1) else gdBall t 1 (13 * (d - 33) + j - 14))
  else if d ≤ 46 then headBall t (26 * (d - 41) + j - 1)
  else if d ≤ 49 then sideBall t (26 * (d - 47) + j - 1)
  else coreBall t d j

/-- R518: the ball of the spine in a row; `right` is column 054. -/
def spineBall (row : Nat) (right : Bool) : Ball :=
  let two (l r : SpineSig) : Ball := .spine (if right then r else l)
  if 10 ≤ row ∧ row ≤ 19 then (if right then .vauxIo else .vaux)
  else if 30 ≤ row ∧ row ≤ 45 then two (.seqEn (row - 30)) (.pg (row - 30))
  else match row with
    | 46 => two .pwrbtnN .mrstN
    | 47 => two .pwrfailN .holdTest
    | 48 => if right then .gnd else .spine .holdChgInh
    | 49 => two .vinSense .holdSense
    | 50 => two .xtalIn .xtalOut
    | 52 => two .phaseInP .phaseInN
    | 55 => two .flashSck .flashCsN
    | 56 => two (.flashIo 0) (.flashIo 1)
    | 57 => two (.flashIo 2) (.flashIo 3)
    | 58 => two .flashResetN .scanEn
    | 59 => two (.i3cSa 0) (.i3cSa 1)
    | 60 => two (.i3cSa 2) .xtalByp
    | 61 => two .tck .tms
    | 62 => two .tdi .tdo
    | 63 => if right then .gnd else .spine .trstN
    | _ => .gnd

/-- R511, R512: what the ball of a row and column carries, both counted from 1; none outside the grid of 106 × 106. -/
def ballAt (row col : Nat) : Option Ball :=
  if row = 0 ∨ col = 0 ∨ 106 < row ∨ 106 < col then none
  else if col = 53 ∨ col = 54 then some (spineBall row (col == 54))
  else
    let k := if col < 27 then 0 else if col < 53 then 1 else if col < 81 then 2 else 3
    let first := [1, 27, 55, 81].getD k 1
    some (if row ≤ 53 then templateBall k row (col - first + 1) else templateBall (k + 4) (107 - row) (col - first + 1))

/-! ### Supplies (R521) -/

/-- R521: a rail of the package or of each tile. -/
inductive Rail where
  | vaux | vauxIo | vddCore | vddSram | vddPll | vddqM | vddqG | vddPhy | vddaPhy
  deriving DecidableEq, Repr

/-- R521: nominal voltage in mV, tolerance in tenths of a percent, ripple in mV, maximum current in mA. -/
def Rail.limits : Rail → Nat × Nat × Nat × Nat
  | .vaux => (3300, 50, 50, 450)
  | .vauxIo => (1800, 50, 30, 200)
  | .vddCore => (750, 30, 15, 38000)
  | .vddSram => (850, 30, 15, 4000)
  | .vddPll => (850, 30, 5, 300)
  | .vddqM => (1100, 30, 20, 6000)
  | .vddqG => (1200, 30, 20, 3000)
  | .vddPhy => (900, 30, 10, 8000)
  | .vddaPhy => (1200, 30, 10, 1200)

/-- R521: the slot that powers a rail of a tile by default, 0 for A; none for the standby rails. -/
def Rail.slot (r : Rail) (tile : Nat) : Option Nat :=
  match r with
  | .vaux | .vauxIo => none
  | .vddCore => some (if tile < 4 then 3 else 4)
  | .vddSram | .vddPll => some 5
  | .vddqM | .vddqG => some 6
  | .vddPhy | .vddaPhy => some 7

/-- R522: a rail stands within its tolerance. -/
def Rail.within (r : Rail) (mV : Nat) : Bool :=
  let (v, tol, _, _) := r.limits
  decide (v * (1000 - tol) ≤ 1000 * mV ∧ 1000 * mV ≤ v * (1000 + tol))

/-- R522: the package has VAUX within its limits only while both standby rails are within theirs. -/
def vauxWithin (vauxMv vauxIoMv : Nat) : Bool := Rail.vaux.within vauxMv && Rail.vauxIo.within vauxIoMv && decide (vauxIoMv ≤ vauxMv + 300)

/-! ### What the pins stand at (R519, R524, R533) -/

/-- R524: what a pin stands at. -/
inductive PinState where
  | low | high | highZ | unpowered
  /-- driven or received as its protocol gives -/
  | active
  deriving DecidableEq, Repr

/-- A level as a pin state. -/
def PinState.level (b : Bool) : PinState := if b then .high else .low

/-- R524: the slot that powers a rail of a tile is qualified. -/
def State.railOn (s : State) (r : Rail) (tile : Nat) : Bool := match r.slot tile with | some k => bitOf s.pw.pgQual k | none => s.pw.vaux

/-- R519, R524: SEQ_EN_x. -/
def State.seqEnPin (s : State) (slot : Nat) : PinState := .level (s.pw.vaux && bitOf s.pw.seqEn slot)

/-- R519, R524: HOLD_TEST. -/
def State.holdTestState (s : State) : PinState := .level (s.pw.vaux && s.pw.holdTestPin)

/-- R519, R524: HOLD_CHG_INH. -/
def State.holdChgInhState (s : State) : PinState := .level (s.pw.vaux && s.pw.holdChgInh)

/-- R519, R524: BMC_ALERT_N of tile 0 or 1, I3C_SCL and I3C_SDA with it: the island that is not active leaves it at high impedance; it is open
drain. -/
def State.bmcAlertPin (s : State) (tile : Nat) : PinState :=
  if !s.pw.vaux || tile != s.md.primary then .highZ else if s.thm.alertLow then .low else .highZ

/-- R519, R524: FAN_PWMn of tile 0 or 1: a pull-down holds it low without VAUX; the island that is not active leaves it at high impedance. -/
def State.fanPwmPin (s : State) (tile n : Nat) : PinState :=
  if !s.pw.vaux then .low else if tile != s.md.primary then .highZ else if (vget n {} s.thm.fans).duty = 0 then .low else .active

/-- R524, R533: FLASH_RESET_N is held low until the island leaves power-on reset. -/
def State.flashResetPin (s : State) : PinState := if !s.pw.vaux then .highZ else .level (s.md.mode != .off)

/-- R524: the other pins of the boot flash. -/
def State.flashPins (s : State) : PinState := if s.pw.vaux then .active else .highZ

/-- R524: MCc_RESET_N of a tile: driven low from its rail's qualification until training drives it high (06_medium.md R194). -/
def State.mcResetPin (s : State) (tile ch : Nat) : PinState :=
  if !s.railOn .vddqM tile then .unpowered else .level ((s.chan tile ch).st != 0)

/-- R524: the media, GDDR7 and head signals of a tile. -/
def State.ioPins (s : State) (r : Rail) (tile : Nat) : PinState := if s.railOn r tile then .active else .unpowered

/-! ### JTAG (R533) -/

/-- R533: the boundary scan of IEEE 1149.1 works whenever VAUX is present. -/
def State.boundaryScan (s : State) : Bool := s.pw.vaux

/-- R533, 16_security.md R471: an instruction of the JTAG port acts: one of IEEE 1149.1 with VAUX, any other under the MP_DEBUG grant. -/
def State.jtagActs (s : State) (ieee : Bool) : Bool := s.boundaryScan && (ieee || bitOf s.sec.granted 2)

/-! ### Power and temperature (R536, R538) -/

/-- R536: package power in tenths of a W: standby typical, standby maximum, Serve idle, Serve typical, maximum. -/
def packagePower (tiles : Nat) : List Nat :=
  [11, 15] ++ (if tiles = 2 then [280, 720, 950] else if tiles = 4 then [520, 1340, 1750] else [980, 2620, 3400])

/-- R538: the junction temperature in m°C: air, power in W, and the thermal resistances from junction to lid, of the interface and of the heat
sink, in m°C/W. -/
def junctionTemp (airMc powerW lid interface sink : Nat) : Nat := airMc + powerW * (lid + interface + sink)

end Sys2Proof.Machine
end

