-- ==== Sys2Proof/Tests/States.lean ====
section
/-! SUPPORT. Tests/States.lean: small states that the tests and the witnesses of the statements' hypotheses start from. -/

namespace Sys2Proof.Tests

open Sys2Proof Sys2Proof.Machine

/-- Off: the state after reset. -/
def off : State := State.reset

/-- Standby, the rails down for long and the default slots loaded. -/
def standby : State :=
  { md := { mode := .standby }, pw := { vaux := true, rested := true, slots := defaultSlots, levels := (0x042003E8#32, 0x03A20032#32) } }

/-- Serve: rails up, tiles out of reset, ring 0 running and privileged, ring 1 running. -/
def serve : State :=
  { md := { mode := .serve, resetsReleased := true, step := 13, stepsDone := 0x3FFE },
    pw := { vaux := true, seq := .up, seqEn := 3, pgQual := 3, slots := defaultSlots, levels := (0x042003E8#32, 0x03A20032#32), vin := 1200,
            holdV := 2000, vb := 40000, cBank := 200000000, measured := 1 },
    reg := { vals := [(Reg.RING_CFG 0, 0x40000000#32)] },
    porter := { rings := vmod 0 (fun g => { g with state := .running }) (vmod 1 (fun g => { g with state := .running }) (Vector.replicate 64 {})) } }

/-- A mode other than Serve, with the rest of `serve`. -/
def inMode (m : Mode) : State := serve.modMd (fun d => { d with mode := m })

/-- A Porter command of ring 0. -/
def pc0 : PortCmd := { ring := 0, cid := 7 }

/-- The rails on their way up, slot 1 enabled and slot 0 qualified. -/
def rising : State := (inMode .bringup).modPw (fun p => { p with seq := .up1, slot := 1, seqEn := 3, pgQual := 1 })

/-- Bring-up after T_R, its tiles out of reset, with the steps of `done` complete. -/
def boot (done : Nat) : State := (inMode .bringup).modMd (fun d => { d with stepsDone := done, step := 2 })

/-- `n` ranks whose nine dies are FXM64 of one revision and did not fail. -/
def fxRanks (n : Nat) : List TrainRank := List.replicate n { ids := List.replicate 9 (0x00640B71, 0) }

/-- The sideband endpoint as the master of an access. -/
def side : Access := { head := 0, sideband := true }

/-- Head 0 as a privileged master. -/
def host0 : Access := { head := 0 }

/-- `serve` with head 0 privileged. -/
def serveP : State := serve.setReg Reg.SEC_PRIV_CTL 1

/-- Head 2 as a master that is not privileged. -/
def host2 : Access := { head := 2 }

/-- The row of the register table of an offset, on a part with 8 tiles. -/
def rowAt (off : Nat) : RegDef :=
  (regDef? 8 off).getD { key := 0, acc := .ro, reset := 0, wmask := 0, w1c := 0, selfClear := 0, priv := .openAll, prot := 0 }

/-- `serve` with the link of head `h` up, carrying CXL.mem at 32 GT/s and 8 lanes. -/
def linked (h : Nat) : State :=
  (serve.modMd (fun d => { d with perstHigh := 255 })).modHead h (fun d =>
    { d with up := true, cxl := true, speed := 4, width := 8, ldCount := 1, reqCredits := 512, rwdCredits := 256, ndr := none, drs := none })

/-- The page at which `scrubbing` and `refreshing` work: channel 2, block 0. -/
def page2 : Nat := 2 * 2 ^ 26

/-- `serve` with channel 2 of tile 3 in service, one page on it that segment 0 maps to, and a sector of class `cls` with budget. -/
def sector (cls : Nat) : State :=
  ((serve.modMed 3 (fun m => { m with chans := vmod 2 (fun c => { c with st := 2 }) m.chans, pages := [(page2, { kind := .host })] })).modBelT 3
    (fun b => { b with sched := [{ valid := true, cls := cls, chans := 0xFF, budget := 9 }], active := 1 })).modXl 3
    (fun x => { x with blocks := [(locBlk page2, { st := .full })], map := [(0, { st := .mapped, loc := page2 })] })

/-- A SCRUB sector. -/
def scrubbing : State := sector 3

/-- A REFRESH sector with that page queued. -/
def refreshing : State := (sector 2).modInt 3 (fun x => { x with queue := [{ loc := page2, prio := 0, age := 0 }] })

/-- `linked 0` with LD 0 of head 0 holding package block 0 behind decoder 0, and frame 0 of tile 0 Dirty with line 0 of segment 0. -/
def mapped : State :=
  ((((linked 0).modLd 0 (fun d => { d with hdm := vmod 0 (fun x => { x with size := 1, committed := true }) d.hdm })).modCap (fun c =>
    { c with table := [(0, { kind := 1 })] })).modFs 0 (fun g =>
      { g with frames := [(0, { st := .dirty, seg := 0, valid := 1, dirty := 1, lines := [(0, 7)] })], measured := 1000 }))

/-- `mapped` with frame 0 of tile 0 as given. -/
def frameIs (x : Frame) : State := mapped.modFs 0 (fun g => { g with frames := [(0, x)] })

/-- `mapped` with every line of the Dirty frame VALID, older than every other epoch. -/
def full : State := (frameIs { st := .dirty, seg := 0, valid := allLines, dirty := 1, lines := [(0, 7)] }).modFs 0 (fun g => { g with epoch := 6 })

/-- `mapped` with the commit of frame 0 at step 5, its DIRTY bits as given. -/
def committed (dirty : Nat) : State :=
  (frameIs { st := .writing, seg := 0, valid := allLines, dirty := dirty, lines := [(0, 7)] }).modXl 0 (fun x =>
    { x with commits := [{ job := .host 0, seg := 0, page := { kind := .host }, step := .done }] })

/-- `serve` with the Front Store of every tile in state `m`. -/
def fsAll (m : FsMode) : State := (List.range 8).foldl (fun a t => a.modFs t (fun g => { g with mode := m })) serve

/-- `serve` with every tile but tile 0 failed. -/
def oneTile : State := serve.modMd (fun d => { d with failed := 0xFE })

/-- A request of head 0 for line 0. -/
def req0 : MemReq := { head := 0, tag := 5, ld := 0, hpa := 0 }

/-- `sector 0` with channel 2 of tile 3 changed. -/
def chanIs (f : Channel → Channel) : State := (sector 0).modCh 3 2 f

/-- A program on channel 2 of tile 3 that a host read suspends. -/
def suspending : State :=
  chanIs (fun c => { c with ranks := 1, ops := [{ loc := page2, job := .host 0 }], reads := [{ id := 1, loc := page2 + 1, line := 0, st := .suspend }] })

/-- A host read of segment 0 of tile 3 whose line the medium sends. -/
def reading : State :=
  ((chanIs (fun c => { c with reads := [{ id := 1, loc := page2, line := 0, st := .array }] })).modTxn 3 (fun x =>
    { x with tracker := [{ id := 1, head := 3, tag := 9, ld := 0, dpa := 0, owner := 3, kind := .rd }],
             haz := [{ req := { id := 1, head := 3, tag := 9, ld := 0, dpa := 0, owner := 3, kind := .rd }, seg := 0, line := 0, src := 0, st := .media }] })).modHead 3
    (fun d => { d with drs := none })

/-- The page of frame 0 of tile 0 being programmed. -/
def programming : State :=
  (((frameIs { st := .writing, seg := 0, valid := allLines, lines := [(0, 7)] }).modXl 0 (fun x =>
    { x with commits := [{ job := .host 0, seg := 0, page := { kind := .host }, loc := some 5 }] })).modCh 0 0 (fun c =>
    { c with ops := [{ loc := 5, job := .host 0, page := some { kind := .host } }] }))

/-- The clear of block 0 of channel 2 of tile 3 under way. -/
def clearing : State :=
  (chanIs (fun c => { c with ops := [{ loc := page2, job := .clear }] })).modXl 3 (fun x => { x with blocks := [(locBlk page2, { st := .pending })], map := [], spare := 9, spare0 := 9 })

/-- `sector 0` with its map restored and one record in the staging. -/
def restored : State := (sector 0).modXl 3 (fun x => { x with mapState := 1, jpos := 1 })

/-- `restored` with every channel of tile 3 in service. -/
def restoredUp : State := restored.modMed 3 (fun m => { m with chans := vmap (fun c => { c with st := 2, ranks := 1 }) m.chans })

/-- `sector 0` with a FULL block on plane 2 and all but two of its other blocks retired: one block listed over and over, which counts
as that many. -/
def tight : State :=
  (sector 0).modXl 3 (fun x => { x with map := [], blocks := (2 * 2 ^ 18, { st := .full }) :: List.replicate 16355 (2 * 2 ^ 18 + 16000, { st := .retired }) })

/-- A batch of tile 3 whose next page the map no longer names. -/
def copying : State := (sector 0).modXl 3 (fun x => { x with batches := [{ src := 7, plane := 2, target := 1, left := [(1, page2 + 9), (2, 4)] }] })

/-- A batch of tile 3 for RETIRE_BLOCK, with block 9 open on its frontier. -/
def copyReady : State :=
  ((chanIs (fun c => { c with ranks := 1 })).modXl 3 (fun x =>
    { x with batches := [{ src := 2 * 2 ^ 18, plane := 2, target := 1, left := [(0, page2)] }], lastPlane := 1,
             fronts := [(7, { cur := some (2 * 2 ^ 18 + 9) })], blocks := [(2 * 2 ^ 18, { st := .copying }), (2 * 2 ^ 18 + 9, { st := .opened, used := 3 })] })).modJobs
    (fun j => { j with retire := [(0, 7, 3, 2 * 2 ^ 18, 1)] })

/-- A batch of tile 3 whose one copy is programmed. -/
def copied : State :=
  (sector 0).modXl 3 (fun x =>
    { x with map := [(0, { st := .relocating, loc := page2 })],
             batches := [{ src := 2 * 2 ^ 18, plane := 2, target := 1, left := [], copied := [(0, page2, page2 + 9)] }] })

/-- `serve` with segment 0 of tile 0 as given and no frame. -/
def oneSeg (e : MapEnt) : State := serve.modXl 0 (fun x => { x with map := [(0, e)] })

/-- Service with a page of segment 0 that the map does not name, in a block to be cleared. -/
def stalePage : State :=
  ((inMode .service).modMed 0 (fun m => { m with pages := [(page2, { kind := .host })] })).modXl 0 (fun x => { x with blocks := [(2 * 2 ^ 18, { st := .pending })] })

/-- Service with a FULL block that holds one valid page, a retired block, and spare blocks, on channel 2 of tile 3. -/
def spare : State :=
  ((sector 0).modMd (fun d => { d with mode := .service })).modXl 3 (fun x =>
    { x with spare := 9, spare0 := 9, blocks := [(2 * 2 ^ 18, { st := .full }), (2 * 2 ^ 18 + 1, { st := .retired })] })

/-- `serve` with a DC region of eight blocks configured at LD 0, which has a key. -/
def withRegion (share : Bool) : State :=
  (serve.modLd 0 (fun d => { d with key := 3 })).modCap (fun c => { c with regions := [(0, { base := 0, len := 8, conf := true, share := share })] })

/-- The same with package block 4 held as LD block 2. -/
def withExtent : State :=
  (withRegion false).modCap (fun c => { c with table := [(4, { kind := 1, ld := 0, region := 0, ldBlk := 2 })],
                                               extents := [{ ld := 0, region := 0, start := 2, len := 1 }] })

/-- `serve` with one record in the Fatal log of LD 0 of head 0. -/
def logged : State := serve.modLd 0 (fun d => { d with logs := vmod 3 (fun g => { g with recs := [{ kind := 0, cause := 1, info := 2 }] }) d.logs })

/-- `serve` with 128 bytes of an image staged by LD 0 of head 0. -/
def staged : State := (serve.modSlotFw 1 (fun k => { k with staged := 128, partialImg := true })).modSec (fun x => { x with staging := some (0, 0) })

/-- `serve` with key slot 3 of LD 0. -/
def keyed : State := (serve.modLd 0 (fun d => { d with key := 3 })).modSec (fun x => { x with stored := [(3, (0, 0, 0))] })

/-- `linked 0` with an SPDM session and indices to sign with, OWNED. -/
def spdm : State :=
  ((linked 0).modHead 0 (fun d => { d with spdm := 0x12, spdmAlg := true, session := true })).modSec (fun k => { k with lc := 3, next := 5, reserved := 256 })

/-- `spdm` with stream 4 of head 0 as given. -/
def ideStream (x : IdeStream) : State := spdm.modHead 0 (fun d => { d with ide := vmod 4 (fun _ => x) d.ide })

/-- Service in a state of the life cycle. -/
def lifeCycle (lc : Nat) : State := (inMode .service).modSec (fun k => { k with lc := lc })

/-- OWNED with OWNER_AUTH and a number of failures. -/
def owned (auth : List Byte) (fails : Nat) : State :=
  (lifeCycle 3).modPs (fun p => { p with pendingSet := [(Param.OWNER_AUTH, auth), (Param.AUTH_FAILS, failBytes fails 0)] })

/-- A debug token for scope 1, after 64 bytes of secrets, for serial number 0 and challenge 0. -/
def debugToken : List Byte := zeros 64 ++ [0x4B, 0x7A, 3, 1] ++ zeros 60

/-- `serve` with a fetch of one descriptor of ring 1 under way through head 0. -/
def fetching : State := serve.modHead 0 (fun d => { d with outbound := [{ ring := 1, cid := none, count := 1 }] })

/-- `serve` with one descriptor of rings 0 and 1 fetched, of the opcode given. -/
def ready (op : Nat) : State :=
  let d : Desc := { opcode := op, cid := 3, flags := 1, rsv := 0, params := 0 }
  (serve.modRing 0 (fun g => { g with fetched := [d] })).modRing 1 (fun g => { g with fetched := [d] })

/-- `serve` with one command of ring 0 as given. -/
def ending (e : Exec) : State := serve.modRing 0 (fun g => { g with execs := [e] })

/-- `serve` with the first `n` records of the circulating area in the buffer. -/
def recorded (n : Nat) : State :=
  serve.modGb (fun g => { g with buf := (List.range n).map (fun k => { code := 7, source := 15, num := k + 1 }), circNext := n + 1 })

/-- Service with a stored password of which the bytes are given. -/
def withAuth (auth : List Byte) : State := (inMode .service).modPs (fun p => { p with pendingSet := [(Param.PARAM_AUTH, auth)] })

/-- `serve` with the commit of one value running for a PARAM_COMMIT of ring 0. -/
def storing (retried : Bool) : State :=
  (serve.modPs (fun p => { p with running := some { seq := 4, els := [(0x0100, [3#8, 1#8])], callers := [.porter 0 7], retried := retried } })).modRing 0
    (fun g => { g with execs := [{ cid := 7, opcode := 0x0B02 }] })

/-- `serve` with phase tracking as given. -/
def phaseIn (b : Belfry) : State := { serve with bel := b }

/-- `linked 0` with phase tracking as given and head 0 selected for fabric phase messages. -/
def listening (b : Belfry) : State := { ((linked 0).setReg Reg.BELFRY_CTL 1) with bel := b }

/-- A fabric phase message for domain 0, period 10,000 µs, START_NS 0 and turn 77, which sets the turn number. -/
def phaseMsg : List Byte :=
  let b : List Byte := leBytes 2 1 ++ zeros 2 ++ leBytes 4 10000 ++ zeros 8 ++ leBytes 5 77 ++ [1] ++ zeros 2
  b ++ leBytes 4 (crc32c b).toNat ++ zeros 4

/-- `linked 0` as member 0 of three of a group with XOR parity over three package blocks from block 100, its peers ACTIVE. -/
def grouped : State :=
  (linked 0).modCar (fun _ =>
    { inGroup := true, group := 5, n := 3, base := 96, blocks := 3, heads := 1, peers := [{ idx := 1, st := .active }, { idx := 2, st := .active }] })

/-- A frame of peer 2 for stripe `k`. -/
def frameOf (k mask : Nat) (ls : List Line) : CarFrame :=
  { head := 0, group := 5, src := 2, dst := 0, seq := 9, stripe := k, jpos := 77, member := 1, mask := mask, lines := ls }

/-- `grouped` with Caravan of tile 3 as given. -/
def slotted (c : CarTile) : State := grouped.modCarT 3 (fun _ => c)

/-- A delta of peer 2 that is held. -/
def heldDelta : CarHeld := { peer := 2, seq := 4, stripe := 0, isQ := false, member := 1, jpos := 8, lines := [(0, 5)] }

/-- `grouped` with a commit of segment 0 of tile 0 that waits for the answers of the holders given. -/
def awaiting (l : List Nat) : State :=
  (grouped.modCar (fun c => { c with msgs := [{ peer := 2, seq := 9, type := 1, stripe := 65536, lines := [(0, 5)] }] })).modXl 0 (fun x =>
    { x with mapState := 1, commits := [{ job := .host 0, seg := 0, page := { kind := .host }, loc := some 5, step := .caravan l }] })

/-- `grouped` with one read of peers as given. -/
def readingPeers (left : List (Nat × Nat)) : State :=
  grouped.modCar (fun c => { c with reads := [{ use := .host 0 1 0, stripe := 65536, mask := 1, left := left }] })

/-- `grouped` that replaces member 0 and rebuilds, at stripe `k`. -/
def rebuilding (k : Nat) : State :=
  (grouped.modCar (fun c => { c with role := 2, member := 3, target := 0, work := 2, resyncNext := k })).setWindow 2

end Sys2Proof.Tests
end

