-- ==== Sys2Proof/Tests/Slice0.lean ====
section
/-! SUPPORT. Tests/Slice0.lean: ill-formed commands that WellFormed refuses, small steps against the manual's own words, and for
every statement with hypotheses states and operands that meet them. -/

namespace Sys2Proof.Tests

open Sys2Proof Sys2Proof.Machine

set_option Elab.async false

/-! ### WellFormed -/

/-- Commands with one operand outside the field that carries it, one for each check of WellFormed.lean, are refused. -/
theorem test_wf_refuses :
    ([Instr.islandPowerOn 32 [] [], .onRequest 4, .railFailure 16, .pwrFaultClear { head := 8 }, .pwrFaultClear { head := 0, ld := 16 },
     .senseSample 4096 0, .shedStageLeave 3, .nop { ring := 64, cid := 0 }, .nop { ring := 0, cid := 65536 }, .setMode pc0 4, .warmReset 2,
     .pllLock 8 0, .pllLock 0 8, .tileSelfTestDone 0 [(0, 2 ^ 20)], .channelTrainingDone 0 8 0 0 [] none,
     .channelTrainingDone 0 0 0 0 [{ failed := 512 }] none,
     .channelTrainingDone 0 0 0 0 [{ ids := [(2 ^ 64, 0)] }] none, .channelTrainingDone 0 0 16 0 [] none, .memRd { req0 with head := 8 }, .memRd { req0 with tag := 65536 },
     .memRd { req0 with ld := 16 }, .memRd { req0 with hpa := 2 ^ 52 }, .memRd { req0 with hpa := 32 }, .memRd { req0 with upset := { tagWay := 16 } },
     .mediaReadData 0 0 { line := 68 } [] 0, .mediaReadData 0 0 { line := 0, reads := [[(72, 1)]] } [] 0, .mediaReadData 0 0 { line := 0, flags := 512 } [] 0,
     .statusPoll 0 0 4, .programDone 0 (2 ^ 29) false, .copyPage 0 (2 ^ 21) [], .segmentLockRelease 0 (2 ^ 29) 0, .frameCommitComplete 0 (2 ^ 20) 0,
     .helloSend 20, .caravanFrameAck { frameOf 0 0 [] with group := 4096 }, .caravanFrameAck { frameOf 0 0 [] with frag := 19 },
     .transferFw 0 0 0 0 0 { svn := 2 ^ 32 }, .descriptorFetchDone 0 [{ opcode := 0, cid := 0, flags := 256, rsv := 0, params := 0 }] false,
     .registerWrite side 0 0 0 0, .registerWrite side 0 65 0 0, .registerWrite side (2 ^ 20) 4 15 0, .setQosControl 0 []] : List Instr).all
      (fun i => !i.wf) = true := by decide +kernel

/-- The same commands with that operand at the end of its range are accepted. -/
theorem test_wf_accepts :
    [Instr.islandPowerOn 31 [] [], .onRequest 3, .railFailure 15, .pwrFaultClear { head := 7, ld := 15 }, .nop { ring := 63, cid := 65535 },
     .setMode pc0 3, .warmReset 4, .pllLock 7 7, .memRd { req0 with hpa := 2 ^ 52 - 64 }, .mediaReadData 0 0 { line := 67 } [] 0,
     .programDone 0 (2 ^ 29 - 1) false, .helloSend 19, .registerWrite side (2 ^ 20 - 4) 64 15 0].all Instr.wf = true := by decide +kernel

/-! ### Numbers worked out by hand in the manual's examples -/

/-- 01_architecture.md R21, example: DPA 0x01234567 belongs to segment 582 of tile 2, and back. -/
theorem test_interleave : serve.segTile 0x1234 = 2 ∧ serve.segLocal 0x1234 = 582 ∧ serve.segOf 2 582 = 0x1234 := by decide +kernel

/-- 02_host_ports.md R52, example: HPA 0x001000123A40 at decoder 0 of two ways is LD DPA 0x91A40, at position 1. -/
theorem test_decoder :
    hdmDecode [{ base := 256, size := 256, ways := 1, gran := 12, target := 1, committed := true }] 0x1000123A40 = some (0x91A40, true) := by
  decide +kernel

/-- 02_host_ports.md, example: segment 0x20000091 is local 0x04000012 of tile 5; the mesh goes from tile 2 over 3 and 1. -/
theorem test_route :
    serve.segTile 0x20000091 = 5 ∧ serve.segLocal 0x20000091 = 0x04000012 ∧ serve.routePort 2 5 = some 0 ∧ serve.portTo 2 0 = 3 ∧
      serve.routePort 3 5 = some 1 ∧ serve.portTo 3 1 = 1 ∧ serve.routePort 1 5 = some 2 ∧ serve.portTo 1 2 = 5 := by decide +kernel

/-- 05_front_store.md, example: local segment 0x04000012 is in set 530 with tag 0x200. -/
theorem test_set : serve.setOf 0x04000012 = 530 ∧ serve.tagOf 0x04000012 = 0x200 ∧ serve.segOfTag 530 0x200 = 0x04000012 := by decide +kernel

/-- 05_front_store.md, example: line 41 of frame 4,243 and its metadata line. -/
theorem test_addresses : serve.pop.lineAddr 4243 41 = 0x0012A6188 ∧ serve.pop.metaAddr 4243 = 0x1A004A958 := by decide +kernel

/-- 19_pins_electrical.md, example: MC3_DQS2_P_5 is ball 093-028 and MC3_DQS2_N_5 ball 093-029. -/
theorem test_ball : ballAt 93 28 = some (.dqs 5 3 2 false) ∧ ballAt 93 29 = some (.dqs 5 3 2 true) := by decide +kernel

/-- 08_integrity.md R247: the check symbols of a line whose only symbol is u_0 = 1 are those of x^8 itself, the lower coefficients of g(x): the word
is g(x), which is 0 at every one of its roots. -/
theorem test_code :
    let c := rsChecks 8 (rsGen 8) (1 :: List.replicate 63 0) ++ [1]
    (List.range 8).all (fun i => (List.range 9).foldl (fun a j => a ^^^ gfMul (c.getD j 0) (gfPow (i * j))) 0 == 0) = true := by decide +kernel

/-- 06_medium.md R190, example: the offsets after 30 days. -/
theorem test_drift : driftOffs { d := [24, 40, 56], c := [-4, -6, -8] } 2592000000 60 45 = [44, 73, 102] := by decide +kernel

/-- 08_integrity.md R267, example: the stripe of local segment 67,108,882 of tile 5 with 16 regions. -/
theorem test_stripe :
    (serve.modCup (fun c => { c with regions := 16 })).stripeOf 5 67108882 = some (3, 9586983, 1) ∧
      (serve.modCup (fun c => { c with regions := 16 })).parLocal 9586983 = 420628775 ∧ serve.memberOf 3 9586983 0 = (4, 67108881) ∧
      serve.memberOf 3 9586983 6 = (2, 67108887) := by decide +kernel

/-- 09_caravan.md R286, example: row 5,001 of four members has its parity at member 1, and P2, P3 and P0 are data members 0, 1, 2. -/
theorem test_row :
    ({ n := 4 } : Caravan).pOf 5001 = 1 ∧ ({ n := 4 } : Caravan).dataIdx 5001 2 = some 0 ∧ ({ n := 4 } : Caravan).dataIdx 5001 3 = some 1 ∧
      ({ n := 4 } : Caravan).dataIdx 5001 0 = some 2 ∧ ({ n := 4 } : Caravan).dataIdx 5001 1 = none ∧ serve.segTile 0x13890123 = 6 := by decide +kernel

/-- 10_modes.md R326, example: u = 692 J gives 685,200 frames without Cupola and 313,928 with it. -/
theorem test_limit : serve.limitOf 692 0 = 685200 ∧ (serve.modCup (fun c => { c with regions := 16 })).limitOf 692 0 = 313928 := by decide +kernel

/-- 11_power.md R352, example: 0.5555 F at 54.00 V holds 692 J. -/
theorem test_usable : (serve.modPw (fun p => { p with cBank := 555500000 })).usableAt 108000 = 692 := by decide +kernel

/-- 14_command_rings.md R414, example: LENGTH 0x40000, START 0x91000 and LD 3 in their places. -/
theorem test_params : packAt 0 [(16, 3), (1, 0), (64, 0x91000), (64, 0x40000)] = 3 + 0x91000 * 2 ^ 32 + 0x40000 * 2 ^ 96 := by decide +kernel

/-! ### Steps -/

/-- 15_registers.md R436, example, steps 1 and 2: 0x007C0034 turns FS_CTL 0x11 into 0x35. -/
theorem test_masked_write :
    ((serve.setReg Reg.FS_CTL 0x11#32).registerWriteEff side Reg.FS_CTL 4 15 0x007C0034).getReg Reg.FS_CTL = 0x35#32 := by decide +kernel

/-- The same example, step 4: filtered through head 2, it leaves 0x11 and puts 0x58004000 into REG_ERR_ADDR. -/
theorem test_filtered_write :
    (((serve.setReg Reg.SEC_PRIV_CTL 1).setReg Reg.FS_CTL 0x11#32).registerWriteEff host2 Reg.FS_CTL 4 15 0x007C0034).getReg Reg.FS_CTL = 0x11#32 ∧
      (((serve.setReg Reg.SEC_PRIV_CTL 1).setReg Reg.FS_CTL 0x11#32).registerWriteEff host2 Reg.FS_CTL 4 15 0x007C0034).getReg Reg.REG_ERR_ADDR =
        0x58004000#32 := by decide +kernel

/-- 10_modes.md R313 transition 1: the rise of VAUX leads from Off to Standby. -/
theorem test_vaux_rise : (State.reset.islandPowerOnEff 0 [] []).md.mode = .standby := by decide +kernel

/-- 10_modes.md R325: the loss of VAUX in Hold-up has no next state. -/
theorem test_vaux_loss : execVauxLoss .done (inMode .holdup) = .fault .vauxLostInHoldup := rfl

/-- 19_pins_electrical.md R520: with SCAN_EN high the part is outside the specification. -/
theorem test_scan_enable : execIslandPowerOn 16 [] [] off = .fault .scanEnabled := rfl

/-! ### Witnesses of hypotheses about a step, and of those that no evaluation decides -/

/-- A queue with a command at its front, and an empty one. -/
theorem witness_StepRunsFront :
    ({ serve with pending := [.mrstNRelease, .mrst] } : State).pending = .mrstNRelease :: [.mrst] ∧ serve.pending = [] := by decide +kernel

/-- States in which a step stops, by either cause. -/
theorem witness_StepStops :
    step { inMode .holdup with pending := [.vauxLoss .done] } = .fault .vauxLostInHoldup ∧
      ({ inMode .holdup with pending := [.vauxLoss .done] } : State).pending.head? = some (.vauxLoss .done) ∧ (inMode .holdup).md.mode = .holdup ∧
      step { off with pending := [.islandPowerOn 16 [] []] } = .fault .scanEnabled ∧
      ({ off with pending := [.islandPowerOn 16 [] []] } : State).pending.head? = some (.islandPowerOn 16 [] []) ∧ bitOf 16 4 = true :=
  ⟨rfl, rfl, rfl, rfl, rfl, rfl⟩

/-- Bring-up complete but for step 13, with a running image that raises the rollback floor to 1. -/
def floorRises : State :=
  { (inMode .bringup).modSec (fun k => { k with booted := true, slots := [{ img := { flags := 1, svn := 1 } }, {}], lc := 2 }) with pending := [.bringupComplete 9] }

/-- A step that answers a next state with a queue left, and one that changes the fuses. -/
theorem witness_StepKeeps :
    (∃ t, step { serve with pending := [.mrstNRelease, .mrst] } = .next t) ∧ (∃ t, step floorRises = .next t ∧ t.fuse ≠ floorRises.fuse) :=
  ⟨⟨_, rfl⟩, ⟨_, rfl, by decide +kernel⟩⟩

/-- The invariant of the modes holds in states that take a step. -/
theorem witness_ModeInvariant :
    ∃ s t : State, s.modeInv = true ∧ step s = .next t ∧ t.modeInv = true :=
  ⟨{ serve with pending := [.vauxLoss .done] }, _, by decide +kernel, rfl, by decide +kernel⟩

/-- The mode changes, the loss of VAUX enters Off, and its rise leaves it. -/
theorem witness_ModeMoves :
    (∃ s t : State, s.modeInv = true ∧ step s = .next t ∧ t.md.mode = .standby ∧ s.md.mode = .off) ∧
    (∃ s t : State, step s = .next t ∧ s.md.mode ≠ .off ∧ t.md.mode = .off) ∧
    (∃ s t : State, s.modeInv = true ∧ step s = .next t ∧ s.md.mode = .off ∧ s.pw.seq = .down ∧ t.md.mode ≠ .off) :=
  ⟨⟨{ off with pending := [.islandPowerOn 0 [] []] }, _, by decide +kernel, rfl, by decide +kernel, by decide +kernel⟩,
   ⟨{ serve with pending := [.vauxLoss .done] }, _, rfl, by decide +kernel, by decide +kernel⟩,
   ⟨{ off with pending := [.islandPowerOn 0 [] []] }, _, by decide +kernel, rfl, by decide +kernel, by decide +kernel, by decide +kernel⟩⟩

theorem tight_blocks :
    (tight.tile 3).xl.blocks = (2 * 2 ^ 18, { st := .full }) :: List.replicate 16355 (2 * 2 ^ 18 + 16000, { st := .retired }) := rfl

theorem tight_listed :
    tight.listedOn 3 2 = (2 * 2 ^ 18, { st := .full }) :: List.replicate 16355 (2 * 2 ^ 18 + 16000, { st := .retired }) := by
  have h : blkPlane (2 * 2 ^ 18) = 2 ∧ blkPlane (2 * 2 ^ 18 + 16000) = 2 := by decide +kernel
  rw [State.listedOn, tight_blocks]
  simp only [List.filter_cons, List.filter_replicate, h.1, h.2, beq_self_eq_true, if_true]

theorem tight_default : (tight.blkDefault (2 * 2 ^ 18)).st = .ring ∧ (tight.blkDefault (2 * 2 ^ 18 + 16000)).st = .free := by decide +kernel

theorem tight_filter (p : Nat × Blk → Bool) : (tight.listedOn 3 2).filter p =
    (if p (2 * 2 ^ 18, { st := .full }) then [(2 * 2 ^ 18, { st := .full })] else []) ++
      (if p (2 * 2 ^ 18 + 16000, { st := .retired }) then List.replicate 16355 (2 * 2 ^ 18 + 16000, { st := .retired }) else []) := by
  rw [tight_listed, List.filter_cons, List.filter_replicate]
  split <;> rfl

theorem tight_free : tight.freeOn 3 2 ≤ 2 := by
  simp only [State.freeOn, State.countSt, tight_filter, tight_default.1, tight_default.2]
  simp only [show (BlkSt.ring == BlkSt.free) = false from rfl, show (BlkSt.free == BlkSt.free) = true from rfl,
    show (BlkSt.full == BlkSt.free) = false from rfl, show (BlkSt.retired == BlkSt.free) = false from rfl, List.length_append, if_true,
    Bool.false_eq_true, if_false, List.length_nil, List.length_replicate]
  decide

theorem tight_pending : tight.countSt 3 2 .pending = 0 := by
  simp only [State.countSt, tight_filter]
  rfl

theorem tight_active : ((tight.gcJudge 3 2).tile 3).xl.gcActive.contains 2 = true := by
  have h1 : ¬ tight.gcHigh ≤ tight.freeOn 3 2 + 0 := by
    intro h
    have h2 := tight_free
    have h3 : 3 ≤ tight.gcHigh := by decide +kernel
    omega
  have h2 : tight.freeOn 3 2 < tight.gcLow := lt_of_le_of_lt tight_free (by decide +kernel)
  have h4 : decide (tight.freeOn 3 2 + 0 < tight.gcLow) = true := decide_eq_true (by rw [Nat.add_zero]; exact h2)
  simp only [State.gcJudge, tight_pending, State.modXl, State.tile_modTile_self _ _ (show 3 < 8 by decide +kernel), h1, if_false, h4]
  rfl

/-- A plane with two free blocks and one FULL block: the clause of MediaManagement about GC_BATCH_START. -/
theorem witness_MediaManagement_gc :
    tight.mayMaintain 3 = true ∧ 3 < 8 ∧ 2 < tight.planes ∧ (tight.tile 3).xl.compaction = 0 ∧
      ((tight.gcJudge 3 2).tile 3).xl.gcActive.contains 2 = true ∧ (tight.tile 3).xl.batches = [] ∧ tight.sectorBudget 3 5 (2 % 8) = none ∧
      tight.planeUrgent 3 2 = true ∧ tight.gcVictim 3 2 = some (2 * 2 ^ 18) ∧ (tight.blk 3 (2 * 2 ^ 18)).st = .full := by
  refine ⟨by decide +kernel, by decide +kernel, by decide +kernel, by decide +kernel, tight_active, by decide +kernel, by decide +kernel,
    decide_eq_true (le_trans tight_free (Nat.le_max_left _ _)), ?_, by decide +kernel⟩
  simp only [State.gcVictim, tight_filter]
  rfl

/-- OWNED with the owner secret of zeros: the clause of SecurityCommands about LIFECYCLE_SET with the right secret. -/
theorem witness_SecurityCommands_owner :
    let s := owned (serve.ownerAuthOf []) 0
    s.accepts pc0 0x0903 true = true ∧ s.md.inService = true ∧ s.sec.lc = 3 ∧ s.car.inGroup = false ∧ s.fuse.gen ≤ 64 ∧ 64 % 64 = 0 ∧
      s.authFails = 0 ∧ s.secretOk (([] : List Byte).take 32) = true :=
  ⟨by decide +kernel, by decide +kernel, by decide +kernel, by decide +kernel, by decide +kernel, by decide +kernel, by decide +kernel,
   beq_self_eq_true (serve.ownerAuthOf [])⟩

/-- A stored password, and the right one given: the clause of ParameterStore about PARAM_UNLOCK. -/
theorem witness_ParameterStore_right :
    let s := withAuth (serve.paramAuthOf (padTo 32 [1#8]))
    s.accepts pc0 0x0B03 true = true ∧ s.md.mode = .service ∧ 64 % 64 = 0 ∧ s.paramFails = 0 ∧
      (padTo 32 [1#8]).all (· == 0) = false ∧ s.paramAuthOf (padTo 32 [1#8]) = s.psGet Param.PARAM_AUTH :=
  ⟨by decide +kernel, by decide +kernel, by decide +kernel, by decide +kernel, by decide +kernel, rfl⟩

/-- A stored password, and another one given. -/
theorem witness_ParameterStore_wrong :
    (withAuth [9#8]).accepts pc0 0x0B03 true = true ∧ (withAuth [9#8]).md.mode = .service ∧ 64 % 64 = 0 ∧ (withAuth [9#8]).pwSet = true ∧
      (withAuth [9#8]).paramFails < 5 ∧ (padTo 32 [1#8]).all (· == 0) = false ∧
      (withAuth [9#8]).paramAuthOf (padTo 32 [1#8]) ≠ (withAuth [9#8]).psGet Param.PARAM_AUTH := by
  refine ⟨rfl, rfl, rfl, by decide +kernel, by decide +kernel, by decide +kernel, ?_⟩
  intro h
  exact absurd (congrArg List.length h) (by decide +kernel)

/-- A token for scope 1 under the key of slot 0: the clause of SecurityCommands about DEBUG_UNLOCK with a token that is accepted. -/
theorem witness_SecurityCommands_token :
    let s : State := { (lifeCycle 2).modSec (fun k => { k with challengeOk := true }) with
      fuse := { vkeys := [Config.shake256 (padTo 68 (debugToken.drop 128))] } }
    s.accepts pc0 0x0904 true = true ∧ s.md.inService = true ∧ 3 < 4 ∧ 64 % 64 = 0 ∧ s.authFails = 0 ∧ s.sec.lc ≠ 5 ∧ s.tokenOk debugToken 3 true = true := by
  refine ⟨rfl, rfl, by decide +kernel, by decide +kernel, by decide +kernel, by decide +kernel, ?_⟩
  simp only [State.tokenOk, State.vkeyOk, Bool.and_eq_true]
  repeat' apply And.intro
  all_goals first | decide +kernel | exact beq_self_eq_true _

/-! ### Witnesses -/

/-- States and operands that meet the hypotheses of each clause of ResetState. -/
theorem witness_ResetState :
    (regDef? State.reset.pop.tiles Reg.FS_CTL = some (rowAt Reg.FS_CTL)) := by
  decide +kernel

/-- States and operands that meet the hypotheses of each clause of HoldoverFlag. -/
theorem witness_HoldoverFlag :
    (0 < 64 ∧ 3 < 8 ∧ (scrubbing.modBelT 3 (fun b => { b with active := 0 })).canStart 3 0 = true) := by
  repeat' apply And.intro
  all_goals decide +kernel

/-- States and operands that meet the hypotheses of each clause of TurnCapture. -/
theorem witness_TurnCapture :
    ((phaseIn { turn := 3 * 2 ^ 32 + 9, refAngle := 77 * 65536 }).takesRead side Reg.BELFRY_TURN_LO = true) := by
  decide +kernel

/-- States and operands that meet the hypotheses of each clause of FaultedConversion. -/
theorem witness_FaultedConversion :
    ((serve.requestConv [3] 3).converts 3 = true ∧ (serve.requestConv [3] 3).convAllowed 3 (agetD (sensorTile 3) (0, 0) (serve.requestConv [3] 3).thm.converting).2 = true ∧ (((some (1201 : Int)) = none ∨ (isThermistor 3 = true ∧ (1000 * ((some (1201 : Int)).getD 0).toNat < 15 * 65536 ∨ 985 * 65536 < 1000 * ((some (1201 : Int)).getD 0).toNat)) ∨ (isThermistor 3 = false ∧ 3 % 64 < 4 ∧ ((some (1201 : Int)).getD 0 < -440 ∨ 1200 < (some (1201 : Int)).getD 0)))) ∧ (serve.requestConv [3] 3).gb.buf.length < 512 ∧ agetD Gb.THERM_SENSOR 0 (serve.requestConv [3] 3).gb.taken < (serve.requestConv [3] 3).gbBurst) ∧
    (((serve.modSensor 3 (fun k => { k with fault := true, value := 99 })).sensor 3).fault = true) ∧
    ((standby.requestConv [519] 3).md.mode = .standby ∧ (standby.requestConv [519] 3).converts 519 = true ∧ (standby.requestConv [519] 3).convAllowed 519 (agetD (sensorTile 519) (0, 0) (standby.requestConv [519] 3).thm.converting).2 = true ∧ (standby.requestConv [519] 3).bumpFree.readingOf 519 32768 = some 200 ∧ (standby.requestConv [519] 3).thm.jobs = [] ∧ (standby.requestConv [519] 3).thm.rearm = []) := by
  repeat' apply And.intro
  all_goals decide +kernel

/-- States and operands that meet the hypotheses of each clause of PhaseInOwner. -/
theorem witness_PhaseInOwner :
    (serve.takesWrite side Reg.BELFRY_TRIM_CTL ((0x8000#32) ||| 0xC0000000#32) = true ∧ fieldOf (0x8000#32) 15 14 = 2) ∧
    ((phaseIn { source := 1 }).barAnswers side Reg.BELFRY_TRIM_CTL = true ∧ (phaseIn { source := 1 }).md.mode ≠ .holdup ∧ regDef? (phaseIn { source := 1 }).pop.tiles Reg.BELFRY_TRIM_CTL = some (rowAt Reg.BELFRY_TRIM_CTL) ∧ (phaseIn { source := 1 }).accessOk side (rowAt Reg.BELFRY_TRIM_CTL) Reg.BELFRY_TRIM_CTL (some ((0x8000#32) ||| 0xC0000000#32)) = true ∧ fieldOf (0x8000#32) 15 14 = 2 ∧ (phaseIn { source := 1 }).phaseByBelfry = true ∧ (phaseIn { source := 1 }).phaseByTrim = false) ∧
    ((serve.setReg Reg.BELFRY_TRIM_CTL 0x8000#32).accepts pc0 0x0500 true = true ∧ (serve.setReg Reg.BELFRY_TRIM_CTL 0x8000#32).sec.romOnly = false ∧ 500 ≤ 10000 ∧ 10000 ≤ 1000000 ∧ (serve.setReg Reg.BELFRY_TRIM_CTL 0x8000#32).phaseByTrim = true) ∧
    ((serve.setReg Reg.BELFRY_TRIM_CTL 0x8000#32).accepts pc0 0x0500 true = true ∧ (serve.setReg Reg.BELFRY_TRIM_CTL 0x8000#32).sec.romOnly = false ∧ 500 ≤ 10000 ∧ 10000 ≤ 1000000 ∧ (serve.setReg Reg.BELFRY_TRIM_CTL 0x8000#32).phaseByTrim = true) := by
  repeat' apply And.intro
  all_goals decide +kernel

/-- States and operands that meet the hypotheses of each clause of VauxRiseAndLoss. -/
theorem witness_VauxRiseAndLoss :
    (off.md.mode = .off ∧ bitOf 0 4 = false) ∧
    ((off.modPw (fun p => { p with rested := false })).md.mode = .off ∧ bitOf 2 4 = false ∧ (off.modPw (fun p => { p with rested := false })).pw.rested = false) ∧
    (bitOf 16 4 = true) ∧
    (serve.md.mode ≠ .off ∧ serve.md.mode ≠ .holdup) ∧
    ((inMode .holdup).md.mode = .holdup) := by
  repeat' apply And.intro
  all_goals decide +kernel

/-- States and operands that meet the hypotheses of each clause of OnRequestsStartBringup. -/
theorem witness_OnRequestsStartBringup :
    (((1 ≤ 2 ∨ (1 = 3 ∧ (standby.modPw (fun p => { p with fault := true })).regBit Reg.MODE_CTL 2 = true ∧ (standby.modPw (fun p => { p with fault := true })).md.cause = 0 ∧ (standby.modPw (fun p => { p with fault := true })).md.holdStep ≠ .none ∧ (standby.modPw (fun p => { p with fault := true })).pw.aboveP = 50000))) ∧ (standby.modPw (fun p => { p with fault := true })).md.mode = .standby ∧ (standby.modPw (fun p => { p with fault := true })).pw.seq = .down ∧ (standby.modPw (fun p => { p with fault := true })).pw.fault = true) ∧
    (2 ≤ 2 ∧ (standby.modPw (fun p => { p with rested := false })).md.mode = .standby ∧ (standby.modPw (fun p => { p with rested := false })).pw.seq = .down ∧ (standby.modPw (fun p => { p with rested := false })).pw.fault = false ∧ (standby.modPw (fun p => { p with rested := false })).pw.rested = false) ∧
    (((0 ≤ 2 ∨ (0 = 3 ∧ standby.regBit Reg.MODE_CTL 2 = true ∧ standby.md.cause = 0 ∧ standby.md.holdStep ≠ .none ∧ standby.pw.aboveP = 50000))) ∧ standby.md.mode = .standby ∧ standby.pw.seq = .down ∧ standby.pw.fault = false ∧ standby.pw.rested = true ∧ (List.range 16).find? (fun i => standby.slotEn i) = some 0) ∧
    ((standby.modPw (fun p => { p with onLatched := some 0 })).md.mode = .standby ∧ (standby.modPw (fun p => { p with onLatched := some 0 })).pw.onLatched.isSome = true ∧ (standby.modPw (fun p => { p with onLatched := some 0 })).pw.fault = false ∧ (List.range 16).find? (fun i => (standby.modPw (fun p => { p with onLatched := some 0 })).slotEn i) = some 0) ∧
    (standby.md.mode = .standby ∧ standby.pw.onLatched = none) ∧
    ((standby.modPw (fun p => { p with fault := true })).md.mode = .standby ∧ (standby.modPw (fun p => { p with fault := true })).pw.seq = .down ∧ (standby.modPw (fun p => { p with fault := true })).pw.fault = true) ∧
    (standby.md.mode = .standby ∧ standby.pw.seq = .down ∧ standby.pw.fault = false ∧ standby.pw.rested = true ∧ (List.range 16).find? (fun i => standby.slotEn i) = some 0) := by
  repeat' apply And.intro
  all_goals decide +kernel

/-- States and operands that meet the hypotheses of each clause of SequencerSlots. -/
theorem witness_SequencerSlots :
    ((rising.modPw (fun p => { p with upDelay := true })).pw.seq = .up1 ∧ (rising.modPw (fun p => { p with upDelay := true })).pw.upDelay = true ∧ (rising.modPw (fun p => { p with upDelay := true })).slotUpUs (rising.modPw (fun p => { p with upDelay := true })).pw.slot ≤ 1000000) ∧
    (rising.slotPending = true ∧ rising.slotStabUs rising.pw.slot ≤ 1000000 ∧ rising.pw.offLatched = false ∧ (List.range 16).find? (fun i => decide (rising.pw.slot + 1 ≤ i) && rising.slotEn i) = some 2) ∧
    (rising.slotPending = true ∧ rising.slotTmaxUs rising.pw.slot ≤ 1000000 ∧ (List.range 16).reverse.find? (bitOf rising.pw.seqEn) = some 1 ∧ clearBit rising.pw.seqEn 1 ≠ 0) ∧
    (((serve.pw.seq = .up1 ∨ serve.pw.seq = .up)) ∧ bitOf serve.pw.pgQual 1 = true ∧ (List.range 16).reverse.find? (bitOf serve.pw.seqEn) = some 1 ∧ clearBit serve.pw.seqEn 1 ≠ 0) ∧
    ((((serve.modPw (fun p => { p with seq := .normalDown })).pw.seq = .normalDown ∨ (serve.modPw (fun p => { p with seq := .normalDown })).pw.seq = .fastDown)) ∧ (serve.modPw (fun p => { p with seq := .normalDown })).slotDownUs (serve.modPw (fun p => { p with seq := .normalDown })).pw.slot ≤ 1000000 ∧ (List.range 16).reverse.find? (bitOf (serve.modPw (fun p => { p with seq := .normalDown })).pw.seqEn) = some 1 ∧ clearBit (serve.modPw (fun p => { p with seq := .normalDown })).pw.seqEn 1 ≠ 0) ∧
    (((((inMode .holdup).modPw (fun p => { p with seq := .fastDown, seqEn := 1 })).pw.seq = .normalDown ∨ ((inMode .holdup).modPw (fun p => { p with seq := .fastDown, seqEn := 1 })).pw.seq = .fastDown)) ∧ ((inMode .holdup).modPw (fun p => { p with seq := .fastDown, seqEn := 1 })).slotDownUs ((inMode .holdup).modPw (fun p => { p with seq := .fastDown, seqEn := 1 })).pw.slot ≤ 10 ∧ (List.range 16).reverse.find? (bitOf ((inMode .holdup).modPw (fun p => { p with seq := .fastDown, seqEn := 1 })).pw.seqEn) = some 0 ∧ clearBit ((inMode .holdup).modPw (fun p => { p with seq := .fastDown, seqEn := 1 })).pw.seqEn 0 = 0) := by
  repeat' apply And.intro
  all_goals decide +kernel

/-- States and operands that meet the hypotheses of each clause of ButtonsAndPreparation. -/
theorem witness_ButtonsAndPreparation :
    (serve.md.operating = true ∧ serve.pw.seq = .up ∧ serve.pw.longHeld = false ∧ serve.md.prep = none) ∧
    ((serve.modPw (fun p => { p with longHeld := true })).md.mode ≠ .off ∧ (serve.modPw (fun p => { p with longHeld := true })).pw.longHeld = true) ∧
    ((inMode .holdup).md.mode = .holdup ∧ (inMode .holdup).pw.longHeld = false ∧ 1000 * (inMode .holdup).longPress false ≤ 20000) ∧
    ((rising.modMd (fun d => { d with stepsDone := 2 })).md.mode = .bringup ∧ (rising.modMd (fun d => { d with stepsDone := 2 })).md.stepsDone = 2 ∧ (rising.modMd (fun d => { d with stepsDone := 2 })).pw.seq = .up1 ∧ (rising.modMd (fun d => { d with stepsDone := 2 })).pw.longHeld = false ∧ 1000 * (rising.modMd (fun d => { d with stepsDone := 2 })).longPress false ≤ 20000) ∧
    ((inMode .holdup).md.mode = .holdup) ∧
    (serve.md.mode ≠ .bringup) ∧
    ((((boot 4).modMd (fun d => { d with mrstLow := true, mrstHold := true, resetsReleased := false, perstHigh := 0 })).present.foldl (fun a k => a.modClkT k (fun x => { x with pllLocked := 0x7F })) ((boot 4).modMd (fun d => { d with mrstLow := true, mrstHold := true, resetsReleased := false, perstHigh := 0 }))).booting 2 = true ∧ bitOf (((boot 4).modMd (fun d => { d with mrstLow := true, mrstHold := true, resetsReleased := false, perstHigh := 0 })).present.foldl (fun a k => a.modClkT k (fun x => { x with pllLocked := 0x7F })) ((boot 4).modMd (fun d => { d with mrstLow := true, mrstHold := true, resetsReleased := false, perstHigh := 0 }))).md.stepsDone 3 = false ∧ (((boot 4).modMd (fun d => { d with mrstLow := true, mrstHold := true, resetsReleased := false, perstHigh := 0 })).present.foldl (fun a k => a.modClkT k (fun x => { x with pllLocked := 0x7F })) ((boot 4).modMd (fun d => { d with mrstLow := true, mrstHold := true, resetsReleased := false, perstHigh := 0 }))).clk.xtal ≠ 1 ∧ (((boot 4).modMd (fun d => { d with mrstLow := true, mrstHold := true, resetsReleased := false, perstHigh := 0 })).present.foldl (fun a k => a.modClkT k (fun x => { x with pllLocked := 0x7F })) ((boot 4).modMd (fun d => { d with mrstLow := true, mrstHold := true, resetsReleased := false, perstHigh := 0 }))).md.perstHigh = 0 ∧ (((boot 4).modMd (fun d => { d with mrstLow := true, mrstHold := true, resetsReleased := false, perstHigh := 0 })).present.foldl (fun a k => a.modClkT k (fun x => { x with pllLocked := 0x7F })) ((boot 4).modMd (fun d => { d with mrstLow := true, mrstHold := true, resetsReleased := false, perstHigh := 0 }))).aliveTiles.all (fun k => Nat.land ((((boot 4).modMd (fun d => { d with mrstLow := true, mrstHold := true, resetsReleased := false, perstHigh := 0 })).present.foldl (fun a k => a.modClkT k (fun x => { x with pllLocked := 0x7F })) ((boot 4).modMd (fun d => { d with mrstLow := true, mrstHold := true, resetsReleased := false, perstHigh := 0 }))).tile k).clk.pllLocked ((((boot 4).modMd (fun d => { d with mrstLow := true, mrstHold := true, resetsReleased := false, perstHigh := 0 })).present.foldl (fun a k => a.modClkT k (fun x => { x with pllLocked := 0x7F })) ((boot 4).modMd (fun d => { d with mrstLow := true, mrstHold := true, resetsReleased := false, perstHigh := 0 }))).pllsNeeded k) == (((boot 4).modMd (fun d => { d with mrstLow := true, mrstHold := true, resetsReleased := false, perstHigh := 0 })).present.foldl (fun a k => a.modClkT k (fun x => { x with pllLocked := 0x7F })) ((boot 4).modMd (fun d => { d with mrstLow := true, mrstHold := true, resetsReleased := false, perstHigh := 0 }))).pllsNeeded k) = true) ∧
    (serve.md.operating = true ∧ serve.pw.seq = .up ∧ serve.md.prep = none) ∧
    (serve.md.operating = true ∧ serve.pw.seq = .up ∧ serve.md.prep = none) ∧
    ((serve.modMd (fun d => { d with prep := some { cause := 1, graceDone := false, graceMs := 9 } })).md.prep = some (({ cause := 1, graceDone := false, graceMs := 9 } : ShutdownPrep)) ∧ (({ cause := 1, graceDone := false, graceMs := 9 } : ShutdownPrep)).graceMs ≤ 9 ∧ (({ cause := 1, graceDone := false, graceMs := 9 } : ShutdownPrep)).ckptDone = false) ∧
    ((serve.modMd (fun d => { d with prep := some { cause := 1, graceDone := false } })).md.prep = some (({ cause := 1, graceDone := false } : ShutdownPrep)) ∧ (({ cause := 1, graceDone := false } : ShutdownPrep)).graceDone = false ∧ (serve.modMd (fun d => { d with prep := some { cause := 1, graceDone := false } })).jobs.shutdownCkpt.all (serve.modMd (fun d => { d with prep := some { cause := 1, graceDone := false } })).ckptReached = true) := by
  repeat' apply And.intro
  all_goals decide +kernel

/-- States and operands that meet the hypotheses of each clause of HoldupEntered. -/
theorem witness_HoldupEntered :
    (serve.canHoldup = true ∧ serve.pw.seq = .up ∧ 5 < 6) ∧
    (serve.md.operating = true ∧ serve.pw.seq = .up) ∧
    ((rising.modMd (fun d => { d with stepsDone := 2 })).md.mode = .bringup ∧ (rising.modMd (fun d => { d with stepsDone := 2 })).pastTr = false ∧ (rising.modMd (fun d => { d with stepsDone := 2 })).pw.seq = .up1 ∧ (List.range 16).reverse.find? (bitOf (rising.modMd (fun d => { d with stepsDone := 2 })).pw.seqEn) = some 1 ∧ clearBit (rising.modMd (fun d => { d with stepsDone := 2 })).pw.seqEn 1 ≠ 0) ∧
    (serve.md.operating = true ∧ serve.pw.seq = .up ∧ serve.pw.longHeld = false ∧ 1000 * serve.longPress false ≤ 20000) ∧
    (serve.md.operating = true ∧ serve.pw.seq = .up) ∧
    (serve.md.operating = true ∧ serve.pw.seq = .up) ∧
    ((serve.modMd (fun d => { d with prep := some { cause := 4, graceDone := true } })).md.prep = some (({ cause := 4, graceDone := true } : ShutdownPrep)) ∧ (serve.modMd (fun d => { d with prep := some { cause := 4, graceDone := true } })).md.operating = true) := by
  repeat' apply And.intro
  all_goals decide +kernel

/-- States and operands that meet the hypotheses of each clause of ShedStagesAndEnd. -/
theorem witness_ShedStagesAndEnd :
    (serve.md.operating = true ∧ serve.pw.stage = 0 ∧ serve.pw.hold1 = false ∧ serve.pw.hold2 = false ∧ fieldOf serve.pw.levels.1 31 16 + fieldOf serve.pw.levels.2 15 0 ≤ serve.vinOf 4000 ∧ fieldOf serve.pw.levels.1 15 0 + fieldOf serve.pw.levels.2 15 0 ≤ serve.vinOf 4000 ∧ fieldOf serve.pw.levels.2 31 16 + fieldOf serve.pw.levels.2 15 0 ≤ serve.vinOf 4000) ∧
    (serve.md.operating = true ∧ serve.pw.stage = 0 ∧ serve.pw.hold1 = false ∧ serve.pw.hold2 = false ∧ serve.pw.holdTestPin = false ∧ serve.pw.loadAt = none ∧ serve.pw.lows.all (fun e => decide (3000 ≤ e.2)) = true ∧ fieldOf serve.pw.levels.1 31 16 ≤ serve.vinOf 4000 ∧ fieldOf serve.pw.levels.1 15 0 ≤ serve.vinOf 4000 ∧ fieldOf serve.pw.levels.2 31 16 ≤ serve.vinOf 4000) ∧
    ((serve.modPw (fun p => { p with below1 := 3 })).md.operating = true ∧ (serve.modPw (fun p => { p with below1 := 3 })).pw.stage = 0 ∧ (serve.modPw (fun p => { p with below1 := 3 })).pw.hold1 = false ∧ (serve.modPw (fun p => { p with below1 := 3 })).pw.hold2 = false ∧ (serve.modPw (fun p => { p with below1 := 3 })).pw.below1 = 3 ∧ (serve.modPw (fun p => { p with below1 := 3 })).vinOf 550 < fieldOf (serve.modPw (fun p => { p with below1 := 3 })).pw.levels.1 31 16 ∧ fieldOf (serve.modPw (fun p => { p with below1 := 3 })).pw.levels.1 15 0 ≤ (serve.modPw (fun p => { p with below1 := 3 })).vinOf 550 ∧ fieldOf (serve.modPw (fun p => { p with below1 := 3 })).pw.levels.2 31 16 ≤ (serve.modPw (fun p => { p with below1 := 3 })).vinOf 550 ∧ (serve.modPw (fun p => { p with below1 := 3 })).pw.test = none) ∧
    ((serve.modPw (fun p => { p with belowP := 1 })).md.operating = true ∧ (serve.modPw (fun p => { p with belowP := 1 })).pw.seq = .up ∧ (serve.modPw (fun p => { p with belowP := 1 })).pw.belowP = 1 ∧ (serve.modPw (fun p => { p with belowP := 1 })).vinOf 100 < fieldOf (serve.modPw (fun p => { p with belowP := 1 })).pw.levels.2 31 16) ∧
    ((inMode .holdup).md.mode = .holdup ∧ (inMode .holdup).aboveRes ((inMode .holdup).bankOf 4000) = true) ∧
    ((inMode .holdup).md.mode = .holdup ∧ (inMode .holdup).aboveRes ((inMode .holdup).bankOf 10) = false ∧ (inMode .holdup).pw.seq = .up ∧ (List.range 16).reverse.find? (bitOf (inMode .holdup).pw.seqEn) = some 1 ∧ clearBit (inMode .holdup).pw.seqEn 1 ≠ 0) ∧
    ((serve.modPw (fun p => { p with stage := 1, hold1 := true, above1 := 50000 })).md.operating = true ∧ (serve.modPw (fun p => { p with stage := 1, hold1 := true, above1 := 50000 })).pw.stage = 1 ∧ (serve.modPw (fun p => { p with stage := 1, hold1 := true, above1 := 50000 })).pw.hold2 = false ∧ 50000 ≤ (serve.modPw (fun p => { p with stage := 1, hold1 := true, above1 := 50000 })).pw.above1) ∧
    (((serve.modPw (fun p => { p with stage := 2, hold1 := true, hold2 := true, above2 := 50000 })).modPs (fun p => { p with held := [.porter 0 3] })).md.operating = true ∧ ((serve.modPw (fun p => { p with stage := 2, hold1 := true, hold2 := true, above2 := 50000 })).modPs (fun p => { p with held := [.porter 0 3] })).pw.stage = 2 ∧ ((serve.modPw (fun p => { p with stage := 2, hold1 := true, hold2 := true, above2 := 50000 })).modPs (fun p => { p with held := [.porter 0 3] })).pw.hold1 = true ∧ 50000 ≤ ((serve.modPw (fun p => { p with stage := 2, hold1 := true, hold2 := true, above2 := 50000 })).modPs (fun p => { p with held := [.porter 0 3] })).pw.above2) ∧
    (((inMode .holdup).modMd (fun d => { d with holdStep := .flush })).md.mode = .holdup ∧ ((inMode .holdup).modMd (fun d => { d with holdStep := .flush })).pw.seq = .up ∧ ((inMode .holdup).modMd (fun d => { d with holdStep := .flush })).md.holdStep = .flush ∧ ((inMode .holdup).modMd (fun d => { d with holdStep := .flush })).aliveTiles.all ((inMode .holdup).modMd (fun d => { d with holdStep := .flush })).flushEnded = true ∧ fieldOf ((inMode .holdup).modMd (fun d => { d with holdStep := .flush })).md.report 19 0 = 0) ∧
    (((inMode .holdup).modMd (fun d => { d with holdStep := .commit })).md.mode = .holdup ∧ ((inMode .holdup).modMd (fun d => { d with holdStep := .commit })).pw.seq = .up ∧ ((inMode .holdup).modMd (fun d => { d with holdStep := .commit })).md.holdStep = .commit ∧ ((inMode .holdup).modMd (fun d => { d with holdStep := .commit })).aliveTiles.all ((inMode .holdup).modMd (fun d => { d with holdStep := .commit })).journalOut = true ∧ ((inMode .holdup).modMd (fun d => { d with holdStep := .commit })).md.cause = 0 ∧ ((inMode .holdup).modMd (fun d => { d with holdStep := .commit })).md.warmLatched = false ∧ (List.range 16).reverse.find? (bitOf ((inMode .holdup).modMd (fun d => { d with holdStep := .commit })).pw.seqEn) = some 1 ∧ clearBit ((inMode .holdup).modMd (fun d => { d with holdStep := .commit })).pw.seqEn 1 ≠ 0) ∧
    (((inMode .holdup).modMd (fun d => { d with holdStep := .commit, cause := 3 })).md.mode = .holdup ∧ ((inMode .holdup).modMd (fun d => { d with holdStep := .commit, cause := 3 })).pw.seq = .up ∧ ((inMode .holdup).modMd (fun d => { d with holdStep := .commit, cause := 3 })).md.holdStep = .commit ∧ ((inMode .holdup).modMd (fun d => { d with holdStep := .commit, cause := 3 })).aliveTiles.all ((inMode .holdup).modMd (fun d => { d with holdStep := .commit, cause := 3 })).journalOut = true ∧ ((((inMode .holdup).modMd (fun d => { d with holdStep := .commit, cause := 3 })).md.cause = 3 ∨ ((inMode .holdup).modMd (fun d => { d with holdStep := .commit, cause := 3 })).md.cause = 4 ∨ ((inMode .holdup).modMd (fun d => { d with holdStep := .commit, cause := 3 })).md.warmLatched = true))) ∧
    (((inMode .holdup).modMd (fun d => { d with capApplies := true, capMs := 5 })).md.mode = .holdup ∧ ((inMode .holdup).modMd (fun d => { d with capApplies := true, capMs := 5 })).md.capApplies = true ∧ ((inMode .holdup).modMd (fun d => { d with capApplies := true, capMs := 5 })).md.capMs ≤ 5 ∧ ((inMode .holdup).modMd (fun d => { d with capApplies := true, capMs := 5 })).pw.seq = .up ∧ (List.range 16).reverse.find? (bitOf ((inMode .holdup).modMd (fun d => { d with capApplies := true, capMs := 5 })).pw.seqEn) = some 1 ∧ clearBit ((inMode .holdup).modMd (fun d => { d with capApplies := true, capMs := 5 })).pw.seqEn 1 ≠ 0) := by
  repeat' apply And.intro
  all_goals decide +kernel

/-- States and operands that meet the hypotheses of each clause of HoldupTests. -/
theorem witness_HoldupTests :
    ((serve.modPw (fun p => { p with holdRun := [3900] })).accepts pc0 0x0700 true = true ∧ (serve.modPw (fun p => { p with holdRun := [3900] })).md.operating = true ∧ (serve.modPw (fun p => { p with holdRun := [3900] })).testReady 2 = true) ∧
    (((inMode .bringup).modPw (fun p => { p with chgWait := true, holdRun := [3900] })).md.mode = .bringup ∧ ((inMode .bringup).modPw (fun p => { p with chgWait := true, holdRun := [3900] })).pw.chgWait = true ∧ ((inMode .bringup).modPw (fun p => { p with chgWait := true, holdRun := [3900] })).testReady 0 = true) ∧
    ((((sector 8).modPw (fun p => { p with testDue := true, holdRun := [3900] })).modMd (fun d => { d with primary := 3 })).md.operating = true ∧ (((sector 8).modPw (fun p => { p with testDue := true, holdRun := [3900] })).modMd (fun d => { d with primary := 3 })).testSector = true ∧ (((sector 8).modPw (fun p => { p with testDue := true, holdRun := [3900] })).modMd (fun d => { d with primary := 3 })).testReady 0 = true) ∧
    ((serve.modPw (fun p => { p with test := some { v0 := 44000, v1 := 43980, asked := none } })).pw.test = some (({ v0 := 44000, v1 := 43980, asked := none } : HoldTest)) ∧ 1 < (serve.modPw (fun p => { p with test := some { v0 := 44000, v1 := 43980, asked := none } })).holdParam 8 2 ∧ 10 < 1000 * (serve.modPw (fun p => { p with test := some { v0 := 44000, v1 := 43980, asked := none } })).holdParam 10 2) ∧
    ((serve.modPw (fun p => { p with test := some { v0 := 44000, v1 := 43980, asked := none } })).pw.test = some (({ v0 := 44000, v1 := 43980, asked := none } : HoldTest)) ∧ (({ v0 := 44000, v1 := 43980, asked := none } : HoldTest)).asked = none ∧ (serve.modPw (fun p => { p with test := some { v0 := 44000, v1 := 43980, asked := none } })).holdParam 8 2 ≤ 1000 ∧ 0 < (serve.modPw (fun p => { p with test := some { v0 := 44000, v1 := 43980, asked := none } })).holdParam 8 2 ∧ 100000 * (serve.modPw (fun p => { p with test := some { v0 := 44000, v1 := 43980, asked := none } })).holdParam 12 2 ≤ (serve.modPw (fun p => { p with test := some { v0 := 44000, v1 := 43980, asked := none } })).holdParam 6 2 * 1000000000 * 20 / 1000 ∧ 0 < (serve.modPw (fun p => { p with test := some { v0 := 44000, v1 := 43980, asked := none } })).holdParam 6 2 ∧ ((({ v0 := 44000, v1 := 43980, asked := none } : HoldTest)).v0 - (({ v0 := 44000, v1 := 43980, asked := none } : HoldTest)).v1) * 200 ≤ (serve.modPw (fun p => { p with test := some { v0 := 44000, v1 := 43980, asked := none } })).holdParam 3 1 * (serve.modPw (fun p => { p with test := some { v0 := 44000, v1 := 43980, asked := none } })).holdParam 6 2) ∧
    ((serve.modPw (fun p => { p with test := some { v0 := 44000, v1 := 43980, asked := none } })).pw.test = some (({ v0 := 44000, v1 := 43980, asked := none } : HoldTest)) ∧ (({ v0 := 44000, v1 := 43980, asked := none } : HoldTest)).asked = none ∧ (((serve.modPw (fun p => { p with test := some { v0 := 44000, v1 := 43980, asked := none } })).holdParam 8 2 ≤ 1000 ∨ 1000 * (serve.modPw (fun p => { p with test := some { v0 := 44000, v1 := 43980, asked := none } })).holdParam 10 2 ≤ 1000)) ∧ (serve.modPw (fun p => { p with test := some { v0 := 44000, v1 := 43980, asked := none } })).holdParam 6 2 * 1000 * 20 / max 1 1000 < 100000 * (serve.modPw (fun p => { p with test := some { v0 := 44000, v1 := 43980, asked := none } })).holdParam 12 2) ∧
    (((inMode .bringup).modPw (fun p => { p with chgWait := true })).md.mode = .bringup ∧ ((inMode .bringup).modPw (fun p => { p with chgWait := true })).pw.chgWait = true ∧ ((inMode .bringup).modPw (fun p => { p with chgWait := true })).holdParam 14 1 ≤ 255) ∧
    (serve.md.operating = true ∧ serve.pw.measured = 1 ∧ serve.pw.test = none) := by
  repeat' apply And.intro
  all_goals decide +kernel

/-- States and operands that meet the hypotheses of each clause of ModeCommands. -/
theorem witness_ModeCommands :
    (serve.accepts pc0 0x0002 false = true) ∧
    (serve.accepts pc0 0x0003 true = true ∧ serve.md.operating = true ∧ serve.md.drain = none ∧ serve.md.mode ≠ .service) ∧
    ((inMode .service).accepts pc0 0x0003 true = true ∧ (inMode .service).md.operating = true ∧ (inMode .service).md.drain = none ∧ (inMode .service).md.mode = .service) ∧
    (serve.accepts pc0 0x0003 true = true ∧ serve.md.operating = true ∧ serve.md.prep = none ∧ serve.pw.seq = .up) ∧
    (((inMode .service).modSec (fun x => { x with lc := 1, loaded := true })).accepts pc0 0x0003 true = true ∧ ((inMode .service).modSec (fun x => { x with lc := 1, loaded := true })).md.operating = true ∧ ((inMode .service).modSec (fun x => { x with lc := 1, loaded := true })).md.mode = .service ∧ ((inMode .service).modSec (fun x => { x with lc := 1, loaded := true })).md.serviceFail = false ∧ ((inMode .service).modSec (fun x => { x with lc := 1, loaded := true })).keysLoaded = true ∧ ((inMode .service).modSec (fun x => { x with lc := 1, loaded := true })).sec.withdrawn = false ∧ ((inMode .service).modSec (fun x => { x with lc := 1, loaded := true })).sec.lcPending = none ∧ ((((inMode .service).modSec (fun x => { x with lc := 1, loaded := true })).sec.lc = 1 ∨ ((inMode .service).modSec (fun x => { x with lc := 1, loaded := true })).sec.lc = 2 ∨ ((inMode .service).modSec (fun x => { x with lc := 1, loaded := true })).sec.lc = 3))) ∧
    ((serve.modMd (fun d => { d with drain := some (0, 7) })).md.drain = some (0, 7) ∧ (serve.modMd (fun d => { d with drain := some (0, 7) })).md.inService3 = true ∧ (serve.modMd (fun d => { d with drain := some (0, 7) })).trackersEmpty = true) ∧
    (serve.accepts pc0 0x0702 true = true ∧ serve.md.operating = true ∧ serve.pw.seq = .up ∧ serve.md.prep = none) ∧
    (serve.accepts pc0 0x0701 true = true ∧ serve.md.operating = true ∧ serve.pw.stage = 0 ∧ serve.pw.hold1 = false ∧ serve.pw.hold2 = false ∧ 1100 ≤ serve.pw.vin ∧ 10 ≤ 50 ∧ 50 ≤ 200 ∧ 1050 + 50 ≤ 1100 ∧ 1000 + 50 ≤ 1050 ∧ 1000 + 50 < serve.pw.vin) ∧
    (serve.md.primary = 0 ∧ serve.alive 0 = true ∧ serve.alive 1 = true ∧ serve.md.operating = true) := by
  repeat' apply And.intro
  all_goals decide +kernel

/-- States and operands that meet the hypotheses of each clause of BringupSteps. -/
theorem witness_BringupSteps :
    (serve.tilesClocked = true ∧ 1 < serve.pop.tiles ∧ 2 < 7 ∧ serve.pllFed 1 2 = true ∧ bitOf serve.md.stepsDone 3 = true) ∧
    (((boot 4).present.foldl (fun a k => a.modClkT k (fun x => { x with pllLocked := if k = 1 then 0x7B else 0x7F })) ((boot 4).modMd (fun d => { d with resetsReleased := false, perstHigh := 0 }))).booting 2 = true ∧ bitOf ((boot 4).present.foldl (fun a k => a.modClkT k (fun x => { x with pllLocked := if k = 1 then 0x7B else 0x7F })) ((boot 4).modMd (fun d => { d with resetsReleased := false, perstHigh := 0 }))).md.stepsDone 3 = false ∧ ((boot 4).present.foldl (fun a k => a.modClkT k (fun x => { x with pllLocked := if k = 1 then 0x7B else 0x7F })) ((boot 4).modMd (fun d => { d with resetsReleased := false, perstHigh := 0 }))).tilesClocked = true ∧ ((boot 4).present.foldl (fun a k => a.modClkT k (fun x => { x with pllLocked := if k = 1 then 0x7B else 0x7F })) ((boot 4).modMd (fun d => { d with resetsReleased := false, perstHigh := 0 }))).alive 1 = true ∧ 2 < 7 ∧ ((boot 4).present.foldl (fun a k => a.modClkT k (fun x => { x with pllLocked := if k = 1 then 0x7B else 0x7F })) ((boot 4).modMd (fun d => { d with resetsReleased := false, perstHigh := 0 }))).pllFed 1 2 = true ∧ ((boot 4).present.foldl (fun a k => a.modClkT k (fun x => { x with pllLocked := if k = 1 then 0x7B else 0x7F })) ((boot 4).modMd (fun d => { d with resetsReleased := false, perstHigh := 0 }))).clk.xtal ≠ 1 ∧ ((boot 4).present.foldl (fun a k => a.modClkT k (fun x => { x with pllLocked := if k = 1 then 0x7B else 0x7F })) ((boot 4).modMd (fun d => { d with resetsReleased := false, perstHigh := 0 }))).md.perstHigh = 0 ∧ ((boot 4).present.foldl (fun a k => a.modClkT k (fun x => { x with pllLocked := if k = 1 then 0x7B else 0x7F })) ((boot 4).modMd (fun d => { d with resetsReleased := false, perstHigh := 0 }))).md.mrstHold = false ∧ ((boot 4).present.foldl (fun a k => a.modClkT k (fun x => { x with pllLocked := if k = 1 then 0x7B else 0x7F })) ((boot 4).modMd (fun d => { d with resetsReleased := false, perstHigh := 0 }))).aliveTiles.all (fun k => Nat.land (if k = 1 then setBit (((boot 4).present.foldl (fun a k => a.modClkT k (fun x => { x with pllLocked := if k = 1 then 0x7B else 0x7F })) ((boot 4).modMd (fun d => { d with resetsReleased := false, perstHigh := 0 }))).tile k).clk.pllLocked 2 else (((boot 4).present.foldl (fun a k => a.modClkT k (fun x => { x with pllLocked := if k = 1 then 0x7B else 0x7F })) ((boot 4).modMd (fun d => { d with resetsReleased := false, perstHigh := 0 }))).tile k).clk.pllLocked) (((boot 4).present.foldl (fun a k => a.modClkT k (fun x => { x with pllLocked := if k = 1 then 0x7B else 0x7F })) ((boot 4).modMd (fun d => { d with resetsReleased := false, perstHigh := 0 }))).pllsNeeded k) == ((boot 4).present.foldl (fun a k => a.modClkT k (fun x => { x with pllLocked := if k = 1 then 0x7B else 0x7F })) ((boot 4).modMd (fun d => { d with resetsReleased := false, perstHigh := 0 }))).pllsNeeded k) = true) ∧
    ((boot 0x4).booting 2 = true ∧ bitOf (boot 0x4).md.stepsDone 3 = false ∧ (boot 0x4).alive 1 = true ∧ 2 < 7 ∧ bitOf ((boot 0x4).pllsNeeded 1) 2 = true ∧ bitOf ((boot 0x4).tile 1).clk.pllLocked 2 = false ∧ bitOf ((boot 0x4).tile 1).clk.pllRetried 2 = false) ∧
    (((boot 0x4).modClkT 3 (fun k => { k with pllRetried := 4 })).booting 2 = true ∧ bitOf ((boot 0x4).modClkT 3 (fun k => { k with pllRetried := 4 })).md.stepsDone 3 = false ∧ ((boot 0x4).modClkT 3 (fun k => { k with pllRetried := 4 })).alive 3 = true ∧ ((boot 0x4).modClkT 3 (fun k => { k with pllRetried := 4 })).alive 0 = true ∧ 2 ≤ 3 ∧ 2 < 7 ∧ bitOf (((boot 0x4).modClkT 3 (fun k => { k with pllRetried := 4 })).pllsNeeded 3) 2 = true ∧ bitOf (((boot 0x4).modClkT 3 (fun k => { k with pllRetried := 4 })).tile 3).clk.pllLocked 2 = false ∧ bitOf (((boot 0x4).modClkT 3 (fun k => { k with pllRetried := 4 })).tile 3).clk.pllRetried 2 = true) ∧
    ((boot 0x1C).modeInv = true ∧ (boot 0x1C).booting 3 = true ∧ bitOf (boot 0x1C).md.stepsDone 5 = false) ∧
    ((boot 0x1C).modeInv = true ∧ (boot 0x1C).booting 3 = true ∧ bitOf (boot 0x1C).md.stepsDone 5 = false ∧ bitOf (boot 0x1C).fwBoot 1 = false ∧ bitOf (boot 0x1C).fwBoot 4 = false ∧ (boot 0x1C).imageOk ((boot 0x1C).fwBoot % 2) = true) ∧
    ((serve.modTile 1 (fun x => { x with med := { x.med with chans := vmod 2 (fun c => { c with st := 1 }) x.med.chans } })).alive 1 = true ∧ 1 < 8 ∧ 2 < 8 ∧ ((serve.modTile 1 (fun x => { x with med := { x.med with chans := vmod 2 (fun c => { c with st := 1 }) x.med.chans } })).chan 1 2).st = 1 ∧ (serve.modTile 1 (fun x => { x with med := { x.med with chans := vmod 2 (fun c => { c with st := 1 }) x.med.chans } })).md.operating = true ∧ (serve.modTile 1 (fun x => { x with med := { x.med with chans := vmod 2 (fun c => { c with st := 1 }) x.med.chans } })).ranksOk (2 ^ (serve.modTile 1 (fun x => { x with med := { x.med with chans := vmod 2 (fun c => { c with st := 1 }) x.med.chans } })).pop.ranks - 1) = true ∧ (serve.modTile 1 (fun x => { x with med := { x.med with chans := vmod 2 (fun c => { c with st := 1 }) x.med.chans } })).diesOk ((List.range (serve.modTile 1 (fun x => { x with med := { x.med with chans := vmod 2 (fun c => { c with st := 1 }) x.med.chans } })).pop.ranks).map (fun r => (fxRanks 4).getD r {})) = true ∧ (fxRanks 4).all (fun k => k.failed == 0) = true) ∧
    ((serve.modTile 1 (fun x => { x with med := { x.med with chans := vmod 2 (fun c => { c with st := 1 }) x.med.chans } })).alive 1 = true ∧ 1 < 8 ∧ 2 < 8 ∧ ((serve.modTile 1 (fun x => { x with med := { x.med with chans := vmod 2 (fun c => { c with st := 1 }) x.med.chans } })).chan 1 2).st = 1 ∧ (serve.modTile 1 (fun x => { x with med := { x.med with chans := vmod 2 (fun c => { c with st := 1 }) x.med.chans } })).md.operating = true ∧ 1 ≤ 3 ∧ 3 < 10) ∧
    (((boot 0x3C).modTile 1 (fun x => { x with med := { x.med with chans := vmod 2 (fun c => { c with st := 1 }) x.med.chans } })).alive 1 = true ∧ (((boot 0x3C).modTile 1 (fun x => { x with med := { x.med with chans := vmod 2 (fun c => { c with st := 1 }) x.med.chans } })).chan 1 2).st = 1 ∧ ((boot 0x3C).modTile 1 (fun x => { x with med := { x.med with chans := vmod 2 (fun c => { c with st := 1 }) x.med.chans } })).booting 5 = true ∧ ((0 = 0 ∨ 4 ≤ 0)) ∧ (((boot 0x3C).modTile 1 (fun x => { x with med := { x.med with chans := vmod 2 (fun c => { c with st := 1 }) x.med.chans } })).ranksOk 7 && ((boot 0x3C).modTile 1 (fun x => { x with med := { x.med with chans := vmod 2 (fun c => { c with st := 1 }) x.med.chans } })).diesOk ((List.range ((boot 0x3C).modTile 1 (fun x => { x with med := { x.med with chans := vmod 2 (fun c => { c with st := 1 }) x.med.chans } })).pop.ranks).map (fun r => ([]).getD r {}))) = false) ∧
    ((boot 0x3C).booting 5 = true ∧ bitOf (boot 0x3C).md.stepsDone 9 = false ∧ (boot 0x3C).alive 3 = true ∧ 3 < 8 ∧ ((boot 0x3C).tile 3).fs.ready = false) ∧
    ((boot 0x3C).booting 5 = true ∧ bitOf (boot 0x3C).md.stepsDone 9 = false ∧ (boot 0x3C).alive 3 = true ∧ ((boot 0x3C).tile 3).fs.ready = false ∧ 24 ≠ (boot 0x3C).pop.gbit) ∧
    (((boot 0x3FC).modTile 1 (fun x => { x with xl := { x.xl with formatted := true, cleanStop := true, durable := [(3, ({ st := .mapped, loc := 77 }, 5))] } })).booting 6 = true ∧ ((boot 0x3FC).modTile 1 (fun x => { x with xl := { x.xl with formatted := true, cleanStop := true, durable := [(3, ({ st := .mapped, loc := 77 }, 5))] } })).booting 9 = true ∧ ((boot 0x3FC).modTile 1 (fun x => { x with xl := { x.xl with formatted := true, cleanStop := true, durable := [(3, ({ st := .mapped, loc := 77 }, 5))] } })).alive 1 = true ∧ 1 < 8 ∧ (((boot 0x3FC).modTile 1 (fun x => { x with xl := { x.xl with formatted := true, cleanStop := true, durable := [(3, ({ st := .mapped, loc := 77 }, 5))] } })).tile 1).xl.mapState = 0 ∧ (((boot 0x3FC).modTile 1 (fun x => { x with xl := { x.xl with formatted := true, cleanStop := true, durable := [(3, ({ st := .mapped, loc := 77 }, 5))] } })).tile 1).xl.formatted = true ∧ (((boot 0x3FC).modTile 1 (fun x => { x with xl := { x.xl with formatted := true, cleanStop := true, durable := [(3, ({ st := .mapped, loc := 77 }, 5))] } })).tile 1).xl.cleanStop = true ∧ (((boot 0x3FC).modTile 1 (fun x => { x with xl := { x.xl with formatted := true, cleanStop := true, durable := [(3, ({ st := .mapped, loc := 77 }, 5))] } })).tile 1).xl.stalePos = [] ∧ ((boot 0x3FC).modTile 1 (fun x => { x with xl := { x.xl with formatted := true, cleanStop := true, durable := [(3, ({ st := .mapped, loc := 77 }, 5))] } })).alive 2 = true ∧ 2 ≠ 1 ∧ (((boot 0x3FC).modTile 1 (fun x => { x with xl := { x.xl with formatted := true, cleanStop := true, durable := [(3, ({ st := .mapped, loc := 77 }, 5))] } })).tile 2).xl.mapState = 0) ∧
    ((((boot 0x1FFC).modPw (fun p => { p with measured := 1 })).modSec (fun x => { x with booted := true })).modeInv = true ∧ (((boot 0x1FFC).modPw (fun p => { p with measured := 1 })).modSec (fun x => { x with booted := true })).bringupReady = true) ∧
    ((((boot 0x1FFC).modPw (fun p => { p with measured := 1 })).modSec (fun x => { x with booted := true, lc := 1 })).modeInv = true ∧ (((boot 0x1FFC).modPw (fun p => { p with measured := 1 })).modSec (fun x => { x with booted := true, lc := 1 })).bringupReady = true ∧ (((boot 0x1FFC).modPw (fun p => { p with measured := 1 })).modSec (fun x => { x with booted := true, lc := 1 })).md.serviceFail = false ∧ (((boot 0x1FFC).modPw (fun p => { p with measured := 1 })).modSec (fun x => { x with booted := true, lc := 1 })).lcServes = true ∧ (((boot 0x1FFC).modPw (fun p => { p with measured := 1 })).modSec (fun x => { x with booted := true, lc := 1 })).regBit Reg.MODE_CTL 1 = false ∧ (((boot 0x1FFC).modPw (fun p => { p with measured := 1 })).modSec (fun x => { x with booted := true, lc := 1 })).keysLoaded = true) ∧
    ((boot 0x4).bringupReady = false) ∧
    (((boot 0x3FC).modSec (fun x => { x with booted := true })).modeInv = true ∧ ((boot 0x3FC).modSec (fun x => { x with booted := true })).booting 9 = true ∧ ((boot 0x3FC).modSec (fun x => { x with booted := true })).sec.booted = true ∧ ((boot 0x3FC).modSec (fun x => { x with booted := true })).pastTr = true ∧ ((boot 0x3FC).modSec (fun x => { x with booted := true })).pw.seq = .up) ∧
    ((boot 0x3FC).booting 7 = true ∧ bitOf (boot 0x3FC).md.stepsDone 13 = false ∧ (boot 0x3FC).pastTr = true ∧ (boot 0x3FC).pw.seq = .up) := by
  repeat' apply And.intro
  all_goals decide +kernel

/-- States and operands that meet the hypotheses of each clause of RegisterWrites. -/
theorem witness_RegisterWrites :
    (serve.takesWrite side Reg.FS_CTL (BitVec.ofNat 32 0x007C0034) = true ∧ Reg.FS_CTL % 4 = 0 ∧ regDef? serve.pop.tiles Reg.FS_CTL = some (rowAt Reg.FS_CTL) ∧ (rowAt Reg.FS_CTL).acc = .rwm ∧ commandRegs.contains (rowAt Reg.FS_CTL).key = false ∧ 2 < 16 ∧ (rowAt Reg.FS_CTL).selfClear.getLsbD 2 = false) ∧
    (serveP.takesWrite host0 ((Reg.RING_MOD 1)) (BitVec.ofNat 32 7) = true ∧ ((Reg.RING_MOD 1)) % 4 = 0 ∧ regDef? serveP.pop.tiles ((Reg.RING_MOD 1)) = some (rowAt (Reg.RING_MOD 1)) ∧ (rowAt (Reg.RING_MOD 1)).acc = .rw ∧ commandRegs.contains (rowAt (Reg.RING_MOD 1)).key = false ∧ 2 < 32 ∧ (rowAt (Reg.RING_MOD 1)).selfClear.getLsbD 2 = false ∧ (rowAt (Reg.RING_MOD 1)).w1c.getLsbD 2 = false) ∧
    ((serve.setReg Reg.REG_ERR_STATUS 1).takesWrite side Reg.REG_ERR_STATUS (BitVec.ofNat 32 1) = true ∧ Reg.REG_ERR_STATUS % 4 = 0 ∧ regDef? (serve.setReg Reg.REG_ERR_STATUS 1).pop.tiles Reg.REG_ERR_STATUS = some (rowAt Reg.REG_ERR_STATUS) ∧ (((rowAt Reg.REG_ERR_STATUS).acc = .w1c ∨ (rowAt Reg.REG_ERR_STATUS).acc = .mix)) ∧ commandRegs.contains (rowAt Reg.REG_ERR_STATUS).key = false ∧ 0 < 32 ∧ (rowAt Reg.REG_ERR_STATUS).w1c.getLsbD 0 = true ∧ (rowAt Reg.REG_ERR_STATUS).wmask.getLsbD 0 = false ∧ (rowAt Reg.REG_ERR_STATUS).selfClear.getLsbD 0 = false) ∧
    (serve.takesWrite side Reg.KRY_REV (BitVec.ofNat 32 7) = true ∧ Reg.KRY_REV % 4 = 0 ∧ regDef? serve.pop.tiles Reg.KRY_REV = some (rowAt Reg.KRY_REV) ∧ (rowAt Reg.KRY_REV).acc = .ro ∧ commandRegs.contains (rowAt Reg.KRY_REV).key = false) ∧
    (serve.takesWrite side Reg.PWR_CTL (BitVec.ofNat 32 0x0F000500) = true ∧ 0x0F000500.testBit 24 = true ∧ 0x0F000500.testBit 25 = true ∧ 0x0F000500.testBit 26 = true ∧ 0x0F000500.testBit 27 = true) ∧
    ((serve.modThm (fun x => { x with fans := vmap (fun f => { f with tachEn := false }) x.fans })).takesWrite side Reg.THM_GPIO_CTL (BitVec.ofNat 32 0x00040004) = true ∧ 2 < 4) ∧
    ((serve.setReg Reg.SEC_PRIV_CTL 1).barAnswers host2 Reg.FS_CTL = true ∧ Reg.FS_CTL % 4 = 0 ∧ regDef? (serve.setReg Reg.SEC_PRIV_CTL 1).pop.tiles Reg.FS_CTL = some (rowAt Reg.FS_CTL) ∧ (rowAt Reg.FS_CTL).key ≠ Reg.FABRIC_WINDOW ∧ (rowAt Reg.FS_CTL).key ≠ Reg.CARAVAN_WINDOW ∧ (serve.setReg Reg.SEC_PRIV_CTL 1).accessOk host2 (rowAt Reg.FS_CTL) Reg.FS_CTL (some (BitVec.ofNat 32 0x007C0034)) = false) ∧
    (serve.barAnswers side Reg.FS_CTL = true ∧ ((2 ≠ 4 ∨ Reg.FS_CTL % 4 ≠ 0)) ∧ ((2 ≠ 8 ∨ Reg.FS_CTL % 8 ≠ 0)) ∧ regDef? serve.pop.tiles (Reg.FS_CTL - Reg.FS_CTL % 4) = some (rowAt Reg.FS_CTL) ∧ (rowAt Reg.FS_CTL).key ≠ Reg.FABRIC_WINDOW ∧ (rowAt Reg.FS_CTL).key ≠ Reg.CARAVAN_WINDOW ∧ serve.accessOk side (rowAt Reg.FS_CTL) (Reg.FS_CTL - Reg.FS_CTL % 4) (some 0) = true) ∧
    (serve.barAnswers side Reg.FS_CTL = true ∧ Reg.FS_CTL % 4 = 0 ∧ regDef? serve.pop.tiles Reg.FS_CTL = some (rowAt Reg.FS_CTL) ∧ (rowAt Reg.FS_CTL).key ≠ Reg.FABRIC_WINDOW ∧ (rowAt Reg.FS_CTL).key ≠ Reg.CARAVAN_WINDOW ∧ serve.accessOk side (rowAt Reg.FS_CTL) Reg.FS_CTL (some (BitVec.ofNat 32 0)) = true ∧ 3 % 16 ≠ 0 ∧ 3 % 16 ≠ 15) ∧
    (Reg.FS_CTL % 4 = 0 ∧ 0 % 16 = 0) ∧
    (Reg.FS_CTL % 4 = 0 ∧ (inMode .holdup).md.mode = .holdup ∧ regDef? (inMode .holdup).pop.tiles Reg.FS_CTL = some (rowAt Reg.FS_CTL) ∧ (inMode .holdup).accessOk side (rowAt Reg.FS_CTL) Reg.FS_CTL (some (BitVec.ofNat 32 0)) = true) ∧
    ((serveP.setFld (Reg.RING_CTL 1) 0 0 1).barAnswers host0 (Reg.RING_CFG 1) = true ∧ (Reg.RING_CFG 1) % 4 = 0 ∧ (serveP.setFld (Reg.RING_CTL 1) 0 0 1).md.mode ≠ .holdup ∧ (serveP.setFld (Reg.RING_CTL 1) 0 0 1).inTileReset (Reg.RING_CFG 1) = false ∧ regDef? (serveP.setFld (Reg.RING_CTL 1) 0 0 1).pop.tiles (Reg.RING_CFG 1) = some (rowAt (Reg.RING_CFG 1)) ∧ (rowAt (Reg.RING_CFG 1)).key ≠ Reg.FABRIC_WINDOW ∧ (rowAt (Reg.RING_CFG 1)).key ≠ Reg.CARAVAN_WINDOW ∧ (serveP.setFld (Reg.RING_CTL 1) 0 0 1).accessOk host0 (rowAt (Reg.RING_CFG 1)) (Reg.RING_CFG 1) (some (BitVec.ofNat 32 0)) = true ∧ (serveP.setFld (Reg.RING_CTL 1) 0 0 1).gateHolds (rowAt (Reg.RING_CFG 1)) (Reg.RING_CFG 1) (BitVec.ofNat 32 0) = true) := by
  repeat' apply And.intro
  all_goals decide +kernel

/-- States and operands that meet the hypotheses of each clause of RegisterReads. -/
theorem witness_RegisterReads :
    (serve.takesRead side Reg.FS_CTL = true ∧ [Reg.SEC_CHALLENGE0, Reg.PERF_CNT_LO 0, Reg.BELFRY_TURN_LO, Reg.GB_STATUS, Reg.THM_GPIO_CTL].contains (((regDef? serve.pop.tiles Reg.FS_CTL).map (·.key)).getD Reg.FS_CTL) = false ∧ loPair (((regDef? serve.pop.tiles Reg.FS_CTL).map (·.key)).getD Reg.FS_CTL) = false ∧ ((Reg.FS_CTL < 0xF000 ∨ 0x10000 ≤ Reg.FS_CTL)) ∧ gatedBlock Reg.FS_CTL = none) ∧
    (serve.takesRead side Reg.ATTEST_NEXT_LO = true ∧ regDef? serve.pop.tiles Reg.ATTEST_NEXT_LO = some (rowAt Reg.ATTEST_NEXT_LO) ∧ ((Reg.ATTEST_NEXT_LO < 0xF000 ∨ 0x10000 ≤ Reg.ATTEST_NEXT_LO)) ∧ (((rowAt Reg.ATTEST_NEXT_LO).key = Reg.XL_JNL_POS_LO 0 ∨ (rowAt Reg.ATTEST_NEXT_LO).key = Reg.ATTEST_NEXT_LO ∨ (rowAt Reg.ATTEST_NEXT_LO).key = Reg.ATTEST_RESV_LO ∨ loHalf (rowAt Reg.ATTEST_NEXT_LO).key = true)) ∧ gatedBlock Reg.ATTEST_NEXT_LO = none) ∧
    ((({ serve with reg := { vals := serve.reg.vals, capHi := [(Reg.ATTEST_NEXT_LO + 4, 5#32)] } } : State)).barAnswers side (Reg.ATTEST_NEXT_LO + 4) = true ∧ (Reg.ATTEST_NEXT_LO + 4) % 4 = 0 ∧ (((Reg.ATTEST_NEXT_LO + 4) < 0xF000 ∨ 0x10000 ≤ (Reg.ATTEST_NEXT_LO + 4))) ∧ regDef? (({ serve with reg := { vals := serve.reg.vals, capHi := [(Reg.ATTEST_NEXT_LO + 4, 5#32)] } } : State)).pop.tiles (Reg.ATTEST_NEXT_LO + 4) = some (rowAt (Reg.ATTEST_NEXT_LO + 4)) ∧ (({ serve with reg := { vals := serve.reg.vals, capHi := [(Reg.ATTEST_NEXT_LO + 4, 5#32)] } } : State)).accessOk side (rowAt (Reg.ATTEST_NEXT_LO + 4)) (Reg.ATTEST_NEXT_LO + 4) none = true ∧ (rowAt (Reg.ATTEST_NEXT_LO + 4)).key ≠ Reg.SEC_CHALLENGE0 ∧ (rowAt (Reg.ATTEST_NEXT_LO + 4)).key ≠ Reg.PERF_CNT_LO 0 ∧ (({ serve with reg := { vals := serve.reg.vals, capHi := [(Reg.ATTEST_NEXT_LO + 4, 5#32)] } } : State)).inTileReset (Reg.ATTEST_NEXT_LO + 4) = false ∧ gatedBlock (Reg.ATTEST_NEXT_LO + 4) = none ∧ aget (Reg.ATTEST_NEXT_LO + 4) (({ serve with reg := { vals := serve.reg.vals, capHi := [(Reg.ATTEST_NEXT_LO + 4, 5#32)] } } : State)).reg.capHi = some (5#32)) ∧
    ((serve.setReg Reg.SEC_PRIV_CTL 1).barAnswers host2 (Reg.RING_CFG 0) = true ∧ (Reg.RING_CFG 0) % 4 = 0 ∧ regDef? (serve.setReg Reg.SEC_PRIV_CTL 1).pop.tiles (Reg.RING_CFG 0) = some (rowAt (Reg.RING_CFG 0)) ∧ (serve.setReg Reg.SEC_PRIV_CTL 1).accessOk host2 (rowAt (Reg.RING_CFG 0)) (Reg.RING_CFG 0) none = false) ∧
    (serve.takesRead side Reg.BELFRY_TURN_LO = true) ∧
    (serve.takesRead side Reg.SEC_CHALLENGE0 = true) ∧
    (serve.takesRead side Reg.GB_STATUS = true) ∧
    (serve.barAnswers side Reg.FS_CTL = true) ∧
    (serve.md.resetsReleased = true ∧ regDef? serve.pop.tiles Reg.FS_CTL = some (rowAt Reg.FS_CTL) ∧ (rowAt Reg.FS_CTL).prot ≠ 0 ∧ Reg.FS_CTL ≠ Reg.REG_ERR_STATUS ∧ Reg.FS_CTL ≠ Reg.REG_ERR_ADDR ∧ Reg.FS_CTL ≠ Reg.GB_ERR_STATUS ∧ ((Reg.FS_CTL < 0x1000 ∨ 0x3000 ≤ Reg.FS_CTL))) ∧
    ((serve.setReg Reg.FS_CTL 5).md.resetsReleased = true ∧ regDef? (serve.setReg Reg.FS_CTL 5).pop.tiles Reg.FS_CTL = some (rowAt Reg.FS_CTL)) := by
  repeat' apply And.intro
  all_goals decide +kernel

/-- States and operands that meet the hypotheses of each clause of RegisterCommands. -/
theorem witness_RegisterCommands :
    (5 < 64 ∧ serveP.takesWrite host0 (Reg.RING_CTL 5) 0x10001#32 = true ∧ (serveP.ring 5).state = .disabled) ∧
    (1 < 64 ∧ serveP.takesWrite host0 (Reg.RING_CTL 1) 0x10000#32 = true ∧ (serveP.ring 1).state = .running) ∧
    (1 < 64 ∧ serveP.takesWrite host0 (Reg.DB_SQ_TAIL 1) (BitVec.ofNat 32 3) = true ∧ (serveP.ring 1).state = .running ∧ serveP.isEvtRing 1 = false ∧ 3 < serveP.sqSize 1) ∧
    (1 < 64 ∧ serveP.takesWrite host0 (Reg.DB_SQ_TAIL 1) (BitVec.ofNat 32 300) = true ∧ (serveP.ring 1).state = .running ∧ serveP.isEvtRing 1 = false ∧ serveP.sqSize 1 ≤ 300 ∧ 300 < 65536) ∧
    (1 < 64 ∧ serveP.takesWrite host0 (Reg.DB_CQ_HEAD 1) (BitVec.ofNat 32 0) = true ∧ (serveP.ring 1).state = .running ∧ 0 < serveP.cqSize 1 ∧ (0 + serveP.cqSize 1 - (serveP.ring 1).cqHead) % serveP.cqSize 1 ≤ ((serveP.ring 1).cqTail + serveP.cqSize 1 - (serveP.ring 1).cqHead) % serveP.cqSize 1) ∧
    ((serve.modPw (fun p => { p with fault := true })).takesWrite side Reg.PWR_FAULT 1#32 = true ∧ (serve.modPw (fun p => { p with fault := true })).pw.fault = true ∧ (serve.modPw (fun p => { p with fault := true })).md.mode ≠ .standby) ∧
    (2 < 8 ∧ (serve.modMd (fun d => { d with perstHigh := 255 })).takesWrite side (Reg.HEAD_LINK_CTL 2) 0x1000100#32 = true ∧ (serve.modMd (fun d => { d with perstHigh := 255 })).mayTrain 2 = true) ∧
    (2 < 8 ∧ serve.takesWrite side (Reg.TXN_CTL 2) 0x10001#32 = true) ∧
    (serve.takesWrite side Reg.BELFRY_TRIM_CTL ((0x4000#32) ||| 0xC0000000#32) = true ∧ fieldOf (0x4000#32) 15 14 = 1) ∧
    ((({ serve with clk := { xtal := 2, xtalBack := true } } : State)).takesWrite side Reg.CLK_CTL 0x80008#32 = true ∧ (({ serve with clk := { xtal := 2, xtalBack := true } } : State)).clk.xtal = 2 ∧ (({ serve with clk := { xtal := 2, xtalBack := true } } : State)).clk.xtalBack = true) ∧
    (2 < 8 ∧ 0 < 5 ∧ serve.takesWrite side (Reg.CLK_GATE_CTL 2) (0x10001#32) = true ∧ (0x10001#32).getLsbD 0 = true ∧ (0x10001#32).getLsbD (16 + 0) = true ∧ bitOf (serve.tile 2).clk.gated 0 = false) ∧
    (2 < 8 ∧ ((inMode .degraded).modMd (fun d => { d with failed := 4 })).takesWrite side Reg.CLK_TILE_RESET (BitVec.ofNat 32 (0x7E5E * 65536 + 2)) = true ∧ 2 < ((inMode .degraded).modMd (fun d => { d with failed := 4 })).pop.tiles ∧ (((inMode .degraded).modMd (fun d => { d with failed := 4 })).tile 2).clk.resetStep = none ∧ ((inMode .degraded).modMd (fun d => { d with failed := 4 })).md.resetsReleased = true ∧ ((inMode .degraded).modMd (fun d => { d with failed := 4 })).md.mode = .degraded ∧ bitOf ((inMode .degraded).modMd (fun d => { d with failed := 4 })).md.failed 2 = true) ∧
    (2 < 8 ∧ 3 < 65536 ∧ 3 ≠ 0x7E5E ∧ serve.takesWrite side Reg.CLK_TILE_RESET (BitVec.ofNat 32 (3 * 65536 + 2)) = true) ∧
    (serve.takesWrite side Reg.GB_CURSOR (17#32) = true) ∧
    (2 < serve.pop.tiles ∧ 2 < 8 ∧ 3 < 56 ∧ serve.takesWrite side (selReg 2 3) (0 ||| 0x04000000#32) = true) ∧
    (2 < 16 ∧ (serve.modWin 2 (fun p => { p with openHeads := 3 })).takesWrite side (winCtl 2) 0xC0000000 = true ∧ rwmMask 0xC0000000 &&& 0xC3FF ≠ 0 ∧ (vget 2 {} (serve.modWin 2 (fun p => { p with openHeads := 3 })).wins).openHeads &&& 0xFF ≠ 0) := by
  repeat' apply And.intro
  all_goals decide +kernel

/-- States and operands that meet the hypotheses of each clause of HeadLinks. -/
theorem witness_HeadLinks :
    (2 < 8 ∧ (linked 2).mayTrain 2 = true ∧ (linked 2).bondLower 2 = false) ∧
    (2 < 8 ∧ ((linked 2).modHead 3 (fun d => { d with upper := true })).mayTrain 2 = true ∧ ((linked 2).modHead 3 (fun d => { d with upper := true })).bondLower 2 = true ∧ ((linked 2).modHead 3 (fun d => { d with upper := true })).alive (2 + 1) = true) ∧
    (2 < 8 ∧ standby.md.mode = .standby) ∧
    (2 < 8 ∧ serve.md.mode ≠ .off ∧ serve.md.mode ≠ .standby ∧ serve.md.mode ≠ .holdup ∧ serve.alive 2 = true ∧ serve.md.resetsReleased = true ∧ (serve.head 2).upper = false ∧ (serve.head 2).up = false ∧ bitOf serve.clk.refFail 2 = false) ∧
    (2 < 8 ∧ (((linked 2).modRing 1 (fun g => { g with head := 2 })).head 2).up = true ∧ (((linked 2).modRing 1 (fun g => { g with head := 2 })).head 2).upper = false) ∧
    (2 < 8 ∧ (linked 2).alive 2 = true ∧ ((linked 2).head 2).up = true) ∧
    (2 < 8 ∧ (linked 2).alive 2 = true ∧ ((linked 2).head 2).up = true) ∧
    (((linked 2).modMd (fun m => { m with mode := .bringup, stepsDone := 0x3C })).ioPasses 2 (some (1, true)) = true ∧ ((linked 2).modMd (fun m => { m with mode := .bringup, stepsDone := 0x3C })).alive 2 = true ∧ (((linked 2).modMd (fun m => { m with mode := .bringup, stepsDone := 0x3C })).head 2).up = true ∧ ((linked 2).modMd (fun m => { m with mode := .bringup, stepsDone := 0x3C })).md.mode = .bringup ∧ bitOf ((linked 2).modMd (fun m => { m with mode := .bringup, stepsDone := 0x3C })).md.stepsDone 8 = false) ∧
    ((linked 2).ioPasses 2 ((none : Option (Nat × Bool))) = true ∧ (linked 2).alive 2 = true ∧ ((linked 2).head 2).up = true ∧ (((linked 2).md.mode ≠ .bringup ∨ bitOf (linked 2).md.stepsDone 8 = true))) ∧
    ((linked 2).ioPasses 2 (some (4, true)) = true ∧ 2 < 8 ∧ (linked 2).alive 2 = true ∧ ((linked 2).head 2).up = true ∧ (((linked 2).md.mode ≠ .bringup ∨ bitOf (linked 2).md.stepsDone 8 = true))) := by
  repeat' apply And.intro
  all_goals decide +kernel

/-- States and operands that meet the hypotheses of each clause of FlushAndDecoders. -/
theorem witness_FlushAndDecoders :
    ((linked 2).memLink 2 = true) ∧
    ((linked 2).memLink 2 = true ∧ ((linked 2).tile 2).txn.tracker = [] ∧ ((linked 2).tile 2).txn.ingress = [] ∧ ((linked 2).tile 2).txn.outQ = []) ∧
    (2 < 8 ∧ ((linked 2).modTxn 2 (fun x => { x with tracker := [{ id := 1, tag := 1, head := 2, ld := 32, kind := .wr, dpa := 0, owner := 0 }] })).memLink 2 = true ∧ (((linked 2).modTxn 2 (fun x => { x with tracker := [{ id := 1, tag := 1, head := 2, ld := 32, kind := .wr, dpa := 0, owner := 0 }] })).tile 2).txn.tracker.any (fun r => r.kind == .wr) = true) ∧
    (2 < 8 ∧ ((linked 2).modHead 2 (fun d => { d with gpf := some [] })).memLink 2 = true ∧ (((linked 2).modHead 2 (fun d => { d with gpf := some [] })).head 2).gpf = some []) ∧
    ((linked 2).alive 2 = true ∧ ((linked 2).head 2).up = true ∧ (linked 2).presents 2 0 = true ∧ 0 < (if ((linked 2).head 2).mld then 1 else 8) ∧ (vget 0 {} ((linked 2).ldev ((linked 2).ldOf 2 0)).hdm).locked = false ∧ hdmEncOk 0 0 = true ∧ 0 % (2 ^ 28 * 2 ^ 0) = 0 ∧ 0 % 2 ^ 28 = 0 ∧ hdmCommitOk ((linked 2).ldev ((linked 2).ldOf 2 0)).hdm.toList 0 { base := 0 / 2 ^ 28, size := 0 / 2 ^ 28, ways := 0, gran := 0 + 8, skip := 0 / 2 ^ 28, target := 0 } ((linked 2).ldTop ((linked 2).ldOf 2 0)) = true) ∧
    ((linked 2).alive 2 = true ∧ ((linked 2).head 2).up = true ∧ (linked 2).presents 2 0 = true ∧ 0 < (if ((linked 2).head 2).mld then 1 else 8) ∧ (vget 0 {} ((linked 2).ldev ((linked 2).ldOf 2 0)).hdm).locked = false ∧ 4096 % (2 ^ 28 * 2 ^ 0) ≠ 0) ∧
    ((vget 0 {} (((linked 2).modLd 32 (fun x => { x with hdm := vmod 0 (fun d => { d with locked := true }) x.hdm })).ldev (((linked 2).modLd 32 (fun x => { x with hdm := vmod 0 (fun d => { d with locked := true }) x.hdm })).ldOf 2 0)).hdm).locked = true) := by
  repeat' apply And.intro
  all_goals decide +kernel

/-- States and operands that meet the hypotheses of each clause of ClockSources. -/
theorem witness_ClockSources :
    (standby.md.mode ≠ .off ∧ standby.clk.xtal ≠ 2 ∧ sourceStable 0 (List.replicate 10 2500) = true) ∧
    (serve.md.mode ≠ .off ∧ 3 < serve.pop.tiles ∧ bitOf serve.clk.refFail 3 = false ∧ sourceStable (1 + 3) (List.replicate 10 10000) = true) ∧
    (((serve.setReg Reg.CLK_CTL 0).modClk (fun k => { k with refFail := 8 })).md.mode ≠ .off ∧ 3 < ((serve.setReg Reg.CLK_CTL 0).modClk (fun k => { k with refFail := 8 })).pop.tiles ∧ bitOf ((serve.setReg Reg.CLK_CTL 0).modClk (fun k => { k with refFail := 8 })).clk.refFail 3 = true ∧ ((serve.setReg Reg.CLK_CTL 0).modClk (fun k => { k with refFail := 8 })).regBit Reg.CLK_CTL 2 = false ∧ sourceStable (1 + 3) (List.replicate 10 10000) = true) ∧
    ((((serve.setReg Reg.CLK_CTL 4).modClk (fun k => { k with xtal := 2 })).modClkT 2 (fun k => { k with onBackup := 0x7E })).md.mode ≠ .off ∧ (((serve.setReg Reg.CLK_CTL 4).modClk (fun k => { k with xtal := 2 })).modClkT 2 (fun k => { k with onBackup := 0x7E })).clk.xtal = 2 ∧ (((serve.setReg Reg.CLK_CTL 4).modClk (fun k => { k with xtal := 2 })).modClkT 2 (fun k => { k with onBackup := 0x7E })).regBit Reg.CLK_CTL 2 = true ∧ sourceStable 0 (List.replicate 10 2500) = true) ∧
    (sourceStable 0 (List.replicate 10 2400) = false) ∧
    ((standby.modClk (fun k => { k with xtalWait := true })).clk.xtalWait = true) ∧
    ((serve.setReg Reg.CLK_CTL 0).md.mode ≠ .off ∧ (serve.setReg Reg.CLK_CTL 0).clk.xtal ≠ 2 ∧ (serve.setReg Reg.CLK_CTL 0).sourceFails 0 1 0 0 16 = true ∧ (serve.setReg Reg.CLK_CTL 0).tilesClocked = true ∧ (serve.setReg Reg.CLK_CTL 0).regBit Reg.CLK_CTL 0 = false ∧ 3 < 8 ∧ (serve.setReg Reg.CLK_CTL 0).alive 3 = true) ∧
    ((serve.setReg Reg.CLK_CTL 1).md.mode ≠ .off ∧ (serve.setReg Reg.CLK_CTL 1).clk.xtal ≠ 2 ∧ (serve.setReg Reg.CLK_CTL 1).sourceFails 0 2 0 0 2600 = true ∧ (serve.setReg Reg.CLK_CTL 1).tilesClocked = true ∧ (serve.setReg Reg.CLK_CTL 1).regBit Reg.CLK_CTL 0 = true ∧ 3 < 8 ∧ (serve.setReg Reg.CLK_CTL 1).alive 3 = true) ∧
    (standby.md.mode ≠ .off ∧ 3 < standby.pop.tiles ∧ bitOf standby.clk.refFail 3 = false ∧ standby.tilesClocked = false ∧ standby.sourceFails (1 + 3) 1 0 0 17 = true) ∧
    (3 < 8 ∧ (serve.modClkT 3 (fun k => { k with onBackup := 4, edgeWait := 4 })).md.mode ≠ .off ∧ 2 < 8 ∧ bitOf ((serve.modClkT 3 (fun k => { k with onBackup := 4, edgeWait := 4 })).tile 3).clk.edgeWait 2 = true) ∧
    (bitOf (serve.tile 3).clk.edgeWait 2 = false) ∧
    (3 < 8 ∧ ((serve.modClkT 3 (fun k => { k with gddrRetrain := true })).tile 3).clk.gddrRetrain = true) ∧
    (3 < 8 ∧ bitOf ((serve.modClkT 3 (fun k => { k with meshRetrain := 7 })).tile 3).clk.meshRetrain 1 = true) := by
  repeat' apply And.intro
  all_goals decide +kernel

/-- States and operands that meet the hypotheses of each clause of GatesAndTileResets. -/
theorem witness_GatesAndTileResets :
    (3 < 8 ∧ 2 ≠ 0 ∧ bitOf ((serve.modClkT 3 (fun k => { k with gateWait := 4 })).tile 3).clk.gateWait 2 = true ∧ (serve.modClkT 3 (fun k => { k with gateWait := 4 })).gateActs 3 2 = true) ∧
    (3 < 8 ∧ bitOf ((serve.modClkT 3 (fun k => { k with gateWait := 1 })).tile 3).clk.gateWait 0 = true) ∧
    (3 < 8 ∧ bitOf ((serve.modClkT 3 (fun k => { k with gateWait := 1 })).tile 3).clk.gateWait 0 = true) ∧
    (((serve.modClkT 3 (fun k => { k with resetStep := some 1 })).tile 3).clk.resetStep = some 1 ∧ (serve.modClkT 3 (fun k => { k with resetStep := some 1 })).dirtyFrames 3 = 0) ∧
    (3 < 8 ∧ ((serve.modClkT 3 (fun k => { k with resetStep := some 2 })).tile 3).clk.resetStep = some 2 ∧ ((serve.modClkT 3 (fun k => { k with resetStep := some 2 })).head 3).up = false ∧ 0 ∈ (serve.modClkT 3 (fun k => { k with resetStep := some 2 })).ports) ∧
    (((serve.modClkT 3 (fun k => { k with resetStep := some 3 })).tile 3).clk.resetStep = some 3) ∧
    (3 < 8 ∧ ((serve.modClkT 3 (fun k => { k with resetStep := some 4 })).tile 3).clk.resetStep = some 4) ∧
    (3 < 8 ∧ 2 < 8 ∧ ((serve.modClkT 3 (fun k => { k with resetStep := some 5 })).tile 3).clk.resetStep = some 5) ∧
    ((((serve.modClkT 3 (fun k => { k with resetStep := some 6 })).modMed 3 (fun m => { m with chans := vmap (fun c => { c with st := 2 }) m.chans })).tile 3).clk.resetStep = some 6 ∧ (((serve.modClkT 3 (fun k => { k with resetStep := some 6 })).modMed 3 (fun m => { m with chans := vmap (fun c => { c with st := 2 }) m.chans })).tile 3).med.chans.toList.all (fun c => decide (2 ≤ c.st)) = true) ∧
    (3 < 8 ∧ ((((serve.modClkT 3 (fun k => { k with resetStep := some 7, resetKeys := [24] })).modXl 3 (fun x => { x with formatted := true })).modMd (fun d => { d with fenced := [(24, true)] })).tile 3).clk.resetStep = some 7 ∧ ((((serve.modClkT 3 (fun k => { k with resetStep := some 7, resetKeys := [24] })).modXl 3 (fun x => { x with formatted := true })).modMd (fun d => { d with fenced := [(24, true)] })).tile 3).xl.formatted = true) ∧
    (3 < 8 ∧ (((serve.modClkT 3 (fun k => { k with resetStep := some 6 })).modMd (fun d => { d with failed := 8 })).tile 3).clk.resetStep = some 6 ∧ ((serve.modClkT 3 (fun k => { k with resetStep := some 6 })).modMd (fun d => { d with failed := 8 })).alive 3 = false) ∧
    (3 < 8 ∧ serve.md.mode ≠ .off) := by
  repeat' apply And.intro
  all_goals decide +kernel

/-- States and operands that meet the hypotheses of each clause of MeshAndHeartbeats. -/
theorem witness_MeshAndHeartbeats :
    (serve.alive 3 = true ∧ 3 ≠ serve.md.primary ∧ serve.alive serve.md.primary = true ∧ (serve.hops 3 serve.md.primary).isSome = true ∧ serve.routePort 3 serve.md.primary = some 0) ∧
    (serve.alive 3 = true ∧ 3 ≠ serve.md.primary ∧ agetD 3 0 serve.md.missed < 2) ∧
    ((serve.modJobs (fun j => { j with links := [(4, [{ src := 3, dst := 0, body := .heartbeat }])] })).alive 0 = true ∧ 1 < 4 ∧ agetD (16 * 0 + 4 * 1) [] (serve.modJobs (fun j => { j with links := [(4, [{ src := 3, dst := 0, body := .heartbeat }])] })).jobs.links = { src := 3, dst := 0, body := .heartbeat } :: (([] : List Msg)) ∧ (serve.modJobs (fun j => { j with links := [(4, [{ src := 3, dst := 0, body := .heartbeat }])] })).meshServes 0 1 = some 0) ∧
    ((serve.modJobs (fun j => { j with links := [(6, [{ src := 3, dst := 0, body := .ack .busy 5 }])] })).alive 0 = true ∧ 0 < 8 ∧ 1 < 4 ∧ agetD (16 * 0 + 4 * 1 + 2) [] (serve.modJobs (fun j => { j with links := [(6, [{ src := 3, dst := 0, body := .ack .busy 5 }])] })).jobs.links = { src := 3, dst := 0, body := .ack AckKind.busy 5 } :: (([] : List Msg)) ∧ (serve.modJobs (fun j => { j with links := [(6, [{ src := 3, dst := 0, body := .ack .busy 5 }])] })).meshServes 0 1 = some 2) ∧
    ((serve.modJobs (fun j => { j with links := [(6, [{ src := 3, dst := 0, body := .delta { src := 3, parLocal := 9, member := 1, jpos := 4, resent := false, lines := [(0, 5)], seg := 8 } }])] })).alive 0 = true ∧ 0 < 8 ∧ 1 < 4 ∧ agetD (16 * 0 + 4 * 1 + 2) [] (serve.modJobs (fun j => { j with links := [(6, [{ src := 3, dst := 0, body := .delta { src := 3, parLocal := 9, member := 1, jpos := 4, resent := false, lines := [(0, 5)], seg := 8 } }])] })).jobs.links = { src := 3, dst := 0, body := .delta (({ src := 3, parLocal := 9, member := 1, jpos := 4, resent := false, lines := [(0, 5)], seg := 8 } : Delta)) } :: (([] : List Msg)) ∧ (serve.modJobs (fun j => { j with links := [(6, [{ src := 3, dst := 0, body := .delta { src := 3, parLocal := 9, member := 1, jpos := 4, resent := false, lines := [(0, 5)], seg := 8 } }])] })).meshServes 0 1 = some 2) ∧
    (0 < 8 ∧ 1 < 4 ∧ 0 < 4 ∧ agetD (16 * 0 + 4 * 1 + 0) [] (serve.modJobs (fun j => { j with links := [(4, [{ src := 3, dst := 5, body := .heartbeat }])] })).jobs.links = (({ src := 3, dst := 5, body := .heartbeat } : Msg)) :: (([] : List Msg)) ∧ (({ src := 3, dst := 5, body := .heartbeat } : Msg)).dst ≠ 0 ∧ (({ src := 3, dst := 5, body := .heartbeat } : Msg)).old = false ∧ (({ src := 3, dst := 5, body := .heartbeat } : Msg)).body.cls = 0 ∧ (serve.modJobs (fun j => { j with links := [(4, [{ src := 3, dst := 5, body := .heartbeat }])] })).meshServes 0 1 = some 0 ∧ (serve.modJobs (fun j => { j with links := [(4, [{ src := 3, dst := 5, body := .heartbeat }])] })).routePort 0 (({ src := 3, dst := 5, body := .heartbeat } : Msg)).dst = some 0) ∧
    ((serve.modJobs (fun j => { j with links := [(4, [{ src := 3, dst := 0, body := .heartbeat }]), (6, [{ src := 3, dst := 0, body := .ack .busy 5 }])] })).meshServes 0 1 ≠ some 2) ∧
    ((serve.psPut Param.CUP_FAILED [8]).cup.rejoin = none ∧ (serve.psPut Param.CUP_FAILED [8]).aliveTiles.find? (fun u => ((serve.psPut Param.CUP_FAILED [8]).rejoinAt u).isSome) = some 3 ∧ (serve.psPut Param.CUP_FAILED [8]).md.operating = true ∧ (serve.psPut Param.CUP_FAILED [8]).cup.work = 0 ∧ (serve.psPut Param.CUP_FAILED [8]).cupMayWork = true) := by
  repeat' apply And.intro
  all_goals decide +kernel

/-- States and operands that meet the hypotheses of each clause of FailedTiles. -/
theorem witness_FailedTiles :
    ((serve.modMd (fun d => { d with missed := [(3, 2)] })).alive 3 = true ∧ 3 ≠ (serve.modMd (fun d => { d with missed := [(3, 2)] })).md.primary ∧ agetD 3 0 (serve.modMd (fun d => { d with missed := [(3, 2)] })).md.missed = 2) ∧
    ((serve.modMd (fun d => { d with fenced := [(9, true), (16, true), (26, true)] })).alive 3 = true ∧ 3 ≠ (serve.modMd (fun d => { d with fenced := [(9, true), (16, true), (26, true)] })).md.primary ∧ (serve.modMd (fun d => { d with fenced := [(9, true), (16, true), (26, true)] })).alive (serve.modMd (fun d => { d with fenced := [(9, true), (16, true), (26, true)] })).md.primary = true ∧ ((serve.modMd (fun d => { d with fenced := [(9, true), (16, true), (26, true)] })).hops 3 (serve.modMd (fun d => { d with fenced := [(9, true), (16, true), (26, true)] })).md.primary).isSome = false) ∧
    ((serve.modCupT 3 (fun c => { c with sent := [(9, (5, 2))] })).alive 3 = true ∧ aget 9 ((serve.modCupT 3 (fun c => { c with sent := [(9, (5, 2))] })).tile 3).cup.sent = some (5, 2) ∧ (serve.modCupT 3 (fun c => { c with sent := [(9, (5, 2))] })).alive 5 = true ∧ ((2 ≤ 2 ∨ 2 + 1 ≤ 2))) ∧
    (aget 9 ((serve.modCupT 3 (fun c => { c with sent := [(9, (5, 2))] })).tile 3).cup.sent = some (5, 2) ∧ 1 < 2 ∧ 2 < 2 + 1) ∧
    (serve.alive 3 = true ∧ 1 < 3 ∧ serve.linkUp 3 1 = true) := by
  repeat' apply And.intro
  all_goals decide +kernel

/-- States and operands that meet the hypotheses of each clause of ScrubAndInject. -/
theorem witness_ScrubAndInject :
    (scrubbing.alive 3 = true ∧ 3 < 8 ∧ 2 < 8 ∧ (scrubbing.chan 3 2).st = 2 ∧ scrubbing.regBit Reg.INT_CTL 15 = true ∧ scrubbing.sectorBudget 3 3 2 = some 0 ∧ scrubbing.scrubNext 3 2 = some (page2, false) ∧ scrubbing.mediaFree 3 page2 = true ∧ (scrubbing.tile 3).med.scan = []) ∧
    ((serve.modInt 3 (fun x => { x with queue := [{ loc := 5, prio := 0, age := 0 }] })).mayMaintain 3 = true ∧ 3 < 8 ∧ (serve.modInt 3 (fun x => { x with queue := [{ loc := 5, prio := 0, age := 0 }] })).refreshNext 3 = some (({ loc := 5, prio := 0, age := 0 } : Refresh)) ∧ ((serve.modInt 3 (fun x => { x with queue := [{ loc := 5, prio := 0, age := 0 }] })).mapRaw 3 (((aget (({ loc := 5, prio := 0, age := 0 } : Refresh)).loc ((serve.modInt 3 (fun x => { x with queue := [{ loc := 5, prio := 0, age := 0 }] })).tile 3).med.pages).map (·.subject)).getD 0)).loc ≠ (({ loc := 5, prio := 0, age := 0 } : Refresh)).loc) ∧
    (refreshing.mayMaintain 3 = true ∧ 3 < 8 ∧ refreshing.refreshNext 3 = some (({ loc := page2, prio := 0, age := 0 } : Refresh)) ∧ aget (({ loc := page2, prio := 0, age := 0 } : Refresh)).loc (refreshing.tile 3).med.pages = some (({ kind := .host } : Page)) ∧ (({ kind := .host } : Page)).subject = 0 ∧ (refreshing.mapRaw 3 0).loc = (({ loc := page2, prio := 0, age := 0 } : Refresh)).loc ∧ (refreshing.mapRaw 3 0).st = .mapped ∧ refreshing.sectorBudget 3 2 (locCh (({ loc := page2, prio := 0, age := 0 } : Refresh)).loc) = some 0 ∧ (refreshing.tile 3).xl.batches = []) ∧
    (((serve.modCup (fun c => { c with work := 1 })).setWindow 1).cup.work = 1 ∧ ((serve.modCup (fun c => { c with work := 1 })).setWindow 1).cupMayWork = true ∧ ((serve.modCup (fun c => { c with work := 1 })).setWindow 1).lostAll = 0) ∧
    ((inMode .service).accepts pc0 0x0301 true = true ∧ (inMode .service).md.inService = true ∧ (inMode .service).alive 3 = true ∧ 3 < 8 ∧ 7 < framesOf (inMode .service).pop ∧ 4 < 65) ∧
    ((inMode .service).accepts pc0 0x0301 true = true ∧ (inMode .service).md.inService = true ∧ (inMode .service).alive 3 = true ∧ 3 < 8 ∧ 7 < framesOf (inMode .service).pop) ∧
    ((inMode .service).accepts pc0 0x0301 true = true ∧ (inMode .service).md.inService = true ∧ (inMode .service).alive 3 = true ∧ 3 < 8 ∧ 40 < (inMode .service).segs) ∧
    (((inMode .service).modMed 3 (fun m => { m with chans := vmap (fun c => { c with st := 2 }) m.chans })).accepts pc0 0x0301 true = true ∧ ((inMode .service).modMed 3 (fun m => { m with chans := vmap (fun c => { c with st := 2 }) m.chans })).md.inService = true ∧ ((inMode .service).modMed 3 (fun m => { m with chans := vmap (fun c => { c with st := 2 }) m.chans })).alive 3 = true ∧ 3 < 8 ∧ ((2 = 0 ∨ 2 = 2)) ∧ (((inMode .service).modMed 3 (fun m => { m with chans := vmap (fun c => { c with st := 2 }) m.chans })).chan 3 0).st = 2 ∧ 4 < 68 ∧ (((inMode .service).modMed 3 (fun m => { m with chans := vmap (fun c => { c with st := 2 }) m.chans })).tile 3).int.armed.length < 4) ∧
    (serve.accepts pc0 0x0300 true = true ∧ serve.md.operating = true ∧ (List.range 8).all (fun t => !bitOf 3 t || serve.present.contains t) = true) ∧
    (serve.accepts pc0 0x0302 true = true ∧ 3 < serve.pop.tiles ∧ 3 < 8 ∧ aligned64 64 = true) := by
  repeat' apply And.intro
  all_goals decide +kernel

/-- States and operands that meet the hypotheses of each clause of CupolaWork. -/
theorem witness_CupolaWork :
    ((serve.modCupT 3 (fun c => { c with inbox := [{ src := 2, dst := 3, body := .delta { src := 2, parLocal := 9, member := 1, jpos := 4, resent := false, lines := [(0, 5)], seg := 8 } }] })).alive 3 = true ∧ 3 < 8 ∧ (({ src := 2, dst := 3, body := .delta { src := 2, parLocal := 9, member := 1, jpos := 4, resent := false, lines := [(0, 5)], seg := 8 } } : Msg)).body = .delta (({ src := 2, parLocal := 9, member := 1, jpos := 4, resent := false, lines := [(0, 5)], seg := 8 } : Delta)) ∧ (({ src := 2, parLocal := 9, member := 1, jpos := 4, resent := false, lines := [(0, 5)], seg := 8 } : Delta)).resent = false ∧ ((serve.modCupT 3 (fun c => { c with inbox := [{ src := 2, dst := 3, body := .delta { src := 2, parLocal := 9, member := 1, jpos := 4, resent := false, lines := [(0, 5)], seg := 8 } }] })).tile 3).cup.inbox = (({ src := 2, dst := 3, body := .delta { src := 2, parLocal := 9, member := 1, jpos := 4, resent := false, lines := [(0, 5)], seg := 8 } } : Msg)) :: (([] : List Msg)) ∧ ((serve.modCupT 3 (fun c => { c with inbox := [{ src := 2, dst := 3, body := .delta { src := 2, parLocal := 9, member := 1, jpos := 4, resent := false, lines := [(0, 5)], seg := 8 } }] })).tile 3).cup.slots = [] ∧ (serve.modCupT 3 (fun c => { c with inbox := [{ src := 2, dst := 3, body := .delta { src := 2, parLocal := 9, member := 1, jpos := 4, resent := false, lines := [(0, 5)], seg := 8 } }] })).routePort 3 (({ src := 2, parLocal := 9, member := 1, jpos := 4, resent := false, lines := [(0, 5)], seg := 8 } : Delta)).src = some 0) ∧
    ((serve.modCupT 3 (fun c => { c with held := [{ src := 2, parLocal := 9, member := 1, jpos := 4, resent := false, lines := [(0, 5)], seg := 8 }] })).alive 3 = true ∧ 3 < 8 ∧ ((serve.modCupT 3 (fun c => { c with held := [{ src := 2, parLocal := 9, member := 1, jpos := 4, resent := false, lines := [(0, 5)], seg := 8 }] })).tile 3).cup.held = [(({ src := 2, parLocal := 9, member := 1, jpos := 4, resent := false, lines := [(0, 5)], seg := 8 } : Delta))] ∧ (serve.modCupT 3 (fun c => { c with held := [{ src := 2, parLocal := 9, member := 1, jpos := 4, resent := false, lines := [(0, 5)], seg := 8 }] })).routePort 3 (({ src := 2, parLocal := 9, member := 1, jpos := 4, resent := false, lines := [(0, 5)], seg := 8 } : Delta)).src = some 0) ∧
    ((serve.modCupT 3 (fun c => { c with inbox := [{ src := 2, dst := 3, body := .ack .busy 5 }] })).alive 3 = true ∧ ((serve.modCupT 3 (fun c => { c with inbox := [{ src := 2, dst := 3, body := .ack .busy 5 }] })).tile 3).cup.inbox = (({ src := 2, dst := 3, body := .ack .busy 5 } : Msg)) :: (([] : List Msg)) ∧ (({ src := 2, dst := 3, body := .ack .busy 5 } : Msg)).body = .ack .busy 5) ∧
    (((inMode .holdup).modCupT 3 (fun c => { c with slots := [(9, {})] })).alive 3 = true ∧ 3 < 8 ∧ bitOf ((inMode .holdup).modCupT 3 (fun c => { c with slots := [(9, {})] })).md.sealed 3 = false ∧ ((inMode .holdup).modCupT 3 (fun c => { c with slots := [(9, {})] })).md.mode = .holdup ∧ ((inMode .holdup).modCupT 3 (fun c => { c with slots := [(9, {})] })).oldestSlot 3 = some (9, (({} : Slot))) ∧ ((inMode .holdup).modCupT 3 (fun c => { c with slots := [(9, {})] })).dirtyOrder 3 = [] ∧ (((inMode .holdup).modCupT 3 (fun c => { c with slots := [(9, {})] })).tile 3).xl.commits = [] ∧ (((inMode .holdup).modCupT 3 (fun c => { c with slots := [(9, {})] })).mapOf 3 9).st = .never ∧ (((inMode .holdup).modCupT 3 (fun c => { c with slots := [(9, {})] })).tile 3).cup.slots.all (fun x => x.2.adoptSeg.isNone) = true) ∧
    (((serve.modCup (fun c => { c with work := 2 })).setWindow 1).md.operating = true ∧ ((serve.modCup (fun c => { c with work := 2 })).setWindow 1).cup.unsynced = [] ∧ ((serve.modCup (fun c => { c with work := 2 })).setWindow 1).cup.unsyncedFrom = none ∧ ((serve.modCup (fun c => { c with work := 2 })).setWindow 1).cup.work = 2 ∧ ((serve.modCup (fun c => { c with work := 2 })).setWindow 1).cupMayWork = true) ∧
    (((inMode .service).modCup (fun c => { c with regions := 2 })).accepts pc0 0x0400 true = true ∧ ((inMode .service).modCup (fun c => { c with regions := 2 })).md.inService = true ∧ ((inMode .service).modCup (fun c => { c with regions := 2 })).cup.regions ≤ 16 ∧ ((inMode .service).modCup (fun c => { c with regions := 2 })).cup.work = 0 ∧ ((inMode .service).modCup (fun c => { c with regions := 2 })).windowFor 1 = true) ∧
    (((inMode .service).modCup (fun c => { c with regions := 2 })).accepts pc0 0x0400 true = true ∧ ((inMode .service).modCup (fun c => { c with regions := 2 })).md.inService = true ∧ 1 < ((inMode .service).modCup (fun c => { c with regions := 2 })).cup.regions ∧ 1 ≤ 16 ∧ ((inMode .service).modCup (fun c => { c with regions := 2 })).cup.work = 0 ∧ ((inMode .service).modCup (fun c => { c with regions := 2 })).windowFor 1 = true) ∧
    ((serve.modCup (fun c => { c with regions := 1 })).accepts pc0 0x0401 true = true ∧ (serve.modCup (fun c => { c with regions := 1 })).md.sdService = true ∧ (serve.modCup (fun c => { c with regions := 1 })).cup.work = 0 ∧ (serve.modCup (fun c => { c with regions := 1 })).windowFor 1 = true) ∧
    (((serve.modCup (fun c => { c with work := 1 })).setWindow 1).accepts pc0 0x0401 true = true ∧ ((serve.modCup (fun c => { c with work := 1 })).setWindow 1).md.sdService = true ∧ ((((serve.modCup (fun c => { c with work := 1 })).setWindow 1).cup.work = 1 ∨ ((serve.modCup (fun c => { c with work := 1 })).setWindow 1).cup.work = 2))) := by
  repeat' apply And.intro
  all_goals decide +kernel

/-- States and operands that meet the hypotheses of each clause of FrontStoreHits. -/
theorem witness_FrontStoreHits :
    (mapped.directHit req0 0 0 = true ∧ 1 ≠ 0 / 64 % 64 ∧ 1 ≠ 0) ∧
    (mapped.directHit req0 0 0 = true ∧ 1 ≠ req0.head) ∧
    (mapped.directHit req0 0 0 = true ∧ bitOf (mapped.frame req0.head 0).valid (0 / 64 % 64) = true ∧ 1 ≠ 0 / 64 % 64 ∧ 1 ≠ 0 ∧ 0 < 64) ∧
    (mapped.directHit req0 0 0 = true ∧ bitOf (mapped.frame req0.head 0).valid (0 / 64 % 64) = true) ∧
    (mapped.directHit req0 0 0 = true ∧ bitOf (mapped.frame req0.head 0).valid (0 / 64 % 64) = true) := by
  repeat' apply And.intro
  all_goals decide +kernel

/-- States and operands that meet the hypotheses of each clause of RequestsWithoutALine. -/
theorem witness_RequestsWithoutALine :
    (req0.ideOk = true) ∧
    (mapped.answersAtOnce req0 = true ∧ mapped.memRefused req0.head (mapped.ldOf req0.head req0.ld) = false) ∧
    (mapped.answersAtOnce req0 = true ∧ mapped.memRefused req0.head (mapped.ldOf req0.head req0.ld) = false) ∧
    ((mapped.modMd (fun d => { d with mode := .service })).answersAtOnce req0 = true ∧ (mapped.modMd (fun d => { d with mode := .service })).memRefused req0.head ((mapped.modMd (fun d => { d with mode := .service })).ldOf req0.head req0.ld) = true) ∧
    ((linked 0).answersAtOnce req0 = true ∧ (linked 0).memRefused req0.head ((linked 0).ldOf req0.head req0.ld) = false ∧ (linked 0).memDecode ((linked 0).ldOf req0.head req0.ld) req0.hpa = .unmapped) ∧
    (({ req0 with ideOk := false }).head < 8 ∧ (linked 0).memTaken ({ req0 with ideOk := false }).head = true ∧ ({ req0 with ideOk := false }).ideOk = false) ∧
    ((vget 0 {} (((linked 0).modHead 0 (fun d => { d with ide := vmod 0 (fun x => { x with insecure := true }) d.ide })).head req0.head).ide).insecure = true) ∧
    ((linked 0).memTaken req0.head = true ∧ req0.ideOk = true) ∧
    (0 < 8 ∧ ((linked 0).modHead 0 (fun d => { d with ndr := some 1, drs := some 2 })).memLink 0 = true ∧ (((linked 0).modHead 0 (fun d => { d with ndr := some 1, drs := some 2 })).tile 0).txn.outQ = [] ∧ (((linked 0).modHead 0 (fun d => { d with ndr := some 1, drs := some 2 })).head 0).ndr = some 1 ∧ (((linked 0).modHead 0 (fun d => { d with ndr := some 1, drs := some 2 })).head 0).drs = some 2) ∧
    (0 < 8 ∧ (((linked 0).modHead 0 (fun d => { d with ndr := some 1, drs := some 0 })).modTxn 0 (fun x => { x with tracker := [{ id := 1, head := 0, tag := 5, ld := 0, dpa := 0, owner := 0, kind := .rd }], outQ := [({ id := 1, head := 0, tag := 5, ld := 0, dpa := 0, owner := 0, kind := .rd }, some 7, false)] })).memLink 0 = true ∧ (({ id := 1, head := 0, tag := 5, ld := 0, dpa := 0, owner := 0, kind := .rd } : Req)).head = 0 ∧ (({ id := 1, head := 0, tag := 5, ld := 0, dpa := 0, owner := 0, kind := .rd } : Req)).kind = .rd ∧ ((((linked 0).modHead 0 (fun d => { d with ndr := some 1, drs := some 0 })).modTxn 0 (fun x => { x with tracker := [{ id := 1, head := 0, tag := 5, ld := 0, dpa := 0, owner := 0, kind := .rd }], outQ := [({ id := 1, head := 0, tag := 5, ld := 0, dpa := 0, owner := 0, kind := .rd }, some 7, false)] })).tile 0).txn.outQ = [((({ id := 1, head := 0, tag := 5, ld := 0, dpa := 0, owner := 0, kind := .rd } : Req)), (some 7), false)] ∧ ((((linked 0).modHead 0 (fun d => { d with ndr := some 1, drs := some 0 })).modTxn 0 (fun x => { x with tracker := [{ id := 1, head := 0, tag := 5, ld := 0, dpa := 0, owner := 0, kind := .rd }], outQ := [({ id := 1, head := 0, tag := 5, ld := 0, dpa := 0, owner := 0, kind := .rd }, some 7, false)] })).head 0).ndr = some 1 ∧ ((((linked 0).modHead 0 (fun d => { d with ndr := some 1, drs := some 0 })).modTxn 0 (fun x => { x with tracker := [{ id := 1, head := 0, tag := 5, ld := 0, dpa := 0, owner := 0, kind := .rd }], outQ := [({ id := 1, head := 0, tag := 5, ld := 0, dpa := 0, owner := 0, kind := .rd }, some 7, false)] })).head 0).drs = some 0) ∧
    (0 < 8 ∧ ((linked 0).modTxn 0 (fun x => { x with ingress := [{ id := 1, head := 0, tag := 5, ld := 0, dpa := 0, owner := 0, kind := .inv }] })).memLink 0 = true ∧ (((linked 0).modTxn 0 (fun x => { x with ingress := [{ id := 1, head := 0, tag := 5, ld := 0, dpa := 0, owner := 0, kind := .inv }] })).tile 0).txn.ingress = (({ id := 1, head := 0, tag := 5, ld := 0, dpa := 0, owner := 0, kind := .inv } : Req)) :: (([] : List Req)) ∧ ((linked 0).modTxn 0 (fun x => { x with ingress := [{ id := 1, head := 0, tag := 5, ld := 0, dpa := 0, owner := 0, kind := .inv }] })).canAllocate (({ id := 1, head := 0, tag := 5, ld := 0, dpa := 0, owner := 0, kind := .inv } : Req)) = true ∧ (({ id := 1, head := 0, tag := 5, ld := 0, dpa := 0, owner := 0, kind := .inv } : Req)).head = 0 ∧ (({ id := 1, head := 0, tag := 5, ld := 0, dpa := 0, owner := 0, kind := .inv } : Req)).kind = .inv ∧ (({ id := 1, head := 0, tag := 5, ld := 0, dpa := 0, owner := 0, kind := .inv } : Req)).way = .line ∧ (([] : List Req)).all (fun q => q.id != (({ id := 1, head := 0, tag := 5, ld := 0, dpa := 0, owner := 0, kind := .inv } : Req)).id) = true ∧ (((linked 0).modTxn 0 (fun x => { x with ingress := [{ id := 1, head := 0, tag := 5, ld := 0, dpa := 0, owner := 0, kind := .inv }] })).tile 0).txn.tracker.all (fun q => q.id != (({ id := 1, head := 0, tag := 5, ld := 0, dpa := 0, owner := 0, kind := .inv } : Req)).id) = true ∧ (((linked 0).modTxn 0 (fun x => { x with ingress := [{ id := 1, head := 0, tag := 5, ld := 0, dpa := 0, owner := 0, kind := .inv }] })).head 0).ndr = none) ∧
    (0 < 8 ∧ ((linked 0).modHead 0 (fun d => { d with rwdPaced := 2 })).memLink 0 = true ∧ (((linked 0).modHead 0 (fun d => { d with rwdPaced := 2 })).tile 0).txn.ingress = [] ∧ 0 < (((linked 0).modHead 0 (fun d => { d with rwdPaced := 2 })).head 0).rwdPaced) := by
  repeat' apply And.intro
  all_goals decide +kernel

/-- States and operands that meet the hypotheses of each clause of WaitingRequests. -/
theorem witness_WaitingRequests :
    ((mapped.modFs 0 (fun g => { g with waitOn := true })).alive 0 = true ∧ 0 < 8 ∧ ((mapped.modFs 0 (fun g => { g with waitOn := true })).tile 0).txn.haz = [] ∧ ((mapped.modFs 0 (fun g => { g with waitOn := true })).tile 0).fs.waitOn = true) ∧
    ((((frameIs { st := .clean, seg := 0, valid := 1, lines := [(0, 7)] }).modTxn 0 (fun x => { x with tracker := [{ id := 1, head := 0, tag := 5, ld := 0, dpa := 0, owner := 0, kind := .wr, data := 9 }], haz := [{ req := { id := 1, head := 0, tag := 5, ld := 0, dpa := 0, owner := 0, kind := .wr, data := 9 }, seg := 0, line := 0, src := 0, st := .dirty }] })).modFs 0 (fun g => { g with waitOn := true })).alive 0 = true ∧ 0 < 8 ∧ (((frameIs { st := .clean, seg := 0, valid := 1, lines := [(0, 7)] }).modTxn 0 (fun x => { x with tracker := [{ id := 1, head := 0, tag := 5, ld := 0, dpa := 0, owner := 0, kind := .wr, data := 9 }], haz := [{ req := { id := 1, head := 0, tag := 5, ld := 0, dpa := 0, owner := 0, kind := .wr, data := 9 }, seg := 0, line := 0, src := 0, st := .dirty }] })).modFs 0 (fun g => { g with waitOn := true })).noWork = true ∧ (((frameIs { st := .clean, seg := 0, valid := 1, lines := [(0, 7)] }).modTxn 0 (fun x => { x with tracker := [{ id := 1, head := 0, tag := 5, ld := 0, dpa := 0, owner := 0, kind := .wr, data := 9 }], haz := [{ req := { id := 1, head := 0, tag := 5, ld := 0, dpa := 0, owner := 0, kind := .wr, data := 9 }, seg := 0, line := 0, src := 0, st := .dirty }] })).modFs 0 (fun g => { g with waitOn := true })).car.reads = [] ∧ ((((frameIs { st := .clean, seg := 0, valid := 1, lines := [(0, 7)] }).modTxn 0 (fun x => { x with tracker := [{ id := 1, head := 0, tag := 5, ld := 0, dpa := 0, owner := 0, kind := .wr, data := 9 }], haz := [{ req := { id := 1, head := 0, tag := 5, ld := 0, dpa := 0, owner := 0, kind := .wr, data := 9 }, seg := 0, line := 0, src := 0, st := .dirty }] })).modFs 0 (fun g => { g with waitOn := true })).tile 0).txn.haz = [(({ req := { id := 1, head := 0, tag := 5, ld := 0, dpa := 0, owner := 0, kind := .wr, data := 9 }, seg := 0, line := 0, src := 0, st := .dirty } : Haz))] ∧ (({ req := { id := 1, head := 0, tag := 5, ld := 0, dpa := 0, owner := 0, kind := .wr, data := 9 }, seg := 0, line := 0, src := 0, st := .dirty } : Haz)).st = .dirty ∧ (({ req := { id := 1, head := 0, tag := 5, ld := 0, dpa := 0, owner := 0, kind := .wr, data := 9 }, seg := 0, line := 0, src := 0, st := .dirty } : Haz)).req.kind = .wr ∧ (({ req := { id := 1, head := 0, tag := 5, ld := 0, dpa := 0, owner := 0, kind := .wr, data := 9 }, seg := 0, line := 0, src := 0, st := .dirty } : Haz)).req.head = 0 ∧ ((((frameIs { st := .clean, seg := 0, valid := 1, lines := [(0, 7)] }).modTxn 0 (fun x => { x with tracker := [{ id := 1, head := 0, tag := 5, ld := 0, dpa := 0, owner := 0, kind := .wr, data := 9 }], haz := [{ req := { id := 1, head := 0, tag := 5, ld := 0, dpa := 0, owner := 0, kind := .wr, data := 9 }, seg := 0, line := 0, src := 0, st := .dirty }] })).modFs 0 (fun g => { g with waitOn := true })).tile 0).txn.tracker = [(({ req := { id := 1, head := 0, tag := 5, ld := 0, dpa := 0, owner := 0, kind := .wr, data := 9 }, seg := 0, line := 0, src := 0, st := .dirty } : Haz)).req] ∧ ((((frameIs { st := .clean, seg := 0, valid := 1, lines := [(0, 7)] }).modTxn 0 (fun x => { x with tracker := [{ id := 1, head := 0, tag := 5, ld := 0, dpa := 0, owner := 0, kind := .wr, data := 9 }], haz := [{ req := { id := 1, head := 0, tag := 5, ld := 0, dpa := 0, owner := 0, kind := .wr, data := 9 }, seg := 0, line := 0, src := 0, st := .dirty }] })).modFs 0 (fun g => { g with waitOn := true })).tile 0).txn.outQ = [] ∧ ((((frameIs { st := .clean, seg := 0, valid := 1, lines := [(0, 7)] }).modTxn 0 (fun x => { x with tracker := [{ id := 1, head := 0, tag := 5, ld := 0, dpa := 0, owner := 0, kind := .wr, data := 9 }], haz := [{ req := { id := 1, head := 0, tag := 5, ld := 0, dpa := 0, owner := 0, kind := .wr, data := 9 }, seg := 0, line := 0, src := 0, st := .dirty }] })).modFs 0 (fun g => { g with waitOn := true })).head 0).ndr = none ∧ (((frameIs { st := .clean, seg := 0, valid := 1, lines := [(0, 7)] }).modTxn 0 (fun x => { x with tracker := [{ id := 1, head := 0, tag := 5, ld := 0, dpa := 0, owner := 0, kind := .wr, data := 9 }], haz := [{ req := { id := 1, head := 0, tag := 5, ld := 0, dpa := 0, owner := 0, kind := .wr, data := 9 }, seg := 0, line := 0, src := 0, st := .dirty }] })).modFs 0 (fun g => { g with waitOn := true })).segTile ((({ req := { id := 1, head := 0, tag := 5, ld := 0, dpa := 0, owner := 0, kind := .wr, data := 9 }, seg := 0, line := 0, src := 0, st := .dirty } : Haz)).req.dpa / 4096) = 0 ∧ (((frameIs { st := .clean, seg := 0, valid := 1, lines := [(0, 7)] }).modTxn 0 (fun x => { x with tracker := [{ id := 1, head := 0, tag := 5, ld := 0, dpa := 0, owner := 0, kind := .wr, data := 9 }], haz := [{ req := { id := 1, head := 0, tag := 5, ld := 0, dpa := 0, owner := 0, kind := .wr, data := 9 }, seg := 0, line := 0, src := 0, st := .dirty }] })).modFs 0 (fun g => { g with waitOn := true })).findFrame 0 ((((frameIs { st := .clean, seg := 0, valid := 1, lines := [(0, 7)] }).modTxn 0 (fun x => { x with tracker := [{ id := 1, head := 0, tag := 5, ld := 0, dpa := 0, owner := 0, kind := .wr, data := 9 }], haz := [{ req := { id := 1, head := 0, tag := 5, ld := 0, dpa := 0, owner := 0, kind := .wr, data := 9 }, seg := 0, line := 0, src := 0, st := .dirty }] })).modFs 0 (fun g => { g with waitOn := true })).segLocal ((({ req := { id := 1, head := 0, tag := 5, ld := 0, dpa := 0, owner := 0, kind := .wr, data := 9 }, seg := 0, line := 0, src := 0, st := .dirty } : Haz)).req.dpa / 4096)) = some 0 ∧ ((((frameIs { st := .clean, seg := 0, valid := 1, lines := [(0, 7)] }).modTxn 0 (fun x => { x with tracker := [{ id := 1, head := 0, tag := 5, ld := 0, dpa := 0, owner := 0, kind := .wr, data := 9 }], haz := [{ req := { id := 1, head := 0, tag := 5, ld := 0, dpa := 0, owner := 0, kind := .wr, data := 9 }, seg := 0, line := 0, src := 0, st := .dirty }] })).modFs 0 (fun g => { g with waitOn := true })).frame 0 0).st = .clean ∧ (((frameIs { st := .clean, seg := 0, valid := 1, lines := [(0, 7)] }).modTxn 0 (fun x => { x with tracker := [{ id := 1, head := 0, tag := 5, ld := 0, dpa := 0, owner := 0, kind := .wr, data := 9 }], haz := [{ req := { id := 1, head := 0, tag := 5, ld := 0, dpa := 0, owner := 0, kind := .wr, data := 9 }, seg := 0, line := 0, src := 0, st := .dirty }] })).modFs 0 (fun g => { g with waitOn := true })).overLimit 0 = false ∧ (((frameIs { st := .clean, seg := 0, valid := 1, lines := [(0, 7)] }).modTxn 0 (fun x => { x with tracker := [{ id := 1, head := 0, tag := 5, ld := 0, dpa := 0, owner := 0, kind := .wr, data := 9 }], haz := [{ req := { id := 1, head := 0, tag := 5, ld := 0, dpa := 0, owner := 0, kind := .wr, data := 9 }, seg := 0, line := 0, src := 0, st := .dirty }] })).modFs 0 (fun g => { g with waitOn := true })).writeThrough 0 = false ∧ ((((frameIs { st := .clean, seg := 0, valid := 1, lines := [(0, 7)] }).modTxn 0 (fun x => { x with tracker := [{ id := 1, head := 0, tag := 5, ld := 0, dpa := 0, owner := 0, kind := .wr, data := 9 }], haz := [{ req := { id := 1, head := 0, tag := 5, ld := 0, dpa := 0, owner := 0, kind := .wr, data := 9 }, seg := 0, line := 0, src := 0, st := .dirty }] })).modFs 0 (fun g => { g with waitOn := true })).tile 0).fs.tagFlips = [] ∧ ((((frameIs { st := .clean, seg := 0, valid := 1, lines := [(0, 7)] }).modTxn 0 (fun x => { x with tracker := [{ id := 1, head := 0, tag := 5, ld := 0, dpa := 0, owner := 0, kind := .wr, data := 9 }], haz := [{ req := { id := 1, head := 0, tag := 5, ld := 0, dpa := 0, owner := 0, kind := .wr, data := 9 }, seg := 0, line := 0, src := 0, st := .dirty }] })).modFs 0 (fun g => { g with waitOn := true })).tile 0).fs.lineFlips = [] ∧ bitOf (((frameIs { st := .clean, seg := 0, valid := 1, lines := [(0, 7)] }).modTxn 0 (fun x => { x with tracker := [{ id := 1, head := 0, tag := 5, ld := 0, dpa := 0, owner := 0, kind := .wr, data := 9 }], haz := [{ req := { id := 1, head := 0, tag := 5, ld := 0, dpa := 0, owner := 0, kind := .wr, data := 9 }, seg := 0, line := 0, src := 0, st := .dirty }] })).modFs 0 (fun g => { g with waitOn := true })).md.sealed 0 = false) ∧
    ((mapped.modTxn 0 (fun x => { x with haz := [{ req := { id := 1, head := 0, tag := 1, ld := 0, dpa := 0, owner := 0, kind := .wr }, seg := 0, line := 0, src := 0, st := .media }], hazWait := [(0, { id := 2, head := 0, tag := 2, ld := 0, dpa := 0, owner := 0, kind := .rd })] })).alive 0 = true ∧ 0 < 8 ∧ (mapped.modTxn 0 (fun x => { x with haz := [{ req := { id := 1, head := 0, tag := 1, ld := 0, dpa := 0, owner := 0, kind := .wr }, seg := 0, line := 0, src := 0, st := .media }], hazWait := [(0, { id := 2, head := 0, tag := 2, ld := 0, dpa := 0, owner := 0, kind := .rd })] })).hazUsed 0 < 16384 ∧ ((mapped.modTxn 0 (fun x => { x with haz := [{ req := { id := 1, head := 0, tag := 1, ld := 0, dpa := 0, owner := 0, kind := .wr }, seg := 0, line := 0, src := 0, st := .media }], hazWait := [(0, { id := 2, head := 0, tag := 2, ld := 0, dpa := 0, owner := 0, kind := .rd })] })).tile 0).txn.nextSource = some (0, (({ id := 2, head := 0, tag := 2, ld := 0, dpa := 0, owner := 0, kind := .rd } : Req))) ∧ ((mapped.modTxn 0 (fun x => { x with haz := [{ req := { id := 1, head := 0, tag := 1, ld := 0, dpa := 0, owner := 0, kind := .wr }, seg := 0, line := 0, src := 0, st := .media }], hazWait := [(0, { id := 2, head := 0, tag := 2, ld := 0, dpa := 0, owner := 0, kind := .rd })] })).tile 0).txn.haz.any (fun h => h.seg == hazKey (mapped.modTxn 0 (fun x => { x with haz := [{ req := { id := 1, head := 0, tag := 1, ld := 0, dpa := 0, owner := 0, kind := .wr }, seg := 0, line := 0, src := 0, st := .media }], hazWait := [(0, { id := 2, head := 0, tag := 2, ld := 0, dpa := 0, owner := 0, kind := .rd })] })) 0 (({ id := 2, head := 0, tag := 2, ld := 0, dpa := 0, owner := 0, kind := .rd } : Req)) && h.line == (({ id := 2, head := 0, tag := 2, ld := 0, dpa := 0, owner := 0, kind := .rd } : Req)).dpa / 64 % 64 && h.st == .media && h.req.kind == .wr) = true ∧ ((mapped.modTxn 0 (fun x => { x with haz := [{ req := { id := 1, head := 0, tag := 1, ld := 0, dpa := 0, owner := 0, kind := .wr }, seg := 0, line := 0, src := 0, st := .media }], hazWait := [(0, { id := 2, head := 0, tag := 2, ld := 0, dpa := 0, owner := 0, kind := .rd })] })).tile 0).txn.haz.all (fun h => h.req.id != (({ id := 2, head := 0, tag := 2, ld := 0, dpa := 0, owner := 0, kind := .rd } : Req)).id) = true) ∧
    (0 < 8 ∧ (mapped.modTxn 0 (fun x => { x with tracker := [{ id := 2, head := 0, tag := 2, ld := 0, dpa := 0, owner := 0, kind := .rd }] })).memLink 0 = true ∧ (mapped.modTxn 0 (fun x => { x with tracker := [{ id := 2, head := 0, tag := 2, ld := 0, dpa := 0, owner := 0, kind := .rd }] })).trk 0 2 = some (({ id := 2, head := 0, tag := 2, ld := 0, dpa := 0, owner := 0, kind := .rd } : Req)) ∧ (({ id := 2, head := 0, tag := 2, ld := 0, dpa := 0, owner := 0, kind := .rd } : Req)).kind = .rd ∧ (({ id := 2, head := 0, tag := 2, ld := 0, dpa := 0, owner := 0, kind := .rd } : Req)).head = 0 ∧ ((mapped.modTxn 0 (fun x => { x with tracker := [{ id := 2, head := 0, tag := 2, ld := 0, dpa := 0, owner := 0, kind := .rd }] })).head 0).drs = none) ∧
    (0 < 8 ∧ (mapped.modTxn 0 (fun x => { x with tracker := [{ id := 2, head := 0, tag := 2, ld := 0, dpa := 0, owner := 0, kind := .wr }], hazWait := [(0, { id := 2, head := 0, tag := 2, ld := 0, dpa := 0, owner := 0, kind := .wr })] })).memLink 0 = true ∧ (mapped.modTxn 0 (fun x => { x with tracker := [{ id := 2, head := 0, tag := 2, ld := 0, dpa := 0, owner := 0, kind := .wr }], hazWait := [(0, { id := 2, head := 0, tag := 2, ld := 0, dpa := 0, owner := 0, kind := .wr })] })).trk 0 2 = some (({ id := 2, head := 0, tag := 2, ld := 0, dpa := 0, owner := 0, kind := .wr } : Req)) ∧ (((({ id := 2, head := 0, tag := 2, ld := 0, dpa := 0, owner := 0, kind := .wr } : Req)).kind = .wr ∨ (({ id := 2, head := 0, tag := 2, ld := 0, dpa := 0, owner := 0, kind := .wr } : Req)).kind = .ptl)) ∧ (({ id := 2, head := 0, tag := 2, ld := 0, dpa := 0, owner := 0, kind := .wr } : Req)).head = 0 ∧ (({ id := 2, head := 0, tag := 2, ld := 0, dpa := 0, owner := 0, kind := .wr } : Req)).id = 2 ∧ (mapped.modTxn 0 (fun x => { x with tracker := [{ id := 2, head := 0, tag := 2, ld := 0, dpa := 0, owner := 0, kind := .wr }], hazWait := [(0, { id := 2, head := 0, tag := 2, ld := 0, dpa := 0, owner := 0, kind := .wr })] })).notStored (({ id := 2, head := 0, tag := 2, ld := 0, dpa := 0, owner := 0, kind := .wr } : Req)) = true) ∧
    (0 < 8 ∧ 0 < 2 ∧ (((linked 0).modHead 0 (fun d => { d with devLoadAcc := (2, 3) })).head 0).devLoadAcc = (2, 3)) ∧
    (0 < 8 ∧ ((linked 0).head 0).devLoadAcc.1 = 0) := by
  repeat' apply And.intro
  all_goals decide +kernel

/-- States and operands that meet the hypotheses of each clause of FramesAndCommits. -/
theorem witness_FramesAndCommits :
    (mapped.alive 0 = true ∧ 0 < 8 ∧ 1 ≠ 0 ∧ (mapped.tile 0).fs.frames.any (fun e => e.2.countsDirty && e.2.epoch == ((mapped.tile 0).fs.epoch + 1) % 8) = false) ∧
    (((mapped.modFs 0 (fun g => { g with epoch := 7 })).tile 0).fs.frames.any (fun e => e.2.countsDirty && e.2.epoch == (((mapped.modFs 0 (fun g => { g with epoch := 7 })).tile 0).fs.epoch + 1) % 8) = true) ∧
    (full.md.operating = true ∧ full.noWork = true ∧ full.chooseCommit 0 = some 0 ∧ full.commitFree 0 0 = true ∧ full.noneWait 0 = true ∧ (full.frame 0 0).valid = allLines ∧ 1 ≠ 0 ∧ 1 ≠ 0) ∧
    ((mapped.modFs 0 (fun g => { g with epoch := 6 })).md.operating = true ∧ (mapped.modFs 0 (fun g => { g with epoch := 6 })).noWork = true ∧ (mapped.modFs 0 (fun g => { g with epoch := 6 })).chooseCommit 0 = some 0 ∧ (mapped.modFs 0 (fun g => { g with epoch := 6 })).commitFree 0 0 = true ∧ (mapped.modFs 0 (fun g => { g with epoch := 6 })).noneWait 0 = true ∧ ((mapped.modFs 0 (fun g => { g with epoch := 6 })).frame 0 0).valid ≠ allLines ∧ 1 ≠ 0 ∧ 1 ≠ 0) ∧
    (full.md.operating = true ∧ full.noWork = true ∧ full.chooseCommit 0 = some 0 ∧ full.commitFree 0 0 = true ∧ full.noneWait 0 = true ∧ (full.frame 0 0).valid = allLines ∧ 5 < 64) ∧
    ((frameIs { st := .filling, seg := 0, valid := 1, dirty := 1, fillMask := 2, lines := [(0, 7)] }).alive 0 = true ∧ 0 < 8 ∧ (frameIs { st := .filling, seg := 0, valid := 1, dirty := 1, fillMask := 2, lines := [(0, 7)] }).noWork = true ∧ bitOf (frameIs { st := .filling, seg := 0, valid := 1, dirty := 1, fillMask := 2, lines := [(0, 7)] }).md.sealed 0 = false ∧ ((frameIs { st := .filling, seg := 0, valid := 1, dirty := 1, fillMask := 2, lines := [(0, 7)] }).tile 0).txn.haz = [] ∧ (frameIs { st := .filling, seg := 0, valid := 1, dirty := 1, fillMask := 2, lines := [(0, 7)] }).car.reads = [] ∧ ((frameIs { st := .filling, seg := 0, valid := 1, dirty := 1, fillMask := 2, lines := [(0, 7)] }).tile 0).fs.lineFlips = [] ∧ ((frameIs { st := .filling, seg := 0, valid := 1, dirty := 1, fillMask := 2, lines := [(0, 7)] }).frame 0 0).st = .filling ∧ ((frameIs { st := .filling, seg := 0, valid := 1, dirty := 1, fillMask := 2, lines := [(0, 7)] }).frame 0 0).commitFill = false ∧ ((frameIs { st := .filling, seg := 0, valid := 1, dirty := 1, fillMask := 2, lines := [(0, 7)] }).frame 0 0).dirty ≠ 0 ∧ ((frameIs { st := .filling, seg := 0, valid := 1, dirty := 1, fillMask := 2, lines := [(0, 7)] }).frame 0 0).fillMask ≠ 0 ∧ ((frameIs { st := .filling, seg := 0, valid := 1, dirty := 1, fillMask := 2, lines := [(0, 7)] }).mapOf 0 ((frameIs { st := .filling, seg := 0, valid := 1, dirty := 1, fillMask := 2, lines := [(0, 7)] }).frame 0 0).seg).st = .never ∧ (frameIs { st := .filling, seg := 0, valid := 1, dirty := 1, fillMask := 2, lines := [(0, 7)] }).unrejoined 0 ((frameIs { st := .filling, seg := 0, valid := 1, dirty := 1, fillMask := 2, lines := [(0, 7)] }).frame 0 0).seg = false ∧ 1 < 64 ∧ 1 ≠ 0) ∧
    ((frameIs { st := .filling, seg := 0, valid := 1, dirty := 1, fillMask := allLines - 1, commitFill := true, lines := [(0, 7)] }).alive 0 = true ∧ 0 < 8 ∧ (frameIs { st := .filling, seg := 0, valid := 1, dirty := 1, fillMask := allLines - 1, commitFill := true, lines := [(0, 7)] }).noWork = true ∧ ((frameIs { st := .filling, seg := 0, valid := 1, dirty := 1, fillMask := allLines - 1, commitFill := true, lines := [(0, 7)] }).tile 0).txn.haz = [] ∧ (frameIs { st := .filling, seg := 0, valid := 1, dirty := 1, fillMask := allLines - 1, commitFill := true, lines := [(0, 7)] }).car.reads = [] ∧ ((frameIs { st := .filling, seg := 0, valid := 1, dirty := 1, fillMask := allLines - 1, commitFill := true, lines := [(0, 7)] }).tile 0).fs.lineFlips = [] ∧ ((frameIs { st := .filling, seg := 0, valid := 1, dirty := 1, fillMask := allLines - 1, commitFill := true, lines := [(0, 7)] }).frame 0 0).st = .filling ∧ ((frameIs { st := .filling, seg := 0, valid := 1, dirty := 1, fillMask := allLines - 1, commitFill := true, lines := [(0, 7)] }).frame 0 0).commitFill = true ∧ ((frameIs { st := .filling, seg := 0, valid := 1, dirty := 1, fillMask := allLines - 1, commitFill := true, lines := [(0, 7)] }).frame 0 0).dirty ≠ 0 ∧ ((frameIs { st := .filling, seg := 0, valid := 1, dirty := 1, fillMask := allLines - 1, commitFill := true, lines := [(0, 7)] }).frame 0 0).fillMask ≠ 0 ∧ ((frameIs { st := .filling, seg := 0, valid := 1, dirty := 1, fillMask := allLines - 1, commitFill := true, lines := [(0, 7)] }).mapOf 0 ((frameIs { st := .filling, seg := 0, valid := 1, dirty := 1, fillMask := allLines - 1, commitFill := true, lines := [(0, 7)] }).frame 0 0).seg).st = .never ∧ (frameIs { st := .filling, seg := 0, valid := 1, dirty := 1, fillMask := allLines - 1, commitFill := true, lines := [(0, 7)] }).unrejoined 0 ((frameIs { st := .filling, seg := 0, valid := 1, dirty := 1, fillMask := allLines - 1, commitFill := true, lines := [(0, 7)] }).frame 0 0).seg = false ∧ (frameIs { st := .filling, seg := 0, valid := 1, dirty := 1, fillMask := allLines - 1, commitFill := true, lines := [(0, 7)] }).commitOf 0 ((frameIs { st := .filling, seg := 0, valid := 1, dirty := 1, fillMask := allLines - 1, commitFill := true, lines := [(0, 7)] }).frame 0 0).seg = none ∧ 1 ≠ 0) ∧
    ((committed 0).alive 0 = true ∧ 0 < 8 ∧ (committed 0).noWork = true ∧ ((committed 0).tile 0).txn.haz = [] ∧ (committed 0).md.mode ≠ .holdup ∧ ((committed 0).tile 0).xl.commits = [(({ job := .host 0, seg := 0, page := { kind := .host }, step := .done } : Commit))] ∧ (({ job := .host 0, seg := 0, page := { kind := .host }, step := .done } : Commit)).seg = ((committed 0).frame 0 0).seg ∧ (({ job := .host 0, seg := 0, page := { kind := .host }, step := .done } : Commit)).job = .host 0 ∧ (({ job := .host 0, seg := 0, page := { kind := .host }, step := .done } : Commit)).step = .done ∧ ((committed 0).frame 0 0).st = .writing ∧ ((committed 0).frame 0 0).dirty = 0 ∧ ((committed 0).tile 0).fs.mode = .enabled ∧ ((committed 0).tile 0).fs.withdrawn.contains 0 = false ∧ 1 ≠ 0) ∧
    ((committed 1).alive 0 = true ∧ 0 < 8 ∧ (committed 1).noWork = true ∧ ((committed 1).tile 0).txn.haz = [] ∧ (committed 1).md.mode ≠ .holdup ∧ ((committed 1).tile 0).xl.commits = [(({ job := .host 0, seg := 0, page := { kind := .host }, step := .done } : Commit))] ∧ (({ job := .host 0, seg := 0, page := { kind := .host }, step := .done } : Commit)).seg = ((committed 1).frame 0 0).seg ∧ (({ job := .host 0, seg := 0, page := { kind := .host }, step := .done } : Commit)).job = .host 0 ∧ (({ job := .host 0, seg := 0, page := { kind := .host }, step := .done } : Commit)).step = .done ∧ ((committed 1).frame 0 0).st = .writing ∧ ((committed 1).frame 0 0).dirty ≠ 0 ∧ bitOf (committed 1).md.sealed 0 = false ∧ 1 ≠ 0) ∧
    ((mapped.modTxn 0 (fun x => { x with locks := [4] })).alive 0 = true ∧ 0 < 8 ∧ (mapped.modTxn 0 (fun x => { x with locks := [4] })).noWork = true ∧ ((mapped.modTxn 0 (fun x => { x with locks := [4] })).tile 0).txn.haz = [] ∧ ((mapped.modTxn 0 (fun x => { x with locks := [4] })).tile 0).txn.locks.contains 4 = true ∧ (mapped.modTxn 0 (fun x => { x with locks := [4] })).commitOf 0 4 = none) ∧
    (mapped.noWork = true ∧ agetD 0 0 (mapped.tile 0).fs.tagFlips = 0) ∧
    ((mapped.setReg Reg.FS_CTL 1#32).alive 0 = true ∧ 0 < 8 ∧ (mapped.setReg Reg.FS_CTL 1#32).noWork = true ∧ (mapped.setReg Reg.FS_CTL 1#32).regBit Reg.FS_CTL 0 = true ∧ 0 < 1 ∧ 1 < 2 ^ 36 ∧ ((mapped.setReg Reg.FS_CTL 1#32).tile 0).fs.tagFlips = [] ∧ (mapped.setReg Reg.FS_CTL 1#32).tagWrong (Nat.xor ((mapped.setReg Reg.FS_CTL 1#32).tagWord 0 0) 1) = true ∧ agetD (65 * 0 + 64) 0 ((mapped.setReg Reg.FS_CTL 1#32).tile 0).fs.lineFlips = 0) := by
  repeat' apply And.intro
  all_goals decide +kernel

/-- States and operands that meet the hypotheses of each clause of FrontStoreCommands. -/
theorem witness_FrontStoreCommands :
    (serve.accepts pc0 0x0100 false = true ∧ serve.md.operating = true ∧ serve.noWork = true ∧ serve.flushList [(0, serve.segs * serve.pop.tiles)] = []) ∧
    (full.accepts pc0 0x0100 false = true ∧ full.md.operating = true ∧ full.noWork = true ∧ full.flushList [(0, full.segs * full.pop.tiles)] = [(0, (full.frame 0 0).seg, 1)] ∧ full.findFrame 0 (full.frame 0 0).seg = some 0 ∧ full.commitFree 0 0 = true ∧ (full.frame 0 0).valid = allLines ∧ 1 ≠ 0) ∧
    (full.accepts pc0 0x0101 false = true ∧ full.ringPriv pc0.ring = true ∧ full.md.operating = true ∧ full.noWork = true ∧ 0 % 4096 = 0 ∧ 4096 % 4096 = 0 ∧ 0 < 4096 ∧ 0 + 4096 ≤ full.pkgBlocks * 2 ^ 28 ∧ full.flushList [(0 / 4096, 4096 / 4096)] = [(0, (full.frame 0 0).seg, 1)] ∧ full.findFrame 0 (full.frame 0 0).seg = some 0 ∧ full.commitFree 0 0 = true ∧ (full.frame 0 0).valid = allLines ∧ 1 ≠ 0) ∧
    (full.accepts pc0 0x0101 false = true ∧ full.ringPriv pc0.ring = true ∧ full.md.operating = true ∧ full.presents (full.ring pc0.ring).head 0 = true) ∧
    ((frameIs { st := .clean, seg := 0, valid := 1 }).accepts pc0 0x0102 true = true ∧ (frameIs { st := .clean, seg := 0, valid := 1 }).md.sdService = true ∧ (frameIs { st := .clean, seg := 0, valid := 1 }).noWork = true ∧ 0 % 4096 = 0 ∧ 4096 % 4096 = 0 ∧ 0 < 4096 ∧ 0 + 4096 ≤ (frameIs { st := .clean, seg := 0, valid := 1 }).pkgBlocks * 2 ^ 28 ∧ 0 < 8 ∧ ((frameIs { st := .clean, seg := 0, valid := 1 }).aliveTiles.map (fun t => ((frameIs { st := .clean, seg := 0, valid := 1 }).spanFrames t [(0 / 4096, 4096 / 4096)]).map (fun e => (t, e.2, 0)))).flatten = [(0, ((frameIs { st := .clean, seg := 0, valid := 1 }).frame 0 0).seg, 0)] ∧ (frameIs { st := .clean, seg := 0, valid := 1 }).findFrame 0 ((frameIs { st := .clean, seg := 0, valid := 1 }).frame 0 0).seg = some 0 ∧ ((frameIs { st := .clean, seg := 0, valid := 1 }).frame 0 0).st = .clean ∧ 1 ≠ 0) ∧
    ((fsAll .disabled).accepts pc0 0x0103 true = true ∧ (fsAll .disabled).md.sdService = true ∧ (fsAll .disabled).md.sealed = 0 ∧ (fsAll .disabled).jobs.fsDisable = none ∧ (fsAll .disabled).aliveTiles.all (fun t => ((fsAll .disabled).tile t).fs.mode == .disabled) = true) ∧
    (mapped.accepts pc0 0x0103 true = true ∧ mapped.md.sdService = true ∧ mapped.md.sealed = 0 ∧ mapped.jobs.fsDisable = none ∧ mapped.aliveTiles.contains 0 = true ∧ 0 < 8 ∧ (mapped.tile 0).fs.mode = .enabled) ∧
    (((frameIs { st := .clean, seg := 0, valid := 1 }).modFs 0 (fun g => { g with mode := .draining })).alive 0 = true ∧ 0 < 8 ∧ (((frameIs { st := .clean, seg := 0, valid := 1 }).modFs 0 (fun g => { g with mode := .draining })).tile 0).fs.mode = .draining ∧ (((frameIs { st := .clean, seg := 0, valid := 1 }).modFs 0 (fun g => { g with mode := .draining })).tile 0).fs.drain.any (fun d => (((frameIs { st := .clean, seg := 0, valid := 1 }).modFs 0 (fun g => { g with mode := .draining })).frame 0 d).countsDirty) = false ∧ aget 0 (((frameIs { st := .clean, seg := 0, valid := 1 }).modFs 0 (fun g => { g with mode := .draining })).tile 0).fs.frames = some (((frameIs { st := .clean, seg := 0, valid := 1 }).modFs 0 (fun g => { g with mode := .draining })).frame 0 0) ∧ (((frameIs { st := .clean, seg := 0, valid := 1 }).modFs 0 (fun g => { g with mode := .draining })).tile 0).fs.frames.length = 1) ∧
    ((((oneTile.modFs 0 (fun g => { g with mode := .draining })).modJobs (fun j => { j with fsDisable := some (0, 7) })).modRing 0 (fun g => { g with execs := [{ cid := 7, opcode := 0x0103 }] })).aliveTiles = [0] ∧ 0 < 8 ∧ ((((oneTile.modFs 0 (fun g => { g with mode := .draining })).modJobs (fun j => { j with fsDisable := some (0, 7) })).modRing 0 (fun g => { g with execs := [{ cid := 7, opcode := 0x0103 }] })).tile 0).fs.mode = .draining ∧ ((((oneTile.modFs 0 (fun g => { g with mode := .draining })).modJobs (fun j => { j with fsDisable := some (0, 7) })).modRing 0 (fun g => { g with execs := [{ cid := 7, opcode := 0x0103 }] })).tile 0).fs.drain.any (fun d => ((((oneTile.modFs 0 (fun g => { g with mode := .draining })).modJobs (fun j => { j with fsDisable := some (0, 7) })).modRing 0 (fun g => { g with execs := [{ cid := 7, opcode := 0x0103 }] })).frame 0 d).countsDirty) = false ∧ (((oneTile.modFs 0 (fun g => { g with mode := .draining })).modJobs (fun j => { j with fsDisable := some (0, 7) })).modRing 0 (fun g => { g with execs := [{ cid := 7, opcode := 0x0103 }] })).jobs.fsDisable = some (0, 7) ∧ 0 < 64 ∧ ((((oneTile.modFs 0 (fun g => { g with mode := .draining })).modJobs (fun j => { j with fsDisable := some (0, 7) })).modRing 0 (fun g => { g with execs := [{ cid := 7, opcode := 0x0103 }] })).ring 0).execs = [{ cid := 7, opcode := 0x0103 }]) ∧
    ((fsAll .disabled).accepts pc0 0x0104 true = true ∧ (fsAll .disabled).md.sdService = true ∧ (fsAll .disabled).jobs.fsDisable = none ∧ (fsAll .disabled).jobs.waysNext = (fsAll .disabled).jobs.ways ∧ (fsAll .disabled).aliveTiles.contains 0 = true ∧ ((fsAll .disabled).tile 0).fs.mode = .disabled) ∧
    (serve.accepts pc0 0x0104 true = true ∧ serve.md.sdService = true ∧ serve.jobs.fsDisable = none ∧ serve.aliveTiles.all (fun t => (serve.tile t).fs.mode == .enabled) = true) ∧
    (((serve.modFs 0 (fun g => { g with waysWait := true })).modJobs (fun j => { j with waysNext := 3, fsEnable := some (0, 7) })).aliveTiles.contains 0 = true ∧ 0 < 8 ∧ (((serve.modFs 0 (fun g => { g with waysWait := true })).modJobs (fun j => { j with waysNext := 3, fsEnable := some (0, 7) })).tile 0).fs.waysWait = true ∧ (((serve.modFs 0 (fun g => { g with waysWait := true })).modJobs (fun j => { j with waysNext := 3, fsEnable := some (0, 7) })).tile 0).fs.frames = [] ∧ ((serve.modFs 0 (fun g => { g with waysWait := true })).modJobs (fun j => { j with waysNext := 3, fsEnable := some (0, 7) })).aliveTiles.all (fun u => u == 0 || !(((serve.modFs 0 (fun g => { g with waysWait := true })).modJobs (fun j => { j with waysNext := 3, fsEnable := some (0, 7) })).tile u).fs.waysWait) = true) ∧
    (((fsAll .disabled).modMd (fun d => { d with mode := .service })).accepts pc0 0x0105 true = true ∧ ((fsAll .disabled).modMd (fun d => { d with mode := .service })).md.inService = true ∧ 1 < 4 ∧ ((fsAll .disabled).modMd (fun d => { d with mode := .service })).aliveTiles.all (fun t => (((fsAll .disabled).modMd (fun d => { d with mode := .service })).tile t).fs.mode == .disabled) = true) ∧
    ((inMode .service).accepts pc0 0x0105 true = true ∧ (inMode .service).md.inService = true ∧ (inMode .service).aliveTiles.contains 0 = true ∧ ((inMode .service).tile 0).fs.mode ≠ .disabled) ∧
    (serve.accepts pc0 0x0106 true = true ∧ serve.md.operating = true ∧ 0 < serve.pop.tiles ∧ 0 < 8 ∧ serve.present.filter (bitOf (2 ^ 0)) = [0]) := by
  repeat' apply And.intro
  all_goals decide +kernel

/-- States and operands that meet the hypotheses of each clause of MediaChannels. -/
theorem witness_MediaChannels :
    ((chanIs (fun c => { c with last := some (0, .status), rejects := 1 })).alive 3 = true ∧ 3 < 8 ∧ 2 < 8 ∧ ((chanIs (fun c => { c with last := some (0, .status), rejects := 1 })).chan 3 2).st = 2 ∧ ((chanIs (fun c => { c with last := some (0, .status), rejects := 1 })).chan 3 2).caWait = false ∧ ((chanIs (fun c => { c with last := some (0, .status), rejects := 1 })).chan 3 2).last = some (0, CaCmd.status) ∧ ((chanIs (fun c => { c with last := some (0, .status), rejects := 1 })).chan 3 2).rejects < 2) ∧
    ((chanIs (fun c => { c with last := some (0, .status), rejects := 2, ranks := 3 })).alive 3 = true ∧ 3 < 8 ∧ 2 < 8 ∧ ((chanIs (fun c => { c with last := some (0, .status), rejects := 2, ranks := 3 })).chan 3 2).st = 2 ∧ ((chanIs (fun c => { c with last := some (0, .status), rejects := 2, ranks := 3 })).chan 3 2).caWait = false ∧ ((chanIs (fun c => { c with last := some (0, .status), rejects := 2, ranks := 3 })).chan 3 2).last = some (0, CaCmd.status) ∧ ((chanIs (fun c => { c with last := some (0, .status), rejects := 2, ranks := 3 })).chan 3 2).rejects = 2 ∧ 1 < 4 ∧ bitOf ((chanIs (fun c => { c with last := some (0, .status), rejects := 2, ranks := 3 })).chan 3 2).ranks 1 = true) ∧
    ((chanIs (fun c => { c with caWait := true, last := some (0, .status) })).alive 3 = true ∧ 3 < 8 ∧ 2 < 8 ∧ ((chanIs (fun c => { c with caWait := true, last := some (0, .status) })).chan 3 2).st = 2 ∧ ((chanIs (fun c => { c with caWait := true, last := some (0, .status) })).chan 3 2).caWait = true ∧ ((chanIs (fun c => { c with caWait := true, last := some (0, .status) })).chan 3 2).reads = [] ∧ (chanIs (fun c => { c with caWait := true, last := some (0, .status) })).noneWait 3 = true ∧ ((chanIs (fun c => { c with caWait := true, last := some (0, .status) })).chan 3 2).last = some (0, CaCmd.status)) ∧
    ((chanIs (fun c => { c with trainTemp := some 40, temp := some (50, 0), ranks := 1 })).alive 3 = true ∧ 3 < 8 ∧ 2 < 8 ∧ ((chanIs (fun c => { c with trainTemp := some 40, temp := some (50, 0), ranks := 1 })).chan 3 2).st = 2 ∧ ((chanIs (fun c => { c with trainTemp := some 40, temp := some (50, 0), ranks := 1 })).chan 3 2).caWait = false ∧ (chanIs (fun c => { c with trainTemp := some 40, temp := some (50, 0), ranks := 1 })).retrainDt 3 = some 10 ∧ ((chanIs (fun c => { c with trainTemp := some 40, temp := some (50, 0), ranks := 1 })).chan 3 2).trainTemp = some 40 ∧ ((chanIs (fun c => { c with trainTemp := some 40, temp := some (50, 0), ranks := 1 })).chTemp 3 2).1 = 50 ∧ 10 ≤ (50 - 40 : Int).natAbs ∧ 0 < 4 ∧ bitOf ((chanIs (fun c => { c with trainTemp := some 40, temp := some (50, 0), ranks := 1 })).chan 3 2).ranks 0 = true) ∧
    ((chanIs (fun c => { c with ranks := 1 })).alive 3 = true ∧ 3 < 8 ∧ 2 < 8 ∧ ((chanIs (fun c => { c with ranks := 1 })).chan 3 2).st = 2 ∧ bitOf ((chanIs (fun c => { c with ranks := 1 })).chan 3 2).ranks 0 = true) ∧
    (suspending.alive 3 = true ∧ 3 < 8 ∧ 2 < 8 ∧ suspending.noWork = true ∧ (suspending.chan 3 2).st = 2 ∧ bitOf (suspending.chan 3 2).ranks 0 = true ∧ (suspending.chan 3 2).ops = [(({ loc := page2, job := .host 0 } : MedOp))] ∧ (suspending.chan 3 2).reads = [(({ id := 1, loc := page2 + 1, line := 0, st := .suspend } : MedRead))] ∧ locRank (({ loc := page2, job := .host 0 } : MedOp)).loc = 0 ∧ planeNo (({ id := 1, loc := page2 + 1, line := 0, st := .suspend } : MedRead)).loc = planeNo (({ loc := page2, job := .host 0 } : MedOp)).loc ∧ (({ id := 1, loc := page2 + 1, line := 0, st := .suspend } : MedRead)).st = .suspend ∧ (({ loc := page2, job := .host 0 } : MedOp)).job ≠ .clear ∧ (({ loc := page2, job := .host 0 } : MedOp)).susp = false ∧ (suspending.chan 3 2).doneSeen = [] ∧ ([10, 10, 10, 10, 10 + 2 ^ 16, 10, 10, 10, 10]).length = 9 ∧ ([10, 10, 10, 10, 10 + 2 ^ 16, 10, 10, 10, 10]).all (fun w => replySig w == 0xA && replyDone w == 0) = true ∧ 4 < 9 ∧ bitOf (agetD 0 0 (suspending.chan 3 2).dead) 4 = false ∧ bitOf (replyProgSusp (([10, 10, 10, 10, 10 + 2 ^ 16, 10, 10, 10, 10]).getD 4 0)) (locPlane (({ loc := page2, job := .host 0 } : MedOp)).loc) = true) ∧
    ((chanIs (fun c => { c with ranks := 1, sigBad := [(4, 2)] })).alive 3 = true ∧ 3 < 8 ∧ 2 < 8 ∧ ((chanIs (fun c => { c with ranks := 1, sigBad := [(4, 2)] })).chan 3 2).st = 2 ∧ bitOf ((chanIs (fun c => { c with ranks := 1, sigBad := [(4, 2)] })).chan 3 2).ranks 0 = true ∧ 4 < 9 ∧ agetD 0 0 ((chanIs (fun c => { c with ranks := 1, sigBad := [(4, 2)] })).chan 3 2).dead = 0 ∧ agetD (9 * 0 + 4) 0 ((chanIs (fun c => { c with ranks := 1, sigBad := [(4, 2)] })).chan 3 2).sigBad = 2 ∧ ([10, 10, 10, 10, 11, 10, 10, 10, 10]).length = 9 ∧ (List.range 9).all (fun d => (replySig (([10, 10, 10, 10, 11, 10, 10, 10, 10]).getD d 0) == 0xA) != (d == 4) && replyDone (([10, 10, 10, 10, 11, 10, 10, 10, 10]).getD d 0) == 0) = true ∧ ((chanIs (fun c => { c with ranks := 1, sigBad := [(4, 2)] })).chan 3 2).doneSeen = []) ∧
    ((chanIs (fun c => { c with ranks := 1, ops := [{ loc := page2 + 3, job := .calib 0, page := some { kind := .calibration } }] })).alive 3 = true ∧ 3 < 8 ∧ 2 < 8 ∧ (chanIs (fun c => { c with ranks := 1, ops := [{ loc := page2 + 3, job := .calib 0, page := some { kind := .calibration } }] })).noWork = true ∧ ((chanIs (fun c => { c with ranks := 1, ops := [{ loc := page2 + 3, job := .calib 0, page := some { kind := .calibration } }] })).chan 3 2).st = 2 ∧ bitOf ((chanIs (fun c => { c with ranks := 1, ops := [{ loc := page2 + 3, job := .calib 0, page := some { kind := .calibration } }] })).chan 3 2).ranks 0 = true ∧ ((chanIs (fun c => { c with ranks := 1, ops := [{ loc := page2 + 3, job := .calib 0, page := some { kind := .calibration } }] })).chan 3 2).ops = [(({ loc := page2 + 3, job := .calib 0, page := some { kind := .calibration } } : MedOp))] ∧ locCh (({ loc := page2 + 3, job := .calib 0, page := some { kind := .calibration } } : MedOp)).loc = 2 ∧ locRank (({ loc := page2 + 3, job := .calib 0, page := some { kind := .calibration } } : MedOp)).loc = 0 ∧ (({ loc := page2 + 3, job := .calib 0, page := some { kind := .calibration } } : MedOp)).job = .calib 0 ∧ (({ loc := page2 + 3, job := .calib 0, page := some { kind := .calibration } } : MedOp)).page = some (({ kind := .calibration } : Page)) ∧ (({ loc := page2 + 3, job := .calib 0, page := some { kind := .calibration } } : MedOp)).susp = false ∧ ((chanIs (fun c => { c with ranks := 1, ops := [{ loc := page2 + 3, job := .calib 0, page := some { kind := .calibration } }] })).tile 3).xl.commits = [] ∧ ((chanIs (fun c => { c with ranks := 1, ops := [{ loc := page2 + 3, job := .calib 0, page := some { kind := .calibration } }] })).chan 3 2).doneSeen = [] ∧ agetD 0 0 ((chanIs (fun c => { c with ranks := 1, ops := [{ loc := page2 + 3, job := .calib 0, page := some { kind := .calibration } }] })).chan 3 2).dead = 0 ∧ (List.replicate 9 (10 + 2 ^ 24)).length = 9 ∧ (List.replicate 9 (10 + 2 ^ 24)).all (fun w => replySig w == 0xA && replyDone w == 2 ^ locPlane (({ loc := page2 + 3, job := .calib 0, page := some { kind := .calibration } } : MedOp)).loc && replyFail w == 0) = true ∧ page2 ≠ (({ loc := page2 + 3, job := .calib 0, page := some { kind := .calibration } } : MedOp)).loc) ∧
    (suspending.alive 3 = true ∧ 3 < 8 ∧ 2 < 8 ∧ (suspending.chan 3 2).ops = [(({ loc := page2, job := .host 0 } : MedOp))] ∧ (suspending.chan 3 2).reads = [(({ id := 1, loc := page2 + 1, line := 0, st := .suspend } : MedRead))] ∧ planeNo (({ id := 1, loc := page2 + 1, line := 0, st := .suspend } : MedRead)).loc = planeNo (({ loc := page2, job := .host 0 } : MedOp)).loc ∧ locCh (({ id := 1, loc := page2 + 1, line := 0, st := .suspend } : MedRead)).loc = 2 ∧ (({ id := 1, loc := page2 + 1, line := 0, st := .suspend } : MedRead)).st = .suspend ∧ (({ loc := page2, job := .host 0 } : MedOp)).susp = false ∧ (suspending.chan 3 2).caWait = false) ∧
    (suspending.alive 3 = true ∧ 3 < 8 ∧ 2 < 8 ∧ (suspending.chan 3 2).ops = [(({ loc := page2, job := .host 0 } : MedOp))] ∧ (suspending.chan 3 2).reads = [(({ id := 1, loc := page2 + 1, line := 0, st := .suspend } : MedRead))] ∧ ((suspending.tile 3).med.chans.toList.map (·.reads)).flatten = [(({ id := 1, loc := page2 + 1, line := 0, st := .suspend } : MedRead))] ∧ planeNo (({ id := 1, loc := page2 + 1, line := 0, st := .suspend } : MedRead)).loc = planeNo (({ loc := page2, job := .host 0 } : MedOp)).loc ∧ locCh (({ id := 1, loc := page2 + 1, line := 0, st := .suspend } : MedRead)).loc = 2 ∧ (({ id := 1, loc := page2 + 1, line := 0, st := .suspend } : MedRead)).st = .suspend ∧ (({ loc := page2, job := .host 0 } : MedOp)).susp = false ∧ (suspending.chan 3 2).caWait = false) ∧
    ((chanIs (fun c => { c with ops := [{ loc := page2, job := .host 0, susp := true }] })).alive 3 = true ∧ 3 < 8 ∧ ((chanIs (fun c => { c with ops := [{ loc := page2, job := .host 0, susp := true }] })).chan 3 (locCh (({ loc := page2, job := .host 0, susp := true } : MedOp)).loc)).ops = [(({ loc := page2, job := .host 0, susp := true } : MedOp))] ∧ ((chanIs (fun c => { c with ops := [{ loc := page2, job := .host 0, susp := true }] })).chan 3 (locCh (({ loc := page2, job := .host 0, susp := true } : MedOp)).loc)).reads = [] ∧ ((chanIs (fun c => { c with ops := [{ loc := page2, job := .host 0, susp := true }] })).chan 3 (locCh (({ loc := page2, job := .host 0, susp := true } : MedOp)).loc)).caWait = false ∧ (({ loc := page2, job := .host 0, susp := true } : MedOp)).susp = true ∧ (({ loc := page2, job := .host 0, susp := true } : MedOp)).job ≠ .clear ∧ (({ loc := page2, job := .host 0, susp := true } : MedOp)).suspUs + 40 ≤ 1000) ∧
    ((chanIs (fun c => { c with ops := [{ loc := page2, job := .host 0, susp := true }] })).alive 3 = true ∧ 3 < 8 ∧ ((chanIs (fun c => { c with ops := [{ loc := page2, job := .host 0, susp := true }] })).chan 3 (locCh (({ loc := page2, job := .host 0, susp := true } : MedOp)).loc)).ops = [(({ loc := page2, job := .host 0, susp := true } : MedOp))] ∧ ((chanIs (fun c => { c with ops := [{ loc := page2, job := .host 0, susp := true }] })).chan 3 (locCh (({ loc := page2, job := .host 0, susp := true } : MedOp)).loc)).reads = [] ∧ ((chanIs (fun c => { c with ops := [{ loc := page2, job := .host 0, susp := true }] })).chan 3 (locCh (({ loc := page2, job := .host 0, susp := true } : MedOp)).loc)).caWait = false ∧ (({ loc := page2, job := .host 0, susp := true } : MedOp)).susp = true ∧ (({ loc := page2, job := .host 0, susp := true } : MedOp)).job ≠ .clear ∧ (({ loc := page2, job := .host 0, susp := true } : MedOp)).stretched = false ∧ 1000 < (({ loc := page2, job := .host 0, susp := true } : MedOp)).suspUs + 1001) ∧
    ((((sector 1).modCh 3 2 (fun c => { c with ops := [{ loc := page2, job := .clear, susp := true }] })).modXl 3 (fun x => { x with blocks := [(locBlk page2, { st := .pending })] })).alive 3 = true ∧ 3 < 8 ∧ ((((sector 1).modCh 3 2 (fun c => { c with ops := [{ loc := page2, job := .clear, susp := true }] })).modXl 3 (fun x => { x with blocks := [(locBlk page2, { st := .pending })] })).chan 3 (locCh (({ loc := page2, job := .clear, susp := true } : MedOp)).loc)).ops = [(({ loc := page2, job := .clear, susp := true } : MedOp))] ∧ ((((sector 1).modCh 3 2 (fun c => { c with ops := [{ loc := page2, job := .clear, susp := true }] })).modXl 3 (fun x => { x with blocks := [(locBlk page2, { st := .pending })] })).chan 3 (locCh (({ loc := page2, job := .clear, susp := true } : MedOp)).loc)).reads = [] ∧ ((((sector 1).modCh 3 2 (fun c => { c with ops := [{ loc := page2, job := .clear, susp := true }] })).modXl 3 (fun x => { x with blocks := [(locBlk page2, { st := .pending })] })).chan 3 (locCh (({ loc := page2, job := .clear, susp := true } : MedOp)).loc)).caWait = false ∧ (({ loc := page2, job := .clear, susp := true } : MedOp)).susp = true ∧ (({ loc := page2, job := .clear, susp := true } : MedOp)).job = .clear ∧ (((sector 1).modCh 3 2 (fun c => { c with ops := [{ loc := page2, job := .clear, susp := true }] })).modXl 3 (fun x => { x with blocks := [(locBlk page2, { st := .pending })] })).md.mode ≠ .holdup ∧ (((sector 1).modCh 3 2 (fun c => { c with ops := [{ loc := page2, job := .clear, susp := true }] })).modXl 3 (fun x => { x with blocks := [(locBlk page2, { st := .pending })] })).clearMay 3 (({ loc := page2, job := .clear, susp := true } : MedOp)) = some false ∧ (({ loc := page2, job := .clear, susp := true } : MedOp)).suspUs + 40 ≤ 60000) ∧
    (reading.alive 3 = true ∧ 3 < 8 ∧ ((reading.tile 3).med.chans.toList.map (·.reads)).flatten = [(({ id := 1, loc := page2, line := 0, st := .array } : MedRead))] ∧ (({ id := 1, loc := page2, line := 0, st := .array } : MedRead)).st = .array ∧ (reading.chan 3 (locCh (({ id := 1, loc := page2, line := 0, st := .array } : MedRead)).loc)).reads = [(({ id := 1, loc := page2, line := 0, st := .array } : MedRead))] ∧ (reading.tile 3).txn.haz = [(({ req := { id := 1, head := 3, tag := 9, ld := 0, dpa := 0, owner := 3, kind := .rd }, seg := 0, line := 0, src := 0, st := .media } : Haz))] ∧ (({ req := { id := 1, head := 3, tag := 9, ld := 0, dpa := 0, owner := 3, kind := .rd }, seg := 0, line := 0, src := 0, st := .media } : Haz)).req.id = (({ id := 1, loc := page2, line := 0, st := .array } : MedRead)).id ∧ (({ req := { id := 1, head := 3, tag := 9, ld := 0, dpa := 0, owner := 3, kind := .rd }, seg := 0, line := 0, src := 0, st := .media } : Haz)).req.kind = .rd ∧ (({ req := { id := 1, head := 3, tag := 9, ld := 0, dpa := 0, owner := 3, kind := .rd }, seg := 0, line := 0, src := 0, st := .media } : Haz)).req.head = 3 ∧ reading.trk 3 (({ id := 1, loc := page2, line := 0, st := .array } : MedRead)).id = some (({ req := { id := 1, head := 3, tag := 9, ld := 0, dpa := 0, owner := 3, kind := .rd }, seg := 0, line := 0, src := 0, st := .media } : Haz)).req ∧ reading.queued 3 (({ id := 1, loc := page2, line := 0, st := .array } : MedRead)).id = false ∧ (reading.head 3).drs = none ∧ (reading.tile 3).int.armed = [] ∧ aget (({ id := 1, loc := page2, line := 0, st := .array } : MedRead)).loc (reading.tile 3).med.pages = some (({ kind := .host } : Page)) ∧ (({ kind := .host } : Page)).flips = [] ∧ reading.deadDies 3 (({ id := 1, loc := page2, line := 0, st := .array } : MedRead)).loc = 0 ∧ reading.fromMedium (reading.slotOf 3 (({ req := { id := 1, head := 3, tag := 9, ld := 0, dpa := 0, owner := 3, kind := .rd }, seg := 0, line := 0, src := 0, st := .media } : Haz)).seg) (reading.segOf 3 (({ req := { id := 1, head := 3, tag := 9, ld := 0, dpa := 0, owner := 3, kind := .rd }, seg := 0, line := 0, src := 0, st := .media } : Haz)).seg) (({ id := 1, loc := page2, line := 0, st := .array } : MedRead)).line ((({ kind := .host } : Page)).lines.getD (({ id := 1, loc := page2, line := 0, st := .array } : MedRead)).line 0) = ((reading.fromMedium (reading.slotOf 3 0) (reading.segOf 3 0) 0 0))) ∧
    (((chanIs (fun c => { c with ranks := 1 })).modMd (fun d => { d with mode := .bringup, stepsDone := 0x1FFF })).alive 3 = true ∧ 3 < 8 ∧ 2 < 8 ∧ (((chanIs (fun c => { c with ranks := 1 })).modMd (fun d => { d with mode := .bringup, stepsDone := 0x1FFF })).chan 3 2).st = 2 ∧ bitOf (((chanIs (fun c => { c with ranks := 1 })).modMd (fun d => { d with mode := .bringup, stepsDone := 0x1FFF })).chan 3 2).ranks 0 = true ∧ ((chanIs (fun c => { c with ranks := 1 })).modMd (fun d => { d with mode := .bringup, stepsDone := 0x1FFF })).md.mode = .bringup ∧ ((chanIs (fun c => { c with ranks := 1 })).modMd (fun d => { d with mode := .bringup, stepsDone := 0x1FFF })).calDue 3 2 0 = true ∧ ((chanIs (fun c => { c with ranks := 1 })).modMd (fun d => { d with mode := .bringup, stepsDone := 0x1FFF })).pw.seq ≠ .fastDown ∧ agetD 0 (planeBase (2 + 32 * 0), planeBase (2 + 32 * 0) + 1) (((chanIs (fun c => { c with ranks := 1 })).modMd (fun d => { d with mode := .bringup, stepsDone := 0x1FFF })).chan 3 2).calBlocks = ((2 * 2 ^ 18), (2 * 2 ^ 18 + 1)) ∧ agetD 0 0 (((chanIs (fun c => { c with ranks := 1 })).modMd (fun d => { d with mode := .bringup, stepsDone := 0x1FFF })).chan 3 2).calUsed = 0 ∧ (((chanIs (fun c => { c with ranks := 1 })).modMd (fun d => { d with mode := .bringup, stepsDone := 0x1FFF })).blk 3 (2 * 2 ^ 18)).st ≠ .retired ∧ 0 < 96 ∧ ((chanIs (fun c => { c with ranks := 1 })).modMd (fun d => { d with mode := .bringup, stepsDone := 0x1FFF })).planeFree 3 (2 + 32 * 0) = true ∧ (((chanIs (fun c => { c with ranks := 1 })).modMd (fun d => { d with mode := .bringup, stepsDone := 0x1FFF })).chan 3 2).ops.all (fun o => locBlk o.loc != (2 * 2 ^ 18)) = true ∧ locCh ((2 * 2 ^ 18) * 256 + 0) = 2) := by
  repeat' apply And.intro
  all_goals decide +kernel

/-- States and operands that meet the hypotheses of each clause of ProgramsAndClears. -/
theorem witness_ProgramsAndClears :
    (programming.alive 0 = true ∧ 0 < 8 ∧ programming.noWork = true ∧ programming.opAt 0 5 false = some (({ loc := 5, job := .host 0, page := some { kind := .host } } : MedOp)) ∧ (({ loc := 5, job := .host 0, page := some { kind := .host } } : MedOp)).job = .host 0 ∧ (({ loc := 5, job := .host 0, page := some { kind := .host } } : MedOp)).page = some (({ kind := .host } : Page)) ∧ (programming.tile 0).xl.commits = [(({ job := .host 0, seg := 0, page := { kind := .host }, loc := some 5 } : Commit))] ∧ (({ job := .host 0, seg := 0, page := { kind := .host }, loc := some 5 } : Commit)).loc = some 5 ∧ (({ job := .host 0, seg := 0, page := { kind := .host }, loc := some 5 } : Commit)).job = .host 0 ∧ (({ job := .host 0, seg := 0, page := { kind := .host }, loc := some 5 } : Commit)).step = .program ∧ (({ job := .host 0, seg := 0, page := { kind := .host }, loc := some 5 } : Commit)).poison = false ∧ (programming.frame 0 0).st = .writing ∧ (programming.frame 0 0).seg = (({ job := .host 0, seg := 0, page := { kind := .host }, loc := some 5 } : Commit)).seg ∧ programming.stripeOf 0 (({ job := .host 0, seg := 0, page := { kind := .host }, loc := some 5 } : Commit)).seg = none ∧ programming.carDataRow (programming.segOf 0 (({ job := .host 0, seg := 0, page := { kind := .host }, loc := some 5 } : Commit)).seg) = none ∧ (programming.mapOf 0 (({ job := .host 0, seg := 0, page := { kind := .host }, loc := some 5 } : Commit)).seg).st ≠ .lost ∧ programming.jroom 0 = true ∧ 6 ≠ 5) ∧
    ((chanIs (fun c => { c with ops := [{ loc := page2 + 3, job := .calib 0, page := some { kind := .calibration } }] })).alive 3 = true ∧ 3 < 8 ∧ (chanIs (fun c => { c with ops := [{ loc := page2 + 3, job := .calib 0, page := some { kind := .calibration } }] })).noWork = true ∧ (chanIs (fun c => { c with ops := [{ loc := page2 + 3, job := .calib 0, page := some { kind := .calibration } }] })).opAt 3 (page2 + 3) false = some (({ loc := page2 + 3, job := .calib 0, page := some { kind := .calibration } } : MedOp)) ∧ (({ loc := page2 + 3, job := .calib 0, page := some { kind := .calibration } } : MedOp)).job = .calib 0 ∧ (({ loc := page2 + 3, job := .calib 0, page := some { kind := .calibration } } : MedOp)).page = some (({ kind := .calibration } : Page)) ∧ ((chanIs (fun c => { c with ops := [{ loc := page2 + 3, job := .calib 0, page := some { kind := .calibration } }] })).tile 3).xl.commits = [] ∧ page2 ≠ (page2 + 3)) ∧
    (clearing.alive 3 = true ∧ 3 < 8 ∧ clearing.noWork = true ∧ clearing.opAt 3 page2 true = some (({ loc := page2, job := .clear } : MedOp)) ∧ locBlk page2 = (2 * 2 ^ 18) ∧ (clearing.tile 3).xl.commits = [] ∧ (clearing.blk 3 (2 * 2 ^ 18)).clears + 1 < clearing.fld Reg.XL_WEAR_LIMITS 15 0 * 10000) ∧
    (clearing.alive 3 = true ∧ 3 < 8 ∧ clearing.noWork = true ∧ clearing.opAt 3 page2 true = some (({ loc := page2, job := .clear } : MedOp)) ∧ locBlk page2 = (2 * 2 ^ 18) ∧ (clearing.tile 3).xl.commits = [] ∧ (clearing.blk 3 (2 * 2 ^ 18)).st = .pending) ∧
    (clearing.alive 3 = true ∧ 3 < 8 ∧ clearing.noWork = true ∧ clearing.opAt 3 page2 true = some (({ loc := page2, job := .clear } : MedOp)) ∧ locBlk page2 = (2 * 2 ^ 18) ∧ (({ loc := page2, job := .clear } : MedOp)).susp = false ∧ (clearing.tile 3).xl.commits = [] ∧ (clearing.blk 3 (2 * 2 ^ 18)).st = .pending) ∧
    ((chanIs (fun c => { c with ops := [{ loc := page2 + 256, job := .calib 0, page := some { kind := .calibration } }] })).alive 3 = true ∧ 3 < 8 ∧ (chanIs (fun c => { c with ops := [{ loc := page2 + 256, job := .calib 0, page := some { kind := .calibration } }] })).noWork = true ∧ (chanIs (fun c => { c with ops := [{ loc := page2 + 256, job := .calib 0, page := some { kind := .calibration } }] })).opAt 3 (page2 + 256) false = some (({ loc := page2 + 256, job := .calib 0, page := some { kind := .calibration } } : MedOp)) ∧ locBlk (page2 + 256) = (2 * 2 ^ 18 + 1) ∧ (({ loc := page2 + 256, job := .calib 0, page := some { kind := .calibration } } : MedOp)).susp = false ∧ (({ loc := page2 + 256, job := .calib 0, page := some { kind := .calibration } } : MedOp)).job = .calib 0 ∧ ((chanIs (fun c => { c with ops := [{ loc := page2 + 256, job := .calib 0, page := some { kind := .calibration } }] })).tile 3).xl.commits = [] ∧ ((chanIs (fun c => { c with ops := [{ loc := page2 + 256, job := .calib 0, page := some { kind := .calibration } }] })).blk 3 (2 * 2 ^ 18 + 1)).st = .ring) ∧
    ((chanIs (fun c => { c with ops := [{ loc := page2, job := .host 0, susp := true }] })).opAt 3 page2 false = some (({ loc := page2, job := .host 0, susp := true } : MedOp)) ∧ (({ loc := page2, job := .host 0, susp := true } : MedOp)).susp = true) := by
  repeat' apply And.intro
  all_goals decide +kernel

/-- States and operands that meet the hypotheses of each clause of MediaManagement. -/
theorem witness_MediaManagement :
    (restored.alive 3 = true ∧ 3 < 8 ∧ (restored.tile 3).xl.mapState ≠ 0) ∧
    ((restored.modXl 3 (fun x => { x with rebuildAt := some 0 })).alive 3 = true ∧ 3 < 8 ∧ (restored.modXl 3 (fun x => { x with rebuildAt := some 0 })).md.mode ≠ .holdup ∧ ((restored.modXl 3 (fun x => { x with rebuildAt := some 0 })).tile 3).xl.rebuildAt = some 0 ∧ 0 + 4 < (restored.modXl 3 (fun x => { x with rebuildAt := some 0 })).segs / 16) ∧
    ((restored.modXl 3 (fun x => { x with rebuildAt := some 0, mapState := 2 })).alive 3 = true ∧ 3 < 8 ∧ (restored.modXl 3 (fun x => { x with rebuildAt := some 0, mapState := 2 })).md.mode ≠ .holdup ∧ ((restored.modXl 3 (fun x => { x with rebuildAt := some 0, mapState := 2 })).tile 3).xl.rebuildAt = some 0 ∧ (restored.modXl 3 (fun x => { x with rebuildAt := some 0, mapState := 2 })).segs / 16 ≤ 0 + 10000000000 ∧ (restored.modXl 3 (fun x => { x with rebuildAt := some 0, mapState := 2 })).aliveTiles.all (fun u => u == 3 || ((restored.modXl 3 (fun x => { x with rebuildAt := some 0, mapState := 2 })).tile u).xl.rebuildAt.isNone) = true) ∧
    ((((sector 4).setReg Reg.XL_WEAR_LIMITS 0x0032012C#32).modXl 3 (fun x => { x with blocks := [(2 * 2 ^ 18, { st := .full }), (2 * 2 ^ 18 + 1, { st := .ring, clears := 60000 })] })).mayMaintain 3 = true ∧ 3 < 8 ∧ ((((sector 4).setReg Reg.XL_WEAR_LIMITS 0x0032012C#32).modXl 3 (fun x => { x with blocks := [(2 * 2 ^ 18, { st := .full }), (2 * 2 ^ 18 + 1, { st := .ring, clears := 60000 })] })).tile 3).xl.batches = [] ∧ 1000 * (((sector 4).setReg Reg.XL_WEAR_LIMITS 0x0032012C#32).modXl 3 (fun x => { x with blocks := [(2 * 2 ^ 18, { st := .full }), (2 * 2 ^ 18 + 1, { st := .ring, clears := 60000 })] })).fld Reg.XL_WEAR_LIMITS 31 16 < (((sector 4).setReg Reg.XL_WEAR_LIMITS 0x0032012C#32).modXl 3 (fun x => { x with blocks := [(2 * 2 ^ 18, { st := .full }), (2 * 2 ^ 18 + 1, { st := .ring, clears := 60000 })] })).maxClears 3 - (((sector 4).setReg Reg.XL_WEAR_LIMITS 0x0032012C#32).modXl 3 (fun x => { x with blocks := [(2 * 2 ^ 18, { st := .full }), (2 * 2 ^ 18 + 1, { st := .ring, clears := 60000 })] })).minClears 3 ∧ (((sector 4).setReg Reg.XL_WEAR_LIMITS 0x0032012C#32).modXl 3 (fun x => { x with blocks := [(2 * 2 ^ 18, { st := .full }), (2 * 2 ^ 18 + 1, { st := .ring, clears := 60000 })] })).maxClears 3 - (((sector 4).setReg Reg.XL_WEAR_LIMITS 0x0032012C#32).modXl 3 (fun x => { x with blocks := [(2 * 2 ^ 18, { st := .full }), (2 * 2 ^ 18 + 1, { st := .ring, clears := 60000 })] })).minClears 3 ≤ 2000 * (((sector 4).setReg Reg.XL_WEAR_LIMITS 0x0032012C#32).modXl 3 (fun x => { x with blocks := [(2 * 2 ^ 18, { st := .full }), (2 * 2 ^ 18 + 1, { st := .ring, clears := 60000 })] })).fld Reg.XL_WEAR_LIMITS 31 16 ∧ pickBy false (fun k => ((((sector 4).setReg Reg.XL_WEAR_LIMITS 0x0032012C#32).modXl 3 (fun x => { x with blocks := [(2 * 2 ^ 18, { st := .full }), (2 * 2 ^ 18 + 1, { st := .ring, clears := 60000 })] })).blk 3 k).clears) ((((((sector 4).setReg Reg.XL_WEAR_LIMITS 0x0032012C#32).modXl 3 (fun x => { x with blocks := [(2 * 2 ^ 18, { st := .full }), (2 * 2 ^ 18 + 1, { st := .ring, clears := 60000 })] })).tile 3).xl.blocks.filter (fun e => e.2.st == .full && decide (e.2.frontier < 3))).map (·.1)) = some (2 * 2 ^ 18) ∧ ((((sector 4).setReg Reg.XL_WEAR_LIMITS 0x0032012C#32).modXl 3 (fun x => { x with blocks := [(2 * 2 ^ 18, { st := .full }), (2 * 2 ^ 18 + 1, { st := .ring, clears := 60000 })] })).sectorBudget 3 4 (blkCh (2 * 2 ^ 18))).isSome = true ∧ ((((sector 4).setReg Reg.XL_WEAR_LIMITS 0x0032012C#32).modXl 3 (fun x => { x with blocks := [(2 * 2 ^ 18, { st := .full }), (2 * 2 ^ 18 + 1, { st := .ring, clears := 60000 })] })).blk 3 (2 * 2 ^ 18)).st = .full) ∧
    (copying.alive 3 = true ∧ 3 < 8 ∧ copying.md.operating = true ∧ bitOf copying.md.sealed 3 = false ∧ (copying.tile 3).xl.batches = [(({ src := 7, plane := 2, target := 1, left := [(1, page2 + 9), (2, 4)] } : Batch))] ∧ (({ src := 7, plane := 2, target := 1, left := [(1, page2 + 9), (2, 4)] } : Batch)).left = (1, (page2 + 9)) :: (([(2, 4)] : List (Nat × Nat))) ∧ (({ src := 7, plane := 2, target := 1, left := [(1, page2 + 9), (2, 4)] } : Batch)).busy = false ∧ (copying.mapRaw 3 1).loc ≠ (page2 + 9)) ∧
    (copyReady.alive 3 = true ∧ 3 < 8 ∧ copyReady.md.operating = true ∧ bitOf copyReady.md.sealed 3 = false ∧ (copyReady.tile 3).xl.batches = [(({ src := 2 * 2 ^ 18, plane := 2, target := 1, left := [(0, page2)] } : Batch))] ∧ (({ src := 2 * 2 ^ 18, plane := 2, target := 1, left := [(0, page2)] } : Batch)).left = (0, page2) :: (([] : List (Nat × Nat))) ∧ (([] : List (Nat × Nat))).all (fun e => e.1 != 0) = true ∧ (({ src := 2 * 2 ^ 18, plane := 2, target := 1, left := [(0, page2)] } : Batch)).busy = false ∧ (({ src := 2 * 2 ^ 18, plane := 2, target := 1, left := [(0, page2)] } : Batch)).refresh = false ∧ copyReady.mapRaw 3 0 = { st := .mapped, loc := page2 } ∧ copyReady.forcedBatch 3 (({ src := 2 * 2 ^ 18, plane := 2, target := 1, left := [(0, page2)] } : Batch)).src = true ∧ copyReady.mediaFree 3 page2 = true ∧ aget page2 (copyReady.tile 3).med.pages = some (({ kind := .host } : Page)) ∧ (({ kind := .host } : Page)).flips = [] ∧ (({ kind := .host } : Page)).hdr = true ∧ (copyReady.tile 3).int.armed = [] ∧ copyReady.deadDies 3 page2 = 0 ∧ ((copyReady.tile 3).xl.lastPlane + 1) % copyReady.planes = 2 ∧ 2 < copyReady.planes ∧ copyReady.planeFree 3 2 = true ∧ (copyReady.front 3 2 (({ src := 2 * 2 ^ 18, plane := 2, target := 1, left := [(0, page2)] } : Batch)).target).cur = some (2 * 2 ^ 18 + 9) ∧ blkPlane (2 * 2 ^ 18 + 9) = 2 ∧ (copyReady.blk 3 (2 * 2 ^ 18 + 9)).used < 256 ∧ (copyReady.tile 3).xl.jpos < (copyReady.blk 3 (2 * 2 ^ 18 + 9)).resAt + 2 ^ 30 ∧ copyReady.pw.seq ≠ .fastDown) ∧
    (3 < 8 ∧ copied.alive 3 = true ∧ copied.noWork = true ∧ (copied.tile 3).xl.batches = [(({ src := 2 * 2 ^ 18, plane := 2, target := 1, left := [], copied := [(0, page2, page2 + 9)] } : Batch))] ∧ (({ src := 2 * 2 ^ 18, plane := 2, target := 1, left := [], copied := [(0, page2, page2 + 9)] } : Batch)).left = [] ∧ (({ src := 2 * 2 ^ 18, plane := 2, target := 1, left := [], copied := [(0, page2, page2 + 9)] } : Batch)).busy = false ∧ (({ src := 2 * 2 ^ 18, plane := 2, target := 1, left := [], copied := [(0, page2, page2 + 9)] } : Batch)).copied = [(0, page2, (page2 + 9))] ∧ copied.mapRaw 3 0 = { st := .relocating, loc := page2 } ∧ (copied.tile 3).xl.commits = [] ∧ 1 ≠ 0) ∧
    (((sector 1).modXl 3 (fun x => { x with blocks := [(2 * 2 ^ 18, { st := .pending })] })).mayMaintain 3 = true ∧ 3 < 8 ∧ ((sector 1).modXl 3 (fun x => { x with blocks := [(2 * 2 ^ 18, { st := .pending })] })).clearReady 3 (2 * 2 ^ 18) = true ∧ ((sector 1).modXl 3 (fun x => { x with blocks := [(2 * 2 ^ 18, { st := .pending })] })).clearPlaneFree 3 (2 * 2 ^ 18) = true ∧ ((sector 1).modXl 3 (fun x => { x with blocks := [(2 * 2 ^ 18, { st := .pending })] })).sectorBudget 3 1 (blkCh (2 * 2 ^ 18)) = some 0 ∧ (((sector 1).modXl 3 (fun x => { x with blocks := [(2 * 2 ^ 18, { st := .pending })] })).chan 3 (blkCh (2 * 2 ^ 18))).ops = [] ∧ 0 < ((sector 1).modXl 3 (fun x => { x with blocks := [(2 * 2 ^ 18, { st := .pending })] })).clearLimit 3 (blkCh (2 * 2 ^ 18)) ∧ blkCh (2 * 2 ^ 18) < 8) ∧
    (restoredUp.alive 3 = true ∧ 3 < 8 ∧ (restoredUp.tile 3).xl.jsent < (restoredUp.tile 3).xl.jpos ∧ restoredUp.pw.seq ≠ .fastDown ∧ restoredUp.metaFree 3 (restoredUp.jloc 3) = true) ∧
    ((restoredUp.modXl 3 (fun x => { x with jurgent := true })).alive 3 = true ∧ 3 < 8 ∧ ((restoredUp.modXl 3 (fun x => { x with jurgent := true })).tile 3).xl.jurgent = true ∧ ((restoredUp.modXl 3 (fun x => { x with jurgent := true })).tile 3).xl.jsent < ((restoredUp.modXl 3 (fun x => { x with jurgent := true })).tile 3).xl.jpos ∧ (restoredUp.modXl 3 (fun x => { x with jurgent := true })).pw.seq ≠ .fastDown ∧ (restoredUp.modXl 3 (fun x => { x with jurgent := true })).metaFree 3 ((restoredUp.modXl 3 (fun x => { x with jurgent := true })).jloc 3) = true) ∧
    (restoredUp.alive 3 = true ∧ 3 < 8 ∧ restoredUp.md.operating = true ∧ (restoredUp.tile 3).xl.mapState ≠ 0 ∧ restoredUp.jobs.ckpt = none ∧ restoredUp.pw.seq ≠ .fastDown ∧ (restoredUp.tile 3).med.chans.toList.all (fun c => c.ops.isEmpty) = true ∧ (restoredUp.tile 3).xl.metaWait = [] ∧ (restoredUp.tile 3).xl.ckptNo % restoredUp.ckptIdx < restoredUp.mapIdx ∧ restoredUp.metaFree 3 (restoredUp.ringLoc 3 0) = true) ∧
    ((restored.modXl 3 (fun x => { x with map := [(0, { st := .mapped, loc := page2 })], walks := [(8, 0)] })).alive 3 = true ∧ 3 < 8 ∧ 2 < 8 ∧ 0 < 4 ∧ ((restored.modXl 3 (fun x => { x with map := [(0, { st := .mapped, loc := page2 })], walks := [(8, 0)] })).tile 3).xl.mapState = 1 ∧ (restored.modXl 3 (fun x => { x with map := [(0, { st := .mapped, loc := page2 })], walks := [(8, 0)] })).jroom 3 = true ∧ aget (4 * 2 + 0) ((restored.modXl 3 (fun x => { x with map := [(0, { st := .mapped, loc := page2 })], walks := [(8, 0)] })).tile 3).xl.walks = some 0 ∧ ((restored.modXl 3 (fun x => { x with map := [(0, { st := .mapped, loc := page2 })], walks := [(8, 0)] })).tile 3).xl.map = [(0, (({ st := .mapped, loc := page2 } : MapEnt)))] ∧ (({ st := .mapped, loc := page2 } : MapEnt)).st = .mapped ∧ locCh (({ st := .mapped, loc := page2 } : MapEnt)).loc = 2 ∧ locRank (({ st := .mapped, loc := page2 } : MapEnt)).loc = 0 ∧ (restored.modXl 3 (fun x => { x with map := [(0, { st := .mapped, loc := page2 })], walks := [(8, 0)] })).covered 3 0 = false ∧ 0 < 1 ∧ 1 < (restored.modXl 3 (fun x => { x with map := [(0, { st := .mapped, loc := page2 })], walks := [(8, 0)] })).segs) := by
  repeat' apply And.intro
  all_goals decide +kernel

/-- States and operands that meet the hypotheses of each clause of TranslationCommands. -/
theorem witness_TranslationCommands :
    (serve.accepts pc0 0x0200 false = true ∧ serve.ringPriv pc0.ring = true ∧ serve.md.sdService = true ∧ serve.noWork = true ∧ 0 % 4096 = 0 ∧ 4096 % 4096 = 0 ∧ 0 < 4096 ∧ 0 + 4096 ≤ serve.pkgBlocks * 2 ^ 28 ∧ (serve.aliveTiles.map (fun u => (serve.spanSegs u [(0 / 4096, 4096 / 4096)]).map (fun d => (u, d, 0)))).flatten = []) ∧
    ((oneSeg { st := .mapped, loc := page2 }).accepts pc0 0x0200 false = true ∧ (oneSeg { st := .mapped, loc := page2 }).ringPriv pc0.ring = true ∧ (oneSeg { st := .mapped, loc := page2 }).md.sdService = true ∧ (oneSeg { st := .mapped, loc := page2 }).noWork = true ∧ 0 % 4096 = 0 ∧ 4096 % 4096 = 0 ∧ 0 < 4096 ∧ 0 + 4096 ≤ (oneSeg { st := .mapped, loc := page2 }).pkgBlocks * 2 ^ 28 ∧ 0 < 8 ∧ (oneSeg { st := .mapped, loc := page2 }).alive 0 = true ∧ ((oneSeg { st := .mapped, loc := page2 }).aliveTiles.map (fun u => ((oneSeg { st := .mapped, loc := page2 }).spanSegs u [(0 / 4096, 4096 / 4096)]).map (fun d => (u, d, 0)))).flatten = [(0, 0, 0)] ∧ (oneSeg { st := .mapped, loc := page2 }).findFrame 0 0 = none ∧ (oneSeg { st := .mapped, loc := page2 }).commitOf 0 0 = none ∧ ((oneSeg { st := .mapped, loc := page2 }).mapRaw 0 0).st = .mapped ∧ (oneSeg { st := .mapped, loc := page2 }).stripeOf 0 0 = none ∧ (oneSeg { st := .mapped, loc := page2 }).carDataRow ((oneSeg { st := .mapped, loc := page2 }).segOf 0 0) = none ∧ (oneSeg { st := .mapped, loc := page2 }).jroom 0 = true ∧ ((oneSeg { st := .mapped, loc := page2 }).tile 0).xl.jdur ≤ ((oneSeg { st := .mapped, loc := page2 }).tile 0).xl.jpos ∧ 1 ≠ 0) ∧
    (mapped.accepts pc0 0x0200 false = true ∧ mapped.ringPriv pc0.ring = true ∧ mapped.md.sdService = true ∧ mapped.noWork = true ∧ 0 % 4096 = 0 ∧ 4096 % 4096 = 0 ∧ 0 < 4096 ∧ 0 + 4096 ≤ mapped.pkgBlocks * 2 ^ 28 ∧ 0 < 8 ∧ mapped.alive 0 = true ∧ (mapped.aliveTiles.map (fun u => (mapped.spanSegs u [(0 / 4096, 4096 / 4096)]).map (fun d => (u, d, 0)))).flatten = [(0, 0, 0)] ∧ mapped.findFrame 0 0 = some 0 ∧ (mapped.frame 0 0).st = .dirty ∧ mapped.commitOf 0 0 = none ∧ (mapped.mapRaw 0 0).st = .never) ∧
    (serve.accepts pc0 0x0200 false = true ∧ serve.md.sdService = true ∧ serve.presents (serve.ring pc0.ring).head 5 = false) ∧
    ((inMode .service).accepts pc0 0x0201 true = true ∧ (inMode .service).md.inService = true ∧ (inMode .service).noWork = true ∧ 0 % 4096 = 0 ∧ 4096 % 4096 = 0 ∧ 0 < 4096 ∧ 0 + 4096 ≤ (inMode .service).pkgBlocks * 2 ^ 28 ∧ ((inMode .service).aliveTiles.map (fun u => ((inMode .service).spanSegs u [(0 / 4096, 4096 / 4096)]).map (fun d => (u, d, 0)))).flatten = [] ∧ (inMode .service).scanBlocks [(0 / 4096, 4096 / 4096)] = []) ∧
    (stalePage.accepts pc0 0x0201 true = true ∧ stalePage.md.inService = true ∧ stalePage.noWork = true ∧ 0 % 4096 = 0 ∧ 4096 % 4096 = 0 ∧ 0 < 4096 ∧ 0 + 4096 ≤ stalePage.pkgBlocks * 2 ^ 28 ∧ 0 < 8 ∧ blkCh (2 * 2 ^ 18) < 8 ∧ (stalePage.aliveTiles.map (fun u => (stalePage.spanSegs u [(0 / 4096, 4096 / 4096)]).map (fun d => (u, d, 0)))).flatten = [] ∧ stalePage.scanBlocks [(0 / 4096, 4096 / 4096)] = [(0, (2 * 2 ^ 18))] ∧ (stalePage.blk 0 (2 * 2 ^ 18)).st = .pending ∧ stalePage.clearReady 0 (2 * 2 ^ 18) = true ∧ stalePage.clearPlaneFree 0 (2 * 2 ^ 18) = true ∧ (stalePage.chan 0 (blkCh (2 * 2 ^ 18))).clearing.length < stalePage.clearLimit 0 (blkCh (2 * 2 ^ 18))) ∧
    (serve.accepts pc0 0x0202 false = true ∧ 3 < serve.pop.tiles ∧ 128 % 64 = 0) ∧
    (spare.accepts pc0 0x0203 true = true ∧ spare.md.inService = true ∧ 3 < spare.pop.tiles ∧ 3 < 8 ∧ 2 < 8 ∧ locRank (2 * 2 ^ 26 + (3000 * 256)) < spare.pop.ranks ∧ locBlk (2 * 2 ^ 26 + (3000 * 256)) = (2 * 2 ^ 18 + 3000) ∧ (spare.blk 3 (2 * 2 ^ 18 + 3000)).st = .free ∧ (spare.tile 3).xl.spare ≠ 0) ∧
    (spare.accepts pc0 0x0203 true = true ∧ spare.md.inService = true ∧ 3 < spare.pop.tiles ∧ 3 < 8 ∧ 2 < 8 ∧ locRank (2 * 2 ^ 26 + 0) < spare.pop.ranks ∧ locBlk (2 * 2 ^ 26 + 0) = (2 * 2 ^ 18) ∧ (spare.blk 3 (2 * 2 ^ 18)).st = .full ∧ (spare.tile 3).xl.spare ≠ 0 ∧ spare.pagesInOrder 3 (2 * 2 ^ 18) ≠ []) ∧
    (spare.accepts pc0 0x0203 true = true ∧ spare.md.inService = true ∧ 3 < spare.pop.tiles ∧ 2 < 8 ∧ locRank (2 * 2 ^ 26 + 256) < spare.pop.ranks ∧ (spare.blk 3 (locBlk (2 * 2 ^ 26 + 256))).st = .retired) ∧
    (serve.accepts pc0 0x0204 true = true ∧ serve.md.operating = true ∧ 100 ≤ 100 ∧ 100 ≤ 1000 ∧ 10 ≤ 1000 ∧ 1000 ≤ 1000) ∧
    (serve.accepts pc0 0x0204 true = true ∧ serve.md.operating = true ∧ 99 < 100) ∧
    (restored.accepts pc0 0x0205 true = true ∧ restored.md.sdService = true ∧ 8 < 2 ^ restored.pop.tiles ∧ restored.jobs.ckpt = none ∧ restored.aliveTiles.filter (bitOf 8) = [3] ∧ restored.ckptReached (3, (restored.tile 3).xl.jpos) = false) ∧
    (serve.accepts pc0 0x0205 true = true ∧ serve.md.sdService = true ∧ serve.jobs.ckpt = none) := by
  repeat' apply And.intro
  all_goals decide +kernel

/-- States and operands that meet the hypotheses of each clause of FmApiQueries. -/
theorem witness_FmApiQueries :
    (serve.fmServed 8 = true) ∧
    (serve.fmServed 0 = true) ∧
    (serve.fmServed 0 = true ∧ serve.present.contains 7 = true) ∧
    (serve.fmServed 0 = true ∧ serve.present.contains 8 = false) ∧
    (serve.fmServed 8 = true) ∧
    (serve.fmServed 7 = true ∧ 7 < 8 ∧ ([1, 2, 3, 4, 5, 6, 7]).length = 7 ∧ 0 ≠ 7) ∧
    (serve.fmServed 3 = true) ∧
    (serve.fmServed 3 = true) ∧
    (serve.fmServed 7 = true ∧ 7 < 8 ∧ 255 < 256 ∧ 0 < 256 ∧ 0 ≠ 16 * 7 + 3 ∧ 0 ≠ 16 * 7 + 4) ∧
    (serve.fmServed 7 = true ∧ 1 < ([1, 2]).length) ∧
    (serve.fmServed 7 = true) ∧
    (serve.fmServed 0 = true ∧ 0 < 8 ∧ 255 < 256 ∧ 1 ≠ 16 * 0) ∧
    (serve.fmServed 8 = true) ∧
    (serve.fmServed 0 = true ∧ (serve.present.filter (fun k => !(serve.head k).upper))[0]? = some 0) ∧
    (serve.fmServed 0 = true) ∧
    ((withRegion false).fmServed 0 = true ∧ (withRegion false).present.contains 0 = true ∧ 0 < 16 ∧ 0 < 8 ∧ agetD (8 * (16 * 0 + 0) + 0) {} (withRegion false).cap.regions = (({ base := 0, len := 8, conf := true } : Region))) ∧
    (withExtent.fmServed 0 = true ∧ withExtent.present.contains 0 = true ∧ 0 < 16 ∧ withExtent.cap.extents.filter (fun x => x.ld == 16 * 0 + 0) = [(({ ld := 0, region := 0, start := 2, len := 1 } : Extent))]) ∧
    (serve.fmServed 0 = true) := by
  repeat' apply And.intro
  all_goals decide +kernel

/-- States and operands that meet the hypotheses of each clause of CapacityChanges. -/
theorem witness_CapacityChanges :
    ((serve.modLd 16 (fun d => { d with key := 3 })).fmServed 0 = true ∧ (serve.modLd 16 (fun d => { d with key := 3 })).present.contains 1 = true ∧ 0 < 16 ∧ 1 < 8 ∧ (serve.modLd 16 (fun d => { d with key := 3 })).staticBlocks (16 * 1 + 0) = [] ∧ ((serve.modLd 16 (fun d => { d with key := 3 })).ldev (16 * 1 + 0)).key ≠ 0 ∧ (serve.modLd 16 (fun d => { d with key := 3 })).freeBlocks 1 = [0] ∧ (List.range 8).all (fun r => !(agetD (8 * (16 * 1 + 0) + r) {} (serve.modLd 16 (fun d => { d with key := 3 })).cap.regions).conf || decide (1 ≤ (agetD (8 * (16 * 1 + 0) + r) {} (serve.modLd 16 (fun d => { d with key := 3 })).cap.regions).base)) = true ∧ 5 ≠ 0) ∧
    (mapped.fmServed 0 = true ∧ mapped.present.contains 0 = true ∧ 0 < 16 ∧ mapped.ldSizeOk (16 * 0 + 0) (mapped.staticBlocks (16 * 0 + 0)).length = true) ∧
    (serve.fmServed 0 = true ∧ serve.present.contains 7 = true ∧ 7 < 8 ∧ 15 < 16 ∧ 7 < 8 ∧ 0 < 1 ∧ 65535 + 1 ≤ 65536 ∧ (serve.staticBlocks (16 * 7 + 15)).length ≤ 65535 ∧ (List.range 8).all (fun r => r == 7 || !(agetD (8 * (16 * 7 + 15) + r) {} serve.cap.regions).conf) = true ∧ serve.cap.extents.all (fun e => e.ld != 16 * 7 + 15 || e.region != 7) = true) ∧
    (serve.fmServed 0 = true ∧ 5 ≠ 2 ^ 28) ∧
    ((withRegion false).fmServed 0 = true ∧ (withRegion false).present.contains 0 = true ∧ 0 < 8 ∧ 0 < 16 ∧ 0 < 8 ∧ agetD (8 * (16 * 0 + 0) + 0) {} (withRegion false).cap.regions = (({ base := 0, len := 8, conf := true } : Region)) ∧ (({ base := 0, len := 8, conf := true } : Region)).conf = true ∧ (({ base := 0, len := 8, conf := true } : Region)).share = false ∧ ((withRegion false).ldev (16 * 0 + 0)).key ≠ 0 ∧ (withRegion false).freeBlocks 1 = [0] ∧ ((withRegion false).freeLdBlocks (16 * 0 + 0) (({ base := 0, len := 8, conf := true } : Region))).head? = some 0 ∧ (withRegion false).cap.extents = [] ∧ (withRegion false).cap.shares.length ≤ 8192 ∧ 7 ≠ 0) ∧
    (withExtent.fmServed 0 = true ∧ withExtent.present.contains 0 = true ∧ 0 < 16 ∧ 0 < 8 ∧ agetD (8 * (16 * 0 + 0) + 0) {} withExtent.cap.regions = (({ base := 0, len := 8, conf := true } : Region)) ∧ (({ base := 0, len := 8, conf := true } : Region)).conf = true ∧ aget 4 withExtent.cap.table = some (({ kind := 1, ld := 0, region := 0, ldBlk := 2 } : BlockEnt)) ∧ (({ kind := 1, ld := 0, region := 0, ldBlk := 2 } : BlockEnt)).kind ≠ 3) ∧
    (((withRegion false).modCap (fun c => { c with table := [(4, { kind := 3 })] })).fmServed 0 = true ∧ ((withRegion false).modCap (fun c => { c with table := [(4, { kind := 3 })] })).present.contains 0 = true ∧ 0 < 16 ∧ 0 < 8 ∧ agetD (8 * (16 * 0 + 0) + 0) {} ((withRegion false).modCap (fun c => { c with table := [(4, { kind := 3 })] })).cap.regions = (({ base := 0, len := 8, conf := true } : Region)) ∧ (({ base := 0, len := 8, conf := true } : Region)).conf = true ∧ aget 4 ((withRegion false).modCap (fun c => { c with table := [(4, { kind := 3 })] })).cap.table = some (({ kind := 3 } : BlockEnt)) ∧ (({ kind := 3 } : BlockEnt)).kind = 3 ∧ 4 < ((withRegion false).modCap (fun c => { c with table := [(4, { kind := 3 })] })).pkgBlocks) ∧
    (((withRegion false).modCap (fun c => { c with waiting := [{ ld := 0, region := 0, policy := 2, len := 1, start := 4, via := 0 }] })).md.operating = true ∧ ((withRegion false).modCap (fun c => { c with waiting := [{ ld := 0, region := 0, policy := 2, len := 1, start := 4, via := 0 }] })).cap.waiting = [(({ ld := 0, region := 0, policy := 2, len := 1, start := 4, via := 0 } : WaitAdd))] ∧ (({ ld := 0, region := 0, policy := 2, len := 1, start := 4, via := 0 } : WaitAdd)).policy = 2 ∧ (({ ld := 0, region := 0, policy := 2, len := 1, start := 4, via := 0 } : WaitAdd)).len = 1 ∧ (({ ld := 0, region := 0, policy := 2, len := 1, start := 4, via := 0 } : WaitAdd)).start = 4 ∧ (({ ld := 0, region := 0, policy := 2, len := 1, start := 4, via := 0 } : WaitAdd)).region < 8 ∧ (({ ld := 0, region := 0, policy := 2, len := 1, start := 4, via := 0 } : WaitAdd)).ld < 128 ∧ agetD (8 * (({ ld := 0, region := 0, policy := 2, len := 1, start := 4, via := 0 } : WaitAdd)).ld + (({ ld := 0, region := 0, policy := 2, len := 1, start := 4, via := 0 } : WaitAdd)).region) {} ((withRegion false).modCap (fun c => { c with waiting := [{ ld := 0, region := 0, policy := 2, len := 1, start := 4, via := 0 }] })).cap.regions = (({ base := 0, len := 8, conf := true } : Region)) ∧ (({ base := 0, len := 8, conf := true } : Region)).conf = true ∧ (({ base := 0, len := 8, conf := true } : Region)).share = false ∧ (((withRegion false).modCap (fun c => { c with waiting := [{ ld := 0, region := 0, policy := 2, len := 1, start := 4, via := 0 }] })).ldev (({ ld := 0, region := 0, policy := 2, len := 1, start := 4, via := 0 } : WaitAdd)).ld).key ≠ 0 ∧ ((withRegion false).modCap (fun c => { c with waiting := [{ ld := 0, region := 0, policy := 2, len := 1, start := 4, via := 0 }] })).blockFree 4 = true ∧ 4 < ((withRegion false).modCap (fun c => { c with waiting := [{ ld := 0, region := 0, policy := 2, len := 1, start := 4, via := 0 }] })).pkgBlocks ∧ (((withRegion false).modCap (fun c => { c with waiting := [{ ld := 0, region := 0, policy := 2, len := 1, start := 4, via := 0 }] })).freeLdBlocks (({ ld := 0, region := 0, policy := 2, len := 1, start := 4, via := 0 } : WaitAdd)).ld (({ base := 0, len := 8, conf := true } : Region))).head? = some 0 ∧ ((withRegion false).modCap (fun c => { c with waiting := [{ ld := 0, region := 0, policy := 2, len := 1, start := 4, via := 0 }] })).cap.extents = [] ∧ ((withRegion false).modCap (fun c => { c with waiting := [{ ld := 0, region := 0, policy := 2, len := 1, start := 4, via := 0 }] })).cap.shares.length ≤ 8192 ∧ 0 + 1 < 65536 ∧ (((withRegion false).modCap (fun c => { c with waiting := [{ ld := 0, region := 0, policy := 2, len := 1, start := 4, via := 0 }] })).freeLdBlocks (({ ld := 0, region := 0, policy := 2, len := 1, start := 4, via := 0 } : WaitAdd)).ld (({ base := 0, len := 8, conf := true } : Region))).contains 0 = true ∧ 7 ≠ 4) ∧
    (withExtent.fmServed 0 = true ∧ withExtent.present.contains 0 = true ∧ 0 < 8 ∧ 0 < 16 ∧ 0 < 8 ∧ withExtent.noWork = true ∧ withExtent.cap.table = [(4, { kind := 1, ld := 16 * 0 + 0, region := 0, ldBlk := 2 })] ∧ withExtent.cap.shares = [] ∧ 5 ≠ 4 ∧ (withExtent.aliveTiles.map (fun u => (withExtent.spanSegs u (blkSpans [4])).map (fun d => (u, d, 0)))).flatten = [] ∧ withExtent.cap.extents = [{ ld := 16 * 0 + 0, region := 0, start := 2, len := 1 }]) ∧
    (((withRegion false).modCap (fun c => { c with table := [(4, { kind := 3 })], releases := [{ ld := 0, region := 0, start := 2, blks := [4], forced := false }] })).md.operating = true ∧ ((withRegion false).modCap (fun c => { c with table := [(4, { kind := 3 })], releases := [{ ld := 0, region := 0, start := 2, blks := [4], forced := false }] })).jobs.ranges = [] ∧ ((withRegion false).modCap (fun c => { c with table := [(4, { kind := 3 })], releases := [{ ld := 0, region := 0, start := 2, blks := [4], forced := false }] })).cap.releases = [(({ ld := 0, region := 0, start := 2, blks := [4], forced := false } : Release))] ∧ (({ ld := 0, region := 0, start := 2, blks := [4], forced := false } : Release)).ld = 0 ∧ (({ ld := 0, region := 0, start := 2, blks := [4], forced := false } : Release)).region = 0 ∧ (({ ld := 0, region := 0, start := 2, blks := [4], forced := false } : Release)).start = 2 ∧ (({ ld := 0, region := 0, start := 2, blks := [4], forced := false } : Release)).blks = [4] ∧ 0 ≠ 15 ∧ (({ ld := 0, region := 0, start := 2, blks := [4], forced := false } : Release)).forced = false ∧ 5 ≠ 4) := by
  repeat' apply And.intro
  all_goals decide +kernel

/-- States and operands that meet the hypotheses of each clause of MailboxQueries. -/
theorem witness_MailboxQueries :
    (logged.mailboxUp 0 0 0x0100 = true ∧ vget 3 {} (logged.ldev (16 * 0 + 0)).logs = (({ recs := [{ kind := 0, cause := 1, info := 2 }] } : EvtLog)) ∧ (({ recs := [{ kind := 0, cause := 1, info := 2 }] } : EvtLog)).recs = [(({ kind := 0, cause := 1, info := 2 } : EvtRec))]) ∧
    (serve.mailboxUp 7 0 0x0100 = true) ∧
    (serve.mailboxUp 0 0 0x0102 = true) ∧
    (serve.mailboxUp 0 0 0x0200 = true) ∧
    (serve.mailboxUp 0 0 0x0300 = true ∧ (serve.ldev (16 * 0 + 0)).timestamp = (0, 0)) ∧
    ((serve.modLd 0 (fun d => { d with timestamp := (5, 0) })).mailboxUp 0 0 0x0300 = true ∧ ((serve.modLd 0 (fun d => { d with timestamp := (5, 0) })).ldev (16 * 0 + 0)).timestamp = (5, 0) ∧ 0 < 5) ∧
    (serve.mailboxUp 0 0 0x0400 = true) ∧
    (serve.mailboxUp 0 0 0x0401 = true ∧ effectsLog[28]? = some ((0x4802, 2))) ∧
    (serve.mailboxUp 0 0 0x0401 = true) ∧
    (mapped.mailboxUp 0 0 0x4000 = true) ∧
    (mapped.mailboxUp 0 0 0x4100 = true) ∧
    (serve.mailboxUp 0 0 0x4101 = true) ∧
    (serve.mailboxUp 0 0 0x4200 = true) ∧
    (serve.mailboxUp 0 0 0x4201 = true) ∧
    (serve.mailboxUp 0 0 0x4203 = true) ∧
    (serve.mailboxUp 0 0 0x4300 = true ∧ serve.ldBlocks (16 * 0 + 0) = []) ∧
    ((mapped.modFs 0 (fun g => { g with frames := [(0, { st := .dirty, seg := 0, valid := 1, dirty := 1, poison := 1 })] })).mailboxUp 0 0 0x4300 = true ∧ (mapped.modFs 0 (fun g => { g with frames := [(0, { st := .dirty, seg := 0, valid := 1, dirty := 1, poison := 1 })] })).poisonedLines (16 * 0 + 0) 0 (2 ^ 52) = [0]) ∧
    (mapped.mailboxUp 0 0 0x4303 = true ∧ 0 < 64 ∧ mapped.ldLine (16 * 0 + 0) 0 = some 0) ∧
    (serve.mailboxUp 0 0 0x4305 = true) ∧
    (serve.mailboxUp 0 0 0x4800 = true ∧ agetD (8 * (16 * 0 + 0) + 7) {} serve.cap.regions = (({} : Region))) ∧
    (withExtent.mailboxUp 0 0 0x4801 = true ∧ 0 < 1 ∧ withExtent.cap.extents.filter (fun x => x.ld == 16 * 0 + 0 && x.accepted) = [(({ ld := 0, region := 0, start := 2, len := 1 } : Extent))]) ∧
    (serve.mailboxUp 0 0 0x9999 = true) := by
  repeat' apply And.intro
  all_goals decide +kernel

/-- States and operands that meet the hypotheses of each clause of MailboxChanges. -/
theorem witness_MailboxChanges :
    (logged.mailboxUp 0 0 0x0101 = true ∧ 3 < 4 ∧ 0 ≠ 3 ∧ 1 ≤ (vget 3 {} (logged.ldev (16 * 0 + 0)).logs).recs.length) ∧
    (logged.mailboxUp 0 0 0x0101 = true ∧ 3 < 4 ∧ (vget 3 {} (logged.ldev (16 * 0 + 0)).logs).recs.length < 2) ∧
    (serve.mailboxUp 0 0 0x0103 = true ∧ 255 < 256 ∧ 1 < 256 ∧ 2 < 256 ∧ 0 < 256) ∧
    (serve.mailboxUp 0 0 0x0201 = true ∧ serve.sec.staging = none ∧ 128 % 4 = 0 ∧ 128 ≤ 2 ^ 24 ∧ serve.sec.runSlot = 0 ∧ serve.sec.slots.length = 2) ∧
    (staged.mailboxUp 0 0 0x0201 = true ∧ staged.sec.staging = some (0, 0) ∧ 128 % 4 = 0 ∧ 0 < 128 ∧ 128 + 128 ≤ 2 ^ 24 ∧ staged.sec.runSlot = 0 ∧ staged.sec.slots.length = 2 ∧ (staged.fwSlot 1).staged = 128 ∧ (staged.fwSlot 1).partialImg = true) ∧
    (staged.mailboxUp 1 0 0x0201 = true ∧ staged.sec.staging = some (0, 0) ∧ 0 ≠ 1) ∧
    ((serve.modSlotFw 1 (fun k => { k with verdict := 1 })).mailboxUp 0 0 0x0202 = true ∧ (serve.modSlotFw 1 (fun k => { k with verdict := 1 })).sec.runSlot = 0 ∧ ((serve.modSlotFw 1 (fun k => { k with verdict := 1 })).fwSlot 1).verdict = 1) ∧
    (serve.mailboxUp 0 0 0x0202 = true) ∧
    (serve.mailboxUp 0 0 0x0301 = true ∧ (2 ^ 64 - 1) < 2 ^ 64 ∧ 1 ≠ 16 * 0 + 0) ∧
    (serve.mailboxUp 0 0 0x4202 = true ∧ ([1, 2, 3, 4, 5, 6, 7, 8]).length = 8 ∧ 1 ≠ 16 * 0 + 0) ∧
    (serve.mailboxUp 0 0 0x4204 = true ∧ 1 < 2 ∧ 1 ≠ 16 * 0 + 0) ∧
    (mapped.mailboxUp 0 0 0x4301 = true ∧ mapped.md.inService3 = true ∧ (mapped.ldev (16 * 0 + 0)).refused = false ∧ mapped.ldLine (16 * 0 + 0) 0 = some 0 ∧ mapped.lineFree 0 0 = true ∧ mapped.findFrame 0 (mapped.segLocal (0 / 4096)) = some 0 ∧ (mapped.frame 0 0).st = .dirty ∧ 1 ≠ 0) ∧
    (mapped.mailboxUp 0 0 0x4302 = true ∧ mapped.md.inService3 = true ∧ (mapped.ldev (16 * 0 + 0)).refused = false ∧ mapped.ldLine (16 * 0 + 0) 0 = some 0 ∧ mapped.lineFree 0 0 = true ∧ mapped.findFrame 0 (mapped.segLocal (0 / 4096)) = some 0 ∧ (mapped.frame 0 0).st = .dirty ∧ 1 ≠ 0) ∧
    (((oneTile.modCap (fun c => { c with table := [(0, { kind := 1 })] })).modXl 0 (fun x => { x with map := [(0, { st := .mapped, loc := 5 })] })).mailboxUp 0 0 0x4304 = true ∧ 0 < 64 ∧ ((oneTile.modCap (fun c => { c with table := [(0, { kind := 1 })] })).modXl 0 (fun x => { x with map := [(0, { st := .mapped, loc := 5 })] })).ldLine (16 * 0 + 0) 0 = some 0 ∧ (((oneTile.modCap (fun c => { c with table := [(0, { kind := 1 })] })).modXl 0 (fun x => { x with map := [(0, { st := .mapped, loc := 5 })] })).ldev (16 * 0 + 0)).bg = none ∧ ((oneTile.modCap (fun c => { c with table := [(0, { kind := 1 })] })).modXl 0 (fun x => { x with map := [(0, { st := .mapped, loc := 5 })] })).aliveTiles.map (fun d => (d, ((oneTile.modCap (fun c => { c with table := [(0, { kind := 1 })] })).modXl 0 (fun x => { x with map := [(0, { st := .mapped, loc := 5 })] })).mediaScan d (16 * 0 + 0) 0 64)) = [(0, [5])] ∧ 0 < 8) ∧
    (keyed.mailboxUp 0 0 0x4400 = true ∧ (keyed.ldev (16 * 0 + 0)).bg = none ∧ keyed.sec.replacing = [] ∧ (keyed.ldev (16 * 0 + 0)).key = 3 ∧ 3 ≠ 0 ∧ keyed.sec.stored = [(3, (0, 16 * 0 + 0, 0))] ∧ 3 < 256 ∧ keyed.cap.shares = []) ∧
    (keyed.mailboxUp 0 0 0x4401 = true ∧ (keyed.ldev (16 * 0 + 0)).bg = none ∧ keyed.sec.replacing = [] ∧ (keyed.ldev (16 * 0 + 0)).key = 3 ∧ 3 ≠ 0 ∧ keyed.sec.stored = [(3, (0, 16 * 0 + 0, 0))] ∧ 3 < 256 ∧ keyed.cap.shares = []) ∧
    (((withRegion false).modCap (fun c => { c with extents := [{ ld := 0, region := 0, start := 2, len := 1, accepted := false }] })).mailboxUp 0 0 0x4802 = true ∧ ((withRegion false).modCap (fun c => { c with extents := [{ ld := 0, region := 0, start := 2, len := 1, accepted := false }] })).cap.extents = [(({ ld := 0, region := 0, start := 2, len := 1, accepted := false } : Extent))] ∧ (({ ld := 0, region := 0, start := 2, len := 1, accepted := false } : Extent)).ld = 16 * 0 + 0 ∧ (({ ld := 0, region := 0, start := 2, len := 1, accepted := false } : Extent)).accepted = false ∧ (({ ld := 0, region := 0, start := 2, len := 1, accepted := false } : Extent)).start = 2 ∧ (({ ld := 0, region := 0, start := 2, len := 1, accepted := false } : Extent)).len = 1) ∧
    (serve.mailboxUp 0 0 0x4802 = true ∧ serve.cap.extents = []) ∧
    (withExtent.mailboxUp 0 0 0x4803 = true ∧ 0 < 8 ∧ withExtent.noWork = true ∧ withExtent.cap.table = [(4, { kind := 1, ld := 16 * 0 + 0, region := 0, ldBlk := 2 })] ∧ withExtent.cap.shares = [] ∧ (withExtent.aliveTiles.map (fun u => (withExtent.spanSegs u (blkSpans [4])).map (fun d => (u, d, 0)))).flatten = [] ∧ withExtent.cap.extents = [{ ld := 16 * 0 + 0, region := 0, start := 2, len := 1 }]) ∧
    (serve.mailboxUp 0 0 0x4803 = true ∧ serve.cap.table = [] ∧ serve.cap.shares = []) := by
  repeat' apply And.intro
  all_goals decide +kernel

/-- States and operands that meet the hypotheses of each clause of HeadSecurity. -/
theorem witness_HeadSecurity :
    ((linked 0).doeUp 0 = true ∧ 2 < 3) ∧
    ((mapped.modLd 0 (fun d => { d with key := 1 })).doeUp 0 = true ∧ (mapped.modLd 0 (fun d => { d with key := 1 })).presents 0 0 = true ∧ (mapped.modLd 0 (fun d => { d with key := 1 })).hdmRanges (16 * 0 + 0) = [(0, 1, false)] ∧ ((mapped.modLd 0 (fun d => { d with key := 1 })).head 0).bonded = false) ∧
    ((linked 7).doeUp 7 = true ∧ 0 ≠ 7) ∧
    ((linked 7).doeUp 7 = true) ∧
    (spdm.doeUp 0 = true ∧ (spdm.head 0).spdm ≠ 0) ∧
    ((linked 0).doeUp 0 = true ∧ ((linked 0).head 0).spdm = 0) ∧
    (spdm.doeUp 0 = true ∧ (spdm.head 0).spdm ≠ 0) ∧
    (spdm.doeUp 0 = true ∧ (spdm.head 0).spdm ≠ 0 ∧ (spdm.head 0).spdmAlg = true ∧ spdm.canSign = true) ∧
    ((spdm.modHead 0 (fun d => { d with spdmAlg := false })).doeUp 0 = true ∧ ((spdm.modHead 0 (fun d => { d with spdmAlg := false })).head 0).spdm ≠ 0 ∧ ((spdm.modHead 0 (fun d => { d with spdmAlg := false })).head 0).spdmAlg = false) ∧
    (spdm.doeUp 0 = true ∧ (spdm.head 0).spdm ≠ 0 ∧ 1 ≤ 8 ∧ 8 ≤ 8) ∧
    (spdm.doeUp 0 = true ∧ (spdm.head 0).spdm ≠ 0 ∧ (spdm.head 0).spdmAlg = true ∧ spdm.canSign = true ∧ 1 ≤ 1 ∧ 1 ≤ 8) ∧
    (spdm.doeUp 0 = true ∧ (spdm.head 0).spdm ≠ 0 ∧ (spdm.head 0).spdmAlg = true ∧ spdm.canSign = true ∧ 1 ≠ 0) ∧
    ((linked 0).doeUp 0 = true) ∧
    ((spdm.modSec (fun k => { k with secrets := [(1, 5)] })).doeUp 0 = true ∧ ((spdm.modSec (fun k => { k with secrets := [(1, 5)] })).head 0).session = true ∧ (spdm.modSec (fun k => { k with secrets := [(1, 5)] })).sec.secrets = [(1, 5)]) ∧
    ((spdm.modSec (fun k => { k with secrets := [(1, 5), (2, 5), (3, 5), (4, 5)] })).doeUp 0 = true ∧ ((spdm.modSec (fun k => { k with secrets := [(1, 5), (2, 5), (3, 5), (4, 5)] })).head 0).session = true ∧ 4 ≤ (spdm.modSec (fun k => { k with secrets := [(1, 5), (2, 5), (3, 5), (4, 5)] })).sec.secrets.length) ∧
    ((spdm.modSec (fun k => { k with secrets := [(1, 5)] })).doeUp 0 = true ∧ ((spdm.modSec (fun k => { k with secrets := [(1, 5)] })).head 0).session = true ∧ ahas 1 (spdm.modSec (fun k => { k with secrets := [(1, 5)] })).sec.secrets = true ∧ (spdm.modSec (fun k => { k with secrets := [(1, 5)] })).car.inGroup = false) ∧
    (((spdm.modSec (fun k => { k with secrets := [(1, 5)] })).modCar (fun c => { c with inGroup := true, handle := 1 })).doeUp 0 = true ∧ (((spdm.modSec (fun k => { k with secrets := [(1, 5)] })).modCar (fun c => { c with inGroup := true, handle := 1 })).head 0).session = true ∧ ((spdm.modSec (fun k => { k with secrets := [(1, 5)] })).modCar (fun c => { c with inGroup := true, handle := 1 })).car.inGroup = true ∧ ((spdm.modSec (fun k => { k with secrets := [(1, 5)] })).modCar (fun c => { c with inGroup := true, handle := 1 })).car.handle = 1) ∧
    (spdm.doeUp 0 = true ∧ (spdm.head 0).session = true) ∧
    (spdm.doeUp 0 = true ∧ spdm.ioPasses 0 (some (1, true)) = true ∧ (spdm.head 0).session = true ∧ 4 < 5 ∧ 1 < 2 ∧ 1 < 2 ∧ vget 4 {} (spdm.head 0).ide = (({} : IdeStream)) ∧ (({} : IdeStream)).rx ≠ some 1 ∧ (({} : IdeStream)).rxNew ≠ some 1 ∧ (({} : IdeStream)).tx ≠ some 1 ∧ 0 ≠ 4) ∧
    ((ideStream { rx := some 1 }).doeUp 0 = true ∧ (ideStream { rx := some 1 }).ioPasses 0 ((none : Option (Nat × Bool))) = true ∧ ((ideStream { rx := some 1 }).head 0).session = true ∧ 4 < 5 ∧ 1 < 2 ∧ (vget 4 {} ((ideStream { rx := some 1 }).head 0).ide).rx = some 1) ∧
    ((ideStream { sets := 5, rx := some 0 }).doeUp 0 = true ∧ (ideStream { sets := 5, rx := some 0 }).ioPasses 0 (some (1, true)) = true ∧ ((ideStream { sets := 5, rx := some 0 }).head 0).session = true ∧ 4 < 5 ∧ 1 < 2 ∧ vget 4 {} ((ideStream { sets := 5, rx := some 0 }).head 0).ide = (({ sets := 5, rx := some 0 } : IdeStream)) ∧ bitOf (({ sets := 5, rx := some 0 } : IdeStream)).sets (2 * 1) = true ∧ (({ sets := 5, rx := some 0 } : IdeStream)).rx = some (1 - 1) ∧ (({ sets := 5, rx := some 0 } : IdeStream)).insecure = false) ∧
    ((ideStream { sets := 8 }).doeUp 0 = true ∧ (ideStream { sets := 8 }).ioPasses 0 ((none : Option (Nat × Bool))) = true ∧ ((ideStream { sets := 8 }).head 0).session = true ∧ 4 < 5 ∧ 1 < 2 ∧ vget 4 {} ((ideStream { sets := 8 }).head 0).ide = (({ sets := 8 } : IdeStream)) ∧ bitOf (({ sets := 8 } : IdeStream)).sets (2 * 1 + 1) = true) ∧
    ((ideStream { sets := 8, tx := some 1 }).doeUp 0 = true ∧ ((ideStream { sets := 8, tx := some 1 }).head 0).session = true ∧ 4 < 5 ∧ 1 < 2 ∧ vget 4 {} ((ideStream { sets := 8, tx := some 1 }).head 0).ide = (({ sets := 8, tx := some 1 } : IdeStream)) ∧ (({ sets := 8, tx := some 1 } : IdeStream)).tx = some 1 ∧ bitOf (({ sets := 8, tx := some 1 } : IdeStream)).sets (2 * 1 + 1) = true) ∧
    (0 < 8 ∧ 4 < 5 ∧ vget 4 {} ((ideStream { sets := 5, rx := some 0, rxNew := some 1 }).head 0).ide = (({ sets := 5, rx := some 0, rxNew := some 1 } : IdeStream)) ∧ (({ sets := 5, rx := some 0, rxNew := some 1 } : IdeStream)).rxNew = some 1 ∧ (({ sets := 5, rx := some 0, rxNew := some 1 } : IdeStream)).rx = some 0 ∧ bitOf (({ sets := 5, rx := some 0, rxNew := some 1 } : IdeStream)).sets (2 * 0) = true ∧ 3 ≠ 4) := by
  repeat' apply And.intro
  all_goals decide +kernel

/-- States and operands that meet the hypotheses of each clause of SecurityCommands. -/
theorem witness_SecurityCommands :
    (serve.accepts pc0 0x0900 true = true ∧ serve.md.operating = true ∧ 128 % 4 = 0 ∧ 128 ≤ 2 ^ 20 ∧ 64 % 64 = 0 ∧ serve.sec.staging = none ∧ serve.sec.runSlot = 0 ∧ serve.sec.slots.length = 2) ∧
    ((serve.modSlotFw 1 (fun k => { k with staged := 128, partialImg := true })).accepts pc0 0x0900 true = true ∧ (serve.modSlotFw 1 (fun k => { k with staged := 128, partialImg := true })).md.operating = true ∧ 128 % 4 = 0 ∧ 128 ≤ 2 ^ 20 ∧ 64 % 64 = 0 ∧ (serve.modSlotFw 1 (fun k => { k with staged := 128, partialImg := true })).sec.staging = none ∧ (serve.modSlotFw 1 (fun k => { k with staged := 128, partialImg := true })).sec.runSlot = 0 ∧ (serve.modSlotFw 1 (fun k => { k with staged := 128, partialImg := true })).sec.slots.length = 2 ∧ 0 < 128 ∧ 128 + 128 ≤ 2 ^ 24 ∧ ((serve.modSlotFw 1 (fun k => { k with staged := 128, partialImg := true })).fwSlot 1).staged = 128 ∧ ((serve.modSlotFw 1 (fun k => { k with staged := 128, partialImg := true })).fwSlot 1).partialImg = true ∧ ((serve.modSlotFw 1 (fun k => { k with staged := 128, partialImg := true })).modSlotFw 1 (fun k => { k with partialImg := false, img := (({ version := 7 } : FwImage)) })).imageFail 1 0xFF = 0) ∧
    (({ serve.modSlotFw 1 (fun k => { k with staged := 128, partialImg := true }) with fuse := { svn := 1 } }).accepts pc0 0x0900 true = true ∧ ({ serve.modSlotFw 1 (fun k => { k with staged := 128, partialImg := true }) with fuse := { svn := 1 } }).md.operating = true ∧ 128 % 4 = 0 ∧ 128 ≤ 2 ^ 20 ∧ 64 % 64 = 0 ∧ ({ serve.modSlotFw 1 (fun k => { k with staged := 128, partialImg := true }) with fuse := { svn := 1 } }).sec.staging = none ∧ ({ serve.modSlotFw 1 (fun k => { k with staged := 128, partialImg := true }) with fuse := { svn := 1 } }).sec.runSlot = 0 ∧ ({ serve.modSlotFw 1 (fun k => { k with staged := 128, partialImg := true }) with fuse := { svn := 1 } }).sec.slots.length = 2 ∧ 0 < 128 ∧ 128 + 128 ≤ 2 ^ 24 ∧ (({ serve.modSlotFw 1 (fun k => { k with staged := 128, partialImg := true }) with fuse := { svn := 1 } }).fwSlot 1).staged = 128 ∧ (({ serve.modSlotFw 1 (fun k => { k with staged := 128, partialImg := true }) with fuse := { svn := 1 } }).fwSlot 1).partialImg = true ∧ (({ serve.modSlotFw 1 (fun k => { k with staged := 128, partialImg := true }) with fuse := { svn := 1 } }).modSlotFw 1 (fun k => { k with partialImg := false, img := (({} : FwImage)) })).imageFail 1 0xFF = 4) ∧
    (((inMode .service).modSlotFw 1 (fun k => { k with verdict := 1 })).accepts pc0 0x0901 true = true ∧ ((inMode .service).modSlotFw 1 (fun k => { k with verdict := 1 })).md.inService = true ∧ ((inMode .service).modSlotFw 1 (fun k => { k with verdict := 1 })).sec.runSlot = 0 ∧ (((inMode .service).modSlotFw 1 (fun k => { k with verdict := 1 })).fwSlot 1).verdict = 1) ∧
    ((inMode .service).accepts pc0 0x0901 true = true ∧ (inMode .service).md.inService = true ∧ (inMode .service).sec.runSlot = 0 ∧ ((inMode .service).fwSlot 1).verdict = 0) ∧
    (spdm.accepts pc0 0x0902 false = true ∧ 64 % 64 = 0 ∧ 0 < 255 ∧ 255 < 256 ∧ spdm.canSign = true) ∧
    ((serve.modSec (fun k => { k with lc := 5 })).accepts pc0 0x0902 false = true ∧ 0 < 1 ∧ 1 < 256 ∧ (serve.modSec (fun k => { k with lc := 5 })).deviceSigns = false) ∧
    (serve.sec.signers = []) ∧
    ((lifeCycle 5).accepts pc0 0x0903 true = true ∧ (lifeCycle 5).md.inService = true ∧ lcChange (lifeCycle 5).sec.lc 2 = none) ∧
    ((lifeCycle 2).accepts pc0 0x0903 true = true ∧ (lifeCycle 2).md.inService = true ∧ (lifeCycle 2).sec.lc = 2 ∧ (lifeCycle 2).car.inGroup = false ∧ (lifeCycle 2).fuse.gen < 64 ∧ 64 % 64 = 0) ∧
    ((owned [] 6).accepts pc0 0x0903 true = true ∧ (owned [] 6).md.inService = true ∧ (owned [] 6).sec.lc = 3 ∧ (owned [] 6).car.inGroup = false ∧ (owned [] 6).fuse.gen ≤ 64 ∧ 64 % 64 = 0 ∧ (owned [] 6).authFails < 7 ∧ (owned [] 6).secretOk ((([] : List Byte)).take 32) = false) ∧
    ((owned [] 8).accepts pc0 0x0903 true = true ∧ (owned [] 8).md.inService = true ∧ (owned [] 8).sec.lc = 3 ∧ (owned [] 8).car.inGroup = false ∧ (owned [] 8).fuse.gen ≤ 64 ∧ 64 % 64 = 0 ∧ 8 ≤ (owned [] 8).authFails) ∧
    ((lifeCycle 2).accepts pc0 0x0904 true = true ∧ (lifeCycle 2).md.inService = true ∧ 7 < 8 ∧ 64 % 64 = 0 ∧ (lifeCycle 2).authFails < 7) := by
  repeat' apply And.intro
  all_goals decide +kernel

/-- States and operands that meet the hypotheses of each clause of Sideband. -/
theorem witness_Sideband :
    (off.md.mode = .off) ∧
    (off.md.mode = .off) ∧
    (off.md.mode = .off) ∧
    (off.md.mode = .off) ∧
    (off.md.mode = .off) ∧
    (off.md.mode = .off) ∧
    (standby.md.mode ≠ .off) ∧
    (standby.md.mode ≠ .off ∧ standby.thm.dynAddr = none) ∧
    ((standby.modThm (fun x => { x with dynAddr := some 8 })).thm.dynAddr = some 8) ∧
    (standby.md.mode ≠ .off ∧ 8 ≤ 254 ∧ 254 ≤ 254) ∧
    (standby.md.mode ≠ .off ∧ ((255 < 8 ∨ 254 < 255))) ∧
    (standby.md.mode ≠ .off) ∧
    (standby.md.mode ≠ .off) ∧
    (standby.md.mode ≠ .off) ∧
    (standby.md.mode ≠ .off) ∧
    (standby.md.mode ≠ .off) ∧
    (standby.md.mode ≠ .off) ∧
    (standby.md.mode ≠ .off) ∧
    (standby.md.mode ≠ .off) ∧
    (serve.md.mode ≠ .off ∧ 7 < serve.pop.tiles ∧ 3 < 4) ∧
    (standby.md.mode ≠ .off) ∧
    (standby.md.mode ≠ .off ∧ ((62 = 0 ∨ (8 < 62 ∧ 62 < 16) ∨ (51 < 62 ∧ 62 < 56) ∨ 61 < 62)) ∧ standby.pop.legal = true) ∧
    (standby.md.mode ≠ .off) ∧
    (standby.md.mode = .standby ∧ ((51 = 48 ∨ 51 = 49 ∨ 51 = 50 ∨ 51 = 51 ∨ 51 = 58 ∨ 51 = 59))) ∧
    (standby.md.mode ≠ .off ∧ 7 < 8) ∧
    (standby.md.mode ≠ .off ∧ standby.md.mode ≠ .holdup ∧ 7 < 8) ∧
    ((standby.modPw (fun x => { x with fault := true })).md.mode ≠ .off ∧ (standby.modPw (fun x => { x with fault := true })).pw.fault = true ∧ (standby.modPw (fun x => { x with fault := true })).pw.onLatched = none) ∧
    (standby.md.mode ≠ .off ∧ standby.pw.fault = false) ∧
    (standby.md.mode ≠ .off) ∧
    (standby.md.mode ≠ .off) ∧
    ((standby.setReg Reg.THM_ALERT 0x101#32).md.mode ≠ .off) ∧
    (standby.md.mode ≠ .off ∧ 5 ≠ 0 ∧ 5 ≠ 1 ∧ 5 ≠ 7 ∧ 5 ≠ 0x7F) ∧
    (standby.md.mode ≠ .off ∧ ((1 = 0 ∨ 1 = 1 ∨ 1 = 0x7F))) ∧
    (standby.md.mode ≠ .off) := by
  repeat' apply And.intro
  all_goals decide +kernel

/-- States and operands that meet the hypotheses of each clause of ThermalConversions. -/
theorem witness_ThermalConversions :
    (serve.converts 3 = false) ∧
    (({ (standby.requestConv [519] 3) with ps := { els := [(Param.THERM_PARAMS, leBytes 2 10000 ++ leBytes 2 3435 ++ leBytes 2 10000 ++ leBytes 2 1008)] } }).md.mode = .standby ∧ 7 < 8 ∧ ({ (standby.requestConv [519] 3) with ps := { els := [(Param.THERM_PARAMS, leBytes 2 10000 ++ leBytes 2 3435 ++ leBytes 2 10000 ++ leBytes 2 1008)] } }).convQuiet (512 + 7) 3 = true ∧ ({ (standby.requestConv [519] 3) with ps := { els := [(Param.THERM_PARAMS, leBytes 2 10000 ++ leBytes 2 3435 ++ leBytes 2 10000 ++ leBytes 2 1008)] } }).readingOf (512 + 7) ((32768 : Int)) = some ((200 : Int))) ∧
    ((serve.requestConv [3] 3).convQuiet 3 3 = true ∧ (some 1201).bind ((serve.requestConv [3] 3).readingOf 3) = none) ∧
    ((serve.requestConv [3] 3).convQuiet 3 3 = true ∧ (serve.requestConv [3] 3).md.operating = true ∧ (serve.requestConv [3] 3).readingOf 3 ((840 : Int)) = some ((840 : Int)) ∧ ((serve.requestConv [3] 3).sensor 3).hist = [] ∧ ((serve.requestConv [3] 3).sensor 3).warn = false ∧ 8 * (fieldOf ((serve.requestConv [3] 3).getReg (limitReg (sensorGroup 3))) 15 8 : Int) ≤ ((840 : Int)) ∧ ((840 : Int)) < 8 * (fieldOf ((serve.requestConv [3] 3).getReg (limitReg (sensorGroup 3))) 23 16 : Int) ∧ ((840 : Int)) < 8 * (fieldOf ((serve.requestConv [3] 3).getReg (limitReg (sensorGroup 3))) 31 24 : Int)) ∧
    (((serve.requestConv [3] 3).modSensor 3 (fun x => { x with warn := true, warnLow := 1 })).convQuiet 3 3 = true ∧ ((serve.requestConv [3] 3).modSensor 3 (fun x => { x with warn := true, warnLow := 1 })).md.operating = true ∧ ((serve.requestConv [3] 3).modSensor 3 (fun x => { x with warn := true, warnLow := 1 })).readingOf 3 ((720 : Int)) = some ((720 : Int)) ∧ (((serve.requestConv [3] 3).modSensor 3 (fun x => { x with warn := true, warnLow := 1 })).sensor 3).hist = [] ∧ (((serve.requestConv [3] 3).modSensor 3 (fun x => { x with warn := true, warnLow := 1 })).sensor 3).warn = true ∧ (((serve.requestConv [3] 3).modSensor 3 (fun x => { x with warn := true, warnLow := 1 })).sensor 3).warnLow = 1 ∧ ((720 : Int)) ≤ 8 * ((fieldOf (((serve.requestConv [3] 3).modSensor 3 (fun x => { x with warn := true, warnLow := 1 })).getReg (limitReg (sensorGroup 3))) 15 8 : Int) - ((serve.requestConv [3] 3).modSensor 3 (fun x => { x with warn := true, warnLow := 1 })).hyst) ∧ ((720 : Int)) < 8 * (fieldOf (((serve.requestConv [3] 3).modSensor 3 (fun x => { x with warn := true, warnLow := 1 })).getReg (limitReg (sensorGroup 3))) 23 16 : Int) ∧ ((720 : Int)) < 8 * (fieldOf (((serve.requestConv [3] 3).modSensor 3 (fun x => { x with warn := true, warnLow := 1 })).getReg (limitReg (sensorGroup 3))) 31 24 : Int)) ∧
    ((serve.requestConv [3] 3).convQuiet 3 3 = true ∧ (serve.requestConv [3] 3).md.operating = true ∧ (serve.requestConv [3] 3).readingOf 3 ((1000 : Int)) = some ((1000 : Int)) ∧ ((serve.requestConv [3] 3).sensor 3).shutWait = false ∧ 8 * (fieldOf ((serve.requestConv [3] 3).getReg (limitReg (sensorGroup 3))) 31 24 : Int) ≤ ((1000 : Int))) ∧
    (aget (sensorTile 3) ((serve.requestConv [3] 3).modSensor 3 (fun x => { x with shutWait := true })).thm.converting = some (3, 3) ∧ ((serve.requestConv [3] 3).modSensor 3 (fun x => { x with shutWait := true })).convAllowed 3 3 = true ∧ ((serve.requestConv [3] 3).modSensor 3 (fun x => { x with shutWait := true })).md.operating = true ∧ ((serve.requestConv [3] 3).modSensor 3 (fun x => { x with shutWait := true })).pw.seq = .up ∧ ((serve.requestConv [3] 3).modSensor 3 (fun x => { x with shutWait := true })).readingOf 3 ((1000 : Int)) = some ((1000 : Int)) ∧ (((serve.requestConv [3] 3).modSensor 3 (fun x => { x with shutWait := true })).sensor 3).shutWait = true ∧ 8 * (fieldOf (((serve.requestConv [3] 3).modSensor 3 (fun x => { x with shutWait := true })).getReg (limitReg (sensorGroup 3))) 31 24 : Int) ≤ ((1000 : Int))) ∧
    (aget (sensorTile 3) (((inMode .holdup).requestConv [3] 3).modSensor 3 (fun x => { x with shutWait := true })).thm.converting = some (3, 3) ∧ (((inMode .holdup).requestConv [3] 3).modSensor 3 (fun x => { x with shutWait := true })).convAllowed 3 3 = true ∧ (((inMode .holdup).requestConv [3] 3).modSensor 3 (fun x => { x with shutWait := true })).md.mode = .holdup ∧ (((inMode .holdup).requestConv [3] 3).modSensor 3 (fun x => { x with shutWait := true })).readingOf 3 ((1000 : Int)) = some ((1000 : Int)) ∧ ((((inMode .holdup).requestConv [3] 3).modSensor 3 (fun x => { x with shutWait := true })).sensor 3).shutWait = true ∧ 8 * (fieldOf ((((inMode .holdup).requestConv [3] 3).modSensor 3 (fun x => { x with shutWait := true })).getReg (limitReg (sensorGroup 3))) 31 24 : Int) ≤ ((1000 : Int))) ∧
    (((serve.modSensor 519 (fun x => { x with rise := some 0 })).sensor 519).rise.isSome = true ∧ (serve.modSensor 519 (fun x => { x with rise := some 0 })).sensorExists 519 = true ∧ (serve.modSensor 519 (fun x => { x with rise := some 0 })).md.mode ≠ .holdup) ∧
    ((((serve.sensor 519).rise = none ∨ serve.md.mode = .holdup))) ∧
    (serve.md.mode ≠ .off ∧ serve.fld Reg.THM_CTL 7 4 ≠ 0 ∧ 100 * serve.fld Reg.THM_CTL 7 4 ≤ 10000 ∧ serve.alive 7 = true ∧ 7 < 8 ∧ 1 < 2 ∧ bitOf 128 7 = true ∧ (serve.sensor (64 * 7 + 8 + 2 * 7 + 1)).request = none) ∧
    ((((serve.setReg Reg.THM_CTL 0#32).fld Reg.THM_CTL 7 4 = 0 ∨ 10000 < 100 * (serve.setReg Reg.THM_CTL 0#32).fld Reg.THM_CTL 7 4))) ∧
    (serve.md.operating = true ∧ serve.pw.seq = .up ∧ serve.alive 7 = true) ∧
    ((inMode .holdup).md.mode = .holdup ∧ (inMode .holdup).alive 7 = true) ∧
    (((standby.md.mode = .off ∨ standby.md.mode = .standby))) ∧
    (serve.accepts pc0 0x0800 false = true ∧ 128 < 2 ^ serve.pop.tiles ∧ bitOf 128 7 = true ∧ serve.alive 7 = true ∧ 5 < 6 ∧ serve.thm.jobs = []) ∧
    (serve.accepts pc0 0x0800 false = true ∧ ((2 ^ serve.pop.tiles ≤ 256 ∨ 0 = 0))) ∧
    (aget (sensorTile 68) (((serve.modThm (fun x => { x with jobs := [{ ring := 0, cid := 7, left := [68], named := [68], faults := 1 }] })).requestConv [68] 5).modRing 0 (fun g => { g with execs := [{ cid := 7, opcode := 0x800 }] })).thm.converting = some (68, 5) ∧ (((serve.modThm (fun x => { x with jobs := [{ ring := 0, cid := 7, left := [68], named := [68], faults := 1 }] })).requestConv [68] 5).modRing 0 (fun g => { g with execs := [{ cid := 7, opcode := 0x800 }] })).convAllowed 68 5 = true ∧ (((serve.modThm (fun x => { x with jobs := [{ ring := 0, cid := 7, left := [68], named := [68], faults := 1 }] })).requestConv [68] 5).modRing 0 (fun g => { g with execs := [{ cid := 7, opcode := 0x800 }] })).thm.jobs = [{ ring := pc0.ring, cid := pc0.cid, left := [68], named := ([68]), faults := 1 }] ∧ pc0.ring < 64 ∧ (((serve.modThm (fun x => { x with jobs := [{ ring := 0, cid := 7, left := [68], named := [68], faults := 1 }] })).requestConv [68] 5).modRing 0 (fun g => { g with execs := [{ cid := 7, opcode := 0x800 }] })).underWay pc0 = true ∧ 68 < 512 ∧ (((serve.modThm (fun x => { x with jobs := [{ ring := 0, cid := 7, left := [68], named := [68], faults := 1 }] })).requestConv [68] 5).modRing 0 (fun g => { g with execs := [{ cid := 7, opcode := 0x800 }] })).thm.rearm = []) ∧
    (serve.accepts pc0 0x0801 true = true ∧ serve.md.operating = true ∧ 0 < 3 ∧ 1 < 2 ∧ 2 < 125 ∧ 125 < 256 ∧ ((0 = 0 → 125 ≤ 125)) ∧ 5 ≤ 5 ∧ 5 < 256) ∧
    (serve.accepts pc0 0x0801 true = true ∧ serve.md.operating = true ∧ ((3 ≤ 0 ∨ (0 = 0 ∧ 125 < 126) ∨ 5 < 5 ∨ 2 ≤ 1 ∨ 126 ≤ 2))) := by
  repeat' apply And.intro
  all_goals decide +kernel

/-- States and operands that meet the hypotheses of each clause of Fans. -/
theorem witness_Fans :
    ((serve.modFan 3 (fun x => { x with enable := false, duty := 9 })).fansRun = true ∧ 3 < 4 ∧ (vget 3 {} (serve.modFan 3 (fun x => { x with enable := false, duty := 9 })).thm.fans).enable = false) ∧
    (serve.fansRun = true ∧ 3 < 4 ∧ (vget 3 {} serve.thm.fans).enable = true ∧ 2 < 3 ∧ bitOf (vget 3 {} serve.thm.fans).groups 2 = true ∧ serve.groupReading 2 5 = none) ∧
    ((serve.modFan 3 (fun x => { x with failed := true })).fansRun = true ∧ 0 < 4 ∧ 3 < 4 ∧ 3 ≠ 0 ∧ (vget 3 {} (serve.modFan 3 (fun x => { x with failed := true })).thm.fans).failed = true ∧ (vget 0 {} (serve.modFan 3 (fun x => { x with failed := true })).thm.fans).enable = true ∧ (vget 0 {} (serve.modFan 3 (fun x => { x with failed := true })).thm.fans).duty ≤ 255) ∧
    (((serve.modFan 3 (fun x => { x with groups := 4, duty := 90 })).modSensor 519 (fun x => { x with fault := false, value := 272 })).fansRun = true ∧ 3 < 4 ∧ (vget 3 {} ((serve.modFan 3 (fun x => { x with groups := 4, duty := 90 })).modSensor 519 (fun x => { x with fault := false, value := 272 })).thm.fans).enable = true ∧ (vget 3 {} ((serve.modFan 3 (fun x => { x with groups := 4, duty := 90 })).modSensor 519 (fun x => { x with fault := false, value := 272 })).thm.fans).groups = 4 ∧ ((serve.modFan 3 (fun x => { x with groups := 4, duty := 90 })).modSensor 519 (fun x => { x with fault := false, value := 272 })).groupReading 2 5 = some ((272 : Int)) ∧ ((serve.modFan 3 (fun x => { x with groups := 4, duty := 90 })).modSensor 519 (fun x => { x with fault := false, value := 272 })).groupHot 2 = false ∧ (vget 0 {} ((serve.modFan 3 (fun x => { x with groups := 4, duty := 90 })).modSensor 519 (fun x => { x with fault := false, value := 272 })).thm.fans).failed = false ∧ (vget 1 {} ((serve.modFan 3 (fun x => { x with groups := 4, duty := 90 })).modSensor 519 (fun x => { x with fault := false, value := 272 })).thm.fans).failed = false ∧ (vget 2 {} ((serve.modFan 3 (fun x => { x with groups := 4, duty := 90 })).modSensor 519 (fun x => { x with fault := false, value := 272 })).thm.fans).failed = false ∧ (vget 3 {} ((serve.modFan 3 (fun x => { x with groups := 4, duty := 90 })).modSensor 519 (fun x => { x with fault := false, value := 272 })).thm.fans).failed = false) ∧
    (((standby.md.mode = .off ∨ standby.md.mode = .standby ∨ standby.md.mode = .holdup))) ∧
    ((serve.modFan 3 (fun x => { x with duty := 77 })).fansRun = true ∧ 3 < 4 ∧ (vget 3 {} (serve.modFan 3 (fun x => { x with duty := 77 })).thm.fans).enable = true ∧ (serve.modFan 3 (fun x => { x with duty := 77 })).tachOn 3 = true ∧ (vget 3 {} (serve.modFan 3 (fun x => { x with duty := 77 })).thm.fans).failed = false ∧ 77 ≤ (vget 3 {} (serve.modFan 3 (fun x => { x with duty := 77 })).thm.fans).duty ∧ 499 < (vget 3 {} (serve.modFan 3 (fun x => { x with duty := 77 })).thm.fans).stallRpm) ∧
    ((((vget 3 {} (serve.modFan 3 (fun x => { x with duty := 77 })).thm.fans).duty < 77 ∨ (vget 3 {} (serve.modFan 3 (fun x => { x with duty := 77 })).thm.fans).stallRpm ≤ 500 ∨ (serve.modFan 3 (fun x => { x with duty := 77 })).tachOn 3 = false ∨ (serve.modFan 3 (fun x => { x with duty := 77 })).fansRun = false))) ∧
    ((serve.modFan 3 (fun x => { x with failed := true })).fansRun = true ∧ 3 < 4 ∧ (vget 3 {} (serve.modFan 3 (fun x => { x with failed := true })).thm.fans).failed = true ∧ (vget 3 {} (serve.modFan 3 (fun x => { x with failed := true })).thm.fans).stallRpm ≤ 500) ∧
    ((((vget 3 {} (serve.modFan 3 (fun x => { x with failed := true })).thm.fans).failed = false ∨ 499 < (vget 3 {} (serve.modFan 3 (fun x => { x with failed := true })).thm.fans).stallRpm))) ∧
    (serve.accepts pc0 0x0802 true = true ∧ serve.md.operating = true ∧ 3 < 4 ∧ 64 % 64 = 0 ∧ fanRecordOk (fanBytes ({} : Fan)) = true ∧ ((bitOf (leAt (fanBytes ({} : Fan)) 0 1) 1 = false ∨ bitOf (serve.fld Reg.THM_GPIO_CTL 3 0) 3 = false))) ∧
    (serve.accepts pc0 0x0802 true = true ∧ serve.md.operating = true ∧ ((63 % 64 ≠ 0 ∨ fanRecordOk (fanBytes ({} : Fan)) = false))) ∧
    ((serve.setReg Reg.THM_GPIO_CTL 8#32).accepts pc0 0x0802 true = true ∧ (serve.setReg Reg.THM_GPIO_CTL 8#32).md.operating = true ∧ 64 % 64 = 0 ∧ fanRecordOk (fanBytes ({} : Fan)) = true ∧ bitOf (leAt (fanBytes ({} : Fan)) 0 1) 1 = true ∧ bitOf ((serve.setReg Reg.THM_GPIO_CTL 8#32).fld Reg.THM_GPIO_CTL 3 0) 3 = true) := by
  repeat' apply And.intro
  all_goals decide +kernel

/-- States and operands that meet the hypotheses of each clause of RingEngine. -/
theorem witness_RingEngine :
    (1 < 64 ∧ (fetching.ring 1).state = .running ∧ fetching.md.ringsRun = true ∧ (fetching.head (fetching.ring 1).head).outbound = [{ ring := 1, cid := none, count := 1 }] ∧ ([({ opcode := 0, cid := 3, flags := 1, rsv := 0, params := 0 } : DescWord)]).length = 1 ∧ (fetching.ring 1).head < 8) ∧
    (1 < 64 ∧ (fetching.ring 1).state = .running ∧ fetching.md.ringsRun = true ∧ (fetching.head (fetching.ring 1).head).outbound = [{ ring := 1, cid := none, count := 1 }] ∧ (fetching.ring 1).head < 8 ∧ fetching.isEvtRing 1 = false) ∧
    (1 < 64 ∧ (fetching.ring 1).state = .running ∧ fetching.md.ringsRun = true ∧ (fetching.head (fetching.ring 1).head).ctoUs ≤ 50000 ∧ (fetching.head (fetching.ring 1).head).outbound = [{ ring := 1, cid := none, count := 1 }] ∧ (fetching.ring 1).head < 8 ∧ fetching.isEvtRing 1 = false) ∧
    ((serve.head (serve.ring 1).head).outbound = []) ∧
    (1 < 64 ∧ ((ready 0).modRing 0 (fun g => { g with fetched := [] })).md.ringsRun = true ∧ ((ready 0).modRing 0 (fun g => { g with fetched := [] })).executing < 256 ∧ ((ready 0).modRing 0 (fun g => { g with fetched := [] })).canStartCmd 1 = true ∧ (((ready 0).modRing 0 (fun g => { g with fetched := [] })).ring 1).fetched.head? = some (({ opcode := 0, cid := 3, flags := 1, rsv := 0, params := 0 } : Desc)) ∧ (List.range 64).all (fun k => k == 1 || !((ready 0).modRing 0 (fun g => { g with fetched := [] })).canStartCmd k) = true) ∧
    (1 < 64 ∧ ((ready 0x777).modRing 0 (fun g => { g with fetched := [] })).md.ringsRun = true ∧ ((ready 0x777).modRing 0 (fun g => { g with fetched := [] })).executing < 256 ∧ ((ready 0x777).modRing 0 (fun g => { g with fetched := [] })).canStartCmd 1 = true ∧ (((ready 0x777).modRing 0 (fun g => { g with fetched := [] })).ring 1).fetched = (({ opcode := 0x777, cid := 3, flags := 1, rsv := 0, params := 0 } : Desc)) :: (([] : List Desc)) ∧ (({ opcode := 0x777, cid := 3, flags := 1, rsv := 0, params := 0 } : Desc)).opcode = 0x0777 ∧ (List.range 64).all (fun k => k == 1 || !((ready 0x777).modRing 0 (fun g => { g with fetched := [] })).canStartCmd k) = true) ∧
    (0 < 1 ∧ 1 < 64 ∧ ({ ready 0 with porter := { (ready 0).porter with lastServed := 0 } }).md.ringsRun = true ∧ ({ ready 0 with porter := { (ready 0).porter with lastServed := 0 } }).executing < 256 ∧ ({ ready 0 with porter := { (ready 0).porter with lastServed := 0 } }).canStartCmd 0 = true ∧ ({ ready 0 with porter := { (ready 0).porter with lastServed := 0 } }).canStartCmd 1 = true ∧ ({ ready 0 with porter := { (ready 0).porter with lastServed := 0 } }).porter.lastServed = 0 ∧ (List.range 64).all (fun k => k == 0 || k == 1 || !({ ready 0 with porter := { (ready 0).porter with lastServed := 0 } }).canStartCmd k) = true) ∧
    (((256 ≤ standby.executing ∨ standby.md.ringsRun = false))) ∧
    (pc0.ring < 64 ∧ ((ending { cid := 7, opcode := 0, imm := true, result := some { status := 0, results := [(8, 5)] } }).ring pc0.ring).execs = [(({ cid := 7, opcode := 0, imm := true, result := some { status := 0, results := [(8, 5)] } } : Exec))] ∧ (({ cid := 7, opcode := 0, imm := true, result := some { status := 0, results := [(8, 5)] } } : Exec)).cid = pc0.cid ∧ (({ cid := 7, opcode := 0, imm := true, result := some { status := 0, results := [(8, 5)] } } : Exec)).result = some (({ status := 0, results := [(8, 5)] } : CmdResult)) ∧ (ending { cid := 7, opcode := 0, imm := true, result := some { status := 0, results := [(8, 5)] } }).awaitsAny pc0 = false ∧ (({ cid := 7, opcode := 0, imm := true, result := some { status := 0, results := [(8, 5)] } } : Exec)).late = false ∧ (({ cid := 7, opcode := 0, imm := true, result := some { status := 0, results := [(8, 5)] } } : Exec)).discard = false ∧ ((ending { cid := 7, opcode := 0, imm := true, result := some { status := 0, results := [(8, 5)] } }).ring pc0.ring).state = .running ∧ ((ending { cid := 7, opcode := 0, imm := true, result := some { status := 0, results := [(8, 5)] } }).ring pc0.ring).sqTail = ((ending { cid := 7, opcode := 0, imm := true, result := some { status := 0, results := [(8, 5)] } }).ring pc0.ring).sqHead ∧ (({ cid := 7, opcode := 0, imm := true, result := some { status := 0, results := [(8, 5)] } } : Exec)).imm = true) ∧
    (pc0.ring < 64 ∧ (((ending { cid := 7, opcode := 0, result := some { status := 0 } }).setReg (Reg.RING_MOD 0) 0x10002#32).ring pc0.ring).execs = [(({ cid := 7, opcode := 0, result := some { status := 0 } } : Exec))] ∧ (({ cid := 7, opcode := 0, result := some { status := 0 } } : Exec)).cid = pc0.cid ∧ (({ cid := 7, opcode := 0, result := some { status := 0 } } : Exec)).result = some (({ status := 0 } : CmdResult)) ∧ ((ending { cid := 7, opcode := 0, result := some { status := 0 } }).setReg (Reg.RING_MOD 0) 0x10002#32).awaitsAny pc0 = false ∧ (({ cid := 7, opcode := 0, result := some { status := 0 } } : Exec)).late = false ∧ (({ cid := 7, opcode := 0, result := some { status := 0 } } : Exec)).discard = false ∧ (((ending { cid := 7, opcode := 0, result := some { status := 0 } }).setReg (Reg.RING_MOD 0) 0x10002#32).ring pc0.ring).state = .running ∧ (((ending { cid := 7, opcode := 0, result := some { status := 0 } }).setReg (Reg.RING_MOD 0) 0x10002#32).ring pc0.ring).sqTail = (((ending { cid := 7, opcode := 0, result := some { status := 0 } }).setReg (Reg.RING_MOD 0) 0x10002#32).ring pc0.ring).sqHead ∧ (({ cid := 7, opcode := 0, result := some { status := 0 } } : Exec)).imm = false ∧ (({ status := 0 } : CmdResult)).status = Status.success.code ∧ (((ending { cid := 7, opcode := 0, result := some { status := 0 } }).setReg (Reg.RING_MOD 0) 0x10002#32).ring pc0.ring).coalCount + 1 < ((ending { cid := 7, opcode := 0, result := some { status := 0 } }).setReg (Reg.RING_MOD 0) 0x10002#32).fld (Reg.RING_MOD pc0.ring) 7 0 ∧ ((ending { cid := 7, opcode := 0, result := some { status := 0 } }).setReg (Reg.RING_MOD 0) 0x10002#32).fld (Reg.RING_MOD pc0.ring) 31 16 ≠ 0) ∧
    (pc0.ring < 64 ∧ ((ending { cid := 7, opcode := 0, late := true, result := some { status := 0 } }).ring pc0.ring).execs = [(({ cid := 7, opcode := 0, late := true, result := some { status := 0 } } : Exec))] ∧ (({ cid := 7, opcode := 0, late := true, result := some { status := 0 } } : Exec)).cid = pc0.cid ∧ (({ cid := 7, opcode := 0, late := true, result := some { status := 0 } } : Exec)).result = some (({ status := 0 } : CmdResult)) ∧ (ending { cid := 7, opcode := 0, late := true, result := some { status := 0 } }).awaitsAny pc0 = false ∧ (({ cid := 7, opcode := 0, late := true, result := some { status := 0 } } : Exec)).late = true ∧ (ending { cid := 7, opcode := 0, late := true, result := some { status := 0 } }).isEvtRing pc0.ring = false ∧ ((ending { cid := 7, opcode := 0, late := true, result := some { status := 0 } }).ring pc0.ring).sqTail = ((ending { cid := 7, opcode := 0, late := true, result := some { status := 0 } }).ring pc0.ring).sqHead) ∧
    ((serve.modPs (fun p => { p with waiters := [.porter 0 7] })).awaitsAny pc0 = true) ∧
    (pc0.ring < 64 ∧ ((ending { cid := 7, opcode := 0x0102 }).ring pc0.ring).execs = [(({ cid := 7, opcode := 0x0102 } : Exec))] ∧ (({ cid := 7, opcode := 0x0102 } : Exec)).cid = pc0.cid ∧ (({ cid := 7, opcode := 0x0102 } : Exec)).late = false ∧ (({ cid := 7, opcode := 0x0102 } : Exec)).discard = false ∧ ((ending { cid := 7, opcode := 0x0102 }).ring pc0.ring).state = .running ∧ ((ending { cid := 7, opcode := 0x0102 }).ring pc0.ring).sqTail = ((ending { cid := 7, opcode := 0x0102 }).ring pc0.ring).sqHead ∧ (({ cid := 7, opcode := 0x0102 } : Exec)).result = none ∧ (ending { cid := 7, opcode := 0x0102 }).execBound pc0.ring (({ cid := 7, opcode := 0x0102 } : Exec)) = some 10000 ∧ 10000 ≤ 1000000000) ∧
    (pc0.ring < 64 ∧ ((ending { cid := 7, opcode := 0x0B01 }).ring pc0.ring).execs = [(({ cid := 7, opcode := 0x0B01 } : Exec))] ∧ (({ cid := 7, opcode := 0x0B01 } : Exec)).cid = pc0.cid ∧ (({ cid := 7, opcode := 0x0B01 } : Exec)).result = none ∧ (((({ cid := 7, opcode := 0x0B01 } : Exec)).opcode = 0x0501 ∨ (({ cid := 7, opcode := 0x0B01 } : Exec)).opcode = 0x0600 ∨ (({ cid := 7, opcode := 0x0B01 } : Exec)).opcode = 0x0802 ∨ (({ cid := 7, opcode := 0x0B01 } : Exec)).opcode = 0x0900 ∨ (({ cid := 7, opcode := 0x0B01 } : Exec)).opcode = 0x0903 ∨ (({ cid := 7, opcode := 0x0B01 } : Exec)).opcode = 0x0904 ∨ (({ cid := 7, opcode := 0x0B01 } : Exec)).opcode = 0x0A01 ∨ (({ cid := 7, opcode := 0x0B01 } : Exec)).opcode = 0x0B01 ∨ (({ cid := 7, opcode := 0x0B01 } : Exec)).opcode = 0x0B03)) ∧ (ending { cid := 7, opcode := 0x0B01 }).awaitsAny pc0 = false) ∧
    (0 < 64 ∧ ((ending { cid := 7, opcode := 0x0B01 }).head ((ending { cid := 7, opcode := 0x0B01 }).ring 0).head).ctoUs ≤ 50000 ∧ ((ending { cid := 7, opcode := 0x0B01 }).ring 0).execs = [(({ cid := 7, opcode := 0x0B01 } : Exec))] ∧ (({ cid := 7, opcode := 0x0B01 } : Exec)).cid = 7 ∧ (({ cid := 7, opcode := 0x0B01 } : Exec)).result = none ∧ (({ cid := 7, opcode := 0x0B01 } : Exec)).opcode = 0x0B01 ∧ (ending { cid := 7, opcode := 0x0B01 }).awaitsAny { ring := 0, cid := 7 } = false) ∧
    (63 < 64 ∧ 0 < ((serve.modRing 63 (fun g => { g with coalCount := 1, coalTime := 9 })).ring 63).coalCount ∧ ((serve.modRing 63 (fun g => { g with coalCount := 1, coalTime := 9 })).ring 63).coalTime ≤ 9) ∧
    (((((serve.modRing 63 (fun g => { g with coalCount := 1, coalTime := 9 })).ring 63).coalCount = 0 ∨ 8 < ((serve.modRing 63 (fun g => { g with coalCount := 1, coalTime := 9 })).ring 63).coalTime))) ∧
    (((ending { cid := 7, opcode := 0x0102 }).ring pc0.ring).execs = [(({ cid := 7, opcode := 0x0102 } : Exec))] ∧ (((({ cid := 7, opcode := 0x0102 } : Exec)).result.isSome = true ∨ 9 < 10000)) ∧ (ending { cid := 7, opcode := 0x0102 }).execBound pc0.ring (({ cid := 7, opcode := 0x0102 } : Exec)) = some 10000 ∧ (ending { cid := 7, opcode := 0x0102 }).awaitsAny pc0 = false) ∧
    (49999 < (fetching.head (fetching.ring 1).head).ctoUs) ∧
    (63 < 64 ∧ ((serve.modRing 63 (fun g => { g with state := .disabling })).ring 63).state = .disabling) := by
  repeat' apply And.intro
  all_goals decide +kernel

/-- States and operands that meet the hypotheses of each clause of PorterBasics. -/
theorem witness_PorterBasics :
    (serve.accepts pc0 0x0000 false = true) ∧
    (serve.accepts pc0 0x0001 false = true ∧ 64 % 64 = 0) ∧
    (serve.accepts pc0 0x0001 false = true ∧ 65 % 64 ≠ 0) ∧
    (serve.accepts pc0 0x0004 false = true ∧ serve.sec.romOnly = false) ∧
    (((standby.md.mode = .off ∨ standby.md.mode = .standby ∨ standby.md.mode = .holdup))) ∧
    (serve.accepts (({ ring := 1, cid := 7 } : PortCmd)) 0x0B01 false = true ∧ serve.ringPriv (({ ring := 1, cid := 7 } : PortCmd)).ring = false) ∧
    (serve.accepts pc0 0x0A01 true = true ∧ serve.md.mode ≠ .service) ∧
    ((serve.modSec (fun k => { k with romOnly := true })).accepts pc0 0x0000 false = true ∧ (serve.modSec (fun k => { k with romOnly := true })).sec.romOnly = true) := by
  repeat' apply And.intro
  all_goals decide +kernel

/-- States and operands that meet the hypotheses of each clause of GuestbookWork. -/
theorem witness_GuestbookWork :
    ((recorded 3).accepts pc0 0x0A00 false = true ∧ 1 ≤ 2 ∧ 2 ≤ 2048 ∧ 64 % 64 = 0 ∧ (recorded 3).gb.oldest true ≤ 2 ∧ 2 ≤ (recorded 3).gb.newest true ∧ (recorded 3).gb.newest true + 1 < 2 ^ 31 ∧ (((recorded 3).gb.records true).filter (fun e => decide (2 ≤ e.1))).isEmpty = false) ∧
    ((recorded 3).accepts pc0 0x0A00 false = true ∧ 1 ≤ 2 ∧ 2 ≤ 2048 ∧ 64 % 64 = 0 ∧ (recorded 3).gb.oldest true ≤ 4 ∧ (recorded 3).gb.newest true < 4 ∧ 4 < 2 ^ 31) ∧
    ((recorded 3).accepts pc0 0x0A00 false = true ∧ ((0 = 0 ∨ 2048 < 0))) ∧
    ((lifeCycle 2).accepts pc0 0x0A01 true = true ∧ (lifeCycle 2).md.operating = true ∧ (lifeCycle 2).md.mode = .service ∧ 64 % 64 = 0 ∧ (lifeCycle 2).pw.stage < 2 ∧ (lifeCycle 2).sec.lc ≠ 3) ∧
    ((lifeCycle 2).accepts pc0 0x0A01 true = true ∧ (lifeCycle 2).md.operating = true ∧ (lifeCycle 2).md.mode = .service ∧ 64 % 64 = 0 ∧ (lifeCycle 2).pw.stage < 2 ∧ (lifeCycle 2).sec.lc ≠ 1) ∧
    (((lifeCycle 2).modPw (fun p => { p with stage := 2 })).accepts pc0 0x0A01 true = true ∧ ((lifeCycle 2).modPw (fun p => { p with stage := 2 })).md.operating = true ∧ ((lifeCycle 2).modPw (fun p => { p with stage := 2 })).md.mode = .service ∧ 64 % 64 = 0 ∧ 2 ≤ ((lifeCycle 2).modPw (fun p => { p with stage := 2 })).pw.stage) ∧
    ((recorded 9).pw.vaux = true ∧ 8 ≤ (recorded 9).gb.buf.length ∧ (recorded 9).gb.dropDue = false ∧ 6 < gbGroup (recorded 9).gb.circPos ∧ (recorded 9).gb.buf[6]? = some (({ code := 7, source := 15, num := 7 } : GbRecord)) ∧ (recorded 9).gb.circPos < 1024 * 127 ∧ (recorded 9).gb.buf.all (fun d => !d.perm) = true) ∧
    ((((recorded 7).gb.buf.length < 8 ∨ (recorded 7).pw.vaux = false))) ∧
    ((recorded 9).pw.vaux = true ∧ 8 ≤ (recorded 9).gb.buf.length ∧ (recorded 9).gb.dropDue = false ∧ 0 < 7 ∧ (recorded 9).gb.buf[0]? = some (({ code := 7, source := 15, num := 1 } : GbRecord)) ∧ (recorded 9).gb.buf.all (fun d => !d.perm) = true) ∧
    ((recorded 3).pw.vaux = true ∧ (recorded 3).gb.dropDue = false ∧ 2 < gbGroup (recorded 3).gb.circPos ∧ (recorded 3).gb.buf[2]? = some (({ code := 7, source := 15, num := 3 } : GbRecord)) ∧ (recorded 3).gb.circPos < 1024 * 127 ∧ (recorded 3).gb.buf.all (fun d => !d.perm) = true) ∧
    ((serve.modGb (fun g => { g with taken := [(5, 1), (6, 2)] })).pw.vaux = true ∧ agetD 5 1 (serve.modGb (fun g => { g with taken := [(5, 1), (6, 2)] })).gb.refill ≤ 1) ∧
    (0 < agetD 5 1 (serve.modGb (fun g => { g with taken := [(5, 1)] })).gb.refill) ∧
    (serve.pw.vaux = true) ∧
    (((recorded 3).modGb (fun g => { g with winLoad := some 2 })).gb.winLoad = some 2) ∧
    (serve.gb.winLoad = none) := by
  repeat' apply And.intro
  all_goals decide +kernel

/-- States and operands that meet the hypotheses of each clause of ParameterStore. -/
theorem witness_ParameterStore :
    (serve.accepts pc0 0x0B00 true = true ∧ serve.sec.romOnly = false ∧ paramInfo? (0x0402 - 2) = some ((paramInfo? 0x0400).getD ⟨0, 0, 0, .owner, false⟩) ∧ 4 + 20 ≤ ((paramInfo? 0x0400).getD ⟨0, 0, 0, .owner, false⟩).size ∧ 64 % 64 = 0 ∧ ((paramInfo? 0x0400).getD ⟨0, 0, 0, .owner, false⟩).cls ≠ .hidden ∧ serve.psLockedOut ((paramInfo? 0x0400).getD ⟨0, 0, 0, .owner, false⟩) (0x0402 - 2) = false ∧ 0 < 20) ∧
    (serve.accepts pc0 0x0B00 true = true ∧ serve.sec.romOnly = false ∧ paramInfo? (0x0303 + 16) = none) ∧
    (serve.accepts pc0 0x0B00 true = true ∧ serve.sec.romOnly = false ∧ paramInfo? 0x0400 = some ((paramInfo? 0x0400).getD ⟨0, 0, 0, .owner, false⟩) ∧ ((paramInfo? 0x0400).getD ⟨0, 0, 0, .owner, false⟩).size < 4 + 21) ∧
    (serve.accepts pc0 0x0B00 true = true ∧ serve.sec.romOnly = false ∧ paramInfo? 0x2000 = some ((paramInfo? 0x2000).getD ⟨0, 0, 0, .owner, false⟩) ∧ 4 + 20 ≤ ((paramInfo? 0x2000).getD ⟨0, 0, 0, .owner, false⟩).size ∧ 64 % 64 = 0 ∧ ((((paramInfo? 0x2000).getD ⟨0, 0, 0, .owner, false⟩).cls = .hidden ∨ serve.psLockedOut ((paramInfo? 0x2000).getD ⟨0, 0, 0, .owner, false⟩) 0x2000 = true))) ∧
    (serve.accepts pc0 0x0B01 true = true ∧ serve.md.operating = true ∧ paramInfo? 0x0100 = some ((paramInfo? 0x0100).getD ⟨0, 0, 0, .owner, false⟩) ∧ ((((paramInfo? 0x0100).getD ⟨0, 0, 0, .owner, false⟩).cls = .device ∨ ((paramInfo? 0x0100).getD ⟨0, 0, 0, .owner, false⟩).cls = .owner)) ∧ 64 % 64 = 0 ∧ serve.psLockedOut ((paramInfo? 0x0100).getD ⟨0, 0, 0, .owner, false⟩) 0x0100 = false ∧ paramValueOk 0x0100 (padTo ((paramInfo? 0x0100).getD ⟨0, 0, 0, .owner, false⟩).size ([3#8, 1#8])) = true ∧ 0x0100 ≠ Param.PARAM_AUTH ∧ serve.psFits 0x0100 (padTo ((paramInfo? 0x0100).getD ⟨0, 0, 0, .owner, false⟩).size ([3#8, 1#8])) = true ∧ serve.ps.roomWait = []) ∧
    (serve.accepts pc0 0x0B01 true = true ∧ serve.md.operating = true ∧ paramInfo? 0x2400 = some ((paramInfo? 0x2400).getD ⟨0, 0, 0, .owner, false⟩) ∧ ((((paramInfo? 0x2400).getD ⟨0, 0, 0, .owner, false⟩).cls = .stateOnly ∨ (((paramInfo? 0x2400).getD ⟨0, 0, 0, .owner, false⟩).cls = .hidden ∧ 0x2400 ≠ Param.PARAM_AUTH)))) ∧
    (serve.accepts pc0 0x0B01 true = true ∧ serve.md.operating = true ∧ paramInfo? 0x0100 = some ((paramInfo? 0x0100).getD ⟨0, 0, 0, .owner, false⟩) ∧ ((((paramInfo? 0x0100).getD ⟨0, 0, 0, .owner, false⟩).cls = .device ∨ ((paramInfo? 0x0100).getD ⟨0, 0, 0, .owner, false⟩).cls = .owner)) ∧ 3 ≠ ((paramInfo? 0x0100).getD ⟨0, 0, 0, .owner, false⟩).size) ∧
    ((withAuth [9#8]).accepts pc0 0x0B01 true = true ∧ (withAuth [9#8]).md.operating = true ∧ paramInfo? 0x0100 = some ((paramInfo? 0x0100).getD ⟨0, 0, 0, .owner, false⟩) ∧ ((((paramInfo? 0x0100).getD ⟨0, 0, 0, .owner, false⟩).cls = .device ∨ ((paramInfo? 0x0100).getD ⟨0, 0, 0, .owner, false⟩).cls = .owner)) ∧ 64 % 64 = 0 ∧ ((paramInfo? 0x0100).getD ⟨0, 0, 0, .owner, false⟩).lock = true ∧ (withAuth [9#8]).pwSet = true ∧ (withAuth [9#8]).ps.unlocked = false) ∧
    ((withAuth [9#8]).accepts pc0 0x0B02 true = true ∧ (withAuth [9#8]).md.operating = true ∧ (withAuth [9#8]).pw.stage < 2) ∧
    ((serve.modPw (fun x => { x with stage := 2 })).accepts pc0 0x0B02 true = true ∧ (serve.modPw (fun x => { x with stage := 2 })).md.operating = true ∧ 2 ≤ (serve.modPw (fun x => { x with stage := 2 })).pw.stage) ∧
    ((inMode .service).accepts pc0 0x0B03 true = true ∧ (inMode .service).md.mode = .service ∧ 64 % 64 = 0 ∧ (inMode .service).pwSet = false) ∧
    ((withAuth [9#8]).accepts pc0 0x0B03 true = true ∧ (withAuth [9#8]).md.mode = .service ∧ 64 % 64 = 0 ∧ (withAuth [9#8]).pwSet = true) ∧
    (((withAuth [9#8]).modPs (fun x => { x with pendingSet := aput Param.AUTH_FAILS (failBytes 0 5) x.pendingSet })).accepts pc0 0x0B03 true = true ∧ ((withAuth [9#8]).modPs (fun x => { x with pendingSet := aput Param.AUTH_FAILS (failBytes 0 5) x.pendingSet })).md.mode = .service ∧ 64 % 64 = 0 ∧ ((withAuth [9#8]).modPs (fun x => { x with pendingSet := aput Param.AUTH_FAILS (failBytes 0 5) x.pendingSet })).pwSet = true ∧ 5 ≤ ((withAuth [9#8]).modPs (fun x => { x with pendingSet := aput Param.AUTH_FAILS (failBytes 0 5) x.pendingSet })).paramFails ∧ (padTo 32 ([1#8])).all (· == 0) = false) ∧
    ((serve.modPs (fun x => { x with pendingSet := [(0x0100, [3#8, 1#8])], waiters := [.internal] })).pw.vaux = true ∧ (serve.modPs (fun x => { x with pendingSet := [(0x0100, [3#8, 1#8])], waiters := [.internal] })).ps.running = none ∧ (serve.modPs (fun x => { x with pendingSet := [(0x0100, [3#8, 1#8])], waiters := [.internal] })).ps.waiters ≠ [] ∧ (serve.modPs (fun x => { x with pendingSet := [(0x0100, [3#8, 1#8])], waiters := [.internal] })).ps.pendingSet ≠ [] ∧ (serve.modPs (fun x => { x with pendingSet := [(0x0100, [3#8, 1#8])], waiters := [.internal] })).ps.eraseBusy = false) ∧
    (((serve.ps.running.isSome = true ∨ serve.ps.waiters = []))) ∧
    ((storing false).ps.running = some (({ seq := 4, els := [(0x0100, [3#8, 1#8])], callers := [.porter 0 7], retried := false } : PsCommit)) ∧ (({ seq := 4, els := [(0x0100, [3#8, 1#8])], callers := [.porter 0 7], retried := false } : PsCommit)).callers = [.porter pc0.ring pc0.cid] ∧ (({ seq := 4, els := [(0x0100, [3#8, 1#8])], callers := [.porter 0 7], retried := false } : PsCommit)).els = [(0x0100, ([3#8, 1#8]))] ∧ 0x0100 / 256 ≠ 0x31 ∧ pc0.ring < 64 ∧ (storing false).underWay pc0 = true ∧ ((storing false).exec? pc0).map (·.opcode) = some 0x0B02 ∧ (storing false).ps.roomWait = [] ∧ (storing false).noWork = true) ∧
    ((storing false).ps.running = some (({ seq := 4, els := [(0x0100, [3#8, 1#8])], callers := [.porter 0 7], retried := false } : PsCommit)) ∧ (({ seq := 4, els := [(0x0100, [3#8, 1#8])], callers := [.porter 0 7], retried := false } : PsCommit)).retried = false) ∧
    ((storing true).ps.running = some (({ seq := 4, els := [(0x0100, [3#8, 1#8])], callers := [.porter 0 7], retried := true } : PsCommit)) ∧ (({ seq := 4, els := [(0x0100, [3#8, 1#8])], callers := [.porter 0 7], retried := true } : PsCommit)).retried = true ∧ (({ seq := 4, els := [(0x0100, [3#8, 1#8])], callers := [.porter 0 7], retried := true } : PsCommit)).callers = [.porter pc0.ring pc0.cid] ∧ pc0.ring < 64 ∧ (storing true).underWay pc0 = true ∧ ((storing true).ring pc0.ring).execs.length = 1 ∧ (storing true).isEvtRing pc0.ring = false ∧ (storing true).ps.pendingSet = []) ∧
    (serve.ps.running = none) ∧
    (serve.ps.waiters = []) ∧
    ((serve.modPs (fun x => { x with eraseBusy := true })).ps.waiters = [] ∧ (serve.modPs (fun x => { x with eraseBusy := true })).ps.eraseBusy = true) := by
  repeat' apply And.intro
  all_goals decide +kernel

/-- States and operands that meet the hypotheses of each clause of PerfCounters. -/
theorem witness_PerfCounters :
    (serve.accepts pc0 0x0C00 true = true ∧ serve.sec.romOnly = false ∧ 7 < serve.pop.tiles ∧ 7 < 8 ∧ 55 < 56 ∧ (perfFieldsOk 55 0x0100 0 false).all id = true) ∧
    (serve.accepts pc0 0x0C00 true = true ∧ serve.sec.romOnly = false ∧ ((serve.pop.tiles ≤ 7 ∨ 64 ≤ 64))) ∧
    (serve.accepts pc0 0x0C00 true = true ∧ serve.sec.romOnly = false ∧ 7 < serve.pop.tiles ∧ 63 < 64 ∧ ((0x6200 / 256 = 0 ∨ 0x62 ≤ 0x6200 / 256))) ∧
    (serve.accepts pc0 0x0C00 true = true ∧ serve.sec.romOnly = false ∧ 7 < serve.pop.tiles ∧ 56 ≤ 63 ∧ 63 < 64 ∧ (perfFieldsOk 63 0x0100 0 false).all id = true) ∧
    (serve.accepts pc0 0x0C01 false = true ∧ serve.sec.romOnly = false ∧ 129 < 2 ^ serve.pop.tiles ∧ 64 % 64 = 0) ∧
    (serve.accepts pc0 0x0C01 false = true ∧ serve.sec.romOnly = false ∧ 2 ^ serve.pop.tiles ≤ 256) ∧
    (15 < 16 ∧ (({ serve.setReg (winCtl 15) 0x8064#32 with wins := vmod 15 (fun p => { p with openHeads := 0xFF, rd := [(3, 9)] }) serve.wins } : State)).winMode 15 = 2 ∧ (({ serve.setReg (winCtl 15) 0x8064#32 with wins := vmod 15 (fun p => { p with openHeads := 0xFF, rd := [(3, 9)] }) serve.wins } : State)).winPeriod 15 ≤ 100 ∧ (vget 15 {} (({ serve.setReg (winCtl 15) 0x8064#32 with wins := vmod 15 (fun p => { p with openHeads := 0xFF, rd := [(3, 9)] }) serve.wins } : State)).wins).openHeads = 0xFF ∧ 15 < 16) ∧
    (((serve.winMode 15 ≠ 2 ∨ 16 ≤ 15 ∨ 5 < serve.winPeriod 15))) ∧
    ((serve.modTile 7 (fun x => { x with clk := { x.clk with gated := 1 } })).md.ringsRun = true ∧ (serve.modTile 7 (fun x => { x with clk := { x.clk with gated := 1 } })).stageActs = 0 ∧ (serve.modTile 7 (fun x => { x with clk := { x.clk with gated := 1 } })).alive 7 = true ∧ 7 < 8) ∧
    (((standby.md.ringsRun = false ∨ standby.stageActs ≠ 0))) := by
  repeat' apply And.intro
  all_goals decide +kernel

/-- States and operands that meet the hypotheses of each clause of PhaseLock. -/
theorem witness_PhaseLock :
    (((serve.phaseRuns = false ∨ (serve.bel.source ≠ 1 ∧ serve.fld Reg.BELFRY_TRIM_CTL 15 14 ≠ 2)))) ∧
    ((phaseIn { source := 1 }).phaseRuns = true ∧ (phaseIn { source := 1 }).bel.source = 1 ∧ ((319 < 64 ∨ (244 ≤ 319 ∧ 319 < 320) ∨ 964 ≤ 319))) ∧
    ((phaseIn { source := 1, state := .acquire, stepWait := true, turnSet := some 77, refAngle := 0x800000000000 }).phaseRuns = true ∧ (phaseIn { source := 1, state := .acquire, stepWait := true, turnSet := some 77, refAngle := 0x800000000000 }).bel.source = 1 ∧ (phaseIn { source := 1, state := .acquire, stepWait := true, turnSet := some 77, refAngle := 0x800000000000 }).bel.state = .acquire ∧ (phaseIn { source := 1, state := .acquire, stepWait := true, turnSet := some 77, refAngle := 0x800000000000 }).bel.stepWait = true ∧ 320 ≤ 963 ∧ 963 ≤ 963 ∧ (phaseIn { source := 1, state := .acquire, stepWait := true, turnSet := some 77, refAngle := 0x800000000000 }).bel.turnSet = some 77 ∧ (phaseIn { source := 1, state := .acquire, stepWait := true, turnSet := some 77, refAngle := 0x800000000000 }).bel.offset = 0 ∧ 77 < 2 ^ 36) ∧
    (((phaseIn { source := 1, state := .acquire, stepWait := true }).setReg Reg.BELFRY_CTL 0x100#32).phaseRuns = true ∧ ((phaseIn { source := 1, state := .acquire, stepWait := true }).setReg Reg.BELFRY_CTL 0x100#32).bel.source = 1 ∧ ((phaseIn { source := 1, state := .acquire, stepWait := true }).setReg Reg.BELFRY_CTL 0x100#32).bel.state = .acquire ∧ ((phaseIn { source := 1, state := .acquire, stepWait := true }).setReg Reg.BELFRY_CTL 0x100#32).bel.stepWait = true ∧ 64 ≤ 64 ∧ 64 ≤ 243 ∧ ((phaseIn { source := 1, state := .acquire, stepWait := true }).setReg Reg.BELFRY_CTL 0x100#32).submarkExp ≠ 0) ∧
    ((phaseIn { source := 1, state := .locked, outliers := 2, missed := 1 }).phaseRuns = true ∧ (phaseIn { source := 1, state := .locked, outliers := 2, missed := 1 }).bel.source = 1 ∧ (phaseIn { source := 1, state := .locked, outliers := 2, missed := 1 }).bel.state = .locked ∧ 320 ≤ 320 ∧ 320 ≤ 963 ∧ (phaseIn { source := 1, state := .locked, outliers := 2, missed := 1 }).bel.prevTurnNs = none ∧ ((0xFF000000 ≤ 256 * 65536 ∨ (2 ^ 32 - 256 * 65536 ≤ 0xFF000000 ∧ 0xFF000000 < 2 ^ 32))) ∧ (phaseIn { source := 1, state := .locked, outliers := 2, missed := 1 }).bel.turnSet = none ∧ (phaseIn { source := 1, state := .locked, outliers := 2, missed := 1 }).bel.slews = []) ∧
    ((phaseIn { source := 1, state := .locked, outliers := 1 }).phaseRuns = true ∧ (phaseIn { source := 1, state := .locked, outliers := 1 }).bel.source = 1 ∧ (phaseIn { source := 1, state := .locked, outliers := 1 }).bel.state = .locked ∧ 320 ≤ 320 ∧ 320 ≤ 963 ∧ (phaseIn { source := 1, state := .locked, outliers := 1 }).bel.outliers < 2 ∧ 256 * 65536 < 0x01000001 ∧ 0x01000001 < 2 ^ 32 - 256 * 65536) ∧
    ((phaseIn { source := 1, state := .locked, outliers := 2 }).phaseRuns = true ∧ (phaseIn { source := 1, state := .locked, outliers := 2 }).bel.source = 1 ∧ (phaseIn { source := 1, state := .locked, outliers := 2 }).bel.state = .locked ∧ 320 ≤ 320 ∧ 320 ≤ 963 ∧ (phaseIn { source := 1, state := .locked, outliers := 2 }).bel.outliers = 2 ∧ 256 * 65536 < 0x01000001 ∧ 0x01000001 < 2 ^ 32 - 256 * 65536) ∧
    ((phaseIn { source := 1, state := .free, lockCount := 9 }).phaseRuns = true ∧ (phaseIn { source := 1, state := .free, lockCount := 9 }).bel.source = 1 ∧ (((phaseIn { source := 1, state := .free, lockCount := 9 }).bel.state = .holdover ∨ (phaseIn { source := 1, state := .free, lockCount := 9 }).bel.state = .free)) ∧ 320 ≤ 320 ∧ 320 ≤ 963 ∧ 0x01000000 ≤ 256 * 65536) ∧
    ((phaseIn { source := 1, state := .acquire, lockCount := 7 }).phaseRuns = true ∧ (phaseIn { source := 1, state := .acquire, lockCount := 7 }).bel.source = 1 ∧ (phaseIn { source := 1, state := .acquire, lockCount := 7 }).bel.state = .acquire ∧ (phaseIn { source := 1, state := .acquire, lockCount := 7 }).bel.stepWait = false ∧ 320 ≤ 320 ∧ 320 ≤ 963 ∧ 0x40000 ≤ 4 * 65536 ∧ 7 ≤ (phaseIn { source := 1, state := .acquire, lockCount := 7 }).bel.lockCount ∧ (phaseIn { source := 1, state := .acquire, lockCount := 7 }).bel.prevTurnNs = none ∧ (phaseIn { source := 1, state := .acquire, lockCount := 7 }).bel.rangeBad = false) ∧
    ((phaseIn { source := 1, state := .locked, missed := 2 }).phaseRuns = true ∧ (phaseIn { source := 1, state := .locked, missed := 2 }).bel.source ≠ 0 ∧ (phaseIn { source := 1, state := .locked, missed := 2 }).bel.stepWait = false ∧ (phaseIn { source := 1, state := .locked, missed := 2 }).bel.state = .locked) ∧
    ((((phaseIn { source := 1, state := .free }).phaseRuns = false ∨ (phaseIn { source := 1, state := .free }).bel.source = 0 ∨ (phaseIn { source := 1, state := .free }).bel.state = .free))) ∧
    (((phaseIn { source := 1, state := .holdover, holdTurns := 16 }).setReg Reg.BELFRY_CTL 0x3000#32).phaseRuns = true ∧ ((phaseIn { source := 1, state := .holdover, holdTurns := 16 }).setReg Reg.BELFRY_CTL 0x3000#32).bel.state = .holdover ∧ 2 ^ max 4 (((phaseIn { source := 1, state := .holdover, holdTurns := 16 }).setReg Reg.BELFRY_CTL 0x3000#32).fld Reg.BELFRY_CTL 15 12) ≤ ((phaseIn { source := 1, state := .holdover, holdTurns := 16 }).setReg Reg.BELFRY_CTL 0x3000#32).bel.holdTurns) ∧
    (((((phaseIn { source := 1, state := .holdover, holdTurns := 15 }).setReg Reg.BELFRY_CTL 0x3000#32).bel.state ≠ .holdover ∨ ((phaseIn { source := 1, state := .holdover, holdTurns := 15 }).setReg Reg.BELFRY_CTL 0x3000#32).bel.holdTurns < 2 ^ max 4 (((phaseIn { source := 1, state := .holdover, holdTurns := 15 }).setReg Reg.BELFRY_CTL 0x3000#32).fld Reg.BELFRY_CTL 15 12)))) ∧
    (bitOf (serve.fld Reg.BELFRY_CTL 7 0) 9 = false) ∧
    ((listening {}).phaseRuns = true ∧ bitOf ((listening {}).fld Reg.BELFRY_CTL 7 0) 0 = true ∧ ((listening {}).head 0).up = true) ∧
    ((listening {}).phaseRuns = true ∧ bitOf ((listening {}).fld Reg.BELFRY_CTL 7 0) 0 = true ∧ ((listening {}).head 0).up = true ∧ (listening {}).phaseMsgBad true true phaseMsg = 0 ∧ leAt phaseMsg 8 8 + (listening {}).bel.period * 1000 < 10000001) ∧
    ((listening { source := 2, state := .acquire, stepWait := true }).phaseRuns = true ∧ bitOf ((listening { source := 2, state := .acquire, stepWait := true }).fld Reg.BELFRY_CTL 7 0) 0 = true ∧ ((listening { source := 2, state := .acquire, stepWait := true }).head 0).up = true ∧ (listening { source := 2, state := .acquire, stepWait := true }).phaseMsgBad true true phaseMsg = 0 ∧ (listening { source := 2, state := .acquire, stepWait := true }).bel.source = 2 ∧ (listening { source := 2, state := .acquire, stepWait := true }).bel.msgUsed.any (fun m => m.1 == leAt phaseMsg 16 5) = false ∧ (listening { source := 2, state := .acquire, stepWait := true }).bel.state = .acquire ∧ (listening { source := 2, state := .acquire, stepWait := true }).bel.stepWait = true ∧ bitOf (leAt phaseMsg 21 1) 0 = true ∧ (listening { source := 2, state := .acquire, stepWait := true }).bel.offset = 0) ∧
    ((phaseIn { trimBusy := true, trimStep := some 0, trimCode := 510 }).trimReady = true ∧ (phaseIn { trimBusy := true, trimStep := some 0, trimCode := 510 }).trimExpected = 200000 ∧ (phaseIn { trimBusy := true, trimStep := some 0, trimCode := 510 }).bel.trimDone = false ∧ (phaseIn { trimBusy := true, trimStep := some 0, trimCode := 510 }).bel.trimFinal = false ∧ (phaseIn { trimBusy := true, trimStep := some 0, trimCode := 510 }).bel.trimStep = some 0 ∧ 200000 * 5 < (200000 - 199899) * 10000 ∧ (phaseIn { trimBusy := true, trimStep := some 0, trimCode := 510 }).bel.trimCode + 2 ^ 0 ≤ 511) ∧
    ((phaseIn { trimBusy := true, trimStep := some 4, trimCode := 15 }).trimReady = true ∧ (phaseIn { trimBusy := true, trimStep := some 4, trimCode := 15 }).trimExpected = 200000 ∧ (phaseIn { trimBusy := true, trimStep := some 4, trimCode := 15 }).bel.trimDone = false ∧ (phaseIn { trimBusy := true, trimStep := some 4, trimCode := 15 }).bel.trimFinal = false ∧ (phaseIn { trimBusy := true, trimStep := some 4, trimCode := 15 }).bel.trimStep = some 4 ∧ 200000 * 5 < (200101 - 200000) * 10000 ∧ 0 < 200000 ∧ (phaseIn { trimBusy := true, trimStep := some 4, trimCode := 15 }).bel.trimCode < 2 ^ 4) ∧
    ((phaseIn { trimBusy := true, trimStep := some 4 }).trimReady = true ∧ (phaseIn { trimBusy := true, trimStep := some 4 }).trimExpected = 200000 ∧ (phaseIn { trimBusy := true, trimStep := some 4 }).bel.trimDone = false ∧ (phaseIn { trimBusy := true, trimStep := some 4 }).bel.trimFinal = false ∧ (phaseIn { trimBusy := true, trimStep := some 4 }).bel.trimStep = some 4 ∧ 0 < 200000) ∧
    ((phaseIn { trimBusy := true, trimFinal := true }).trimReady = true ∧ (phaseIn { trimBusy := true, trimFinal := true }).trimExpected = 200000 ∧ (phaseIn { trimBusy := true, trimFinal := true }).bel.trimDone = false ∧ (phaseIn { trimBusy := true, trimFinal := true }).bel.trimFinal = true ∧ 0 < 200000) ∧
    ((serve.setReg Reg.BELFRY_TRIM_CTL 0x4000#32).fld Reg.BELFRY_TRIM_CTL 15 14 = 1 ∧ (serve.setReg Reg.BELFRY_TRIM_CTL 0x4000#32).phaseRuns = true ∧ (serve.setReg Reg.BELFRY_TRIM_CTL 0x4000#32).clk.xtal ≠ 2) ∧
    ((((serve.setReg Reg.BELFRY_TRIM_CTL 0x0000#32).fld Reg.BELFRY_TRIM_CTL 15 14 ≠ 1 ∨ (serve.setReg Reg.BELFRY_TRIM_CTL 0x0000#32).clk.xtal = 2))) := by
  repeat' apply And.intro
  all_goals decide +kernel

/-- States and operands that meet the hypotheses of each clause of TurnsAndSchedules. -/
theorem witness_TurnsAndSchedules :
    ((phaseIn { offset := 7, state := .free }).phaseRuns = true ∧ (phaseIn { offset := 7, state := .free }).noWork = true ∧ (phaseIn { offset := 7, state := .free }).aliveTiles.all (phaseIn { offset := 7, state := .free }).noneWait = true ∧ (phaseIn { offset := 7, state := .free }).bel.slews = []) ∧
    ((phaseIn { stagger := 5 }).phaseRuns = true ∧ (phaseIn { stagger := 5 }).alive 7 = true ∧ 7 < 8 ∧ (phaseIn { stagger := 5 }).noWork = true ∧ (phaseIn { stagger := 5 }).aliveTiles.all (phaseIn { stagger := 5 }).noneWait = true ∧ (phaseIn { stagger := 5 }).bel.slews = [] ∧ 7 * (phaseIn { stagger := 5 }).bel.stagger % 65536 ≠ 0) ∧
    (standby.phaseRuns = false) ∧
    (0 < 64 ∧ 3 < 8 ∧ ((sector 9).modBelT 3 (fun b => { b with active := 0 })).canStart 3 0 = true) ∧
    ((((sector 9).md.inService3 = false ∨ ((sector 9).schedEntry 3 63).valid = false ∨ bitOf ((sector 9).tile 3).bel.ran 63 = true ∨ 64 ≤ 63))) ∧
    (0 < 64 ∧ 3 < 8 ∧ (sector 3).sectorOn 3 0 = true ∧ ((sector 3).schedEntry 3 0).cls ≠ 1 ∧ ((sector 3).schedEntry 3 0).cls ≠ 9) ∧
    ((sector 3).sectorOn 3 1 = false) ∧
    ((serve.modBelT 3 (fun b => { b with armed := some { entries := [{ start := 5 }], profile := [64], turn := 9, atNext := false, due := true, owner := none }, turn := 9 })).loadDue 3 = some (({ entries := [{ start := 5 }], profile := [64], turn := 9, atNext := false, due := true, owner := none } : ArmedLoad)) ∧ (serve.modBelT 3 (fun b => { b with armed := some { entries := [{ start := 5 }], profile := [64], turn := 9, atNext := false, due := true, owner := none }, turn := 9 })).alive 3 = true ∧ 3 < 8 ∧ (serve.modBelT 3 (fun b => { b with armed := some { entries := [{ start := 5 }], profile := [64], turn := 9, atNext := false, due := true, owner := none }, turn := 9 })).noWork = true ∧ (serve.modBelT 3 (fun b => { b with armed := some { entries := [{ start := 5 }], profile := [64], turn := 9, atNext := false, due := true, owner := none }, turn := 9 })).noneWait 3 = true ∧ ((serve.modBelT 3 (fun b => { b with armed := some { entries := [{ start := 5 }], profile := [64], turn := 9, atNext := false, due := true, owner := none }, turn := 9 })).tile 3).bel.active = 0) ∧
    (serve.loadDue 3 = none) ∧
    (serve.accepts pc0 0x0500 true = true ∧ serve.sec.romOnly = false ∧ 1 < 3 ∧ 500 ≤ 500 ∧ 500 ≤ 1000000 ∧ serve.phaseByTrim = false) ∧
    (serve.accepts pc0 0x0500 true = true ∧ serve.sec.romOnly = false ∧ ((3 ≤ 2 ∨ 499 < 500 ∨ 1000000 < 499))) ∧
    (serve.accepts pc0 0x0501 true = true ∧ serve.md.operating = true ∧ 64 % 64 = 0 ∧ 8 = 2 ^ 3 ∧ 3 < serve.pop.tiles ∧ 3 < 8 ∧ schedBad? (schedOf (zeros 1088)) (profileOf (zeros 1088)) = none ∧ (serve.tile 3).bel.armed = none ∧ (serve.tile 3).bel.turn < 5 ∧ 5 < (serve.tile 3).bel.turn + 2 ^ 35 ∧ 5 < 2 ^ 36) ∧
    (serve.accepts pc0 0x0501 true = true ∧ serve.md.operating = true ∧ 64 % 64 = 0 ∧ 8 < 2 ^ serve.pop.tiles ∧ serve.pop.legal = true ∧ schedBad? (schedOf (zeros 1024 ++ [1#8])) (profileOf (zeros 1024 ++ [1#8])) = some 64) ∧
    (serve.accepts pc0 0x0502 false = true ∧ serve.sec.romOnly = false ∧ 7 < serve.pop.tiles) ∧
    (serve.accepts pc0 0x0502 false = true ∧ serve.sec.romOnly = false ∧ serve.pop.tiles ≤ 8) := by
  repeat' apply And.intro
  all_goals decide +kernel

/-- States and operands that meet the hypotheses of each clause of CaravanDeltas. -/
theorem witness_CaravanDeltas :
    (grouped.car.inGroup = true ∧ bitOf grouped.car.heads ({ frameOf 0 1 [5] with group := 4 }).head = true ∧ (grouped.head ({ frameOf 0 1 [5] with group := 4 }).head).up = true ∧ ({ frameOf 0 1 [5] with group := 4 }).whole = true ∧ ({ frameOf 0 1 [5] with group := 4 }).tagOk = true ∧ ({ frameOf 0 1 [5] with group := 4 }).group ≠ grouped.car.group) ∧
    (grouped.car.inGroup = true ∧ bitOf grouped.car.heads ({ frameOf 0 1 [5] with whole := false }).head = true ∧ (grouped.head ({ frameOf 0 1 [5] with whole := false }).head).up = true ∧ ({ frameOf 0 1 [5] with whole := false }).whole = false) ∧
    (grouped.car.inGroup = true ∧ bitOf grouped.car.heads ({ frameOf 0 1 [5] with tagOk := false }).head = true ∧ (grouped.head ({ frameOf 0 1 [5] with tagOk := false }).head).up = true ∧ ({ frameOf 0 1 [5] with tagOk := false }).whole = true ∧ ({ frameOf 0 1 [5] with tagOk := false }).tagOk = false) ∧
    (grouped.deltaNew (frameOf 0 1 [5]) 3 = true ∧ grouped.md.mode ≠ .holdup ∧ (frameOf 0 1 [5]).isQ = false ∧ grouped.carHead = some 0 ∧ grouped.peer (frameOf 0 1 [5]).src = some (({ idx := 2, st := .active } : Peer))) ∧
    ((grouped.modPeer 2 (fun x => { x with seen := [(9, 0)] })).carFrameOk (frameOf 0 1 [5]) = true ∧ (grouped.modPeer 2 (fun x => { x with seen := [(9, 0)] })).peer (frameOf 0 1 [5]).src = some (({ idx := 2, st := .active, seen := [(9, 0)] } : Peer)) ∧ aget (frameOf 0 1 [5]).seq (({ idx := 2, st := .active, seen := [(9, 0)] } : Peer)).seen = some 0 ∧ 0 ≠ 2 ∧ (grouped.modPeer 2 (fun x => { x with seen := [(9, 0)] })).carHead = some 0) ∧
    ((grouped.modMd (fun d => { d with mode := .holdup })).deltaNew (frameOf 0 1 [5]) 3 = true ∧ (grouped.modMd (fun d => { d with mode := .holdup })).md.mode = .holdup ∧ (grouped.modMd (fun d => { d with mode := .holdup })).carHead = some 0 ∧ (grouped.modMd (fun d => { d with mode := .holdup })).peer (frameOf 0 1 [5]).src = some (({ idx := 2, st := .active } : Peer))) ∧
    (({ (grouped.modCar (fun c => { c with lock := some 0 })) with car := { (grouped.modCar (fun c => { c with lock := some 0 })).car with lock := none } }).deltaNew (frameOf 0 1 [5]) 3 = true ∧ (grouped.modCar (fun c => { c with lock := some 0 })).car.lock = some (frameOf 0 1 [5]).stripe ∧ (grouped.modCar (fun c => { c with lock := some 0 })).md.mode ≠ .holdup ∧ (grouped.modCar (fun c => { c with lock := some 0 })).carHead = some 0 ∧ (grouped.modCar (fun c => { c with lock := some 0 })).peer (frameOf 0 1 [5]).src = some (({ idx := 2, st := .active } : Peer))) ∧
    ((slotted { held := [heldDelta] }).alive 3 = true ∧ 3 < 8 ∧ ((slotted { held := [heldDelta] }).tile 3).car.held = [heldDelta] ∧ (slotted { held := [heldDelta] }).carHead = some 0 ∧ (slotted { held := [heldDelta] }).peer heldDelta.peer = some (({ idx := 2, st := .active } : Peer))) ∧
    ((grouped.tile 0).car.held = []) ∧
    ((awaiting [2, 1]).carFrameOk (frameOf 65536 0 []) = true ∧ (awaiting [2, 1]).car.msgs = [(({ peer := 2, seq := 9, type := 1, stripe := 65536, lines := [(0, 5)] } : CarMsg))] ∧ (({ peer := 2, seq := 9, type := 1, stripe := 65536, lines := [(0, 5)] } : CarMsg)).type = 1 ∧ (({ peer := 2, seq := 9, type := 1, stripe := 65536, lines := [(0, 5)] } : CarMsg)).peer = (frameOf 65536 0 []).src ∧ (({ peer := 2, seq := 9, type := 1, stripe := 65536, lines := [(0, 5)] } : CarMsg)).seq = (frameOf 65536 0 []).seq ∧ (frameOf 65536 0 []).status = 0 ∧ (awaiting [2, 1]).commitOf (({ peer := 2, seq := 9, type := 1, stripe := 65536, lines := [(0, 5)] } : CarMsg)).tile (({ peer := 2, seq := 9, type := 1, stripe := 65536, lines := [(0, 5)] } : CarMsg)).seg = some (({ job := .host 0, seg := 0, page := { kind := .host }, loc := some 5, step := .caravan [2, 1] } : Commit)) ∧ ((awaiting [2, 1]).tile (({ peer := 2, seq := 9, type := 1, stripe := 65536, lines := [(0, 5)] } : CarMsg)).tile).xl.commits = [(({ job := .host 0, seg := 0, page := { kind := .host }, loc := some 5, step := .caravan [2, 1] } : Commit))] ∧ (({ job := .host 0, seg := 0, page := { kind := .host }, loc := some 5, step := .caravan [2, 1] } : Commit)).seg = (({ peer := 2, seq := 9, type := 1, stripe := 65536, lines := [(0, 5)] } : CarMsg)).seg ∧ (({ peer := 2, seq := 9, type := 1, stripe := 65536, lines := [(0, 5)] } : CarMsg)).tile < 8 ∧ (({ job := .host 0, seg := 0, page := { kind := .host }, loc := some 5, step := .caravan [2, 1] } : Commit)).step = .caravan [(frameOf 65536 0 []).src, 1] ∧ 1 ≠ (frameOf 65536 0 []).src ∧ (({ job := .host 0, seg := 0, page := { kind := .host }, loc := some 5, step := .caravan [2, 1] } : Commit)).stopped = false ∧ (awaiting [2, 1]).noWork = true) ∧
    (grouped.carFrameOk (frameOf 65536 0 []) = true ∧ grouped.car.msgs.all (fun m => !(m.peer == (frameOf 65536 0 []).src && m.seq == (frameOf 65536 0 []).seq)) = true) ∧
    ((awaiting [2, 1]).carFrameOk ({ frameOf 65536 0 [] with status := 2 }) = true ∧ (awaiting [2, 1]).car.msgs = [(({ peer := 2, seq := 9, type := 1, stripe := 65536, lines := [(0, 5)] } : CarMsg))] ∧ (({ peer := 2, seq := 9, type := 1, stripe := 65536, lines := [(0, 5)] } : CarMsg)).type = 1 ∧ (({ peer := 2, seq := 9, type := 1, stripe := 65536, lines := [(0, 5)] } : CarMsg)).peer = ({ frameOf 65536 0 [] with status := 2 }).src ∧ (({ peer := 2, seq := 9, type := 1, stripe := 65536, lines := [(0, 5)] } : CarMsg)).seq = ({ frameOf 65536 0 [] with status := 2 }).seq ∧ ({ frameOf 65536 0 [] with status := 2 }).status = 2) ∧
    ((grouped.modCar (fun c => { c with msgs := [{ peer := 2, seq := 9, type := 1, stripe := 65536, lines := [(0, 5)] }] })).carFrameOk ({ frameOf 65536 0 [] with status := 3 }) = true ∧ (grouped.modCar (fun c => { c with msgs := [{ peer := 2, seq := 9, type := 1, stripe := 65536, lines := [(0, 5)] }] })).car.msgs = [(({ peer := 2, seq := 9, type := 1, stripe := 65536, lines := [(0, 5)] } : CarMsg))] ∧ (({ peer := 2, seq := 9, type := 1, stripe := 65536, lines := [(0, 5)] } : CarMsg)).type = 1 ∧ (({ peer := 2, seq := 9, type := 1, stripe := 65536, lines := [(0, 5)] } : CarMsg)).peer = ({ frameOf 65536 0 [] with status := 3 }).src ∧ (({ peer := 2, seq := 9, type := 1, stripe := 65536, lines := [(0, 5)] } : CarMsg)).seq = ({ frameOf 65536 0 [] with status := 3 }).seq ∧ ({ frameOf 65536 0 [] with status := 3 }).status = 3 ∧ (({ peer := 2, seq := 9, type := 1, stripe := 65536, lines := [(0, 5)] } : CarMsg)).resent = false ∧ ({ (grouped.modCar (fun c => { c with msgs := [{ peer := 2, seq := 9, type := 1, stripe := 65536, lines := [(0, 5)] }] })) with car := { (grouped.modCar (fun c => { c with msgs := [{ peer := 2, seq := 9, type := 1, stripe := 65536, lines := [(0, 5)] }] })).car with msgs := [] } }).carQuiet = true ∧ (grouped.modCar (fun c => { c with msgs := [{ peer := 2, seq := 9, type := 1, stripe := 65536, lines := [(0, 5)] }] })).peer ({ frameOf 65536 0 [] with status := 3 }).src = some (({ idx := 2, st := .active } : Peer)) ∧ (({ idx := 2, st := .active } : Peer)).st = .active) ∧
    (((slotted { slots := [{ seg := 0, stripe := 0, isQ := false, entries := [(2, 77)] }] }).carFrameOk (frameOf 0 0 [lineOf (fun x => if x = 4 then 77 else if x = 16 ∨ x = 32 ∨ x = 48 then 9 else 0)]) = true) ∧ ((settleOf (frameOf 0 0 [lineOf (fun x => if x = 4 then 77 else if x = 16 ∨ x = 32 ∨ x = 48 then 9 else 0)]).lines).contains (0, 77, 0) = true) ∧ (((slotted { slots := [{ seg := 0, stripe := 0, isQ := false, entries := [(2, 77)] }] }).peer (frameOf 0 0 [lineOf (fun x => if x = 4 then 77 else if x = 16 ∨ x = 32 ∨ x = 48 then 9 else 0)]).src).map (fun p => ahas (frameOf 0 0 [lineOf (fun x => if x = 4 then 77 else if x = 16 ∨ x = 32 ∨ x = 48 then 9 else 0)]).seq p.seen) = some false) ∧ ((settleOf (frameOf 0 0 [lineOf (fun x => if x = 4 then 77 else if x = 16 ∨ x = 32 ∨ x = 48 then 9 else 0)]).lines).all (fun e => e == (0, 77, 0) || e.1 != 0) = true) ∧ ((slotted { slots := [{ seg := 0, stripe := 0, isQ := false, entries := [(2, 77)] }] }).carHome 0).1 = 3 ∧ 3 < 8 ∧ ((slotted { slots := [{ seg := 0, stripe := 0, isQ := false, entries := [(2, 77)] }] }).tile 3).car.slots = [(({ seg := 0, stripe := 0, isQ := false, entries := [(2, 77)] } : CarSlot))] ∧ (List.range 8).all (fun d => ((slotted { slots := [{ seg := 0, stripe := 0, isQ := false, entries := [(2, 77)] }] }).tile d).car.held.isEmpty) = true ∧ (({ seg := 0, stripe := 0, isQ := false, entries := [(2, 77)] } : CarSlot)).stripe = 0 ∧ (({ seg := 0, stripe := 0, isQ := false, entries := [(2, 77)] } : CarSlot)).isQ = (0 == 1) ∧ ((({ seg := 0, stripe := 0, isQ := false, entries := [(2, 77)] } : CarSlot)).entries = [((frameOf 0 0 [lineOf (fun x => if x = 4 then 77 else if x = 16 ∨ x = 32 ∨ x = 48 then 9 else 0)]).src, 77)])) ∧
    ((grouped.modPeer 2 (fun x => { x with seen := [(9, 0)] })).carFrameOk (frameOf 0 0 []) = true ∧ (grouped.modPeer 2 (fun x => { x with seen := [(9, 0)] })).peer (frameOf 0 0 []).src = some (({ idx := 2, st := .active, seen := [(9, 0)] } : Peer)) ∧ ahas (frameOf 0 0 []).seq (({ idx := 2, st := .active, seen := [(9, 0)] } : Peer)).seen = true) ∧
    (grouped.car.settle = []) ∧
    ((grouped.modCar (fun c => { c with settle := [(2, 0, 7, 1, 0)] })).car.settle = [((({ idx := 2, st := .active } : Peer)).idx, (((0, 7, 1, 0) : Nat × Nat × Nat × Nat)))] ∧ (grouped.modCar (fun c => { c with settle := [(2, 0, 7, 1, 0)] })).peer (({ idx := 2, st := .active } : Peer)).idx = some (({ idx := 2, st := .active } : Peer)) ∧ (grouped.modCar (fun c => { c with settle := [(2, 0, 7, 1, 0)] })).carHead.isSome = true) ∧
    (((slotted { slots := [{ seg := 0, stripe := 0, isQ := false, entries := [(2, 77)] }] }).modMd (fun d => { d with mode := .holdup })).alive 3 = true ∧ 3 < 8 ∧ ((slotted { slots := [{ seg := 0, stripe := 0, isQ := false, entries := [(2, 77)] }] }).modMd (fun d => { d with mode := .holdup })).md.mode = .holdup ∧ bitOf ((slotted { slots := [{ seg := 0, stripe := 0, isQ := false, entries := [(2, 77)] }] }).modMd (fun d => { d with mode := .holdup })).md.sealed 3 = false ∧ (((slotted { slots := [{ seg := 0, stripe := 0, isQ := false, entries := [(2, 77)] }] }).modMd (fun d => { d with mode := .holdup })).tile 3).car.slots = [(({ seg := 0, stripe := 0, isQ := false, entries := [(2, 77)] } : CarSlot))] ∧ (({ seg := 0, stripe := 0, isQ := false, entries := [(2, 77)] } : CarSlot)).flushing = false ∧ ((slotted { slots := [{ seg := 0, stripe := 0, isQ := false, entries := [(2, 77)] }] }).modMd (fun d => { d with mode := .holdup })).car.lock = none ∧ (((slotted { slots := [{ seg := 0, stripe := 0, isQ := false, entries := [(2, 77)] }] }).modMd (fun d => { d with mode := .holdup })).tile 3).xl.commits = [] ∧ ((slotted { slots := [{ seg := 0, stripe := 0, isQ := false, entries := [(2, 77)] }] }).modMd (fun d => { d with mode := .holdup })).dirtyOrder 3 = [] ∧ (((slotted { slots := [{ seg := 0, stripe := 0, isQ := false, entries := [(2, 77)] }] }).modMd (fun d => { d with mode := .holdup })).mapOf 3 (({ seg := 0, stripe := 0, isQ := false, entries := [(2, 77)] } : CarSlot)).seg).st = .never) ∧
    (((bitOf grouped.md.sealed 0 = true ∨ (grouped.tile 0).car.slots = []))) ∧
    ((awaiting [2]).peer (({ idx := 2, st := .active } : Peer)).idx = some (({ idx := 2, st := .active } : Peer)) ∧ (awaiting [2]).car.msgs = [(({ peer := 2, seq := 9, type := 1, stripe := 65536, lines := [(0, 5)] } : CarMsg))] ∧ (({ peer := 2, seq := 9, type := 1, stripe := 65536, lines := [(0, 5)] } : CarMsg)).type = 1 ∧ (({ peer := 2, seq := 9, type := 1, stripe := 65536, lines := [(0, 5)] } : CarMsg)).peer = (({ idx := 2, st := .active } : Peer)).idx ∧ (({ peer := 2, seq := 9, type := 1, stripe := 65536, lines := [(0, 5)] } : CarMsg)).lines.length ≤ 7 ∧ (awaiting [2]).carHead = some 0) ∧
    (grouped.car.msgs = [] ∧ grouped.car.reads = []) ∧
    ((grouped.modCar (fun c => { c with msgs := [{ peer := 2, seq := 9, type := 1, stripe := 65536, lines := [(0, 5)] }] })).peer (({ idx := 2, st := .active } : Peer)).idx = some (({ idx := 2, st := .active } : Peer)) ∧ (({ idx := 2, st := .active } : Peer)).st = .active ∧ (grouped.modCar (fun c => { c with msgs := [{ peer := 2, seq := 9, type := 1, stripe := 65536, lines := [(0, 5)] }] })).car.msgs = [(({ peer := 2, seq := 9, type := 1, stripe := 65536, lines := [(0, 5)] } : CarMsg))] ∧ (({ peer := 2, seq := 9, type := 1, stripe := 65536, lines := [(0, 5)] } : CarMsg)).type = 1 ∧ (({ peer := 2, seq := 9, type := 1, stripe := 65536, lines := [(0, 5)] } : CarMsg)).peer = (({ idx := 2, st := .active } : Peer)).idx ∧ ({ (grouped.modCar (fun c => { c with msgs := [{ peer := 2, seq := 9, type := 1, stripe := 65536, lines := [(0, 5)] }] })) with car := { (grouped.modCar (fun c => { c with msgs := [{ peer := 2, seq := 9, type := 1, stripe := 65536, lines := [(0, 5)] }] })).car with msgs := [] } }).carQuiet = true ∧ (((({ peer := 2, seq := 9, type := 1, stripe := 65536, lines := [(0, 5)] } : CarMsg)).ackMs ≤ 5 ∨ (({ peer := 2, seq := 9, type := 1, stripe := 65536, lines := [(0, 5)] } : CarMsg)).ackMs + 1 ≤ 5))) ∧
    ((grouped.modCar (fun c => { c with msgs := [{ peer := 2, seq := 9, type := 1, stripe := 65536, lines := [(0, 5)], ackMs := 5 }] })).car.msgs = [(({ peer := 2, seq := 9, type := 1, stripe := 65536, lines := [(0, 5)], ackMs := 5 } : CarMsg))] ∧ 4 < (({ peer := 2, seq := 9, type := 1, stripe := 65536, lines := [(0, 5)], ackMs := 5 } : CarMsg)).ackMs ∧ 5 < (({ peer := 2, seq := 9, type := 1, stripe := 65536, lines := [(0, 5)], ackMs := 5 } : CarMsg)).ackMs + 1) ∧
    (grouped.car.msgs = []) ∧
    (((awaiting [2]).modMd (fun d => { d with mode := .holdup })).md.mode = .holdup ∧ 50 * max 1 (((awaiting [2]).modMd (fun d => { d with mode := .holdup })).fld Reg.CAR_CTL 7 4) ≤ 750 ∧ 0 < 8 ∧ (((awaiting [2]).modMd (fun d => { d with mode := .holdup })).tile 0).xl.commits = [(({ job := .host 0, seg := 0, page := { kind := .host }, loc := some 5, step := .caravan [2] } : Commit))] ∧ (({ job := .host 0, seg := 0, page := { kind := .host }, loc := some 5, step := .caravan [2] } : Commit)).seg = 0 ∧ (({ job := .host 0, seg := 0, page := { kind := .host }, loc := some 5, step := .caravan [2] } : Commit)).step = .caravan [2] ∧ (({ job := .host 0, seg := 0, page := { kind := .host }, loc := some 5, step := .caravan [2] } : Commit)).stopped = false ∧ ((awaiting [2]).modMd (fun d => { d with mode := .holdup })).staleDurable 2 (((awaiting [2]).modMd (fun d => { d with mode := .holdup })).car.group' ((((awaiting [2]).modMd (fun d => { d with mode := .holdup })).carDataRow (((awaiting [2]).modMd (fun d => { d with mode := .holdup })).segOf 0 0)).getD 0)) = false) ∧
    (((awaiting [2]).md.mode ≠ .holdup ∨ 750 < 50 * max 1 ((awaiting [2]).fld Reg.CAR_CTL 7 4) ∨ ((awaiting [2]).tile 0).xl.commits = [])) := by
  repeat' apply And.intro
  all_goals decide +kernel

/-- States and operands that meet the hypotheses of each clause of CaravanPeers. -/
theorem witness_CaravanPeers :
    ((grouped.modPeer 2 (fun x => { x with helloDue := true })).car.inGroup = true ∧ (grouped.modPeer 2 (fun x => { x with helloDue := true })).carHead = some 0 ∧ (grouped.modPeer 2 (fun x => { x with helloDue := true })).peer (({ idx := 2, st := .active, helloDue := true } : Peer)).idx = some (({ idx := 2, st := .active, helloDue := true } : Peer)) ∧ (({ idx := 2, st := .active, helloDue := true } : Peer)).helloDue = true ∧ (({ idx := 2, st := .active, helloDue := true } : Peer)).helloOld = false ∧ (({ idx := 2, st := .active, helloDue := true } : Peer)).helloAns = false ∧ (grouped.modPeer 2 (fun x => { x with helloDue := true })).ps.running = none ∧ (grouped.modPeer 2 (fun x => { x with helloDue := true })).energyLow = false ∧ (grouped.modPeer 2 (fun x => { x with helloDue := true })).md.mode ≠ .holdup ∧ (((grouped.modPeer 2 (fun x => { x with helloDue := true })).md.mode ≠ .bringup ∨ bitOf (grouped.modPeer 2 (fun x => { x with helloDue := true })).md.stepsDone 12 = true)) ∧ (grouped.modPeer 2 (fun x => { x with helloDue := true })).ps.pendingSet = [] ∧ (grouped.modPeer 2 (fun x => { x with helloDue := true })).ps.waiters = [] ∧ (grouped.modPeer 2 (fun x => { x with helloDue := true })).ps.roomWait = []) ∧
    (grouped.peer (({ idx := 2, st := .active } : Peer)).idx = some (({ idx := 2, st := .active } : Peer)) ∧ (({ idx := 2, st := .active } : Peer)).helloDue = false ∧ (({ idx := 2, st := .active } : Peer)).helloOld = false) ∧
    ((grouped.modPeer 2 (fun x => { x with helloWait := true })).peer (({ idx := 2, st := .active, helloWait := true } : Peer)).idx = some (({ idx := 2, st := .active, helloWait := true } : Peer)) ∧ (({ idx := 2, st := .active, helloWait := true } : Peer)).helloWait = true ∧ (({ idx := 2, st := .active, helloWait := true } : Peer)).st = .active ∧ (grouped.modPeer 2 (fun x => { x with helloWait := true })).carQuiet = true) ∧
    ((((grouped.modPeer 2 (fun x => { x with helloWait := true })).modPeer 1 (fun x => { x with helloWait := true })).modCar (fun c => { c with join := some (0, 7) })).peer (({ idx := 2, st := .active, helloWait := true } : Peer)).idx = some (({ idx := 2, st := .active, helloWait := true } : Peer)) ∧ (({ idx := 2, st := .active, helloWait := true } : Peer)).helloWait = true ∧ (({ idx := 2, st := .active, helloWait := true } : Peer)).st = .active ∧ (((grouped.modPeer 2 (fun x => { x with helloWait := true })).modPeer 1 (fun x => { x with helloWait := true })).modCar (fun c => { c with join := some (0, 7) })).car.join = some (0, 7) ∧ ((((grouped.modPeer 2 (fun x => { x with helloWait := true })).modPeer 1 (fun x => { x with helloWait := true })).modCar (fun c => { c with join := some (0, 7) })).modCar (fun x => { x with join := none })).carQuiet = true ∧ (((grouped.modPeer 2 (fun x => { x with helloWait := true })).modPeer 1 (fun x => { x with helloWait := true })).modCar (fun c => { c with join := some (0, 7) })).car.peers.any (fun q => q.idx != (({ idx := 2, st := .active, helloWait := true } : Peer)).idx && (q.helloWait || q.helloDue)) = true) ∧
    (grouped.peer (({ idx := 2, st := .active } : Peer)).idx = some (({ idx := 2, st := .active } : Peer)) ∧ (({ idx := 2, st := .active } : Peer)).helloWait = false ∧ grouped.car.join = none) ∧
    ((grouped.modPeer 2 (fun x => { x with st := .departed, seqTx := 5 })).carFrameOk (frameOf 0 0 [7]) = true ∧ (grouped.modPeer 2 (fun x => { x with st := .departed, seqTx := 5 })).peer (frameOf 0 0 [7]).src = some (({ idx := 2, st := .departed, seqTx := 5 } : Peer)) ∧ (({ idx := 2, st := .departed, seqTx := 5 } : Peer)).taken = false ∧ (({ idx := 2, st := .departed, seqTx := 5 } : Peer)).spare = false ∧ (grouped.modPeer 2 (fun x => { x with st := .departed, seqTx := 5 })).carQuiet = true ∧ helloView ((frameOf 0 0 [7]).lines.headD 0) (grouped.modPeer 2 (fun x => { x with st := .departed, seqTx := 5 })).car.self ≠ 3 ∧ (grouped.modPeer 2 (fun x => { x with st := .departed, seqTx := 5 })).car.peers.all (fun q => q.st != .departed || q.idx == (frameOf 0 0 [7]).src) = true) ∧
    (grouped.carFrameOk (frameOf 0 0 []) = true ∧ grouped.peer (frameOf 0 0 []).src = some (({ idx := 2, st := .active } : Peer)) ∧ (({ idx := 2, st := .active } : Peer)).st = .active ∧ ahas (frameOf 0 0 []).seq (({ idx := 2, st := .active } : Peer)).seen = false ∧ grouped.carQuiet = true) ∧
    (grouped.carFrameOk (frameOf 0 0 []) = true ∧ grouped.peer (frameOf 0 0 []).src = some (({ idx := 2, st := .active } : Peer)) ∧ (({ idx := 2, st := .active } : Peer)).st = .active ∧ ahas (frameOf 0 0 []).seq (({ idx := 2, st := .active } : Peer)).seen = false ∧ grouped.carQuiet = true) ∧
    (grouped.carFrameOk (frameOf 0 0 [lineOf (fun x => if x = 3 then 8 else 0)]) = true ∧ (grouped.peer (frameOf 0 0 [lineOf (fun x => if x = 3 then 8 else 0)]).src).map (fun p => ahas (frameOf 0 0 [lineOf (fun x => if x = 3 then 8 else 0)]).seq p.seen) = some false ∧ 27 < 4096 ∧ bitOf (leAt (lineBytes (frameOf 0 0 [lineOf (fun x => if x = 3 then 8 else 0)]).lines) (27 / 8) 1) (27 % 8) = true) ∧
    (grouped.carFrameOk (frameOf 0 0 [lineOf (fun x => if x = 0 then 3 else if x < 8 then 0 else 0xFF)]) = true ∧ grouped.car.role ≠ 2 ∧ grouped.peer (frameOf 0 0 [lineOf (fun x => if x = 0 then 3 else if x < 8 then 0 else 0xFF)]).src = some (({ idx := 2, st := .active } : Peer)) ∧ ahas (frameOf 0 0 [lineOf (fun x => if x = 0 then 3 else if x < 8 then 0 else 0xFF)]).seq (({ idx := 2, st := .active } : Peer)).seen = false) ∧
    ((grouped.modPeer 2 (fun x => { x with seen := [(9, 0)] })).carFrameOk (frameOf 0 0 []) = true ∧ (grouped.modPeer 2 (fun x => { x with seen := [(9, 0)] })).peer (frameOf 0 0 []).src = some (({ idx := 2, st := .active, seen := [(9, 0)] } : Peer)) ∧ ahas (frameOf 0 0 []).seq (({ idx := 2, st := .active, seen := [(9, 0)] } : Peer)).seen = true) ∧
    ((grouped.modPeer 2 (fun x => { x with seen := [(9, 0)] })).carFrameOk (frameOf 0 0 []) = true ∧ (grouped.modPeer 2 (fun x => { x with seen := [(9, 0)] })).peer (frameOf 0 0 []).src = some (({ idx := 2, st := .active, seen := [(9, 0)] } : Peer)) ∧ ahas (frameOf 0 0 []).seq (({ idx := 2, st := .active, seen := [(9, 0)] } : Peer)).seen = true) ∧
    ((grouped.modPeer 2 (fun x => { x with seen := [(9, 0)] })).carFrameOk (frameOf 0 0 []) = true ∧ (grouped.modPeer 2 (fun x => { x with seen := [(9, 0)] })).peer (frameOf 0 0 []).src = some (({ idx := 2, st := .active, seen := [(9, 0)] } : Peer)) ∧ ahas (frameOf 0 0 []).seq (({ idx := 2, st := .active, seen := [(9, 0)] } : Peer)).seen = true) ∧
    ((grouped.modPeer 2 (fun x => { x with seen := [(9, 0)] })).carFrameOk (frameOf 0 0 []) = true ∧ (grouped.modPeer 2 (fun x => { x with seen := [(9, 0)] })).peer (frameOf 0 0 []).src = some (({ idx := 2, st := .active, seen := [(9, 0)] } : Peer)) ∧ ahas (frameOf 0 0 []).seq (({ idx := 2, st := .active, seen := [(9, 0)] } : Peer)).seen = true) ∧
    ((grouped.modPeer 2 (fun x => { x with seen := [(9, 0)] })).carFrameOk (frameOf 0 0 []) = true ∧ (grouped.modPeer 2 (fun x => { x with seen := [(9, 0)] })).peer (frameOf 0 0 []).src = some (({ idx := 2, st := .active, seen := [(9, 0)] } : Peer)) ∧ ahas (frameOf 0 0 []).seq (({ idx := 2, st := .active, seen := [(9, 0)] } : Peer)).seen = true) ∧
    (grouped.carFrameOk (frameOf 0 0 [1]) = true ∧ grouped.peer (frameOf 0 0 [1]).src = some (({ idx := 2, st := .active } : Peer)) ∧ (({ idx := 1, st := .active } : Peer)).idx = (lineByte ((frameOf 0 0 [1]).lines.headD 0) 0).toNat ∧ grouped.peer (({ idx := 1, st := .active } : Peer)).idx = some (({ idx := 1, st := .active } : Peer)) ∧ (({ idx := 1, st := .active } : Peer)).idx ≠ (frameOf 0 0 [1]).src ∧ (({ idx := 1, st := .active } : Peer)).st ≠ .replaced ∧ grouped.car.inGroup = true) ∧
    (grouped.carFrameOk (frameOf 65536 (2 ^ 63) []) = true ∧ grouped.car.role = 0 ∧ (frameOf 65536 (2 ^ 63) []).stripe / 65536 < grouped.car.blocks ∧ grouped.carHolds ((frameOf 65536 (2 ^ 63) []).stripe / 65536) = false ∧ (grouped.carHome (frameOf 65536 (2 ^ 63) []).stripe).1 = 1 ∧ 1 < 8 ∧ grouped.alive 1 = true ∧ 63 < 64 ∧ (frameOf 65536 (2 ^ 63) []).mask = 2 ^ 63 ∧ (grouped.mapOf 1 (grouped.carHome (frameOf 65536 (2 ^ 63) []).stripe).2).st = .never ∧ (grouped.tile 1).xl.commits = [] ∧ grouped.carHead = some 0 ∧ grouped.peer (frameOf 65536 (2 ^ 63) []).src = some (({ idx := 2, st := .active } : Peer))) ∧
    ((slotted { slots := [{ seg := 0, stripe := 0, isQ := false, lines := [(63, 5)], entries := [(1, 7)] }] }).carFrameOk (frameOf 0 (2 ^ 63) []) = true ∧ (slotted { slots := [{ seg := 0, stripe := 0, isQ := false, lines := [(63, 5)], entries := [(1, 7)] }] }).car.role = 0 ∧ (frameOf 0 (2 ^ 63) []).stripe / 65536 < (slotted { slots := [{ seg := 0, stripe := 0, isQ := false, lines := [(63, 5)], entries := [(1, 7)] }] }).car.blocks ∧ (slotted { slots := [{ seg := 0, stripe := 0, isQ := false, lines := [(63, 5)], entries := [(1, 7)] }] }).carHolds ((frameOf 0 (2 ^ 63) []).stripe / 65536) = true ∧ (slotted { slots := [{ seg := 0, stripe := 0, isQ := false, lines := [(63, 5)], entries := [(1, 7)] }] }).car.resync = [] ∧ ((slotted { slots := [{ seg := 0, stripe := 0, isQ := false, lines := [(63, 5)], entries := [(1, 7)] }] }).carHome (frameOf 0 (2 ^ 63) []).stripe).1 = 3 ∧ 3 < 8 ∧ (slotted { slots := [{ seg := 0, stripe := 0, isQ := false, lines := [(63, 5)], entries := [(1, 7)] }] }).alive 3 = true ∧ 63 < 64 ∧ (frameOf 0 (2 ^ 63) []).mask = 2 ^ 63 ∧ ((slotted { slots := [{ seg := 0, stripe := 0, isQ := false, lines := [(63, 5)], entries := [(1, 7)] }] }).mapOf 3 ((slotted { slots := [{ seg := 0, stripe := 0, isQ := false, lines := [(63, 5)], entries := [(1, 7)] }] }).carHome (frameOf 0 (2 ^ 63) []).stripe).2).st = .never ∧ ((slotted { slots := [{ seg := 0, stripe := 0, isQ := false, lines := [(63, 5)], entries := [(1, 7)] }] }).tile 3).car.slots = [(({ seg := 0, stripe := 0, isQ := false, lines := [(63, 5)], entries := [(1, 7)] } : CarSlot))] ∧ (({ seg := 0, stripe := 0, isQ := false, lines := [(63, 5)], entries := [(1, 7)] } : CarSlot)).stripe = (frameOf 0 (2 ^ 63) []).stripe ∧ (({ seg := 0, stripe := 0, isQ := false, lines := [(63, 5)], entries := [(1, 7)] } : CarSlot)).lines = [(63, ((5 : Line)))] ∧ (({ seg := 0, stripe := 0, isQ := false, lines := [(63, 5)], entries := [(1, 7)] } : CarSlot)).entries = [(1, 7)] ∧ (({ seg := 0, stripe := 0, isQ := false, lines := [(63, 5)], entries := [(1, 7)] } : CarSlot)).settledE = [] ∧ (slotted { slots := [{ seg := 0, stripe := 0, isQ := false, lines := [(63, 5)], entries := [(1, 7)] }] }).carHead.isSome = true) ∧
    ((grouped.modCar (fun c => { c with role := 1 })).carFrameOk (frameOf 65536 1 []) = true ∧ (grouped.modCar (fun c => { c with role := 1 })).car.role = 1) ∧
    ((readingPeers [(2, 3), (1, 3)]).carFrameOk (frameOf 65536 1 [5]) = true ∧ (readingPeers [(2, 3), (1, 3)]).car.reads = [(({ use := .host 0 1 0, stripe := 65536, mask := 1, left := [(2, 3), (1, 3)] } : CarRead))] ∧ (({ use := .host 0 1 0, stripe := 65536, mask := 1, left := [(2, 3), (1, 3)] } : CarRead)).stripe = (frameOf 65536 1 [5]).stripe ∧ (({ use := .host 0 1 0, stripe := 65536, mask := 1, left := [(2, 3), (1, 3)] } : CarRead)).left = [((frameOf 65536 1 [5]).src, 3), (1, 3)] ∧ 1 ≠ (frameOf 65536 1 [5]).src ∧ (readingPeers [(2, 3), (1, 3)]).car.rs = false ∧ (readingPeers [(2, 3), (1, 3)]).car.pOf ((frameOf 65536 1 [5]).stripe / 65536) ≠ (frameOf 65536 1 [5]).src ∧ (frameOf 65536 1 [5]).lines.length = popCount (frameOf 65536 1 [5]).mask 64 ∧ ((readingPeers [(2, 3), (1, 3)]).peer (frameOf 65536 1 [5]).src).map (fun p => ahas (frameOf 65536 1 [5]).seq p.seen) = some false) ∧
    (((readingPeers [(2, 3), (1, 3)]).modPeer 2 (fun x => { x with seen := [(9, 0)] })).carFrameOk (frameOf 65536 1 [5]) = true ∧ ((readingPeers [(2, 3), (1, 3)]).modPeer 2 (fun x => { x with seen := [(9, 0)] })).peer (frameOf 65536 1 [5]).src = some (({ idx := 2, st := .active, seen := [(9, 0)] } : Peer)) ∧ ahas (frameOf 65536 1 [5]).seq (({ idx := 2, st := .active, seen := [(9, 0)] } : Peer)).seen = true) ∧
    ((readingPeers [(2, 3)]).car.reads = [(({ use := .host 0 1 0, stripe := 65536, mask := 1, left := [(2, 3)] } : CarRead))] ∧ (({ use := .host 0 1 0, stripe := 65536, mask := 1, left := [(2, 3)] } : CarRead)).stripe = 65536 ∧ (({ use := .host 0 1 0, stripe := 65536, mask := 1, left := [(2, 3)] } : CarRead)).use = .host 0 1 0 ∧ (readingPeers [(2, 3)]).hazOf 0 1 = none ∧ (readingPeers [(2, 3)]).noWork = true ∧ (({ use := .host 0 1 0, stripe := 65536, mask := 1, left := [(2, 3)] } : CarRead)).ackMs ≤ 13) ∧
    ((readingPeers [(2, 3)]).car.reads.all (fun r => r.stripe != 65537 || decide (13 < r.ackMs)) = true) ∧
    ((grouped.modCar (fun c => { c with lock := some 0 })).car.lock = some 0 ∧ (grouped.modCar (fun c => { c with lock := some 0 })).car.reads = [] ∧ ((grouped.modCar (fun c => { c with lock := some 0 })).tile ((grouped.modCar (fun c => { c with lock := some 0 })).carHome 0).1).car.held = []) ∧
    (grouped.car.lock = none) := by
  repeat' apply And.intro
  all_goals decide +kernel

/-- States and operands that meet the hypotheses of each clause of CaravanWork. -/
theorem witness_CaravanWork :
    (((serve.car.inGroup = false ∨ serve.car.role ≠ 0 ∨ serve.car.stopped = true ∨ serve.car.lock.isSome = true))) ∧
    ((grouped.modCar (fun c => { c with resync := [0] })).car.inGroup = true ∧ (grouped.modCar (fun c => { c with resync := [0] })).md.operating = true ∧ (grouped.modCar (fun c => { c with resync := [0] })).car.role = 0 ∧ (grouped.modCar (fun c => { c with resync := [0] })).car.stopped = false ∧ (grouped.modCar (fun c => { c with resync := [0] })).car.lock = none ∧ (grouped.modCar (fun c => { c with resync := [0] })).windowFor 2 = true ∧ (grouped.modCar (fun c => { c with resync := [0] })).car.work = 0 ∧ (grouped.modCar (fun c => { c with resync := [0] })).car.resync = 0 :: (([] : List Nat))) ∧
    (((grouped.modCar (fun c => { c with work := 1 })).setWindow 2).car.inGroup = true ∧ ((grouped.modCar (fun c => { c with work := 1 })).setWindow 2).md.operating = true ∧ ((grouped.modCar (fun c => { c with work := 1 })).setWindow 2).car.role = 0 ∧ ((grouped.modCar (fun c => { c with work := 1 })).setWindow 2).car.stopped = false ∧ ((grouped.modCar (fun c => { c with work := 1 })).setWindow 2).car.lock = none ∧ ((grouped.modCar (fun c => { c with work := 1 })).setWindow 2).windowFor 2 = true ∧ ((grouped.modCar (fun c => { c with work := 1 })).setWindow 2).car.work = 1 ∧ ((grouped.modCar (fun c => { c with work := 1 })).setWindow 2).car.resync = []) ∧
    (((grouped.modCar (fun c => { c with work := 1, resync := [0] })).setWindow 2).car.inGroup = true ∧ ((grouped.modCar (fun c => { c with work := 1, resync := [0] })).setWindow 2).md.operating = true ∧ ((grouped.modCar (fun c => { c with work := 1, resync := [0] })).setWindow 2).car.role = 0 ∧ ((grouped.modCar (fun c => { c with work := 1, resync := [0] })).setWindow 2).car.stopped = false ∧ ((grouped.modCar (fun c => { c with work := 1, resync := [0] })).setWindow 2).car.lock = none ∧ ((grouped.modCar (fun c => { c with work := 1, resync := [0] })).setWindow 2).windowFor 2 = true ∧ ((grouped.modCar (fun c => { c with work := 1, resync := [0] })).setWindow 2).car.work = 1 ∧ ((grouped.modCar (fun c => { c with work := 1, resync := [0] })).setWindow 2).car.resync = 0 :: (([] : List Nat)) ∧ ((grouped.modCar (fun c => { c with work := 1, resync := [0] })).setWindow 2).car.resyncNext = 0 ∧ (((grouped.modCar (fun c => { c with work := 1, resync := [0] })).setWindow 2).groupRows 0)[0]? = some 0 ∧ (((grouped.modCar (fun c => { c with work := 1, resync := [0] })).setWindow 2).carHome (0 * 65536)).1 = 3 ∧ ((grouped.modCar (fun c => { c with work := 1, resync := [0] })).setWindow 2).alive 3 = true ∧ (((grouped.modCar (fun c => { c with work := 1, resync := [0] })).setWindow 2).carOthers 0).all ((grouped.modCar (fun c => { c with work := 1, resync := [0] })).setWindow 2).peerActive = true ∧ (((grouped.modCar (fun c => { c with work := 1, resync := [0] })).setWindow 2).tile 3).car.slots = [] ∧ (((grouped.modCar (fun c => { c with work := 1, resync := [0] })).setWindow 2).tile 3).xl.commits = []) ∧
    (((serve.car.role ≠ 2 ∨ serve.car.work ≠ 2 ∨ serve.pw.stage ≠ 0 ∨ serve.windowFor 2 = false))) ∧
    ((rebuilding (3 * 65536)).car.role = 2 ∧ (rebuilding (3 * 65536)).car.work = 2 ∧ (rebuilding (3 * 65536)).md.operating = true ∧ (rebuilding (3 * 65536)).pw.stage = 0 ∧ (rebuilding (3 * 65536)).windowFor 2 = true ∧ (rebuilding (3 * 65536)).car.lock = none ∧ (rebuilding (3 * 65536)).car.blocks ≤ (rebuilding (3 * 65536)).car.resyncNext / 65536) ∧
    (((rebuilding 65537).modXl 0 (fun x => { x with map := [(794624, { st := .mapped, loc := 5 })] })).car.role = 2 ∧ 4096 ≤ 4096 * max 1 (((rebuilding 65537).modXl 0 (fun x => { x with map := [(794624, { st := .mapped, loc := 5 })] })).fld Reg.CAR_CTL 11 8) ∧ ((rebuilding 65537).modXl 0 (fun x => { x with map := [(794624, { st := .mapped, loc := 5 })] })).car.work = 2 ∧ ((rebuilding 65537).modXl 0 (fun x => { x with map := [(794624, { st := .mapped, loc := 5 })] })).md.operating = true ∧ ((rebuilding 65537).modXl 0 (fun x => { x with map := [(794624, { st := .mapped, loc := 5 })] })).pw.stage = 0 ∧ ((rebuilding 65537).modXl 0 (fun x => { x with map := [(794624, { st := .mapped, loc := 5 })] })).windowFor 2 = true ∧ ((rebuilding 65537).modXl 0 (fun x => { x with map := [(794624, { st := .mapped, loc := 5 })] })).car.lock = none ∧ ((rebuilding 65537).modXl 0 (fun x => { x with map := [(794624, { st := .mapped, loc := 5 })] })).car.resyncNext / 65536 < ((rebuilding 65537).modXl 0 (fun x => { x with map := [(794624, { st := .mapped, loc := 5 })] })).car.blocks ∧ (((rebuilding 65537).modXl 0 (fun x => { x with map := [(794624, { st := .mapped, loc := 5 })] })).car.dataIdx (((rebuilding 65537).modXl 0 (fun x => { x with map := [(794624, { st := .mapped, loc := 5 })] })).car.resyncNext / 65536) ((rebuilding 65537).modXl 0 (fun x => { x with map := [(794624, { st := .mapped, loc := 5 })] })).car.self).isSome = true ∧ ((rebuilding 65537).modXl 0 (fun x => { x with map := [(794624, { st := .mapped, loc := 5 })] })).carHome ((rebuilding 65537).modXl 0 (fun x => { x with map := [(794624, { st := .mapped, loc := 5 })] })).car.resyncNext = (0, 794624) ∧ (((rebuilding 65537).modXl 0 (fun x => { x with map := [(794624, { st := .mapped, loc := 5 })] })).mapRaw 0 794624).st ≠ .lost) ∧
    ((rebuilding 65537).car.role = 2 ∧ 4096 ≤ 4096 * max 1 ((rebuilding 65537).fld Reg.CAR_CTL 11 8) ∧ (rebuilding 65537).car.work = 2 ∧ (rebuilding 65537).md.operating = true ∧ (rebuilding 65537).pw.stage = 0 ∧ (rebuilding 65537).windowFor 2 = true ∧ (rebuilding 65537).car.lock = none ∧ (rebuilding 65537).car.resyncNext / 65536 < (rebuilding 65537).car.blocks ∧ ((rebuilding 65537).car.dataIdx ((rebuilding 65537).car.resyncNext / 65536) (rebuilding 65537).car.self).isSome = true ∧ (rebuilding 65537).carHome (rebuilding 65537).car.resyncNext = (0, 794624) ∧ (rebuilding 65537).alive 0 = true ∧ ((rebuilding 65537).mapRaw 0 794624).st = .lost ∧ ahas 794624 ((rebuilding 65537).tile 0).xl.map = false ∧ ((rebuilding 65537).commitOf 0 794624).isNone = true ∧ (rebuilding 65537).segLocked 0 794624 = false ∧ (rebuilding 65537).car.reads = [] ∧ (rebuilding 65537).carAsk ((rebuilding 65537).car.resyncNext / 65536) = some ([2, 1])) ∧
    ((rebuilding 65537).car.role = 2 ∧ (rebuilding 65537).car.work = 2 ∧ (rebuilding 65537).car.resyncNext / 65536 < (rebuilding 65537).car.blocks ∧ 400 * max 1 ((rebuilding 65537).fld Reg.CAR_CTL 11 8) < 4096) ∧
    (((inMode .service).modSec (fun k => { k with secrets := [(1, 0#256)] })).accepts pc0 0x0600 true = true ∧ ((inMode .service).modSec (fun k => { k with secrets := [(1, 0#256)] })).md.operating = true ∧ ((inMode .service).modSec (fun k => { k with secrets := [(1, 0#256)] })).md.mode = .service ∧ ((inMode .service).modSec (fun k => { k with secrets := [(1, 0#256)] })).car.inGroup = false ∧ 4095 < 4096 ∧ 3 ≤ 3 ∧ 3 ≤ 18 ∧ 2 < 3 ∧ 96 + 3 ≤ ((inMode .service).modSec (fun k => { k with secrets := [(1, 0#256)] })).pkgBlocks ∧ ((inMode .service).modSec (fun k => { k with secrets := [(1, 0#256)] })).cap.table = [] ∧ ((inMode .service).modSec (fun k => { k with secrets := [(1, 0#256)] })).rangeEmpty 96 (96 + 3) = true ∧ 3 ≤ 3 ∧ 3 % 3 = 0 ∧ 1 ≠ 0 ∧ 1 < 2 ∧ (((inMode .service).modSec (fun k => { k with secrets := [(1, 0#256)] })).head 0).upper = false ∧ ((inMode .service).modSec (fun k => { k with secrets := [(1, 0#256)] })).pop.legal = true ∧ ahas 1 ((inMode .service).modSec (fun k => { k with secrets := [(1, 0#256)] })).sec.secrets = true ∧ ((inMode .service).modSec (fun k => { k with secrets := [(1, 0#256)] })).sec.withdrawn = false ∧ 64 % 64 = 0 ∧ (peersOf ([[1, 2, 3]]) 3 2).isEmpty = false) ∧
    ((grouped.modMd (fun d => { d with mode := .service })).accepts pc0 0x0600 true = true ∧ (grouped.modMd (fun d => { d with mode := .service })).md.operating = true ∧ (grouped.modMd (fun d => { d with mode := .service })).md.mode = .service ∧ (grouped.modMd (fun d => { d with mode := .service })).car.inGroup = true) ∧
    ((inMode .service).accepts pc0 0x0600 true = true ∧ (inMode .service).md.operating = true ∧ (inMode .service).md.mode = .service ∧ (inMode .service).car.inGroup = false ∧ 5 < 4096 ∧ ((19 < 3 ∨ 18 < 19))) ∧
    (((grouped.modCar (fun c => { c with heads := 2 })).modMd (fun d => { d with mode := .service })).accepts pc0 0x0601 true = true ∧ ((grouped.modCar (fun c => { c with heads := 2 })).modMd (fun d => { d with mode := .service })).md.operating = true ∧ ((grouped.modCar (fun c => { c with heads := 2 })).modMd (fun d => { d with mode := .service })).md.mode = .service ∧ ((grouped.modCar (fun c => { c with heads := 2 })).modMd (fun d => { d with mode := .service })).car.inGroup = true ∧ ((grouped.modCar (fun c => { c with heads := 2 })).modMd (fun d => { d with mode := .service })).car.role = 0 ∧ ((grouped.modCar (fun c => { c with heads := 2 })).modMd (fun d => { d with mode := .service })).car.work = 0 ∧ ((grouped.modCar (fun c => { c with heads := 2 })).modMd (fun d => { d with mode := .service })).carQuiet = true ∧ ((grouped.modCar (fun c => { c with heads := 2 })).modMd (fun d => { d with mode := .service })).carHead = none) ∧
    ((inMode .service).accepts pc0 0x0601 true = true ∧ (inMode .service).md.operating = true ∧ (inMode .service).md.mode = .service ∧ (((inMode .service).car.inGroup = false ∨ ((inMode .service).car.role ≠ 1 ∧ true = false)))) ∧
    (grouped.accepts pc0 0x0602 false = true ∧ grouped.sec.romOnly = false) ∧
    (grouped.accepts pc0 0x0603 true = true ∧ grouped.md.operating = true ∧ grouped.md.mode ≠ .sealed ∧ grouped.car.inGroup = true ∧ grouped.car.work = 0) ∧
    (grouped.accepts pc0 0x0603 true = true ∧ grouped.md.operating = true ∧ grouped.md.mode ≠ .sealed ∧ ((grouped.car.inGroup = false ∨ 3 ≤ 3 ∨ (3 = 1 ∧ grouped.car.role ≠ 0) ∨ (3 = 0 ∧ grouped.car.role = 0)))) ∧
    ((grouped.setWindow 1).accepts pc0 0x0603 true = true ∧ (grouped.setWindow 1).md.operating = true ∧ (grouped.setWindow 1).md.mode ≠ .sealed ∧ (grouped.setWindow 1).car.inGroup = true ∧ (grouped.setWindow 1).car.role = 0 ∧ (((grouped.setWindow 1).car.work ≠ 0 ∨ (grouped.setWindow 1).windowFor 2 = false))) ∧
    (grouped.accepts pc0 0x0603 true = true ∧ grouped.md.operating = true ∧ grouped.md.mode ≠ .sealed ∧ grouped.car.inGroup = true ∧ grouped.car.role = 0 ∧ grouped.car.work = 0 ∧ grouped.windowFor 2 = true ∧ 0 < 4096 ∧ (grouped.groupRows 0).isEmpty = false) := by
  repeat' apply And.intro
  all_goals decide +kernel

end Sys2Proof.Tests
end

section
/-! What leaves the fuses as they are (16_security.md R446). Two commands may blow fuses; of everything that they run, only
`State.raiseFloor` and `State.lcWipe` touch one. One lemma per operation, in the order of the
model's files: each unfolds its own operation and rests on the lemmas of those it calls. -/

namespace Sys2Proof.Machine

open Sys2Proof

@[simp] theorem fuse_ite (p : Prop) [Decidable p] (a b : State) : (if p then a else b).fuse = if p then a.fuse else b.fuse :=
  apply_ite State.fuse p a b

/-- A fold keeps the fuses when each of its steps does. -/
@[simp] theorem foldl_fuse {β : Type} {f : State → β → State} (h : ∀ a b, (f a b).fuse = a.fuse) (l : List β) (s : State) :
    (l.foldl f s).fuse = s.fuse := by
  induction l generalizing s with
  | nil => rfl
  | cons b l ih => exact (ih _).trans (h s b)

/-- The same for a fold that carries a value beside the state. -/
@[simp] theorem foldl_fst_fuse {α β : Type} {f : State × α → β → State × α} (h : ∀ a b, (f a b).1.fuse = a.1.fuse) (l : List β)
    (p : State × α) : (l.foldl f p).1.fuse = p.1.fuse := by
  induction l generalizing p with
  | nil => rfl
  | cons b l ih => exact (ih _).trans (h p b)

/-! ### Machine/Ops.lean: completion entries, interrupts and event records -/

@[simp] theorem State.cqWrite_fuse (s : State) (r : Nat) (head8 : List Byte) (rest : List Byte) :
    (s.cqWrite r head8 rest).fuse = s.fuse := by
  simp [State.cqWrite]

@[simp] theorem State.ringMsix_fuse (s : State) (r : Nat) : (s.ringMsix r).fuse = s.fuse := by simp [State.ringMsix]
@[simp] theorem State.ringCount_fuse (s : State) (r : Nat) (now : Bool) : (s.ringCount r now).fuse = s.fuse := by simp [State.ringCount]

/-! ### Machine/PerfOps.lean: counters and bandwidth windows -/

@[simp] theorem State.perfOvf_fuse (s : State) (t n : Nat) : (s.perfOvf t n).fuse = s.fuse := by simp [State.perfOvf]
@[simp] theorem State.setCnt_fuse (s : State) (t n v : Nat) : (s.setCnt t n v).fuse = s.fuse := by simp [State.setCnt]

@[simp] theorem State.cntAdd_fuse (k : Nat) (s : State) (t n d : Nat) : (State.cntAdd k s t n d).fuse = s.fuse := by
  induction k generalizing s n d with
  | zero => rfl
  | succ k ih => simp [State.cntAdd, ih]

@[simp] theorem State.perfEvent_fuse (s : State) (t no q d : Nat) : (s.perfEvent t no q d).fuse = s.fuse := by
  simp [State.perfEvent]

@[simp] theorem State.settleLevel_fuse (s : State) (t : Nat) : (s.settleLevel t).fuse = s.fuse := by simp [State.settleLevel]
@[simp] theorem State.winCount_fuse (s : State) (h : Nat) (write : Bool) : (s.winCount h write).fuse = s.fuse := by simp [State.winCount]

@[simp] theorem State.winClose_fuse (s : State) (w heads us : Nat) (short : Bool) : (s.winClose w heads us short).fuse = s.fuse := by
  simp [State.winClose]

@[simp] theorem State.winCloseAll_fuse (s : State) (p : Nat → Bool) (us : Nat) : (s.winCloseAll p us).fuse = s.fuse := by
  simp [State.winCloseAll]

/-! ### Machine/BelfryOps.lean: conversions of temperature sensors -/

@[simp] theorem State.convStart_fuse (s : State) (c : Nat) : (s.convStart c).fuse = s.fuse := by
  unfold State.convStart
  (repeat' split) <;> rfl

@[simp] theorem State.requestConv_fuse (s : State) (ids : List Nat) (prio : Nat) : (s.requestConv ids prio).fuse = s.fuse := by
  simp [State.requestConv]

/-! ### Machine/GeoOps.lean: messages on the mesh -/

@[simp] theorem State.perfMesh_fuse (s : State) (t port cls : Nat) : (s.perfMesh t port cls).fuse = s.fuse := by
  simp [State.perfMesh]

@[simp] theorem State.meshPut_fuse (s : State) (t : Nat) (m : Msg) : (s.meshPut t m).fuse = s.fuse := by
  unfold State.meshPut
  split <;> simp

@[simp] theorem State.meshSend_fuse (s : State) (t : Nat) (m : Msg) : (s.meshSend t m).fuse = s.fuse := by simp [State.meshSend]
@[simp] theorem State.syncAll_fuse (s : State) (b : MsgBody) : (s.syncAll b).fuse = s.fuse := by simp [State.syncAll]

/-! ### Machine/MedOps.lean: command packets and the ladder -/

@[simp] theorem State.caSend_fuse (s : State) (t c rank : Nat) (cmd : CaCmd) : (s.caSend t c rank cmd).fuse = s.fuse := by
  simp [State.caSend]

@[simp] theorem State.caIssue_fuse (s : State) (t c rank : Nat) (cmd : CaCmd) : (s.caIssue t c rank cmd).fuse = s.fuse := by
  unfold State.caIssue
  split <;> simp

@[simp] theorem State.stat_fuse (s : State) (t w n : Nat) : (s.stat t w n).fuse = s.fuse := by simp [State.stat]

@[simp] theorem State.refresh_fuse (s : State) (t loc prio age : Nat) (step3 : Bool) : (s.refresh t loc prio age step3).fuse = s.fuse := by
  unfold State.refresh
  dsimp only
  (repeat' split) <;> simp

@[simp] theorem State.rereads_fuse (s : State) (t loc line used : Nat) (offs : List Int) :
    (s.rereads t loc line used offs).fuse = s.fuse := by
  simp [State.rereads]

@[simp] theorem State.readOutcome_fuse (s : State) (t loc : Nat) (o : PageOut) (clamped : Bool) :
    (s.readOutcome t loc o clamped).fuse = s.fuse := by
  simp [State.readOutcome]

/-! ### Machine/XlOps.lean: events of heads, modes, the map, the journal, placement and programs -/

@[simp] theorem State.evtTo_fuse (s : State) (log : Nat) (r : EvtRec) (c : Nat) : (s.evtTo log r c).fuse = s.fuse := by simp [State.evtTo]

@[simp] theorem State.evtFor_fuse (s : State) (lds : List Nat) (log : Nat) (r : EvtRec) : (s.evtFor lds log r).fuse = s.fuse := by
  simp [State.evtFor]

@[simp] theorem State.evtAll_fuse (s : State) (log : Nat) (r : EvtRec) : (s.evtAll log r).fuse = s.fuse := by simp [State.evtAll]
@[simp] theorem State.evtSeg_fuse (s : State) (cause seg : Nat) : (s.evtSeg cause seg).fuse = s.fuse := by simp [State.evtSeg]
@[simp] theorem State.enterMode_fuse (s : State) (m : Mode) : (s.enterMode m).fuse = s.fuse := by simp [State.enterMode]
@[simp] theorem State.reevaluate_fuse (s : State) : s.reevaluate.fuse = s.fuse := by simp [State.reevaluate]
@[simp] theorem State.setCause_fuse (s : State) (n : Nat) (on : Bool) : (s.setCause n on).fuse = s.fuse := by simp [State.setCause]
@[simp] theorem State.mapLineBad_fuse (s : State) (t l : Nat) : (s.mapLineBad t l).fuse = s.fuse := by simp [State.mapLineBad]
@[simp] theorem State.setMap_fuse (s : State) (t l : Nat) (e : MapEnt) : (s.setMap t l e).fuse = s.fuse := by simp [State.setMap]
@[simp] theorem State.judgeLost_fuse (s : State) : s.judgeLost.fuse = s.fuse := by simp [State.judgeLost]

@[simp] theorem State.stcLookup_fuse (s : State) (t l : Nat) : (s.stcLookup t l).1.fuse = s.fuse := by
  unfold State.stcLookup
  dsimp only
  split <;> simp

@[simp] theorem State.jappend_fuse (s : State) (t : Nat) (r : JRec) : (s.jappend t r).fuse = s.fuse := by
  unfold State.jappend
  split <;> simp

@[simp] theorem State.jappendNow_fuse (s : State) (t : Nat) (r : JRec) : (s.jappendNow t r).fuse = s.fuse := by simp [State.jappendNow]

@[simp] theorem State.invalidate_fuse (s : State) (t loc : Nat) : (s.invalidate t loc).fuse = s.fuse := by
  unfold State.invalidate
  dsimp only
  (repeat' split) <;> simp

@[simp] theorem State.judgeThrottle_fuse (s : State) (t : Nat) : (s.judgeThrottle t).fuse = s.fuse := by simp [State.judgeThrottle]
@[simp] theorem State.spareWarn_fuse (s : State) (t : Nat) : (s.spareWarn t).fuse = s.fuse := by simp [State.spareWarn]
@[simp] theorem State.seal_fuse (s : State) (t : Nat) : (s.seal t).fuse = s.fuse := by simp [State.seal]

@[simp] theorem State.retire_fuse (s : State) (t b cause : Nat) (st : BlkSt) (note : Bool) :
    (s.retire t b cause st note).fuse = s.fuse := by
  simp [State.retire]

@[simp] theorem State.nameNext_fuse (s : State) (t p f : Nat) : (s.nameNext t p f).fuse = s.fuse := by
  unfold State.nameNext
  dsimp only
  (repeat' split) <;> simp

@[simp] theorem State.forceClose_fuse (s : State) (t p f : Nat) : (s.forceClose t p f).fuse = s.fuse := by
  unfold State.forceClose
  (repeat' split) <;> simp

@[simp] theorem State.openPage_fuse (s0 : State) (t p f : Nat) : (s0.openPage t p f).1.fuse = s0.fuse := by
  unfold State.openPage
  dsimp only
  (repeat' split) <;> simp

@[simp] theorem State.takePage_fuse (s : State) (t p f loc : Nat) : (s.takePage t p f loc).fuse = s.fuse := by simp [State.takePage]

@[simp] theorem State.placeOn_fuse (t f : Nat) (l : List Nat) (s : State) : (State.placeOn t f l s).1.fuse = s.fuse := by
  induction l generalizing s with
  | nil => rfl
  | cons p l ih =>
    unfold State.placeOn
    have ho := s.openPage_fuse t p f
    split
    · split <;> simp_all
    · exact ih s

@[simp] theorem State.place_fuse (s : State) (t f : Nat) : (s.place t f).1.fuse = s.fuse := by
  unfold State.place
  have hp := State.placeOn_fuse t f (s.planeOrder t) s
  split <;> simp_all

@[simp] theorem State.placeAt_fuse (s : State) (t p f : Nat) : (s.placeAt t p f).1.fuse = s.fuse := by
  unfold State.placeAt
  have hp := State.placeOn_fuse t f [p] s
  split <;> simp_all

@[simp] theorem State.startProgram_fuse (s : State) (t loc : Nat) (job : Job) (pg : Page) :
    (s.startProgram t loc job pg).fuse = s.fuse := by
  simp [State.startProgram]

@[simp] theorem State.startMeta_fuse (s : State) (t loc : Nat) (job : Job) (pg : Page) : (s.startMeta t loc job pg).fuse = s.fuse := by
  simp [State.startMeta]

@[simp] theorem State.retryMeta_fuse (s : State) (t : Nat) : (s.retryMeta t).fuse = s.fuse := by simp [State.retryMeta]

/-! ### Machine/FsOps.lean: frames, answers to requests and reads of the medium -/

@[simp] theorem State.setFrame_fuse (s : State) (t f : Nat) (x : Frame) : (s.setFrame t f x).fuse = s.fuse := by simp [State.setFrame]
@[simp] theorem State.touchWay_fuse (s : State) (t f : Nat) : (s.touchWay t f).fuse = s.fuse := by simp [State.touchWay]
@[simp] theorem State.noteWait_fuse (s : State) (t : Nat) : (s.noteWait t).fuse = s.fuse := by simp [State.noteWait]
@[simp] theorem State.measure_fuse (s : State) (r : Req) (latNs : Nat) : (s.measure r latNs).fuse = s.fuse := by simp [State.measure]

@[simp] theorem State.respond_fuse (s : State) (r : Req) (data : Option Line) (poison : Bool) (latNs : Nat) :
    (s.respond r data poison latNs).fuse = s.fuse := by
  simp [State.respond]

@[simp] theorem State.reply_fuse (s : State) (h id : Nat) (data : Option Line) (poison : Bool) (latNs : Nat) :
    (s.reply h id data poison latNs).fuse = s.fuse := by
  unfold State.reply
  (repeat' split) <;> simp

@[simp] theorem State.answer_fuse (s : State) (t : Nat) (r : Req) (data : Option Line) (poison : Bool) (latNs : Nat) :
    (s.answer t r data poison latNs).fuse = s.fuse := by
  simp [State.answer]

@[simp] theorem State.noteCase_fuse (s : State) (r : Req) (cse base : Nat) : (s.noteCase r cse base).fuse = s.fuse := by
  simp [State.noteCase]

@[simp] theorem State.noteRecon_fuse (s : State) (r : Req) : (s.noteRecon r).fuse = s.fuse := by
  unfold State.noteRecon
  (repeat' split) <;> simp

@[simp] theorem State.noteExtra_fuse (s : State) (r : Req) : (s.noteExtra r).fuse = s.fuse := by simp [State.noteExtra]
@[simp] theorem State.noteWaited_fuse (s : State) (r : Req) : (s.noteWaited r).fuse = s.fuse := by simp [State.noteWaited]

@[simp] theorem State.consume_fuse (s : State) (t loc : Nat) (covers : Nat → Bool) (used : Nat → Nat) :
    (s.consume t loc covers used).fuse = s.fuse := by
  simp [State.consume]

@[simp] theorem State.lineRead_fuse (s : State) (t loc line : Nat) (err : LineErr) (others : List LineErr) :
    (s.lineRead t loc line err others).1.fuse = s.fuse := by
  unfold State.lineRead
  dsimp only
  (repeat' split) <;> simp

@[simp] theorem State.reconRead_fuse (s : State) (u : Nat × Nat) (line n : Nat) : (s.reconRead u line n).fuse = s.fuse := by
  simp [State.reconRead]

@[simp] theorem State.reconReads_fuse (s : State) (t l line n : Nat) : (s.reconReads t l line n).fuse = s.fuse := by simp [State.reconReads]
@[simp] theorem State.reconOk_fuse (s : State) (t l : Nat) : (s.reconOk t l).fuse = s.fuse := by simp [State.reconOk]

/-! ### Machine/CarOps.lean: messages of Caravan -/

@[simp] theorem State.carFrames_fuse (s : State) (peer : Nat) (h : CarHdr) (lines : List Line) :
    (s.carFrames peer h lines).fuse = s.fuse := by
  unfold State.carFrames
  split
  · rfl
  · exact foldl_fuse (by intros; rfl) _ _

@[simp] theorem State.carSend_fuse (s : State) (peer : Nat) (h : CarHdr) (lines : List Line) :
    (s.carSend peer h lines).1.fuse = s.fuse := by
  simp [State.carSend]

@[simp] theorem State.carDelta_fuse (s : State) (t seg peer : Nat) (isQ resent : Bool) 
    (stripe member jpos : Nat) (delta new : List (Nat × Line)) :
    (s.carDelta t seg peer isQ resent stripe member jpos delta new).fuse = s.fuse := by
  simp [State.carDelta]

@[simp] theorem State.judgeSync_fuse (s : State) : s.judgeSync.fuse = s.fuse := by simp [State.judgeSync]

@[simp] theorem State.markStale_fuse (s : State) (t peer g : Nat) : (s.markStale t peer g).fuse = s.fuse := by
  unfold State.markStale
  split <;> simp

@[simp] theorem State.carReadStart_fuse (s : State) (use : CarUse) (stripe mask : Nat) (asked : List Nat) :
    (s.carReadStart use stripe mask asked).fuse = s.fuse := by
  simp [State.carReadStart]

/-! ### Machine/PathOps.lean: commits, upsets, and reads and writes at the owning tile -/

@[simp] theorem State.launchCommit_fuse (s : State) (t : Nat) (c : Commit) : (s.launchCommit t c).fuse = s.fuse := by
  unfold State.launchCommit
  have hp := s.place_fuse t c.job.frontier
  split <;> simp_all

@[simp] theorem State.retryPrograms_fuse (s : State) (t : Nat) : (s.retryPrograms t).fuse = s.fuse := by simp [State.retryPrograms]

@[simp] theorem State.beginCommit_fuse (s : State) (t : Nat) (job : Job) (seg : Nat) (pg : Page) :
    (s.beginCommit t job seg pg).fuse = s.fuse := by
  simp [State.beginCommit]

@[simp] theorem State.sendCupola_fuse (s : State) (t seg jpos : Nat) (resent : Bool) (delta : List (Nat × Line)) :
    (s.sendCupola t seg jpos resent delta).1.fuse = s.fuse := by
  unfold State.sendCupola
  (repeat' split) <;> simp

@[simp] theorem State.sendCaravan_fuse (s : State) (t seg jpos : Nat) (resent : Bool) (delta new : List (Nat × Line)) :
    (s.sendCaravan t seg jpos resent delta new).1.fuse = s.fuse := by
  unfold State.sendCaravan
  dsimp only
  split
  · rfl
  · refine foldl_fst_fuse (fun a h => ?_) _ _
    split <;> simp

@[simp] theorem State.replaceEntry_fuse (s : State) (t seg : Nat) (e : MapEnt) : (s.replaceEntry t seg e).fuse = s.fuse := by
  simp [State.replaceEntry]

@[simp] theorem State.fetchLine_fuse (s : State) (t l : Nat) : (s.fetchLine t l).fuse = s.fuse := by
  unfold State.fetchLine
  dsimp only
  split <;> simp

@[simp] theorem State.commitJournal_fuse (s : State) (t seg : Nat) : (s.commitJournal t seg).fuse = s.fuse := by
  unfold State.commitJournal
  (repeat' split) <;> simp

@[simp] theorem State.noteParityWait_fuse (s : State) (t : Nat) (was : Bool) : (s.noteParityWait t was).fuse = s.fuse := by
  simp [State.noteParityWait]

@[simp] theorem State.commitCaravan_fuse (s : State) (t seg : Nat) : (s.commitCaravan t seg).fuse = s.fuse := by
  unfold State.commitCaravan
  split <;> simp

@[simp] theorem State.commitDelta_fuse (s : State) (t seg : Nat) (delta : List (Nat × Line)) :
    (s.commitDelta t seg delta).fuse = s.fuse := by
  unfold State.commitDelta
  (repeat' split) <;> simp

@[simp] theorem State.carStaleRow_fuse (s : State) (t row : Nat) : (s.carStaleRow t row).fuse = s.fuse := by simp [State.carStaleRow]

@[simp] theorem State.commitCupola_fuse (s : State) (t seg : Nat) : (s.commitCupola t seg).fuse = s.fuse := by
  unfold State.commitCupola
  dsimp only
  (repeat' split) <;> simp

@[simp] theorem State.dropDelta_fuse (s : State) (t l : Nat) (poison : Bool) : (s.dropDelta t l poison).fuse = s.fuse := by
  simp [State.dropDelta]

@[simp] theorem State.dropSeg_fuse (s : State) (t l : Nat) (poison : Bool) : (s.dropSeg t l poison).fuse = s.fuse := by
  unfold State.dropSeg
  (repeat' split) <;> simp

@[simp] theorem State.poisonSeg_fuse (s : State) (t l : Nat) : (s.poisonSeg t l).fuse = s.fuse := by simp [State.poisonSeg]

@[simp] theorem State.clearFlips_fuse (s : State) (t f : Nat) (lines : Nat → Bool) : (s.clearFlips t f lines).fuse = s.fuse := by
  simp [State.clearFlips]

@[simp] theorem State.metaLost_fuse (s : State) (t f : Nat) : (s.metaLost t f).fuse = s.fuse := by simp [State.metaLost]
@[simp] theorem State.lineLost_fuse (s : State) (t f line : Nat) : (s.lineLost t f line).fuse = s.fuse := by simp [State.lineLost]
@[simp] theorem State.writeBack_fuse (s : State) (t f bad : Nat) : (s.writeBack t f bad).fuse = s.fuse := by simp [State.writeBack]

@[simp] theorem State.startCommitBad_fuse (s : State) (t f bad : Nat) : (s.startCommitBad t f bad).fuse = s.fuse := by
  simp [State.startCommitBad]

@[simp] theorem State.startCommit_fuse (s : State) (t f : Nat) : (s.startCommit t f).fuse = s.fuse := by simp [State.startCommit]
@[simp] theorem State.withdrawNow_fuse (s : State) (t f : Nat) : (s.withdrawNow t f).fuse = s.fuse := by simp [State.withdrawNow]
@[simp] theorem State.withdraw_fuse (s : State) (t f : Nat) : (s.withdraw t f).fuse = s.fuse := by simp [State.withdraw]

@[simp] theorem State.tagRecover_fuse (s : State) (t f w : Nat) (hard metaBad : Bool) :
    (s.tagRecover t f w hard metaBad).fuse = s.fuse := by
  simp [State.tagRecover]

@[simp] theorem State.tagTaken_fuse (s : State) (t f w : Nat) : (s.tagTaken t f w).fuse = s.fuse := by simp [State.tagTaken]

@[simp] theorem State.tagRead_fuse (s : State) (t f flips : Nat) (hard metaBad : Bool) :
    (s.tagRead t f flips hard metaBad).1.fuse = s.fuse := by
  unfold State.tagRead
  dsimp only
  (repeat' split) <;> simp

@[simp] theorem State.tagCheck_fuse (s : State) (t l : Nat) (u : Upset) : (s.tagCheck t l u).1.fuse = s.fuse := by simp [State.tagCheck]

@[simp] theorem State.frameCheck_fuse (s : State) (t f line : Nat) (u : Upset) (rd : Bool) :
    (s.frameCheck t f line u rd).fuse = s.fuse := by
  simp [State.frameCheck]

@[simp] theorem State.hazDrop_fuse (s : State) (t id : Nat) : (s.hazDrop t id).fuse = s.fuse := by simp [State.hazDrop]

@[simp] theorem State.hazAnswer_fuse (s : State) (t : Nat) (r : Req) (data : Option Line) (poison : Bool) (latNs : Nat) :
    (s.hazAnswer t r data poison latNs).fuse = s.fuse := by
  simp [State.hazAnswer]

@[simp] theorem State.staleRead_fuse (s : State) (t c : Nat) : (s.staleRead t c).fuse = s.fuse := by simp [State.staleRead]
@[simp] theorem State.issueRead_fuse (s : State) (t : Nat) (r : MedRead) : (s.issueRead t r).fuse = s.fuse := by simp [State.issueRead]

@[simp] theorem State.serveRead_fuse (s : State) (t : Nat) (q : MedRead) (dataIn : Bool) : (s.serveRead t q dataIn).fuse = s.fuse := by
  simp [State.serveRead]

@[simp] theorem State.planeRead_fuse (s : State) (t id loc line : Nat) (dataIn : Bool) :
    (s.planeRead t id loc line dataIn).fuse = s.fuse := by
  simp [State.planeRead]

@[simp] theorem State.setLost_fuse (s : State) (t l : Nat) : (s.setLost t l).fuse = s.fuse := by simp [State.setLost]
@[simp] theorem State.uncorr_fuse (s : State) (t l : Nat) : (s.uncorr t l).fuse = s.fuse := by simp [State.uncorr]

@[simp] theorem State.readCaravan_fuse (s : State) (t o : Nat) (r : Req) (l line latNs : Nat) :
    (s.readCaravan t o r l line latNs).fuse = s.fuse := by
  unfold State.readCaravan
  dsimp only
  split <;> simp

@[simp] theorem State.readRecon_fuse (s : State) (t : Nat) (r : Req) (l line latNs : Nat) :
    (s.readRecon t r l line latNs).fuse = s.fuse := by
  unfold State.readRecon
  (repeat' split) <;> simp

@[simp] theorem State.xlLookup_fuse (s : State) (t l : Nat) (u : Upset) : (s.xlLookup t l u).1.fuse = s.fuse := by
  unfold State.xlLookup
  dsimp only
  (repeat' split) <;> simp

@[simp] theorem State.readPerform_fuse (s : State) (t : Nat) (r : Req) (l line : Nat) (u : Upset) (latNs : Nat) (idle : Bool) :
    (s.readPerform t r l line u latNs idle).fuse = s.fuse := by
  unfold State.readPerform
  have ht := s.tagCheck_fuse t l u
  generalize s.tagCheck t l u = checked at ht ⊢
  obtain ⟨s0, recovered⟩ := checked
  dsimp -zeta only at ht ⊢
  extract_lets +onlyGivenNames s1 s2
  have h2 : s2.fuse = s.fuse := by unfold s2; split <;> simp [s1, ht]
  clear_value s2
  dsimp only
  split
  · simp [h2]
  · split
    · simp [h2]
    · split <;> simp [h2]

@[simp] theorem State.markFront_fuse (s : State) (t l : Nat) : (s.markFront t l).fuse = s.fuse := by simp [State.markFront]

@[simp] theorem State.writeStored_fuse (s0 : State) (t : Nat) (r : Req) (f latNs : Nat) : (s0.writeStored t r f latNs).fuse = s0.fuse := by
  unfold State.writeStored
  dsimp only
  split <;> simp

@[simp] theorem State.writeWait_fuse (s : State) (t : Nat) (r : Req) (st : HazSt) : (s.writeWait t r st).fuse = s.fuse := by
  simp [State.writeWait]

@[simp] theorem State.setFull_fuse (s : State) (t l : Nat) (r : Req) : (s.setFull t l r).fuse = s.fuse := by
  unfold State.setFull
  dsimp only
  split <;> simp

@[simp] theorem State.noteFill_fuse (s : State) (t : Nat) (r : Req) (l : Nat) (u : Upset) : (s.noteFill t r l u).fuse = s.fuse := by
  simp [State.noteFill]

@[simp] theorem State.writePerform_fuse (s0 : State) (t : Nat) (r : Req) (l line : Nat) (u : Upset) (latNs : Nat) :
    (s0.writePerform t r l line u latNs).fuse = s0.fuse := by
  unfold State.writePerform
  have ht := s0.tagCheck_fuse t l u
  generalize s0.tagCheck t l u = checked at ht ⊢
  obtain ⟨sT, recovered⟩ := checked
  dsimp -zeta only at ht ⊢
  extract_lets +onlyGivenNames held sU s
  have hs : s.fuse = s0.fuse := by unfold s; split <;> simp [sU, ht]
  clear_value s
  dsimp only
  split
  · split
    · simp [hs]
    · split <;> simp [hs]
  · split
    · simp [hs]
    · split <;> simp [hs]

@[simp] theorem State.adoptLine_fuse (s : State) (p q l line : Nat) (x : Line) (poison : Bool) :
    (s.adoptLine p q l line x poison).fuse = s.fuse := by
  simp [State.adoptLine]

@[simp] theorem State.adoptPerform_fuse (s : State) (t ft q : Nat) (r : Req) (l line latNs : Nat) :
    (s.adoptPerform t ft q r l line latNs).fuse = s.fuse := by
  unfold State.adoptPerform
  dsimp only
  (repeat' split) <;> simp

@[simp] theorem State.perform_fuse (s : State) (t : Nat) (r : Req) (u : Upset) (latNs : Nat) (idle : Bool) :
    (s.perform t r u latNs idle).fuse = s.fuse := by
  unfold State.perform
  dsimp only
  (repeat' split) <;> simp

@[simp] theorem State.wakeLines_fuse (s : State) (t latNs : Nat) : (s.wakeLines t latNs).fuse = s.fuse := by
  refine foldl_fuse (fun a id => ?_) _ _
  split
  · split <;> simp
  · rfl

@[simp] theorem State.letIn_fuse (s : State) (t src : Nat) (r : Req) (u : Upset) (latNs : Nat) (idle : Bool) :
    (s.letIn t src r u latNs idle).fuse = s.fuse := by
  simp [State.letIn]

@[simp] theorem State.recognise_fuse (s : State) (t src : Nat) (r : Req) (u : Upset) (latNs : Nat) (idle : Bool) :
    (s.recognise t src r u latNs idle).fuse = s.fuse := by
  simp [State.recognise]

@[simp] theorem State.failRequest_fuse (s : State) (r : Req) (latNs : Nat) : (s.failRequest r latNs).fuse = s.fuse := by
  simp [State.failRequest]

@[simp] theorem State.dispatchReq_fuse (s : State) (r : Req) (u : Upset) (latNs : Nat) (idle : Bool) :
    (s.dispatchReq r u latNs idle).fuse = s.fuse := by
  unfold State.dispatchReq
  split <;> simp

/-! ### Machine/CommitOps.lean: programs that fail and rings -/

@[simp] theorem State.ringReplace_fuse (s : State) (t b cause : Nat) (note : Bool) : (s.ringReplace t b cause note).fuse = s.fuse := by
  unfold State.ringReplace
  dsimp only
  (repeat' split) <;> simp

@[simp] theorem State.ringLive_fuse (s : State) (t b : Nat) : (s.ringLive t b).fuse = s.fuse := by simp [State.ringLive]
@[simp] theorem State.ringTake_fuse (s : State) (t k : Nat) : (s.ringTake t k).1.fuse = s.fuse := by simp [State.ringTake]

@[simp] theorem State.ringProgram_fuse (s : State) (t : Nat) (job : Job) (pg : Page) : (s.ringProgram t job pg).fuse = s.fuse := by
  simp [State.ringProgram]

@[simp] theorem State.failBlock_fuse (s : State) (t b cause : Nat) : (s.failBlock t b cause).fuse = s.fuse := by
  unfold State.failBlock
  dsimp only
  split <;> simp

@[simp] theorem State.copyProgram_fuse (s : State) (t : Nat) (b : Batch) (on : Option Nat) (seg old : Nat) (lines : List Line) :
    (s.copyProgram t b on seg old lines).fuse = s.fuse := by
  unfold State.copyProgram
  cases on with
  | some p =>
    have hp := s.placeAt_fuse t p b.target
    dsimp only
    split <;> simp_all
  | none =>
    have hp := s.place_fuse t b.target
    dsimp only
    split <;> simp_all

@[simp] theorem State.ringRewrite_fuse (s : State) (t : Nat) (o : MedOp) : (s.ringRewrite t o).fuse = s.fuse := by simp [State.ringRewrite]

@[simp] theorem State.copyRestart_fuse (s : State) (t : Nat) (o : MedOp) (src seg old : Nat) :
    (s.copyRestart t o src seg old).fuse = s.fuse := by
  unfold State.copyRestart
  dsimp only
  split <;> simp

@[simp] theorem State.programFailed_fuse (s : State) (t : Nat) (o : MedOp) : (s.programFailed t o).fuse = s.fuse := by
  unfold State.programFailed
  dsimp only
  (repeat' split) <;> simp

@[simp] theorem State.dropOp_fuse (s : State) (t : Nat) (o : MedOp) : (s.dropOp t o).fuse = s.fuse := by simp [State.dropOp]

/-! ### Machine/FlashOps.lean: commits of the Parameter Store -/

@[simp] theorem State.ageRecord_fuse (s : State) : s.ageRecord.fuse = s.fuse := by simp [State.ageRecord]
@[simp] theorem State.psStart_fuse (s : State) : s.psStart.fuse = s.fuse := by simp [State.psStart]

@[simp] theorem State.psApply_fuse (s : State) : s.psApply.fuse = s.fuse := by
  unfold State.psApply
  split <;> simp

@[simp] theorem State.psRoomOne_fuse (s : State) : s.psRoomOne.fuse = s.fuse := by
  unfold State.psRoomOne
  (repeat' split) <;> simp

@[simp] theorem State.psRoom_fuse (s : State) : s.psRoom.fuse = s.fuse := by simp [State.psRoom]
@[simp] theorem State.psCommitOnce_fuse (s : State) : s.psCommitOnce.fuse = s.fuse := by simp [State.psCommitOnce]

@[simp] theorem State.psCommitLoop_fuse (n : Nat) (s : State) : (State.psCommitLoop n s).fuse = s.fuse := by
  induction n generalizing s with
  | zero => rfl
  | succ n ih => simp [State.psCommitLoop, ih]

@[simp] theorem State.psCommitNow_fuse (s : State) : s.psCommitNow.fuse = s.fuse := State.psCommitLoop_fuse _ s

@[simp] theorem State.psReleaseHeld_fuse (s : State) : s.psReleaseHeld.fuse = s.fuse := by
  unfold State.psReleaseHeld
  exact foldl_fuse (by intros; rfl) _ _

@[simp] theorem State.psPutNow_fuse (s : State) (id : Nat) (v : List Byte) : (s.psPutNow id v).fuse = s.fuse := by simp [State.psPutNow]

/-! ### Machine/SecOps.lean: the boot words -/

@[simp] theorem State.setFwBoot_fuse (s : State) (v : Nat) : (s.setFwBoot v).fuse = s.fuse := by simp [State.setFwBoot]

/-! ### Machine/Cross.lean: entry into Hold-up and failed tiles -/

@[simp] theorem State.putCompletion_fuse (s : State) (r : Nat) (e : Exec) (c : CmdResult) : (s.putCompletion r e c).fuse = s.fuse := by
  simp [State.putCompletion]

@[simp] theorem State.noteLate_fuse (s : State) (r : Nat) (e : Exec) (status : Nat) : (s.noteLate r e status).fuse = s.fuse := by
  simp [State.noteLate]

@[simp] theorem State.abortRing_fuse (s : State) (r detail : Nat) (write : Bool) : (s.abortRing r detail write).fuse = s.fuse := by
  simp [State.abortRing]

@[simp] theorem State.dropCommandWork_fuse (s : State) : s.dropCommandWork.fuse = s.fuse := by
  simp [State.dropCommandWork]

@[simp] theorem State.porterAbort_fuse (s : State) (detail cause : Nat) (write : Bool) :
    (s.porterAbort detail cause write).fuse = s.fuse := by
  simp [State.porterAbort]

@[simp] theorem State.testNotRun_fuse (s : State) (cause : Nat) : (s.testNotRun cause).fuse = s.fuse := by
  unfold State.testNotRun
  dsimp only
  (repeat' split) <;> simp

@[simp] theorem State.haltTest_fuse (s : State) (cause : Nat) : (s.haltTest cause).fuse = s.fuse := by simp [State.haltTest]
@[simp] theorem State.setStage_fuse (s : State) (n : Nat) : (s.setStage n).fuse = s.fuse := by simp [State.setStage]
@[simp] theorem State.flushNext_fuse (s : State) (t : Nat) : (s.flushNext t).fuse = s.fuse := by simp [State.flushNext]
@[simp] theorem State.flushFirst_fuse (s : State) (t : Nat) : (s.flushFirst t).fuse = s.fuse := by simp [State.flushFirst]
@[simp] theorem State.holdupTile_fuse (s : State) (t : Nat) : (s.holdupTile t).fuse = s.fuse := by simp [State.holdupTile]

@[simp] theorem State.cutReset_fuse (s : State) (t : Nat) : (s.cutReset t).fuse = s.fuse := by
  unfold State.cutReset
  split <;> simp

@[simp] theorem State.convCut_fuse (s : State) : s.convCut.fuse = s.fuse := by simp [State.convCut]

@[simp] theorem State.holdupEnter_fuse (s : State) (cause : Nat) : (s.holdupEnter cause).fuse = s.fuse := by
  unfold State.holdupEnter
  -- every stage is made opaque before the next, or the kernel unfolds the stages in one another
  extract_lets dirty s1 s2 s3 sd s4 s5 s6 s7 s8 s9 s10
  have h1 : s1.fuse = s.fuse := by simp [s1]
  clear_value s1
  have h3 : s3.fuse = s1.fuse := (State.bumpFree_fuse _).trans ((State.winCloseAll_fuse ..).trans (State.modMd_fuse ..))
  clear_value s3
  have hd : sd.fuse = s3.fuse := by simp [sd]
  clear_value sd
  have h4 : s4.fuse = sd.fuse := by simp [s4]
  clear_value s4
  have h5 : s5.fuse = s4.fuse := by simp [s5]
  clear_value s5
  have h8 : s8.fuse = s5.fuse := by simp [s8, s7, s6]
  clear_value s8
  have h10 : s10.fuse = s8.fuse := by simp [s10, s9]
  clear_value s10
  simp [h10, h8, h5, h4, hd, h3, h1]

@[simp] theorem State.ringsReset_fuse (s : State) (h : Nat) : (s.ringsReset h).fuse = s.fuse := by
  unfold State.ringsReset
  dsimp only
  split
  · rfl
  · exact (State.event_fuse ..).trans (foldl_fuse (by intros; rfl) _ _)

@[simp] theorem State.headClear_fuse (s : State) (h : Nat) : (s.headClear h).fuse = s.fuse := by simp [State.headClear]
@[simp] theorem State.headReset_fuse (s : State) (h : Nat) : (s.headReset h).fuse = s.fuse := by simp [State.headReset]
@[simp] theorem State.storeFailed_fuse (s : State) : s.storeFailed.fuse = s.fuse := by simp [State.storeFailed]

@[simp] theorem State.handover_fuse (s : State) (t : Nat) : (s.handover t).fuse = s.fuse := by
  refine foldl_fuse (fun a e => ?_) _ _
  split
  · simp
  · rfl

@[simp] theorem State.reissue_fuse (s : State) (lost : List Req) : (s.reissue lost).fuse = s.fuse := by simp [State.reissue]
@[simp] theorem State.skipCupola_fuse (s : State) (t : Nat) : (s.skipCupola t).fuse = s.fuse := by simp [State.skipCupola]

@[simp] theorem State.declareFailed_fuse (s : State) (t cause : Nat) (answers : Bool) :
    (s.declareFailed t cause answers).fuse = s.fuse := by
  simp [State.declareFailed]

/-! ### Machine/Media.lean: lost reads, ranks and channels -/

@[simp] theorem State.dropRead_fuse (s : State) (t c id : Nat) : (s.dropRead t c id).fuse = s.fuse := by simp [State.dropRead]

@[simp] theorem State.readLoss_fuse (s : State) (t id latNs : Nat) : (s.readLoss t id latNs).fuse = s.fuse := by
  unfold State.readLoss
  (repeat' split) <;> simp

@[simp] theorem State.judgeMedia_fuse (s : State) : s.judgeMedia.fuse = s.fuse := by simp [State.judgeMedia]
@[simp] theorem State.channelFail_fuse (s : State) (t c step : Nat) : (s.channelFail t c step).fuse = s.fuse := by simp [State.channelFail]

@[simp] theorem State.fenceRank_fuse (s : State) (t c r : Nat) : (s.fenceRank t c r).fuse = s.fuse := by
  unfold State.fenceRank
  rw [fuse_ite, State.channelFail_fuse, ite_self]
  refine (foldl_fuse (fun a q => by simp) _ _).trans ?_
  refine (foldl_fuse (fun a o => by simp) _ _).trans ?_
  refine (foldl_fuse (fun a o => ?_) _ _).trans (by simp)
  split <;> simp

@[simp] theorem State.dieFail_fuse (s : State) (t c r die : Nat) : (s.dieFail t c r die).fuse = s.fuse := by simp [State.dieFail]

/-! ### Machine/Reset.lean: registers and settings from the Parameter Store -/

@[simp] theorem State.loadModeCtl_fuse (s : State) : s.loadModeCtl.fuse = s.fuse := by simp [State.loadModeCtl]

@[simp] theorem State.loadRegs_fuse (s : State) : s.loadRegs.fuse = s.fuse := by
  unfold State.loadRegs
  refine (foldl_fuse (fun a h => State.setFld_fuse ..) _ _).trans ?_
  refine (State.setFld_fuse ..).trans ?_
  exact (foldl_fuse (fun a e => State.setReg_fuse ..) _ _).trans (by simp)

@[simp] theorem State.loadFs_fuse (s : State) : s.loadFs.fuse = s.fuse := by
  unfold State.loadFs
  exact foldl_fuse (fun a t => State.modFs_fuse ..) _ _

@[simp] theorem State.loadParity_fuse (s : State) : s.loadParity.fuse = s.fuse := by simp [State.loadParity]

/-! ### Machine/Power.lean: steps of Bring-up -/

@[simp] theorem State.stepDone_fuse (s : State) (n : Nat) : (s.stepDone n).fuse = s.fuse := by simp [State.stepDone]

@[simp] theorem State.bringupFail_fuse (s : State) (cause tile : Nat) : (s.bringupFail cause tile).fuse = s.fuse := by
  simp [State.bringupFail]

/-! ### Machine/Protect.lean: the snapshot of the registers -/

@[simp] theorem State.takeSnapshot_fuse (s : State) : s.takeSnapshot.fuse = s.fuse := by simp [State.takeSnapshot]

/-! ### Machine/Boot.lean: Bring-up, but for its fuses -/

@[simp] theorem State.step8_fuse (s : State) : s.step8.fuse = s.fuse := by
  unfold State.step8
  split
  · exact foldl_fuse (fun a t => foldl_fuse (fun b e => State.setReg_fuse ..) _ a) _ s
  · rfl

@[simp] theorem State.ageAdvance_fuse (s : State) : s.ageAdvance.fuse = s.fuse := by simp [State.ageAdvance]

@[simp] theorem State.rankTrained_fuse (s : State) (t c r last : Nat) (k : TrainRank) (tNow : Int) :
    (s.rankTrained t c r last k tNow).fuse = s.fuse := by
  simp [State.rankTrained]

@[simp] theorem State.popMismatch_fuse (s : State) (tile : Nat) : (s.popMismatch tile).fuse = s.fuse := by simp [State.popMismatch]
@[simp] theorem State.commitShutdown_fuse (s : State) : s.commitShutdown.fuse = s.fuse := by simp [State.commitShutdown]
@[simp] theorem State.endTrial_fuse (s : State) : s.endTrial.fuse = s.fuse := by simp [State.endTrial]

end Sys2Proof.Machine
end

section
/-! What blows a fuse: the wipe of a pending life-cycle change after the training of the channels (16_security.md R470) and the
rollback floor at the end of Bring-up (R452). Each only blows more fuses. -/

namespace Sys2Proof.Machine

open Sys2Proof

/-- Fuses `b` are fuses `a` with more of them blown (R446). DEVICE_SECRET is overwritten only where TERMINAL is blown. -/
structure Fuses.Grows (a b : Fuses) : Prop where
  svn : a.svn ≤ b.svn
  gen : a.gen ≤ b.gen
  terminal : a.terminal = true → b.terminal = true
  revoke : b.revoke = a.revoke
  secret : b.secret = a.secret ∨ b.terminal = true

theorem Fuses.Grows.refl (a : Fuses) : a.Grows a := ⟨le_rfl, le_rfl, id, rfl, .inl rfl⟩

theorem Fuses.grows_of_eq {a b : Fuses} (h : b = a) : a.Grows b := h ▸ .refl a

theorem Fuses.Grows.trans {a b c : Fuses} (h : a.Grows b) (k : b.Grows c) : a.Grows c where
  svn := h.svn.trans k.svn
  gen := h.gen.trans k.gen
  terminal := k.terminal ∘ h.terminal
  revoke := k.revoke.trans h.revoke
  secret := by
    rcases k.secret with hs | ht
    · exact h.secret.imp hs.trans k.terminal
    · exact .inr ht

theorem foldl_fuse_grows {β : Type} {f : State → β → State} (h : ∀ (a : State) (b : β), a.fuse.Grows (f a b).fuse) (l : List β)
    (s : State) : s.fuse.Grows (l.foldl f s).fuse := by
  induction l generalizing s with
  | nil => exact .refl _
  | cons b l ih => exact (h s b).trans (ih _)

theorem State.lcWipe_grows (s : State) : s.fuse.Grows s.lcWipe.fuse := by
  unfold State.lcWipe
  split
  · exact .refl _
  case h_2 target w gen _ =>
    dsimp only
    rw [State.loadParity_fuse, State.loadFs_fuse, State.loadRegs_fuse, foldl_fuse (fun a t => State.modXl_fuse ..)]
    refine ⟨le_rfl, le_max_left .., fun h => by simp [h], rfl, ?_⟩
    by_cases hw : w = 2 <;> simp [hw]

theorem State.step6_grows (s : State) : s.fuse.Grows s.step6.fuse := by
  unfold State.step6
  split
  · extract_lets s1 s2 s3
    have h3 : s3.fuse = s.fuse := by simp [s3, s2, s1]
    clear_value s3
    split
    · exact Fuses.grows_of_eq h3
    · rw [State.step8_fuse, State.stepDone_fuse, ← h3]
      exact s3.lcWipe_grows
  · exact .refl _

theorem State.channelTrainingDoneEff_grows (s : State) (tile ch step cs : Nat) (ranks : List TrainRank) (temp : Option Int) :
    s.fuse.Grows (s.channelTrainingDoneEff tile ch step cs ranks temp).fuse := by
  unfold State.channelTrainingDoneEff
  split
  · exact .refl _
  · extract_lets boot last ks agrees s0 s1 tNow s2 s3
    split
    · exact Fuses.grows_of_eq (State.popMismatch_fuse ..)
    · have h2 : s2.fuse = s.fuse := by simp [s2, s1, s0]
      clear_value s2
      rw [← h2]
      split <;> exact (Fuses.grows_of_eq (by simp [s3])).trans (State.step6_grows _)

theorem State.raiseFloor_grows (s : State) : s.fuse.Grows s.raiseFloor.fuse := by
  unfold State.raiseFloor
  dsimp only
  split
  · refine foldl_fuse_grows (fun a _ => ?_) _ _
    rw [State.event_fuse]
    exact ⟨Nat.le_succ _, le_rfl, id, rfl, .inl rfl⟩
  · exact .refl _

theorem State.bringupCompleteEff_grows (s : State) (elapsedMs : Nat) : s.fuse.Grows (s.bringupCompleteEff elapsedMs).fuse := by
  unfold State.bringupCompleteEff
  split
  · exact .refl _
  · extract_lets s1 s2 s3 s4 s5
    have h1 : s.fuse.Grows s1.fuse := (Fuses.grows_of_eq (by simp)).trans (State.raiseFloor_grows _)
    have h5 : s5.fuse = s1.fuse := by simp [s5, s4, s3, s2]
    clear_value s1 s5
    refine h1.trans (Fuses.grows_of_eq ?_)
    split <;> simp [h5]

end Sys2Proof.Machine
end

section
/-! What a step can do to the queue, to what the part is built with, and to the fuses. -/

namespace Sys2Proof.Machine

open Sys2Proof

/-- What a command that answers a next state can do to the queue, the build and the fuses: nothing, but that the end of
Bring-up and the end of a channel's training leave the fuses as their effects do. -/
theorem exec_next {c : Instr} {s t : State} (h : exec c s = .next t) :
    t.pending = s.pending ∧ t.pop = s.pop ∧
      (t.fuse = s.fuse ∨
        (∃ n, c = .bringupComplete n ∧ t.fuse = (s.bringupCompleteEff n).fuse) ∨
        (∃ tile ch step cs ranks temp, c = .channelTrainingDone tile ch step cs ranks temp ∧
          t.fuse = (s.channelTrainingDoneEff tile ch step cs ranks temp).fuse)) := by
  cases c
  case bringupComplete n =>
    cases h
    exact ⟨rfl, rfl, .inr (.inl ⟨n, rfl, rfl⟩)⟩
  case channelTrainingDone tile ch step cs ranks temp =>
    cases h
    exact ⟨rfl, rfl, .inr (.inr ⟨tile, ch, step, cs, ranks, temp, rfl, rfl⟩)⟩
  case islandPowerOn straps badCirc badPerm =>
    change execIslandPowerOn straps badCirc badPerm s = .next t at h
    unfold execIslandPowerOn at h
    split at h <;> cases h
    exact ⟨rfl, rfl, .inl rfl⟩
  case vauxLoss cut =>
    change execVauxLoss cut s = .next t at h
    unfold execVauxLoss at h
    split at h <;> cases h
    exact ⟨rfl, rfl, .inl rfl⟩
  -- every other command is a `State.run`, which puts the three back
  all_goals
    cases h
    exact ⟨rfl, rfl, .inl rfl⟩

/-- A step that answers a next state idles on the empty queue or runs the command at the queue's front. -/
theorem step_next {s t : State} (h : step s = .next t) :
    (s.pending = [] ∧ t = s) ∨ ∃ c q, s.pending = c :: q ∧ exec c { s with pending := q } = .next t := by
  unfold step at h
  split at h
  case h_1 hq =>
    cases h
    exact .inl ⟨hq, rfl⟩
  case h_2 c q hq => exact .inr ⟨c, q, hq, h⟩

theorem step_pending {s t : State} (h : step s = .next t) : t.pending = s.pending.tail := by
  obtain ⟨hq, rfl⟩ | ⟨c, q, hq, hc⟩ := step_next h
  · rw [hq, List.tail_nil]
  · rw [hq, List.tail_cons]
    exact (exec_next hc).1

theorem step_pop {s t : State} (h : step s = .next t) : t.pop = s.pop := by
  obtain ⟨-, rfl⟩ | ⟨c, q, -, hc⟩ := step_next h
  · rfl
  · exact (exec_next hc).2.1

theorem step_fuse_grows {s t : State} (h : step s = .next t) : s.fuse.Grows t.fuse := by
  obtain ⟨-, rfl⟩ | ⟨c, q, -, hc⟩ := step_next h
  · exact .refl _
  · obtain ⟨-, -, hf | ⟨n, -, hf⟩ | ⟨tile, ch, n, cs, ranks, temp, -, hf⟩⟩ := exec_next hc
    · exact Fuses.grows_of_eq hf
    · rw [hf]
      exact State.bringupCompleteEff_grows { s with pending := q } n
    · rw [hf]
      exact State.channelTrainingDoneEff_grows { s with pending := q } tile ch n cs ranks temp

/-- A step that changes the fuses runs the end of Bring-up or the end of a channel's training. -/
theorem step_blows {s t : State} (h : step s = .next t) (hne : t.fuse ≠ s.fuse) :
    (∃ n, s.pending.head? = some (.bringupComplete n)) ∨
      (∃ tile ch step cs ranks temp, s.pending.head? = some (.channelTrainingDone tile ch step cs ranks temp)) := by
  obtain ⟨-, rfl⟩ | ⟨c, q, hq, hc⟩ := step_next h
  · exact absurd rfl hne
  · rw [hq, List.head?_cons]
    obtain ⟨-, -, hf | ⟨n, rfl, -⟩ | ⟨tile, ch, n, cs, ranks, temp, rfl, -⟩⟩ := exec_next hc
    · exact absurd hf hne
    · exact .inl ⟨n, rfl⟩
    · exact .inr ⟨tile, ch, n, cs, ranks, temp, rfl⟩

/-- Settles O3: every command but two puts the queue, the build and the fuses back as they were, and the effects of those two
only blow more fuses. -/
theorem stepKeeps : Obligations.StepKeeps := by
  unfold Obligations.StepKeeps
  refine ⟨fun s t h => ?_, fun s t h => step_blows h⟩
  obtain ⟨hsvn, hgen, hterminal, hrevoke, hsecret⟩ := step_fuse_grows h
  exact ⟨step_pending h, step_pop h, hsvn, hgen, hterminal, hrevoke, hsecret⟩

end Sys2Proof.Machine
end

section
/-! Where a step stops (00_scope.md R30). Of the commands, only the loss of VAUX and the end of the island's reset answer anything but
a next state. -/

namespace Sys2Proof.Machine

open Sys2Proof

theorem exec_vauxLoss_of_holdup {s : State} (cut : CommitCut) (h : s.md.mode = .holdup) :
    exec (.vauxLoss cut) s = .fault .vauxLostInHoldup := by
  simp [exec, execVauxLoss, h]

theorem exec_islandPowerOn_of_scanEn {n : Nat} (l k : List Nat) (s : State) (h : bitOf n 4 = true) :
    exec (.islandPowerOn n l k) s = .fault .scanEnabled := by
  simp [exec, execIslandPowerOn, h]

/-- What a command can answer: a next state, or a fault where R325 (VAUX lost in Hold-up) or R520 (SCAN_EN strapped high) places the
block outside its specification. -/
theorem exec_answers (c : Instr) (s : State) :
    (∃ t, exec c s = .next t) ∨ (s.md.mode = .holdup ∧ exec c s = .fault .vauxLostInHoldup) ∨
      (∃ n l k, c = .islandPowerOn n l k ∧ bitOf n 4 = true ∧ exec c s = .fault .scanEnabled) := by
  cases c
  case vauxLoss cut =>
    by_cases hm : s.md.mode = .holdup
    · exact .inr (.inl ⟨hm, exec_vauxLoss_of_holdup cut hm⟩)
    · exact .inl ⟨_, (if_neg (by simpa using hm) : execVauxLoss cut s = _)⟩
  case islandPowerOn n l k =>
    by_cases hb : bitOf n 4 = true
    · exact .inr (.inr ⟨n, l, k, rfl, hb, exec_islandPowerOn_of_scanEn l k s hb⟩)
    · exact .inl ⟨_, (if_neg hb : execIslandPowerOn n l k s = _)⟩
  -- every other command is a `State.run`
  all_goals exact .inl ⟨_, rfl⟩

theorem step_of_head {s : State} {c : Instr} (h : s.pending.head? = some c) : ∃ q, step s = exec c { s with pending := q } := by
  obtain ⟨q, hq⟩ := List.head?_eq_some_iff.1 h
  exact ⟨q, by unfold step; rw [hq]⟩

/-- What a step can answer: a next state, or one of the two faults. -/
theorem step_answers (s : State) :
    (∃ t, step s = .next t) ∨ (s.md.mode = .holdup ∧ step s = .fault .vauxLostInHoldup) ∨
      ((∃ n l k, s.pending.head? = some (.islandPowerOn n l k) ∧ bitOf n 4 = true) ∧ step s = .fault .scanEnabled) := by
  cases hq : s.pending with
  | nil => exact .inl ⟨s, by unfold step; rw [hq]⟩
  | cons c q =>
    obtain ⟨r, hr⟩ := step_of_head (s := s) (c := c) (by rw [hq]; rfl)
    rw [hr]
    obtain ht | hv | ⟨n, l, k, rfl, hb, he⟩ := exec_answers c { s with pending := r }
    · exact .inl ht
    · exact .inr (.inl hv)
    · exact .inr (.inr ⟨⟨n, l, k, rfl, hb⟩, he⟩)

/-- Settles O2: every command answers a next state but for the two that end in a fault. -/
theorem stepStops : Obligations.StepStops := by
  unfold Obligations.StepStops
  refine ⟨fun s r h => ?_, fun s f h => ?_, fun s cut hc hm => ?_, fun s n l k hc hb => ?_⟩
  · obtain ⟨t, ht⟩ | ⟨-, ht⟩ | ⟨-, ht⟩ := step_answers s <;> rw [ht] at h <;> cases h
  · obtain ⟨t, ht⟩ | ⟨hm, ht⟩ | ⟨hc, ht⟩ := step_answers s <;> rw [ht] at h <;> cases h
    · exact .inl ⟨rfl, hm⟩
    · exact .inr ⟨rfl, hc⟩
  · obtain ⟨q, hq⟩ := step_of_head hc
    exact hq.trans (exec_vauxLoss_of_holdup cut hm)
  · obtain ⟨q, hq⟩ := step_of_head hc
    exact hq.trans (exec_islandPowerOn_of_scanEn l k _ hb)

end Sys2Proof.Machine
end

section
/-! Performance counters (18_performance_counters.md R497 to R501): counting an event changes registers, free values and the counters of tiles
alone. -/

namespace Sys2Proof.Machine

open Sys2Proof

/-- What an update of one tile leaves of every tile stays of every tile. -/
theorem State.tile_modTile_keeps {α : Type} (g : Tile → α) (s : State) (t : Nat) {f : Tile → Tile} (h : ∀ x, g (f x) = g x) (u : Nat) :
    g ((s.modTile t f).tile u) = g (s.tile u) := by
  by_cases hut : u = t
  · subst hut
    by_cases hu : u < 8
    · rw [State.tile_modTile_self s f hu, h]
    · have hd (v : Vector Tile 8) : vget u {} v = {} := by simp [vget, List.getD, hu]
      rw [State.tile, State.tile, hd, hd]
  · rw [State.tile_modTile_ne hut]

theorem State.mem_aliveTiles {s : State} {t : Nat} : t ∈ s.aliveTiles ↔ s.alive t = true := by
  simp only [State.aliveTiles, State.present, List.mem_filter, List.mem_range, and_iff_right_iff_imp]
  intro h
  exact of_decide_eq_true (Bool.and_eq_true _ _ ▸ h).1

theorem State.aliveTiles_congr {s t : State} (hp : t.pop = s.pop) (hf : t.md.failed = s.md.failed) : t.aliveTiles = s.aliveTiles := by
  have ha : t.alive = s.alive := funext fun u => by rw [State.alive, State.alive, hp, hf]
  rw [State.aliveTiles, State.aliveTiles, State.present, State.present, hp, ha]

/-- A tile without its counters. -/
def Tile.uncounted (x : Tile) : Tile := { x with cnt := [] }

/-- Nothing but registers, free values and counters of tiles is other than before. -/
structure CountersOnly (s t : State) : Prop where
  frame : t = { s with reg := t.reg, free := t.free, tiles := t.tiles }
  tile : ∀ k, (t.tile k).uncounted = (s.tile k).uncounted

theorem CountersOnly.refl (s : State) : CountersOnly s s := ⟨rfl, fun _ => rfl⟩

theorem CountersOnly.trans {a b c : State} (h : CountersOnly a b) (k : CountersOnly b c) : CountersOnly a c :=
  ⟨by rw [k.frame, h.frame], fun u => (k.tile u).trans (h.tile u)⟩

theorem CountersOnly.ite {s a b : State} (p : Prop) [Decidable p] (ha : CountersOnly s a) (hb : CountersOnly s b) :
    CountersOnly s (if p then a else b) := by
  split
  · exact ha
  · exact hb

theorem CountersOnly.foldl {β : Type} {f : State → β → State} (h : ∀ a b, CountersOnly a (f a b)) (l : List β) (s : State) :
    CountersOnly s (l.foldl f s) := by
  induction l generalizing s with
  | nil => exact .refl s
  | cons b l ih => exact (h s b).trans (ih _)

theorem countersOnly_setFld (s : State) (o hi lo v : Nat) : CountersOnly s (s.setFld o hi lo v) := ⟨rfl, fun _ => rfl⟩
theorem countersOnly_bumpFree (s : State) : CountersOnly s s.bumpFree := ⟨rfl, fun _ => rfl⟩

theorem countersOnly_setCnt (s : State) (t n v : Nat) : CountersOnly s (s.setCnt t n v) :=
  ⟨rfl, State.tile_modTile_keeps Tile.uncounted s t fun _ => rfl⟩

theorem countersOnly_cntAdd (k : Nat) (s : State) (t n d : Nat) : CountersOnly s (State.cntAdd k s t n d) := by
  induction k generalizing s n d with
  | zero => exact .refl s
  | succ k ih =>
    have hset := countersOnly_setCnt s t n ((s.cntVal t n + d) % 2 ^ 36)
    have hovf := hset.trans (countersOnly_setFld _ _ _ _ _ : CountersOnly _ ((s.setCnt t n ((s.cntVal t n + d) % 2 ^ 36)).perfOvf t n))
    exact .ite _ hset (.ite _ (hovf.trans (ih ..)) hovf)

theorem countersOnly_perfEvent (s : State) (t no q d : Nat) : CountersOnly s (s.perfEvent t no q d) := by
  exact .ite _ (.refl s) (.foldl (fun a n => .ite _ (countersOnly_cntAdd ..) (.refl a)) _ _)

theorem countersOnly_perfMesh (s : State) (t port cls : Nat) : CountersOnly s (s.perfMesh t port cls) := by
  exact .ite _ (.refl s) ((CountersOnly.foldl (fun a n => countersOnly_cntAdd ..) _ _).trans (countersOnly_bumpFree _))

theorem CountersOnly.tileKept {s t : State} (h : CountersOnly s t) (k : Nat) : s.tileKept t k = true := by
  have hk : { t.tile k with cnt := (s.tile k).cnt } = s.tile k :=
    congrArg (fun x : Tile => { x with cnt := (s.tile k).cnt }) (h.tile k)
  simpa [State.tileKept] using hk

theorem CountersOnly.othersKept {s t : State} (h : CountersOnly s t) (k : Nat) : s.othersKept t k = true := by
  simp [State.othersKept, h.tileKept]

end Sys2Proof.Machine
end

section
/-! Heartbeats, messages on the mesh and the start of a rejoin (01_architecture.md R18, R19, R76; 08_integrity.md R275 to R283). -/

namespace Sys2Proof.Machine

open Sys2Proof

/-- A command that runs an effect which leaves the queue, the build and the fuses completes with that effect's state. -/
theorem completes_of_run {c : Instr} {s : State} {P : State → Prop} {f : State → State} (h : exec c s = s.run f)
    (hpend : (f s).pending = s.pending) (hpop : (f s).pop = s.pop) (hfuse : (f s).fuse = s.fuse) (hP : P (f s)) : Completes c s P :=
  ⟨f s, by rw [h, State.run, ← hpend, ← hpop, ← hfuse], hP⟩

theorem exec_heartbeatSend (tile : Nat) (answers : Bool) (s : State) :
    exec (.heartbeatSend tile answers) s = s.run (fun x => x.heartbeatSendEff tile answers) := rfl

theorem exec_heartbeatMiss (tile : Nat) (answers : Bool) (s : State) :
    exec (.heartbeatMiss tile answers) s = s.run (fun x => x.heartbeatMissEff tile answers) := rfl

theorem exec_meshMessageDeliver (tile port cls : Nat) (upset : Upset) (latNs : Nat) (idle : Bool) (s : State) :
    exec (.meshMessageDeliver tile port cls upset latNs idle) s = s.run (fun x => x.meshMessageDeliverEff tile port cls upset latNs idle) := rfl

theorem exec_tileRejoin (errs : List LineErr) (ms : Nat) (s : State) :
    exec (.tileRejoin errs ms) s = s.run (fun x => x.tileRejoinEff errs ms) := rfl

/-! ### Frames -/

theorem only_links_of_eq {s t : State} {j : Jobs} {v : Vector Tile 8} {r : RegFile} {n : Nat}
    (h : t = { s with jobs := j, tiles := v, reg := r, free := n }) : Only [.jobs, .tiles, .reg, .free] s t := by
  subst h
  exact ⟨rfl, rfl, by simp [Part.all, Part.same]⟩

theorem only_md_jobs_of_eq {s t : State} {d : ModeState} {j : Jobs} (h : t = { s with md := d, jobs := j }) : Only [.md, .jobs] s t := by
  subst h
  exact ⟨rfl, rfl, by simp [Part.all, Part.same]⟩

theorem only_tiles_jobs_of_eq {s t : State} {v : Vector Tile 8} {j : Jobs} (h : t = { s with tiles := v, jobs := j }) :
    Only [.tiles, .jobs] s t := by
  subst h
  exact ⟨rfl, rfl, by simp [Part.all, Part.same]⟩

theorem only_cup_log_of_eq {s t : State} {c : Cupola} {g : Guestbook} {r : RegFile} {p : Porter} {o : List Out}
    (h : t = { s with cup := c, gb := g, reg := r, porter := p, outbox := o }) : Only (.cup :: logParts) s t := by
  subst h
  exact ⟨rfl, rfl, by simp [Part.all, Part.same]⟩

/-! ### A message put on a link -/

theorem State.portTo_congr {s t : State} (h : t.pop = s.pop) (k d : Nat) : t.portTo k d = s.portTo k d := by
  rw [State.portTo, h, State.portTo]

/-- R76: what `meshPut` does where a route leads to the destination: the message is the last on the link of the route, and but for the mesh
links only counters move. -/
theorem State.meshPut_of_route {s : State} {t d : Nat} {m : Msg} (h : s.routePort t m.dst = some d) :
    (s.meshPut t m).sentLast t d m.body.cls = some m ∧
      CountersOnly { s with jobs := (s.meshPut t m).jobs } (s.meshPut t m) := by
  have hput : s.meshPut t m = (s.modJobs (fun j =>
      let k := 16 * s.portTo t d + 4 * d + m.body.cls
      { j with links := aput k (agetD k [] j.links ++ [m]) j.links })).perfMesh t d m.body.cls := by
    unfold State.meshPut
    rw [h]
  rw [hput]
  set a := s.modJobs _ with ha
  have hc := countersOnly_perfMesh a t d m.body.cls
  have hjobs : (a.perfMesh t d m.body.cls).jobs = a.jobs := by rw [hc.frame]
  have hpop : (a.perfMesh t d m.body.cls).pop = s.pop := by rw [hc.frame, ha, State.modJobs_pop]
  refine ⟨?_, ?_⟩
  · rw [State.sentLast, State.portTo_congr hpop, hjobs, ha, State.modJobs_jobs, agetD_aput_self, List.getLast?_concat]
  · rw [hjobs]
    exact hc

/-- The frame of a command that puts a message on a link. -/
theorem only_of_links {s t : State} {j : Jobs} (h : CountersOnly { s with jobs := j } t) : Only [.jobs, .tiles, .reg, .free] s t :=
  only_links_of_eq h.frame

theorem othersKept_of_links {s t : State} {j : Jobs} (h : CountersOnly { s with jobs := j } t) : s.othersKept t 8 = true :=
  h.othersKept 8

theorem completes_of_links {c : Instr} {s : State} {P : State → Prop} {f : State → State} {j : Jobs} (h : exec c s = s.run f)
    (hc : CountersOnly { s with jobs := j } (f s)) (hP : P (f s)) : Completes c s P :=
  completes_of_run h (by rw [hc.frame]) (by rw [hc.frame]) (by rw [hc.frame]) hP

/-! ### Heartbeats (R19) -/

/-- R76 holds back messages of the MEM class alone. -/
theorem State.holdsBack_heartbeat (s : State) (src dst : Nat) : s.holdsBack { src := src, dst := dst, body := .heartbeat } = false := by
  simp [State.holdsBack, Msg.samePair, MsgBody.cls]

theorem State.heartbeatSendEff_of_route {s : State} {tile : Nat} (answers : Bool) (ht : s.alive tile = true) (hne : tile ≠ s.md.primary)
    (hp : s.alive s.md.primary = true) (hr : (s.hops tile s.md.primary).isSome = true) :
    s.heartbeatSendEff tile answers = s.meshPut tile { src := tile, dst := s.md.primary, body := .heartbeat } := by
  simp [State.heartbeatSendEff, State.meshSend, State.holdsBack_heartbeat, ht, hne, hp, hr]

theorem State.heartbeatMissEff_of_lt {s : State} {tile : Nat} (answers : Bool) (ht : s.alive tile = true) (hne : tile ≠ s.md.primary)
    (hm : agetD tile 0 s.md.missed < 2) :
    s.heartbeatMissEff tile answers = { s with md := { s.md with missed := aput tile (agetD tile 0 s.md.missed + 1) s.md.missed } } := by
  have h3 : agetD tile 0 s.md.missed + 1 < 3 := by omega
  simp only [State.heartbeatMissEff, ht, hne, h3, Bool.not_true, Bool.false_or, decide_false, Bool.false_eq_true, if_false, if_true]
  rfl

/-! ### Messages that arrive (R18) -/

/-- The state once the first message of a link is taken off it and counted in the link's shares. -/
def State.meshTaken (s : State) (tile port cls : Nat) (l : List Msg) : State :=
  (s.meshServed tile port cls).modJobs (fun j => { j with
    links := if l.isEmpty then adel (16 * tile + 4 * port + cls) j.links else aput (16 * tile + 4 * port + cls) l j.links })

theorem State.meshTaken_links (s : State) (tile port cls : Nat) (l : List Msg) :
    agetD (16 * tile + 4 * port + cls) [] (s.meshTaken tile port cls l).jobs.links = l := by
  cases l with
  | nil => simp [State.meshTaken, agetD]
  | cons m l => simp [State.meshTaken]

/-- Taking a message off its link changes the links alone. -/
theorem State.meshTaken_frame (s : State) (tile port cls : Nat) (l : List Msg) :
    s.meshTaken tile port cls l = { s with jobs := (s.meshTaken tile port cls l).jobs } := rfl

theorem State.meshTaken_tile (s : State) (tile port cls u : Nat) (l : List Msg) : (s.meshTaken tile port cls l).tile u = s.tile u := rfl

/-- R18: a message whose class the port serves next is taken off its link and handled. -/
theorem State.meshMessageDeliverEff_served {s : State} {tile port cls : Nat} {m : Msg} {l : List Msg} (upset : Upset) (latNs : Nat) (idle : Bool)
    (hl : agetD (16 * tile + 4 * port + cls) [] s.jobs.links = m :: l) (hs : s.meshServes tile port = some cls) (ho : m.old = false) :
    s.meshMessageDeliverEff tile port cls upset latNs idle =
      if m.dst ≠ tile then (s.meshTaken tile port cls l).meshPut tile m
      else if s.alive tile then (s.meshTaken tile port cls l).meshConsume tile port m upset latNs idle
      else s.meshTaken tile port cls l := by
  unfold State.meshMessageDeliverEff
  simp only [hl, hs, ho, ne_eq, not_true_eq_false, if_false, Bool.false_eq_true]
  rfl

theorem State.meshMessageDeliverEff_unserved {s : State} {tile port cls : Nat} (upset : Upset) (latNs : Nat) (idle : Bool)
    (hs : s.meshServes tile port ≠ some cls) : s.meshMessageDeliverEff tile port cls upset latNs idle = s := by
  unfold State.meshMessageDeliverEff
  dsimp only
  split
  · rfl
  · exact if_pos hs

/-- R270: a delta or an answer that arrives waits in the tile's inbox. -/
theorem completes_inbox {s : State} {tile port latNs : Nat} {m : Msg} {l : List Msg} (upset : Upset) (idle : Bool)
    (ht : s.alive tile = true) (h8 : tile < 8) (hl : agetD (16 * tile + 4 * port + 2) [] s.jobs.links = m :: l)
    (hs : s.meshServes tile port = some 2) (ho : m.old = false) (hd : m.dst = tile)
    (hb : (∃ d, m.body = .delta d) ∨ ∃ k seg, m.body = .ack k seg) :
    Completes (.meshMessageDeliver tile port 2 upset latNs idle) s (fun t =>
      (t.tile tile).cup = { (s.tile tile).cup with inbox := (s.tile tile).cup.inbox ++ [m] } ∧
      agetD (16 * tile + 4 * port + 2) [] t.jobs.links = l ∧ s.othersKept t tile = true ∧ Only [.tiles, .jobs] s t) := by
  have heff : s.meshMessageDeliverEff tile port 2 upset latNs idle =
      (s.meshTaken tile port 2 l).modCupT tile (fun c => { c with inbox := c.inbox ++ [m] }) := by
    rw [State.meshMessageDeliverEff_served upset latNs idle hl hs ho, if_neg (not_not.2 hd), if_pos ht, State.meshConsume]
    obtain ⟨d, hb⟩ | ⟨k, seg, hb⟩ := hb <;> rw [hb]
  obtain ⟨j, v, hframe⟩ : ∃ j v, s.meshMessageDeliverEff tile port 2 upset latNs idle = { s with jobs := j, tiles := v } := by
    rw [heff, State.meshTaken_frame]
    exact ⟨_, _, rfl⟩
  refine completes_of_run (exec_meshMessageDeliver ..) (by rw [hframe]) (by rw [hframe]) (by rw [hframe])
    ⟨?_, ?_, ?_, only_tiles_jobs_of_eq hframe⟩ <;> rw [heff]
  · rw [State.modCupT, State.tile_modTile_self _ _ h8, State.meshTaken_tile]
  · exact s.meshTaken_links tile port 2 l
  · have hk (k : Nat) (hk : k ≠ tile) :
        ((s.meshTaken tile port 2 l).modCupT tile (fun c => { c with inbox := c.inbox ++ [m] })).tile k = s.tile k := by
      rw [State.modCupT, State.tile_modTile_ne hk, State.meshTaken_tile]
    simp only [State.othersKept, List.all_eq_true, Bool.or_eq_true, beq_iff_eq]
    intro k _
    by_cases hkt : k = tile
    · exact .inl hkt
    · exact .inr (by simp [State.tileKept, hk k hkt])

/-! ### The start of a rejoin (R279, R283) -/

theorem agetD_foldl_aput (v d : Nat) {k : Nat} {l : List Nat} (h : k ∈ l) (w : List (Nat × Nat)) :
    agetD k d (l.foldl (fun a t => aput t v a) w) = v := by
  induction l using List.reverseRecOn with
  | nil => cases h
  | append_singleton l j ih =>
    rw [List.foldl_append, List.foldl_cons, List.foldl_nil]
    by_cases hkj : k = j
    · rw [hkj, agetD_aput_self]
    · rw [agetD_aput_ne hkj]
      exact ih ((List.mem_append.1 h).resolve_right (by simpa using hkj))

/-- R279: a claim of the bulk-copy window by every tile in service. -/
theorem State.setWindow_eq (s : State) (who : Nat) :
    s.setWindow who = s.modCup (fun c => { c with windows := s.aliveTiles.foldl (fun a t => aput t who a) c.windows }) := by
  have hfold (l : List Nat) : ∀ a : State, l.foldl (fun a t => a.claimWindow who t) a =
      a.modCup (fun c => { c with windows := l.foldl (fun a t => aput t who a) c.windows }) := by
    induction l with
    | nil => exact fun _ => rfl
    | cons t l ih => exact fun a => ih _
  exact hfold _ s

/-- The state in which the rejoin of a tile starts, before it is recorded. -/
def State.rejoinStarted (s : State) (tile : Nat) : State :=
  s.modCup (fun c => { c with
    windows := s.aliveTiles.foldl (fun a t => aput t 1 a) c.windows, rejoin := some (tile, 0), rejoined := 0, work := 3 })

theorem State.tileRejoinEff_starts {s : State} {tile : Nat} (errs : List LineErr) (ms : Nat) (hn : s.cup.rejoin = none)
    (hw : s.aliveTiles.find? (fun u => (s.rejoinAt u).isSome) = some tile) (ho : s.md.operating = true) (hz : s.cup.work = 0)
    (hm : s.cupMayWork = true) :
    s.tileRejoinEff errs ms =
      (s.rejoinStarted tile).event Gb.CUP_REBUILD_START 15 [3, (s.pop.tiles - 1) * s.cupR + s.cupR] := by
  unfold State.tileRejoinEff
  simp only [hn, hw, ho, hz, hm, State.setWindow_eq, beq_self_eq_true, Bool.and_self, if_true]
  rfl

/-- Settles O27: a message that takes a route is the last on its link and else moves counters alone; one that arrives is taken off its link
and handled; a rejoin claims the window of every tile in service. -/
theorem meshAndHeartbeats : Obligations.MeshAndHeartbeats := by
  unfold Obligations.MeshAndHeartbeats
  refine ⟨?_, ?_, ?_, ?_, ?_, ?_, ?_, ?_⟩
  · intro s tile d answers ht hne hp hh hr
    have heff := State.heartbeatSendEff_of_route answers ht hne hp hh
    obtain ⟨hlast, hc⟩ := State.meshPut_of_route (m := { src := tile, dst := s.md.primary, body := .heartbeat }) hr
    rw [← heff] at hlast hc
    exact completes_of_links (exec_heartbeatSend ..) hc ⟨hlast, othersKept_of_links hc, only_of_links hc⟩
  · intro s tile answers ht hne hm
    have heff := State.heartbeatMissEff_of_lt answers ht hne hm
    exact completes_of_run (exec_heartbeatMiss ..) (by rw [heff]) (by rw [heff]) (by rw [heff]) heff
  · intro s tile port src latNs l upset idle ht _ hl hs
    have heff : s.meshMessageDeliverEff tile port 0 upset latNs idle =
        (s.meshTaken tile port 0 l).modMd (fun d => { d with missed := adel src d.missed }) := by
      rw [State.meshMessageDeliverEff_served upset latNs idle hl hs rfl, if_neg (not_not.2 rfl), if_pos ht]
      rfl
    obtain ⟨j, hframe⟩ : ∃ j, s.meshMessageDeliverEff tile port 0 upset latNs idle =
        { s with md := { s.md with missed := adel src s.md.missed }, jobs := j } := by
      rw [heff, State.meshTaken_frame]
      exact ⟨_, rfl⟩
    exact completes_of_run (exec_meshMessageDeliver ..) (by rw [hframe]) (by rw [hframe]) (by rw [hframe])
      ⟨by rw [hframe], by rw [heff]; exact s.meshTaken_links tile port 0 l, only_md_jobs_of_eq hframe⟩
  · intro s tile port src latNs seg k l upset idle ht h8 _ hl hs
    exact completes_inbox upset idle ht h8 hl hs rfl rfl (.inr ⟨k, seg, rfl⟩)
  · intro s tile port src latNs d l upset idle ht h8 _ hl hs
    exact completes_inbox upset idle ht h8 hl hs rfl rfl (.inl ⟨d, rfl⟩)
  · intro s tile port cls p latNs m l upset idle _ _ _ hl hd ho hcls hs hr
    have heff : s.meshMessageDeliverEff tile port cls upset latNs idle = (s.meshTaken tile port cls l).meshPut tile m := by
      rw [State.meshMessageDeliverEff_served upset latNs idle hl hs ho, if_pos hd]
    obtain ⟨hlast, hc⟩ := State.meshPut_of_route (s := s.meshTaken tile port cls l) hr
    rw [← heff] at hlast hc
    rw [hcls] at hlast
    rw [State.meshTaken_frame] at hc
    replace hc : CountersOnly { s with jobs := (s.meshMessageDeliverEff tile port cls upset latNs idle).jobs } _ := hc
    exact completes_of_links (exec_meshMessageDeliver ..) hc ⟨hlast, othersKept_of_links hc, only_of_links hc⟩
  · intro s tile port cls latNs upset idle hs
    have heff := State.meshMessageDeliverEff_unserved (s := s) upset latNs idle hs
    exact completes_of_run (exec_meshMessageDeliver ..) (by rw [heff]) (by rw [heff]) (by rw [heff]) heff
  · intro s tile ms errs hn hw ho hz hm
    have heff := State.tileRejoinEff_starts errs ms hn hw ho hz hm
    have hlog := onlyLog_event (s.rejoinStarted tile) Gb.CUP_REBUILD_START 15 [3, (s.pop.tiles - 1) * s.cupR + s.cupR]
    rw [← heff] at hlog
    have hcup : (s.tileRejoinEff errs ms).cup = (s.rejoinStarted tile).cup := hlog.cup
    have halive : (s.tileRejoinEff errs ms).aliveTiles = s.aliveTiles := State.aliveTiles_congr hlog.pop (by rw [hlog.md]; rfl)
    refine completes_of_run (exec_tileRejoin ..) hlog.pending hlog.pop hlog.fuse ?_
    rw [halive, hcup, List.all_eq_true]
    exact ⟨rfl, rfl, rfl, fun k hk => beq_iff_eq.2 (agetD_foldl_aput 1 0 hk _), only_cup_log_of_eq hlog⟩

end Sys2Proof.Machine
end

section
/-! What an operation leaves of the tiles. `Keeps g` says that the package's work, its failed tiles and what `g` reads of each tile stay; the views
`Tile.store`, `Tile.standing` and `Tile.waits` read less and less of a tile. -/

namespace Sys2Proof.Machine

open Sys2Proof

/-! ### The relation -/

/-- The build, the work of the package and its failed tiles stay, Hold-up is not entered, and `g` reads every tile as before. -/
structure Keeps {α : Type} (g : Tile → α) (s t : State) : Prop where
  pop : t.pop = s.pop
  jobs : t.jobs = s.jobs
  sec : t.sec = s.sec
  failed : t.md.failed = s.md.failed
  mode : s.md.mode ≠ .holdup → t.md.mode ≠ .holdup
  tile : ∀ u, g (t.tile u) = g (s.tile u)

section
variable {α β : Type} {g : Tile → α}

theorem Keeps.refl (s : State) : Keeps g s s := ⟨rfl, rfl, rfl, rfl, id, fun _ => rfl⟩

theorem Keeps.trans {a b c : State} (h : Keeps g a b) (k : Keeps g b c) : Keeps g a c where
  pop := k.pop.trans h.pop
  jobs := k.jobs.trans h.jobs
  sec := k.sec.trans h.sec
  failed := k.failed.trans h.failed
  mode := k.mode ∘ h.mode
  tile u := (k.tile u).trans (h.tile u)

/-- What keeps a view keeps everything that the view determines. -/
theorem Keeps.map {s t : State} (h : Keeps g s t) (k : α → β) : Keeps (fun x => k (g x)) s t :=
  ⟨h.pop, h.jobs, h.sec, h.failed, h.mode, fun u => congrArg k (h.tile u)⟩

theorem Keeps.ite {s a b : State} (p : Prop) [Decidable p] (ha : Keeps g s a) (hb : Keeps g s b) : Keeps g s (if p then a else b) := by
  split
  · exact ha
  · exact hb

theorem Keeps.foldl {f : State → β → State} (h : ∀ a b, Keeps g a (f a b)) (l : List β) (s : State) : Keeps g s (l.foldl f s) := by
  induction l generalizing s with
  | nil => exact .refl s
  | cons b l ih => exact (h s b).trans (ih _)

/-- What touches neither the tiles nor the package's work keeps every view. -/
theorem keeps_of_tiles {s t : State} (pop : t.pop = s.pop) (jobs : t.jobs = s.jobs) (sec : t.sec = s.sec) (md : t.md = s.md)
    (tiles : t.tiles = s.tiles) : Keeps g s t :=
  ⟨pop, jobs, sec, by rw [md], by rw [md]; exact id, fun u => by rw [State.tile, State.tile, tiles]⟩

theorem OnlyLog.keeps {s t : State} (h : OnlyLog s t) : Keeps g s t := keeps_of_tiles h.pop h.jobs h.sec h.md h.tiles

theorem keeps_modTile {s : State} {t : Nat} {f : Tile → Tile} (h : ∀ x, g (f x) = g x := by intro; rfl) : Keeps g s (s.modTile t f) :=
  ⟨rfl, rfl, rfl, rfl, id, State.tile_modTile_keeps g s t h⟩

theorem keeps_latchOnly (s : State) (o b : Nat) : Keeps g s (s.latchOnly o b) := (onlyLog_setFld ..).keeps
theorem keeps_latch (s : State) (o b c k : Nat) (l : List Nat) : Keeps g s (s.latch o b c k l) := (onlyLog_latch ..).keeps
theorem keeps_event (s : State) (c k : Nat) (l : List Nat) : Keeps g s (s.event c k l) := (onlyLog_event ..).keeps
theorem keeps_setReg (s : State) (o : Nat) (v : W32) : Keeps g s (s.setReg o v) := keeps_of_tiles rfl rfl rfl rfl rfl
theorem keeps_emit (s : State) (o : Out) : Keeps g s (s.emit o) := keeps_of_tiles rfl rfl rfl rfl rfl

theorem keeps_evtAll (s : State) (log : Nat) (r : EvtRec) : Keeps g s (s.evtAll log r) := by
  have hmod (a : State) (c : Nat) (f : LDev → LDev) : Keeps g a (a.modLd c f) := keeps_of_tiles rfl rfl rfl rfl rfl
  refine .foldl (fun a c => ?_) _ _
  exact .ite _ (.ite _ (hmod ..) ((hmod ..).trans (keeps_emit ..))) ((hmod ..).trans (keeps_event ..))

/-- R312: the mode follows the causes; none of them is Hold-up. -/
theorem keeps_reevaluate (s : State) : Keeps g s s.reevaluate := by
  have hset : Keeps g s (s.setMode s.md.target) := by
    refine ⟨by simp, by simp, by simp, ?_, fun _ => ?_, fun u => by rw [State.tile, State.tile, State.setMode_tiles]⟩
    · rw [State.setMode_md]
      split <;> rfl
    · rw [State.setMode_mode]
      unfold ModeState.target
      split
      · exact Mode.noConfusion
      · split <;> exact Mode.noConfusion
  have henter : Keeps g s (s.enterMode s.md.target) := by
    refine .ite _ (.refl s) ?_
    dsimp only
    have hdeg := Keeps.ite (s.md.mode = .degraded ∨ s.md.target = .degraded)
      (hset.trans (keeps_evtAll _ 1 { kind := 1, cause := 6, info := s.md.target.code })) hset
    exact .ite _ (hdeg.trans (keeps_evtAll ..)) hdeg
  exact .ite _ henter (.refl s)

theorem keeps_setCause (s : State) (n : Nat) (on : Bool) : Keeps g s (s.setCause n on) := by
  have hmd : Keeps g s (s.modMd (fun d => { d with causes := putBit d.causes n on })) := ⟨rfl, rfl, rfl, rfl, id, fun _ => rfl⟩
  exact .ite _ (.refl s) (hmd.trans (keeps_reevaluate _))

end

/-! ### The views of a tile -/

/-- Of a channel: what runs on it, the pages of its calibration blocks, its fenced ranks. -/
def Channel.kept (k : Channel) : List MedOp × List (Nat × Nat) × Nat := (k.ops, k.calUsed, k.fenced)

/-- The segment that a frame is being written back to, if it is. -/
def Frame.written (y : Frame) : Option Nat := if y.st = .writing then some y.seg else none

/-- What decides whether something of a tile waits: its commits, its lists of what waits, its hazard table, and the segments of the frames
that are Writing-back. -/
structure TileWaits where
  commits : List Commit
  metaWait : List MedOp
  poisonWait : List Nat
  withdrawWait : List Nat
  haz : List Haz
  writing : Nat → Option Nat

/-- The content of a tile that counters, registers, records and reads that wait for a plane leave as it is. -/
structure TileStore where
  xl : Xlate
  fs : FrontStore
  haz : List Haz
  pages : List (Nat × Page)
  chans : Nat → List MedOp × List (Nat × Nat) × Nat

def TileStore.waits (x : TileStore) : TileWaits where
  commits := x.xl.commits
  metaWait := x.xl.metaWait
  poisonWait := x.xl.poisonWait
  withdrawWait := x.fs.withdrawWait
  haz := x.haz
  writing f := (agetD f { st := .invalid, seg := 0 } x.fs.frames).written

def Tile.store (x : Tile) : TileStore where
  xl := x.xl
  fs := x.fs
  haz := x.txn.haz
  pages := x.med.pages
  chans c := (vget c {} x.med.chans).kept

def Tile.waits (x : Tile) : TileWaits := x.store.waits

/-- The content that the retirement of a block leaves as it is: what may wait, the map, and the medium. -/
def Tile.standing (x : Tile) : TileWaits × List (Nat × MapEnt) × Media := (x.waits, x.xl.map, x.med)

theorem Keeps.waits_of_store {s t : State} (h : Keeps Tile.store s t) : Keeps Tile.waits s t := h.map TileStore.waits

theorem Keeps.waits_of_standing {s t : State} (h : Keeps Tile.standing s t) : Keeps Tile.waits s t := h.map Prod.fst

theorem Keeps.xl {s t : State} (h : Keeps Tile.store s t) (u : Nat) : (t.tile u).xl = (s.tile u).xl := congrArg TileStore.xl (h.tile u)
theorem Keeps.fs {s t : State} (h : Keeps Tile.store s t) (u : Nat) : (t.tile u).fs = (s.tile u).fs := congrArg TileStore.fs (h.tile u)
theorem Keeps.pages {s t : State} (h : Keeps Tile.store s t) (u : Nat) : (t.tile u).med.pages = (s.tile u).med.pages :=
  congrArg TileStore.pages (h.tile u)
theorem Keeps.chan {s t : State} (h : Keeps Tile.store s t) (u c : Nat) : (t.chan u c).kept = (s.chan u c).kept :=
  congrArg (fun x => TileStore.chans x c) (h.tile u)
theorem Keeps.ops {s t : State} (h : Keeps Tile.store s t) (u c : Nat) : (t.chan u c).ops = (s.chan u c).ops := congrArg Prod.fst (h.chan u c)

theorem State.blkDefault_congr {s t : State} (h : t.pop = s.pop) (b : Nat) : t.blkDefault b = s.blkDefault b :=
  congrArg (fun p => ({ pop := p } : State).blkDefault b) h

theorem State.blk_congr {s t : State} {u : Nat} (hp : t.pop = s.pop) (hb : (t.tile u).xl.blocks = (s.tile u).xl.blocks) (b : Nat) :
    t.blk u b = s.blk u b := by
  rw [State.blk, State.blk, State.blkDefault_congr hp, hb]

theorem Keeps.blk {s t : State} (h : Keeps Tile.store s t) (u b : Nat) : t.blk u b = s.blk u b :=
  State.blk_congr h.pop (by rw [h.xl]) b

/-! ### What keeps the content of the tiles -/

theorem CountersOnly.keeps {α : Type} {g : Tile → α} {s t : State} (h : CountersOnly s t)
    (hg : ∀ x : Tile, g x.uncounted = g x := by intro; rfl) : Keeps g s t :=
  ⟨by rw [h.frame], by rw [h.frame], by rw [h.frame], by rw [h.frame], by rw [h.frame]; exact id,
    fun u => by rw [← hg, h.tile u, hg]⟩

theorem keeps_perfEvent (s : State) (t no q d : Nat) : Keeps Tile.store s (s.perfEvent t no q d) := (countersOnly_perfEvent ..).keeps

theorem vget_vmod_keeps {α β : Type} {n : Nat} (g : α → β) {f : α → α} (h : ∀ x, g (f x) = g x) (i j : Nat) (d : α) (v : Vector α n) :
    g (vget j d (vmod i f v)) = g (vget j d v) := by
  by_cases hji : j = i
  · subst hji
    by_cases hj : j < n
    · rw [vget_vmod_self f v d hj, h]
    · have hd (w : Vector α n) : vget j d w = d := by simp [vget, List.getD, hj]
      rw [hd, hd]
  · rw [vget_vmod_ne hji]

theorem keeps_modCh {s : State} {t c : Nat} {f : Channel → Channel} (h : ∀ k, (f k).kept = k.kept := by intro; rfl) :
    Keeps Tile.store s (s.modCh t c f) :=
  keeps_modTile fun x => by
    have hc : (fun i => (vget i {} (vmod c f x.med.chans)).kept) = fun i => (vget i {} x.med.chans).kept :=
      funext fun i => vget_vmod_keeps Channel.kept h c i {} x.med.chans
    simp [Tile.store, hc]

theorem keeps_requestConv (s : State) (ids : List Nat) (prio : Nat) : Keeps Tile.store s (s.requestConv ids prio) := by
  have hthm (a : State) (f : Thermal → Thermal) : Keeps Tile.store a (a.modThm f) := keeps_of_tiles rfl rfl rfl rfl rfl
  refine (hthm s _).trans (.foldl (fun a c => .ite _ (.ite _ (.refl a) ?_) (.refl a)) _ _)
  split
  · exact .refl a
  · exact (hthm ..).trans (hthm ..)

theorem keeps_staleRead (s : State) (t c : Nat) : Keeps Tile.store s (s.staleRead t c) := by
  unfold State.staleRead
  split
  dsimp only
  split
  · split
    · exact .refl s
    · exact (Keeps.trans keeps_modCh (keeps_latch ..)).trans (keeps_requestConv ..)
  · exact keeps_modCh

theorem keeps_caIssue (s : State) (t c rank : Nat) (cmd : CaCmd) : Keeps Tile.store s (s.caIssue t c rank cmd) := by
  have hsend : Keeps Tile.store s ((s.modCh t c (fun k => { k with last := some (rank, cmd), rejects := 0 })).caSend t c rank cmd) :=
    .trans keeps_modCh (keeps_emit ..)
  unfold State.caIssue
  dsimp only
  split
  · exact (hsend.trans (onlyLog_addFld ..).keeps).trans (keeps_perfEvent ..)
  · exact hsend

theorem keeps_issueRead (s : State) (t : Nat) (r : MedRead) : Keeps Tile.store s (s.issueRead t r) := by
  unfold State.issueRead
  dsimp only
  refine Keeps.trans (Keeps.trans ?_ (keeps_perfEvent ..)) (keeps_caIssue ..)
  split
  · exact ((keeps_staleRead ..).trans keeps_modCh).trans (keeps_latchOnly ..)
  · exact (keeps_staleRead ..).trans keeps_modCh

theorem keeps_serveRead (s : State) (t : Nat) (q : MedRead) (dataIn : Bool) : Keeps Tile.store s (s.serveRead t q dataIn) :=
  .ite _ (keeps_issueRead ..) (.trans keeps_modCh (keeps_caIssue ..))

/-- R181: the next read of a plane changes nothing but that read, the command on its channel, and what is recorded of both. -/
theorem keeps_nextRead (s : State) (t p : Nat) : Keeps Tile.store s (s.nextRead t p) := by
  refine .ite _ (.refl s) ?_
  split
  · exact keeps_serveRead ..
  · exact .refl s

/-- R88: the judgement of throttling changes the throttling and what is recorded of it. -/
theorem keeps_judgeThrottle {α : Type} {g : Tile → α} (s : State) (t : Nat) (hcnt : ∀ x : Tile, g x.uncounted = g x := by intro; rfl)
    (hthr : ∀ (x : Tile) (b : Bool), g { x with txn := { x.txn with throttle := b } } = g x := by intros; rfl) :
    Keeps g s (s.judgeThrottle t) := by
  have hmod : Keeps g s (s.modTxn t (fun y => { y with throttle := s.throttleOn t })) := keeps_modTile fun x => hthr x _
  exact .ite _ (.refl s) (.ite _ ((hmod.trans (keeps_latchOnly ..)).trans ((countersOnly_perfEvent ..).keeps hcnt)) hmod)

end Sys2Proof.Machine
end

section
/-! What settling does when nothing waits: throttling is judged anew (03_transactions.md R88), and that is all. -/

namespace Sys2Proof.Machine

open Sys2Proof

/-- Nothing of a tile waits for a command that makes room, and each of its commits at step 5 belongs to a frame that is Writing-back. -/
structure TileWaits.Still (w : TileWaits) : Prop where
  metaWait : w.metaWait = []
  poisonWait : w.poisonWait = []
  withdrawWait : w.withdrawWait = []
  haz : ∀ h ∈ w.haz, h.st ≠ .fill
  commits : ∀ c ∈ w.commits, c.step = .done → ∃ f, c.job = .host f ∧ w.writing f = some c.seg

/-- No work of the package runs, the package is not in Hold-up, and nothing of a tile in service waits. -/
structure State.Still (s : State) : Prop where
  ranges : s.jobs.ranges = []
  ckpt : s.jobs.ckpt = none
  retire : s.jobs.retire = []
  replacing : s.sec.replacing = []
  mode : s.md.mode ≠ .holdup
  tile : ∀ t ∈ s.aliveTiles, (s.tile t).waits.Still

/-- A state that differs in what one tile holds is still where that tile is. -/
theorem State.Still.of_others {s t : State} {tile : Nat} (h : s.Still) (k : Keeps (fun _ => ()) s t)
    (others : ∀ u, u ≠ tile → (t.tile u).waits = (s.tile u).waits) (own : (t.tile tile).waits.Still) : t.Still where
  ranges := by rw [k.jobs, h.ranges]
  ckpt := by rw [k.jobs, h.ckpt]
  retire := by rw [k.jobs, h.retire]
  replacing := by rw [k.sec, h.replacing]
  mode := k.mode h.mode
  tile u hu := by
    rw [State.aliveTiles_congr k.pop k.failed] at hu
    by_cases hut : u = tile
    · rw [hut]
      exact own
    · rw [others u hut]
      exact h.tile u hu

theorem State.Still.keep {s t : State} (h : s.Still) (k : Keeps Tile.waits s t) : t.Still where
  ranges := by rw [k.jobs, h.ranges]
  ckpt := by rw [k.jobs, h.ckpt]
  retire := by rw [k.jobs, h.retire]
  replacing := by rw [k.sec, h.replacing]
  mode := k.mode h.mode
  tile u hu := by
    rw [State.aliveTiles_congr k.pop k.failed] at hu
    rw [k.tile u]
    exact h.tile u hu

theorem State.waits_of_tileQuiet {s : State} {t : Nat} (h : s.tileQuiet t = true) : (s.tile t).waits.Still := by
  simp only [State.tileQuiet, Bool.and_eq_true, List.isEmpty_iff, List.all_eq_true, bne_iff_ne, Bool.or_eq_true] at h
  obtain ⟨⟨⟨⟨⟨hmeta, hwith⟩, hpois⟩, hhaz⟩, -⟩, hcom⟩ := h
  refine ⟨hmeta, hpois, hwith, hhaz, fun c hc hdone => ?_⟩
  have hhost := (hcom c hc).resolve_left fun hne => hne hdone
  split at hhost
  case h_1 f hjob =>
    simp only [Bool.and_eq_true, beq_iff_eq] at hhost
    exact ⟨f, hjob, (if_pos hhost.1).trans (congrArg some hhost.2)⟩
  case h_2 => cases hhost

theorem State.still_of_noWork {s : State} (h : s.noWork = true) : s.Still := by
  simp only [State.noWork, Bool.and_eq_true, List.isEmpty_iff, Option.isNone_iff_eq_none, bne_iff_ne, List.all_eq_true] at h
  obtain ⟨⟨⟨⟨⟨hran, hck⟩, hret⟩, hrep⟩, hmode⟩, htile⟩ := h
  exact ⟨hran, hck, hret, hrep, hmode, fun t ht => State.waits_of_tileQuiet (htile t ht)⟩

/-! ### Settling, piece by piece -/

section
variable {s : State} {t : Nat}

theorem State.parityDone_of_still (h : (s.tile t).waits.Still) : s.parityDone t = s := by
  refine (congrArg (List.foldl _ s) (List.filter_eq_nil_iff.2 fun c hc hend => ?_)).trans List.foldl_nil
  obtain ⟨hdone, hjob⟩ := Bool.and_eq_true _ _ ▸ hend
  obtain ⟨f, hf, -⟩ := h.commits c hc (beq_iff_eq.1 hdone)
  simp [hf] at hjob

theorem State.dropOrphans_of_still (h : (s.tile t).waits.Still) : s.dropOrphans t = s := by
  refine if_pos (List.all_eq_true.2 fun c hc => ?_)
  split
  case h_1 f hjob =>
    by_cases hdone : c.step = .done
    · obtain ⟨f', hf', hw⟩ := h.commits c hc hdone
      obtain rfl : f = f' := Job.host.inj (hjob.symm.trans hf')
      have hw' : (if (s.frame t f).st = .writing then some (s.frame t f).seg else none) = some c.seg := hw
      split at hw'
      case isTrue hst => simp [hst, Option.some.inj hw']
      case isFalse => cases hw'
    · simp [hdone]
  case h_2 => rfl

theorem State.poisonDrops_of_still (h : (s.tile t).waits.Still) : s.poisonDrops t = s := by
  have hnil : (s.tile t).xl.poisonWait = [] := h.poisonWait
  rw [State.poisonDrops, hnil, List.foldl_nil]

theorem State.withdrawReady_of_still (h : (s.tile t).waits.Still) : s.withdrawReady t = s := by
  have hnil : (s.tile t).fs.withdrawWait = [] := h.withdrawWait
  rw [State.withdrawReady, hnil, List.foldl_nil]

theorem State.retryFills_of_still (h : (s.tile t).waits.Still) (latNs : Nat) : s.retryFills t latNs = s := by
  have hnil : (s.tile t).txn.haz.filter (s.fillStalls t) = [] := by
    rw [List.filter_eq_nil_iff]
    intro z hz hfill
    have hst : z.st ≠ .fill := h.haz z hz
    simp [State.fillStalls, hst] at hfill
  rw [State.retryFills, hnil, List.map_nil, List.foldl_nil]

theorem State.flushNext_of_mode (h : s.md.mode ≠ .holdup) : s.flushNext t = s :=
  if_neg (by simp [h])

/-- R88: what is left to settle of a tile of which nothing waits is its throttling. -/
theorem State.settleTile_of_still (h : (s.tile t).waits.Still) (hm : s.md.mode ≠ .holdup) : s.settleTile t = s.judgeThrottle t := by
  have hmode : (s.judgeThrottle t).md.mode ≠ .holdup := (keeps_judgeThrottle (g := Tile.store) s t).mode hm
  rw [State.settleTile, State.parityDone_of_still h, State.dropOrphans_of_still h, State.poisonDrops_of_still h, State.withdrawReady_of_still h,
    State.retryFills_of_still h, State.flushNext_of_mode hmode]

theorem State.settleTile_of_quiet (h : s.tileQuiet t = true) (hm : s.md.mode ≠ .holdup) : s.settleTile t = s := by
  rw [State.settleTile_of_still (State.waits_of_tileQuiet h) hm]
  simp only [State.tileQuiet, Bool.and_eq_true, beq_iff_eq] at h
  exact if_pos h.1.2

theorem foldl_settleTile_keeps {l : List Nat} (h : ∀ t ∈ l, (s.tile t).waits.Still) (hm : s.md.mode ≠ .holdup) :
    Keeps Tile.store s (l.foldl State.settleTile s) := by
  induction l generalizing s with
  | nil => exact .refl s
  | cons t l ih =>
    have hk := keeps_judgeThrottle (g := Tile.store) s t
    rw [List.foldl_cons, State.settleTile_of_still (h t (.head _)) hm]
    refine hk.trans (ih (fun u hu => ?_) (hk.mode hm))
    rw [hk.waits_of_store.tile u]
    exact h u (.tail _ hu)

theorem State.jobsAdvance_of_nil (h : s.jobs.ranges = []) : s.jobsAdvance = s := by
  rw [State.jobsAdvance, h, List.foldl_nil]

theorem State.erasesAdvance_of_nil (h : s.sec.replacing = []) : s.erasesAdvance = s := by
  rw [State.erasesAdvance, h, List.filter_nil, List.foldl_nil]

theorem State.ckptAdvance_of_none (h : s.jobs.ckpt = none) : s.ckptAdvance = s := by
  rw [State.ckptAdvance, h]

theorem State.retireAdvance_of_nil (h : s.jobs.retire = []) : s.retireAdvance = s := by
  rw [State.retireAdvance, h, List.foldl_nil]

/-- Where nothing waits, settling keeps the content of every tile. -/
theorem State.settle_keeps (h : s.Still) : Keeps Tile.store s s.settle := by
  have hk := foldl_settleTile_keeps h.tile h.mode
  have hs := h.keep hk.waits_of_store
  rw [State.settle, State.jobsAdvance_of_nil hs.ranges, State.erasesAdvance_of_nil hs.replacing, State.ckptAdvance_of_none hs.ckpt,
    State.retireAdvance_of_nil hs.retire]
  exact hk

/-- Settling changes nothing where there is no work. -/
theorem State.settle_of_noWork (h : s.noWork = true) : s.settle = s := by
  have hs := State.still_of_noWork h
  have htile : ∀ t ∈ s.aliveTiles, s.tileQuiet t = true := by
    simp only [State.noWork, Bool.and_eq_true, List.all_eq_true] at h
    exact h.2
  have hfold : ∀ l : List Nat, (∀ t ∈ l, s.tileQuiet t = true) → l.foldl State.settleTile s = s := by
    intro l hl
    induction l with
    | nil => rfl
    | cons t l ih =>
      rw [List.foldl_cons, State.settleTile_of_quiet (hl t (.head _)) hs.mode]
      exact ih fun u hu => hl u (.tail _ hu)
  rw [State.settle, hfold _ htile, State.jobsAdvance_of_nil hs.ranges, State.erasesAdvance_of_nil hs.replacing,
    State.ckptAdvance_of_none hs.ckpt, State.retireAdvance_of_nil hs.retire]

end

/-! ### After an operation -/

/-- R213: no program waits for a plane, so that none is tried. -/
theorem State.retryPrograms_of_noneWait {s : State} {t : Nat} (h : s.noneWait t = true) : s.retryPrograms t = s := by
  simp only [State.noneWait, Bool.and_eq_true, List.isEmpty_iff, List.all_eq_true] at h
  obtain ⟨hmeta, hcom⟩ := h
  have hretry : s.retryMeta t = s := by rw [State.retryMeta, hmeta, List.foldl_nil]
  have hnil : (s.tile t).xl.commits.filter (fun c => c.step == .program && c.loc.isNone) = [] := by
    rw [List.filter_eq_nil_iff]
    intro c hc hw
    have hgo := hcom c hc
    cases hloc : c.loc <;> simp_all
  rw [State.retryPrograms, hretry, hnil, List.foldl_nil]

theorem Keeps.noneWait {s t : State} (h : Keeps Tile.waits s t) (u : Nat) : t.noneWait u = s.noneWait u := by
  have hc : (t.tile u).xl.commits = (s.tile u).xl.commits := congrArg TileWaits.commits (h.tile u)
  have hm : (t.tile u).xl.metaWait = (s.tile u).xl.metaWait := congrArg TileWaits.metaWait (h.tile u)
  rw [State.noneWait, State.noneWait, hc, hm]

/-- R184: a plane that is freed serves its next read; no program waits for it. -/
theorem State.planeFreed_keeps {s : State} {t : Nat} (h : s.noneWait t = true) (loc : Nat) : Keeps Tile.store s (s.planeFreed t loc) := by
  have hk := keeps_nextRead s t (planeNo loc)
  have hn := hk.waits_of_store.noneWait t
  rw [State.planeFreed, State.retryPrograms_of_noneWait (hn.trans h)]
  exact hk

/-- The end of a clear, once the clear itself is dealt with, keeps the content of every tile where nothing waits. -/
theorem State.freed_settle_keeps {s : State} {t : Nat} (h : s.Still) (hn : s.noneWait t = true) (loc : Nat) :
    Keeps Tile.store s (s.planeFreed t loc).settle :=
  let hk := State.planeFreed_keeps hn loc
  hk.trans (State.settle_keeps (h.keep hk.waits_of_store))

/-- The same at the end of a program, where commits of parity pages that reached step 5 end first. -/
theorem State.freed_parity_settle_keeps {s : State} {t : Nat} (h : s.Still) (ht : s.alive t = true) (hn : s.noneWait t = true) (loc : Nat) :
    Keeps Tile.store s ((s.planeFreed t loc).parityDone t).settle := by
  have hk := State.planeFreed_keeps hn loc
  have hw : ((s.planeFreed t loc).tile t).waits.Still := by
    rw [hk.waits_of_store.tile t]
    exact h.tile t (State.mem_aliveTiles.2 ht)
  rw [State.parityDone_of_still hw]
  exact State.freed_settle_keeps h hn loc

end Sys2Proof.Machine
end

section
/-! What refutes the statement on frames and commits: a line fill does not end while the first step of a Hold-up flush (05_front_store.md
R168) has a frame Writing-back, and nothing that the statement asks for says that no such frame is left. -/

namespace Sys2Proof.Machine

open Sys2Proof

/-- R168: no fill ends while a frame that was Writing-back on entry into Hold-up has not completed its commit. -/
theorem State.fillEnd_of_firstLeft {s : State} {t : Nat} (h : s.firstLeft t = true) (f : Nat) (errs : List LineErr) (bad latNs : Nat) :
    s.fillEnd t f errs bad latNs = s := by
  unfold State.fillEnd
  exact if_pos (.inr (.inr (.inr h)))

/-- Tile 0 in Serve with line 1 of frame 0 to be filled and frame 1 listed as one of R168's first step, its commit running. -/
def fillBehindStep1 : State :=
  let fs : FrontStore := {
    frames := [(0, { st := .filling, seg := 0, valid := 1, dirty := 1, fillMask := 2 }), (1, { st := .writing, seg := 1, valid := allLines })]
    measured := 1000
    step1 := [1] }
  let xl : Xlate := { commits := [{ job := .host 1, seg := 1, page := { kind := .host }, loc := some 5 }] }
  ({ md := { mode := .serve } } : State).modTile 0 (fun x => { x with fs := fs, xl := xl })

theorem exec_lineFillDone (tile frame : Nat) (errs : List LineErr) (latNs : Nat) (s : State) :
    exec (.lineFillDone tile frame errs latNs) s = s.run (fun x => x.lineFillDoneEff tile frame errs latNs) := rfl

/-- LINE_FILL_DONE changes nothing where the fill cannot end and there is no work. -/
theorem State.lineFillDoneEff_of_firstLeft {s : State} {tile : Nat} (h : s.firstLeft tile = true) (hn : s.noWork = true) (f : Nat)
    (errs : List LineErr) (latNs : Nat) : s.lineFillDoneEff tile f errs latNs = s := by
  rw [State.lineFillDoneEff, State.fillEnd_of_firstLeft h, State.settle_of_noWork hn, ite_self]

/-- Refutes O34: in `fillBehindStep1` every premise of the clause on LINE_FILL_DONE holds, and the frame stays Filling. -/
theorem not_framesAndCommits : ¬ Obligations.FramesAndCommits := by
  unfold Obligations.FramesAndCommits
  rintro ⟨-, -, -, -, -, hfill, -⟩
  have hwork : fillBehindStep1.noWork = true := by decide +kernel
  obtain ⟨t, ht, hst, -⟩ := hfill fillBehindStep1 0 0 2 1 0 [] (by decide) (by decide) hwork (by decide) (by decide) (by decide)
    (by decide) (by decide) (by decide) (by decide) (by decide) (by decide) (by decide) (by decide) (by decide)
  rw [exec_lineFillDone, State.run, State.lineFillDoneEff_of_firstLeft (by decide) hwork] at ht
  cases ht
  exact absurd hst (by decide)

end Sys2Proof.Machine
end

section
/-! The retirement of a block (07_translation.md R225, R229, R231): it changes the block table, SPARE, the journal and the level of SPARE alone;
with SPARE at 0 it seals the tile. -/

namespace Sys2Proof.Machine

open Sys2Proof

/-- What the retirement of a block leaves of a tile once its block is marked. -/
def Tile.grounded (x : Tile) : (TileWaits × List (Nat × MapEnt) × Media) × List (Nat × Blk) × Nat := (x.standing, x.xl.blocks, x.xl.spare)

theorem Keeps.standing_of_grounded {s t : State} (h : Keeps Tile.grounded s t) : Keeps Tile.standing s t := h.map Prod.fst

theorem Keeps.map_eq {s t : State} (h : Keeps Tile.standing s t) (u : Nat) : (t.tile u).xl.map = (s.tile u).xl.map :=
  congrArg (fun x => x.2.1) (h.tile u)

theorem Keeps.med {s t : State} (h : Keeps Tile.standing s t) (u : Nat) : (t.tile u).med = (s.tile u).med :=
  congrArg (fun x => x.2.2) (h.tile u)

theorem Keeps.blk_of_grounded {s t : State} (h : Keeps Tile.grounded s t) (u b : Nat) : t.blk u b = s.blk u b :=
  State.blk_congr h.pop (congrArg (fun x => x.2.1) (h.tile u)) b

theorem Keeps.spare {s t : State} (h : Keeps Tile.grounded s t) (u : Nat) : (t.tile u).xl.spare = (s.tile u).xl.spare :=
  congrArg (fun x => x.2.2) (h.tile u)

/-! ### The steps of a retirement -/

/-- R232: a record other than RESERVE goes to the journal and changes nothing else. -/
theorem keeps_jappend (s : State) (t : Nat) {r : JRec} (h : ∀ f b, r ≠ .block 0 f b) : Keeps Tile.grounded s (s.jappend t r) := by
  unfold State.jappend
  dsimp only
  split
  · exact absurd rfl (h _ _)
  · exact keeps_modTile

theorem keeps_spareWarn (s : State) (t : Nat) : Keeps Tile.grounded s (s.spareWarn t) := by
  unfold State.spareWarn
  extract_lets x lv warn s1
  have hwarn (a : State) (k code log : Nat) : Keeps Tile.grounded a (warn a k code log) :=
    .ite _ ((keeps_latch ..).trans (keeps_evtAll ..)) (.refl a)
  have h1 : Keeps Tile.grounded s s1 := ((hwarn ..).trans (hwarn ..)).trans (hwarn ..)
  exact (h1.trans keeps_modTile).trans (keeps_judgeThrottle ..)

theorem aget_map_snd {α β : Type} (φ : α → β) (k : Nat) (l : List (Nat × α)) :
    aget k (l.map fun e => (e.1, φ e.2)) = (aget k l).map φ := by
  induction l with
  | nil => rfl
  | cons e l ih =>
    by_cases hk : e.1 = k
    · simp [aget, hk]
    · simp [aget, hk, ih]

/-- R231: what the seal of its tile makes of a frame. -/
def Frame.onSeal (y : Frame) : Frame := if y.st = .dirty then { y with st := .locked } else y

theorem Frame.written_onSeal (y : Frame) : y.onSeal.written = y.written := by
  unfold Frame.onSeal
  split
  case isTrue hy => simp [Frame.written, hy]
  case isFalse => rfl

theorem map_onSeal (l : List (Nat × Frame)) :
    l.map (fun e : Nat × Frame => if e.2.st = .dirty then (e.1, { e.2 with st := FState.locked }) else e) = l.map (fun e => (e.1, e.2.onSeal)) :=
  List.map_congr_left fun e _ => by
    unfold Frame.onSeal
    split <;> rfl

/-- The seal of a tile turns its Dirty frames into Locked ones and leaves those that are Writing-back. -/
theorem Tile.grounded_onSeal (x : Tile) :
    Tile.grounded { x with fs := { x.fs with frames := x.fs.frames.map fun e : Nat × Frame => (e.1, e.2.onSeal) } } = x.grounded := by
  have hw : (fun f => (agetD f { st := .invalid, seg := 0 } (x.fs.frames.map fun e : Nat × Frame => (e.1, e.2.onSeal))).written) = x.waits.writing :=
    funext fun f => by
      show _ = (agetD f { st := .invalid, seg := 0 } x.fs.frames).written
      simp only [agetD, aget_map_snd]
      cases aget f x.fs.frames with
      | none => rfl
      | some y => exact y.written_onSeal
  exact congrArg (fun w => (({ x.waits with writing := w }, x.xl.map, x.med), x.xl.blocks, x.xl.spare)) hw

theorem keeps_seal (s : State) (t : Nat) : Keeps Tile.grounded s (s.seal t) := by
  have hmd : Keeps Tile.grounded s (s.modMd (fun d => { d with sealed := setBit d.sealed t })) := ⟨rfl, rfl, rfl, rfl, id, fun _ => rfl⟩
  refine .ite _ (.refl s) (.trans ?_ (keeps_reevaluate _))
  simp only [map_onSeal]
  have hfs := ((hmd.trans (keeps_jappend _ t (r := .mark 3) (fun _ _ => JRec.noConfusion))).trans (keeps_event _ Gb.XL_SPARE_OUT t [t])).trans
    (keeps_modTile (t := t) Tile.grounded_onSeal)
  exact .ite _ (hfs.trans (keeps_setCause ..)) hfs

end Sys2Proof.Machine
end

section
/-! The ends of clears and of programs that are no commit's (06_medium.md R184, R195; 07_translation.md R220 to R225). -/

namespace Sys2Proof.Machine

open Sys2Proof

/-! ### The retired block -/

/-- A block is retired: its entry and SPARE, before anything is recorded. -/
def State.retireMark (s : State) (t b cause : Nat) (st : BlkSt) : State :=
  (s.modBlk t b (fun k => { k with st := st, cause := cause })).modXl t (fun x => { x with spare := x.spare - 1 })

theorem State.xl_modXl_self (s : State) {t : Nat} (h : t < 8) (f : Xlate → Xlate) : ((s.modXl t f).tile t).xl = f (s.tile t).xl := by
  rw [State.modXl, State.tile_modTile_self _ _ h]

theorem State.blk_modBlk_self (s : State) {t : Nat} (h : t < 8) (b : Nat) (f : Blk → Blk) : (s.modBlk t b f).blk t b = f (s.blk t b) := by
  have hx := s.xl_modXl_self h (fun x => { x with blocks := aputD (s.blkDefault b) b (f (s.blk t b)) x.blocks })
  rw [State.blk, State.blkDefault_congr (s := s) (t := s.modBlk t b f) rfl, State.modBlk, hx, agetD_aputD_self]

theorem State.blk_retireMark (s : State) {t : Nat} (h : t < 8) (b cause : Nat) (st : BlkSt) :
    (s.retireMark t b cause st).blk t b = { s.blk t b with st := st, cause := cause } := by
  rw [← s.blk_modBlk_self h b (fun k => { k with st := st, cause := cause })]
  exact State.blk_congr (s := s.modBlk t b fun k => { k with st := st, cause := cause }) (t := s.retireMark t b cause st) rfl
    (by rw [State.retireMark, State.xl_modXl_self _ h]) b

theorem State.spare_retireMark (s : State) {t : Nat} (h : t < 8) (b cause : Nat) (st : BlkSt) :
    ((s.retireMark t b cause st).tile t).xl.spare = (s.tile t).xl.spare - 1 := by
  unfold State.retireMark
  rw [State.xl_modXl_self _ h, State.modBlk, State.xl_modXl_self _ h]

theorem keeps_retireMark (s : State) (t b cause : Nat) (st : BlkSt) : Keeps Tile.standing s (s.retireMark t b cause st) :=
  Keeps.trans keeps_modTile keeps_modTile

/-- R225, R229, R231: beyond the block's entry and SPARE, a retirement leaves what may wait, the map, the medium and the block table. -/
theorem State.retire_of_live {s : State} {t b : Nat} (hst : (s.blk t b).st ≠ .retiring ∧ (s.blk t b).st ≠ .retired) (cause : Nat) (st : BlkSt)
    (note : Bool) : Keeps Tile.grounded (s.retireMark t b cause st) (s.retire t b cause st note) := by
  have hlive : ((s.blk t b).st == .retiring || (s.blk t b).st == .retired) = false := by simp [hst]
  unfold State.retire
  simp only [hlive, Bool.false_eq_true, if_false]
  have hrec : Keeps Tile.grounded (s.retireMark t b cause st)
      ((s.retireMark t b cause st).jappend t (.block 2 (s.blk t b).frontier b)) := keeps_jappend _ _ (by simp)
  have hlat := Keeps.ite (cause = 1 ∨ cause = 2 ∨ cause = 3) (hrec.trans (keeps_latchOnly _ (Reg.XL_ERR_STATUS t) 2))
    (Keeps.ite (cause = 4) (hrec.trans (keeps_latchOnly _ (Reg.XL_ERR_STATUS t) 3)) hrec)
  have hnote := Keeps.ite (note = true) ((hlat.trans (keeps_event _ Gb.XL_BLOCK_RETIRE t [t, b * 256, cause])).trans
    (keeps_setReg _ (Reg.XL_ERR_LOCATOR t) (BitVec.ofNat 32 (b * 256)))) hlat
  have hwarn := hnote.trans (keeps_spareWarn _ t)
  exact .ite _ (hwarn.trans (keeps_seal _ t)) hwarn

/-! ### The operation that ends -/

theorem State.opAt_spec {s : State} {t loc : Nat} {clear : Bool} {o : MedOp} (h : s.opAt t loc clear = some o) : o.loc = loc := by
  have hp := List.find?_some h
  simp only [Bool.and_eq_true, beq_iff_eq] at hp
  exact hp.1

theorem State.alive_congr {s t : State} (hp : t.pop = s.pop) (hf : t.md.failed = s.md.failed) (u : Nat) : t.alive u = s.alive u := by
  rw [State.alive, State.alive, hp, hf]

theorem keeps_dropOp (s : State) (t : Nat) (o : MedOp) : Keeps Tile.waits s (s.dropOp t o) := keeps_modTile

theorem locCh_lt (loc : Nat) : locCh loc < 8 := Nat.mod_lt _ (by decide)

theorem State.chan_modCh_self (s : State) {t c : Nat} (ht : t < 8) (hc : c < 8) (f : Channel → Channel) : (s.modCh t c f).chan t c = f (s.chan t c) := by
  rw [State.chan, State.modCh, State.modMed, State.tile_modTile_self _ _ ht, vget_vmod_self _ _ _ hc]
  rfl

theorem State.chan_dropOp (s : State) {t : Nat} (ht : t < 8) (o : MedOp) :
    (s.dropOp t o).chan t (locCh o.loc) = { s.chan t (locCh o.loc) with ops := (s.chan t (locCh o.loc)).ops.filter (· != o) } :=
  s.chan_modCh_self ht (locCh_lt _) _

theorem contains_filter_ne (o : MedOp) (l : List MedOp) : (l.filter (· != o)).contains o = false := by
  simp

theorem State.dropOp_xl (s : State) (t u : Nat) (o : MedOp) : ((s.dropOp t o).tile u).xl = (s.tile u).xl :=
  (keeps_modTile (g := Tile.xl) : Keeps _ s (s.dropOp t o)).tile u

theorem State.dropOp_pages (s : State) (t u : Nat) (o : MedOp) : ((s.dropOp t o).tile u).med.pages = (s.tile u).med.pages :=
  (keeps_modTile (g := fun x => x.med.pages) : Keeps _ s (s.dropOp t o)).tile u

theorem State.dropOp_blk (s : State) (t u b : Nat) (o : MedOp) : (s.dropOp t o).blk u b = s.blk u b :=
  State.blk_congr (s := s) (t := s.dropOp t o) rfl (by rw [State.dropOp_xl]) b

/-- With no commit and no metadata that waits, no program waits for a plane. -/
theorem State.Still.noneWait {s : State} {t : Nat} (h : s.Still) (ht : s.alive t = true) (hc : (s.tile t).xl.commits = []) :
    s.noneWait t = true := by
  have hm : (s.tile t).xl.metaWait = [] := (h.tile t (State.mem_aliveTiles.2 ht)).metaWait
  simp [State.noneWait, hm, hc]

/-- A command that leaves the content of every tile as state `x` has it completes with what `x` is known to have. -/
theorem completes_of_keeps {c : Instr} {s x : State} {P : State → Prop} {f : State → State} (h : exec c s = s.run f) (hpop : x.pop = s.pop)
    (hk : Keeps Tile.store x (f s)) (hP : ∀ t, Keeps Tile.store x t → P t) : Completes c s P :=
  ⟨_, h, hP _ ⟨hpop.symm, hk.jobs, hk.sec, hk.failed, hk.mode, hk.tile⟩⟩

theorem exec_programDone (tile loc : Nat) (ok : Bool) (s : State) :
    exec (.programDone tile loc ok) s = s.run (fun x => x.programDoneEff tile loc ok) := rfl

theorem exec_clearDone (tile loc : Nat) (ok : Bool) (s : State) :
    exec (.clearDone tile loc ok) s = s.run (fun x => x.clearDoneEff tile loc ok) := rfl

theorem exec_opActiveTimeout (tile loc : Nat) (clear : Bool) (s : State) :
    exec (.opActiveTimeout tile loc clear) s = s.run (fun x => x.opActiveTimeoutEff tile loc clear) := rfl

/-! ### Clears that fail, and calibration programs that time out -/

/-- The state of a failed operation once its block is retired: the operation is off its channel, and its failure is recorded. -/
def State.opFailed (s : State) (t : Nat) (o : MedOp) (bit code cause why : Nat) : State :=
  ((s.dropOp t o).latch (Reg.MED_CH_ERR_STATUS t + 0x10 * locCh o.loc) bit code t [t, o.loc, why]).retire t (locBlk o.loc) cause .retired true

section
variable {s : State} {tile : Nat} {o : MedOp}

theorem State.opFailed_retire (hb : (s.blk tile (locBlk o.loc)).st ≠ .retiring ∧ (s.blk tile (locBlk o.loc)).st ≠ .retired) (bit code cause why : Nat) :
    Keeps Tile.grounded (((s.dropOp tile o).latch (Reg.MED_CH_ERR_STATUS tile + 0x10 * locCh o.loc) bit code tile [tile, o.loc, why]).retireMark tile
      (locBlk o.loc) cause .retired) (s.opFailed tile o bit code cause why) := by
  refine State.retire_of_live ?_ cause .retired true
  rwa [(keeps_latch (g := Tile.store) ..).blk, State.dropOp_blk]

/-- A failed operation leaves the map and the medium, with the operation off its channel, and retires its block. -/
theorem State.opFailed_spec (h8 : tile < 8) (hb : (s.blk tile (locBlk o.loc)).st ≠ .retiring ∧ (s.blk tile (locBlk o.loc)).st ≠ .retired)
    (bit code cause why : Nat) :
    Keeps Tile.standing (s.dropOp tile o) (s.opFailed tile o bit code cause why) ∧
      (s.opFailed tile o bit code cause why).blk tile (locBlk o.loc) = { s.blk tile (locBlk o.loc) with st := .retired, cause := cause } ∧
      ((s.opFailed tile o bit code cause why).tile tile).xl.spare = (s.tile tile).xl.spare - 1 := by
  have hret := State.opFailed_retire hb bit code cause why
  set a := (s.dropOp tile o).latch (Reg.MED_CH_ERR_STATUS tile + 0x10 * locCh o.loc) bit code tile [tile, o.loc, why] with ha
  have hlatch : Keeps Tile.store (s.dropOp tile o) a := keeps_latch ..
  refine ⟨((keeps_latch ..).trans (keeps_retireMark ..)).trans hret.standing_of_grounded, ?_, ?_⟩
  · rw [hret.blk_of_grounded, State.blk_retireMark _ h8, hlatch.blk, State.dropOp_blk]
  · rw [hret.spare, State.spare_retireMark _ h8, hlatch.xl, State.dropOp_xl]

theorem State.opFailed_still (hn : s.noWork = true) (h8 : tile < 8)
    (hb : (s.blk tile (locBlk o.loc)).st ≠ .retiring ∧ (s.blk tile (locBlk o.loc)).st ≠ .retired) (bit code cause why : Nat) :
    (s.opFailed tile o bit code cause why).Still :=
  (State.still_of_noWork hn).keep ((keeps_dropOp ..).trans (State.opFailed_spec h8 hb bit code cause why).1.waits_of_standing)

end

end Sys2Proof.Machine
end

section
/-! The operations that end without success: clears that fail or time out, and calibration programs that time out (06_medium.md R184, R195;
07_translation.md R222, R225). -/

namespace Sys2Proof.Machine

open Sys2Proof

section
variable {s : State} {tile loc : Nat} {o : MedOp}

/-! ### What runs -/

theorem State.clearEnd_fail (cause : Nat) :
    s.clearEnd tile o false cause = (s.opFailed tile o 2 Gb.MED_CLEAR_FAIL 4 cause).planeFreed tile o.loc := rfl

theorem State.programEnd_calib_fail {rank : Nat} (hj : o.job = .calib rank) (cause : Nat) :
    s.programEnd tile o false cause = (s.opFailed tile o 1 Gb.MED_PROG_FAIL 2 cause).planeFreed tile o.loc := by
  simp only [State.programEnd, Bool.false_eq_true, if_false, State.programFailed, hj, State.opFailed]

theorem State.clearDoneEff_of_op (ho : s.opAt tile loc true = some o) (ht : s.alive tile = true) (ok : Bool) :
    s.clearDoneEff tile loc ok = (s.clearEnd tile o ok 0).settle := by
  simp only [State.clearDoneEff, ho, ht, if_true]

theorem State.programDoneEff_of_op (ho : s.opAt tile loc false = some o) (ht : s.alive tile = true) (ok : Bool) :
    s.programDoneEff tile loc ok = ((s.programEnd tile o ok 0).parityDone tile).settle := by
  simp only [State.programDoneEff, ho, ht, if_true]

theorem State.opActiveTimeoutEff_clear (ho : s.opAt tile loc true = some o) (ht : s.alive tile = true) (hr : o.susp = false) :
    s.opActiveTimeoutEff tile loc true = (s.clearEnd tile o false 1).settle := by
  simp [State.opActiveTimeoutEff, ho, ht, hr]

theorem State.opActiveTimeoutEff_program (ho : s.opAt tile loc false = some o) (ht : s.alive tile = true) (hr : o.susp = false) :
    s.opActiveTimeoutEff tile loc false = ((s.programEnd tile o false 1).parityDone tile).settle := by
  simp [State.opActiveTimeoutEff, ho, ht, hr]

/-- R188: an operation that is suspended runs no time. -/
theorem State.opActiveTimeoutEff_susp {clear : Bool} (ho : s.opAt tile loc clear = some o) (hr : o.susp = true) :
    s.opActiveTimeoutEff tile loc clear = s := by
  simp [State.opActiveTimeoutEff, ho, hr]

/-! ### What a failed operation leaves -/

/-- In state `t` the operation `o` of state `s` has failed: its block is retired for `cause`, and the map and the medium are as they were. -/
structure State.FailedOp (s t : State) (tile : Nat) (o : MedOp) (cause : Nat) : Prop where
  blk : t.blk tile (locBlk o.loc) = { s.blk tile (locBlk o.loc) with st := .retired, cause := cause }
  spare : (t.tile tile).xl.spare = (s.tile tile).xl.spare - 1
  pages : (t.tile tile).med.pages = (s.tile tile).med.pages
  map : (t.tile tile).xl.map = (s.tile tile).xl.map
  ops : (t.chan tile (locCh o.loc)).ops.contains o = false

variable {bit code cause why : Nat}

theorem State.FailedOp.of_keeps {t : State} (h8 : tile < 8)
    (hb : (s.blk tile (locBlk o.loc)).st ≠ .retiring ∧ (s.blk tile (locBlk o.loc)).st ≠ .retired)
    (k : Keeps Tile.store (s.opFailed tile o bit code cause why) t) : s.FailedOp t tile o cause := by
  obtain ⟨hstand, hblk, hspare⟩ := State.opFailed_spec h8 hb bit code cause why
  have hchan : (s.opFailed tile o bit code cause why).chan tile (locCh o.loc) = (s.dropOp tile o).chan tile (locCh o.loc) := by
    rw [State.chan, State.chan, hstand.med]
  refine ⟨?_, ?_, ?_, ?_, ?_⟩
  · rw [k.blk, hblk]
  · rw [k.xl, hspare]
  · rw [k.pages, hstand.med, State.dropOp_pages]
  · rw [k.xl, hstand.map_eq, State.dropOp_xl]
  · rw [k.ops, hchan, s.chan_dropOp h8, contains_filter_ne]

theorem State.opFailed_noneWait (hn : s.noWork = true) (ht : s.alive tile = true) (h8 : tile < 8)
    (hb : (s.blk tile (locBlk o.loc)).st ≠ .retiring ∧ (s.blk tile (locBlk o.loc)).st ≠ .retired) (hc : (s.tile tile).xl.commits = []) :
    (s.opFailed tile o bit code cause why).noneWait tile = true := by
  rw [((keeps_dropOp s tile o).trans (State.opFailed_spec h8 hb bit code cause why).1.waits_of_standing).noneWait]
  exact (State.still_of_noWork hn).noneWait ht hc

theorem State.opFailed_alive (ht : s.alive tile = true) (h8 : tile < 8)
    (hb : (s.blk tile (locBlk o.loc)).st ≠ .retiring ∧ (s.blk tile (locBlk o.loc)).st ≠ .retired) :
    (s.opFailed tile o bit code cause why).alive tile = true := by
  have k := (keeps_dropOp s tile o).trans (State.opFailed_spec h8 hb bit code cause why).1.waits_of_standing
  rw [State.alive_congr k.pop k.failed, ht]

theorem State.live_of_eq {b : Nat} {st : BlkSt} (h : (s.blk tile b).st = st) (h1 : st ≠ .retiring := by decide) (h2 : st ≠ .retired := by decide) :
    (s.blk tile b).st ≠ .retiring ∧ (s.blk tile b).st ≠ .retired :=
  ⟨h ▸ h1, h ▸ h2⟩

/-- R225: a clear that does not end well retires its block, and settling keeps the content of every tile. -/
theorem keeps_clearEnd_fail (ht : s.alive tile = true) (h8 : tile < 8) (hn : s.noWork = true) (hc : (s.tile tile).xl.commits = [])
    (hb : (s.blk tile (locBlk o.loc)).st = .pending) (why : Nat) :
    Keeps Tile.store (s.opFailed tile o 2 Gb.MED_CLEAR_FAIL 4 why) (s.clearEnd tile o false why).settle := by
  have hlive := State.live_of_eq hb
  rw [State.clearEnd_fail]
  exact State.freed_settle_keeps (State.opFailed_still hn h8 hlive ..) (State.opFailed_noneWait hn ht h8 hlive hc) o.loc

/-- R195, R225: the same of a calibration program. -/
theorem keeps_programEnd_calib_fail {rank : Nat} (ht : s.alive tile = true) (h8 : tile < 8) (hn : s.noWork = true)
    (hc : (s.tile tile).xl.commits = []) (hj : o.job = .calib rank) (hb : (s.blk tile (locBlk o.loc)).st = .ring) (why : Nat) :
    Keeps Tile.store (s.opFailed tile o 1 Gb.MED_PROG_FAIL 2 why) ((s.programEnd tile o false why).parityDone tile).settle := by
  have hlive := State.live_of_eq hb
  rw [State.programEnd_calib_fail hj]
  exact State.freed_parity_settle_keeps (State.opFailed_still hn h8 hlive ..) (State.opFailed_alive ht h8 hlive)
    (State.opFailed_noneWait hn ht h8 hlive hc) o.loc

/-- A command that ends as a failed operation does completes with what the failure leaves. -/
theorem completes_of_failed {i : Instr} {f : State → State} {P : State → Prop} (h : exec i s = s.run f) (h8 : tile < 8)
    (hb : (s.blk tile (locBlk o.loc)).st ≠ .retiring ∧ (s.blk tile (locBlk o.loc)).st ≠ .retired)
    (k : Keeps Tile.store (s.opFailed tile o bit code cause why) (f s)) (hP : ∀ t, s.FailedOp t tile o cause → P t) : Completes i s P :=
  completes_of_keeps h (State.opFailed_spec h8 hb bit code cause why).1.pop k fun t kt => hP t (.of_keeps h8 hb kt)

end

end Sys2Proof.Machine
end

section
/-! The operations that end well (06_medium.md R184, R195; 07_translation.md R218, R220, R222): a program puts its page on the medium, a clear takes
the pages of its block off it. -/

namespace Sys2Proof.Machine

open Sys2Proof

/-! ### Counting an event leaves the other registers -/

theorem State.getReg_cntAdd {r : Nat} (hr : r < Reg.PERF_OVF0) (k : Nat) (s : State) (t n d : Nat) :
    (State.cntAdd k s t n d).getReg r = s.getReg r := by
  induction k generalizing s n d with
  | zero => rfl
  | succ k ih =>
    have hovf (a : State) : (a.perfOvf t n).getReg r = a.getReg r := by
      refine State.getReg_setFld_ne ?_ a ..
      simp only [Reg.PERF_OVF0, Reg.PERF_OVF1] at hr ⊢
      split <;> omega
    have hset (v : Nat) : (s.setCnt t n v).getReg r = s.getReg r := rfl
    unfold State.cntAdd
    dsimp only
    split
    · exact hset _
    · split
      · rw [ih, hovf, hset]
      · rw [hovf, hset]

theorem State.getReg_perfEvent {r : Nat} (hr : r < Reg.PERF_OVF0) (s : State) (t no q d : Nat) :
    (s.perfEvent t no q d).getReg r = s.getReg r := by
  have hfold (f : State → Nat → State) (hf : ∀ a n, (f a n).getReg r = a.getReg r) (l : List Nat) (a : State) :
      (l.foldl f a).getReg r = a.getReg r := by
    induction l generalizing a with
    | nil => rfl
    | cons n l ih => rw [List.foldl_cons, ih, hf]
  unfold State.perfEvent
  split
  · rfl
  · refine hfold _ (fun a n => (apply_ite (State.getReg · r) _ _ _).trans ?_) _ _
    rw [State.getReg_cntAdd hr, ite_self]

/-! ### The medium after a program and after a clear -/

theorem aget_filter {α : Type} (p : Nat → Bool) (k : Nat) (l : List (Nat × α)) :
    aget k (l.filter fun e => p e.1) = if p k then aget k l else none := by
  induction l with
  | nil => simp [aget]
  | cons e l ih =>
    obtain ⟨j, v⟩ := e
    by_cases hk : j = k
    · subst hk
      by_cases hp : p j <;> simp_all [aget]
    · by_cases hp : p j <;> simp [aget, hk, hp, ih]

theorem aget_adelWhere {α : Type} (p : Nat → Bool) (k : Nat) (l : List (Nat × α)) : aget k (adelWhere p l) = if p k then none else aget k l := by
  rw [adelWhere, aget_filter (fun j => !p j)]
  by_cases hp : p k <;> simp [hp]

/-- The content of a tile without the pages on its medium. -/
def Tile.unpaged (x : Tile) : TileStore := { x.store with pages := [] }

theorem Keeps.unpaged_of_store {s t : State} (h : Keeps Tile.store s t) : Keeps Tile.unpaged s t := h.map fun x => { x with pages := [] }

theorem Keeps.waits_of_unpaged {s t : State} (h : Keeps Tile.unpaged s t) : Keeps Tile.waits s t := h.map TileStore.waits

theorem Keeps.xl_of_unpaged {s t : State} (h : Keeps Tile.unpaged s t) (u : Nat) : (t.tile u).xl = (s.tile u).xl := congrArg TileStore.xl (h.tile u)

theorem Keeps.fs_of_unpaged {s t : State} (h : Keeps Tile.unpaged s t) (u : Nat) : (t.tile u).fs = (s.tile u).fs := congrArg TileStore.fs (h.tile u)

theorem Keeps.chan_of_unpaged {s t : State} (h : Keeps Tile.unpaged s t) (u c : Nat) : (t.chan u c).kept = (s.chan u c).kept :=
  congrArg (fun x => TileStore.chans x c) (h.tile u)

theorem keeps_modPages (s : State) (t : Nat) (f : List (Nat × Page) → List (Nat × Page)) :
    Keeps Tile.unpaged s (s.modMed t fun m => { m with pages := f m.pages }) := keeps_modTile

theorem State.pages_modPages (s : State) {t : Nat} (h : t < 8) (f : List (Nat × Page) → List (Nat × Page)) :
    ((s.modMed t fun m => { m with pages := f m.pages }).tile t).med.pages = f (s.tile t).med.pages := by
  rw [State.modMed, State.tile_modTile_self _ _ h]

/-- A program has ended well: its operation is off its channel, the program is counted, and its page is on the medium. -/
def State.programmed (s : State) (t : Nat) (o : MedOp) (pg : Page) : State :=
  ((s.dropOp t o).perfEvent t 0x31 (2 ^ locCh o.loc) 1).modMed t (fun m => { m with pages := aput o.loc pg m.pages })

/-- A clear has ended well: its operation is off its channel, the pages of its block are off the medium, and the clear is counted. -/
def State.cleared (s : State) (t : Nat) (o : MedOp) : State :=
  ((s.dropOp t o).modMed t (fun m => { m with pages := adelWhere (fun k => decide (locBlk k = locBlk o.loc)) m.pages })).perfEvent t 0x32
    (2 ^ locCh o.loc) 1

section
variable {s : State} {tile loc : Nat} {o : MedOp} {pg : Page}

theorem keeps_programmed : Keeps Tile.unpaged (s.dropOp tile o) (s.programmed tile o pg) :=
  (keeps_perfEvent ..).unpaged_of_store.trans (keeps_modPages ..)

theorem keeps_cleared : Keeps Tile.unpaged (s.dropOp tile o) (s.cleared tile o) :=
  (keeps_modPages ..).trans (keeps_perfEvent ..).unpaged_of_store

theorem State.pages_programmed (h8 : tile < 8) : ((s.programmed tile o pg).tile tile).med.pages = aput o.loc pg (s.tile tile).med.pages := by
  rw [State.programmed, State.pages_modPages _ h8 (aput o.loc pg), (keeps_perfEvent ..).pages, State.dropOp_pages]

theorem State.pages_cleared (h8 : tile < 8) :
    ((s.cleared tile o).tile tile).med.pages = adelWhere (fun k => decide (locBlk k = locBlk o.loc)) (s.tile tile).med.pages := by
  rw [State.cleared, (keeps_perfEvent ..).pages, State.pages_modPages _ h8 (adelWhere _), State.dropOp_pages]

theorem State.xl_programmed (u : Nat) : ((s.programmed tile o pg).tile u).xl = (s.tile u).xl := by
  rw [keeps_programmed.xl_of_unpaged, State.dropOp_xl]

theorem State.xl_cleared (u : Nat) : ((s.cleared tile o).tile u).xl = (s.tile u).xl := by
  rw [keeps_cleared.xl_of_unpaged, State.dropOp_xl]

theorem State.fld_cleared {r : Nat} (hr : r < Reg.PERF_OVF0) (hi lo : Nat) : (s.cleared tile o).fld r hi lo = s.fld r hi lo := by
  rw [State.fld, State.fld, State.cleared, State.getReg_perfEvent hr]
  rfl

theorem State.blk_cleared (u b : Nat) : (s.cleared tile o).blk u b = s.blk u b :=
  State.blk_congr (s := s) (t := s.cleared tile o) keeps_cleared.pop (by rw [State.xl_cleared]) b

theorem keeps_waits_programmed : Keeps Tile.waits s (s.programmed tile o pg) := (keeps_dropOp ..).trans keeps_programmed.waits_of_unpaged

theorem keeps_waits_cleared : Keeps Tile.waits s (s.cleared tile o) := (keeps_dropOp ..).trans keeps_cleared.waits_of_unpaged

/-- The operation that ended is off its channel, whose calibration blocks stay as they are. -/
theorem State.chan_of_dropOp {t : State} (h8 : tile < 8) (k : Keeps Tile.unpaged (s.dropOp tile o) t) :
    (t.chan tile (locCh o.loc)).ops.contains o = false ∧ (t.chan tile (locCh o.loc)).calUsed = (s.chan tile (locCh o.loc)).calUsed := by
  have hk := k.chan_of_unpaged tile (locCh o.loc)
  rw [s.chan_dropOp h8] at hk
  have hops : (t.chan tile (locCh o.loc)).ops = (s.chan tile (locCh o.loc)).ops.filter (· != o) := congrArg Prod.fst hk
  exact ⟨by rw [hops, contains_filter_ne], congrArg (fun x => x.2.1) hk⟩

/-! ### A calibration program that ends well -/

theorem State.programEnd_calib {rank : Nat} (hj : o.job = .calib rank) (hp : o.page = some pg) (cause : Nat) :
    s.programEnd tile o true cause = (s.programmed tile o pg).planeFreed tile o.loc := by
  simp only [State.programEnd, if_true, State.programOk, hj, hp, Option.getD_some, State.programmed]

/-- R195: a calibration program puts its page on the medium and is off its channel; nothing else of the content of a tile changes. -/
theorem keeps_programEnd_calib {rank : Nat} (ht : s.alive tile = true) (hn : s.noWork = true) (hc : (s.tile tile).xl.commits = [])
    (hj : o.job = .calib rank) (hp : o.page = some pg) (cause : Nat) :
    Keeps Tile.store (s.programmed tile o pg) ((s.programEnd tile o true cause).parityDone tile).settle := by
  have hstill := State.still_of_noWork hn
  have hk : Keeps Tile.waits s (s.programmed tile o pg) := keeps_waits_programmed
  rw [State.programEnd_calib hj hp]
  refine State.freed_parity_settle_keeps (hstill.keep hk) ?_ ?_ o.loc
  · rw [State.alive_congr hk.pop hk.failed, ht]
  · rw [hk.noneWait, hstill.noneWait ht hc]

/-! ### A clear that ends well -/

/-- R222: what the block table makes of a block whose clear ended well, below the wear limit: a ring block is used anew, another block is free or
reserved again. -/
def State.recycle (s : State) (t b : Nat) : State :=
  if (s.blk t b).st == .ring then s.modBlk t b (fun k => { k with clears := (s.blk t b).clears + 1, used := 0 })
  else
    (s.modBlk t b (fun k =>
      { st := if s.freeOn t (blkPlane b) < s.reservePer && decide (s.countSt t (blkPlane b) .reserve < s.reservePer) then .reserve else .free,
        clears := (s.blk t b).clears + 1, frontier := k.frontier })).jappend t (.block 3 0 b)

theorem keeps_modBlk (s : State) (t b : Nat) (f : Blk → Blk) : Keeps Tile.standing s (s.modBlk t b f) := keeps_modTile

theorem keeps_recycle (t b : Nat) : Keeps Tile.standing s (s.recycle t b) :=
  .ite _ (keeps_modBlk ..) ((keeps_modBlk ..).trans (keeps_jappend _ t (r := .block 3 0 b) (by simp)).standing_of_grounded)

theorem State.clears_recycle (h8 : tile < 8) (b : Nat) : ((s.recycle tile b).blk tile b).clears = (s.blk tile b).clears + 1 := by
  unfold State.recycle
  split
  · rw [State.blk_modBlk_self _ h8]
  · rw [(keeps_jappend _ tile (r := .block 3 0 b) (by simp)).blk_of_grounded, State.blk_modBlk_self _ h8]

/-- R221: the judgement of the spread changes the record of it alone. -/
theorem keeps_judgeSpread (t : Nat) : Keeps Tile.grounded s (s.judgeSpread t) :=
  .ite _ (.trans keeps_modTile (keeps_latch ..)) (.ite _ keeps_modTile (.refl s))

theorem State.clearEnd_below_limit (hw : (s.blk tile (locBlk o.loc)).clears + 1 < s.fld Reg.XL_WEAR_LIMITS 15 0 * 10000) (cause : Nat) :
    s.clearEnd tile o true cause = (((s.cleared tile o).recycle tile (locBlk o.loc)).judgeSpread tile).planeFreed tile o.loc := by
  have hlim : ¬ (s.cleared tile o).fld Reg.XL_WEAR_LIMITS 15 0 * 10000 ≤ ((s.cleared tile o).blk tile (locBlk o.loc)).clears + 1 := by
    rw [State.fld_cleared (by decide), State.blk_cleared]
    exact Nat.not_le.2 hw
  exact congrArg (fun x : State => (x.judgeSpread tile).planeFreed tile o.loc) (if_neg hlim)

/-- What stands once a clear below the wear limit ended well. -/
theorem State.clearEnd_spec (ht : s.alive tile = true) (hn : s.noWork = true) (hc : (s.tile tile).xl.commits = [])
    (hw : (s.blk tile (locBlk o.loc)).clears + 1 < s.fld Reg.XL_WEAR_LIMITS 15 0 * 10000) (cause : Nat) :
    Keeps Tile.standing (s.cleared tile o) (((s.cleared tile o).recycle tile (locBlk o.loc)).judgeSpread tile) ∧
    Keeps Tile.store (((s.cleared tile o).recycle tile (locBlk o.loc)).judgeSpread tile) (s.clearEnd tile o true cause).settle := by
  have hstand : Keeps Tile.standing (s.cleared tile o) (((s.cleared tile o).recycle tile (locBlk o.loc)).judgeSpread tile) :=
    (keeps_recycle ..).trans (keeps_judgeSpread ..).standing_of_grounded
  have hk := keeps_waits_cleared.trans hstand.waits_of_standing
  have hstill := State.still_of_noWork hn
  rw [State.clearEnd_below_limit hw]
  refine ⟨hstand, State.freed_settle_keeps (hstill.keep hk) ?_ o.loc⟩
  rw [hk.noneWait, hstill.noneWait ht hc]

end

end Sys2Proof.Machine
end

section
/-! The end of a host commit whose program passed (01_architecture.md R24; 06_medium.md R184; 07_translation.md R218): where the stripe has no Cupola
parity and no Caravan, its record goes to the journal and the map names its page. -/

namespace Sys2Proof.Machine

open Sys2Proof

/-! ### What a commit writes -/

/-- What a commit leaves of a tile: what may wait beside its commits, the Front Store, and the medium. -/
def Tile.uncommitted (x : Tile) : TileWaits × FrontStore × Media := ({ x.waits with commits := [] }, x.fs, x.med)

/-- What a commit writes of a tile: the map, the journal in staging, and the commits themselves. -/
def Tile.books (x : Tile) : List (Nat × MapEnt) × List JRec × List Commit := (x.xl.map, x.xl.jtail, x.xl.commits)

/-- Of tile `t` the books change by `φ`; of every other tile they stay, and of all tiles what a commit leaves stays. -/
structure Books (t : Nat) (φ : List (Nat × MapEnt) × List JRec × List Commit → List (Nat × MapEnt) × List JRec × List Commit) (s s' : State) : Prop where
  keeps : Keeps Tile.uncommitted s s'
  own : (s'.tile t).books = φ (s.tile t).books
  others : ∀ u, u ≠ t → (s'.tile u).books = (s.tile u).books

section
variable {t : Nat} {φ ψ : List (Nat × MapEnt) × List JRec × List Commit → List (Nat × MapEnt) × List JRec × List Commit} {a b c : State}

theorem Books.trans (h : Books t φ a b) (k : Books t ψ b c) : Books t (fun x => ψ (φ x)) a c :=
  ⟨h.keeps.trans k.keeps, by rw [k.own, h.own], fun u hu => (k.others u hu).trans (h.others u hu)⟩

/-- What keeps the books keeps them after any change. -/
theorem Books.keep (h : Books t φ a b) (k : Keeps (fun x => (x.uncommitted, x.books)) b c) : Books t φ a c :=
  have hb (u : Nat) : (c.tile u).books = (b.tile u).books := congrArg Prod.snd (k.tile u)
  ⟨h.keeps.trans (k.map Prod.fst), by rw [hb, h.own], fun u hu => by rw [hb, h.others u hu]⟩

theorem Keeps.books (k : Keeps (fun x => (x.uncommitted, x.books)) a b) : Books t id a b :=
  Books.keep ⟨.refl a, rfl, fun _ _ => rfl⟩ k

theorem books_modXl (h8 : t < 8) (s : State) {f : Xlate → Xlate}
    (hu : ∀ x : Tile, Tile.uncommitted { x with xl := f x.xl } = x.uncommitted := by intro; rfl)
    (hb : ∀ x : Tile, Tile.books { x with xl := f x.xl } = φ x.books := by intro; rfl) : Books t φ s (s.modXl t f) := by
  refine ⟨keeps_modTile hu, ?_, fun u hut => ?_⟩
  · rw [State.modXl, State.tile_modTile_self _ _ h8, hb]
  · rw [State.modXl, State.tile_modTile_ne hut]

/-- Beside its commits, what may wait of a tile is as what a commit leaves has it. -/
theorem Tile.waits_of_uncommitted {x y : Tile} (h : x.uncommitted = y.uncommitted) : x.waits = { y.waits with commits := x.xl.commits } :=
  congrArg (fun v : TileWaits × FrontStore × Media => { v.1 with commits := x.xl.commits }) h

/-! ### The steps of a commit -/

/-- R243: the line that a rebuild has not come to yet is fetched. -/
theorem keeps_fetchLine (s : State) (t l : Nat) : Keeps (fun x => (x.uncommitted, x.books)) s (s.fetchLine t l) := by
  unfold State.fetchLine
  dsimp only
  split
  · exact .ite _ keeps_modTile (.refl s)
  · exact .refl s

theorem keeps_invalidate (s : State) (t loc : Nat) : Keeps (fun x => (x.uncommitted, x.books)) s (s.invalidate t loc) := by
  have hmod (a : State) (k : Nat) (f : Blk → Blk) : Keeps (fun x => (x.uncommitted, x.books)) a (a.modBlk t k f) := keeps_modTile
  unfold State.invalidate
  dsimp only
  split
  · split
    · exact (hmod ..).trans (hmod ..)
    · exact (hmod ..).trans (hmod ..)
    · exact hmod ..
  · exact hmod ..

theorem keeps_mapLineBad (s : State) (t l : Nat) : Keeps (fun x => (x.uncommitted, x.books)) s (s.mapLineBad t l) := by
  have hbad : Keeps (fun x => (x.uncommitted, x.books)) s
      (((s.latch (Reg.XL_ERR_STATUS t) 1 Gb.XL_MAP_UNCORR t [t, l / 16]).modXl t (fun x => { x with mapFlips := adel (l / 16) x.mapFlips })).setCause 5 true) :=
    ((keeps_latch ..).trans keeps_modTile).trans (keeps_setCause ..)
  exact .ite _ hbad (hbad.trans (keeps_setCause ..))

theorem books_jappend_commit (h8 : t < 8) (s : State) (seg : Nat) (e : MapEnt) :
    Books t (fun x => (x.1, x.2.1 ++ [.commit seg e], x.2.2)) s (s.jappend t (.commit seg e)) :=
  show Books t _ s (s.modXl t fun x => { x with jpos := x.jpos + 1, jtail := x.jtail ++ [.commit seg e] }) from books_modXl h8 s

theorem books_setMap (h8 : t < 8) (s : State) (l : Nat) (e : MapEnt) : Books t (fun x => (aputD {} l e x.1, x.2)) s (s.setMap t l e) :=
  have hstored (a : State) : Books t (fun x => (aputD {} l e x.1, x.2)) a
      (a.modXl t fun x => { x with map := aputD {} l e x.map, stcFlips := adel l x.stcFlips, mapFlips := adel (l / 16) x.mapFlips }) :=
    books_modXl h8 a
  (Keeps.ite _ (keeps_mapLineBad s t l) (.refl s)).books.trans (hstored _)

theorem books_replaceEntry (h8 : t < 8) (s : State) (l : Nat) (e : MapEnt) : Books t (fun x => (aputD {} l e x.1, x.2)) s (s.replaceEntry t l e) :=
  (books_setMap h8 s l e).keep (.ite _ (keeps_invalidate ..) (.refl _))

theorem books_modCommit (h8 : t < 8) (s : State) (seg : Nat) (f : Commit → Commit) :
    Books t (fun x => (x.1, x.2.1, x.2.2.map fun c => if c.seg = seg then f c else c)) s (s.modCommit t seg f) := books_modXl h8 s

/-- R24, R218: step 4 of a host commit with room in the journal appends its record, puts its entry into the map, and reaches step 5. -/
theorem books_commitJournal {s : State} {seg f loc : Nat} {c : Commit} (h8 : t < 8) (hc : s.commitOf t seg = some c) (hj : c.job = .host f)
    (hl : c.loc = some loc) (hp : c.poison = false) (hr : s.jroom t = true) :
    Books t (fun x => (aputD {} seg { st := .mapped, loc := loc } x.1, x.2.1 ++ [.commit seg { st := .mapped, loc := loc }],
      x.2.2.map fun c => if c.seg = seg then { c with step := .done } else c)) s (s.commitJournal t seg) := by
  have heff : s.commitJournal t seg =
      (((((s.fetchLine t seg).jappend t (.commit seg { st := .mapped, loc := loc })).replaceEntry t seg { st := .mapped, loc := loc }).modCommit t seg
        (fun d => { d with step := .done })).judgeLost).modXl t (fun x => { x with hostSegs := x.hostSegs + 1 }) := by
    simp only [State.commitJournal, hc, hr, if_true, hj, hl, hp, Bool.false_eq_true, if_false]
  rw [heff]
  have hbook := (((keeps_fetchLine s t seg).books.trans (books_jappend_commit h8 _ seg { st := .mapped, loc := loc })).trans
    (books_replaceEntry h8 _ seg { st := .mapped, loc := loc })).trans (books_modCommit h8 _ seg fun d => { d with step := .done })
  exact (hbook.keep (keeps_setCause ..)).keep keeps_modTile

end

/-! ### A commit with no Cupola parity and no Caravan -/

section
variable {s : State} {tile seg f : Nat} {c : Commit}

/-- R270, R292: with no stripe and no Caravan row, no delta is sent, and the commit goes on to its record. -/
theorem State.commitDelta_alone (h8 : tile < 8) (hc : (s.tile tile).xl.commits = [c]) (hj : c.job = .host f)
    (hs : s.stripeOf tile c.seg = none) (hr : s.carDataRow (s.segOf tile c.seg) = none) (delta : List (Nat × Line)) :
    s.commitDelta tile c.seg delta = (s.modCommit tile c.seg fun d => { d with delta := delta }).commitJournal tile c.seg := by
  have hof : s.commitOf tile c.seg = some c := by simp [State.commitOf, hc]
  set x := s.modCommit tile c.seg fun d => { d with delta := delta } with hx
  have hof1 : x.commitOf tile c.seg = some { c with delta := delta } := by
    simp [State.commitOf, hx, State.modCommit, State.xl_modXl_self _ h8, hc]
  have hs1 : x.stripeOf tile c.seg = none := hs
  have hr1 : x.carDataRow (x.segOf tile c.seg) = none := hr
  have hcup : x.sendCupola tile c.seg c.page.jpos false delta = (x, false) := by simp only [State.sendCupola, hs1]
  have hcar : x.sendCaravan tile c.seg c.page.jpos false delta [] = (x, []) := by simp only [State.sendCaravan, hr1]
  simp only [State.commitDelta, hof, hj, ← hx, hcup, Bool.false_eq_true, if_false, State.commitCaravan, hof1, hcar, List.isEmpty_nil, if_true]

theorem State.commitCupola_alone (h8 : tile < 8) (hc : (s.tile tile).xl.commits = [c]) (hj : c.job = .host f)
    (hs : s.stripeOf tile c.seg = none) (hr : s.carDataRow (s.segOf tile c.seg) = none) :
    s.commitCupola tile c.seg =
      (s.modCommit tile c.seg fun d => { d with delta := s.deltaOf tile c.seg c.page.lines }).commitJournal tile c.seg := by
  have hof : s.commitOf tile c.seg = some c := by simp [State.commitOf, hc]
  rw [← State.commitDelta_alone h8 hc hj hs hr]
  simp only [State.commitCupola, hof, hr]
  split
  · next hrow => cases hrow
  · rfl

/-- R234: the room of the journal depends on the build, the mode, the parameters and Translation without its commits. -/
theorem State.jroom_congr {x : State} {cs : List Commit} (hpop : x.pop = s.pop) (hps : x.ps = s.ps) (hmd : x.md = s.md)
    (hxl : (x.tile tile).xl = { (s.tile tile).xl with commits := cs }) : x.jroom tile = s.jroom tile := by
  simp only [State.jroom, State.jfill, State.jfloor, State.ckptFloor, State.ckptIdx, State.mapIdx, State.segs, hpop, hps, hmd, hxl] <;> rfl

/-- R24: with room in the journal the commit's record is appended and the map names its page. -/
theorem books_commitCupola {loc : Nat} (h8 : tile < 8) (hc : (s.tile tile).xl.commits = [c]) (hj : c.job = .host f) (hl : c.loc = some loc)
    (hp : c.poison = false) (hs : s.stripeOf tile c.seg = none) (hr : s.carDataRow (s.segOf tile c.seg) = none) (hroom : s.jroom tile = true) :
    ∃ delta, Books tile (fun x => (aputD {} c.seg { st := .mapped, loc := loc } x.1, x.2.1 ++ [.commit c.seg { st := .mapped, loc := loc }],
      [{ c with delta := delta, step := .done }])) s (s.commitCupola tile c.seg) := by
  refine ⟨s.deltaOf tile c.seg c.page.lines, ?_⟩
  rw [State.commitCupola_alone h8 hc hj hs hr]
  set x := s.modCommit tile c.seg fun d => { d with delta := s.deltaOf tile c.seg c.page.lines } with hx
  have hdelta := books_modCommit h8 s c.seg fun d => { d with delta := s.deltaOf tile c.seg c.page.lines }
  have hxl : (x.tile tile).xl = { (s.tile tile).xl with commits := [{ c with delta := s.deltaOf tile c.seg c.page.lines }] } := by
    rw [hx, State.modCommit, State.xl_modXl_self _ h8, hc]
    simp
  have hof : x.commitOf tile c.seg = some { c with delta := s.deltaOf tile c.seg c.page.lines } := by simp [State.commitOf, hxl]
  have hroom' : x.jroom tile = true := by rw [State.jroom_congr (s := s) (x := x) rfl rfl rfl hxl, hroom]
  have hend := hdelta.trans (books_commitJournal h8 hof hj hl hp hroom')
  refine ⟨hend.keeps, ?_, hend.others⟩
  rw [hend.own]
  simp [Tile.books, hc]

end

/-! ### The program of a host commit -/

section
variable {s : State} {tile loc f : Nat} {o : MedOp} {pg : Page} {c : Commit}

theorem State.programmed_frame : ∃ r fr ts, s.programmed tile o pg = { s with reg := r, free := fr, tiles := ts } := by
  have h := (countersOnly_perfEvent (s.dropOp tile o) tile 0x31 (2 ^ locCh o.loc) 1).frame
  rw [State.programmed, h]
  exact ⟨_, _, _, rfl⟩

theorem State.programEnd_host (hj : o.job = .host f) (hp : o.page = some pg) (hc : (s.tile tile).xl.commits = [c]) (hl : c.loc = some o.loc)
    (cause : Nat) : s.programEnd tile o true cause = ((s.programmed tile o pg).commitCupola tile c.seg).planeFreed tile o.loc := by
  have hfind : ((s.programmed tile o pg).tile tile).xl.commits.find? (fun d => d.loc == some o.loc) = some c := by
    rw [State.xl_programmed, hc]
    simp [hl]
  simp only [State.programmed] at hfind
  simp only [State.programEnd, if_true, State.programOk, hj, hp, Option.getD_some, hfind, State.programmed]

theorem State.stripeOf_programmed (l : Nat) : (s.programmed tile o pg).stripeOf tile l = s.stripeOf tile l := by
  obtain ⟨r, fr, ts, hframe⟩ := State.programmed_frame (s := s) (tile := tile) (o := o) (pg := pg)
  rw [hframe]
  rfl

theorem State.carDataRow_programmed (l : Nat) :
    (s.programmed tile o pg).carDataRow ((s.programmed tile o pg).segOf tile l) = s.carDataRow (s.segOf tile l) := by
  obtain ⟨r, fr, ts, hframe⟩ := State.programmed_frame (s := s) (tile := tile) (o := o) (pg := pg)
  rw [hframe]
  rfl

theorem State.jroom_programmed : (s.programmed tile o pg).jroom tile = s.jroom tile := by
  have hxl : ((s.programmed tile o pg).tile tile).xl = (s.tile tile).xl := State.xl_programmed tile
  obtain ⟨r, fr, ts, hframe⟩ := State.programmed_frame (s := s) (tile := tile) (o := o) (pg := pg)
  exact State.jroom_congr (cs := (s.tile tile).xl.commits) (by rw [hframe]) (by rw [hframe]) (by rw [hframe]) hxl

/-- A tile whose one commit is at step 5, of a frame that is Writing-back, waits for nothing where nothing waited before. -/
theorem Books.still {t : State} {φ : List (Nat × MapEnt) × List JRec × List Commit → List (Nat × MapEnt) × List JRec × List Commit}
    (h : s.Still) (ht : s.alive tile = true) (k : Books tile φ s t) (hc : (t.tile tile).xl.commits = [c]) (hj : c.job = .host f)
    (hw : (s.tile tile).waits.writing f = some c.seg) : t.Still := by
  refine h.of_others (tile := tile) (k.keeps.map fun _ => ()) (fun u hu => ?_) ?_
  · have hcu : (t.tile u).xl.commits = (s.tile u).xl.commits := congrArg (fun v => v.2.2) (k.others u hu)
    rw [Tile.waits_of_uncommitted (k.keeps.tile u), hcu]
    rfl
  · obtain ⟨hmeta, hpoison, hwith, hhaz, -⟩ := h.tile tile (State.mem_aliveTiles.2 ht)
    rw [Tile.waits_of_uncommitted (k.keeps.tile tile), hc]
    refine ⟨hmeta, hpoison, hwith, hhaz, fun d hd _ => ⟨f, ?_⟩⟩
    obtain rfl := List.mem_singleton.1 hd
    exact ⟨hj, hw⟩

/-- The end of a host commit's program changes the books of its tile, and nothing of any tile waits after it. -/
theorem programEnd_host_spec (ht : s.alive tile = true) (h8 : tile < 8) (hn : s.noWork = true) (hj : o.job = .host f) (hp : o.page = some pg)
    (hc : (s.tile tile).xl.commits = [c]) (hl : c.loc = some o.loc) (hcj : c.job = .host f) (hcp : c.poison = false)
    (hst : (s.frame tile f).st = .writing) (hseg : (s.frame tile f).seg = c.seg) (hs : s.stripeOf tile c.seg = none)
    (hr : s.carDataRow (s.segOf tile c.seg) = none) (hroom : s.jroom tile = true) (cause : Nat) :
    ∃ delta x, Books tile (fun v => (aputD {} c.seg { st := .mapped, loc := o.loc } v.1, v.2.1 ++ [.commit c.seg { st := .mapped, loc := o.loc }],
        [{ c with delta := delta, step := .done }])) (s.programmed tile o pg) x ∧
      Keeps Tile.store x ((s.programEnd tile o true cause).parityDone tile).settle := by
  have hc' : ((s.programmed tile o pg).tile tile).xl.commits = [c] := by rw [State.xl_programmed, hc]
  obtain ⟨delta, hbooks⟩ := books_commitCupola h8 hc' hcj hl hcp ((State.stripeOf_programmed _).trans hs)
    ((State.carDataRow_programmed _).trans hr) (State.jroom_programmed.trans hroom)
  refine ⟨delta, _, hbooks, ?_⟩
  rw [State.programEnd_host hj hp hc hl]
  have hw : Keeps Tile.waits s (s.programmed tile o pg) := keeps_waits_programmed
  have halive : (s.programmed tile o pg).alive tile = true := by rw [State.alive_congr hw.pop hw.failed, ht]
  have hdone : (((s.programmed tile o pg).commitCupola tile c.seg).tile tile).xl.commits = [{ c with delta := delta, step := .done }] :=
    congrArg (fun v => v.2.2) hbooks.own
  have hwriting : ((s.programmed tile o pg).tile tile).waits.writing f = some c.seg := by
    rw [congrArg TileWaits.writing (hw.tile tile), ← hseg]
    exact if_pos hst
  have hstill := Books.still ((State.still_of_noWork hn).keep hw) halive hbooks hdone hcj hwriting
  have halive' : ((s.programmed tile o pg).commitCupola tile c.seg).alive tile = true := by
    rw [State.alive_congr hbooks.keeps.pop hbooks.keeps.failed, halive]
  have hmeta : (((s.programmed tile o pg).commitCupola tile c.seg).tile tile).xl.metaWait = [] :=
    (hstill.tile tile (State.mem_aliveTiles.2 halive')).metaWait
  exact State.freed_parity_settle_keeps hstill halive' (by simp [State.noneWait, hmeta, hdone]) o.loc

end

end Sys2Proof.Machine
end

section
/-! The ends of programs and clears: the obligation O37. -/

namespace Sys2Proof.Machine

open Sys2Proof

section
variable {s : State} {tile : Nat} {o : MedOp}

/-- R24, R218: a host commit's program that passed. -/
theorem completes_hostProgram {f k : Nat} {pg : Page} {c : Commit} (ht : s.alive tile = true) (h8 : tile < 8) (hn : s.noWork = true)
    (ho : s.opAt tile o.loc false = some o) (hj : o.job = .host f) (hp : o.page = some pg) (hc : (s.tile tile).xl.commits = [c])
    (hl : c.loc = some o.loc) (hcj : c.job = .host f) (hcp : c.poison = false) (hst : (s.frame tile f).st = .writing)
    (hseg : (s.frame tile f).seg = c.seg) (hs : s.stripeOf tile c.seg = none) (hr : s.carDataRow (s.segOf tile c.seg) = none)
    (hroom : s.jroom tile = true) (hk : k ≠ o.loc) :
    Completes (.programDone tile o.loc true) s (fun t => aget o.loc (t.tile tile).med.pages = some pg ∧
      aget k (t.tile tile).med.pages = aget k (s.tile tile).med.pages ∧
      agetD c.seg {} (t.tile tile).xl.map = { st := .mapped, loc := o.loc } ∧ (t.commitOf tile c.seg).map (·.step) = some .done ∧
      (t.tile tile).fs.frames = (s.tile tile).fs.frames ∧
      (t.tile tile).xl.jtail = (s.tile tile).xl.jtail ++ [.commit c.seg { st := .mapped, loc := o.loc }]) := by
  obtain ⟨delta, x, hbooks, hkeep⟩ := programEnd_host_spec ht h8 hn hj hp hc hl hcj hcp hst hseg hs hr hroom 0
  have hprog : Keeps Tile.unpaged (s.dropOp tile o) (s.programmed tile o pg) := keeps_programmed
  rw [← State.programDoneEff_of_op ho ht true] at hkeep
  refine completes_of_keeps (exec_programDone ..) (hbooks.keeps.pop.trans hprog.pop) hkeep fun t kt => ?_
  have hmed : (x.tile tile).med = ((s.programmed tile o pg).tile tile).med := congrArg (fun v => v.2.2) (hbooks.keeps.tile tile)
  have hfs : (x.tile tile).fs = ((s.programmed tile o pg).tile tile).fs := congrArg (fun v => v.2.1) (hbooks.keeps.tile tile)
  have hdrop : ((s.dropOp tile o).tile tile).fs = (s.tile tile).fs := (keeps_modTile (g := Tile.fs) : Keeps _ s (s.dropOp tile o)).tile tile
  have hmap : (x.tile tile).xl.map = aputD {} c.seg { st := .mapped, loc := o.loc } (s.tile tile).xl.map := by
    rw [← State.xl_programmed (s := s) (o := o) (pg := pg)]
    exact congrArg Prod.fst hbooks.own
  have htail : (x.tile tile).xl.jtail = (s.tile tile).xl.jtail ++ [.commit c.seg { st := .mapped, loc := o.loc }] := by
    rw [← State.xl_programmed (s := s) (o := o) (pg := pg)]
    exact congrArg (fun v => v.2.1) hbooks.own
  have hcommits : (x.tile tile).xl.commits = [{ c with delta := delta, step := .done }] := congrArg (fun v => v.2.2) hbooks.own
  have hpages : (t.tile tile).med.pages = aput o.loc pg (s.tile tile).med.pages := by rw [kt.pages, hmed, State.pages_programmed h8]
  refine ⟨?_, ?_, ?_, ?_, ?_, ?_⟩
  · rw [hpages, aget_aput_self]
  · rw [hpages, aget_aput_ne hk]
  · rw [kt.xl, hmap, agetD_aputD_self]
  · rw [State.commitOf, kt.xl, hcommits]
    simp
  · rw [kt.fs, hfs, hprog.fs_of_unpaged, hdrop]
  · rw [kt.xl, htail]

/-- R195: a calibration program that passed. -/
theorem completes_calibProgram {rank k : Nat} {pg : Page} (ht : s.alive tile = true) (h8 : tile < 8) (hn : s.noWork = true)
    (ho : s.opAt tile o.loc false = some o) (hj : o.job = .calib rank) (hp : o.page = some pg) (hc : (s.tile tile).xl.commits = [])
    (hk : k ≠ o.loc) :
    Completes (.programDone tile o.loc true) s (fun t => aget o.loc (t.tile tile).med.pages = some pg ∧
      aget k (t.tile tile).med.pages = aget k (s.tile tile).med.pages ∧
      (t.chan tile (locCh o.loc)).calUsed = (s.chan tile (locCh o.loc)).calUsed ∧ (t.chan tile (locCh o.loc)).ops.contains o = false ∧
      (t.tile tile).xl.map = (s.tile tile).xl.map) := by
  have hkeep := keeps_programEnd_calib ht hn hc hj hp 0
  have hprog : Keeps Tile.unpaged (s.dropOp tile o) (s.programmed tile o pg) := keeps_programmed
  rw [← State.programDoneEff_of_op ho ht true] at hkeep
  refine completes_of_keeps (exec_programDone ..) hprog.pop hkeep fun t kt => ?_
  have hpages : (t.tile tile).med.pages = aput o.loc pg (s.tile tile).med.pages := by rw [kt.pages, State.pages_programmed h8]
  obtain ⟨hops, hcal⟩ := State.chan_of_dropOp h8 (hprog.trans kt.unpaged_of_store)
  refine ⟨?_, ?_, hcal, hops, ?_⟩
  · rw [hpages, aget_aput_self]
  · rw [hpages, aget_aput_ne hk]
  · rw [kt.xl, State.xl_programmed]

/-- R220, R222: a clear that ended well, below the wear limit. -/
theorem completes_clear {k : Nat} (ht : s.alive tile = true) (h8 : tile < 8) (hn : s.noWork = true) (ho : s.opAt tile o.loc true = some o)
    (hc : (s.tile tile).xl.commits = []) (hw : (s.blk tile (locBlk o.loc)).clears + 1 < s.fld Reg.XL_WEAR_LIMITS 15 0 * 10000) :
    Completes (.clearDone tile o.loc true) s (fun t =>
      aget k (t.tile tile).med.pages = (if locBlk k = locBlk o.loc then none else aget k (s.tile tile).med.pages) ∧
      (t.blk tile (locBlk o.loc)).clears = (s.blk tile (locBlk o.loc)).clears + 1 ∧ (t.chan tile (locCh o.loc)).ops.contains o = false ∧
      (t.tile tile).xl.map = (s.tile tile).xl.map) := by
  obtain ⟨hstand, hkeep⟩ := State.clearEnd_spec ht hn hc hw 0
  have hclr : Keeps Tile.unpaged (s.dropOp tile o) (s.cleared tile o) := keeps_cleared
  rw [← State.clearDoneEff_of_op ho ht true] at hkeep
  refine completes_of_keeps (exec_clearDone ..) (hstand.pop.trans hclr.pop) hkeep fun t kt => ?_
  obtain ⟨hops, -⟩ := State.chan_of_dropOp h8 hclr
  refine ⟨?_, ?_, ?_, ?_⟩
  · rw [kt.pages, hstand.med, State.pages_cleared h8, aget_adelWhere]
    simp only [decide_eq_true_eq]
  · rw [kt.blk, (keeps_judgeSpread ..).blk_of_grounded, State.clears_recycle h8, State.blk_cleared]
  · rw [kt.ops, State.chan, hstand.med]
    exact hops
  · rw [kt.xl, hstand.map_eq, State.xl_cleared]

end

/-- Settles O37, one command at a time: what ends is taken off its channel, its page or its block is dealt with, and nothing that waits makes settling
change anything more. -/
theorem programsAndClears : Obligations.ProgramsAndClears := by
  unfold Obligations.ProgramsAndClears
  refine ⟨?hostProgram, ?calibProgram, ?clear, ?clearFails, ?clearTimeout, ?calibTimeout, ?suspended⟩
  case hostProgram =>
    intro s tile loc f k o pg c ht h8 hn ho hj hp hc hl hcj _ hcp hst hseg hs hr _ hroom hk
    obtain rfl := State.opAt_spec ho
    exact completes_hostProgram ht h8 hn ho hj hp hc hl hcj hcp hst hseg hs hr hroom hk
  case calibProgram =>
    intro s tile loc rank k o pg ht h8 hn ho hj hp hc hk
    obtain rfl := State.opAt_spec ho
    exact completes_calibProgram ht h8 hn ho hj hp hc hk
  case clear =>
    rintro s tile loc k b o ht h8 hn ho rfl hc hw
    obtain rfl := State.opAt_spec ho
    exact completes_clear ht h8 hn ho hc hw
  case clearFails =>
    rintro s tile loc b o ht h8 hn ho rfl hc hb
    obtain rfl := State.opAt_spec ho
    have hkeep := keeps_clearEnd_fail ht h8 hn hc hb 0
    rw [← State.clearDoneEff_of_op ho ht false] at hkeep
    exact completes_of_failed (exec_clearDone ..) h8 (State.live_of_eq hb) hkeep fun t h => ⟨by rw [h.blk], by rw [h.blk], h.pages, h.spare, h.map⟩
  case clearTimeout =>
    rintro s tile loc b o ht h8 hn ho rfl hr hc hb
    obtain rfl := State.opAt_spec ho
    have hkeep := keeps_clearEnd_fail ht h8 hn hc hb 1
    rw [← State.opActiveTimeoutEff_clear ho ht hr] at hkeep
    exact completes_of_failed (exec_opActiveTimeout ..) h8 (State.live_of_eq hb) hkeep fun t h => ⟨by rw [h.blk], h.pages, h.spare, h.map⟩
  case calibTimeout =>
    rintro s tile loc rank b o ht h8 hn ho rfl hr hj hc hb
    obtain rfl := State.opAt_spec ho
    have hkeep := keeps_programEnd_calib_fail ht h8 hn hc hj hb 1
    rw [← State.opActiveTimeoutEff_program ho ht hr] at hkeep
    exact completes_of_failed (exec_opActiveTimeout ..) h8 (State.live_of_eq hb) hkeep fun t h => ⟨by rw [h.blk], by rw [h.blk], h.pages, h.ops, h.map⟩
  case suspended =>
    intro s tile loc o clear ho hr
    have heff := State.opActiveTimeoutEff_susp ho hr
    exact completes_of_run (exec_opActiveTimeout ..) (by rw [heff]) (by rw [heff]) (by rw [heff]) heff

end Sys2Proof.Machine
end

section
/-! What goes out. `Emits p` says that one state follows another on the interfaces with items of a kind `p` alone: recording an event writes
to rings (14_command_rings.md R415, R423), and nothing takes back what went out. -/

namespace Sys2Proof.Machine

open Sys2Proof

/-- An item that a ring puts out: a write of its completion queue or its MSI-X message. -/
def Out.ofRing : Out → Bool
  | .hostWrite .. | .msix .. => true
  | _ => false

/-- What went out between two states is of kind `p`. -/
def Emits (p : Out → Bool) (s t : State) : Prop := ∃ l, t.outbox = s.outbox ++ l ∧ ∀ o ∈ l, p o = true

section
variable {p q : Out → Bool} {s t a b c : State}

theorem emits_of_outbox (h : t.outbox = s.outbox) : Emits p s t := ⟨[], by simp [h], by simp⟩

theorem Emits.refl (s : State) : Emits p s s := emits_of_outbox rfl

theorem Emits.trans (h : Emits p a b) (k : Emits p b c) : Emits p a c := by
  obtain ⟨l, hl, hp⟩ := h
  obtain ⟨m, hm, hq⟩ := k
  refine ⟨l ++ m, by rw [hm, hl, List.append_assoc], fun o ho => ?_⟩
  exact (List.mem_append.1 ho).elim (hp o) (hq o)

theorem Emits.ite {x : Prop} [Decidable x] (ha : Emits p s a) (hb : Emits p s b) : Emits p s (if x then a else b) := by
  split
  · exact ha
  · exact hb

theorem Emits.foldl {β : Type} {f : State → β → State} (h : ∀ a b, Emits p a (f a b)) (l : List β) (s : State) : Emits p s (l.foldl f s) := by
  induction l generalizing s with
  | nil => exact .refl s
  | cons b l ih => exact (h s b).trans (ih _)

theorem Emits.mono (h : Emits p s t) (hpq : ∀ o, p o = true → q o = true) : Emits q s t := by
  obtain ⟨l, hl, hp⟩ := h
  exact ⟨l, hl, fun o ho => hpq o (hp o ho)⟩

theorem emits_emit {o : Out} (h : p o = true) (s : State) : Emits p s (s.emit o) := ⟨[o], rfl, by simpa using h⟩

/-- Nothing that went out is taken back. -/
theorem Emits.prefix (h : Emits p s t) : s.outbox <+: t.outbox := by
  obtain ⟨l, hl, -⟩ := h
  exact ⟨l, hl.symm⟩

end

/-! ### Events go out on rings -/

theorem emits_cqWrite (s : State) (r : Nat) (x y : List Byte) : Emits Out.ofRing s (s.cqWrite r x y) :=
  ((emits_emit rfl s).trans (emits_emit rfl _)).trans (emits_of_outbox rfl)

theorem emits_ringMsix (s : State) (r : Nat) : Emits Out.ofRing s (s.ringMsix r) := (emits_emit rfl s).trans (emits_of_outbox rfl)

theorem emits_ringCount (s : State) (r : Nat) (now : Bool) : Emits Out.ofRing s (s.ringCount r now) :=
  have hmod (f : Ring → Ring) : Emits Out.ofRing s (s.modRing r f) := emits_of_outbox rfl
  .ite ((hmod _).trans (emits_ringMsix ..)) (hmod _)

theorem emits_evtWrite (s : State) (g : GbRecord) (r : Nat) : Emits Out.ofRing s (s.evtWrite g r).1 := by
  have hmod (a : State) (f : Ring → Ring) : Emits Out.ofRing a (a.modRing r f) := emits_of_outbox rfl
  unfold State.evtWrite
  dsimp only
  split
  · exact emits_of_outbox rfl
  · exact ((emits_cqWrite ..).trans (hmod ..)).trans (emits_ringCount ..)

/-- R425: recording an event puts out what its event rings do, and no more. -/
theorem emits_gbEventN (n : Nat) (s : State) (c k : Nat) (l : List Nat) (rep : Bool) : Emits Out.ofRing s (s.gbEventN n c k l rep) := by
  induction n generalizing s c k l rep with
  | zero => exact .refl s
  | succ n ih =>
    have hring (g : GbRecord) (a : State) (k : Nat) : Emits Out.ofRing a (
        let (b, first) := State.evtWrite a g k
        if first then State.gbEventN n b Gb.PORTER_EVT_LOST 15 [k, b.fld (Reg.RING_EVT k) 31 16] false else b) :=
      .ite ((emits_evtWrite a g k).trans (ih ..)) (emits_evtWrite a g k)
    have hstore : Emits Out.ofRing s (s.gbStore c k l).1 := emits_of_outbox rfl
    have hrings := hstore.trans (.foldl (hring (s.gbStore c k l).2) ((s.gbStore c k l).1.evtRings c) _)
    refine .ite (emits_of_outbox rfl) (.ite (emits_of_outbox rfl) (.ite (emits_of_outbox rfl) ?_))
    exact .ite ((hrings.trans (emits_of_outbox rfl)).trans (ih ..)) hrings

theorem emits_event (s : State) (c k : Nat) (l : List Nat) : Emits Out.ofRing s (s.event c k l) := emits_gbEventN 4 s c k l false

theorem emits_latch (s : State) (o b c k : Nat) (l : List Nat) : Emits Out.ofRing s (s.latch o b c k l) :=
  (emits_of_outbox rfl : Emits _ s (s.setFld o b b 1)).trans (emits_gbEventN ..)

/-- An item of a ring, or the interrupt of an event record of an LD (02_host_ports.md R67). -/
def Out.ofRecord : Out → Bool
  | .hostWrite .. | .msix .. | .cxlEvent .. => true
  | _ => false

theorem Emits.ofRecord {s t : State} (h : Emits Out.ofRing s t) : Emits Out.ofRecord s t :=
  h.mono fun o ho => by cases o <;> simp_all [Out.ofRing, Out.ofRecord]

theorem emits_evtTo (s : State) (log : Nat) (r : EvtRec) (c : Nat) : Emits Out.ofRecord s (s.evtTo log r c) := by
  have hmod (f : LDev → LDev) : Emits Out.ofRecord s (s.modLd c f) := emits_of_outbox rfl
  exact .ite (.ite (hmod _) ((hmod _).trans (emits_emit rfl _))) ((hmod _).trans (emits_event ..).ofRecord)

theorem emits_evtFor (s : State) (lds : List Nat) (log : Nat) (r : EvtRec) : Emits Out.ofRecord s (s.evtFor lds log r) :=
  .foldl (fun a c => emits_evtTo a log r c) lds s

/-! ### Responses -/

/-- What is put out between two states answers a request as long as nothing is taken back before or after. -/
theorem answered_of_prefix {s a b t : State} {h tag : Nat} {data : Option Line} {poison : Bool} (ha : s.outbox <+: a.outbox)
    (hb : answered a b h tag data poison = true) (ht : b.outbox <+: t.outbox) : answered s t h tag data poison = true := by
  obtain ⟨l, hl⟩ := ha
  obtain ⟨m, hm⟩ := ht
  simp only [answered, List.any_eq_true] at hb ⊢
  obtain ⟨o, ho, hof⟩ := hb
  refine ⟨o, ?_, hof⟩
  rw [← hm, List.drop_append]
  have hdrop : b.outbox.drop a.outbox.length = (b.outbox.drop s.outbox.length).drop l.length := by
    rw [List.drop_drop, ← hl, List.length_append]
  rw [hdrop] at ho
  exact List.mem_append_left _ (List.mem_of_mem_drop ho)

/-- What a ring or the log of an LD puts out answers no request. -/
theorem Emits.not_answered {s t : State} (h : Emits Out.ofRecord s t) (hd tag : Nat) (data : Option Line) (poison : Bool) :
    answered s t hd tag data poison = false := by
  obtain ⟨l, hl, hp⟩ := h
  rw [answered, hl, List.drop_left, List.any_eq_false]
  intro o ho
  have hrec := hp o ho
  cases o <;> simp_all [Out.ofRecord]

end Sys2Proof.Machine
end

section
/-! What serving a request at one tile leaves. `Serves h g` says that beside registers, records, counts of use and what goes out nothing but
tile `h` is other than before, that nothing that went out is taken back, and that `g` reads tile `h` as before. -/

namespace Sys2Proof.Machine

open Sys2Proof

/-- Nothing but tiles, registers, records, free values, windows, LDs and what goes out is other than before. -/
def State.Beside (s t : State) : Prop :=
  t = { s with free := t.free, outbox := t.outbox, reg := t.reg, gb := t.gb, porter := t.porter, wins := t.wins,
               cap := { s.cap with lds := t.cap.lds }, tiles := t.tiles }

theorem State.Beside.trans {a b c : State} (k : a.Beside b) (l : b.Beside c) : a.Beside c := by
  unfold State.Beside at *
  rw [l, k]

/-- Only tile `h`, registers, records, free values, windows and the LDs change; `g` reads tile `h` as before. -/
structure Serves {α : Type} (h : Nat) (g : Tile → α) (s t : State) : Prop where
  frame : s.Beside t
  others : ∀ u, u ≠ h → t.tile u = s.tile u
  out : s.outbox <+: t.outbox
  own : g (t.tile h) = g (s.tile h)

section
variable {α β : Type} {h : Nat} {g : Tile → α} {s t a b c : State}

theorem Serves.refl (s : State) : Serves h g s s := ⟨rfl, fun _ _ => rfl, List.prefix_rfl, rfl⟩

theorem Serves.trans (k : Serves h g a b) (l : Serves h g b c) : Serves h g a c where
  frame := k.frame.trans l.frame
  others u hu := (l.others u hu).trans (k.others u hu)
  out := k.out.trans l.out
  own := l.own.trans k.own

/-- What leaves a view leaves everything that the view determines. -/
theorem Serves.map (k : Serves h g s t) (f : α → β) : Serves h (fun x => f (g x)) s t := ⟨k.frame, k.others, k.out, congrArg f k.own⟩

theorem Serves.ite {p : Prop} [Decidable p] (ha : Serves h g s a) (hb : Serves h g s b) : Serves h g s (if p then a else b) := by
  split
  · exact ha
  · exact hb

theorem Serves.foldl {f : State → β → State} (k : ∀ a b, Serves h g a (f a b)) (l : List β) (s : State) : Serves h g s (l.foldl f s) := by
  induction l generalizing s with
  | nil => exact .refl s
  | cons b l ih => exact (k s b).trans (ih _)

theorem Serves.pop (k : Serves h g s t) : t.pop = s.pop := by rw [k.frame]
theorem Serves.md (k : Serves h g s t) : t.md = s.md := by rw [k.frame]
theorem Serves.ps (k : Serves h g s t) : t.ps = s.ps := by rw [k.frame]
theorem Serves.pw (k : Serves h g s t) : t.pw = s.pw := by rw [k.frame]
theorem Serves.sec (k : Serves h g s t) : t.sec = s.sec := by rw [k.frame]
theorem Serves.car (k : Serves h g s t) : t.car = s.car := by rw [k.frame]
theorem Serves.jobs (k : Serves h g s t) : t.jobs = s.jobs := by rw [k.frame]
theorem Serves.table (k : Serves h g s t) : t.cap.table = s.cap.table := by rw [k.frame]

/-- What writes neither the tiles nor takes back what went out. -/
theorem serves_of_frame (frame : s.Beside t) (tiles : t.tiles = s.tiles) (out : s.outbox <+: t.outbox) : Serves h g s t :=
  ⟨frame, fun u _ => by rw [State.tile, State.tile, tiles], out, by rw [State.tile, State.tile, tiles]⟩

theorem OnlyLog.serves (k : OnlyLog s t) (out : s.outbox <+: t.outbox) : Serves h g s t := by
  refine serves_of_frame ?_ k.tiles out
  rw [State.Beside, k]

theorem serves_modTile (s : State) {f : Tile → Tile} (k : ∀ x, g (f x) = g x := by intro; rfl) : Serves h g s (s.modTile h f) :=
  ⟨rfl, fun _ hu => State.tile_modTile_ne hu .., List.prefix_rfl, State.tile_modTile_keeps g s h k h⟩

/-! ### Registers, records and what goes out -/

theorem serves_setReg (s : State) (o : Nat) (v : W32) : Serves h g s (s.setReg o v) := serves_of_frame rfl rfl List.prefix_rfl
theorem serves_setFld (s : State) (o hi lo v : Nat) : Serves h g s (s.setFld o hi lo v) := serves_setReg ..
theorem serves_latchOnly (s : State) (o b : Nat) : Serves h g s (s.latchOnly o b) := serves_setReg ..
theorem serves_addFld (s : State) (o hi lo d : Nat) : Serves h g s (s.addFld o hi lo d) := serves_setReg ..
theorem serves_emit (s : State) (o : Out) : Serves h g s (s.emit o) := serves_of_frame rfl rfl ⟨[o], rfl⟩
theorem serves_modLd (s : State) (c : Nat) (f : LDev → LDev) : Serves h g s (s.modLd c f) := serves_of_frame rfl rfl List.prefix_rfl
theorem serves_winCount (s : State) (k : Nat) (w : Bool) : Serves h g s (s.winCount k w) := serves_of_frame rfl rfl List.prefix_rfl

theorem serves_event (s : State) (c k : Nat) (l : List Nat) : Serves h g s (s.event c k l) := (onlyLog_event ..).serves (emits_event ..).prefix
theorem serves_latch (s : State) (o b c k : Nat) (l : List Nat) : Serves h g s (s.latch o b c k l) :=
  (onlyLog_latch ..).serves (emits_latch ..).prefix

theorem serves_evtTo (s : State) (log : Nat) (r : EvtRec) (c : Nat) : Serves h g s (s.evtTo log r c) :=
  .ite (.ite (serves_modLd ..) ((serves_modLd ..).trans (serves_emit ..))) ((serves_modLd ..).trans (serves_event ..))

theorem serves_evtFor (s : State) (lds : List Nat) (log : Nat) (r : EvtRec) : Serves h g s (s.evtFor lds log r) :=
  .foldl (fun a c => serves_evtTo a log r c) lds s

/-! ### Counters -/

theorem serves_cntAdd (hg : ∀ x c, g { x with cnt := c } = g x) (k : Nat) (s : State) (n d : Nat) :
    Serves h g s (State.cntAdd k s h n d) := by
  induction k generalizing s n d with
  | zero => exact .refl s
  | succ k ih =>
    have hset : Serves h g s (s.setCnt h n ((s.cntVal h n + d) % 2 ^ 36)) := serves_modTile s fun x => hg x _
    have hovf : Serves h g s ((s.setCnt h n ((s.cntVal h n + d) % 2 ^ 36)).perfOvf h n) := hset.trans (serves_latchOnly ..)
    exact .ite hset (.ite (hovf.trans (ih ..)) hovf)

theorem serves_perfEvent (s : State) (no q d : Nat) (hg : ∀ x c, g { x with cnt := c } = g x := by intros; rfl) :
    Serves h g s (s.perfEvent h no q d) :=
  .ite (.refl s) (.foldl (fun a _ => .ite (serves_cntAdd hg ..) (.refl a)) _ _)

/-! ### Responses (03_transactions.md R74, R86) -/

theorem serves_measure (s : State) (r : Req) (latNs : Nat) (hr : r.head = h) (hg : ∀ x c, g { x with cnt := c } = g x := by intros; rfl) :
    Serves h g s (s.measure r latNs) := by
  subst hr
  refine .ite (.refl s) (.ite (((Serves.trans ?_ (serves_addFld ..)).trans (serves_latch ..)).trans (serves_perfEvent _ _ _ _ hg)) ?_)
  · exact .ite (serves_setReg ..) (.refl s)
  · exact .ite (serves_setReg ..) (.refl s)

end

end Sys2Proof.Machine
end

section
/-! The response of a request leaves its head (03_transactions.md R74, R86, R87). -/

namespace Sys2Proof.Machine

open Sys2Proof

/-- R74: what a response carries: data for a read alone. -/
def Req.response (r : Req) (data : Option Line) : Option Line := if r.kind = .rd then data else none

/-- R74: the host has credit for the response of a request. -/
def State.hasCredit (s : State) (r : Req) : Prop := (if r.kind == .rd then (s.head r.head).drs else (s.head r.head).ndr) ≠ some 0

/-- The credits and the DevLoad count of a head once a response has left. -/
def Head.responded (d : Head) (kind : ReqKind) (dl : Nat) : Head :=
  { d with drs := if kind = .rd then d.drs.map (· - 1) else d.drs, ndr := if kind = .rd then d.ndr else d.ndr.map (· - 1),
           devLoadAcc := (d.devLoadAcc.1 + 1, d.devLoadAcc.2 + dl) }

/-- R73: a request's tracker entry is free again. -/
def Txn.ended (x : Txn) (id : Nat) : Txn := { x with tracker := x.tracker.filter (fun q => q.id != id) }

/-- R74, R87: a response with DevLoad `dl` leaves its head, and the request's tracker entry ends. -/
def State.sent (s : State) (r : Req) (data : Option Line) (poison : Bool) (dl : Nat) : State :=
  (((s.modHead r.head (fun d => d.responded r.kind dl)).modTxn r.head (fun x => x.ended r.id)).emit
    (.s2m r.head { tag := r.tag, data := r.response data, poison := poison, metaInvalid := r.metaField, devLoad := dl })).setFld
    (Reg.TXN_STATUS r.head) 31 30 dl

/-- R58, R507: a response that has left counts in the windows, and holds no GPF Phase 2 back. -/
def State.counted (s : State) (r : Req) (counts : Bool) : State :=
  (if counts then s.winCount r.head (r.kind != .rd) else s).modHead r.head (fun d => { d with gpf := d.gpf.map (fun l => l.filter (· != r.id)) })

section
variable {α : Type} {s : State} {r : Req} {g : Tile → α}

theorem State.hasCredit_of_none (hn : (s.head r.head).ndr = none) (hd : (s.head r.head).drs = none) : s.hasCredit r := by
  simp [State.hasCredit, hn, hd]

theorem State.hasCredit_congr {t : State} (hh : t.head r.head = s.head r.head) (hc : s.hasCredit r) : t.hasCredit r := by
  rw [State.hasCredit, hh]
  exact hc

/-- R74: with credit, a response is measured and leaves. -/
theorem State.respond_of_credit (hc : s.hasCredit r) (data : Option Line) (poison : Bool) (latNs : Nat) :
    ∃ dl counts, s.respond r data poison latNs = (((s.measure r latNs).sent r data poison dl).counted r counts) := by
  refine ⟨if r.cse = 10 then 3 else s.devLoad, !(r.kind == .inv || (r.kind == .rd && data.isNone)), ?_⟩
  rw [State.respond, if_neg (by simpa [State.hasCredit] using hc), State.counted]
  cases r.kind == .inv || (r.kind == .rd && data.isNone) <;> rfl

theorem serves_counted (s : State) (r : Req) (counts : Bool) (hg : ∀ x d, g { x with head := { x.head with gpf := d } } = g x := by intros; rfl) :
    Serves r.head g s (s.counted r counts) :=
  (Serves.ite (serves_winCount ..) (.refl s)).trans (serves_modTile _ fun x => hg x _)

theorem serves_sent (s : State) (r : Req) (data : Option Line) (poison : Bool) (dl : Nat)
    (hh : ∀ x d, g { x with head := d } = g x := by intros; rfl) (ht : ∀ x i, g { x with txn := x.txn.ended i } = g x := by intros; rfl) :
    Serves r.head g s (s.sent r data poison dl) :=
  (((serves_modTile s fun x => hh x _).trans (serves_modTile _ fun x => ht x _)).trans (serves_emit ..)).trans (serves_setFld ..)

theorem State.txn_sent (h8 : r.head < 8) (data : Option Line) (poison : Bool) (dl : Nat) :
    ((s.sent r data poison dl).tile r.head).txn = (s.tile r.head).txn.ended r.id := by
  have hout : (s.sent r data poison dl).tile r.head =
      ((s.modHead r.head (fun d => d.responded r.kind dl)).modTxn r.head (fun x => x.ended r.id)).tile r.head := rfl
  rw [hout, State.modTxn, State.tile_modTile_self _ _ h8, State.modHead, State.tile_modTile_self _ _ h8]

theorem answered_sent (data : Option Line) (poison : Bool) (dl : Nat) :
    answered s (s.sent r data poison dl) r.head r.tag (r.response data) poison = true := by
  have hout : (s.sent r data poison dl).outbox = s.outbox ++
      [.s2m r.head { tag := r.tag, data := r.response data, poison := poison, metaInvalid := r.metaField, devLoad := dl }] := rfl
  rw [answered, hout, List.drop_left]
  simp

/-- R74: what the response of a request with credit does. -/
structure Responds (s t : State) (r : Req) (data : Option Line) (poison : Bool) : Prop where
  answered : answered s t r.head r.tag (r.response data) poison = true
  txn : (t.tile r.head).txn = (s.tile r.head).txn.ended r.id

theorem State.respond_spec (hc : s.hasCredit r) (h8 : r.head < 8) (data : Option Line) (poison : Bool) (latNs : Nat) :
    Responds s (s.respond r data poison latNs) r data poison := by
  obtain ⟨dl, counts, heff⟩ := State.respond_of_credit hc data poison latNs
  have hm : Serves r.head Tile.txn s (s.measure r latNs) := serves_measure s r latNs rfl
  have hk : Serves r.head Tile.txn ((s.measure r latNs).sent r data poison dl) _ := serves_counted _ r counts
  rw [heff]
  exact ⟨answered_of_prefix hm.out (answered_sent ..) hk.out, by rw [hk.own, State.txn_sent h8, hm.own]⟩

theorem serves_respond (s : State) (r : Req) (hc : s.hasCredit r) (data : Option Line) (poison : Bool) (latNs : Nat)
    (hcnt : ∀ x c, g { x with cnt := c } = g x := by intros; rfl) (hh : ∀ x d, g { x with head := d } = g x := by intros; rfl)
    (ht : ∀ x i, g { x with txn := x.txn.ended i } = g x := by intros; rfl) :
    Serves r.head g s (s.respond r data poison latNs) := by
  obtain ⟨dl, counts, heff⟩ := State.respond_of_credit hc data poison latNs
  rw [heff]
  exact ((serves_measure s r latNs rfl hcnt).trans (serves_sent _ r data poison dl hh ht)).trans (serves_counted _ r counts fun x d => hh x _)

end

end Sys2Proof.Machine
end

section
/-! A request at the tile that owns its line, where nothing else stands in the hazard table and no error is stored (03_transactions.md R77, R78;
05_front_store.md R141 to R143). -/

namespace Sys2Proof.Machine

open Sys2Proof

/-- The content of a tile: its Front Store, its media and its map. -/
def Tile.content (x : Tile) : FrontStore × Media × Xlate := (x.fs, x.med, x.xl)

section
variable {s t : State} {h : Nat}

theorem Serves.fs (k : Serves h Tile.content s t) : (t.tile h).fs = (s.tile h).fs := congrArg Prod.fst k.own
theorem Serves.med (k : Serves h Tile.content s t) : (t.tile h).med = (s.tile h).med := congrArg (fun x => x.2.1) k.own
theorem Serves.xl (k : Serves h Tile.content s t) : (t.tile h).xl = (s.tile h).xl := congrArg (fun x => x.2.2) k.own

end

/-! ### Lookups without stored errors (R163, R166) -/

section
variable {s : State} {t : Nat}

theorem patSyms_zero : patSyms 0 = 0 := by simp [patSyms]

/-- R163: with no flip stored and none met, the tag check of a lookup finds nothing. -/
theorem State.tagCheck_clean (h : (s.tile t).fs.tagFlips = []) (l : Nat) : s.tagCheck t l {} = (s, false) := by
  refine List.foldl_fixed' (fun f => ?_) _
  have hflips (p : Bool) : Nat.xor (agetD f 0 (s.tile t).fs.tagFlips) (if p then 0 % 2 ^ 36 else 0) = 0 := by
    rw [h, Nat.zero_mod, ite_self]
    exact Nat.xor_self 0
  dsimp only
  rw [hflips]
  rfl

/-- R166: with no flip stored and none met, a lookup that hits a frame finds nothing. -/
theorem State.frameCheck_clean (h : (s.tile t).fs.lineFlips = []) (f line : Nat) (rd : Bool) : s.frameCheck t f line {} rd = s := by
  have hin (i : Nat) : s.flipsIn t f i = 0 := by rw [State.flipsIn, h]; exact patSyms_zero
  simp [State.frameCheck, hin]

theorem State.clearFlips_clean (h : (s.tile t).fs.lineFlips = []) (f : Nat) (p : Nat → Bool) : s.clearFlips t f p = s := by
  simp [State.clearFlips, h]

theorem State.findFrame_congr {s' : State} (hp : s'.pop = s.pop) (hw : s'.jobs.ways = s.jobs.ways)
    (hf : (s'.tile t).fs.frames = (s.tile t).fs.frames) (l : Nat) :
    s'.findFrame t l = s.findFrame t l := by
  have hframe : s'.frame t = s.frame t := funext fun f => by rw [State.frame, State.frame, hf]
  simp only [State.findFrame, hframe, State.setFrames, State.setOf, State.setBits, State.ways, hp, hw]

/-- The frame that a lookup finds holds the segment. -/
theorem State.seg_of_findFrame {l f : Nat} (h : s.findFrame t l = some f) : (s.frame t f).seg = l := by
  have hf := List.find?_some h
  simp only [Bool.and_eq_true, beq_iff_eq] at hf
  exact hf.2

end

/-! ### The hazard table (R77, R78) -/

section
variable {s : State} {t : Nat} {r : Req}

/-- The entry with which a request is performed. -/
def State.entry (s : State) (t src : Nat) (r : Req) : Haz :=
  { req := r, seg := hazKey s t r, line := r.dpa / 64 % 64, src := src, st := .media }

/-- A request is the one entry of a tile's hazard table. -/
def State.alone (s : State) (t src : Nat) (r : Req) : State := s.modTxn t (fun x => { x with haz := [s.entry t src r] })

theorem lmod_lmod {α : Type} (i : Nat) (f g : α → α) (l : List α) : lmod i g (lmod i f l) = lmod i (fun x => g (f x)) l := by
  simp only [lmod, List.mapIdx_mapIdx]
  congr
  funext j x
  by_cases h : j = i <;> simp [h]

theorem State.modTile_modTile (s : State) (t : Nat) (f g : Tile → Tile) : (s.modTile t f).modTile t g = s.modTile t (fun x => g (f x)) := by
  have hv : vmod t g (vmod t f s.tiles) = vmod t (fun x => g (f x)) s.tiles := by simp [vmod, lmod_lmod]
  rw [State.modTile, State.modTile, State.modTile, hv]

theorem State.modTile_congr {s : State} {t : Nat} {f g : Tile → Tile} (h : f (s.tile t) = g (s.tile t)) : s.modTile t f = s.modTile t g := by
  have hv : vmod t f s.tiles = vmod t g s.tiles := by
    have hl : lmod t f s.tiles.toList = lmod t g s.tiles.toList := by
      refine List.ext_getElem (by simp) fun i hi _ => ?_
      simp only [lmod, List.getElem_mapIdx]
      split
      · next hit =>
        subst hit
        have hi' : i < s.tiles.toList.length := by simpa using hi
        have hget : s.tile i = s.tiles.toList[i] := List.getD_eq_getElem _ _ hi'
        rw [← hget, h]
      · rfl
    simp [vmod, hl]
  rw [State.modTile, State.modTile, hv]

/-- R78: with no other request in the table, a request is performed at once; what it left of the table is woken. -/
theorem State.letIn_alone (h : (s.tile t).txn.haz = []) (h8 : t < 8) (src : Nat) (u : Upset) (latNs : Nat) (idle : Bool) :
    s.letIn t src r u latNs idle = ((s.alone t src r).perform t r u latNs idle).wakeLines t latNs := by
  have hin : ((s.modTxn t (fun y => { y with haz := y.haz ++ [{ s.entry t src r with st := .line }] })).tile t).txn.haz =
      [{ s.entry t src r with st := .line }] := by
    rw [State.modTxn, State.tile_modTile_self _ _ h8, h, List.nil_append]
  have halone : (s.modTxn t (fun y => { y with haz := y.haz ++ [{ s.entry t src r with st := .line }] })).modHaz t r.id (fun g => { g with st := .media }) =
      s.alone t src r := by
    rw [State.modTxn, State.modHaz, State.modTxn, State.modTile_modTile, State.alone, State.modTxn]
    exact State.modTile_congr (by simp [h, State.entry])
  rw [← halone]
  unfold State.letIn
  have hany : (s.tile t).txn.haz.any (fun g => g.seg == hazKey s t r && g.line == r.dpa / 64 % 64) = false := by rw [h]; rfl
  simp only [hany, Bool.false_eq_true, if_false]
  have hblock : blocked ((s.modTxn t (fun y => { y with haz := y.haz ++ [{ s.entry t src r with st := .line }] })).tile t).txn.haz
      { s.entry t src r with st := .line } = false := by
    rw [hin]
    simp [blocked]
  simp only [State.entry] at hblock ⊢
  rw [hblock]
  rfl

theorem State.wakeLines_of_nil (h : (s.tile t).txn.haz = []) (latNs : Nat) : s.wakeLines t latNs = s := by
  rw [State.wakeLines, h]
  rfl

/-- R77: a request is recognised at once while the table has room and nothing waits for it. -/
theorem State.recognise_room (hroom : s.hazUsed t < 16384) (hw : (s.tile t).txn.hazWait = []) (src : Nat) (u : Upset) (latNs : Nat) (idle : Bool) :
    s.recognise t src r u latNs idle = s.letIn t src r u latNs idle := by
  have hno : ¬ (16384 ≤ s.hazUsed t ∨ (!(s.tile t).txn.hazWait.isEmpty) = true) := by simp [hw, hroom]
  exact if_neg hno

/-- R76: a request whose line is its own head's is recognised there. -/
theorem State.dispatchReq_own (ho : s.segTile (r.dpa / 4096) = r.head) (hf : bitOf s.md.failed r.head = false) (u : Upset) (latNs : Nat)
    (idle : Bool) : s.dispatchReq r u latNs idle = s.recognise r.head 0 r u latNs idle := by
  have hserve : s.servingTile r.dpa = some r.head := by simp [State.servingTile, ho, hf]
  simp only [State.dispatchReq, hserve, if_true]

end

end Sys2Proof.Machine
end

section
/-! A request is answered at its own head, which owns its line, and leaves the hazard table (03_transactions.md R71, R77; 05_front_store.md R80). -/

namespace Sys2Proof.Machine

open Sys2Proof

section
variable {s t : State} {h : Nat} {r q : Req}

/-- R77, R257: the request leaves the table; poison that answers a read is counted and recorded. -/
def State.concluded (s : State) (h : Nat) (r : Req) (poison : Bool) : State :=
  if r.kind == .rd && poison then ((s.hazDrop h r.id).stat h 6 1).evtSeg 0 (r.dpa / 4096) else s.hazDrop h r.id

/-- A request of a head holds an entry of its tracker, no response of it waits, and the host gave credit for one. -/
structure State.Stands (s : State) (h : Nat) (r q : Req) : Prop where
  own : r.head = h
  trk : s.trk h r.id = some q
  head : q.head = h
  queued : s.queued h r.id = false
  credit : s.hasCredit q

/-- Whether a request stands depends on its head's credits, its tracker and its responses that wait. -/
theorem State.Stands.congr (k : s.Stands h r q) (htrk : (t.tile h).txn.tracker = (s.tile h).txn.tracker)
    (hout : (t.tile h).txn.outQ = (s.tile h).txn.outQ) (hh : (t.tile h).head = (s.tile h).head) : t.Stands h r q where
  own := k.own
  trk := by rw [State.trk, htrk]; exact k.trk
  head := k.head
  queued := by rw [State.queued, hout]; exact k.queued
  credit := State.hasCredit_congr (by rw [k.head]; exact hh) k.credit

theorem serves_hazDrop (s : State) (h id : Nat) : Serves h (fun x => (x.content, x.txn.tracker, x.txn.outQ, x.head)) s (s.hazDrop h id) :=
  serves_modTile s

theorem serves_concluded (s : State) (h : Nat) (r : Req) (poison : Bool) :
    Serves h (fun x => (x.content, x.txn.tracker, x.txn.outQ, x.head)) s (s.concluded h r poison) :=
  .ite (((serves_hazDrop ..).trans (serves_modTile _)).trans (serves_evtFor ..)) (serves_hazDrop ..)

theorem State.txn_concluded (h8 : h < 8) (r : Req) (poison : Bool) :
    ((s.concluded h r poison).tile h).txn = { (s.tile h).txn with haz := (s.tile h).txn.haz.filter (fun z => z.req.id != r.id) } := by
  have hdrop : ((s.hazDrop h r.id).tile h).txn = { (s.tile h).txn with haz := (s.tile h).txn.haz.filter (fun z => z.req.id != r.id) } := by
    rw [State.hazDrop, State.modTxn, State.tile_modTile_self _ _ h8]
  rw [← hdrop]
  have hstat : Serves h Tile.txn (s.hazDrop h r.id) (((s.hazDrop h r.id).stat h 6 1).evtSeg 0 (r.dpa / 4096)) :=
    (serves_modTile _).trans (serves_evtFor ..)
  exact (Serves.ite hstat (.refl _)).own

/-- R71: an answer at its own head is the response of the tracker's entry. -/
theorem State.hazAnswer_own (k : s.Stands h r q) (data : Option Line) (poison : Bool) (latNs : Nat) :
    s.hazAnswer h r data poison latNs = (s.concluded h r poison).respond q data poison latNs := by
  have hk : (s.concluded h r poison).Stands h r q := by
    have hs := (serves_concluded s h r poison).own
    exact k.congr (congrArg (fun x => x.2.1) hs) (congrArg (fun x => x.2.2.1) hs) (congrArg (fun x => x.2.2.2) hs)
  have hanswer : s.hazAnswer h r data poison latNs = (s.concluded h r poison).answer h r data poison latNs := rfl
  rw [hanswer, State.answer, if_pos k.own, k.own]
  simp [State.reply, hk.trk, hk.queued]

/-- What the answer to a request does at its own head: the response leaves, and the request leaves the tracker and the hazard table. -/
theorem hazAnswer_spec (k : s.Stands h r q) (h8 : h < 8) (data : Option Line) (poison : Bool) (latNs : Nat) :
    answered s (s.hazAnswer h r data poison latNs) h q.tag (q.response data) poison = true ∧
    Serves h Tile.content s (s.hazAnswer h r data poison latNs) ∧
    ((s.hazAnswer h r data poison latNs).tile h).txn =
      { (s.tile h).txn with haz := (s.tile h).txn.haz.filter (fun z => z.req.id != r.id) }.ended q.id := by
  have hcon := serves_concluded s h r poison
  have hhead : (s.concluded h r poison).head h = s.head h := congrArg (fun x => x.2.2.2) hcon.own
  obtain rfl := k.head
  have hcr : (s.concluded q.head r poison).hasCredit q := State.hasCredit_congr hhead k.credit
  obtain ⟨hans, htxn⟩ := State.respond_spec hcr h8 data poison latNs
  have hserve : Serves q.head Tile.content _ _ := serves_respond _ q hcr data poison latNs
  rw [State.hazAnswer_own k]
  exact ⟨answered_of_prefix hcon.out hans List.prefix_rfl, (hcon.map Prod.fst).trans hserve, by rw [htxn, State.txn_concluded h8]⟩

end

end Sys2Proof.Machine
end

section
/-! A host write into a frame that holds its segment (05_front_store.md R142, R143, R148; 07_translation.md R204). -/

namespace Sys2Proof.Machine

open Sys2Proof

section
variable {α : Type} {g : Tile → α} {s a : State} {h l f : Nat}

/-- R88: the judgement of throttling touches neither the content of the tile nor its requests. -/
theorem serves_judgeThrottle (s : State) (h : Nat) (hcnt : ∀ x c, g { x with cnt := c } = g x := by intros; rfl)
    (hthr : ∀ x b, g { x with txn := { x.txn with throttle := b } } = g x := by intros; rfl) : Serves h g s (s.judgeThrottle h) := by
  have hmod : Serves h g s (s.modTxn h (fun y => { y with throttle := s.throttleOn h })) := serves_modTile s fun x => hthr x _
  exact .ite (.refl s) (.ite ((hmod.trans (serves_latchOnly ..)).trans (serves_perfEvent _ _ _ _ hcnt)) hmod)

theorem State.judgeThrottle_haz (s : State) (h : Nat) : ((s.judgeThrottle h).tile h).txn.haz = (s.tile h).txn.haz :=
  (serves_judgeThrottle (g := fun x => x.txn.haz) s h).own

/-! ### The map (R204) -/

theorem State.mapRaw_congr (hc : a.car = s.car) (hp : a.pop = s.pop) (hx : (a.tile h).xl.map = (s.tile h).xl.map) (l : Nat) :
    a.mapRaw h l = s.mapRaw h l := by
  have hlost (x : State) : x.rebuildLost h l = ({ car := x.car, pop := x.pop } : State).rebuildLost h l := rfl
  rw [State.mapRaw, State.mapRaw, hx, hlost a, hlost s, hc, hp]

/-- Translation with a segment's entry put in, of which no word and no line is altered any longer. -/
def Xlate.stored (x : Xlate) (l : Nat) (e : MapEnt) : Xlate :=
  { x with map := aputD {} l e x.map, stcFlips := adel l x.stcFlips, mapFlips := adel (l / 16) x.mapFlips }

/-- R204: a segment without a page in the medium or in a frame becomes FRONT_ONLY. -/
def Xlate.fronted (x : Xlate) (l : Nat) (e : MapEnt) : Xlate := if e.st = .never ∨ e.st = .discarded then x.stored l { st := .frontOnly } else x

theorem State.mapLineUncorr_clean (hm : (s.tile h).xl.mapFlips = []) (l : Nat) : s.mapLineUncorr h l = false := by
  rw [State.mapLineUncorr, hm, decide_eq_false]
  exact Nat.not_lt.2 (patSyms_zero.trans_le (Nat.zero_le 4))

theorem State.setMap_clean (hm : (s.tile h).xl.mapFlips = []) (l : Nat) (e : MapEnt) : s.setMap h l e = s.modXl h (fun x => x.stored l e) := by
  rw [State.setMap, State.mapLineUncorr_clean hm]
  rfl

theorem serves_markFront (hm : (s.tile h).xl.mapFlips = []) (l : Nat) :
    Serves h (fun x => (x.fs, x.med, x.txn, x.head)) s (s.markFront h l) := by
  refine .ite ?_ (.refl s)
  rw [State.setMap_clean hm]
  exact serves_modTile s

theorem State.xl_markFront (hm : (s.tile h).xl.mapFlips = []) (h8 : h < 8) (l : Nat) :
    ((s.markFront h l).tile h).xl = (s.tile h).xl.fronted l (s.mapRaw h l) := by
  refine (apply_ite (fun x : State => (x.tile h).xl) _ _ _).trans ?_
  rw [State.setMap_clean hm, State.xl_modXl_self _ h8]
  rfl

/-! ### Frames (R138, R142) -/

/-- R142: frame `f` holds `y`, and its way is used last. -/
def State.placed (s : State) (h f : Nat) (y : Frame) : State := (s.setFrame h f y).touchWay h f

theorem serves_placed (s : State) (h f : Nat) (y : Frame) : Serves h (fun x => (x.med, x.xl, x.txn, x.head)) s (s.placed h f y) :=
  (serves_modTile s).trans (serves_modTile _)

theorem State.fs_placed (h8 : h < 8) {y : Frame} (hy : y.st ≠ .invalid) (f : Nat) :
    ∃ p, ((s.placed h f y).tile h).fs = { (s.tile h).fs with frames := aput f y (s.tile h).fs.frames, plru := p } := by
  rw [State.placed, State.touchWay, State.modFs, State.tile_modTile_self _ _ h8, State.setFrame, State.modFs, State.tile_modTile_self _ _ h8,
    if_neg hy]
  exact ⟨_, rfl⟩

theorem State.frame_of_frames {x : List (Nat × Frame)} {y : Frame} (hf : (a.tile h).fs.frames = aput f y x) : a.frame h f = y := by
  rw [State.frame, hf, agetD_aput_self]

theorem State.frame_of_frames_ne {y : Frame} {k : Nat} (hf : (a.tile h).fs.frames = aput f y (s.tile h).fs.frames) (hk : k ≠ f) :
    a.frame h k = s.frame h k := by
  rw [State.frame, State.frame, hf, agetD_aput_ne hk]

theorem State.writeThrough_congr (hp : a.pop = s.pop) (hw : (a.tile h).fs.withdrawn = (s.tile h).fs.withdrawn)
    (hm : (a.tile h).fs.measured = (s.tile h).fs.measured) (hc : (a.tile h).fs.cap = (s.tile h).fs.cap)
    (hmode : (a.tile h).fs.mode = (s.tile h).fs.mode) (hf : (a.tile h).fs.forced = (s.tile h).fs.forced) :
    a.writeThrough h = s.writeThrough h := by
  simp only [State.writeThrough, State.effLimit, State.capEff, State.framesAvail, hp, hw, hm, hc, hmode, hf]

/-- The frame that a full write of a line leaves of a Clean or a Dirty one. -/
def Frame.taken (x : Frame) (line : Nat) (r : Req) (sealed : Bool) (ep : Nat) : Frame :=
  if x.st = .clean then { x.write line r with st := if sealed then .locked else .dirty, epoch := ep } else x.write line r

/-- R142: a write of a line into a Clean or Dirty frame at a tile without stored errors is stored there at once; a part of a line only where
the line is VALID. -/
theorem State.writePerform_stores {r : Req} {l line : Nat} (ht : (s.tile h).fs.tagFlips = []) (hl : (s.tile h).fs.lineFlips = [])
    (hf : s.findFrame h l = some f) (hst : (s.frame h f).st = .clean ∧ s.overLimit h = false ∨
      (s.frame h f).st = .dirty ∧ (r.kind == .wr || bitOf (s.frame h f).valid line) = true) (latNs : Nat) :
    s.writePerform h r l line {} latNs =
      (s.placed h f ((s.frame h f).taken line r (bitOf s.md.sealed h) (s.nowEpoch h))).writeStored h r f latNs := by
  unfold State.writePerform
  simp only [State.tagCheck_clean ht, Bool.false_eq_true, if_false, hf, State.frameCheck_clean hl]
  obtain ⟨hc, ho⟩ | ⟨hd, hfull⟩ := hst
  · simp [hc, ho, Frame.taken, State.placed]
  · simp only [hd, Frame.countsDirty, hfull, Frame.taken, State.placed]
    simp

end

end Sys2Proof.Machine
end

section
/-! What a host write that hits a frame and a host read that hits a line do at their tile (05_front_store.md R141, R142; 03_transactions.md R78). -/

namespace Sys2Proof.Machine

open Sys2Proof

/-- No error is stored at tile `h`, and its frame `f`, which is Dirty, holds local segment `l`; writes end in frames. -/
structure State.Hit (s : State) (h l f : Nat) : Prop where
  tag : (s.tile h).fs.tagFlips = []
  line : (s.tile h).fs.lineFlips = []
  map : (s.tile h).xl.mapFlips = []
  find : s.findFrame h l = some f
  dirty : (s.frame h f).st = .dirty
  through : s.writeThrough h = false

theorem Frame.write_st (x : Frame) (line : Nat) (r : Req) : (x.write line r).st = x.st := rfl
theorem Frame.write_seg (x : Frame) (line : Nat) (r : Req) : (x.write line r).seg = x.seg := rfl

section
variable {s t : State} {h l f : Nat} {r q : Req}

theorem State.Hit.congr (k : s.Hit h l f) (hp : t.pop = s.pop) (hj : t.jobs.ways = s.jobs.ways) (hc : (t.tile h).content = (s.tile h).content) :
    t.Hit h l f where
  tag := by rw [show (t.tile h).fs = _ from congrArg Prod.fst hc]; exact k.tag
  line := by rw [show (t.tile h).fs = _ from congrArg Prod.fst hc]; exact k.line
  map := by rw [show (t.tile h).xl = _ from congrArg (fun x => x.2.2) hc]; exact k.map
  find := by rw [State.findFrame_congr hp hj (congrArg (fun x => x.1.frames) hc)]; exact k.find
  dirty := by rw [State.frame, show (t.tile h).fs = _ from congrArg Prod.fst hc]; exact k.dirty
  through := by
    have hfs : (t.tile h).fs = (s.tile h).fs := congrArg Prod.fst hc
    rw [State.writeThrough_congr hp (by rw [hfs]) (by rw [hfs]) (by rw [hfs]) (by rw [hfs]) (by rw [hfs])]
    exact k.through

/-- Frame `f` of tile `h` holds `y`, its segment stands in the map as R204 has it, the tile's media are as before, nothing is left of its hazard
table, and the answer to a write has left its head. -/
structure Stored (s t : State) (h l f : Nat) (y : Frame) (q : Req) : Prop where
  answered : answered s t h q.tag (q.response none) false = true
  frames : (t.tile h).fs.frames = aput f y (s.tile h).fs.frames
  xl : (t.tile h).xl = (s.tile h).xl.fronted l (s.mapRaw h l)
  serves : Serves h Tile.med s t
  haz : (t.tile h).txn.haz = []

/-- R80, R204: a line stored in a frame of the segment is answered. -/
theorem writeStored_spec {y : Frame} {z : Haz} (k : s.Hit h l f) (hs : s.Stands h r q) (h8 : h < 8) (hz : (s.tile h).txn.haz = [z])
    (hid : z.req.id = r.id) (hy : y.st ≠ .invalid) (hseg : y.seg = l) (latNs : Nat) :
    Stored s ((s.placed h f y).writeStored h r f latNs) h l f y q := by
  set b := s.placed h f y with hb
  have hp : Serves h (fun x => (x.med, x.xl, x.txn, x.head)) s b := serves_placed s h f y
  obtain ⟨p, hfs⟩ := State.fs_placed (s := s) h8 hy f
  rw [← hb] at hfs
  have hbmap : (b.tile h).xl.mapFlips = [] := by rw [show (b.tile h).xl = _ from congrArg (fun x => x.2.1) hp.own, k.map]
  set c := b.markFront h l with hc
  have hm : Serves h (fun x => (x.fs, x.med, x.txn, x.head)) b c := serves_markFront hbmap l
  have hcfs : (c.tile h).fs = (b.tile h).fs := congrArg Prod.fst hm.own
  have htxn : (c.tile h).txn = (s.tile h).txn := (congrArg (fun x => x.2.2.1) hm.own).trans (congrArg (fun x => x.2.2.1) hp.own)
  have hhead : (c.tile h).head = (s.tile h).head := (congrArg (fun x => x.2.2.2) hm.own).trans (congrArg (fun x => x.2.2.2) hp.own)
  have hwt : c.writeThrough h = false := by
    rw [State.writeThrough_congr (s := s) (hm.pop.trans hp.pop), k.through] <;> rw [hcfs, hfs]
  have heff : b.writeStored h r f latNs = (c.hazAnswer h r none false latNs).judgeThrottle h := by
    have hflip : (b.tile h).fs.lineFlips = [] := by rw [hfs]; exact k.line
    have hfr : (b.frame h f).seg = l := by rw [State.frame_of_frames (by rw [hfs]), hseg]
    unfold State.writeStored
    rw [State.clearFlips_clean hflip, hfr, ← hc]
    simp only [hwt, Bool.false_eq_true, if_false]
  obtain ⟨hans, hcont, hend⟩ := hazAnswer_spec (hs.congr (by rw [htxn]) (by rw [htxn]) hhead) h8 none false latNs
  have hj : Serves h (fun x => (x.content, x.txn.haz)) _ ((c.hazAnswer h r none false latNs).judgeThrottle h) := serves_judgeThrottle _ h
  have hcont' := hcont.trans (hj.map Prod.fst)
  have hin : Serves h Tile.med s c := (hp.map Prod.fst).trans (hm.map fun x => x.2.1)
  rw [heff]
  refine ⟨answered_of_prefix hin.out hans hj.out, ?_, ?_, hin.trans (hcont'.map fun x => x.2.1), ?_⟩
  · rw [hcont'.fs, hcfs, hfs]
  · have hbxl : (b.tile h).xl = (s.tile h).xl := congrArg (fun x => x.2.1) hp.own
    rw [hcont'.xl, State.xl_markFront hbmap h8, hbxl, State.mapRaw_congr hp.car hp.pop (by rw [hbxl])]
  · rw [State.judgeThrottle_haz, hend, htxn, hz]
    simp [Txn.ended, hid]

/-- R78, R142: a write whose line is its tile's own is stored in the frame that it hits. -/
theorem perform_write_spec {z : Haz} (k : s.Hit h (s.segLocal (r.dpa / 4096)) f) (hs : s.Stands h r q) (h8 : h < 8) (hz : (s.tile h).txn.haz = [z])
    (hid : z.req.id = r.id) (ho : s.segTile (r.dpa / 4096) = h) (hkind : r.kind ≠ .rd)
    (hfull : (r.kind == .wr || bitOf (s.frame h f).valid (r.dpa / 64 % 64)) = true) (latNs : Nat) (idle : Bool) :
    Stored s (s.perform h r {} latNs idle) h (s.segLocal (r.dpa / 4096)) f ((s.frame h f).write (r.dpa / 64 % 64) r) q := by
  have heff : s.perform h r {} latNs idle = (s.placed h f ((s.frame h f).write (r.dpa / 64 % 64) r)).writeStored h r f latNs := by
    have hstore := State.writePerform_stores k.tag k.line k.find (.inr ⟨k.dirty, hfull⟩) latNs
    rw [Frame.taken, if_neg (by simp [k.dirty])] at hstore
    rw [State.perform, if_neg (not_not.2 ho), if_neg (by simpa using hkind), hstore]
  have hst : ((s.frame h f).write (r.dpa / 64 % 64) r).st = .dirty := (Frame.write_st ..).trans k.dirty
  rw [heff]
  exact writeStored_spec k hs h8 hz hid (by rw [hst]; exact FState.noConfusion)
    ((Frame.write_seg ..).trans (State.seg_of_findFrame k.find)) latNs

end

end Sys2Proof.Machine
end

section
/-! What a host read of a line that a frame holds does at its tile (05_front_store.md R141; 07_translation.md R206). -/

namespace Sys2Proof.Machine

open Sys2Proof

/-! ### What a change of mode puts out (10_modes.md R312) -/

theorem emits_alertLine (s : State) : Emits (fun _ => true) s s.alertLine :=
  have hthm (f : Thermal → Thermal) : Emits (fun _ => true) s (s.modThm f) := emits_of_outbox rfl
  .ite ((hthm _).trans (emits_emit rfl _)) (hthm _)

theorem emits_setMode (s : State) (m : Mode) : Emits (fun _ => true) s (s.setMode m) := by
  have hmd (f : ModeState → ModeState) : Emits (fun _ => true) s (s.modMd f) := emits_of_outbox rfl
  have halert (a : State) : Emits (fun _ => true) a (a.alert 8) := (emits_of_outbox rfl : Emits _ a (a.latchOnly Reg.THM_ALERT 8)).trans (emits_alertLine _)
  exact .ite (.refl s) (((hmd _).trans ((emits_event ..).mono fun _ _ => rfl)).trans (halert _))

theorem emits_evtAll (s : State) (log : Nat) (r : EvtRec) : Emits (fun _ => true) s (s.evtAll log r) := (emits_evtFor ..).mono fun _ _ => rfl

theorem emits_setCause (s : State) (n : Nat) (on : Bool) : Emits (fun _ => true) s (s.setCause n on) := by
  have hmd : Emits (fun _ => true) s (s.modMd (fun d => { d with causes := putBit d.causes n on })) := emits_of_outbox rfl
  have henter (a : State) : Emits (fun _ => true) a (a.enterMode a.md.target) := by
    have hdeg := Emits.ite (x := a.md.mode = .degraded ∨ a.md.target = .degraded)
      ((emits_setMode a a.md.target).trans (emits_evtAll _ 1 { kind := 1, cause := 6, info := a.md.target.code })) (emits_setMode a a.md.target)
    exact .ite (.refl a) (.ite (hdeg.trans (emits_evtAll ..)) hdeg)
  exact .ite (.refl s) (hmd.trans (.ite (henter _) (.refl _)))

/-! ### Passing a tile by -/

/-- `g` reads every tile as before, and nothing that went out is taken back. -/
structure Passes {α : Type} (g : Tile → α) (s t : State) : Prop where
  keeps : Keeps g s t
  out : s.outbox <+: t.outbox

section
variable {α β : Type} {g : Tile → α} {s t a b c : State}

theorem Passes.refl (s : State) : Passes g s s := ⟨.refl s, List.prefix_rfl⟩
theorem Passes.trans (h : Passes g a b) (k : Passes g b c) : Passes g a c := ⟨h.keeps.trans k.keeps, h.out.trans k.out⟩
theorem Passes.map (h : Passes g s t) (k : α → β) : Passes (fun x => k (g x)) s t := ⟨h.keeps.map k, h.out⟩

theorem Passes.ite {p : Prop} [Decidable p] (ha : Passes g s a) (hb : Passes g s b) : Passes g s (if p then a else b) := by
  split
  · exact ha
  · exact hb

theorem passes_modTile {u : Nat} {f : Tile → Tile} (h : ∀ x, g (f x) = g x := by intro; rfl) : Passes g s (s.modTile u f) :=
  ⟨keeps_modTile h, List.prefix_rfl⟩

theorem Serves.passes {h : Nat} (k : Serves h g s t) : Passes g s t where
  keeps := ⟨k.pop, k.jobs, k.sec, by rw [k.md], by rw [k.md]; exact id, fun u => if hu : u = h then hu ▸ k.own else by rw [k.others u hu]⟩
  out := k.out

theorem passes_setCause (s : State) (n : Nat) (on : Bool) : Passes g s (s.setCause n on) := ⟨keeps_setCause .., (emits_setCause ..).prefix⟩

end

/-! ### Looking a segment up (R206, R207, R242) -/

/-- Of a tile: all but its counters, its integrity statistics and what the map holds beside its entries. -/
def Tile.looked (x : Tile) : FrontStore × Media × Txn × Head × List (Nat × MapEnt) := (x.fs, x.med, x.txn, x.head, x.xl.map)

section
variable {s : State}

theorem passes_mapLineBad {α : Type} {g : Tile → α} (s : State) (t l : Nat)
    (hg : ∀ x m, g { x with xl := { x.xl with mapFlips := m } } = g x := by intros; rfl) : Passes g s (s.mapLineBad t l) := by
  have hbad : Passes g s
      (((s.latch (Reg.XL_ERR_STATUS t) 1 Gb.XL_MAP_UNCORR t [t, l / 16]).modXl t (fun x => { x with mapFlips := adel (l / 16) x.mapFlips })).setCause 5 true) :=
    ((serves_latch (h := t) ..).passes.trans (passes_modTile fun x => hg x _)).trans (passes_setCause ..)
  exact .ite hbad (hbad.trans (passes_setCause ..))

theorem passes_fetchLine (s : State) (t l : Nat) : Passes Tile.looked s (s.fetchLine t l) := by
  unfold State.fetchLine
  dsimp only
  split
  · exact .ite passes_modTile (.refl s)
  · exact .refl s

theorem passes_stcLookup (s : State) (t l : Nat) : Passes Tile.looked s (s.stcLookup t l).1 := by
  unfold State.stcLookup
  dsimp only
  split
  · exact passes_modTile
  · exact Passes.trans passes_modTile (serves_perfEvent (h := t) ..).passes

/-- What a lookup does once an STC entry whose parity fails is dropped. -/
def State.xlRead (s : State) (t l : Nat) (u : Upset) : State × Bool :=
  let (s2, hit) := s.stcLookup t l
  if hit then
    (if (MapSt.ofCode (s2.stcWord t l (s2.mapRaw t l) / 2 ^ 29)).isNone then
      (s2.mapLineBad t l).modXl t (fun x => { x with stcFlips := adel l x.stcFlips }) else s2, true)
  else
    let code := if u.mapCode then 7 else (s2.mapRaw t l).st.code
    let s3 := if u.map || s2.mapLineUncorr t l || (MapSt.ofCode code).isNone then s2.mapLineBad t l else s2
    (s3.fetchLine t l, false)

/-- R206: before that, an entry of the STC whose parity fails is dropped. -/
theorem State.xlLookup_eq (s : State) (t l : Nat) (u : Upset) : ∃ x, s.xlLookup t l u = x.xlRead t l u ∧ Passes Tile.looked s x :=
  ⟨_, rfl, .ite (Passes.trans passes_modTile (serves_latch (h := t) ..).passes) (.refl s)⟩

theorem passes_xlRead (s : State) (t l : Nat) (u : Upset) : Passes Tile.looked s (s.xlRead t l u).1 := by
  have h2 := passes_stcLookup s t l
  unfold State.xlRead
  dsimp only
  split
  · exact h2.trans (.ite (Passes.trans (passes_mapLineBad ..) passes_modTile) (.refl _))
  · exact (h2.trans (.ite (passes_mapLineBad ..) (.refl _))).trans (passes_fetchLine ..)

/-- R206: a lookup of the map changes what Translation and the STC hold beside the entries. -/
theorem passes_xlLookup (s : State) (t l : Nat) (u : Upset) : Passes Tile.looked s (s.xlLookup t l u).1 := by
  obtain ⟨x, heff, hx⟩ := s.xlLookup_eq t l u
  rw [heff]
  exact hx.trans (passes_xlRead ..)

end

end Sys2Proof.Machine
end

section
/-! A host read of a line that a frame holds is answered from it (05_front_store.md R141; 03_transactions.md R82). -/

namespace Sys2Proof.Machine

open Sys2Proof

section
variable {s : State} {h l f line : Nat} {r q : Req}

/-- A request stands as before where its tile's requests and its head are as before. -/
theorem State.Stands.of_passes {t : State} (k : s.Stands h r q) (hp : Passes (fun x => (x.txn, x.head)) s t) : t.Stands h r q := by
  have htxn : (t.tile h).txn = (s.tile h).txn := congrArg Prod.fst (hp.keeps.tile h)
  exact k.congr (by rw [htxn]) (by rw [htxn]) (congrArg Prod.snd (hp.keeps.tile h))

theorem passes_noteCase (s : State) (r : Req) (cse base : Nat) :
    Passes (fun x => (x.fs, x.med, x.txn.haz, x.txn.outQ, x.head, x.xl.map)) s (s.noteCase r cse base) := passes_modTile

/-- A request stands as before once its case is noted. -/
theorem State.Stands.noteCase (k : s.Stands h r q) (h8 : h < 8) (cse base : Nat) :
    ∃ q', (s.noteCase r cse base).Stands h r q' ∧ q'.tag = q.tag ∧ q'.kind = q.kind := by
  obtain ⟨φ, heff, hφ⟩ : ∃ φ : Req → Req, s.noteCase r cse base = s.modReq r φ ∧
      ∀ x, (φ x).id = x.id ∧ (φ x).head = x.head ∧ (φ x).tag = x.tag ∧ (φ x).kind = x.kind := ⟨_, rfl, fun _ => ⟨rfl, rfl, rfl, rfl⟩⟩
  obtain ⟨-, hhead, htag, hkind⟩ := hφ q
  have hkeep : Passes (fun x => (x.txn.outQ, x.head)) s (s.modReq r φ) := passes_modTile
  have hout : ((s.modReq r φ).tile h).txn.outQ = (s.tile h).txn.outQ := congrArg Prod.fst (hkeep.keeps.tile h)
  have hhd : ((s.modReq r φ).tile h).head = (s.tile h).head := congrArg Prod.snd (hkeep.keeps.tile h)
  have hqid : q.id = r.id := by simpa using List.find?_some k.trk
  refine ⟨φ q, ?_, htag, hkind⟩
  rw [heff]
  refine ⟨k.own, ?_, hhead.trans k.head, ?_, ?_⟩
  · have hpred : ((fun y : Req => y.id == r.id) ∘ fun y => if y.id = r.id then φ y else y) = fun y => y.id == r.id := by
      funext y
      by_cases hy : y.id = r.id <;> simp [hy, (hφ y).1]
    rw [State.trk, State.modReq, k.own, State.modTxn, State.tile_modTile_self _ _ h8, List.find?_map, hpred]
    have htrk : (s.tile h).txn.tracker.find? (fun y => y.id == r.id) = some q := k.trk
    rw [htrk, Option.map_some, if_pos hqid]
  · rw [State.queued, hout]
    exact k.queued
  · have hh : (s.modReq r φ).head h = s.head h := hhd
    have hcred := k.credit
    rw [State.hasCredit, k.head] at hcred
    rw [State.hasCredit, hkind, hhead, k.head, hh]
    exact hcred

/-- R141: a read of a line that a frame holds looks its segment up, is noted, and is answered from the frame. -/
theorem State.readPerform_hit (ht : (s.tile h).fs.tagFlips = []) (hl : (s.tile h).fs.lineFlips = []) (hf : s.findFrame h l = some f)
    (hv : bitOf (s.frame h f).valid line = true) (latNs : Nat) (idle : Bool) :
    ∃ cse base, s.readPerform h r l line {} latNs idle =
      ((((s.touchWay h f).xlLookup h l {}).1.noteCase r cse base).perfEvent h 0x03 0 1).hazAnswer h r
        (some (agetD line 0 (s.frame h f).lines)) (bitOf (s.frame h f).poison line) latNs := by
  unfold State.readPerform
  simp only [State.tagCheck_clean ht, Bool.false_eq_true, if_false, hf, State.frameCheck_clean hl, hv, if_true]
  split
  · exact ⟨_, _, rfl⟩
  · split
    · exact ⟨_, _, rfl⟩
    · exact ⟨_, _, rfl⟩

/-- What a read leaves as it was: the frames, the media and the entries of the map. -/
def Tile.unread (x : Tile) : List (Nat × Frame) × Media × List (Nat × MapEnt) := (x.fs.frames, x.med, x.xl.map)

theorem perform_read_spec (k : s.Hit h (s.segLocal (r.dpa / 4096)) f) (hs : s.Stands h r q) (h8 : h < 8) (hk : r.kind = .rd)
    (hz : ∀ z ∈ (s.tile h).txn.haz, z.req.id = r.id) (ho : s.segTile (r.dpa / 4096) = h) (hkind : q.kind = .rd)
    (hv : bitOf (s.frame h f).valid (r.dpa / 64 % 64) = true) (latNs : Nat) (idle : Bool) :
    answered s (s.perform h r {} latNs idle) h q.tag (some (agetD (r.dpa / 64 % 64) 0 (s.frame h f).lines))
        (bitOf (s.frame h f).poison (r.dpa / 64 % 64)) = true ∧
      Passes Tile.unread s (s.perform h r {} latNs idle) ∧ ((s.perform h r {} latNs idle).tile h).txn.haz = [] := by
  obtain ⟨cse, base, heff⟩ := State.readPerform_hit (r := r) k.tag k.line k.find hv latNs idle
  have hperf : s.perform h r {} latNs idle = s.readPerform h r (s.segLocal (r.dpa / 4096)) (r.dpa / 64 % 64) {} latNs idle := by
    rw [State.perform, if_neg (not_not.2 ho), if_pos (by simp [hk])]
  rw [hperf, heff]
  have htouch : Passes (fun x => (x.unread, x.txn, x.head)) s (s.touchWay h f) := passes_modTile
  have hlook : Passes (fun x => (x.unread, x.txn, x.head)) s ((s.touchWay h f).xlLookup h (s.segLocal (r.dpa / 4096)) {}).1 :=
    htouch.trans ((passes_xlLookup ..).map fun v => ((v.1.frames, v.2.1, v.2.2.2.2), v.2.2.1, v.2.2.2.1))
  generalize ((s.touchWay h f).xlLookup h (s.segLocal (r.dpa / 4096)) {}).1 = x at hlook ⊢
  have htxn : (x.tile h).txn = (s.tile h).txn := congrArg (fun v => v.2.1) (hlook.keeps.tile h)
  obtain ⟨q', hns, htag, hqk⟩ := (hs.of_passes (hlook.map Prod.snd)).noteCase h8 cse base
  have hperfev : Serves h (fun x => (x.content, x.txn, x.head)) (x.noteCase r cse base) ((x.noteCase r cse base).perfEvent h 0x03 0 1) :=
    serves_perfEvent ..
  have hptxn : (((x.noteCase r cse base).perfEvent h 0x03 0 1).tile h).txn = ((x.noteCase r cse base).tile h).txn :=
    (hperfev.map fun v => v.2.1).own
  obtain ⟨hans, hcont, hend⟩ := hazAnswer_spec (hns.of_passes (hperfev.passes.map Prod.snd)) h8 (some (agetD (r.dpa / 64 % 64) 0 (s.frame h f).lines))
    (bitOf (s.frame h f).poison (r.dpa / 64 % 64)) latNs
  have hin : Passes Tile.unread s ((x.noteCase r cse base).perfEvent h 0x03 0 1) :=
    ((hlook.map Prod.fst).trans ((passes_noteCase ..).map fun v => (v.1.frames, v.2.1, v.2.2.2.2.2))).trans
      (hperfev.passes.map fun v => (v.1.1.frames, v.1.2.1, v.1.2.2.map))
  refine ⟨?_, hin.trans (hcont.passes.map fun v => (v.1.frames, v.2.1, v.2.2.map)), ?_⟩
  · have hresp : q'.response (some (agetD (r.dpa / 64 % 64) 0 (s.frame h f).lines)) = some (agetD (r.dpa / 64 % 64) 0 (s.frame h f).lines) :=
      if_pos (hqk.trans hkind)
    rw [htag, hresp] at hans
    exact answered_of_prefix hin.out hans List.prefix_rfl
  · have hnhaz : ((x.noteCase r cse base).tile h).txn.haz = (s.tile h).txn.haz := by
      rw [show ((x.noteCase r cse base).tile h).txn.haz = _ from congrArg (fun v => v.2.2.1) ((passes_noteCase x r cse base).keeps.tile h), htxn]
    have hempty : (s.tile h).txn.haz.filter (fun z => z.req.id != r.id) = [] := List.filter_eq_nil_iff.2 fun z hzm => by simp [hz z hzm]
    rw [hend, Txn.ended, hptxn, hnhaz, hempty]

end

end Sys2Proof.Machine
end

section
/-! A request of a host arrives at its head, takes an entry of the tracker and is served (02_host_ports.md R49 to R55; 03_transactions.md R71 to
R73). -/

namespace Sys2Proof.Machine

open Sys2Proof

/-- The request that a message of a host becomes, as it was found to be. -/
def State.requestOf (s : State) (m : MemReq) (kind : ReqKind) (data : Line) (be : Nat) (poison : Bool) (w : ReqWay × Nat) : Req :=
  { id := s.jobs.nextId, head := m.head, tag := m.tag, ld := m.ld, dpa := w.2, kind := kind, data := data, be := be, poison := poison,
    owner := if w.1 == .line && kind != .inv then s.segTile (w.2 / 4096) else m.head, way := w.1, metaField := m.metaField }

/-- R73, R501: a request has taken its credit and its number, and is counted. -/
def State.arrived (s : State) (m : MemReq) (kind : ReqKind) (poison : Bool) (way : ReqWay) : State :=
  let s0 := (s.creditTake m.head kind).modJobs (fun j => { j with nextId := j.nextId + 1 })
  let s1 := if kind = .inv then s0 else s0.perfEvent m.head (if kind = .rd then 1 else 2) 0 1
  if poison && way != .refuse then s1.latch (Reg.HEAD_ERR_STATUS m.head) 5 Gb.POISON_RX m.head ([m.head] ++ gbWide m.hpa) else s1

/-- R71, R73: a request has an entry of its head's tracker, its credit is back, and its LD uses bandwidth. -/
def State.entered (s : State) (r : Req) : State :=
  let s1 := (s.modTxn r.head (fun x => { x with tracker := x.tracker ++ [r] })).creditBack r.head r.kind
  if r.way == .line && r.kind != .inv then s1.modLd (s1.ldOf r.head r.ld) (fun d => { d with bwUsed := d.bwUsed + 1 }) else s1

theorem State.allocate_eq (s : State) (r : Req) (u : Upset) (latNs : Nat) (idle : Bool) :
    s.allocate r u latNs idle = (s.entered { r with timeoutMs := s.timeoutMs r.head }).serveReq { r with timeoutMs := s.timeoutMs r.head } u latNs idle :=
  rfl

/-- A head but for the credits that its host holds. -/
def Head.uncredited (d : Head) : Head := { d with reqCredits := 0, rwdCredits := 0, rwdPaced := 0 }

/-- What the arrival of a request leaves of a tile. -/
def Tile.arrival (x : Tile) : (FrontStore × Media × Xlate) × Txn × Head := (x.content, x.txn, x.head.uncredited)

section
variable {s : State} {h : Nat} {kind : ReqKind}

theorem serves_creditTake (s : State) (h : Nat) (kind : ReqKind) : Serves h Tile.arrival s (s.creditTake h kind) :=
  serves_modTile s fun x => by
    simp only [Tile.arrival]
    split <;> rfl

theorem serves_creditBack (s : State) (h : Nat) (kind : ReqKind) : Serves h Tile.arrival s (s.creditBack h kind) :=
  serves_modTile s fun x => by
    simp only [Tile.arrival]
    split
    · rfl
    · split <;> rfl

/-- The number that the next request gets is used. -/
def State.numbered (s : State) : State := s.modJobs (fun j => { j with nextId := j.nextId + 1 })

/-- The arrival of a request leaves the content of the tile, its requests, and its head but for the credits. -/
theorem serves_arrived (s : State) (m : MemReq) (kind : ReqKind) (poison : Bool) (way : ReqWay) :
    Serves m.head Tile.arrival s.numbered (s.arrived m kind poison way) := by
  have hcredit : Serves m.head Tile.arrival s.numbered ((s.creditTake m.head kind).modJobs (fun j => { j with nextId := j.nextId + 1 })) :=
    serves_creditTake s.numbered m.head kind
  have hcount := hcredit.trans (.ite (p := kind = .inv) (.refl _) (serves_perfEvent _ (if kind = .rd then 1 else 2) 0 1))
  exact hcount.trans (.ite (serves_latch ..) (.refl _))

theorem State.cap_arrived (s : State) (m : MemReq) (kind : ReqKind) (poison : Bool) (way : ReqWay) : (s.arrived m kind poison way).cap = s.cap := by
  have hperf (a : State) (no : Nat) : (a.perfEvent m.head no 0 1).cap = a.cap := by rw [(countersOnly_perfEvent a m.head no 0 1).frame]
  refine (apply_ite State.cap _ _ _).trans ?_
  rw [State.latch_cap, ite_self, apply_ite State.cap, hperf]
  exact ite_self _

theorem State.bwRoom_congr {a : State} {c : Nat} (hc : a.cap = s.cap) (hh : (a.head (c / 16)).linesPerUs = (s.head (c / 16)).linesPerUs) :
    a.bwRoom c = s.bwRoom c := by
  unfold State.bwRoom State.ldev
  rw [hc, hh]

/-- R71, R72: with nothing in its tracker, and bandwidth left, a head has an entry for a request that has arrived. -/
theorem State.canAllocate_arrived {m : MemReq} {poison : Bool} {way : ReqWay} {r : Req} (hr : r.head = m.head) (hl : r.ld = m.ld)
    (ht : (s.tile m.head).txn.tracker = []) (hb : s.bwRoom (s.ldOf m.head m.ld) = true) :
    (s.arrived m kind poison way).canAllocate r = true := by
  have ha := serves_arrived s m kind poison way
  have hcap := s.cap_arrived m kind poison way
  generalize s.arrived m kind poison way = a at ha hcap ⊢
  have htrk : (a.tile m.head).txn.tracker = [] := (ha.map fun v => v.2.1.tracker).own.trans ht
  have hmld : (a.head m.head).mld = (s.head m.head).mld := (ha.map fun v => v.2.2.mld).own
  have hspeed : ∀ k, (a.head k).linesPerUs = (s.head k).linesPerUs := fun k => by
    have hk : (a.head k).uncredited = (s.head k).uncredited := (ha.passes.map fun v => v.2.2).keeps.tile k
    change (a.head k).uncredited.linesPerUs = (s.head k).uncredited.linesPerUs
    rw [hk]
  have hld : a.ldOf m.head m.ld = s.ldOf m.head m.ld := by rw [State.ldOf, State.ldOf, hmld]
  have hres : a.readReserve m.head < a.trackerCap m.head := by
    rw [State.readReserve, State.trackerCap]
    split <;> omega
  have hcapPos : 0 < a.trackerCap m.head := Nat.zero_lt_of_lt hres
  simp only [State.canAllocate, hr, hl, htrk, hld, State.bwRoom_congr hcap (hspeed _), hb]
  simp [hres, hcapPos]

/-- R53, R71: a request that is taken, with nothing else in the tracker of its head, is allocated at once. -/
theorem State.memRequest_allocates {m : MemReq} {data : Line} {be : Nat} {poison : Bool} (hm : s.memTaken m.head = true) (hi : m.ideOk = true)
    (ht : (s.tile m.head).txn.tracker = []) (hin : (s.tile m.head).txn.ingress = []) (hb : s.bwRoom (s.ldOf m.head m.ld) = true) :
    s.memRequest m kind data be poison =
      (s.arrived m kind poison (s.reqWay m kind).1).allocate (s.requestOf m kind data be poison (s.reqWay m kind)) m.upset m.latNs m.idle := by
  have hcan := s.canAllocate_arrived (kind := kind) (poison := poison) (way := (s.reqWay m kind).1)
    (r := s.requestOf m kind data be poison (s.reqWay m kind)) rfl rfl ht hb
  have hing : ((s.arrived m kind poison (s.reqWay m kind).1).tile m.head).txn.ingress = [] :=
    ((serves_arrived s m kind poison (s.reqWay m kind).1).map fun v => v.2.1.ingress).own.trans hin
  have hif : ((s.arrived m kind poison (s.reqWay m kind).1).canAllocate (s.requestOf m kind data be poison (s.reqWay m kind)) &&
      !(((s.arrived m kind poison (s.reqWay m kind).1).tile m.head).txn.ingress.any (fun i => i.kind.isWrite == kind.isWrite))) = true := by
    rw [hcan, hing]
    rfl
  rw [State.memRequest, hm, hi]
  exact if_pos hif

/-- A request with its entry: what the arrival left of the tile is as it was, and the tracker holds the request last. -/
theorem serves_entered (s : State) (r : Req) :
    Serves r.head (fun x => (x.content, { x.txn with tracker := [] }, x.head.uncredited)) s (s.entered r) := by
  have htrk : Serves r.head (fun x => (x.content, ({ x.txn with tracker := [] } : Txn), x.head.uncredited)) s
      (s.modTxn r.head (fun x => { x with tracker := x.tracker ++ [r] })) := serves_modTile s
  have hback := htrk.trans ((serves_creditBack _ r.head r.kind).map fun v => (v.1, ({ v.2.1 with tracker := [] } : Txn), v.2.2))
  exact hback.trans (.ite (serves_modLd ..) (.refl _))

theorem State.tracker_entered (s : State) {r : Req} (h8 : r.head < 8) :
    ((s.entered r).tile r.head).txn.tracker = (s.tile r.head).txn.tracker ++ [r] := by
  have htrk : ((s.modTxn r.head (fun x => { x with tracker := x.tracker ++ [r] })).tile r.head).txn.tracker = (s.tile r.head).txn.tracker ++ [r] := by
    rw [State.modTxn, State.tile_modTile_self _ _ h8]
  have hback : Serves r.head (fun x => x.txn.tracker) (s.modTxn r.head (fun x => { x with tracker := x.tracker ++ [r] })) (s.entered r) :=
    ((serves_creditBack _ r.head r.kind).map fun v => v.2.1.tracker).trans (.ite (serves_modLd ..) (.refl _))
  rw [hback.own, htrk]

end

end Sys2Proof.Machine
end

section
/-! A request that hits a frame of the head that receives it, from its arrival to its answer (05_front_store.md R141, R142). -/

namespace Sys2Proof.Machine

open Sys2Proof

/-- Nothing is in the way of a request of a host, and it hits frame `f` of its own head. -/
structure State.Clear (s : State) (m : MemReq) (dpa f : Nat) : Prop where
  port : m.head < 8
  taken : s.memTaken m.head = true
  ide : m.ideOk = true
  upset : m.upset = {}
  served : s.memRefused m.head (s.ldOf m.head m.ld) = false
  decode : s.memDecode (s.ldOf m.head m.ld) m.hpa = .line dpa
  works : bitOf s.md.failed m.head = false
  owner : s.segTile (dpa / 4096) = m.head
  tracker : (s.tile m.head).txn.tracker = []
  ingress : (s.tile m.head).txn.ingress = []
  outQ : (s.tile m.head).txn.outQ = []
  haz : (s.tile m.head).txn.haz = []
  hazWait : (s.tile m.head).txn.hazWait = []
  bw : s.bwRoom (s.ldOf m.head m.ld) = true
  locks : s.locksHeld m.head < 16384
  hit : s.Hit m.head (s.segLocal (dpa / 4096)) f
  ndr : (s.head m.head).ndr = none
  drs : (s.head m.head).drs = none

theorem State.clear_of_directHit {s : State} {m : MemReq} {dpa f : Nat} (k : s.directHit m dpa f = true) : s.Clear m dpa f := by
  simp only [State.directHit, Bool.and_eq_true, decide_eq_true_eq, Bool.not_eq_true', List.isEmpty_iff, beq_iff_eq, Option.isNone_iff_eq_none] at k
  obtain ⟨⟨⟨⟨⟨⟨⟨⟨⟨⟨⟨⟨⟨⟨⟨⟨⟨⟨⟨⟨⟨⟨⟨⟨⟨port, link⟩, secure⟩, ide⟩, upset⟩, served⟩, decode⟩, works⟩, owner⟩, tracker⟩, ingress⟩, outQ⟩, haz⟩, hazWait⟩, -⟩,
    bw⟩, locks⟩, map⟩, -⟩, tag⟩, line⟩, find⟩, dirty⟩, through⟩, ndr⟩, drs⟩ := k
  have taken : s.memTaken m.head = true := by
    rw [State.memTaken, link, secure]
    rfl
  exact ⟨port, taken, ide, upset, served, decode, works, owner, tracker, ingress, outQ, haz, hazWait, bw, locks,
    ⟨tag, line, map, find, dirty, through⟩, ndr, drs⟩

/-- R98: the request of a line, with the time-out that it has in state `a`, in which its message has arrived. -/
def State.lineRequest (s a : State) (m : MemReq) (dpa : Nat) (kind : ReqKind) (data : Line) (be : Nat) (poison : Bool) : Req :=
  { s.requestOf m kind data be poison (.line, dpa) with timeoutMs := a.timeoutMs m.head }

/-- Request `r` stands at its head with its line, alone in the hazard table of state `b`, and serving it there is what its message does. -/
structure State.Admits (s : State) (m : MemReq) (dpa f : Nat) (kind : ReqKind) (data : Line) (be : Nat) (poison : Bool) (b : State) (r : Req) : Prop where
  request : ∃ a, r = s.lineRequest a m dpa kind data be poison
  serves : Serves m.head Tile.content s.numbered b
  stands : b.Stands m.head r r
  haz : ∃ z, (b.tile m.head).txn.haz = [z] ∧ z.req.id = r.id
  run : s.memRequest m kind data be poison = (b.perform m.head r {} m.latNs m.idle).wakeLines m.head m.latNs

section
variable {s : State} {m : MemReq} {dpa f : Nat} {kind : ReqKind}

theorem State.locksHeld_congr {a : State} {t : Nat} (hc : (a.tile t).content = (s.tile t).content) (hl : (a.tile t).txn.locks = (s.tile t).txn.locks) :
    a.locksHeld t = s.locksHeld t := by
  have hfs : (a.tile t).fs = (s.tile t).fs := congrArg Prod.fst hc
  have hxl : (a.tile t).xl = (s.tile t).xl := congrArg (fun x => x.2.2) hc
  unfold State.locksHeld
  rw [hfs, hxl, hl]

theorem State.reqWay_line (k : s.Clear m dpa f) (hk : kind ≠ .inv) : s.reqWay m kind = (.line, dpa) := by
  have hinv : (kind == ReqKind.inv) = false := by simpa using hk
  unfold State.reqWay
  simp only [k.served, hinv, k.decode, Bool.false_eq_true, if_false]

/-- R53, R71, R77, R78: a request with nothing in its way takes its entry, is recognised at its own tile, and is performed at once. -/
theorem State.Clear.admits (k : s.Clear m dpa f) (hk : kind ≠ .inv) (data : Line) (be : Nat) (poison : Bool) :
    ∃ b r, s.Admits m dpa f kind data be poison b r := by
  have hway := State.reqWay_line k hk
  have hrun := State.memRequest_allocates (kind := kind) (data := data) (be := be) (poison := poison) k.taken k.ide k.tracker k.ingress k.bw
  rw [hway, State.allocate_eq, k.upset] at hrun
  have harr := serves_arrived s m kind poison .line
  generalize s.arrived m kind poison .line = a at hrun harr
  obtain ⟨r, hr⟩ : ∃ r, r = s.lineRequest a m dpa kind data be poison := ⟨_, rfl⟩
  have hrh : r.head = m.head := by
    rw [hr]
    rfl
  have hrk : r.kind = kind := by
    rw [hr]
    rfl
  have hrd : r.dpa = dpa := by
    rw [hr]
    rfl
  have hrw : r.way = .line := by
    rw [hr]
    rfl
  change s.memRequest m kind data be poison = (a.entered (s.lineRequest a m dpa kind data be poison)).serveReq
    (s.lineRequest a m dpa kind data be poison) {} m.latNs m.idle at hrun
  rw [← hr] at hrun
  have hent : Serves m.head (fun x => (x.content, ({ x.txn with tracker := [] } : Txn), x.head.uncredited)) s.numbered (a.entered r) :=
    (harr.map fun v => (v.1, ({ v.2.1 with tracker := [] } : Txn), v.2.2)).trans (hrh ▸ serves_entered a r)
  have htrk : ((a.entered r).tile m.head).txn.tracker = [r] := by
    rw [← hrh, State.tracker_entered a (r := r) (hrh ▸ k.port), hrh, show (a.tile m.head).txn.tracker = [] from (harr.map fun v => v.2.1.tracker).own.trans k.tracker]
    rfl
  generalize a.entered r = e at hrun hent htrk
  have hserve : e.serveReq r {} m.latNs m.idle = e.dispatchReq r {} m.latNs m.idle := by
    rw [State.serveReq, hrw, hrk]
    exact if_neg (by simpa using hk)
  have hhaz : (e.tile m.head).txn.haz = [] := (hent.map fun v => v.2.1.haz).own.trans k.haz
  have hwait : (e.tile m.head).txn.hazWait = [] := (hent.map fun v => v.2.1.hazWait).own.trans k.hazWait
  have hroom : e.hazUsed m.head < 16384 := by
    have hl : e.locksHeld m.head = s.locksHeld m.head :=
      State.locksHeld_congr (hent.map fun v => v.1).own (hent.map fun v => v.2.1.locks).own
    rw [State.hazUsed, hhaz, List.length_nil, hl, Nat.zero_add]
    exact k.locks
  have howner : e.segTile (r.dpa / 4096) = r.head := by
    rw [State.segTile, State.kBits, hent.pop]
    rw [hrh, hrd]
    exact k.owner
  rw [hserve, State.dispatchReq_own howner (by rw [hent.md, hrh]; exact k.works), hrh, State.recognise_room hroom hwait,
    State.letIn_alone hhaz k.port] at hrun
  have halone : Serves m.head (fun x => (x.content, x.txn.tracker, x.txn.outQ, x.head)) e (e.alone m.head 0 r) := serves_modTile e
  have htrack : ((e.alone m.head 0 r).tile m.head).txn.tracker = [r] := (halone.map fun v => v.2.1).own.trans htrk
  have hout : ((e.alone m.head 0 r).tile m.head).txn.outQ = [] :=
    (halone.map fun v => v.2.2.1).own.trans ((hent.map fun v => v.2.1.outQ).own.trans k.outQ)
  refine ⟨e.alone m.head 0 r, r, ⟨a, hr⟩, (hent.map fun v => v.1).trans (halone.map fun v => v.1), ⟨hrh, ?_, hrh, ?_, ?_⟩, ?_, hrun⟩
  · rw [State.trk, htrack]
    exact List.find?_cons_of_pos (beq_self_eq_true _)
  · rw [State.queued, hout]
    rfl
  · have hndr := ((halone.map fun v => v.2.2.2.ndr).own.trans (hent.map fun v => v.2.2.ndr).own).trans k.ndr
    have hdrs := ((halone.map fun v => v.2.2.2.drs).own.trans (hent.map fun v => v.2.2.drs).own).trans k.drs
    exact State.hasCredit_of_none (by rw [hrh]; exact hndr) (by rw [hrh]; exact hdrs)
  · refine ⟨e.entry m.head 0 r, ?_, rfl⟩
    rw [State.alone, State.modTxn, State.tile_modTile_self _ _ k.port]

variable {data : Line} {be : Nat} {poison : Bool} {b : State} {r : Req}

theorem State.Admits.at_dpa (ha : s.Admits m dpa f kind data be poison b r) : r.dpa = dpa := by
  obtain ⟨a, rfl⟩ := ha.request
  rfl

theorem State.Admits.hit (ha : s.Admits m dpa f kind data be poison b r) (k : s.Clear m dpa f) : b.Hit m.head (b.segLocal (r.dpa / 4096)) f := by
  have hl : b.segLocal (r.dpa / 4096) = s.segLocal (dpa / 4096) := by
    rw [State.segLocal, State.kBits, ha.serves.pop, ha.at_dpa]
    rfl
  rw [hl]
  exact State.Hit.congr (s := s.numbered) ⟨k.hit.tag, k.hit.line, k.hit.map, k.hit.find, k.hit.dirty, k.hit.through⟩ ha.serves.pop
    (by rw [ha.serves.jobs]) ha.serves.own

theorem State.Admits.owner (ha : s.Admits m dpa f kind data be poison b r) (k : s.Clear m dpa f) : b.segTile (r.dpa / 4096) = m.head := by
  rw [State.segTile, State.kBits, ha.serves.pop, ha.at_dpa]
  have howner : s.segTile (dpa / 4096) = m.head := k.owner
  exact howner

end

end Sys2Proof.Machine
end

section
/-! Bits and bytes of a line that a host writes (02_host_ports.md R56; 05_front_store.md R142). -/

namespace Sys2Proof.Machine

open Sys2Proof

theorem bitOf_eq_testBit (n b : Nat) : bitOf n b = n.testBit b := by
  rw [Nat.testBit_eq_decide_div_mod_eq]
  rfl

theorem bitOf_setBit_self (n b : Nat) : bitOf (setBit n b) b = true := by
  rw [bitOf_eq_testBit, setBit, Nat.testBit_or, Nat.testBit_two_pow_self, Bool.or_true]

theorem bitOf_clearBit_self (n b : Nat) : bitOf (clearBit n b) b = false := by
  rw [clearBit]
  split
  · next hset =>
    have hodd : n / 2 ^ b % 2 = 1 := by simpa [bitOf] using hset
    have hdiv : (n - 2 ^ b) / 2 ^ b = n / 2 ^ b - 1 := by
      simpa using Nat.sub_mul_div n (2 ^ b) 1
    simp only [bitOf, hdiv, beq_eq_false_iff_ne]
    omega
  · next hclear => simpa using hclear

theorem bitOf_putBit_self (n b : Nat) (v : Bool) : bitOf (putBit n b v) b = v := by
  cases v
  · exact bitOf_clearBit_self n b
  · exact bitOf_setBit_self n b

theorem bitOf_mod_two_pow {n j w : Nat} (h : j < w) : bitOf (n % 2 ^ w) j = bitOf n j := by
  rw [bitOf_eq_testBit, bitOf_eq_testBit, Nat.testBit_mod_two_pow, decide_eq_true h, Bool.true_and]

/-- Of a number of which every bit below 64 is set, each of them reads 1. -/
theorem bitOf_of_all {n j : Nat} (hn : n % 2 ^ 64 = 2 ^ 64 - 1) (h : j < 64) : bitOf n j = true := by
  rw [← bitOf_mod_two_pow h, hn, bitOf_eq_testBit, Nat.testBit_two_pow_sub_one, decide_eq_true h]

/-- The first `n` bytes of a line that is put together of bytes. -/
theorem getLsbD_lineBytes (f : Nat → BitVec 8) (n i : Nat) :
    ((List.range n).foldl (fun (l : Line) j => l ||| ((f j).setWidth 512 <<< (8 * j))) 0).getLsbD i =
      (decide (i < 512) && decide (i < 8 * n) && (f (i / 8)).getLsbD (i % 8)) := by
  induction n with
  | zero => simp
  | succ n ih =>
    rw [List.range_succ, List.foldl_append, List.foldl_cons, List.foldl_nil, BitVec.getLsbD_or, ih, BitVec.getLsbD_shiftLeft, BitVec.getLsbD_setWidth]
    rcases Nat.lt_trichotomy (i / 8) n with h | rfl | h
    · have hlo : i < 8 * n := by omega
      simp [hlo, show i < 8 * (n + 1) by omega]
    · have hge : ¬ i < 8 * (i / 8) := by omega
      have hoff : i - 8 * (i / 8) = i % 8 := by omega
      have hwide : i % 8 < 512 := by omega
      simp [hge, hoff, hwide, show i < 8 * (i / 8 + 1) by omega]
    · have hbit : (f n).getLsbD (i - 8 * n) = false := BitVec.getLsbD_of_ge _ _ (by omega)
      simp [hbit, show ¬ i < 8 * n by omega, show ¬ i < 8 * (n + 1) by omega]

theorem lineByte_lineOf (f : Nat → BitVec 8) {j : Nat} (h : j < 64) : lineByte (lineOf f) j = f j := by
  apply BitVec.eq_of_getLsbD_eq
  intro i hi
  have hdiv : (8 * j + i) / 8 = j := by omega
  have hmod : (8 * j + i) % 8 = i := by omega
  rw [lineByte, BitVec.getLsbD_extractLsb', decide_eq_true hi, Bool.true_and, lineOf, getLsbD_lineBytes, hdiv, hmod,
    decide_eq_true (show 8 * j + i < 512 by omega), Bool.true_and, Bool.true_and]

/-! ### A frame that a host writes to (R142) -/

section
variable (x : Frame) (line : Nat) (r : Req)

theorem Frame.write_valid : bitOf (x.write line r).valid line = true := bitOf_setBit_self ..
theorem Frame.write_dirty : bitOf (x.write line r).dirty line = true := bitOf_setBit_self ..

theorem Frame.write_line_ne {i : Nat} (h : i ≠ line) : agetD i 0 (x.write line r).lines = agetD i 0 x.lines := agetD_aputD_ne h ..

/-- R142: a line that is written whole is the request's, with its poison. -/
theorem Frame.write_line_full (h : r.kind = .wr) :
    agetD line 0 (x.write line r).lines = r.data ∧ bitOf (x.write line r).poison line = r.poison := by
  have hfull : (r.kind == .wr || r.be % 2 ^ 64 == 2 ^ 64 - 1) = true := by rw [h]; rfl
  unfold Frame.write
  simp only [hfull]
  exact ⟨agetD_aputD_self .., (bitOf_putBit_self ..).trans (by simp)⟩

/-- R142: of a line that is written, an enabled byte is the request's and another is the frame's. -/
theorem Frame.write_line_byte (h : r.kind ≠ .wr) {j : Nat} (hj : j < 64) :
    lineByte (agetD line 0 (x.write line r).lines) j = if bitOf r.be j then lineByte r.data j else lineByte (agetD line 0 x.lines) j := by
  have hline : agetD line 0 (x.write line r).lines = if r.kind == .wr || r.be % 2 ^ 64 == 2 ^ 64 - 1 then r.data
      else mergeBytes r.be (agetD line 0 x.lines) r.data := agetD_aputD_self ..
  have hkind : (r.kind == .wr) = false := by simpa using h
  rw [hline, hkind, Bool.false_or]
  by_cases hfull : r.be % 2 ^ 64 = 2 ^ 64 - 1
  · rw [if_pos (by rw [hfull]; rfl), if_pos (bitOf_of_all hfull hj)]
  · rw [if_neg (by simpa using hfull), mergeBytes, lineByte_lineOf _ hj]

end

end Sys2Proof.Machine
end

section
/-! Host reads and writes that hit the Front Store (02_host_ports.md R53 to R56; 05_front_store.md R141 to R143). -/

namespace Sys2Proof.Machine

open Sys2Proof

theorem wakes_of_haz {t : State} {h : Nat} {P : State → Prop} (hh : (t.tile h).txn.haz = []) (hP : P t) (latNs : Nat) : P (t.wakeLines h latNs) := by
  rwa [State.wakeLines_of_nil hh]

section
variable {s : State} {m : MemReq} {dpa f : Nat} {kind : ReqKind} {data : Line} {be : Nat} {poison : Bool}

/-- R80, R142, R204: what a host write that hits a Dirty frame leaves. -/
structure StoresLine (s t : State) (m : MemReq) (dpa f : Nat) (r : Req) : Prop where
  answered : answered s t m.head m.tag none false = true
  frame : t.frame m.head f = (s.frame m.head f).write (dpa / 64 % 64) r
  frames : ∀ g, g ≠ f → t.frame m.head g = s.frame m.head g
  xl : (t.tile m.head).xl = ((s.markFront m.head (s.segLocal (dpa / 4096))).tile m.head).xl
  serves : Serves m.head Tile.med s.numbered t

theorem frame_of_serves {b : State} {h : Nat} (k : Serves h Tile.content s.numbered b) (g : Nat) : b.frame h g = s.frame h g := by
  rw [State.frame, k.fs]
  rfl

/-- A write with nothing in its way is stored in the frame that it hits and answered. -/
theorem memRequest_stores (k : s.directHit m dpa f = true) (hw : kind = .wr ∨ kind = .ptl ∧ bitOf (s.frame m.head f).valid (dpa / 64 % 64) = true) :
    ∃ a, StoresLine s (s.memRequest m kind data be poison) m dpa f (s.lineRequest a m dpa kind data be poison) := by
  have hc := State.clear_of_directHit k
  have hinv : kind ≠ .inv := by rcases hw with rfl | ⟨rfl, -⟩ <;> exact ReqKind.noConfusion
  have hrd : kind ≠ .rd := by rcases hw with rfl | ⟨rfl, -⟩ <;> exact ReqKind.noConfusion
  obtain ⟨b, r, ha⟩ := hc.admits hinv data be poison
  obtain ⟨z, hz, hid⟩ := ha.haz
  obtain ⟨a, hr⟩ := ha.request
  have hdpa := ha.at_dpa
  have hout : s.outbox <+: b.outbox := ha.serves.out
  have hframe := frame_of_serves ha.serves
  have hkind : r.kind = kind := by
    rw [hr]
    rfl
  have hresp : r.response none = none := ite_self _
  have htag : r.tag = m.tag := by
    rw [hr]
    rfl
  have hfull : (r.kind == .wr || bitOf (b.frame m.head f).valid (r.dpa / 64 % 64)) = true := by
    rw [hkind, hdpa, hframe]
    rcases hw with rfl | ⟨rfl, hv⟩
    · rfl
    · rw [hv]
      rfl
  have hst := perform_write_spec (ha.hit hc) ha.stands hc.port hz hid (ha.owner hc) (hkind ▸ hrd) hfull m.latNs m.idle
  have hloc : b.segLocal (dpa / 4096) = s.segLocal (dpa / 4096) := by
    rw [State.segLocal, State.kBits, ha.serves.pop]
    rfl
  rw [hdpa, hframe, hloc] at hst
  refine ⟨a, ?_⟩
  rw [ha.run, ← hr]
  refine wakes_of_haz (P := fun t => StoresLine s t m dpa f r) hst.haz ⟨?_, ?_, ?_, ?_, (ha.serves.map fun v => v.2.1).trans hst.serves⟩ m.latNs
  · have hans := hst.answered
    rw [htag, hresp] at hans
    exact answered_of_prefix hout hans List.prefix_rfl
  · exact State.frame_of_frames hst.frames
  · intro g hg
    rw [State.frame_of_frames_ne hst.frames hg, hframe]
  · rw [hst.xl, State.xl_markFront hc.hit.map hc.port, State.mapRaw_congr ha.serves.car ha.serves.pop (by rw [ha.serves.xl]), ha.serves.xl]
    rfl

/-- A read of a line that a frame holds, with nothing in its way, is answered from the frame. -/
theorem memRequest_reads (k : s.directHit m dpa f = true) (hv : bitOf (s.frame m.head f).valid (dpa / 64 % 64) = true) :
    answered s (s.memRequest m .rd 0 0 false) m.head m.tag (some (agetD (dpa / 64 % 64) 0 (s.frame m.head f).lines))
        (bitOf (s.frame m.head f).poison (dpa / 64 % 64)) = true ∧
      Passes Tile.unread s.numbered (s.memRequest m .rd 0 0 false) := by
  have hc := State.clear_of_directHit k
  obtain ⟨b, r, ha⟩ := hc.admits (kind := .rd) ReqKind.noConfusion 0 0 false
  obtain ⟨z, hz, hid⟩ := ha.haz
  obtain ⟨a, hr⟩ := ha.request
  have hdpa := ha.at_dpa
  have hout : s.outbox <+: b.outbox := ha.serves.out
  have hframe := frame_of_serves ha.serves f
  have hkind : r.kind = .rd := by
    rw [hr]
    rfl
  have htag : r.tag = m.tag := by
    rw [hr]
    rfl
  obtain ⟨hans, hpass, hend⟩ := perform_read_spec (ha.hit hc) ha.stands hc.port hkind (by simpa [hz] using hid) (ha.owner hc) hkind
    (by rw [hdpa, hframe]; exact hv) m.latNs m.idle
  rw [hdpa, hframe, htag] at hans
  have hin : Passes Tile.unread s.numbered b := ha.serves.passes.map fun v => (v.1.frames, v.2.1, v.2.2.map)
  rw [ha.run]
  exact wakes_of_haz (P := fun t => answered s t m.head m.tag _ _ = true ∧ Passes Tile.unread s.numbered t) hend
    ⟨answered_of_prefix hout hans List.prefix_rfl, hin.trans hpass⟩ m.latNs

theorem frame_of_passes {t : State} {h : Nat} (k : Passes Tile.unread s.numbered t) (g : Nat) :
    t.frame h g = s.frame h g ∧ (t.tile h).med = (s.tile h).med ∧ (t.tile h).xl.map = (s.tile h).xl.map := by
  have htile := k.keeps.tile h
  refine ⟨?_, congrArg (fun v => v.2.1) htile, congrArg (fun v => v.2.2) htile⟩
  rw [State.frame, show (t.tile h).fs.frames = _ from congrArg (fun v => v.1) htile]
  rfl

end

theorem exec_memWr (m : MemReq) (data : Line) (poison : Bool) (s : State) :
    exec (.memWr m data poison) s = s.run (fun x => x.memRequest m .wr data (2 ^ 64 - 1) poison) := rfl

theorem exec_memWrPtl (m : MemReq) (data : Line) (be : Nat) (poison : Bool) (s : State) :
    exec (.memWrPtl m data be poison) s = s.run (fun x => x.memRequest m .ptl data (be % 2 ^ 64) poison) := rfl

theorem exec_memRd (m : MemReq) (s : State) : exec (.memRd m) s = s.run (fun x => x.memRequest m .rd 0 0 false) := rfl

theorem exec_memRdData (m : MemReq) (s : State) : exec (.memRdData m) s = s.run (fun x => x.memRequest m .rd 0 0 false) := rfl

/-- Settles O31: with nothing in its way a request is performed at its own tile as soon as it arrives, where a write goes to the frame that it hits and
a read is answered from it. -/
theorem frontStoreHits : Obligations.FrontStoreHits := by
  unfold Obligations.FrontStoreHits
  refine ⟨?_, ?_, ?_, ?_, ?_⟩
  · intro s m dpa f i g data poison k hi hg
    obtain ⟨a, hst⟩ := memRequest_stores (data := data) (be := 2 ^ 64 - 1) (poison := poison) k (.inl rfl)
    obtain ⟨hline, hpoison⟩ := Frame.write_line_full (s.frame m.head f) (dpa / 64 % 64) (s.lineRequest a m dpa .wr data (2 ^ 64 - 1) poison) rfl
    have hfr := hst.frame
    refine ⟨_, exec_memWr m data poison s, ?_⟩
    refine ⟨?_, ?_, ?_, ?_, ?_, ?_, ?_, hst.frames g hg, hst.serves.own, hst.xl, hst.answered⟩
    · exact (congrArg (fun y : Frame => agetD (dpa / 64 % 64) 0 y.lines) hfr).trans hline
    · exact (congrArg (fun y : Frame => bitOf y.valid (dpa / 64 % 64)) hfr).trans (Frame.write_valid ..)
    · exact (congrArg (fun y : Frame => bitOf y.dirty (dpa / 64 % 64)) hfr).trans (Frame.write_dirty ..)
    · exact (congrArg (fun y : Frame => bitOf y.poison (dpa / 64 % 64)) hfr).trans hpoison
    · exact (congrArg Frame.st hfr).trans ((Frame.write_st ..).trans (State.clear_of_directHit k).hit.dirty)
    · exact (congrArg Frame.seg hfr).trans (Frame.write_seg ..)
    · exact (congrArg (fun y : Frame => agetD i 0 y.lines) hfr).trans (Frame.write_line_ne _ _ _ hi)
  · intro s m dpa f u data poison k hu
    obtain ⟨a, hst⟩ := memRequest_stores (data := data) (be := 2 ^ 64 - 1) (poison := poison) k (.inl rfl)
    have hs := hst.serves
    exact ⟨_, exec_memWr m data poison s, hs.others u hu, hs.ps, hs.pw, hs.md, hs.table, hs.sec⟩
  · intro s m dpa f i g j be data poison k hv hi hg hj
    obtain ⟨a, hst⟩ := memRequest_stores (data := data) (be := be % 2 ^ 64) (poison := poison) k (.inr ⟨rfl, hv⟩)
    have hbyte := Frame.write_line_byte (s.frame m.head f) (dpa / 64 % 64) (s.lineRequest a m dpa .ptl data (be % 2 ^ 64) poison) ReqKind.noConfusion hj
    have hbe : bitOf (s.lineRequest a m dpa .ptl data (be % 2 ^ 64) poison).be j = bitOf be j := bitOf_mod_two_pow hj
    rw [hbe] at hbyte
    have hfr := hst.frame
    refine ⟨_, exec_memWrPtl m data be poison s, ?_⟩
    refine ⟨?_, ?_, ?_, hst.frames g hg, hst.serves.own, hst.xl, hst.answered⟩
    · exact (congrArg (fun y : Frame => lineByte (agetD (dpa / 64 % 64) 0 y.lines) j) hfr).trans hbyte
    · exact (congrArg (fun y : Frame => bitOf y.dirty (dpa / 64 % 64)) hfr).trans (Frame.write_dirty ..)
    · exact (congrArg (fun y : Frame => agetD i 0 y.lines) hfr).trans (Frame.write_line_ne _ _ _ hi)
  · intro s m dpa f g k hv
    obtain ⟨hans, hpass⟩ := memRequest_reads k hv
    exact ⟨_, exec_memRd m s, hans, frame_of_passes hpass g⟩
  · intro s m dpa f g k hv
    obtain ⟨hans, hpass⟩ := memRequest_reads k hv
    exact ⟨_, exec_memRdData m s, hans, frame_of_passes hpass g⟩

end Sys2Proof.Machine
end

section
/-! A mailbox command of an LD is run (02_host_ports.md R65). -/

namespace Sys2Proof.Machine

open Sys2Proof

section
variable {s : State} {h ld op : Nat}

/-- With no Scan Media under way there is none to end. -/
theorem scanEnd_of_none (k : ∀ c ∈ s.ldCodes, ∀ n, (s.ldev c).bg ≠ some (.scan n)) : s.scanEnd = s := by
  have hfold : ∀ l : List Nat, (∀ c ∈ l, ∀ n, (s.ldev c).bg ≠ some (.scan n)) → l.foldl (fun a c =>
      match (a.ldev c).bg with
      | some (.scan _) =>
        if a.aliveTiles.any (fun t => (a.tile t).med.scan.any (fun e => e.2 == c)) then a else a.modLd c (fun d => { d with bg := none, bgLast := (0x4304, 0) })
      | _ => a) s = s := by
    intro l hl
    induction l with
    | nil => rfl
    | cons c l ih =>
      have hc := hl c List.mem_cons_self
      rw [List.foldl_cons]
      split
      · next n hn => exact absurd hn (hc n)
      · exact ih fun d hd => hl d (List.mem_cons_of_mem c hd)
  exact hfold _ k

/-- An entry that a table gives stands in it. -/
theorem mem_of_aget {α : Type} {c : Nat} {v : α} {l : List (Nat × α)} (k : aget c l = some v) : (c, v) ∈ l := by
  induction l with
  | nil => cases k
  | cons e l ih =>
    simp only [aget] at k
    split at k
    · next hc => exact List.mem_cons.2 (.inl (by rw [← hc, ← Option.some.inj k]))
    · exact List.mem_cons_of_mem _ (ih k)

theorem mailboxUp_ldev (k : s.mailboxUp h ld op = true) (c n : Nat) : (s.ldev c).bg ≠ some (.scan n) := by
  simp only [State.mailboxUp, Bool.and_eq_true, List.all_eq_true] at k
  obtain ⟨-, hscan⟩ := k
  rw [State.ldev, agetD]
  cases hf : aget c s.cap.lds with
  | none =>
    intro hn
    cases hn
  | some d =>
    intro hn
    have hno := hscan (c, d) (mem_of_aget hf)
    rw [show d.bg = some (.scan n) from hn] at hno
    exact Bool.noConfusion hno

/-- R65: a command of an LD whose mailbox is up is run, and finds no Scan Media to end. -/
theorem State.mbRun_up (k : s.mailboxUp h ld op = true) (body : State → State) : s.mbRun h ld op body = body s := by
  have hend : s.scanEnd = s := scanEnd_of_none fun c _ => mailboxUp_ldev k c
  simp only [State.mailboxUp, Bool.and_eq_true] at k
  obtain ⟨⟨⟨⟨⟨⟨hring, halive⟩, hpres⟩, hrom⟩, -⟩, -⟩, -⟩ := k
  have hromOnly : ¬ (s.sec.romOnly && !romMailbox op) = true := by
    revert hrom
    cases s.sec.romOnly <;> cases romMailbox op <;> simp
  rw [State.mbRun, hring, halive, hpres, if_neg hromOnly, hend]
  rfl

end

end Sys2Proof.Machine
end

section
/-! A line of a mailbox command that finds the hazard table full of segment locks (02_host_ports.md R57; 03_transactions.md R77). -/

namespace Sys2Proof.Machine

open Sys2Proof

theorem distinct_of_nodup {l : List Nat} (k : l.Nodup) : distinct l = l := by
  have hfold : ∀ l acc : List Nat, (acc ++ l).Nodup → l.foldl (fun acc x => if acc.contains x then acc else acc ++ [x]) acc = acc ++ l := by
    intro l
    induction l with
    | nil => intro acc _; simp
    | cons x l ih =>
      intro acc hn
      have hx : x ∉ acc := fun hm => (List.nodup_append.1 hn).2.2 x hm x List.mem_cons_self rfl
      rw [List.foldl_cons, if_neg (by simpa using hx), ih _ (by simpa using hn)]
      simp
  exact hfold l [] k

/-- R77: a request that finds the table full waits, and nothing of the tile's content changes. -/
theorem serves_recognise_full {s : State} {t : Nat} (k : 16384 ≤ s.hazUsed t) (src : Nat) (r : Req) (u : Upset) (latNs : Nat) (idle : Bool) :
    Serves t Tile.content s (s.recognise t src r u latNs idle) := by
  have hwait : Serves t Tile.content s (s.modTxn t (fun y => { y with hazWait := y.hazWait ++ [(src, r)] })) := serves_modTile s
  rw [State.recognise, if_pos (Or.inl k)]
  exact (hwait.trans (serves_latch ..)).trans (serves_perfEvent ..)

/-- A repair of a segment that runs. -/
def repairOf (n : Nat) : Commit := { job := .repair n, seg := n, page := { kind := .host } }

/-- A package that serves, of which LD 0 of head 0 holds block 0; at tile 0 commits run, and frame 0, which is Dirty, holds segment 0. -/
def committingAt (l : List Commit) : State :=
  { md := { mode := .serve, resetsReleased := true }, cap := { table := [(0, { kind := 1 })] },
    tiles := vmod 0 (fun x => { x with fs := { frames := [(0, { st := .dirty, seg := 0 })], measured := 1 }, xl := { commits := l } }) (Vector.replicate 8 {}) }

theorem hazUsed_committingAt (l : List Commit) :
    (committingAt l).hazUsed 0 = (distinct ((l.filter (fun c => c.step != .done)).map (·.seg))).length := Nat.zero_add _

/-- A package at whose tile 0 the repairs of 16,384 segments run. -/
@[irreducible] def crowded : State := committingAt ((List.range 16384).map repairOf)

/-- R77: the segment locks of the repairs leave the hazard table no entry. -/
theorem hazUsed_crowded : crowded.hazUsed 0 = 16384 := by
  have hcommits : ((List.range 16384).map repairOf).filter (fun c => c.step != .done) = (List.range 16384).map repairOf :=
    List.filter_eq_self.2 fun c hc => by
      obtain ⟨n, -, rfl⟩ := List.mem_map.1 hc
      rfl
  have hsegs : ((List.range 16384).map repairOf).map (·.seg) = List.range 16384 := by
    rw [List.map_map]
    exact List.map_id _
  rw [crowded, hazUsed_committingAt, hcommits, hsegs, distinct_of_nodup List.nodup_range, List.length_range]

theorem mailboxUp_crowded : crowded.mailboxUp 0 0 0x4301 = true := by decide +kernel
theorem inService3_crowded : crowded.md.inService3 = true := by decide +kernel
theorem refused_crowded : (crowded.ldev (16 * 0 + 0)).refused = false := by decide +kernel
theorem owner_crowded : crowded.segTile (0 / 4096) = 0 := by decide +kernel
theorem works_crowded : bitOf crowded.md.failed 0 = false := by decide +kernel
theorem dirty_crowded : (crowded.frame 0 0).st = .dirty := by decide +kernel
theorem poison_crowded : bitOf (crowded.frame 0 0).poison (0 / 64 % 64) = false := by decide +kernel
theorem ldLine_crowded : crowded.ldLine 0 0 = some 0 := by decide +kernel
theorem lineFree_crowded : crowded.lineFree 0 0 = true := by decide +kernel
theorem findFrame_crowded : crowded.findFrame 0 (crowded.segLocal 0) = some 0 := by decide +kernel

theorem exec_injectPoison (h ld dpa : Nat) (s : State) : exec (.injectPoison h ld dpa) s = s.run (fun x => x.injectPoisonEff h ld dpa) := rfl

/-- R57: the write that a mailbox command makes to a line of its LD. -/
def State.lineWrite (s : State) (h ld p : Nat) (data : Line) (poison : Bool) : Req :=
  { id := s.jobs.nextId, head := h, tag := 0, ld := ld, dpa := p, owner := s.segTile (p / 4096), kind := .wr, data := data, poison := poison }

theorem State.mailboxWrite_of_line {s : State} {h ld dpa p : Nat} (hp : s.ldLine (16 * h + ld) dpa = some p) (hm : s.md.inService3 = true)
    (hr : (s.ldev (16 * h + ld)).refused = false) (op : Nat) (data : Line) (poison : Bool) :
    s.mailboxWrite h ld op dpa data poison = (s.numbered.dispatchReq (s.lineWrite h ld p data poison) {} 0 false).mbAnswer h ld op RET_OK [] := by
  rw [State.mailboxWrite, hp]
  exact if_neg (by rw [hm, hr]; exact Bool.noConfusion)

/-- Where the hazard table has no entry left, the line that INJECT_POISON names waits, and its command leaves every frame as it was. -/
theorem frame_injectPoison_full {s t : State} {h ld dpa p : Nat} (hup : s.mailboxUp h ld 0x4301 = true) (hp : s.ldLine (16 * h + ld) dpa = some p)
    (hm : s.md.inService3 = true) (hr : (s.ldev (16 * h + ld)).refused = false) (ho : s.segTile (p / 4096) = h) (hw : bitOf s.md.failed h = false)
    (hfull : 16384 ≤ s.hazUsed h) (hrun : exec (.injectPoison h ld dpa) s = .next t) (g : Nat) : t.frame h g = s.frame h g := by
  have hserves : Serves h Tile.content s.numbered (s.injectPoisonEff h ld dpa) := by
    rw [State.injectPoisonEff, State.mbRun_up hup, State.mailboxWrite_of_line hp hm hr]
    refine Serves.trans ?_ (serves_emit ..)
    rw [State.dispatchReq_own (s := s.numbered) (r := s.lineWrite h ld p 0 true) ho hw]
    exact serves_recognise_full (s := s.numbered) hfull 0 _ {} 0 false
  rw [exec_injectPoison, State.run] at hrun
  cases hrun
  exact frame_of_serves hserves g

/-- Refutes O43: a line of INJECT_POISON waits where the segment locks of 16,384 repairs leave the hazard table no entry (R77), and its frame is as it was when
the command is answered. -/
theorem not_mailboxChanges : ¬ Obligations.MailboxChanges := by
  unfold Obligations.MailboxChanges
  rintro ⟨-, -, -, -, -, -, -, -, -, -, -, hinject, -⟩
  obtain ⟨t, hrun, hpoison, -⟩ := hinject crowded 0 0 0 0 0 1 mailboxUp_crowded inService3_crowded refused_crowded ldLine_crowded lineFree_crowded
    findFrame_crowded dirty_crowded (by decide)
  have hframe : t.frame 0 0 = crowded.frame 0 0 :=
    frame_injectPoison_full mailboxUp_crowded ldLine_crowded inService3_crowded refused_crowded owner_crowded works_crowded hazUsed_crowded.ge hrun 0
  rw [hframe, poison_crowded] at hpoison
  exact Bool.noConfusion hpoison

end Sys2Proof.Machine
end

section
/-! Queries and settings of the fabric manager (02_host_ports.md R39 to R44, R68). -/

namespace Sys2Proof.Machine

open Sys2Proof

/-- What a command does stands beside the queue and what the part was built with, which no command changes. -/
def State.ran (s t : State) : State := { t with pending := s.pending, pop := s.pop, fuse := s.fuse }

theorem completes_ran {c : Instr} {s t : State} {P : State → Prop} {f : State → State} (h : exec c s = s.run f) (hf : f s = t) (hP : P (s.ran t)) :
    Completes c s P := ⟨s.ran t, by rw [h, State.run, hf]; rfl, hP⟩

/-- A command that puts something out and does nothing else. -/
theorem completes_emit {c : Instr} {s : State} {f : State → State} {o : Out} (h : exec c s = s.run f) (hf : f s = s.emit o) :
    Completes c s (fun t => Sends s t [o] ∧ Only [.outbox] s t) :=
  completes_ran h hf ⟨rfl, rfl, rfl, by simp [Part.all, Part.same, State.ran, State.emit]⟩

section
variable {s : State} {head : Nat}

theorem State.fmRun_served (k : s.fmServed head = true) (body : State → State) : s.fmRun head body = body s := if_pos k

/-- R41: a served query is answered. -/
theorem completes_fmQuery {c : Instr} {op ret : Nat} {fields : List Nat} {body : State → State} (k : s.fmServed head = true)
    (h : exec c s = s.run (fun x => x.fmRun head body)) (hb : body s = s.fmAnswer head op ret fields) :
    Completes c s (fun t => Sends s t [.fmapi head op ret fields] ∧ Only [.outbox] s t) :=
  completes_emit h ((s.fmRun_served k body).trans hb)

theorem State.ldev_modLd_self (s : State) (c : Nat) (f : LDev → LDev) : (s.modLd c f).ldev c = f (s.ldev c) := agetD_aputD_self ..

theorem State.ldev_modLd_ne (s : State) {c d : Nat} (h : d ≠ c) (f : LDev → LDev) : (s.modLd c f).ldev d = s.ldev d := agetD_aputD_ne h ..

/-- Where only LDs and what goes out are other than before, nothing else is. -/
theorem only_cap_outbox (s t : State) (h : t = { s with cap := t.cap, outbox := t.outbox }) : Only [.cap, .outbox] s (s.ran t) := by
  rw [h]
  exact ⟨rfl, rfl, by simp [Part.all, Part.same, State.ran]⟩

theorem only_tiles_outbox (s t : State) (h : t = { s with tiles := t.tiles, outbox := t.outbox }) : Only [.tiles, .outbox] s (s.ran t) := by
  rw [h]
  exact ⟨rfl, rfl, by simp [Part.all, Part.same, State.ran]⟩

theorem State.head_modHead_self (s : State) (h8 : head < 8) (f : Head → Head) : (s.modHead head f).head head = f (s.head head) := by
  rw [State.head, State.modHead, State.tile_modTile_self _ _ h8]
  rfl

theorem State.head_modHead_ne (s : State) {h : Nat} (hne : h ≠ head) (f : Head → Head) : (s.modHead head f).head h = s.head h := by
  rw [State.head, State.modHead, State.tile_modTile_ne hne]
  rfl

end

/-- A head with its QoS control fields set. -/
def Head.withQosCtl (fields : List Nat) (d : Head) : Head := { d with qosCtl := fields }

/-- An LD with its allocated bandwidth set. -/
def LDev.withAlloc (v : Nat) (d : LDev) : LDev := { d with bwAlloc := v }

/-- An LD with its limit of bandwidth set. -/
def LDev.withLimit (v : Nat) (d : LDev) : LDev := { d with bwLimit := v }

/-- Settles O40: each query ends in one answer of the fabric manager, which is read off the state; a setting changes the values that it names first. -/
theorem fmApiQueries : Obligations.FmApiQueries := by
  unfold Obligations.FmApiQueries
  refine ⟨?_, ?_, ?_, ?_, ?_, ?_, ?_, ?_, ?_, ?_, ?_, ?_, ?_, ?_, ?_, ?_, ?_, ?_⟩
  case refine_1 => exact fun s head k => completes_fmQuery k rfl rfl
  case refine_2 => exact fun s head k => completes_fmQuery k rfl rfl
  case refine_3 =>
    intro s head target k hp
    refine completes_fmQuery k rfl ?_
    rw [hp]
    rfl
  case refine_4 =>
    intro s head target limit k hp
    refine completes_fmQuery k rfl ?_
    rw [hp]
    rfl
  case refine_5 => exact fun s head k => completes_fmQuery k rfl rfl
  case refine_6 =>
    intro s head h fields k h8 hlen hne
    have heff : s.setQosControlEff head fields = (s.modHead head (Head.withQosCtl fields)).fmAnswer head 0x5404 RET_OK fields := by
      rw [State.setQosControlEff, State.fmRun_served k, if_neg (not_not.2 hlen), Nat.mod_eq_of_lt h8]
      rfl
    exact completes_ran (f := fun x => x.setQosControlEff head fields) rfl heff
      ⟨s.head_modHead_self h8 (Head.withQosCtl fields), s.head_modHead_ne hne (Head.withQosCtl fields), rfl, only_tiles_outbox s _ rfl⟩
  case refine_7 => exact fun s head k => completes_fmQuery k rfl rfl
  case refine_8 => exact fun s head k => completes_fmQuery k rfl rfl
  case refine_9 =>
    intro s head a b c k h8 ha hb h3 h4
    have heff : s.setQosAllocatedBwEff head 3 [a, b] = ((s.modLd (16 * head + 3) (LDev.withAlloc a)).modLd (16 * head + 4)
        (LDev.withAlloc b)).fmAnswer head 0x5407 RET_OK [3, a, b] := by
      rw [State.setQosAllocatedBwEff, State.fmRun_served k, State.setLdValues, Nat.mod_eq_of_lt h8]
      simp only [List.length_cons, List.length_nil, List.range_succ, List.range_zero, List.nil_append, List.cons_append, List.foldl_cons, List.foldl_nil,
        List.getD_cons_zero, List.getD_cons_succ, Nat.mod_eq_of_lt ha, Nat.mod_eq_of_lt hb]
      rfl
    have hfirst : ((s.modLd (16 * head + 3) (LDev.withAlloc a)).modLd (16 * head + 4) (LDev.withAlloc b)).ldev (16 * head + 3) =
        (s.ldev (16 * head + 3)).withAlloc a := (State.ldev_modLd_ne _ (by omega) _).trans (State.ldev_modLd_self ..)
    have hsecond : ((s.modLd (16 * head + 3) (LDev.withAlloc a)).modLd (16 * head + 4) (LDev.withAlloc b)).ldev (16 * head + 4) =
        ((s.modLd (16 * head + 3) (LDev.withAlloc a)).ldev (16 * head + 4)).withAlloc b := State.ldev_modLd_self ..
    have hother : ((s.modLd (16 * head + 3) (LDev.withAlloc a)).modLd (16 * head + 4) (LDev.withAlloc b)).ldev c = s.ldev c :=
      (State.ldev_modLd_ne _ h4 _).trans (State.ldev_modLd_ne _ h3 _)
    exact completes_ran (f := fun x => x.setQosAllocatedBwEff head 3 [a, b]) rfl heff
      ⟨congrArg LDev.bwAlloc hfirst, congrArg LDev.bwAlloc hsecond, hother, (congrArg LDev.bwLimit hfirst).trans rfl, rfl, only_cap_outbox s _ rfl⟩
  case refine_10 =>
    intro s head l k hl
    refine completes_fmQuery k rfl ?_
    exact if_pos (by omega)
  case refine_11 => exact fun s head k => completes_fmQuery k rfl rfl
  case refine_12 =>
    intro s head a c k h8 ha hc
    have heff : s.setQosBwLimitEff head 0 [a] = (s.modLd (16 * head) (LDev.withLimit a)).fmAnswer head 0x5409 RET_OK [0, a] := by
      rw [State.setQosBwLimitEff, State.fmRun_served k, State.setLdValues, Nat.mod_eq_of_lt h8]
      simp only [List.length_cons, List.length_nil, List.range_succ, List.range_zero, List.nil_append, List.foldl_cons, List.foldl_nil,
        List.getD_cons_zero, Nat.mod_eq_of_lt ha]
      rfl
    have hself := s.ldev_modLd_self (16 * head) (LDev.withLimit a)
    exact completes_ran (f := fun x => x.setQosBwLimitEff head 0 [a]) rfl heff
      ⟨congrArg LDev.bwLimit hself, (congrArg LDev.bwAlloc hself).trans rfl, s.ldev_modLd_ne hc (LDev.withLimit a), rfl, only_cap_outbox s _ rfl⟩
  case refine_13 => exact fun s head k => completes_fmQuery k rfl rfl
  case refine_14 =>
    intro s head h k hh
    have hone : ((s.present.filter (fun h => !(s.head h).upper)).drop 0).take 1 = [h] := by
      rw [List.drop_zero, List.take_one, List.head?_eq_getElem?, hh]
      rfl
    refine completes_fmQuery k rfl ?_
    rw [hone]
    rfl
  case refine_15 => exact fun s head k => completes_fmQuery k rfl rfl
  case refine_16 =>
    intro s head target ld region g k hp hl hr hg
    have hone : ((List.range 8).drop region).take 1 = [region] := by
      rw [List.take_one_drop_eq_of_lt_length (by simpa using hr)]
      simp
    refine completes_fmQuery k rfl ?_
    have hno : ¬ (!s.present.contains target || decide (16 ≤ ld) || decide (8 ≤ region)) = true := by
      rw [hp]
      simp [hl, hr]
    rw [if_neg hno, hone, ← hg]
    rfl
  case refine_17 =>
    intro s head target ld e k hp hl he
    refine completes_fmQuery k rfl ?_
    have hno : ¬ (!s.present.contains target || decide (16 ≤ ld)) = true := by
      rw [hp]
      simp [hl]
    rw [if_neg hno, he]
    rfl
  case refine_18 => exact fun s head opcode k => completes_fmQuery k rfl rfl

end Sys2Proof.Machine
end

section
/-! Queries of the mailbox of an LD (02_host_ports.md R57, R59, R65). -/

namespace Sys2Proof.Machine

open Sys2Proof

section
variable {s : State} {h ld op : Nat}

/-- R65: a query of an LD whose mailbox is up is answered. -/
theorem completes_mbQuery {c : Instr} {ret : Nat} {fields : List Nat} {body : State → State} (k : s.mailboxUp h ld op = true)
    (hrun : exec c s = s.run (fun x => x.mbRun h ld op body)) (hb : body s = s.mbAnswer h ld op ret fields) :
    Completes c s (fun t => Sends s t [.mailbox h ld op ret fields] ∧ Only [.outbox] s t) :=
  completes_emit hrun ((s.mbRun_up k body).trans hb)

/-- R65: a query whose answer holds a value that the manual does not give draws it. -/
theorem completes_mbFree {c : Instr} {ret : Nat} {fields : List Nat} {body : State → State} (k : s.mailboxUp h ld op = true)
    (hrun : exec c s = s.run (fun x => x.mbRun h ld op body)) (hb : body s = (s.mbAnswer h ld op ret fields).bumpFree) :
    Completes c s (fun t => Sends s t [.mailbox h ld op ret fields] ∧ Only [.outbox, .free] s t) :=
  completes_ran hrun ((s.mbRun_up k body).trans hb)
    ⟨rfl, rfl, rfl, by simp [Part.all, Part.same, State.ran, State.bumpFree, State.mbAnswer, State.emit]⟩

/-- No Scan Media of an LD runs whose mailbox finds none to end. -/
theorem scanRuns_up (k : s.mailboxUp h ld op = true) (c : Nat) : (match (s.ldev c).bg with | some (.scan _) => 1 | _ => 0) = 0 := by
  split
  · next n hn => exact absurd hn (mailboxUp_ldev k c n)
  · rfl

end

/-- Settles O42: each query ends in one answer of the mailbox, which is read off the state. -/
theorem mailboxQueries : Obligations.MailboxQueries := by
  unfold Obligations.MailboxQueries
  refine ⟨?_, ?_, ?_, ?_, ?_, ?_, ?_, ?_, ?_, ?_, ?_, ?_, ?_, ?_, ?_, ?_, ?_, ?_, ?_, ?_, ?_, ?_⟩
  · intro s h ld r g k hg hr
    refine completes_mbQuery k rfl ?_
    rw [← hg] at hr ⊢
    rw [if_neg (by decide)]
    dsimp only
    rw [hr]
    rfl
  · exact fun s h ld k => completes_mbQuery k rfl rfl
  · exact fun s h ld k => completes_mbQuery k rfl rfl
  · intro s h ld k
    refine completes_mbQuery k rfl ?_
    cases bitOf s.fwBoot 4 <;> cases s.sec.runSlot == 1 <;> rfl
  · intro s h ld k hts
    refine completes_mbQuery k rfl ?_
    rw [hts]
    rfl
  · intro s h ld ns o k hts hns
    refine completes_mbQuery k rfl ?_
    rw [hts]
    dsimp only
    rw [if_neg (Nat.pos_iff_ne_zero.1 hns)]
    rfl
  · exact fun s h ld k => completes_mbQuery k rfl rfl
  · intro s h ld i e k he
    obtain ⟨hi, hget⟩ := List.getElem?_eq_some_iff.1 he
    refine completes_mbQuery k rfl ?_
    have hone : (effectsLog.drop i).take 1 = [e] := by
      rw [List.take_one_drop_eq_of_lt_length hi, ← hget]
      rfl
    rw [if_neg (by decide), if_neg (by omega), hone]
    rfl
  · exact fun s h ld i n k => completes_mbQuery k rfl rfl
  · exact fun s h ld k => completes_mbQuery k rfl rfl
  · exact fun s h ld k => completes_mbQuery k rfl rfl
  · exact fun s h ld k => completes_mbQuery k rfl rfl
  · exact fun s h ld k => completes_mbFree k rfl rfl
  · exact fun s h ld k => completes_mbQuery k rfl rfl
  · exact fun s h ld k => completes_mbQuery k rfl rfl
  · intro s h ld first len k hb
    have hnone : s.poisonedLines (16 * h + ld) first len = [] := by
      rw [State.poisonedLines, hb]
      rfl
    refine completes_mbQuery k rfl ?_
    dsimp only
    rw [hnone]
    rfl
  · intro s h ld d k hd
    refine completes_mbQuery k rfl ?_
    dsimp only
    rw [hd]
    rfl
  · intro s h ld first len p k hl hp
    refine completes_mbFree k rfl ?_
    rw [if_neg (by rw [hp]; simpa using Nat.pos_iff_ne_zero.1 hl)]
    rfl
  · intro s h ld k
    refine completes_mbQuery k rfl ?_
    exact congrArg (fun n => s.mbAnswer h ld 0x4305 0 (n :: (s.ldev (16 * h + ld)).scanFound)) (scanRuns_up k _)
  · intro s h ld g k hg
    refine completes_mbQuery k rfl ?_
    rw [← hg]
    rfl
  · intro s h ld n e k hn he
    obtain ⟨m, rfl⟩ : ∃ m, n = m + 1 := ⟨n - 1, by omega⟩
    refine completes_mbQuery k rfl ?_
    rw [he]
    simp
    rfl
  · exact fun s h ld op k => completes_mbQuery k rfl rfl

end Sys2Proof.Machine
end

section
/-! DOE, SPDM and IDE_KM of a head (02_host_ports.md R62 to R64; 16_security.md R456 to R466). -/

namespace Sys2Proof.Machine

open Sys2Proof

/-! ### Requests of a head -/

section
variable {s : State} {h : Nat}

theorem doeUp_head (k : s.doeUp h = true) : h < 8 := by
  simp only [State.doeUp, Bool.and_eq_true, decide_eq_true_eq] at k
  obtain ⟨⟨⟨h8, -⟩, -⟩, -⟩ := k
  exact h8

/-- R63: a DOE request of a head whose DOE is up is served. -/
theorem State.doeRun_up (k : s.doeUp h = true) (body : State → State) : s.doeRun h body = body s := by
  simp only [State.doeUp, Bool.and_eq_true] at k
  obtain ⟨⟨⟨-, hring⟩, halive⟩, hup⟩ := k
  rw [State.doeRun, hring, halive, hup]
  rfl

/-- R63: a request that needs a version is served once there is one. -/
theorem State.spdmRun_up (k : s.doeUp h = true) (hv : (s.head h).spdm ≠ 0) (code : Nat) (body : State → State) : s.spdmRun h code body = body s := by
  rw [State.spdmRun, State.doeRun_up k, if_neg hv]

/-- R466: a request of IDE_KM is served in a session. -/
theorem State.ideRun_up (k : s.doeUp h = true) (hs : (s.head h).session = true) (code : Nat) (body : State → State) : s.ideRun h code body = body s := by
  rw [State.ideRun, State.doeRun_up k, if_pos hs]

/-- R62: a TLP that its stream passes is taken. -/
theorem State.ioTaken_passes {io : Option (Nat × Bool)} (k : s.ioPasses h io = true) (body : State → State) : s.ioTaken h io body = body s := by
  cases io with
  | none => rfl
  | some e =>
    obtain ⟨i, ok⟩ := e
    simp only [State.ioPasses, Bool.and_eq_true, Bool.not_eq_true'] at k
    obtain ⟨hok, hsec⟩ := k
    simp only [State.ioTaken, hsec, hok, Bool.false_eq_true, if_false, if_true]

/-- Only tiles and what goes out are other than before. -/
theorem only_modHead (s : State) (h : Nat) (f : Head → Head) (o : Out) : Only [.tiles, .outbox] s (s.ran ((s.modHead h f).emit o)) :=
  only_tiles_outbox s _ rfl

/-- A head changes and is answered. -/
theorem completes_modHead {c : Instr} {f : State → State} {g : Head → Head} {o : Out} {P : State → Prop} (hrun : exec c s = s.run f)
    (hf : f s = (s.modHead h g).emit o) (h8 : h < 8)
    (hP : ∀ t, t.head h = g (s.head h) → (∀ j, j ≠ h → t.head j = s.head j) → Sends s t [o] → Only [.tiles, .outbox] s t → P t) : Completes c s P :=
  completes_ran hrun hf (hP _ (s.head_modHead_self h8 g) (fun _ hj => s.head_modHead_ne hj g) rfl (only_modHead s h g o))

end

/-! ### Signing (R459, R460) -/

section
variable {s : State}

/-- An index and a token are used. -/
def Security.signed (x : Security) : Security := { x with next := x.next + 1, tokens := x.tokens - 1 }

theorem canSign_deviceSigns (k : s.canSign = true) : s.deviceSigns = true := by
  simp only [State.canSign, Bool.and_eq_true] at k
  obtain ⟨⟨⟨hsigns, -⟩, -⟩, -⟩ := k
  exact hsigns

/-- The first request that waits to sign has signed. -/
def Security.signedFirst (l : List Signer) (x : Security) : Security := { x.signed with signers := l }

theorem State.signNext_cons {x : Signer} {l : List Signer} (hs : s.sec.signers = x :: l) (hnext : s.sec.next ≠ s.sec.reserved)
    (htokens : s.sec.tokens ≠ 0) (n : Nat) :
    State.signNext (n + 1) s = State.signNext n ((s.modSec (Security.signedFirst l)).signWith s.sec.next x) := by
  rw [State.signNext]
  simp only [hs, if_neg hnext, if_neg htokens]
  rfl

/-- R459, R460: a request that need not wait signs with the next index and a token. -/
theorem State.signRequest_now (k : s.canSign = true) (x : Signer) : s.signRequest x = (s.modSec Security.signed).signWith s.sec.next x := by
  simp only [State.canSign, Bool.and_eq_true, bne_iff_ne, List.isEmpty_iff] at k
  obtain ⟨⟨⟨-, hempty⟩, hnext⟩, htokens⟩ := k
  have hqueue : (s.modSec (fun y => { y with signers := y.signers ++ [x] })).sec.signers = [x] := by
    rw [State.modSec_sec, hempty]
    rfl
  have hmod : (s.modSec (fun y => { y with signers := y.signers ++ [x] })).modSec (Security.signedFirst []) = s.modSec Security.signed := by
    have hsec : Security.signedFirst [] { s.sec with signers := s.sec.signers ++ [x] } = s.sec.signed := by
      rw [Security.signed, ← hempty]
      rfl
    exact congrArg (fun y => { s with sec := y }) hsec
  rw [State.signRequest, hempty, List.length_nil, State.signNext_cons hqueue hnext htokens 0, hmod]
  rfl

theorem State.signedAnswer_now (k : s.canSign = true) {h : Nat} (ha : (s.head h).spdmAlg = true) (code idx : Nat) (nonce : W256) :
    s.signedAnswer h code idx nonce = (s.modSec Security.signed).signWith s.sec.next (.spdm h code idx nonce) := by
  rw [State.signedAnswer, ha, canSign_deviceSigns k]
  exact s.signRequest_now k _

theorem only_sec_outbox (s : State) (g : Security → Security) (o : Out) : Only [.sec, .outbox] s (s.ran ((s.modSec g).emit o)) :=
  ⟨rfl, rfl, by simp [Part.all, Part.same, State.ran, State.modSec, State.emit]⟩

end

/-! ### Measurements (R457) -/

theorem filter_meas {i : Nat} (h1 : 1 ≤ i) (h8 : i ≤ 8) : ((List.range 9).drop 1).filter (fun j => i == 255 || i == j) = [i] := by
  interval_cases i <;> rfl

theorem State.measFields_one (s : State) {i : Nat} (h1 : 1 ≤ i) (h8 : i ≤ 8) : s.measFields i = [i, measType i, (s.meas i).toNat] := by
  rw [State.measFields, filter_meas h1 h8]
  rfl

/-! ### Streams (R466) -/

section
variable {s : State} {h i : Nat}

theorem ide_modIde_self (h8 : h < 8) (h5 : i < 5) (f : IdeStream → IdeStream) :
    vget i {} ((s.modIde h i f).head h).ide = f (vget i {} (s.head h).ide) := by
  rw [State.modIde, State.head_modHead_self s h8]
  exact vget_vmod_self f _ _ h5

theorem ide_modIde_ne {j : Nat} (h8 : h < 8) (hj : j ≠ i) (f : IdeStream → IdeStream) :
    vget j {} ((s.modIde h i f).head h).ide = vget j {} (s.head h).ide := by
  rw [State.modIde, State.head_modHead_self s h8]
  exact vget_vmod_ne hj f _ _

/-- A stream of a head changes and is answered. -/
theorem completes_modIde {c : Instr} {f : State → State} {g : IdeStream → IdeStream} {o : Out} {P : State → Prop} (hrun : exec c s = s.run f)
    (hf : f s = (s.modIde h i g).emit o) (h8 : h < 8) (h5 : i < 5)
    (hP : ∀ t, vget i {} (t.head h).ide = g (vget i {} (s.head h).ide) → (∀ j, j ≠ i → vget j {} (t.head h).ide = vget j {} (s.head h).ide) →
      Sends s t [o] → Only [.tiles, .outbox] s t → P t) : Completes c s P :=
  completes_ran hrun hf (hP _ (ide_modIde_self h8 h5 g) (fun _ hj => ide_modIde_ne h8 hj g) rfl (only_tiles_outbox s _ rfl))

/-- A stream with a key set of a direction programmed. -/
def IdeStream.program (set dir : Nat) (y : IdeStream) : IdeStream :=
  { y with sets := if bitOf y.sets (2 * set + dir) then y.sets else y.sets + 2 ^ (2 * set + dir) }

/-- A stream with a key set stopped for transmission. -/
def IdeStream.stopTx (set : Nat) (y : IdeStream) : IdeStream :=
  { y with sets := if bitOf y.sets (2 * set + 1) then y.sets - 2 ^ (2 * set + 1) else y.sets, tx := if y.tx == some set then none else y.tx }

theorem bitOf_add_two_pow {n b : Nat} (k : bitOf n b = false) : bitOf (n + 2 ^ b) b = true := by
  have hdiv : (n + 2 ^ b) / 2 ^ b = n / 2 ^ b + 1 := Nat.add_div_right n (Nat.two_pow_pos b)
  simp only [bitOf, hdiv, beq_iff_eq, beq_eq_false_iff_ne] at k ⊢
  omega

theorem bitOf_sub_two_pow {n b : Nat} (k : bitOf n b = true) : bitOf (n - 2 ^ b) b = false := by
  have hclear := bitOf_clearBit_self n b
  rwa [clearBit, if_pos k] at hclear

theorem IdeStream.stopTx_used {set : Nat} {y : IdeStream} (ht : y.tx = some set) (hb : bitOf y.sets (2 * set + 1) = true) :
    (y.stopTx set).tx = none ∧ bitOf (y.stopTx set).sets (2 * set + 1) = false ∧ (y.stopTx set).rx = y.rx := by
  rw [IdeStream.stopTx, ht, hb]
  exact ⟨if_pos (beq_self_eq_true _), bitOf_sub_two_pow hb, rfl⟩

theorem IdeStream.program_bit (set dir : Nat) (y : IdeStream) : bitOf (y.program set dir).sets (2 * set + dir) = true := by
  simp only [IdeStream.program]
  split
  · next hset => exact hset
  · next hclear => exact bitOf_add_two_pow (by simpa using hclear)

end

end Sys2Proof.Machine
end

section
/-! What storing values in the Parameter Store leaves (17_guestbook_parameter_store.md R489). -/

namespace Sys2Proof.Machine

open Sys2Proof

/-- Only the Parameter Store and the number of free values drawn are other than before. -/
def OnlyStore (s t : State) : Prop := t = { s with ps := t.ps, free := t.free }

theorem OnlyStore.refl (s : State) : OnlyStore s s := rfl

theorem OnlyStore.trans {a b c : State} (k : OnlyStore a b) (l : OnlyStore b c) : OnlyStore a c := by
  rw [OnlyStore] at k l ⊢
  rw [k] at l
  exact l

theorem OnlyStore.foldl {β : Type} {f : State → β → State} (k : ∀ a b, OnlyStore a (f a b)) (l : List β) (s : State) : OnlyStore s (l.foldl f s) := by
  induction l generalizing s with
  | nil => exact .refl s
  | cons x l ih => exact (k s x).trans (ih _)

theorem OnlyStore.ite {s a b : State} {p : Prop} [Decidable p] (ha : OnlyStore s a) (hb : OnlyStore s b) : OnlyStore s (if p then a else b) := by
  split
  · exact ha
  · exact hb

theorem onlyStore_psPut (s : State) (id : Nat) (v : List Byte) : OnlyStore s (s.psPut id v) := by
  rw [State.psPut, State.psStore]
  split <;> rfl

theorem onlyStore_psRequest (s : State) (c : PsCaller) : OnlyStore s (s.psRequest c) := rfl

theorem onlyStore_bumpFree (s : State) : OnlyStore s s.bumpFree := rfl

theorem onlyStore_storeSecrets (s : State) : OnlyStore s s.storeSecrets :=
  .foldl (fun _ _ => .ite ((onlyStore_psPut ..).trans (onlyStore_bumpFree _)) (onlyStore_psPut ..)) _ s

/-- What is stored as a command of security changes its part of the state. -/
theorem only_store_outbox {s t : State} (g : Security → Security) (k : OnlyStore (s.modSec g) t) (o : Out) :
    (s.ran (t.emit o)).sec = g s.sec ∧ Sends s (s.ran (t.emit o)) [o] ∧ Only [.sec, .ps, .free, .outbox] s (s.ran (t.emit o)) := by
  rw [OnlyStore] at k
  rw [k]
  exact ⟨rfl, rfl, rfl, rfl, by simp [Part.all, Part.same, State.ran, State.modSec, State.emit]⟩

end Sys2Proof.Machine
end

section
/-! Security of a head, settled (02_host_ports.md R62 to R64; 16_security.md R456 to R466). -/

namespace Sys2Proof.Machine

open Sys2Proof

theorem State.spdmBody_signed (s : State) (code idx leaf : Nat) (nonce : W256) :
    (s.modSec Security.signed).spdmBody code idx leaf nonce = s.spdmBody code idx leaf nonce := rfl

theorem State.measFields_signed (s : State) (i : Nat) : (s.modSec Security.signed).measFields i = s.measFields i := rfl

/-- R459: a signed answer that is no KEY_EXCHANGE_RSP and need not wait. -/
theorem completes_signed {c : Instr} {s : State} {h code idx : Nat} {nonce : W256} {l : List Nat} (k : s.doeUp h = true) (hv : (s.head h).spdm ≠ 0)
    (ha : (s.head h).spdmAlg = true) (hs : s.canSign = true) (hcode : code ≠ 3) (hl : (if code = 2 then s.measFields idx else []) = l) {body : State → State}
    (hrun : exec c s = s.run (fun x => x.spdmRun h code body)) (hbody : body s = s.signedAnswer h code idx nonce) :
    Completes c s (fun t => t.sec = { s.sec with next := s.sec.next + 1, tokens := s.sec.tokens - 1 } ∧
      Sends s t [.doe h code 0 ([idx, s.sec.next] ++ l ++ [leAt (signature s.sec.next (s.spdmBody code idx s.sec.next nonce)) 0 5605])] ∧
      Only [.sec, .outbox] s t) := by
  have heff : s.spdmRun h code body = (s.modSec Security.signed).emit
      (.doe h code 0 ([idx, s.sec.next] ++ l ++ [leAt (signature s.sec.next (s.spdmBody code idx s.sec.next nonce)) 0 5605])) := by
    rw [State.spdmRun_up k hv, hbody, State.signedAnswer_now hs ha, State.signWith]
    simp only [if_neg hcode, State.measFields_signed, State.spdmBody_signed, hl]
  exact completes_ran hrun heff ⟨rfl, rfl, only_sec_outbox s _ _⟩

/-- Settles O44: each request of a head is served in the state that it asks for, and what it changes is the head, one of its streams, or the
secrets, as its rule has it. -/
theorem headSecurity : Obligations.HeadSecurity := by
  unfold Obligations.HeadSecurity
  refine ⟨?_, ?_, ?_, ?_, ?_, ?_, ?_, ?_, ?_, ?_, ?_, ?_, ?_, ?_, ?_, ?_, ?_, ?_, ?_, ?_, ?_, ?_, ?_, ?_⟩
  · intro s h i k hi
    refine completes_emit (f := fun x => x.doeDiscoveryEff h i) rfl ((State.doeRun_up k _).trans ?_)
    interval_cases i <;> rfl
  · intro s h ld n k hp hr hb
    refine completes_emit (f := fun x => x.cdatTableAccessEff h ld) rfl ((State.doeRun_up k _).trans ?_)
    rw [hp, hr, hb]
    rfl
  · intro s h g k hg
    exact completes_modHead (f := fun x => x.getVersionEff h 0x12) rfl ((State.doeRun_up k _).trans rfl) (doeUp_head k)
      fun t hself hother hout honly => ⟨hself, hother g hg, hout, honly⟩
  · exact fun s h k => completes_emit (f := fun x => x.getVersionEff h 0x10) rfl ((State.doeRun_up k _).trans rfl)
  · intro s h x k hv
    exact completes_modHead (f := fun y => y.negotiateAlgorithmsEff h x) rfl ((State.spdmRun_up k hv 6 _).trans rfl) (doeUp_head k)
      fun t hself _ hout honly => ⟨hself, hout, honly⟩
  · intro s h x k hv
    have heff : s.negotiateAlgorithmsEff h x = s.emit (.doe h 6 SPDM_UNEXPECTED []) := by
      rw [State.negotiateAlgorithmsEff, State.spdmRun, State.doeRun_up k, if_pos hv]
    exact completes_emit (f := fun y => y.negotiateAlgorithmsEff h x) rfl heff
  · intro s h slot k hv
    refine completes_emit (f := fun x => x.getCertificateEff h slot) rfl ((State.spdmRun_up k hv 7 _).trans ?_)
    exact (apply_ite s.emit (slot = 0) _ _).symm
  · exact fun s h nonce k hv ha hs => completes_signed k hv ha hs (by decide) rfl rfl rfl
  · intro s h nonce k hv ha
    refine completes_emit (f := fun x => x.challengeEff h nonce) rfl ((State.spdmRun_up k hv 1 _).trans ?_)
    rw [State.signedAnswer, ha]
    rfl
  · intro s h i nonce k hv h1 h8
    refine completes_emit (f := fun x => x.getMeasurementsEff h i false nonce) rfl ((State.spdmRun_up k hv 2 _).trans ?_)
    rw [if_neg (by omega), if_neg (by decide), if_neg (by omega), s.measFields_one h1 h8]
  · intro s h i nonce k hv ha hs h1 h8
    refine completes_signed (code := 2) k hv ha hs (by decide) (s.measFields_one h1 h8) rfl ?_
    rw [if_neg (by omega), if_pos rfl]
  · intro s h g nonce k hv ha hs hg
    have heff : s.keyExchangeEff h nonce = ((s.modSec Security.signed).modHead h (fun d => { d with session := true })).emit
        (.doe h 3 0 [0, s.sec.next, leAt (signature s.sec.next (s.spdmBody 3 0 s.sec.next nonce)) 0 5605]) := by
      rw [State.keyExchangeEff, State.spdmRun_up k hv, State.signedAnswer_now hs ha]
      rfl
    exact completes_ran (f := fun x => x.keyExchangeEff h nonce) rfl heff
      ⟨(s.modSec Security.signed).head_modHead_self (doeUp_head k) (fun d => { d with session := true }),
        (s.modSec Security.signed).head_modHead_ne hg (fun d => { d with session := true }), rfl, rfl, rfl, rfl,
        by simp [Part.all, Part.same, State.ran, State.modSec, State.modHead, State.modTile, State.emit]⟩
  · exact fun s h k => completes_emit (f := fun x => x.pskExchangeEff h) rfl ((State.doeRun_up k _).trans rfl)
  · intro s h x y k hs hsec
    have heff : s.keyImportEff h y = (((s.modSec (fun z => { z with secrets := aput 2 y z.secrets })).storeSecrets).psRequest .internal).emit (.doe h 8 0 [2]) := by
      rw [State.keyImportEff, State.doeRun_up k, hs, hsec]
      rfl
    obtain ⟨hself, hout, honly⟩ := only_store_outbox (s := s) _ ((onlyStore_storeSecrets _).trans (onlyStore_psRequest _ .internal)) (.doe h 8 0 [2])
    refine completes_ran (f := fun z => z.keyImportEff h y) rfl heff ⟨hself.trans ?_, hout, honly⟩
    rw [hsec]
    rfl
  · intro s h y k hs hfull
    refine completes_emit (f := fun z => z.keyImportEff h y) rfl ((State.doeRun_up k _).trans ?_)
    rw [hs, if_neg (by decide), if_pos hfull]
  · intro s h i k hs hhas hgrp
    have heff : s.keyDeleteEff h i = (((s.modSec (fun z => { z with secrets := adel i z.secrets })).storeSecrets).psRequest .internal).emit (.doe h 9 0 []) := by
      rw [State.keyDeleteEff, State.doeRun_up k, hs, hhas, hgrp]
      rfl
    obtain ⟨hself, hout, honly⟩ := only_store_outbox (s := s) _ ((onlyStore_storeSecrets _).trans (onlyStore_psRequest _ .internal)) (.doe h 9 0 [])
    exact completes_ran (f := fun z => z.keyDeleteEff h i) rfl heff ⟨hself, hout, honly⟩
  · intro s h i k hs hgrp hhandle
    refine completes_emit (f := fun z => z.keyDeleteEff h i) rfl ((State.doeRun_up k _).trans ?_)
    rw [hs, hgrp, hhandle, beq_self_eq_true, Bool.and_self, Bool.or_true]
    rfl
  · exact fun s h k hs => completes_emit (f := fun x => x.ideKmQueryEff h) rfl ((State.ideRun_up k hs 16 _).trans rfl)
  · intro s h i set dir j x io k hio hs h5 hset hdir hx hrx hnew htx hj
    have hidle : ¬ (if dir = 0 then x.rx == some set || x.rxNew == some set else x.tx == some set) = true := by
      split <;> simp [hrx, hnew, htx]
    have heff : s.keyProgEff h i set dir io = (s.modIde h i (IdeStream.program set dir)).emit (.doe h 17 0 [i, set, dir, 0]) := by
      rw [State.keyProgEff, State.ioTaken_passes hio, State.ideRun_up k hs]
      dsimp only
      rw [hx, if_neg (by omega), if_neg hidle]
      rfl
    exact completes_modIde (f := fun z => z.keyProgEff h i set dir io) rfl heff (doeUp_head k) h5
      fun t hself hother hout honly => ⟨by rw [hself]; exact IdeStream.program_bit .., hother j hj, hout, honly⟩
  · intro s h i set io k hio hs h5 hset hrx
    refine completes_emit (f := fun z => z.keyProgEff h i set 0 io) rfl ((State.ioTaken_passes hio _).trans ((State.ideRun_up k hs 17 _).trans ?_))
    rw [if_neg (by omega), hrx]
    simp
  · intro s h i set x io k hio hs h5 hset hx hbit hrx hsec
    refine completes_modIde (f := fun z => z.kSetGoEff h i set 0 io) rfl ((State.ioTaken_passes hio _).trans (State.ideRun_up k hs 18 _)) (doeUp_head k) h5
      fun t hself _ hout honly => ⟨hself.trans ?_, hout, honly⟩
    have hother : (some (1 - set) == some set) = false := by
      have hne : 1 - set ≠ set := by omega
      simpa using hne
    have hlt : decide (2 ≤ set) = false := by simpa using hset
    rw [hx, Nat.add_zero, hbit, hlt]
    simp [hrx, hsec, hother]
  · intro s h i set x io k hio hs h5 hset hx hbit
    refine completes_modIde (f := fun z => z.kSetGoEff h i set 1 io) rfl ((State.ioTaken_passes hio _).trans (State.ideRun_up k hs 18 _)) (doeUp_head k) h5
      fun t hself _ hout honly => ⟨hself.trans ?_, hout, honly⟩
    have hlt : decide (2 ≤ set) = false := by simpa using hset
    rw [hx, hbit, hlt]
    rfl
  · intro s h i set x k hs h5 hset hx htx hbit
    have heff : s.kSetStopEff h i set 1 = (s.modIde h i (IdeStream.stopTx set)).emit (.doe h 19 0 [i, set, 1]) := by
      rw [State.kSetStopEff, State.ideRun_up k hs]
      dsimp only
      rw [if_pos ⟨hset, by decide⟩]
      rfl
    obtain ⟨hnone, hoff, hkept⟩ := IdeStream.stopTx_used htx hbit
    refine completes_modIde (f := fun z => z.kSetStopEff h i set 1) rfl heff (doeUp_head k) h5 fun t hself _ hout honly => ?_
    rw [hx] at hself
    rw [hself]
    exact ⟨hnone, hoff, hkept, hout, honly⟩
  · intro s h i n o j x h8 h5 hx hn ho hbit hj
    refine completes_ran (f := fun z => z.ideKeySwitchEff h i) rfl rfl
      ⟨(ide_modIde_self h8 h5 _).trans ?_, ide_modIde_ne h8 hj _, rfl, rfl, ?_⟩
    · rw [hx, hn, ho]
      dsimp only
      rw [if_pos hbit]
    · simp [Part.all, Part.same, State.ran, State.ideKeySwitchEff, State.modIde, State.modHead, State.modTile]

end Sys2Proof.Machine
end

section
/-! Global Persistent Flush and HDM decoders (02_host_ports.md R50 to R52, R58). -/

namespace Sys2Proof.Machine

open Sys2Proof

theorem only_tiles (s t : State) (h : t = { s with tiles := t.tiles }) : Only [.tiles] s (s.ran t) := by
  rw [h]
  exact ⟨rfl, rfl, by simp [Part.all, Part.same, State.ran]⟩

theorem only_cap (s t : State) (h : t = { s with cap := t.cap }) : Only [.cap] s (s.ran t) := by
  rw [h]
  exact ⟨rfl, rfl, by simp [Part.all, Part.same, State.ran]⟩

/-- R58: the writes that GPF Phase 2 of a head waits for. -/
def State.gpfWrites (s : State) (head : Nat) : List Nat :=
  (((s.tile head).txn.tracker ++ (s.tile head).txn.ingress).filter (fun r => r.kind == .wr || r.kind == .ptl)).map (·.id)
    ++ ((s.tile head).txn.outQ.filter (fun w => w.1.kind == .wr || w.1.kind == .ptl)).map (·.1.id)

section
variable {s : State} {head : Nat}

theorem State.gpfPhase2Eff_of_nil (hm : s.memLink head = true) (hw : s.gpfWrites head = []) : s.gpfPhase2Eff head = s.emit (.gpfAck head 2 false) := by
  rw [State.gpfPhase2Eff, hm]
  exact if_pos (List.isEmpty_iff.2 hw)

theorem State.gpfPhase2Eff_of_ne_nil (hm : s.memLink head = true) (hw : s.gpfWrites head ≠ []) :
    s.gpfPhase2Eff head = s.modHead head (fun d => { d with gpf := some (s.gpfWrites head) }) := by
  rw [State.gpfPhase2Eff, hm]
  exact if_neg (mt List.isEmpty_iff.1 hw)

/-- A write in the tracker is one that Phase 2 waits for. -/
theorem gpfWrites_of_tracker (k : (s.tile head).txn.tracker.any (fun r => r.kind == .wr) = true) : s.gpfWrites head ≠ [] := by
  obtain ⟨r, hr, hkind⟩ := List.any_eq_true.1 k
  have hmem : r.id ∈ s.gpfWrites head := List.mem_append_left _
    (List.mem_map_of_mem (List.mem_filter.2 ⟨List.mem_append_left _ hr, by simp [eq_of_beq hkind]⟩))
  exact List.ne_nil_of_mem hmem

end

/-- R51: the content that a commit asks of a decoder; sizes and addresses in bytes. -/
def Hdm.asked (iw ig base size skip target : Nat) : Hdm :=
  { base := base / 2 ^ 28, size := size / 2 ^ 28, ways := iw, gran := ig + 8, skip := skip / 2 ^ 28, target := target }

/-- R51: a decoder whose commit succeeded or failed. -/
def Hdm.judged (d : Hdm) (ok lock : Bool) : Hdm := { d with committed := ok, error := !ok, locked := ok && lock }

section
variable {s : State} {head ld idx iw ig base size skip target : Nat} {lock : Bool}

/-- R51: a decoder that a head presents, and that is not locked, is judged by its commit. -/
theorem State.hdmDecoderCommitEff_run (ha : s.alive head = true) (hu : (s.head head).up = true) (hp : s.presents head ld = true)
    (hi : idx < (if (s.head head).mld then 1 else 8)) (hl : (vget idx {} (s.ldev (s.ldOf head ld)).hdm).locked = false) {ok : Bool}
    (hok : (hdmEncOk iw ig && size % (2 ^ 28 * 2 ^ iw) == 0 && base % 2 ^ 28 == 0 && hdmCommitOk (s.ldev (s.ldOf head ld)).hdm.toList idx
      (Hdm.asked iw ig base size skip target) (s.ldTop (s.ldOf head ld))) = ok) :
    s.hdmDecoderCommitEff head ld idx iw ig base size skip target lock =
      s.modLd (s.ldOf head ld) (fun x => { x with hdm := vmod idx (fun _ => (Hdm.asked iw ig base size skip target).judged ok lock) x.hdm }) := by
  have hgo : ¬ (!s.alive head || !(s.head head).up || !s.presents head ld || decide ((if (s.head head).mld then 1 else 8) ≤ idx)
      || (vget idx {} (s.ldev (s.ldOf head ld)).hdm).locked) = true := by
    rw [ha, hu, hp, hl, decide_eq_false (Nat.not_le.2 hi)]
    exact Bool.noConfusion
  rw [← hok]
  exact if_neg hgo

theorem asked_ok (henc : hdmEncOk iw ig = true) (hsize : size % (2 ^ 28 * 2 ^ iw) = 0) (hbase : base % 2 ^ 28 = 0) {fits : Bool} (hfits : fits = true) :
    (hdmEncOk iw ig && size % (2 ^ 28 * 2 ^ iw) == 0 && base % 2 ^ 28 == 0 && fits) = true := by
  rw [henc, hsize, hbase, hfits]
  rfl

theorem asked_fails (hsize : size % (2 ^ 28 * 2 ^ iw) ≠ 0) (fits : Bool) :
    (hdmEncOk iw ig && size % (2 ^ 28 * 2 ^ iw) == 0 && base % 2 ^ 28 == 0 && fits) = false := by
  rw [beq_eq_false_iff_ne.2 hsize, Bool.and_false]
  rfl

theorem hdm_modLd (h8 : idx < 8) (c : Nat) (d : Hdm) :
    vget idx {} ((s.modLd c (fun x => { x with hdm := vmod idx (fun _ => d) x.hdm })).ldev c).hdm = d := by
  rw [State.ldev_modLd_self]
  exact vget_vmod_self _ _ _ h8

theorem decoder_lt (hi : idx < (if (s.head head).mld then 1 else 8)) : idx < 8 := by
  split at hi <;> omega

end

/-- Settles O24: a flush is acknowledged where no write stands before it; the commit of a decoder writes its content with the outcome of R51's checks. -/
theorem flushAndDecoders : Obligations.FlushAndDecoders := by
  unfold Obligations.FlushAndDecoders
  refine ⟨?_, ?_, ?_, ?_, ?_, ?_, ?_⟩
  · exact fun s head hm => completes_ran (f := fun x => x.gpfPhase1Eff head) rfl (if_pos hm) rfl
  · intro s head hm ht hi ho
    have hw : s.gpfWrites head = [] := by
      rw [State.gpfWrites, ht, hi, ho]
      rfl
    exact completes_ran (f := fun x => x.gpfPhase2Eff head) rfl (State.gpfPhase2Eff_of_nil hm hw) rfl
  · intro s head h8 hm hw
    exact completes_ran (f := fun x => x.gpfPhase2Eff head) rfl (State.gpfPhase2Eff_of_ne_nil hm (gpfWrites_of_tracker hw))
      ⟨congrArg Head.gpf (s.head_modHead_self h8 (fun d => { d with gpf := some (s.gpfWrites head) })), rfl, only_tiles s _ rfl⟩
  · intro s head h8 hm hg
    have heff : s.gpfPhase2AckEff head = (s.modHead head (fun d => { d with gpf := none })).emit (.gpfAck head 2 false) := by
      rw [State.gpfPhase2AckEff, hm, hg]
      rfl
    exact completes_modHead (f := fun x => x.gpfPhase2AckEff head) rfl heff h8
      fun t hself _ hout honly => ⟨congrArg Head.gpf hself, hout, honly⟩
  · intro s head ld idx iw ig base size skip target lock ha hu hp hi hl henc hsize hbase hcommit
    have hd := hdm_modLd (s := s) (decoder_lt hi) (s.ldOf head ld) ((Hdm.asked iw ig base size skip target).judged true lock)
    exact completes_ran (f := fun x => x.hdmDecoderCommitEff head ld idx iw ig base size skip target lock) rfl
      (State.hdmDecoderCommitEff_run ha hu hp hi hl (asked_ok henc hsize hbase hcommit))
      ⟨congrArg Hdm.committed hd, congrArg Hdm.base hd, congrArg Hdm.size hd, congrArg Hdm.locked hd, only_cap s _ rfl⟩
  · intro s head ld idx iw ig base size skip target lock ha hu hp hi hl hsize
    have hd := hdm_modLd (s := s) (decoder_lt hi) (s.ldOf head ld) ((Hdm.asked iw ig base size skip target).judged false lock)
    exact completes_ran (f := fun x => x.hdmDecoderCommitEff head ld idx iw ig base size skip target lock) rfl
      (State.hdmDecoderCommitEff_run ha hu hp hi hl (asked_fails hsize _)) ⟨congrArg Hdm.committed hd, congrArg Hdm.error hd, only_cap s _ rfl⟩
  · intro s head ld idx iw ig base size skip target lock hl
    have heff : s.hdmDecoderCommitEff head ld idx iw ig base size skip target lock = s := by
      rw [State.hdmDecoderCommitEff]
      exact if_pos (by rw [hl, Bool.or_true])
    exact completes_ran (f := fun x => x.hdmDecoderCommitEff head ld idx iw ig base size skip target lock) rfl heff rfl

end Sys2Proof.Machine
end

section
/-! What recording an event leaves of registers and rings (14_command_rings.md R425; 17_guestbook_parameter_store.md R478). -/

namespace Sys2Proof.Machine

open Sys2Proof

/-- The registers of the tiles and heads read as before, and every ring is in the state, and owned by the head, that it was. -/
structure Logs (s t : State) : Prop where
  reg : ∀ r, 0x10000 ≤ r → t.getReg r = s.getReg r
  ring : ∀ k, (t.ring k).state = (s.ring k).state ∧ (t.ring k).head = (s.ring k).head

section
variable {s t a b c : State}

theorem Logs.refl (s : State) : Logs s s := ⟨fun _ _ => rfl, fun _ => ⟨rfl, rfl⟩⟩

theorem Logs.trans (k : Logs a b) (l : Logs b c) : Logs a c :=
  ⟨fun r hr => (l.reg r hr).trans (k.reg r hr), fun r => ⟨(l.ring r).1.trans (k.ring r).1, (l.ring r).2.trans (k.ring r).2⟩⟩

theorem Logs.ite {p : Prop} [Decidable p] (ha : Logs s a) (hb : Logs s b) : Logs s (if p then a else b) := by
  split
  · exact ha
  · exact hb

theorem Logs.foldl {β : Type} {f : State → β → State} {l : List β} (k : ∀ a, ∀ x ∈ l, Logs a (f a x)) (s : State) : Logs s (l.foldl f s) := by
  induction l generalizing s with
  | nil => exact .refl s
  | cons x l ih => exact (k s x List.mem_cons_self).trans (ih (fun a y hy => k a y (List.mem_cons_of_mem x hy)) _)

/-- What writes neither registers nor rings. -/
theorem logs_of_eq (hr : t.reg = s.reg) (hp : t.porter = s.porter) : Logs s t :=
  ⟨fun r _ => State.getReg_congr hr r, fun k => by rw [State.ring, State.ring, hp]; exact ⟨rfl, rfl⟩⟩

theorem logs_emit (s : State) (o : Out) : Logs s (s.emit o) := logs_of_eq rfl rfl
theorem logs_modGb (s : State) (f : Guestbook → Guestbook) : Logs s (s.modGb f) := logs_of_eq rfl rfl

theorem logs_setFld {o : Nat} (h : o < 0x10000) (s : State) (hi lo v : Nat) : Logs s (s.setFld o hi lo v) :=
  ⟨fun _ hr => State.getReg_setFld_ne (by omega) .., fun _ => ⟨rfl, rfl⟩⟩

theorem logs_modRing (s : State) (r : Nat) {f : Ring → Ring} (hs : ∀ g, (f g).state = g.state := by intro; rfl)
    (hh : ∀ g, (f g).head = g.head := by intro; rfl) : Logs s (s.modRing r f) :=
  ⟨fun _ _ => rfl, fun k => ⟨vget_vmod_keeps Ring.state hs r k {} s.porter.rings, vget_vmod_keeps Ring.head hh r k {} s.porter.rings⟩⟩

theorem logs_cqWrite (s : State) (r : Nat) (x y : List Byte) : Logs s (s.cqWrite r x y) :=
  ((logs_emit s _).trans (logs_emit _ _)).trans (logs_modRing _ r (fun _ => by split <;> rfl) (fun _ => by split <;> rfl))

theorem logs_ringMsix (s : State) (r : Nat) : Logs s (s.ringMsix r) := (logs_emit s _).trans (logs_modRing _ r)

theorem logs_ringCount (s : State) (r : Nat) (now : Bool) : Logs s (s.ringCount r now) :=
  .ite ((logs_modRing s r).trans (logs_ringMsix ..)) (logs_modRing s r)

theorem ringEvt_lt {r : Nat} (h : r < 64) : Reg.RING_EVT r < 0x10000 := by
  rw [Reg.RING_EVT]
  omega

theorem logs_evtWrite (s : State) (g : GbRecord) {r : Nat} (h : r < 64) : Logs s (s.evtWrite g r).1 := by
  unfold State.evtWrite
  dsimp only
  split
  · exact (logs_setFld (ringEvt_lt h) ..).trans (logs_modRing _ r)
  · exact ((logs_cqWrite ..).trans (logs_modRing _ r)).trans (logs_ringCount ..)

theorem evtRings_lt {code r : Nat} (h : r ∈ s.evtRings code) : r < 64 := by
  rw [State.evtRings] at h
  split at h
  · cases h
  · exact List.mem_range.1 (List.mem_filter.1 h).1

theorem logs_gbEventN (n : Nat) (s : State) (code k : Nat) (l : List Nat) (rep : Bool) : Logs s (s.gbEventN n code k l rep) := by
  induction n generalizing s code k l rep with
  | zero => exact .refl s
  | succ n ih =>
    have hring (g : GbRecord) (a : State) {k : Nat} (hk : k < 64) : Logs a (
        let (b, first) := State.evtWrite a g k
        if first then State.gbEventN n b Gb.PORTER_EVT_LOST 15 [k, b.fld (Reg.RING_EVT k) 31 16] false else b) :=
      .ite ((logs_evtWrite a g hk).trans (ih ..)) (logs_evtWrite a g hk)
    have hstore : Logs s (s.gbStore code k l).1 := logs_of_eq rfl rfl
    have hrings := hstore.trans (.foldl (l := (s.gbStore code k l).1.evtRings code) (fun a x hx => hring (s.gbStore code k l).2 a (evtRings_lt hx)) (s.gbStore code k l).1)
    refine .ite (logs_modGb ..) (.ite ((logs_modGb ..).trans (logs_setFld (by decide) ..)) (.ite (logs_modGb ..) ?_))
    exact .ite ((hrings.trans (logs_modGb ..)).trans (ih ..)) hrings

theorem logs_event (s : State) (code k : Nat) (l : List Nat) : Logs s (s.event code k l) := logs_gbEventN 4 s code k l false

theorem Logs.regBit (k : Logs s t) {o : Nat} (ho : 0x10000 ≤ o) (b : Nat) : t.regBit o b = s.regBit o b := by
  rw [State.regBit, State.regBit, State.fld, State.fld, k.reg o ho]

/-- A bit that is latched with its event reads 1. -/
theorem regBit_latch_self (s : State) {o b : Nat} (ho : 0x10000 ≤ o) (hb : b < 32) (code k : Nat) (l : List Nat) :
    (s.latch o b code k l).regBit o b = true :=
  ((logs_gbEventN 4 (s.latchOnly o b) code k l (s.regBit o b)).regBit ho b).trans (s.regBit_latchOnly_self o hb)

/-- Latching a bit leaves every ring's state and owner. -/
theorem ring_latch (s : State) (o b code k : Nat) (l : List Nat) (r : Nat) :
    ((s.latch o b code k l).ring r).state = (s.ring r).state ∧ ((s.latch o b code k l).ring r).head = (s.ring r).head :=
  (logs_gbEventN 4 (s.latchOnly o b) code k l (s.regBit o b)).ring r

end

end Sys2Proof.Machine
end

section
/-! Links and resets of heads (02_host_ports.md R31 to R37, R60, R61). -/

namespace Sys2Proof.Machine

open Sys2Proof

/-! ### Rings of a head that is reset (R408) -/

section
variable {s : State} {h : Nat}

/-- R408: a ring is DISABLED or of another head. -/
def State.ringOff (s : State) (h r : Nat) : Prop := (s.ring r).state = .disabled ∨ (s.ring r).head ≠ h

theorem State.ringOff_congr {t : State} {r : Nat} (k : (t.ring r).state = (s.ring r).state ∧ (t.ring r).head = (s.ring r).head) (hs : s.ringOff h r) :
    t.ringOff h r := by
  rw [State.ringOff, k.1, k.2]
  exact hs

theorem State.ringOff_congr_porter {t : State} (k : t.porter = s.porter) {r : Nat} (hs : s.ringOff h r) : t.ringOff h r :=
  State.ringOff_congr (by rw [State.ring, State.ring, k]; exact ⟨rfl, rfl⟩) hs

/-- R408: a ring is disabled, and the commands that it executes are discarded. -/
def Ring.off (g : Ring) : Ring := { g with state := .disabled, fetched := [], execs := g.execs.map (fun e => { e with discard := true }) }

theorem ringOff_disable (s : State) (h : Nat) {r k : Nat} (hr : r < 64) (ho : r = k ∨ s.ringOff h r) :
    ((s.modRing k Ring.off).setFld (Reg.RING_CTL k) 0 0 0).ringOff h r := by
  by_cases hk : r = k
  · refine .inl ?_
    subst hk
    exact congrArg Ring.state (State.ring_modRing_self s Ring.off hr)
  · have hring : (s.modRing k Ring.off).ring r = s.ring r := State.ring_modRing_ne hk ..
    exact State.ringOff_congr (s := s) ⟨congrArg Ring.state hring, congrArg Ring.head hring⟩ (ho.resolve_left hk)

theorem ringOff_foldl (h : Nat) {r : Nat} (hr : r < 64) (l : List Nat) (s : State) (ho : r ∈ l ∨ s.ringOff h r) :
    (l.foldl (fun a k => (a.modRing k Ring.off).setFld (Reg.RING_CTL k) 0 0 0) s).ringOff h r := by
  induction l generalizing s with
  | nil => exact ho.resolve_left List.not_mem_nil
  | cons k l ih =>
    refine ih _ ?_
    rcases ho with hm | ho
    · rcases List.mem_cons.1 hm with rfl | hm
      · exact .inr (ringOff_disable s h hr (.inl rfl))
      · exact .inl hm
    · exact .inr (ringOff_disable s h hr (.inr ho))

theorem onlyLog_ringsReset (s : State) (h : Nat) : OnlyLog s (s.ringsReset h) := by
  rw [State.ringsReset]
  dsimp only
  split
  · exact .refl s
  · exact (OnlyLog.foldl _ (fun a k => (onlyLog_modRing a k _).trans (onlyLog_setFld ..)) _ s).trans (onlyLog_event ..)

/-- R408: after the reset of a head no ring of it runs. -/
theorem ringOff_ringsReset (s : State) (h : Nat) {r : Nat} (hr : r < 64) : (s.ringsReset h).ringOff h r := by
  have hown : r ∈ (List.range 64).filter (fun r => (s.ring r).state != .disabled && (s.ring r).head == h) ∨ s.ringOff h r := by
    by_cases ho : s.ringOff h r
    · exact .inr ho
    · refine .inl (List.mem_filter.2 ⟨List.mem_range.2 hr, ?_⟩)
      rw [State.ringOff, not_or, not_not] at ho
      simp [ho.1, ho.2]
  rw [State.ringsReset]
  dsimp only
  split
  · next hempty =>
    rw [List.isEmpty_iff.1 hempty] at hown
    exact hown.resolve_left List.not_mem_nil
  · exact State.ringOff_congr ((logs_event _ _ _ _).ring r) (ringOff_foldl h hr _ s hown)

/-! ### The transaction layer of a head that is reset (R60, R61) -/

/-- R60: what the reset of a head leaves of its registers and settings. -/
def Head.cleared (d : Head) : Head :=
  { ({} : Head) with upper := d.upper, busMaster := d.busMaster, qosCtl := d.qosCtl, devLoadAvg := d.devLoadAvg, devLoadAcc := d.devLoadAcc }

/-- R60: no request of the head is left. -/
def Txn.cleared (x : Txn) : Txn := { x with tracker := [], ingress := [], outQ := [] }

/-- R60: the requests and the rings of head `h` are gone, and tiles beside its own and its pair's are as before. -/
structure HeadCleared (s t : State) (h : Nat) : Prop where
  head : t.head h = (s.head h).cleared
  txn : (t.tile h).txn = (s.tile h).txn.cleared
  others : ∀ k, k ≠ h → k ≠ h + 1 → t.tile k = s.tile k
  rings : ∀ r, r < 64 → t.ringOff h r
  frame : t = { s with gb := t.gb, reg := t.reg, porter := t.porter, outbox := t.outbox, tiles := t.tiles, cap := t.cap }

/-- R37: without its pair the upper half inverts no lane. -/
def Head.unpaired (d : Head) : Head := { d with polarity := 0 }

/-- R60: a head whose rings are off and whose requests are gone; its pair is dissolved. -/
def State.emptied (s : State) (h : Nat) : State :=
  if s.bondLower h then ((s.ringsReset h).modTxn h Txn.cleared).modHead (h + 1) Head.unpaired else (s.ringsReset h).modTxn h Txn.cleared

/-- R51: the decoders of a head's LDs that are not locked return to their reset values. -/
def State.hdmReset (s : State) (h : Nat) : State :=
  s.modCap (fun c => { c with lds := c.lds.map (fun e =>
    if e.1 / 16 = h then (e.1, { e.2 with hdm := vmap (fun d => if d.locked then d else {}) e.2.hdm }) else e) })

theorem State.headClear_eq (s : State) (h : Nat) : s.headClear h = ((s.emptied h).modHead h Head.cleared).hdmReset h := rfl

theorem State.tile_ringsReset (s : State) (h k : Nat) : (s.ringsReset h).tile k = s.tile k := by
  rw [State.tile, State.tile, (onlyLog_ringsReset s h).tiles]

theorem State.emptied_frame (s : State) (h : Nat) :
    s.emptied h = { s with gb := (s.emptied h).gb, reg := (s.emptied h).reg, porter := (s.emptied h).porter, outbox := (s.emptied h).outbox, tiles := (s.emptied h).tiles } := by
  have hlog := onlyLog_ringsReset s h
  rw [OnlyLog] at hlog
  rw [State.emptied]
  generalize s.ringsReset h = a at hlog
  rw [hlog]
  split <;> rfl

theorem State.emptied_porter (s : State) (h : Nat) : (s.emptied h).porter = (s.ringsReset h).porter := by
  rw [State.emptied]
  split <;> rfl

theorem State.tile_emptied_self (s : State) (h8 : h < 8) : (s.emptied h).tile h = { s.tile h with txn := (s.tile h).txn.cleared } := by
  have hmod : ((s.ringsReset h).modTxn h Txn.cleared).tile h = { s.tile h with txn := (s.tile h).txn.cleared } := by
    rw [State.modTxn, State.tile_modTile_self _ _ h8, State.tile_ringsReset]
  rw [State.emptied]
  split
  · rw [State.modHead, State.tile_modTile_ne (by omega), hmod]
  · exact hmod

theorem State.tile_emptied_ne (s : State) {k : Nat} (h1 : k ≠ h) (h2 : k ≠ h + 1) : (s.emptied h).tile k = s.tile k := by
  have hmod : ((s.ringsReset h).modTxn h Txn.cleared).tile k = s.tile k := by
    rw [State.modTxn, State.tile_modTile_ne h1, State.tile_ringsReset]
  rw [State.emptied]
  split
  · rw [State.modHead, State.tile_modTile_ne h2, hmod]
  · exact hmod

theorem headClear_spec (s : State) (h8 : h < 8) : HeadCleared s (s.headClear h) h := by
  have hself : (s.headClear h).tile h = { s.tile h with txn := (s.tile h).txn.cleared, head := (s.head h).cleared } := by
    have hmod : ((s.emptied h).modHead h Head.cleared).tile h = { (s.emptied h).tile h with head := ((s.emptied h).tile h).head.cleared } :=
      State.tile_modTile_self _ _ h8
    rw [State.tile_emptied_self s h8] at hmod
    exact hmod
  refine ⟨congrArg Tile.head hself, congrArg Tile.txn hself, ?_, ?_, ?_⟩
  · intro k h1 h2
    have hmod : ((s.emptied h).modHead h Head.cleared).tile k = (s.emptied h).tile k := State.tile_modTile_ne h1 ..
    exact hmod.trans (s.tile_emptied_ne h1 h2)
  · intro r hr
    have hporter : (s.headClear h).porter = (s.ringsReset h).porter := s.emptied_porter h
    exact State.ringOff_congr_porter hporter (ringOff_ringsReset s h hr)
  · rw [State.headClear_eq]
    have hframe := s.emptied_frame h
    generalize s.emptied h = b at hframe
    rw [hframe]
    rfl

end

/-! ### Decoders of a head (R51) -/

theorem mem_vmap {α : Type} {n : Nat} {f : α → α} {v : Vector α n} {x : α} (k : x ∈ (vmap f v).toList) : ∃ y ∈ v.toList, f y = x := by
  obtain ⟨i, hi, hx⟩ := List.mem_mapIdx.1 (show x ∈ v.toList.mapIdx (fun _ => f) from k)
  exact ⟨_, List.getElem_mem hi, hx⟩

/-- R51: a conventional reset leaves no decoder of a head locked. -/
theorem unlockHdm_lds (s : State) (h : Nat) :
    (s.unlockHdm h).cap.lds.all (fun e => e.1 / 16 != h || e.2.hdm.toList.all (fun x => !x.locked)) = true := by
  refine List.all_eq_true.2 fun e he => ?_
  obtain ⟨e', -, rfl⟩ := List.mem_map.1 (show e ∈ s.cap.lds.map _ from he)
  by_cases hh : e'.1 / 16 = h
  · rw [if_pos hh, Bool.or_eq_true]
    refine .inr (List.all_eq_true.2 fun x hx => ?_)
    obtain ⟨y, -, rfl⟩ := mem_vmap hx
    rfl
  · rw [if_neg hh]
    simp [hh]

/-! ### A conventional reset (R60) -/

section
variable {s : State} {h : Nat}

theorem winCloseAll_none (s : State) (us : Nat) : s.winCloseAll (fun _ => false) us = s := by
  have hfold (l : List Nat) : l.foldl (fun (a : State) w => if (false : Bool) = true then a.winClose w 0xFF us true else a) s = s := by
    induction l with
    | nil => rfl
    | cons w l ih => exact ih
  exact hfold _

/-- R60: the link of a head is down, with the event of it. -/
def State.linkDown (s : State) (h : Nat) : State := (s.setReg (Reg.HEAD_LINK_COUNT h) 0).latch (Reg.HEAD_ERR_STATUS h) 1 Gb.LINK_DOWN h [h]

theorem State.headReset_eq (s : State) (h : Nat) : s.headReset h = (s.headClear h).linkDown h := winCloseAll_none ..

theorem onlyLog_linkDown (s : State) (h : Nat) : OnlyLog s (s.linkDown h) := OnlyLog.trans (b := s.setReg (Reg.HEAD_LINK_COUNT h) 0) rfl (onlyLog_latch ..)

/-- An event leaves what a reset has changed. -/
theorem HeadCleared.log {t u : State} (k : HeadCleared s t h) (hlog : OnlyLog t u) (hring : ∀ r, (u.ring r).state = (t.ring r).state ∧ (u.ring r).head = (t.ring r).head) :
    HeadCleared s u h := by
  have htile (k : Nat) : u.tile k = t.tile k := by rw [State.tile, State.tile, hlog.tiles]
  refine ⟨?_, ?_, ?_, ?_, ?_⟩
  · rw [State.head, htile]
    exact k.head
  · rw [htile]
    exact k.txn
  · intro j h1 h2
    rw [htile]
    exact k.others j h1 h2
  · exact fun r hr => State.ringOff_congr (hring r) (k.rings r hr)
  · have hframe := k.frame
    rw [OnlyLog] at hlog
    rw [hlog, hframe]

/-- R60: a head that is reset: its link is down, and its link-down event is latched. -/
theorem headReset_spec (s : State) (h8 : h < 8) : HeadCleared s (s.headReset h) h ∧ (s.headReset h).regBit (Reg.HEAD_ERR_STATUS h) 1 = true := by
  rw [State.headReset_eq]
  refine ⟨(headClear_spec s h8).log (onlyLog_linkDown ..) (fun r => ring_latch ..), regBit_latch_self _ ?_ (by decide) _ _ _⟩
  rw [Reg.HEAD_ERR_STATUS]
  omega

end

end Sys2Proof.Machine
end

section
/-! The statements on links and resets of heads (02_host_ports.md R31 to R37, R60, R61; 10_modes.md R316). -/

namespace Sys2Proof.Machine

open Sys2Proof

/-! ### Link training (R31 to R37) -/

theorem OnlyLog.ite {s a b : State} {p : Prop} [Decidable p] (ha : OnlyLog s a) (hb : OnlyLog s b) : OnlyLog s (if p then a else b) := by
  split
  · exact ha
  · exact hb

theorem onlyLog_latchOnly (s : State) (o b : Nat) : OnlyLog s (s.latchOnly o b) := onlyLog_setFld ..

/-- R31 to R36, R73: a head whose link has trained. `was` says that it was up before, and `flit` that the link goes over to 256-byte flits. -/
def Head.trained (was : Bool) (spd wid : Nat) (flit mem mld : Bool) (ldCount : Nat) (bonded reversed : Bool) (polarity : Nat) (d : Head) : Head :=
  { d with up := true, training := false, speed := spd, width := wid, flit256 := (was && d.flit256) || flit, cxl := mem,
           mld := mld, ldCount := if mld then max 1 (min 16 ldCount) else 1, bonded := bonded, reversed := reversed, polarity := polarity % 256,
           reqCredits := if was then d.reqCredits else if bonded then 1024 else 512,
           rwdCredits := if was then d.rwdCredits else if bonded then 512 else 256 }

/-- R34: the inverted lanes of the upper half of a pair. -/
def Head.lanes (v : Nat) (d : Head) : Head := { d with polarity := v }

section
variable {s : State} {head speed width ldCount polarity recoveries replays : Nat} {flit cxl mldPartner reversed upperFail : Bool}

/-- R31 to R36: beside its events, a training that ends changes the head, and of a bonded pair the lanes of the upper half. -/
theorem linkTrainingDone_log (hm : s.mayTrain head = true) {pair bonded : Bool} (hp : s.bondLower head = pair)
    (hb : (pair && !(pair && (upperFail || !s.alive (head + 1)))) = bonded) :
    ∃ flit' mld, OnlyLog
      (if pair then (s.modHead head (Head.trained (s.head head).up (min speed (maxSpeed (s.trainedCtl head))) (min width (maxWidth (s.trainedCtl head) bonded)) flit'
          (cxl && decide (2 ≤ min speed (maxSpeed (s.trainedCtl head)))) mld ldCount bonded reversed polarity)).modHead (head + 1)
          (Head.lanes (if bonded then polarity / 256 % 256 else 0))
        else s.modHead head (Head.trained (s.head head).up (min speed (maxSpeed (s.trainedCtl head))) (min width (maxWidth (s.trainedCtl head) bonded)) flit'
          (cxl && decide (2 ≤ min speed (maxSpeed (s.trainedCtl head)))) mld ldCount bonded reversed polarity))
      (s.linkTrainingDoneEff head speed width flit cxl mldPartner ldCount reversed polarity upperFail recoveries replays) := by
  refine ⟨flit && maxSpeed (s.trainedCtl head) == 5,
    (cxl && decide (2 ≤ min speed (maxSpeed (s.trainedCtl head)))) && mldPartner && bitOf (s.trainedCtl head) 7, ?_⟩
  subst hb hp
  rw [State.linkTrainingDoneEff, hm, if_neg (show ¬ (!true) = true by decide)]
  extract_lets pair fail bonded ctl spd wid mem mld was err s1 cnt su sc s2 s3 narrow slow
  have hcount : OnlyLog su sc := (onlyLog_addFld ..).trans (onlyLog_addFld ..)
  have hbond : OnlyLog sc s2 := .ite (onlyLog_latch ..) (.refl sc)
  have hslow : OnlyLog s2 s3 := .ite (onlyLog_latch ..) (.refl s2)
  refine OnlyLog.trans (b := s3) ((hcount.trans hbond).trans hslow) ?_
  exact .ite ((onlyLog_latch ..).trans (onlyLog_latchOnly ..)) (.ite (onlyLog_latch ..) (.ite (onlyLog_latch ..) (.refl s3)))

theorem only_tiles_log {a t : State} (ha : a = { s with tiles := a.tiles }) (k : OnlyLog a t) : Only (.tiles :: logParts) s (s.ran t) := by
  rw [OnlyLog] at k
  rw [k, ha]
  exact ⟨rfl, rfl, by simp [Part.all, Part.same, State.ran]⟩

theorem head_of_log {a t : State} (k : OnlyLog a t) (j : Nat) : t.head j = a.head j := by
  rw [State.head, State.head, State.tile, State.tile, k.tiles]

end

/-! ### PERST_N (R316) -/

section
variable {s : State} {head : Nat}

/-- R316: the PERST_N of a head is high. -/
def State.perstUp (s : State) (head : Nat) : State := s.modMd (fun d => { d with perstHigh := setBit (d.perstHigh % 256) head })

theorem perstNReleaseEff_eq (h8 : head < 8) :
    s.perstNReleaseEff head =
      if (s.perstUp head).mayTrain head && !(s.head head).up then (s.perstUp head).startTraining head else s.perstUp head := by
  rw [State.perstNReleaseEff, Nat.mod_eq_of_lt h8]
  rfl

theorem State.startTraining_training (s : State) (h8 : head < 8) : ((s.startTraining head).head head).training = true :=
  congrArg Head.training (s.head_modHead_self h8 (fun d => { d with training := true, trainCtl := s.linkCtl head }))

end

/-! ### Conventional resets (R60) -/

/-- R60: the link of head `h` is down and its transaction layer reset, and no decoder of it is locked. -/
structure LinkReset (s t : State) (h : Nat) : Prop where
  up : (t.head h).up = false
  txn : (t.tile h).txn = (s.tile h).txn.cleared
  others : ∀ k, k ≠ h → k ≠ h + 1 → t.tile k = s.tile k
  rings : ∀ r, r < 64 → t.ringOff h r
  latched : t.regBit (Reg.HEAD_ERR_STATUS h) 1 = true
  lds : t.cap.lds.all (fun e => e.1 / 16 != h || e.2.hdm.toList.all (fun x => !x.locked)) = true
  frame : t = { s with gb := t.gb, reg := t.reg, porter := t.porter, outbox := t.outbox, tiles := t.tiles, cap := t.cap }

section
variable {s t : State} {h : Nat}

theorem linkReset_spec (s : State) (h8 : h < 8) : LinkReset s ((s.headReset h).unlockHdm h) h := by
  obtain ⟨hc, hbit⟩ := headReset_spec s h8
  have hframe := hc.frame
  refine ⟨?_, hc.txn, hc.others, fun r hr => State.ringOff_congr_porter (s := s.headReset h) rfl (hc.rings r hr), hbit, unlockHdm_lds .., ?_⟩
  · exact congrArg Head.up hc.head
  · generalize s.headReset h = a at hframe
    rw [State.unlockHdm, State.modCap, hframe]

/-- R60: with PERST_N high the link starts to train again. -/
theorem LinkReset.training (k : LinkReset s t h) (h8 : h < 8) : LinkReset s (t.startTraining h) h := by
  have hself : (t.startTraining h).tile h = { t.tile h with head := { t.head h with training := true, trainCtl := t.linkCtl h } } := by
    rw [State.startTraining, State.modHead, State.tile_modTile_self _ _ h8]
    rfl
  refine ⟨?_, ?_, ?_, ?_, k.latched, k.lds, ?_⟩
  · rw [State.head, hself]
    exact k.up
  · rw [hself]
    exact k.txn
  · intro j h1 h2
    have hne : (t.startTraining h).tile j = t.tile j := State.tile_modTile_ne h1 ..
    rw [hne]
    exact k.others j h1 h2
  · exact fun r hr => State.ringOff_congr_porter (s := t) rfl (k.rings r hr)
  · have hframe := k.frame
    rw [State.startTraining, State.modHead, State.modTile]
    rw [hframe]

/-- R60: a head whose link is up is reset by a hot reset, a link-down or PERST_N. -/
theorem linkReset_headReset {kind : Nat} (h8 : h < 8) (hup : (s.head h).up = true) (hupper : (s.head h).upper = false) :
    ∃ m : ModeState, m.perstHigh = (if kind = 0 then clearBit (s.md.perstHigh % 256) h else s.md.perstHigh) ∧
      LinkReset { s with md := m } (s.headResetEff h kind) h := by
  obtain ⟨m, hm⟩ : ∃ m, m = if kind = 0 then { s.md with perstHigh := clearBit (s.md.perstHigh % 256) (h % 8) } else s.md := ⟨_, rfl⟩
  have hs : (if kind = 0 then s.modMd (fun d => { d with perstHigh := clearBit (d.perstHigh % 256) (h % 8) }) else s) = { s with md := m } := by
    rw [hm]
    split <;> rfl
  refine ⟨m, ?_, ?_⟩
  · rw [hm, Nat.mod_eq_of_lt h8]
    exact apply_ite ModeState.perstHigh ..
  · have hu : ¬ (State.head { s with md := m } h).upper = true := by
      rw [show State.head { s with md := m } h = s.head h from rfl, hupper]
      exact Bool.noConfusion
    have hd : ¬ (!(State.head { s with md := m } h).up) = true := by
      rw [show State.head { s with md := m } h = s.head h from rfl, hup]
      exact Bool.noConfusion
    have hspec := linkReset_spec { s with md := m } h8
    rw [State.headResetEff, hs]
    dsimp only
    rw [if_neg hu, if_neg hd]
    split
    · exact hspec.training h8
    · exact hspec

theorem pairKept_of {s t : State} (k : ∀ j, j ≠ h → j ≠ h + 1 → t.tile j = s.tile j) :
    (List.range 8).all (fun j => j == h || j == h + 1 || decide (t.tile j = s.tile j)) = true := by
  refine List.all_eq_true.2 fun j _ => ?_
  by_cases h1 : j = h
  · simp [h1]
  · by_cases h2 : j = h + 1
    · simp [h2]
    · simp [k j h1 h2]

theorem ringsOff_of (k : ∀ r, r < 64 → t.ringOff h r) : (List.range 64).all (fun r => (t.ring r).state == .disabled || (t.ring r).head != h) = true := by
  refine List.all_eq_true.2 fun r hr => ?_
  rcases k r (List.mem_range.1 hr) with hd | hn
  · simp [hd]
  · simp [hn]

end

end Sys2Proof.Machine
end

section
/-! Links and resets of heads, settled (02_host_ports.md R31 to R37, R60, R61; 10_modes.md R316). -/

namespace Sys2Proof.Machine

open Sys2Proof

section
variable {s : State} {head : Nat}

/-- R61: what a CXL Reset gives a head back: its link as it was, with the credits of a link that has trained. -/
def Head.relinked (old d : Head) : Head :=
  { d with up := old.up, speed := old.speed, width := old.width, flit256 := old.flit256, cxl := old.cxl, mld := old.mld,
           ldCount := old.ldCount, bonded := old.bonded, reversed := old.reversed, polarity := old.polarity,
           training := old.training, trainCtl := old.trainCtl,
           reqCredits := if old.bonded then 1024 else 512, rwdCredits := if old.bonded then 512 else 256 }

/-- R61: a CXL Reset clears the transaction layer of a head and keeps its link. -/
theorem cxlResetEff_eq (ha : s.alive head = true) (hu : (s.head head).up = true) :
    s.cxlResetEff head = (((s.headClear head).modHead (head + 1) (Head.lanes (s.head (head + 1)).polarity)).modHead head (Head.relinked (s.head head))) := by
  exact if_neg (by rw [ha, hu]; exact Bool.noConfusion)

/-- R61: what a CXL Reset leaves: the link as it was, no request, no ring, and the tiles beside its own and its pair's. -/
structure LinkKept (s t : State) (h : Nat) : Prop where
  head : t.head h = Head.relinked (s.head h) (s.head h).cleared
  txn : (t.tile h).txn = (s.tile h).txn.cleared
  others : ∀ k, k ≠ h → k ≠ h + 1 → t.tile k = s.tile k
  rings : ∀ r, r < 64 → t.ringOff h r
  frame : t = { s with gb := t.gb, reg := t.reg, porter := t.porter, outbox := t.outbox, tiles := t.tiles, cap := t.cap }

theorem State.frame_modHead {t : State}
    (k : t = { s with gb := t.gb, reg := t.reg, porter := t.porter, outbox := t.outbox, tiles := t.tiles, cap := t.cap }) (h : Nat) (f : Head → Head) :
    t.modHead h f = { s with gb := t.gb, reg := t.reg, porter := t.porter, outbox := t.outbox, tiles := (t.modHead h f).tiles, cap := t.cap } := by
  rw [State.modHead, State.modTile, k]

theorem linkKept_cxlReset (h8 : head < 8) (ha : s.alive head = true) (hu : (s.head head).up = true) : LinkKept s (s.cxlResetEff head) head := by
  have hc := headClear_spec s h8
  rw [cxlResetEff_eq ha hu]
  generalize s.headClear head = a at hc
  obtain ⟨g, hg⟩ : ∃ g, g = Head.relinked (s.head head) := ⟨_, rfl⟩
  obtain ⟨p, hp⟩ : ∃ p, p = Head.lanes (s.head (head + 1)).polarity := ⟨_, rfl⟩
  have hself : ((a.modHead (head + 1) p).modHead head g).tile head =
      { a.tile head with head := g (a.head head) } := by
    have hpair : (a.modHead (head + 1) p).tile head = a.tile head := State.tile_modTile_ne (by omega) ..
    have hmod : ((a.modHead (head + 1) p).modHead head g).tile head =
        { (a.modHead (head + 1) p).tile head with head := g ((a.modHead (head + 1) p).tile head).head } :=
      State.tile_modTile_self _ _ h8
    rw [hpair] at hmod
    exact hmod
  rw [← hg, ← hp]
  refine ⟨?_, ?_, ?_, fun r hr => State.ringOff_congr_porter (s := a) rfl (hc.rings r hr), ?_⟩
  · exact (congrArg Tile.head hself).trans ((congrArg g hc.head).trans (congrArg (fun f : Head → Head => f (s.head head).cleared) hg))
  · exact (congrArg Tile.txn hself).trans hc.txn
  · intro k h1 h2
    have hpair : (a.modHead (head + 1) p).tile k = a.tile k := State.tile_modTile_ne h2 ..
    have hmod : ((a.modHead (head + 1) p).modHead head g).tile k = (a.modHead (head + 1) p).tile k :=
      State.tile_modTile_ne h1 ..
    rw [hmod, hpair]
    exact hc.others k h1 h2
  · exact State.frame_modHead (State.frame_modHead hc.frame _ _) _ _

/-- R316: a configuration request that its stream passes is taken. -/
theorem configurationRequestEff_eq {io : Option (Nat × Bool)} (hio : s.ioPasses head io = true) (ha : s.alive head = true) (hu : (s.head head).up = true)
    (cto : Option CtoRange) :
    s.configurationRequestEff head io cto = if s.md.mode == .bringup && !bitOf s.md.stepsDone 8 then s.emit (.cfgResponse head true [])
      else
        let s1 := match cto with | some r => s.modHead head (fun d => { d with ctoUs := ctoLimit r }) | none => s
        (s1.emit (.cfgResponse head false (s1.cfgView head))).bumpFree := by
  exact (if_neg (by rw [ha, hu]; exact Bool.noConfusion)).trans (State.ioTaken_passes hio _)

/-- R316: from step 8 of Bring-up on a configuration request is answered normally. -/
theorem answers_normally (k : s.md.mode ≠ .bringup ∨ bitOf s.md.stepsDone 8 = true) : ¬ (s.md.mode == .bringup && !bitOf s.md.stepsDone 8) = true := by
  rcases k with hm | hb
  · simp [hm]
  · simp [hb]

end

/-- Settles O23: a training ends at the limits of its head, a reset leaves the head without requests and rings, and each touches tiles of the head and its
pair alone. -/
theorem headLinks : Obligations.HeadLinks := by
  unfold Obligations.HeadLinks
  refine ⟨?_, ?_, ?_, ?_, ?_, ?_, ?_, ?_, ?_, ?_⟩
  · intro s head speed width ldCount polarity recoveries replays flit cxl mldPartner reversed upperFail h8 hm hp
    obtain ⟨flit', mld, hlog⟩ := linkTrainingDone_log (speed := speed) (width := width) (ldCount := ldCount) (polarity := polarity) (recoveries := recoveries)
      (replays := replays) (flit := flit) (cxl := cxl) (mldPartner := mldPartner) (reversed := reversed) (upperFail := upperFail) (bonded := false) hm hp rfl
    rw [if_neg Bool.noConfusion] at hlog
    have hself := (head_of_log hlog head).trans (s.head_modHead_self h8 _)
    refine completes_ran (f := fun x => x.linkTrainingDoneEff head speed width flit cxl mldPartner ldCount reversed polarity upperFail recoveries replays) rfl rfl
      ⟨?_, ?_, ?_, ?_, ?_, ?_, ?_, ?_, only_tiles_log rfl hlog⟩
    · exact congrArg Head.up hself
    · exact congrArg Head.training hself
    · exact congrArg Head.speed hself
    · exact congrArg Head.width hself
    · exact congrArg Head.bonded hself
    · exact congrArg Head.reversed hself
    · exact congrArg Head.cxl hself
    · exact congrArg Head.polarity hself
  · intro s head speed width ldCount polarity recoveries replays flit cxl mldPartner reversed h8 hm hp ha
    obtain ⟨flit', mld, hlog⟩ := linkTrainingDone_log (speed := speed) (width := width) (ldCount := ldCount) (polarity := polarity) (recoveries := recoveries)
      (replays := replays) (flit := flit) (cxl := cxl) (mldPartner := mldPartner) (reversed := reversed) (upperFail := false) (bonded := true) hm hp
      (by rw [ha]; rfl)
    rw [if_pos rfl, if_pos rfl] at hlog
    have heven : head % 2 = 0 := by
      rw [State.bondLower, Bool.and_eq_true, beq_iff_eq] at hp
      exact hp.1
    have hself := (head_of_log hlog head).trans ((State.head_modHead_ne _ (by omega) _).trans (s.head_modHead_self h8 _))
    have hpair := (head_of_log hlog (head + 1)).trans (State.head_modHead_self _ (by omega) _)
    refine completes_ran (f := fun x => x.linkTrainingDoneEff head speed width flit cxl mldPartner ldCount reversed polarity false recoveries replays) rfl rfl
      ⟨?_, ?_, ?_, ?_, ?_, only_tiles_log rfl hlog⟩
    · exact congrArg Head.up hself
    · exact congrArg Head.bonded hself
    · exact congrArg Head.width hself
    · exact congrArg Head.polarity hself
    · exact congrArg Head.polarity hpair
  · intro s head h8 hm
    have hno : (s.perstUp head).mayTrain head = false := by
      have hmode : (s.perstUp head).md.mode = .standby := hm
      rw [State.mayTrain, hmode]
      exact Bool.and_false _
    refine completes_ran (f := fun x => x.perstNReleaseEff head) rfl (perstNReleaseEff_eq h8) ?_
    rw [hno]
    rfl
  · intro s head h8 hoff hstandby hholdup ha hres hupper hup href
    have hmay : (s.perstUp head).mayTrain head = true := by
      have hbit : bitOf (setBit (s.md.perstHigh % 256) head) head = true := bitOf_setBit_self ..
      have hmode : (s.md.mode == .off || s.md.mode == .standby || s.md.mode == .holdup) = false := by simp [hoff, hstandby, hholdup]
      change (s.alive head && s.md.resetsReleased && bitOf (setBit (s.md.perstHigh % 256) head) head && !bitOf s.clk.refFail head && !(s.head head).upper
        && !(s.md.mode == .off || s.md.mode == .standby || s.md.mode == .holdup)) = true
      rw [ha, hres, hbit, href, hupper, hmode]
      rfl
    have heff : s.perstNReleaseEff head = (s.perstUp head).startTraining head := by
      rw [perstNReleaseEff_eq h8, hmay, hup]
      rfl
    refine completes_ran (f := fun x => x.perstNReleaseEff head) rfl heff ⟨?_, bitOf_setBit_self _ head, rfl, rfl, ?_⟩
    · exact (s.perstUp head).startTraining_training h8
    · simp [Part.all, Part.same, State.ran, State.startTraining, State.modHead, State.modTile, State.perstUp, State.modMd]
  · intro s head kind h8 hup hupper
    obtain ⟨m, hm, hr⟩ := linkReset_headReset (kind := kind) h8 hup hupper
    have hmd : (s.headResetEff head kind).md = m := by rw [hr.frame]
    have hframe := hr.frame
    refine completes_ran (f := fun x => x.headResetEff head kind) rfl rfl
      ⟨hr.up, congrArg Txn.tracker hr.txn, congrArg Txn.ingress hr.txn, congrArg Txn.outQ hr.txn, (congrArg ModeState.perstHigh hmd).trans hm, hr.latched,
        ringsOff_of hr.rings, hr.lds, pairKept_of hr.others, ?_⟩
    generalize s.headResetEff head kind = t at hframe
    rw [hframe]
    exact ⟨rfl, rfl, by simp [Part.all, Part.same, State.ran]⟩
  · intro s head h8 ha hup
    have hk := linkKept_cxlReset h8 ha hup
    have hhead := hk.head
    have hframe := hk.frame
    refine completes_ran (f := fun x => x.cxlResetEff head) rfl rfl
      ⟨(congrArg Head.up hhead).trans hup, (congrArg Head.speed hhead).trans rfl, (congrArg Head.width hhead).trans rfl, congrArg Txn.tracker hk.txn, congrArg Txn.ingress hk.txn,
        ringsOff_of hk.rings, pairKept_of hk.others, ?_⟩
    generalize s.cxlResetEff head = t at hframe
    rw [hframe]
    exact ⟨rfl, rfl, by simp [Part.all, Part.same, State.ran]⟩
  · intro s head h8 ha hup
    have heff : s.functionLevelResetEff head = s.modHead head (fun d => { d with busMaster := ({} : Head).busMaster, ctoUs := ({} : Head).ctoUs }) := by
      rw [State.functionLevelResetEff, ha, hup]
      rfl
    have hself := s.head_modHead_self h8 (fun d => { d with busMaster := ({} : Head).busMaster, ctoUs := ({} : Head).ctoUs })
    have htxn : ((s.modHead head (fun d => { d with busMaster := ({} : Head).busMaster, ctoUs := ({} : Head).ctoUs })).tile head).txn = (s.tile head).txn := by
      rw [State.modHead, State.tile_modTile_self _ _ h8]
    exact completes_ran (f := fun x => x.functionLevelResetEff head) rfl heff
      ⟨congrArg Head.busMaster hself, congrArg Head.ctoUs hself, htxn, only_tiles s _ rfl⟩
  · intro s head io cto hio ha hup hm hstep
    have hretry : (s.md.mode == .bringup && !bitOf s.md.stepsDone 8) = true := by
      rw [hm, hstep]
      rfl
    exact completes_ran (f := fun x => x.configurationRequestEff head io cto) rfl ((configurationRequestEff_eq hio ha hup cto).trans (if_pos hretry)) rfl
  · intro s head io hio ha hup hn
    exact completes_ran (f := fun x => x.configurationRequestEff head io none) rfl
      ((configurationRequestEff_eq hio ha hup none).trans (if_neg (answers_normally hn)))
      ⟨rfl, rfl, rfl, by simp [Part.all, Part.same, State.ran, State.bumpFree, State.emit]⟩
  · intro s head io r hio h8 ha hup hn
    exact completes_ran (f := fun x => x.configurationRequestEff head io (some r)) rfl
      ((configurationRequestEff_eq hio ha hup (some r)).trans (if_neg (answers_normally hn)))
      ⟨congrArg Head.ctoUs (s.head_modHead_self h8 (fun d => { d with ctoUs := ctoLimit r })), rfl, rfl,
        by simp [Part.all, Part.same, State.ran, State.bumpFree, State.emit, State.modHead, State.modTile]⟩

end Sys2Proof.Machine
end

section
/-! A forced release of capacity that a host's request still uses (02_host_ports.md R47). -/

namespace Sys2Proof.Machine

open Sys2Proof

theorem Only.jobs {l : List Part} {s t : State} (k : Only l s t) (hl : Part.jobs ∉ l) : t.jobs = s.jobs := by
  obtain ⟨-, -, hall⟩ := k
  have hjobs := List.all_eq_true.1 hall .jobs (by decide)
  rw [Bool.or_eq_true, List.contains_iff_mem] at hjobs
  exact of_decide_eq_true (hjobs.resolve_left hl)

theorem jobs_of_run {s t : State} {f : State → State} (h : s.run f = .next t) : t.jobs = (f s).jobs := by
  cases h
  rfl

/-- A package that serves, with one block, which LD 0 of head 0 holds as an extent, and one request of that head to its first line. -/
def requested : State :=
  { md := { mode := .serve, resetsReleased := true },
    cap := { table := [(0, { kind := 1, ld := 0, region := 0, ldBlk := 0 })], extents := [{ ld := 0, region := 0, start := 0, len := 1 }] },
    tiles := vmod 0 (fun x => { x with txn := { tracker := [{ id := 0, head := 0, tag := 0, ld := 0, dpa := 0, owner := 0, kind := .rd }] } })
      (Vector.replicate 8 {}) }

/-- R47 step 1: the release waits for the request, so that its job stays. -/
theorem ranges_requested : (requested.initiateDynamicCapacityReleaseEff 0 0 0 0 0 1 true).jobs.ranges.isEmpty = false := by decide +kernel

/-- Refutes O41: a forced release of a block to which a request of a host is under way leaves a job that waits for it (R47), where its clause has no job change. -/
theorem not_capacityChanges : ¬ Obligations.CapacityChanges := by
  unfold Obligations.CapacityChanges
  rintro ⟨-, -, -, -, -, -, -, -, hrelease, -⟩
  obtain ⟨t, hrun, -, -, -, -, -, honly⟩ := hrelease requested 0 0 0 0 0 0 1 (by decide +kernel) (by decide +kernel) (by decide) (by decide) (by decide)
    (by decide +kernel) rfl rfl (by decide) (by decide +kernel) rfl
  have hstays : t.jobs.ranges.isEmpty = false := by
    rw [jobs_of_run (f := fun x => x.initiateDynamicCapacityReleaseEff 0 0 0 0 0 1 true) hrun]
    exact ranges_requested
  rw [honly.jobs (by decide)] at hstays
  exact Bool.noConfusion hstays

end Sys2Proof.Machine
end

section
/-! What a request that is answered without a line leaves of its head's registers (02_host_ports.md R70; 03_transactions.md R86). -/

namespace Sys2Proof.Machine

open Sys2Proof

/-- Bit `b` of register `o` is one of a tile or head, and no response of head `h` writes it. -/
structure BesideResponse (h o b : Nat) : Prop where
  own : 0x10000 ≤ o
  status : o ≠ Reg.TXN_STATUS h
  err : o ≠ Reg.TXN_ERR_STATUS h ∨ b ≠ 2
  latMax : o ≠ Reg.TXN_LAT_MAX h
  latOver : o ≠ Reg.TXN_LAT_OVER h

theorem besideResponse_headErr (h b : Nat) : BesideResponse h (Reg.HEAD_ERR_STATUS h) b := by
  constructor <;> simp only [Reg.HEAD_ERR_STATUS, Reg.TXN_STATUS, Reg.TXN_ERR_STATUS, Reg.TXN_LAT_MAX, Reg.TXN_LAT_OVER] <;> omega

theorem besideResponse_txnErr (h : Nat) {b : Nat} (hb : b ≠ 2) : BesideResponse h (Reg.TXN_ERR_STATUS h) b := by
  refine ⟨?_, ?_, .inr hb, ?_, ?_⟩ <;> simp only [Reg.TXN_STATUS, Reg.TXN_ERR_STATUS, Reg.TXN_LAT_MAX, Reg.TXN_LAT_OVER] <;> omega

section
variable {h o b : Nat}

theorem perfOvf_lt {t : Nat} (ht : t < 8) (n : Nat) : (if n < 32 then Reg.PERF_OVF0 else Reg.PERF_OVF1) + 8 * t < 0x10000 := by
  split <;> simp only [Reg.PERF_OVF0, Reg.PERF_OVF1] <;> omega

theorem logs_cntAdd {t : Nat} (ht : t < 8) (k : Nat) (s : State) (n d : Nat) : Logs s (State.cntAdd k s t n d) := by
  induction k generalizing s n d with
  | zero => exact .refl s
  | succ k ih =>
    have hset (v : Nat) : Logs s (s.setCnt t n v) := logs_of_eq rfl rfl
    have hovf (a : State) : Logs a (a.perfOvf t n) := logs_setFld (perfOvf_lt ht n) ..
    exact .ite (hset _) (.ite (((hset _).trans (hovf _)).trans (ih ..)) ((hset _).trans (hovf _)))

theorem logs_perfEvent {t : Nat} (ht : t < 8) (s : State) (no q d : Nat) : Logs s (s.perfEvent t no q d) :=
  .ite (.refl s) (.foldl (fun a _ _ => .ite (logs_cntAdd ht ..) (.refl a)) s)

theorem State.regBit_of_getReg {s t : State} (h : t.getReg o = s.getReg o) : t.regBit o b = s.regBit o b := by
  rw [State.regBit, State.regBit, State.fld, State.fld, h]

/-- Latching a bit leaves every other one. -/
theorem regBit_latch_other {a c : Nat} (ho : 0x10000 ≤ o) (hc : c < 32) (hne : o ≠ a ∨ b ≠ c) (s : State) (code k : Nat) (l : List Nat) :
    (s.latch a c code k l).regBit o b = s.regBit o b := by
  have hset : (s.latchOnly a c).regBit o b = s.regBit o b := by
    by_cases hoa : o = a
    · subst hoa
      have hbc : b ≠ c := hne.resolve_left (not_not.2 rfl)
      rw [State.regBit, State.regBit, State.latchOnly, State.setFld, State.fld, State.fld, State.getReg_setReg_self,
        fieldOf_withField_apart _ _ le_rfl hc (Nat.lt_or_gt_of_ne hbc)]
    · exact State.regBit_of_getReg (State.getReg_setFld_ne hoa s ..)
  exact ((logs_gbEventN 4 (s.latchOnly a c) code k l (s.regBit a c)).regBit ho b).trans hset

theorem regBit_measure {r : Req} (h8 : r.head < 8) (k : BesideResponse r.head o b) (s : State) (latNs : Nat) :
    (s.measure r latNs).regBit o b = s.regBit o b := by
  have hmax : (if r.kind == .rd && decide ((s.getReg (Reg.TXN_LAT_MAX r.head)).toNat < latNs) then
      s.setReg (Reg.TXN_LAT_MAX r.head) (BitVec.ofNat 32 (min latNs 0xFFFFFFFF)) else s).regBit o b = s.regBit o b := by
    split
    · exact State.regBit_of_getReg (State.getReg_setReg_ne k.latMax ..)
    · rfl
  rw [State.measure]
  split
  · rfl
  · dsimp only
    split
    · rw [(logs_perfEvent h8 ..).regBit k.own, regBit_latch_other k.own (by decide) k.err, State.addFld,
        State.regBit_of_getReg (State.getReg_setFld_ne k.latOver ..), hmax]
    · exact hmax

/-- A response leaves the bits that none writes. -/
theorem regBit_respond {s : State} {r : Req} (h8 : r.head < 8) (k : BesideResponse r.head o b) (hc : s.hasCredit r) (data : Option Line) (poison : Bool)
    (latNs : Nat) : (s.respond r data poison latNs).regBit o b = s.regBit o b := by
  obtain ⟨dl, counts, heff⟩ := State.respond_of_credit hc data poison latNs
  have hsent : ((s.measure r latNs).sent r data poison dl).regBit o b = (s.measure r latNs).regBit o b :=
    State.regBit_of_getReg (State.getReg_setFld_ne k.status ..)
  have hcount : ∀ a : State, (a.counted r counts).reg = a.reg := fun a => by
    cases counts <;> rfl
  rw [heff, State.regBit_of_getReg (State.getReg_congr (hcount _) o), hsent, regBit_measure h8 k]

theorem logs_evtTo (s : State) (log : Nat) (r : EvtRec) (c : Nat) : Logs s (s.evtTo log r c) := by
  have hmod (f : LDev → LDev) : Logs s (s.modLd c f) := logs_of_eq rfl rfl
  exact .ite (.ite (hmod _) ((hmod _).trans (logs_emit ..))) ((hmod _).trans (logs_event ..))

end

end Sys2Proof.Machine
end

section
/-! A request of a host that is answered at once, without a line (02_host_ports.md R49 to R55; 03_transactions.md R71 to R74). -/

namespace Sys2Proof.Machine

open Sys2Proof

/-- Nothing is in the way of the answer to a request, whatever it is found to be. -/
structure State.Prompt (s : State) (m : MemReq) : Prop where
  port : m.head < 8
  taken : s.memTaken m.head = true
  ide : m.ideOk = true
  tracker : (s.tile m.head).txn.tracker = []
  ingress : (s.tile m.head).txn.ingress = []
  bw : s.bwRoom (s.ldOf m.head m.ld) = true
  ndr : (s.head m.head).ndr = none
  drs : (s.head m.head).drs = none

theorem State.prompt_of_answersAtOnce {s : State} {m : MemReq} (k : s.answersAtOnce m = true) : s.Prompt m := by
  simp only [State.answersAtOnce, Bool.and_eq_true, decide_eq_true_eq, List.isEmpty_iff, Option.isNone_iff_eq_none] at k
  obtain ⟨⟨⟨⟨⟨⟨⟨⟨port, taken⟩, ide⟩, tracker⟩, ingress⟩, -⟩, bw⟩, ndr⟩, drs⟩ := k
  exact ⟨port, taken, ide, tracker, ingress, bw, ndr, drs⟩

/-- What a request with its entry leaves of a tile. -/
def Tile.beforeService (x : Tile) : (FrontStore × Media × Xlate) × Txn × Head := (x.content, { x.txn with tracker := [] }, x.head.uncredited)

/-- Request `r` stands alone in the tracker of its head in state `e`, and serving it there is what its message does. -/
structure State.Enters (s : State) (m : MemReq) (kind : ReqKind) (data : Line) (be : Nat) (poison : Bool) (e : State) (r : Req) : Prop where
  head : r.head = m.head
  sort : r.kind = kind
  tag : r.tag = m.tag
  way : r.way = (s.reqWay m kind).1
  serves : Serves m.head Tile.beforeService s.numbered e
  tracker : (e.tile m.head).txn.tracker = [r]
  frame : kind = .inv → e = { s with tiles := e.tiles, jobs := e.jobs }
  run : s.memRequest m kind data be poison = e.serveReq r m.upset m.latNs m.idle

section
variable {s : State} {m : MemReq} {kind : ReqKind} {data : Line} {be : Nat} {poison : Bool}

/-- R73: a MemInv takes its credit and its number, and nothing else of the package changes. -/
theorem frame_arrived_inv (s : State) (m : MemReq) (way : ReqWay) :
    s.arrived m .inv false way = { s with tiles := (s.arrived m .inv false way).tiles, jobs := (s.arrived m .inv false way).jobs } := rfl

theorem frame_entered_inv (s : State) {r : Req} (k : r.kind = .inv) :
    s.entered r = { s with tiles := (s.entered r).tiles } := by
  have hif : (r.way == .line && r.kind != .inv) = false := by simp [k]
  unfold State.entered
  rw [hif]
  rfl

/-- R53, R71: a request that nothing stands in the way of takes its entry and is served. -/
theorem State.Prompt.enters (k : s.Prompt m) (hp : kind = .inv → poison = false) (data : Line) (be : Nat) :
    ∃ e r, s.Enters m kind data be poison e r := by
  have hrun := State.memRequest_allocates (kind := kind) (data := data) (be := be) (poison := poison) k.taken k.ide k.tracker k.ingress k.bw
  rw [State.allocate_eq] at hrun
  have harr := serves_arrived s m kind poison (s.reqWay m kind).1
  have hframe : kind = .inv → s.arrived m kind poison (s.reqWay m kind).1 =
      { s with tiles := (s.arrived m kind poison (s.reqWay m kind).1).tiles, jobs := (s.arrived m kind poison (s.reqWay m kind).1).jobs } := fun hk => by
    rw [hp hk, hk]
    exact frame_arrived_inv s m _
  generalize s.arrived m kind poison (s.reqWay m kind).1 = a at hrun harr hframe
  obtain ⟨r, hr⟩ : ∃ r, r = { s.requestOf m kind data be poison (s.reqWay m kind) with timeoutMs := a.timeoutMs m.head } := ⟨_, rfl⟩
  have hhead : r.head = m.head := by rw [hr]; rfl
  have hkind : r.kind = kind := by rw [hr]; rfl
  have hrun' : s.memRequest m kind data be poison = (a.entered r).serveReq r m.upset m.latNs m.idle := by rw [hr]; exact hrun
  have hent : Serves m.head Tile.beforeService s.numbered (a.entered r) :=
    (harr.map fun v => (v.1, ({ v.2.1 with tracker := [] } : Txn), v.2.2)).trans (hhead ▸ serves_entered a r)
  have htrk : ((a.entered r).tile m.head).txn.tracker = [r] := by
    have hold : (a.tile m.head).txn.tracker = [] := (harr.map fun v => v.2.1.tracker).own.trans k.tracker
    rw [← hhead, State.tracker_entered a (hhead ▸ k.port), hhead, hold]
    rfl
  refine ⟨a.entered r, r, hhead, hkind, by rw [hr]; rfl, by rw [hr]; rfl, hent, htrk, fun hk => ?_, hrun'⟩
  have hf := frame_entered_inv a (hkind.trans hk)
  generalize a.entered r = x at hf ⊢
  rw [hf, hframe hk]

variable {e : State} {r q : Req}

theorem State.Enters.hasCredit (h : s.Enters m kind data be poison e r) (k : s.Prompt m) (hq : q.head = m.head) : e.hasCredit q := by
  have hhead := h.serves.map fun v => v.2.2
  refine State.hasCredit_of_none ?_ ?_
  · rw [hq]
    exact (hhead.map Head.ndr).own.trans k.ndr
  · rw [hq]
    exact (hhead.map Head.drs).own.trans k.drs

/-- A request has its answer, and what its head's tile holds and what waits there is as it was. -/
structure AnswersAlone (s t : State) (m : MemReq) (data : Option Line) (poison : Bool) : Prop where
  answered : answered s t m.head m.tag data poison = true
  serves : Serves m.head Tile.content s.numbered t
  txn : (t.tile m.head).txn = (s.tile m.head).txn

/-- R74: the response of a request that stands alone leaves everything of its tile as it was before its arrival. -/
theorem State.Enters.respond (h : s.Enters m kind data be poison e r) (k : s.Prompt m) {a : State}
    (ha : Serves m.head (fun x => (x.content, x.txn, x.head)) e a) (hq : q.head = m.head) (hid : q.id = r.id) (htag : q.tag = m.tag)
    (answer : Option Line) (bad : Bool) (latNs : Nat) :
    a.hasCredit q ∧ AnswersAlone s (a.respond q answer bad latNs) m (q.response answer) bad := by
  have hc : a.hasCredit q := State.hasCredit_congr (hq ▸ (ha.map fun v => v.2.2).own) (h.hasCredit k hq)
  obtain ⟨hans, htxn⟩ := State.respond_spec hc (hq ▸ k.port) answer bad latNs
  have hcont := hq ▸ serves_respond (g := Tile.content) a q hc answer bad latNs
  refine ⟨hc, ?_, ((h.serves.map fun v => v.1).trans (ha.map fun v => v.1)).trans hcont, ?_⟩
  · rw [hq, htag] at hans
    exact answered_of_prefix (h.serves.out.trans ha.out) hans List.prefix_rfl
  · have hatxn : (a.tile m.head).txn = (e.tile m.head).txn := (ha.map fun v => v.2.1).own
    have hetxn : ({ (e.tile m.head).txn with tracker := [] } : Txn) = { (s.tile m.head).txn with tracker := [] } := (h.serves.map fun v => v.2.1).own
    have hend : (e.tile m.head).txn.ended r.id = { (e.tile m.head).txn with tracker := [] } := by
      rw [Txn.ended, h.tracker]
      simp
    have hnil : ({ (s.tile m.head).txn with tracker := [] } : Txn) = (s.tile m.head).txn := by rw [← k.tracker]
    rw [hq, hid, hatxn] at htxn
    exact htxn.trans (hend.trans (hetxn.trans hnil))

end

end Sys2Proof.Machine
end

section
/-! MemInv, and requests that the package refuses or that no decoder backs (02_host_ports.md R49, R52, R53, R55). -/

namespace Sys2Proof.Machine

open Sys2Proof

section
variable {s : State} {r : Req}

/-- R86: the response of a MemInv is not measured. -/
theorem State.measure_inv (k : r.kind = .inv) (s : State) (latNs : Nat) : s.measure r latNs = s := by
  simp [State.measure, k]

/-- The response of a MemInv changes its head, its status register and what goes out. -/
theorem frame_respond_inv (k : r.kind = .inv) (hc : s.hasCredit r) (data : Option Line) (poison : Bool) (latNs : Nat) :
    s.respond r data poison latNs = { s with
      tiles := (s.respond r data poison latNs).tiles, reg := (s.respond r data poison latNs).reg, outbox := (s.respond r data poison latNs).outbox } := by
  have hcredit : ¬ (if r.kind == .rd then (s.head r.head).drs else (s.head r.head).ndr) == some 0 := by simpa [State.hasCredit] using hc
  rw [State.respond, if_neg hcredit, State.measure_inv k, k]
  rfl

theorem only_request {t : State} (h : t = { s with tiles := t.tiles, jobs := t.jobs, reg := t.reg, outbox := t.outbox }) :
    Only [.tiles, .reg, .outbox, .jobs] s (s.ran t) := by
  rw [h]
  exact ⟨rfl, rfl, by simp [Part.all, Part.same, State.ran]⟩

theorem othersKept_of {s t : State} {h : Nat} (k : ∀ u, u ≠ h → t.tile u = s.tile u) : s.othersKept t h = true := by
  refine List.all_eq_true.2 fun j _ => ?_
  by_cases hj : j = h
  · simp [hj]
  · rw [State.tileKept, k j hj]
    simp

end

section
variable {s : State} {m : MemReq}

/-- What a request leaves that ends without its line. -/
structure LeavesContent (s t : State) (h : Nat) : Prop where
  fs : (t.tile h).fs = (s.tile h).fs
  med : (t.tile h).med = (s.tile h).med
  xl : (t.tile h).xl = (s.tile h).xl
  txn : (t.tile h).txn = (s.tile h).txn

theorem AnswersAlone.leaves {t : State} {data : Option Line} {poison : Bool} (k : AnswersAlone s t m data poison) : LeavesContent s t m.head :=
  ⟨k.serves.fs, k.serves.med, k.serves.xl, k.txn⟩

theorem State.reqWay_refuse (k : s.memRefused m.head (s.ldOf m.head m.ld) = true) (kind : ReqKind) : s.reqWay m kind = (.refuse, 0) := if_pos k

theorem State.reqWay_inv (k : s.memRefused m.head (s.ldOf m.head m.ld) = false) : s.reqWay m .inv = (.line, 0) := by
  rw [State.reqWay, k]
  rfl

theorem State.reqWay_unmapped (k : s.memRefused m.head (s.ldOf m.head m.ld) = false) (hd : s.memDecode (s.ldOf m.head m.ld) m.hpa = .unmapped) :
    s.reqWay m .rd = (.unbacked 11 m.hpa, 0) := by
  simp [State.reqWay, k, hd]

/-- R53: a MemInv is completed at its head, and has no other effect. -/
theorem memRequest_inv (k : s.Prompt m) (hs : s.memRefused m.head (s.ldOf m.head m.ld) = false) :
    AnswersAlone s (s.memRequest m .inv 0 0 false) m none false ∧
      Only [.tiles, .reg, .outbox, .jobs] s (s.ran (s.memRequest m .inv 0 0 false)) := by
  obtain ⟨e, r, he⟩ := k.enters (kind := .inv) (fun _ => rfl) 0 0
  have hserve : e.serveReq r m.upset m.latNs m.idle = e.respond r none false m.latNs := by
    have hway : r.way = .line := he.way.trans (congrArg Prod.fst (State.reqWay_inv hs))
    rw [State.serveReq, hway, he.sort]
    rfl
  obtain ⟨hc, hans⟩ := he.respond k (.refl e) he.head rfl he.tag none false m.latNs
  have hresp : r.response none = none := ite_self _
  have hframe := frame_respond_inv he.sort hc none false m.latNs
  have heframe := he.frame rfl
  rw [he.run, hserve]
  rw [hresp] at hans
  refine ⟨hans, only_request ?_⟩
  generalize e.respond r none false m.latNs = t at hframe ⊢
  rw [hframe, heframe]

/-- R55: a refused write is not applied, completes, and is recorded. -/
theorem memRequest_refused (k : s.Prompt m) (hs : s.memRefused m.head (s.ldOf m.head m.ld) = true) (data : Line) (be : Nat) (poison : Bool) :
    AnswersAlone s (s.memRequest m .wr data be poison) m none false ∧
      (s.memRequest m .wr data be poison).regBit (Reg.HEAD_ERR_STATUS m.head) 8 = true := by
  obtain ⟨e, r, he⟩ := k.enters (kind := .wr) (poison := poison) (fun h => ReqKind.noConfusion h) data be
  have hserve : e.serveReq r m.upset m.latNs m.idle = e.memRefuse r m.latNs := by
    have hway : r.way = .refuse := he.way.trans (congrArg Prod.fst (State.reqWay_refuse hs _))
    rw [State.serveReq, hway]
  have hown : 0x10000 ≤ Reg.HEAD_ERR_STATUS r.head := (besideResponse_headErr r.head 0).own
  have hbit := regBit_latch_self e hown (b := 8) (by decide) Gb.MEM_REFUSED r.head [r.head, r.ld, if r.kind = .rd then 0 else if r.kind = .wr then 1 else 2]
  have hlog : Serves m.head (fun x => (x.content, x.txn, x.head)) e
      (e.latch (Reg.HEAD_ERR_STATUS r.head) 8 Gb.MEM_REFUSED r.head [r.head, r.ld, if r.kind = .rd then 0 else if r.kind = .wr then 1 else 2]) :=
    serves_latch ..
  rw [he.run, hserve, State.memRefuse]
  generalize e.latch (Reg.HEAD_ERR_STATUS r.head) 8 Gb.MEM_REFUSED r.head [r.head, r.ld, if r.kind = .rd then 0 else if r.kind = .wr then 1 else 2] = a
    at hbit hlog ⊢
  obtain ⟨hc, hans⟩ := he.respond k hlog (q := { r with cse := 10, bound := 250 }) he.head rfl he.tag (some 0) (r.kind == .rd) m.latNs
  have hkept := regBit_respond (r := { r with cse := 10, bound := 250 }) (he.head ▸ k.port) (besideResponse_headErr r.head 8) hc (some 0) (r.kind == .rd) m.latNs
  have hresp : Req.response { r with cse := 10, bound := 250 } (some 0) = none := if_neg (by simp [he.sort])
  have hpoison : (r.kind == .rd) = false := by simp [he.sort]
  rw [hresp, hpoison] at hans
  rw [hpoison] at hkept ⊢
  exact ⟨hans, he.head ▸ hkept.trans hbit⟩

/-- R52: a read that no decoder backs is answered with poison, and is recorded. -/
theorem memRequest_unmapped (k : s.Prompt m) (hs : s.memRefused m.head (s.ldOf m.head m.ld) = false)
    (hd : s.memDecode (s.ldOf m.head m.ld) m.hpa = .unmapped) :
    AnswersAlone s (s.memRequest m .rd 0 0 false) m (some 0) true ∧
      (s.memRequest m .rd 0 0 false).regBit (Reg.HEAD_ERR_STATUS m.head) 6 = true := by
  obtain ⟨e, r, he⟩ := k.enters (kind := .rd) (poison := false) (fun _ => rfl) 0 0
  have hserve : e.serveReq r m.upset m.latNs m.idle = e.memUnbacked r 11 m.hpa m.latNs := by
    have hway : r.way = .unbacked 11 m.hpa := he.way.trans (congrArg Prod.fst (State.reqWay_unmapped hs hd))
    rw [State.serveReq, hway]
  have hown : 0x10000 ≤ Reg.HEAD_ERR_STATUS r.head := (besideResponse_headErr r.head 0).own
  rw [he.run, hserve, State.memUnbacked]
  generalize [r.head, r.ld] ++ gbWide m.hpa ++ [if r.kind = .rd then 0 else if r.kind = .wr then 1 else 2] = l
  generalize m.hpa / 64 * 64 + (if r.kind = .rd then 0 else if r.kind = .wr then 1 else 2) = info
  have hbit := regBit_latch_self e hown (b := 6) (by decide) Gb.DC_UNBACKED r.head l
  have hlog : Serves m.head (fun x => (x.content, x.txn, x.head)) e (e.latch (Reg.HEAD_ERR_STATUS r.head) 6 Gb.DC_UNBACKED r.head l) := serves_latch ..
  generalize e.latch (Reg.HEAD_ERR_STATUS r.head) 6 Gb.DC_UNBACKED r.head l = a at hbit hlog ⊢
  have hevt : Serves m.head (fun x => (x.content, x.txn, x.head)) a (a.evtFor [e.ldOf r.head r.ld] 1 { kind := 0, cause := 11, info := info }) :=
    serves_evtFor ..
  have hreg := (logs_evtTo a 1 { kind := 0, cause := 11, info := info } (e.ldOf r.head r.ld)).regBit hown 6
  change (a.evtFor [e.ldOf r.head r.ld] 1 { kind := 0, cause := 11, info := info }).regBit _ 6 = _ at hreg
  generalize a.evtFor [e.ldOf r.head r.ld] 1 { kind := 0, cause := 11, info := info } = b at hevt hreg ⊢
  obtain ⟨hc, hans⟩ := he.respond k (hlog.trans hevt) he.head rfl he.tag (some 0) (r.kind == .rd) m.latNs
  have hkept := regBit_respond (he.head ▸ k.port) (besideResponse_headErr r.head 6) hc (some 0) (r.kind == .rd) m.latNs
  have hresp : r.response (some 0) = some 0 := if_pos he.sort
  have hpoison : (r.kind == .rd) = true := by simp [he.sort]
  rw [hresp, hpoison] at hans
  rw [hpoison] at hkept ⊢
  exact ⟨hans, he.head ▸ (hkept.trans hreg).trans hbit⟩

/-- R62: the CXL.mem stream of a head turns insecure. -/
def IdeStream.broken (x : IdeStream) : IdeStream := { x with insecure := true }

theorem ideFail_spec {h : Nat} (h8 : h < 8) : (vget 0 {} ((s.ideFail h 0).head h).ide).insecure = true ∧
    (s.ideFail h 0).regBit (Reg.HEAD_ERR_STATUS h) 7 = true ∧ Only (.tiles :: logParts) s (s.ran (s.ideFail h 0)) := by
  have hlog : OnlyLog (s.modHead h (fun d => { d with ide := vmod 0 IdeStream.broken d.ide })) (s.ideFail h 0) := onlyLog_latch ..
  refine ⟨?_, ?_, only_tiles_log rfl hlog⟩
  · rw [head_of_log hlog, State.head_modHead_self _ h8]
    exact congrArg IdeStream.insecure (vget_vmod_self IdeStream.broken (s.head h).ide {} (by decide))
  · exact regBit_latch_self _ (besideResponse_headErr h 0).own (by decide) ..

end

end Sys2Proof.Machine
end

section
/-! Unsupported requests, S2M credits and the entries that a tracker gives back (02_host_ports.md R53; 03_transactions.md R73, R74). -/

namespace Sys2Proof.Machine

open Sys2Proof

section
variable {s : State}

theorem only_cap_log {a t : State} (ha : a = { s with cap := a.cap }) (k : OnlyLog a t) : Only (.cap :: logParts) s (s.ran t) := by
  rw [OnlyLog] at k
  rw [k, ha]
  exact ⟨rfl, rfl, by simp [Part.all, Part.same, State.ran]⟩

/-- R67: an LD whose log has taken a record. -/
def LDev.recorded (log : Nat) (r : EvtRec) (d : LDev) : LDev :=
  { d with logs := vmod log (fun g => { g with recs := g.recs ++ [r] }) d.logs }

/-- R67: a record changes its LD, and otherwise what a record changes. -/
theorem evtTo_log (s : State) (log : Nat) (r : EvtRec) (c : Nat) :
    ∃ f, OnlyLog (s.modLd c f) (s.evtTo log r c) ∧ ((vget log {} (s.ldev c).logs).recs.length < 64 → f = LDev.recorded log r) := by
  unfold State.evtTo
  dsimp only
  split
  · exact ⟨LDev.recorded log r, .ite (.refl _) (onlyLog_emit ..), fun _ => rfl⟩
  · rename_i hfull
    exact ⟨_, onlyLog_event .., fun h => absurd h hfull⟩

theorem recs_evtTo (s : State) {log : Nat} (h4 : log < 4) (r : EvtRec) (c : Nat) (hroom : (vget log {} (s.ldev c).logs).recs.length < 64) :
    (vget log {} ((s.evtTo log r c).ldev c).logs).recs = (vget log {} (s.ldev c).logs).recs ++ [r] := by
  obtain ⟨f, hlog, hf⟩ := evtTo_log s log r c
  have hld : (s.evtTo log r c).ldev c = LDev.recorded log r (s.ldev c) := by
    rw [State.ldev, hlog.cap, hf hroom]
    exact s.ldev_modLd_self c _
  rw [hld]
  exact congrArg EvtLog.recs (vget_vmod_self (fun g : EvtLog => { g with recs := g.recs ++ [r] }) (s.ldev c).logs {} h4)

/-! ### S2M credits (R74) -/

/-- A head once it has been granted credits. -/
def Head.granted (ndr drs : Option Nat) (d : Head) : Head := { d with ndr := addCredit d.ndr ndr, drs := addCredit d.drs drs }

/-- Head `h` has been granted credits, and no response waits there. -/
def State.granted (s : State) (h : Nat) (ndr drs : Option Nat) : State :=
  (s.modHead h (Head.granted ndr drs)).modTxn h (fun x => { x with outQ := [] })

theorem State.s2mCreditGrantEff_eq {h : Nat} (hm : s.memLink h = true) (ndr drs : Option Nat) (latNs : Nat) :
    s.s2mCreditGrantEff h ndr drs latNs = (s.tile h).txn.outQ.foldl (fun a w => a.respond w.1 w.2.1 w.2.2 latNs) (s.granted h ndr drs) := by
  rw [State.s2mCreditGrantEff, hm]
  rfl

theorem State.tile_granted {h : Nat} (h8 : h < 8) (ndr drs : Option Nat) :
    (s.granted h ndr drs).tile h = { s.tile h with head := (s.head h).granted ndr drs, txn := { (s.tile h).txn with outQ := [] } } := by
  rw [State.granted, State.modTxn, State.tile_modTile_self _ _ h8, State.modHead, State.tile_modTile_self _ _ h8]
  rfl

/-- R74, R87: what a response changes of its head: its credits, its DevLoad count and what GPF Phase 2 waits for. -/
theorem head_respond {r : Req} (hc : s.hasCredit r) (h8 : r.head < 8) (data : Option Line) (poison : Bool) (latNs : Nat) :
    ∃ dl g, (s.respond r data poison latNs).head r.head = { (s.head r.head).responded r.kind dl with gpf := g } := by
  obtain ⟨dl, counts, heff⟩ := State.respond_of_credit hc data poison latNs
  have hmeas : (s.measure r latNs).head r.head = s.head r.head := (serves_measure (g := Tile.head) s r latNs rfl).own
  have hsent : ((s.measure r latNs).sent r data poison dl).head r.head = (s.head r.head).responded r.kind dl := by
    have hout : ((s.measure r latNs).sent r data poison dl).head r.head =
        (((s.measure r latNs).modHead r.head (fun d => d.responded r.kind dl)).modTxn r.head (fun x => x.ended r.id)).head r.head := rfl
    rw [hout, State.head, State.modTxn, State.tile_modTile_self _ _ h8]
    exact ((s.measure r latNs).head_modHead_self h8 _).trans (by rw [hmeas])
  refine ⟨dl, ((s.head r.head).responded r.kind dl).gpf.map (fun l => l.filter (· != r.id)), ?_⟩
  rw [heff, State.counted, State.head_modHead_self _ h8]
  have hcount : (if counts then ((s.measure r latNs).sent r data poison dl).winCount r.head (r.kind != .rd) else (s.measure r latNs).sent r data poison dl).head r.head =
      (s.head r.head).responded r.kind dl := by
    cases counts
    · exact hsent
    · exact hsent
  rw [hcount]

/-! ### Entries that a tracker gives back (R73) -/

theorem State.trackerCreditReleaseEff_some {h latNs : Nat} {r : Req} {l : List Req} (hm : s.memLink h = true) (hi : (s.tile h).txn.ingress = r :: l)
    (hc : s.canAllocate r = true) :
    s.trackerCreditReleaseEff h latNs = (s.modTxn h (fun y => { y with ingress := y.ingress.filter (fun q => q.id != r.id) })).allocate r {} latNs false := by
  rw [State.trackerCreditReleaseEff, hm]
  dsimp only
  rw [hi, List.find?_cons_of_pos hc]
  rfl

theorem State.trackerCreditReleaseEff_paced {h latNs : Nat} (hm : s.memLink h = true) (hi : (s.tile h).txn.ingress = []) (hp : 0 < (s.head h).rwdPaced) :
    s.trackerCreditReleaseEff h latNs = s.modHead h (fun d => { d with rwdPaced := d.rwdPaced - 1, rwdCredits := d.rwdCredits + 1 }) := by
  rw [State.trackerCreditReleaseEff, hm]
  dsimp only
  rw [hi]
  exact if_pos hp

/-- R53, R73: a MemInv with its entry and its credit back. -/
theorem State.tile_entered_inv {r : Req} (h8 : r.head < 8) (hk : r.kind = .inv) :
    (s.entered r).tile r.head = { s.tile r.head with
      txn := { (s.tile r.head).txn with tracker := (s.tile r.head).txn.tracker ++ [r] },
      head := { s.head r.head with reqCredits := (s.head r.head).reqCredits + 1 } } := by
  have hif : (r.way == .line && r.kind != .inv) = false := by simp [hk]
  unfold State.entered
  rw [hif, if_neg (by decide), State.creditBack, State.modHead, State.tile_modTile_self _ _ h8, State.modTxn, State.tile_modTile_self _ _ h8, hk]
  rfl

end

end Sys2Proof.Machine
end

section
/-! Requests without a line, and credits (02_host_ports.md R49 to R55, R62; 03_transactions.md R71 to R74). -/

namespace Sys2Proof.Machine

open Sys2Proof

section
variable {s : State}

/-- R74: a grant of credits lets the one response that waits leave. -/
theorem s2mCreditGrant_answers {r : Req} {data : Option Line} {poison : Bool} {x y latNs : Nat} (h8 : r.head < 8) (hm : s.memLink r.head = true)
    (hk : r.kind = .rd) (hq : (s.tile r.head).txn.outQ = [(r, data, poison)]) (hn : (s.head r.head).ndr = some x) (hd : (s.head r.head).drs = some 0) :
    ∃ t, s.s2mCreditGrantEff r.head (some 0) (some (y + 1)) latNs = t ∧ answered s t r.head r.tag data poison = true ∧
      (t.tile r.head).txn.outQ = [] ∧ (t.head r.head).drs = some y ∧ (t.head r.head).ndr = some x ∧
      (t.tile r.head).txn.tracker = (s.tile r.head).txn.tracker.filter (fun q => q.id != r.id) := by
  have heff := State.s2mCreditGrantEff_eq hm (some 0) (some (y + 1)) latNs
  rw [hq] at heff
  have htile := s.tile_granted h8 (some 0) (some (y + 1))
  have hout : (s.granted r.head (some 0) (some (y + 1))).outbox = s.outbox := rfl
  generalize s.granted r.head (some 0) (some (y + 1)) = a at heff htile hout
  have hhead : a.head r.head = (s.head r.head).granted (some 0) (some (y + 1)) := congrArg Tile.head htile
  have hdrs : (a.head r.head).drs = some (0 + (y + 1)) := by
    rw [hhead, Head.granted, hd]
    rfl
  have hndr : (a.head r.head).ndr = some (x + 0) := by
    rw [hhead, Head.granted, hn]
    rfl
  have hc : a.hasCredit r := by simp [State.hasCredit, hk, hdrs]
  obtain ⟨hans, htxn⟩ := State.respond_spec hc h8 data poison latNs
  obtain ⟨dl, g, hresp⟩ := head_respond hc h8 data poison latNs
  have hdata : r.response data = data := if_pos hk
  rw [hdata] at hans
  refine ⟨_, heff, answered_of_prefix (hout ▸ List.prefix_rfl) hans List.prefix_rfl, ?_, ?_, ?_, ?_⟩
  · exact (congrArg Txn.outQ htxn).trans (congrArg (fun v : Tile => v.txn.outQ) htile)
  · refine (congrArg Head.drs hresp).trans ?_
    simp [Head.responded, hk, hdrs]
  · refine (congrArg Head.ndr hresp).trans ?_
    simp [Head.responded, hk, hndr]
  · refine (congrArg Txn.tracker htxn).trans ?_
    rw [Txn.ended, htile]

/-- R73: a MemInv that waits for an entry takes it, gets its credit back, and is completed. -/
theorem trackerCreditRelease_answers {r : Req} {l : List Req} {latNs : Nat} (h8 : r.head < 8) (hm : s.memLink r.head = true)
    (hi : (s.tile r.head).txn.ingress = r :: l) (hc : s.canAllocate r = true) (hk : r.kind = .inv) (hw : r.way = .line)
    (hid : l.all (fun q => q.id != r.id) = true) (hold : (s.tile r.head).txn.tracker.all (fun q => q.id != r.id) = true) (hn : (s.head r.head).ndr = none) :
    ∃ t, s.trackerCreditReleaseEff r.head latNs = t ∧ answered s t r.head r.tag none false = true ∧ (t.tile r.head).txn.ingress = l ∧
      (t.tile r.head).txn.tracker = (s.tile r.head).txn.tracker ∧ (t.head r.head).reqCredits = (s.head r.head).reqCredits + 1 := by
  have heff := State.trackerCreditReleaseEff_some (latNs := latNs) hm hi hc
  rw [State.allocate_eq] at heff
  have hrest : ∀ {q : List Req}, q.all (fun q => q.id != r.id) = true → q.filter (fun q => q.id != r.id) = q := fun k =>
    List.filter_eq_self.2 (List.all_eq_true.1 k)
  have hbtile : (s.modTxn r.head (fun y => { y with ingress := y.ingress.filter (fun q => q.id != r.id) })).tile r.head =
      { s.tile r.head with txn := { (s.tile r.head).txn with ingress := l } } := by
    rw [State.modTxn, State.tile_modTile_self _ _ h8, hi, List.filter_cons_of_neg (by simp), hrest hid]
  have hbout : (s.modTxn r.head (fun y => { y with ingress := y.ingress.filter (fun q => q.id != r.id) })).outbox = s.outbox := rfl
  generalize s.modTxn r.head (fun y => { y with ingress := y.ingress.filter (fun q => q.id != r.id) }) = b at heff hbtile hbout
  obtain ⟨q, hq⟩ : ∃ q, q = { r with timeoutMs := b.timeoutMs r.head } := ⟨_, rfl⟩
  have hqh : q.head = r.head := by rw [hq]
  have hqk : q.kind = .inv := by rw [hq]; exact hk
  have hqi : q.id = r.id := by rw [hq]
  have hqt : q.tag = r.tag := by rw [hq]
  have hqw : q.way = .line := by rw [hq]; exact hw
  rw [← hq] at heff
  have htile := b.tile_entered_inv (hqh ▸ h8) hqk
  have hent : b.outbox <+: (b.entered q).outbox := (serves_entered b q).out
  generalize b.entered q = e at heff htile hent
  have hserve : e.serveReq q {} latNs false = e.respond q none false latNs := by
    rw [State.serveReq, hqw, hqk]
    rfl
  rw [hserve] at heff
  rw [hqh] at htile
  have hhead : e.head r.head = { s.head r.head with reqCredits := (s.head r.head).reqCredits + 1 } := by
    rw [State.head, htile, State.head, hbtile]
    rfl
  have hcred : e.hasCredit q := by simp [State.hasCredit, hqk, hqh, hhead, hn]
  obtain ⟨hans, htxn⟩ := State.respond_spec hcred (hqh ▸ h8) none false latNs
  obtain ⟨dl, g, hresp⟩ := head_respond hcred (hqh ▸ h8) none false latNs
  have hdata : q.response none = none := ite_self _
  rw [hdata, hqh, hqt] at hans
  rw [hqh] at htxn hresp
  refine ⟨_, heff, answered_of_prefix (hbout ▸ hent) hans List.prefix_rfl, ?_, ?_, ?_⟩
  · refine (congrArg Txn.ingress htxn).trans ?_
    rw [Txn.ended, htile, hbtile]
  · refine (congrArg Txn.tracker htxn).trans ?_
    rw [Txn.ended, htile, hbtile, hqi, List.filter_append, hrest hold, List.filter_cons_of_neg (by simp [hqi])]
    exact List.append_nil _
  · exact (congrArg Head.reqCredits hresp).trans (congrArg Head.reqCredits hhead)

end

section
variable (s : State) (m : MemReq)

theorem exec_memInv : exec (.memInv m) s = s.run (fun x => x.memRequest m .inv 0 0 false) := rfl
theorem exec_memInvNt : exec (.memInvNt m) s = s.run (fun x => x.memRequest m .inv 0 0 false) := rfl
theorem exec_memSpecRd : exec (.memSpecRd m) s = s.run (fun x => x.memSpecRdEff m) := rfl
theorem exec_unsupportedM2s : exec (.unsupportedM2s m) s = s.run (fun x => x.unsupportedM2sEff m) := rfl
theorem exec_s2mCreditGrant (h : Nat) (ndr drs : Option Nat) (latNs : Nat) :
    exec (.s2mCreditGrant h ndr drs latNs) s = s.run (fun x => x.s2mCreditGrantEff h ndr drs latNs) := rfl
theorem exec_trackerCreditRelease (h latNs : Nat) : exec (.trackerCreditRelease h latNs) s = s.run (fun x => x.trackerCreditReleaseEff h latNs) := rfl

end

/-- Settles O32: a request without a line ends with its answer, whose response leaves everything of its tile as its arrival found it. -/
theorem requestsWithoutALine : Obligations.RequestsWithoutALine := by
  unfold Obligations.RequestsWithoutALine
  refine ⟨?_, ?_, ?_, ?_, ?_, ?_, ?_, ?_, ?_, ?_, ?_, ?_⟩
  · intro s m hi
    refine completes_ran (exec_memSpecRd s m) (t := s) ?_ rfl
    simp [State.memSpecRdEff, hi]
  · intro s m k hs
    obtain ⟨hans, honly⟩ := memRequest_inv (State.prompt_of_answersAtOnce k) hs
    have hl := hans.leaves
    exact completes_ran (exec_memInv s m) rfl ⟨hans.answered, hl.fs, hl.med, hl.xl, hl.txn, othersKept_of hans.serves.others, honly⟩
  · intro s m k hs
    obtain ⟨hans, honly⟩ := memRequest_inv (State.prompt_of_answersAtOnce k) hs
    have hl := hans.leaves
    exact completes_ran (exec_memInvNt s m) rfl ⟨hans.answered, hl.fs, hl.med, hl.xl, hl.txn, othersKept_of hans.serves.others, honly⟩
  · intro s m data poison k hs
    obtain ⟨hans, hbit⟩ := memRequest_refused (State.prompt_of_answersAtOnce k) hs data (2 ^ 64 - 1) poison
    have hl := hans.leaves
    exact completes_ran (exec_memWr m data poison s) rfl ⟨hans.answered, hl.fs, hl.med, hl.xl, hl.txn, hbit⟩
  · intro s m k hs hd
    obtain ⟨hans, hbit⟩ := memRequest_unmapped (State.prompt_of_answersAtOnce k) hs hd
    have hl := hans.leaves
    exact completes_ran (exec_memRd m s) rfl ⟨hans.answered, hl.fs, hl.med, hl.xl, hl.txn, hbit⟩
  · intro s m h8 hm hi
    have heff : s.memRequest m .rd 0 0 false = s.ideFail m.head 0 := by
      rw [State.memRequest, hm, hi]
      rfl
    exact completes_ran (exec_memRd m s) heff (ideFail_spec h8)
  · intro s m hins
    have heff : s.memRequest m .rd 0 0 false = s := by
      have hm : s.memTaken m.head = false := by simp [State.memTaken, hins]
      rw [State.memRequest, hm]
      rfl
    exact completes_ran (exec_memRd m s) heff rfl
  · intro s m hm hi
    have heff : s.unsupportedM2sEff m = s.evtTo 1 { kind := 0, cause := 12, info := m.hpa } (s.ldOf m.head m.ld) := by
      rw [State.unsupportedM2sEff, hm, hi]
      rfl
    obtain ⟨f, hlog, -⟩ := evtTo_log s 1 { kind := 0, cause := 12, info := m.hpa } (s.ldOf m.head m.ld)
    exact completes_ran (exec_unsupportedM2s s m) heff ⟨hlog.tiles, (emits_evtTo ..).not_answered .., only_cap_log rfl hlog, recs_evtTo s (by decide) _ _⟩
  · intro s h a b x y latNs h8 hm hq hn hd
    have heff := State.s2mCreditGrantEff_eq hm (some x) (some y) latNs
    rw [hq] at heff
    have hhead : (s.granted h (some x) (some y)).head h = (s.head h).granted (some x) (some y) :=
      congrArg Tile.head (s.tile_granted h8 (some x) (some y))
    have hserves : Serves h (fun _ => ()) s (s.granted h (some x) (some y)) := (serves_modTile s).trans (serves_modTile _)
    refine completes_ran (exec_s2mCreditGrant s h (some x) (some y) latNs) heff
      ⟨(congrArg Head.ndr hhead).trans ?_, (congrArg Head.drs hhead).trans ?_, othersKept_of hserves.others, only_tiles s _ rfl⟩
    · rw [Head.granted, hn]
      rfl
    · rw [Head.granted, hd]
      rfl
  · intro s head x y latNs r data poison h8 hm hr hk hq hn hd
    subst hr
    obtain ⟨t, heff, hspec⟩ := s2mCreditGrant_answers (latNs := latNs) h8 hm hk hq hn hd
    exact completes_ran (exec_s2mCreditGrant s r.head _ _ latNs) heff hspec
  · intro s head latNs r l h8 hm hi hc hr hk hw hid hold hn
    subst hr
    obtain ⟨t, heff, hspec⟩ := trackerCreditRelease_answers (latNs := latNs) h8 hm hi hc hk hw hid hold hn
    exact completes_ran (exec_trackerCreditRelease s r.head latNs) heff hspec
  · intro s h latNs h8 hm hi hp
    have hhead := s.head_modHead_self h8 (fun d => { d with rwdPaced := d.rwdPaced - 1, rwdCredits := d.rwdCredits + 1 })
    exact completes_ran (exec_trackerCreditRelease s h latNs) (State.trackerCreditReleaseEff_paced hm hi hp)
      ⟨congrArg Head.rwdCredits hhead, congrArg Head.rwdPaced hhead, othersKept_of (serves_modTile (g := fun _ => ()) s).others, only_tiles s _ rfl⟩

end Sys2Proof.Machine
end

section
/-! What leaves the requests of every tile as they are: the work on media, the map, parity, Caravan, events and the Parameter Store
(03_transactions.md R77, R89). -/

namespace Sys2Proof.Machine

open Sys2Proof

/-- The requests that stand at a tile: all of its transaction state but its throttling and the locks of maintenance, and whether writes wait. -/
def Tile.requests (x : Tile) : Txn × Bool := ({ x.txn with throttle := false, locks := [] }, x.fs.waitOn)

/-- The requests that stand at each tile. -/
def requestsOf (v : Vector Tile 8) : List (Txn × Bool) := v.toList.map Tile.requests

theorem requestsOf_vmod (t : Nat) {f : Tile → Tile} (h : ∀ x, (f x).requests = x.requests) (v : Vector Tile 8) : requestsOf (vmod t f v) = requestsOf v := by
  refine List.ext_getElem (by simp [requestsOf]) fun i h1 h2 => ?_
  simp only [requestsOf, vmod, lmod]
  simp
  split
  · exact h _
  · rfl

section
variable {s : State}

theorem requestsOf_modTile (t : Nat) {f : Tile → Tile} (h : ∀ x, (f x).requests = x.requests := by intro; rfl) :
    requestsOf (s.modTile t f).tiles = requestsOf s.tiles := requestsOf_vmod t h _

@[simp] theorem State.modXl_requests (s : State) (t : Nat) (f : Xlate → Xlate) : requestsOf (s.modXl t f).tiles = requestsOf s.tiles := requestsOf_modTile t
@[simp] theorem State.modMed_requests (s : State) (t : Nat) (f : Media → Media) : requestsOf (s.modMed t f).tiles = requestsOf s.tiles := requestsOf_modTile t
@[simp] theorem State.modCh_requests (s : State) (t c : Nat) (f : Channel → Channel) : requestsOf (s.modCh t c f).tiles = requestsOf s.tiles := requestsOf_modTile t
@[simp] theorem State.modHead_requests (s : State) (t : Nat) (f : Head → Head) : requestsOf (s.modHead t f).tiles = requestsOf s.tiles := requestsOf_modTile t
@[simp] theorem State.modBlk_requests (s : State) (t b : Nat) (f : Blk → Blk) : requestsOf (s.modBlk t b f).tiles = requestsOf s.tiles := requestsOf_modTile t
@[simp] theorem State.modCommit_requests (s : State) (t l : Nat) (f : Commit → Commit) : requestsOf (s.modCommit t l f).tiles = requestsOf s.tiles :=
  requestsOf_modTile t
@[simp] theorem State.modFront_requests (s : State) (t p f : Nat) (g : Front → Front) : requestsOf (s.modFront t p f g).tiles = requestsOf s.tiles :=
  requestsOf_modTile t
@[simp] theorem State.modCupT_requests (s : State) (t : Nat) (f : CupTile → CupTile) : requestsOf (s.modCupT t f).tiles = requestsOf s.tiles := requestsOf_modTile t
@[simp] theorem State.modCarT_requests (s : State) (t : Nat) (f : CarTile → CarTile) : requestsOf (s.modCarT t f).tiles = requestsOf s.tiles := requestsOf_modTile t
@[simp] theorem State.modInt_requests (s : State) (t : Nat) (f : Integ → Integ) : requestsOf (s.modInt t f).tiles = requestsOf s.tiles := requestsOf_modTile t

@[simp] theorem State.modFs_requests (s : State) (t : Nat) {f : FrontStore → FrontStore} (h : ∀ g, (f g).waitOn = g.waitOn) :
    requestsOf (s.modFs t f).tiles = requestsOf s.tiles := requestsOf_modTile t fun x => congrArg (Prod.mk _) (h x.fs)

/-- The throttling of a tile is judged, or a maintenance operation takes or gives back the lock of a segment. -/
@[simp] theorem State.modTxn_requests (s : State) (t : Nat) {f : Txn → Txn}
    (h : ∀ x, ({ f x with throttle := false, locks := [] } : Txn) = { x with throttle := false, locks := [] }) :
    requestsOf (s.modTxn t f).tiles = requestsOf s.tiles := requestsOf_modTile t fun x => congrArg (·, x.fs.waitOn) (h x.txn)

@[simp] theorem requestsOf_ite (p : Prop) [Decidable p] (a b : State) :
    requestsOf (if p then a else b).tiles = if p then requestsOf a.tiles else requestsOf b.tiles := apply_ite (fun x : State => requestsOf x.tiles) p a b

@[simp] theorem foldl_requests {β : Type} {f : State → β → State} (h : ∀ a b, requestsOf (f a b).tiles = requestsOf a.tiles) (l : List β) (s : State) :
    requestsOf (l.foldl f s).tiles = requestsOf s.tiles := by
  induction l generalizing s with
  | nil => rfl
  | cons b l ih => exact (ih _).trans (h s b)

/-- The same for a fold that carries a value beside the state. -/
@[simp] theorem foldl_fst_requests {α β : Type} {f : State × α → β → State × α} (h : ∀ a b, requestsOf (f a b).1.tiles = requestsOf a.1.tiles) (l : List β)
    (p : State × α) : requestsOf (l.foldl f p).1.tiles = requestsOf p.1.tiles := by
  induction l generalizing p with
  | nil => rfl
  | cons b l ih => exact (ih _).trans (h p b)

end



@[simp] theorem State.cqWrite_requests (s : State) (r : Nat) (head8 : List Byte) (rest : List Byte) :
    requestsOf (s.cqWrite r head8 rest).tiles = requestsOf s.tiles := by
  simp [State.cqWrite]

@[simp] theorem State.ringMsix_requests (s : State) (r : Nat) : requestsOf (s.ringMsix r).tiles = requestsOf s.tiles := by simp [State.ringMsix]

@[simp] theorem State.ringCount_requests (s : State) (r : Nat) (now : Bool) : requestsOf (s.ringCount r now).tiles = requestsOf s.tiles := by simp [State.ringCount]

@[simp] theorem State.perfOvf_requests (s : State) (t n : Nat) : requestsOf (s.perfOvf t n).tiles = requestsOf s.tiles := by simp [State.perfOvf]

@[simp] theorem State.setCnt_requests (s : State) (t n v : Nat) : requestsOf (s.setCnt t n v).tiles = requestsOf s.tiles := requestsOf_modTile t

@[simp] theorem State.cntAdd_requests (k : Nat) (s : State) (t n d : Nat) : requestsOf (State.cntAdd k s t n d).tiles = requestsOf s.tiles := by
  induction k generalizing s n d with
  | zero => rfl
  | succ k ih => simp [State.cntAdd, ih]

@[simp] theorem State.perfEvent_requests (s : State) (t no q d : Nat) : requestsOf (s.perfEvent t no q d).tiles = requestsOf s.tiles := by
  simp [State.perfEvent]

@[simp] theorem State.winCount_requests (s : State) (h : Nat) (write : Bool) : requestsOf (s.winCount h write).tiles = requestsOf s.tiles := by simp [State.winCount]

@[simp] theorem State.convStart_requests (s : State) (c : Nat) : requestsOf (s.convStart c).tiles = requestsOf s.tiles := by
  unfold State.convStart
  (repeat' split) <;> rfl

@[simp] theorem State.requestConv_requests (s : State) (ids : List Nat) (prio : Nat) : requestsOf (s.requestConv ids prio).tiles = requestsOf s.tiles := by
  simp [State.requestConv]

@[simp] theorem State.perfMesh_requests (s : State) (t port cls : Nat) : requestsOf (s.perfMesh t port cls).tiles = requestsOf s.tiles := by
  simp [State.perfMesh]

@[simp] theorem State.meshPut_requests (s : State) (t : Nat) (m : Msg) : requestsOf (s.meshPut t m).tiles = requestsOf s.tiles := by
  unfold State.meshPut
  split <;> simp

@[simp] theorem State.meshSend_requests (s : State) (t : Nat) (m : Msg) : requestsOf (s.meshSend t m).tiles = requestsOf s.tiles := by simp [State.meshSend]

@[simp] theorem State.caSend_requests (s : State) (t c rank : Nat) (cmd : CaCmd) : requestsOf (s.caSend t c rank cmd).tiles = requestsOf s.tiles := by
  simp [State.caSend]

@[simp] theorem State.caIssue_requests (s : State) (t c rank : Nat) (cmd : CaCmd) : requestsOf (s.caIssue t c rank cmd).tiles = requestsOf s.tiles := by
  unfold State.caIssue
  split <;> simp

@[simp] theorem State.stat_requests (s : State) (t w n : Nat) : requestsOf (s.stat t w n).tiles = requestsOf s.tiles := by simp [State.stat]

@[simp] theorem State.refresh_requests (s : State) (t loc prio age : Nat) (step3 : Bool) : requestsOf (s.refresh t loc prio age step3).tiles = requestsOf s.tiles := by
  unfold State.refresh
  dsimp only
  (repeat' split) <;> simp

@[simp] theorem State.rereads_requests (s : State) (t loc line used : Nat) (offs : List Int) :
    requestsOf (s.rereads t loc line used offs).tiles = requestsOf s.tiles := by
  simp [State.rereads]

@[simp] theorem State.readOutcome_requests (s : State) (t loc : Nat) (o : PageOut) (clamped : Bool) :
    requestsOf (s.readOutcome t loc o clamped).tiles = requestsOf s.tiles := by
  simp [State.readOutcome]

@[simp] theorem State.evtTo_requests (s : State) (log : Nat) (r : EvtRec) (c : Nat) : requestsOf (s.evtTo log r c).tiles = requestsOf s.tiles := by simp [State.evtTo]

@[simp] theorem State.evtFor_requests (s : State) (lds : List Nat) (log : Nat) (r : EvtRec) : requestsOf (s.evtFor lds log r).tiles = requestsOf s.tiles := by
  simp [State.evtFor]

@[simp] theorem State.evtAll_requests (s : State) (log : Nat) (r : EvtRec) : requestsOf (s.evtAll log r).tiles = requestsOf s.tiles := by simp [State.evtAll]

@[simp] theorem State.evtSeg_requests (s : State) (cause seg : Nat) : requestsOf (s.evtSeg cause seg).tiles = requestsOf s.tiles := by simp [State.evtSeg]

@[simp] theorem State.enterMode_requests (s : State) (m : Mode) : requestsOf (s.enterMode m).tiles = requestsOf s.tiles := by simp [State.enterMode]

@[simp] theorem State.reevaluate_requests (s : State) : requestsOf s.reevaluate.tiles = requestsOf s.tiles := by simp [State.reevaluate]

@[simp] theorem State.setCause_requests (s : State) (n : Nat) (on : Bool) : requestsOf (s.setCause n on).tiles = requestsOf s.tiles := by simp [State.setCause]

@[simp] theorem State.mapLineBad_requests (s : State) (t l : Nat) : requestsOf (s.mapLineBad t l).tiles = requestsOf s.tiles := by simp [State.mapLineBad]

@[simp] theorem State.setMap_requests (s : State) (t l : Nat) (e : MapEnt) : requestsOf (s.setMap t l e).tiles = requestsOf s.tiles := by simp [State.setMap]

@[simp] theorem State.judgeLost_requests (s : State) : requestsOf s.judgeLost.tiles = requestsOf s.tiles := by simp [State.judgeLost]

@[simp] theorem State.stcLookup_requests (s : State) (t l : Nat) : requestsOf (s.stcLookup t l).1.tiles = requestsOf s.tiles := by
  unfold State.stcLookup
  dsimp only
  split <;> simp

@[simp] theorem State.jappend_requests (s : State) (t : Nat) (r : JRec) : requestsOf (s.jappend t r).tiles = requestsOf s.tiles := by
  unfold State.jappend
  split <;> simp

@[simp] theorem State.jappendNow_requests (s : State) (t : Nat) (r : JRec) : requestsOf (s.jappendNow t r).tiles = requestsOf s.tiles := by simp [State.jappendNow]

@[simp] theorem State.invalidate_requests (s : State) (t loc : Nat) : requestsOf (s.invalidate t loc).tiles = requestsOf s.tiles := by
  unfold State.invalidate
  dsimp only
  (repeat' split) <;> simp

@[simp] theorem State.judgeThrottle_requests (s : State) (t : Nat) : requestsOf (s.judgeThrottle t).tiles = requestsOf s.tiles := by simp [State.judgeThrottle]

@[simp] theorem State.spareWarn_requests (s : State) (t : Nat) : requestsOf (s.spareWarn t).tiles = requestsOf s.tiles := by simp [State.spareWarn]

@[simp] theorem State.seal_requests (s : State) (t : Nat) : requestsOf (s.seal t).tiles = requestsOf s.tiles := by simp [State.seal]

@[simp] theorem State.retire_requests (s : State) (t b cause : Nat) (st : BlkSt) (note : Bool) :
    requestsOf (s.retire t b cause st note).tiles = requestsOf s.tiles := by
  simp [State.retire]

@[simp] theorem State.nameNext_requests (s : State) (t p f : Nat) : requestsOf (s.nameNext t p f).tiles = requestsOf s.tiles := by
  unfold State.nameNext
  dsimp only
  (repeat' split) <;> simp

@[simp] theorem State.forceClose_requests (s : State) (t p f : Nat) : requestsOf (s.forceClose t p f).tiles = requestsOf s.tiles := by
  unfold State.forceClose
  (repeat' split) <;> simp

@[simp] theorem State.openPage_requests (s0 : State) (t p f : Nat) : requestsOf (s0.openPage t p f).1.tiles = requestsOf s0.tiles := by
  unfold State.openPage
  dsimp only
  (repeat' split) <;> simp

@[simp] theorem State.takePage_requests (s : State) (t p f loc : Nat) : requestsOf (s.takePage t p f loc).tiles = requestsOf s.tiles := by simp [State.takePage]

@[simp] theorem State.placeOn_requests (t f : Nat) (l : List Nat) (s : State) : requestsOf (State.placeOn t f l s).1.tiles = requestsOf s.tiles := by
  induction l generalizing s with
  | nil => rfl
  | cons p l ih =>
    unfold State.placeOn
    have ho := s.openPage_requests t p f
    split
    · split <;> simp_all
    · exact ih s

@[simp] theorem State.place_requests (s : State) (t f : Nat) : requestsOf (s.place t f).1.tiles = requestsOf s.tiles := by
  unfold State.place
  have hp := State.placeOn_requests t f (s.planeOrder t) s
  split <;> simp_all

@[simp] theorem State.startProgram_requests (s : State) (t loc : Nat) (job : Job) (pg : Page) :
    requestsOf (s.startProgram t loc job pg).tiles = requestsOf s.tiles := by
  simp [State.startProgram]

@[simp] theorem State.setFrame_requests (s : State) (t f : Nat) (x : Frame) : requestsOf (s.setFrame t f x).tiles = requestsOf s.tiles := by simp [State.setFrame]

@[simp] theorem State.touchWay_requests (s : State) (t f : Nat) : requestsOf (s.touchWay t f).tiles = requestsOf s.tiles := by simp [State.touchWay]

@[simp] theorem State.measure_requests (s : State) (r : Req) (latNs : Nat) : requestsOf (s.measure r latNs).tiles = requestsOf s.tiles := by simp [State.measure]

@[simp] theorem State.consume_requests (s : State) (t loc : Nat) (covers : Nat → Bool) (used : Nat → Nat) :
    requestsOf (s.consume t loc covers used).tiles = requestsOf s.tiles := by
  simp [State.consume]

@[simp] theorem State.lineRead_requests (s : State) (t loc line : Nat) (err : LineErr) (others : List LineErr) :
    requestsOf (s.lineRead t loc line err others).1.tiles = requestsOf s.tiles := by
  unfold State.lineRead
  dsimp only
  (repeat' split) <;> simp

@[simp] theorem State.reconRead_requests (s : State) (u : Nat × Nat) (line n : Nat) : requestsOf (s.reconRead u line n).tiles = requestsOf s.tiles := by
  simp [State.reconRead]

@[simp] theorem State.reconReads_requests (s : State) (t l line n : Nat) : requestsOf (s.reconReads t l line n).tiles = requestsOf s.tiles := by simp [State.reconReads]

@[simp] theorem State.reconOk_requests (s : State) (t l : Nat) : requestsOf (s.reconOk t l).tiles = requestsOf s.tiles := by simp [State.reconOk]

@[simp] theorem State.carFrames_requests (s : State) (peer : Nat) (h : CarHdr) (lines : List Line) :
    requestsOf (s.carFrames peer h lines).tiles = requestsOf s.tiles := by
  unfold State.carFrames
  split
  · rfl
  · exact foldl_requests (by intros; rfl) _ _

@[simp] theorem State.carSend_requests (s : State) (peer : Nat) (h : CarHdr) (lines : List Line) :
    requestsOf (s.carSend peer h lines).1.tiles = requestsOf s.tiles := by
  simp [State.carSend]

@[simp] theorem State.carDelta_requests (s : State) (t seg peer : Nat) (isQ resent : Bool) 
    (stripe member jpos : Nat) (delta new : List (Nat × Line)) :
    requestsOf (s.carDelta t seg peer isQ resent stripe member jpos delta new).tiles = requestsOf s.tiles := by
  simp [State.carDelta]

@[simp] theorem State.judgeSync_requests (s : State) : requestsOf s.judgeSync.tiles = requestsOf s.tiles := by simp [State.judgeSync]

@[simp] theorem State.markStale_requests (s : State) (t peer g : Nat) : requestsOf (s.markStale t peer g).tiles = requestsOf s.tiles := by
  unfold State.markStale
  split <;> simp

@[simp] theorem State.carReadStart_requests (s : State) (use : CarUse) (stripe mask : Nat) (asked : List Nat) :
    requestsOf (s.carReadStart use stripe mask asked).tiles = requestsOf s.tiles := by
  simp [State.carReadStart]

@[simp] theorem State.launchCommit_requests (s : State) (t : Nat) (c : Commit) : requestsOf (s.launchCommit t c).tiles = requestsOf s.tiles := by
  unfold State.launchCommit
  have hp := s.place_requests t c.job.frontier
  split <;> simp_all

@[simp] theorem State.beginCommit_requests (s : State) (t : Nat) (job : Job) (seg : Nat) (pg : Page) :
    requestsOf (s.beginCommit t job seg pg).tiles = requestsOf s.tiles := by
  simp [State.beginCommit]

@[simp] theorem State.sendCupola_requests (s : State) (t seg jpos : Nat) (resent : Bool) (delta : List (Nat × Line)) :
    requestsOf (s.sendCupola t seg jpos resent delta).1.tiles = requestsOf s.tiles := by
  unfold State.sendCupola
  (repeat' split) <;> simp

@[simp] theorem State.sendCaravan_requests (s : State) (t seg jpos : Nat) (resent : Bool) (delta new : List (Nat × Line)) :
    requestsOf (s.sendCaravan t seg jpos resent delta new).1.tiles = requestsOf s.tiles := by
  unfold State.sendCaravan
  dsimp only
  split
  · rfl
  · refine foldl_fst_requests (fun a h => ?_) _ _
    split <;> simp

@[simp] theorem State.replaceEntry_requests (s : State) (t seg : Nat) (e : MapEnt) : requestsOf (s.replaceEntry t seg e).tiles = requestsOf s.tiles := by
  simp [State.replaceEntry]

@[simp] theorem State.fetchLine_requests (s : State) (t l : Nat) : requestsOf (s.fetchLine t l).tiles = requestsOf s.tiles := by
  unfold State.fetchLine
  dsimp only
  split <;> simp

@[simp] theorem State.commitJournal_requests (s : State) (t seg : Nat) : requestsOf (s.commitJournal t seg).tiles = requestsOf s.tiles := by
  unfold State.commitJournal
  (repeat' split) <;> simp

@[simp] theorem State.noteParityWait_requests (s : State) (t : Nat) (was : Bool) : requestsOf (s.noteParityWait t was).tiles = requestsOf s.tiles := by
  simp [State.noteParityWait]

@[simp] theorem State.commitCaravan_requests (s : State) (t seg : Nat) : requestsOf (s.commitCaravan t seg).tiles = requestsOf s.tiles := by
  unfold State.commitCaravan
  split <;> simp

@[simp] theorem State.commitDelta_requests (s : State) (t seg : Nat) (delta : List (Nat × Line)) :
    requestsOf (s.commitDelta t seg delta).tiles = requestsOf s.tiles := by
  unfold State.commitDelta
  (repeat' split) <;> simp

@[simp] theorem State.carStaleRow_requests (s : State) (t row : Nat) : requestsOf (s.carStaleRow t row).tiles = requestsOf s.tiles := by simp [State.carStaleRow]

@[simp] theorem State.commitCupola_requests (s : State) (t seg : Nat) : requestsOf (s.commitCupola t seg).tiles = requestsOf s.tiles := by
  unfold State.commitCupola
  dsimp only
  (repeat' split) <;> simp

@[simp] theorem State.dropDelta_requests (s : State) (t l : Nat) (poison : Bool) : requestsOf (s.dropDelta t l poison).tiles = requestsOf s.tiles := by
  simp [State.dropDelta]

@[simp] theorem State.dropSeg_requests (s : State) (t l : Nat) (poison : Bool) : requestsOf (s.dropSeg t l poison).tiles = requestsOf s.tiles := by
  unfold State.dropSeg
  (repeat' split) <;> simp

@[simp] theorem State.poisonSeg_requests (s : State) (t l : Nat) : requestsOf (s.poisonSeg t l).tiles = requestsOf s.tiles := by simp [State.poisonSeg]

@[simp] theorem State.clearFlips_requests (s : State) (t f : Nat) (lines : Nat → Bool) : requestsOf (s.clearFlips t f lines).tiles = requestsOf s.tiles := by
  simp [State.clearFlips]

@[simp] theorem State.metaLost_requests (s : State) (t f : Nat) : requestsOf (s.metaLost t f).tiles = requestsOf s.tiles := by simp [State.metaLost]

@[simp] theorem State.lineLost_requests (s : State) (t f line : Nat) : requestsOf (s.lineLost t f line).tiles = requestsOf s.tiles := by simp [State.lineLost]

@[simp] theorem State.writeBack_requests (s : State) (t f bad : Nat) : requestsOf (s.writeBack t f bad).tiles = requestsOf s.tiles := by simp [State.writeBack]

@[simp] theorem State.startCommitBad_requests (s : State) (t f bad : Nat) : requestsOf (s.startCommitBad t f bad).tiles = requestsOf s.tiles := by
  simp [State.startCommitBad]

@[simp] theorem State.startCommit_requests (s : State) (t f : Nat) : requestsOf (s.startCommit t f).tiles = requestsOf s.tiles := by simp [State.startCommit]

@[simp] theorem State.withdrawNow_requests (s : State) (t f : Nat) : requestsOf (s.withdrawNow t f).tiles = requestsOf s.tiles := by simp [State.withdrawNow]

@[simp] theorem State.withdraw_requests (s : State) (t f : Nat) : requestsOf (s.withdraw t f).tiles = requestsOf s.tiles := by simp [State.withdraw]

@[simp] theorem State.tagRecover_requests (s : State) (t f w : Nat) (hard metaBad : Bool) :
    requestsOf (s.tagRecover t f w hard metaBad).tiles = requestsOf s.tiles := by
  simp [State.tagRecover]

@[simp] theorem State.tagTaken_requests (s : State) (t f w : Nat) : requestsOf (s.tagTaken t f w).tiles = requestsOf s.tiles := by simp [State.tagTaken]

@[simp] theorem State.tagRead_requests (s : State) (t f flips : Nat) (hard metaBad : Bool) :
    requestsOf (s.tagRead t f flips hard metaBad).1.tiles = requestsOf s.tiles := by
  unfold State.tagRead
  dsimp only
  (repeat' split) <;> simp

@[simp] theorem State.tagCheck_requests (s : State) (t l : Nat) (u : Upset) : requestsOf (s.tagCheck t l u).1.tiles = requestsOf s.tiles := by simp [State.tagCheck]

@[simp] theorem State.frameCheck_requests (s : State) (t f line : Nat) (u : Upset) (rd : Bool) :
    requestsOf (s.frameCheck t f line u rd).tiles = requestsOf s.tiles := by
  simp [State.frameCheck]

@[simp] theorem State.staleRead_requests (s : State) (t c : Nat) : requestsOf (s.staleRead t c).tiles = requestsOf s.tiles := by simp [State.staleRead]

@[simp] theorem State.issueRead_requests (s : State) (t : Nat) (r : MedRead) : requestsOf (s.issueRead t r).tiles = requestsOf s.tiles := by simp [State.issueRead]

@[simp] theorem State.serveRead_requests (s : State) (t : Nat) (q : MedRead) (dataIn : Bool) : requestsOf (s.serveRead t q dataIn).tiles = requestsOf s.tiles := by
  simp [State.serveRead]

@[simp] theorem State.planeRead_requests (s : State) (t id loc line : Nat) (dataIn : Bool) :
    requestsOf (s.planeRead t id loc line dataIn).tiles = requestsOf s.tiles := by
  simp [State.planeRead]

@[simp] theorem State.uncorr_requests (s : State) (t l : Nat) : requestsOf (s.uncorr t l).tiles = requestsOf s.tiles := by simp [State.uncorr]

@[simp] theorem State.xlLookup_requests (s : State) (t l : Nat) (u : Upset) : requestsOf (s.xlLookup t l u).1.tiles = requestsOf s.tiles := by
  unfold State.xlLookup
  dsimp only
  (repeat' split) <;> simp

@[simp] theorem State.markFront_requests (s : State) (t l : Nat) : requestsOf (s.markFront t l).tiles = requestsOf s.tiles := by simp [State.markFront]

@[simp] theorem State.adoptLine_requests (s : State) (p q l line : Nat) (x : Line) (poison : Bool) :
    requestsOf (s.adoptLine p q l line x poison).tiles = requestsOf s.tiles := by
  simp [State.adoptLine]

@[simp] theorem State.flushNext_requests (s : State) (t : Nat) : requestsOf (s.flushNext t).tiles = requestsOf s.tiles := by simp [State.flushNext]
end Sys2Proof.Machine
end

section
/-! What settling leaves of the requests of every tile (03_transactions.md R77, R88, R89). -/

namespace Sys2Proof.Machine

open Sys2Proof

/-! ### What settling does on the tiles (R88, R144) -/

section
variable {s : State}

theorem State.cupApply_requests {t : Nat} {d : Delta} {a : State} (h : s.cupApply t d = some a) : requestsOf a.tiles = requestsOf s.tiles := by
  have hack (b : State) (k : AckKind) : requestsOf (b.cupAck t d k).tiles = requestsOf b.tiles := State.meshSend_requests ..
  unfold State.cupApply at h
  dsimp only at h
  split at h
  · cases h
    exact hack ..
  · split at h
    · cases h
      exact (hack ..).trans (State.modCupT_requests ..)
    · split at h
      · cases h
        exact (hack ..).trans (State.modCupT_requests ..)
      · cases h

@[simp] theorem State.cupRetry_requests (s : State) (t : Nat) : requestsOf (s.cupRetry t).tiles = requestsOf s.tiles := by
  refine foldl_requests (fun a d => ?_) _ _
  split
  · next b hb => exact (State.modCupT_requests ..).trans (State.cupApply_requests hb)
  · rfl

@[simp] theorem State.markSynced_requests (s : State) (k : Nat) : requestsOf (s.markSynced k).tiles = requestsOf s.tiles := by simp [State.markSynced]

theorem State.carApply_requests {t l : Nat} {d : CarHeld} {a : State} (h : s.carApply t l d = some a) : requestsOf a.tiles = requestsOf s.tiles := by
  unfold State.carApply at h
  dsimp only at h
  split at h
  · cases h
    exact State.modCarT_requests ..
  · split at h
    · cases h
      exact State.modCarT_requests ..
    · cases h

@[simp] theorem State.carAck_requests (s : State) (peer seq stripe status : Nat) :
    requestsOf (s.carAck peer seq stripe status).tiles = requestsOf s.tiles := by simp [State.carAck]

@[simp] theorem State.carRetry_requests (s : State) (t : Nat) : requestsOf (s.carRetry t).tiles = requestsOf s.tiles := by
  refine foldl_requests (fun a d => ?_) _ _
  split
  · next b hb =>
    split at hb
    · cases hb
    · exact (State.carAck_requests ..).trans ((State.modCarT_requests ..).trans (State.carApply_requests hb))
  · rfl

@[simp] theorem State.parityDone_requests (s : State) (t : Nat) : requestsOf (s.parityDone t).tiles = requestsOf s.tiles := by
  refine foldl_requests (fun a c => ?_) _ _
  cases c.job <;> simp

@[simp] theorem State.dropOrphans_requests (s : State) (t : Nat) : requestsOf (s.dropOrphans t).tiles = requestsOf s.tiles := by simp [State.dropOrphans]
@[simp] theorem State.poisonDrops_requests (s : State) (t : Nat) : requestsOf (s.poisonDrops t).tiles = requestsOf s.tiles := by simp [State.poisonDrops]
@[simp] theorem State.withdrawReady_requests (s : State) (t : Nat) : requestsOf (s.withdrawReady t).tiles = requestsOf s.tiles := by
  simp [State.withdrawReady]

/-! ### What settling does for the package (R154 to R156, R227, R244, R464) -/

@[simp] theorem State.flushSeg_requests (p : State × RangeJob) (e : Nat × Nat × Nat) : requestsOf (State.flushSeg p e).1.tiles = requestsOf p.1.tiles := by
  unfold State.flushSeg
  dsimp only
  (repeat' split) <;> simp

@[simp] theorem State.invalSeg_requests (p : State × RangeJob) (e : Nat × Nat × Nat) : requestsOf (State.invalSeg p e).1.tiles = requestsOf p.1.tiles := by
  unfold State.invalSeg
  dsimp only
  (repeat' split) <;> simp

@[simp] theorem State.discardSeg_requests (p : State × RangeJob) (e : Nat × Nat × Nat) : requestsOf (State.discardSeg p e).1.tiles = requestsOf p.1.tiles := by
  unfold State.discardSeg
  dsimp only
  (repeat' split) <;> simp

theorem inTurnPass_requests {f : State × RangeJob → Nat × Nat × Nat → State × RangeJob} (h : ∀ p e, requestsOf (f p e).1.tiles = requestsOf p.1.tiles)
    (p : State × RangeJob) (l : List (Nat × Nat × Nat)) : requestsOf (inTurnPass f p l).1.tiles = requestsOf p.1.tiles := by
  induction l generalizing p with
  | nil => rfl
  | cons e l ih =>
    rw [inTurnPass]
    split
    · exact (ih _).trans (h p e)
    · exact h p e

theorem jobWalk_requests {f : State × RangeJob → Nat × Nat × Nat → State × RangeJob} (h : ∀ p e, requestsOf (f p e).1.tiles = requestsOf p.1.tiles)
    (j : RangeJob) (p : State × RangeJob) : requestsOf (jobWalk j f p).1.tiles = requestsOf p.1.tiles := by
  unfold jobWalk
  split
  · exact inTurnPass_requests h p j.left
  · exact foldl_fst_requests h j.left p

@[simp] theorem State.secureBlock_requests (p : State × RangeJob) (e : Nat × Nat) : requestsOf (State.secureBlock p e).1.tiles = requestsOf p.1.tiles := by
  unfold State.secureBlock
  dsimp only
  (repeat' split) <;> simp [State.closeBlock, State.startBatch, State.startClear]

/-- The segments of a job that its pass takes. -/
def State.jobWalked (s : State) (j : RangeJob) : State × RangeJob :=
  if j.kind = 0 then jobWalk j State.flushSeg (s, { j with left := [] })
  else if j.kind = 1 then jobWalk j State.invalSeg (s, { j with left := [] })
  else jobWalk j State.discardSeg (s, { j with left := [] })

theorem State.jobWalked_requests (s : State) (j : RangeJob) : requestsOf (s.jobWalked j).1.tiles = requestsOf s.tiles := by
  unfold State.jobWalked
  split
  · exact jobWalk_requests State.flushSeg_requests ..
  · split
    · exact jobWalk_requests State.invalSeg_requests ..
    · exact jobWalk_requests State.discardSeg_requests ..

theorem State.jobPass_eq (s : State) (j : RangeJob) :
    s.jobPass j = s.jobWalked j ∨ ∃ (k : RangeJob) (l : List (Nat × Nat)), s.jobPass j = l.foldl State.secureBlock ((s.jobWalked j).1, k) := by
  have hpass : s.jobPass j = (match s.jobWalked j with
    | (s1, j1) =>
      if (j.kind = 3 || j.kind = 6) && (j1.left.isEmpty && j1.durable.all (fun e => decide (e.2 ≤ (s1.tile e.1).xl.jdur))) then
        let j2 : RangeJob := if j1.scanned then j1 else { j1 with scanned := true, blks := s1.scanBlocks j1.spans }
        j2.blks.foldl State.secureBlock (s1, { j2 with blks := [] })
      else (s1, j1)) := rfl
  rw [hpass]
  generalize s.jobWalked j = p
  obtain ⟨s1, j1⟩ := p
  dsimp only
  split
  · exact .inr ⟨_, _, rfl⟩
  · exact .inl rfl

@[simp] theorem State.jobPass_requests (s : State) (j : RangeJob) : requestsOf (s.jobPass j).1.tiles = requestsOf s.tiles := by
  obtain h | ⟨k, l, h⟩ := s.jobPass_eq j
  · rw [h, State.jobWalked_requests]
  · rw [h, foldl_fst_requests State.secureBlock_requests]
    exact s.jobWalked_requests j

@[simp] theorem State.jobFinish_requests (s : State) (j : RangeJob) : requestsOf (s.jobFinish j).tiles = requestsOf s.tiles := by
  simp [State.jobFinish]

@[simp] theorem State.jobsAdvance_requests (s : State) : requestsOf s.jobsAdvance.tiles = requestsOf s.tiles := by
  refine foldl_requests (fun a j => ?_) _ _
  simp

@[simp] theorem State.erasesAdvance_requests (s : State) : requestsOf s.erasesAdvance.tiles = requestsOf s.tiles := by
  simp [State.erasesAdvance, State.eraseSwitch, State.storeRegions, State.eraseKey]

@[simp] theorem State.ckptAdvance_requests (s : State) : requestsOf s.ckptAdvance.tiles = requestsOf s.tiles := by
  unfold State.ckptAdvance
  (repeat' split) <;> simp

@[simp] theorem State.retireAdvance_requests (s : State) : requestsOf s.retireAdvance.tiles = requestsOf s.tiles := by
  simp [State.retireAdvance]

end

end Sys2Proof.Machine
end

section
/-! What a tile that performs requests leaves of another tile, and of entries of trackers that have ended (03_transactions.md R78, R93). -/

namespace Sys2Proof.Machine

open Sys2Proof

/-- The tracker has no entry of this number. -/
def Tile.free (x : Tile) (id : Nat) : Prop := x.txn.tracker.find? (fun q => q.id == id) = none

/-- Tile `k` holds the same requests and waits as before, and no tracker has a new entry. -/
structure Eases (k : Nat) (s t : State) : Prop where
  haz : (t.tile k).txn.haz = (s.tile k).txn.haz
  waitOn : (t.tile k).fs.waitOn = (s.tile k).fs.waitOn
  free : ∀ h id, (s.tile h).free id → (t.tile h).free id

section
variable {k u : Nat} {s t a b c : State}

theorem Eases.refl (s : State) : Eases k s s := ⟨rfl, rfl, fun _ _ => id⟩

theorem Eases.trans (h : Eases k a b) (l : Eases k b c) : Eases k a c :=
  ⟨l.haz.trans h.haz, l.waitOn.trans h.waitOn, fun u id => l.free u id ∘ h.free u id⟩

theorem Eases.ite {p : Prop} [Decidable p] (ha : Eases k s a) (hb : Eases k s b) : Eases k s (if p then a else b) := by
  split
  · exact ha
  · exact hb

theorem Eases.foldl {β : Type} {f : State → β → State} {l : List β} (h : ∀ a, ∀ b ∈ l, Eases k a (f a b)) (s : State) : Eases k s (l.foldl f s) := by
  induction l generalizing s with
  | nil => exact .refl s
  | cons b l ih => exact (h s b (.head _)).trans (ih (fun a c hc => h a c (.tail _ hc)) _)

theorem requests_tile (h : requestsOf t.tiles = requestsOf s.tiles) (u : Nat) : (t.tile u).requests = (s.tile u).requests := by
  have hget : ∀ v : Vector Tile 8, (vget u {} v).requests = (requestsOf v).getD u ({} : Tile).requests := fun v => by
    simp [requestsOf, vget, List.getD_eq_getElem?_getD, List.getElem?_map]
  exact (hget _).trans ((congrArg (·.getD u ({} : Tile).requests) h).trans (hget _).symm)

/-- What leaves the requests of every tile leaves those of tile `k` and every tracker. -/
theorem eases_of_requests (h : requestsOf t.tiles = requestsOf s.tiles) : Eases k s t where
  haz := congrArg (fun x : Txn × Bool => x.1.haz) (requests_tile h k)
  waitOn := congrArg Prod.snd (requests_tile h k)
  free u id hf := by
    have htrk : (t.tile u).txn.tracker = (s.tile u).txn.tracker := congrArg (fun x : Txn × Bool => x.1.tracker) (requests_tile h u)
    rwa [Tile.free, htrk]

/-- There are eight tiles. -/
theorem State.tile_of_ge (h : 8 ≤ u) (s : State) : s.tile u = {} := by
  simp [State.tile, vget, List.getD, h]

/-- A change of a tile that keeps its requests and waits, where the tile is `k`, and adds no entry to its tracker. -/
theorem eases_modTile {f : Tile → Tile} (hk : u = k → ∀ x, (f x).txn.haz = x.txn.haz ∧ (f x).fs.waitOn = x.fs.waitOn)
    (hf : ∀ x id, x.free id → (f x).free id) : Eases k s (s.modTile u f) := by
  have htile : ∀ v, (s.modTile u f).tile v = s.tile v ∨ u = v ∧ (s.modTile u f).tile v = f (s.tile v) := fun v => by
    by_cases hv : v = u
    · subst hv
      by_cases h8 : v < 8
      · exact .inr ⟨rfl, State.tile_modTile_self _ _ h8⟩
      · exact .inl ((State.tile_of_ge (not_lt.1 h8) _).trans (State.tile_of_ge (not_lt.1 h8) _).symm)
    · exact .inl (State.tile_modTile_ne hv ..)
  refine ⟨?_, ?_, fun v id h => ?_⟩
  · obtain h | ⟨hu, h⟩ := htile k
    · rw [h]
    · rw [h, (hk hu _).1]
  · obtain h | ⟨hu, h⟩ := htile k
    · rw [h]
    · rw [h, (hk hu _).2]
  · obtain hv | ⟨-, hv⟩ := htile v
    · rwa [hv]
    · rw [hv]
      exact hf _ _ h

/-! ### The hazard table, trackers and responses -/

/-- A change of a tile that leaves its hazard table and its Front Store, and adds no entry to its tracker. -/
theorem eases_modTxn {f : Txn → Txn} (hz : ∀ x, (f x).haz = x.haz := by intro; rfl)
    (hf : ∀ (x : Tile) id, x.free id → Tile.free { x with txn := f x.txn } id := by intro _ _ h; exact h) : Eases k s (s.modTxn u f) :=
  eases_modTile (fun _ x => ⟨hz x.txn, rfl⟩) hf

/-- A change of the hazard table of another tile. -/
theorem eases_haz (hu : u ≠ k) {f : Txn → Txn} (ht : ∀ x, (f x).tracker = x.tracker := by intro; rfl) : Eases k s (s.modTxn u f) :=
  eases_modTile (fun h => absurd h hu) fun x id h => by
    rw [Tile.free, ht]
    exact h

theorem eases_hazDrop (hu : u ≠ k) (s : State) (id : Nat) : Eases k s (s.hazDrop u id) := eases_haz hu

theorem eases_modHaz (hu : u ≠ k) (s : State) (id : Nat) (f : Haz → Haz) : Eases k s (s.modHaz u id f) := eases_haz hu

theorem eases_modReq (s : State) (r : Req) {f : Req → Req} (hid : ∀ q, (f q).id = q.id := by intro; rfl) : Eases k s (s.modReq r f) := by
  refine eases_modTxn (hf := fun x id h => ?_)
  have hpred : ((fun q : Req => q.id == id) ∘ fun q => if q.id = r.id then f q else q) = fun q => q.id == id := by
    funext q
    by_cases hq : q.id = r.id <;> simp [hq, hid]
  have hfree : x.txn.tracker.find? (fun q => q.id == id) = none := h
  rw [Tile.free, List.find?_map, hpred, hfree]
  rfl

theorem eases_noteCase (s : State) (r : Req) (cse base : Nat) : Eases k s (s.noteCase r cse base) := eases_modReq ..
theorem eases_noteExtra (s : State) (r : Req) : Eases k s (s.noteExtra r) := eases_modReq ..
theorem eases_noteWaited (s : State) (r : Req) : Eases k s (s.noteWaited r) := eases_modReq ..

theorem eases_noteRecon (s : State) (r : Req) : Eases k s (s.noteRecon r) := by
  unfold State.noteRecon
  split
  · exact .ite (eases_noteCase ..) (eases_noteCase ..)
  · exact .refl s

/-- An entry that ends is none that a tracker has. -/
theorem eases_endEntry (s : State) (u id : Nat) : Eases k s (s.modTxn u (fun x => x.ended id)) := by
  refine eases_modTxn (hf := fun x i h => ?_)
  have hfree : x.txn.tracker.find? (fun q => q.id == i) = none := h
  rw [List.find?_eq_none] at hfree
  exact List.find?_eq_none.2 fun q hq => hfree q (List.mem_filter.1 hq).1

theorem eases_respond (s : State) (r : Req) (data : Option Line) (poison : Bool) (latNs : Nat) : Eases k s (s.respond r data poison latNs) := by
  by_cases hc : s.hasCredit r
  · obtain ⟨dl, counts, heff⟩ := State.respond_of_credit hc data poison latNs
    rw [heff]
    have hsent : Eases k (s.measure r latNs) ((s.measure r latNs).sent r data poison dl) :=
      ((eases_of_requests (State.modHead_requests ..)).trans (eases_endEntry ..)).trans (eases_of_requests rfl)
    have hcount (a : State) : Eases k a (a.counted r counts) :=
      (Eases.ite (eases_of_requests (State.winCount_requests ..)) (.refl a)).trans (eases_of_requests (State.modHead_requests ..))
    exact ((eases_of_requests (State.measure_requests ..)).trans hsent).trans (hcount _)
  · have hwait : s.respond r data poison latNs = s.modTxn r.head (fun x => { x with outQ := x.outQ ++ [({ r with waited := true }, data, poison)] }) :=
      if_pos (by simpa [State.hasCredit] using hc)
    rw [hwait]
    exact eases_modTxn

theorem eases_reply (s : State) (h id : Nat) (data : Option Line) (poison : Bool) (latNs : Nat) : Eases k s (s.reply h id data poison latNs) := by
  unfold State.reply
  split
  · exact .ite (.refl s) (eases_respond ..)
  · exact .refl s

theorem eases_answer (s : State) (u : Nat) (r : Req) (data : Option Line) (poison : Bool) (latNs : Nat) : Eases k s (s.answer u r data poison latNs) :=
  .ite (eases_reply ..) (eases_of_requests (State.meshSend_requests ..))

theorem eases_hazAnswer (hu : u ≠ k) (s : State) (r : Req) (data : Option Line) (poison : Bool) (latNs : Nat) :
    Eases k s (s.hazAnswer u r data poison latNs) :=
  ((eases_hazDrop hu s r.id).trans (.ite (eases_of_requests (by simp)) (.refl _))).trans (eases_answer ..)

theorem eases_noteWait (hu : u ≠ k) (s : State) : Eases k s (s.noteWait u) := by
  have hset : Eases k s (s.modFs u (fun g => { g with waitOn := true })) := eases_modTile (fun h => absurd h hu) fun _ _ h => h
  exact .ite (eases_of_requests (by simp)) (hset.trans (eases_of_requests (by simp)))

theorem eases_endWait (hu : u ≠ k) (s : State) : Eases k s (s.endWait u) :=
  .ite (.refl s) (eases_modTile (fun h => absurd h hu) fun _ _ h => h)

theorem eases_writeWait (hu : u ≠ k) (s : State) (r : Req) (st : HazSt) : Eases k s (s.writeWait u r st) :=
  ((eases_modHaz hu ..).trans (eases_noteWait hu _)).trans (eases_noteWaited ..)

/-! ### Performing a request -/

theorem eases_readCaravan (hu : u ≠ k) (s : State) (o : Nat) (r : Req) (l line latNs : Nat) : Eases k s (s.readCaravan u o r l line latNs) := by
  unfold State.readCaravan
  dsimp only
  split
  · exact ((eases_modHaz hu ..).trans (eases_noteCase ..)).trans (eases_of_requests (State.carReadStart_requests ..))
  · exact (eases_of_requests (by simp)).trans (eases_hazAnswer hu ..)

theorem eases_readRecon (hu : u ≠ k) (s : State) (r : Req) (l line latNs : Nat) : Eases k s (s.readRecon u r l line latNs) := by
  unfold State.readRecon
  split
  · exact ((eases_of_requests (by simp)).trans (eases_noteRecon ..)).trans (eases_hazAnswer hu ..)
  · refine Eases.trans (eases_of_requests ?_) (eases_readCaravan hu ..)
    split
    · simp
    · simp

theorem eases_adoptPerform (hu : u ≠ k) (s : State) (ft q : Nat) (r : Req) (l line latNs : Nat) : Eases k s (s.adoptPerform u ft q r l line latNs) := by
  have hwrite (v : Line) (p : Bool) : Eases k s (((s.adoptLine u q l line v p).hazAnswer u r none false latNs).judgeThrottle u) :=
    ((eases_of_requests (State.adoptLine_requests ..)).trans (eases_hazAnswer hu ..)).trans (eases_of_requests (State.judgeThrottle_requests ..))
  unfold State.adoptPerform
  dsimp only
  refine .ite ?_ (.ite (eases_writeWait hu ..) ?_)
  · split
    · exact Eases.trans (.ite (.refl s) ((eases_of_requests (by simp)).trans (eases_noteRecon ..))) (eases_hazAnswer hu ..)
    · exact eases_readCaravan hu ..
  · split
    · exact hwrite _ _
    · exact hwrite _ _

theorem eases_writeStored (hu : u ≠ k) (s : State) (r : Req) (f latNs : Nat) : Eases k s (s.writeStored u r f latNs) := by
  unfold State.writeStored
  dsimp only
  refine Eases.trans (eases_of_requests (t := (s.clearFlips u f (fun i => i == r.dpa / 64 % 64 || i == 64)).markFront u (s.frame u f).seg) (by simp)) (.ite ?_ ?_)
  · exact ((eases_modHaz hu ..).trans (eases_noteWait hu _)).trans (eases_of_requests (State.startCommit_requests ..))
  · exact (eases_hazAnswer hu ..).trans (eases_of_requests (State.judgeThrottle_requests ..))

theorem eases_setFull (hu : u ≠ k) (s : State) (l : Nat) (r : Req) : Eases k s (s.setFull u l r) := by
  refine Eases.trans (eases_writeWait hu s r .way) (eases_of_requests ?_)
  unfold State.setFull
  dsimp only
  split <;> simp

theorem eases_noteFill (hu : u ≠ k) (s : State) (r : Req) (l : Nat) (x : Upset) : Eases k s (s.noteFill u r l x) :=
  ((eases_of_requests (State.xlLookup_requests s u l x)).trans (eases_noteCase ..)).trans (eases_modHaz hu ..)

end

end Sys2Proof.Machine
end

section
/-! What a tile that performs its requests, and settling, leave of a tile without requests (03_transactions.md R78, R89; 05_front_store.md R141 to
R144). -/

namespace Sys2Proof.Machine

open Sys2Proof

section
variable {k u : Nat}

theorem eases_readPerform (hu : u ≠ k) (s : State) (r : Req) (l line : Nat) (x : Upset) (latNs : Nat) (idle : Bool) :
    Eases k s (s.readPerform u r l line x latNs idle) := by
  have htag := s.tagCheck_requests u l x
  unfold State.readPerform
  generalize s.tagCheck u l x = checked at htag ⊢
  obtain ⟨a, recovered⟩ := checked
  dsimp -zeta only at htag ⊢
  extract_lets +onlyGivenNames s1 b
  have hextra : Eases k s s1 := (eases_of_requests htag).trans (.ite (eases_noteExtra ..) (.refl a))
  have hcheck : Eases k s b := by
    unfold b
    split
    · exact hextra.trans (eases_of_requests (State.frameCheck_requests ..))
    · exact hextra
  clear_value b
  dsimp only
  refine hcheck.trans ?_
  split
  · next f _ =>
    have hlook : Eases k b ((b.touchWay u f).xlLookup u l x).1 := eases_of_requests (by simp)
    refine hlook.trans ?_
    refine Eases.trans (Eases.trans ?_ (eases_of_requests (State.perfEvent_requests ..))) (eases_hazAnswer hu ..)
    exact .ite (eases_noteCase ..) (.ite (eases_noteCase ..) (eases_noteCase ..))
  · refine Eases.trans (eases_of_requests (State.xlLookup_requests b u l x)) ?_
    refine Eases.trans (eases_noteCase ..) (.ite (eases_readRecon hu ..) ?_)
    split
    · exact (eases_of_requests (State.perfEvent_requests ..)).trans (eases_hazAnswer hu ..)
    · exact (eases_of_requests (State.perfEvent_requests ..)).trans (eases_hazAnswer hu ..)
    · exact (eases_of_requests (State.perfEvent_requests ..)).trans (eases_hazAnswer hu ..)
    · exact eases_hazAnswer hu ..
    · exact eases_readRecon hu ..
    all_goals
      refine Eases.trans (Eases.trans ?_ (eases_modHaz hu ..)) (eases_of_requests ((State.planeRead_requests ..).trans (State.perfEvent_requests ..)))
      exact .ite (eases_noteWaited ..) (.refl _)

theorem eases_writePerform (hu : u ≠ k) (s : State) (r : Req) (l line : Nat) (x : Upset) (latNs : Nat) :
    Eases k s (s.writePerform u r l line x latNs) := by
  have htag := s.tagCheck_requests u l x
  unfold State.writePerform
  generalize s.tagCheck u l x = checked at htag ⊢
  obtain ⟨a, recovered⟩ := checked
  dsimp -zeta only at htag ⊢
  extract_lets +onlyGivenNames held s1 b
  have hextra : Eases k s s1 := (eases_of_requests htag).trans (.ite (eases_noteExtra ..) (.refl a))
  have hcheck : Eases k s b := by
    unfold b
    split
    · exact hextra.trans (eases_of_requests (State.frameCheck_requests ..))
    · exact hextra
  clear_value b
  dsimp only
  refine hcheck.trans ?_
  have hput (c : State) (f : Nat) (y : Frame) : Eases k c ((c.setFrame u f y).touchWay u f) := eases_of_requests (by simp)
  have hstore (c : State) (f : Nat) (y : Frame) : Eases k c (((c.setFrame u f y).touchWay u f).writeStored u r f latNs) :=
    (hput c f y).trans (eases_writeStored hu ..)
  have hfill (c : State) (f : Nat) (y : Frame) : Eases k c (((c.setFrame u f y).touchWay u f).noteFill u r l x) :=
    (hput c f y).trans (eases_noteFill hu ..)
  have hperf : Eases k b (b.perfEvent u 0x20 0 1) := eases_of_requests (State.perfEvent_requests ..)
  split
  · refine .ite (eases_writeWait hu ..) ?_
    split
    · exact hstore ..
    · exact .ite (hstore ..) (.ite (eases_modHaz hu ..) (hfill ..))
    · exact .ite (hstore ..) (.ite (eases_modHaz hu ..) (hfill ..))
    · exact .ite (hstore ..) (hfill ..)
    · exact hstore ..
    · exact .refl b
  · refine .ite (eases_writeWait hu ..) ?_
    split
    · exact eases_setFull hu ..
    · refine .ite ?_ (.ite (hperf.trans (hstore ..)) (.ite (eases_modHaz hu ..) (hperf.trans (hfill ..))))
      exact Eases.trans (eases_of_requests (by simp)) (eases_writeStored hu ..)

/-- R78: a tile that performs a request leaves the requests of every other tile, and takes no entry of a tracker. -/
theorem eases_perform (hu : u ≠ k) (s : State) (r : Req) (x : Upset) (latNs : Nat) (idle : Bool) : Eases k s (s.perform u r x latNs idle) := by
  unfold State.perform
  dsimp only
  refine .ite ?_ (.ite (eases_readPerform hu ..) (eases_writePerform hu ..))
  split
  · exact eases_adoptPerform hu ..
  · exact eases_hazDrop hu ..

theorem eases_wakeLines (hu : u ≠ k) (s : State) (latNs : Nat) : Eases k s (s.wakeLines u latNs) := by
  refine Eases.foldl (fun a id _ => ?_) s
  split
  · exact .ite ((eases_modHaz hu ..).trans (eases_perform hu ..)) (.refl a)
  · exact .refl a

theorem eases_retryFills (hu : u ≠ k) (s : State) (latNs : Nat) : Eases k s (s.retryFills u latNs) := by
  refine Eases.foldl (fun a id _ => ?_) s
  split
  · exact .ite (eases_perform hu ..) (.refl a)
  · exact .refl a

/-- R142: a tile without requests has no fill to try again. -/
theorem State.retryFills_of_nil {s : State} (h : (s.tile u).txn.haz = []) (latNs : Nat) : s.retryFills u latNs = s := by
  rw [State.retryFills, h]
  rfl

/-- Settling a tile leaves a tile without requests as it is, itself included. -/
theorem eases_settleTile {s : State} (h : (s.tile k).txn.haz = []) : Eases k s (s.settleTile u) := by
  have hbefore : Eases k s ((((s.parityDone u).dropOrphans u).poisonDrops u).withdrawReady u) := eases_of_requests (by simp)
  have hretry : ∀ a : State, (a.tile k).txn.haz = [] → Eases k a (a.retryFills u 0) := fun a ha => by
    by_cases hu : u = k
    · subst hu
      rw [State.retryFills_of_nil ha]
      exact .refl a
    · exact eases_retryFills hu a 0
  have hafter (a : State) : Eases k a ((a.judgeThrottle u).flushNext u) := eases_of_requests (by simp)
  unfold State.settleTile
  generalize (((s.parityDone u).dropOrphans u).poisonDrops u).withdrawReady u = a at hbefore ⊢
  exact hbefore.trans ((hretry a (hbefore.haz.trans h)).trans (hafter _))

theorem eases_settle {s : State} (h : (s.tile k).txn.haz = []) : Eases k s s.settle := by
  have hfold : ∀ (l : List Nat) (a : State), (a.tile k).txn.haz = [] → Eases k a (l.foldl State.settleTile a) := fun l => by
    induction l with
    | nil => exact fun a _ => .refl a
    | cons v l ih =>
      intro a ha
      have hstep : Eases k a (a.settleTile v) := eases_settleTile ha
      rw [List.foldl_cons]
      generalize a.settleTile v = b at hstep ⊢
      exact hstep.trans (ih b (hstep.haz.trans ha))
  have htiles := hfold s.aliveTiles s h
  unfold State.settle
  generalize s.aliveTiles.foldl State.settleTile s = a at htiles ⊢
  exact htiles.trans (eases_of_requests (by simp))

end

end Sys2Proof.Machine
end

section
/-! The release of writes that wait, and the admission to the hazard table (03_transactions.md R77, R78, R89). -/

namespace Sys2Proof.Machine

open Sys2Proof

section
variable {s t : State} {h f : Nat} {r q : Req}

/-! ### A tile at which no write is left (R89) -/

theorem State.endWait_of_nil (hz : (s.tile h).txn.haz = []) : s.endWait h = s.modFs h (fun g => { g with waitOn := false }) := by
  have hw : s.writesWait h = false := by
    rw [State.writesWait, hz]
    rfl
  rw [State.endWait, hw]
  rfl

theorem State.waitOn_endWait (hz : (s.tile h).txn.haz = []) (h8 : h < 8) : ((s.endWait h).tile h).fs.waitOn = false := by
  rw [State.endWait_of_nil hz, State.modFs, State.tile_modTile_self _ _ h8]

theorem State.releaseWrites_of_nil (hz : (s.tile h).txn.haz = []) (latNs : Nat) : s.releaseWrites h latNs = s.endWait h := by
  have hnone : s.releaseWrites h latNs = (s.wakeLines h latNs).endWait h := by
    unfold State.releaseWrites
    rw [hz]
    rfl
  rw [hnone, State.wakeLines_of_nil hz]

/-- R89: the wait of a tile at which no write is left ends, and settling does not begin another. -/
theorem dirtyWaitRelease_ends (ha : s.alive h = true) (h8 : h < 8) (hz : (s.tile h).txn.haz = []) (latNs : Nat) :
    ((s.dirtyWaitReleaseEff h latNs).tile h).fs.waitOn = false := by
  have hkept : ((s.endWait h).tile h).txn.haz = [] := by
    rw [State.endWait_of_nil hz, State.modFs, State.tile_modTile_self _ _ h8]
    exact hz
  rw [State.dirtyWaitReleaseEff, if_pos ha, State.releaseWrites_of_nil hz, (eases_settle hkept).waitOn, State.waitOn_endWait hz h8]

/-! ### A source is admitted (R77, R78) -/

/-- R78: a write to a line at which an earlier request of the medium stands waits for it. -/
theorem blocked_append {l : List Haz} {z : Haz} (hid : l.all (fun g => g.req.id != z.req.id) = true)
    (hany : l.any (fun g => g.seg == z.seg && g.line == z.line && g.st == .media && g.req.kind == .wr) = true) : blocked (l ++ [z]) z = true := by
  obtain ⟨g, hg, hmeets⟩ := List.any_eq_true.1 hany
  simp only [Bool.and_eq_true, beq_iff_eq] at hmeets
  obtain ⟨⟨⟨hseg, hline⟩, hst⟩, hkind⟩ := hmeets
  have hall : ∀ x ∈ l, (x.req.id != z.req.id) = true := List.all_eq_true.1 hid
  have htake : (l ++ [z]).takeWhile (fun g => g.req.id != z.req.id) = l := by
    rw [List.takeWhile_append_of_pos hall, List.takeWhile_cons_of_neg (by simp), List.append_nil]
  rw [blocked, htake]
  refine List.any_eq_true.2 ⟨g, hg, ?_⟩
  simp [hseg, hline, hst, hkind, HazSt.isThrough]

/-- What a note in a tracker leaves of a tile. -/
def Tile.tabled (x : Tile) : FrontStore × Txn := (x.fs, { x.txn with tracker := [] })

theorem State.tabled_noteWaited (s : State) (r : Req) (u : Nat) : ((s.noteWaited r).tile u).tabled = (s.tile u).tabled := by
  refine State.tile_modTile_keeps Tile.tabled s r.head ?_ u
  exact fun _ => rfl

/-- The entry with which a request waits for an earlier one. -/
def State.waiting (s : State) (t src : Nat) (r : Req) : Haz := { s.entry t src r with st := .line }

/-- R78: a request that an earlier one holds back takes its entry and waits. -/
theorem State.letIn_waits (h8 : h < 8) (src : Nat) (u : Upset) (latNs : Nat) (idle : Bool)
    (hid : (s.tile h).txn.haz.all (fun g => g.req.id != r.id) = true)
    (hany : (s.tile h).txn.haz.any (fun g => g.seg == hazKey s h r && g.line == r.dpa / 64 % 64 && g.st == .media && g.req.kind == .wr) = true) :
    ((s.letIn h src r u latNs idle).tile h).tabled =
      ((s.tile h).fs, { (s.tile h).txn with tracker := [], haz := (s.tile h).txn.haz ++ [s.waiting h src r] }) := by
  obtain ⟨x, hx⟩ : ∃ x, x = s.modTxn h (fun y => { y with haz := y.haz ++ [s.waiting h src r] }) := ⟨_, rfl⟩
  have htile : (x.tile h).tabled = ((s.tile h).fs, { (s.tile h).txn with tracker := [], haz := (s.tile h).txn.haz ++ [s.waiting h src r] }) := by
    rw [hx, State.modTxn, State.tile_modTile_self _ _ h8]
    rfl
  obtain ⟨y, hy, heff⟩ : ∃ y, (y.tile h).tabled = (x.tile h).tabled ∧ s.letIn h src r u latNs idle = if blocked (y.tile h).txn.haz (s.waiting h src r) then y
      else ((y.modHaz h r.id (fun g => { g with st := .media })).perform h r u latNs idle).wakeLines h latNs := by
    refine ⟨if (s.tile h).txn.haz.any (fun g => g.seg == hazKey s h r && g.line == r.dpa / 64 % 64) then x.noteWaited r else x, ?_, ?_⟩
    · split
      · exact x.tabled_noteWaited r h
      · rfl
    · rw [hx]
      rfl
  have hhaz : (y.tile h).txn.haz = (s.tile h).txn.haz ++ [s.waiting h src r] := congrArg (fun v => v.2.haz) (hy.trans htile)
  rw [heff, hhaz, if_pos (blocked_append hid hany)]
  exact hy.trans htile

/-- R77: the waiting source that is next has left the queue. -/
def Txn.admitted (x : Txn) (src : Nat) (r : Req) : Txn := { x with hazWait := x.hazWait.erase (src, r), lastSrc := src }

/-- R77, R78: the source that is next takes its entry, and waits for an earlier write to its line. -/
theorem hazardAdmit_waits {src latNs : Nat} (ha : s.alive h = true) (h8 : h < 8) (hroom : s.hazUsed h < 16384)
    (hnext : (s.tile h).txn.nextSource = some (src, r)) (hid : (s.tile h).txn.haz.all (fun g => g.req.id != r.id) = true)
    (hany : (s.tile h).txn.haz.any (fun g => g.seg == hazKey s h r && g.line == r.dpa / 64 % 64 && g.st == .media && g.req.kind == .wr) = true) :
    ∃ z : Haz, z.req.id = r.id ∧ z.st = .line ∧ ((s.hazardAdmitEff h latNs).tile h).tabled =
      ((s.tile h).fs, { (s.tile h).txn.admitted src r with tracker := [], haz := (s.tile h).txn.haz ++ [z] }) := by
  obtain ⟨x, hx⟩ : ∃ x, x = (s.modTxn h (fun y => y.admitted src r)).noteWaited r := ⟨_, rfl⟩
  have heff : s.hazardAdmitEff h latNs = x.letIn h src { r with waited := true } {} latNs false := by
    have hgo : ¬ (!s.alive h || decide (16384 ≤ s.hazUsed h)) = true := by simp [ha, hroom]
    rw [State.hazardAdmitEff]
    dsimp only
    rw [hnext, hx]
    exact if_neg hgo
  have hxtile : (x.tile h).tabled = ((s.tile h).fs, { (s.tile h).txn.admitted src r with tracker := [] }) := by
    rw [hx, State.tabled_noteWaited, State.modTxn, State.tile_modTile_self _ _ h8]
    rfl
  have hhaz : (x.tile h).txn.haz = (s.tile h).txn.haz := congrArg (fun v => v.2.haz) hxtile
  have hkey : hazKey x h { r with waited := true } = hazKey s h r := by
    rw [hx]
    rfl
  have hwaits := x.letIn_waits (r := { r with waited := true }) h8 src {} latNs false (by rw [hhaz]; exact hid) (by rw [hhaz, hkey]; exact hany)
  refine ⟨x.waiting h src { r with waited := true }, rfl, rfl, ?_⟩
  rw [heff, hwaits, hhaz]
  have hfs : (x.tile h).fs = (s.tile h).fs := congrArg Prod.fst hxtile
  have htxn : ({ (x.tile h).txn with tracker := [] } : Txn) = { (s.tile h).txn.admitted src r with tracker := [] } := congrArg Prod.snd hxtile
  rw [hfs]
  exact congrArg (fun v : Txn => ((s.tile h).fs, ({ v with haz := (s.tile h).txn.haz ++ [x.waiting h src { r with waited := true }] } : Txn))) htxn

end

end Sys2Proof.Machine
end

section
/-! Time-outs of tracker entries and windows of bandwidth (02_host_ports.md R68; 03_transactions.md R93). -/

namespace Sys2Proof.Machine

open Sys2Proof

section
variable {s t : State} {h id : Nat} {r : Req}

theorem id_of_trk (k : s.trk h id = some r) : r.id = id := by simpa using List.find?_some k

theorem State.trk_congr {a : State} (k : (a.tile h).txn.tracker = (s.tile h).txn.tracker) (id : Nat) : a.trk h id = s.trk h id := by
  rw [State.trk, State.trk, k]

theorem logs_evtSeg (s : State) (cause seg : Nat) : Logs s (s.evtSeg cause seg) := .foldl (fun a c _ => logs_evtTo a 1 _ c) s

/-! ### A read (R93) -/

/-- R93: the responses of an entry that wait for an S2M credit are dropped. -/
def Txn.unqueued (x : Txn) (id : Nat) : Txn := { x with outQ := x.outQ.filter (fun w => w.1.id != id) }

/-- R93: the time-out of a read is recorded, and no response of it waits any longer. -/
def State.timedOut (s : State) (h id : Nat) (r : Req) : State :=
  ((s.modTxn h (fun x => x.unqueued id)).latch (Reg.TXN_ERR_STATUS h) 0 Gb.TXN_TIMEOUT h [r.owner, 0]).evtSeg 0 (r.dpa / 4096)

theorem State.trackerTimeoutEff_read (hm : s.memLink h = true) (hr : s.trk h id = some r) (hk : r.kind = .rd) (latNs : Nat) :
    s.trackerTimeoutEff h id latNs = (s.timedOut h id r).respond r (some 0) true latNs := by
  have hkind : (r.kind == .rd) = true := by simp [hk]
  rw [State.trackerTimeoutEff, hr]
  dsimp only
  rw [hm, hkind]
  rfl

/-- R93: a read whose time is over is answered with poison, its entry ends, and its flag stands. -/
theorem trackerTimeout_read (h8 : r.head < 8) (hm : s.memLink r.head = true) (hr : s.trk r.head id = some r) (hk : r.kind = .rd)
    (hd : (s.head r.head).drs = none) (latNs : Nat) :
    answered s (s.trackerTimeoutEff r.head id latNs) r.head r.tag (some 0) true = true ∧ (s.trackerTimeoutEff r.head id latNs).trk r.head id = none ∧
      (s.trackerTimeoutEff r.head id latNs).queued r.head id = false ∧
      (s.trackerTimeoutEff r.head id latNs).regBit (Reg.TXN_ERR_STATUS r.head) 0 = true := by
  have hid := id_of_trk hr
  have hown := (besideResponse_txnErr r.head (b := 0) (by decide)).own
  have hlatch := regBit_latch_self (s.modTxn r.head (fun x => x.unqueued id)) hown (b := 0) (by decide) Gb.TXN_TIMEOUT r.head [r.owner, 0]
  have hbit : (s.timedOut r.head id r).regBit (Reg.TXN_ERR_STATUS r.head) 0 = true := ((logs_evtSeg ..).regBit hown 0).trans hlatch
  have hlog : Serves r.head (fun x => (x.txn, x.head)) (s.modTxn r.head (fun x => x.unqueued id)) (s.timedOut r.head id r) :=
    (serves_latch ..).trans (serves_evtFor ..)
  have hset : Serves r.head Tile.head s (s.modTxn r.head (fun x => x.unqueued id)) := serves_modTile s
  have htxn : ((s.timedOut r.head id r).tile r.head).txn = (s.tile r.head).txn.unqueued id := by
    refine (hlog.map Prod.fst).own.trans ?_
    rw [State.modTxn, State.tile_modTile_self _ _ h8]
  have hhead : (s.timedOut r.head id r).head r.head = s.head r.head := (hlog.map Prod.snd).own.trans hset.own
  have hout : s.outbox <+: (s.timedOut r.head id r).outbox := hset.out.trans hlog.out
  rw [State.trackerTimeoutEff_read hm hr hk]
  generalize s.timedOut r.head id r = a at hbit htxn hhead hout ⊢
  have hc : a.hasCredit r := by simp [State.hasCredit, hk, hhead, hd]
  obtain ⟨hans, hend⟩ := State.respond_spec hc h8 (some 0) true latNs
  have hresp : r.response (some 0) = some 0 := if_pos hk
  rw [hresp] at hans
  rw [htxn] at hend
  refine ⟨answered_of_prefix hout hans List.prefix_rfl, ?_, ?_, ?_⟩
  · rw [State.trk, hend, hid]
    exact List.find?_eq_none.2 fun q hq => by simpa using (List.mem_filter.1 hq).2
  · rw [State.queued, hend]
    exact List.any_eq_false.2 fun w hw => by simpa using (List.mem_filter.1 hw).2
  · rw [regBit_respond h8 (besideResponse_txnErr r.head (by decide)) hc]
    exact hbit

/-! ### A write that is not stored (R93) -/

theorem State.trackerTimeoutEff_write (hm : s.memLink h = true) (hr : s.trk h id = some r) (hk : r.kind = .wr ∨ r.kind = .ptl) (hn : s.notStored r = true)
    (latNs : Nat) : s.trackerTimeoutEff h id latNs =
      (s.dropWrite r).latch (Reg.TXN_ERR_STATUS h) 1 Gb.TXN_TIMEOUT h [r.owner, if r.kind = .wr then 1 else 2] := by
  have hkind : (r.kind == .rd) = false := by
    obtain hk | hk := hk <;> simp [hk]
  rw [State.trackerTimeoutEff, hr]
  dsimp only
  rw [hm, hkind, hn]
  rfl

/-- R93: a write that is dropped has no entry any longer, and no tile that goes on takes one. -/
theorem free_dropWrite (s : State) (r : Req) (h8 : r.head < 8) : ((s.dropWrite r).tile r.head).free r.id := by
  have hlt : ∀ (a : State), ∀ u ∈ a.aliveTiles, u ≠ a.pop.tiles := fun a u hu => by
    simp only [State.aliveTiles, State.present, List.mem_filter, List.mem_range] at hu
    omega
  have hfold : ∀ a : State, Eases a.pop.tiles a (a.aliveTiles.foldl (fun b u => (b.wakeLines u 0).endWait u) a) := fun a =>
    Eases.foldl (fun b u hu => (eases_wakeLines (hlt a u hu) b 0).trans (eases_endWait (hlt a u hu) _)) a
  have hend : ∀ a : State, (((a.modTxn r.head (fun x => { x with tracker := x.tracker.filter (fun q => q.id != r.id) })).modHead r.head
      (fun d => { d with gpf := d.gpf.map (fun l => l.filter (· != r.id)) })).tile r.head).free r.id := fun a => by
    rw [State.modHead, State.tile_modTile_self _ _ h8, State.modTxn, State.tile_modTile_self _ _ h8]
    exact List.find?_eq_none.2 fun q hq => by simpa using (List.mem_filter.1 hq).2
  unfold State.dropWrite
  dsimp only
  generalize State.modJobs _ _ = a
  have hfree := hend a
  generalize (a.modTxn r.head (fun x => { x with tracker := x.tracker.filter (fun q => q.id != r.id) })).modHead r.head
      (fun d => { d with gpf := d.gpf.map (fun l => l.filter (· != r.id)) }) = b at hfree ⊢
  exact (hfold b).free _ _ hfree

theorem trackerTimeout_write (h8 : r.head < 8) (hm : s.memLink r.head = true) (hr : s.trk r.head r.id = some r) (hk : r.kind = .wr ∨ r.kind = .ptl)
    (hn : s.notStored r = true) (latNs : Nat) :
    (s.trackerTimeoutEff r.head r.id latNs).trk r.head r.id = none ∧ (s.trackerTimeoutEff r.head r.id latNs).regBit (Reg.TXN_ERR_STATUS r.head) 1 = true := by
  have hfree := free_dropWrite s r h8
  rw [State.trackerTimeoutEff_write hm hr hk hn]
  generalize s.dropWrite r = a at hfree ⊢
  have hlog : Serves r.head Tile.txn a (a.latch (Reg.TXN_ERR_STATUS r.head) 1 Gb.TXN_TIMEOUT r.head [r.owner, if r.kind = .wr then 1 else 2]) :=
    serves_latch ..
  refine ⟨?_, regBit_latch_self a (besideResponse_txnErr r.head (b := 0) (by decide)).own (by decide) ..⟩
  rw [State.trk_congr (congrArg Txn.tracker hlog.own)]
  exact hfree

/-! ### Windows of bandwidth (R68) -/

/-- R68: a head whose window has ended with an average DevLoad. -/
def Head.windowEnded (avg : Nat) (d : Head) : Head := { d with devLoadAvg := avg, devLoadAcc := (0, 0) }

/-- R68: the LDs of head `h` have used no bandwidth yet. -/
def Capacity.windowEnded (h : Nat) (c : Capacity) : Capacity :=
  { c with lds := c.lds.map (fun e => if e.1 / 16 = h then (e.1, { e.2 with bwUsed := 0 }) else e) }

/-- R68: a window of a head has ended. -/
def State.windowEnded (s : State) (h avg : Nat) : State := ((s.modHead h (Head.windowEnded avg)).modCap (Capacity.windowEnded h)).bumpFree

theorem State.qosWindowEndEff_eq {n sum : Nat} (ha : (s.head h).devLoadAcc = (n, sum)) :
    s.qosWindowEndEff h = s.windowEnded h (if n = 0 then s.freeNow % 769 else sum * 256 / n) := by
  rw [State.qosWindowEndEff, ha]
  rfl

theorem only_window (h avg : Nat) : Only [.cap, .tiles, .free] s (s.ran (s.windowEnded h avg)) :=
  ⟨rfl, rfl, by simp [Part.all, Part.same, State.ran, State.windowEnded]⟩

/-- R68: the end of a window. -/
theorem windowEnded_spec (s : State) (h8 : h < 8) (avg : Nat) :
    ((s.windowEnded h avg).head h).devLoadAvg = avg ∧ ((s.windowEnded h avg).head h).devLoadAcc = (0, 0) ∧
      (s.windowEnded h avg).cap.lds.all (fun e => e.1 / 16 != h || e.2.bwUsed == 0) = true ∧ s.othersKept (s.windowEnded h avg) h = true ∧
      Only [.cap, .tiles, .free] s (s.ran (s.windowEnded h avg)) := by
  have hhead : (s.windowEnded h avg).head h = Head.windowEnded avg (s.head h) := s.head_modHead_self h8 (Head.windowEnded avg)
  refine ⟨congrArg Head.devLoadAvg hhead, congrArg Head.devLoadAcc hhead, ?_, othersKept_of (serves_modTile (g := fun _ => ()) s).others, only_window h avg⟩
  refine List.all_eq_true.2 fun e he => ?_
  obtain ⟨x, -, rfl⟩ := List.mem_map.1 he
  by_cases hx : x.1 / 16 = h
  · simp [hx]
  · simp [hx]

end

end Sys2Proof.Machine
end

section
/-! A write that waited at the dirty limit is stored in its Clean frame (03_transactions.md R89; 05_front_store.md R143, R147). -/

namespace Sys2Proof.Machine

open Sys2Proof

/-- Of a tile: its Front Store, its requests, its head, and what of its commits and its map waits. -/
def Tile.unmapped (x : Tile) : FrontStore × Txn × Head × List Commit × List MedOp × List Nat :=
  (x.fs, x.txn, x.head, x.xl.commits, x.xl.metaWait, x.xl.poisonWait)

/-- What decides whether something of a tile waits is part of that. -/
def waitsOf (v : FrontStore × Txn × Head × List Commit × List MedOp × List Nat) : TileWaits where
  commits := v.2.2.2.1
  metaWait := v.2.2.2.2.1
  poisonWait := v.2.2.2.2.2
  withdrawWait := v.1.withdrawWait
  haz := v.2.1.haz
  writing f := (agetD f { st := .invalid, seg := 0 } v.1.frames).written

section
variable {s t : State} {h l f : Nat} {r q : Req}

theorem Passes.waits (k : Passes Tile.unmapped s t) : Keeps Tile.waits s t := k.keeps.map waitsOf

/-- R204: what becomes FRONT_ONLY changes the map alone, and what is recorded of a map line that fails. -/
theorem passes_markFront (s : State) (h l : Nat) : Passes Tile.unmapped s (s.markFront h l) :=
  .ite (Passes.trans (.ite (passes_mapLineBad ..) (.refl s)) passes_modTile) (.refl s)

/-- A write has its answer: frame `f` of tile `h` holds `y`, nothing is left of the hazard table, and nothing waits that did not. -/
structure Answers (s t : State) (h f : Nat) (y : Frame) (tag : Nat) : Prop where
  answered : answered s t h tag none false = true
  frames : (t.tile h).fs.frames = aput f y (s.tile h).fs.frames
  haz : (t.tile h).txn.haz = []
  keeps : Keeps (fun _ => ()) s t
  others : ∀ u, u ≠ h → (t.tile u).waits = (s.tile u).waits
  commits : (t.tile h).xl.commits = (s.tile h).xl.commits
  metaWait : (t.tile h).xl.metaWait = (s.tile h).xl.metaWait
  poisonWait : (t.tile h).xl.poisonWait = (s.tile h).xl.poisonWait
  withdrawWait : (t.tile h).fs.withdrawWait = (s.tile h).fs.withdrawWait

/-- R80, R89: a write that is stored in a frame is answered, whatever its map line holds. -/
theorem writeStored_answers {y : Frame} {z : Haz} (hl : (s.tile h).fs.lineFlips = []) (hw : s.writeThrough h = false) (hs : s.Stands h r q) (h8 : h < 8)
    (hz : (s.tile h).txn.haz = [z]) (hid : z.req.id = r.id) (hy : y.st ≠ .invalid) (latNs : Nat) :
    Answers s ((s.placed h f y).writeStored h r f latNs) h f y q.tag := by
  have hp : Serves h (fun x => (x.med, x.xl, x.txn, x.head)) s (s.placed h f y) := serves_placed s h f y
  obtain ⟨p, hfs⟩ := State.fs_placed (s := s) h8 hy f
  generalize s.placed h f y = b at hp hfs ⊢
  have hm : Passes Tile.unmapped b (b.markFront h (b.frame h f).seg) := passes_markFront ..
  have heff : b.writeStored h r f latNs = if (b.markFront h (b.frame h f).seg).writeThrough h then
      (((b.markFront h (b.frame h f).seg).modHaz h r.id (fun g => { g with st := .through (((b.markFront h (b.frame h f).seg).frame h f).st == .writing) })).noteWait h).startCommit h f
      else ((b.markFront h (b.frame h f).seg).hazAnswer h r none false latNs).judgeThrottle h := by
    have hflip : (b.tile h).fs.lineFlips = [] := by rw [hfs]; exact hl
    unfold State.writeStored
    rw [State.clearFlips_clean hflip]
  generalize b.markFront h (b.frame h f).seg = c at hm heff
  have hcfs : (c.tile h).fs = (b.tile h).fs := congrArg Prod.fst (hm.keeps.tile h)
  have htxn : (c.tile h).txn = (s.tile h).txn := (congrArg (fun x => x.2.1) (hm.keeps.tile h)).trans (congrArg (fun x => x.2.2.1) hp.own)
  have hhead : (c.tile h).head = (s.tile h).head := (congrArg (fun x => x.2.2.1) (hm.keeps.tile h)).trans (congrArg (fun x => x.2.2.2) hp.own)
  have hwt : c.writeThrough h = false := by
    rw [State.writeThrough_congr (s := s) (hm.keeps.pop.trans hp.pop), hw] <;> rw [hcfs, hfs]
  rw [hwt, if_neg (by decide)] at heff
  obtain ⟨hans, hcont, hend⟩ := hazAnswer_spec (hs.congr (by rw [htxn]) (by rw [htxn]) hhead) h8 none false latNs
  have hj : Serves h (fun x => (x.content, x.txn.haz)) _ ((c.hazAnswer h r none false latNs).judgeThrottle h) := serves_judgeThrottle _ h
  have hcont' := hcont.trans (hj.map Prod.fst)
  have hresp : q.response none = none := ite_self _
  rw [hresp] at hans
  have hxl : ∀ {β : Type} (g : Xlate → β), g (c.tile h).xl = g (b.tile h).xl → g (((c.hazAnswer h r none false latNs).judgeThrottle h).tile h).xl = g (s.tile h).xl :=
    fun g hg => (congrArg g hcont'.xl).trans (hg.trans (congrArg (fun x => g x.2.1) hp.own))
  rw [heff]
  exact {
    answered := answered_of_prefix (hp.out.trans hm.out) hans hj.out
    frames := by rw [hcont'.fs, hcfs, hfs]
    haz := by
      rw [State.judgeThrottle_haz, hend, htxn, hz]
      simp [Txn.ended, hid]
    keeps := ((hp.map fun _ => ()).passes.keeps.trans (hm.keeps.map fun _ => ())).trans (hcont'.map fun _ => ()).passes.keeps
    others := fun u hu => by
      rw [Tile.waits, hcont'.others u hu]
      exact (hm.waits.tile u).trans (by rw [Tile.waits, hp.others u hu, Tile.waits])
    commits := hxl Xlate.commits (congrArg (fun x => x.2.2.2.1) (hm.keeps.tile h))
    metaWait := hxl Xlate.metaWait (congrArg (fun x => x.2.2.2.2.1) (hm.keeps.tile h))
    poisonWait := hxl Xlate.poisonWait (congrArg (fun x => x.2.2.2.2.2) (hm.keeps.tile h))
    withdrawWait := by rw [hcont'.fs, hcfs, hfs] }

/-! ### Settling afterwards (R88) -/

/-- Frame `f`, which holds `y` now, was not Writing-back, nor is it: what nothing waited for still waits for nothing. -/
theorem Answers.still {y : Frame} {tag : Nat} (k : Answers s t h f y tag) (hs : s.Still) (ha : s.alive h = true) (hf : (s.frame h f).st ≠ .writing) : t.Still := by
  refine hs.of_others k.keeps k.others ?_
  have hold := hs.tile h (State.mem_aliveTiles.2 ha)
  refine ⟨k.metaWait.trans hold.metaWait, k.poisonWait.trans hold.poisonWait, k.withdrawWait.trans hold.withdrawWait, ?_, fun c hc hdone => ?_⟩
  · intro z hz
    have hnil : z ∈ (t.tile h).txn.haz := hz
    rw [k.haz] at hnil
    cases hnil
  · have hcs : c ∈ (s.tile h).xl.commits := by
      rw [← k.commits]
      exact hc
    obtain ⟨g, hjob, hwrite⟩ := hold.commits c hcs hdone
    have hg : g ≠ f := by
      rintro rfl
      have hnone : (s.tile h).waits.writing g = none := if_neg hf
      rw [hnone] at hwrite
      cases hwrite
    refine ⟨g, hjob, ?_⟩
    have hframe : (t.tile h).waits.writing g = (s.tile h).waits.writing g := by
      change (agetD g _ (t.tile h).fs.frames).written = (agetD g _ (s.tile h).fs.frames).written
      rw [k.frames, agetD_aput_ne hg]
    rw [hframe]
    exact hwrite

theorem prefix_settleTiles {l : List Nat} (hl : ∀ u ∈ l, (s.tile u).waits.Still) (hm : s.md.mode ≠ .holdup) :
    s.outbox <+: (l.foldl State.settleTile s).outbox := by
  induction l generalizing s with
  | nil => exact List.prefix_rfl
  | cons u l ih =>
    have hk := keeps_judgeThrottle (g := Tile.store) s u
    have hout : s.outbox <+: (s.judgeThrottle u).outbox := (serves_judgeThrottle (g := fun _ => ()) s u).out
    rw [List.foldl_cons, State.settleTile_of_still (hl u (.head _)) hm]
    refine hout.trans (ih (fun v hv => ?_) (hk.mode hm))
    rw [hk.waits_of_store.tile v]
    exact hl v (.tail _ hv)

/-- Settling takes nothing back that went out. -/
theorem State.Still.settle_out (k : s.Still) : s.outbox <+: s.settle.outbox := by
  have hkeep := foldl_settleTile_keeps k.tile k.mode
  have hs := k.keep hkeep.waits_of_store
  rw [State.settle, State.jobsAdvance_of_nil hs.ranges, State.erasesAdvance_of_nil hs.replacing, State.ckptAdvance_of_none hs.ckpt,
    State.retireAdvance_of_nil hs.retire]
  exact prefix_settleTiles k.tile k.mode

/-! ### The release (R89, R146) -/

/-- R89: the one write that waits at a tile is performed again. -/
theorem State.releaseWrites_one {z : Haz} (hz : (s.tile h).txn.haz = [z]) (hst : z.st = .dirty) (latNs : Nat) :
    s.releaseWrites h latNs = ((s.perform h z.req {} 0 false).wakeLines h latNs).endWait h := by
  have hof : s.hazOf h z.req.id = some z := by
    rw [State.hazOf, hz]
    exact List.find?_cons_of_pos (beq_self_eq_true _)
  unfold State.releaseWrites
  rw [hz, List.filter_cons_of_pos (by simp [hst]), List.filter_nil, List.map_cons, List.map_nil, List.foldl_cons, List.foldl_nil, hof]
  simp [hst]

/-- R143: the frame that a full write of a line leaves of a Clean one. -/
def Frame.dirtied (x : Frame) (r : Req) (ep : Nat) : Frame := { x.write (r.dpa / 64 % 64) r with st := .dirty, epoch := ep }

/-- R142, R147: a full write into a Clean frame below the limit is stored there. -/
theorem State.perform_clean (ht : (s.tile h).fs.tagFlips = []) (hl : (s.tile h).fs.lineFlips = []) (ho : s.segTile (r.dpa / 4096) = h) (hk : r.kind = .wr)
    (hf : s.findFrame h (s.segLocal (r.dpa / 4096)) = some f) (hc : (s.frame h f).st = .clean) (hlim : s.overLimit h = false)
    (hseal : bitOf s.md.sealed h = false) (latNs : Nat) (idle : Bool) :
    s.perform h r {} latNs idle = (s.placed h f ((s.frame h f).dirtied r (s.nowEpoch h))).writeStored h r f latNs := by
  have hstore := State.writePerform_stores (r := r) (line := r.dpa / 64 % 64) ht hl hf (.inl ⟨hc, hlim⟩) latNs
  rw [Frame.taken, if_pos hc, hseal] at hstore
  rw [State.perform, if_neg (not_not.2 ho), if_neg (by simp [hk]), hstore]
  rfl

end

end Sys2Proof.Machine
end

section
/-! Waiting requests, time-outs and windows (02_host_ports.md R68; 03_transactions.md R77, R78, R89, R93). -/

namespace Sys2Proof.Machine

open Sys2Proof

section
variable {s : State} {h f : Nat} {z : Haz}

/-- R89: a write that waited at the dirty limit, no longer reached, is stored in its Clean frame, and the wait ends. -/
theorem dirtyWaitRelease_stores (ha : s.alive h = true) (h8 : h < 8) (hs : s.Still) (hz : (s.tile h).txn.haz = [z]) (hst : z.st = .dirty) (hk : z.req.kind = .wr)
    (hown : z.req.head = h) (htrk : (s.tile h).txn.tracker = [z.req]) (hout : (s.tile h).txn.outQ = []) (hndr : (s.head h).ndr = none)
    (ho : s.segTile (z.req.dpa / 4096) = h) (hf : s.findFrame h (s.segLocal (z.req.dpa / 4096)) = some f) (hc : (s.frame h f).st = .clean)
    (hlim : s.overLimit h = false) (hw : s.writeThrough h = false) (ht : (s.tile h).fs.tagFlips = []) (hl : (s.tile h).fs.lineFlips = [])
    (hseal : bitOf s.md.sealed h = false) (latNs : Nat) :
    answered s (s.dirtyWaitReleaseEff h latNs) h z.req.tag none false = true ∧
      (s.dirtyWaitReleaseEff h latNs).frame h f = (s.frame h f).dirtied z.req (s.nowEpoch h) ∧
      ((s.dirtyWaitReleaseEff h latNs).tile h).txn.haz = [] ∧ ((s.dirtyWaitReleaseEff h latNs).tile h).fs.waitOn = false := by
  have hstands : s.Stands h z.req z.req := by
    refine ⟨hown, ?_, hown, ?_, ?_⟩
    · rw [State.trk, htrk]
      exact List.find?_cons_of_pos (beq_self_eq_true _)
    · rw [State.queued, hout]
      rfl
    · simp [State.hasCredit, hk, hown, hndr]
  have hans := writeStored_answers (f := f) (y := (s.frame h f).dirtied z.req (s.nowEpoch h)) hl hw hstands h8 hz rfl FState.noConfusion 0
  rw [← State.perform_clean ht hl ho hk hf hc hlim hseal 0 false] at hans
  have hstill := hans.still hs ha (by rw [hc]; exact FState.noConfusion)
  rw [State.dirtyWaitReleaseEff, if_pos ha, State.releaseWrites_one hz hst]
  generalize s.perform h z.req {} 0 false = a at hans hstill ⊢
  rw [State.wakeLines_of_nil hans.haz]
  have hend : Keeps Tile.waits a (a.endWait h) := by
    rw [State.endWait_of_nil hans.haz]
    exact keeps_modTile
  have hframe : (a.endWait h).frame h f = a.frame h f := by
    rw [State.endWait_of_nil hans.haz, State.frame, State.modFs, State.tile_modTile_self _ _ h8]
    rfl
  have hhaz : ((a.endWait h).tile h).txn.haz = [] := (congrArg TileWaits.haz (hend.tile h)).trans hans.haz
  have hwait := State.waitOn_endWait hans.haz h8
  have houtbox : (a.endWait h).outbox = a.outbox := by
    rw [State.endWait_of_nil hans.haz]
    rfl
  have hbstill := hstill.keep hend
  generalize a.endWait h = b at hframe hhaz hwait houtbox hbstill ⊢
  have hsettle := State.settle_keeps hbstill
  refine ⟨answered_of_prefix List.prefix_rfl hans.answered (houtbox ▸ hbstill.settle_out), ?_, ?_, ?_⟩
  · rw [State.frame, hsettle.fs h]
    exact hframe.trans (State.frame_of_frames hans.frames)
  · exact (congrArg TileStore.haz (hsettle.tile h)).trans hhaz
  · rw [hsettle.fs h, hwait]

end

section
variable (s : State) (h latNs : Nat)

theorem exec_dirtyWaitRelease : exec (.dirtyWaitRelease h latNs) s = s.run (fun x => x.dirtyWaitReleaseEff h latNs) := rfl
theorem exec_hazardAdmit : exec (.hazardAdmit h latNs) s = s.run (fun x => x.hazardAdmitEff h latNs) := rfl
theorem exec_trackerTimeout (id : Nat) : exec (.trackerTimeout h id latNs) s = s.run (fun x => x.trackerTimeoutEff h id latNs) := rfl
theorem exec_qosWindowEnd : exec (.qosWindowEnd h) s = s.run (fun x => x.qosWindowEndEff h) := rfl

end

/-- Settles O33: waits and entries end where they stand; performing and settling begin no wait at a tile without requests and take no entry of a tracker. -/
theorem waitingRequests : Obligations.WaitingRequests := by
  unfold Obligations.WaitingRequests
  refine ⟨?_, ?_, ?_, ?_, ?_, ?_, ?_⟩
  · intro s h latNs ha h8 hz _
    exact completes_ran (exec_dirtyWaitRelease s h latNs) rfl ⟨dirtyWaitRelease_ends ha h8 hz latNs, rfl, rfl⟩
  · intro s h f latNs z ha h8 hwork _ hz hst hk hown htrk hout hndr ho hf hc hlim hw ht hl hseal
    obtain ⟨hans, hframe, hhaz, hwait⟩ := dirtyWaitRelease_stores ha h8 (State.still_of_noWork hwork) hz hst hk hown htrk hout hndr ho hf hc hlim hw ht hl hseal latNs
    refine completes_ran (exec_dirtyWaitRelease s h latNs) rfl ⟨congrArg Frame.st hframe, ?_, hans, hhaz, hwait⟩
    exact (congrArg (fun x : Frame => agetD (z.req.dpa / 64 % 64) 0 x.lines) hframe).trans (Frame.write_line_full _ _ _ hk).1
  · intro s h src latNs r ha h8 hroom hnext hany hid
    obtain ⟨z, hzid, hzst, htile⟩ := hazardAdmit_waits (latNs := latNs) ha h8 hroom hnext hid hany
    have hhaz := congrArg (fun v : FrontStore × Txn => v.2.haz) htile
    refine completes_ran (exec_hazardAdmit s h latNs) rfl
      ⟨?_, congrArg (fun v : FrontStore × Txn => v.2.hazWait) htile, congrArg (fun v : FrontStore × Txn => v.2.lastSrc) htile, congrArg Prod.fst htile⟩
    refine List.any_eq_true.2 ⟨z, ?_, by simp [hzid, hzst]⟩
    exact hhaz ▸ List.mem_append_right _ (List.mem_singleton_self z)
  · intro s h id latNs r h8 hm hr hk hown hd
    subst hown
    exact completes_ran (exec_trackerTimeout s r.head latNs id) rfl (trackerTimeout_read h8 hm hr hk hd latNs)
  · intro s h id latNs r h8 hm hr hk hown hid hn
    subst hown hid
    exact completes_ran (exec_trackerTimeout s r.head latNs r.id) rfl (trackerTimeout_write h8 hm hr hk hn latNs)
  · intro s h n sum h8 hn hacc
    have hspec := windowEnded_spec s h8 (sum * 256 / n)
    have heff := State.qosWindowEndEff_eq hacc
    rw [if_neg hn.ne'] at heff
    exact completes_ran (exec_qosWindowEnd s h) heff hspec
  · intro s h h8 hacc
    have hspec := windowEnded_spec s h8 (s.freeNow % 769)
    have heff := State.qosWindowEndEff_eq (sum := (s.head h).devLoadAcc.2) (n := 0) (by rw [← hacc])
    exact completes_ran (exec_qosWindowEnd s h) heff hspec

end Sys2Proof.Machine
end

section
/-! What refutes the statement on rings: a command that starts carries the PARAMS of its descriptor (14_command_rings.md R413, R417), and
the statement names an executing command with PARAMS 0 whatever its descriptor holds. -/

namespace Sys2Proof.Machine

open Sys2Proof

/-- R413: the command that a descriptor of ring `r` starts. -/
def State.started (s : State) (r : Nat) (d : Desc) : Exec :=
  { cid := d.cid, opcode := d.opcode, imm := bitOf d.flags 0, fence := bitOf d.flags 1, params := d.params, result := s.descCheck r d }

/-- R418: the next ring in ascending order after the one served last whose first fetched descriptor can start. -/
def State.nextToStart (s : State) : Option Nat := ((List.range 64).map (fun i => (s.porter.lastServed + 1 + i) % 64)).find? s.canStartCmd

theorem exec_commandStart (s : State) : exec .commandStart s = s.run (fun x => x.commandStartEff) := rfl

/-- R417, R418: the first fetched descriptor of the ring whose turn it is starts; nothing else of that ring changes. -/
theorem State.commandStartEff_ring {s : State} {r : Nat} {d : Desc} {l : List Desc} (hr : r < 64) (hm : s.md.ringsRun = true) (hx : s.executing < 256)
    (hn : s.nextToStart = some r) (hf : (s.ring r).fetched = d :: l) :
    s.commandStartEff.ring r = { s.ring r with fetched := l, execs := (s.ring r).execs ++ [s.started r d] } := by
  have hgo : ¬(!s.md.ringsRun || decide (256 ≤ s.executing)) = true := by simp [hm, hx]
  rw [State.nextToStart] at hn
  simp only [State.commandStartEff, if_neg hgo, hn, hf]
  exact State.ring_modRing_self s _ hr

/-- R413: what starts last on a ring carries its descriptor's PARAMS. -/
theorem State.commandStartEff_params {s : State} {r : Nat} {d : Desc} {l : List Desc} (hr : r < 64) (hm : s.md.ringsRun = true) (hx : s.executing < 256)
    (hn : s.nextToStart = some r) (hf : (s.ring r).fetched = d :: l) :
    (s.commandStartEff.ring r).execs.getLast?.map Exec.params = some d.params := by
  rw [State.commandStartEff_ring hr hm hx hn hf, List.getLast?_append_of_ne_nil _ (List.cons_ne_nil _ _)]
  rfl

/-- A TEMP_MEASURE with TILE_MASK 1, GROUPS 1 and CHAN_MASK 0, packed under R414. -/
def measureDesc : Desc := { opcode := 0x0800, cid := 3, flags := 0, rsv := 0, params := 0x101 }

/-- Serve with `measureDesc` fetched on ring 0, which runs, and nothing on another ring. -/
def measureFetched : State :=
  ({ md := { mode := .serve, resetsReleased := true } } : State).modRing 0
    (fun g => { g with state := .running, sqHead := 1, sqTail := 1, fetched := [measureDesc] })

/-- Refutes O49: in `measureFetched` every premise of the first clause on COMMAND_START holds, and the command starts with PARAMS 0x101. -/
theorem not_ringEngine : ¬ Obligations.RingEngine := by
  unfold Obligations.RingEngine
  rintro ⟨-, -, -, -, hstart, -⟩
  have hrun : measureFetched.md.ringsRun = true := by decide +kernel
  have hroom : measureFetched.executing < 256 := by decide +kernel
  have hfetched : (measureFetched.ring 0).fetched = [measureDesc] := by decide +kernel
  obtain ⟨t, ht, -, -, hexecs, -⟩ := hstart measureFetched 0 measureDesc (by decide) hrun hroom (by decide +kernel)
    (by rw [hfetched]; rfl) (by decide +kernel)
  have hparams := State.commandStartEff_params (by decide) hrun hroom (by decide +kernel) hfetched
  rw [exec_commandStart, State.run] at ht
  cases ht
  have hlast := congrArg (fun l => l.getLast?.map Exec.params) hexecs
  rw [List.getLast?_append_of_ne_nil _ (List.cons_ne_nil _ _)] at hlast
  exact absurd (hparams.symm.trans hlast) (by decide +kernel)

end Sys2Proof.Machine
end

section
/-! What Belfry's registers show, and the read that captures a turn number and an angle (04_belfry.md R102, R109). -/

namespace Sys2Proof.Machine

open Sys2Proof

/-! ### What a command leaves (`State.ran`) -/

theorem State.outbox_ran (s t : State) : (s.ran t).outbox = t.outbox := rfl

theorem State.getReg_ran (s t : State) (o : Nat) : (s.ran t).getReg o = t.getReg o := rfl

theorem State.regBit_ran (s t : State) (o b : Nat) : (s.ran t).regBit o b = t.regBit o b := rfl

theorem State.phaseByTrim_ran (s t : State) : (s.ran t).phaseByTrim = t.phaseByTrim := rfl

theorem State.resultOf_ran (s t : State) (pc : PortCmd) : (s.ran t).resultOf pc = t.resultOf pc := rfl

/-- The queue and what the part was built with stay whatever the effect, so that a frame is a matter of the parts alone. -/
theorem only_ran {l : List Part} {s t : State} (h : Part.all.all (fun p => l.contains p || p.same s (s.ran t)) = true) : Only l s (s.ran t) :=
  ⟨rfl, rfl, h⟩

/-! ### The words of the registers -/

theorem State.regView_belfryStatus (s : State) : s.regView Reg.BELFRY_STATUS = s.belfryStatus := rfl

theorem State.regView_turnHi (s : State) : s.regView Reg.BELFRY_TURN_HI = regWord [(3, 0, s.bel.turnHiSnap)] := rfl

theorem State.regView_angle (s : State) : s.regView Reg.BELFRY_ANGLE = s.belfryAngle := rfl

theorem State.regView_turnLo (s : State) : s.regView Reg.BELFRY_TURN_LO = loWord s.bel.turn := rfl

theorem testBit_b2n (b : Bool) : (b2n b).testBit 0 = b := by cases b <;> rfl

/-- R109: bit 27 of BELFRY_STATUS is the HOLDOVER flag. -/
theorem State.belfryStatus_holdover (s : State) : s.belfryStatus.getLsbD 27 = (s.bel.state == .free || s.bel.state == .holdover) := by
  simp [State.belfryStatus, regWord, withField_getLsbD, testBit_b2n, -BitVec.getLsbD_eq_getElem, -Nat.testBit_zero]

/-- R121: bit 26 of BELFRY_STATUS says that the schedule runs. -/
theorem State.belfryStatus_schedRuns (s : State) : s.belfryStatus.getLsbD 26 = s.schedRuns := by
  simp [State.belfryStatus, regWord, withField_getLsbD, testBit_b2n, -BitVec.getLsbD_eq_getElem, -Nat.testBit_zero]

/-- R102: the upper half of BELFRY_ANGLE is ANGLE_SNAP. -/
theorem State.fieldOf_belfryAngle (s : State) : fieldOf s.belfryAngle 31 16 = s.bel.angleSnap % 65536 := by
  simp [State.belfryAngle, regWord, fieldOf_withField_apart]

/-- A register whose lowest four bits alone are in use. -/
theorem regWord_low4 (n : Nat) : regWord [(3, 0, n)] = BitVec.ofNat 32 (n % 16) := by
  apply BitVec.eq_of_getLsbD_eq
  intro i hi
  rw [BitVec.getLsbD_ofNat, show (16 : Nat) = 2 ^ 4 from rfl, Nat.testBit_mod_two_pow]
  by_cases h : i < 4
  · simp [regWord, withField_getLsbD, hi, h, Nat.lt_succ_iff.1 h, -BitVec.getLsbD_eq_getElem]
  · simp [regWord, withField_getLsbD, h, show ¬ i ≤ 3 by omega, -BitVec.getLsbD_eq_getElem]

/-! ### The capture (R102) -/

theorem exec_belfryTurnLoRead (acc : Access) (s : State) : exec (.belfryTurnLoRead acc) s = s.run (fun x => x.belfryTurnLoReadEff acc) := rfl

/-- R102: the state after a read of BELFRY_TURN_LO, its answer apart. -/
def State.turnCaptured (s : State) : State := s.modBel (fun b => { b with turnHiSnap := b.turn / 2 ^ 32, angleSnap := s.localAngle })

theorem State.turnCaptured_outbox (s : State) : s.turnCaptured.outbox = s.outbox := State.modBel_outbox ..

/-- R431: a read of one word by a master that may read it puts out the register's word. -/
theorem State.belfryTurnLoReadEff_eq {s : State} {acc : Access} (h : s.takesRead acc Reg.BELFRY_TURN_LO = true) :
    s.belfryTurnLoReadEff acc = s.turnCaptured.emit (.regData acc.head Reg.BELFRY_TURN_LO (loWord s.bel.turn)) := by
  simp only [State.takesRead, Bool.and_eq_true, Bool.not_eq_true', Option.isNone_iff_eq_none] at h
  obtain ⟨⟨⟨⟨hbar, htile⟩, -⟩, hcap⟩, -⟩ := h
  have hrow : regDef? s.pop.tiles Reg.BELFRY_TURN_LO = some ⟨Reg.BELFRY_TURN_LO, .ro, 0, 0, 0, 0, .openAll, 0⟩ := rfl
  have hbefore : s.beforeRead Reg.BELFRY_TURN_LO Reg.BELFRY_TURN_LO = s := rfl
  have hafter : s.afterRead acc Reg.BELFRY_TURN_LO Reg.BELFRY_TURN_LO = s.turnCaptured := rfl
  have hword : s.readWord acc Reg.BELFRY_TURN_LO = (s.turnCaptured, loWord s.bel.turn) := by
    simp [State.readWord, hrow, State.accessOk, htile, hbefore, hcap, hafter, s.regView_turnLo]
  have hone : readWords Reg.BELFRY_TURN_LO 4 = [Reg.BELFRY_TURN_LO] := rfl
  simp [State.belfryTurnLoReadEff, State.busRead, hbar, hone, hword]

theorem only_modBel_emit (s : State) (f : Belfry → Belfry) (o : Out) : Only [.bel, .outbox] s (s.ran ((s.modBel f).emit o)) :=
  only_ran (by simp [Part.all, Part.same, State.ran])

theorem State.localAngle_lt (s : State) : s.localAngle < 65536 := Nat.mod_lt _ (by decide)

/-- Settles O8: the read captures both halves in one state, and the registers show what it captured. -/
theorem turnCapture : Obligations.TurnCapture := by
  unfold Obligations.TurnCapture
  intro s acc h
  refine completes_ran (exec_belfryTurnLoRead acc s) (State.belfryTurnLoReadEff_eq h) ⟨?_, ?_, ?_, only_modBel_emit s _ _⟩
  · simp only [Sends, State.outbox_ran, State.emit_outbox, s.turnCaptured_outbox]
  · rw [State.regView_turnHi, regWord_low4]
    rfl
  · rw [State.regView_angle, State.fieldOf_belfryAngle]
    exact Nat.mod_eq_of_lt s.localAngle_lt

end Sys2Proof.Machine
end

section
/-! The start of a sector, and what the Belfry state decides of it (04_belfry.md R109, R113, R115). -/

namespace Sys2Proof.Machine

open Sys2Proof

/-- Belfry and the tiles, registers, temperature requests and windows alone may be other than before, and the lock loop is in the same state. -/
structure SectorFrame (s t : State) : Prop where
  frame : t = { s with bel := t.bel, reg := t.reg, thm := t.thm, wins := t.wins, tiles := t.tiles }
  state : t.bel.state = s.bel.state

theorem SectorFrame.trans {a b c : State} (h : SectorFrame a b) (k : SectorFrame b c) : SectorFrame a c :=
  ⟨by rw [k.frame, h.frame], k.state.trans h.state⟩

/-- A `SectorFrame` after which the same sectors run on every tile: what the start of a sector brings with it, its own entry apart. -/
structure SectorWork (s t : State) : Prop extends SectorFrame s t where
  active : ∀ k, (t.tile k).bel.active = (s.tile k).bel.active

theorem SectorWork.refl (s : State) : SectorWork s s := ⟨⟨rfl, rfl⟩, fun _ => rfl⟩

theorem SectorWork.trans {a b c : State} (h : SectorWork a b) (k : SectorWork b c) : SectorWork a c :=
  ⟨h.toSectorFrame.trans k.toSectorFrame, fun u => (k.active u).trans (h.active u)⟩

theorem SectorWork.ite {s a b : State} (p : Prop) [Decidable p] (ha : SectorWork s a) (hb : SectorWork s b) : SectorWork s (if p then a else b) := by
  split
  · exact ha
  · exact hb

theorem SectorWork.foldl {β : Type} {f : State → β → State} (h : ∀ a b, SectorWork a (f a b)) (l : List β) (s : State) :
    SectorWork s (l.foldl f s) := by
  induction l generalizing s with
  | nil => exact .refl s
  | cons b l ih => exact (h s b).trans (ih _)

/-- A change of one tile that leaves its running sectors. -/
theorem sectorWork_modTile (s : State) (t : Nat) {f : Tile → Tile} (h : ∀ x, (f x).bel.active = x.bel.active) : SectorWork s (s.modTile t f) :=
  ⟨⟨rfl, rfl⟩, State.tile_modTile_keeps (fun x => x.bel.active) s t h⟩

theorem sectorWork_modBelT (s : State) (t : Nat) {f : BelTile → BelTile} (h : ∀ b, (f b).active = b.active) : SectorWork s (s.modBelT t f) :=
  sectorWork_modTile s t fun x => h x.bel

theorem sectorWork_cntAdd (k : Nat) (s : State) (t n d : Nat) : SectorWork s (State.cntAdd k s t n d) := by
  induction k generalizing s n d with
  | zero => exact .refl s
  | succ k ih =>
    have hset : SectorWork s (s.setCnt t n ((s.cntVal t n + d) % 2 ^ 36)) := sectorWork_modTile s t fun _ => rfl
    have hovf : SectorWork s ((s.setCnt t n ((s.cntVal t n + d) % 2 ^ 36)).perfOvf t n) := hset.trans ⟨⟨rfl, rfl⟩, fun _ => rfl⟩
    exact .ite _ hset (.ite _ (hovf.trans (ih ..)) hovf)

theorem sectorWork_perfEvent (s : State) (t no q d : Nat) : SectorWork s (s.perfEvent t no q d) :=
  .ite _ (.refl s) (.foldl (fun a _ => .ite _ (sectorWork_cntAdd ..) (.refl a)) _ _)

theorem sectorWork_convStart (s : State) (c : Nat) : SectorWork s (s.convStart c) := by
  unfold State.convStart
  split
  · exact .refl s
  · split
    · exact .refl s
    · exact ⟨⟨rfl, rfl⟩, fun _ => rfl⟩

theorem sectorWork_requestConv (s : State) (ids : List Nat) (prio : Nat) : SectorWork s (s.requestConv ids prio) := by
  unfold State.requestConv
  extract_lets s1
  have hs1 : SectorWork s s1 := ⟨⟨rfl, rfl⟩, fun _ => rfl⟩
  exact hs1.trans (.foldl (fun a c => .ite _ (sectorWork_convStart a c) (.refl a)) _ _)

theorem sectorWork_requestRounds (s : State) (t i : Nat) : SectorWork s (s.requestRounds t i) :=
  .ite _ (.refl s) ((sectorWork_requestConv ..).trans (sectorWork_modBelT _ t fun _ => rfl))

theorem sectorWork_winOpen (s : State) (w heads : Nat) : SectorWork s (s.winOpen w heads) := ⟨⟨rfl, rfl⟩, fun _ => rfl⟩

theorem sectorWork_setRefAngle (s : State) (a : Nat) : SectorWork s (s.setRefAngle a) := by
  unfold State.setRefAngle
  extract_lets s1
  have hs1 : SectorWork s s1 := ⟨⟨rfl, rfl⟩, fun _ => rfl⟩
  refine hs1.trans (.foldl (fun x t => ?_) _ _)
  exact sectorWork_modBelT x t fun _ => rfl

/-- R115: a sector that starts is entered among those that run, and what follows from it leaves them. -/
theorem sectorWork_sectorBegin (s : State) (t i : Nat) :
    SectorWork (s.modBelT t (fun b =>
      { b with active := setBit b.active i, ran := setBit b.ran i, spent := b.spent.filter (fun x => x.1 / 16 != i) })) (s.sectorBegin t i) := by
  unfold State.sectorBegin
  extract_lets e s0 s1
  have hs0 : SectorWork _ s0 := sectorWork_perfEvent ..
  have hs1 : SectorWork _ s1 := hs0.trans (.ite _ (sectorWork_requestRounds ..) (.refl s0))
  exact hs1.trans (.ite _ (.ite _ (.refl s1) (sectorWork_winOpen ..)) (.refl s1))

/-- R115: the entry whose sector starts runs. -/
theorem State.sectorBegin_active (s : State) {t : Nat} (i : Nat) (h : t < 8) : bitOf ((s.sectorBegin t i).tile t).bel.active i = true := by
  rw [(sectorWork_sectorBegin s t i).active, State.modBelT, State.tile_modTile_self _ _ h]
  exact bitOf_setBit_self ..

theorem exec_sectorStart (tile i : Nat) (s : State) : exec (.sectorStart tile i) s = s.run (fun x => x.sectorStartEff tile i) := rfl

/-- R115: an entry that can start runs afterwards, and the lock loop is in the state it was in. -/
theorem State.sectorStartEff_spec {s : State} {tile i : Nat} (hi : i < 64) (ht : tile < 8) (hc : s.canStart tile i = true) :
    bitOf ((s.sectorStartEff tile i).tile tile).bel.active i = true ∧ SectorFrame s (s.sectorStartEff tile i) := by
  have heff : s.sectorStartEff tile i = (s.setTileAngle tile (s.schedEntry tile i).start).sectorBegin tile i := by
    simp [State.sectorStartEff, hi, hc]
  have hangle : SectorWork s (s.setTileAngle tile (s.schedEntry tile i).start) := sectorWork_setRefAngle ..
  have hentered (a : State) (f : BelTile → BelTile) : SectorFrame a (a.modBelT tile f) := ⟨rfl, rfl⟩
  have hbegin := sectorWork_sectorBegin (s.setTileAngle tile (s.schedEntry tile i).start) tile i
  rw [heff]
  exact ⟨State.sectorBegin_active _ i ht, hangle.toSectorFrame.trans ((hentered _ _).trans hbegin.toSectorFrame)⟩

theorem only_sector (s : State) {a t : State} (ha : a = { s with bel := a.bel }) (h : SectorFrame a t) :
    Only [.bel, .tiles, .thm, .wins, .reg] s (a.ran t) := by
  rw [h.frame, ha]
  exact ⟨rfl, rfl, by simp [Part.all, Part.same, State.ran]⟩

/-- R109, R115: whether an entry can start does not depend on the Belfry state. -/
theorem State.canStart_belState (s : State) (x : BelState) (tile i : Nat) :
    (s.modBel (fun b => { b with state := x })).canStart tile i = s.canStart tile i := rfl

/-- Settles O7: the flag and the schedule's bit are bits of BELFRY_STATUS, and no premise of the start of a sector reads the Belfry state. -/
theorem holdoverFlag : Obligations.HoldoverFlag := by
  unfold Obligations.HoldoverFlag
  refine ⟨fun s => ?_, fun s x => ?_, fun s x tile i hi ht hc => ?_⟩
  · rw [State.regView_belfryStatus, State.belfryStatus_holdover]
  · rw [State.regView_belfryStatus, State.regView_belfryStatus, State.belfryStatus_schedRuns, State.belfryStatus_schedRuns]
    rfl
  · obtain ⟨hactive, hframe⟩ := State.sectorStartEff_spec hi ht ((s.canStart_belState x tile i).trans hc)
    exact completes_ran (exec_sectorStart tile i _) rfl ⟨hactive, hframe.state, only_sector s rfl hframe⟩

end Sys2Proof.Machine
end

section
/-! PHASE_IN and its two claimants: the trim of the internal oscillator and Belfry (01_architecture.md R27; 04_belfry.md R127 to R129). -/

namespace Sys2Proof.Machine

open Sys2Proof

/-! ### BELFRY_TRIM_CTL (R127, R436) -/

/-- 15_registers.md R445: the row of BELFRY_TRIM_CTL. -/
def trimCtlRow : RegDef := ⟨Reg.BELFRY_TRIM_CTL, .rwm, 0x4000, 0xFC00, 0, 0, .w, 0xFC00⟩

theorem regDef?_trimCtl (n : Nat) : regDef? n Reg.BELFRY_TRIM_CTL = some trimCtlRow := rfl

/-- Words with the same bits in a field have the same field. -/
theorem fieldOf_congr {v w : W32} {hi lo : Nat} (h : ∀ i, lo ≤ i → i ≤ hi → v.getLsbD i = w.getLsbD i) :
    fieldOf v hi lo = fieldOf w hi lo := by
  apply Nat.eq_of_testBit_eq
  intro j
  rw [fieldOf_testBit, fieldOf_testBit]
  by_cases hj : j < hi + 1 - lo
  · rw [h (lo + j) (by omega) (by omega)]
  · simp [hj]

/-- R436: a masked write with both bits of TRIM_SRC selected gives TRIM_SRC its data. -/
theorem trimSrc_apply (old data : W32) : fieldOf (trimCtlRow.apply old (data ||| 0xC0000000#32)) 15 14 = fieldOf data 15 14 := by
  refine fieldOf_congr fun i hlo hhi => ?_
  have hi : i = 14 ∨ i = 15 := by omega
  rcases hi with rfl | rfl <;> simp [trimCtlRow, RegDef.apply]

/-- R127: so PHASE_IN is the source afterwards where the data says so. -/
theorem State.trimSrc_written (s : State) {data : W32} (hsrc : fieldOf data 15 14 = 2) :
    (s.setReg Reg.BELFRY_TRIM_CTL (trimCtlRow.apply (s.getReg Reg.BELFRY_TRIM_CTL) (data ||| 0xC0000000#32))).fld Reg.BELFRY_TRIM_CTL 15 14 = 2 := by
  rw [State.fld, State.getReg_setReg_self, trimSrc_apply, hsrc]

/-- R128: such a write selects TRIM_SRC. -/
theorem trimSrc_selected (data : W32) : fieldOf (data ||| 0xC0000000#32) 31 30 = 3 := by
  have hfield : fieldOf (data ||| 0xC0000000#32) 31 30 = fieldOf (0xC0000000#32) 31 30 := by
    refine fieldOf_congr fun i hlo hhi => ?_
    have hi : i = 30 ∨ i = 31 := by omega
    rcases hi with rfl | rfl <;> simp
  exact hfield

/-- R439: a write of BELFRY_TRIM_CTL that is answered and allowed is refused for its claim or gives the register its word. -/
theorem State.busWrite_trimCtl {s : State} {acc : Access} {w : W32} (hbar : s.barAnswers acc Reg.BELFRY_TRIM_CTL = true)
    (hmode : s.md.mode ≠ .holdup) (hok : s.accessOk acc trimCtlRow Reg.BELFRY_TRIM_CTL (some w) = true) :
    s.busWrite acc Reg.BELFRY_TRIM_CTL 4 0 15 w.toNat =
      match s.claimRefused trimCtlRow Reg.BELFRY_TRIM_CTL w with
      | some (c, t, i) => s.cfgConflict c t i
      | none => (s.setReg Reg.BELFRY_TRIM_CTL (trimCtlRow.apply (s.getReg Reg.BELFRY_TRIM_CTL) w)).trimWritten w := by
  have hreset : s.inTileReset Reg.BELFRY_TRIM_CTL = false := rfl
  have hgate : s.gateHolds trimCtlRow Reg.BELFRY_TRIM_CTL w = false := rfl
  have hkey : ¬(15 % 16 = 0 ∨ trimCtlRow.key = Reg.FABRIC_WINDOW ∨ trimCtlRow.key = Reg.CARAVAN_WINDOW) := by decide
  have halign : Reg.BELFRY_TRIM_CTL % 4 = 0 := by decide
  simp only [State.busWrite, hbar, halign, State.writeWord, regDef?_trimCtl, hkey, BitVec.ofNat_toNat, BitVec.setWidth_eq, hok, hmode, hreset, hgate,
    Bool.not_true, Bool.false_eq_true, or_self, if_false, and_self, if_true, Nat.reduceMod, ne_eq, not_true_eq_false]
  rfl

/-- R27, R127: a write that sets TRIM_SRC to PHASE_IN is refused where Belfry alone owns the pin, and only there. -/
theorem State.claimRefused_phaseIn (s : State) {data : W32} (hsrc : fieldOf data 15 14 = 2) :
    s.claimRefused trimCtlRow Reg.BELFRY_TRIM_CTL (data ||| 0xC0000000#32) =
      if s.phaseByTrim = false ∧ s.phaseByBelfry = true then some (1, 0, 0) else none := by
  have hkey : trimCtlRow.key = Reg.BELFRY_TRIM_CTL := rfl
  simp [State.claimRefused, hkey, trimSrc_apply, hsrc]

/-- R128: a write that sets TRIM_SRC to PHASE_IN starts a trim. -/
theorem State.trimWritten_phaseIn {s : State} {data : W32} (hsrc : s.fld Reg.BELFRY_TRIM_CTL 15 14 = 2) :
    s.trimWritten (data ||| 0xC0000000#32) = s.trimBegin := by
  simp [State.trimWritten, trimSrc_selected, hsrc]

/-- R27: a refused claim sets CFG_CONFLICT. -/
theorem State.cfgConflict_flag (s : State) (cls tile idx : Nat) : (s.cfgConflict cls tile idx).regBit Reg.CFG_STATUS 0 = true := by
  simp [State.cfgConflict, State.latchOnly, State.regBit, State.fld, State.setFld, fieldOf_withField_apart]

/-- R27: beside CFG_STATUS a refused claim leaves every register. -/
theorem State.getReg_cfgConflict {o : Nat} (h : o ≠ Reg.CFG_STATUS) (s : State) (cls tile idx : Nat) :
    (s.cfgConflict cls tile idx).getReg o = s.getReg o := by
  simp [State.cfgConflict, State.latchOnly, State.getReg_setFld_ne h]

theorem State.cfgConflict_frame (s : State) (cls tile idx : Nat) :
    s.cfgConflict cls tile idx = { s with reg := (s.cfgConflict cls tile idx).reg } := rfl

theorem only_reg (s t : State) (h : t = { s with reg := t.reg }) : Only [.reg] s (s.ran t) := by
  rw [h]
  exact ⟨rfl, rfl, by simp [Part.all, Part.same, State.ran]⟩

theorem exec_trimStart (acc : Access) (data : W32) (s : State) : exec (.trimStart acc data) s = s.run (fun x => x.trimStartEff acc data) := rfl

/-! ### BELFRY_SET_REF (R129) -/

section
variable {s : State} {pc : PortCmd} {op : Nat} {priv : Bool}

/-- An accepted command shows the result it is given, whatever else changed before, as long as Porter stood as the command's start left it. -/
theorem State.resultOf_finish_of_porter (h : s.accepts pc op priv = true) {t : State} (hp : t.porter = (s.ensureExec pc op).porter) (r : CmdResult) :
    (t.finish pc r).resultOf pc = some r := by
  simp only [State.accepts, Bool.and_eq_true, decide_eq_true_eq] at h
  obtain ⟨⟨⟨⟨-, hring⟩, -⟩, -⟩, hcid⟩ := h
  have hfin : (t.finish pc r).porter = ((s.ensureExec pc op).finish pc r).porter := by simp only [State.finish, State.modRing, hp]
  rw [(sameExecs_of_porter hfin).resultOf, s.resultOf_finish pc op r hring hcid]

theorem State.ringsRun_of_accepts (h : s.accepts pc op priv = true) : s.md.ringsRun = true := by
  simp only [State.accepts, Bool.and_eq_true] at h
  obtain ⟨⟨⟨⟨hrun, -⟩, -⟩, -⟩, -⟩ := h
  exact hrun

end

theorem State.phaseByTrim_ensureExec (s : State) (pc : PortCmd) (op : Nat) : (s.ensureExec pc op).phaseByTrim = s.phaseByTrim := by
  simp [State.phaseByTrim, State.fld, State.getReg]

/-- R27, R129: PHASE_IN asked for while trimming owns it is refused with RESOURCE_BUSY and DETAIL 1. -/
theorem State.belfrySetRefEff_busy {s : State} {pc : PortCmd} {period : Nat} (h : s.accepts pc 0x0500 true = true)
    (hp : 500 ≤ period ∧ period ≤ 1000000) (htrim : s.phaseByTrim = true) (offset stagger domain turnSet : Nat) (valid persist : Bool) :
    s.belfrySetRefEff pc 1 period offset stagger domain turnSet valid persist =
      (s.ensureExec pc 0x0500).finish pc { status := Status.resourceBusy.code, detail := 1 } := by
  have hrun : s.md.ringOrOperating = true := State.ringsRun_of_accepts h
  rw [State.belfrySetRefEff, hrun, State.porterRun_accepted s pc 0x0500 true _ h]
  simp [State.checkFields, firstBad, hp, State.phaseByTrim_ensureExec, htrim, State.fail]

theorem State.setSource_eq (s : State) (src : Nat) : ∃ b, b.source = src ∧ s.setSource src = { s with bel := b } := by
  unfold State.setSource
  split
  case isTrue h => exact ⟨s.bel, h.symm, rfl⟩
  case isFalse h => exact ⟨_, by split <;> rfl, rfl⟩

/-- R103, R129: the FABRIC source asked for with the offsets in force is taken at once, and nothing but Belfry and the command changes. -/
theorem State.belfrySetRefEff_fabric {s : State} {pc : PortCmd} {period : Nat} (h : s.accepts pc 0x0500 true = true)
    (hp : 500 ≤ period ∧ period ≤ 1000000) (domain turnSet : Nat) (valid : Bool) : ∃ b l, b.source = 2 ∧
      s.belfrySetRefEff pc 2 period s.bel.offset s.bel.stagger domain turnSet valid false =
        ({ s.ensureExec pc 0x0500 with bel := b } : State).ok pc l := by
  have hrun : s.md.ringOrOperating = true := State.ringsRun_of_accepts h
  obtain ⟨b, hb, hset⟩ := (s.ensureExec pc 0x0500).setSource_eq 2
  rw [State.belfrySetRefEff, hrun, State.porterRun_accepted s pc 0x0500 true _ h]
  simp only [State.checkFields, firstBad, hp, hset, State.ensureExec_bel, Nat.reduceLT, Nat.reduceBEq, decide_true, and_self, if_true, Bool.false_and,
    Bool.false_eq_true, if_false]
  refine ⟨_, _, ?_, rfl⟩
  exact hb

theorem exec_belfrySetRef (pc : PortCmd) (source period offset stagger domain turnSet : Nat) (valid persist : Bool) (s : State) :
    exec (.belfrySetRef pc source period offset stagger domain turnSet valid persist) s =
      s.run (fun x => x.belfrySetRefEff pc source period offset stagger domain turnSet valid persist) := rfl

/-- Settles O10: a claim of PHASE_IN, by the register or by the command, succeeds unless the other side owns the pin. -/
theorem phaseInOwner : Obligations.PhaseInOwner := by
  unfold Obligations.PhaseInOwner
  refine ⟨fun s acc data hw hsrc => ?_, fun s acc data d hbar hmode hrow hok hsrc hbel htrim => ?_,
    fun s pc period offset stagger domain turnSet valid persist h _ hlo hhi htrim => ?_,
    fun s pc period domain turnSet valid h _ hlo hhi htrim => ?_⟩
  · simp only [State.takesWrite, regDef?_trimCtl, Bool.and_eq_true, Bool.not_eq_true', bne_iff_ne, ne_eq, Option.isNone_iff_eq_none] at hw
    obtain ⟨⟨⟨hbar, hmode⟩, -⟩, ⟨⟨-, hok⟩, -⟩, hclaim⟩ := hw
    have heff := State.busWrite_trimCtl hbar hmode hok
    rw [hclaim] at heff
    have hsrc' := s.trimSrc_written hsrc
    refine completes_ran (exec_trimStart acc data s) (heff.trans (State.trimWritten_phaseIn hsrc')) ⟨?_, ?_, rfl, only_ran ?_⟩
    · rw [State.getReg_ran]
      exact hsrc'
    · rw [State.phaseByTrim_ran]
      exact beq_of_eq hsrc'
    · simp [Part.all, Part.same, State.ran, State.trimBegin]
  · obtain rfl : trimCtlRow = d := Option.some.inj hrow
    have heff := State.busWrite_trimCtl hbar hmode hok
    rw [s.claimRefused_phaseIn hsrc, if_pos ⟨htrim, hbel⟩] at heff
    refine completes_ran (exec_trimStart acc data s) heff ⟨?_, ?_, only_reg s _ (s.cfgConflict_frame 1 0 0)⟩
    · rw [State.getReg_ran, State.getReg_cfgConflict (by decide)]
    · rw [State.regBit_ran, State.cfgConflict_flag]
  · have heff := State.belfrySetRefEff_busy h ⟨hlo, hhi⟩ htrim offset stagger domain turnSet valid persist
    refine completes_ran (exec_belfrySetRef ..) heff ⟨?_, only_ran (by simp [Part.all, Part.same, State.ran])⟩
    rw [State.resultOf_ran, State.resultOf_finish_of_porter h rfl]
  · obtain ⟨b, l, hb, heff⟩ := State.belfrySetRefEff_fabric h ⟨hlo, hhi⟩ domain turnSet valid
    refine completes_ran (exec_belfrySetRef ..) heff ⟨hb, ?_, ?_, only_ran (by simp [Part.all, Part.same, State.ran])⟩
    · rw [State.resultOf_ran]
      exact congrArg (Option.map CmdResult.status) (State.resultOf_finish_of_porter h rfl (succeeded l))
    · rw [State.phaseByTrim_ran]
      exact State.phaseByTrim_ensureExec s pc 0x0500 ▸ htrim

end Sys2Proof.Machine
end

section
/-! What refutes the statements on marks and on sectors: a pulse that is no mark starts the count of turn marks of a trim anew (04_belfry.md R104,
R128), and the end of a REFRESH sector suspends the clears of calibration blocks (R119; 06_medium.md R195). -/

namespace Sys2Proof.Machine

open Sys2Proof

/-- A part that a frame does not list is the same in both states. -/
theorem Part.same_of_only {l : List Part} {s t : State} (h : Only l s t) {p : Part} (hp : l.contains p = false) : p.same s t = true := by
  obtain ⟨-, -, hall⟩ := h
  have hmem : p ∈ Part.all := by cases p <;> decide
  have hor := List.all_eq_true.1 hall p hmem
  rwa [hp, Bool.false_or] at hor

/-! ### Pulses that are no marks (R104, R128) -/

theorem exec_phaseInMark (w angle ns : Nat) (s : State) : exec (.phaseInMark w angle ns) s = s.run (fun x => x.phaseInMarkEff w angle ns) := rfl

/-- R104, R128: a pulse too short for a mark restarts the count of the turn marks of a trim. -/
theorem State.phaseInMarkEff_short_bel {s : State} {w : Nat} (hr : s.phaseRuns = true) (ho : s.phaseByBelfry = true) (hw : w < 64) (angle ns : Nat) :
    (s.phaseInMarkEff w angle ns).bel = { s.bel with trimMarks := 0 } := by
  have hturn : ¬ 320 ≤ w / 4 * 4 := by omega
  have hsub : ¬ 64 ≤ w / 4 * 4 := by omega
  simp [State.phaseInMarkEff, hr, ho, hturn, hsub]

/-- Belfry uses PHASE_IN, and a trim against PHASE_IN that was ended has left one turn mark counted. -/
def trimLeftOver : State := { md := { mode := .serve, resetsReleased := true }, bel := { source := 1, trimMarks := 1 } }

/-- Refutes O54: in `trimLeftOver` a pulse of 0 ns sets MARK_ERR and changes the count of turn marks, where its clause has Belfry as it was. -/
theorem not_phaseLock : ¬ Obligations.PhaseLock := by
  unfold Obligations.PhaseLock
  rintro ⟨-, hshort, -⟩
  obtain ⟨t, ht, -, honly⟩ := hshort trimLeftOver 0 0 0 rfl rfl (.inl (by decide))
  have hbel : t.bel = trimLeftOver.bel := of_decide_eq_true (Part.same_of_only honly (p := .bel) rfl)
  have hmarks := State.phaseInMarkEff_short_bel (s := trimLeftOver) (w := 0) rfl rfl (by decide) 0 0
  rw [exec_phaseInMark, State.run] at ht
  cases ht
  exact absurd (congrArg Belfry.trimMarks (hmarks.symm.trans hbel)) (by decide)

/-! ### The end of a REFRESH sector (R119) -/

theorem exec_sectorEnd (tile i us : Nat) (s : State) : exec (.sectorEnd tile i us) s = s.run (fun x => x.sectorEndEff tile i us) := rfl

/-- Where the end of a sector is said to leave what goes out, its effect puts nothing out. -/
theorem State.sectorEndEff_outbox_of_only {s t : State} {tile i us : Nat} {l : List Part} (ht : exec (.sectorEnd tile i us) s = .next t) (h : Only l s t)
    (hl : l.contains .outbox = false) : (s.sectorEndEff tile i us).outbox = s.outbox := by
  rw [exec_sectorEnd, State.run] at ht
  cases ht
  exact of_decide_eq_true (Part.same_of_only h hl)

/-- Serve with entry 0 of tile 0, a REFRESH sector of channel 0, running while block 0 of that channel, a calibration block, is cleared. -/
def refreshClear : State :=
  (({ md := { mode := .serve, resetsReleased := true } } : State).modBelT 0
    (fun b => { b with sched := [{ valid := true, cls := 2, chans := 1, budget := 1 }], active := 1 })).modCh 0 0
    (fun c => { c with ops := [{ loc := 0, job := .clear }], calBlocks := [(0, 0, 1)] })

/-- R119: at the end of the sector the SUSPEND of the clear goes out to channel 0. -/
theorem sectorEndEff_refreshClear_outbox :
    (refreshClear.sectorEndEff 0 0 0).outbox = [.media 0 0 0 (CaCmd.suspend 0).words] := by decide +kernel

/-- Refutes O55: the REFRESH sector of `refreshClear` ends with a SUSPEND on the CA bus, where its clause has tiles and Belfry alone change. -/
theorem not_turnsAndSchedules : ¬ Obligations.TurnsAndSchedules := by
  unfold Obligations.TurnsAndSchedules
  rintro ⟨-, -, -, -, -, hend, -⟩
  obtain ⟨t, ht, -, -, -, -, honly⟩ :=
    hend refreshClear 0 0 0 (by decide) (by decide) (by decide +kernel) (by decide +kernel) (by decide +kernel)
  have hquiet := State.sectorEndEff_outbox_of_only ht honly rfl
  rw [sectorEndEff_refreshClear_outbox, show refreshClear.outbox = [] from rfl] at hquiet
  exact List.cons_ne_nil _ _ hquiet

end Sys2Proof.Machine
end

section
/-! How Porter runs the commands of the Front Store (05_front_store.md R154 to R162; 14_command_rings.md R409, R416 to R418). -/

namespace Sys2Proof.Machine

open Sys2Proof

theorem exec_fsFlushAll (pc : PortCmd) (s : State) : exec (.fsFlushAll pc) s = s.run (fun x => x.fsFlushAllEff pc) := rfl

theorem exec_fsFlushRange (pc : PortCmd) (ld : Nat) (pkg : Bool) (start length : Nat) (s : State) :
    exec (.fsFlushRange pc ld pkg start length) s = s.run (fun x => x.fsFlushRangeEff pc ld pkg start length) := rfl

theorem exec_fsInvalidateRange (pc : PortCmd) (ld : Nat) (pkg : Bool) (start length : Nat) (s : State) :
    exec (.fsInvalidateRange pc ld pkg start length) s = s.run (fun x => x.fsInvalidateRangeEff pc ld pkg start length) := rfl

theorem exec_fsDisable (pc : PortCmd) (s : State) : exec (.fsDisable pc) s = s.run (fun x => x.fsDisableEff pc) := rfl

theorem exec_fsDrainComplete (tile : Nat) (s : State) : exec (.fsDrainComplete tile) s = s.run (fun x => x.fsDrainCompleteEff tile) := rfl

theorem exec_fsEnable (pc : PortCmd) (s : State) : exec (.fsEnable pc) s = s.run (fun x => x.fsEnableEff pc) := rfl

theorem exec_fsWaysApply (tile : Nat) (s : State) : exec (.fsWaysApply tile) s = s.run (fun x => x.fsWaysApplyEff tile) := rfl

theorem exec_fsSetWays (pc : PortCmd) (ways : Nat) (persist : Bool) (s : State) :
    exec (.fsSetWays pc ways persist) s = s.run (fun x => x.fsSetWaysEff pc ways persist) := rfl

theorem exec_fsSetDirtyLimit (pc : PortCmd) (tileMask cap : Nat) (persist : Bool) (s : State) :
    exec (.fsSetDirtyLimit pc tileMask cap persist) s = s.run (fun x => x.fsSetDirtyLimitEff pc tileMask cap persist) := rfl

/-! ### A command that starts (R417) -/

/-- The start of a command touches Porter alone. -/
theorem State.ensureExec_frame (s : State) (pc : PortCmd) (op : Nat) : s.ensureExec pc op = { s with porter := (s.ensureExec pc op).porter } := by
  unfold State.ensureExec
  split <;> rfl

section
variable {s : State} {pc : PortCmd} {op : Nat} {priv : Bool}

/-- On a privileged ring a command is accepted whether or not it asks for one. -/
theorem State.accepts_of_ringPriv (h : s.accepts pc op false = true) (hp : s.ringPriv pc.ring = true) : s.accepts pc op priv = true := by
  simpa [State.accepts, hp] using h

/-- A command that has started and has no result is under way. -/
theorem State.underWay_of_porter (h : s.accepts pc op priv = true) {t : State} (hp : t.porter = (s.ensureExec pc op).porter) :
    t.underWay pc = true := by
  simp only [State.accepts, Bool.and_eq_true, decide_eq_true_eq, List.all_eq_true, bne_iff_ne] at h
  obtain ⟨⟨⟨⟨-, hring⟩, -⟩, -⟩, hcid⟩ := h
  have hold : (s.ring pc.ring).execs.find? (fun e => e.cid == pc.cid) = none := by simpa using hcid
  have hnew : (s.ring pc.ring).execs.any (fun e => e.cid == pc.cid && e.opcode == op && e.result.isNone) = false := by
    simp only [List.any_eq_false, Bool.and_eq_true, beq_iff_eq]
    exact fun e he hsame => hcid e he hsame.1.1
  have hexecs : (t.ring pc.ring).execs = (s.ring pc.ring).execs ++ [{ cid := pc.cid, opcode := op }] := by
    rw [sameExecs_of_porter hp, State.ensureExec, hnew, if_neg Bool.false_ne_true, State.ring_modRing_self _ _ hring]
  rw [State.underWay, hexecs, List.find?_append, hold]
  simp

end

/-- R415: a command that executes alone on its ring shows the result it is given. -/
theorem State.resultOf_finish_alone {s : State} {pc : PortCmd} {e : Exec} (hr : pc.ring < 64) (hexecs : (s.ring pc.ring).execs = [e])
    (hcid : e.cid = pc.cid) (hres : e.result = none) (r : CmdResult) : (s.finish pc r).resultOf pc = some r := by
  have hfind := find?_setResult (c := pc.cid) (r := r) (l := []) (fun _ he => absurd he List.not_mem_nil) e hcid hres
  rw [State.resultOf, State.finish, State.ring_modRing_self _ _ hr, hexecs]
  exact congrArg (fun x : Option Exec => x.bind Exec.result) hfind

theorem State.ring_modJobs (s : State) (f : Jobs → Jobs) (r : Nat) : (s.modJobs f).ring r = s.ring r := rfl

/-! ### What a command leaves (`State.ran`) -/

theorem State.pop_ran (s t : State) : (s.ran t).pop = s.pop := rfl

theorem State.tile_ran (s t : State) (tile : Nat) : (s.ran t).tile tile = t.tile tile := rfl

theorem only_porter_jobs_tiles (s t : State) (h : t = { s with porter := t.porter, jobs := t.jobs, tiles := t.tiles }) :
    Only [.porter, .jobs, .tiles] s (s.ran t) := by
  rw [h]
  exact ⟨rfl, rfl, by simp [Part.all, Part.same, State.ran]⟩

theorem only_flush (s t : State) (h : t = { s with porter := t.porter, jobs := t.jobs, tiles := t.tiles, outbox := t.outbox }) :
    Only [.porter, .jobs, .tiles, .outbox] s (s.ran t) := by
  rw [h]
  exact ⟨rfl, rfl, by simp [Part.all, Part.same, State.ran]⟩

/-- A command that ends at once with a result touches Porter alone. -/
theorem completes_finish {c : Instr} {s : State} {F : State → State} {pc : PortCmd} {op : Nat} {priv : Bool} {r : CmdResult}
    (hexec : exec c s = s.run F) (ha : s.accepts pc op priv = true) (heff : F s = (s.ensureExec pc op).finish pc r) :
    Completes c s (fun t => t.resultOf pc = some r ∧ Only [.porter] s t) :=
  completes_ran hexec heff ⟨State.resultOf_finish_of_porter ha rfl r, only_ran (by simp [Part.all, Part.same, State.ran])⟩

end Sys2Proof.Machine
end

section
/-! How a range command of the Front Store goes from its start to its first wait or its end, where no other runs (05_front_store.md R144, R154,
R155, R162). -/

namespace Sys2Proof.Machine

open Sys2Proof

/-- The job as it starts: its size is the number of its segments. -/
def RangeJob.begun (j : RangeJob) : RangeJob := { j with size := j.left.length }

/-- The job is the one that runs. -/
def State.withJob (s : State) (j : RangeJob) : State := s.modJobs (fun x => { x with ranges := [j] })

/-- No job runs. -/
def State.jobless (s : State) : State := s.modJobs (fun x => { x with ranges := [] })

theorem State.jobless_withJob {s : State} (h : s.jobs.ranges = []) (j : RangeJob) : (s.withJob j).jobless = s :=
  congrArg (fun l => s.modJobs (fun x => { x with ranges := l })) h.symm

/-! ### The start of a job -/

theorem State.jobStart_eq {s : State} (h : s.jobs.ranges = []) (j : RangeJob) : s.jobStart j = (s.withJob j.begun).jobsAdvance := by
  rw [State.jobStart, State.withJob, State.modJobs, State.modJobs, h]
  rfl

section
variable {s b : State} {j k : RangeJob}

/-- A job that has nothing left after its first pass ends at once. -/
theorem State.jobStart_ends (h : s.jobs.ranges = []) (hpass : (s.withJob j.begun).jobPass j.begun = (b, k)) (hover : b.jobOver k = true)
    (hb : b.jobs.ranges = [j.begun]) : s.jobStart j = b.jobless.jobFinish k := by
  have hnone : b.modJobs (fun x => { x with ranges := x.ranges.filter (· != j.begun) }) = b.jobless := by
    rw [State.jobless, State.modJobs, State.modJobs, hb]
    simp
  rw [State.jobStart_eq h, State.jobsAdvance, State.withJob, State.modJobs_jobs, List.foldl_cons, List.foldl_nil, ← State.withJob, hpass]
  exact (if_pos hover).trans (by rw [hnone])

/-- A job that has something left after its first pass waits. -/
theorem State.jobStart_waits (h : s.jobs.ranges = []) (hpass : (s.withJob j.begun).jobPass j.begun = (b, k)) (hover : b.jobOver k = false)
    (hb : b.jobs.ranges = [j.begun]) : s.jobStart j = b.withJob k := by
  have hone : b.modJobs (fun x => { x with ranges := x.ranges.map (fun i => if i = j.begun then k else i) }) = b.withJob k := by
    rw [State.withJob, State.modJobs, State.modJobs, hb]
    simp
  rw [State.jobStart_eq h, State.jobsAdvance, State.withJob, State.modJobs_jobs, List.foldl_cons, List.foldl_nil, ← State.withJob, hpass]
  exact (if_neg (by simp [hover])).trans hone

end

/-! ### One pass -/

theorem State.jobPass_of_kind (s : State) {j : RangeJob} (h : j.kind ≤ 1) : s.jobPass j = s.jobWalked j := by
  have hblocks : (decide (j.kind = 3) || decide (j.kind = 6)) = false := by
    simp only [Bool.or_eq_false_iff, decide_eq_false_iff_not]
    omega
  unfold State.jobPass
  simp only [hblocks, Bool.false_and, Bool.false_eq_true, if_false]
  rfl

/-- In turn or not, one segment is one step. -/
theorem jobWalk_single {j : RangeJob} {e : Nat × Nat × Nat} (h : j.left = [e]) (f : State × RangeJob → Nat × Nat × Nat → State × RangeJob)
    (a : State × RangeJob) : jobWalk j f a = f a e := by
  unfold jobWalk
  rw [h]
  split
  · rw [inTurnPass]
    split
    · rfl
    · rw [List.append_nil]
  · rfl

theorem jobWalk_nil {j : RangeJob} (h : j.left = []) (f : State × RangeJob → Nat × Nat × Nat → State × RangeJob) (a : State × RangeJob) :
    jobWalk j f a = a := by
  unfold jobWalk
  rw [h]
  exact ite_self a

/-! ### Flushes (R154) -/

section
variable {s : State} {j : RangeJob}

/-- A flush that finds nothing dirty ends at once. -/
theorem State.jobStart_flush_nil (h : s.jobs.ranges = []) (hk : j.kind = 0) (hl : j.left = []) (hb : j.blks = []) (hd : j.durable = [])
    (hr : j.kept = []) : s.jobStart j = s.finish { ring := j.ring, cid := j.cid } (succeeded [(32, j.a), (32, 0)]) := by
  have hpass : (s.withJob j.begun).jobPass j.begun = (s.withJob j.begun, { j.begun with left := [] }) := by
    rw [State.jobPass_of_kind _ (by simp [RangeJob.begun, hk]), State.jobWalked, if_pos (show j.begun.kind = 0 from hk),
      jobWalk_nil (show j.begun.left = [] from hl)]
  have hover : (s.withJob j.begun).jobOver { j.begun with left := [] } = true := by simp [State.jobOver, RangeJob.begun, hk, hb, hd]
  rw [State.jobStart_ends h hpass hover rfl, State.jobless_withJob h, State.jobFinish]
  simp [RangeJob.begun, RangeJob.results, hk, hr, total, succeeded]

/-- A flush whose one frame is Dirty starts that frame's commit and waits for it. -/
theorem State.jobStart_flush_one {tile f n : Nat} (h : s.jobs.ranges = []) (hk : j.kind = 0) (hl : j.left = [(tile, (s.frame tile f).seg, n)])
    (hfind : s.findFrame tile (s.frame tile f).seg = some f) (hst : (s.frame tile f).st = .dirty)
    (hjobs : ((s.withJob j.begun).startCommit tile f).jobs = (s.withJob j.begun).jobs) :
    ∃ k, s.jobStart j = ((s.withJob j.begun).startCommit tile f).withJob k := by
  obtain ⟨m, hstep⟩ : ∃ m, State.flushSeg (s.withJob j.begun, { j.begun with left := [] }) (tile, (s.frame tile f).seg, n) =
      ((s.withJob j.begun).startCommit tile f, { j.begun with left := [(tile, (s.frame tile f).seg, m)] }) := by
    have hfind' : (s.withJob j.begun).findFrame tile (s.frame tile f).seg = some f := hfind
    have hst' : ((s.withJob j.begun).frame tile f).st = .dirty := hst
    simp only [State.flushSeg, hfind', hst']
    exact ⟨_, rfl⟩
  have hpass : (s.withJob j.begun).jobPass j.begun =
      ((s.withJob j.begun).startCommit tile f, { j.begun with left := [(tile, (s.frame tile f).seg, m)] }) := by
    rw [State.jobPass_of_kind _ (by simp [RangeJob.begun, hk]), State.jobWalked, if_pos (show j.begun.kind = 0 from hk),
      jobWalk_single (show j.begun.left = _ from hl), hstep]
  exact ⟨_, State.jobStart_waits h hpass rfl (congrArg Jobs.ranges hjobs)⟩

/-- An invalidation of one Clean frame ends at once, the frame Invalid. -/
theorem State.jobStart_inval_one {tile f : Nat} (h : s.jobs.ranges = []) (hk : j.kind = 1) (hl : j.left = [(tile, (s.frame tile f).seg, 0)])
    (hb : j.blks = []) (hd : j.durable = []) (hr : j.kept = [])
    (hfind : s.findFrame tile (s.frame tile f).seg = some f) (hst : (s.frame tile f).st = .clean) :
    s.jobStart j = (s.setFrame tile f { s.frame tile f with st := .invalid }).finish { ring := j.ring, cid := j.cid }
      (succeeded [(32, j.a), (32, j.b + 1), (32, 0)]) := by
  have hstep : State.invalSeg (s.withJob j.begun, { j.begun with left := [] }) (tile, (s.frame tile f).seg, 0) =
      ((s.withJob j.begun).setFrame tile f { s.frame tile f with st := .invalid }, { j.begun with left := [], b := j.b + 1 }) := by
    have hfind' : (s.withJob j.begun).findFrame tile (s.frame tile f).seg = some f := hfind
    have hst' : ((s.withJob j.begun).frame tile f).st = .clean := hst
    simp only [State.invalSeg, hfind', hst']
    rfl
  have hpass : (s.withJob j.begun).jobPass j.begun =
      ((s.withJob j.begun).setFrame tile f { s.frame tile f with st := .invalid }, { j.begun with left := [], b := j.b + 1 }) := by
    have hk0 : ¬ j.begun.kind = 0 := by simp [RangeJob.begun, hk]
    rw [State.jobPass_of_kind _ (by simp [RangeJob.begun, hk]), State.jobWalked, if_neg hk0, if_pos (show j.begun.kind = 1 from hk),
      jobWalk_single (show j.begun.left = _ from hl), hstep]
  have hover : ((s.withJob j.begun).setFrame tile f { s.frame tile f with st := .invalid }).jobOver { j.begun with left := [], b := j.b + 1 } = true := by
    simp [State.jobOver, RangeJob.begun, hk, hb, hd]
  have hback : ((s.withJob j.begun).setFrame tile f { s.frame tile f with st := .invalid }).jobless =
      s.setFrame tile f { s.frame tile f with st := .invalid } :=
    congrArg (fun x : State => x.setFrame tile f { s.frame tile f with st := .invalid }) (State.jobless_withJob h j.begun)
  rw [State.jobStart_ends h hpass hover rfl, hback, State.jobFinish]
  simp [RangeJob.begun, RangeJob.results, hk, hr, total, succeeded]

end

end Sys2Proof.Machine
end

section
/-! The start of a commit (01_architecture.md R24; 05_front_store.md R143, R150; 07_translation.md R212 to R214): it changes tiles and puts a
program out, and leaves the Front Store and the jobs of the commits of every tile. -/

namespace Sys2Proof.Machine

open Sys2Proof

/-- Only tiles and what goes out are other than before, and `g` reads every tile as before. -/
structure Drives {α : Type} (g : Tile → α) (s t : State) : Prop where
  frame : t = { s with tiles := t.tiles, outbox := t.outbox }
  tile : ∀ u, g (t.tile u) = g (s.tile u)

section
variable {α : Type} {g : Tile → α} {s t a b c : State}

theorem Drives.refl (s : State) : Drives g s s := ⟨rfl, fun _ => rfl⟩

theorem Drives.trans (h : Drives g a b) (k : Drives g b c) : Drives g a c :=
  ⟨by rw [k.frame, h.frame], fun u => (k.tile u).trans (h.tile u)⟩

theorem Drives.ite {p : Prop} [Decidable p] (ha : Drives g s a) (hb : Drives g s b) : Drives g s (if p then a else b) := by
  split
  · exact ha
  · exact hb

theorem drives_modTile (s : State) (u : Nat) {f : Tile → Tile} (h : ∀ x, g (f x) = g x := by intro; rfl) : Drives g s (s.modTile u f) :=
  ⟨rfl, State.tile_modTile_keeps g s u h⟩

theorem drives_emit (s : State) (o : Out) : Drives g s (s.emit o) := ⟨rfl, fun _ => rfl⟩

end

/-- What placing and starting a program leaves of a tile: its Front Store, and the segment and job of each commit. -/
def Tile.committed (x : Tile) : FrontStore × List (Nat × Job) := (x.fs, x.xl.commits.map fun c => (c.seg, c.job))

/-! ### Placing a program (R212 to R214) -/

section
variable (s : State) (t p f : Nat)

theorem drives_modBlk (b : Nat) (k : Blk → Blk) : Drives Tile.committed s (s.modBlk t b k) := drives_modTile s t

theorem drives_modFront (k : Front → Front) : Drives Tile.committed s (s.modFront t p f k) := drives_modTile s t

theorem drives_jappendNow (r : JRec) : Drives Tile.committed s (s.jappendNow t r) := by
  have hjournal : Drives Tile.committed s (s.modXl t (fun x => { x with jpos := x.jpos + 1, jtail := x.jtail ++ [r] })) := drives_modTile s t
  have happend : Drives Tile.committed s (s.jappend t r) := by
    unfold State.jappend
    dsimp only
    split
    · exact hjournal.trans (drives_modBlk ..)
    · exact hjournal
  exact happend.trans (drives_modTile _ t)

theorem drives_nameNext : Drives Tile.committed s (s.nameNext t p f) := by
  unfold State.nameNext
  dsimp only
  refine .ite (.refl s) ?_
  split
  · exact .refl s
  · exact ((drives_modFront ..).trans (drives_modBlk ..)).trans (drives_jappendNow ..)

theorem drives_forceClose : Drives Tile.committed s (s.forceClose t p f) := by
  unfold State.forceClose
  split
  · exact .ite ((drives_modFront ..).trans (drives_modBlk ..)) (.refl s)
  · exact .refl s

theorem drives_openPage : Drives Tile.committed s (s.openPage t p f).1 := by
  have hclose := drives_forceClose s t p f
  unfold State.openPage
  dsimp only
  split
  · exact hclose
  · split
    · split
      · exact ((hclose.trans (drives_modFront ..)).trans (drives_modBlk ..)).trans (drives_nameNext ..)
      · exact hclose
    · exact hclose.trans (drives_nameNext ..)

theorem drives_takePage (loc : Nat) : Drives Tile.committed s (s.takePage t p f loc) :=
  .ite (((drives_modBlk ..).trans (drives_modBlk ..)).trans (drives_modFront ..)) (drives_modBlk ..)

theorem drives_placeOn (l : List Nat) : Drives Tile.committed s (State.placeOn t f l s).1 := by
  induction l generalizing s with
  | nil => exact .refl s
  | cons p l ih =>
    have hopen := drives_openPage s t p f
    rw [State.placeOn]
    split
    · split
      next s1 loc heq =>
        rw [heq] at hopen
        exact hopen
      next s1 heq =>
        rw [heq] at hopen
        exact hopen.trans (ih s1)
    · exact ih s

theorem drives_place : Drives Tile.committed s (s.place t f).1 := by
  have hon := drives_placeOn s t f (s.planeOrder t)
  unfold State.place
  split
  next s1 p loc heq =>
    rw [heq] at hon
    exact (hon.trans (drives_takePage ..)).trans (drives_modTile _ t)
  next s1 heq =>
    rw [heq] at hon
    exact hon

/-! ### Starting it (R24 step 1) -/

theorem drives_startProgram (loc : Nat) (job : Job) (pg : Page) : Drives Tile.committed s (s.startProgram t loc job pg) := by
  refine .ite (.refl s) ?_
  dsimp only
  have hop (a : State) (k : Channel → Channel) : Drives Tile.committed a (a.modCh t (locCh loc) k) := drives_modTile a t
  have hissue (a : State) : Drives Tile.committed a
      (a.caIssue t (locCh loc) (locRank loc) (.program (locPlane loc) true (loc / 256 % 2 ^ 14) (loc % 256))) := (hop ..).trans (drives_emit ..)
  exact (((hop ..).trans (drives_modTile _ t)).trans (hissue _)).trans (drives_emit ..)

theorem drives_launchCommit (c : Commit) : Drives Tile.committed s (s.launchCommit t c) := by
  have hplace := drives_place s t c.job.frontier
  unfold State.launchCommit
  split
  next s1 loc heq =>
    rw [heq] at hplace
    have hmod (a : State) (pg : Page) : Drives Tile.committed a (a.modCommit t c.seg (fun d => { d with loc := some loc, page := pg })) :=
      drives_modTile a t fun x => by
        refine congrArg (Prod.mk x.fs) ?_
        rw [List.map_map]
        refine List.map_congr_left fun d _ => ?_
        dsimp only [Function.comp_apply]
        split <;> rfl
    exact (hplace.trans (drives_startProgram ..)).trans (hmod ..)
  next s1 heq =>
    rw [heq] at hplace
    exact hplace

end

/-! ### The commit of a frame (R143 row 6) -/

/-- A frame as its commit starts: Writing-back with no line dirty. -/
def Frame.writingBack (x : Frame) : Frame := { x with st := .writing, dirty := 0, fillMask := 0, commitFill := false }

/-- The commit of a frame all of whose lines are VALID. -/
def State.hostCommit (s : State) (t f : Nat) : Commit :=
  let x := (s.frame t f).writingBack
  { job := .host f, seg := x.seg, page := { kind := .host, subject := x.seg, key := s.slotOf t x.seg, lines := s.frameLines t x } }

/-- Frame `f` is Writing-back and its commit stands last, its program not yet placed. -/
def State.commitListed (s : State) (t f : Nat) : State :=
  (s.setFrame t f (s.frame t f).writingBack).modXl t (fun x => { x with commits := x.commits ++ [s.hostCommit t f] })

/-- The job of a segment's commit is what `Tile.committed` tells of it. -/
theorem State.commitOf_job (s : State) (t l : Nat) :
    (s.commitOf t l).map Commit.job = ((s.tile t).committed.2.find? (fun e => e.1 == l)).map Prod.snd := by
  rw [State.commitOf, Tile.committed, List.find?_map, Option.map_map]
  rfl

section
variable {s : State} {tile f : Nat}

/-- A commit that can start, of a frame all of whose lines are VALID, is listed and its program placed. -/
theorem State.startCommit_launches (h : s.commitFree tile f = true) (hv : (s.frame tile f).valid = allLines) :
    s.startCommit tile f = (s.commitListed tile f).launchCommit tile (s.hostCommit tile f) := by
  simp only [State.commitFree, Bool.and_eq_true, beq_iff_eq, List.isEmpty_iff, Bool.not_eq_true'] at h
  obtain ⟨⟨⟨⟨⟨⟨⟨⟨-, -⟩, hst⟩, -⟩, hflips⟩, hlock⟩, hroom⟩, hnone⟩, hseal⟩ := h
  have hin (i : Nat) : s.flipsIn tile f i = 0 := by
    rw [State.flipsIn, hflips]
    exact patSyms_zero
  have hbit (i : Nat) : bitOf 0 i = false := by simp [bitOf]
  have hback : s.writeBack tile f 0 = (s.commitListed tile f).launchCommit tile (s.hostCommit tile f) := by
    simp only [State.writeBack, hin, hbit, Nat.not_lt_zero, decide_false, Bool.or_self, Bool.and_false, List.filter_false, List.foldl_nil,
      State.clearFlips_clean hflips, if_false]
    rfl
  have hmem : (s.frame tile f).seg ∉ (s.tile tile).txn.locks := by simpa using hlock
  rw [State.startCommit, State.startCommitBad]
  simp [hst, hmem, hroom, hnone, hseal, hv, hback]

/-- The commit of frame `f` runs, its lines and every other frame are as before, and nothing but tiles and what goes out has changed. -/
structure CommitRuns (s t : State) (tile f : Nat) : Prop where
  frame : t = { s with tiles := t.tiles, outbox := t.outbox }
  committing : t.committing tile f = true
  lines : (t.frame tile f).lines = (s.frame tile f).lines
  others : ∀ g, g ≠ f → t.frame tile g = s.frame tile g

theorem State.startCommit_runs (h : s.commitFree tile f = true) (hv : (s.frame tile f).valid = allLines) :
    CommitRuns s (s.startCommit tile f) tile f := by
  have hd := drives_launchCommit (s.commitListed tile f) tile (s.hostCommit tile f)
  rw [← State.startCommit_launches h hv] at hd
  simp only [State.commitFree, Bool.and_eq_true, decide_eq_true_eq] at h
  obtain ⟨⟨⟨⟨⟨⟨⟨⟨h8, -⟩, -⟩, -⟩, -⟩, -⟩, -⟩, hnone⟩, -⟩ := h
  have hlisted : (s.commitListed tile f).tile tile = { ((s.setFrame tile f (s.frame tile f).writingBack).tile tile) with
      xl := { (s.tile tile).xl with commits := (s.tile tile).xl.commits ++ [s.hostCommit tile f] } } := by
    rw [State.commitListed, State.modXl, State.tile_modTile_self _ _ h8, State.setFrame, State.modFs, State.tile_modTile_self _ _ h8]
  have hframes : ((s.startCommit tile f).tile tile).fs.frames = aput f (s.frame tile f).writingBack (s.tile tile).fs.frames := by
    have hput : ((s.setFrame tile f (s.frame tile f).writingBack).tile tile).fs.frames =
        aput f (s.frame tile f).writingBack (s.tile tile).fs.frames := by
      rw [State.setFrame, State.modFs, State.tile_modTile_self _ _ h8]
      rfl
    refine (congrArg (fun x => x.1.frames) (hd.tile tile)).trans ?_
    rw [hlisted]
    exact hput
  have hself : (s.startCommit tile f).frame tile f = (s.frame tile f).writingBack := State.frame_of_frames hframes
  have hjob : ((s.startCommit tile f).commitOf tile (s.frame tile f).seg).map Commit.job = some (.host f) := by
    have hold : (s.tile tile).xl.commits.find? (fun c => c.seg == (s.frame tile f).seg) = none := by simpa [State.commitOf] using hnone
    rw [State.commitOf_job, hd.tile tile, ← State.commitOf_job, State.commitOf, hlisted, List.find?_append, hold]
    simp [State.hostCommit, Frame.writingBack]
  refine ⟨hd.frame, ?_, by rw [hself]; rfl, fun g hg => State.frame_of_frames_ne hframes hg⟩
  obtain ⟨c, hc, hcjob⟩ := Option.map_eq_some_iff.1 hjob
  rw [State.committing, hself]
  simp [Frame.writingBack, hc, hcjob]

end

end Sys2Proof.Machine
end

section
/-! What disabling, draining and enabling the Front Store do to a tile (05_front_store.md R157 to R161). -/

namespace Sys2Proof.Machine

open Sys2Proof

/-! ### Passes over the tiles in service -/

/-- A pass whose step at `u` applies `φ` to tile `u`, and whose other steps leave it, applies `φ` where it comes by. -/
theorem tile_foldl {F : State → Nat → State} {φ : Tile → Tile} {u : Nat} (hown : ∀ a, (F a u).tile u = φ (a.tile u))
    (hother : ∀ a t, t ≠ u → (F a t).tile u = a.tile u) (hφ : ∀ x, φ (φ x) = φ x) (l : List Nat) (s : State) :
    (l.foldl F s).tile u = if u ∈ l then φ (s.tile u) else s.tile u := by
  induction l generalizing s with
  | nil => rfl
  | cons t l ih =>
    rw [List.foldl_cons, ih]
    by_cases htu : t = u
    · subst htu
      simp [hown, hφ]
    · simp [hother s t htu, Ne.symm htu]

theorem State.fs_modFs_self {s : State} {t : Nat} (h : t < 8) (f : FrontStore → FrontStore) :
    (s.modFs t f).tile t = { s.tile t with fs := f (s.tile t).fs } :=
  State.tile_modTile_self s _ h

theorem State.mem_aliveTiles_of_contains {s : State} {t : Nat} (h : s.aliveTiles.contains t = true) : t ∈ s.aliveTiles := by simpa using h

/-! ### FS_DISABLE (R157) -/

/-- R149: frames that count as dirty, in age order, as the Front Store of their tile lists them. -/
def FrontStore.dirtyOrder (g : FrontStore) : List Nat :=
  let d := g.frames.filter (fun e => e.2.countsDirty)
  ((List.range 8).reverse.map (fun a => (d.filter (fun e => (g.epoch + 8 - e.2.epoch % 8) % 8 == a)).map (·.1))).flatten

theorem State.dirtyOrder_eq (s : State) (t : Nat) : s.dirtyOrder t = (s.tile t).fs.dirtyOrder := rfl

/-- R157: a tile's Front Store that starts to drain. -/
def FrontStore.draining (g : FrontStore) : FrontStore :=
  { g with mode := .draining, drain := g.dirtyOrder, drained := g.dirtyOrder.length, through := 0 }

/-- R157: a tile starts to drain. -/
def State.drainTile (s : State) (t : Nat) : State :=
  s.modFs t (fun g => { g with mode := .draining, drain := s.dirtyOrder t, drained := (s.dirtyOrder t).length, through := 0 })

theorem State.drainTile_tile (s : State) {tile : Nat} (h8 : tile < 8) :
    (s.drainTile tile).tile tile = { s.tile tile with fs := (s.tile tile).fs.draining } := by
  rw [State.drainTile, State.fs_modFs_self h8, State.dirtyOrder_eq]
  rfl

/-- R157: every tile in service starts to drain. -/
def State.drainAll (s : State) : State := s.aliveTiles.foldl State.drainTile s

theorem State.drainAll_frame (s : State) : s.drainAll = { s with tiles := s.drainAll.tiles } := by
  rw [State.drainAll]
  generalize s.aliveTiles = l
  induction l generalizing s with
  | nil => rfl
  | cons t l ih =>
    rw [List.foldl_cons, ih]
    rfl

theorem State.drainAll_tile {s : State} {tile : Nat} (ht : s.aliveTiles.contains tile = true) (h8 : tile < 8) :
    s.drainAll.tile tile = { s.tile tile with fs := (s.tile tile).fs.draining } := by
  refine (tile_foldl (φ := fun x => { x with fs := x.fs.draining }) (fun a => a.drainTile_tile h8)
    (fun a t hne => State.tile_modTile_ne (Ne.symm hne) ..) (fun _ => rfl) _ s).trans ?_
  exact if_pos (State.mem_aliveTiles_of_contains ht)

/-! ### FS_DRAIN_COMPLETE (R157 step 3) -/

/-- A tile has drained: it is DISABLED without its Clean frames, and FS_DISABLED is recorded. -/
def State.drainedAt (s : State) (tile : Nat) : State :=
  (s.modFs tile (fun g => { g with mode := .disabled, drain := [], frames := g.frames.filter (fun e => e.2.st != .clean) })).event
    Gb.FS_DISABLED tile [tile, (s.tile tile).fs.drained, (s.tile tile).fs.through]

section
variable {s : State} {tile : Nat}

theorem State.drainedAt_log (s : State) (tile : Nat) :
    OnlyLog (s.modFs tile (fun g => { g with mode := .disabled, drain := [], frames := g.frames.filter (fun e => e.2.st != .clean) })) (s.drainedAt tile) :=
  onlyLog_event ..

theorem State.drainedAt_execs (s : State) (tile : Nat) : SameExecs s (s.drainedAt tile) := sameExecs_event (s.modFs tile _) _ _ _

theorem State.drainedAt_tile (h8 : tile < 8) : (s.drainedAt tile).tile tile = { s.tile tile with
    fs := { (s.tile tile).fs with mode := .disabled, drain := [], frames := (s.tile tile).fs.frames.filter (fun e => e.2.st != .clean) } } := by
  rw [State.tile, (s.drainedAt_log tile).tiles]
  exact State.fs_modFs_self h8 _

theorem State.drainedAt_aliveTiles (s : State) (tile : Nat) : (s.drainedAt tile).aliveTiles = s.aliveTiles :=
  State.aliveTiles_congr (s.drainedAt_log tile).pop (by rw [(s.drainedAt_log tile).md]; rfl)

/-- R157: FS_DISABLE, where it runs, ends with its counts. -/
def State.disableDone (s : State) : State :=
  match s.jobs.fsDisable with
  | some (r, c) => (s.modJobs (fun j => { j with fsDisable := none })).ok { ring := r, cid := c } s.drainResults
  | none => s

theorem State.disableDone_frame (s : State) : s.disableDone = { s with jobs := s.disableDone.jobs, porter := s.disableDone.porter } := by
  unfold State.disableDone
  split <;> rfl

theorem State.disableDone_of_some {r c : Nat} (h : s.jobs.fsDisable = some (r, c)) :
    s.disableDone = (s.modJobs (fun j => { j with fsDisable := none })).ok { ring := r, cid := c } s.drainResults := by
  rw [State.disableDone, h]

/-- A tile in service none of whose frames to drain counts as dirty has drained; with the last one FS_DISABLE ends. -/
theorem State.fsDrainCompleteEff_drained (ht : s.alive tile = true) (hm : (s.tile tile).fs.mode = .draining)
    (hd : (s.tile tile).fs.drain.any (fun d => (s.frame tile d).countsDirty) = false) :
    s.fsDrainCompleteEff tile =
      if (s.drainedAt tile).aliveTiles.all (fun t => ((s.drainedAt tile).tile t).fs.mode == .disabled) then (s.drainedAt tile).disableDone
      else s.drainedAt tile := by
  have hgo : (!s.alive tile || (s.tile tile).fs.mode != .draining || (s.tile tile).fs.drain.any (fun d => (s.frame tile d).countsDirty)) = false := by
    rw [ht, hm, hd]
    rfl
  exact if_neg (by rw [hgo]; exact Bool.false_ne_true)

/-- Whether or not FS_DISABLE ends with it, the drain of a tile leaves what `drainedAt` does but for the jobs and Porter. -/
theorem State.fsDrainCompleteEff_frame (ht : s.alive tile = true) (hm : (s.tile tile).fs.mode = .draining)
    (hd : (s.tile tile).fs.drain.any (fun d => (s.frame tile d).countsDirty) = false) :
    ∃ j p, s.fsDrainCompleteEff tile = { s.drainedAt tile with jobs := j, porter := p } := by
  rw [State.fsDrainCompleteEff_drained ht hm hd]
  split
  · exact ⟨_, _, State.disableDone_frame _⟩
  · exact ⟨_, _, rfl⟩

/-- The drain of the only tile in service ends FS_DISABLE with its counts. -/
theorem State.fsDrainCompleteEff_last {r c : Nat} (hl : s.aliveTiles = [tile]) (h8 : tile < 8) (hm : (s.tile tile).fs.mode = .draining)
    (hd : (s.tile tile).fs.drain.any (fun d => (s.frame tile d).countsDirty) = false) (hj : s.jobs.fsDisable = some (r, c)) :
    s.fsDrainCompleteEff tile = ((s.drainedAt tile).modJobs (fun j => { j with fsDisable := none })).ok { ring := r, cid := c }
      [(32, (s.tile tile).fs.drained), (32, (s.tile tile).fs.through)] := by
  have ht : s.alive tile = true := State.mem_aliveTiles.1 (by simp [hl])
  have hlast : (s.drainedAt tile).aliveTiles = [tile] := (s.drainedAt_aliveTiles tile).trans hl
  have hres : (s.drainedAt tile).drainResults = [(32, (s.tile tile).fs.drained), (32, (s.tile tile).fs.through)] := by
    simp [State.drainResults, hlast, State.drainedAt_tile h8, total]
  have hjobs : (s.drainedAt tile).jobs.fsDisable = some (r, c) := by rw [(s.drainedAt_log tile).jobs]; exact hj
  rw [State.fsDrainCompleteEff_drained ht hm hd, hlast, if_pos (by simp [State.drainedAt_tile h8]), State.disableDone_of_some hjobs, hres]

/-- A frame that is its tile's only one goes with the Clean frames, if it is one. -/
theorem agetD_filter_unclean {f : Nat} {x : Frame} {l : List (Nat × Frame)} (h : aget f l = some x) (hl : l.length = 1) :
    agetD f { st := .invalid, seg := 0 } (l.filter (fun e => e.2.st != .clean)) = if x.st = .clean then { st := .invalid, seg := 0 } else x := by
  obtain ⟨⟨k, y⟩, rfl⟩ := List.length_eq_one_iff.1 hl
  obtain ⟨rfl, rfl⟩ : k = f ∧ y = x := by simpa [aget] using h
  by_cases hy : y.st = .clean <;> simp [hy, agetD, aget]

end

theorem only_drain {s a t : State} (ha : a = { s with tiles := a.tiles }) (k : OnlyLog a t) {j : Jobs} {p : Porter} :
    Only (.jobs :: .tiles :: logParts) s (s.ran { t with jobs := j, porter := p }) := by
  rw [OnlyLog] at k
  rw [k, ha]
  exact ⟨rfl, rfl, by simp [Part.all, Part.same, State.ran]⟩

/-! ### FS_ENABLE and FS_WAYS_APPLY (R159) -/

/-- R159: a tile's Front Store as it is enabled. -/
def FrontStore.enable (g : FrontStore) : FrontStore := { g with mode := .enabled, drain := [], waysWait := false }

/-- R159: every tile in service is enabled. -/
def State.enableAll (s : State) : State := s.aliveTiles.foldl State.fsEnableTile s

/-- Nothing but tiles and what recording an event changes is other than before. -/
def TilesLog (s t : State) : Prop :=
  t = { s with tiles := t.tiles, gb := t.gb, reg := t.reg, porter := t.porter, outbox := t.outbox }

theorem TilesLog.trans {a b c : State} (h : TilesLog a b) (k : TilesLog b c) : TilesLog a c := by
  unfold TilesLog at *
  rw [k, h]

theorem OnlyLog.tilesLog {s a t : State} (ha : a = { s with tiles := a.tiles }) (k : OnlyLog a t) : TilesLog s t := by
  unfold OnlyLog at k
  unfold TilesLog
  rw [k, ha]

theorem TilesLog.jobs {s t : State} (h : TilesLog s t) : t.jobs = s.jobs := by rw [h]

theorem State.ensureExec_tilesLog (s : State) (pc : PortCmd) (op : Nat) : TilesLog s (s.ensureExec pc op) := by
  rw [State.ensureExec_frame]
  rfl

theorem tilesLog_finish (s : State) (pc : PortCmd) (r : CmdResult) : TilesLog s (s.finish pc r) := rfl

theorem TilesLog.only {s t : State} (h : TilesLog s t) : Only (.tiles :: logParts) s (s.ran t) := by
  rw [h]
  exact ⟨rfl, rfl, by simp [Part.all, Part.same, State.ran]⟩

theorem State.enableAll_frame (s : State) : TilesLog s s.enableAll := by
  rw [State.enableAll]
  generalize s.aliveTiles = l
  induction l generalizing s with
  | nil => rfl
  | cons t l ih => exact (OnlyLog.tilesLog (s := s) (a := s.modFs t FrontStore.enable) rfl (onlyLog_event ..)).trans (ih _)

theorem State.enableAll_tile (s : State) {tile : Nat} (h8 : tile < 8) :
    s.enableAll.tile tile = if tile ∈ s.aliveTiles then { s.tile tile with fs := (s.tile tile).fs.enable } else s.tile tile := by
  have hstep (a : State) (t : Nat) : (a.fsEnableTile t).tile tile = (a.modFs t FrontStore.enable).tile tile := by
    rw [State.tile, State.fsEnableTile, (onlyLog_event ..).tiles]
    rfl
  refine tile_foldl (φ := fun x => { x with fs := x.fs.enable }) (fun a => ?_) (fun a t hne => ?_) (fun _ => rfl) _ s
  · rw [hstep, State.fs_modFs_self h8]
  · rw [hstep]
    exact State.tile_modTile_ne (Ne.symm hne) ..

/-- Of every tile, enabling leaves the frames. -/
theorem State.enableAll_frames (s : State) (tile f : Nat) : s.enableAll.frame tile f = s.frame tile f := by
  rw [State.enableAll]
  generalize s.aliveTiles = l
  induction l generalizing s with
  | nil => rfl
  | cons t l ih =>
    rw [List.foldl_cons, ih, State.frame, State.frame, State.tile, State.fsEnableTile, (onlyLog_event ..).tiles]
    exact congrArg (agetD f _) (State.tile_modTile_keeps (fun x => x.fs.frames) s t (f := fun x => { x with fs := x.fs.enable }) (fun _ => rfl) tile)

/-- A tile outside 0 to 7 reads as one whose Front Store is enabled. -/
theorem State.lt_of_fs_mode {s : State} {tile : Nat} (h : (s.tile tile).fs.mode ≠ .enabled) : tile < 8 := by
  by_contra hge
  refine h ?_
  have hdef : s.tile tile = {} := by simp [State.tile, vget, List.getD, hge]
  rw [hdef]

/-- R159: a tile without a frame gives up waiting for WAYS_NEXT. -/
def State.waysTaken (s : State) (tile : Nat) : State := s.modFs tile (fun g => { g with waysWait := false, plru := [], epoch := 0 })

/-- R159: the package has WAYS_NEXT ways. -/
def State.waysApplied (s : State) (tile : Nat) : State := (s.waysTaken tile).modJobs (fun j => { j with ways := j.waysNext, fsEnable := none })

/-- R159: FS_ENABLE, where it waits, ends with the ways. -/
def State.enableDone (s : State) (who : Option (Nat × Nat)) : State :=
  match who with
  | some (r, c) => s.ok { ring := r, cid := c } [(2, s.jobs.ways)]
  | none => s

theorem State.enableDone_frame (s : State) (who : Option (Nat × Nat)) : s.enableDone who = { s with porter := (s.enableDone who).porter } := by
  unfold State.enableDone
  split <;> rfl

/-- R159: with the last tile that waits the ways change, every tile is enabled, and FS_ENABLE ends. -/
theorem State.fsWaysApplyEff_last {s : State} {tile : Nat} (ht : s.aliveTiles.contains tile = true) (h8 : tile < 8)
    (hw : (s.tile tile).fs.waysWait = true) (hf : (s.tile tile).fs.frames = [])
    (hall : s.aliveTiles.all (fun u => u == tile || !(s.tile u).fs.waysWait) = true) :
    s.fsWaysApplyEff tile = (s.waysApplied tile).enableAll.enableDone s.jobs.fsEnable := by
  have hgo : (!s.alive tile || !(s.tile tile).fs.waysWait || !(s.tile tile).fs.frames.isEmpty) = false := by
    rw [State.mem_aliveTiles.1 (State.mem_aliveTiles_of_contains ht), hw, hf]
    rfl
  have hlast : s.aliveTiles.all (fun t => !((s.waysTaken tile).tile t).fs.waysWait) = true := by
    rw [List.all_eq_true] at hall ⊢
    intro u hu
    by_cases hut : u = tile
    · rw [hut, State.waysTaken, State.fs_modFs_self h8]
      rfl
    · have hother : (s.waysTaken tile).tile u = s.tile u := State.tile_modTile_ne hut ..
      rw [hother]
      simpa [hut] using hall u hu
  rw [State.fsWaysApplyEff, hgo, if_neg Bool.false_ne_true]
  exact if_pos hlast

/-! ### FS_SET_DIRTY_LIMIT (R161) -/

theorem State.cntAdd_free (k : Nat) (s : State) (t n d : Nat) : (State.cntAdd k s t n d).free = s.free := by
  induction k generalizing s n d with
  | zero => rfl
  | succ k ih =>
    rw [State.cntAdd]
    dsimp only
    split
    · rfl
    · split
      · exact ih ..
      · rfl

theorem foldl_free {β : Type} {f : State → β → State} (h : ∀ a b, (f a b).free = a.free) (l : List β) (s : State) : (l.foldl f s).free = s.free := by
  induction l generalizing s with
  | nil => rfl
  | cons b l ih => exact (ih _).trans (h s b)

theorem State.perfEvent_free (s : State) (t no q d : Nat) : (s.perfEvent t no q d).free = s.free := by
  unfold State.perfEvent
  split
  · rfl
  · refine foldl_free (fun a n => ?_) _ _
    dsimp only
    rw [apply_ite State.free, State.cntAdd_free, ite_self]

/-- R88: judging the throttling of a tile changes tiles and registers alone. -/
theorem State.judgeThrottle_frame (s : State) (t : Nat) :
    s.judgeThrottle t = { s with tiles := (s.judgeThrottle t).tiles, reg := (s.judgeThrottle t).reg } := by
  unfold State.judgeThrottle
  dsimp only
  split
  · rfl
  · split
    · have hcount := (countersOnly_perfEvent ((s.modTxn t (fun y => { y with throttle := s.throttleOn t })).latchOnly (Reg.TXN_ERR_STATUS t) 5)
        t 0x0B 0 1).frame
      have hfree := ((s.modTxn t (fun y => { y with throttle := s.throttleOn t })).latchOnly (Reg.TXN_ERR_STATUS t) 5).perfEvent_free t 0x0B 0 1
      rw [hcount, hfree]
      rfl
    · rfl

/-- R161: the cap of a tile is set, its change recorded, and its throttling judged. -/
def State.capped (s : State) (cap t : Nat) : State :=
  (if (s.tile t).fs.cap = cap then s.modFs t (fun g => { g with cap := cap })
    else (s.modFs t (fun g => { g with cap := cap })).event Gb.FS_LIMIT_CAP t [t, cap]).judgeThrottle t

theorem State.capped_frame (s : State) (cap t : Nat) : TilesLog s (s.capped cap t) := by
  have hset : OnlyLog (s.modFs t (fun g => { g with cap := cap })) (if (s.tile t).fs.cap = cap then
        s.modFs t (fun g => { g with cap := cap })
      else (s.modFs t (fun g => { g with cap := cap })).event Gb.FS_LIMIT_CAP t [t, cap]) := by
    split
    · exact .refl _
    · exact onlyLog_event ..
  have hjudge (a : State) : TilesLog a (a.judgeThrottle t) := by
    rw [TilesLog, State.judgeThrottle_frame]
  exact (OnlyLog.tilesLog (s := s) rfl hset).trans (hjudge _)

theorem State.capped_fs (s : State) (cap : Nat) {t : Nat} (h8 : t < 8) : ((s.capped cap t).tile t).fs = { (s.tile t).fs with cap := cap } := by
  have hset : ∀ a, OnlyLog (s.modFs t (fun g => { g with cap := cap })) a → (a.tile t).fs = { (s.tile t).fs with cap := cap } := fun a ha => by
    rw [State.tile, ha.tiles]
    exact congrArg Tile.fs (State.fs_modFs_self h8 _)
  rw [State.capped, (keeps_judgeThrottle (g := Tile.store) _ t).fs t]
  split
  · exact hset _ (.refl _)
  · exact hset _ (onlyLog_event ..)

end Sys2Proof.Machine
end

section
/-! The statement on the commands of the Front Store (05_front_store.md R154 to R162). -/

namespace Sys2Proof.Machine

open Sys2Proof

/-- What does not depend on Porter reads the same once a command has started. -/
theorem State.ensureExec_reads {α : Type} (s : State) (pc : PortCmd) (op : Nat) (P : State → α) (hP : ∀ p, P { s with porter := p } = P s) :
    P (s.ensureExec pc op) = P s := by
  rw [State.ensureExec_frame]
  exact hP _

/-! ### Flushes and invalidations (R154, R155, R162) -/

section
variable {s : State} {pc : PortCmd} {op : Nat} {priv : Bool}

/-- A range command of the whole package whose range is aligned and inside it passes its checks. -/
theorem State.withRange_package {start length : Nat} (hp : s.ringPriv pc.ring = true) (hs : start % 4096 = 0) (hl : length % 4096 = 0)
    (h0 : 0 < length) (hend : start + length ≤ s.pkgBlocks * 2 ^ 28) (ld : Nat) (go : List (Nat × Nat) → State → State) :
    s.withRange pc ld true start length go = go [(start / 4096, length / 4096)] s := by
  have hfit : (length % 4096 == 0 && length != 0 && decide (start + length ≤ s.pkgBlocks * 2 ^ 28)) = true := by
    rw [decide_eq_true hend, hl]
    simpa using Nat.pos_iff_ne_zero.1 h0
  simp only [State.withRange, State.checkFields, if_true, hfit]
  simp [hp, hs, firstBad, State.rangeSpans]

/-- R416: a START that is not a multiple of 4,096 is the parameter of index 2 that is refused. -/
theorem State.withRange_unaligned {ld start : Nat} {pkg : Bool} (hp : s.ringPriv pc.ring = true) (hld : s.presents (s.ring pc.ring).head ld = true)
    (hs : start % 4096 ≠ 0) (length : Nat) (go : List (Nat × Nat) → State → State) :
    s.withRange pc ld pkg start length go = s.fail pc .invalidField 2 := by
  simp [State.withRange, hp, hld, State.checkFields, firstBad, hs]

/-- The head that owns a ring is the one that owned it before a command started. -/
theorem State.ensureExec_head (s : State) (pc : PortCmd) (op r : Nat) : ((s.ensureExec pc op).ring r).head = (s.ring r).head := by
  unfold State.ensureExec
  split
  · rfl
  · exact ((logs_modRing s pc.ring).ring r).2

/-- What the commit that a flush starts leaves, seen from before the command. -/
theorem CommitRuns.flushed {a b : State} {p : Porter} {j k : RangeJob} {tile f g : Nat} (ha : a = { s with porter := p })
    (h : CommitRuns (a.withJob j) b tile f) (hg : g ≠ f) (hu : ∀ t : State, t.porter = a.porter → t.underWay pc = true) :
    (s.ran (b.withJob k)).committing tile f = true ∧ ((s.ran (b.withJob k)).frame tile f).lines = (s.frame tile f).lines ∧
      (s.ran (b.withJob k)).frame tile g = s.frame tile g ∧ (s.ran (b.withJob k)).underWay pc = true ∧
      Only [.porter, .jobs, .tiles, .outbox] s (s.ran (b.withJob k)) := by
  subst ha
  refine ⟨h.committing, h.lines, h.others g hg, hu _ ?_, only_flush s _ ?_⟩ <;> rw [h.frame] <;> rfl

/-- A flush that finds one Dirty frame whose commit can start, every line VALID: the commit runs, and the command waits for it. -/
theorem completes_flush {c : Instr} {F : State → State} {j : RangeJob} {tile f g n : Nat} (hexec : exec c s = s.run F)
    (ha : s.accepts pc op priv = true) (heff : F s = (s.ensureExec pc op).jobStart j) (hn : s.noWork = true) (hk : j.kind = 0)
    (hl : j.left = [(tile, (s.frame tile f).seg, n)]) (hfind : s.findFrame tile (s.frame tile f).seg = some f)
    (hfree : s.commitFree tile f = true) (hv : (s.frame tile f).valid = allLines) (hg : g ≠ f) :
    Completes c s (fun t => t.committing tile f = true ∧ (t.frame tile f).lines = (s.frame tile f).lines ∧ t.frame tile g = s.frame tile g ∧
      t.underWay pc = true ∧ Only [.porter, .jobs, .tiles, .outbox] s t) := by
  have hread {α : Type} (P : State → α) (hP : ∀ p, P { s with porter := p } = P s) := s.ensureExec_reads pc op P hP
  have hframe : (s.ensureExec pc op).frame tile f = s.frame tile f := hread (fun x => x.frame tile f) fun _ => rfl
  have hruns : CommitRuns ((s.ensureExec pc op).withJob j.begun) (((s.ensureExec pc op).withJob j.begun).startCommit tile f) tile f :=
    State.startCommit_runs ((hread (fun x => (x.withJob j.begun).commitFree tile f) fun _ => rfl).trans hfree) ((congrArg Frame.valid hframe).trans hv)
  have hst : (s.frame tile f).st = .dirty := by
    simp only [State.commitFree, Bool.and_eq_true, beq_iff_eq] at hfree
    obtain ⟨⟨⟨⟨⟨⟨⟨-, hst⟩, -⟩, -⟩, -⟩, -⟩, -⟩, -⟩ := hfree
    exact hst
  have hfind' : (s.ensureExec pc op).findFrame tile ((s.ensureExec pc op).frame tile f).seg = some f :=
    (hread (fun x => x.findFrame tile (x.frame tile f).seg) fun _ => rfl).trans hfind
  obtain ⟨k, hjob⟩ := State.jobStart_flush_one (s := s.ensureExec pc op) (j := j) (tile := tile) (f := f) (n := n)
    ((congrArg Jobs.ranges (s.ensureExec_jobs pc op)).trans (State.still_of_noWork hn).ranges) hk (by rw [hl, hframe]) hfind'
    ((congrArg Frame.st hframe).trans hst) (by rw [hruns.frame])
  exact completes_ran hexec (heff.trans hjob) (hruns.flushed (s.ensureExec_frame pc op) hg fun t => State.underWay_of_porter ha)

theorem State.fsFlushAllEff_accepted (ha : s.accepts pc 0x0100 false = true) (hop : s.md.operating = true) :
    s.fsFlushAllEff pc = (s.ensureExec pc 0x0100).jobStart
      { ring := pc.ring, cid := pc.cid, kind := 0, left := s.flushList [(0, s.segs * s.pop.tiles)], inTurn := false,
        spans := [(0, s.segs * s.pop.tiles)] } := by
  have hread {α : Type} (P : State → α) (hP : ∀ p, P { s with porter := p } = P s) := s.ensureExec_reads pc 0x0100 P hP
  have hlist : (s.ensureExec pc 0x0100).flushList [(0, (s.ensureExec pc 0x0100).segs * (s.ensureExec pc 0x0100).pop.tiles)] =
      s.flushList [(0, s.segs * s.pop.tiles)] := hread (fun x => x.flushList [(0, x.segs * x.pop.tiles)]) fun _ => rfl
  have hsegs : (s.ensureExec pc 0x0100).segs * (s.ensureExec pc 0x0100).pop.tiles = s.segs * s.pop.tiles :=
    hread (fun x => x.segs * x.pop.tiles) fun _ => rfl
  rw [State.fsFlushAllEff, hop, State.porterRun_accepted s pc _ _ _ ha]
  dsimp only
  rw [hlist, hsegs]

/-- The ranges that a command names on a privileged ring are as checked before it started. -/
theorem State.ensureExec_withRange {start length : Nat} (hp : s.ringPriv pc.ring = true) (hs : start % 4096 = 0) (hl : length % 4096 = 0)
    (h0 : 0 < length) (hend : start + length ≤ s.pkgBlocks * 2 ^ 28) (ld : Nat) (go : List (Nat × Nat) → State → State) :
    (s.ensureExec pc op).withRange pc ld true start length go = go [(start / 4096, length / 4096)] (s.ensureExec pc op) :=
  State.withRange_package ((s.ensureExec_reads pc op (fun x => x.ringPriv pc.ring) fun _ => rfl).trans hp) hs hl h0
    (hend.trans_eq (s.ensureExec_reads pc op (fun x => x.pkgBlocks * 2 ^ 28) fun _ => rfl).symm) ld go

theorem State.fsFlushRangeEff_accepted {start length : Nat} (ha : s.accepts pc 0x0101 true = true) (hp : s.ringPriv pc.ring = true)
    (hop : s.md.operating = true) (hs : start % 4096 = 0) (hl : length % 4096 = 0) (h0 : 0 < length)
    (hend : start + length ≤ s.pkgBlocks * 2 ^ 28) (ld : Nat) :
    s.fsFlushRangeEff pc ld true start length = (s.ensureExec pc 0x0101).jobStart
      { ring := pc.ring, cid := pc.cid, kind := 0, left := (s.flushList [(start / 4096, length / 4096)]).map (fun e => (e.1, e.2.1, 0)),
        spans := [(start / 4096, length / 4096)] } := by
  have hlist : (s.ensureExec pc 0x0101).flushList [(start / 4096, length / 4096)] = s.flushList [(start / 4096, length / 4096)] :=
    s.ensureExec_reads pc 0x0101 (fun x => x.flushList _) fun _ => rfl
  rw [State.fsFlushRangeEff, hop, State.porterRun_accepted s pc _ _ _ ha, State.ensureExec_withRange hp hs hl h0 hend, hlist]

theorem State.fsFlushRangeEff_unaligned {ld start : Nat} {pkg : Bool} (ha : s.accepts pc 0x0101 pkg = true) (hp : s.ringPriv pc.ring = true)
    (hop : s.md.operating = true) (hld : s.presents (s.ring pc.ring).head ld = true) (hs : start % 4096 ≠ 0) (length : Nat) :
    s.fsFlushRangeEff pc ld pkg start length = (s.ensureExec pc 0x0101).finish pc { status := Status.invalidField.code, detail := 2 } := by
  have hp' : (s.ensureExec pc 0x0101).ringPriv pc.ring = true := (s.ensureExec_reads pc _ (fun x => x.ringPriv pc.ring) fun _ => rfl).trans hp
  have hld' : (s.ensureExec pc 0x0101).presents ((s.ensureExec pc 0x0101).ring pc.ring).head ld = true := by
    rw [State.ensureExec_head]
    exact (s.ensureExec_reads pc _ (fun x => x.presents (s.ring pc.ring).head ld) fun _ => rfl).trans hld
  rw [State.fsFlushRangeEff, hop, State.porterRun_accepted s pc _ _ _ ha, State.withRange_unaligned hp' hld' hs]
  rfl

theorem State.fsInvalidateRangeEff_clean {start length tile f : Nat} (ha : s.accepts pc 0x0102 true = true) (hsd : s.md.sdService = true)
    (hn : s.noWork = true) (hs : start % 4096 = 0) (hl : length % 4096 = 0) (h0 : 0 < length) (hend : start + length ≤ s.pkgBlocks * 2 ^ 28)
    (hleft : (s.aliveTiles.map (fun t => (s.spanFrames t [(start / 4096, length / 4096)]).map (fun e => (t, e.2, 0)))).flatten =
      [(tile, (s.frame tile f).seg, 0)]) (hfind : s.findFrame tile (s.frame tile f).seg = some f) (hst : (s.frame tile f).st = .clean) (ld : Nat) :
    s.fsInvalidateRangeEff pc ld true start length =
      ((s.ensureExec pc 0x0102).setFrame tile f { s.frame tile f with st := .invalid }).finish pc (succeeded [(32, 0), (32, 1), (32, 0)]) := by
  have hread {α : Type} (P : State → α) (hP : ∀ p, P { s with porter := p } = P s) := s.ensureExec_reads pc 0x0102 P hP
  have hp : s.ringPriv pc.ring = true := by
    simp only [State.accepts, Bool.and_eq_true, Bool.not_true, Bool.false_or] at ha
    obtain ⟨⟨⟨-, hpriv⟩, -⟩, -⟩ := ha
    exact hpriv
  have hframe : (s.ensureExec pc 0x0102).frame tile f = s.frame tile f := hread (fun x => x.frame tile f) fun _ => rfl
  have hlist : ((s.ensureExec pc 0x0102).aliveTiles.map (fun t =>
      ((s.ensureExec pc 0x0102).spanFrames t [(start / 4096, length / 4096)]).map (fun e => (t, e.2, 0)))).flatten = [(tile, (s.frame tile f).seg, 0)] :=
    (hread (fun x => (x.aliveTiles.map (fun t => (x.spanFrames t [(start / 4096, length / 4096)]).map (fun e => (t, e.2, 0)))).flatten)
      fun _ => rfl).trans hleft
  have hfind' : (s.ensureExec pc 0x0102).findFrame tile ((s.ensureExec pc 0x0102).frame tile f).seg = some f :=
    (hread (fun x => x.findFrame tile (x.frame tile f).seg) fun _ => rfl).trans hfind
  rw [State.fsInvalidateRangeEff, hsd, State.porterRun_accepted s pc _ _ _ ha, State.ensureExec_withRange hp hs hl h0 hend]
  dsimp only
  rw [hlist, State.jobStart_inval_one (tile := tile) (f := f)
    ((congrArg Jobs.ranges (s.ensureExec_jobs pc _)).trans (State.still_of_noWork hn).ranges) rfl (by rw [hframe]) rfl rfl rfl hfind'
    ((congrArg Frame.st hframe).trans hst), hframe]

end

end Sys2Proof.Machine
end

section
/-! The commands of the Front Store, settled (05_front_store.md R154 to R162). -/

namespace Sys2Proof.Machine

open Sys2Proof

/-! ### FS_DISABLE and FS_ENABLE (R157, R159) -/

section
variable {s : State} {pc : PortCmd}

theorem State.ensureExec_all (s : State) (pc : PortCmd) (op : Nat) (q : Tile → Bool) :
    (s.ensureExec pc op).aliveTiles.all (fun t => q ((s.ensureExec pc op).tile t)) = s.aliveTiles.all (fun t => q (s.tile t)) :=
  s.ensureExec_reads pc op (fun x => x.aliveTiles.all (fun t => q (x.tile t))) fun _ => rfl

/-- One tile in service of which `q` is false is enough for it not to hold of all. -/
theorem State.all_tiles_false {q : Tile → Bool} {tile : Nat} (ht : s.aliveTiles.contains tile = true) (hq : q (s.tile tile) = false) :
    s.aliveTiles.all (fun t => q (s.tile t)) = false :=
  List.all_eq_false.2 ⟨tile, State.mem_aliveTiles_of_contains ht, by simp [hq]⟩

theorem State.fsDisableEff_idle (ha : s.accepts pc 0x0103 true = true) (hsd : s.md.sdService = true) (hseal : s.md.sealed = 0)
    (hj : s.jobs.fsDisable = none) (hall : s.aliveTiles.all (fun t => (s.tile t).fs.mode == .disabled) = true) :
    s.fsDisableEff pc = (s.ensureExec pc 0x0103).finish pc (succeeded [(32, 0), (32, 0)]) := by
  have hall' := (s.ensureExec_all pc 0x0103 fun x => x.fs.mode == .disabled).trans hall
  rw [State.fsDisableEff, hsd, State.porterRun_accepted s pc _ _ _ ha]
  simp only [State.ensureExec_md, State.ensureExec_jobs, hseal, hj, hall', Nat.zero_mod, bne_self_eq_false, Option.isSome_none, Bool.false_eq_true,
    if_false, if_true]
  rfl

/-- R157: FS_DISABLE with a tile that is enabled: every tile drains. -/
theorem State.fsDisableEff_drains {tile : Nat} (ha : s.accepts pc 0x0103 true = true) (hsd : s.md.sdService = true) (hseal : s.md.sealed = 0)
    (hj : s.jobs.fsDisable = none) (ht : s.aliveTiles.contains tile = true) (hm : (s.tile tile).fs.mode = .enabled) :
    s.fsDisableEff pc = (s.ensureExec pc 0x0103).drainAll.modJobs (fun j => { j with fsDisable := some (pc.ring, pc.cid) }) := by
  have hall' := (s.ensureExec_all pc 0x0103 fun x => x.fs.mode == .disabled).trans
    (State.all_tiles_false (q := fun x => x.fs.mode == .disabled) ht (by simp [hm]))
  rw [State.fsDisableEff, hsd, State.porterRun_accepted s pc _ _ _ ha]
  simp only [State.ensureExec_md, State.ensureExec_jobs, hseal, hj, hall', Nat.zero_mod, bne_self_eq_false, Option.isSome_none, Bool.false_eq_true,
    if_false]
  rfl

theorem State.fsEnableEff_idle (ha : s.accepts pc 0x0104 true = true) (hsd : s.md.sdService = true) (hj : s.jobs.fsDisable = none)
    (hall : s.aliveTiles.all (fun t => (s.tile t).fs.mode == .enabled) = true) :
    s.fsEnableEff pc = (s.ensureExec pc 0x0104).finish pc (succeeded [(2, s.jobs.ways)]) := by
  have hall' := (s.ensureExec_all pc 0x0104 fun x => x.fs.mode == .enabled).trans hall
  rw [State.fsEnableEff, hsd, State.porterRun_accepted s pc _ _ _ ha]
  simp only [State.ensureExec_jobs, hj, hall', if_true]
  rfl

/-- R159: FS_ENABLE with the ways as they are enables every tile at once. -/
theorem State.fsEnableEff_enables {tile : Nat} (ha : s.accepts pc 0x0104 true = true) (hsd : s.md.sdService = true) (hj : s.jobs.fsDisable = none)
    (hw : s.jobs.waysNext = s.jobs.ways) (ht : s.aliveTiles.contains tile = true) (hm : (s.tile tile).fs.mode = .disabled) :
    s.fsEnableEff pc = (s.ensureExec pc 0x0104).enableAll.finish pc (succeeded [(2, s.jobs.ways)]) := by
  have hall' := (s.ensureExec_all pc 0x0104 fun x => x.fs.mode == .enabled).trans
    (State.all_tiles_false (q := fun x => x.fs.mode == .enabled) ht (by simp [hm]))
  rw [State.fsEnableEff, hsd, State.porterRun_accepted s pc _ _ _ ha]
  simp only [State.ensureExec_jobs, hj, hw, hall', Bool.false_eq_true, if_false, if_true]
  rfl

/-! ### FS_SET_WAYS and FS_SET_DIRTY_LIMIT (R159, R161) -/

theorem State.fsSetWaysEff_sets {ways : Nat} (ha : s.accepts pc 0x0105 true = true) (hsv : s.md.inService = true) (hw : ways < 4)
    (hall : s.aliveTiles.all (fun t => (s.tile t).fs.mode == .disabled) = true) :
    s.fsSetWaysEff pc ways false = ((s.ensureExec pc 0x0105).modJobs (fun j => { j with waysNext := ways })).finish pc (succeeded []) := by
  have hall' := (s.ensureExec_all pc 0x0105 fun x => x.fs.mode == .disabled).trans hall
  rw [State.fsSetWaysEff, hsv, State.porterRun_accepted s pc _ _ _ ha]
  simp only [hall', Nat.mod_eq_of_lt hw, Bool.not_true, Bool.false_eq_true, if_false]
  rfl

theorem State.fsSetWaysEff_refused {ways tile : Nat} {persist : Bool} (ha : s.accepts pc 0x0105 true = true) (hsv : s.md.inService = true)
    (ht : s.aliveTiles.contains tile = true) (hm : (s.tile tile).fs.mode ≠ .disabled) :
    s.fsSetWaysEff pc ways persist = (s.ensureExec pc 0x0105).finish pc { status := Status.wrongMode.code, detail := s.md.mode.code } := by
  have hall' := (s.ensureExec_all pc 0x0105 fun x => x.fs.mode == .disabled).trans
    (State.all_tiles_false (q := fun x => x.fs.mode == .disabled) ht (by simp [hm]))
  rw [State.fsSetWaysEff, hsv, State.porterRun_accepted s pc _ _ _ ha]
  simp only [hall', Bool.not_false, if_true, State.ensureExec_md]
  rfl

/-- R161: FS_SET_DIRTY_LIMIT of one tile sets that tile's cap. -/
theorem State.fsSetDirtyLimitEff_one {cap tile : Nat} (ha : s.accepts pc 0x0106 true = true) (hop : s.md.operating = true) (ht : tile < s.pop.tiles)
    (hone : s.present.filter (bitOf (2 ^ tile)) = [tile]) :
    ∃ l, s.fsSetDirtyLimitEff pc (2 ^ tile) cap false = ((s.ensureExec pc 0x0106).capped cap tile).finish pc (succeeded l) := by
  have hmask : decide (2 ^ tile < 2 ^ (s.ensureExec pc 0x0106).pop.tiles) = true := by
    rw [State.ensureExec_pop]
    exact decide_eq_true (Nat.pow_lt_pow_right (by decide) ht)
  have hone' : (s.ensureExec pc 0x0106).present.filter (bitOf (2 ^ tile)) = [tile] :=
    (s.ensureExec_reads pc _ (fun x => x.present.filter (bitOf (2 ^ tile))) fun _ => rfl).trans hone
  rw [State.fsSetDirtyLimitEff, hop, State.porterRun_accepted s pc _ _ _ ha]
  simp only [State.checkFields, hmask, firstBad, hone', if_true, List.foldl_cons, List.foldl_nil, List.head?_cons, List.isEmpty_cons, Bool.false_eq_true,
    if_false, State.capped]
  exact ⟨_, rfl⟩

end

/-! ### What the commands complete with -/

section
variable {s : State} {pc : PortCmd}

theorem State.frame_eq (s : State) (t f : Nat) : s.frame t f = agetD f { st := .invalid, seg := 0 } (s.tile t).fs.frames := rfl

/-- R155: FS_INVALIDATE_RANGE over one Clean frame takes it off its tile, counts it, and ends. -/
theorem completes_invalidate {start length tile f g : Nat} (ha : s.accepts pc 0x0102 true = true)
    (heff : s.fsInvalidateRangeEff pc 0 true start length =
      ((s.ensureExec pc 0x0102).setFrame tile f { s.frame tile f with st := .invalid }).finish pc (succeeded [(32, 0), (32, 1), (32, 0)]))
    (h8 : tile < 8) (hg : g ≠ f) :
    Completes (.fsInvalidateRange pc 0 true start length) s (fun t => (t.frame tile f).st = .invalid ∧ t.frame tile g = s.frame tile g ∧
      (t.tile tile).xl = (s.tile tile).xl ∧ (t.tile tile).med = (s.tile tile).med ∧ t.resultOf pc = some (succeeded [(32, 0), (32, 1), (32, 0)]) ∧
      Only [.porter, .tiles] s t) := by
  have htile : ((s.ensureExec pc 0x0102).setFrame tile f { s.frame tile f with st := .invalid }).tile tile =
      { s.tile tile with fs := { (s.tile tile).fs with frames := adel f (s.tile tile).fs.frames } } := by
    rw [State.setFrame, State.fs_modFs_self h8, State.tile, State.ensureExec_tiles]
    rfl
  have hframe (k : Nat) : ((s.ensureExec pc 0x0102).setFrame tile f { s.frame tile f with st := .invalid }).frame tile k =
      agetD k { st := .invalid, seg := 0 } (adel f (s.tile tile).fs.frames) := by rw [State.frame_eq, htile]
  refine completes_ran (exec_fsInvalidateRange pc 0 true start length s) heff
    ⟨(congrArg Frame.st (hframe f)).trans ?_, (hframe g).trans ?_, (congrArg Tile.xl htile).trans rfl, (congrArg Tile.med htile).trans rfl,
      State.resultOf_finish_of_porter ha rfl _, only_ran (by simp [Part.all, Part.same, State.ran, State.setFrame])⟩
  · simp [agetD]
  · rw [agetD, aget_adel_ne hg]
    rfl

/-- R157: FS_DISABLE sets every tile in service to drain what it holds dirty, and waits. -/
theorem completes_disable {tile f : Nat} (ha : s.accepts pc 0x0103 true = true)
    (heff : s.fsDisableEff pc = (s.ensureExec pc 0x0103).drainAll.modJobs (fun j => { j with fsDisable := some (pc.ring, pc.cid) }))
    (ht : s.aliveTiles.contains tile = true) (h8 : tile < 8) :
    Completes (.fsDisable pc) s (fun t => (t.tile tile).fs.mode = .draining ∧ (t.tile tile).fs.drain = s.dirtyOrder tile ∧
      t.frame tile f = s.frame tile f ∧ t.jobs.fsDisable = some (pc.ring, pc.cid) ∧ t.underWay pc = true ∧ Only [.porter, .jobs, .tiles] s t) := by
  have hcontains : (s.ensureExec pc 0x0103).aliveTiles.contains tile = true :=
    (s.ensureExec_reads pc _ (fun x => x.aliveTiles.contains tile) fun _ => rfl).trans ht
  have htile : (s.ensureExec pc 0x0103).drainAll.tile tile = { s.tile tile with fs := (s.tile tile).fs.draining } := by
    rw [State.drainAll_tile hcontains h8, State.tile, State.ensureExec_tiles]
    rfl
  have hframe : (s.ensureExec pc 0x0103).drainAll.frame tile f = s.frame tile f := by
    rw [State.frame_eq, htile]
    rfl
  have hporter : (s.ensureExec pc 0x0103).drainAll.porter = (s.ensureExec pc 0x0103).porter := by rw [State.drainAll_frame]
  refine completes_ran (exec_fsDisable pc s) heff ⟨(congrArg (fun x => x.fs.mode) htile).trans rfl,
    (congrArg (fun x => x.fs.drain) htile).trans (s.dirtyOrder_eq tile).symm, hframe, rfl, State.underWay_of_porter ha hporter, only_porter_jobs_tiles s _ ?_⟩
  rw [State.drainAll_frame, State.ensureExec_frame]
  rfl

/-- R159: FS_ENABLE enables every tile in service and ends. -/
theorem completes_enable {tile f : Nat} {r : CmdResult} (heff : s.fsEnableEff pc = (s.ensureExec pc 0x0104).enableAll.finish pc r)
    (ht : s.aliveTiles.contains tile = true) (hm : (s.tile tile).fs.mode = .disabled) :
    Completes (.fsEnable pc) s (fun t => (t.tile tile).fs.mode = .enabled ∧ t.frame tile f = s.frame tile f ∧ t.jobs = s.jobs ∧
      Only (.tiles :: logParts) s t) := by
  have h8 : tile < 8 := State.lt_of_fs_mode (s := s) (by simp [hm])
  have hmem : tile ∈ (s.ensureExec pc 0x0104).aliveTiles :=
    (s.ensureExec_reads pc _ (fun x => tile ∈ x.aliveTiles) fun _ => rfl).mpr (State.mem_aliveTiles_of_contains ht)
  have hlog : TilesLog s ((s.ensureExec pc 0x0104).enableAll.finish pc r) :=
    ((s.ensureExec_tilesLog pc _).trans (State.enableAll_frame _)).trans (tilesLog_finish ..)
  have hmode : ((s.ensureExec pc 0x0104).enableAll.tile tile).fs.mode = .enabled := by
    rw [State.enableAll_tile _ h8, if_pos hmem]
    rfl
  have hframe : (s.ensureExec pc 0x0104).enableAll.frame tile f = s.frame tile f :=
    (State.enableAll_frames ..).trans (s.ensureExec_reads pc _ (fun x => x.frame tile f) fun _ => rfl)
  exact completes_ran (exec_fsEnable pc s) heff ⟨hmode, hframe, hlog.jobs, hlog.only⟩

end

section
variable {s : State} {tile : Nat}

/-- R157 step 3: a tile that has drained is DISABLED and has dropped its Clean frames. -/
theorem completes_drained {f : Nat} (ht : s.alive tile = true) (h8 : tile < 8) (hm : (s.tile tile).fs.mode = .draining)
    (hd : (s.tile tile).fs.drain.any (fun d => (s.frame tile d).countsDirty) = false) (hf : aget f (s.tile tile).fs.frames = some (s.frame tile f))
    (hlen : (s.tile tile).fs.frames.length = 1) :
    Completes (.fsDrainComplete tile) s (fun t => (t.tile tile).fs.mode = .disabled ∧
      t.frame tile f = (if (s.frame tile f).st = .clean then { st := .invalid, seg := 0 } else s.frame tile f) ∧
      (t.tile tile).xl = (s.tile tile).xl ∧ Only (.jobs :: .tiles :: logParts) s t) := by
  obtain ⟨j, p, heff⟩ := State.fsDrainCompleteEff_frame ht hm hd
  have htile := State.drainedAt_tile (s := s) h8
  have hframe : (s.drainedAt tile).frame tile f = (if (s.frame tile f).st = .clean then { st := .invalid, seg := 0 } else s.frame tile f) := by
    rw [State.frame_eq, htile]
    exact agetD_filter_unclean hf hlen
  exact completes_ran (exec_fsDrainComplete tile s) heff
    ⟨(congrArg (fun x => x.fs.mode) htile).trans rfl, hframe, (congrArg Tile.xl htile).trans rfl, only_drain rfl (s.drainedAt_log tile)⟩

/-- R157: with the last tile FS_DISABLE ends with its counts. -/
theorem completes_last_drain {r c : Nat} (hl : s.aliveTiles = [tile]) (h8 : tile < 8) (hm : (s.tile tile).fs.mode = .draining)
    (hd : (s.tile tile).fs.drain.any (fun d => (s.frame tile d).countsDirty) = false) (hj : s.jobs.fsDisable = some (r, c)) (hr : r < 64)
    (hexecs : (s.ring r).execs = [{ cid := c, opcode := 0x0103 }]) :
    Completes (.fsDrainComplete tile) s (fun t => t.resultOf { ring := r, cid := c } =
      some (succeeded [(32, (s.tile tile).fs.drained), (32, (s.tile tile).fs.through)]) ∧ t.jobs.fsDisable = none) := by
  have halone : (((s.drainedAt tile).modJobs (fun j => { j with fsDisable := none })).ring r).execs = [{ cid := c, opcode := 0x0103 }] := by
    rw [State.ring_modJobs, s.drainedAt_execs tile r, hexecs]
  refine completes_ran (exec_fsDrainComplete tile s) (State.fsDrainCompleteEff_last hl h8 hm hd hj) ⟨?_, rfl⟩
  rw [State.resultOf_ran]
  exact State.resultOf_finish_alone hr halone rfl rfl _

/-- R159: with the last tile that waits the ways change and the tile is enabled. -/
theorem completes_ways (ht : s.aliveTiles.contains tile = true) (h8 : tile < 8) (hw : (s.tile tile).fs.waysWait = true)
    (hf : (s.tile tile).fs.frames = []) (hall : s.aliveTiles.all (fun u => u == tile || !(s.tile u).fs.waysWait) = true) :
    Completes (.fsWaysApply tile) s (fun t => t.jobs.ways = s.jobs.waysNext ∧ (t.tile tile).fs.mode = .enabled ∧ (t.tile tile).fs.waysWait = false ∧
      t.jobs.fsEnable = none ∧ Only (.jobs :: .tiles :: logParts) s t) := by
  have hmem : tile ∈ (s.waysApplied tile).aliveTiles := State.mem_aliveTiles_of_contains ht
  have hlog := State.enableAll_frame (s.waysApplied tile)
  have htile : (s.waysApplied tile).enableAll.tile tile =
      { (s.waysApplied tile).tile tile with fs := ((s.waysApplied tile).tile tile).fs.enable } := by
    rw [State.enableAll_tile _ h8, if_pos hmem]
  have hdone := State.enableDone_frame (s.waysApplied tile).enableAll s.jobs.fsEnable
  refine completes_ran (exec_fsWaysApply tile s) ((State.fsWaysApplyEff_last ht h8 hw hf hall).trans hdone)
    ⟨(congrArg Jobs.ways hlog.jobs).trans rfl, (congrArg (fun x => x.fs.mode) htile).trans rfl, (congrArg (fun x => x.fs.waysWait) htile).trans rfl,
      (congrArg Jobs.fsEnable hlog.jobs).trans rfl, ?_⟩
  rw [hlog]
  exact only_ran (by simp [Part.all, Part.same, State.ran, State.waysApplied, State.waysTaken])

/-- R147: the limit of a tile follows from its cap. -/
theorem State.effLimit_of_cap {t : State} {cap : Nat} (hp : t.pop = s.pop) (hfs : (t.tile tile).fs = { (s.tile tile).fs with cap := cap }) :
    t.effLimit tile = min (s.tile tile).fs.measured (min (min cap (framesOf s.pop)) (s.framesAvail tile)) := by
  simp only [State.effLimit, State.capEff, State.framesAvail, hp, hfs]

/-- R161: the cap is that asked for, and the limit in force follows from it. -/
theorem completes_dirtyLimit {pc : PortCmd} {mask cap : Nat} {l : List (Nat × Nat)}
    (heff : s.fsSetDirtyLimitEff pc mask cap false = ((s.ensureExec pc 0x0106).capped cap tile).finish pc (succeeded l)) (h8 : tile < 8) :
    Completes (.fsSetDirtyLimit pc mask cap false) s (fun t => (t.tile tile).fs = { (s.tile tile).fs with cap := cap } ∧
      t.effLimit tile = min (s.tile tile).fs.measured (min (min cap (framesOf s.pop)) (s.framesAvail tile)) ∧ Only (.tiles :: logParts) s t) := by
  have hlog : TilesLog s (((s.ensureExec pc 0x0106).capped cap tile).finish pc (succeeded l)) :=
    ((s.ensureExec_tilesLog pc _).trans (State.capped_frame ..)).trans (tilesLog_finish ..)
  have hfs : ((((s.ensureExec pc 0x0106).capped cap tile).finish pc (succeeded l)).tile tile).fs = { (s.tile tile).fs with cap := cap } := by
    rw [State.tile, State.finish_tiles, ← State.tile, State.capped_fs _ _ h8, State.tile, State.ensureExec_tiles]
    rfl
  rw [← State.tile_ran s] at hfs
  exact completes_ran (exec_fsSetDirtyLimit pc mask cap false s) heff ⟨hfs, State.effLimit_of_cap (State.pop_ran ..) hfs, hlog.only⟩

end

/-! ### The statement -/

/-- Settles O35: a range command ends at once or waits for the commit it starts; disabling, enabling and the limits change the tiles named. -/
theorem frontStoreCommands : Obligations.FrontStoreCommands := by
  unfold Obligations.FrontStoreCommands
  refine ⟨?_, ?_, ?_, ?_, ?_, ?_, ?_, ?_, ?_, ?_, ?_, ?_, ?_, ?_, ?_⟩
  · intro s pc ha hop hn hl
    have hidle : (s.ensureExec pc 0x0100).jobs.ranges = [] := (congrArg Jobs.ranges (s.ensureExec_jobs pc _)).trans (State.still_of_noWork hn).ranges
    have heff := State.fsFlushAllEff_accepted ha hop
    rw [hl, State.jobStart_flush_nil hidle rfl rfl rfl rfl rfl] at heff
    exact completes_finish (exec_fsFlushAll pc s) ha heff
  · intro s pc tile f g ha hop hn hl hfind hfree hv hg
    exact completes_flush (exec_fsFlushAll pc s) ha (State.fsFlushAllEff_accepted ha hop) hn rfl hl hfind hfree hv hg
  · intro s pc start length tile f g ha hp hop hn hs hlen h0 hend hl hfind hfree hv hg
    have heff := State.fsFlushRangeEff_accepted (State.accepts_of_ringPriv ha hp) hp hop hs hlen h0 hend 0
    exact completes_flush (exec_fsFlushRange pc 0 true start length s) ha heff hn rfl (by rw [hl]; rfl) hfind hfree hv hg
  · intro s pc ld pkg length ha hp hop hld
    exact completes_finish (exec_fsFlushRange pc ld pkg 1 length s) ha
      (State.fsFlushRangeEff_unaligned (State.accepts_of_ringPriv ha hp) hp hop hld (by decide) length)
  · intro s pc start length tile f g ha hsd hn hs hlen h0 hend h8 hleft hfind hst hg
    exact completes_invalidate ha (State.fsInvalidateRangeEff_clean ha hsd hn hs hlen h0 hend hleft hfind hst 0) h8 hg
  · intro s pc ha hsd hseal hj hall
    exact completes_finish (exec_fsDisable pc s) ha (State.fsDisableEff_idle ha hsd hseal hj hall)
  · intro s pc tile f ha hsd hseal hj ht h8 hm
    exact completes_disable ha (State.fsDisableEff_drains ha hsd hseal hj ht hm) ht h8
  · intro s tile f ht h8 hm hd hf hlen
    exact completes_drained ht h8 hm hd hf hlen
  · intro s tile r c hl h8 hm hd hj hr hexecs
    exact completes_last_drain hl h8 hm hd hj hr hexecs
  · intro s pc tile f ha hsd hj hw ht hm
    exact completes_enable (State.fsEnableEff_enables ha hsd hj hw ht hm) ht hm
  · intro s pc ha hsd hj hall
    exact completes_finish (exec_fsEnable pc s) ha (State.fsEnableEff_idle ha hsd hj hall)
  · intro s tile ht h8 hw hf hall
    exact completes_ways ht h8 hw hf hall
  · intro s pc ways ha hsv hw hall
    refine completes_ran (exec_fsSetWays pc ways false s) (State.fsSetWaysEff_sets ha hsv hw hall)
      ⟨?_, State.resultOf_finish_of_porter ha rfl _, only_ran (by simp [Part.all, Part.same, State.ran])⟩
    exact congrArg (fun j : Jobs => { j with waysNext := ways }) (s.ensureExec_jobs pc 0x0105)
  · intro s pc ways tile ha hsv ht hm
    exact completes_finish (exec_fsSetWays pc ways true s) ha (State.fsSetWaysEff_refused ha hsv ht hm)
  · intro s pc cap tile ha hop ht h8 hone
    obtain ⟨l, heff⟩ := State.fsSetDirtyLimitEff_one ha hop ht hone
    exact completes_dirtyLimit heff h8

end Sys2Proof.Machine
end

section
/-! What refutes the statement on media channels: a program that a STATUS reply reports suspended is not ended by that reply (06_medium.md R177, R184,
R185). The clause on DONE leaves PROG_SUSP of the replies free, and lets a read of the channel await the suspension. -/

namespace Sys2Proof.Machine

open Sys2Proof

/-! ### The replies of the dies (R177, R197) -/

/-- R177: taking up replies changes what the dies reported, and nothing that runs on the channel. -/
theorem Channel.kept_takeReplies (k : Channel) (r : Nat) (replies : List Nat) : (k.takeReplies r replies).kept = k.kept := by
  unfold Channel.takeReplies
  induction List.range 9 generalizing k with
  | nil => rfl
  | cons d l ih => exact ih _

theorem keeps_takeReplies (s : State) (t c r : Nat) (replies : List Nat) : Keeps Tile.store s (s.modCh t c fun k => k.takeReplies r replies) :=
  keeps_modCh fun k => k.kept_takeReplies r replies

/-- R197: a right SIGNATURE only starts the count of wrong ones anew. -/
theorem keeps_signature_right {w : Nat} (h : replySig w = 0xA) (s : State) (t c r d : Nat) : Keeps Tile.store s (s.signature t c r d w) := by
  simp only [State.signature, h, if_true, Nat.zero_lt_succ]
  exact keeps_modCh

theorem keeps_signatures_right {replies l : List Nat} {t c r : Nat} (h : ∀ d ∈ l, replySig (replies.getD d 0) = 0xA) (s : State) :
    Keeps Tile.store s (l.foldl (fun a d => a.signature t c r d (replies.getD d 0)) s) := by
  induction l generalizing s with
  | nil => exact .refl s
  | cons d l ih => exact (keeps_signature_right (h d (.head _)) s t c r d).trans (ih (fun e he => h e (.tail _ he)) _)

/-! ### Suspended operations do not end (R184, R185) -/

/-- R184: a DONE ends no operation where each one of the channel is suspended. -/
theorem keeps_statusDone_suspended {s : State} {t c : Nat} (h : ∀ o ∈ (s.chan t c).ops, o.susp = true) (r p : Nat) :
    Keeps Tile.store s (s.statusDone t c r p) := by
  have hnone : (s.chan t c).ops.find? (fun o => locRank o.loc == r && locPlane o.loc == p && !o.susp) = none :=
    List.find?_eq_none.2 fun o ho => by simp [h o ho]
  simp only [State.statusDone, hnone]
  exact .ite _ (.refl s) keeps_modCh

theorem keeps_statusDones_suspended {t c r : Nat} (l : List Nat) {s : State} (h : ∀ o ∈ (s.chan t c).ops, o.susp = true) :
    Keeps Tile.store s (l.foldl (fun a p => a.statusDone t c r p) s) := by
  induction l generalizing s with
  | nil => exact .refl s
  | cons p l ih =>
    have hk := keeps_statusDone_suspended h r p
    exact hk.trans (ih (by rwa [hk.ops]))

/-- The operation as a suspension that its dies report leaves it. -/
def MedOp.suspended (o : MedOp) : MedOp := { o with susp := true, susps := o.susps + 1 }

/-- R177, R185: the operations of a channel that the dies of a rank report suspended are marked. -/
def Channel.markSuspended (k : Channel) (r : Nat) : Channel :=
  { k with ops := k.ops.map (fun o => if k.reportsSusp r o ∧ !o.susp then o.suspended else o) }

/-- R177: a channel has taken up the replies of a rank and marked what they report suspended. -/
def State.repliesTaken (s : State) (t c r : Nat) (replies : List Nat) : State :=
  (s.modCh t c fun k => k.takeReplies r replies).modCh t c fun k => k.markSuspended r

/-- R184, R197: the signatures of dies are judged, and then the DONE of each plane. -/
def State.repliesJudged (s : State) (t c r : Nat) (dies replies : List Nat) : State :=
  (List.range 4).foldl (fun a p => a.statusDone t c r p) (dies.foldl (fun a d => a.signature t c r d (replies.getD d 0)) s)

section
variable {s : State} {t c r : Nat} {replies : List Nat} {o : MedOp}

theorem chan_of_run {x : State} {f : State → State} (h : s.run f = .next x) (u k : Nat) : x.chan u k = (f s).chan u k := by
  cases h
  rfl

theorem exec_statusReply (s : State) : exec (.statusReply t c r replies) s = s.run (fun x => x.statusReplyEff t c r replies) := rfl

theorem State.statusReplyEff_of_service (ht : s.alive t = true) (hst : (s.chan t c).st = 2) (hr : bitOf (s.chan t c).ranks r = true) :
    s.statusReplyEff t c r replies = ((s.repliesTaken t c r replies).repliesJudged t c r ((s.chan t c).liveDies r) replies).settle :=
  if_neg (by simp [ht, hst, hr])

theorem keeps_repliesTaken : Keeps Tile.waits s (s.repliesTaken t c r replies) :=
  (keeps_takeReplies ..).waits_of_store.trans keeps_modTile

theorem Channel.ops_markSuspended {k : Channel} (ho : k.ops = [o]) (hs : o.susp = false) (hrep : k.reportsSusp r o = true) :
    (k.markSuspended r).ops = [o.suspended] := by
  simp [Channel.markSuspended, MedOp.suspended, ho, hs, hrep]

theorem State.ops_repliesTaken (h8 : t < 8) (hc : c < 8) (ho : (s.chan t c).ops = [o]) (hs : o.susp = false)
    (hrep : ((s.chan t c).takeReplies r replies).reportsSusp r o = true) : ((s.repliesTaken t c r replies).chan t c).ops = [o.suspended] := by
  have hops : ((s.modCh t c fun k => k.takeReplies r replies).chan t c).ops = [o] := ((keeps_takeReplies s t c r replies).ops t c).trans ho
  rw [State.repliesTaken, State.chan_modCh_self _ h8 hc]
  refine Channel.ops_markSuspended hops hs ?_
  rwa [s.chan_modCh_self h8 hc]

/-- Right signatures and any DONE keep the content of every tile where each operation of the channel is suspended. -/
theorem keeps_repliesJudged_suspended {dies : List Nat} (hsig : ∀ d ∈ dies, replySig (replies.getD d 0) = 0xA)
    (h : ∀ o ∈ (s.chan t c).ops, o.susp = true) : Keeps Tile.store s (s.repliesJudged t c r dies replies) := by
  have hsigs := keeps_signatures_right (t := t) (c := c) (r := r) hsig s
  exact hsigs.trans (keeps_statusDones_suspended _ (by rwa [hsigs.ops]))

/-- R177, R184: the only operation of a channel, once a reply reports it suspended, stays there suspended, whatever DONE the replies carry. -/
theorem State.ops_statusReplyEff_suspended (ht : s.alive t = true) (h8 : t < 8) (hc : c < 8) (hn : s.noWork = true) (hst : (s.chan t c).st = 2)
    (hr : bitOf (s.chan t c).ranks r = true) (ho : (s.chan t c).ops = [o]) (hs : o.susp = false)
    (hrep : ((s.chan t c).takeReplies r replies).reportsSusp r o = true)
    (hsig : ∀ d ∈ (s.chan t c).liveDies r, replySig (replies.getD d 0) = 0xA) :
    ((s.statusReplyEff t c r replies).chan t c).ops = [o.suspended] := by
  have hops := State.ops_repliesTaken h8 hc ho hs hrep
  have hjudged : Keeps Tile.store (s.repliesTaken t c r replies) _ := keeps_repliesJudged_suspended (r := r) hsig
    (by rw [hops]; exact List.forall_mem_singleton.2 rfl)
  have hstill := (State.still_of_noWork hn).keep (keeps_repliesTaken.trans hjudged.waits_of_store)
  rw [State.statusReplyEff_of_service ht hst hr, (hjudged.trans (State.settle_keeps hstill)).ops, hops]

end

/-! ### A die that reports both -/

/-- A program of a calibration page on plane 0 of channel 0. -/
def calibProgram : MedOp := { loc := 1, job := .calib 0, page := some { kind := .calibration } }

/-- Tile 0 in Serve with that program running, and a host-serving read of its plane that awaits the suspension. -/
def calibSuspending : State :=
  ({ md := { mode := .serve } } : State).modCh 0 0 fun k =>
    { k with st := 2, ranks := 1, ops := [calibProgram], reads := [{ id := 1, loc := 4096, line := 0, st := .suspend }] }

/-- DONE of plane 0 from all nine dies, die 0 with PROG_SUSP of it too: an answer that R187 expects of no die, but that no premise rules out. -/
def doneWhileSuspended : List Nat := (10 + 2 ^ 16 + 2 ^ 24) :: List.replicate 8 (10 + 2 ^ 24)

/-- Refutes O36: in `calibSuspending` every premise of the clause on the DONE of every die holds for `doneWhileSuspended`, and the program stays on its
channel, suspended. -/
theorem not_mediaChannels : ¬ Obligations.MediaChannels := by
  unfold Obligations.MediaChannels
  rintro ⟨-, -, -, -, -, -, -, hdone, -⟩
  have hwork : calibSuspending.noWork = true := by decide +kernel
  have hops : (calibSuspending.chan 0 0).ops = [calibProgram] := by decide +kernel
  obtain ⟨t, ht, -, -, hend, -⟩ := hdone calibSuspending 0 0 0 0 0 doneWhileSuspended calibProgram { kind := .calibration } (by decide) (by decide)
    (by decide) hwork (by decide +kernel) (by decide +kernel) hops rfl rfl rfl rfl rfl (by decide +kernel) (by decide +kernel) (by decide +kernel) rfl
    (by decide) (by decide)
  have hstays : ((calibSuspending.statusReplyEff 0 0 0 doneWhileSuspended).chan 0 0).ops = [calibProgram.suspended] :=
    State.ops_statusReplyEff_suspended (by decide +kernel) (by decide) (by decide) hwork (by decide +kernel) (by decide +kernel) hops rfl (by decide +kernel)
      (by decide +kernel)
  rw [exec_statusReply] at ht
  rw [chan_of_run ht, hstays] at hend
  exact List.cons_ne_nil _ _ hend

end Sys2Proof.Machine
end

section
/-! What refutes the statement on media management: a journal page goes to the page that its ring names only where the block of that page is on a rank
in service, and the premise speaks of the page's plane (07_translation.md R211, R213, R224, R226, R233). Both are on one rank where the ring stands within
its block, which the statement does not ask of its state. -/

namespace Sys2Proof.Machine

open Sys2Proof

theorem exec_journalTimerExpire (tile : Nat) (s : State) : exec (.journalTimerExpire tile) s = s.run (fun x => x.journalTimerExpireEff tile) := rfl

/-- Tile 0 in Serve with one record in its staging. Of channel 0 only rank 1 is in service; the journal ring stands at its block 0, on rank 0, but so far
past its 256 pages that the locator it names is on rank 1. No command brings a ring there, as each takes up the next block after page 255. -/
def journalPastBlock : State :=
  (({ md := { mode := .serve } } : State).modCh 0 0 fun k => { k with st := 2, ranks := 2 }).modXl 0 fun x =>
    { x with mapState := 1, spare := 1000, spare0 := 1000, jpos := 1, rings := [(4, { page := 2 ^ 24 })] }

/-- R213: the page that the ring names can be programmed, on rank 1. -/
theorem journalPastBlock_metaFree : journalPastBlock.metaFree 0 (journalPastBlock.jloc 0) = true := by decide +kernel

/-- R224, R226: block 2 of plane 32, the first FREE one on rank 1, takes the place of that block, and the program goes to its page 0. -/
theorem journalPastBlock_ops :
    ((journalPastBlock.journalTimerExpireEff 0).chan 0 (locCh (journalPastBlock.jloc 0))).ops.map (·.loc) = [(planeBase 32 + 2) * 256] := by
  decide +kernel

/-- Refutes O38: in `journalPastBlock` every premise of the clause on JOURNAL_TIMER_EXPIRE holds, and no program is at the page that the ring named. -/
theorem not_mediaManagement : ¬ Obligations.MediaManagement := by
  unfold Obligations.MediaManagement
  rintro ⟨-, -, -, -, -, -, -, -, -, htimer, -⟩
  obtain ⟨t, ht, -, hops, -⟩ := htimer journalPastBlock 0 (by decide +kernel) (by decide) (by decide +kernel) (by decide +kernel) journalPastBlock_metaFree
  rw [exec_journalTimerExpire] at ht
  rw [chan_of_run ht] at hops
  obtain ⟨o, ho, hat⟩ := List.any_eq_true.1 hops
  have hloc : o.loc = journalPastBlock.jloc 0 := eq_of_beq (Bool.and_eq_true _ _ ▸ hat).2
  have hmem : journalPastBlock.jloc 0 ∈ [(planeBase 32 + 2) * 256] := hloc ▸ journalPastBlock_ops ▸ List.mem_map_of_mem ho
  exact absurd hmem (by decide +kernel)

end Sys2Proof.Machine
end

section
/-! What the work of the tiles leaves of what is known to have failed and of the scrubbers (08_integrity.md R260, R275; 01_architecture.md R19).
One lemma per operation, in the order of the model's files; each rests on the lemmas of the operations that it calls. -/

namespace Sys2Proof.Machine

open Sys2Proof

/-- What is known to have failed: the tiles, the fenced links, and whether a link fault holds the package in Degraded. -/
def ModeState.faults (d : ModeState) : Nat × List (Nat × Bool) × Bool := (d.failed, d.fenced, bitOf d.causes 1)

/-- What the scrubber of a tile has counted: its passes, the visits of this pass and the budget spent. -/
def Tile.scrub (x : Tile) : Nat × Nat × List (Nat × Nat) := (x.int.passes, agetD 8 0 x.int.stats, x.bel.spent)

/-- What has failed, the power, and what the scrubber of each tile has counted. -/
def State.steady (s : State) : (Nat × List (Nat × Bool) × Bool) × PowerState × (Nat → Nat × Nat × List (Nat × Nat)) :=
  (s.md.faults, s.pw, fun u => (s.tile u).scrub)

theorem State.steady_congr {s t : State} (hm : t.md = s.md) (hp : t.pw = s.pw) (ht : t.tiles = s.tiles) : t.steady = s.steady := by
  have htile : t.tile = s.tile := funext fun u => by rw [State.tile, ht, State.tile]
  rw [State.steady, hm, hp, htile, State.steady]

/-- Bit 1 alone: what is subtracted by a cleared bit is 1, or a multiple of 4. -/
theorem bitOf_putBit_one {b : Nat} (h : b ≠ 1) (n : Nat) (v : Bool) : bitOf (putBit n b v) 1 = bitOf n 1 := by
  cases v with
  | true => simp [putBit, setBit, bitOf_eq_testBit, h]
  | false =>
    simp only [putBit, clearBit, Bool.false_eq_true, if_false]
    split
    · next hset =>
      have hle : 2 ^ b ≤ n := Nat.ge_two_pow_of_testBit (bitOf_eq_testBit n b ▸ hset)
      obtain rfl | ⟨k, rfl⟩ : b = 0 ∨ ∃ k, b = k + 2 := by
        rcases b with - | - | k
        · exact .inl rfl
        · exact absurd rfl h
        · exact .inr ⟨k, rfl⟩
      · simp [bitOf] at hset ⊢
        omega
      · rw [Nat.pow_add] at hle ⊢
        simp [bitOf]
        omega
    · rfl

section
variable {s : State}

theorem State.steady_modTile (t : Nat) {f : Tile → Tile} (h : ∀ x, (f x).scrub = x.scrub) : (s.modTile t f).steady = s.steady :=
  congrArg (fun l => (s.md.faults, s.pw, l)) (funext (State.tile_modTile_keeps Tile.scrub s t h))

@[simp] theorem steady_ite (p : Prop) [Decidable p] (a b : State) : (if p then a else b).steady = if p then a.steady else b.steady :=
  apply_ite State.steady p a b

/-- A fold keeps what is steady when each of its steps does. -/
@[simp] theorem foldl_steady {β : Type} {f : State → β → State} (h : ∀ a b, (f a b).steady = a.steady) (l : List β) (s : State) :
    (l.foldl f s).steady = s.steady := by
  induction l generalizing s with
  | nil => rfl
  | cons b l ih => exact (ih _).trans (h s b)

/-- The same for a fold that carries a value beside the state. -/
@[simp] theorem foldl_fst_steady {α β : Type} {f : State × α → β → State × α} (h : ∀ a b, (f a b).1.steady = a.1.steady) (l : List β)
    (p : State × α) : (l.foldl f p).1.steady = p.1.steady := by
  induction l generalizing p with
  | nil => rfl
  | cons b l ih => exact (ih _).trans (h p b)

/-! ### The tiles -/

@[simp] theorem State.modXl_steady (t : Nat) (f : Xlate → Xlate) : (s.modXl t f).steady = s.steady := State.steady_modTile t fun _ => rfl
@[simp] theorem State.modMed_steady (t : Nat) (f : Media → Media) : (s.modMed t f).steady = s.steady := State.steady_modTile t fun _ => rfl
@[simp] theorem State.modCh_steady (t c : Nat) (f : Channel → Channel) : (s.modCh t c f).steady = s.steady := State.steady_modTile t fun _ => rfl
@[simp] theorem State.modHead_steady (t : Nat) (f : Head → Head) : (s.modHead t f).steady = s.steady := State.steady_modTile t fun _ => rfl
@[simp] theorem State.modBlk_steady (t b : Nat) (f : Blk → Blk) : (s.modBlk t b f).steady = s.steady := State.steady_modTile t fun _ => rfl
@[simp] theorem State.modCommit_steady (t l : Nat) (f : Commit → Commit) : (s.modCommit t l f).steady = s.steady := State.steady_modTile t fun _ => rfl
@[simp] theorem State.modFront_steady (t p f : Nat) (g : Front → Front) : (s.modFront t p f g).steady = s.steady := State.steady_modTile t fun _ => rfl
@[simp] theorem State.modCupT_steady (t : Nat) (f : CupTile → CupTile) : (s.modCupT t f).steady = s.steady := State.steady_modTile t fun _ => rfl
@[simp] theorem State.modCarT_steady (t : Nat) (f : CarTile → CarTile) : (s.modCarT t f).steady = s.steady := State.steady_modTile t fun _ => rfl
@[simp] theorem State.modFs_steady (t : Nat) (f : FrontStore → FrontStore) : (s.modFs t f).steady = s.steady := State.steady_modTile t fun _ => rfl
@[simp] theorem State.modTxn_steady (t : Nat) (f : Txn → Txn) : (s.modTxn t f).steady = s.steady := State.steady_modTile t fun _ => rfl
@[simp] theorem State.modClkT_steady (t : Nat) (f : ClkTile → ClkTile) : (s.modClkT t f).steady = s.steady := State.steady_modTile t fun _ => rfl
@[simp] theorem State.modHaz_steady (t i : Nat) (f : Haz → Haz) : (s.modHaz t i f).steady = s.steady := State.steady_modTile t fun _ => rfl
@[simp] theorem State.modReq_steady (r : Req) (f : Req → Req) : (s.modReq r f).steady = s.steady := State.steady_modTile r.head fun _ => rfl

@[simp] theorem State.modInt_steady (t : Nat) {f : Integ → Integ} (h : ∀ x, (f x).passes = x.passes ∧ agetD 8 0 (f x).stats = agetD 8 0 x.stats) :
    (s.modInt t f).steady = s.steady :=
  State.steady_modTile t fun x => by simp [Tile.scrub, h]

@[simp] theorem State.modBelT_steady (t : Nat) {f : BelTile → BelTile} (h : ∀ b, (f b).spent = b.spent) : (s.modBelT t f).steady = s.steady :=
  State.steady_modTile t fun x => by simp [Tile.scrub, h]

/-! ### The package -/

@[simp] theorem State.modMd_steady {f : ModeState → ModeState}
    (h : ∀ d, (f d).failed = d.failed ∧ (f d).fenced = d.fenced ∧ bitOf (f d).causes 1 = bitOf d.causes 1) : (s.modMd f).steady = s.steady :=
  congrArg (fun x => (x, s.pw, fun u => (s.tile u).scrub)) (by simp [ModeState.faults, h])

@[simp] theorem State.modPw_faults (f : PowerState → PowerState) : (s.modPw f).steady.1 = s.steady.1 := rfl
@[simp] theorem State.emit_steady (o : Out) : (s.emit o).steady = s.steady := rfl
@[simp] theorem State.bumpFree_steady : s.bumpFree.steady = s.steady := rfl
@[simp] theorem State.modPs_steady (f : ParamStore → ParamStore) : (s.modPs f).steady = s.steady := rfl
@[simp] theorem State.modThm_steady (f : Thermal → Thermal) : (s.modThm f).steady = s.steady := rfl
@[simp] theorem State.modRing_steady (r : Nat) (f : Ring → Ring) : (s.modRing r f).steady = s.steady := rfl
@[simp] theorem State.setReg_steady (o : Nat) (v : W32) : (s.setReg o v).steady = s.steady := rfl
@[simp] theorem State.setFld_steady (o h l v : Nat) : (s.setFld o h l v).steady = s.steady := rfl
@[simp] theorem State.addFld_steady (o h l v : Nat) : (s.addFld o h l v).steady = s.steady := rfl
@[simp] theorem State.latchOnly_steady (o b : Nat) : (s.latchOnly o b).steady = s.steady := rfl
@[simp] theorem State.modCar_steady (f : Caravan → Caravan) : (s.modCar f).steady = s.steady := rfl
@[simp] theorem State.modCup_steady (f : Cupola → Cupola) : (s.modCup f).steady = s.steady := rfl
@[simp] theorem State.modCap_steady (f : Capacity → Capacity) : (s.modCap f).steady = s.steady := rfl
@[simp] theorem State.modSec_steady (f : Security → Security) : (s.modSec f).steady = s.steady := rfl
@[simp] theorem State.modJobs_steady (f : Jobs → Jobs) : (s.modJobs f).steady = s.steady := rfl
@[simp] theorem State.modWin_steady (w : Nat) (f : PerfWin → PerfWin) : (s.modWin w f).steady = s.steady := rfl
@[simp] theorem State.modPeer_steady (i : Nat) (f : Peer → Peer) : (s.modPeer i f).steady = s.steady := rfl
@[simp] theorem State.modLd_steady (c : Nat) (f : LDev → LDev) : (s.modLd c f).steady = s.steady := rfl
@[simp] theorem State.psRequest_steady (s : State) (c : PsCaller) : (s.psRequest c).steady = s.steady := rfl
@[simp] theorem State.finish_steady (s : State) (pc : PortCmd) (r : CmdResult) : (s.finish pc r).steady = s.steady := rfl
@[simp] theorem State.ok_steady (s : State) (pc : PortCmd) (r : List (Nat × Nat)) : (s.ok pc r).steady = s.steady := rfl

@[simp] theorem State.gbEventN_steady (s : State) (n c k : Nat) (l : List Nat) (r : Bool) : (s.gbEventN n c k l r).steady = s.steady :=
  State.steady_congr (by simp) (by simp) (by simp)

@[simp] theorem State.event_steady (s : State) (c k : Nat) (l : List Nat) : (s.event c k l).steady = s.steady :=
  State.steady_congr (by simp) (by simp) (by simp)

@[simp] theorem State.latch_steady (s : State) (o b c k : Nat) (l : List Nat) : (s.latch o b c k l).steady = s.steady :=
  State.steady_congr (by simp) (by simp) (by simp)

@[simp] theorem State.alert_steady (s : State) (b : Nat) : (s.alert b).steady = s.steady := State.steady_congr (by simp) (by simp) (by simp)

@[simp] theorem State.setMode_steady (s : State) (m : Mode) : (s.setMode m).steady = s.steady := by
  unfold State.setMode
  split <;> simp

@[simp] theorem State.psPut_steady (s : State) (i : Nat) (v : List Byte) : (s.psPut i v).steady = s.steady :=
  State.steady_congr (by simp) (by simp) (by simp)

end

end Sys2Proof.Machine
end

section
/-! What the work of the tiles leaves as it is, continued: the operations up to the entry of requests (03_transactions.md R77, R89;
08_integrity.md R260, R275). -/

namespace Sys2Proof.Machine

open Sys2Proof

@[simp] theorem State.cqWrite_steady (s : State) (r : Nat) (head8 : List Byte) (rest : List Byte) :
    (s.cqWrite r head8 rest).steady = s.steady := by
  simp [State.cqWrite]

@[simp] theorem State.ringMsix_steady (s : State) (r : Nat) : (s.ringMsix r).steady = s.steady := by simp [State.ringMsix]
@[simp] theorem State.ringCount_steady (s : State) (r : Nat) (now : Bool) : (s.ringCount r now).steady = s.steady := by simp [State.ringCount]

/-! ### Machine/PerfOps.lean: counters and bandwidth windows -/

@[simp] theorem State.perfOvf_steady (s : State) (t n : Nat) : (s.perfOvf t n).steady = s.steady := by simp [State.perfOvf]
@[simp] theorem State.setCnt_steady (s : State) (t n v : Nat) : (s.setCnt t n v).steady = s.steady := State.steady_modTile t fun _ => rfl

@[simp] theorem State.cntAdd_steady (k : Nat) (s : State) (t n d : Nat) : (State.cntAdd k s t n d).steady = s.steady := by
  induction k generalizing s n d with
  | zero => rfl
  | succ k ih => simp [State.cntAdd, ih]

@[simp] theorem State.perfEvent_steady (s : State) (t no q d : Nat) : (s.perfEvent t no q d).steady = s.steady := by
  simp [State.perfEvent]

@[simp] theorem State.settleLevel_steady (s : State) (t : Nat) : (s.settleLevel t).steady = s.steady := by simp [State.settleLevel]

@[simp] theorem State.winCount_steady (s : State) (h : Nat) (write : Bool) : (s.winCount h write).steady = s.steady := rfl

@[simp] theorem State.winClose_steady (s : State) (w heads us : Nat) (short : Bool) : (s.winClose w heads us short).steady = s.steady := by
  simp [State.winClose]

@[simp] theorem State.winCloseAll_steady (s : State) (p : Nat → Bool) (us : Nat) : (s.winCloseAll p us).steady = s.steady := by
  simp [State.winCloseAll]

/-! ### Machine/BelfryOps.lean: conversions of temperature sensors -/

@[simp] theorem State.convStart_steady (s : State) (c : Nat) : (s.convStart c).steady = s.steady := by
  unfold State.convStart
  (repeat' split) <;> rfl

@[simp] theorem State.requestConv_steady (s : State) (ids : List Nat) (prio : Nat) : (s.requestConv ids prio).steady = s.steady := by
  simp [State.requestConv]

/-! ### Machine/GeoOps.lean: messages on the mesh -/

@[simp] theorem State.perfMesh_steady (s : State) (t port cls : Nat) : (s.perfMesh t port cls).steady = s.steady := by
  simp [State.perfMesh]

@[simp] theorem State.meshPut_steady (s : State) (t : Nat) (m : Msg) : (s.meshPut t m).steady = s.steady := by
  unfold State.meshPut
  split <;> simp

@[simp] theorem State.meshSend_steady (s : State) (t : Nat) (m : Msg) : (s.meshSend t m).steady = s.steady := by simp [State.meshSend]
@[simp] theorem State.syncAll_steady (s : State) (b : MsgBody) : (s.syncAll b).steady = s.steady := by simp [State.syncAll]

/-! ### Machine/MedOps.lean: command packets and the ladder -/

@[simp] theorem State.caSend_steady (s : State) (t c rank : Nat) (cmd : CaCmd) : (s.caSend t c rank cmd).steady = s.steady := by
  simp [State.caSend]

@[simp] theorem State.caIssue_steady (s : State) (t c rank : Nat) (cmd : CaCmd) : (s.caIssue t c rank cmd).steady = s.steady := by
  unfold State.caIssue
  split <;> simp

/-- The count of the pages visited is that of the scrubber alone. -/
@[simp] theorem State.stat_steady (s : State) (t : Nat) {w : Nat} (n : Nat) (h : w ≠ 8) : (s.stat t w n).steady = s.steady :=
  State.modInt_steady t fun _ => ⟨rfl, agetD_aputD_ne (Ne.symm h) ..⟩

@[simp] theorem State.refresh_steady (s : State) (t loc prio age : Nat) (step3 : Bool) : (s.refresh t loc prio age step3).steady = s.steady := by
  unfold State.refresh
  dsimp only
  (repeat' split) <;> simp

@[simp] theorem State.rereads_steady (s : State) (t loc line used : Nat) (offs : List Int) :
    (s.rereads t loc line used offs).steady = s.steady := by
  simp [State.rereads]

@[simp] theorem State.readOutcome_steady (s : State) (t loc : Nat) (o : PageOut) (clamped : Bool) :
    (s.readOutcome t loc o clamped).steady = s.steady := by
  have hword : 16 + locCh loc ≠ 8 := by omega
  simp [State.readOutcome, hword]

/-! ### Machine/XlOps.lean: events of heads, modes, the map, the journal, placement and programs -/

@[simp] theorem State.evtTo_steady (s : State) (log : Nat) (r : EvtRec) (c : Nat) : (s.evtTo log r c).steady = s.steady := by simp [State.evtTo]

@[simp] theorem State.evtFor_steady (s : State) (lds : List Nat) (log : Nat) (r : EvtRec) : (s.evtFor lds log r).steady = s.steady := by
  simp [State.evtFor]

@[simp] theorem State.evtAll_steady (s : State) (log : Nat) (r : EvtRec) : (s.evtAll log r).steady = s.steady := by simp [State.evtAll]
@[simp] theorem State.evtSeg_steady (s : State) (cause seg : Nat) : (s.evtSeg cause seg).steady = s.steady := by simp [State.evtSeg]
@[simp] theorem State.enterMode_steady (s : State) (m : Mode) : (s.enterMode m).steady = s.steady := by simp [State.enterMode]
@[simp] theorem State.reevaluate_steady (s : State) : s.reevaluate.steady = s.steady := by simp [State.reevaluate]
/-- Of the causes of Degraded, only that of a link fault is looked at. -/
@[simp] theorem State.setCause_steady (s : State) {n : Nat} (on : Bool) (h : n ≠ 1) : (s.setCause n on).steady = s.steady := by
  unfold State.setCause
  split
  · rfl
  · rw [State.reevaluate_steady]
    exact State.modMd_steady fun d => ⟨rfl, rfl, bitOf_putBit_one h ..⟩
@[simp] theorem State.mapLineBad_steady (s : State) (t l : Nat) : (s.mapLineBad t l).steady = s.steady := by simp [State.mapLineBad]
@[simp] theorem State.setMap_steady (s : State) (t l : Nat) (e : MapEnt) : (s.setMap t l e).steady = s.steady := by simp [State.setMap]
@[simp] theorem State.judgeLost_steady (s : State) : s.judgeLost.steady = s.steady := by simp [State.judgeLost]

@[simp] theorem State.stcLookup_steady (s : State) (t l : Nat) : (s.stcLookup t l).1.steady = s.steady := by
  unfold State.stcLookup
  dsimp only
  split <;> simp

@[simp] theorem State.jappend_steady (s : State) (t : Nat) (r : JRec) : (s.jappend t r).steady = s.steady := by
  unfold State.jappend
  split <;> simp

@[simp] theorem State.jappendNow_steady (s : State) (t : Nat) (r : JRec) : (s.jappendNow t r).steady = s.steady := by simp [State.jappendNow]

@[simp] theorem State.invalidate_steady (s : State) (t loc : Nat) : (s.invalidate t loc).steady = s.steady := by
  unfold State.invalidate
  dsimp only
  (repeat' split) <;> simp

@[simp] theorem State.judgeThrottle_steady (s : State) (t : Nat) : (s.judgeThrottle t).steady = s.steady := by simp [State.judgeThrottle]
@[simp] theorem State.spareWarn_steady (s : State) (t : Nat) : (s.spareWarn t).steady = s.steady := by simp [State.spareWarn]
@[simp] theorem State.seal_steady (s : State) (t : Nat) : (s.seal t).steady = s.steady := by simp [State.seal]

@[simp] theorem State.retire_steady (s : State) (t b cause : Nat) (st : BlkSt) (note : Bool) :
    (s.retire t b cause st note).steady = s.steady := by
  simp [State.retire]

@[simp] theorem State.nameNext_steady (s : State) (t p f : Nat) : (s.nameNext t p f).steady = s.steady := by
  unfold State.nameNext
  dsimp only
  (repeat' split) <;> simp

@[simp] theorem State.forceClose_steady (s : State) (t p f : Nat) : (s.forceClose t p f).steady = s.steady := by
  unfold State.forceClose
  (repeat' split) <;> simp

@[simp] theorem State.openPage_steady (s0 : State) (t p f : Nat) : (s0.openPage t p f).1.steady = s0.steady := by
  unfold State.openPage
  dsimp only
  (repeat' split) <;> simp

@[simp] theorem State.takePage_steady (s : State) (t p f loc : Nat) : (s.takePage t p f loc).steady = s.steady := by simp [State.takePage]

@[simp] theorem State.placeOn_steady (t f : Nat) (l : List Nat) (s : State) : (State.placeOn t f l s).1.steady = s.steady := by
  induction l generalizing s with
  | nil => rfl
  | cons p l ih =>
    unfold State.placeOn
    have ho := s.openPage_steady t p f
    split
    · split <;> simp_all
    · exact ih s

@[simp] theorem State.place_steady (s : State) (t f : Nat) : (s.place t f).1.steady = s.steady := by
  unfold State.place
  have hp := State.placeOn_steady t f (s.planeOrder t) s
  split <;> simp_all

@[simp] theorem State.startProgram_steady (s : State) (t loc : Nat) (job : Job) (pg : Page) :
    (s.startProgram t loc job pg).steady = s.steady := by
  simp [State.startProgram]

@[simp] theorem State.retryMeta_steady (s : State) (t : Nat) : (s.retryMeta t).steady = s.steady := by simp [State.retryMeta]

/-! ### Machine/FsOps.lean: frames, answers to requests and reads of the medium -/

@[simp] theorem State.setFrame_steady (s : State) (t f : Nat) (x : Frame) : (s.setFrame t f x).steady = s.steady := by simp [State.setFrame]
@[simp] theorem State.touchWay_steady (s : State) (t f : Nat) : (s.touchWay t f).steady = s.steady := by simp [State.touchWay]
@[simp] theorem State.noteWait_steady (s : State) (t : Nat) : (s.noteWait t).steady = s.steady := by simp [State.noteWait]
@[simp] theorem State.measure_steady (s : State) (r : Req) (latNs : Nat) : (s.measure r latNs).steady = s.steady := by simp [State.measure]

@[simp] theorem State.respond_steady (s : State) (r : Req) (data : Option Line) (poison : Bool) (latNs : Nat) :
    (s.respond r data poison latNs).steady = s.steady := by
  simp [State.respond]

@[simp] theorem State.reply_steady (s : State) (h id : Nat) (data : Option Line) (poison : Bool) (latNs : Nat) :
    (s.reply h id data poison latNs).steady = s.steady := by
  unfold State.reply
  (repeat' split) <;> simp

@[simp] theorem State.answer_steady (s : State) (t : Nat) (r : Req) (data : Option Line) (poison : Bool) (latNs : Nat) :
    (s.answer t r data poison latNs).steady = s.steady := by
  simp [State.answer]

@[simp] theorem State.noteCase_steady (s : State) (r : Req) (cse base : Nat) : (s.noteCase r cse base).steady = s.steady := by
  simp [State.noteCase]

@[simp] theorem State.noteRecon_steady (s : State) (r : Req) : (s.noteRecon r).steady = s.steady := by
  unfold State.noteRecon
  (repeat' split) <;> simp

@[simp] theorem State.noteExtra_steady (s : State) (r : Req) : (s.noteExtra r).steady = s.steady := by simp [State.noteExtra]
@[simp] theorem State.noteWaited_steady (s : State) (r : Req) : (s.noteWaited r).steady = s.steady := by simp [State.noteWaited]

@[simp] theorem State.consume_steady (s : State) (t loc : Nat) (covers : Nat → Bool) (used : Nat → Nat) :
    (s.consume t loc covers used).steady = s.steady := by
  simp [State.consume]

@[simp] theorem State.lineRead_steady (s : State) (t loc line : Nat) (err : LineErr) (others : List LineErr) :
    (s.lineRead t loc line err others).1.steady = s.steady := by
  unfold State.lineRead
  dsimp only
  (repeat' split) <;> simp

@[simp] theorem State.reconRead_steady (s : State) (u : Nat × Nat) (line n : Nat) : (s.reconRead u line n).steady = s.steady := by
  simp [State.reconRead]

@[simp] theorem State.reconReads_steady (s : State) (t l line n : Nat) : (s.reconReads t l line n).steady = s.steady := by simp [State.reconReads]
@[simp] theorem State.reconOk_steady (s : State) (t l : Nat) : (s.reconOk t l).steady = s.steady := by simp [State.reconOk]

/-! ### Machine/CarOps.lean: messages of Caravan -/

@[simp] theorem State.carFrames_steady (s : State) (peer : Nat) (h : CarHdr) (lines : List Line) :
    (s.carFrames peer h lines).steady = s.steady := by
  unfold State.carFrames
  split
  · rfl
  · exact foldl_steady (by intros; rfl) _ _

@[simp] theorem State.carSend_steady (s : State) (peer : Nat) (h : CarHdr) (lines : List Line) :
    (s.carSend peer h lines).1.steady = s.steady := by
  simp [State.carSend]

@[simp] theorem State.carDelta_steady (s : State) (t seg peer : Nat) (isQ resent : Bool) 
    (stripe member jpos : Nat) (delta new : List (Nat × Line)) :
    (s.carDelta t seg peer isQ resent stripe member jpos delta new).steady = s.steady := by
  simp [State.carDelta]

@[simp] theorem State.judgeSync_steady (s : State) : s.judgeSync.steady = s.steady := by simp [State.judgeSync]

@[simp] theorem State.markStale_steady (s : State) (t peer g : Nat) : (s.markStale t peer g).steady = s.steady := by
  unfold State.markStale
  split <;> simp

@[simp] theorem State.carReadStart_steady (s : State) (use : CarUse) (stripe mask : Nat) (asked : List Nat) :
    (s.carReadStart use stripe mask asked).steady = s.steady := by
  simp [State.carReadStart]

/-! ### Machine/PathOps.lean: commits, upsets, and reads and writes at the owning tile -/

@[simp] theorem State.launchCommit_steady (s : State) (t : Nat) (c : Commit) : (s.launchCommit t c).steady = s.steady := by
  unfold State.launchCommit
  have hp := s.place_steady t c.job.frontier
  split <;> simp_all

@[simp] theorem State.retryPrograms_steady (s : State) (t : Nat) : (s.retryPrograms t).steady = s.steady := by simp [State.retryPrograms]

@[simp] theorem State.beginCommit_steady (s : State) (t : Nat) (job : Job) (seg : Nat) (pg : Page) :
    (s.beginCommit t job seg pg).steady = s.steady := by
  simp [State.beginCommit]

@[simp] theorem State.sendCupola_steady (s : State) (t seg jpos : Nat) (resent : Bool) (delta : List (Nat × Line)) :
    (s.sendCupola t seg jpos resent delta).1.steady = s.steady := by
  unfold State.sendCupola
  (repeat' split) <;> simp

@[simp] theorem State.sendCaravan_steady (s : State) (t seg jpos : Nat) (resent : Bool) (delta new : List (Nat × Line)) :
    (s.sendCaravan t seg jpos resent delta new).1.steady = s.steady := by
  unfold State.sendCaravan
  dsimp only
  split
  · rfl
  · refine foldl_fst_steady (fun a h => ?_) _ _
    split <;> simp

@[simp] theorem State.replaceEntry_steady (s : State) (t seg : Nat) (e : MapEnt) : (s.replaceEntry t seg e).steady = s.steady := by
  simp [State.replaceEntry]

@[simp] theorem State.fetchLine_steady (s : State) (t l : Nat) : (s.fetchLine t l).steady = s.steady := by
  unfold State.fetchLine
  dsimp only
  split <;> simp

@[simp] theorem State.commitJournal_steady (s : State) (t seg : Nat) : (s.commitJournal t seg).steady = s.steady := by
  unfold State.commitJournal
  (repeat' split) <;> simp

@[simp] theorem State.noteParityWait_steady (s : State) (t : Nat) (was : Bool) : (s.noteParityWait t was).steady = s.steady := by
  simp [State.noteParityWait]

@[simp] theorem State.commitCaravan_steady (s : State) (t seg : Nat) : (s.commitCaravan t seg).steady = s.steady := by
  unfold State.commitCaravan
  split <;> simp

@[simp] theorem State.commitDelta_steady (s : State) (t seg : Nat) (delta : List (Nat × Line)) :
    (s.commitDelta t seg delta).steady = s.steady := by
  unfold State.commitDelta
  (repeat' split) <;> simp

@[simp] theorem State.carStaleRow_steady (s : State) (t row : Nat) : (s.carStaleRow t row).steady = s.steady := by simp [State.carStaleRow]

@[simp] theorem State.commitCupola_steady (s : State) (t seg : Nat) : (s.commitCupola t seg).steady = s.steady := by
  unfold State.commitCupola
  dsimp only
  (repeat' split) <;> simp

@[simp] theorem State.dropDelta_steady (s : State) (t l : Nat) (poison : Bool) : (s.dropDelta t l poison).steady = s.steady := by
  simp [State.dropDelta]

@[simp] theorem State.dropSeg_steady (s : State) (t l : Nat) (poison : Bool) : (s.dropSeg t l poison).steady = s.steady := by
  unfold State.dropSeg
  (repeat' split) <;> simp

@[simp] theorem State.poisonSeg_steady (s : State) (t l : Nat) : (s.poisonSeg t l).steady = s.steady := by simp [State.poisonSeg]

@[simp] theorem State.clearFlips_steady (s : State) (t f : Nat) (lines : Nat → Bool) : (s.clearFlips t f lines).steady = s.steady := by
  simp [State.clearFlips]

@[simp] theorem State.metaLost_steady (s : State) (t f : Nat) : (s.metaLost t f).steady = s.steady := by simp [State.metaLost]
@[simp] theorem State.lineLost_steady (s : State) (t f line : Nat) : (s.lineLost t f line).steady = s.steady := by simp [State.lineLost]
@[simp] theorem State.writeBack_steady (s : State) (t f bad : Nat) : (s.writeBack t f bad).steady = s.steady := by simp [State.writeBack]

@[simp] theorem State.startCommitBad_steady (s : State) (t f bad : Nat) : (s.startCommitBad t f bad).steady = s.steady := by
  simp [State.startCommitBad]

@[simp] theorem State.startCommit_steady (s : State) (t f : Nat) : (s.startCommit t f).steady = s.steady := by simp [State.startCommit]
@[simp] theorem State.withdrawNow_steady (s : State) (t f : Nat) : (s.withdrawNow t f).steady = s.steady := by simp [State.withdrawNow]
@[simp] theorem State.withdraw_steady (s : State) (t f : Nat) : (s.withdraw t f).steady = s.steady := by simp [State.withdraw]

@[simp] theorem State.tagRecover_steady (s : State) (t f w : Nat) (hard metaBad : Bool) :
    (s.tagRecover t f w hard metaBad).steady = s.steady := by
  simp [State.tagRecover]

@[simp] theorem State.tagTaken_steady (s : State) (t f w : Nat) : (s.tagTaken t f w).steady = s.steady := by simp [State.tagTaken]

@[simp] theorem State.tagRead_steady (s : State) (t f flips : Nat) (hard metaBad : Bool) :
    (s.tagRead t f flips hard metaBad).1.steady = s.steady := by
  unfold State.tagRead
  dsimp only
  (repeat' split) <;> simp

@[simp] theorem State.tagCheck_steady (s : State) (t l : Nat) (u : Upset) : (s.tagCheck t l u).1.steady = s.steady := by simp [State.tagCheck]

@[simp] theorem State.frameCheck_steady (s : State) (t f line : Nat) (u : Upset) (rd : Bool) :
    (s.frameCheck t f line u rd).steady = s.steady := by
  simp [State.frameCheck]

@[simp] theorem State.hazDrop_steady (s : State) (t id : Nat) : (s.hazDrop t id).steady = s.steady := by simp [State.hazDrop]

@[simp] theorem State.hazAnswer_steady (s : State) (t : Nat) (r : Req) (data : Option Line) (poison : Bool) (latNs : Nat) :
    (s.hazAnswer t r data poison latNs).steady = s.steady := by
  simp [State.hazAnswer]

@[simp] theorem State.staleRead_steady (s : State) (t c : Nat) : (s.staleRead t c).steady = s.steady := by simp [State.staleRead]
@[simp] theorem State.issueRead_steady (s : State) (t : Nat) (r : MedRead) : (s.issueRead t r).steady = s.steady := by simp [State.issueRead]

@[simp] theorem State.serveRead_steady (s : State) (t : Nat) (q : MedRead) (dataIn : Bool) : (s.serveRead t q dataIn).steady = s.steady := by
  simp [State.serveRead]

@[simp] theorem State.planeRead_steady (s : State) (t id loc line : Nat) (dataIn : Bool) :
    (s.planeRead t id loc line dataIn).steady = s.steady := by
  simp [State.planeRead]

@[simp] theorem State.setLost_steady (s : State) (t l : Nat) : (s.setLost t l).steady = s.steady := by simp [State.setLost]
@[simp] theorem State.uncorr_steady (s : State) (t l : Nat) : (s.uncorr t l).steady = s.steady := by simp [State.uncorr]

@[simp] theorem State.readCaravan_steady (s : State) (t o : Nat) (r : Req) (l line latNs : Nat) :
    (s.readCaravan t o r l line latNs).steady = s.steady := by
  unfold State.readCaravan
  dsimp only
  split <;> simp

@[simp] theorem State.readRecon_steady (s : State) (t : Nat) (r : Req) (l line latNs : Nat) :
    (s.readRecon t r l line latNs).steady = s.steady := by
  unfold State.readRecon
  (repeat' split) <;> simp

@[simp] theorem State.xlLookup_steady (s : State) (t l : Nat) (u : Upset) : (s.xlLookup t l u).1.steady = s.steady := by
  unfold State.xlLookup
  dsimp only
  (repeat' split) <;> simp

@[simp] theorem State.readPerform_steady (s : State) (t : Nat) (r : Req) (l line : Nat) (u : Upset) (latNs : Nat) (idle : Bool) :
    (s.readPerform t r l line u latNs idle).steady = s.steady := by
  unfold State.readPerform
  have ht := s.tagCheck_steady t l u
  generalize s.tagCheck t l u = checked at ht ⊢
  obtain ⟨s0, recovered⟩ := checked
  dsimp -zeta only at ht ⊢
  extract_lets +onlyGivenNames s1 s2
  have h2 : s2.steady = s.steady := by unfold s2; split <;> simp [s1, ht]
  clear_value s2
  dsimp only
  split
  · simp [h2]
  · split
    · simp [h2]
    · split <;> simp [h2]

@[simp] theorem State.markFront_steady (s : State) (t l : Nat) : (s.markFront t l).steady = s.steady := by simp [State.markFront]

@[simp] theorem State.writeStored_steady (s0 : State) (t : Nat) (r : Req) (f latNs : Nat) : (s0.writeStored t r f latNs).steady = s0.steady := by
  unfold State.writeStored
  dsimp only
  split <;> simp

@[simp] theorem State.writeWait_steady (s : State) (t : Nat) (r : Req) (st : HazSt) : (s.writeWait t r st).steady = s.steady := by
  simp [State.writeWait]

@[simp] theorem State.setFull_steady (s : State) (t l : Nat) (r : Req) : (s.setFull t l r).steady = s.steady := by
  unfold State.setFull
  dsimp only
  split <;> simp

@[simp] theorem State.noteFill_steady (s : State) (t : Nat) (r : Req) (l : Nat) (u : Upset) : (s.noteFill t r l u).steady = s.steady := by
  simp [State.noteFill]

@[simp] theorem State.writePerform_steady (s0 : State) (t : Nat) (r : Req) (l line : Nat) (u : Upset) (latNs : Nat) :
    (s0.writePerform t r l line u latNs).steady = s0.steady := by
  unfold State.writePerform
  have ht := s0.tagCheck_steady t l u
  generalize s0.tagCheck t l u = checked at ht ⊢
  obtain ⟨sT, recovered⟩ := checked
  dsimp -zeta only at ht ⊢
  extract_lets +onlyGivenNames held sU s
  have hs : s.steady = s0.steady := by unfold s; split <;> simp [sU, ht]
  clear_value s
  dsimp only
  split
  · split
    · simp [hs]
    · split <;> simp [hs]
  · split
    · simp [hs]
    · split <;> simp [hs]

@[simp] theorem State.adoptLine_steady (s : State) (p q l line : Nat) (x : Line) (poison : Bool) :
    (s.adoptLine p q l line x poison).steady = s.steady := by
  simp [State.adoptLine]

@[simp] theorem State.adoptPerform_steady (s : State) (t ft q : Nat) (r : Req) (l line latNs : Nat) :
    (s.adoptPerform t ft q r l line latNs).steady = s.steady := by
  unfold State.adoptPerform
  dsimp only
  (repeat' split) <;> simp

@[simp] theorem State.perform_steady (s : State) (t : Nat) (r : Req) (u : Upset) (latNs : Nat) (idle : Bool) :
    (s.perform t r u latNs idle).steady = s.steady := by
  unfold State.perform
  dsimp only
  (repeat' split) <;> simp

@[simp] theorem State.wakeLines_steady (s : State) (t latNs : Nat) : (s.wakeLines t latNs).steady = s.steady := by
  refine foldl_steady (fun a id => ?_) _ _
  split
  · split <;> simp
  · rfl

@[simp] theorem State.letIn_steady (s : State) (t src : Nat) (r : Req) (u : Upset) (latNs : Nat) (idle : Bool) :
    (s.letIn t src r u latNs idle).steady = s.steady := by
  simp [State.letIn]

@[simp] theorem State.recognise_steady (s : State) (t src : Nat) (r : Req) (u : Upset) (latNs : Nat) (idle : Bool) :
    (s.recognise t src r u latNs idle).steady = s.steady := by
  simp [State.recognise]

@[simp] theorem State.failRequest_steady (s : State) (r : Req) (latNs : Nat) : (s.failRequest r latNs).steady = s.steady := by
  simp [State.failRequest]

@[simp] theorem State.dispatchReq_steady (s : State) (r : Req) (u : Upset) (latNs : Nat) (idle : Bool) :
    (s.dispatchReq r u latNs idle).steady = s.steady := by
  unfold State.dispatchReq
  split <;> simp

/-! ### Machine/FlashOps.lean: what the Parameter Store keeps -/

@[simp] theorem State.psReleaseHeld_steady (s : State) : s.psReleaseHeld.steady = s.steady := by
  unfold State.psReleaseHeld
  exact foldl_steady (by intros; rfl) _ _

@[simp] theorem State.psPutNow_steady (s : State) (id : Nat) (v : List Byte) : (s.psPutNow id v).steady = s.steady := by simp [State.psPutNow]

end Sys2Proof.Machine
end

section
/-! What the entry into Hold-up, settling and the declaration of a failed tile leave of the faults (08_integrity.md R275; 10_modes.md R322). -/

namespace Sys2Proof.Machine

open Sys2Proof

/-! ### Machine/Cross.lean: entry into Hold-up and failed tiles -/

@[simp] theorem State.putCompletion_steady (s : State) (r : Nat) (e : Exec) (c : CmdResult) : (s.putCompletion r e c).steady = s.steady := by
  simp [State.putCompletion]

@[simp] theorem State.noteLate_steady (s : State) (r : Nat) (e : Exec) (status : Nat) : (s.noteLate r e status).steady = s.steady := by
  simp [State.noteLate]

@[simp] theorem State.abortRing_steady (s : State) (r detail : Nat) (write : Bool) : (s.abortRing r detail write).steady = s.steady := by
  simp [State.abortRing]

/-- The sequence of Hold-up takes back only what Porter's commands asked for. -/
@[simp] theorem State.dropCommandWork_faults (s : State) : s.dropCommandWork.steady.1 = s.steady.1 := by
  unfold State.dropCommandWork
  extract_lets s1 s2 s3 s4 s5
  have h3 : s3.steady = s.steady := (State.modMd_steady fun _ => ⟨rfl, rfl, rfl⟩).trans rfl
  clear_value s3
  exact (show s5.steady.1 = s3.steady.1 from rfl).trans (congrArg Prod.fst h3)

@[simp] theorem State.porterAbort_faults (s : State) (detail cause : Nat) (write : Bool) :
    (s.porterAbort detail cause write).steady.1 = s.steady.1 := by
  simp [State.porterAbort]

@[simp] theorem State.testNotRun_faults (s : State) (cause : Nat) : (s.testNotRun cause).steady.1 = s.steady.1 := by
  unfold State.testNotRun
  dsimp only
  (repeat' split) <;> simp

@[simp] theorem State.haltTest_faults (s : State) (cause : Nat) : (s.haltTest cause).steady.1 = s.steady.1 := by
  unfold State.haltTest
  split <;> simp

@[simp] theorem State.setStage_faults (s : State) (n : Nat) : (s.setStage n).steady.1 = s.steady.1 := by
  unfold State.setStage
  extract_lets o sl s0 sa s1 items s2
  split
  · rfl
  · have h0 : s0.steady.1 = s.steady.1 := by simp [s0, sl]
    have h1 : s1.steady = s0.steady := by simp [s1, sa]
    have h2 : s2.steady = s1.steady := by simp [s2]
    clear_value s2 s1
    (repeat' split) <;> simp [h0, h1, h2]

@[simp] theorem State.flushNext_steady (s : State) (t : Nat) : (s.flushNext t).steady = s.steady := by simp [State.flushNext]
@[simp] theorem State.flushFirst_steady (s : State) (t : Nat) : (s.flushFirst t).steady = s.steady := by simp [State.flushFirst]
@[simp] theorem State.holdupTile_steady (s : State) (t : Nat) : (s.holdupTile t).steady = s.steady := by simp [State.holdupTile]

@[simp] theorem State.cutReset_steady (s : State) (t : Nat) : (s.cutReset t).steady = s.steady := by
  unfold State.cutReset
  split <;> simp

@[simp] theorem State.convCut_steady (s : State) : s.convCut.steady = s.steady := by simp [State.convCut]

@[simp] theorem State.holdupEnter_faults (s : State) (cause : Nat) : (s.holdupEnter cause).steady.1 = s.steady.1 := by
  unfold State.holdupEnter
  -- every stage is made opaque before the next, or the kernel unfolds the stages in one another
  extract_lets dirty s1 s2 s3 sd s4 s5 s6 s7 s8 s9 s10
  have h1 : s1.steady.1 = s.steady.1 := by simp [s1]
  clear_value s1
  have h3 : s3.steady.1 = s1.steady.1 :=
    congrArg Prod.fst (State.bumpFree_steady.trans ((State.winCloseAll_steady ..).trans (State.modMd_steady fun _ => ⟨rfl, rfl, rfl⟩)))
  clear_value s3
  have hd : sd.steady.1 = s3.steady.1 := by simp [sd]
  clear_value sd
  have h4 : s4.steady.1 = sd.steady.1 := by simp [s4]
  clear_value s4
  have h5 : s5.steady.1 = s4.steady.1 := by simp [s5]
  clear_value s5
  have h8 : s8.steady.1 = s5.steady.1 := by simp [s8, s7, s6]
  clear_value s8
  have h10 : s10.steady.1 = s8.steady.1 := by simp [s10, s9]
  clear_value s10
  simp [h10, h8, h5, h4, hd, h3, h1]

@[simp] theorem State.ringsReset_steady (s : State) (h : Nat) : (s.ringsReset h).steady = s.steady := by
  unfold State.ringsReset
  dsimp only
  split
  · rfl
  · exact (State.event_steady ..).trans (foldl_steady (by intros; rfl) _ _)

@[simp] theorem State.headClear_steady (s : State) (h : Nat) : (s.headClear h).steady = s.steady := by simp [State.headClear]
@[simp] theorem State.headReset_steady (s : State) (h : Nat) : (s.headReset h).steady = s.steady := by simp [State.headReset]
@[simp] theorem State.storeFailed_steady (s : State) : s.storeFailed.steady = s.steady := by simp [State.storeFailed]

@[simp] theorem State.handover_steady (s : State) (t : Nat) : (s.handover t).steady = s.steady := by
  refine foldl_steady (fun a e => ?_) _ _
  split
  · simp
  · rfl

@[simp] theorem State.reissue_steady (s : State) (lost : List Req) : (s.reissue lost).steady = s.steady := by simp [State.reissue]
@[simp] theorem State.skipCupola_steady (s : State) (t : Nat) : (s.skipCupola t).steady = s.steady := by simp [State.skipCupola]

/-! ### What settling does on the tiles (R88, R144) -/

theorem State.cupApply_steady {s : State} {t : Nat} {d : Delta} {a : State} (h : s.cupApply t d = some a) : a.steady = s.steady := by
  have hack (b : State) (k : AckKind) : (b.cupAck t d k).steady = b.steady := State.meshSend_steady ..
  unfold State.cupApply at h
  dsimp only at h
  split at h
  · cases h
    exact hack ..
  · split at h
    · cases h
      exact (hack ..).trans (State.modCupT_steady ..)
    · split at h
      · cases h
        exact (hack ..).trans (State.modCupT_steady ..)
      · cases h

@[simp] theorem State.cupRetry_steady (s : State) (t : Nat) : (s.cupRetry t).steady = s.steady := by
  refine foldl_steady (fun a d => ?_) _ _
  split
  · next b hb => exact (State.modCupT_steady ..).trans (State.cupApply_steady hb)
  · rfl

@[simp] theorem State.markSynced_steady (s : State) (k : Nat) : (s.markSynced k).steady = s.steady := by simp [State.markSynced]

theorem State.carApply_steady {s : State} {t l : Nat} {d : CarHeld} {a : State} (h : s.carApply t l d = some a) : a.steady = s.steady := by
  unfold State.carApply at h
  dsimp only at h
  split at h
  · cases h
    exact State.modCarT_steady ..
  · split at h
    · cases h
      exact State.modCarT_steady ..
    · cases h

@[simp] theorem State.carAck_steady (s : State) (peer seq stripe status : Nat) :
    (s.carAck peer seq stripe status).steady = s.steady := by simp [State.carAck]

@[simp] theorem State.carRetry_steady (s : State) (t : Nat) : (s.carRetry t).steady = s.steady := by
  refine foldl_steady (fun a d => ?_) _ _
  split
  · next b hb =>
    split at hb
    · cases hb
    · exact (State.carAck_steady ..).trans ((State.modCarT_steady ..).trans (State.carApply_steady hb))
  · rfl

@[simp] theorem State.parityDone_steady (s : State) (t : Nat) : (s.parityDone t).steady = s.steady := by
  refine foldl_steady (fun a c => ?_) _ _
  cases c.job <;> simp

@[simp] theorem State.dropOrphans_steady (s : State) (t : Nat) : (s.dropOrphans t).steady = s.steady := by simp [State.dropOrphans]
@[simp] theorem State.poisonDrops_steady (s : State) (t : Nat) : (s.poisonDrops t).steady = s.steady := by simp [State.poisonDrops]
@[simp] theorem State.withdrawReady_steady (s : State) (t : Nat) : (s.withdrawReady t).steady = s.steady := by
  simp [State.withdrawReady]

/-! ### What settling does for the package (R154 to R156, R227, R244, R464) -/

@[simp] theorem State.flushSeg_steady (p : State × RangeJob) (e : Nat × Nat × Nat) : (State.flushSeg p e).1.steady = p.1.steady := by
  unfold State.flushSeg
  dsimp only
  (repeat' split) <;> simp

@[simp] theorem State.invalSeg_steady (p : State × RangeJob) (e : Nat × Nat × Nat) : (State.invalSeg p e).1.steady = p.1.steady := by
  unfold State.invalSeg
  dsimp only
  (repeat' split) <;> simp

@[simp] theorem State.discardSeg_steady (p : State × RangeJob) (e : Nat × Nat × Nat) : (State.discardSeg p e).1.steady = p.1.steady := by
  unfold State.discardSeg
  dsimp only
  (repeat' split) <;> simp

theorem inTurnPass_steady {f : State × RangeJob → Nat × Nat × Nat → State × RangeJob} (h : ∀ p e, (f p e).1.steady = p.1.steady)
    (p : State × RangeJob) (l : List (Nat × Nat × Nat)) : (inTurnPass f p l).1.steady = p.1.steady := by
  induction l generalizing p with
  | nil => rfl
  | cons e l ih =>
    rw [inTurnPass]
    split
    · exact (ih _).trans (h p e)
    · exact h p e

theorem jobWalk_steady {f : State × RangeJob → Nat × Nat × Nat → State × RangeJob} (h : ∀ p e, (f p e).1.steady = p.1.steady)
    (j : RangeJob) (p : State × RangeJob) : (jobWalk j f p).1.steady = p.1.steady := by
  unfold jobWalk
  split
  · exact inTurnPass_steady h p j.left
  · exact foldl_fst_steady h j.left p

@[simp] theorem State.secureBlock_steady (p : State × RangeJob) (e : Nat × Nat) : (State.secureBlock p e).1.steady = p.1.steady := by
  unfold State.secureBlock
  dsimp only
  (repeat' split) <;> simp [State.closeBlock, State.startBatch, State.startClear]

theorem State.jobWalked_steady (s : State) (j : RangeJob) : (s.jobWalked j).1.steady = s.steady := by
  unfold State.jobWalked
  split
  · exact jobWalk_steady State.flushSeg_steady ..
  · split
    · exact jobWalk_steady State.invalSeg_steady ..
    · exact jobWalk_steady State.discardSeg_steady ..

@[simp] theorem State.jobPass_steady (s : State) (j : RangeJob) : (s.jobPass j).1.steady = s.steady := by
  obtain h | ⟨k, l, h⟩ := s.jobPass_eq j
  · rw [h, State.jobWalked_steady]
  · rw [h, foldl_fst_steady State.secureBlock_steady]
    exact s.jobWalked_steady j

@[simp] theorem State.jobFinish_steady (s : State) (j : RangeJob) : (s.jobFinish j).steady = s.steady := by
  simp [State.jobFinish]

@[simp] theorem State.jobsAdvance_steady (s : State) : s.jobsAdvance.steady = s.steady := by
  refine foldl_steady (fun a j => ?_) _ _
  simp

@[simp] theorem State.erasesAdvance_steady (s : State) : s.erasesAdvance.steady = s.steady := by
  simp [State.erasesAdvance, State.eraseSwitch, State.storeRegions, State.eraseKey]

@[simp] theorem State.ckptAdvance_steady (s : State) : s.ckptAdvance.steady = s.steady := by
  unfold State.ckptAdvance
  (repeat' split) <;> simp

@[simp] theorem State.retireAdvance_steady (s : State) : s.retireAdvance.steady = s.steady := by
  simp [State.retireAdvance]

@[simp] theorem State.retryFills_steady (s : State) (t latNs : Nat) : (s.retryFills t latNs).steady = s.steady := by
  refine foldl_steady (fun a id => ?_) _ _
  split
  · split <;> simp
  · rfl

@[simp] theorem State.settleTile_steady (s : State) (t : Nat) : (s.settleTile t).steady = s.steady := by simp [State.settleTile]
@[simp] theorem State.settle_steady (s : State) : s.settle.steady = s.steady := by simp [State.settle]

/-! ### A tile that is declared failed (R275) -/

theorem State.faults_congr {s t : State} (h : t.steady.1 = s.steady.1) :
    t.md.failed = s.md.failed ∧ t.md.fenced = s.md.fenced ∧ bitOf t.md.causes 1 = bitOf s.md.causes 1 := by
  simpa [State.steady, ModeState.faults] using h

/-- What the declaration changes of the faults: the tile is failed. -/
theorem State.declareFailed_faults {s : State} {t : Nat} (cause : Nat) (answers : Bool) (ht : s.alive t = true) :
    (s.declareFailed t cause answers).steady.1 = (setBit s.md.failed t, s.md.fenced, bitOf s.md.causes 1) := by
  unfold State.declareFailed
  extract_lets lost s1 s2 s3 s4 s5 s6
  have h1 : s1.steady = s.steady := by
    unfold s1
    split
    · rfl
    · split <;> simp
  clear_value s1
  obtain ⟨hfailed, hfenced, hcause⟩ := State.faults_congr (congrArg Prod.fst h1)
  have h2 : s2.steady.1 = (setBit s.md.failed t, s.md.fenced, bitOf s.md.causes 1) := by
    have hmd : (s1.modMd (fun d => { d with failed := setBit d.failed t })).steady.1 = (setBit s.md.failed t, s.md.fenced, bitOf s.md.causes 1) := by
      simp [State.steady, ModeState.faults, hfailed, hfenced, hcause]
    rw [← hmd]
    simp [s2]
  clear_value s2
  have h3 : s3.steady = s2.steady := by unfold s3; split <;> simp
  clear_value s3
  have h4 : s4.steady = s3.steady := State.steady_modTile t fun _ => rfl
  clear_value s4
  have h6 : s6.steady = s4.steady := by simp [s6, s5]
  clear_value s6
  have h : s6.steady.1 = (setBit s.md.failed t, s.md.fenced, bitOf s.md.causes 1) := by rw [h6, h4, h3, h2]
  rw [if_neg (by simp [ht])]
  split <;> simp [h]

end Sys2Proof.Machine
end

section
/-! Commands that declare a tile failed, and the faults after a mesh link fails (08_integrity.md R272, R275; 01_architecture.md R19). -/

namespace Sys2Proof.Machine

open Sys2Proof

/-! ### What declares a tile failed (R19, R272, R275) -/

theorem State.alive_of_failed {s : State} {t : Nat} (h : bitOf s.md.failed t = true) : s.alive t = false := by simp [State.alive, h]

/-- A command whose effect declares a tile failed, with what follows from it. -/
theorem completes_declareFailed {c : Instr} {s a : State} {f : State → State} {t cause : Nat} {answers : Bool} (h : exec c s = s.run f)
    (hf : f s = (a.declareFailed t cause answers).settle) (ht : a.alive t = true) :
    Completes c s (fun b => bitOf b.md.failed t = true ∧ b.alive t = false ∧ b.fuse = s.fuse ∧ b.pending = s.pending) := by
  refine completes_ran h hf ?_
  have hbit : bitOf (a.declareFailed t cause answers).settle.md.failed t = true := by
    have hfaults := (congrArg Prod.fst (State.settle_steady _)).trans (State.declareFailed_faults cause answers ht)
    have hfailed : (a.declareFailed t cause answers).settle.md.failed = setBit a.md.failed t := congrArg Prod.fst hfaults
    rw [hfailed, bitOf_setBit_self]
  generalize (a.declareFailed t cause answers).settle = b at hbit ⊢
  have hran : bitOf (s.ran b).md.failed t = true := hbit
  exact ⟨hran, State.alive_of_failed hran, rfl, rfl⟩

theorem exec_cupolaAckTimeout (tile seg : Nat) (answers : Bool) (waitMs totalMs : Nat) (s : State) :
    exec (.cupolaAckTimeout tile seg answers waitMs totalMs) s = s.run (fun x => x.cupolaAckTimeoutEff tile seg answers waitMs totalMs) := rfl

theorem exec_meshLinkFail (tile port : Nat) (answers : Bool) (s : State) :
    exec (.meshLinkFail tile port answers) s = s.run (fun x => x.meshLinkFailEff tile port answers) := rfl

theorem State.heartbeatMissEff_third {s : State} {tile : Nat} (answers : Bool) (ht : s.alive tile = true) (hp : tile ≠ s.md.primary)
    (hn : agetD tile 0 s.md.missed = 2) :
    s.heartbeatMissEff tile answers = ((s.modMd (fun d => { d with missed := aput tile 3 d.missed })).declareFailed tile 2 answers).settle := by
  simp [State.heartbeatMissEff, ht, hp, hn]

theorem State.heartbeatSendEff_of_cut {s : State} {tile : Nat} (answers : Bool) (ht : s.alive tile = true) (hp : tile ≠ s.md.primary)
    (halive : s.alive s.md.primary = true) (hcut : (s.hops tile s.md.primary).isSome = false) :
    s.heartbeatSendEff tile answers = (s.declareFailed tile 3 answers).settle := by
  simp [State.heartbeatSendEff, ht, hp, halive, hcut]

theorem State.cupolaAckTimeoutEff_late {s : State} {tile seg p ms waitMs totalMs : Nat} (answers : Bool) (ht : s.alive tile = true)
    (hsent : aget seg (s.tile tile).cup.sent = some (p, ms)) (hlate : ms ≤ waitMs ∨ ms + 1 ≤ totalMs) :
    s.cupolaAckTimeoutEff tile seg answers waitMs totalMs = ((s.latchOnly (Reg.CUP_ERR_STATUS tile) 0).declareFailed p 1 answers).settle := by
  have hdue : (s.alive tile && (decide (ms ≤ waitMs) || decide (ms + 1 ≤ totalMs))) = true := by simpa [ht] using hlate
  simp only [State.cupolaAckTimeoutEff, hsent, hdue, if_true]

theorem State.cupolaAckTimeoutEff_early {s : State} {tile seg p ms waitMs totalMs : Nat} (answers : Bool)
    (hsent : aget seg (s.tile tile).cup.sent = some (p, ms)) (hwait : waitMs < ms) (htotal : totalMs < ms + 1) :
    s.cupolaAckTimeoutEff tile seg answers waitMs totalMs = s := by
  have hdue : (decide (ms ≤ waitMs) || decide (ms + 1 ≤ totalMs)) = false := by simpa using ⟨hwait, Nat.le_of_lt_succ htotal⟩
  simp only [State.cupolaAckTimeoutEff, hsent, hdue, Bool.and_false, Bool.false_eq_true, if_false]

/-! ### A mesh link that fails (R19, R327) -/

/-- The links that are fenced and the link fault that holds the package in Degraded: what no declaration of a failed tile takes back. -/
def State.fence (s : State) : List (Nat × Bool) × Bool := s.steady.1.2

theorem State.fence_congr {s t : State} (h : t.steady.1 = s.steady.1) : t.fence = s.fence := congrArg Prod.snd h

theorem State.declareFailed_fence (s : State) (t cause : Nat) (answers : Bool) : (s.declareFailed t cause answers).fence = s.fence := by
  cases ht : s.alive t with
  | true => exact (congrArg Prod.snd (State.declareFailed_faults cause answers ht) :)
  | false => simp [State.declareFailed, ht]

theorem State.foldl_declareFailed_fence (l : List Nat) (cause : Nat) (answers : Bool) (s : State) :
    (l.foldl (fun a u => a.declareFailed u cause answers) s).fence = s.fence := by
  induction l generalizing s with
  | nil => rfl
  | cons u l ih => exact (ih _).trans (s.declareFailed_fence u cause answers)

theorem State.setCause_link_fence (s : State) : (s.setCause 1 true).fence = (s.md.fenced, true) := by
  unfold State.setCause
  split
  · next h => exact congrArg (Prod.mk _) h
  · rw [State.fence_congr (congrArg Prod.fst (State.reevaluate_steady _))]
    exact congrArg (Prod.mk _) (bitOf_putBit_self s.md.causes 1 true)

@[simp] theorem State.markOld_steady (s before : State) : (s.markOld before).steady = s.steady := rfl
@[simp] theorem State.releaseHeld_steady (s : State) : s.releaseHeld.steady = s.steady := by simp [State.releaseHeld]
@[simp] theorem State.resendLink_steady (s : State) (key : Nat) : (s.resendLink key).steady = s.steady := by simp [State.resendLink]

theorem State.meshLinkFailEff_fence {s : State} {tile port : Nat} (answers : Bool) (ht : s.alive tile = true) (hport : port < 3)
    (hup : s.linkUp tile port = true) : (s.meshLinkFailEff tile port answers).fence = (aput (s.linkKey tile port) true s.md.fenced, true) := by
  unfold State.meshLinkFailEff
  extract_lets key other s1 s2 cut
  rw [if_neg (by simp [ht, hup, hport])]
  have h1 : s1.md.fenced = aput key true s.md.fenced := congrArg (fun x => x.2.1) (congrArg Prod.fst (State.event_steady ..))
  have h2 : s2.fence = (aput key true s.md.fenced, true) := by
    have hsame : s2.steady = (s1.setCause 1 true).steady := by simp [s2]
    rw [State.fence_congr (congrArg Prod.fst hsame), s1.setCause_link_fence, h1]
  rw [State.fence_congr (congrArg Prod.fst (State.settle_steady _)), State.foldl_declareFailed_fence, h2]

end Sys2Proof.Machine
end

section
/-! What declares a tile failed, and a mesh link that fails (08_integrity.md R272, R275; 01_architecture.md R19; 10_modes.md R327). -/

namespace Sys2Proof.Machine

open Sys2Proof

/-- Settles O28: a declaration sets the bit of the tile, and nothing that follows from it clears a bit of the failed tiles, a fenced link or
the cause of a link fault. -/
theorem failedTiles : Obligations.FailedTiles := by
  unfold Obligations.FailedTiles
  refine ⟨?third, ?cut, ?late, ?early, ?link⟩
  case third =>
    intro s tile answers ht hp hn
    exact completes_declareFailed (exec_heartbeatMiss tile answers s) (State.heartbeatMissEff_third answers ht hp hn) ht
  case cut =>
    intro s tile answers ht hp halive hcut
    exact completes_declareFailed (exec_heartbeatSend tile answers s) (State.heartbeatSendEff_of_cut answers ht hp halive hcut) ht
  case late =>
    intro s tile seg p ms waitMs totalMs answers ht hsent hp hlate
    exact completes_declareFailed (exec_cupolaAckTimeout tile seg answers waitMs totalMs s) (State.cupolaAckTimeoutEff_late answers ht hsent hlate) hp
  case early =>
    intro s tile seg p ms waitMs totalMs answers hsent hwait htotal
    exact completes_ran (exec_cupolaAckTimeout tile seg answers waitMs totalMs s) (State.cupolaAckTimeoutEff_early answers hsent hwait htotal) rfl
  case link =>
    intro s tile port answers ht hport hup
    refine completes_ran (exec_meshLinkFail tile port answers s) rfl ?_
    have hfence := State.meshLinkFailEff_fence answers ht hport hup
    generalize s.meshLinkFailEff tile port answers = b at hfence ⊢
    have hfenced : b.md.fenced = aput (s.linkKey tile port) true s.md.fenced := congrArg Prod.fst hfence
    have hcause : bitOf b.md.causes 1 = true := congrArg Prod.snd hfence
    exact ⟨(congrArg (agetD _ false) hfenced).trans (agetD_aput_self ..), hcause, rfl, rfl⟩

end Sys2Proof.Machine
end

section
/-! What the judgement of the causes of Degraded changes (10_modes.md R312, R313; 02_host_ports.md R67): the mode, what records it, and the event logs
of the LDs. The commands of every ring stay. -/

namespace Sys2Proof.Machine

open Sys2Proof

/-- Nothing but the mode, what recording an event changes, and the event logs of the LDs is other than before. -/
structure Judges (s t : State) : Prop where
  frame : t = { s with md := t.md, gb := t.gb, reg := t.reg, porter := t.porter, outbox := t.outbox, thm := t.thm, cap := t.cap }
  execs : SameExecs s t

section
variable {s t a b c : State}

theorem Judges.refl (s : State) : Judges s s := ⟨rfl, .refl s⟩

theorem Judges.trans (h : Judges a b) (k : Judges b c) : Judges a c := ⟨by rw [k.frame, h.frame], h.execs.trans k.execs⟩

theorem Judges.ite {p : Prop} [Decidable p] (ha : Judges s a) (hb : Judges s b) : Judges s (if p then a else b) := by
  split
  · exact ha
  · exact hb

theorem Judges.foldl {β : Type} {f : State → β → State} (h : ∀ a b, Judges a (f a b)) (l : List β) (s : State) : Judges s (l.foldl f s) := by
  induction l generalizing s with
  | nil => exact .refl s
  | cons b l ih => exact (h s b).trans (ih _)

theorem Judges.cup (h : Judges s t) : t.cup = s.cup := by rw [h.frame]
theorem Judges.tiles (h : Judges s t) : t.tiles = s.tiles := by rw [h.frame]
theorem Judges.pop (h : Judges s t) : t.pop = s.pop := by rw [h.frame]
theorem Judges.tile (h : Judges s t) (u : Nat) : t.tile u = s.tile u := by rw [State.tile, h.tiles, State.tile]

theorem OnlyLog.judges (h : OnlyLog s t) (k : SameExecs s t) : Judges s t := ⟨by rw [h.md, h.thm, h.cap]; exact h, k⟩

theorem judges_event (s : State) (c k : Nat) (l : List Nat) : Judges s (s.event c k l) := (onlyLog_event ..).judges (sameExecs_event s c k l)

theorem judges_latch (s : State) (o b c k : Nat) (l : List Nat) : Judges s (s.latch o b c k l) :=
  (onlyLog_latch ..).judges (sameExecs_latch s o b c k l)

theorem judges_modMd (s : State) (f : ModeState → ModeState) : Judges s (s.modMd f) := ⟨rfl, sameExecs_of_porter rfl⟩
theorem judges_modLd (s : State) (c : Nat) (f : LDev → LDev) : Judges s (s.modLd c f) := ⟨rfl, sameExecs_of_porter rfl⟩
theorem judges_emit (s : State) (o : Out) : Judges s (s.emit o) := ⟨rfl, sameExecs_of_porter rfl⟩

theorem judges_alert (s : State) (b : Nat) : Judges s (s.alert b) := by
  have hline (a : State) : Judges a a.alertLine := by
    obtain ⟨t, o, h⟩ := a.alertLine_frame
    rw [h]
    exact ⟨rfl, sameExecs_of_porter rfl⟩
  exact (show Judges s (s.latchOnly Reg.THM_ALERT b) from ⟨rfl, sameExecs_of_porter rfl⟩).trans (hline _)

theorem judges_setMode (s : State) (m : Mode) : Judges s (s.setMode m) :=
  .ite (.refl s) (((judges_modMd ..).trans (judges_event ..)).trans (judges_alert ..))

theorem judges_evtFor (s : State) (lds : List Nat) (log : Nat) (r : EvtRec) : Judges s (s.evtFor lds log r) :=
  .foldl (fun _ _ => .ite (.ite (judges_modLd ..) ((judges_modLd ..).trans (judges_emit ..))) ((judges_modLd ..).trans (judges_event ..))) _ _

theorem judges_evtAll (s : State) (log : Nat) (r : EvtRec) : Judges s (s.evtAll log r) := judges_evtFor ..

theorem judges_enterMode (s : State) (m : Mode) : Judges s (s.enterMode m) := by
  refine .ite (.refl s) ?_
  have hset := judges_setMode s m
  have hdeg := Judges.ite (p := s.md.mode = .degraded ∨ m = .degraded) (hset.trans (judges_evtAll _ 1 { kind := 1, cause := 6, info := m.code })) hset
  exact .ite (hdeg.trans (judges_evtAll ..)) hdeg

theorem judges_reevaluate (s : State) : Judges s s.reevaluate := .ite (judges_enterMode ..) (.refl s)
theorem judges_setCause (s : State) (n : Nat) (on : Bool) : Judges s (s.setCause n on) := .ite (.refl s) ((judges_modMd ..).trans (judges_reevaluate _))
theorem judges_judgeSync (s : State) : Judges s s.judgeSync := judges_setCause ..
theorem judges_judgeLost (s : State) : Judges s s.judgeLost := judges_setCause ..

/-! ### A command's result -/

/-- A command whose ring has the commands that its start left there ends with the result it is given. -/
theorem State.resultOf_finish_of_execs {pc : PortCmd} {op : Nat} {priv : Bool} (h : s.accepts pc op priv = true)
    (ht : SameExecs (s.ensureExec pc op) t) (r : CmdResult) : (t.finish pc r).resultOf pc = some r := by
  simp only [State.accepts, Bool.and_eq_true, decide_eq_true_eq] at h
  obtain ⟨⟨⟨⟨-, hring⟩, -⟩, -⟩, hcid⟩ := h
  have hsame : (t.finish pc r).resultOf pc = ((s.ensureExec pc op).finish pc r).resultOf pc := by
    simp only [State.resultOf, State.finish, State.ring_modRing_self _ _ hring, ht pc.ring]
  rw [hsame, s.resultOf_finish pc op r hring hcid]

end

end Sys2Proof.Machine
end

section
/-! What leaves Cupola's state of every tile as it is (08_integrity.md R271, R272): the journal, and the placement and start of a program. -/

namespace Sys2Proof.Machine

open Sys2Proof

/-- Cupola's state of each tile: its slots, the deltas that it holds and those that it sent. -/
def State.cupolas (s : State) : Nat → CupTile := fun u => (s.tile u).cup

section
variable {s : State}

theorem State.cupolas_modTile (t : Nat) {f : Tile → Tile} (h : ∀ x, (f x).cup = x.cup) : (s.modTile t f).cupolas = s.cupolas :=
  funext (State.tile_modTile_keeps Tile.cup s t h)

theorem CountersOnly.cupolas {t : State} (h : CountersOnly s t) : t.cupolas = s.cupolas :=
  funext fun u => (congrArg Tile.cup (h.tile u) :)

@[simp] theorem cupolas_ite (p : Prop) [Decidable p] (a b : State) : (if p then a else b).cupolas = if p then a.cupolas else b.cupolas :=
  apply_ite State.cupolas p a b

@[simp] theorem State.modXl_cupolas (t : Nat) (f : Xlate → Xlate) : (s.modXl t f).cupolas = s.cupolas := State.cupolas_modTile t fun _ => rfl
@[simp] theorem State.modCh_cupolas (t c : Nat) (f : Channel → Channel) : (s.modCh t c f).cupolas = s.cupolas := State.cupolas_modTile t fun _ => rfl
@[simp] theorem State.modBlk_cupolas (t b : Nat) (f : Blk → Blk) : (s.modBlk t b f).cupolas = s.cupolas := State.cupolas_modTile t fun _ => rfl
@[simp] theorem State.modCommit_cupolas (t l : Nat) (f : Commit → Commit) : (s.modCommit t l f).cupolas = s.cupolas := State.cupolas_modTile t fun _ => rfl
@[simp] theorem State.modFront_cupolas (t p f : Nat) (g : Front → Front) : (s.modFront t p f g).cupolas = s.cupolas := State.cupolas_modTile t fun _ => rfl
@[simp] theorem State.emit_cupolas (o : Out) : (s.emit o).cupolas = s.cupolas := rfl
@[simp] theorem State.addFld_cupolas (o h l v : Nat) : (s.addFld o h l v).cupolas = s.cupolas := rfl
@[simp] theorem State.perfEvent_cupolas (t no q d : Nat) : (s.perfEvent t no q d).cupolas = s.cupolas := (countersOnly_perfEvent ..).cupolas

end

/-! ### The journal (R218) -/

@[simp] theorem State.jappend_cupolas (s : State) (t : Nat) (r : JRec) : (s.jappend t r).cupolas = s.cupolas := by
  unfold State.jappend
  split <;> simp

@[simp] theorem State.jappendNow_cupolas (s : State) (t : Nat) (r : JRec) : (s.jappendNow t r).cupolas = s.cupolas := by simp [State.jappendNow]

/-! ### Placing and starting a program (R212 to R214) -/

@[simp] theorem State.nameNext_cupolas (s : State) (t p f : Nat) : (s.nameNext t p f).cupolas = s.cupolas := by
  unfold State.nameNext
  dsimp only
  (repeat' split) <;> simp

@[simp] theorem State.forceClose_cupolas (s : State) (t p f : Nat) : (s.forceClose t p f).cupolas = s.cupolas := by
  unfold State.forceClose
  (repeat' split) <;> simp

@[simp] theorem State.openPage_cupolas (s : State) (t p f : Nat) : (s.openPage t p f).1.cupolas = s.cupolas := by
  unfold State.openPage
  dsimp only
  (repeat' split) <;> simp

@[simp] theorem State.takePage_cupolas (s : State) (t p f loc : Nat) : (s.takePage t p f loc).cupolas = s.cupolas := by simp [State.takePage]

@[simp] theorem State.placeOn_cupolas (t f : Nat) (l : List Nat) (s : State) : (State.placeOn t f l s).1.cupolas = s.cupolas := by
  induction l generalizing s with
  | nil => rfl
  | cons p l ih =>
    unfold State.placeOn
    have hopen := s.openPage_cupolas t p f
    split
    · split <;> simp_all
    · exact ih s

@[simp] theorem State.place_cupolas (s : State) (t f : Nat) : (s.place t f).1.cupolas = s.cupolas := by
  unfold State.place
  have hon := State.placeOn_cupolas t f (s.planeOrder t) s
  split <;> simp_all

@[simp] theorem State.caIssue_cupolas (s : State) (t c rank : Nat) (cmd : CaCmd) : (s.caIssue t c rank cmd).cupolas = s.cupolas := by
  unfold State.caIssue
  split <;> simp [State.caSend]

@[simp] theorem State.startProgram_cupolas (s : State) (t loc : Nat) (job : Job) (pg : Page) : (s.startProgram t loc job pg).cupolas = s.cupolas := by
  simp [State.startProgram]

@[simp] theorem State.launchCommit_cupolas (s : State) (t : Nat) (c : Commit) : (s.launchCommit t c).cupolas = s.cupolas := by
  unfold State.launchCommit
  have hplace := s.place_cupolas t c.job.frontier
  split <;> simp_all

@[simp] theorem State.beginCommit_cupolas (s : State) (t : Nat) (job : Job) (seg : Nat) (pg : Page) :
    (s.beginCommit t job seg pg).cupolas = s.cupolas := by
  simp [State.beginCommit]

end Sys2Proof.Machine
end

section
/-! Cupola's deltas and their answers, the flush of a slot, and the commands of Cupola (08_integrity.md R271 to R273, R281 to R283). -/

namespace Sys2Proof.Machine

open Sys2Proof

theorem exec_cupolaDeltaReceive (tile : Nat) (errs : List LineErr) (s : State) :
    exec (.cupolaDeltaReceive tile errs) s = s.run (fun x => x.cupolaDeltaReceiveEff tile errs) := rfl

theorem exec_cupolaBusyTimer (tile : Nat) (s : State) : exec (.cupolaBusyTimer tile) s = s.run (fun x => x.cupolaBusyTimerEff tile) := rfl
theorem exec_cupolaAckReceive (tile : Nat) (s : State) : exec (.cupolaAckReceive tile) s = s.run (fun x => x.cupolaAckReceiveEff tile) := rfl

theorem exec_cupolaSlotFlush (tile : Nat) (errs : List LineErr) (s : State) :
    exec (.cupolaSlotFlush tile errs) s = s.run (fun x => x.cupolaSlotFlushEff tile errs) := rfl

theorem exec_cupolaResyncStripe (ms : Nat) (s : State) : exec (.cupolaResyncStripe ms) s = s.run (fun x => x.cupolaResyncStripeEff ms) := rfl

theorem exec_cupolaConfig (pc : PortCmd) (regions : Nat) (persist : Bool) (s : State) :
    exec (.cupolaConfig pc regions persist) s = s.run (fun x => x.cupolaConfigEff pc regions persist) := rfl

theorem exec_cupolaRebuild (pc : PortCmd) (kind ms : Nat) (s : State) :
    exec (.cupolaRebuild pc kind ms) s = s.run (fun x => x.cupolaRebuildEff pc kind ms) := rfl

/-! ### Answers to deltas (R271, R272) -/

/-- R76 holds back messages of the MEM class alone, so that an answer takes its route at once. -/
theorem State.cupAck_eq (s : State) (p : Nat) (d : Delta) (k : AckKind) :
    s.cupAck p d k = s.meshPut p { src := p, dst := d.src, body := .ack k d.seg } := by
  simp [State.cupAck, State.meshSend, State.holdsBack, Msg.samePair, MsgBody.cls]

/-- An answer where a route leads to the sender: the last message on the link, with nothing else but counters and the mesh links changed. -/
theorem State.cupAck_of_route {s : State} {tile p : Nat} {d : Delta} (k : AckKind) (h : s.routePort tile d.src = some p) :
    (s.cupAck tile d k).sentLast tile p 2 = some { src := tile, dst := d.src, body := .ack k d.seg } ∧
      CountersOnly { s with jobs := (s.cupAck tile d k).jobs } (s.cupAck tile d k) := by
  rw [State.cupAck_eq]
  exact State.meshPut_of_route (m := { src := tile, dst := d.src, body := .ack k d.seg }) h

/-- R271: Cupola's state of a tile that takes a delta of its inbox into its first slot. -/
def CupTile.firstSlot (c : CupTile) (d : Delta) (l : List Msg) : CupTile :=
  { c with slots := [(d.parLocal, { lines := xorLines [] d.lines, jpos := aput d.member d.jpos [], seq := c.seq })], seq := c.seq + 1, inbox := l }

theorem State.cupolaDeltaReceiveEff_free {s : State} {tile : Nat} {m : Msg} {d : Delta} {l : List Msg} (errs : List LineErr) (ht : s.alive tile = true)
    (h8 : tile < 8) (hm : m.body = .delta d) (hnew : d.resent = false) (hin : (s.tile tile).cup.inbox = m :: l) (hslots : (s.tile tile).cup.slots = []) :
    s.cupolaDeltaReceiveEff tile errs = (s.modCupT tile (fun _ => (s.tile tile).cup.firstSlot d l)).cupAck tile d .applied := by
  obtain ⟨src, dst, body, old⟩ := m
  subst hm
  have htwice (g : CupTile → CupTile) (hg : g { (s.tile tile).cup with inbox := l } = (s.tile tile).cup.firstSlot d l) :
      (s.popInbox tile).modCupT tile g = s.modCupT tile (fun _ => (s.tile tile).cup.firstSlot d l) := by
    refine (State.modTile_modTile ..).trans (State.modTile_congr ?_)
    simp only [hin, List.drop_succ_cons, List.drop_zero, hg]
  have hpop : ((s.popInbox tile).tile tile).cup = { (s.tile tile).cup with inbox := l } := by
    rw [State.popInbox, State.modCupT, State.tile_modTile_self _ _ h8, hin]
    rfl
  have happly : (s.popInbox tile).cupApply tile d = some ((s.modCupT tile (fun _ => (s.tile tile).cup.firstSlot d l)).cupAck tile d .applied) := by
    unfold State.cupApply
    rw [hpop, hslots, hnew]
    simp only [Bool.false_and, Bool.false_eq_true, if_false, List.any_nil]
    rw [if_pos (by decide), htwice]
    simp [CupTile.firstSlot, hslots]
  simp only [State.cupolaDeltaReceiveEff, ht, hin, Bool.not_true, Bool.false_eq_true, if_false, happly]

theorem State.cupolaBusyTimerEff_one {s : State} {tile : Nat} {d : Delta} (ht : s.alive tile = true) (hheld : (s.tile tile).cup.held = [d]) :
    s.cupolaBusyTimerEff tile = s.cupAck tile d .busy := by
  simp [State.cupolaBusyTimerEff, ht, hheld]

theorem State.cupolaAckReceiveEff_busy {s : State} {tile seg : Nat} {m : Msg} {l : List Msg} (ht : s.alive tile = true)
    (hin : (s.tile tile).cup.inbox = m :: l) (hm : m.body = .ack .busy seg) : s.cupolaAckReceiveEff tile = s.popInbox tile := by
  obtain ⟨src, dst, body, old⟩ := m
  subst hm
  simp [State.cupolaAckReceiveEff, ht, hin]

/-! ### The flush of a slot in Hold-up (R120, R168, R273) -/

/-- The slots of a tile once those of a parity segment are being flushed. -/
def flushed (pl : Nat) (l : List (Nat × Slot)) : List (Nat × Slot) := l.map (fun x => if x.1 = pl then (x.1, { x.2 with flushing := true }) else x)

theorem flushed_all (pl : Nat) (l : List (Nat × Slot)) : (flushed pl l).all (fun x => x.1 != pl || x.2.flushing) = true := by
  simp only [flushed, List.all_map, List.all_eq_true, Function.comp_apply]
  intro x _
  split
  · simp
  · next h => simp [h]

/-- A flush of slots that hold no adopted line, of a stripe whose parity page was never written, in Hold-up: the commit of the page begins. -/
theorem State.flushStripe_never {s : State} {tile pl : Nat} (errs : List LineErr) (hmap : (s.mapOf tile pl).st = .never)
    (hadopt : (s.tile tile).cup.slots.all (fun x => x.2.adoptSeg.isNone) = true) :
    ∃ pg, s.flushStripe tile pl errs =
      (s.modCupT tile (fun c => { c with slots := flushed pl c.slots })).beginCommit tile (.cup pl) pl pg := by
  have hfold : ((((s.tile tile).cup.slots.filter (fun x => x.1 == pl && !x.2.flushing)).map (·.2)).map
      (fun k => s.foldLines tile (s.qOf pl) k)).any (·.isNone) = false := by
    simp only [List.map_map, List.any_map, List.any_eq_false, Function.comp_apply]
    intro x hx
    have hx' := List.all_eq_true.1 hadopt x (List.mem_of_mem_filter hx)
    simp [State.foldLines, Option.isNone_iff_eq_none.1 hx']
  have hmapped : ((s.mapOf tile pl).st == .mapped || (s.mapOf tile pl).st == .relocating) = false := by rw [hmap]; rfl
  have hfree : s.parityFreeNow tile pl = true := by simp only [State.parityFreeNow, hmapped, Bool.not_false, Bool.true_or]
  have hlost : ((s.mapOf tile pl).st == .lost) = false := by rw [hmap]; rfl
  unfold State.flushStripe
  simp only [hfree, hmapped, hlost, Bool.not_true, Bool.false_eq_true, if_false, List.isEmpty_nil, Bool.or_false]
  simp only [hfold, Bool.false_eq_true, if_false]
  exact ⟨_, rfl⟩

theorem State.cupolaSlotFlushEff_holdup {s : State} {tile pl : Nat} {k : Slot} (errs : List LineErr) (ht : s.alive tile = true)
    (hseal : bitOf s.md.sealed tile = false) (hmode : s.md.mode = .holdup) (hold : s.oldestSlot tile = some (pl, k)) (hdirty : s.dirtyOrder tile = [])
    (hcommits : (s.tile tile).xl.commits = []) (hmap : (s.mapOf tile pl).st = .never) :
    s.cupolaSlotFlushEff tile errs = s.flushStripe tile pl errs := by
  simp [State.cupolaSlotFlushEff, State.flushNow, State.payFlush, State.parityFreeNow, ht, hseal, hmode, hold, hdirty, hcommits, hmap]

/-! ### The end of work on Cupola (R283) -/

theorem State.cupWorkDone_eq (s : State) (kind ms : Nat) :
    Judges (s.modCup (fun c => { c with work := 0, windows := c.windows.filter (fun e => e.2 != 1) })) (s.cupWorkDone kind ms) :=
  (judges_event ..).trans (judges_judgeSync _)

theorem State.cupolaResyncStripeEff_done {s : State} (ms : Nat) (ho : s.md.operating = true) (hn : s.cup.unsynced = []) (hf : s.cup.unsyncedFrom = none)
    (hw : s.cup.work = 2) (hm : s.cupMayWork = true) : s.cupolaResyncStripeEff ms = s.cupWorkDone 2 ms := by
  simp [State.cupolaResyncStripeEff, ho, hn, hf, hw, hm]

end Sys2Proof.Machine
end

section
/-! The number of Cupola regions, and the work that resyncs or repairs them (08_integrity.md R281 to R283). -/

namespace Sys2Proof.Machine

open Sys2Proof

/-! ### What leaves the commands of the rings -/

/-- What the part was built with and the commands of every ring are as before. -/
structure KeepsExecs (s t : State) : Prop where
  pop : t.pop = s.pop
  execs : SameExecs s t

section
variable {s t a b c : State}

theorem KeepsExecs.refl (s : State) : KeepsExecs s s := ⟨rfl, .refl s⟩

theorem KeepsExecs.trans (h : KeepsExecs a b) (k : KeepsExecs b c) : KeepsExecs a c := ⟨k.pop.trans h.pop, h.execs.trans k.execs⟩

theorem KeepsExecs.ite {p : Prop} [Decidable p] (ha : KeepsExecs s a) (hb : KeepsExecs s b) : KeepsExecs s (if p then a else b) := by
  split
  · exact ha
  · exact hb

theorem KeepsExecs.foldl {β : Type} {f : State → β → State} (h : ∀ a b, KeepsExecs a (f a b)) (l : List β) (s : State) :
    KeepsExecs s (l.foldl f s) := by
  induction l generalizing s with
  | nil => exact .refl s
  | cons b l ih => exact (h s b).trans (ih _)

theorem keepsExecs_of_eq (hpop : t.pop = s.pop) (hporter : t.porter = s.porter) : KeepsExecs s t := ⟨hpop, sameExecs_of_porter hporter⟩

theorem Judges.keepsExecs (h : Judges s t) : KeepsExecs s t := ⟨h.pop, h.execs⟩

end

theorem keepsExecs_modTile (s : State) (t : Nat) (f : Tile → Tile) : KeepsExecs s (s.modTile t f) := keepsExecs_of_eq rfl rfl
theorem keepsExecs_modCup (s : State) (f : Cupola → Cupola) : KeepsExecs s (s.modCup f) := keepsExecs_of_eq rfl rfl

/-! ### What awaits resync (R281) -/

theorem State.stripes_congr {s t : State} (hr : t.cup.regions = s.cup.regions) (hp : t.pop = s.pop) : t.stripes = s.stripes := by
  simp only [State.stripes, State.cupR, State.cupP, State.segs, hr, hp]

theorem State.unsyncAll_cup (s : State) :
    s.unsyncAll.cup = if s.stripes = 0 then s.cup else { s.cup with unsyncedFrom := some 0, unsynced := [] } := by
  unfold State.unsyncAll
  split
  · rfl
  · exact (judges_judgeSync _).cup

/-- The start of work records which it is. -/
theorem State.cupWorkStart_judges (s : State) (kind count : Nat) : Judges (s.modCup (fun c => { c with work := kind })) (s.cupWorkStart kind count) :=
  judges_event ..

theorem keepsExecs_unsyncAll (s : State) : KeepsExecs s s.unsyncAll := by
  unfold State.unsyncAll
  split
  · exact .refl s
  · exact (keepsExecs_modCup ..).trans (judges_judgeSync _).keepsExecs

theorem keepsExecs_setWindow (s : State) (who : Nat) : KeepsExecs s (s.setWindow who) := by
  rw [State.setWindow_eq]
  exact keepsExecs_modCup ..

/-! ### A new number of regions (R282) -/

theorem keepsExecs_jappend (s : State) (t : Nat) (r : JRec) : KeepsExecs s (s.jappend t r) := by
  unfold State.jappend
  dsimp only
  split <;> exact keepsExecs_of_eq rfl rfl

theorem keepsExecs_mapLineBad (s : State) (t l : Nat) : KeepsExecs s (s.mapLineBad t l) := by
  have hlatch := (judges_latch s (Reg.XL_ERR_STATUS t) 1 Gb.XL_MAP_UNCORR t [t, l / 16]).keepsExecs
  have hcause := (hlatch.trans (keepsExecs_modTile _ t fun x => { x with xl := { x.xl with mapFlips := adel (l / 16) x.xl.mapFlips } })).trans
    (judges_setCause _ 5 true).keepsExecs
  exact .ite hcause (hcause.trans (judges_setCause ..).keepsExecs)

theorem keepsExecs_invalidate (s : State) (t loc : Nat) : KeepsExecs s (s.invalidate t loc) := by
  unfold State.invalidate
  dsimp only
  (repeat' split) <;> exact keepsExecs_of_eq rfl rfl

theorem keepsExecs_replaceEntry (s : State) (t seg : Nat) (e : MapEnt) : KeepsExecs s (s.replaceEntry t seg e) := by
  have hset : KeepsExecs s (s.setMap t seg e) := (KeepsExecs.ite (keepsExecs_mapLineBad s t seg) (.refl s)).trans (keepsExecs_modTile ..)
  exact .ite (hset.trans (keepsExecs_invalidate _ t _)) hset

/-- R282: before the stripes are marked, Cupola has the new number of regions, nothing awaits resync, and the commands are as they were. -/
theorem State.setRegions_marks (s : State) (g : Nat) : ∃ a : State, (a.cup.regions = g ∧ a.cup.unsynced = [] ∧ a.cup.unsyncedFrom = none) ∧
    KeepsExecs s a ∧ s.setRegions g =
      if a.unsyncAll.stripes = 0 then a.unsyncAll.judgeSync else (a.unsyncAll.setWindow 1).cupWorkStart 2 a.unsyncAll.stripes := by
  unfold State.setRegions
  extract_lets s1 lo hi s2 s3
  have h1 : KeepsExecs s s1 := by
    refine .foldl (fun a t => ?_) _ s
    exact keepsExecs_modTile ..
  have h2 : KeepsExecs s1 s2 := by
    refine .foldl (fun a t => .foldl (fun b l => ?_) _ a) _ s1
    exact (keepsExecs_jappend b t (.discard l)).trans (keepsExecs_replaceEntry _ t l {})
  exact ⟨s2.modCup (fun c => { c with regions := g, unsyncedFrom := none, unsynced := [] }), ⟨rfl, rfl, rfl⟩,
    (h1.trans h2).trans (keepsExecs_modCup ..), rfl⟩

theorem State.setRegions_facts (s : State) (g : Nat) : (s.setRegions g).cup.regions = g ∧ (s.setRegions g).cup.unsynced = [] ∧
    (s.setRegions g).cup.unsyncedFrom = (if (s.setRegions g).stripes = 0 then none else some 0) ∧ KeepsExecs s (s.setRegions g) := by
  obtain ⟨a, ⟨hregions, hnone, hfrom⟩, hexecs, heq⟩ := s.setRegions_marks g
  have hall := a.unsyncAll_cup
  have hstripes : a.unsyncAll.stripes = a.stripes := State.stripes_congr (by rw [hall]; split <;> rfl) (keepsExecs_unsyncAll a).pop
  have hmarked := hexecs.trans (keepsExecs_unsyncAll a)
  rw [heq]
  by_cases hz : a.stripes = 0
  · rw [if_pos (hstripes.trans hz)]
    have hj := judges_judgeSync a.unsyncAll
    rw [if_pos hz] at hall
    rw [State.stripes_congr (congrArg Cupola.regions hj.cup) hj.pop, hstripes, if_pos hz, hj.cup, hall]
    exact ⟨hregions, hnone, hfrom, hmarked.trans hj.keepsExecs⟩
  · rw [if_neg (hstripes ▸ hz)]
    have hj := (a.unsyncAll.setWindow 1).cupWorkStart_judges 2 a.unsyncAll.stripes
    have hwork := hmarked.trans ((keepsExecs_setWindow _ 1).trans ((keepsExecs_modCup ..).trans hj.keepsExecs))
    rw [if_neg hz] at hall
    have hsame : ((a.unsyncAll.setWindow 1).cupWorkStart 2 a.unsyncAll.stripes).stripes = a.unsyncAll.stripes :=
      State.stripes_congr (by rw [hj.cup, State.setWindow_eq]; rfl) (by rw [hj.pop, State.setWindow_eq]; rfl)
    have hcup : ((a.unsyncAll.setWindow 1).modCup (fun c => { c with work := 2 })).cup =
        { (a.unsyncAll.setWindow 1).cup with work := 2 } := rfl
    rw [hsame, if_neg (hstripes ▸ hz), hj.cup, hcup]
    refine ⟨?_, ?_, ?_, hwork⟩ <;> rw [State.setWindow_eq, State.modCup_cup, hall]
    exact hregions

theorem State.ensureExec_windowFor (s : State) (pc : PortCmd) (op who : Nat) : (s.ensureExec pc op).windowFor who = s.windowFor who :=
  s.ensureExec_reads pc op (fun a => a.windowFor who) fun _ => rfl

theorem State.ensureExec_stripes (s : State) (pc : PortCmd) (op : Nat) : (s.ensureExec pc op).stripes = s.stripes :=
  s.ensureExec_reads pc op State.stripes fun _ => rfl

section
variable {s : State} {pc : PortCmd} (ha : s.accepts pc 0x0400 true = true) (hm : s.md.inService = true) (hw : s.cup.work = 0)
  (hwin : s.windowFor 1 = true)
include ha hm hw hwin

theorem State.cupolaConfigEff_same (hr : s.cup.regions ≤ 16) :
    s.cupolaConfigEff pc s.cup.regions false = (s.ensureExec pc 0x0400).ok pc [(32, 0)] := by
  rw [State.cupolaConfigEff, hm, State.porterRun_accepted _ _ _ _ _ ha]
  simp [State.ensureExec_windowFor, hw, hwin, Nat.not_lt.2 hr]

/-- R282: a lower number needs no check of what the new parity would hold. -/
theorem State.cupolaConfigEff_lower {regions : Nat} (hlt : regions < s.cup.regions) (hr : regions ≤ 16) :
    ∃ a : State, Judges ((s.ensureExec pc 0x0400).setRegions regions) a ∧ s.cupolaConfigEff pc regions false = a.ok pc [(32, a.stripes)] := by
  refine ⟨((s.ensureExec pc 0x0400).setRegions regions).event Gb.CUP_CONFIG 15 [s.cup.regions, regions], judges_event .., ?_⟩
  rw [State.cupolaConfigEff, hm, State.porterRun_accepted _ _ _ _ _ ha]
  simp [State.ensureExec_windowFor, hw, hwin, Nat.not_lt.2 hr, Nat.ne_of_lt hlt, Nat.not_lt.2 (Nat.le_of_lt hlt)]

end

/-! ### CUPOLA_REBUILD (R283) -/

section
variable {s : State} {pc : PortCmd} (ms : Nat) (ha : s.accepts pc 0x0401 true = true) (hm : s.md.sdService = true)
include ha hm

theorem State.cupolaRebuildEff_resync (hw : s.cup.work = 0) (hwin : s.windowFor 1 = true) :
    s.cupolaRebuildEff pc 1 ms =
      ((((s.ensureExec pc 0x0401).setWindow 1).unsyncAll).cupWorkStart 2 s.stripes).ok pc [(32, s.stripes)] := by
  rw [State.cupolaRebuildEff, hm, State.porterRun_accepted _ _ _ _ _ ha]
  simp [State.ensureExec_windowFor, State.ensureExec_stripes, hw, hwin]

theorem State.cupolaRebuildEff_stop (hw : s.cup.work = 1 ∨ s.cup.work = 2) :
    s.cupolaRebuildEff pc 2 ms = ((s.ensureExec pc 0x0401).cupWorkDone s.cup.work ms).ok pc [(32, 0)] := by
  rw [State.cupolaRebuildEff, hm, State.porterRun_accepted _ _ _ _ _ ha]
  simp [hw]

end

/-- R28, R283: every tile in service gave its window, and as many stripes as there are await resync from the first. -/
theorem State.resyncStarted (s : State) (n : Nat) {t : State} (ht : t = (((s.setWindow 1).unsyncAll).cupWorkStart 2 n)) :
    t.cup.work = 2 ∧ t.cup.regions = s.cup.regions ∧ t.aliveTiles.all (fun k => agetD k 0 t.cup.windows == 1) = true ∧
      t.cup.unsyncedFrom = (if s.stripes = 0 then s.cup.unsyncedFrom else some 0) ∧ KeepsExecs s t := by
  have hj := ((s.setWindow 1).unsyncAll).cupWorkStart_judges 2 n
  rw [← ht] at hj
  have hkept : KeepsExecs s t :=
    (keepsExecs_setWindow s 1).trans ((keepsExecs_unsyncAll _).trans ((keepsExecs_modCup ..).trans hj.keepsExecs))
  have hwin := s.setWindow_eq 1
  have hall := (s.setWindow 1).unsyncAll_cup
  have hstripes : (s.setWindow 1).stripes = s.stripes := State.stripes_congr (by rw [hwin]; rfl) (by rw [hwin]; rfl)
  have hwindows : t.cup.windows = s.aliveTiles.foldl (fun a t => aput t 1 a) s.cup.windows := by
    rw [hj.cup, State.modCup_cup, hall, hwin]
    split <;> rfl
  have hsteady : t.steady = s.steady := by
    rw [ht, hwin]
    simp [State.cupWorkStart, State.unsyncAll]
  have halive : t.aliveTiles = s.aliveTiles :=
    State.aliveTiles_congr hkept.pop (State.faults_congr (congrArg Prod.fst hsteady)).1
  refine ⟨by rw [hj.cup]; rfl, ?_, ?_, ?_, ?_⟩
  · rw [hj.cup, State.modCup_cup, hall, hwin]
    split <;> rfl
  · rw [halive, hwindows, List.all_eq_true]
    exact fun k hk => beq_iff_eq.2 (agetD_foldl_aput 1 0 hk _)
  · rw [hj.cup, State.modCup_cup, hall, hstripes, hwin]
    split <;> rfl
  · exact hkept

end Sys2Proof.Machine
end

section
/-! Cupola's deltas, slots and commands (08_integrity.md R271 to R273, R281 to R283). -/

namespace Sys2Proof.Machine

open Sys2Proof

theorem State.othersKept_modCupT (s : State) (tile : Nat) (f : CupTile → CupTile) {t : State} {j : Jobs}
    (h : CountersOnly { s.modCupT tile f with jobs := j } t) : s.othersKept t tile = true := by
  simp only [State.othersKept, List.all_eq_true, Bool.or_eq_true, beq_iff_eq]
  intro k _
  by_cases hk : k = tile
  · exact .inl hk
  · have hkept := h.tileKept k
    have htile : State.tile { s.modCupT tile f with jobs := j } k = s.tile k := State.tile_modTile_ne hk s _
    rw [State.tileKept, htile] at hkept
    exact .inr hkept

/-- R271: a delta for a free slot. -/
theorem completes_firstSlot {s : State} {tile p : Nat} {errs : List LineErr} {d : Delta} {l : List Msg} (h8 : tile < 8)
    (heff : s.cupolaDeltaReceiveEff tile errs = (s.modCupT tile (fun _ => (s.tile tile).cup.firstSlot d l)).cupAck tile d .applied)
    (hroute : s.routePort tile d.src = some p) :
    Completes (.cupolaDeltaReceive tile errs) s (fun t => (t.tile tile).cup = (s.tile tile).cup.firstSlot d l ∧
      t.sentLast tile p 2 = some { src := tile, dst := d.src, body := .ack .applied d.seg } ∧ s.othersKept t tile = true ∧
      Only [.tiles, .jobs, .reg, .free] s t) := by
  obtain ⟨hlast, hcount⟩ := State.cupAck_of_route (s := s.modCupT tile (fun _ => (s.tile tile).cup.firstSlot d l)) .applied hroute
  rw [← heff] at hlast hcount
  have hcup : ((s.cupolaDeltaReceiveEff tile errs).tile tile).cup = (s.tile tile).cup.firstSlot d l :=
    (congrArg Tile.cup (hcount.tile tile) :).trans (congrArg Tile.cup (State.tile_modTile_self s _ h8))
  exact completes_of_run (exec_cupolaDeltaReceive ..) (by rw [hcount.frame]; rfl) (by rw [hcount.frame]; rfl) (by rw [hcount.frame]; rfl)
    ⟨hcup, hlast, State.othersKept_modCupT s tile _ hcount, only_links_of_eq hcount.frame⟩

/-- R273: the slots of the stripe are being flushed, whatever the start of the commit does. -/
theorem State.flushed_slots (s : State) {tile : Nat} (h8 : tile < 8) (pl : Nat) (pg : Page) :
    (((s.modCupT tile (fun c => { c with slots := flushed pl c.slots })).beginCommit tile (.cup pl) pl pg).tile tile).cup.slots.all
      (fun x => x.1 != pl || x.2.flushing) = true := by
  set a := s.modCupT tile (fun c => { c with slots := flushed pl c.slots }) with ha
  have hcup : ((a.beginCommit tile (.cup pl) pl pg).tile tile).cup = (a.tile tile).cup := congrFun (a.beginCommit_cupolas ..) tile
  rw [hcup, ha, State.modCupT, State.tile_modTile_self _ _ h8]
  exact flushed_all pl _

/-- R24: a commit that begins is among those of the tile, whether its program was placed or not. -/
theorem State.flushed_commits (s : State) {tile : Nat} (h8 : tile < 8) (pl : Nat) (pg : Page) :
    (((s.modCupT tile (fun c => { c with slots := flushed pl c.slots })).beginCommit tile (.cup pl) pl pg).tile tile).xl.commits.any
      (fun c => c.seg == pl && c.job == .cup pl) = true := by
  set a := s.modCupT tile (fun c => { c with slots := flushed pl c.slots })
  have hdrives := (drives_launchCommit (a.modXl tile (fun x => { x with commits := x.commits ++ [{ job := .cup pl, seg := pl, page := pg }] })) tile
    { job := .cup pl, seg := pl, page := pg }).tile tile
  have hlist : ((a.beginCommit tile (.cup pl) pl pg).tile tile).xl.commits.map (fun c => (c.seg, c.job)) =
      (a.tile tile).xl.commits.map (fun c => (c.seg, c.job)) ++ [(pl, .cup pl)] := by
    refine (congrArg Prod.snd hdrives).trans ?_
    simp [Tile.committed, State.modXl, State.tile_modTile_self _ _ h8]
  have hmem : (pl, Job.cup pl) ∈ ((a.beginCommit tile (.cup pl) pl pg).tile tile).xl.commits.map (fun c => (c.seg, c.job)) := by
    rw [hlist]
    exact List.mem_append_right _ (List.mem_singleton_self _)
  obtain ⟨c, hc, heq⟩ := List.mem_map.1 hmem
  obtain ⟨hseg, hjob⟩ := Prod.mk.inj heq
  exact List.any_eq_true.2 ⟨c, hc, by simp [hseg, hjob]⟩

/-- R283: work ends. -/
theorem State.cupWorkDone_facts (s : State) (kind ms : Nat) :
    (s.cupWorkDone kind ms).cup = { s.cup with work := 0, windows := s.cup.windows.filter (fun e => e.2 != 1) } ∧
      (s.cupWorkDone kind ms).tiles = s.tiles :=
  ⟨(s.cupWorkDone_eq kind ms).cup, (s.cupWorkDone_eq kind ms).tiles⟩

/-- Settles O30: each command by the state that it leaves; answers change counters and links alone, the start of a commit leaves Cupola's state
of every tile, and the judgement of the causes leaves Cupola's and every tile. -/
theorem cupolaWork : Obligations.CupolaWork := by
  unfold Obligations.CupolaWork
  refine ⟨?delta, ?busy, ?ack, ?flush, ?done, ?same, ?lower, ?resync, ?stop⟩
  case delta =>
    intro s tile p errs m d l ht h8 hm hnew hin hslots hroute
    exact completes_firstSlot h8 (State.cupolaDeltaReceiveEff_free errs ht h8 hm hnew hin hslots) hroute
  case busy =>
    intro s tile p d ht _ hheld hroute
    have heff := State.cupolaBusyTimerEff_one ht hheld
    obtain ⟨hlast, hcount⟩ := State.cupAck_of_route .busy hroute
    rw [← heff] at hlast hcount
    exact completes_of_links (exec_cupolaBusyTimer ..) hcount ⟨hlast, othersKept_of_links hcount, only_of_links hcount⟩
  case ack =>
    intro s tile seg m l ht hin hm
    exact completes_ran (exec_cupolaAckReceive ..) (State.cupolaAckReceiveEff_busy ht hin hm) rfl
  case flush =>
    intro s tile pl k errs ht h8 hseal hmode hold hdirty hcommits hmap hadopt
    obtain ⟨pg, hflush⟩ := State.flushStripe_never errs hmap hadopt
    exact completes_ran (exec_cupolaSlotFlush ..) ((State.cupolaSlotFlushEff_holdup errs ht hseal hmode hold hdirty hcommits hmap).trans hflush)
      ⟨State.flushed_slots s h8 pl pg, State.flushed_commits s h8 pl pg⟩
  case done =>
    intro s ms ho hn hf hw hm
    exact completes_ran (exec_cupolaResyncStripe ..) (State.cupolaResyncStripeEff_done ms ho hn hf hw hm) (s.cupWorkDone_facts 2 ms)
  case same =>
    intro s pc ha hm hr hw hwin
    exact completes_finish (exec_cupolaConfig ..) ha (State.cupolaConfigEff_same ha hm hw hwin hr)
  case lower =>
    intro s pc regions ha hm hlt hr hw hwin
    obtain ⟨a, hj, heff⟩ := State.cupolaConfigEff_lower ha hm hw hwin hlt hr
    obtain ⟨hregions, hnone, hfrom, hexecs⟩ := (s.ensureExec pc 0x0400).setRegions_facts regions
    have hkept := hexecs.trans hj.keepsExecs
    have hres := State.resultOf_finish_of_execs ha hkept.execs (succeeded [(32, a.stripes)])
    have hran : (s.ran (a.ok pc [(32, a.stripes)])).stripes = a.stripes := State.stripes_congr rfl (hkept.pop.trans (s.ensureExec_pop pc 0x0400)).symm
    have hstripes : a.stripes = ((s.ensureExec pc 0x0400).setRegions regions).stripes := State.stripes_congr (congrArg Cupola.regions hj.cup) hj.pop
    refine completes_ran (exec_cupolaConfig ..) heff ?_
    rw [hran]
    refine ⟨(congrArg Cupola.regions hj.cup).trans hregions, (congrArg Cupola.unsynced hj.cup).trans hnone, ?_, hres⟩
    rw [hstripes]
    exact (congrArg Cupola.unsyncedFrom hj.cup).trans hfrom
  case resync =>
    intro s pc ms ha hm hw hwin
    obtain ⟨hwork, hregions, hwindows, hfrom, hkept⟩ := (s.ensureExec pc 0x0401).resyncStarted s.stripes rfl
    have heff := State.cupolaRebuildEff_resync ms ha hm hw hwin
    generalize ((((s.ensureExec pc 0x0401).setWindow 1).unsyncAll).cupWorkStart 2 s.stripes) = a at *
    have hres := State.resultOf_finish_of_execs ha hkept.execs (succeeded [(32, s.stripes)])
    have halive : (s.ran (a.ok pc [(32, s.stripes)])).aliveTiles = a.aliveTiles :=
      State.aliveTiles_congr (hkept.pop.trans (s.ensureExec_pop pc 0x0401)).symm rfl
    rw [State.ensureExec_cup] at hregions hfrom
    rw [State.ensureExec_stripes] at hfrom
    refine completes_ran (exec_cupolaRebuild ..) heff ⟨hwork, hregions, ?_, hfrom, hres⟩
    rw [halive]
    exact hwindows
  case stop =>
    intro s pc ms ha hm hw
    have hj := (s.ensureExec pc 0x0401).cupWorkDone_eq s.cup.work ms
    have hres := State.resultOf_finish_of_execs ha ((sameExecs_of_porter rfl).trans hj.execs) (succeeded [(32, 0)])
    refine completes_ran (exec_cupolaRebuild ..) (State.cupolaRebuildEff_stop ms ha hm hw) ⟨?_, hres⟩
    refine hj.cup.trans ?_
    rw [State.modCup_cup, State.ensureExec_cup]

end Sys2Proof.Machine
end

section
/-! What reads of the scrubber leave of what it counts (08_integrity.md R258 to R262): the ladder's outcome, a page queued for refresh, a marginal
page, and a page that is lost. -/

namespace Sys2Proof.Machine

open Sys2Proof

@[simp] theorem State.maintRead_steady (s : State) (t loc : Nat) (errs : List LineErr) : (s.maintRead t loc errs).1.steady = s.steady := by
  simp [State.maintRead]

@[simp] theorem State.marginalPage_steady (s : State) (t loc : Nat) : (s.marginalPage t loc).steady = s.steady := by
  simp [State.marginalPage]

@[simp] theorem State.carQueue_steady (s : State) (l : List Nat) : (s.carQueue l).steady = s.steady := by simp [State.carQueue]

@[simp] theorem State.markUnsynced_steady (s : State) (k : Nat) : (s.markUnsynced k).steady = s.steady := by simp [State.markUnsynced]

@[simp] theorem State.parityGone_steady (s : State) (t l : Nat) : (s.parityGone t l).steady = s.steady := by
  unfold State.parityGone
  (repeat' split) <;> simp

@[simp] theorem State.loseSeg_steady (s : State) (t l : Nat) : (s.loseSeg t l).steady = s.steady := by simp [State.loseSeg]

@[simp] theorem State.pageLost_steady (s : State) (t loc : Nat) (bad : List Nat) : (s.pageLost t loc bad).steady = s.steady := by
  unfold State.pageLost
  (repeat' split) <;> simp

end Sys2Proof.Machine
end

section
/-! Scrubbing, refresh and repair (08_integrity.md R260, R262, R263, R280, R283). -/

namespace Sys2Proof.Machine

open Sys2Proof

theorem exec_scrubVisit (tile ch : Nat) (errs : List LineErr) (s : State) :
    exec (.scrubVisit tile ch errs) s = s.run (fun x => x.scrubVisitEff tile ch errs) := rfl

theorem exec_refreshExecute (tile : Nat) (s : State) : exec (.refreshExecute tile) s = s.run (fun x => x.refreshExecuteEff tile) := rfl
theorem exec_lostRepair (tile ms : Nat) (s : State) : exec (.lostRepair tile ms) s = s.run (fun x => x.lostRepairEff tile ms) := rfl

/-! ### A visit of the scrubber (R260) -/

/-- A visit outside a Scan Media range: the page is read and what it meets handled, from the budget spent on; then the visit is counted, and the
scrubber's place is the page. -/
theorem State.scrubVisitEff_visits {s : State} {tile ch i loc : Nat} (errs : List LineErr) (ht : s.alive tile = true) (hup : (s.chan tile ch).st = 2)
    (hon : s.regBit Reg.INT_CTL 15 = true) (hbudget : s.sectorBudget tile 3 ch = some i) (hnext : s.scrubNext tile ch = some (loc, false))
    (hfree : s.mediaFree tile loc = true) (hscan : (s.tile tile).med.scan = []) :
    ∃ a : State, a.steady = (s.spend tile i ch).steady ∧ s.scrubVisitEff tile ch errs =
      (((a.stat tile 8 1).perfEvent tile 0x42 0 1).judgeLost).modCh tile ch (fun k => { k with scrubAt := some loc }) := by
  refine ⟨_, ?_, by simp only [State.scrubVisitEff, ht, hup, hon, hbudget, hnext, hfree, hscan]; rfl⟩
  simp

theorem State.spend_spent {s : State} {tile ch i : Nat} (h8 : tile < 8) (hbudget : s.sectorBudget tile 3 ch = some i) :
    agetD (16 * i + ch) 0 ((s.spend tile i ch).tile tile).bel.spent = agetD (16 * i + ch) 0 (s.tile tile).bel.spent + 1 := by
  have hcls : (s.schedEntry tile i).cls = 3 := by
    have hentry := List.find?_some hbudget
    simp only [Bool.and_eq_true, beq_iff_eq] at hentry
    exact hentry.1.1.1.2
  have hkey : (if (s.schedEntry tile i).cls = 6 then 8 else ch) = ch := if_neg (by simp [hcls])
  rw [State.spend, hkey, State.modBelT, State.tile_modTile_self _ _ h8]
  exact agetD_aput_self ..

/-- R260: the count of the visits, the budget spent and the scrubber's place. -/
theorem completes_scrubVisit {s : State} {tile ch i loc : Nat} {errs : List LineErr} (h8 : tile < 8) (hch : ch < 8)
    (hbudget : s.sectorBudget tile 3 ch = some i) {a : State} (ha : a.steady = (s.spend tile i ch).steady)
    (heff : s.scrubVisitEff tile ch errs =
      (((a.stat tile 8 1).perfEvent tile 0x42 0 1).judgeLost).modCh tile ch (fun k => { k with scrubAt := some loc })) :
    Completes (.scrubVisit tile ch errs) s (fun t => (t.chan tile ch).scrubAt = some loc ∧
      agetD 8 0 (t.tile tile).int.stats = min 0xFFFFFFFF (agetD 8 0 (s.tile tile).int.stats + 1) ∧ (t.tile tile).int.passes = (s.tile tile).int.passes ∧
      agetD (16 * i + ch) 0 (t.tile tile).bel.spent = agetD (16 * i + ch) 0 (s.tile tile).bel.spent + 1 ∧ t.pw = s.pw ∧ t.fuse = s.fuse) := by
  have hlast := State.modCh_steady (s := ((a.stat tile 8 1).perfEvent tile 0x42 0 1).judgeLost) tile ch (fun k => { k with scrubAt := some loc })
  rw [← heff, State.judgeLost_steady, State.perfEvent_steady] at hlast
  have hplace : ((s.scrubVisitEff tile ch errs).chan tile ch).scrubAt = some loc := by rw [heff, State.chan_modCh_self _ h8 hch]
  refine completes_ran (exec_scrubVisit ..) rfl ?_
  generalize s.scrubVisitEff tile ch errs = t at hlast hplace ⊢
  obtain ⟨hpw, htiles⟩ := Prod.mk.inj (Prod.mk.inj hlast).2
  obtain ⟨hpwa, htilesa⟩ := Prod.mk.inj (Prod.mk.inj ha).2
  have hint : ((a.stat tile 8 1).tile tile).int =
      { (a.tile tile).int with stats := aputD 0 8 (satAdd 0xFFFFFFFF (agetD 8 0 (a.tile tile).int.stats) 1) (a.tile tile).int.stats } := by
    rw [State.stat, State.modInt, State.tile_modTile_self _ _ h8]
  have hbel : ((a.stat tile 8 1).tile tile).bel = (a.tile tile).bel := by rw [State.stat, State.modInt, State.tile_modTile_self _ _ h8]
  have hspend : ((s.spend tile i ch).tile tile).int = (s.tile tile).int := by rw [State.spend, State.modBelT, State.tile_modTile_self _ _ h8]
  have hcount := congrFun htiles tile
  have hcounta := congrFun htilesa tile
  simp only [Tile.scrub, hint, hbel, agetD_aputD_self, Prod.mk.injEq] at hcount
  simp only [Tile.scrub, hspend, Prod.mk.injEq] at hcounta
  obtain ⟨hpasses, hvisits, hspent⟩ := hcount
  obtain ⟨hpassesa, hvisitsa, hspenta⟩ := hcounta
  refine ⟨hplace, ?_, hpasses.trans hpassesa, ?_, hpw.trans hpwa, rfl⟩
  · rw [State.tile_ran, hvisits, hvisitsa, satAdd]
  · rw [State.tile_ran, hspent, hspenta, State.spend_spent h8 hbudget]

/-! ### REFRESH_EXECUTE (R263) -/

/-- The refresh queue of a tile without an entry. -/
def State.refreshOff (s : State) (tile : Nat) (r : Refresh) : State := s.modInt tile (fun x => { x with queue := x.queue.filter (· != r) })

theorem State.refreshOff_tile (s : State) {tile : Nat} (h8 : tile < 8) (r : Refresh) : (s.refreshOff tile r).tile tile =
    { s.tile tile with int := { (s.tile tile).int with queue := (s.tile tile).int.queue.filter (· != r) } } :=
  State.tile_modTile_self s _ h8

section
variable {s : State} {tile : Nat} {r : Refresh} (hmay : s.mayMaintain tile = true) (hnext : s.refreshNext tile = some r)
include hmay hnext

theorem State.refreshExecuteEff_stale (hloc : (s.mapRaw tile (((aget r.loc (s.tile tile).med.pages).map (·.subject)).getD 0)).loc ≠ r.loc) :
    s.refreshExecuteEff tile = (s.refreshOff tile r).judgeLost := by
  simp only [State.refreshExecuteEff, hmay, hnext, bne_iff_ne.2 hloc]
  rfl

theorem State.refreshExecuteEff_batch {i seg : Nat} {pg : Page} (hpg : aget r.loc (s.tile tile).med.pages = some pg) (hseg : pg.subject = seg)
    (hloc : (s.mapRaw tile seg).loc = r.loc) (hst : (s.mapRaw tile seg).st = .mapped) (hbudget : s.sectorBudget tile 2 (locCh r.loc) = some i)
    (hnone : (s.tile tile).xl.batches = []) :
    s.refreshExecuteEff tile = (s.refreshOff tile r).modXl tile (fun x => { x with batches := x.batches ++
      [{ src := locBlk r.loc, plane := planeNo r.loc, target := 1, left := [(seg, r.loc)], refresh := true }] }) := by
  subst hseg
  simp [State.refreshExecuteEff, hmay, hnext, hpg, hloc, hst, hbudget, hnone]
  rfl

end

/-! ### LOST_REPAIR (R280, R283) -/

theorem State.lostRepairEff_done {s : State} (tile ms : Nat) (hw : s.cup.work = 1) (hm : s.cupMayWork = true) (hl : s.lostAll = 0) :
    s.lostRepairEff tile ms = s.cupWorkDone 1 ms := by
  simp [State.lostRepairEff, hw, hm, hl]

end Sys2Proof.Machine
end

section
/-! Error injection and the commands of scrubbing and error statistics (08_integrity.md R264 to R266, R283). -/

namespace Sys2Proof.Machine

open Sys2Proof

theorem exec_injectError (pc : PortCmd) (tile target ch page line frame seg count : Nat) (readNow : Bool) (errs : List LineErr) (s : State) :
    exec (.injectError pc tile target ch page line frame seg count readNow errs) s =
      s.run (fun x => x.injectErrorEff pc tile target ch page line frame seg count readNow errs) := rfl

theorem exec_scrubCtl (pc : PortCmd) (mask : Nat) (enable restart : Bool) (sym off shift : Nat) (persist : Bool) (s : State) :
    exec (.scrubCtl pc mask enable restart sym off shift persist) s =
      s.run (fun x => x.scrubCtlEff pc mask enable restart sym off shift persist) := rfl

theorem exec_getErrorStats (pc : PortCmd) (tile buf : Nat) (clear : Bool) (s : State) :
    exec (.getErrorStats pc tile buf clear) s = s.run (fun x => x.getErrorStatsEff pc tile buf clear) := rfl

/-! ### INJECT_ERROR (R264 to R266) -/

/-- A tile is changed, the injection is recorded, and the command ends with STEP and SYMBOLS 0. -/
def State.injected (s : State) (pc : PortCmd) (tile target n : Nat) (f : Tile → Tile) : State :=
  (((s.ensureExec pc 0x0301).modTile tile f).event Gb.INT_INJECT tile [tile, target, n]).ok pc [(3, 0), (8, 0)]

/-- What such a command leaves, whatever of the tile it changes. -/
theorem completes_injected {c : Instr} {s : State} {F : State → State} {pc : PortCmd} {tile target n : Nat} {f : Tile → Tile} {P : Tile → Prop}
    (hexec : exec c s = s.run F) (ha : s.accepts pc 0x0301 true = true) (h8 : tile < 8) (heff : F s = s.injected pc tile target n f)
    (hP : P (f (s.tile tile))) :
    Completes c s (fun t => P (t.tile tile) ∧ t.resultOf pc = some (succeeded [(3, 0), (8, 0)]) ∧ s.othersKept t tile = true ∧
      Only (.tiles :: logParts) s t) := by
  set b := (s.ensureExec pc 0x0301).modTile tile f with hb
  have hlog := onlyLog_event b Gb.INT_INJECT tile [tile, target, n]
  have hstart (u : Nat) : (s.ensureExec pc 0x0301).tile u = s.tile u := by rw [State.tile, State.ensureExec_tiles, State.tile]
  have htile (u : Nat) : (s.injected pc tile target n f).tile u = b.tile u := by
    rw [State.injected, State.tile, State.ok_tiles, hlog.tiles, State.tile]
  have hres := State.resultOf_finish_of_execs ha
    ((sameExecs_of_porter (t := b) rfl).trans (sameExecs_event b Gb.INT_INJECT tile [tile, target, n])) (succeeded [(3, 0), (8, 0)])
  have honly : TilesLog s (s.injected pc tile target n f) :=
    ((State.ensureExec_tilesLog ..).trans (OnlyLog.tilesLog rfl hlog)).trans (tilesLog_finish ..)
  refine completes_ran hexec heff ⟨?_, hres, othersKept_of fun u hu => ?_, honly.only⟩
  · rw [State.tile_ran, htile, hb, State.tile_modTile_self _ _ h8, hstart]
    exact hP
  · rw [State.tile_ran, htile, hb, State.tile_modTile_ne hu, hstart]

/-- How often an injection counts: COUNT 0 acts as 1. -/
def injectCount (count : Nat) : Nat := if count = 0 then 1 else count

@[simp] theorem State.ensureExec_alive (s : State) (pc : PortCmd) (op t : Nat) : (s.ensureExec pc op).alive t = s.alive t :=
  s.ensureExec_reads pc op (fun a => a.alive t) fun _ => rfl

@[simp] theorem State.ensureExec_flipRegs (s : State) (pc : PortCmd) (op : Nat) : (s.ensureExec pc op).flipRegs = s.flipRegs :=
  s.ensureExec_reads pc op State.flipRegs fun _ => rfl

@[simp] theorem State.ensureExec_segs (s : State) (pc : PortCmd) (op : Nat) : (s.ensureExec pc op).segs = s.segs :=
  s.ensureExec_reads pc op State.segs fun _ => rfl

@[simp] theorem State.ensureExec_tile (s : State) (pc : PortCmd) (op t : Nat) : (s.ensureExec pc op).tile t = s.tile t :=
  s.ensureExec_reads pc op (fun a => a.tile t) fun _ => rfl

@[simp] theorem State.ensureExec_chan (s : State) (pc : PortCmd) (op t c : Nat) : (s.ensureExec pc op).chan t c = s.chan t c :=
  s.ensureExec_reads pc op (fun a => a.chan t c) fun _ => rfl

section
variable {s : State} {pc : PortCmd} {tile ch page line frame seg count : Nat} {readNow : Bool} {errs : List LineErr}
  (ha : s.accepts pc 0x0301 true = true) (hm : s.md.inService = true) (ht : s.alive tile = true)
include ha hm ht

theorem State.injectErrorEff_line (hframe : frame < framesOf s.pop) (hline : line < 65) :
    s.injectErrorEff pc tile 3 ch page line frame seg count readNow errs = s.injected pc tile 3 (injectCount count) (fun x => { x with fs := { x.fs with
      lineFlips := aputD 0 (65 * frame + line) (Nat.xor (agetD (65 * frame + line) 0 x.fs.lineFlips) (flipPat s.flipRegs.1 s.flipRegs.2)) x.fs.lineFlips } }) := by
  rw [State.injectErrorEff, hm, State.porterRun_accepted _ _ _ _ _ ha]
  simp [State.checkFields, firstBad, ht, hframe, hline]
  rfl

theorem State.injectErrorEff_tag (hframe : frame < framesOf s.pop) :
    s.injectErrorEff pc tile 4 ch page line frame seg count readNow errs = s.injected pc tile 4 (injectCount count) (fun x => { x with fs := { x.fs with
      tagFlips := aputD 0 frame (Nat.xor (agetD frame 0 x.fs.tagFlips) (s.flipRegs.1 % 2 ^ 36)) x.fs.tagFlips } }) := by
  rw [State.injectErrorEff, hm, State.porterRun_accepted _ _ _ _ _ ha]
  simp [State.checkFields, firstBad, ht, hframe]
  rfl

theorem State.injectErrorEff_map (hseg : seg < s.segs) :
    s.injectErrorEff pc tile 6 ch page line frame seg count readNow errs = s.injected pc tile 6 (injectCount count) (fun x => { x with xl := { x.xl with
      mapFlips := aputD 0 (seg / 16) (Nat.xor (agetD (seg / 16) 0 x.xl.mapFlips) (flipPat s.flipRegs.1 s.flipRegs.2)) x.xl.mapFlips } }) := by
  rw [State.injectErrorEff, hm, State.porterRun_accepted _ _ _ _ _ ha]
  simp [State.checkFields, firstBad, ht, hseg]
  rfl

theorem State.injectErrorEff_media {target : Nat} (htarget : target = 0 ∨ target = 2) (hup : (s.chan tile ch).st = 2) (hline : line < 68)
    (hroom : (s.tile tile).int.armed.length < 4) :
    s.injectErrorEff pc tile target ch page line frame seg count false errs = s.injected pc tile target (injectCount count) (fun x => { x with int := { x.int with
      armed := x.int.armed ++ [{ margin := target == 2, loc := ch * 2 ^ 26 + page, line := line, mask := s.flipRegs.1, value := s.flipRegs.2,
                                 left := injectCount count }] } }) := by
  rw [State.injectErrorEff, hm, State.porterRun_accepted _ _ _ _ _ ha]
  obtain rfl | rfl := htarget
  · simp [State.checkFields, firstBad, ht, hup, hline, Nat.not_le.2 hroom]
    rfl
  · simp [State.checkFields, firstBad, ht, hup, hline, Nat.not_le.2 hroom]
    rfl

end

/-! ### SCRUB_CTL and GET_ERROR_STATS (R283) -/

theorem State.scrubCtlEff_set {s : State} {pc : PortCmd} {mask : Nat} (enable : Bool) (sym off shift : Nat) (ha : s.accepts pc 0x0300 true = true)
    (hm : s.md.operating = true) (hts : (List.range 8).all (fun t => !bitOf mask t || s.present.contains t) = true) :
    ∃ r, s.scrubCtlEff pc mask enable false sym off shift false =
      ((s.ensureExec pc 0x0300).setReg Reg.INT_CTL (BitVec.ofNat 32 (b2n enable * 32768 + sym * 4096 + shift * 256 + off))).ok pc r := by
  have hcheck : ((List.range 8).filter (bitOf mask)).all (fun t => (s.ensureExec pc 0x0300).present.contains t) = true := by
    have hpresent : (s.ensureExec pc 0x0300).present = s.present := s.ensureExec_reads pc _ State.present fun _ => rfl
    rw [hpresent, List.all_filter]
    exact hts
  rw [State.scrubCtlEff, hm, State.porterRun_accepted _ _ _ _ _ ha]
  simp only [State.checkFields, hcheck, firstBad]
  exact ⟨_, rfl⟩

/-- GET_ERROR_STATS with its report sent, and the counters cleared where CLEAR asks for it. -/
def State.reported (s : State) (pc : PortCmd) (tile buf : Nat) (clear : Bool) : State :=
  let a := (s.ensureExec pc 0x0302).emit (.hostWrite (s.ring pc.ring).head buf (wordBytes (s.errorStats tile)))
  if clear then a.modInt tile (fun x => { x with stats := [] }) else a

theorem State.getErrorStatsEff_reports {s : State} {pc : PortCmd} {tile buf : Nat} {clear : Bool} (ha : s.accepts pc 0x0302 clear = true)
    (ht : tile < s.pop.tiles) (hbuf : aligned64 buf = true) : s.getErrorStatsEff pc tile buf clear = (s.reported pc tile buf clear).ok pc [] := by
  have hpresent : (s.ensureExec pc 0x0302).present.contains tile = true := by simpa [State.present] using ht
  have hstats : (s.ensureExec pc 0x0302).errorStats tile = s.errorStats tile := s.ensureExec_reads pc _ (fun a => a.errorStats tile) fun _ => rfl
  rw [State.getErrorStatsEff, State.porterRun_accepted _ _ _ _ _ ha]
  simp only [State.checkFields, hpresent, hbuf, firstBad, if_true, hstats, State.ensureExec_head, State.reported]

section
variable (s : State) (pc : PortCmd) {tile : Nat} (buf : Nat) (clear : Bool)

theorem State.reported_frame : s.reported pc tile buf clear =
    { s with porter := (s.ensureExec pc 0x0302).porter, outbox := s.outbox ++ [.hostWrite (s.ring pc.ring).head buf (wordBytes (s.errorStats tile))],
             tiles := (s.reported pc tile buf clear).tiles } := by
  unfold State.reported
  rw [State.ensureExec_frame]
  cases clear <;> rfl

theorem State.reported_int (h8 : tile < 8) : ((s.reported pc tile buf clear).tile tile).int =
    (if clear then { (s.tile tile).int with stats := [] } else (s.tile tile).int) := by
  cases clear with
  | false => exact congrArg Tile.int (s.ensureExec_tile pc 0x0302 tile)
  | true =>
    refine (congrArg Tile.int (State.tile_modTile_self _ _ h8)).trans ?_
    exact congrArg (fun x : Tile => { x.int with stats := [] }) (s.ensureExec_tile pc 0x0302 tile)

theorem State.reported_other {u : Nat} (hu : u ≠ tile) : (s.reported pc tile buf clear).tile u = s.tile u := by
  cases clear with
  | false => exact s.ensureExec_tile pc 0x0302 u
  | true => exact (State.tile_modTile_ne hu ..).trans (s.ensureExec_tile pc 0x0302 u)

end

theorem only_report (s t : State) (h : t = { s with porter := t.porter, outbox := t.outbox, tiles := t.tiles }) :
    Only [.porter, .outbox, .tiles] s (s.ran t) := by
  rw [h]
  exact ⟨rfl, rfl, by simp [Part.all, Part.same, State.ran]⟩

theorem only_reg_porter (s t : State) (h : t = { s with reg := t.reg, porter := t.porter }) : Only [.reg, .porter] s (s.ran t) := by
  rw [h]
  exact ⟨rfl, rfl, by simp [Part.all, Part.same, State.ran]⟩

end Sys2Proof.Machine
end

section
/-! Scrubbing, refresh, repair and error injection (08_integrity.md R260 to R266, R280, R283). -/

namespace Sys2Proof.Machine

open Sys2Proof

/-- Settles O29: each command by the state that it leaves; the reads of the scrubber leave what it counts, and what an injection or a command
of the statistics changes is one tile, Porter and the log. -/
theorem scrubAndInject : Obligations.ScrubAndInject := by
  unfold Obligations.ScrubAndInject
  refine ⟨?visit, ?stale, ?batch, ?repair, ?line, ?tag, ?map, ?media, ?ctl, ?stats⟩
  case visit =>
    intro s tile ch i loc errs ht h8 hch hup hon hbudget hnext hfree hscan
    obtain ⟨a, hsteady, heff⟩ := State.scrubVisitEff_visits errs ht hup hon hbudget hnext hfree hscan
    exact completes_scrubVisit h8 hch hbudget hsteady heff
  case stale =>
    intro s tile r hmay h8 hnext hloc
    refine completes_ran (exec_refreshExecute ..) (State.refreshExecuteEff_stale hmay hnext hloc) ?_
    rw [State.tile_ran, (judges_judgeLost _).tile, s.refreshOff_tile h8]
    exact ⟨rfl, rfl, rfl⟩
  case batch =>
    intro s tile i seg r pg hmay h8 hnext hpg hseg hloc hst hbudget hnone
    refine completes_ran (exec_refreshExecute ..) (State.refreshExecuteEff_batch hmay hnext hpg hseg hloc hst hbudget hnone) ⟨?_, ?_, ?_, only_tiles s _ rfl⟩
    · rw [State.tile_ran, State.xl_modXl_self _ h8, s.refreshOff_tile h8, hnone]
      rfl
    · rw [State.tile_ran, State.modXl, State.tile_modTile_self _ _ h8, s.refreshOff_tile h8]
    · exact othersKept_of fun u hu => (State.tile_modTile_ne hu ..).trans (State.tile_modTile_ne hu ..)
  case repair =>
    intro s tile ms hw hm hl
    exact completes_ran (exec_lostRepair ..) (State.lostRepairEff_done tile ms hw hm hl) (s.cupWorkDone_facts 1 ms)
  case line =>
    intro s pc tile ch page line frame seg count readNow errs ha hm ht h8 hframe hline
    exact completes_injected (P := fun x => x.fs = _) (exec_injectError ..) ha h8 (State.injectErrorEff_line ha hm ht hframe hline) rfl
  case tag =>
    intro s pc tile ch page line frame seg count readNow errs ha hm ht h8 hframe
    exact completes_injected (P := fun x => x.fs = _) (exec_injectError ..) ha h8 (State.injectErrorEff_tag ha hm ht hframe) rfl
  case map =>
    intro s pc tile ch page line frame seg count readNow errs ha hm ht h8 hseg
    exact completes_injected (P := fun x => x.xl = _) (exec_injectError ..) ha h8 (State.injectErrorEff_map ha hm ht hseg) rfl
  case media =>
    intro s pc tile target ch page line frame seg count errs ha hm ht h8 htarget hup hline hroom
    exact completes_injected (P := fun x => x.int = _) (exec_injectError ..) ha h8 (State.injectErrorEff_media ha hm ht htarget hup hline hroom) rfl
  case ctl =>
    intro s pc mask sym off shift enable ha hm hts
    obtain ⟨r, heff⟩ := State.scrubCtlEff_set enable sym off shift ha hm hts
    have hres := State.resultOf_finish_of_execs ha (t := (s.ensureExec pc 0x0300).setReg Reg.INT_CTL
      (BitVec.ofNat 32 (b2n enable * 32768 + sym * 4096 + shift * 256 + off))) (sameExecs_of_porter rfl) (succeeded r)
    refine completes_ran (exec_scrubCtl ..) heff ⟨?_, congrArg (Option.map CmdResult.status) hres, only_reg_porter s _ ?_⟩
    · rw [State.ensureExec_frame]
      rfl
    · rw [State.ensureExec_frame]
      rfl
  case stats =>
    intro s pc tile buf clear ha ht h8 hbuf
    have hframe := s.reported_frame pc (tile := tile) buf clear
    have hres := State.resultOf_finish_of_porter ha (t := s.reported pc tile buf clear) (by rw [hframe]) (succeeded [])
    refine completes_ran (exec_getErrorStats ..) (State.getErrorStatsEff_reports ha ht hbuf) ⟨?_, hres, s.reported_int pc buf clear h8, ?_, ?_⟩
    · exact congrArg State.outbox hframe
    · exact othersKept_of fun u hu => s.reported_other pc buf clear hu
    · refine only_report s _ ?_
      rw [hframe]
      rfl

end Sys2Proof.Machine
end

section
/-! What refutes the statements on deltas and on peers of a Caravan group: a SETTLE settles entries of every tile that it names (09_caravan.md R295), and
the second in which a peer is to answer HELLO also ends for one to which no link was up (R297). -/

namespace Sys2Proof.Machine

open Sys2Proof

/-! ### SETTLE (R295) -/

theorem exec_caravanFrameSettle (f : CarFrame) (s : State) : exec (.caravanFrameSettle f) s = s.run (fun x => x.caravanFrameSettleEff f) := rfl

theorem tile_of_run {s t : State} {f : State → State} (h : s.run f = .next t) (k : Nat) : t.tile k = (f s).tile k := by
  cases h
  rfl

/-- A tile that is the same but for its counters has the same slots and held deltas of Caravan. -/
theorem State.car_of_othersKept {s t : State} {k j : Nat} (h : s.othersKept t k = true) (hj : j < 8) (hne : j ≠ k) :
    (t.tile j).car = (s.tile j).car := by
  have hkept := List.all_eq_true.1 h j (List.mem_range.2 hj)
  rw [beq_false_of_ne hne, Bool.false_or, State.tileKept, decide_eq_true_eq] at hkept
  exact (congrArg Tile.car hkept :)

/-- R295: the 16 bytes of a SETTLE entry of member 0 for P. -/
def settleBytes (stripe jpos : Nat) : List Byte := leBytes 4 stripe ++ leBytes 5 jpos ++ zeros 7

/-- A SETTLE of peer 2 for its entries of stripes 1 and 2. -/
def settleBoth : CarFrame :=
  { head := 0, group := 5, src := 2, dst := 0, seq := 9, lines := bytesLines (settleBytes 1 7 ++ settleBytes 2 8) }

/-- The slot of a stripe of row 0 with one entry of peer 2. -/
def unsettledSlot (stripe jpos : Nat) : CarSlot :=
  { seg := 0, stripe := stripe, isQ := false, lines := [(0, 5)], entries := [(2, jpos)] }

/-- Member 0 of three in Serve, which holds P of row 0: stripe 1 with its slot at tile 1, stripe 2 with its slot at tile 2. -/
def settling : State :=
  let car : Caravan := {
    inGroup := true, group := 5, n := 3, blocks := 3, heads := 1
    peers := [{ idx := 1, st := .active }, { idx := 2, st := .active }] }
  ((({ md := { mode := .serve, resetsReleased := true }, car := car } : State).modHead 0 fun d => { d with up := true }).modCarT 1 fun c =>
    { c with slots := [unsettledSlot 1 7] }).modCarT 2 fun c => { c with slots := [unsettledSlot 2 8] }

/-- R295: the entry of stripe 2 is settled too. -/
theorem settling_slots : ((settling.caravanFrameSettleEff settleBoth).tile 2).car.slots.map (·.entries) = [[]] := by decide +kernel

/-- Refutes O56: in `settling` every premise of the clause on an entry of stripe 1 holds for `settleBoth`, whose second entry changes tile 2, where
the clause has tile 1 alone change. -/
theorem not_caravanDeltas : ¬ Obligations.CaravanDeltas := by
  unfold Obligations.CaravanDeltas
  rintro ⟨-, -, -, -, -, -, -, -, -, -, -, -, -, hsettle, -⟩
  obtain ⟨t, ht, -, -, hothers, -⟩ := hsettle settling settleBoth 1 1 7 0 (unsettledSlot 1 7) (by decide +kernel) (by decide +kernel)
    (by decide +kernel) (by decide +kernel) (by decide +kernel) (by decide) (by decide +kernel) (by decide +kernel) rfl (by decide +kernel) rfl
  have hkept := State.car_of_othersKept hothers (j := 2) (by decide) (by decide)
  have hsettled := settling_slots
  rw [exec_caravanFrameSettle] at ht
  rw [← tile_of_run ht, hkept] at hsettled
  exact absurd hsettled (by decide +kernel)

/-! ### CARAVAN_HELLO_TIMEOUT (R297) -/

theorem exec_caravanHelloTimeout (peer : Nat) (s : State) : exec (.caravanHelloTimeout peer) s = s.run (fun x => x.caravanHelloTimeoutEff peer) := rfl

theorem peer_of_run {s t : State} {f : State → State} (h : s.run f = .next t) (i : Nat) : t.peer i = (f s).peer i := by
  cases h
  rfl

/-- Bring-up of member 0 of three, HELLO due to peer 1, which was ACTIVE before, and no link of a head up to send it. -/
def helloUnsent : State :=
  { md := { mode := .bringup }
    car := { inGroup := true, n := 3, blocks := 3, heads := 1, peers := [{ idx := 1, st := .active, helloDue := true }] } }

/-- R297: the peer becomes FAILED. -/
theorem helloUnsent_st : ((helloUnsent.caravanHelloTimeoutEff 1).peer 1).map (·.st) = some .failed := by decide +kernel

/-- Refutes O57: in `helloUnsent` no HELLO of the peer waits for its answer and no CARAVAN_JOIN runs, and the peer becomes FAILED, where the clause on
a peer of which nothing is awaited has the state as it was. -/
theorem not_caravanPeers : ¬ Obligations.CaravanPeers := by
  unfold Obligations.CaravanPeers
  rintro ⟨-, -, -, -, hnoWait, -⟩
  obtain ⟨t, ht, hsame⟩ := hnoWait helloUnsent { idx := 1, st := .active, helloDue := true } rfl rfl rfl
  have hst := helloUnsent_st
  rw [exec_caravanHelloTimeout] at ht
  rw [← peer_of_run ht, hsame] at hst
  exact absurd hst (by decide)

end Sys2Proof.Machine
end

section
/-! What Caravan's work changes: messages and requests to peers, the bulk-copy window, and the end of work (01_architecture.md R27, R28;
09_caravan.md R290, R291, R302, R303). -/

namespace Sys2Proof.Machine

open Sys2Proof

/-- Nothing but what went out and what is kept of each peer is other than before. -/
def OnlySent (s t : State) : Prop := t = { s with car := { s.car with peers := t.car.peers }, outbox := t.outbox }

theorem OnlySent.refl (s : State) : OnlySent s s := rfl

theorem OnlySent.trans {a b c : State} (h : OnlySent a b) (k : OnlySent b c) : OnlySent a c := by
  unfold OnlySent at *
  rw [k, h]

theorem OnlySent.foldl {β : Type} {f : State → β → State} (h : ∀ a b, OnlySent a (f a b)) (l : List β) (s : State) : OnlySent s (l.foldl f s) := by
  induction l generalizing s with
  | nil => exact .refl s
  | cons b l ih => exact (h s b).trans (ih _)

theorem onlySent_emit (s : State) (o : Out) : OnlySent s (s.emit o) := rfl

theorem onlySent_carFrames (s : State) (peer : Nat) (h : CarHdr) (ls : List Line) : OnlySent s (s.carFrames peer h ls) := by
  unfold State.carFrames
  split
  · exact .refl s
  · exact .foldl (fun a _ => onlySent_emit a _) _ s

theorem onlySent_carSend (s : State) (peer : Nat) (h : CarHdr) (ls : List Line) : OnlySent s (s.carSend peer h ls).1 :=
  OnlySent.trans (onlySent_carFrames s peer _ ls) rfl

/-- R303: a request to each member that is asked, and the SEQ under which it went. -/
def askMember (h : CarHdr) (a : State × List (Nat × Nat)) (i : Nat) : State × List (Nat × Nat) :=
  ((a.1.carSend i h []).1, a.2 ++ [(i, (a.1.carSend i h []).2)])

theorem foldl_askMember (h : CarHdr) (asked : List Nat) (a : State × List (Nat × Nat)) :
    OnlySent a.1 (asked.foldl (askMember h) a).1 ∧ (asked.foldl (askMember h) a).2.map (·.1) = a.2.map (·.1) ++ asked := by
  induction asked generalizing a with
  | nil => exact ⟨.refl _, by simp⟩
  | cons i l ih =>
    obtain ⟨hsent, hmap⟩ := ih (askMember h a i)
    exact ⟨(onlySent_carSend a.1 i h []).trans hsent, by rw [List.foldl_cons, hmap]; simp [askMember]⟩

/-- R303: a read asks each member, and is in progress. -/
theorem State.carReadStart_asks (s : State) (use : CarUse) (stripe mask : Nat) (asked : List Nat) :
    ∃ (a : State) (r : CarRead), OnlySent s a ∧ (r.use, r.stripe, r.mask, r.left.map (·.1)) = (use, stripe, mask, asked) ∧
      s.carReadStart use stripe mask asked = a.modCar (fun c => { c with reads := s.car.reads ++ [r] }) := by
  obtain ⟨hsent, hmap⟩ := foldl_askMember { type := 4, stripe := stripe, mask := mask } asked (s, [])
  set b := asked.foldl (askMember { type := 4, stripe := stripe, mask := mask }) (s, [])
  refine ⟨b.1, { use := use, stripe := stripe, mask := mask, left := b.2, ackMs := s.carAckMs }, hsent, ?_, ?_⟩
  · rw [hmap]; rfl
  · have hreads : b.1.car.reads = s.car.reads := by rw [hsent]
    have heff : s.carReadStart use stripe mask asked = b.1.modCar (fun c => { c with reads := c.reads ++
      [({ use := use, stripe := stripe, mask := mask, left := b.2, ackMs := s.carAckMs } : CarRead)] }) := rfl
    rw [heff, State.modCar, hreads]
    rfl

/-! ### The window, and the end of work (R27, R28, R302) -/

theorem judges_judgePeers (s : State) : Judges s s.judgePeers := judges_setCause ..

theorem Judges.car {a b : State} (h : Judges a b) : b.car = a.car := by rw [h.frame]
theorem Judges.ps {a b : State} (h : Judges a b) : b.ps = a.ps := by rw [h.frame]

/-- R28, R302, R306: the end of work releases the window, and records it. -/
theorem State.carWorkDone_judges (s : State) (ms : Nat) : Judges ((s.releaseWindow 2).modCar (fun c => { c with work := 0 })) (s.carWorkDone ms) :=
  (judges_event ..).trans (judges_judgeSync _)

theorem State.releaseWindow_released (s : State) (who : Nat) : (s.releaseWindow who).cup.windows.all (fun e => e.2 != who) = true := by
  simp [State.releaseWindow]

theorem State.carWorkDone_facts (s : State) (ms : Nat) :
    (s.carWorkDone ms).cup.windows.all (fun e => e.2 != 2) = true ∧ (s.carWorkDone ms).car = { s.car with work := 0 } :=
  ⟨by rw [(s.carWorkDone_judges ms).cup]; exact s.releaseWindow_released 2, (s.carWorkDone_judges ms).car⟩

/-- R27: each tile in service has its window claimed. -/
theorem State.setWindow_owner (s : State) (who : Nat) {t : State} (h : t.cup = (s.setWindow who).cup) :
    s.aliveTiles.all (fun k => t.windowOwner k == who) = true := by
  rw [State.setWindow_eq] at h
  refine List.all_eq_true.2 fun k hk => beq_iff_eq.2 ?_
  rw [State.windowOwner, h]
  exact agetD_foldl_aput who 0 hk _

end Sys2Proof.Machine
end

section
/-! Resync and rebuild go on by one stripe (09_caravan.md R302, R305, R306). -/

namespace Sys2Proof.Machine

open Sys2Proof

/-! ### CARAVAN_RESYNC_STRIPE (R302) -/

theorem exec_caravanResyncStripe (ms : Nat) (s : State) : exec (.caravanResyncStripe ms) s = s.run (fun x => x.caravanResyncStripeEff ms) := rfl

theorem only_car_outbox {s t : State} (h : t = { s with car := t.car, outbox := t.outbox }) : Only [.car, .outbox] s (s.ran t) := by
  rw [h]
  exact ⟨rfl, rfl, by simp [Part.all, Part.same, State.ran]⟩

theorem only_cup_car_log {s a t : State} (ha : a = { s with cup := a.cup, car := a.car }) (k : OnlyLog a t) :
    Only (.cup :: .car :: logParts) s (s.ran t) := by
  rw [k, ha]
  exact ⟨rfl, rfl, by simp [Part.all, Part.same, State.ran]⟩

/-- R302: resync may go on: the package is a member of a group and operates, its work was not stopped, no stripe is locked, and the window is free or
its own. -/
structure State.Resyncs (s : State) : Prop where
  inGroup : s.car.inGroup = true
  operating : s.md.operating = true
  role : s.car.role = 0
  going : s.car.stopped = false
  lock : s.car.lock = none
  window : s.windowFor 2 = true

section
variable {s : State} (ms : Nat)

theorem State.caravanResyncStripeEff_idle
    (h : s.car.inGroup = false ∨ s.car.role ≠ 0 ∨ s.car.stopped = true ∨ s.car.lock.isSome = true) : s.caravanResyncStripeEff ms = s := by
  unfold State.caravanResyncStripeEff
  exact if_pos (by rcases h with h | h | h | h <;> simp [h])

section
variable (k : s.Resyncs)
include k

theorem State.caravanResyncStripeEff_start {g : Nat} {l : List Nat} (hwork : s.car.work = 0) (hq : s.car.resync = g :: l) :
    s.caravanResyncStripeEff ms =
      ((s.setWindow 2).modCar (fun c => { c with work := 1, resyncNext := 0 })).event Gb.CAR_RESYNC_START 15 [l.length + 1] := by
  simp [State.caravanResyncStripeEff, k.inGroup, k.operating, k.role, k.going, k.lock, k.window, hwork, hq]

theorem State.caravanResyncStripeEff_done (hwork : s.car.work = 1) (hq : s.car.resync = []) : s.caravanResyncStripeEff ms = s.carWorkDone ms := by
  simp [State.caravanResyncStripeEff, k.inGroup, k.operating, k.role, k.going, k.lock, k.window, hwork, hq]

theorem State.caravanResyncStripeEff_first {g row : Nat} {l : List Nat} (hwork : s.car.work = 1) (hq : s.car.resync = g :: l)
    (hn : s.car.resyncNext = 0) (hrow : (s.groupRows g)[0]? = some row) : s.caravanResyncStripeEff ms = s.resyncStripeCar (row * 65536) := by
  simp [State.caravanResyncStripeEff, k.inGroup, k.operating, k.role, k.going, k.lock, k.window, hwork, hq, hn, hrow]

end

/-- R302: where every member that holds data of a stripe is ACTIVE and nothing of it is under way, it is locked and they are asked. -/
theorem State.resyncStripeCar_asks {stripe : Nat} (ha : s.alive (s.carHome stripe).1 = true)
    (hp : (s.carOthers (stripe / 65536)).all s.peerActive = true) (hslots : (s.tile (s.carHome stripe).1).car.slots = [])
    (hcommits : (s.tile (s.carHome stripe).1).xl.commits = []) :
    s.resyncStripeCar stripe = (s.modCar (fun c => { c with lock := some stripe })).carReadStart
      (.resync (s.carHome stripe).1 (s.carHome stripe).2) stripe allLines (s.carOthers (stripe / 65536)) := by
  have hall : (s.carOthers (stripe / 65536)).any (fun i => !s.peerActive i) = false := by simpa using hp
  simp [State.resyncStripeCar, ha, hall, hslots, State.commitOf, hcommits]

end

theorem completes_resyncStart {s : State} (ms : Nat) {g : Nat} {l : List Nat} (k : s.Resyncs) (hwork : s.car.work = 0) (hq : s.car.resync = g :: l) :
    Completes (.caravanResyncStripe ms) s (fun t => s.aliveTiles.all (fun k => t.windowOwner k == 2) = true ∧
      t.car = { s.car with work := 1, resyncNext := 0 } ∧ Only (.cup :: .car :: logParts) s t) := by
  have hlog := onlyLog_event ((s.setWindow 2).modCar (fun c => { c with work := 1, resyncNext := 0 })) Gb.CAR_RESYNC_START 15 [l.length + 1]
  refine completes_ran (exec_caravanResyncStripe ..) (State.caravanResyncStripeEff_start ms k hwork hq) ⟨?_, ?_, ?_⟩
  · exact s.setWindow_owner 2 hlog.cup
  · refine hlog.car.trans ?_
    rw [State.setWindow_eq]
    rfl
  · exact only_cup_car_log (by rw [State.setWindow_eq]; rfl) hlog

theorem completes_resyncFirst {s : State} (ms : Nat) {g row h : Nat} {l : List Nat} (k : s.Resyncs) (hwork : s.car.work = 1)
    (hq : s.car.resync = g :: l) (hn : s.car.resyncNext = 0) (hrow : (s.groupRows g)[0]? = some row) (hh : (s.carHome (row * 65536)).1 = h)
    (ha : s.alive h = true) (hp : (s.carOthers row).all s.peerActive = true) (hslots : (s.tile h).car.slots = [])
    (hcommits : (s.tile h).xl.commits = []) :
    Completes (.caravanResyncStripe ms) s (fun t => t.car.lock = some (row * 65536) ∧ t.car.resync = s.car.resync ∧
      t.car.reads.length = s.car.reads.length + 1 ∧ Only [.car, .outbox] s t) := by
  subst hh
  have hdiv : row * 65536 / 65536 = row := Nat.mul_div_cancel row (by decide)
  obtain ⟨a, r, hsent, -, hasks⟩ := (s.modCar (fun c => { c with lock := some (row * 65536) })).carReadStart_asks
    (.resync (s.carHome (row * 65536)).1 (s.carHome (row * 65536)).2) (row * 65536) allLines (s.carOthers (row * 65536 / 65536))
  refine completes_ran (exec_caravanResyncStripe ..)
    ((State.caravanResyncStripeEff_first ms k hwork hq hn hrow).trans
      ((State.resyncStripeCar_asks ha (by rwa [hdiv]) hslots hcommits).trans hasks)) ?_
  rw [hsent]
  exact ⟨rfl, rfl, List.length_append, only_car_outbox rfl⟩

/-! ### CARAVAN_REBUILD_STEP (R305, R306) -/

theorem exec_caravanRebuildStep (ms ns : Nat) (s : State) : exec (.caravanRebuildStep ms ns) s = s.run (fun x => x.caravanRebuildStepEff ms ns) := rfl

/-- R306: the rebuild may go on: the package replaces a member and rebuilds, has its energy and the window, and no stripe is locked. -/
structure State.Rebuilds (s : State) : Prop where
  role : s.car.role = 2
  work : s.car.work = 2
  operating : s.md.operating = true
  stage : s.pw.stage = 0
  window : s.windowFor 2 = true
  lock : s.car.lock = none

theorem State.caravanRebuildStepEff_idle {s : State} (ms ns : Nat)
    (h : s.car.role ≠ 2 ∨ s.car.work ≠ 2 ∨ s.pw.stage ≠ 0 ∨ s.windowFor 2 = false) : s.caravanRebuildStepEff ms ns = s := by
  unfold State.caravanRebuildStepEff
  exact if_pos (by rcases h with h | h | h | h <;> simp [h])

/-- R306, CAR_RATE: before its time the rebuild does nothing. -/
theorem State.caravanRebuildStepEff_early {s : State} (ms : Nat) {ns : Nat} (hrow : s.car.resyncNext / 65536 < s.car.blocks)
    (hrate : ns * max 1 (s.fld Reg.CAR_CTL 11 8) < 4096) : s.caravanRebuildStepEff ms ns = s := by
  unfold State.caravanRebuildStepEff
  dsimp only
  rw [if_neg (Nat.not_le.2 hrow), if_pos hrate, ite_self]

theorem State.caravanRebuildStepEff_done {s : State} (k : s.Rebuilds) (ms ns : Nat) (hrow : s.car.blocks ≤ s.car.resyncNext / 65536) :
    s.caravanRebuildStepEff ms ns = s.rebuildDone ms := by
  simp [State.caravanRebuildStepEff, k.role, k.work, k.operating, k.stage, k.window, k.lock, hrow]

section
variable {s : State} (k : s.Rebuilds) (ms : Nat) {ns h l : Nat} (hrate : 4096 ≤ ns * max 1 (s.fld Reg.CAR_CTL 11 8))
  (hrow : s.car.resyncNext / 65536 < s.car.blocks) (hdata : (s.car.dataIdx (s.car.resyncNext / 65536) s.car.self).isSome = true)
  (hhome : s.carHome s.car.resyncNext = (h, l))
include k hrate hrow hdata hhome

/-- R306: a segment that holds data is passed over. -/
theorem State.caravanRebuildStepEff_held (hlost : (s.mapRaw h l).st ≠ .lost) :
    s.caravanRebuildStepEff ms ns = s.modCar (fun c => { c with resyncNext := s.car.resyncNext + 1 }) := by
  have hdata' : (s.car.dataIdx (s.car.resyncNext / 65536) s.car.self).isNone = false := by simpa using hdata
  simp [State.caravanRebuildStepEff, k.role, k.work, k.operating, k.stage, k.window, k.lock, Nat.not_le.2 hrow, Nat.not_lt.2 hrate, hdata',
    hhome, hlost]

/-- R306: for a segment that is LOST the members are asked. -/
theorem State.caravanRebuildStepEff_lost {asked : List Nat} (ha : s.alive h = true) (hlost : (s.mapRaw h l).st = .lost)
    (hmap : ahas l (s.tile h).xl.map = false) (hcommit : (s.commitOf h l).isNone = true) (hlock : s.segLocked h l = false)
    (hreads : s.car.reads = []) (hask : s.carAsk (s.car.resyncNext / 65536) = some asked) :
    s.caravanRebuildStepEff ms ns = s.carReadStart (.repair h l) s.car.resyncNext allLines asked := by
  have hdata' : (s.car.dataIdx (s.car.resyncNext / 65536) s.car.self).isNone = false := by simpa using hdata
  have hcommit' : (s.commitOf h l).isSome = false := by simpa using hcommit
  simp [State.caravanRebuildStepEff, k.role, k.work, k.operating, k.stage, k.window, k.lock, Nat.not_le.2 hrow, Nat.not_lt.2 hrate, hdata',
    hhome, ha, hlost, hmap, hcommit', hlock, hreads, hask]

end

/-- R306: behind the last row the spare is a member under its new index. -/
theorem State.rebuildDone_facts (s : State) (ms : Nat) :
    (s.rebuildDone ms).car.role = 0 ∧ (s.rebuildDone ms).car.member = s.car.target ∧ (s.rebuildDone ms).car.took = true ∧
      (s.rebuildDone ms).car.work = 0 ∧ (s.rebuildDone ms).cup.windows.all (fun e => e.2 != 2) = true := by
  obtain ⟨hwin, hcar⟩ := s.carWorkDone_facts ms
  set a := (s.carWorkDone ms).modCar (fun c =>
    { c with role := 0, member := c.target, took := true, resyncNext := 0,
             peers := (c.peers.filter (fun p => p.idx != c.target)).map (fun p => { p with helloDue := true, helloAns := false }) }) with ha
  have hput : OnlyStore a (a.psPutNow Param.CAR_GROUP (carGroupBytes a.car)) := (onlyStore_psPut ..).trans (onlyStore_psRequest ..)
  have hj : Judges (a.psPutNow Param.CAR_GROUP (carGroupBytes a.car)) (s.rebuildDone ms) := (judges_judgePeers _).trans (judges_judgeSync _)
  rw [hj.car, hj.cup, hput, ha, State.modCar, hcar]
  exact ⟨rfl, rfl, rfl, rfl, hwin⟩

end Sys2Proof.Machine
end

section
/-! CARAVAN_STATUS and CARAVAN_JOIN (09_caravan.md R309). -/

namespace Sys2Proof.Machine

open Sys2Proof

section
variable (s : State) (pc : PortCmd) (op : Nat)

theorem State.ensureExec_peer (i : Nat) : (s.ensureExec pc op).peer i = s.peer i := by rw [State.peer, State.ensureExec_car, State.peer]
theorem State.ensureExec_groupRows (g : Nat) : (s.ensureExec pc op).groupRows g = s.groupRows g := s.ensureExec_reads pc op (fun a => a.groupRows g) fun _ => rfl
theorem State.ensureExec_carLeft : (s.ensureExec pc op).carLeft = s.carLeft := s.ensureExec_reads pc op State.carLeft fun _ => rfl
theorem State.ensureExec_staleGroups : (s.ensureExec pc op).staleGroups = s.staleGroups := s.ensureExec_reads pc op State.staleGroups fun _ => rfl
theorem State.ensureExec_rangeEmpty (lo hi : Nat) : (s.ensureExec pc op).rangeEmpty lo hi = s.rangeEmpty lo hi :=
  s.ensureExec_reads pc op (fun a => a.rangeEmpty lo hi) fun _ => rfl

end

/-! ### CARAVAN_STATUS (R309) -/

theorem exec_caravanStatus (pc : PortCmd) (s : State) : exec (.caravanStatus pc) s = s.run (fun x => x.caravanStatusEff pc) := rfl

theorem State.caravanStatusEff_ok {s : State} {pc : PortCmd} (ha : s.accepts pc 0x0602 false = true) :
    s.caravanStatusEff pc = (s.ensureExec pc 0x0602).ok pc
      ([(12, s.car.group), (1, b2n s.car.rs), (5, s.car.n), (5, s.car.member)] ++
        (List.range 18).map (fun i => (2, ((s.peer i).map (fun p => p.st.code)).getD 0)) ++ [(13, s.staleGroups), (2, s.car.work), (32, s.carLeft)]) := by
  rw [State.caravanStatusEff, State.porterRun_accepted _ _ _ _ _ ha]
  dsimp only
  simp only [State.ensureExec_car, State.ensureExec_staleGroups, State.ensureExec_carLeft, State.ensureExec_peer]
  -- the states of the peers, index by index
  congr 4
  funext i
  congr 1
  cases s.peer i <;> rfl

/-! ### CARAVAN_JOIN (R309) -/

theorem exec_caravanJoin (pc : PortCmd) (group : Nat) (code : Bool) (n member : Nat) (spare : Bool) (base blocks heads handle buf : Nat)
    (table : List (List Nat)) (s : State) : exec (.caravanJoin pc group code n member spare base blocks heads handle buf table) s =
      s.run (fun x => x.caravanJoinEff pc group code n member spare base blocks heads handle buf table) := rfl

theorem only_car_log {s a t : State} (ha : a = { s with car := a.car, porter := a.porter }) (k : OnlyLog a t) : Only (.car :: logParts) s (s.ran t) := by
  rw [k, ha]
  exact ⟨rfl, rfl, by simp [Part.all, Part.same, State.ran]⟩

theorem ModeState.inService_of_service {m : ModeState} (h : m.mode = .service) : m.inService = true := by rw [ModeState.inService, h]; rfl

theorem ModeState.sdService_of_operating {m : ModeState} (ho : m.operating = true) (h : m.mode ≠ .sealed) : m.sdService = true := by
  simp only [ModeState.operating, Bool.and_eq_true, Bool.or_eq_true, beq_iff_eq] at ho
  obtain ⟨-, ((hm | hm) | hm) | hm⟩ := ho
  · simp [ModeState.sdService, hm]
  · simp [ModeState.sdService, hm]
  · exact absurd hm h
  · simp [ModeState.sdService, hm]

/-- R309: a JOIN whose peers have all to be asked waits for them. -/
theorem State.joinCheck_waits {s : State} {p : Peer} (hp : p ∈ s.car.peers) (hd : p.helloDue = true) : s.joinCheck = s := by
  have hany : s.car.peers.any (fun p => p.helloWait || p.helloDue) = true := List.any_eq_true.2 ⟨p, hp, by simp [hd]⟩
  unfold State.joinCheck
  split
  · rfl
  · exact if_pos hany

theorem helloDue_of_mem_peersOf {table : List (List Nat)} {n self : Nat} {p : Peer} (h : p ∈ peersOf table n self) : p.helloDue = true := by
  simp only [peersOf, List.mem_filterMap] at h
  obtain ⟨i, -, hi⟩ := h
  split at hi
  · cases hi
  · cases hi
    rfl

section
variable {s : State} {pc : PortCmd} {group n member base blocks heads handle buf : Nat} {code spare : Bool} {table : List (List Nat)}
  (ha : s.accepts pc 0x0600 true = true) (hm : s.md.mode = .service)
include ha hm

theorem State.caravanJoinEff_busy (hg : s.car.inGroup = true) :
    s.caravanJoinEff pc group code n member spare base blocks heads handle buf table = (s.ensureExec pc 0x0600).fail pc .resourceBusy 0 := by
  rw [State.caravanJoinEff, ModeState.inService_of_service hm, State.porterRun_accepted _ _ _ _ _ ha]
  simp [hg]

theorem State.caravanJoinEff_badN (hg : s.car.inGroup = false) (hgroup : group < 4096) (hn : n < 3 ∨ 18 < n) :
    s.caravanJoinEff pc group code n member spare base blocks heads handle buf table = (s.ensureExec pc 0x0600).fail pc .invalidField 2 := by
  have hbad : ¬(3 ≤ n ∧ n ≤ 18) := by omega
  rw [State.caravanJoinEff, ModeState.inService_of_service hm, State.porterRun_accepted _ _ _ _ _ ha]
  simp [hg, State.checkFields, firstBad, hgroup, hbad]

end

/-- R309: a package that joins as a member of a group, before its peers answered. -/
def joining (pc : PortCmd) (group : Nat) (code : Bool) (n member base blocks heads handle : Nat) (table : List (List Nat)) : Caravan :=
  { inGroup := true, group := group, rs := code, n := n, member := member, base := base, blocks := blocks, heads := heads, handle := handle,
    peers := peersOf table n member, join := some (pc.ring, pc.cid) }

/-- R309: the parameters of a JOIN as a member are in their ranges and fit the package. -/
structure State.JoinFits (s : State) (group n member base blocks heads handle buf : Nat) : Prop where
  inGroupRange : group < 4096
  inCodeRange : 3 ≤ n ∧ n ≤ 18
  inMembers : member < n
  inPackage : base + blocks ≤ s.pkgBlocks
  unassigned : s.cap.table = []
  empty : s.rangeEmpty base (base + blocks) = true
  rows : n ≤ blocks ∧ blocks % n = 0
  someHead : heads ≠ 0
  headsFit : ∀ h < 8, bitOf heads h = false ∨ h ∈ s.present ∧ (s.head h).upper = false
  secret : ahas handle s.sec.secrets = true
  offered : s.sec.withdrawn = false
  aligned : buf % 64 = 0

theorem State.zero_mem_present {s : State} (h : s.pop.legal = true) : 0 ∈ s.present := by
  simp only [Pop.legal, Bool.and_eq_true, Bool.or_eq_true, beq_iff_eq] at h
  exact List.mem_range.2 (by omega)

/-- R290: CAR_HEADS may name head 0 alone, which every package has. -/
theorem State.headsFit_one {s : State} (hp : s.pop.legal = true) (hu : (s.head 0).upper = false) :
    ∀ h < 8, bitOf 1 h = false ∨ h ∈ s.present ∧ (s.head h).upper = false := by
  intro h h8
  by_cases hz : h = 0
  · exact .inr (hz ▸ ⟨State.zero_mem_present hp, hu⟩)
  · have hbit : ∀ k < 8, k ≠ 0 → bitOf 1 k = false := by decide
    exact .inl (hbit h h8 hz)

theorem firstBad_eq_none {l : List Bool} (h : ∀ b ∈ l, b = true) (i : Nat) : firstBad i l = none := by
  induction l generalizing i with
  | nil => rfl
  | cons b l ih => rw [firstBad, if_pos (h b (.head _)), ih fun c hc => h c (.tail _ hc)]

theorem State.caravanJoinEff_joins {s : State} {pc : PortCmd} {group n member base blocks heads handle buf : Nat} {code : Bool} {table : List (List Nat)}
    (ha : s.accepts pc 0x0600 true = true) (hm : s.md.mode = .service) (hg : s.car.inGroup = false)
    (k : s.JoinFits group n member base blocks heads handle buf) (hp : (peersOf table n member).isEmpty = false) :
    s.caravanJoinEff pc group code n member false base blocks heads handle buf table =
      ((s.ensureExec pc 0x0600).modCar (fun _ => joining pc group code n member base blocks heads handle table)).event Gb.CAR_JOIN 15 [group, member, 0] := by
  obtain ⟨p, hmem⟩ := List.exists_mem_of_ne_nil (peersOf table n member) (by simpa using hp)
  have hnz : n ≠ 0 := Nat.ne_of_gt (Nat.lt_of_lt_of_le (by decide) k.inCodeRange.1)
  have hwaits : ∀ t : State, t.car = joining pc group code n member base blocks heads handle table → t.joinCheck = t := fun t ht =>
    State.joinCheck_waits (p := p) (by rw [ht]; exact hmem) (helloDue_of_mem_peersOf hmem)
  have hpkg : (s.ensureExec pc 0x0600).pkgBlocks = s.pkgBlocks := s.ensureExec_reads pc 0x0600 State.pkgBlocks fun _ => rfl
  have hheads : ∀ h < 8, bitOf heads h = false ∨ h ∈ (s.ensureExec pc 0x0600).present ∧ ((s.ensureExec pc 0x0600).head h).upper = false :=
    (s.ensureExec_reads pc 0x0600 (fun a => ∀ h < 8, bitOf heads h = false ∨ h ∈ a.present ∧ (a.head h).upper = false) fun _ => rfl).mpr k.headsFit
  rw [State.caravanJoinEff, ModeState.inService_of_service hm, State.porterRun_accepted _ _ _ _ _ ha]
  simp only [State.ensureExec_car, hg, Bool.false_eq_true, if_false, State.checkFields]
  rw [firstBad_eq_none]
  · exact hwaits _ (onlyLog_event ..).car
  · simpa [hpkg, State.ensureExec_rangeEmpty, k.inGroupRange, k.inCodeRange, k.inMembers, k.inPackage, k.unassigned, k.empty, k.rows, k.someHead,
      k.secret, k.offered, k.aligned, hnz, aligned64] using hheads

/-- R415: a command that has started and that no other of its ring shares its CID with has no result. -/
theorem State.resultOf_of_underWay {s t : State} {pc : PortCmd} {op : Nat} {priv : Bool} (h : s.accepts pc op priv = true)
    (k : SameExecs (s.ensureExec pc op) t) : t.resultOf pc = none := by
  have hway := State.underWay_of_porter h (t := s.ensureExec pc op) rfl
  rw [k.resultOf]
  simp only [State.underWay, State.resultOf] at hway ⊢
  cases hfind : ((s.ensureExec pc op).ring pc.ring).execs.find? (fun e => e.cid == pc.cid) with
  | none => rfl
  | some e =>
    rw [hfind] at hway
    simpa using hway

theorem completes_join {s : State} {pc : PortCmd} {group n member base blocks heads handle buf : Nat} {code : Bool} {table : List (List Nat)}
    (ha : s.accepts pc 0x0600 true = true) (hm : s.md.mode = .service) (hg : s.car.inGroup = false)
    (k : s.JoinFits group n member base blocks heads handle buf) (hp : (peersOf table n member).isEmpty = false) :
    Completes (.caravanJoin pc group code n member false base blocks heads handle buf table) s (fun t =>
      t.car = joining pc group code n member base blocks heads handle table ∧ t.resultOf pc = none ∧ Only (.car :: logParts) s t) := by
  set a := (s.ensureExec pc 0x0600).modCar (fun _ => joining pc group code n member base blocks heads handle table) with hdef
  have hlog := onlyLog_event a Gb.CAR_JOIN 15 [group, member, 0]
  have hkept : SameExecs (s.ensureExec pc 0x0600) a := sameExecs_of_porter rfl
  refine completes_ran (exec_caravanJoin ..) (State.caravanJoinEff_joins ha hm hg k hp) ⟨hlog.car, ?_, ?_⟩
  · exact State.resultOf_of_underWay ha (hkept.trans (sameExecs_event a _ _ _))
  · exact only_car_log (by rw [hdef, State.ensureExec_frame]; rfl) hlog

end Sys2Proof.Machine
end

section
/-! CARAVAN_REBUILD (09_caravan.md R28, R302, R305, R309). -/

namespace Sys2Proof.Machine

open Sys2Proof

theorem exec_caravanRebuild (pc : PortCmd) (kind target ms : Nat) (s : State) :
    exec (.caravanRebuild pc kind target ms) s = s.run (fun x => x.caravanRebuildEff pc kind target ms) := rfl

/-- R309: row groups of which this package holds parity. -/
def State.parityGroups (s : State) : List Nat := (List.range 4096).filter (fun g => !(s.groupRows g).isEmpty)

section
variable {s : State} {pc : PortCmd} (ms : Nat) (ha : s.accepts pc 0x0603 true = true) (ho : s.md.operating = true) (hm : s.md.mode ≠ .sealed)
include ha ho hm

theorem State.caravanRebuildEff_refused {kind : Nat} (target : Nat)
    (h : s.car.inGroup = false ∨ 3 ≤ kind ∨ (kind = 1 ∧ s.car.role ≠ 0) ∨ (kind = 0 ∧ s.car.role = 0)) :
    s.caravanRebuildEff pc kind target ms = (s.ensureExec pc 0x0603).fail pc .invalidField 0 := by
  rw [State.caravanRebuildEff, ModeState.sdService_of_operating ho hm, State.porterRun_accepted _ _ _ _ _ ha]
  dsimp only
  rw [State.ensureExec_car]
  refine if_pos ?_
  rcases h with h | h | ⟨rfl, h⟩ | ⟨rfl, h⟩ <;> simp [h]

variable (hg : s.car.inGroup = true)
include hg

theorem State.caravanRebuildEff_stop (target : Nat) (hw : s.car.work = 0) :
    s.caravanRebuildEff pc 2 target ms = ((s.ensureExec pc 0x0603).modCar (fun c => { c with stopped := true })).ok pc [(32, 0)] := by
  rw [State.caravanRebuildEff, ModeState.sdService_of_operating ho hm, State.porterRun_accepted _ _ _ _ _ ha]
  simp [hg, hw]

variable (hr : s.car.role = 0)
include hr

theorem State.caravanRebuildEff_busy (target : Nat) (h : s.car.work ≠ 0 ∨ s.windowFor 2 = false) :
    s.caravanRebuildEff pc 1 target ms = (s.ensureExec pc 0x0603).fail pc .resourceBusy 4 := by
  rw [State.caravanRebuildEff, ModeState.sdService_of_operating ho hm, State.porterRun_accepted _ _ _ _ _ ha]
  rcases h with h | h <;> simp [hg, hr, h, State.ensureExec_windowFor]

theorem State.caravanRebuildEff_resync (target : Nat) (hw : s.car.work = 0) (hwin : s.windowFor 2 = true) :
    s.caravanRebuildEff pc 1 target ms =
      (((((s.ensureExec pc 0x0603).setWindow 2).carQueue s.parityGroups).modCar (fun c => { c with work := 1, resyncNext := 0 })).event
        Gb.CAR_RESYNC_START 15 [(((s.ensureExec pc 0x0603).setWindow 2).carQueue s.parityGroups).car.resync.length]).ok pc
          [(32, total (s.parityGroups.map (fun g => (s.groupRows g).length)))] := by
  rw [State.caravanRebuildEff, ModeState.sdService_of_operating ho hm, State.porterRun_accepted _ _ _ _ _ ha]
  simp [hg, hr, hw, hwin, State.ensureExec_windowFor, State.ensureExec_groupRows, State.parityGroups]

end

/-- R302: queued row groups await resync, and the causes of Degraded are judged. -/
theorem State.carQueue_judges (s : State) (groups : List Nat) :
    Judges (s.modCar (fun c => { c with resync := c.resync ++ groups.filter (fun g => !(c.resync.contains g)), stopped := false })) (s.carQueue groups) :=
  judges_judgeSync _

theorem mem_queued {g : Nat} {groups l : List Nat} (h : g ∈ groups) : g ∈ l ++ groups.filter (fun x => !(l.contains x)) := by
  by_cases hl : g ∈ l
  · exact List.mem_append_left _ hl
  · exact List.mem_append_right _ (List.mem_filter.2 ⟨h, by simpa using hl⟩)

theorem completes_resyncQueued {s : State} {pc : PortCmd} (ms target : Nat) {g : Nat} (ha : s.accepts pc 0x0603 true = true) (ho : s.md.operating = true)
    (hm : s.md.mode ≠ .sealed) (hg : s.car.inGroup = true) (hr : s.car.role = 0) (hw : s.car.work = 0) (hwin : s.windowFor 2 = true) (hlt : g < 4096)
    (hrows : (s.groupRows g).isEmpty = false) :
    Completes (.caravanRebuild pc 1 target ms) s (fun t => t.car.work = 1 ∧ s.aliveTiles.all (fun k => t.windowOwner k == 2) = true ∧
      t.car.resync.contains g = true ∧ (t.resultOf pc).map (·.status) = some Status.success.code) := by
  have hmem : g ∈ s.parityGroups := List.mem_filter.2 ⟨List.mem_range.2 hlt, by simp [hrows]⟩
  have heff := State.caravanRebuildEff_resync ms ha ho hm hg hr target hw hwin
  set a := (s.ensureExec pc 0x0603).setWindow 2
  have hq := a.carQueue_judges s.parityGroups
  set b := a.carQueue s.parityGroups
  have hev := judges_event (b.modCar (fun c => { c with work := 1, resyncNext := 0 })) Gb.CAR_RESYNC_START 15 [b.car.resync.length]
  set d := (b.modCar (fun c => { c with work := 1, resyncNext := 0 })).event Gb.CAR_RESYNC_START 15 [b.car.resync.length]
  have hexecs : SameExecs (s.ensureExec pc 0x0603) d :=
    ((keepsExecs_setWindow _ 2).execs.trans ((sameExecs_of_porter rfl).trans hq.execs)).trans ((sameExecs_of_porter rfl).trans hev.execs)
  have hcup : d.cup = a.cup := hev.cup.trans hq.cup
  refine completes_ran (exec_caravanRebuild ..) heff ⟨?_, ?_, ?_, ?_⟩
  · exact congrArg Caravan.work hev.car
  · have halive : (s.ensureExec pc 0x0603).aliveTiles = s.aliveTiles := s.ensureExec_reads pc 0x0603 State.aliveTiles fun _ => rfl
    rw [← halive]
    exact (s.ensureExec pc 0x0603).setWindow_owner 2 hcup
  · have hresync : d.car.resync = a.car.resync ++ s.parityGroups.filter (fun g => !(a.car.resync.contains g)) :=
      (congrArg Caravan.resync hev.car).trans (congrArg Caravan.resync hq.car)
    refine List.contains_iff_mem.2 ?_
    exact hresync ▸ mem_queued hmem
  · rw [State.resultOf_ran]
    exact congrArg (Option.map _) (State.resultOf_finish_of_execs ha hexecs (succeeded _))

end Sys2Proof.Machine
end

section
/-! CARAVAN_LEAVE (09_caravan.md R309): what it discards leaves nothing that waits, and what is stored of the group is read back. -/

namespace Sys2Proof.Machine

open Sys2Proof

/-! ### What a settling without work leaves (R88) -/

theorem State.foldl_settleTile_frame {s : State} {l : List Nat} (h : ∀ t ∈ l, (s.tile t).waits.Still) (hm : s.md.mode ≠ .holdup) :
    l.foldl State.settleTile s = { s with tiles := (l.foldl State.settleTile s).tiles, reg := (l.foldl State.settleTile s).reg } := by
  induction l generalizing s with
  | nil => rfl
  | cons t l ih =>
    have hk := keeps_judgeThrottle (g := Tile.store) s t
    have hrest := ih (s := s.judgeThrottle t) (fun u hu => by rw [hk.waits_of_store.tile u]; exact h u (.tail _ hu)) (hk.mode hm)
    rw [List.foldl_cons, State.settleTile_of_still (h t (.head _)) hm]
    generalize l.foldl State.settleTile (s.judgeThrottle t) = b at hrest ⊢
    rw [hrest, State.judgeThrottle_frame]

/-- Where nothing waits, settling changes tiles and registers alone. -/
theorem State.Still.settle_frame {s : State} (h : s.Still) : s.settle = { s with tiles := s.settle.tiles, reg := s.settle.reg } := by
  have hs := h.keep (foldl_settleTile_keeps h.tile h.mode).waits_of_store
  have heff : s.settle = s.aliveTiles.foldl State.settleTile s := by
    rw [State.settle, State.jobsAdvance_of_nil hs.ranges, State.erasesAdvance_of_nil hs.replacing, State.ckptAdvance_of_none hs.ckpt,
      State.retireAdvance_of_nil hs.retire]
  rw [heff]
  exact State.foldl_settleTile_frame h.tile h.mode

/-! ### What discarding segments leaves (R218, R232) -/

/-- What keeps what a commit leaves and what it writes keeps what may wait. -/
theorem Keeps.waits_of_books {s t : State} (h : Keeps (fun x => (x.uncommitted, x.books)) s t) : Keeps Tile.waits s t :=
  h.map fun v => { v.1.1 with commits := v.2.2.2 }

theorem keeps_replaceEntry (s : State) (t seg : Nat) (e : MapEnt) : Keeps Tile.waits s (s.replaceEntry t seg e) := by
  have hset : Keeps Tile.waits s (s.setMap t seg e) := (Keeps.ite _ (keeps_mapLineBad s t seg).waits_of_books (.refl s)).trans keeps_modTile
  exact .ite _ (hset.trans (keeps_invalidate _ t _).waits_of_books) hset

/-- A segment whose DISCARD goes to the journal and whose entry goes to its reset value. -/
theorem keeps_discard (s : State) (t l : Nat) : Keeps Tile.waits s ((s.jappend t (.discard l)).replaceEntry t l {}) :=
  (keeps_jappend s t fun _ _ => JRec.noConfusion).standing_of_grounded.waits_of_standing.trans (keeps_replaceEntry ..)

/-! ### Values stored (R489) -/

/-- R489: a value stored is the value read, whether or not it waits for room. -/
theorem State.psGet_psPutNow (s : State) {id : Nat} (h : id ≠ 0) (v : List Byte) : (s.psPutNow id v).psGet id = v := by
  unfold State.psPutNow State.psPut State.psStore
  by_cases hroom : s.psFits id v = true ∧ s.ps.roomWait = []
  · simp [hroom, State.psRequest, State.psGet, State.modPs, ParamStore.raw?, aget_aput_self]
  · have hne : (s.psFits id v && s.ps.roomWait.isEmpty) = false := by simpa using hroom
    simp [hne, State.psRequest, State.psGet, State.modPs, Ne.symm h]

theorem State.psGet_congr {s t : State} (hp : t.ps = s.ps) (hpop : t.pop = s.pop) (id : Nat) : t.psGet id = s.psGet id := by
  rw [State.psGet, State.psGet, hp, hpop]

/-! ### CARAVAN_LEAVE (R309) -/

theorem exec_caravanLeave (pc : PortCmd) (dissolve : Bool) (ms : Nat) (s : State) :
    exec (.caravanLeave pc dissolve ms) s = s.run (fun x => x.caravanLeaveEff pc dissolve ms) := rfl

/-- R309: LEAVE goes to each peer that is ACTIVE. -/
def State.leaveSent (s : State) : State :=
  (s.car.peers.filter (fun p => p.st == .active)).foldl (fun a p => (a.carSend p.idx { type := 0x0B } []).1) s

/-- R309: the blocks that held parity are freed, and slots and held deltas go. -/
def State.parityFreed (s : State) : State :=
  s.aliveTiles.foldl (fun a t =>
    (((a.tile t).xl.map.map (·.1)).filter (fun l => a.carHeld (a.segOf t l / 65536))).foldl
      (fun b l => (b.jappend t (.discard l)).replaceEntry t l {}) (a.modCarT t (fun _ => {}))) s

/-- R297, R309: nothing is left of the group, nor of what was stored of it. -/
def State.groupForgotten (s : State) (peers : List Peer) : State :=
  (peers.foldl (fun a p => a.psPut (Param.CAR_STALE + p.idx) (zeros 512)) (s.modCar (fun _ => {}))).psPutNow Param.CAR_GROUP (carGroupBytes {})

/-- R309: a package that was alone with its parity once it has left. -/
def State.left (s : State) : State := s.leaveSent.parityFreed.groupForgotten s.car.peers

theorem keeps_parityFreed (s : State) : Keeps Tile.waits s s.parityFreed :=
  .foldl (fun _ t => Keeps.trans keeps_modTile (.foldl (fun b l => keeps_discard b t l) _ _)) _ s

theorem keepsExecs_parityFreed (s : State) : KeepsExecs s s.parityFreed :=
  .foldl (fun a t => (keepsExecs_modTile a t _).trans
    (.foldl (fun b l => (keepsExecs_jappend b t (.discard l)).trans (keepsExecs_replaceEntry _ t l {})) _ _)) _ s

theorem onlyStore_groupForgotten (s : State) (peers : List Peer) : OnlyStore (s.modCar (fun _ => {})) (s.groupForgotten peers) :=
  (OnlyStore.foldl (fun _ _ => onlyStore_psPut ..) _ _).trans ((onlyStore_psPut ..).trans (onlyStore_psRequest ..))

theorem onlySent_leaveSent (s : State) : OnlySent s s.leaveSent := .foldl (fun _ _ => onlySent_carSend ..) _ s

theorem State.left_waits (s : State) : Keeps Tile.waits s s.left := by
  have hsent : Keeps Tile.waits s s.leaveSent := by
    rw [onlySent_leaveSent s]
    exact keeps_of_tiles rfl rfl rfl rfl rfl
  have hstore : Keeps Tile.waits s.leaveSent.parityFreed s.left := by
    rw [State.left, onlyStore_groupForgotten]
    exact keeps_of_tiles rfl rfl rfl rfl rfl
  exact (hsent.trans (keeps_parityFreed _)).trans hstore

theorem State.left_execs (s : State) : KeepsExecs s s.left := by
  have hsent : KeepsExecs s s.leaveSent := by
    rw [onlySent_leaveSent s]
    exact keepsExecs_of_eq rfl rfl
  have hstore : KeepsExecs s.leaveSent.parityFreed s.left := by
    rw [State.left, onlyStore_groupForgotten]
    exact keepsExecs_of_eq rfl rfl
  exact (hsent.trans (keepsExecs_parityFreed _)).trans hstore

theorem State.left_car (s : State) : s.left.car = {} := by rw [State.left, onlyStore_groupForgotten]; rfl

theorem State.left_group (s : State) : s.left.psGet Param.CAR_GROUP = carGroupBytes {} := State.psGet_psPutNow _ (by decide) _

/-- R292: where no commit of a tile runs, none waits for a peer. -/
theorem State.foldl_caravanProgressAll {s : State} {l : List Nat} (h : ∀ t ∈ l, (s.tile t).xl.commits = []) :
    l.foldl (fun a t => a.caravanProgressAll t) s = s := by
  induction l with
  | nil => rfl
  | cons t l ih =>
    have hnone : s.caravanProgressAll t = s := by rw [State.caravanProgressAll, h t (.head _)]; rfl
    rw [List.foldl_cons, hnone]
    exact ih fun u hu => h u (.tail _ hu)

/-- R309: what records that the package left, before what waits is settled. -/
def State.leaveEnded (s : State) (pc : PortCmd) : State :=
  let freed := s.car.blocks * (if s.car.rs then 2 else 1) / s.car.n * 65536
  ((s.left.event Gb.CAR_LEAVE 15 [s.car.group, freed]).judgePeers.judgeSync).ok pc [(32, freed)]

theorem State.caravanLeaveEff_member {s : State} {pc : PortCmd} (ms : Nat) (ha : s.accepts pc 0x0601 true = true) (hm : s.md.mode = .service)
    (hg : s.car.inGroup = true) (hr : s.car.role = 0) (hw : s.car.work = 0) (hreads : s.car.reads = [])
    (hcommits : ∀ t ∈ s.aliveTiles, (s.tile t).xl.commits = []) :
    s.caravanLeaveEff pc true ms = ((s.ensureExec pc 0x0601).leaveEnded pc).settle := by
  rw [State.caravanLeaveEff, ModeState.inService_of_service hm, State.porterRun_accepted _ _ _ _ _ ha]
  set a := s.ensureExec pc 0x0601 with hadef
  have hcar : a.car = s.car := State.ensureExec_car ..
  have hsent : a.leaveSent.car.reads = [] := by rw [onlySent_leaveSent a]; exact (congrArg Caravan.reads hcar).trans hreads
  have halive : a.left.aliveTiles = s.aliveTiles :=
    (State.aliveTiles_congr a.left_waits.pop a.left_waits.failed).trans (s.ensureExec_reads pc 0x0601 State.aliveTiles fun _ => rfl)
  have hprogress : a.left.aliveTiles.foldl (fun b t => b.caravanProgressAll t) a.left = a.left := by
    refine State.foldl_caravanProgressAll fun t ht => ?_
    rw [halive] at ht
    have hkept : (a.left.tile t).xl.commits = (a.tile t).xl.commits := congrArg TileWaits.commits (a.left_waits.tile t)
    rw [hkept, hadef, State.ensureExec_tile]
    exact hcommits t ht
  rw [← hcar] at hg hr hw
  have hguard : ¬ (!a.car.inGroup || (a.car.role != 1 && !true)) = true := by simp [hg]
  refine (if_neg hguard).trans ?_
  extract_lets c s0 s1 r freed sr s2 s3 s4 s5
  have hs1 : s1 = a.leaveSent := by simp only [s1, s0, c, hr, hw]; rfl
  have hsr : sr = a.leaveSent := by simp only [sr, hs1, hsent, List.foldl_nil]
  have hs4 : s4 = a.left := by simp only [s4, s3, s2, hsr]; rfl
  have hs5 : s5 = a.left := by simp only [s5, hs4, hprogress]
  have hfreed : freed = a.car.blocks * (if a.car.rs then 2 else 1) / a.car.n * 65536 := if_neg (by simp [c, hr])
  rw [hs5, hfreed]
  rfl

theorem State.caravanLeaveEff_refused {s : State} {pc : PortCmd} (ms : Nat) {dissolve : Bool} (ha : s.accepts pc 0x0601 true = true)
    (hm : s.md.mode = .service) (h : s.car.inGroup = false ∨ (s.car.role ≠ 1 ∧ dissolve = false)) :
    s.caravanLeaveEff pc dissolve ms = (s.ensureExec pc 0x0601).fail pc .invalidField 0 := by
  rw [State.caravanLeaveEff, ModeState.inService_of_service hm, State.porterRun_accepted _ _ _ _ _ ha]
  refine if_pos ?_
  rw [State.ensureExec_car]
  rcases h with h | ⟨hr, hd⟩
  · simp [h]
  · simp [hr, hd]

/-- R309: what records the leaving is judged and answered, with the group forgotten. -/
theorem State.leaveEnded_judges (s : State) (pc : PortCmd) : ∃ b : State, Judges s.left b ∧ Keeps Tile.waits s.left b ∧
    s.leaveEnded pc = b.ok pc [(32, s.car.blocks * (if s.car.rs then 2 else 1) / s.car.n * 65536)] :=
  ⟨_, ((judges_event ..).trans (judges_judgePeers _)).trans (judges_judgeSync _),
    ((keeps_event ..).trans (keeps_setCause ..)).trans (keeps_setCause ..), rfl⟩

theorem keeps_finish (s : State) (pc : PortCmd) (r : CmdResult) : Keeps Tile.waits s (s.finish pc r) := keeps_of_tiles rfl rfl rfl rfl rfl

/-- What a quiet package has none of: work, reads of peers, and commits of a tile in service. -/
theorem State.noneOf_carQuiet {s : State} (h : s.carQuiet = true) :
    s.noWork = true ∧ s.car.reads = [] ∧ ∀ t ∈ s.aliveTiles, (s.tile t).xl.commits = [] := by
  simp only [State.carQuiet, Bool.and_eq_true, List.all_eq_true, List.isEmpty_iff] at h
  obtain ⟨⟨⟨⟨hwork, hreads⟩, -⟩, -⟩, htiles⟩ := h
  exact ⟨hwork, hreads, fun t ht => (htiles t ht).1⟩

theorem completes_leave {s : State} {pc : PortCmd} (ms : Nat) (ha : s.accepts pc 0x0601 true = true) (hm : s.md.mode = .service)
    (hg : s.car.inGroup = true) (hr : s.car.role = 0) (hw : s.car.work = 0) (hq : s.carQuiet = true) :
    Completes (.caravanLeave pc true ms) s (fun t => t.car = {} ∧
      t.resultOf pc = some (succeeded [(32, s.car.blocks * (if s.car.rs then 2 else 1) / s.car.n * 65536)]) ∧
      t.psGet Param.CAR_GROUP = carGroupBytes {}) := by
  obtain ⟨hwork, hreads, hcommits⟩ := State.noneOf_carQuiet hq
  have heff := State.caravanLeaveEff_member ms ha hm hg hr hw hreads hcommits
  have hstart : Keeps Tile.waits s (s.ensureExec pc 0x0601) := by
    rw [State.ensureExec_frame]
    exact keeps_of_tiles rfl rfl rfl rfl rfl
  have hcar : (s.ensureExec pc 0x0601).car = s.car := State.ensureExec_car ..
  have hpop : (s.ensureExec pc 0x0601).pop = s.pop := State.ensureExec_pop ..
  set a := s.ensureExec pc 0x0601
  obtain ⟨b, hj, hk, hended⟩ := a.leaveEnded_judges pc
  rw [hended, hcar] at heff
  set r := succeeded [(32, s.car.blocks * (if s.car.rs then 2 else 1) / s.car.n * 65536)]
  have hstill : (b.finish pc r).Still :=
    (State.still_of_noWork hwork).keep (((hstart.trans a.left_waits).trans hk).trans (keeps_finish ..))
  refine completes_ran (exec_caravanLeave ..) (heff.trans hstill.settle_frame) ⟨?_, ?_, ?_⟩
  · exact hj.car.trans a.left_car
  · exact State.resultOf_finish_of_execs ha (a.left_execs.execs.trans hj.execs) r
  · refine (State.psGet_congr (s := a.left) ?_ ?_ _).trans a.left_group
    · exact hj.ps
    · exact (a.left_execs.pop.trans hpop).symm

end Sys2Proof.Machine
end

section
/-! Resync, rebuild and the Caravan commands, settled (09_caravan.md R302 to R309). -/

namespace Sys2Proof.Machine

open Sys2Proof

theorem only_car (s t : State) (h : t = { s with car := t.car }) : Only [.car] s (s.ran t) := by
  rw [h]
  exact ⟨rfl, rfl, by simp [Part.all, Part.same, State.ran]⟩

theorem only_porter_car {s t : State} (h : t = { s with porter := t.porter, car := t.car }) : Only [.porter, .car] s (s.ran t) := by
  rw [h]
  exact ⟨rfl, rfl, by simp [Part.all, Part.same, State.ran]⟩

/-- Settles O58: each command by the state that it leaves; requests to peers change what is kept of each peer and what goes out alone, the judgement
of the causes leaves Caravan's state, and discarding the parity leaves nothing that waits. -/
theorem caravanWork : Obligations.CaravanWork := by
  unfold Obligations.CaravanWork
  refine ⟨?idle, ?start, ?done, ?first, ?rests, ?ended, ?held, ?lost, ?early, ?join, ?busy, ?badN, ?leave, ?stays, ?status, ?stop, ?refused, ?taken, ?queued⟩
  case idle =>
    intro s ms h
    exact completes_ran (exec_caravanResyncStripe ..) (State.caravanResyncStripeEff_idle ms h) rfl
  case start =>
    intro s ms g l hg ho hr hs hl hw hwork hq
    exact completes_resyncStart ms ⟨hg, ho, hr, hs, hl, hw⟩ hwork hq
  case done =>
    intro s ms hg ho hr hs hl hw hwork hq
    exact completes_ran (exec_caravanResyncStripe ..) (State.caravanResyncStripeEff_done ms ⟨hg, ho, hr, hs, hl, hw⟩ hwork hq) (s.carWorkDone_facts ms)
  case first =>
    intro s ms g row h l hg ho hr hs hl hw hwork hq hn hrow hh ha hp hslots hcommits
    exact completes_resyncFirst ms ⟨hg, ho, hr, hs, hl, hw⟩ hwork hq hn hrow hh ha hp hslots hcommits
  case rests =>
    intro s ms ns h
    exact completes_ran (exec_caravanRebuildStep ..) (State.caravanRebuildStepEff_idle ms ns h) rfl
  case ended =>
    intro s ms ns hr hwork ho hst hw hl hrow
    exact completes_ran (exec_caravanRebuildStep ..) (State.caravanRebuildStepEff_done ⟨hr, hwork, ho, hst, hw, hl⟩ ms ns hrow) (s.rebuildDone_facts ms)
  case held =>
    intro s ms ns h l hr hrate hwork ho hst hw hl hrow hdata hhome hlost
    exact completes_ran (exec_caravanRebuildStep ..)
      (State.caravanRebuildStepEff_held ⟨hr, hwork, ho, hst, hw, hl⟩ ms hrate hrow hdata hhome hlost) ⟨rfl, only_car _ _ rfl⟩
  case lost =>
    intro s ms ns h l asked hr hrate hwork ho hst hw hl hrow hdata hhome ha hlost hmap hcommit hlock hreads hask
    obtain ⟨a, r, hsent, hread, hasks⟩ := s.carReadStart_asks (.repair h l) s.car.resyncNext allLines asked
    refine completes_ran (exec_caravanRebuildStep ..)
      ((State.caravanRebuildStepEff_lost ⟨hr, hwork, ho, hst, hw, hl⟩ ms hrate hrow hdata hhome ha hlost hmap hcommit hlock hreads hask).trans hasks) ?_
    rw [hsent, hreads]
    exact ⟨congrArg (fun x => [x]) hread, rfl, only_car_outbox rfl⟩
  case early =>
    intro s ms ns _ _ hrow hrate
    exact completes_ran (exec_caravanRebuildStep ..) (State.caravanRebuildStepEff_early ms hrow hrate) rfl
  case join =>
    intro s pc group n member base blocks heads handle buf code table ha _ hm hg hgroup hn3 hn18 hmember hpkg htable hempty hle hmod hh0 hh2 hupper hpop
      hsecret hoffered hbuf hpeers
    obtain rfl : heads = 1 := by omega
    obtain ⟨t, ht, hcar, hres, honly⟩ := completes_join (code := code) ha hm hg
      ⟨hgroup, ⟨hn3, hn18⟩, hmember, hpkg, htable, hempty, ⟨hle, hmod⟩, hh0, State.headsFit_one hpop hupper, hsecret, hoffered, hbuf⟩ hpeers
    exact ⟨t, ht, by rw [hcar]; rfl, by rw [hcar]; rfl, by rw [hcar]; rfl, by rw [hcar]; rfl, hres, honly⟩
  case busy =>
    intro s pc group n member base blocks heads handle buf code spare table ha _ hm hg
    exact completes_finish (exec_caravanJoin ..) ha (State.caravanJoinEff_busy ha hm hg)
  case badN =>
    intro s pc group n member base blocks heads handle buf code spare table ha _ hm hg hgroup hn
    exact completes_finish (exec_caravanJoin ..) ha (State.caravanJoinEff_badN ha hm hg hgroup hn)
  case leave =>
    intro s pc ms ha _ hm hg hr hw hq _
    exact completes_leave ms ha hm hg hr hw hq
  case stays =>
    intro s pc ms dissolve ha _ hm h
    exact completes_finish (exec_caravanLeave ..) ha (State.caravanLeaveEff_refused ms ha hm h)
  case status =>
    intro s pc ha _
    exact completes_finish (exec_caravanStatus ..) ha (State.caravanStatusEff_ok ha)
  case stop =>
    intro s pc target ms ha ho hm hg hw
    refine completes_ran (exec_caravanRebuild ..) (State.caravanRebuildEff_stop ms ha ho hm hg target hw) ⟨?_, ?_, ?_⟩
    · exact congrArg (fun c : Caravan => { c with stopped := true }) (State.ensureExec_car ..)
    · exact State.resultOf_finish_of_porter ha rfl _
    · exact only_porter_car (by rw [State.ensureExec_frame]; rfl)
  case refused =>
    intro s pc kind target ms ha ho hm h
    exact completes_finish (exec_caravanRebuild ..) ha (State.caravanRebuildEff_refused ms ha ho hm target h)
  case taken =>
    intro s pc target ms ha ho hm hg hr h
    exact completes_finish (exec_caravanRebuild ..) ha (State.caravanRebuildEff_busy ms ha ho hm hg hr target h)
  case queued =>
    intro s pc target ms g ha ho hm hg hr hw hwin hlt hrows
    exact completes_resyncQueued ms target ha ho hm hg hr hw hwin hlt hrows

end Sys2Proof.Machine
end
